-- ==== Sys2Proof/Word.lean ====
section
/-! DEFINITION. The word types of the device (R5, R70, R71, R86) and their plainest arithmetic. -/
namespace Sys2Proof

/-- A byte of Hamper memory or of a frame. -/
abbrev Byte := BitVec 8

/-- A data word of a Dziul core (R70). -/
abbrev W24 := BitVec 24

/-- A register (R5), a CSM or CPS word (R80) and a Hamper word (R193). -/
abbrev W32 := BitVec 32

/-- An instruction (R86, R108). -/
abbrev W48 := BitVec 48

/-- An accumulator (R71). -/
abbrev W56 := BitVec 56

/-- A CM word address as PC, LS and LE hold it (R73). -/
abbrev W15 := BitVec 15

/-- A map from numbers to values as plain data: keys strictly rising, and a key that is not listed stands for the
default value of the place where the map is used. -/
abbrev SMap (α : Type) := List (Nat × α)

end Sys2Proof
end

