-- ==== Sys2Proof/Syntax.lean ====
section
/-! DEFINITION. The commands that the block takes: one constructor per row of the opcode table, with its operands. -/
namespace Sys2Proof

/-- What a read of Hamper memory or of its cache may meet (R181, R183), by slot-0 byte address or cache way. -/
inductive MemErr where
  | corrected (addr : Nat)
  | uncorrectable (addr : Nat)
  | cacheParity (way : Fin 16)
deriving DecidableEq, Repr

/-- A word that scrubbing finds in error (R457): in the stack, in the CPS or ROM copy of a cluster by overlay-source address, in a CSM
by word, each with its row, or in the Thermos SRAM. -/
inductive ScrubErr where
  | hbm (e : MemErr)
  | cps (c : Fin 16) (addr : BitVec 24) (row : BitVec 18)
  | csm (c : Fin 16) (word : BitVec 20) (row : BitVec 18)
  | thermos
deriving DecidableEq, Repr

/-- A record of a MIRROR frame by its SUB (R423). -/
inductive MirrorRec where
  /-- the header's FRAME, KIND and STAGE_NS, the context header words 0-3 and the compressed checkpoint (R422) -/
  | checkpoint (chan frame : Nat) (full : Bool) (stage : Nat) (hdr : List Nat) (data : List (BitVec 8))
  /-- template `t` of media plane A or B -/
  | template (planeB : Bool) (t : Nat) (words : List Nat)
  /-- SRTP context `i`, its key and salt included -/
  | srtp (i : Nat) (words : List Nat)
  /-- a flow-table entry of a channel, or its removal -/
  | flow (add : Bool) (words : List Nat)
  /-- entry `i` of the TDM slot table -/
  | slot (i word : Nat)
  | ingress (time port : Nat) (bytes : List (BitVec 8))
  /-- channels and RTP sequence numbers -/
  | sent (pairs : List (Nat × Nat))
  | opened (chan granules cls : Nat)
  | closed (chan : Nat)
  | reserved (sub : Nat)
deriving DecidableEq, Repr

/-- What a MIGRATE frame carries (R434): the request to take a channel in as STATE 4, the answer, a full checkpoint as context
bytes, the note that it was applied, forwarded ingress, and the withdrawal. -/
inductive MigrateRec where
  | request (src dst : Nat) (frame mirror stagger units granules : Nat)
  | answer (dst status : Nat)
  | checkpoint (dst frame stage : Nat) (final : Bool) (bytes : List (BitVec 8)) (notes : List Nat)
  | applied (dst frame : Nat)
  | ingress (dst time port : Nat) (bytes : List (BitVec 8))
  | cancel (dst : Nat)
deriving DecidableEq, Repr

/-- The payload of a fabric frame by its TYPE (R408, R414, R417). -/
inductive FabBody where
  | heartbeat (serial time mode role : Nat) (slots : List Nat)
  | mirror (recs : List MirrorRec)
  | readReq (addr len tag : Nat)
  | readResp (tag status : Nat) (data : List (BitVec 8))
  | writeReq (addr tag : Nat) (data : List (BitVec 8))
  | writeResp (tag status : Nat)
  | migrate (r : MigrateRec)
  | credit
  | fence (resp : Bool)
deriving DecidableEq, Repr

/-- The header of a fabric frame (R408). -/
structure FabHdr where
  src : Nat
  dst : Nat
  seq : Nat
  ack : Nat
  epoch : Nat
  credit : Nat
  txc : Nat
  retx : Bool
deriving DecidableEq, Repr

/-- A fabric frame as it reaches the fabric logic: what step 1 of R410 finds, the header, whether the tag verifies, and the
payload. -/
structure FabIn where
  wellFormed : Bool
  hdr : FabHdr
  tagOk : Bool
  body : FabBody
deriving DecidableEq, Repr

/-- A command of a ring (R385): the ring, bits [31:8] of word 0, TAG, A0-A13, the bytes of its host buffer, and how their read
failed (HI_PCIE_ERR.KIND; 0 when it did not). -/
structure HCmd where
  ring : Fin 64
  hi : BitVec 24
  tag : BitVec 32
  args : List (BitVec 32)
  buf : List (BitVec 8)
  fail : Fin 5
deriving DecidableEq, Repr

/-- The commands of the block: one constructor per row of spec/opcode_table.json. -/
inductive Instr where
  /-- NOP (R112). `k`: the physical core; `w`: the word, of opcode 0 or of a reserved opcode. -/
  | nop (k : Fin 144) (w : BitVec 48)
  /-- B (R125). `k`: the physical core; `f`: bits [39:0] of the instruction. -/
  | b (k : Fin 144) (f : BitVec 40)
  /-- CALL (R125). `k`: the physical core; `f`: bits [39:0] of the instruction. -/
  | call (k : Fin 144) (f : BitVec 40)
  /-- BRP (R125). `k`: the physical core; `f`: bits [39:0] of the instruction. -/
  | brp (k : Fin 144) (f : BitVec 40)
  /-- RTS (R125). `k`: the physical core; `f`: bits [39:0] of the instruction. -/
  | rts (k : Fin 144) (f : BitVec 40)
  /-- RTI (R142). `k`: the physical core; `f`: bits [39:0] of the instruction. -/
  | rti (k : Fin 144) (f : BitVec 40)
  /-- DO (R127). `k`: the physical core; `f`: bits [39:0] of the instruction. -/
  | doImm (k : Fin 144) (f : BitVec 40)
  /-- DOR (R127). `k`: the physical core; `f`: bits [39:0] of the instruction. -/
  | dor (k : Fin 144) (f : BitVec 40)
  /-- WAIT_WORK (R131). `k`: the physical core; `f`: bits [39:0] of the instruction. -/
  | waitWork (k : Fin 144) (f : BitVec 40)
  /-- DISPATCH (R159). `c`: the cluster. -/
  | dispatch (c : Fin 16)
  /-- COMMIT (R132). `k`: the physical core; `f`: bits [39:0] of the instruction. -/
  | commit (k : Fin 144) (f : BitVec 40)
  /-- YIELD (R135). `k`: the physical core; `f`: bits [39:0] of the instruction. -/
  | yield (k : Fin 144) (f : BitVec 40)
  /-- ENQ_TOKEN (R155). `k`: the physical core; `f`: bits [39:0] of the instruction. -/
  | enqToken (k : Fin 144) (f : BitVec 40)
  /-- ENQ_ITEM (R170). `k`: the physical core; `f`: bits [39:0] of the instruction. -/
  | enqItem (k : Fin 144) (f : BitVec 40)
  /-- ENQ_WORK (R155). `k`: the physical core; `f`: bits [39:0] of the instruction. -/
  | enqWork (k : Fin 144) (f : BitVec 40)
  /-- OVL (R136). `k`: the physical core; `f`: bits [39:0] of the instruction. -/
  | ovl (k : Fin 144) (f : BitVec 40)
  /-- OVL_COPY_END (R103). `k`: the physical core. -/
  | ovlCopyEnd (k : Fin 144)
  /-- SETT (R137). `k`: the physical core; `f`: bits [39:0] of the instruction. -/
  | sett (k : Fin 144) (f : BitVec 40)
  /-- GETT (R137). `k`: the physical core; `f`: bits [39:0] of the instruction. -/
  | gett (k : Fin 144) (f : BitVec 40)
  /-- BKPT (R138). `k`: the physical core; `f`: bits [39:0] of the instruction. -/
  | bkpt (k : Fin 144) (f : BitVec 40)
  /-- MPYQ (R114). `k`: the physical core; `f`: bits [39:0] of the instruction. -/
  | mpyq (k : Fin 144) (f : BitVec 40)
  /-- MACQ (R114). `k`: the physical core; `f`: bits [39:0] of the instruction. -/
  | macq (k : Fin 144) (f : BitVec 40)
  /-- MSUQ (R114). `k`: the physical core; `f`: bits [39:0] of the instruction. -/
  | msuq (k : Fin 144) (f : BitVec 40)
  /-- FTAP (R116). `k`: the physical core; `f`: bits [39:0] of the instruction. -/
  | ftap (k : Fin 144) (f : BitVec 40)
  /-- FTAPX (R116). `k`: the physical core; `f`: bits [39:0] of the instruction. -/
  | ftapx (k : Fin 144) (f : BitVec 40)
  /-- MPY (R118). `k`: the physical core; `f`: bits [39:0] of the instruction. -/
  | mpy (k : Fin 144) (f : BitVec 40)
  /-- MAC (R118). `k`: the physical core; `f`: bits [39:0] of the instruction. -/
  | mac (k : Fin 144) (f : BitVec 40)
  /-- MSU (R118). `k`: the physical core; `f`: bits [39:0] of the instruction. -/
  | msu (k : Fin 144) (f : BitVec 40)
  /-- ADDA (R118). `k`: the physical core; `f`: bits [39:0] of the instruction. -/
  | adda (k : Fin 144) (f : BitVec 40)
  /-- SUBA (R118). `k`: the physical core; `f`: bits [39:0] of the instruction. -/
  | suba (k : Fin 144) (f : BitVec 40)
  /-- NEGA (R118). `k`: the physical core; `f`: bits [39:0] of the instruction. -/
  | nega (k : Fin 144) (f : BitVec 40)
  /-- ABSA (R118). `k`: the physical core; `f`: bits [39:0] of the instruction. -/
  | absa (k : Fin 144) (f : BitVec 40)
  /-- CLRA (R112). `k`: the physical core; `f`: bits [39:0] of the instruction. -/
  | clra (k : Fin 144) (f : BitVec 40)
  /-- CLRQ (R112). `k`: the physical core; `f`: bits [39:0] of the instruction. -/
  | clrq (k : Fin 144) (f : BitVec 40)
  /-- ASHA (R118). `k`: the physical core; `f`: bits [39:0] of the instruction. -/
  | asha (k : Fin 144) (f : BitVec 40)
  /-- CMPA (R118). `k`: the physical core; `f`: bits [39:0] of the instruction. -/
  | cmpa (k : Fin 144) (f : BitVec 40)
  /-- EXP (R118). `k`: the physical core; `f`: bits [39:0] of the instruction. -/
  | expOp (k : Fin 144) (f : BitVec 40)
  /-- NORM (R118). `k`: the physical core; `f`: bits [39:0] of the instruction. -/
  | norm (k : Fin 144) (f : BitVec 40)
  /-- ADD (R112). `k`: the physical core; `f`: bits [39:0] of the instruction. -/
  | add (k : Fin 144) (f : BitVec 40)
  /-- SUB (R112). `k`: the physical core; `f`: bits [39:0] of the instruction. -/
  | sub (k : Fin 144) (f : BitVec 40)
  /-- AND (R112). `k`: the physical core; `f`: bits [39:0] of the instruction. -/
  | andOp (k : Fin 144) (f : BitVec 40)
  /-- OR (R112). `k`: the physical core; `f`: bits [39:0] of the instruction. -/
  | orOp (k : Fin 144) (f : BitVec 40)
  /-- XOR (R112). `k`: the physical core; `f`: bits [39:0] of the instruction. -/
  | xorOp (k : Fin 144) (f : BitVec 40)
  /-- LSL (R112). `k`: the physical core; `f`: bits [39:0] of the instruction. -/
  | lsl (k : Fin 144) (f : BitVec 40)
  /-- LSR (R112). `k`: the physical core; `f`: bits [39:0] of the instruction. -/
  | lsr (k : Fin 144) (f : BitVec 40)
  /-- ASR (R112). `k`: the physical core; `f`: bits [39:0] of the instruction. -/
  | asr (k : Fin 144) (f : BitVec 40)
  /-- CMP (R112). `k`: the physical core; `f`: bits [39:0] of the instruction. -/
  | cmp (k : Fin 144) (f : BitVec 40)
  /-- ADDI (R112). `k`: the physical core; `f`: bits [39:0] of the instruction. -/
  | addi (k : Fin 144) (f : BitVec 40)
  /-- MOVI (R119). `k`: the physical core; `f`: bits [39:0] of the instruction. -/
  | movi (k : Fin 144) (f : BitVec 40)
  /-- MOV (R119). `k`: the physical core; `f`: bits [39:0] of the instruction. -/
  | mov (k : Fin 144) (f : BitVec 40)
  /-- LD (R120). `k`: the physical core; `f`: bits [39:0] of the instruction. -/
  | ld (k : Fin 144) (f : BitVec 40)
  /-- ST (R120). `k`: the physical core; `f`: bits [39:0] of the instruction. -/
  | st (k : Fin 144) (f : BitVec 40)
  /-- LDA (R120). `k`: the physical core; `f`: bits [39:0] of the instruction. -/
  | lda (k : Fin 144) (f : BitVec 40)
  /-- STA (R120). `k`: the physical core; `f`: bits [39:0] of the instruction. -/
  | sta (k : Fin 144) (f : BitVec 40)
  /-- INTERRUPT_ENTRY (R141). `k`: the physical core. -/
  | interruptEntry (k : Fin 144)
  /-- DEBUG_HALT_REQUEST (R138). `k`: the physical core. -/
  | debugHaltRequest (k : Fin 144)
  /-- LOCAL_TIMER_EXPIRY (R137). `k`: the physical core. -/
  | localTimerExpiry (k : Fin 144)
  /-- CORE_FAULT (R98). `k`: the core; `code`: the LAST_FAULT code; `lane`: of a residue fault; `addr`: the X-space or overlay-source address of the word; `row`: its row, with the bank above bit 13. -/
  | coreFault (k : Fin 144) (code : Fin 16) (lane : Fin 4) (addr : BitVec 24) (row : BitVec 18)
  /-- IDLE_FAULT (R145). `k`: the core; `code`: the LAST_FAULT code; `lane`: of a residue fault; `addr`: the X-space or overlay-source address of the word; `row`: its row, with the bank above bit 13. -/
  | idleFault (k : Fin 144) (code : Fin 16) (lane : Fin 4) (addr : BitVec 24) (row : BitVec 18)
  /-- CORE_HANG (R444). `k`: the physical core. -/
  | coreHang (k : Fin 144)
  /-- STAGING_COMPLETE (R197). `c`: the cluster; `n`: which of the entries that wait for staging, oldest first; `errs`: the errors that the reads met. -/
  | stagingComplete (c : Fin 16) (n : Nat) (errs : List MemErr)
  /-- QUEUE_REBUILD (R177). `c`: the cluster; `both`: both copies of a pointer or an entry failed, not one copy. -/
  | queueRebuild (c : Fin 16) (both : Bool)
  /-- QUEUE_REBUILD_END (R177). -/
  | queueRebuildEnd
  /-- FLOW_STALL (R172). `f`: the flow. -/
  | flowStall (f : BitVec 14)
  /-- FRAME_TICK (R298). -/
  | frameTick
  /-- MEDIA_TOKEN_TIMEOUT (R149). `n`: the channel. -/
  | mediaTokenTimeout (n : BitVec 13)
  /-- COMPASS_EPOCH (R176). `meas`: by group, the ratio measured and the offset from the output grid in 1/64 of an input sample. -/
  | compassEpoch (meas : List (Nat × Nat))
  /-- SENSOR_WINDOW (R53). `counts`: by cluster, the counts of the rings beside cores 0-8 and of the shared logic. -/
  | sensorWindow (counts : List (List Nat))
  /-- FLOOR_RESTORED (R61). -/
  | floorRestored
  /-- SETTLE_EXPIRY (R57). -/
  | settleExpiry
  /-- AVS_TRANSACTION_END (R62). `ok`: acknowledged; `mv`, `qa`: what a read returns, in mV and 0.25 A. -/
  | avsTransactionEnd (ok : Bool) (mv : BitVec 10) (qa : BitVec 10)
  /-- AVS_RESPONSE_TIMEOUT (R62). -/
  | avsResponseTimeout
  /-- AVS_FAULT_POLL (R63). -/
  | avsFaultPoll
  /-- REF_LOST (R54). -/
  | refLost
  /-- REF_RETURN (R54). -/
  | refReturn
  /-- REF_LOST_CLEAR (R54). -/
  | refLostClear
  /-- AGE_MEASUREMENT (R64). `idx`: the age index of each cluster in permille. -/
  | ageMeasurement (idx : List Nat)
  /-- XING (R51). `i`: the interface. -/
  | xing (i : BitVec 8)
  /-- PAGE_MOVE_LINE_COPY (R187). `page`: the logical page; `errs`: the errors that the read met. -/
  | pageMoveLineCopy (page : BitVec 13) (errs : List MemErr)
  /-- MIG_DONE (R187). `page`: the logical page. -/
  | migDone (page : BitVec 13)
  /-- REMOTE_RESPONSE (R190). `l`: the link; `tag`: the request; `status`: what the peer answers; `write`: a WRITE; `data`: of a READ. -/
  | remoteResponse (l : Fin 64) (tag : BitVec 32) (status : Fin 16) (write : Bool) (data : List (BitVec 8))
  /-- REMOTE_TIMEOUT (R190). -/
  | remoteTimeout
  /-- FRAME_RECEIVED (R244). `p`: the packet port; `frame`: its bytes from the destination address to the FCS; `pcs`: a PCS error code lies inside it; `overflow`: the crossing FIFO overflowed; `tagOk`: its SRTP tag verifies. -/
  | frameReceived (p : Fin 4) (frame : List (BitVec 8)) (pcs : Bool) (overflow : Bool) (tagOk : Bool)
  /-- FRAME_TRANSMIT_START (R253). `p`: the packet port. -/
  | frameTransmitStart (p : Fin 4)
  /-- TX_AGE_DISCARD (R253). `p`: the packet port; `pri`: the priority. -/
  | txAgeDiscard (p : Fin 4) (pri : Fin 8)
  /-- FRAME_TRANSMIT_END (R254). `p`: the packet port; `aborted`: the crossing FIFO underran. -/
  | frameTransmitEnd (p : Fin 4) (aborted : Bool)
  /-- LINK_UP (R237). `p`: the packet port. -/
  | linkUp (p : Fin 4)
  /-- LINK_DOWN (R237). `p`: the packet port. -/
  | linkDown (p : Fin 4)
  /-- AN_COMPLETE (R236). `p`: the packet port; `abil`, `fec`: the partner's abilities and FEC bits. -/
  | anComplete (p : Fin 4) (abil : BitVec 5) (fec : BitVec 4)
  /-- AN_RETRY (R236). `p`: the packet port. -/
  | anRetry (p : Fin 4)
  /-- PAUSE_TIME_EXPIRY (R261). `p`: the packet port; `pri`: the priority. -/
  | pauseTimeExpiry (p : Fin 4) (pri : Fin 8)
  /-- PAUSE_BREAK (R262). `p`: the packet port; `pri`: the priority. -/
  | pauseBreak (p : Fin 4) (pri : Fin 8)
  /-- HOLDOFF_END (R262). `p`: the packet port. -/
  | holdoffEnd (p : Fin 4)
  /-- PORT_RESET_END (R267). `p`: the packet port. -/
  | portResetEnd (p : Fin 4)
  /-- MG_FRAME_RECEIVED (R274). `frame`: its bytes from the destination address to the FCS; `rxErr`: MG_RX_ER within it; `own`: the port's own transmission; `tagOk`: the tag of a message verifies. -/
  | mgFrameReceived (frame : List (BitVec 8)) (rxErr : Bool) (own : Bool) (tagOk : Bool)
  /-- SYNC_MESSAGE_ACT (R278). -/
  | syncMessageAct
  /-- BLANK_INTERVAL_START (R278). -/
  | blankIntervalStart
  /-- BLANK_INTERVAL_END (R278). -/
  | blankIntervalEnd
  /-- MG_TRANSMIT_ATTEMPT (R271). -/
  | mgTransmitAttempt
  /-- MG_COLLISION (R271). `sent`: the bit times sent, preamble included. -/
  | mgCollision (sent : Nat)
  /-- BACKOFF_END (R271). -/
  | backoffEnd
  /-- MG_TRANSMIT_END (R272). -/
  | mgTransmitEnd
  /-- MG_TX_TIMEOUT (R271). `n`: the place of the frame in the queue. -/
  | mgTxTimeout (n : Fin 16)
  /-- JABBER (R275). -/
  | jabber
  /-- JABBER_CLEAR (R275). -/
  | jabberClear
  /-- OWN_JABBER (R275). -/
  | ownJabber
  /-- PLCA_BEACON_LOSS (R273). -/
  | plcaBeaconLoss
  /-- LISTEN_END (R280). -/
  | listenEnd
  /-- WAKE_PIN (R281). -/
  | wakePin
  /-- TIME_STEP (R288). -/
  | timeStep
  /-- CP_ADJ_WRITE (R287). `v`: the value written. -/
  | cpAdjWrite (v : BitVec 32)
  /-- SLEW_ABSORBED (R287). -/
  | slewAbsorbed
  /-- PPS_IN_EDGE (R289). -/
  | ppsInEdge
  /-- SRC_LOST (R291). -/
  | srcLost
  /-- PPS_OUT_RISE (R295). -/
  | ppsOutRise
  /-- PPS_OUT_FALL (R295). -/
  | ppsOutFall
  /-- CAPTURE_EDGE (R297). `i`: the capture unit. -/
  | captureEdge (i : Fin 6)
  /-- CAP_SEC_READ (R297). `i`: the capture unit. -/
  | capSecRead (i : Fin 6)
  /-- CP_NSEC_READ (R285). -/
  | cpNsecRead
  /-- HIGHWAY_TICK (R302). `data`: by highway, the frame that a master received; `col`: highway and slot of each collision on a master. -/
  | highwayTick (data : List (List (BitVec 8))) (col : List (Fin 16 × Fin 512))
  /-- HIGHWAY_FRAME_RECEIVED (R303). `h`: the highway; `data`: its frame; `fs`: the bit-time of the frame sync; `lost`: a realignment loses or doubles a frame; `col`: slots with a collision. -/
  | highwayFrameReceived (h : Fin 16) (data : List (BitVec 8)) (fs : BitVec 12) (lost : Bool) (col : List (Fin 512))
  /-- CLK_LOST (R304). `h`: the highway. -/
  | clkLost (h : Fin 16)
  /-- TD_SLOT_DATA_WRITE (R301). `v`: the value written. -/
  | tdSlotDataWrite (v : BitVec 32)
  /-- BS_CLOCK_LOST (R313). `k`: the clock pair. -/
  | bsClockLost (k : Fin 8)
  /-- CLK_BACK (R313). `k`: the clock pair. -/
  | clkBack (k : Fin 8)
  /-- BS_SLOT_COMPLETE (R320). `b`: the bitstream channel; `bits`: its modulator bits since its last slot. -/
  | bsSlotComplete (b : BitVec 8) (bits : List Bool)
  /-- SYNC_IN_EDGE (R325). -/
  | syncInEdge
  /-- SYNC_RESET (R325). -/
  | syncReset
  /-- GROUP_LOCAL_RESET (R326). `g`: the group. -/
  | groupLocalReset (g : Fin 16)
  /-- BS_SETTLE_END (R328). `g`: the group. -/
  | bsSettleEnd (g : Fin 16)
  /-- BS_CH_WRITE (R322). `b`: the bitstream channel; `v`: the value written. -/
  | bsChWrite (b : BitVec 8) (v : BitVec 32)
  /-- BS_COEF_DATA_ACCESS (R323). `write`: a write, of `v`, and not a read. -/
  | bsCoefDataAccess (write : Bool) (v : BitVec 32)
  /-- SWAP (R324). `g`: the group; `target`: SWAP_TO. -/
  | swap (g : Fin 16) (target : Bool)
  /-- SWAP_DONE (R324). `g`: the group. -/
  | swapDone (g : Fin 16)
  /-- STILE_READBACK (R340). -/
  | stileReadback
  /-- STILE_STUCK_CLOSED (R341). `sw`: the switch that is stuck, 40 being DSCH. -/
  | stileStuckClosed (sw : Fin 41)
  /-- STILE_STUCK_OPEN (R341). -/
  | stileStuckOpen
  /-- OPEN_GAP_END (R340). -/
  | openGapEnd
  /-- RELAY_SETTLE_END (R340). -/
  | relaySettleEnd
  /-- DISCHARGE_END (R340). -/
  | dischargeEnd
  /-- LMU_OUTPUT (R344). `bits`: the modulator bits since the last output. -/
  | lmuOutput (bits : List Bool)
  /-- BLANK_PIN_EDGE (R346). `level`: the level that the BLANK pin takes. -/
  | blankPinEdge (level : Bool)
  /-- BLANK_TIMEOUT (R346). -/
  | blankTimeout
  /-- PASS_GAP_END (R351). -/
  | passGapEnd
  /-- TELEMETRY_START (R353). -/
  | telemetryStart
  /-- RESET_FAULT (R341). `allOpen`: every switch reads open. -/
  | resetFault (allOpen : Bool)
  /-- ENGINE_TAKE_JOB (R364). `e`: the engine. -/
  | engineTakeJob (e : Fin 4)
  /-- RK_JOB_END (R361). `e`: the engine; `input`, `dict`: what it reads through pooled windows; `fail`: the status of a remote access that fails; `errs`: the errors that its reads meet. -/
  | rkJobEnd (e : Fin 4) (input : List (BitVec 8)) (dict : List (BitVec 8)) (fail : BitVec 4) (errs : List MemErr)
  /-- QUARANTINE (R365). `e`: the engine; `mismatch`: found by its checker. -/
  | quarantine (e : Fin 4) (mismatch : Bool)
  /-- RELEASE (R366). `e`: the engine. -/
  | release (e : Fin 4)
  /-- ENGINE_SELFTEST_END (R366). `e`: the engine; `pass`: the test passes. -/
  | engineSelftestEnd (e : Fin 4) (pass : Bool)
  /-- RK_TEST_INJECT (R373). `v`: the value written. -/
  | rkTestInject (v : BitVec 32)
  /-- DOORBELL_POLL (R381). `tails`: TAIL of each ring; `rx`: the new packet-receive descriptors; `kind`: 0, or how the read failed (HI_PCIE_ERR.KIND), `fetch`: at the descriptor fetch. -/
  | doorbellPoll (tails : List (BitVec 32)) (rx : List (List (BitVec 32))) (kind : Fin 5) (fetch : Bool)
  /-- HI_NUDGE (R382). -/
  | hiNudge
  /-- HI_RCFG_WRITE (R384). `r`: the ring; `v`: the value written. -/
  | hiRcfgWrite (r : Fin 64) (v : BitVec 32)
  /-- RING_DRAINED (R384). `r`: the ring. -/
  | ringDrained (r : Fin 64)
  /-- INTERRUPT_MODERATION_TIMER (R383). `r`: the ring. -/
  | interruptModerationTimer (r : Fin 64)
  /-- REPORT_RECORD_WRITE (R463). `err`: for the error-log ring, not the event ring. -/
  | reportRecordWrite (err : Bool)
  /-- HOST_RESET (R404). `cause`: as in R401. -/
  | hostReset (cause : Fin 7)
  /-- RINGS_RESET (R404). -/
  | ringsReset
  /-- BAD_ACCESS (R375). `bar`: half the BAR number; `ofs`: the byte offset; `en`: the bytes enabled; `write`: a write. -/
  | badAccess (bar : Fin 3) (ofs : BitVec 24) (en : BitVec 8) (write : Bool)
  /-- NOP_COMMAND (R389). `c`: the command; `op`: its opcode, 0x01 or a reserved one. -/
  | nopCommand (c : HCmd) (op : BitVec 8)
  /-- MODE_SET (R469). `c`: the command. -/
  | modeSet (c : HCmd)
  /-- MODE_CHANGE (R472). `tests`: by cluster, what the short self-test of a THERMOS exit or a GL_RESET found. -/
  | modeChange (tests : List (BitVec 11))
  /-- DEVICE_INFO (R389). `c`: the command. -/
  | deviceInfo (c : HCmd)
  /-- ADMISSION (R232). `c`: the command. -/
  | admission (c : HCmd)
  /-- CSM_LOAD (R389). `c`: the command. -/
  | csmLoad (c : HCmd)
  /-- PATCH_LOAD (R215). `c`: the command; `sig`: the key hash and the signature of the container verify. -/
  | patchLoad (c : HCmd) (sig : Bool)
  /-- CH_OPEN (R542). `c`: the command. -/
  | chOpen (c : HCmd)
  /-- CH_OPEN_GRAPH (R391). `c`: the command. -/
  | chOpenGraph (c : HCmd)
  /-- CH_CLOSE (R40). `c`: the command. -/
  | chClose (c : HCmd)
  /-- CLOSE_COMPLETE (R40). `n`: the channel. -/
  | closeComplete (n : BitVec 13)
  /-- CH_PARAM (R392). `c`: the command. -/
  | chParam (c : HCmd)
  /-- CH_STATUS (R389). `c`: the command. -/
  | chStatus (c : HCmd)
  /-- CTX_READ (R389). `c`: the command; `errs`: the errors that its reads meet. -/
  | ctxRead (c : HCmd) (errs : List MemErr)
  /-- CTX_WRITE (R389). `c`: the command. -/
  | ctxWrite (c : HCmd)
  /-- NODE_CANCEL (R173). `c`: the command. -/
  | nodeCancel (c : HCmd)
  /-- FLOW_RESYNC (R172). `c`: the command. -/
  | flowResync (c : HCmd)
  /-- DEC_SYNC (R325). `c`: the command. -/
  | decSync (c : HCmd)
  /-- MSG_SEND (R279). `c`: the command. -/
  | msgSend (c : HCmd)
  /-- COEF_WRITE (R323). `c`: the command. -/
  | coefWrite (c : HCmd)
  /-- BANK_SWAP (R324). `c`: the command. -/
  | bankSwap (c : HCmd)
  /-- PKT_SEND (R395). `c`: the command. -/
  | pktSend (c : HCmd)
  /-- FT_INSERT (R210). `c`: the command. -/
  | ftInsert (c : HCmd)
  /-- FT_DELETE (R210). `c`: the command. -/
  | ftDelete (c : HCmd)
  /-- TPL_WRITE (R251). `c`: the command. -/
  | tplWrite (c : HCmd)
  /-- SRTP_WRITE (R257). `c`: the command. -/
  | srtpWrite (c : HCmd)
  /-- SRTP_READ (R257). `c`: the command. -/
  | srtpRead (c : HCmd)
  /-- PORT_RESET (R267). `c`: the command. -/
  | portReset (c : HCmd)
  /-- HOST_COPY (R393). `c`: the command; `errs`: the errors that its reads meet. -/
  | hostCopy (c : HCmd) (errs : List MemErr)
  /-- PAGE_MOVE (R188). `c`: the command. -/
  | pageMove (c : HCmd)
  /-- JOB_SUSPEND (R399). `c`: the command. -/
  | jobSuspend (c : HCmd)
  /-- JOB_RESUME (R399). `c`: the command. -/
  | jobResume (c : HCmd)
  /-- JOB_CANCEL (R399). `c`: the command. -/
  | jobCancel (c : HCmd)
  /-- JOB_STATUS (R399). `c`: the command. -/
  | jobStatus (c : HCmd)
  /-- JOB_LIST (R399). `c`: the command. -/
  | jobList (c : HCmd)
  /-- FW_EXCHANGE (R485). `c`: the command; `sig`: the key hash and the signature of the container verify. -/
  | fwExchange (c : HCmd) (sig : Bool)
  /-- FWX_STEP_END (R485). `test`: what a self-test phase found, in the form of CL_SELFTEST; `ok`: it passed. -/
  | fwxStepEnd (test : BitVec 11) (ok : Bool)
  /-- CORE_RETIRE (R448). `c`: the command. -/
  | coreRetire (c : HCmd)
  /-- RETIRE_NODE_TIMEOUT (R449). `k`: the physical core. -/
  | retireNodeTimeout (k : Fin 144)
  /-- RETIREMENT_SWAP (R449). `k`: the physical core. -/
  | retirementSwap (k : Fin 144)
  /-- SPARE_READY (R449). `k`: the physical core. -/
  | spareReady (k : Fin 144)
  /-- HBM_REPAIR (R454). `c`: the command. -/
  | hbmRepair (c : HCmd)
  /-- HBM_REPAIR_PAUSE_END (R455). `pc`: the pseudo-channel; `ok`: the test of a repaired row passes. -/
  | hbmRepairPauseEnd (pc : Fin 16) (ok : Bool)
  /-- SCRUB (R458). `c`: the command. -/
  | scrub (c : HCmd)
  /-- PATROL_SCRUB_READ (R457). `target`: 0 the next page of the stack, 1 CSM and CPS, 2 Thermos SRAM; `errs`: the words found in error. -/
  | patrolScrubRead (target : Fin 3) (errs : List ScrubErr)
  /-- SCRUB_DONE (R458). `hbm`: the patrol pass was over the stack; a SCRUB job that runs is the one that ends. -/
  | scrubDone (hbm : Bool)
  /-- ROW_REPAIRED (R452). `u`: the memory, XM, YM and CM of core k at 3k to 3k + 2, the CSM and CPS of cluster c at 432 + c and 448 + c; `row`: the logged row. -/
  | rowRepaired (u : Fin 464) (row : BitVec 18)
  /-- LIFE_HOUR (R459). `temp`: the mean of the highest of LM_INT[0]-LM_INT[2] over the hour in 1/16 °C, if any was read. -/
  | lifeHour (temp : Option (BitVec 16))
  /-- LINE_TEST_SWEEP (R351). `c`: the command. -/
  | lineTestSweep (c : HCmd)
  /-- MIGRATE (R434). `c`: the command. -/
  | migrate (c : HCmd)
  /-- MIGRATE_SWITCH (R434). `n`: the source's channel. -/
  | migrateSwitch (n : BitVec 13)
  /-- MIGRATE_FORWARD_END (R434). `n`: the source's channel. -/
  | migrateForwardEnd (n : BitVec 13)
  /-- EVACUATE (R435). `c`: the command. -/
  | evacuate (c : HCmd)
  /-- EVACUATE_FENCE (R435). -/
  | evacuateFence
  /-- RK_JOB (R360). `c`: the command. -/
  | rkJob (c : HCmd)
  /-- CHECKPOINT_ALL (R436). `c`: the command. -/
  | checkpointAll (c : HCmd)
  /-- FW_JOB (R394). `c`: the command. -/
  | fwJob (c : HCmd)
  /-- HEARTBEAT (R414). `f`: the frame. -/
  | heartbeat (f : FabIn)
  /-- MIRROR_FRAME (R423). `f`: the frame; `last`: it carries the last item of the sync. -/
  | mirrorFrame (f : FabIn) (last : Bool)
  /-- READ_REQUEST (R417). `f`: the frame; `errs`: the errors that the read meets. -/
  | readRequest (f : FabIn) (errs : List MemErr)
  /-- WRITE_REQUEST (R417). `f`: the frame. -/
  | writeRequest (f : FabIn)
  /-- MIGRATE_FRAME (R434). `f`: the frame; `tagOk`: the SRTP tag of forwarded ingress verifies. -/
  | migrateFrame (f : FabIn) (tagOk : Bool)
  /-- CREDIT (R415). `f`: the frame. -/
  | credit (f : FabIn)
  /-- FENCE_FRAME (R428). `f`: the frame. -/
  | fenceFrame (f : FabIn)
  /-- FABRIC_FRAME_SEND (R416). `l`: the link. -/
  | fabricFrameSend (l : Fin 64)
  /-- HEARTBEAT_SEND (R413). `l`: the link. -/
  | heartbeatSend (l : Fin 64)
  /-- LINK_LOST (R413). `l`: the link. -/
  | linkLost (l : Fin 64)
  /-- RETRANSMIT_TIMEOUT (R415). `l`: the link. -/
  | retransmitTimeout (l : Fin 64)
  /-- CREDIT_FRAME_SEND (R415). `l`: the link. -/
  | creditFrameSend (l : Fin 64)
  /-- SENT_NOTE_FLUSH (R425). -/
  | sentNoteFlush
  /-- ATTACH_CHECK (R418). `i`: the slot; of its primary, `ctxs`: the size of each mirrored context in granules; `exact`: the EXACT channels; `major`, `minor`: the Roloon MAJOR, or the MINOR or PATCH, differs. -/
  | attachCheck (i : Fin 4) (ctxs : List Nat) (exact : Nat) (major : Bool) (minor : Bool)
  /-- FENCE_REPEAT (R428). `i`: the slot. -/
  | fenceRepeat (i : Fin 4)
  /-- FENCE_SLOW (R428). `i`: the slot. -/
  | fenceSlow (i : Fin 4)
  /-- DIRECT_LINK_EVIDENCE (R428). `i`: the slot. -/
  | directLinkEvidence (i : Fin 4)
  /-- SLOT_INSTALLED (R429). `i`: the slot; `tagOks`: whether the SRTP tag of each logged frame verifies. -/
  | slotInstalled (i : Fin 4) (tagOks : List Bool)
  /-- INGRESS_LOG_EXPIRY (R426). `i`: the slot. -/
  | ingressLogExpiry (i : Fin 4)
  /-- GRATUITOUS_ANNOUNCE (R432). `i`: the slot; `n`: which of its addresses. -/
  | gratuitousAnnounce (i : Fin 4) (n : BitVec 8)
  /-- TAKEOVER (R427). `i`: the slot. -/
  | takeover (i : Fin 4)
  /-- FORCE (R428). `i`: the slot. -/
  | force (i : Fin 4)
  /-- TW_LINK_DATA_ACCESS (R412). `write`: a write, of `v`, and not a read. -/
  | twLinkDataAccess (write : Bool) (v : BitVec 32)
  /-- TW_KEY_DATA_WRITE (R411). `v`: the value written. -/
  | twKeyDataWrite (v : BitVec 32)
  /-- EPOCH_SWITCH (R411). -/
  | epochSwitch
  /-- HP_WIN_DATA_WRITE (R189). `v`: the value written. -/
  | hpWinDataWrite (v : BitVec 32)
  /-- CACHE_WAY_DISABLE (R183). `v`: the ENABLE field written. -/
  | cacheWayDisable (v : BitVec 16)
  /-- EP_PORT_RESET_WRITE (R267). `p`: the packet port. -/
  | epPortResetWrite (p : Fin 4)
  /-- EP_PHY_CFG_WRITE (R235). `p`: the port; `v`: the value written. -/
  | epPhyCfgWrite (p : Fin 4) (v : BitVec 32)
  /-- AN_RESTART (R268). `p`: the packet port. -/
  | anRestart (p : Fin 4)
  /-- TS_HWM_RESTART (R268). `p`: the packet port. -/
  | tsHwmRestart (p : Fin 4)
  /-- MG_LISTEN_END_WRITE (R280). -/
  | mgListenEndWrite
  /-- SYNC_CMD (R325). -/
  | syncCmd
  /-- SPEED_MIN_RESTART (R69). -/
  | speedMinRestart
  /-- FAULT_INJECT (R107). `k`: the core; `kind`: the INJECT field. -/
  | faultInject (k : Fin 144) (kind : Fin 4)
  /-- CLR_CNT (R107). `k`: the physical core. -/
  | clrCnt (k : Fin 144)
  /-- POOL_HWM_RESTART (R179). -/
  | poolHwmRestart
  /-- CLR_HIST (R179). `q`: the queue. -/
  | clrHist (q : BitVec 7)
  /-- RK_HWM_RESTART (R373). -/
  | rkHwmRestart
  /-- JOBS_HWM_RESTART (R405). -/
  | jobsHwmRestart
  /-- FIFO_HWM_RESTART (R468). -/
  | fifoHwmRestart
  /-- POWER_PEAK_RESTART (R495). -/
  | powerPeakRestart
  /-- CORE_RESET (R450). `k`: the physical core. -/
  | coreReset (k : Fin 144)
  /-- CLEAR_FAULT_HISTORY (R447). `k`: the physical core. -/
  | clearFaultHistory (k : Fin 144)
  /-- FIRST_CLEAR (R465). -/
  | firstClear
  /-- LOG_CLR (R513). `c`: the cluster. -/
  | logClr (c : Fin 16)
  /-- ARB_RESTART (R513). `c`: the cluster. -/
  | arbRestart (c : Fin 16)
  /-- CL_PATCH_DATA_READ (R511). `c`: the cluster. -/
  | clPatchDataRead (c : Fin 16)
  /-- CLUSTER_RESET (R483). `c`: the cluster. -/
  | clusterReset (c : Fin 16)
  /-- CLUSTER_RESET_END (R483). `c`: the cluster; the results of its self-test. -/
  | clusterResetEnd (c : Fin 16) (cores : BitVec 9) (cps : Bool) (vectors : Bool)
  /-- WARM_RESET (R481). `key`: the WARM_KEY written with it. -/
  | warmReset (key : BitVec 8)
  /-- WARM_DONE (R481). `tests`: by cluster, what the short self-test of a THERMOS exit or a GL_RESET found. -/
  | warmDone (tests : List (BitVec 11))
  /-- POWER_ON_RESET (R491). `straps`: BOOT, PERST and TEST. -/
  | powerOnReset (straps : BitVec 4)
  /-- SYS_RESET (R480). `straps`: BOOT, PERST and TEST. -/
  | sysReset (straps : BitVec 4)
  /-- PERST (R482). `straps`: BOOT, PERST and TEST. -/
  | perst (straps : BitVec 4)
  /-- BOOT_READY (R491). `tests`: what the self-test found by cluster; `lanes`: failing lanes by pseudo-channel. -/
  | bootReady (tests : List (BitVec 11)) (lanes : List Nat)
  /-- QSPI_BOOT_LOAD (R491). `image`: the container in the flash; `sig`: its key hash and signature verify. -/
  | qspiBootLoad (image : List (BitVec 8)) (sig : Bool)
  /-- UNDERVOLT (R484). `i`: the rail. -/
  | undervolt (i : Fin 8)
  /-- PWR_OK_FALL (R484). -/
  | pwrOkFall
  /-- LIVE_LOST (R493). -/
  | liveLost
  /-- LIVE_BACK (R492). -/
  | liveBack
  /-- EGRESS_STOPPED (R474). -/
  | egressStopped
  /-- MAILBOX_NOP (R500). -/
  | mailboxNop
  /-- GET_VERSION (R500). -/
  | getVersion
  /-- LANTERN_CH_OPEN (R501). -/
  | lanternChOpen
  /-- LANTERN_CH_CLOSE (R500). -/
  | lanternChClose
  /-- CH_SET_IP (R501). -/
  | chSetIp
  /-- CH_GAIN (R501). -/
  | chGain
  /-- CH_EC (R501). -/
  | chEc
  /-- CH_STATS (R504). -/
  | chStats
  /-- EVT_READ (R503). -/
  | evtRead
  /-- MAILBOX_COMPLETION (R497). -/
  | mailboxCompletion
  /-- LN_MBX_STAT_READ (R498). -/
  | lnMbxStatRead
  /-- RC_READ (R18). `a`: the byte offset of the register within BAR0; BAR2 stands from 0x2000000 and BAR4 from 0x4000000. -/
  | rcRead (a : BitVec 32)
  /-- COUNTER_LOW_WORD_READ (R23). `a`: the byte offset of the register within BAR0; BAR2 stands from 0x2000000 and BAR4 from 0x4000000. -/
  | counterLowWordRead (a : BitVec 32)
  /-- REGISTER_WRITE (R540). `a`: the byte offset of the register as for a read; `v`: the value written. -/
  | registerWrite (a : BitVec 32) (v : BitVec 32)
  /-- TD_CLK_RETURN (R304). `h`: the highway. -/
  | tdClkReturn (h : Fin 16)
  /-- BEACON (R273). -/
  | beacon
  /-- MSIX_UNMASK (R383). `v`: the vector. -/
  | msixUnmask (v : Fin 64)
  /-- INTERFACE_IDLE (R381). -/
  | interfaceIdle
  /-- HOST_SUSPEND (R371). `e`: the engine; `n`: the bytes that it has written; `input`, `dict`: what it reads through pooled windows. -/
  | hostSuspend (e : Fin 4) (n : BitVec 24) (input : List (BitVec 8)) (dict : List (BitVec 8))
  /-- EVACUATE_FENCE_REPEAT (R435). -/
  | evacuateFenceRepeat
  /-- UNDERVOLT_END (R484). `i`: the rail. -/
  | undervoltEnd (i : Fin 8)
  /-- PCIE_LINK_UP (R491). `speed`: one below SPEED; `width`: the logarithm of WIDTH. -/
  | pcieLinkUp (speed : Fin 4) (width : Fin 3)
deriving DecidableEq, Repr

end Sys2Proof
end

