-- ==== Sys2Proof/Decode.lean ====
section
/-! DEFINITION. The commands that words of the opcode table spell. -/
namespace Sys2Proof

/-- No row of spec/opcode_table.json gives a command any bits, so no word spells one: the commands are those of the
block's interfaces, whose operands are the arguments of the constructors. -/
def decodeTableWord (_nbits _w : Nat) : Option Instr := none

end Sys2Proof
end

