-- ==== Sys2Proof/Config.lean ====
section
/-! DEFINITION. What the spec leaves open: values with no body, of which no proof can see anything but that they exist. -/
namespace Sys2Proof.Config

/-- The fused contents of the Roloon ROM copy (R213): word address 0-131,071. The spec does not give them. -/
opaque romWord : Nat → W32

/-- The CODE of the WARN event of a discarded transmit-ring item (R202), which R460 does not list. -/
opaque codeItemRejected : BitVec 12

/-- The port whose TX_DROP counts an item for which no port is chosen (R239, R250 name none), and whose completion ring
takes its record. -/
opaque portOfDropped : Fin 4

/-- Byte `i` of the key stream by which an SRTP suite encrypts a packet: suite, master key and salt, packet index and
SSRC (R255; the ciphers are those of the standards named there). -/
opaque srtpStream (suite : Nat) (key salt : List Nat) (index ssrc : Nat) (i : Nat) : Byte

/-- Byte `i` of the authentication tag of a packet (R255). -/
opaque srtpTag (suite : Nat) (key salt : List Nat) (index : Nat) (packet : List Byte) (i : Nat) : Byte

/-- What the Lantern event FIFO shows of a tone item (R503): event, direction and END as RES1, and the frame number. The
spec gives no layout of the item's bytes (R224). -/
opaque lanternEvent (item : List Byte) : BitVec 16 × BitVec 16

/-- What firmware finds in an X-space word that no memory stands behind, when it offers data there outside a node. -/
opaque absentX (addr : Nat) : W24

/-- Instructions per microsecond, in units of 1/16, that a ring count stands for under a factory coefficient (R53). -/
opaque ringSpeed (coef count : Nat) : BitVec 16

/-- The row of the stack that holds a physical byte address (R454-R456); the spec does not give the mapping. -/
opaque hbmRow (phys : Nat) : BitVec 14

/-- The two candidate buckets of a 40-byte flow-table key: CRC-32C under two seeds fused per device (R209). -/
opaque ftBucket (second : Bool) (key : List Byte) : BitVec 12

/-- Word `i` of the graph, in the form of R391, that the device builds for a basic profile (R230): profile, IP form, frame
length code and mirroring class. The spec names its kernels, not its edges or maps. -/
opaque profileGraph (profile : Nat) (ip : Bool) (frame mirror i : Nat) : W32

/-- The slot store of that graph: none, or SLOTS_LOG2 less 4 (R203, R230). -/
opaque profileStore (profile : Nat) (ip : Bool) (frame mirror : Nat) : Option (Fin 6)

/-- SRC, LEN, DEST and ENTRY of a library kernel's overlay, in that order (R217). -/
opaque kernelOverlay (kid i : Nat) : W32

/-- The CODE of the CORRECTED event of a queue pointer copy (R177), which R460 does not list. -/
opaque codePointerCopy : BitVec 12

/-- The CODE of the WARN event of an automatic trigger that is dropped (R472), which R460 does not list. -/
opaque codeTriggerDropped : BitVec 12

/-- The EC_TAIL_MS by which an expert graph's echo cancellers are charged (R228, R231); no field of R391 carries it. -/
opaque expertTail (graph : List Nat) : Fin 129

/-- The default PT_ENC and PT_DEC of a profile (R222 "per codec"), in bits 6:0 and 14:8. -/
opaque defaultPt (profile : Nat) : BitVec 15

/-- The output of the hardware loop after a comparison, in units of 2^-32 ns per period (R290); by free-value number. -/
opaque loopOutput (n : Nat) : BitVec 32

/-- The FIR coefficients that a preset loads (R330), by tap. -/
opaque presetCoef (preset tap : Nat) : BitVec 24

/-- The resampler's prototype in ROM (R317), Q1.23: the ratio in use, a phase 0-64 and a tap 0-15. -/
opaque resampler (inc phase tap : Nat) : BitVec 24

/-- The fixed FIR coefficients of an LMU chain in ROM, Q1.23 (the LMU's measurement chain), by chain and tap. -/
opaque lmuCoef (chain tap : Nat) : BitVec 24

/-- An output of the measurement channel as signed nanovolts, after the fused gain and offset of its range (R343). -/
opaque lmuNanovolts (range : Nat) (code : BitVec 24) : BitVec 32

/-- The value of an internal input in the units of R353 from its mean in nanovolts. -/
opaque lmuInternal (input : Nat) (mean : BitVec 32) : BitVec 16

/-- Cosine and sine of a fraction of a turn, Q1.30, as the LMU forms I_NV and Q_NV (R348) and the sine excitation (R338). -/
opaque cosSin (num den : Nat) : BitVec 32 × BitVec 32

/-- The destination address of the management messages that the device sends (R276 gives the payload alone). -/
opaque mgDestination : BitVec 48

/-- Byte `i` of the AES-GCM tag of a management message's bytes 0-31 under a key (R276). -/
opaque mgTag (key : List Nat) (message : List Byte) (i : Nat) : Byte

/-- The number that the management port's LFSR gives (R271; its polynomial and seed rule are not stated), by free-value number. -/
opaque mgRandom (n : Nat) : BitVec 32

/-- FIRST_PAGE of a peer's HP_EXPORT, which its logical byte addresses count from (R189, R417); no register of this device
holds it. -/
opaque peerFirstPage (peer : Nat) : BitVec 13

/-- The fused 64-bit serial number of the device (R406). -/
opaque deviceSerial : BitVec 64

/-- The CODE of the WARN report of a firmware-exchange self-test that fails (R485), which R460 does not list. -/
opaque codeExchangeTest : BitVec 12

/-- The physical page that holds a row of the stack (R455): pseudo-channel, bank and row; the spec does not give the mapping. -/
opaque rowPage (pc bank row : Nat) : BitVec 13

/-- What an hour adds to RL_EQUIV at a mean temperature in 1/16 °C where 16 × 2^((T − 95) ÷ 10) is no whole number (R459 states no
rounding). -/
opaque equivalentHour (temp : BitVec 16) : BitVec 16

/-- The readback that a self-test of Stile finds when LM_CTRL.RESET_FAULT is written by its register (R341): every switch is open;
by free-value number. -/
opaque stileReadsOpen (n : Nat) : Bool

/-- The estimate of PW_POWER in 0.1 W (R479), by device time and the output current last read. -/
opaque powerNow (time current : Nat) : BitVec 15

/-- The CODE of the CORRECTED report of a Thermos SRAM word (R440, R458), which R460 does not list. -/
opaque codeThermosFixed : BitVec 12

end Sys2Proof.Config
end

