-- ==== Sys2Proof/Machine/Bits.lean ====
section
/-! DEFINITION. Bit fields, byte order and the sparse maps that memories and register files are made of. -/
namespace Sys2Proof.Machine

/-- Bits `lo + w - 1 : lo` of a number (R5). -/
def bits (v lo w : Nat) : Nat := v / 2 ^ lo % 2 ^ w

/-- One bit of a number. -/
def bit (v i : Nat) : Bool := v / 2 ^ i % 2 = 1

/-- A number with the field at `lo` of width `w` replaced. -/
def setBits (v lo w x : Nat) : Nat := v - bits v lo w * 2 ^ lo + x % 2 ^ w * 2 ^ lo

/-- 0 or 1 for a flag. -/
def b2n (b : Bool) : Nat := if b then 1 else 0

/-- The value of a `w`-bit two's complement field (R70). -/
def sgn (w v : Nat) : Int := if v % 2 ^ w < 2 ^ (w - 1) then (v % 2 ^ w : Nat) else (v % 2 ^ w : Nat) - (2 ^ w : Nat)

/-- An integer as a `w`-bit two's complement field. -/
def unsgn (w : Nat) (i : Int) : Nat := (i % (2 ^ w : Nat)).toNat

/-- The lowest set bit position of a number below `n`; `n` when there is none. -/
def lowBit (v n : Nat) : Nat := (List.range n).foldr (fun i acc => if bit v i then i else acc) n

/-- The number of set bits below position `n`. -/
def popCount (v n : Nat) : Nat := (List.range n).foldl (fun acc i => acc + b2n (bit v i)) 0

/-- What stands under a key; nothing when the key is not listed. -/
def mfind {α : Type} : SMap α → Nat → Option α
  | [], _ => none
  | (k, v) :: r, a => if k = a then some v else mfind r a

/-- The value of a map at a key, `d` where the key is not listed. -/
def mget {α : Type} (d : α) (m : SMap α) (a : Nat) : α := (mfind m a).getD d

/-- Lists a value under a key, in key order. -/
def mput {α : Type} : SMap α → Nat → α → SMap α
  | [], a, x => [(a, x)]
  | (k, v) :: r, a, x =>
    if a < k then (a, x) :: (k, v) :: r
    else if a = k then (a, x) :: r
    else (k, v) :: mput r a x

/-- Removes a key. -/
def mdel {α : Type} : SMap α → Nat → SMap α
  | [], _ => []
  | (k, v) :: r, a => if k = a then mdel r a else (k, v) :: mdel r a

/-- Writes a value; the default value is written by removing the key, so that equal maps are equal data. -/
def mset {α : Type} [DecidableEq α] (d : α) (m : SMap α) (a : Nat) (x : α) : SMap α :=
  if x = d then mdel m a else mput m a x

/-- The canonical form of a map: keys strictly rising, no entry equal to the default. -/
def mwf {α : Type} [DecidableEq α] (d : α) : SMap α → Bool
  | [] => true
  | [(_, v)] => decide (v ≠ d)
  | (k, v) :: (k', v') :: r => decide (v ≠ d) && decide (k < k') && mwf d ((k', v') :: r)

/-- The keys of a map. -/
def mkeys {α : Type} (m : SMap α) : List Nat := m.map Prod.fst

/-- Keeps the entries whose key satisfies a test. -/
def mkeep {α : Type} (p : Nat → Bool) (m : SMap α) : SMap α := m.filter fun e => p e.1

/-- Little-endian value of a list of bytes (R5, R193). -/
def leNat : List Byte → Nat
  | [] => 0
  | b :: r => b.toNat + 256 * leNat r

/-- Big-endian value of a list of bytes (R5: network order). -/
def beNat (l : List Byte) : Nat := l.foldl (fun acc b => acc * 256 + b.toNat) 0

/-- `n` bytes of a number, least significant first. -/
def leBytes : Nat → Nat → List Byte
  | 0, _ => []
  | n + 1, v => BitVec.ofNat 8 v :: leBytes n (v / 256)

/-- `n` bytes of a number, most significant first. -/
def beBytes (n v : Nat) : List Byte := (leBytes n v).reverse

/-- The 32-bit words of a byte list, little-endian. -/
def leWords : List Byte → List Nat
  | [] => []
  | [a] => [leNat [a]]
  | [a, b] => [leNat [a, b]]
  | [a, b, c] => [leNat [a, b, c]]
  | a :: b :: c :: d :: r => leNat [a, b, c, d] :: leWords r

/-- The bytes of a list of 32-bit words, little-endian. -/
def wordsLe (l : List Nat) : List Byte := l.flatMap (leBytes 4)

/-- Element `i` of a list of numbers, 0 past its end. -/
def nth (l : List Nat) (i : Nat) : Nat := l.getD i 0

/-- The slice of `n` elements from position `i`. -/
def slice {α : Type} (l : List α) (i n : Nat) : List α := (l.drop i).take n

/-- Replaces element `i` of a list, which keeps its length. -/
def setAt {α : Type} (l : List α) (i : Nat) (x : α) : List α := l.set i x

/-- Rounds up to a multiple of `m`. -/
def roundUp (v m : Nat) : Nat := (v + m - 1) / m * m

/-- The least element that satisfies a test among the first `n` numbers. -/
def firstBelow (n : Nat) (p : Nat → Bool) : Option Nat := (List.range n).find? p

/-- Adds to a count that stays at the all-ones value of `w` bits (class S, R21). -/
def satAdd (w v x : Nat) : Nat := min (v + x) (2 ^ w - 1)

/-- Inserts an element into a list before the first one that it must precede. -/
def insertBy {α : Type} (lt : α → α → Bool) (x : α) : List α → List α
  | [] => [x]
  | y :: r => if lt x y then x :: y :: r else y :: insertBy lt x r

/-- Sorts a list; equal elements keep their order. -/
def sortBy {α : Type} (lt : α → α → Bool) (l : List α) : List α := l.foldl (fun acc x => insertBy lt x acc) []

/-- One bit step of a reflected CRC-32 register. -/
def crcStep (poly c : BitVec 32) : BitVec 32 := if c.getLsbD 0 then (c >>> 1) ^^^ poly else c >>> 1

/-- One byte of a reflected CRC-32. -/
def crcByte (poly c : BitVec 32) (b : Byte) : BitVec 32 :=
  (List.range 8).foldl (fun c _ => crcStep poly c) (c ^^^ b.setWidth 32)

/-- A reflected CRC-32 of bytes, register and result inverted: CRC-32C for 0x82F63B78, the CRC-32 of gzip and of frames
for 0xEDB88320. -/
def crc32 (poly : BitVec 32) (l : List Byte) : BitVec 32 := ~~~ (l.foldl (crcByte poly) 0xFFFFFFFF)

def crc32c (l : List Byte) : BitVec 32 := crc32 0x82F63B78 l

/-- A field of a register: the register's address, the lowest bit, the width, and the value after reset (R512). -/
structure Fld where
  addr : Nat
  lo : Nat
  w : Nat
  rst : Nat
deriving DecidableEq, Repr

/-- The key under which a field's value is stored: the lowest bit of the field among all register bits. -/
def Fld.key (f : Fld) : Nat := f.addr * 8 + f.lo

/-- The access codes of R18. -/
inductive Acc where
  | rw | ro | wo | w1c | rws | rc
deriving DecidableEq, Repr

end Sys2Proof.Machine
end

