-- ==== Sys2Proof/Machine/Types.lean ====
section
/-! DEFINITION. The records that the state of the device is made of: what a core, a queue entry, a flow, a channel's
graph and a report hold. -/
namespace Sys2Proof.Machine

/-! ## Cores -/

/-- One of the two banks of shadowed registers of a core (R73). X, Y, P and M stand in `r` under their register codes
(R109), the accumulators in `a` under their numbers. -/
structure Bank where
  r : SMap W24
  a : SMap W56
  sr : W24
  lc : W24
  ls : W15
  le : W15
deriving DecidableEq, Repr

/-- When a written value may be seen by which consumer (R121). -/
inductive HzClass where
  /-- a load, ENQ result or GETT: no read at distance 1 -/
  | load
  /-- quad or scalar arithmetic, NORM, EXP or the FTAPX exponent: no store, MOV or part read at distance 1 -/
  | arith
  /-- P, M, B or L written from no accumulator: no address at distance 1 -/
  | ptr
  /-- P, M, B or L written from an accumulator or a part: no address at distance 1 or 2 -/
  | ptrAcc
  /-- a write of SR settings: no use of the settings at distance 1 -/
  | setting
  /-- a write of LC inside a loop body: no loop-end test at distance 1 -/
  | loopCount
  /-- a store to CM: no instruction fetch at distance 1 or 2 (R89); the code of such an entry is 0x10000 + address -/
  | fetch
  /-- seen at once -/
  | free
deriving DecidableEq, Repr

/-- A result that some consumers do not see yet: the register, the value before it, and how many instructions ago. -/
structure Hz where
  code : Nat
  old : Nat
  age : Nat
  cls : HzClass
deriving DecidableEq, Repr

/-- What a taken branch does after its second delay slot (R125, R142); `leaves`: it leaves a loop body (R128). -/
inductive Branch where
  | jump (target : Nat) (leaves : Bool)
  | rti (target : Nat)
deriving DecidableEq, Repr

/-- An overlay copy under way (R102): the CM address, and the words read. -/
structure OvlCopy where
  dst : Nat
  words : List W24
deriving DecidableEq, Repr

/-- The kind of a Trailhead entry (R160). -/
inductive EKind where
  | node | hostJob | work
deriving DecidableEq, Repr

/-- A ready entry (R150, R151, R160, R166). `id` rises in the order in which entries become visible. -/
structure Entry where
  id : Nat
  kind : EKind
  chan : Nat
  node : Nat
  frame : Nat
  isVoid : Bool
  level : Nat
  cluster : Nat
  /-- Time from which the wait is counted (R175). -/
  since : Nat
  /-- Staging slot held (R197). -/
  slot : Option Nat
  /-- Dispatchable (R151). -/
  ready : Bool
  /-- The cancel bit (R173). -/
  cancel : Bool
  /-- Replays made (R167). -/
  replays : Nat
  barred : List Nat
  handle : Nat
  w1 : W24
  w2 : W24
  w3 : W24
  desc : List W32
  /-- CRC of the first staging (R442), and whether the read area must be staged again. -/
  crc : Option W32
  restage : Bool
  /-- Jitter-buffer slots that the first staging marked STAGED (R442). -/
  jbMarked : List Nat
  /-- The physical core to which a PREEMPT is outstanding, and those asked already (R168, R169). -/
  preempt : Option Nat
  asked : List Nat
deriving DecidableEq, Repr

/-- A reservation that an accepted ENQ holds inside a node (R133, R155). -/
inductive Resv where
  /-- a token: channel, edge, X address and length of its data, and whether a pool entry is reserved -/
  | token (chan edge addr len : Nat) (pool : Bool)
  /-- an item: flow, sequence number, SKIP, X address, length in bytes, DEST -/
  | item (flow seq : Nat) (skip : Bool) (addr len dest : Nat)
  /-- a work entry: level, cluster, arguments -/
  | work (level cluster : Nat) (w1 w2 w3 : W24)
deriving DecidableEq, Repr

/-- What a core runs: the dispatched entry, the time of its dispatch, its order among dispatches, its reservations,
and whether its injection is armed (R107). -/
structure Running where
  e : Entry
  at_ : Nat
  order : Nat
  res : List Resv
deriving DecidableEq, Repr

/-- A Dziul core (R73, R80) and what the device keeps of it. -/
structure Core where
  main : Bank
  shadow : Bank
  /-- The shadow bank is the active one: SR.SB, CO_STATUS.SHADOW. -/
  inShadow : Bool
  /-- B and L by register code. -/
  bl : SMap W24
  ovt : W24
  /-- CM word address of the next instruction (R86). -/
  pc : Nat
  /-- Return stack, newest first (R73). -/
  stack : List W15
  /-- Delay slots still to execute, and what follows them when the branch was taken (R125). -/
  slots : Nat
  branch : Option Branch
  win : List Hz
  /-- The repeat cache: the instructions of the loop body, whether they are complete, whether this pass fills it. -/
  cache : List W48
  cacheOk : Bool
  filling : Bool
  /-- Blocked in WAIT.WORK, and since when. -/
  waiting : Bool
  waitSince : Nat
  /-- Interrupt nesting count (R141). -/
  nest : Nat
  /-- A detected fault whose interrupt is requested or taken (R99): its LAST_FAULT code. -/
  faultReq : Option Nat
  /-- Vector priorities of the handlers that run, newest first (R138, R142). -/
  handlers : List Nat
  /-- Address of the WAIT.WORK or YIELD in which the core last blocked. -/
  waitPc : Nat
  gvReq : Nat
  /-- A clamp found three GV traps pending (R139, CO_STATUS.GVT_SAT). -/
  gvtSat : Bool
  dbgReq : Bool
  preReq : Bool
  timReq : Bool
  timer : Nat
  timerFrac : Nat
  inject : Nat
  ovl : Option OvlCopy
  run : Option Running
  xm : SMap W24
  ym : SMap W24
  cm : SMap W24
  /-- Times of the faults detected on the core, injected ones left out (R447), and whether it was reported suspect. -/
  hist : List Nat
  suspect : Bool
  /-- Time dispatched and dispatches in the present epoch (R176). -/
  busyNs : Nat
  busyFrom : Nat
  disp : Nat
deriving DecidableEq, Repr

/-! ## Channels -/

/-- An extent of a read or write map (R195). -/
structure Extent where
  kind : Nat
  pack : Bool
  edge : Nat
  len : Nat
  ofs : Nat
deriving DecidableEq, Repr

/-- A node of a graph (R217, R391). `cost` is C per 10 ms and `fixed` is F per frame (R229). -/
structure GNode where
  kid : Nat
  level : Nat
  stateOfs : Nat
  src : Nat
  len : Nat
  dest : Nat
  entry : Nat
  cost : Nat
  fixed : Nat
  rd : List Extent
  wr : List Extent
deriving DecidableEq, Repr

/-- An edge of a graph (R146, R391): `src` is a node 0-15 or a source 16-19. -/
structure GEdge where
  src : Nat
  dst : Nat
  depth : Nat
  req : Nat
  words : Nat
deriving DecidableEq, Repr

/-- A media ring of a graph (R200): 0 frames means no ring. -/
structure RingShape where
  frames : Nat
  samples : Nat
deriving DecidableEq, Repr

/-- A channel's graph (R391). -/
structure Graph where
  nodes : List GNode
  edges : List GEdge
  wb : Bool
  kernelBytes : Nat
  rx : RingShape
  tx : RingShape
  jbLog2 : Nat
  jbSlotBytes : Nat
  jbView : Nat
deriving DecidableEq, Repr

/-- Where the areas of a context lie, as byte offsets within it (R194); 0 where there is none. -/
structure Areas where
  graph : Nat
  nodes : Nat
  edges : Nat
  jb : Nat
  rx : Nat
  tx : Nat
  kernel : Nat
  total : Nat
deriving DecidableEq, Repr

/-- A token on an edge (R146, R164): its frame number, whether it is void, and the token buffer and length of its data. -/
structure Token where
  frame : Nat
  isVoid : Bool
  buf : Nat
  words : Nat
deriving DecidableEq, Repr

/-- The state of a channel (R193). -/
inductive ChanState where
  | opened | closing | migOut | migIn
deriving DecidableEq, Repr

/-- The origin of a command that completes later: ring, tag, handle and opcode (R386). -/
structure Origin where
  ring : Nat
  /-- The enabling of the ring under which the command was fetched. -/
  gen : Nat
  tag : Nat
  handle : Nat
  op : Nat
deriving DecidableEq, Repr

/-- A channel (R30-R40, R193). Frame length is 0, 1 or 2 for 5, 10 or 20 ms; units are half units. -/
structure Chan where
  st : ChanState
  profile : Nat
  ipForm : Bool
  expert : Bool
  frame : Nat
  mirror : Nat
  home : Nat
  stagger : Nat
  units : Nat
  ctx : Nat
  granules : Nat
  graph : Graph
  areas : Areas
  edges : SMap (List Token)
  /-- Compass time of the next frame boundary, ns (R34). -/
  nextB : Nat
  /-- Frame boundaries counted since the open (R149). -/
  frames : Nat
  /-- The same count at the last frame tick delivered, 0 before the first (R149, R193). -/
  ticked : Nat
  /-- Media-bank token of the last boundary's frame not yet delivered (R149). -/
  mediaDue : Option Nat
  /-- Channel tombstone (R174). -/
  tomb : Bool
  /-- Node-instance tombstones: node and frame (R174). -/
  tombs : List (Nat × Nat)
  /-- By node, one past the frame number of its last completion record (R163, R173). -/
  ran : SMap Nat
  /-- The close that waits (R40). -/
  closer : Option Origin
  /-- Items released on the even flow whose transmit completion is not determined (R40). -/
  inFlight : Nat
  /-- Opened through the Lantern mailbox (R501, R505). -/
  lantern : Bool
  /-- Counts of CH_STATS (R504). -/
  stats : List Nat
  /-- RTP sequence number of the last packet that started on a wire (R434). -/
  rtpSent : Option Nat
deriving DecidableEq, Repr

/-- An item held on a flow (R171): sequence number, SKIP, destination, commit time, bytes. -/
structure Held where
  seq : Nat
  skip : Bool
  dest : Nat
  time : Nat
  data : List Byte
deriving DecidableEq, Repr

/-- An ordered flow (R170-R172). -/
structure Flow where
  next : Nat
  held : List Held
  stalled : Bool
  moved : Nat
deriving DecidableEq, Repr

/-! ## Reports -/

/-- The classes of R26. -/
inductive Cls where
  | info | warn | corrected | contained | fatal
deriving DecidableEq, Repr

/-- A report (R401, R462). -/
structure Report where
  cls : Cls
  src : Nat
  inst : Nat
  code : Nat
  count : Nat
  time : Nat
  a0 : Nat
  a1 : Nat
  a2 : Nat
  injected : Bool
  lost : Bool
deriving DecidableEq, Repr

/-! ## Groups of the state -/

/-- What is fused, strapped or fitted to the part: constants of one device (R46, R490, R494). -/
structure Fuses where
  /-- The part is a ZG4096. -/
  small : Bool
  secure : Bool
  svnMin : Nat
  strapBoot : Nat
  strapPerst : Bool
  strapTest : Bool
  /-- Post-package repair rows of each pseudo-channel of the stack as made: HP_PC_STAT.PPR_LEFT is "per stack" (R212). -/
  ppr : List (BitVec 8)
deriving DecidableEq, Repr

/-- Cluster memories (R80, R214): CSM and CPS words by cluster and address, and the patch maps. -/
structure ClusterMem where
  /-- key: cluster × 2^20 + word -/
  csm : SMap W32
  /-- key: cluster × 2^18 + word -/
  cps : SMap W32
  /-- key: cluster × 512 + block; 0 means empty -/
  patch : SMap Nat
  /-- The container from which the cluster's CPS and patch map came (R443, R485); 0 at first. -/
  image : SMap Nat
  /-- Rows logged by parity faults and not yet repaired (R98, R452): (memory unit, row), newest first. -/
  logged : List (Nat × Nat)
  /-- Spare rows used per memory unit (R452, R453). -/
  sparesUsed : SMap Nat
deriving DecidableEq, Repr

/-- A node cancel that waits for the end of its node (R173). -/
structure CancelWait where
  chan : Nat
  node : Nat
  frame : Nat
  handle : Nat
  origin : Origin
deriving DecidableEq, Repr

/-- Trailhead (R146-R178). -/
structure Trail where
  /-- Queue q = 8c + l, oldest entry first. -/
  queues : SMap (List Entry)
  nextId : Nat
  nextDisp : Nat
  flows : SMap Flow
  /-- Waiting-time bins, key 16q + bin (R175). -/
  hist : SMap Nat
  /-- Busy fraction and dispatches latched per logical core at the last epoch (R176). -/
  busy : SMap Nat
  disp : SMap Nat
  /-- Cluster being rebuilt (R177), when it began, and work entries lost. -/
  rebuild : Option (Nat × Nat × Nat)
  cancels : List CancelWait
  /-- Cores to which dispatch has stopped: a retirement or a row repair was requested (R161, R452). -/
  stopped : List Nat
deriving DecidableEq, Repr

/-- A page move under way (R187). -/
structure Move where
  page : Nat
  src : Nat
  dst : Nat
  line : Nat
  repair : Bool
  origin : Option Origin
deriving DecidableEq, Repr

/-- One request of an access to a pooled window (R190, R417): its tag, the access that it is part of, the peer and its link,
its place and length within the access, the end of its time, and the command and host address that it serves. -/
structure Remote where
  tag : Nat
  acc : Nat
  peer : Nat
  link : Nat
  write : Bool
  ofs : Nat
  len : Nat
  due : Nat
  origin : Option Origin
  host : Nat
deriving DecidableEq, Repr

/-- Hamper (R180-R212). -/
structure Hamper where
  /-- Bytes of the stack by physical address. -/
  hbm : SMap Byte
  /-- Poisoned 64-bit words by physical word number (R181). -/
  poison : SMap Bool
  /-- Page-table entries that differ from those of R186. -/
  page : SMap (Option Nat)
  /-- SPARES as it stood at power-on (R186). -/
  spares : Nat
  pool : List Nat
  heldPages : List Nat
  moves : List Move
  /-- Pooled-window slots in the form of HP_WIN_DATA. -/
  wins : SMap Nat
  remote : List Remote
  nextRemote : Nat
  /-- Rows repaired for good per pseudo-channel (R455). -/
  pprUsed : SMap Nat
  /-- Parity failures per cache way (R183). -/
  wayFails : SMap Nat
  /-- Times of corrected errors per logical page within the last hour (R456). -/
  ceTimes : SMap (List Nat)
  /-- Bytes moved through each cluster port since the last whole kilobyte counted in HP_CBW (R212). -/
  moved : SMap Nat
deriving DecidableEq, Repr

/-- A frame in a transmit queue (R253): `kind` 0 an item, 1 a host frame, 2 a fabric frame. An item holds the header of
its template as it stood at admission, its payload after the prefix, and its SRTP context and suite. -/
structure TxFrame where
  kind : Nat
  pri : Nat
  since : Nat
  flow : Nat
  seq : Nat
  rtp : Bool
  csum : Bool
  srtp : Nat
  suite : Nat
  alt : Bool
  hdr : List Byte
  payload : List Byte
  tsReq : Bool
  tsEntry : Bool
  /-- Length on the wire with padding and FCS. -/
  len : Nat
  origin : Option Origin
  /-- An item: the plane of its port. A fabric frame: its link, header and payload. -/
  link : Nat
  fab : Option (FabHdr × FabBody)
  /-- One past the number of an item's SENT note, or of the highest note that a fabric frame carries (R425). -/
  note : Nat
deriving DecidableEq, Repr

/-- A frame on the wire (R253): the frame as queued, the bytes sent before the FCS, the SRTP ROC used, and the failure
that aborts it. -/
structure OnWire where
  f : TxFrame
  bytes : List Byte
  roc : Nat
  srtpUsed : Bool
  status : Nat
  /-- Transmit timestamp, seconds and nanoseconds (R264). -/
  ts : Nat × Nat
deriving DecidableEq, Repr

/-- A packet port (R234-R268). Times are device times in ns. -/
structure Port where
  queues : SMap (List TxFrame)
  cur : Option OnWire
  /-- End of the pause time per priority, and since when the priority has been held (R261, R262). -/
  pauseEnd : SMap Nat
  heldFrom : SMap Nat
  ignoreUntil : Option Nat
  anFailed : Bool
  anRetry : Option Nat
  /-- A port reset under way and the command that waits for it (R267). -/
  resetting : Bool
  resetBy : Option Origin
  /-- Device time at which the link last went down. -/
  downAt : Option Nat
deriving DecidableEq, Repr

/-- The packet ports and what they share: the SRTP contexts as 32 words each (R256). -/
structure Ports where
  port : SMap Port
  srtp : SMap (List Nat)
deriving DecidableEq, Repr

/-- A fabric frame in a link's send queue or unacknowledged (R415, R416): its SEQ once sent, and one past the highest SENT
note that it carries. -/
structure FabFrame where
  seq : Option Nat
  body : FabBody
  note : Nat
deriving DecidableEq, Repr

/-- A peer link (R412-R416): its record by word, STATE, queue, frames sent and not acknowledged, oldest first, the next SEQ
to send and to expect, the peer's CREDIT, the ACK last sent, transmission counts, times of the last frame heard and of the
last progress of ACK, and what the peer's heartbeat last said. -/
structure Link where
  words : SMap Nat
  state : Nat
  queue : List FabFrame
  unacked : List FabFrame
  seq : Nat
  ack : Nat
  credit : Nat
  ackSent : Nat
  txc : Nat
  rxCur : Option Nat
  rxPrev : Option Nat
  heard : Nat
  ackAt : Nat
  serial : Nat
  peerMode : Nat
  peerRole : Nat
  peerSlots : List Nat
  /-- A primary's link to its twin: the sync of R420 has been queued. -/
  attached : Bool
  authSec : Nat
  /-- Device time of the last heartbeat sent (R413). -/
  hbAt : Option Nat
deriving DecidableEq, Repr

/-- A channel in a slot's shadow (R420-R425): class, size, place, the last frame applied, whether a full checkpoint stands,
STAGE_NS, the receive-side dictionary, and the highest SENT note. -/
structure ShChan where
  cls : Nat
  granules : Nat
  ctx : Nat
  last : Option Nat
  full : Bool
  stage : Nat
  dict : List Byte
  note : Option Nat
  /-- A flow entry did not fit; the channel cannot be taken over (R420). -/
  noFlow : Bool
deriving DecidableEq, Repr

/-- A frame of the ingress log (R426). -/
structure LogFrame where
  time : Nat
  port : Nat
  bytes : List Byte
deriving DecidableEq, Repr

/-- An address to announce (R432): plane, header bytes it is taken from, sends made and the time of the first. -/
structure Announce where
  planeB : Bool
  hdr : List Byte
  sent : Nat
  at_ : Nat
deriving DecidableEq, Repr

/-- A twin's slot (R418-R432). Its shadow pages hold the template tables of planes A and B, the flow table and the contexts; SRTP
contexts and slot table stand here. -/
structure TwSlot where
  chans : SMap ShChan
  srtp : SMap (List Nat)
  tdm : SMap Nat
  log : List LogFrame
  /-- Device time of detection, and Compass time at which FENCE was first sent. -/
  suspectAt : Nat
  fenceAt : Nat
  /-- The link was LOST when the fence was confirmed by the management acknowledgement (R431). -/
  cutoff : Option Nat
  slow : Bool
  lag : Nat
  announce : List Announce
  planes : Nat
  /-- Device time of the last FENCE sent (R428). -/
  fencedAt : Nat
deriving DecidableEq, Repr

/-- A channel that migrates in (R434): link, the source's channel, the frame of the last checkpoint applied, the boundary at which
it resumes after the final one, and the highest SENT note. -/
structure MigIn where
  link : Nat
  src : Nat
  last : Nat
  resume : Option Nat
  note : Option Nat
deriving DecidableEq, Repr

/-- The fabric logic (R406-R438). -/
structure Fabric where
  link : SMap Link
  /-- Words of the current, previous and next key (R411), and the device time of the last switch. -/
  keyCur : List Nat
  keyPrev : List Nat
  keyNext : List Nat
  switchAt : Option Nat
  slot : SMap TwSlot
  /-- SENT notes gathered, oldest first, since when, and how many notes were placed and have started (R425). -/
  notes : List (Nat × Nat)
  notesSince : Nat
  noteNext : Nat
  noteSent : Nat
  /-- Devices whose management FENCE and links whose fabric FENCE wait for egress to stop (R278, R428). -/
  mgFence : List Nat
  fabFence : List Nat
  migIn : SMap MigIn
  /-- EVACUATE (R435): the fence has been sent and is repeated; device time of the last one. -/
  evacLink : Option Nat
  evacAt : Nat
  /-- The slot whose shadow tables are in force (R429). -/
  installed : Option Nat
deriving DecidableEq, Repr

/-- A frame in the management port's queue (R272): bytes before the FCS, whether it is a FENCE or FENCE_ACK, when it was
queued, and the command that waits for it. -/
structure MgFrame where
  bytes : List Byte
  fence : Bool
  since : Nat
  origin : Option Origin
deriving DecidableEq, Repr

/-- The management port (R269-R283). -/
structure Mgmt where
  /-- The frame being sent or next to be sent comes first. -/
  queue : List MgFrame
  started : Option Nat
  collisions : Nat
  backoff : Option Nat
  sendSeq : Nat
  /-- Frames in the bucket of R274 in units of 10⁻⁹, and when it was last filled. -/
  bucket : Nat
  filled : Nat
  listenUntil : Nat
  /-- Second of the last MSG_REJECT report by source (R277). -/
  rejects : SMap Nat
  lastSync : Option Nat
  lastBlank : Option Nat
  syncAt : List Nat
  /-- A BLANK interval accepted: its start and its end (R278). -/
  blank : Option (Nat × Nat)
  wake : SMap Nat
  /-- MG_PLCA as in force (R273). -/
  plca : Nat
deriving DecidableEq, Repr

/-- A ring of the host interface (R377-R384). -/
structure RingSt where
  gen : Nat
  tail : Nat
  started : Nat
  head : Nat
  /-- Entries since the ring's last message and when the first of them was written (R383). -/
  since : Nat
  firstAt : Nat
deriving DecidableEq, Repr

/-- A posted receive buffer (R396); `bad`: its descriptor breaks the rules of R396. -/
structure RxBuf where
  len : Nat
  tag : Nat
  addr : Nat
  bad : Bool
deriving DecidableEq, Repr

/-- The states of a job (R399). -/
inductive JobState where
  | queued | running | suspending | suspended | cancelling | held
deriving DecidableEq, Repr

/-- A live or held job (R397-R400). -/
structure Job where
  handle : Nat
  op : Nat
  st : JobState
  /-- The state to which JOB_RESUME returns. -/
  left : JobState
  origin : Origin
  args : List Nat
  /-- The kind's step and its working values. -/
  step : Nat
  work : List Nat
  done : Nat
  total : Nat
  lastReport : Option Nat
  held : List Nat
  /-- Control commands that wait for the job: JOB_SUSPEND and JOB_CANCEL. -/
  suspenders : List Origin
  cancellers : List Origin
deriving DecidableEq, Repr

/-- The host interface (R374-R405). -/
structure HostIf where
  ring : SMap RingSt
  bufs : List RxBuf
  jobs : List Job
  /-- MSI-X table words by vector × 4 + word, and pending vectors. -/
  msix : SMap Nat
  msixPend : List Nat
  /-- Device times of the last change of a TAIL and of the last nudge (R381). -/
  lastTail : Option Nat
  lastNudge : Option Nat
  slowUntilRead : Bool
  lastPcieWarn : Option Nat
  nextPoll : Nat
  /-- Second of the last ITEM_DROP event per channel, and records dropped in it (R403). -/
  itemDrop : SMap (Nat × Nat)
  /-- Latched high words of 64-bit counters by the address of the low word (R23). -/
  latch : SMap Nat
deriving DecidableEq, Repr

/-- What the device has sent to the outside: the model's own record, newest first. -/
inductive Out where
  /-- a completion or record in entry `n` of a ring (R380) -/
  | entry (ring n : Nat) (words : List Nat)
  /-- HEAD of a ring -/
  | head (ring v : Nat)
  /-- an MSI-X message -/
  | msix (vec : Nat)
  /-- bytes written to host memory -/
  | host (addr : Nat) (bytes : List Byte)
  /-- a frame sent by a packet port, and whether its FCS is valid -/
  | frame (port : Nat) (bytes : List Byte) (ok : Bool)
  /-- a frame sent by the management port -/
  | mgFrame (bytes : List Byte) (ok : Bool)
  /-- a frame of a fabric link: port, link, header, and payload before its encryption -/
  | fabric (port link : Nat) (h : FabHdr) (b : FabBody)
  /-- an AVSBus Vout write in mV, or a read -/
  | avsWrite (rail mv : Nat)
  | avsRead (rail : Nat)
  /-- the codes of a TDM highway's 512 slots; 256 is high impedance -/
  | tdm (highway : Nat) (codes : List Nat)
  /-- the PCM words of a bitstream channel's transmit side -/
  | bitstream (chan : Nat) (words : List Nat)
  /-- a level driven on a pin: PPS_OUT and the like -/
  | pin (name : String) (level : Bool)
  /-- a gratuitous announcement on a port -/
  | announce (port : Nat) (bytes : List Byte)
deriving DecidableEq, Repr

/-- A Rucksack job (R360): the host handle or the channel of a cell job, words 0-11, when it was queued, whether it is
the second run (R365), and whether JOB_SUSPEND holds it in the queue (R371). -/
structure RkJob where
  host : Option Nat
  chan : Nat
  words : List Nat
  since : Nat
  second : Bool
  parked : Bool
  /-- A host job that continues after HOST_SUSPEND: bytes of its buffer that are written already. -/
  skip : Nat
deriving DecidableEq, Repr

/-- How a Rucksack stream ends (R361, R370): status, detail, input bytes consumed, check value, and the dictionary to
save with its address. -/
structure RkFin where
  status : Nat
  detail : Nat
  consumed : Nat
  check : Nat
  dict : List Byte
  dictAddr : Option Nat
deriving DecidableEq, Repr

/-- What a state block continues (R368, R369): the operation, the output bytes still to write, each with the input
bytes consumed when it is written, and how the stream ends. -/
structure RkCont where
  op : Nat
  rest : List (Byte × Nat)
  fin : RkFin
deriving DecidableEq, Repr

/-- Rucksack (R356-R373). -/
structure Rucksack where
  cellQ : List RkJob
  hostQ : List RkJob
  eng : SMap RkJob
  /-- The queue served last is the host queue. -/
  lastHost : Bool
  conts : SMap RkCont
  /-- Armed injections per engine (R373). -/
  inject : SMap Nat
  testing : List Nat
  /-- Bytes of input and output per engine, under 2e and 2e + 1, and of all engines under 8 and 9 (R373). -/
  bytes : SMap Nat
deriving DecidableEq, Repr

/-- The Lantern mailbox (R496-R506): the event FIFO as channel, event word and frame number, the running command with
its arguments, and the second of the last WARN reports. -/
structure Lantern where
  fifo : List (Nat × Nat × Nat)
  cmd : Option (Nat × List Nat)
  lastIgnored : Nat
  lastOverflow : Nat
deriving DecidableEq, Repr

/-- An AVSBus transaction under way (R62): a Vout write of a voltage, or a read of Vout and output current; the failed
attempts so far. -/
structure Avs where
  write : Option Nat
  fails : Nat
deriving DecidableEq, Repr

/-- The self-timed supervisor and admission (R53-R66, R232). -/
structure Supervisor where
  /-- A deadline miss was counted since the last decision (R56). -/
  missSeen : Bool
  lastRaise : Option Nat
  /-- 0 none; 1 waits SETTLE; 2 waits for the window under way to end; 3 for one complete window (R57). -/
  settle : Nat
  /-- The state AT_VMAX_SHORT of R60 holds. -/
  short : Bool
  /-- Consecutive windows with every cluster at its floor demand (R61). -/
  okWindows : Nat
  avs : Option Avs
  /-- The reference has returned (R54), and complete windows since. -/
  refBack : Bool
  refWindows : Nat
  /-- Admission in measured mode with MARGIN and HOLD, and the lowest speed of each recent window, newest first (R232). -/
  measured : Bool
  margin : Nat
  hold : Nat
  minima : List Nat
  /-- The budget stands below the committed units and was reported (R43, R233). -/
  excess : Bool
  /-- The last 64 aging indexes per cluster, newest first, and whether one was taken since start-up (R64, R66). -/
  journal : SMap (List Nat)
  measuredAge : Bool
  ageWarned : List Nat
  ageLimited : List Nat
  /-- Cores that entered service in the window under way (R53). -/
  entered : List Nat
deriving DecidableEq, Repr

/-- Compass (R284-R297). -/
structure Compass where
  sec : Nat
  ns : Nat
  /-- In units of 2^-32 ns. -/
  frac : Nat
  /-- What slewing still removes, in units of 2^-32 ns (R287). -/
  residue : Int
  /-- Output of the hardware loop (R290), and the comparisons in a row that speak for a change of state (R291). -/
  loopOut : Int
  run : Nat
  /-- Device time of the last PPS_IN edge. -/
  lastPps : Nat
  /-- Loop outputs while LOCKED, by second, newest first: the second, their sum and their number (R292). -/
  locked : List (Nat × Int × Nat)
  /-- SEQ of the servo block last applied (R293). -/
  servoSeq : Nat
  /-- PPS_OUT is high since this device time (R295), and a step was made since the last clock period. -/
  ppsHigh : Option Nat
  stepped : Bool
  /-- Epochs and ticks of 125 µs already acted on. -/
  lastEpoch : Nat
  lastTick : Nat
  /-- RECCLK_OUT runs (R296). -/
  recclk : Bool
deriving DecidableEq, Repr

/-- A TDM highway: its slip buffers with the frames last read (R303), the frame syncs in a row and a new position seen once
(R304), and the seconds of its last SLIP and COLLISION reports. -/
structure Hwy where
  rx : List (List Byte)
  rxLast : List Byte
  tx : List (List Nat)
  txLast : List Nat
  run : Nat
  cand : Option Nat
  slipSec : Nat
  colSec : Nat
deriving DecidableEq, Repr

/-- The media bank's TDM side (R299-R305): the slot table in the form of TD_SLOT_DATA under 512h + slot, the highways, the
samples gathered for each channel's receive slot, newest first, and those that its transmit slot still has to play. -/
structure Tdm where
  slots : SMap Nat
  hw : SMap Hwy
  acc : SMap (List Nat)
  play : SMap (List Nat)
deriving DecidableEq, Repr

/-- A cross-fade (R324): its target bank, the number of its first FIR output, and the command that waits for it. -/
structure BsFade where
  target : Bool
  first : Nat
  origin : Option Origin
deriving DecidableEq, Repr

/-- A group of bitstream channels: bank B is active; the running and the queued fade; the instant of its last reset; a reset
of its own that is due (R326); the epochs in a row of the ratio tracker (R318); SEQ of the ratio word last read (R319); the
seconds of its last OVERLOAD and SLIP reports. -/
structure BsGroup where
  active : Bool
  fade : Option BsFade
  queued : Option BsFade
  /-- The last fade that ended: the bank it left. -/
  lastFade : Option BsFade
  resetAt : Nat
  localDue : Bool
  inRun : Nat
  outRun : Nat
  goodRun : Nat
  seq : Nat
  ovlSec : Nat
  slipSec : Nat
deriving DecidableEq, Repr

/-- The receive chain of a channel (R314-R317): modulator edges since the reset, integrators, combs, the FIR's inputs, newest
first, and their number, the DC blocker's last input and output, the resampler's inputs, newest first, and their number, the
number of the next output with its position, the last output, and what has happened since the last slot. -/
structure BsChain where
  edge : Nat
  integ : List Nat
  comb : List Nat
  fir : List Int
  firIn : Nat
  dcX : Int
  dcY : Int
  inp : List Int
  inpN : Nat
  outN : Nat
  pos : Nat
  last : Int
  overload : Bool
  faded : Bool
deriving DecidableEq, Repr

/-- The transmit chain of a channel (R334): the resampler's inputs, newest first, its position, and the FIR's inputs. -/
structure BsTx where
  inp : List Int
  pos : Nat
  fir : List Int
deriving DecidableEq, Repr

/-- The bitstream ports (R309-R336): coefficients under 128g + 64 for bank B + tap, groups, chains by channel, and the
synchronising resets that are requested: instant and source (1 SYNC_IN, 2 message, 3 command). -/
structure Bits1 where
  coef : SMap Nat
  group : SMap BsGroup
  chain : SMap BsChain
  tx : SMap BsTx
  sync : List (Nat × Nat)
deriving DecidableEq, Repr

/-- The excitation in force (R338): waveform, LEVEL, START, FREQ, the Compass time of its application, and that of the window's
start for the step and the ramp. -/
structure LmExc where
  wave : Nat
  level : Int
  start : Int
  freq : Nat
  at_ : Nat
  winAt : Option Nat
deriving DecidableEq, Repr

/-- A window under way (R345, R346, R348): start and end in units of 1/32 ns, the weights and the weighted sums, the extremes
and the number of outputs that counted. -/
structure LmWin where
  start : Nat
  stop : Nat
  w : Nat
  wy : Int
  wi : Int
  wq : Int
  lo : Int
  hi : Int
  count : Nat
deriving DecidableEq, Repr

/-- The entry in progress (R339-R348): its words, whether it is telemetry, the instants at which gap, relays and discharge
end, the instant of the chain's reset, outputs so far, the output from which the settle count runs, ranges, the requested
range, blocks beyond a threshold in a row, whether all settling outputs were small, discards, and the flags of its record. -/
structure LmRun where
  e : List Nat
  telem : Bool
  index : Nat
  gapEnd : Nat
  relayEnd : Option Nat
  dschEnd : Nat
  resetAt : Nat
  outN : Nat
  settleFrom : Nat
  first : Nat
  range : Nat
  want : Option Nat
  blocks : Nat
  small : Bool
  changes : Nat
  discarded : Nat
  flags : Nat
  win : Option LmWin
  lastA : Nat
deriving DecidableEq, Repr

/-- A sweep (R351): its job, list, passes, gap, the pass and entry, and what it latched. -/
structure LmSweep where
  job : Nat
  list : List (List Nat)
  passes : Nat
  gapMs : Nat
  pass : Nat
  entry : Nat
  recAddr : Nat
  cfg : Nat
  /-- Waits for the telemetry entry in progress, or for the end of a pass gap at a Compass time. -/
  waiting : Bool
  gapUntil : Option Nat
  suspended : Bool
deriving DecidableEq, Repr

/-- The line measurement unit (R337-R355). -/
structure Lmu where
  sweep : Option LmSweep
  run : Option LmRun
  /-- The closed input switch, and DSCH. -/
  closed : Option Nat
  dsch : Bool
  exc : LmExc
  chain : BsChain
  /-- Level of the BLANK pin; intervals of blanking, newest first, an open one without end. -/
  blankPin : Bool
  blanks : List (Nat × Option Nat)
  lastTelem : Nat
  telemLeft : List Nat
  /-- The LMU waits for the reference (R350). -/
  refWait : Bool
deriving DecidableEq, Repr

/-- A retirement under way (R448, R449): the core, its step (0 waits, 1 dispatch stopped, 2 swapped), the handle of its
job if any, and when dispatch stopped. -/
structure Retire where
  core : Nat
  step : Nat
  job : Option Nat
  since : Nat
  /-- The spare that takes the logical number, once the swap has begun. -/
  spare : Option Nat
deriving DecidableEq, Repr

/-- Reliability logic (R447-R468). -/
structure Rel where
  retire : List Retire
  /-- The reporting FIFO, oldest entry first. -/
  fifo : List Report
  /-- Pending loss counts and the time of the first loss, by class in the order FATAL, CONTAINED, CORRECTED, WARN, INFO. -/
  lost : SMap (Nat × Nat)
deriving DecidableEq, Repr

/-- A mode transition in progress (R470-R472): its target, whether an automatic trigger made it, the MODE_SET that waits for it,
and when it was accepted. -/
structure Trans where
  target : Nat
  auto : Bool
  origin : Option Origin
  since : Nat
deriving DecidableEq, Repr

/-- The firmware-exchange journal (R485, R486): the job's handle, origin and state, direction, step (1-16) with its cluster,
phase (0 drain, 1 load, 2 self-test, 3 resume), and the pages of the new container. -/
structure Fwx where
  handle : Nat
  origin : Origin
  rollback : Bool
  step : Nat
  cluster : Nat
  phase : Nat
  suspended : Bool
deriving DecidableEq, Repr

/-- Modes, power and reset (R469-R495). The present mode stands in GL_MODE. -/
structure Modes where
  trans : Option Trans
  /-- Triggers that wait for the transition to end, oldest first (R472). -/
  waiting : List Nat
  /-- The clusters have been released: BOOT was left since the last reset (R145, R491). -/
  released : Bool
  /-- Egress has stopped for ISOLATE (R474). -/
  egressOff : Bool
  /-- A container has been accepted, and CPS block 0 written, since the last cold reset (R488). -/
  accepted : Bool
  block0 : Bool
  /-- The image store (R485): physical pages of the current and the new container; the version running. -/
  curPage : Option Nat
  newPage : Option Nat
  fwx : Option Fwx
  /-- A GL_RESET is under way; channels closed by the change in progress (R470, R481). -/
  warm : Bool
  closedNow : Nat
  /-- A THERMOS exit is under way (R478): device time of its wake cause; the configuration shadow (R477). -/
  exitAt : Option Nat
  shadow : SMap Nat
deriving DecidableEq, Repr

end Sys2Proof.Machine
end

