-- ==== Sys2Proof/Machine/Flags.lean ====
section
/-! DEFINITION. The arithmetic of a Dziul core and the status flags it sets (R74-R79, R114-R118). -/
namespace Sys2Proof.Machine

/-- Bit positions of SR (R74). -/
def srC : Nat := 0
def srV : Nat := 1
def srZ : Nat := 2
def srN : Nat := 3
def srE : Nat := 4
def srLV : Nat := 5
def srGV : Nat := 6
def srCBX : Nat := 7
def srIM : Nat := 10
def srGVT : Nat := 11
def srIE : Nat := 12
def srSB : Nat := 13
def srLA : Nat := 14
def srRCA : Nat := 15

def srBit (sr : W24) (i : Nat) : Bool := bit sr.toNat i
def srSet (sr : W24) (i : Nat) (b : Bool) : W24 := BitVec.ofNat 24 (setBits sr.toNat i 1 (b2n b))
/-- The rounding field SR.RND. -/
def srRND (sr : W24) : Nat := bits sr.toNat 8 2

/-- A write of SR by an instruction: the RW fields alone, and RND = 3 leaves RND (R74, R119). -/
def srWrite (old : W24) (v : Nat) : W24 :=
  let rnd := if bits v 8 2 = 3 then srRND old else bits v 8 2
  BitVec.ofNat 24 (setBits (bits v 0 13 + bits old.toNat 13 3 * 2 ^ 13) 8 2 rnd)

/-- SR as a dispatch leaves it (R74, R97). -/
def srDispatch (rnd : Nat) (gvt : Bool) : W24 :=
  BitVec.ofNat 24 (rnd % 4 * 2 ^ 8 + b2n gvt * 2 ^ 11 + 2 ^ 12)

/-- The value of an accumulator. -/
def accInt (a : Nat) : Int := sgn 56 a

/-- A product (R75): exact, doubled in fractional mode. -/
def product (im : Bool) (x y : Nat) : Int :=
  let p := sgn 24 x * sgn 24 y
  if im then p else p * 2

/-- The outcome of an accumulate (R75): the 56-bit result, whether it clamped, and the carry out of bit 55. -/
structure AccOut where
  val : Nat
  clamp : Bool
  carry : Bool
deriving DecidableEq, Repr

/-- Clamps an exact value to 56 bits (R77). -/
def clamp56 (s : Int) : Nat × Bool :=
  if s > 2 ^ 55 - 1 then (unsgn 56 (2 ^ 55 - 1), true)
  else if s < -(2 ^ 55) then (unsgn 56 (-(2 ^ 55)), true)
  else (unsgn 56 s, false)

/-- accumulate(a, d) of R75. DEDUCED: the carry is that of the 56-bit addition of `a` and the operand `d`. -/
def accumulate (a : Nat) (d : Int) : AccOut :=
  let r := clamp56 (accInt a + d)
  ⟨r.1, r.2, decide (a % 2 ^ 56 + unsgn 56 d ≥ 2 ^ 56)⟩

/-- The E flag: the value lies outside the fractional range (R74). -/
def outOfFrac (v : Int) : Bool := decide (v ≥ 2 ^ 47) || decide (v < -(2 ^ 47))

/-- Sets C, V, Z, N and E from an accumulator value (R74). -/
def srAcc (sr : W24) (c v : Bool) (val : Int) : W24 :=
  srSet (srSet (srSet (srSet (srSet sr srC c) srV v) srZ (decide (val = 0))) srN (decide (val < 0))) srE (outOfFrac val)

/-- Sets Z and N from a 24-bit result. -/
def srZN (sr : W24) (v : Nat) : W24 := srSet (srSet sr srZ (v % 2 ^ 24 = 0)) srN (bit v 23)

/-- store24 of R78: the stored word and whether it saturated. -/
def store24 (im : Bool) (rnd : Nat) (a : Nat) : Nat × Bool :=
  let v : Int :=
    if im then accInt a
    else
      let t := accInt a / 2 ^ 24
      if rnd = 0 then t
      else if rnd = 2 ∧ a % 2 ^ 24 = 2 ^ 23 then t + t % 2
      else (accInt a + 2 ^ 23) / 2 ^ 24
  if v > 2 ^ 23 - 1 then (2 ^ 23 - 1, true)
  else if v < -(2 ^ 23) then (2 ^ 23, true)
  else (unsgn 24 v, false)

/-- Redundant sign bits of a `w`-bit value (R116). -/
def rsb (w v : Nat) : Nat :=
  let s := bit v (w - 1)
  ((List.range (w - 1)).map fun i => bit v (w - 2 - i)).takeWhile (· == s) |>.length

/-- The condition codes of R111. -/
def condHolds (sr : W24) (cc : Nat) : Bool :=
  let c := srBit sr srC
  let v := srBit sr srV
  let z := srBit sr srZ
  let n := srBit sr srN
  let e := srBit sr srE
  match cc with
  | 0 => true
  | 1 => z
  | 2 => !z
  | 3 => n
  | 4 => !n
  | 5 => !n && !z
  | 6 => n || z
  | 7 => c
  | 8 => !c
  | 9 => v
  | 10 => !v
  | 11 => e
  | 12 => !e
  | 13 => srBit sr srLV
  | 14 => srBit sr srGV
  | _ => srBit sr srCBX

/-- 24-bit bit reversal (R93). -/
def rev24 (v : Nat) : Nat := (List.range 24).foldl (fun acc i => acc + b2n (bit v i) * 2 ^ (23 - i)) 0

end Sys2Proof.Machine
end

