-- ==== Sys2Proof/Machine/RegMap.lean ====
section
/-! DEFINITION. The register map (R508-R514): where every register stands, its fields, their access codes (R18),
their reset values and the encodings that are not reserved (R8). The tables follow the field tables of the chapters
of spec/. An address is the byte offset within BAR0; BAR2 offsets stand from 0x2000000 and BAR4 offsets from
0x4000000. A field is named by its register and its name; the arguments are the instance numbers. -/
namespace Sys2Proof.Machine

namespace R
def ST_CTRL : Nat := 0x10000
def ST_STATUS : Nat := 0x10004
def ST_EVENT : Nat := 0x10008
def ST_VLIMIT : Nat := 0x1000c
def ST_VSET : Nat := 0x10010
def ST_VREAD : Nat := 0x10014
def ST_STEP : Nat := 0x10018
def ST_TARGET : Nat := 0x1001c
def ST_AVS_CFG : Nat := 0x10020
def ST_REQ : Nat := 0x10024
def ST_SPEED_MIN : Nat := 0x10028
def ST_XING_CNT : Nat := 0x1002c
def ST_AVS_ERR_CNT : Nat := 0x10030
def ST_STEP_CNT : Nat := 0x10034
def ST_AGE_CFG : Nat := 0x10038
def ST_AGE_MIN : Nat := 0x1003c
def ST_SPEED (i : Nat) : Nat := 0x10100 + i * 16
def ST_LOAD (i : Nat) : Nat := 0x10104 + i * 16
def ST_AGE (i : Nat) : Nat := 0x10108 + i * 16
def ST_CAL (i : Nat) : Nat := 0x1010c + i * 16
def CO_CTRL (i : Nat) : Nat := 0x400000 + i * 0x1000
def CO_STATUS (i : Nat) : Nat := 0x400004 + i * 0x1000
def TH_CTRL : Nat := 0x30000
def TH_STATUS : Nat := 0x30004
def TH_EVENT : Nat := 0x30008
def TH_POOL : Nat := 0x3000c
def TH_POOL_HWM : Nat := 0x30010
def TH_ORD : Nat := 0x30014
def TH_FLOW_SEL : Nat := 0x30018
def TH_FLOW_STAT : Nat := 0x3001c
def TH_HIST_SEL : Nat := 0x30020
def TH_HIST_DATA : Nat := 0x30024
def TH_CORE_SEL : Nat := 0x30028
def TH_CORE_BUSY : Nat := 0x3002c
def TH_REFUSE_CNT : Nat := 0x30030
def TH_REFUSE_HOST : Nat := 0x30034
def TH_REPLAY_CNT : Nat := 0x30038
def TH_CANCEL_CNT : Nat := 0x3003c
def TH_CLOAD (i : Nat) : Nat := 0x30100 + i * 8
def TH_MISS (i : Nat) : Nat := 0x30104 + i * 8
def TH_QSTAT (i : Nat) : Nat := 0x30400 + i * 8
def TH_QCFG (i : Nat) : Nat := 0x30404 + i * 8
def HP_CTRL : Nat := 0x40000
def HP_STATUS : Nat := 0x40004
def HP_EVENT : Nat := 0x40008
def HP_CACHE_WAYS : Nat := 0x4000c
def HP_CTX_REGION : Nat := 0x40010
def HP_FT_CFG : Nat := 0x40014
def HP_FT_STAT : Nat := 0x40018
def HP_PAGE_CFG : Nat := 0x4001c
def HP_PAGE_SEL : Nat := 0x40020
def HP_PAGE_DATA : Nat := 0x40024
def HP_WIN_SEL : Nat := 0x40028
def HP_WIN_DATA : Nat := 0x4002c
def HP_EXPORT : Nat := 0x40030
def HP_MIG_CFG : Nat := 0x40034
def HP_ECC_CNT : Nat := 0x40038
def HP_CACHE_CNT : Nat := 0x4003c
def HP_STG_CFG (i : Nat) : Nat := 0x40100 + i * 16
def HP_JOBWIN (i : Nat) : Nat := 0x40104 + i * 16
def HP_CSTAT (i : Nat) : Nat := 0x40108 + i * 16
def HP_CBW (i : Nat) : Nat := 0x4010c + i * 16
def HP_PC_STAT (i : Nat) : Nat := 0x40200 + i * 8
def HP_PC_ERR (i : Nat) : Nat := 0x40204 + i * 8
def EP_CTRL (i : Nat) : Nat := 0x100000 + i * 0x10000
def EP_STATUS (i : Nat) : Nat := 0x100004 + i * 0x10000
def EP_EVENT (i : Nat) : Nat := 0x100008 + i * 0x10000
def EP_PHY_CFG (i : Nat) : Nat := 0x10000c + i * 0x10000
def EP_AN_ADV (i : Nat) : Nat := 0x100010 + i * 0x10000
def EP_AN_STAT (i : Nat) : Nat := 0x100014 + i * 0x10000
def EP_PCS_STAT (i : Nat) : Nat := 0x100018 + i * 0x10000
def EP_FEC_CNT (i : Nat) : Nat := 0x10001c + i * 0x10000
def EP_RX_CFG (i : Nat) : Nat := 0x100020 + i * 0x10000
def EP_TX_CFG (i : Nat) : Nat := 0x100024 + i * 0x10000
def EP_PAUSE_CFG (i : Nat) : Nat := 0x100028 + i * 0x10000
def EP_TS_CORR (i : Nat) : Nat := 0x10002c + i * 0x10000
def EP_TS_STAT (i : Nat) : Nat := 0x100030 + i * 0x10000
def EP_RING_CFG (i : Nat) : Nat := 0x100034 + i * 0x10000
def EP_RSR_WIDX (i : Nat) : Nat := 0x100038 + i * 0x10000
def EP_TCR_WIDX (i : Nat) : Nat := 0x10003c + i * 0x10000
def EP_UCAST_LO (i j : Nat) : Nat := 0x100040 + i * 0x10000 + j * 8
def EP_UCAST_HI (i j : Nat) : Nat := 0x100044 + i * 0x10000 + j * 8
def EP_TXQ (i j : Nat) : Nat := 0x100080 + i * 0x10000 + j * 4
def EP_PFC_STAT (i j : Nat) : Nat := 0x1000a0 + i * 0x10000 + j * 4
def EP_CNT (i j : Nat) : Nat := 0x1000c0 + i * 0x10000 + j * 4
def EP_HOSTF (i j : Nat) : Nat := 0x100100 + i * 0x10000 + j * 4
def MG_CTRL : Nat := 0xa0000
def MG_STATUS : Nat := 0xa0004
def MG_EVENT : Nat := 0xa0008
def MG_MAC_CFG : Nat := 0xa000c
def MG_ADDR_LO : Nat := 0xa0010
def MG_SRCF_LO (i : Nat) : Nat := 0xa0040 + i * 8
def MG_ADDR_HI : Nat := 0xa0014
def MG_SRCF_HI (i : Nat) : Nat := 0xa0044 + i * 8
def MG_PLCA : Nat := 0xa0018
def MG_GUARD : Nat := 0xa001c
def MG_CNT (i : Nat) : Nat := 0xa0020 + i * 4
def MG_WAKE_CFG : Nat := 0xa00c0
def MG_WAKE_SEL : Nat := 0xa00c4
def MG_WAKE_DATA : Nat := 0xa00c8
def MG_WAKE_STAT : Nat := 0xa00cc
def MG_MSG_CFG : Nat := 0xa00d0
def MG_MSG_STAT : Nat := 0xa00d4
def MG_LISTEN : Nat := 0xa00d8
def MG_RATE : Nat := 0xa00dc
def CP_CTRL : Nat := 0x50000
def CP_STATUS : Nat := 0x50004
def CP_EVENT : Nat := 0x50008
def CP_SRC_CFG : Nat := 0x5000c
def CP_LOOP : Nat := 0x50010
def CP_FREQ : Nat := 0x50014
def CP_FREQ_ACT : Nat := 0x50018
def CP_HOLD : Nat := 0x50050
def CP_ADJ : Nat := 0x5001c
def CP_NS_LO : Nat := 0x50020
def CP_NS_HI : Nat := 0x50024
def CP_SEC_LO : Nat := 0x50028
def CP_SET_SEC_LO : Nat := 0x50034
def CP_SEC_HI : Nat := 0x5002c
def CP_SET_SEC_HI : Nat := 0x50038
def CP_NSEC : Nat := 0x50030
def CP_SET_NSEC : Nat := 0x5003c
def CP_PD : Nat := 0x50040
def CP_PPS_OUT : Nat := 0x50044
def CP_RECCLK : Nat := 0x50048
def CP_SERVO : Nat := 0x5004c
def CP_CNT : Nat := 0x50054
def CP_CAP_CFG (i : Nat) : Nat := 0x50060 + i * 16
def CP_CAP_NS (i : Nat) : Nat := 0x50064 + i * 16
def CP_CAP_SEC (i : Nat) : Nat := 0x50068 + i * 16
def TD_CTRL : Nat := 0xb0000
def TD_STATUS : Nat := 0xb0004
def TD_EVENT : Nat := 0xb0008
def TD_SLOT_SEL : Nat := 0xb000c
def TD_SLOT_DATA : Nat := 0xb0010
def TD_IDLE : Nat := 0xb0014
def TD_LAST_COL : Nat := 0xb0018
def TD_CNT : Nat := 0xb001c
def TD_HCFG (i : Nat) : Nat := 0xb0100 + i * 16
def TD_HSTAT (i : Nat) : Nat := 0xb0104 + i * 16
def TD_HCNT (i : Nat) : Nat := 0xb0108 + i * 16
def TD_HFILL (i : Nat) : Nat := 0xb010c + i * 16
def BS_CTRL : Nat := 0xc0000
def BS_STATUS : Nat := 0xc0004
def BS_EVENT : Nat := 0xc0008
def BS_CLK_CFG : Nat := 0xc000c
def BS_COEF_SEL : Nat := 0xc0010
def BS_COEF_DATA : Nat := 0xc0014
def BS_MAP_CNT : Nat := 0xc0018
def BS_RATIO_ADDR : Nat := 0xc001c
def BS_SYNC_NS_LO : Nat := 0xc0020
def BS_SYNC_NS_HI : Nat := 0xc0024
def BS_SYNC_STAT : Nat := 0xc0028
def BS_CNT : Nat := 0xc002c
def BS_LOSS_CNT : Nat := 0xc0030
def BS_GD_SEL : Nat := 0xc0034
def BS_GD : Nat := 0xc0038
def BS_TIMED : Nat := 0xc003c
def BS_GCFG (i : Nat) : Nat := 0xc0100 + i * 32
def BS_GCHAIN (i : Nat) : Nat := 0xc0104 + i * 32
def BS_GSHI (i : Nat) : Nat := 0xc0108 + i * 32
def BS_GSHC (i : Nat) : Nat := 0xc010c + i * 32
def BS_GFIR (i : Nat) : Nat := 0xc0110 + i * 32
def BS_GRSMP (i : Nat) : Nat := 0xc0114 + i * 32
def BS_CH (i : Nat) : Nat := 0xc0400 + i * 4
def LM_CTRL : Nat := 0xd0000
def LM_STATUS : Nat := 0xd0004
def LM_EVENT : Nat := 0xd0008
def LM_CFG : Nat := 0xd000c
def LM_SCAN_ADDR : Nat := 0xd0010
def LM_REC_ADDR : Nat := 0xd0014
def LM_REC_WIDX : Nat := 0xd0018
def LM_CNT : Nat := 0xd001c
def LM_RLY (i : Nat) : Nat := 0xd0040 + i * 4
def LM_INT (i : Nat) : Nat := 0xd0060 + i * 4
def LM_AIN (i : Nat) : Nat := 0xd0100 + i * 4
def RK_CTRL : Nat := 0x80000
def RK_STATUS : Nat := 0x80004
def RK_EVENT : Nat := 0x80008
def RK_CELL : Nat := 0x8000c
def RK_QSTAT : Nat := 0x80010
def RK_QHWM : Nat := 0x80014
def RK_CNT : Nat := 0x80018
def RK_REPLAY_CNT : Nat := 0x8001c
def RK_JOBS_LO : Nat := 0x80020
def RK_JOBS_HI : Nat := 0x80024
def RK_IN_LO : Nat := 0x80028
def RK_IN_HI : Nat := 0x8002c
def RK_OUT_LO : Nat := 0x80030
def RK_OUT_HI : Nat := 0x80034
def RK_WAIT_MAX : Nat := 0x80038
def RK_TEST : Nat := 0x8003c
def RK_ENG (i : Nat) : Nat := 0x80100 + i * 16
def RK_EJOBS (i : Nat) : Nat := 0x80104 + i * 16
def RK_EIN (i : Nat) : Nat := 0x80108 + i * 16
def RK_EOUT (i : Nat) : Nat := 0x8010c + i * 16
def RK_DCNT (i : Nat) : Nat := 0x80200 + i * 4
def HI_CTRL : Nat := 0x20000
def HI_STATUS : Nat := 0x20004
def HI_EVENT : Nat := 0x20008
def HI_POLL : Nat := 0x2000c
def HI_DB_LO : Nat := 0x20010
def HI_HEAD_LO : Nat := 0x20018
def HI_DB_HI : Nat := 0x20014
def HI_HEAD_HI : Nat := 0x2001c
def HI_JOBS : Nat := 0x20020
def HI_CMD_LO : Nat := 0x20024
def HI_CMD_HI : Nat := 0x20028
def HI_ERR_CNT : Nat := 0x2002c
def HI_DROP_CNT : Nat := 0x20030
def HI_PCIE_STAT : Nat := 0x20034
def HI_PCIE_ERR : Nat := 0x20038
def HI_MOD (i : Nat) : Nat := 0x20040 + i * 4
def HI_RBASE_LO (i : Nat) : Nat := 0x20100 + i * 16
def HI_RBASE_HI (i : Nat) : Nat := 0x20104 + i * 16
def HI_RCFG (i : Nat) : Nat := 0x20108 + i * 16
def HI_RSTAT (i : Nat) : Nat := 0x2010c + i * 16
def HI_NUDGE : Nat := 0x4000000
def TW_CTRL : Nat := 0x90000
def TW_STATUS : Nat := 0x90004
def TW_EVENT : Nat := 0x90008
def TW_ID : Nat := 0x9000c
def TW_NET : Nat := 0x90010
def TW_HB : Nat := 0x90014
def TW_LINK_SEL : Nat := 0x90018
def TW_LINK_DATA : Nat := 0x9001c
def TW_KEY_SEL : Nat := 0x90020
def TW_KEY_DATA : Nat := 0x90024
def TW_EPOCH : Nat := 0x90028
def TW_MIRROR : Nat := 0x9002c
def TW_LINKS_LO : Nat := 0x90030
def TW_LINKS_HI : Nat := 0x90034
def TW_TWIN : Nat := 0x90038
def TW_TKO : Nat := 0x9003c
def TW_PRI_CFG (i : Nat) : Nat := 0x90100 + i * 32
def TW_PRI_SHADOW (i : Nat) : Nat := 0x90104 + i * 32
def TW_PRI_LOG (i : Nat) : Nat := 0x90108 + i * 32
def TW_PRI_STAT (i : Nat) : Nat := 0x9010c + i * 32
def TW_PRI_LAG (i : Nat) : Nat := 0x90110 + i * 32
def TW_PRI_ADDR (i : Nat) : Nat := 0x90114 + i * 32
def TW_CNT (i : Nat) : Nat := 0x90200 + i * 4
def RL_CTRL : Nat := 0x60000
def RL_STATUS : Nat := 0x60004
def RL_EVENT : Nat := 0x60008
def RL_FIFO_STAT : Nat := 0x6000c
def RL_LOST_A : Nat := 0x60010
def RL_LOST_B : Nat := 0x60014
def RL_LOST_C : Nat := 0x60018
def RL_FAULT_CNT : Nat := 0x6001c
def RL_SCRUB_CFG : Nat := 0x60020
def RL_SCRUB_STAT : Nat := 0x60024
def RL_LIFE : Nat := 0x60028
def RL_EQUIV : Nat := 0x6002c
def RL_SPARES : Nat := 0x60030
def RL_CORE_CMD : Nat := 0x60034
def RL_THRESH : Nat := 0x60038
def RL_FIRST_CTRL : Nat := 0x6003c
def RL_FIRST (i : Nat) : Nat := 0x60040 + i * 4
def RL_CL_REPAIR (i : Nat) : Nat := 0x60100 + i * 8
def RL_CL_ERR (i : Nat) : Nat := 0x60104 + i * 8
def RL_FIFO (i : Nat) : Nat := 0x60200 + i * 4
def GL_ID : Nat := 0x0
def GL_MODE : Nat := 0x4
def GL_STATUS : Nat := 0x8
def GL_EVENT : Nat := 0xc
def GL_CTRL : Nat := 0x10
def GL_STRAP : Nat := 0x14
def GL_RESET_CAUSE : Nat := 0x18
def GL_BOOT_STAT : Nat := 0x1c
def GL_SCRATCH (i : Nat) : Nat := 0x100 + i * 4
def PW_CTRL : Nat := 0x70000
def PW_STATUS : Nat := 0x70004
def PW_EVENT : Nat := 0x70008
def PW_TIMES : Nat := 0x7000c
def PW_POWER : Nat := 0x70010
def PW_JOURNAL : Nat := 0x70014
def PW_IMAGE : Nat := 0x70018
def PW_UV_CNT : Nat := 0x7001c
def PW_CL (i : Nat) : Nat := 0x70100 + i * 8
def PW_FWX (i : Nat) : Nat := 0x70104 + i * 8
def PW_RAIL (i : Nat) : Nat := 0x70200 + i * 4
def LN_MBX_CMD : Nat := 0x2000000
def LN_MBX_STAT : Nat := 0x2000004
def LN_MBX_ARG (i : Nat) : Nat := 0x2000008 + i * 4
def LN_MBX_RES (i : Nat) : Nat := 0x2000028 + i * 4
def LN_EVENT : Nat := 0x2000038
def LN_IGNORED : Nat := 0x200003c
def CL_STATUS (i : Nat) : Nat := 0x200000 + i * 0x10000
def CL_EVENT (i : Nat) : Nat := 0x200004 + i * 0x10000
def CL_CTRL (i : Nat) : Nat := 0x200008 + i * 0x10000
def CL_PATCH_SEL (i : Nat) : Nat := 0x20000c + i * 0x10000
def CL_PATCH_DATA (i : Nat) : Nat := 0x200010 + i * 0x10000
def CL_ROM_VER (i : Nat) : Nat := 0x200014 + i * 0x10000
def CL_CSM_STAT (i : Nat) : Nat := 0x200018 + i * 0x10000
def CL_CSM_ROWLOG (i : Nat) : Nat := 0x20001c + i * 0x10000
def CL_CPS_ROWLOG (i : Nat) : Nat := 0x200020 + i * 0x10000
def CL_SELFTEST (i : Nat) : Nat := 0x200024 + i * 0x10000
def CL_ROWLOG (i : Nat) : Nat := 0x200040 + i / 9 * 0x10000 + i % 9 * 4
def CL_OVL_CNT (i : Nat) : Nat := 0x200080 + i / 9 * 0x10000 + i % 9 * 4
def CL_CSM_WAIT (i : Nat) : Nat := 0x2000c0 + i / 9 * 0x10000 + i % 9 * 4
end R

namespace F
def ST_CTRL_EN : Fld := ⟨R.ST_CTRL, 0, 1, 1⟩
def ST_CTRL_MODE : Fld := ⟨R.ST_CTRL, 1, 2, 0⟩
def ST_CTRL_LOWER_EN : Fld := ⟨R.ST_CTRL, 3, 1, 1⟩
def ST_CTRL_AGE_EN : Fld := ⟨R.ST_CTRL, 4, 1, 1⟩
def ST_STATUS_AT_VMAX : Fld := ⟨R.ST_STATUS, 0, 1, 0⟩
def ST_STATUS_AT_VMIN : Fld := ⟨R.ST_STATUS, 1, 1, 0⟩
def ST_STATUS_BELOW_FLOOR : Fld := ⟨R.ST_STATUS, 2, 1, 0⟩
def ST_STATUS_REF_LOST : Fld := ⟨R.ST_STATUS, 3, 1, 0⟩
def ST_STATUS_AVS_FAULT : Fld := ⟨R.ST_STATUS, 4, 1, 0⟩
def ST_STATUS_SETTLING : Fld := ⟨R.ST_STATUS, 5, 1, 0⟩
def ST_STATUS_WORST : Fld := ⟨R.ST_STATUS, 8, 4, 0⟩
def ST_EVENT_AT_VMAX : Fld := ⟨R.ST_EVENT, 0, 1, 0⟩
def ST_EVENT_BELOW_FLOOR : Fld := ⟨R.ST_EVENT, 1, 1, 0⟩
def ST_EVENT_REF_LOST : Fld := ⟨R.ST_EVENT, 2, 1, 0⟩
def ST_EVENT_AVS_FAULT : Fld := ⟨R.ST_EVENT, 3, 1, 0⟩
def ST_EVENT_AGE_WARN : Fld := ⟨R.ST_EVENT, 4, 1, 0⟩
def ST_EVENT_AGE_LIMIT : Fld := ⟨R.ST_EVENT, 5, 1, 0⟩
def ST_EVENT_XING : Fld := ⟨R.ST_EVENT, 6, 1, 0⟩
def ST_EVENT_MISS_RAISE : Fld := ⟨R.ST_EVENT, 7, 1, 0⟩
def ST_VLIMIT_VMIN_MV : Fld := ⟨R.ST_VLIMIT, 0, 10, 680⟩
def ST_VLIMIT_VMAX_MV : Fld := ⟨R.ST_VLIMIT, 16, 10, 900⟩
def ST_VSET_CMD_MV : Fld := ⟨R.ST_VSET, 0, 10, 800⟩
def ST_VSET_FIXED_MV : Fld := ⟨R.ST_VSET, 16, 10, 800⟩
def ST_VREAD_V_MV : Fld := ⟨R.ST_VREAD, 0, 10, 0⟩
def ST_VREAD_I_QA : Fld := ⟨R.ST_VREAD, 16, 10, 0⟩
def ST_STEP_STEP_MV : Fld := ⟨R.ST_STEP, 0, 5, 5⟩
def ST_STEP_LOWER_EPOCHS : Fld := ⟨R.ST_STEP, 8, 4, 4⟩
def ST_STEP_MISS_STEPS : Fld := ⟨R.ST_STEP, 12, 4, 4⟩
def ST_STEP_SETTLE : Fld := ⟨R.ST_STEP, 16, 10, 50⟩
def ST_TARGET_UTIL_TARGET : Fld := ⟨R.ST_TARGET, 0, 8, 192⟩
def ST_TARGET_GUARD : Fld := ⟨R.ST_TARGET, 8, 8, 8⟩
def ST_TARGET_HYST : Fld := ⟨R.ST_TARGET, 16, 8, 13⟩
def ST_AVS_CFG_CLK_SEL : Fld := ⟨R.ST_AVS_CFG, 0, 2, 2⟩
def ST_AVS_CFG_RAIL : Fld := ⟨R.ST_AVS_CFG, 2, 4, 0⟩
def ST_AVS_CFG_RETRIES : Fld := ⟨R.ST_AVS_CFG, 8, 2, 3⟩
def ST_REQ_NEED : Fld := ⟨R.ST_REQ, 0, 16, 0⟩
def ST_REQ_CLUSTER : Fld := ⟨R.ST_REQ, 16, 4, 0⟩
def ST_REQ_SOURCE : Fld := ⟨R.ST_REQ, 20, 1, 0⟩
def ST_SPEED_MIN_MIN : Fld := ⟨R.ST_SPEED_MIN, 0, 16, 65535⟩
def ST_SPEED_MIN_CLUSTER : Fld := ⟨R.ST_SPEED_MIN, 16, 4, 0⟩
def ST_SPEED_MIN_RESTART : Fld := ⟨R.ST_SPEED_MIN, 31, 1, 0⟩
def ST_XING_CNT_COUNT : Fld := ⟨R.ST_XING_CNT, 0, 16, 0⟩
def ST_AVS_ERR_CNT_COUNT : Fld := ⟨R.ST_AVS_ERR_CNT, 0, 16, 0⟩
def ST_STEP_CNT_RAISES : Fld := ⟨R.ST_STEP_CNT, 0, 16, 0⟩
def ST_STEP_CNT_LOWERS : Fld := ⟨R.ST_STEP_CNT, 16, 16, 0⟩
def ST_AGE_CFG_INTERVAL_H : Fld := ⟨R.ST_AGE_CFG, 0, 16, 24⟩
def ST_AGE_CFG_WARN : Fld := ⟨R.ST_AGE_CFG, 16, 10, 945⟩
def ST_AGE_MIN_INDEX : Fld := ⟨R.ST_AGE_MIN, 0, 10, 1000⟩
def ST_AGE_MIN_CLUSTER : Fld := ⟨R.ST_AGE_MIN, 16, 4, 0⟩
def ST_SPEED_SPEED (i : Nat) : Fld := ⟨R.ST_SPEED i, 0, 16, 0⟩
def ST_SPEED_NCORES (i : Nat) : Fld := ⟨R.ST_SPEED i, 16, 4, 0⟩
def ST_LOAD_BUSY (i : Nat) : Fld := ⟨R.ST_LOAD i, 0, 10, 0⟩
def ST_LOAD_ACTIVE (i : Nat) : Fld := ⟨R.ST_LOAD i, 10, 4, 0⟩
def ST_LOAD_COMMITTED (i : Nat) : Fld := ⟨R.ST_LOAD i, 16, 16, 0⟩
def ST_AGE_INDEX (i : Nat) : Fld := ⟨R.ST_AGE i, 0, 10, 1000⟩
def ST_CAL_RING_COEF (i : Nat) : Fld := ⟨R.ST_CAL i, 0, 16, 0⟩
def ST_CAL_AGE_REF (i : Nat) : Fld := ⟨R.ST_CAL i, 16, 10, 0⟩
def CO_CTRL_RND_INIT (i : Nat) : Fld := ⟨R.CO_CTRL i, 0, 2, 1⟩
def CO_CTRL_GVT_INIT (i : Nat) : Fld := ⟨R.CO_CTRL i, 2, 1, 0⟩
def CO_CTRL_FAULT_INT (i : Nat) : Fld := ⟨R.CO_CTRL i, 3, 1, 0⟩
def CO_CTRL_INJECT (i : Nat) : Fld := ⟨R.CO_CTRL i, 8, 2, 0⟩
def CO_CTRL_CLR_CNT (i : Nat) : Fld := ⟨R.CO_CTRL i, 10, 1, 0⟩
def CO_STATUS_STATE (i : Nat) : Fld := ⟨R.CO_STATUS i, 0, 2, if i % 9 = 8 then 0 else 1⟩
def CO_STATUS_WAITING (i : Nat) : Fld := ⟨R.CO_STATUS i, 2, 1, 0⟩
def CO_STATUS_IN_NODE (i : Nat) : Fld := ⟨R.CO_STATUS i, 3, 1, 0⟩
def CO_STATUS_SHADOW (i : Nat) : Fld := ⟨R.CO_STATUS i, 4, 1, 0⟩
def CO_STATUS_OVL_BUSY (i : Nat) : Fld := ⟨R.CO_STATUS i, 5, 1, 0⟩
def CO_STATUS_GVT_SAT (i : Nat) : Fld := ⟨R.CO_STATUS i, 6, 1, 0⟩
def CO_STATUS_LOGICAL (i : Nat) : Fld := ⟨R.CO_STATUS i, 8, 7, if i % 9 = 8 then 0 else 8 * (i / 9) + i % 9⟩
def CO_STATUS_MAPPED (i : Nat) : Fld := ⟨R.CO_STATUS i, 15, 1, if i % 9 = 8 then 0 else 1⟩
def CO_STATUS_LAST_FAULT (i : Nat) : Fld := ⟨R.CO_STATUS i, 16, 4, 0⟩
def CO_STATUS_LAST_LANE (i : Nat) : Fld := ⟨R.CO_STATUS i, 20, 2, 0⟩
def CO_STATUS_FAULT_CNT (i : Nat) : Fld := ⟨R.CO_STATUS i, 24, 8, 0⟩
def TH_CTRL_PREEMPT_MIN : Fld := ⟨R.TH_CTRL, 0, 3, 2⟩
def TH_CTRL_PREEMPT_EN : Fld := ⟨R.TH_CTRL, 3, 1, 1⟩
def TH_CTRL_MISS_EVT : Fld := ⟨R.TH_CTRL, 4, 1, 1⟩
def TH_CTRL_DROP_EVT : Fld := ⟨R.TH_CTRL, 5, 1, 1⟩
def TH_CTRL_STALL_MS : Fld := ⟨R.TH_CTRL, 8, 16, 100⟩
def TH_STATUS_REBUILDING : Fld := ⟨R.TH_STATUS, 0, 1, 0⟩
def TH_STATUS_REBUILD_CL : Fld := ⟨R.TH_STATUS, 1, 4, 0⟩
def TH_STATUS_POOL_LOW : Fld := ⟨R.TH_STATUS, 5, 1, 0⟩
def TH_STATUS_ORD_LOW : Fld := ⟨R.TH_STATUS, 6, 1, 0⟩
def TH_STATUS_TOMB_FULL : Fld := ⟨R.TH_STATUS, 7, 1, 0⟩
def TH_STATUS_STALLED : Fld := ⟨R.TH_STATUS, 8, 15, 0⟩
def TH_EVENT_POOL_FULL : Fld := ⟨R.TH_EVENT, 0, 1, 0⟩
def TH_EVENT_QUEUE_FULL : Fld := ⟨R.TH_EVENT, 1, 1, 0⟩
def TH_EVENT_WINDOW_FULL : Fld := ⟨R.TH_EVENT, 2, 1, 0⟩
def TH_EVENT_HW_DROP : Fld := ⟨R.TH_EVENT, 3, 1, 0⟩
def TH_EVENT_MISS : Fld := ⟨R.TH_EVENT, 4, 1, 0⟩
def TH_EVENT_REBUILD : Fld := ⟨R.TH_EVENT, 5, 1, 0⟩
def TH_EVENT_STALL : Fld := ⟨R.TH_EVENT, 6, 1, 0⟩
def TH_EVENT_TOMB_FULL : Fld := ⟨R.TH_EVENT, 7, 1, 0⟩
def TH_EVENT_MALFORMED : Fld := ⟨R.TH_EVENT, 8, 1, 0⟩
def TH_POOL_IN_USE : Fld := ⟨R.TH_POOL, 0, 17, 0⟩
def TH_POOL_HWM_HWM : Fld := ⟨R.TH_POOL_HWM, 0, 17, 0⟩
def TH_POOL_HWM_RESTART : Fld := ⟨R.TH_POOL_HWM, 31, 1, 0⟩
def TH_ORD_HELD : Fld := ⟨R.TH_ORD, 0, 16, 0⟩
def TH_ORD_HWM : Fld := ⟨R.TH_ORD, 16, 16, 0⟩
def TH_FLOW_SEL_FLOW : Fld := ⟨R.TH_FLOW_SEL, 0, 14, 0⟩
def TH_FLOW_STAT_NEXT : Fld := ⟨R.TH_FLOW_STAT, 0, 16, 0⟩
def TH_FLOW_STAT_HELD : Fld := ⟨R.TH_FLOW_STAT, 16, 7, 0⟩
def TH_FLOW_STAT_STALLED : Fld := ⟨R.TH_FLOW_STAT, 23, 1, 0⟩
def TH_HIST_SEL_QUEUE : Fld := ⟨R.TH_HIST_SEL, 0, 7, 0⟩
def TH_HIST_SEL_BIN : Fld := ⟨R.TH_HIST_SEL, 8, 4, 0⟩
def TH_HIST_DATA_COUNT : Fld := ⟨R.TH_HIST_DATA, 0, 24, 0⟩
def TH_CORE_SEL_LOGICAL : Fld := ⟨R.TH_CORE_SEL, 0, 7, 0⟩
def TH_CORE_BUSY_BUSY : Fld := ⟨R.TH_CORE_BUSY, 0, 10, 0⟩
def TH_CORE_BUSY_MAPPED : Fld := ⟨R.TH_CORE_BUSY, 10, 1, 0⟩
def TH_CORE_BUSY_DISPATCHES : Fld := ⟨R.TH_CORE_BUSY, 16, 16, 0⟩
def TH_REFUSE_CNT_CORE : Fld := ⟨R.TH_REFUSE_CNT, 0, 16, 0⟩
def TH_REFUSE_CNT_HW : Fld := ⟨R.TH_REFUSE_CNT, 16, 16, 0⟩
def TH_REFUSE_HOST_HOST : Fld := ⟨R.TH_REFUSE_HOST, 0, 16, 0⟩
def TH_REFUSE_HOST_MALFORMED : Fld := ⟨R.TH_REFUSE_HOST, 16, 16, 0⟩
def TH_REPLAY_CNT_REPLAYS : Fld := ⟨R.TH_REPLAY_CNT, 0, 16, 0⟩
def TH_REPLAY_CNT_PREEMPTS : Fld := ⟨R.TH_REPLAY_CNT, 16, 16, 0⟩
def TH_CANCEL_CNT_CANCELS : Fld := ⟨R.TH_CANCEL_CNT, 0, 16, 0⟩
def TH_CANCEL_CNT_TOMBS : Fld := ⟨R.TH_CANCEL_CNT, 16, 11, 0⟩
def TH_CLOAD_RUNNING (i : Nat) : Fld := ⟨R.TH_CLOAD i, 0, 4, 0⟩
def TH_CLOAD_WAITING (i : Nat) : Fld := ⟨R.TH_CLOAD i, 4, 4, 0⟩
def TH_CLOAD_QUEUED (i : Nat) : Fld := ⟨R.TH_CLOAD i, 8, 17, 0⟩
def TH_MISS_MISSES (i : Nat) : Fld := ⟨R.TH_MISS i, 0, 16, 0⟩
def TH_MISS_WORST_US (i : Nat) : Fld := ⟨R.TH_MISS i, 16, 16, 0⟩
def TH_QSTAT_DEPTH (i : Nat) : Fld := ⟨R.TH_QSTAT i, 0, 17, 0⟩
def TH_QSTAT_OLDEST_US (i : Nat) : Fld := ⟨R.TH_QSTAT i, 17, 15, 0⟩
def TH_QCFG_LIMIT (i : Nat) : Fld := ⟨R.TH_QCFG i, 0, 17, 65536⟩
def TH_QCFG_HIST_EN (i : Nat) : Fld := ⟨R.TH_QCFG i, 17, 1, 1⟩
def TH_QCFG_CLR_HIST (i : Nat) : Fld := ⟨R.TH_QCFG i, 18, 1, 0⟩
def HP_CTRL_CE_EVT : Fld := ⟨R.HP_CTRL, 0, 1, 1⟩
def HP_CTRL_WIN_EN : Fld := ⟨R.HP_CTRL, 1, 1, 0⟩
def HP_CTRL_EXPORT_EN : Fld := ⟨R.HP_CTRL, 2, 1, 0⟩
def HP_CTRL_CBW_WRAP_EVT : Fld := ⟨R.HP_CTRL, 3, 1, 0⟩
def HP_CTRL_REMOTE_TMO_MS : Fld := ⟨R.HP_CTRL, 8, 8, 10⟩
def HP_STATUS_MOVES : Fld := ⟨R.HP_STATUS, 0, 3, 0⟩
def HP_STATUS_SPARE_LOW : Fld := ⟨R.HP_STATUS, 3, 1, 0⟩
def HP_STATUS_CTX_LOW : Fld := ⟨R.HP_STATUS, 4, 1, 0⟩
def HP_EVENT_HBM_CE : Fld := ⟨R.HP_EVENT, 0, 1, 0⟩
def HP_EVENT_HBM_UE : Fld := ⟨R.HP_EVENT, 1, 1, 0⟩
def HP_EVENT_POISON : Fld := ⟨R.HP_EVENT, 2, 1, 0⟩
def HP_EVENT_CACHE_PAR : Fld := ⟨R.HP_EVENT, 3, 1, 0⟩
def HP_EVENT_MIG_DONE : Fld := ⟨R.HP_EVENT, 4, 1, 0⟩
def HP_EVENT_UNMAPPED : Fld := ⟨R.HP_EVENT, 5, 1, 0⟩
def HP_EVENT_FT_FULL : Fld := ⟨R.HP_EVENT, 6, 1, 0⟩
def HP_EVENT_REMOTE_ERR : Fld := ⟨R.HP_EVENT, 7, 1, 0⟩
def HP_CACHE_WAYS_ENABLE : Fld := ⟨R.HP_CACHE_WAYS, 0, 16, 65535⟩
def HP_CACHE_WAYS_FAILED : Fld := ⟨R.HP_CACHE_WAYS, 16, 16, 0⟩
def HP_CTX_REGION_FIRST_PAGE : Fld := ⟨R.HP_CTX_REGION, 0, 13, 0⟩
def HP_CTX_REGION_PAGES : Fld := ⟨R.HP_CTX_REGION, 16, 14, 512⟩
def HP_FT_CFG_PAGE : Fld := ⟨R.HP_FT_CFG, 0, 13, 512⟩
def HP_FT_CFG_WILD_EN : Fld := ⟨R.HP_FT_CFG, 16, 1, 1⟩
def HP_FT_STAT_ENTRIES : Fld := ⟨R.HP_FT_STAT, 0, 16, 0⟩
def HP_FT_STAT_MISSES : Fld := ⟨R.HP_FT_STAT, 16, 16, 0⟩
def HP_PAGE_CFG_SPARES : Fld := ⟨R.HP_PAGE_CFG, 0, 8, 64⟩
def HP_PAGE_CFG_FREE : Fld := ⟨R.HP_PAGE_CFG, 8, 8, 64⟩
def HP_PAGE_SEL_PAGE : Fld := ⟨R.HP_PAGE_SEL, 0, 13, 0⟩
def HP_PAGE_DATA_PHYS : Fld := ⟨R.HP_PAGE_DATA, 0, 13, 0⟩
def HP_PAGE_DATA_MAPPED : Fld := ⟨R.HP_PAGE_DATA, 13, 1, 1⟩
def HP_PAGE_DATA_MOVING : Fld := ⟨R.HP_PAGE_DATA, 14, 1, 0⟩
def HP_PAGE_DATA_POISONED : Fld := ⟨R.HP_PAGE_DATA, 15, 1, 0⟩
def HP_PAGE_DATA_LINES : Fld := ⟨R.HP_PAGE_DATA, 16, 15, 0⟩
def HP_WIN_SEL_SLOT : Fld := ⟨R.HP_WIN_SEL, 0, 8, 1⟩
def HP_WIN_DATA_PEER : Fld := ⟨R.HP_WIN_DATA, 0, 14, 0⟩
def HP_WIN_DATA_VALID : Fld := ⟨R.HP_WIN_DATA, 14, 1, 0⟩
def HP_WIN_DATA_LINK : Fld := ⟨R.HP_WIN_DATA, 16, 6, 0⟩
def HP_EXPORT_FIRST_PAGE : Fld := ⟨R.HP_EXPORT, 0, 13, 0⟩
def HP_EXPORT_PAGES : Fld := ⟨R.HP_EXPORT, 16, 14, 0⟩
def HP_MIG_CFG_RATE : Fld := ⟨R.HP_MIG_CFG, 0, 8, 16⟩
def HP_ECC_CNT_CE : Fld := ⟨R.HP_ECC_CNT, 0, 16, 0⟩
def HP_ECC_CNT_UE : Fld := ⟨R.HP_ECC_CNT, 16, 16, 0⟩
def HP_CACHE_CNT_PARITY : Fld := ⟨R.HP_CACHE_CNT, 0, 16, 0⟩
def HP_CACHE_CNT_REMOTE_ERR : Fld := ⟨R.HP_CACHE_CNT, 16, 16, 0⟩
def HP_STG_CFG_SLOTS (i : Nat) : Fld := ⟨R.HP_STG_CFG i, 0, 7, 64⟩
def HP_STG_CFG_READ_KW (i : Nat) : Fld := ⟨R.HP_STG_CFG i, 8, 4, 4⟩
def HP_STG_CFG_WRITE_KW (i : Nat) : Fld := ⟨R.HP_STG_CFG i, 12, 4, 4⟩
def HP_JOBWIN_KW_PER_CORE (i : Nat) : Fld := ⟨R.HP_JOBWIN i, 0, 7, 4⟩
def HP_CSTAT_SLOTS_USED (i : Nat) : Fld := ⟨R.HP_CSTAT i, 0, 7, 0⟩
def HP_CSTAT_WAITING (i : Nat) : Fld := ⟨R.HP_CSTAT i, 8, 8, 0⟩
def HP_CSTAT_WAIT_HWM (i : Nat) : Fld := ⟨R.HP_CSTAT i, 16, 8, 0⟩
def HP_CBW_KBYTES (i : Nat) : Fld := ⟨R.HP_CBW i, 0, 32, 0⟩
def HP_PC_STAT_LANES_REMAPPED (i : Nat) : Fld := ⟨R.HP_PC_STAT i, 0, 4, 0⟩
def HP_PC_STAT_LANES_LEFT (i : Nat) : Fld := ⟨R.HP_PC_STAT i, 4, 4, 2⟩
def HP_PC_STAT_PPR_LEFT (i : Nat) : Fld := ⟨R.HP_PC_STAT i, 8, 8, 0⟩
def HP_PC_STAT_TRAINED (i : Nat) : Fld := ⟨R.HP_PC_STAT i, 16, 1, 0⟩
def HP_PC_STAT_SELF_REFRESH (i : Nat) : Fld := ⟨R.HP_PC_STAT i, 17, 1, 0⟩
def HP_PC_ERR_CE (i : Nat) : Fld := ⟨R.HP_PC_ERR i, 0, 16, 0⟩
def HP_PC_ERR_UE (i : Nat) : Fld := ⟨R.HP_PC_ERR i, 16, 16, 0⟩
def EP_CTRL_EN (i : Nat) : Fld := ⟨R.EP_CTRL i, 0, 1, 0⟩
def EP_CTRL_ROLES (i : Nat) : Fld := ⟨R.EP_CTRL i, 1, 4, 0⟩
def EP_CTRL_PORT_RESET (i : Nat) : Fld := ⟨R.EP_CTRL i, 8, 1, 0⟩
def EP_CTRL_LOOPBACK (i : Nat) : Fld := ⟨R.EP_CTRL i, 9, 2, 0⟩
def EP_STATUS_LINK (i : Nat) : Fld := ⟨R.EP_STATUS i, 0, 1, 0⟩
def EP_STATUS_SPEED (i : Nat) : Fld := ⟨R.EP_STATUS i, 1, 1, 0⟩
def EP_STATUS_FEC_ACT (i : Nat) : Fld := ⟨R.EP_STATUS i, 2, 2, 0⟩
def EP_STATUS_AN_DONE (i : Nat) : Fld := ⟨R.EP_STATUS i, 4, 1, 0⟩
def EP_STATUS_PAUSE_IGNORED (i : Nat) : Fld := ⟨R.EP_STATUS i, 5, 1, 0⟩
def EP_STATUS_PAUSED (i : Nat) : Fld := ⟨R.EP_STATUS i, 8, 8, 0⟩
def EP_EVENT_LINK_UP (i : Nat) : Fld := ⟨R.EP_EVENT i, 0, 1, 0⟩
def EP_EVENT_LINK_DOWN (i : Nat) : Fld := ⟨R.EP_EVENT i, 1, 1, 0⟩
def EP_EVENT_AN_FAIL (i : Nat) : Fld := ⟨R.EP_EVENT i, 2, 1, 0⟩
def EP_EVENT_PAUSE_BREAK (i : Nat) : Fld := ⟨R.EP_EVENT i, 3, 1, 0⟩
def EP_EVENT_TS_LOST (i : Nat) : Fld := ⟨R.EP_EVENT i, 4, 1, 0⟩
def EP_EVENT_TX_DROP (i : Nat) : Fld := ⟨R.EP_EVENT i, 5, 1, 0⟩
def EP_PHY_CFG_MODE (i : Nat) : Fld := ⟨R.EP_PHY_CFG i, 0, 3, 1⟩
def EP_PHY_CFG_FEC (i : Nat) : Fld := ⟨R.EP_PHY_CFG i, 3, 2, 0⟩
def EP_PHY_CFG_AN_RESTART (i : Nat) : Fld := ⟨R.EP_PHY_CFG i, 5, 1, 0⟩
def EP_PHY_CFG_TX_SQUELCH (i : Nat) : Fld := ⟨R.EP_PHY_CFG i, 6, 1, 0⟩
def EP_PHY_CFG_RX_POL (i : Nat) : Fld := ⟨R.EP_PHY_CFG i, 7, 1, 0⟩
def EP_PHY_CFG_TX_POL (i : Nat) : Fld := ⟨R.EP_PHY_CFG i, 8, 1, 0⟩
def EP_AN_ADV_ABIL (i : Nat) : Fld := ⟨R.EP_AN_ADV i, 0, 5, 31⟩
def EP_AN_ADV_FEC (i : Nat) : Fld := ⟨R.EP_AN_ADV i, 8, 4, 5⟩
def EP_AN_STAT_LP_ABIL (i : Nat) : Fld := ⟨R.EP_AN_STAT i, 0, 5, 0⟩
def EP_AN_STAT_LP_FEC (i : Nat) : Fld := ⟨R.EP_AN_STAT i, 8, 4, 0⟩
def EP_AN_STAT_RESOLVED (i : Nat) : Fld := ⟨R.EP_AN_STAT i, 12, 3, 0⟩
def EP_AN_STAT_AN_FAILS (i : Nat) : Fld := ⟨R.EP_AN_STAT i, 16, 8, 0⟩
def EP_PCS_STAT_BLOCK_LOCK (i : Nat) : Fld := ⟨R.EP_PCS_STAT i, 0, 1, 0⟩
def EP_PCS_STAT_HI_BER (i : Nat) : Fld := ⟨R.EP_PCS_STAT i, 1, 1, 0⟩
def EP_PCS_STAT_FEC_ALIGN (i : Nat) : Fld := ⟨R.EP_PCS_STAT i, 2, 1, 0⟩
def EP_PCS_STAT_LINK_DOWNS (i : Nat) : Fld := ⟨R.EP_PCS_STAT i, 8, 8, 0⟩
def EP_PCS_STAT_ERR_BLOCKS (i : Nat) : Fld := ⟨R.EP_PCS_STAT i, 16, 16, 0⟩
def EP_FEC_CNT_CORRECTED (i : Nat) : Fld := ⟨R.EP_FEC_CNT i, 0, 16, 0⟩
def EP_FEC_CNT_UNCORRECTED (i : Nat) : Fld := ⟨R.EP_FEC_CNT i, 16, 16, 0⟩
def EP_RX_CFG_MAX_FRAME (i : Nat) : Fld := ⟨R.EP_RX_CFG i, 0, 14, 1522⟩
def EP_RX_CFG_DELIVER_BAD (i : Nat) : Fld := ⟨R.EP_RX_CFG i, 16, 1, 0⟩
def EP_RX_CFG_MISS_TO_HOST (i : Nat) : Fld := ⟨R.EP_RX_CFG i, 17, 1, 1⟩
def EP_RX_CFG_MCAST_EN (i : Nat) : Fld := ⟨R.EP_RX_CFG i, 18, 1, 1⟩
def EP_RX_CFG_PROMISC (i : Nat) : Fld := ⟨R.EP_RX_CFG i, 19, 1, 0⟩
def EP_RX_CFG_RSR_EN (i : Nat) : Fld := ⟨R.EP_RX_CFG i, 20, 1, 0⟩
def EP_TX_CFG_MAX_AGE_MS (i : Nat) : Fld := ⟨R.EP_TX_CFG i, 0, 8, 40⟩
def EP_TX_CFG_DEF_PCP (i : Nat) : Fld := ⟨R.EP_TX_CFG i, 8, 3, 5⟩
def EP_TX_CFG_TCR_EN (i : Nat) : Fld := ⟨R.EP_TX_CFG i, 11, 1, 0⟩
def EP_PAUSE_CFG_PAUSE_EN (i : Nat) : Fld := ⟨R.EP_PAUSE_CFG i, 0, 1, 1⟩
def EP_PAUSE_CFG_PFC_EN (i : Nat) : Fld := ⟨R.EP_PAUSE_CFG i, 1, 1, 0⟩
def EP_PAUSE_CFG_WD_MS (i : Nat) : Fld := ⟨R.EP_PAUSE_CFG i, 2, 10, 20⟩
def EP_PAUSE_CFG_HOLDOFF_MS (i : Nat) : Fld := ⟨R.EP_PAUSE_CFG i, 12, 16, 100⟩
def EP_TS_CORR_RX_LAT (i : Nat) : Fld := ⟨R.EP_TS_CORR i, 0, 12, 0⟩
def EP_TS_CORR_TX_LAT (i : Nat) : Fld := ⟨R.EP_TS_CORR i, 12, 12, 0⟩
def EP_TS_CORR_AUTO (i : Nat) : Fld := ⟨R.EP_TS_CORR i, 24, 1, 1⟩
def EP_TS_STAT_USED (i : Nat) : Fld := ⟨R.EP_TS_STAT i, 0, 7, 0⟩
def EP_TS_STAT_HWM (i : Nat) : Fld := ⟨R.EP_TS_STAT i, 7, 7, 0⟩
def EP_TS_STAT_RESTART (i : Nat) : Fld := ⟨R.EP_TS_STAT i, 31, 1, 0⟩
def EP_RING_CFG_TPL_PAGE (i : Nat) : Fld := ⟨R.EP_RING_CFG i, 0, 13, 513 + 2 * i⟩
def EP_RING_CFG_STAT_PAGE (i : Nat) : Fld := ⟨R.EP_RING_CFG i, 16, 13, 514 + 2 * i⟩
def EP_RSR_WIDX_WIDX (i : Nat) : Fld := ⟨R.EP_RSR_WIDX i, 0, 32, 0⟩
def EP_TCR_WIDX_WIDX (i : Nat) : Fld := ⟨R.EP_TCR_WIDX i, 0, 32, 0⟩
def EP_UCAST_LO_ADDR_LO (i j : Nat) : Fld := ⟨R.EP_UCAST_LO i j, 0, 32, 0⟩
def EP_UCAST_HI_ADDR_HI (i j : Nat) : Fld := ⟨R.EP_UCAST_HI i j, 0, 16, 0⟩
def EP_UCAST_HI_VALID (i j : Nat) : Fld := ⟨R.EP_UCAST_HI i j, 31, 1, 0⟩
def EP_TXQ_LIMIT (i j : Nat) : Fld := ⟨R.EP_TXQ i j, 0, 13, 512⟩
def EP_TXQ_DEPTH (i j : Nat) : Fld := ⟨R.EP_TXQ i j, 16, 13, 0⟩
def EP_PFC_STAT_FRAMES (i j : Nat) : Fld := ⟨R.EP_PFC_STAT i j, 0, 16, 0⟩
def EP_PFC_STAT_HELD_MS (i j : Nat) : Fld := ⟨R.EP_PFC_STAT i j, 16, 16, 0⟩
def EP_CNT_COUNT (i j : Nat) : Fld := ⟨R.EP_CNT i j, 0, 16, 0⟩
def EP_HOSTF_VALUE (i j : Nat) : Fld := ⟨R.EP_HOSTF i j, 0, 16, 0⟩
def EP_HOSTF_KIND (i j : Nat) : Fld := ⟨R.EP_HOSTF i j, 16, 2, 0⟩
def EP_HOSTF_ACTION (i j : Nat) : Fld := ⟨R.EP_HOSTF i j, 18, 1, 0⟩
def EP_HOSTF_EN (i j : Nat) : Fld := ⟨R.EP_HOSTF i j, 19, 1, 0⟩
def MG_CTRL_EN : Fld := ⟨R.MG_CTRL, 0, 1, 0⟩
def MG_CTRL_PLCA_EN : Fld := ⟨R.MG_CTRL, 1, 1, 0⟩
def MG_CTRL_SRCF_MODE : Fld := ⟨R.MG_CTRL, 2, 1, 0⟩
def MG_CTRL_MSG_EN : Fld := ⟨R.MG_CTRL, 3, 1, 1⟩
def MG_CTRL_FENCE_EN : Fld := ⟨R.MG_CTRL, 4, 1, 1⟩
def MG_CTRL_COL_WRAP_EVT : Fld := ⟨R.MG_CTRL, 5, 1, 0⟩
def MG_STATUS_LISTEN_ONLY : Fld := ⟨R.MG_STATUS, 0, 1, 1⟩
def MG_STATUS_JABBER : Fld := ⟨R.MG_STATUS, 1, 1, 0⟩
def MG_STATUS_PLCA_ACTIVE : Fld := ⟨R.MG_STATUS, 2, 1, 0⟩
def MG_STATUS_BLANKING : Fld := ⟨R.MG_STATUS, 3, 1, 0⟩
def MG_STATUS_TXQ_DEPTH : Fld := ⟨R.MG_STATUS, 8, 5, 0⟩
def MG_EVENT_JABBER : Fld := ⟨R.MG_EVENT, 0, 1, 0⟩
def MG_EVENT_LATE_COL : Fld := ⟨R.MG_EVENT, 1, 1, 0⟩
def MG_EVENT_EXCESS_COL : Fld := ⟨R.MG_EVENT, 2, 1, 0⟩
def MG_EVENT_MSG_REJECT : Fld := ⟨R.MG_EVENT, 3, 1, 0⟩
def MG_EVENT_FENCED : Fld := ⟨R.MG_EVENT, 4, 1, 0⟩
def MG_EVENT_SYNC_RX : Fld := ⟨R.MG_EVENT, 5, 1, 0⟩
def MG_EVENT_BLANK_RX : Fld := ⟨R.MG_EVENT, 6, 1, 0⟩
def MG_EVENT_WAKE : Fld := ⟨R.MG_EVENT, 7, 1, 0⟩
def MG_EVENT_RATE_DROP : Fld := ⟨R.MG_EVENT, 8, 1, 0⟩
def MG_EVENT_LISTEN_END : Fld := ⟨R.MG_EVENT, 9, 1, 0⟩
def MG_MAC_CFG_TX_TMO_MS : Fld := ⟨R.MG_MAC_CFG, 0, 16, 100⟩
def MG_MAC_CFG_MCAST_EN : Fld := ⟨R.MG_MAC_CFG, 16, 1, 1⟩
def MG_ADDR_LO_ADDR_LO : Fld := ⟨R.MG_ADDR_LO, 0, 32, 0⟩
def MG_SRCF_LO_ADDR_LO (i : Nat) : Fld := ⟨R.MG_SRCF_LO i, 0, 32, 0⟩
def MG_ADDR_HI_ADDR_HI : Fld := ⟨R.MG_ADDR_HI, 0, 16, 0⟩
def MG_ADDR_HI_VALID : Fld := ⟨R.MG_ADDR_HI, 31, 1, 0⟩
def MG_SRCF_HI_ADDR_HI (i : Nat) : Fld := ⟨R.MG_SRCF_HI i, 0, 16, 0⟩
def MG_SRCF_HI_VALID (i : Nat) : Fld := ⟨R.MG_SRCF_HI i, 31, 1, 0⟩
def MG_PLCA_NODE_ID : Fld := ⟨R.MG_PLCA, 0, 8, 255⟩
def MG_PLCA_NODE_CNT : Fld := ⟨R.MG_PLCA, 8, 8, 8⟩
def MG_PLCA_TO_TIMER : Fld := ⟨R.MG_PLCA, 16, 8, 32⟩
def MG_PLCA_BURST_CNT : Fld := ⟨R.MG_PLCA, 24, 4, 0⟩
def MG_GUARD_JAB_MS : Fld := ⟨R.MG_GUARD, 0, 8, 5⟩
def MG_CNT_COUNT (i : Nat) : Fld := ⟨R.MG_CNT i, 0, 16, 0⟩
def MG_WAKE_CFG_PAT_EN : Fld := ⟨R.MG_WAKE_CFG, 0, 4, 0⟩
def MG_WAKE_CFG_DIRECT_EN : Fld := ⟨R.MG_WAKE_CFG, 4, 1, 1⟩
def MG_WAKE_CFG_PIN_EN : Fld := ⟨R.MG_WAKE_CFG, 5, 1, 1⟩
def MG_WAKE_CFG_CODE : Fld := ⟨R.MG_WAKE_CFG, 16, 16, 0⟩
def MG_WAKE_SEL_PATTERN : Fld := ⟨R.MG_WAKE_SEL, 0, 2, 0⟩
def MG_WAKE_SEL_WORD : Fld := ⟨R.MG_WAKE_SEL, 8, 5, 0⟩
def MG_WAKE_DATA_DATA : Fld := ⟨R.MG_WAKE_DATA, 0, 32, 0⟩
def MG_WAKE_STAT_PAT_HIT : Fld := ⟨R.MG_WAKE_STAT, 0, 4, 0⟩
def MG_WAKE_STAT_DIRECT : Fld := ⟨R.MG_WAKE_STAT, 4, 1, 0⟩
def MG_WAKE_STAT_PIN : Fld := ⟨R.MG_WAKE_STAT, 5, 1, 0⟩
def MG_WAKE_STAT_SRC : Fld := ⟨R.MG_WAKE_STAT, 16, 14, 0⟩
def MG_MSG_CFG_SYNC_EN : Fld := ⟨R.MG_MSG_CFG, 0, 1, 1⟩
def MG_MSG_CFG_BLANK_EN : Fld := ⟨R.MG_MSG_CFG, 1, 1, 1⟩
def MG_MSG_CFG_WINDOW_MS : Fld := ⟨R.MG_MSG_CFG, 8, 8, 50⟩
def MG_MSG_STAT_LAST_SRC : Fld := ⟨R.MG_MSG_STAT, 0, 14, 0⟩
def MG_MSG_STAT_LAST_TYPE : Fld := ⟨R.MG_MSG_STAT, 16, 8, 0⟩
def MG_MSG_STAT_LAST_LATE : Fld := ⟨R.MG_MSG_STAT, 24, 1, 0⟩
def MG_LISTEN_LISTEN_MS : Fld := ⟨R.MG_LISTEN, 0, 14, 500⟩
def MG_LISTEN_END : Fld := ⟨R.MG_LISTEN, 31, 1, 0⟩
def MG_RATE_RATE : Fld := ⟨R.MG_RATE, 0, 16, 1000⟩
def MG_RATE_BURST : Fld := ⟨R.MG_RATE, 16, 8, 32⟩
def CP_CTRL_SET : Fld := ⟨R.CP_CTRL, 0, 1, 0⟩
def CP_CTRL_SERVO_STATE : Fld := ⟨R.CP_CTRL, 1, 2, 0⟩
def CP_CTRL_SERVO_EN : Fld := ⟨R.CP_CTRL, 3, 1, 0⟩
def CP_STATUS_STATE : Fld := ⟨R.CP_STATUS, 0, 2, 0⟩
def CP_STATUS_TIME_VALID : Fld := ⟨R.CP_STATUS, 2, 1, 0⟩
def CP_STATUS_REF_LOST : Fld := ⟨R.CP_STATUS, 3, 1, 0⟩
def CP_STATUS_SLEWING : Fld := ⟨R.CP_STATUS, 4, 1, 0⟩
def CP_EVENT_LOCK : Fld := ⟨R.CP_EVENT, 0, 1, 0⟩
def CP_EVENT_UNLOCK : Fld := ⟨R.CP_EVENT, 1, 1, 0⟩
def CP_EVENT_HOLDOVER : Fld := ⟨R.CP_EVENT, 2, 1, 0⟩
def CP_EVENT_SRC_LOST : Fld := ⟨R.CP_EVENT, 3, 1, 0⟩
def CP_EVENT_STEP : Fld := ⟨R.CP_EVENT, 4, 1, 0⟩
def CP_EVENT_STEP_REFUSED : Fld := ⟨R.CP_EVENT, 5, 1, 0⟩
def CP_SRC_CFG_SRC : Fld := ⟨R.CP_SRC_CFG, 0, 3, 0⟩
def CP_SRC_CFG_HWY : Fld := ⟨R.CP_SRC_CFG, 4, 4, 0⟩
def CP_SRC_CFG_BW : Fld := ⟨R.CP_SRC_CFG, 8, 2, 1⟩
def CP_LOOP_LOCK_NS : Fld := ⟨R.CP_LOOP, 0, 10, 100⟩
def CP_LOOP_HOLD_S : Fld := ⟨R.CP_LOOP, 16, 8, 16⟩
def CP_FREQ_FREQ : Fld := ⟨R.CP_FREQ, 0, 32, 0⟩
def CP_FREQ_ACT_FREQ : Fld := ⟨R.CP_FREQ_ACT, 0, 32, 0⟩
def CP_HOLD_FREQ : Fld := ⟨R.CP_HOLD, 0, 32, 0⟩
def CP_ADJ_ADJ_NS : Fld := ⟨R.CP_ADJ, 0, 32, 0⟩
def CP_NS_LO_NS : Fld := ⟨R.CP_NS_LO, 0, 32, 0⟩
def CP_NS_HI_NS : Fld := ⟨R.CP_NS_HI, 0, 32, 0⟩
def CP_SEC_LO_SEC_LO : Fld := ⟨R.CP_SEC_LO, 0, 32, 0⟩
def CP_SET_SEC_LO_SEC_LO : Fld := ⟨R.CP_SET_SEC_LO, 0, 32, 0⟩
def CP_SEC_HI_SEC_HI : Fld := ⟨R.CP_SEC_HI, 0, 16, 0⟩
def CP_SET_SEC_HI_SEC_HI : Fld := ⟨R.CP_SET_SEC_HI, 0, 16, 0⟩
def CP_NSEC_NSEC : Fld := ⟨R.CP_NSEC, 0, 30, 0⟩
def CP_SET_NSEC_NSEC : Fld := ⟨R.CP_SET_NSEC, 0, 30, 0⟩
def CP_PD_ERROR_NS : Fld := ⟨R.CP_PD, 0, 32, 0⟩
def CP_PPS_OUT_EN : Fld := ⟨R.CP_PPS_OUT, 0, 1, 0⟩
def CP_PPS_OUT_WIDTH_MS : Fld := ⟨R.CP_PPS_OUT, 1, 9, 100⟩
def CP_PPS_OUT_OFS_NS : Fld := ⟨R.CP_PPS_OUT, 10, 22, 0⟩
def CP_RECCLK_EN : Fld := ⟨R.CP_RECCLK, 0, 1, 0⟩
def CP_RECCLK_PORT : Fld := ⟨R.CP_RECCLK, 1, 2, 0⟩
def CP_RECCLK_DIV : Fld := ⟨R.CP_RECCLK, 3, 1, 0⟩
def CP_SERVO_ADDR : Fld := ⟨R.CP_SERVO, 0, 32, 0⟩
def CP_CNT_LOCK_LOSSES : Fld := ⟨R.CP_CNT, 0, 8, 0⟩
def CP_CNT_CAP_OVR : Fld := ⟨R.CP_CNT, 8, 8, 0⟩
def CP_CNT_STEPS : Fld := ⟨R.CP_CNT, 16, 8, 0⟩
def CP_CAP_CFG_SRC (i : Nat) : Fld := ⟨R.CP_CAP_CFG i, 0, 2, 0⟩
def CP_CAP_CFG_EDGE (i : Nat) : Fld := ⟨R.CP_CAP_CFG i, 2, 1, 0⟩
def CP_CAP_CFG_EN (i : Nat) : Fld := ⟨R.CP_CAP_CFG i, 3, 1, 0⟩
def CP_CAP_CFG_HWY (i : Nat) : Fld := ⟨R.CP_CAP_CFG i, 4, 4, 0⟩
def CP_CAP_CFG_VALID (i : Nat) : Fld := ⟨R.CP_CAP_CFG i, 8, 1, 0⟩
def CP_CAP_CFG_OVR (i : Nat) : Fld := ⟨R.CP_CAP_CFG i, 9, 1, 0⟩
def CP_CAP_NS_VALUE (i : Nat) : Fld := ⟨R.CP_CAP_NS i, 0, 32, 0⟩
def CP_CAP_SEC_VALUE (i : Nat) : Fld := ⟨R.CP_CAP_SEC i, 0, 32, 0⟩
def TD_CTRL_EN : Fld := ⟨R.TD_CTRL, 0, 1, 0⟩
def TD_CTRL_SLIPS_WRAP_EVT : Fld := ⟨R.TD_CTRL, 1, 1, 0⟩
def TD_STATUS_CLK_LOST : Fld := ⟨R.TD_STATUS, 0, 16, 0⟩
def TD_STATUS_FS_LOCK : Fld := ⟨R.TD_STATUS, 16, 16, 0⟩
def TD_EVENT_SLIP : Fld := ⟨R.TD_EVENT, 0, 1, 0⟩
def TD_EVENT_COLLISION : Fld := ⟨R.TD_EVENT, 1, 1, 0⟩
def TD_EVENT_CLK_LOST : Fld := ⟨R.TD_EVENT, 2, 1, 0⟩
def TD_EVENT_FS_ERR : Fld := ⟨R.TD_EVENT, 3, 1, 0⟩
def TD_EVENT_SLOT_REJECT : Fld := ⟨R.TD_EVENT, 4, 1, 0⟩
def TD_SLOT_SEL_HWY : Fld := ⟨R.TD_SLOT_SEL, 0, 4, 0⟩
def TD_SLOT_SEL_SLOT : Fld := ⟨R.TD_SLOT_SEL, 4, 9, 0⟩
def TD_SLOT_DATA_CHANNEL : Fld := ⟨R.TD_SLOT_DATA, 0, 13, 0⟩
def TD_SLOT_DATA_LAW : Fld := ⟨R.TD_SLOT_DATA, 13, 2, 0⟩
def TD_SLOT_DATA_RX_EN : Fld := ⟨R.TD_SLOT_DATA, 15, 1, 0⟩
def TD_SLOT_DATA_TX_EN : Fld := ⟨R.TD_SLOT_DATA, 16, 1, 0⟩
def TD_SLOT_DATA_COMPANION : Fld := ⟨R.TD_SLOT_DATA, 17, 1, 0⟩
def TD_SLOT_DATA_COL_DIS : Fld := ⟨R.TD_SLOT_DATA, 18, 1, 0⟩
def TD_IDLE_A_IDLE : Fld := ⟨R.TD_IDLE, 0, 8, 213⟩
def TD_IDLE_MU_IDLE : Fld := ⟨R.TD_IDLE, 8, 8, 255⟩
def TD_LAST_COL_HWY : Fld := ⟨R.TD_LAST_COL, 0, 4, 0⟩
def TD_LAST_COL_SLOT : Fld := ⟨R.TD_LAST_COL, 4, 9, 0⟩
def TD_CNT_SLIPS : Fld := ⟨R.TD_CNT, 0, 16, 0⟩
def TD_CNT_COLLISIONS : Fld := ⟨R.TD_CNT, 16, 16, 0⟩
def TD_HCFG_EN (i : Nat) : Fld := ⟨R.TD_HCFG i, 0, 1, 0⟩
def TD_HCFG_MASTER (i : Nat) : Fld := ⟨R.TD_HCFG i, 1, 1, 0⟩
def TD_HCFG_SHARED (i : Nat) : Fld := ⟨R.TD_HCFG i, 2, 1, 0⟩
def TD_HCFG_COL_ACT (i : Nat) : Fld := ⟨R.TD_HCFG i, 3, 1, 1⟩
def TD_HCFG_FS_POL (i : Nat) : Fld := ⟨R.TD_HCFG i, 4, 1, 0⟩
def TD_HCFG_OFS_BITS (i : Nat) : Fld := ⟨R.TD_HCFG i, 16, 12, 0⟩
def TD_HSTAT_DISABLED (i : Nat) : Fld := ⟨R.TD_HSTAT i, 0, 10, 0⟩
def TD_HCNT_SLIPS_RX (i : Nat) : Fld := ⟨R.TD_HCNT i, 0, 8, 0⟩
def TD_HCNT_SLIPS_TX (i : Nat) : Fld := ⟨R.TD_HCNT i, 8, 8, 0⟩
def TD_HCNT_COLL (i : Nat) : Fld := ⟨R.TD_HCNT i, 16, 8, 0⟩
def TD_HCNT_FS_ERR (i : Nat) : Fld := ⟨R.TD_HCNT i, 24, 8, 0⟩
def TD_HFILL_RX_FILL (i : Nat) : Fld := ⟨R.TD_HFILL i, 0, 11, 0⟩
def TD_HFILL_TX_FILL (i : Nat) : Fld := ⟨R.TD_HFILL i, 16, 11, 0⟩
def BS_CTRL_EN : Fld := ⟨R.BS_CTRL, 0, 1, 0⟩
def BS_CTRL_SYNC_IN_EN : Fld := ⟨R.BS_CTRL, 1, 1, 1⟩
def BS_CTRL_SYNC_CMD : Fld := ⟨R.BS_CTRL, 2, 1, 0⟩
def BS_CTRL_SLIPS_WRAP_EVT : Fld := ⟨R.BS_CTRL, 3, 1, 0⟩
def BS_STATUS_CLK_LOST : Fld := ⟨R.BS_STATUS, 0, 8, 0⟩
def BS_STATUS_SETTLING : Fld := ⟨R.BS_STATUS, 8, 16, 0⟩
def BS_EVENT_CLK_LOST : Fld := ⟨R.BS_EVENT, 0, 1, 0⟩
def BS_EVENT_CLK_BACK : Fld := ⟨R.BS_EVENT, 1, 1, 0⟩
def BS_EVENT_SYNC : Fld := ⟨R.BS_EVENT, 2, 1, 0⟩
def BS_EVENT_MAP_REJECT : Fld := ⟨R.BS_EVENT, 3, 1, 0⟩
def BS_EVENT_COEF_REFUSED : Fld := ⟨R.BS_EVENT, 4, 1, 0⟩
def BS_EVENT_SWAP_DONE : Fld := ⟨R.BS_EVENT, 5, 1, 0⟩
def BS_EVENT_RATIO_ERR : Fld := ⟨R.BS_EVENT, 6, 1, 0⟩
def BS_EVENT_OVERLOAD : Fld := ⟨R.BS_EVENT, 7, 1, 0⟩
def BS_EVENT_SLIP : Fld := ⟨R.BS_EVENT, 8, 1, 0⟩
def BS_CLK_CFG_GEN0 : Fld := ⟨R.BS_CLK_CFG, 0, 1, 0⟩
def BS_CLK_CFG_GEN1 : Fld := ⟨R.BS_CLK_CFG, 4, 1, 0⟩
def BS_CLK_CFG_GEN2 : Fld := ⟨R.BS_CLK_CFG, 8, 1, 0⟩
def BS_CLK_CFG_GEN3 : Fld := ⟨R.BS_CLK_CFG, 12, 1, 0⟩
def BS_CLK_CFG_GEN4 : Fld := ⟨R.BS_CLK_CFG, 16, 1, 0⟩
def BS_CLK_CFG_GEN5 : Fld := ⟨R.BS_CLK_CFG, 20, 1, 0⟩
def BS_CLK_CFG_GEN6 : Fld := ⟨R.BS_CLK_CFG, 24, 1, 0⟩
def BS_CLK_CFG_GEN7 : Fld := ⟨R.BS_CLK_CFG, 28, 1, 0⟩
def BS_CLK_CFG_FREQ0 : Fld := ⟨R.BS_CLK_CFG, 1, 3, 0⟩
def BS_CLK_CFG_FREQ1 : Fld := ⟨R.BS_CLK_CFG, 5, 3, 0⟩
def BS_CLK_CFG_FREQ2 : Fld := ⟨R.BS_CLK_CFG, 9, 3, 0⟩
def BS_CLK_CFG_FREQ3 : Fld := ⟨R.BS_CLK_CFG, 13, 3, 0⟩
def BS_CLK_CFG_FREQ4 : Fld := ⟨R.BS_CLK_CFG, 17, 3, 0⟩
def BS_CLK_CFG_FREQ5 : Fld := ⟨R.BS_CLK_CFG, 21, 3, 0⟩
def BS_CLK_CFG_FREQ6 : Fld := ⟨R.BS_CLK_CFG, 25, 3, 0⟩
def BS_CLK_CFG_FREQ7 : Fld := ⟨R.BS_CLK_CFG, 29, 3, 0⟩
def BS_COEF_SEL_GROUP : Fld := ⟨R.BS_COEF_SEL, 0, 4, 0⟩
def BS_COEF_SEL_BANK : Fld := ⟨R.BS_COEF_SEL, 4, 1, 0⟩
def BS_COEF_SEL_TAP : Fld := ⟨R.BS_COEF_SEL, 8, 6, 0⟩
def BS_COEF_DATA_COEF : Fld := ⟨R.BS_COEF_DATA, 0, 24, 0⟩
def BS_MAP_CNT_RX_MAPPED : Fld := ⟨R.BS_MAP_CNT, 0, 9, 0⟩
def BS_MAP_CNT_TX_MAPPED : Fld := ⟨R.BS_MAP_CNT, 16, 9, 0⟩
def BS_RATIO_ADDR_ADDR : Fld := ⟨R.BS_RATIO_ADDR, 0, 32, 0⟩
def BS_SYNC_NS_LO_NS : Fld := ⟨R.BS_SYNC_NS_LO, 0, 32, 0⟩
def BS_SYNC_NS_HI_NS : Fld := ⟨R.BS_SYNC_NS_HI, 0, 32, 0⟩
def BS_SYNC_STAT_LAST_SRC : Fld := ⟨R.BS_SYNC_STAT, 0, 2, 0⟩
def BS_SYNC_STAT_COUNT : Fld := ⟨R.BS_SYNC_STAT, 16, 16, 0⟩
def BS_CNT_SLIPS : Fld := ⟨R.BS_CNT, 0, 16, 0⟩
def BS_CNT_OVERLOADS : Fld := ⟨R.BS_CNT, 16, 16, 0⟩
def BS_LOSS_CNT_LOSSES : Fld := ⟨R.BS_LOSS_CNT, 0, 16, 0⟩
def BS_LOSS_CNT_RATIO_ERRS : Fld := ⟨R.BS_LOSS_CNT, 16, 16, 0⟩
def BS_GD_SEL_GROUP : Fld := ⟨R.BS_GD_SEL, 0, 4, 0⟩
def BS_GD_SEL_DIR : Fld := ⟨R.BS_GD_SEL, 4, 1, 0⟩
def BS_GD_GD_NS : Fld := ⟨R.BS_GD, 0, 24, 1561523⟩
def BS_TIMED_USED : Fld := ⟨R.BS_TIMED, 0, 16, 0⟩
def BS_GCFG_EN (i : Nat) : Fld := ⟨R.BS_GCFG i, 0, 1, 0⟩
def BS_GCFG_EXPERT (i : Nat) : Fld := ⟨R.BS_GCFG i, 1, 1, 0⟩
def BS_GCFG_PRESET (i : Nat) : Fld := ⟨R.BS_GCFG i, 2, 4, 0⟩
def BS_GCFG_SYNC_EN (i : Nat) : Fld := ⟨R.BS_GCFG i, 6, 1, 1⟩
def BS_GCFG_RAW_SETTLE (i : Nat) : Fld := ⟨R.BS_GCFG i, 7, 1, 0⟩
def BS_GCFG_DC (i : Nat) : Fld := ⟨R.BS_GCFG i, 8, 2, 0⟩
def BS_GCFG_TX_EN (i : Nat) : Fld := ⟨R.BS_GCFG i, 10, 1, 0⟩
def BS_GCFG_TRACK (i : Nat) : Fld := ⟨R.BS_GCFG i, 11, 1, 0⟩
def BS_GCFG_INC_SRC (i : Nat) : Fld := ⟨R.BS_GCFG i, 12, 1, 0⟩
def BS_GCHAIN_ORDER (i : Nat) : Fld := ⟨R.BS_GCHAIN i, 0, 3, 4⟩
def BS_GCHAIN_D (i : Nat) : Fld := ⟨R.BS_GCHAIN i, 4, 10, 128⟩
def BS_GCHAIN_D_FIR (i : Nat) : Fld := ⟨R.BS_GCHAIN i, 16, 2, 0⟩
def BS_GCHAIN_TAPS (i : Nat) : Fld := ⟨R.BS_GCHAIN i, 18, 7, 31⟩
def BS_GCHAIN_OUT_RATE (i : Nat) : Fld := ⟨R.BS_GCHAIN i, 25, 2, 0⟩
def BS_GSHI_SH1 (i : Nat) : Fld := ⟨R.BS_GSHI i, 0, 5, 0⟩
def BS_GSHI_SH2 (i : Nat) : Fld := ⟨R.BS_GSHI i, 5, 5, 0⟩
def BS_GSHI_SH3 (i : Nat) : Fld := ⟨R.BS_GSHI i, 10, 5, 0⟩
def BS_GSHI_SH4 (i : Nat) : Fld := ⟨R.BS_GSHI i, 15, 5, 0⟩
def BS_GSHI_SH5 (i : Nat) : Fld := ⟨R.BS_GSHI i, 20, 5, 0⟩
def BS_GSHC_SH1 (i : Nat) : Fld := ⟨R.BS_GSHC i, 0, 5, 0⟩
def BS_GSHC_SH2 (i : Nat) : Fld := ⟨R.BS_GSHC i, 5, 5, 0⟩
def BS_GSHC_SH3 (i : Nat) : Fld := ⟨R.BS_GSHC i, 10, 5, 0⟩
def BS_GSHC_SH4 (i : Nat) : Fld := ⟨R.BS_GSHC i, 15, 5, 6⟩
def BS_GSHC_SH5 (i : Nat) : Fld := ⟨R.BS_GSHC i, 20, 5, 0⟩
def BS_GFIR_FADE_LEN (i : Nat) : Fld := ⟨R.BS_GFIR i, 0, 12, 255⟩
def BS_GFIR_ACTIVE (i : Nat) : Fld := ⟨R.BS_GFIR i, 12, 1, 0⟩
def BS_GFIR_FADING (i : Nat) : Fld := ⟨R.BS_GFIR i, 13, 1, 0⟩
def BS_GFIR_QUEUED (i : Nat) : Fld := ⟨R.BS_GFIR i, 14, 1, 0⟩
def BS_GFIR_QUEUED_TO (i : Nat) : Fld := ⟨R.BS_GFIR i, 15, 1, 0⟩
def BS_GFIR_SWAP (i : Nat) : Fld := ⟨R.BS_GFIR i, 16, 1, 0⟩
def BS_GFIR_SWAP_TO (i : Nat) : Fld := ⟨R.BS_GFIR i, 17, 1, 0⟩
def BS_GRSMP_INC (i : Nat) : Fld := ⟨R.BS_GRSMP i, 0, 24, 8388608⟩
def BS_GRSMP_TRK_LOCK (i : Nat) : Fld := ⟨R.BS_GRSMP i, 24, 1, 0⟩
def BS_GRSMP_RATIO_ERR (i : Nat) : Fld := ⟨R.BS_GRSMP i, 25, 1, 0⟩
def BS_GRSMP_NO_CLOCK (i : Nat) : Fld := ⟨R.BS_GRSMP i, 26, 1, 0⟩
def BS_GRSMP_SETTLING (i : Nat) : Fld := ⟨R.BS_GRSMP i, 27, 1, 0⟩
def BS_GRSMP_OVERLOAD (i : Nat) : Fld := ⟨R.BS_GRSMP i, 28, 1, 0⟩
def BS_CH_CHANNEL (i : Nat) : Fld := ⟨R.BS_CH i, 0, 13, 0⟩
def BS_CH_RX_EN (i : Nat) : Fld := ⟨R.BS_CH i, 13, 1, 0⟩
def BS_CH_TX_EN (i : Nat) : Fld := ⟨R.BS_CH i, 14, 1, 0⟩
def BS_CH_TIMED (i : Nat) : Fld := ⟨R.BS_CH i, 15, 1, 0⟩
def BS_CH_TSLOT (i : Nat) : Fld := ⟨R.BS_CH i, 16, 4, 0⟩
def BS_CH_MISMATCH (i : Nat) : Fld := ⟨R.BS_CH i, 20, 1, 0⟩
def BS_CH_TS_SHORT (i : Nat) : Fld := ⟨R.BS_CH i, 21, 1, 0⟩
def BS_CH_OVERLOAD (i : Nat) : Fld := ⟨R.BS_CH i, 22, 1, 0⟩
def BS_CH_SLIP (i : Nat) : Fld := ⟨R.BS_CH i, 23, 1, 0⟩
def LM_CTRL_EN : Fld := ⟨R.LM_CTRL, 0, 1, 0⟩
def LM_CTRL_TELEM_EN : Fld := ⟨R.LM_CTRL, 1, 1, 1⟩
def LM_CTRL_TELEM_10MS : Fld := ⟨R.LM_CTRL, 8, 8, 100⟩
def LM_CTRL_RESET_FAULT : Fld := ⟨R.LM_CTRL, 16, 1, 0⟩
def LM_STATUS_STATE : Fld := ⟨R.LM_STATUS, 0, 3, 0⟩
def LM_STATUS_STEP : Fld := ⟨R.LM_STATUS, 3, 4, 0⟩
def LM_STATUS_BLANKING : Fld := ⟨R.LM_STATUS, 7, 1, 0⟩
def LM_STATUS_INPUT : Fld := ⟨R.LM_STATUS, 8, 6, 63⟩
def LM_STATUS_RANGE : Fld := ⟨R.LM_STATUS, 14, 2, 0⟩
def LM_STATUS_ENTRY : Fld := ⟨R.LM_STATUS, 16, 6, 0⟩
def LM_EVENT_RECORD : Fld := ⟨R.LM_EVENT, 0, 1, 0⟩
def LM_EVENT_PASS_DONE : Fld := ⟨R.LM_EVENT, 1, 1, 0⟩
def LM_EVENT_RANGE_CHANGE : Fld := ⟨R.LM_EVENT, 2, 1, 0⟩
def LM_EVENT_BLANK_TIMEOUT : Fld := ⟨R.LM_EVENT, 3, 1, 0⟩
def LM_EVENT_STILE_FAULT : Fld := ⟨R.LM_EVENT, 4, 1, 0⟩
def LM_EVENT_OUT_OF_SERVICE : Fld := ⟨R.LM_EVENT, 5, 1, 0⟩
def LM_EVENT_NO_CLOCK : Fld := ⟨R.LM_EVENT, 6, 1, 0⟩
def LM_CFG_CHAIN : Fld := ⟨R.LM_CFG, 0, 2, 0⟩
def LM_CFG_NOTCH : Fld := ⟨R.LM_CFG, 2, 2, 0⟩
def LM_CFG_WMODE : Fld := ⟨R.LM_CFG, 4, 1, 0⟩
def LM_CFG_BLANK_PIN_EN : Fld := ⟨R.LM_CFG, 5, 1, 1⟩
def LM_CFG_BLANK_POL : Fld := ⟨R.LM_CFG, 6, 1, 0⟩
def LM_CFG_TOKEN_EN : Fld := ⟨R.LM_CFG, 7, 1, 0⟩
def LM_CFG_TOKEN_CH : Fld := ⟨R.LM_CFG, 8, 13, 0⟩
def LM_CFG_TOKEN_EDGE : Fld := ⟨R.LM_CFG, 21, 5, 0⟩
def LM_SCAN_ADDR_ADDR : Fld := ⟨R.LM_SCAN_ADDR, 0, 32, 0⟩
def LM_REC_ADDR_ADDR : Fld := ⟨R.LM_REC_ADDR, 0, 32, 0⟩
def LM_REC_WIDX_WIDX : Fld := ⟨R.LM_REC_WIDX, 0, 32, 0⟩
def LM_CNT_STILE_FAULTS : Fld := ⟨R.LM_CNT, 0, 8, 0⟩
def LM_CNT_BLANK_TIMEOUTS : Fld := ⟨R.LM_CNT, 8, 8, 0⟩
def LM_CNT_RANGE_CHANGES : Fld := ⟨R.LM_CNT, 16, 16, 0⟩
def LM_RLY_IDLE (i : Nat) : Fld := ⟨R.LM_RLY i, 0, 1, 0⟩
def LM_RLY_STATE (i : Nat) : Fld := ⟨R.LM_RLY i, 1, 1, 0⟩
def LM_RLY_SETTLE_MS (i : Nat) : Fld := ⟨R.LM_RLY i, 2, 8, 5⟩
def LM_INT_VALUE (i : Nat) : Fld := ⟨R.LM_INT i, 0, 16, 0⟩
def LM_INT_VALID (i : Nat) : Fld := ⟨R.LM_INT i, 16, 1, 0⟩
def LM_AIN_MEAN_NV (i : Nat) : Fld := ⟨R.LM_AIN i, 0, 32, 0⟩
def RK_CTRL_EN : Fld := ⟨R.RK_CTRL, 0, 1, 0⟩
def RK_CTRL_HOST_ENGINES : Fld := ⟨R.RK_CTRL, 1, 3, 2⟩
def RK_CTRL_BYTES_WRAP_EVT : Fld := ⟨R.RK_CTRL, 4, 1, 0⟩
def RK_STATUS_IN_SERVICE : Fld := ⟨R.RK_STATUS, 0, 4, 15⟩
def RK_STATUS_BUSY : Fld := ⟨R.RK_STATUS, 4, 4, 0⟩
def RK_EVENT_QUARANTINE : Fld := ⟨R.RK_EVENT, 0, 1, 0⟩
def RK_EVENT_RELEASED : Fld := ⟨R.RK_EVENT, 1, 1, 0⟩
def RK_EVENT_RETIRED : Fld := ⟨R.RK_EVENT, 2, 1, 0⟩
def RK_EVENT_CELL_BUSY : Fld := ⟨R.RK_EVENT, 3, 1, 0⟩
def RK_EVENT_ORPHAN : Fld := ⟨R.RK_EVENT, 4, 1, 0⟩
def RK_EVENT_DATA_ERROR : Fld := ⟨R.RK_EVENT, 5, 1, 0⟩
def RK_CELL_OFS : Fld := ⟨R.RK_CELL, 0, 18, 256⟩
def RK_QSTAT_CELL_DEPTH : Fld := ⟨R.RK_QSTAT, 0, 14, 0⟩
def RK_QSTAT_HOST_DEPTH : Fld := ⟨R.RK_QSTAT, 16, 9, 0⟩
def RK_QHWM_CELL_HWM : Fld := ⟨R.RK_QHWM, 0, 14, 0⟩
def RK_QHWM_HOST_HWM : Fld := ⟨R.RK_QHWM, 16, 9, 0⟩
def RK_QHWM_RESTART : Fld := ⟨R.RK_QHWM, 31, 1, 0⟩
def RK_CNT_CELL_BUSY : Fld := ⟨R.RK_CNT, 0, 16, 0⟩
def RK_CNT_ORPHANS : Fld := ⟨R.RK_CNT, 16, 16, 0⟩
def RK_REPLAY_CNT_REPLAYS : Fld := ⟨R.RK_REPLAY_CNT, 0, 16, 0⟩
def RK_REPLAY_CNT_FAILS : Fld := ⟨R.RK_REPLAY_CNT, 16, 16, 0⟩
def RK_JOBS_LO_JOBS : Fld := ⟨R.RK_JOBS_LO, 0, 32, 0⟩
def RK_JOBS_HI_JOBS : Fld := ⟨R.RK_JOBS_HI, 0, 32, 0⟩
def RK_IN_LO_BYTES : Fld := ⟨R.RK_IN_LO, 0, 32, 0⟩
def RK_IN_HI_BYTES : Fld := ⟨R.RK_IN_HI, 0, 32, 0⟩
def RK_OUT_LO_BYTES : Fld := ⟨R.RK_OUT_LO, 0, 32, 0⟩
def RK_OUT_HI_BYTES : Fld := ⟨R.RK_OUT_HI, 0, 32, 0⟩
def RK_WAIT_MAX_CELL_US : Fld := ⟨R.RK_WAIT_MAX, 0, 16, 0⟩
def RK_WAIT_MAX_HOST_US : Fld := ⟨R.RK_WAIT_MAX, 16, 16, 0⟩
def RK_TEST_ENGINE : Fld := ⟨R.RK_TEST, 0, 2, 0⟩
def RK_TEST_INJECT : Fld := ⟨R.RK_TEST, 2, 2, 0⟩
def RK_ENG_STATE (i : Nat) : Fld := ⟨R.RK_ENG i, 0, 2, 0⟩
def RK_ENG_OP (i : Nat) : Fld := ⟨R.RK_ENG i, 2, 2, 0⟩
def RK_ENG_HOST (i : Nat) : Fld := ⟨R.RK_ENG i, 4, 1, 0⟩
def RK_ENG_QUARANTINES (i : Nat) : Fld := ⟨R.RK_ENG i, 8, 3, 0⟩
def RK_ENG_RELEASE (i : Nat) : Fld := ⟨R.RK_ENG i, 11, 1, 0⟩
def RK_EJOBS_COUNT (i : Nat) : Fld := ⟨R.RK_EJOBS i, 0, 32, 0⟩
def RK_EIN_COUNT (i : Nat) : Fld := ⟨R.RK_EIN i, 0, 32, 0⟩
def RK_EOUT_COUNT (i : Nat) : Fld := ⟨R.RK_EOUT i, 0, 32, 0⟩
def RK_DCNT_COUNT (i : Nat) : Fld := ⟨R.RK_DCNT i, 0, 16, 0⟩
def HI_CTRL_RINGS_RESET : Fld := ⟨R.HI_CTRL, 0, 1, 0⟩
def HI_CTRL_ITEM_EVT : Fld := ⟨R.HI_CTRL, 1, 1, 1⟩
def HI_STATUS_FAST : Fld := ⟨R.HI_STATUS, 0, 1, 0⟩
def HI_STATUS_RINGS : Fld := ⟨R.HI_STATUS, 1, 7, 0⟩
def HI_EVENT_HOST_RESET : Fld := ⟨R.HI_EVENT, 0, 1, 0⟩
def HI_EVENT_RING_HALT : Fld := ⟨R.HI_EVENT, 1, 1, 0⟩
def HI_EVENT_PCIE_ERR : Fld := ⟨R.HI_EVENT, 2, 1, 0⟩
def HI_EVENT_ITEM_DROP : Fld := ⟨R.HI_EVENT, 3, 1, 0⟩
def HI_EVENT_JOB_HELD : Fld := ⟨R.HI_EVENT, 4, 1, 0⟩
def HI_POLL_FAST_US : Fld := ⟨R.HI_POLL, 0, 4, 1⟩
def HI_POLL_SLOW_US : Fld := ⟨R.HI_POLL, 4, 8, 50⟩
def HI_POLL_IDLE_US : Fld := ⟨R.HI_POLL, 16, 16, 1000⟩
def HI_DB_LO_ADDR : Fld := ⟨R.HI_DB_LO, 8, 24, 0⟩
def HI_HEAD_LO_ADDR : Fld := ⟨R.HI_HEAD_LO, 8, 24, 0⟩
def HI_DB_HI_ADDR : Fld := ⟨R.HI_DB_HI, 0, 32, 0⟩
def HI_HEAD_HI_ADDR : Fld := ⟨R.HI_HEAD_HI, 0, 32, 0⟩
def HI_JOBS_IN_USE : Fld := ⟨R.HI_JOBS, 0, 9, 0⟩
def HI_JOBS_HELD : Fld := ⟨R.HI_JOBS, 9, 9, 0⟩
def HI_JOBS_HWM : Fld := ⟨R.HI_JOBS, 18, 9, 0⟩
def HI_JOBS_RESTART : Fld := ⟨R.HI_JOBS, 31, 1, 0⟩
def HI_CMD_LO_COUNT : Fld := ⟨R.HI_CMD_LO, 0, 32, 0⟩
def HI_CMD_HI_COUNT : Fld := ⟨R.HI_CMD_HI, 0, 32, 0⟩
def HI_ERR_CNT_BAD_DESC : Fld := ⟨R.HI_ERR_CNT, 0, 16, 0⟩
def HI_ERR_CNT_HALTS : Fld := ⟨R.HI_ERR_CNT, 16, 8, 0⟩
def HI_DROP_CNT_ITEMS : Fld := ⟨R.HI_DROP_CNT, 0, 16, 0⟩
def HI_DROP_CNT_COMPLETIONS : Fld := ⟨R.HI_DROP_CNT, 16, 16, 0⟩
def HI_PCIE_STAT_LINK_UP : Fld := ⟨R.HI_PCIE_STAT, 0, 1, 0⟩
def HI_PCIE_STAT_SPEED : Fld := ⟨R.HI_PCIE_STAT, 1, 3, 0⟩
def HI_PCIE_STAT_WIDTH : Fld := ⟨R.HI_PCIE_STAT, 4, 3, 0⟩
def HI_PCIE_STAT_BME : Fld := ⟨R.HI_PCIE_STAT, 7, 1, 0⟩
def HI_PCIE_STAT_D3HOT : Fld := ⟨R.HI_PCIE_STAT, 8, 1, 0⟩
def HI_PCIE_STAT_HOST_RESETS : Fld := ⟨R.HI_PCIE_STAT, 16, 8, 0⟩
def HI_PCIE_ERR_COUNT : Fld := ⟨R.HI_PCIE_ERR, 0, 16, 0⟩
def HI_PCIE_ERR_KIND : Fld := ⟨R.HI_PCIE_ERR, 16, 3, 0⟩
def HI_PCIE_ERR_SOURCE : Fld := ⟨R.HI_PCIE_ERR, 19, 2, 0⟩
def HI_PCIE_ERR_RING : Fld := ⟨R.HI_PCIE_ERR, 24, 6, 0⟩
def HI_MOD_CNT (i : Nat) : Fld := ⟨R.HI_MOD i, 0, 8, 1⟩
def HI_MOD_US (i : Nat) : Fld := ⟨R.HI_MOD i, 16, 16, 0⟩
def HI_RBASE_LO_ADDR (i : Nat) : Fld := ⟨R.HI_RBASE_LO i, 12, 20, 0⟩
def HI_RBASE_HI_ADDR (i : Nat) : Fld := ⟨R.HI_RBASE_HI i, 0, 32, 0⟩
def HI_RCFG_EN (i : Nat) : Fld := ⟨R.HI_RCFG i, 0, 1, 0⟩
def HI_RCFG_KIND (i : Nat) : Fld := ⟨R.HI_RCFG i, 1, 2, 0⟩
def HI_RCFG_SIZE_LOG2 (i : Nat) : Fld := ⟨R.HI_RCFG i, 3, 5, 8⟩
def HI_RCFG_VEC (i : Nat) : Fld := ⟨R.HI_RCFG i, 8, 6, 0⟩
def HI_RCFG_MOD (i : Nat) : Fld := ⟨R.HI_RCFG i, 14, 4, 0⟩
def HI_RCFG_IRQ_EN (i : Nat) : Fld := ⟨R.HI_RCFG i, 18, 1, 1⟩
def HI_RSTAT_STATE (i : Nat) : Fld := ⟨R.HI_RSTAT i, 0, 2, 0⟩
def HI_RSTAT_ERR (i : Nat) : Fld := ⟨R.HI_RSTAT i, 2, 3, 0⟩
def HI_RSTAT_OUTSTANDING (i : Nat) : Fld := ⟨R.HI_RSTAT i, 8, 17, 0⟩
def HI_NUDGE_VALUE : Fld := ⟨R.HI_NUDGE, 0, 32, 0⟩
def TW_CTRL_EN : Fld := ⟨R.TW_CTRL, 0, 1, 0⟩
def TW_CTRL_HB_EN : Fld := ⟨R.TW_CTRL, 1, 1, 1⟩
def TW_CTRL_FENCE_FABRIC : Fld := ⟨R.TW_CTRL, 2, 1, 1⟩
def TW_CTRL_CNT_WRAP_EVT : Fld := ⟨R.TW_CTRL, 3, 1, 0⟩
def TW_STATUS_ROLE : Fld := ⟨R.TW_STATUS, 0, 2, 0⟩
def TW_STATUS_ACT_SLOT : Fld := ⟨R.TW_STATUS, 2, 2, 0⟩
def TW_STATUS_DUP_ID : Fld := ⟨R.TW_STATUS, 4, 1, 0⟩
def TW_STATUS_FENCED : Fld := ⟨R.TW_STATUS, 5, 1, 0⟩
def TW_STATUS_KEY_NEXT : Fld := ⟨R.TW_STATUS, 6, 1, 0⟩
def TW_STATUS_LINKS_UP : Fld := ⟨R.TW_STATUS, 8, 7, 0⟩
def TW_EVENT_DUP_ID : Fld := ⟨R.TW_EVENT, 0, 1, 0⟩
def TW_EVENT_LINK_UP : Fld := ⟨R.TW_EVENT, 1, 1, 0⟩
def TW_EVENT_LINK_LOST : Fld := ⟨R.TW_EVENT, 2, 1, 0⟩
def TW_EVENT_AUTH_FAIL : Fld := ⟨R.TW_EVENT, 3, 1, 0⟩
def TW_EVENT_ATTACH_FAIL : Fld := ⟨R.TW_EVENT, 4, 1, 0⟩
def TW_EVENT_SYNCED : Fld := ⟨R.TW_EVENT, 5, 1, 0⟩
def TW_EVENT_PEER_LOST : Fld := ⟨R.TW_EVENT, 6, 1, 0⟩
def TW_EVENT_FENCE_SENT : Fld := ⟨R.TW_EVENT, 7, 1, 0⟩
def TW_EVENT_FENCE_CONFIRMED : Fld := ⟨R.TW_EVENT, 8, 1, 0⟩
def TW_EVENT_TAKEOVER_DONE : Fld := ⟨R.TW_EVENT, 9, 1, 0⟩
def TW_EVENT_LOG_OVERRUN : Fld := ⟨R.TW_EVENT, 10, 1, 0⟩
def TW_EVENT_CKPT_GAP : Fld := ⟨R.TW_EVENT, 11, 1, 0⟩
def TW_EVENT_SHADOW_FULL : Fld := ⟨R.TW_EVENT, 12, 1, 0⟩
def TW_EVENT_EPOCH_SWITCH : Fld := ⟨R.TW_EVENT, 13, 1, 0⟩
def TW_ID_DEV_ID : Fld := ⟨R.TW_ID, 0, 14, 0⟩
def TW_ID_VALID : Fld := ⟨R.TW_ID, 14, 1, 0⟩
def TW_NET_UDP_PORT : Fld := ⟨R.TW_NET, 0, 16, 23110⟩
def TW_NET_DSCP : Fld := ⟨R.TW_NET, 16, 6, 46⟩
def TW_NET_PCP : Fld := ⟨R.TW_NET, 22, 3, 5⟩
def TW_HB_HB_US : Fld := ⟨R.TW_HB, 0, 13, 250⟩
def TW_HB_MISS : Fld := ⟨R.TW_HB, 16, 4, 4⟩
def TW_LINK_SEL_LINK : Fld := ⟨R.TW_LINK_SEL, 0, 6, 0⟩
def TW_LINK_SEL_WORD : Fld := ⟨R.TW_LINK_SEL, 8, 4, 0⟩
def TW_LINK_DATA_DATA : Fld := ⟨R.TW_LINK_DATA, 0, 32, 0⟩
def TW_KEY_SEL_WORD : Fld := ⟨R.TW_KEY_SEL, 0, 3, 0⟩
def TW_KEY_DATA_KEY : Fld := ⟨R.TW_KEY_DATA, 0, 32, 0⟩
def TW_EPOCH_CUR : Fld := ⟨R.TW_EPOCH, 0, 8, 0⟩
def TW_EPOCH_SWITCH : Fld := ⟨R.TW_EPOCH, 8, 1, 0⟩
def TW_EPOCH_PREV_MS : Fld := ⟨R.TW_EPOCH, 16, 16, 1000⟩
def TW_MIRROR_BUF_OFS : Fld := ⟨R.TW_MIRROR, 0, 18, 4096⟩
def TW_MIRROR_BUF_KB : Fld := ⟨R.TW_MIRROR, 18, 8, 16⟩
def TW_LINKS_LO_UP : Fld := ⟨R.TW_LINKS_LO, 0, 32, 0⟩
def TW_LINKS_HI_UP : Fld := ⟨R.TW_LINKS_HI, 0, 32, 0⟩
def TW_TWIN_TWIN : Fld := ⟨R.TW_TWIN, 0, 14, 0⟩
def TW_TWIN_EN : Fld := ⟨R.TW_TWIN, 14, 1, 0⟩
def TW_TWIN_DIRECT_PORT : Fld := ⟨R.TW_TWIN, 15, 3, 4⟩
def TW_TWIN_ING_FWD : Fld := ⟨R.TW_TWIN, 18, 1, 0⟩
def TW_TWIN_NOTE_US : Fld := ⟨R.TW_TWIN, 19, 7, 20⟩
def TW_TKO_DURATION_US : Fld := ⟨R.TW_TKO, 0, 12, 0⟩
def TW_TKO_PATH : Fld := ⟨R.TW_TKO, 12, 2, 0⟩
def TW_TKO_SLOT : Fld := ⟨R.TW_TKO, 14, 2, 0⟩
def TW_TKO_CLOSED : Fld := ⟨R.TW_TKO, 16, 16, 0⟩
def TW_PRI_CFG_PEER (i : Nat) : Fld := ⟨R.TW_PRI_CFG i, 0, 14, 0⟩
def TW_PRI_CFG_EN (i : Nat) : Fld := ⟨R.TW_PRI_CFG i, 14, 1, 0⟩
def TW_PRI_CFG_AUTO (i : Nat) : Fld := ⟨R.TW_PRI_CFG i, 15, 1, 1⟩
def TW_PRI_CFG_DIRECT_PORT (i : Nat) : Fld := ⟨R.TW_PRI_CFG i, 16, 3, 4⟩
def TW_PRI_CFG_ING_SRC (i : Nat) : Fld := ⟨R.TW_PRI_CFG i, 19, 1, 0⟩
def TW_PRI_CFG_ACT_MODE (i : Nat) : Fld := ⟨R.TW_PRI_CFG i, 20, 4, 2⟩
def TW_PRI_CFG_FORCE (i : Nat) : Fld := ⟨R.TW_PRI_CFG i, 30, 1, 0⟩
def TW_PRI_CFG_TAKEOVER (i : Nat) : Fld := ⟨R.TW_PRI_CFG i, 31, 1, 0⟩
def TW_PRI_SHADOW_FIRST_PAGE (i : Nat) : Fld := ⟨R.TW_PRI_SHADOW i, 0, 13, 0⟩
def TW_PRI_SHADOW_PAGES (i : Nat) : Fld := ⟨R.TW_PRI_SHADOW i, 16, 14, 0⟩
def TW_PRI_LOG_LOG_MS (i : Nat) : Fld := ⟨R.TW_PRI_LOG i, 0, 8, 64⟩
def TW_PRI_LOG_LOG_PAGES (i : Nat) : Fld := ⟨R.TW_PRI_LOG i, 8, 8, 32⟩
def TW_PRI_STAT_STATE (i : Nat) : Fld := ⟨R.TW_PRI_STAT i, 0, 3, 0⟩
def TW_PRI_STAT_MIRRORED (i : Nat) : Fld := ⟨R.TW_PRI_STAT i, 4, 14, 0⟩
def TW_PRI_STAT_EXACT (i : Nat) : Fld := ⟨R.TW_PRI_STAT i, 18, 11, 0⟩
def TW_PRI_STAT_REFUSE (i : Nat) : Fld := ⟨R.TW_PRI_STAT i, 29, 3, 0⟩
def TW_PRI_LAG_LAG_US (i : Nat) : Fld := ⟨R.TW_PRI_LAG i, 0, 16, 0⟩
def TW_PRI_LAG_LOG_HELD_MS (i : Nat) : Fld := ⟨R.TW_PRI_LAG i, 16, 16, 0⟩
def TW_PRI_ADDR_UCAST_A (i : Nat) : Fld := ⟨R.TW_PRI_ADDR i, 0, 3, 0⟩
def TW_PRI_ADDR_A_EN (i : Nat) : Fld := ⟨R.TW_PRI_ADDR i, 3, 1, 0⟩
def TW_PRI_ADDR_UCAST_B (i : Nat) : Fld := ⟨R.TW_PRI_ADDR i, 4, 3, 0⟩
def TW_PRI_ADDR_B_EN (i : Nat) : Fld := ⟨R.TW_PRI_ADDR i, 7, 1, 0⟩
def TW_PRI_ADDR_ADDRS (i : Nat) : Fld := ⟨R.TW_PRI_ADDR i, 8, 9, 0⟩
def TW_CNT_COUNT (i : Nat) : Fld := ⟨R.TW_CNT i, 0, 16, 0⟩
def RL_CTRL_AUTO_RETIRE : Fld := ⟨R.RL_CTRL, 0, 1, 0⟩
def RL_CTRL_ROW_REPAIR_EN : Fld := ⟨R.RL_CTRL, 1, 1, 1⟩
def RL_CTRL_FATAL_ISOLATE : Fld := ⟨R.RL_CTRL, 2, 1, 1⟩
def RL_CTRL_COALESCE_EN : Fld := ⟨R.RL_CTRL, 3, 1, 1⟩
def RL_STATUS_FIFO_FULL : Fld := ⟨R.RL_STATUS, 0, 1, 0⟩
def RL_STATUS_LOSING : Fld := ⟨R.RL_STATUS, 1, 1, 0⟩
def RL_STATUS_SCRUBBING : Fld := ⟨R.RL_STATUS, 2, 1, 0⟩
def RL_STATUS_ISOLATED : Fld := ⟨R.RL_STATUS, 3, 1, 0⟩
def RL_STATUS_RETIRING : Fld := ⟨R.RL_STATUS, 4, 1, 0⟩
def RL_EVENT_CORE_SUSPECT : Fld := ⟨R.RL_EVENT, 0, 1, 0⟩
def RL_EVENT_CORE_RETIRED : Fld := ⟨R.RL_EVENT, 1, 1, 0⟩
def RL_EVENT_ROW_REPAIRED : Fld := ⟨R.RL_EVENT, 2, 1, 0⟩
def RL_EVENT_NO_SPARE_ROW : Fld := ⟨R.RL_EVENT, 3, 1, 0⟩
def RL_EVENT_CLUSTER_OUT : Fld := ⟨R.RL_EVENT, 4, 1, 0⟩
def RL_EVENT_PAGE_SUSPECT : Fld := ⟨R.RL_EVENT, 5, 1, 0⟩
def RL_EVENT_SCRUB_DONE : Fld := ⟨R.RL_EVENT, 6, 1, 0⟩
def RL_EVENT_FATAL : Fld := ⟨R.RL_EVENT, 7, 1, 0⟩
def RL_EVENT_REPORTS_LOST : Fld := ⟨R.RL_EVENT, 8, 1, 0⟩
def RL_EVENT_FIRST_CAPTURED : Fld := ⟨R.RL_EVENT, 9, 1, 0⟩
def RL_EVENT_LIFE_90 : Fld := ⟨R.RL_EVENT, 10, 1, 0⟩
def RL_EVENT_LIFE_END : Fld := ⟨R.RL_EVENT, 11, 1, 0⟩
def RL_FIFO_STAT_DEPTH : Fld := ⟨R.RL_FIFO_STAT, 0, 7, 0⟩
def RL_FIFO_STAT_HWM : Fld := ⟨R.RL_FIFO_STAT, 8, 7, 0⟩
def RL_FIFO_STAT_RESTART : Fld := ⟨R.RL_FIFO_STAT, 31, 1, 0⟩
def RL_LOST_A_LOW : Fld := ⟨R.RL_LOST_A, 0, 16, 0⟩
def RL_LOST_A_HIGH : Fld := ⟨R.RL_LOST_A, 16, 16, 0⟩
def RL_LOST_B_LOW : Fld := ⟨R.RL_LOST_B, 0, 16, 0⟩
def RL_LOST_B_HIGH : Fld := ⟨R.RL_LOST_B, 16, 16, 0⟩
def RL_LOST_C_LOW : Fld := ⟨R.RL_LOST_C, 0, 16, 0⟩
def RL_LOST_C_HIGH : Fld := ⟨R.RL_LOST_C, 16, 16, 0⟩
def RL_FAULT_CNT_CORRECTED : Fld := ⟨R.RL_FAULT_CNT, 0, 16, 0⟩
def RL_FAULT_CNT_CONTAINED : Fld := ⟨R.RL_FAULT_CNT, 16, 16, 0⟩
def RL_SCRUB_CFG_HBM_HOURS : Fld := ⟨R.RL_SCRUB_CFG, 0, 8, 24⟩
def RL_SCRUB_CFG_SRAM_MIN : Fld := ⟨R.RL_SCRUB_CFG, 8, 8, 60⟩
def RL_SCRUB_CFG_PAUSE : Fld := ⟨R.RL_SCRUB_CFG, 16, 1, 0⟩
def RL_SCRUB_STAT_PAGE : Fld := ⟨R.RL_SCRUB_STAT, 0, 13, 0⟩
def RL_SCRUB_STAT_PASSES : Fld := ⟨R.RL_SCRUB_STAT, 16, 16, 0⟩
def RL_LIFE_COUNT : Fld := ⟨R.RL_LIFE, 0, 32, 0⟩
def RL_EQUIV_COUNT : Fld := ⟨R.RL_EQUIV, 0, 32, 0⟩
def RL_SPARES_SPARE_FREE : Fld := ⟨R.RL_SPARES, 0, 16, 0xFFFF⟩
def RL_SPARES_CL_IN_SERVICE : Fld := ⟨R.RL_SPARES, 16, 16, 0xFFFF⟩
def RL_CORE_CMD_CORE : Fld := ⟨R.RL_CORE_CMD, 0, 8, 0⟩
def RL_CORE_CMD_ACTION : Fld := ⟨R.RL_CORE_CMD, 8, 2, 0⟩
def RL_THRESH_RETIRE_FAULTS : Fld := ⟨R.RL_THRESH, 0, 8, 3⟩
def RL_THRESH_RETIRE_HOURS : Fld := ⟨R.RL_THRESH, 8, 8, 24⟩
def RL_THRESH_CE_STORM : Fld := ⟨R.RL_THRESH, 16, 8, 16⟩
def RL_THRESH_HANG_MS : Fld := ⟨R.RL_THRESH, 24, 8, 40⟩
def RL_FIRST_CTRL_VALID : Fld := ⟨R.RL_FIRST_CTRL, 0, 1, 0⟩
def RL_FIRST_CTRL_CLEAR : Fld := ⟨R.RL_FIRST_CTRL, 1, 1, 0⟩
def RL_FIRST_CTRL_LATER : Fld := ⟨R.RL_FIRST_CTRL, 16, 16, 0⟩
def RL_FIRST_WORD (i : Nat) : Fld := ⟨R.RL_FIRST i, 0, 32, 0⟩
def RL_CL_REPAIR_ROWS (i : Nat) : Fld := ⟨R.RL_CL_REPAIR i, 0, 8, 0⟩
def RL_CL_REPAIR_CSM_LEFT (i : Nat) : Fld := ⟨R.RL_CL_REPAIR i, 8, 6, 32⟩
def RL_CL_REPAIR_CORE_MIN_LEFT (i : Nat) : Fld := ⟨R.RL_CL_REPAIR i, 14, 4, 8⟩
def RL_CL_REPAIR_RETIRED (i : Nat) : Fld := ⟨R.RL_CL_REPAIR i, 18, 4, 0⟩
def RL_CL_REPAIR_CPS_LEFT (i : Nat) : Fld := ⟨R.RL_CL_REPAIR i, 22, 5, 16⟩
def RL_CL_ERR_CORRECTED (i : Nat) : Fld := ⟨R.RL_CL_ERR i, 0, 16, 0⟩
def RL_CL_ERR_CONTAINED (i : Nat) : Fld := ⟨R.RL_CL_ERR i, 16, 16, 0⟩
def RL_FIFO_SOURCE (i : Nat) : Fld := ⟨R.RL_FIFO i, 0, 8, 0⟩
def RL_FIFO_CODE (i : Nat) : Fld := ⟨R.RL_FIFO i, 8, 12, 0⟩
def RL_FIFO_CLASS (i : Nat) : Fld := ⟨R.RL_FIFO i, 20, 3, 0⟩
def RL_FIFO_COUNT (i : Nat) : Fld := ⟨R.RL_FIFO i, 23, 8, 0⟩
def RL_FIFO_VALID (i : Nat) : Fld := ⟨R.RL_FIFO i, 31, 1, 0⟩
def GL_ID_PART : Fld := ⟨R.GL_ID, 0, 16, 0x8192⟩
def GL_ID_STEPPING : Fld := ⟨R.GL_ID, 16, 8, 176⟩
def GL_MODE_MODE : Fld := ⟨R.GL_MODE, 0, 4, 0⟩
def GL_MODE_PREV : Fld := ⟨R.GL_MODE, 4, 4, 0⟩
def GL_MODE_RETURN : Fld := ⟨R.GL_MODE, 8, 4, 1⟩
def GL_MODE_CHANGING : Fld := ⟨R.GL_MODE, 12, 1, 0⟩
def GL_STATUS_BOOT_READY : Fld := ⟨R.GL_STATUS, 0, 1, 0⟩
def GL_STATUS_SECURE : Fld := ⟨R.GL_STATUS, 1, 1, 0⟩
def GL_STATUS_IMAGE_OK : Fld := ⟨R.GL_STATUS, 2, 1, 0⟩
def GL_STATUS_LIVE : Fld := ⟨R.GL_STATUS, 3, 1, 0⟩
def GL_STATUS_PERST_COLD : Fld := ⟨R.GL_STATUS, 4, 1, 0⟩
def GL_EVENT_MODE_CHANGE : Fld := ⟨R.GL_EVENT, 0, 1, 0⟩
def GL_EVENT_AUTO_ISOLATE : Fld := ⟨R.GL_EVENT, 1, 1, 0⟩
def GL_EVENT_LIVE_LOST : Fld := ⟨R.GL_EVENT, 2, 1, 0⟩
def GL_EVENT_LIVE_BACK : Fld := ⟨R.GL_EVENT, 3, 1, 0⟩
def GL_EVENT_BOOT_FAIL : Fld := ⟨R.GL_EVENT, 4, 1, 0⟩
def GL_EVENT_WARM_DONE : Fld := ⟨R.GL_EVENT, 5, 1, 0⟩
def GL_EVENT_FACTORY_DENIED : Fld := ⟨R.GL_EVENT, 6, 1, 0⟩
def GL_CTRL_WARM_KEY : Fld := ⟨R.GL_CTRL, 0, 8, 0⟩
def GL_CTRL_WARM_RESET : Fld := ⟨R.GL_CTRL, 8, 1, 0⟩
def GL_CTRL_PERST_COLD : Fld := ⟨R.GL_CTRL, 9, 1, 0⟩
def GL_STRAP_BOOT : Fld := ⟨R.GL_STRAP, 0, 2, 0⟩
def GL_STRAP_PERST : Fld := ⟨R.GL_STRAP, 2, 1, 0⟩
def GL_STRAP_TEST : Fld := ⟨R.GL_STRAP, 3, 1, 0⟩
def GL_STRAP_SVN_MIN : Fld := ⟨R.GL_STRAP, 8, 8, 0⟩
def GL_RESET_CAUSE_LAST : Fld := ⟨R.GL_RESET_CAUSE, 0, 3, 0⟩
def GL_RESET_CAUSE_WARM_CNT : Fld := ⟨R.GL_RESET_CAUSE, 8, 8, 0⟩
def GL_BOOT_STAT_SRC : Fld := ⟨R.GL_BOOT_STAT, 0, 2, 0⟩
def GL_BOOT_STAT_STATUS : Fld := ⟨R.GL_BOOT_STAT, 8, 8, 0⟩
def GL_BOOT_STAT_SVN : Fld := ⟨R.GL_BOOT_STAT, 16, 16, 0⟩
def GL_SCRATCH_DATA (i : Nat) : Fld := ⟨R.GL_SCRATCH i, 0, 32, 0⟩
def PW_CTRL_WAKE_MODE : Fld := ⟨R.PW_CTRL, 0, 4, 15⟩
def PW_CTRL_VCORE_OFF : Fld := ⟨R.PW_CTRL, 4, 1, 1⟩
def PW_CTRL_LIVE_ISOLATE : Fld := ⟨R.PW_CTRL, 5, 1, 1⟩
def PW_STATUS_PWR_OK : Fld := ⟨R.PW_STATUS, 0, 1, 0⟩
def PW_STATUS_LIVE_EN : Fld := ⟨R.PW_STATUS, 1, 1, 0⟩
def PW_STATUS_VCORE_EN : Fld := ⟨R.PW_STATUS, 2, 1, 0⟩
def PW_STATUS_HBM_SR : Fld := ⟨R.PW_STATUS, 3, 1, 0⟩
def PW_STATUS_JOURNAL : Fld := ⟨R.PW_STATUS, 4, 1, 0⟩
def PW_EVENT_DOZE_ENTRY : Fld := ⟨R.PW_EVENT, 0, 1, 0⟩
def PW_EVENT_DOZE_EXIT : Fld := ⟨R.PW_EVENT, 1, 1, 0⟩
def PW_EVENT_THERMOS_EXIT : Fld := ⟨R.PW_EVENT, 2, 1, 0⟩
def PW_EVENT_WAKE_TO_BOOT : Fld := ⟨R.PW_EVENT, 3, 1, 0⟩
def PW_EVENT_UNDERVOLT : Fld := ⟨R.PW_EVENT, 4, 1, 0⟩
def PW_EVENT_JOURNAL_KEPT : Fld := ⟨R.PW_EVENT, 5, 1, 0⟩
def PW_EVENT_JOURNAL_LOST : Fld := ⟨R.PW_EVENT, 6, 1, 0⟩
def PW_TIMES_ENTRY_MS : Fld := ⟨R.PW_TIMES, 0, 8, 0⟩
def PW_TIMES_EXIT_MS : Fld := ⟨R.PW_TIMES, 8, 8, 0⟩
def PW_TIMES_DOZE_WAKE_US : Fld := ⟨R.PW_TIMES, 16, 12, 0⟩
def PW_POWER_NOW : Fld := ⟨R.PW_POWER, 0, 16, 0⟩
def PW_POWER_PEAK : Fld := ⟨R.PW_POWER, 16, 15, 0⟩
def PW_POWER_RESTART : Fld := ⟨R.PW_POWER, 31, 1, 0⟩
def PW_JOURNAL_HANDLE : Fld := ⟨R.PW_JOURNAL, 0, 16, 0⟩
def PW_JOURNAL_STEP : Fld := ⟨R.PW_JOURNAL, 16, 5, 0⟩
def PW_JOURNAL_ROLLBACK : Fld := ⟨R.PW_JOURNAL, 21, 1, 0⟩
def PW_JOURNAL_PHASE : Fld := ⟨R.PW_JOURNAL, 22, 2, 0⟩
def PW_IMAGE_CURRENT : Fld := ⟨R.PW_IMAGE, 0, 24, 0⟩
def PW_UV_CNT_COUNT : Fld := ⟨R.PW_UV_CNT, 0, 16, 0⟩
def PW_CL_RESET (i : Nat) : Fld := ⟨R.PW_CL i, 0, 1, 0⟩
def PW_CL_STATE (i : Nat) : Fld := ⟨R.PW_CL i, 1, 3, 1⟩
def PW_CL_UNGATED (i : Nat) : Fld := ⟨R.PW_CL i, 4, 4, 9⟩
def PW_CL_RESETS (i : Nat) : Fld := ⟨R.PW_CL i, 8, 8, 0⟩
def PW_FWX_IMAGE (i : Nat) : Fld := ⟨R.PW_FWX i, 0, 2, 0⟩
def PW_FWX_VERSION (i : Nat) : Fld := ⟨R.PW_FWX i, 8, 24, 0⟩
def PW_RAIL_UV (i : Nat) : Fld := ⟨R.PW_RAIL i, 0, 1, 0⟩
def PW_RAIL_UV_STICKY (i : Nat) : Fld := ⟨R.PW_RAIL i, 1, 1, 0⟩
def PW_RAIL_UV_CNT (i : Nat) : Fld := ⟨R.PW_RAIL i, 8, 8, 0⟩
def PW_RAIL_NOMINAL_MV (i : Nat) : Fld := ⟨R.PW_RAIL i, 16, 16, [1800, 1800, 800, 850, 1200, 2500, 850, 1200].getD i 0⟩
def LN_MBX_CMD_OPCODE : Fld := ⟨R.LN_MBX_CMD, 0, 8, 0⟩
def LN_MBX_STAT_RESULT : Fld := ⟨R.LN_MBX_STAT, 0, 8, 0⟩
def LN_MBX_STAT_OPCODE : Fld := ⟨R.LN_MBX_STAT, 8, 6, 0⟩
def LN_MBX_STAT_DONE : Fld := ⟨R.LN_MBX_STAT, 14, 1, 0⟩
def LN_MBX_STAT_BUSY : Fld := ⟨R.LN_MBX_STAT, 15, 1, 0⟩
def LN_MBX_ARG_ARG (i : Nat) : Fld := ⟨R.LN_MBX_ARG i, 0, 16, 0⟩
def LN_MBX_RES_RES (i : Nat) : Fld := ⟨R.LN_MBX_RES i, 0, 16, 0⟩
def LN_EVENT_DONE : Fld := ⟨R.LN_EVENT, 0, 1, 0⟩
def LN_EVENT_IGNORED : Fld := ⟨R.LN_EVENT, 1, 1, 0⟩
def LN_EVENT_EVT_PENDING : Fld := ⟨R.LN_EVENT, 2, 1, 0⟩
def LN_EVENT_EVT_OVERFLOW : Fld := ⟨R.LN_EVENT, 3, 1, 0⟩
def LN_EVENT_IRQ_DONE_EN : Fld := ⟨R.LN_EVENT, 8, 1, 0⟩
def LN_EVENT_IRQ_EVT_EN : Fld := ⟨R.LN_EVENT, 9, 1, 0⟩
def LN_IGNORED_COUNT : Fld := ⟨R.LN_IGNORED, 0, 16, 0⟩
def CL_STATUS_IN_SERVICE (i : Nat) : Fld := ⟨R.CL_STATUS i, 0, 1, 1⟩
def CL_STATUS_ACTIVE (i : Nat) : Fld := ⟨R.CL_STATUS i, 1, 4, 8⟩
def CL_STATUS_SPARE_FREE (i : Nat) : Fld := ⟨R.CL_STATUS i, 5, 1, 1⟩
def CL_STATUS_ROM_REDIRECT (i : Nat) : Fld := ⟨R.CL_STATUS i, 6, 1, 0⟩
def CL_EVENT_ROW_LOGGED (i : Nat) : Fld := ⟨R.CL_EVENT i, 0, 1, 0⟩
def CL_EVENT_CPS_RESTORED (i : Nat) : Fld := ⟨R.CL_EVENT i, 1, 1, 0⟩
def CL_EVENT_ROM_REDIRECT (i : Nat) : Fld := ⟨R.CL_EVENT i, 2, 1, 0⟩
def CL_EVENT_PATCH_CHANGED (i : Nat) : Fld := ⟨R.CL_EVENT i, 3, 1, 0⟩
def CL_CTRL_LOG_CLR (i : Nat) : Fld := ⟨R.CL_CTRL i, 0, 1, 0⟩
def CL_CTRL_ARB_RESTART (i : Nat) : Fld := ⟨R.CL_CTRL i, 1, 1, 0⟩
def CL_CTRL_OVL_WRAP_EVT (i : Nat) : Fld := ⟨R.CL_CTRL i, 2, 1, 0⟩
def CL_PATCH_SEL_BLOCK (i : Nat) : Fld := ⟨R.CL_PATCH_SEL i, 0, 9, 0⟩
def CL_PATCH_DATA_CPS_BLOCK (i : Nat) : Fld := ⟨R.CL_PATCH_DATA i, 0, 10, 0⟩
def CL_ROM_VER_VERSION (i : Nat) : Fld := ⟨R.CL_ROM_VER i, 0, 24, 0⟩
def CL_CSM_STAT_MAX_NS (i : Nat) : Fld := ⟨R.CL_CSM_STAT i, 0, 16, 0⟩
def CL_CSM_ROWLOG_ROW (i : Nat) : Fld := ⟨R.CL_CSM_ROWLOG i, 0, 14, 0⟩
def CL_CSM_ROWLOG_BANK (i : Nat) : Fld := ⟨R.CL_CSM_ROWLOG i, 14, 4, 0⟩
def CL_CSM_ROWLOG_VALID (i : Nat) : Fld := ⟨R.CL_CSM_ROWLOG i, 31, 1, 0⟩
def CL_CPS_ROWLOG_ROW (i : Nat) : Fld := ⟨R.CL_CPS_ROWLOG i, 0, 14, 0⟩
def CL_CPS_ROWLOG_BANK (i : Nat) : Fld := ⟨R.CL_CPS_ROWLOG i, 14, 4, 0⟩
def CL_CPS_ROWLOG_VALID (i : Nat) : Fld := ⟨R.CL_CPS_ROWLOG i, 31, 1, 0⟩
def CL_SELFTEST_CORE_PASS (i : Nat) : Fld := ⟨R.CL_SELFTEST i, 0, 9, 0⟩
def CL_SELFTEST_CPS_PASS (i : Nat) : Fld := ⟨R.CL_SELFTEST i, 9, 1, 0⟩
def CL_SELFTEST_VECTORS_PASS (i : Nat) : Fld := ⟨R.CL_SELFTEST i, 10, 1, 0⟩
def CL_ROWLOG_ROW (i : Nat) : Fld := ⟨R.CL_ROWLOG i, 0, 12, 0⟩
def CL_ROWLOG_MEM (i : Nat) : Fld := ⟨R.CL_ROWLOG i, 12, 2, 0⟩
def CL_ROWLOG_VALID (i : Nat) : Fld := ⟨R.CL_ROWLOG i, 31, 1, 0⟩
def CL_OVL_CNT_COPIES (i : Nat) : Fld := ⟨R.CL_OVL_CNT i, 0, 32, 0⟩
def CL_CSM_WAIT_WAITS (i : Nat) : Fld := ⟨R.CL_CSM_WAIT i, 0, 16, 0⟩
end F

/-- One field of a register as a write judges it: the field, its access code and the closed ranges of its values that
are not reserved (none listed: every value is allowed). -/
structure FSpec where
  f : Fld
  acc : Acc
  allowed : List (Nat × Nat)
deriving DecidableEq, Repr

/-- A register of the map: its first address, the two strides and counts of its instances, and its fields. -/
structure RSpec where
  base : Nat
  stride1 : Nat
  count1 : Nat
  stride2 : Nat
  count2 : Nat
  fields : Nat → Nat → List FSpec

def specsST0 : List RSpec := [
  ⟨0x10000, 0x10000000, 1, 4, 1, fun _ _ => [⟨F.ST_CTRL_EN, .rw, []⟩,
    ⟨F.ST_CTRL_MODE, .rw, [(0, 1)]⟩,
    ⟨F.ST_CTRL_LOWER_EN, .rw, []⟩,
    ⟨F.ST_CTRL_AGE_EN, .rw, []⟩]⟩,
  ⟨0x10004, 0x10000000, 1, 4, 1, fun _ _ => [⟨F.ST_STATUS_AT_VMAX, .ro, []⟩,
    ⟨F.ST_STATUS_AT_VMIN, .ro, []⟩,
    ⟨F.ST_STATUS_BELOW_FLOOR, .ro, []⟩,
    ⟨F.ST_STATUS_REF_LOST, .ro, []⟩,
    ⟨F.ST_STATUS_AVS_FAULT, .ro, []⟩,
    ⟨F.ST_STATUS_SETTLING, .ro, []⟩,
    ⟨F.ST_STATUS_WORST, .ro, []⟩]⟩,
  ⟨0x10008, 0x10000000, 1, 4, 1, fun _ _ => [⟨F.ST_EVENT_AT_VMAX, .w1c, []⟩,
    ⟨F.ST_EVENT_BELOW_FLOOR, .w1c, []⟩,
    ⟨F.ST_EVENT_REF_LOST, .w1c, []⟩,
    ⟨F.ST_EVENT_AVS_FAULT, .w1c, []⟩,
    ⟨F.ST_EVENT_AGE_WARN, .w1c, []⟩,
    ⟨F.ST_EVENT_AGE_LIMIT, .w1c, []⟩,
    ⟨F.ST_EVENT_XING, .w1c, []⟩,
    ⟨F.ST_EVENT_MISS_RAISE, .w1c, []⟩]⟩,
  ⟨0x1000c, 0x10000000, 1, 4, 1, fun _ _ => [⟨F.ST_VLIMIT_VMIN_MV, .rws, [(680, 800)]⟩,
    ⟨F.ST_VLIMIT_VMAX_MV, .rws, [(720, 900)]⟩]⟩,
  ⟨0x10010, 0x10000000, 1, 4, 1, fun _ _ => [⟨F.ST_VSET_CMD_MV, .ro, []⟩,
    ⟨F.ST_VSET_FIXED_MV, .rw, [(680, 900)]⟩]⟩,
  ⟨0x10014, 0x10000000, 1, 4, 1, fun _ _ => [⟨F.ST_VREAD_V_MV, .ro, []⟩,
    ⟨F.ST_VREAD_I_QA, .ro, []⟩]⟩,
  ⟨0x10018, 0x10000000, 1, 4, 1, fun _ _ => [⟨F.ST_STEP_STEP_MV, .rw, [(1, 20)]⟩,
    ⟨F.ST_STEP_LOWER_EPOCHS, .rw, [(1, 15)]⟩,
    ⟨F.ST_STEP_MISS_STEPS, .rw, [(1, 15)]⟩,
    ⟨F.ST_STEP_SETTLE, .rw, [(10, 1000)]⟩]⟩,
  ⟨0x1001c, 0x10000000, 1, 4, 1, fun _ _ => [⟨F.ST_TARGET_UTIL_TARGET, .rw, [(64, 240)]⟩,
    ⟨F.ST_TARGET_GUARD, .rw, [(4, 64)]⟩,
    ⟨F.ST_TARGET_HYST, .rw, [(4, 64)]⟩]⟩,
  ⟨0x10020, 0x10000000, 1, 4, 1, fun _ _ => [⟨F.ST_AVS_CFG_CLK_SEL, .rws, [(0, 2)]⟩,
    ⟨F.ST_AVS_CFG_RAIL, .rws, []⟩,
    ⟨F.ST_AVS_CFG_RETRIES, .rw, []⟩]⟩,
  ⟨0x10024, 0x10000000, 1, 4, 1, fun _ _ => [⟨F.ST_REQ_NEED, .ro, []⟩,
    ⟨F.ST_REQ_CLUSTER, .ro, []⟩,
    ⟨F.ST_REQ_SOURCE, .ro, []⟩]⟩,
  ⟨0x10028, 0x10000000, 1, 4, 1, fun _ _ => [⟨F.ST_SPEED_MIN_MIN, .ro, []⟩,
    ⟨F.ST_SPEED_MIN_CLUSTER, .ro, []⟩,
    ⟨F.ST_SPEED_MIN_RESTART, .wo, []⟩]⟩,
  ⟨0x1002c, 0x10000000, 1, 4, 1, fun _ _ => [⟨F.ST_XING_CNT_COUNT, .rc, []⟩]⟩]

def specsST1 : List RSpec := [
  ⟨0x10030, 0x10000000, 1, 4, 1, fun _ _ => [⟨F.ST_AVS_ERR_CNT_COUNT, .rc, []⟩]⟩,
  ⟨0x10034, 0x10000000, 1, 4, 1, fun _ _ => [⟨F.ST_STEP_CNT_RAISES, .ro, []⟩,
    ⟨F.ST_STEP_CNT_LOWERS, .ro, []⟩]⟩,
  ⟨0x10038, 0x10000000, 1, 4, 1, fun _ _ => [⟨F.ST_AGE_CFG_INTERVAL_H, .rw, [(1, 65535)]⟩,
    ⟨F.ST_AGE_CFG_WARN, .rw, [(931, 1000)]⟩]⟩,
  ⟨0x1003c, 0x10000000, 1, 4, 1, fun _ _ => [⟨F.ST_AGE_MIN_INDEX, .ro, []⟩,
    ⟨F.ST_AGE_MIN_CLUSTER, .ro, []⟩]⟩,
  ⟨0x10100, 0x10000000, 1, 16, 16, fun _ j => [⟨F.ST_SPEED_SPEED j, .ro, []⟩,
    ⟨F.ST_SPEED_NCORES j, .ro, []⟩]⟩,
  ⟨0x10104, 0x10000000, 1, 16, 16, fun _ j => [⟨F.ST_LOAD_BUSY j, .ro, []⟩,
    ⟨F.ST_LOAD_ACTIVE j, .ro, []⟩,
    ⟨F.ST_LOAD_COMMITTED j, .ro, []⟩]⟩,
  ⟨0x10108, 0x10000000, 1, 16, 16, fun _ j => [⟨F.ST_AGE_INDEX j, .ro, []⟩]⟩,
  ⟨0x1010c, 0x10000000, 1, 16, 16, fun _ j => [⟨F.ST_CAL_RING_COEF j, .ro, []⟩,
    ⟨F.ST_CAL_AGE_REF j, .ro, []⟩]⟩]

def specsCO0 : List RSpec := [
  ⟨0x400000, 0x1000, 144, 4, 1, fun i _ => [⟨F.CO_CTRL_RND_INIT i, .rws, [(0, 2)]⟩,
    ⟨F.CO_CTRL_GVT_INIT i, .rws, []⟩,
    ⟨F.CO_CTRL_FAULT_INT i, .rws, []⟩,
    ⟨F.CO_CTRL_INJECT i, .wo, [(0, 2)]⟩,
    ⟨F.CO_CTRL_CLR_CNT i, .wo, []⟩]⟩,
  ⟨0x400004, 0x1000, 144, 4, 1, fun i _ => [⟨F.CO_STATUS_STATE i, .ro, []⟩,
    ⟨F.CO_STATUS_WAITING i, .ro, []⟩,
    ⟨F.CO_STATUS_IN_NODE i, .ro, []⟩,
    ⟨F.CO_STATUS_SHADOW i, .ro, []⟩,
    ⟨F.CO_STATUS_OVL_BUSY i, .ro, []⟩,
    ⟨F.CO_STATUS_GVT_SAT i, .ro, []⟩,
    ⟨F.CO_STATUS_LOGICAL i, .ro, []⟩,
    ⟨F.CO_STATUS_MAPPED i, .ro, []⟩,
    ⟨F.CO_STATUS_LAST_FAULT i, .ro, []⟩,
    ⟨F.CO_STATUS_LAST_LANE i, .ro, []⟩,
    ⟨F.CO_STATUS_FAULT_CNT i, .ro, []⟩]⟩]

def specsTH0 : List RSpec := [
  ⟨0x30000, 0x10000000, 1, 4, 1, fun _ _ => [⟨F.TH_CTRL_PREEMPT_MIN, .rw, [(2, 7)]⟩,
    ⟨F.TH_CTRL_PREEMPT_EN, .rw, []⟩,
    ⟨F.TH_CTRL_MISS_EVT, .rw, []⟩,
    ⟨F.TH_CTRL_DROP_EVT, .rw, []⟩,
    ⟨F.TH_CTRL_STALL_MS, .rw, []⟩]⟩,
  ⟨0x30004, 0x10000000, 1, 4, 1, fun _ _ => [⟨F.TH_STATUS_REBUILDING, .ro, []⟩,
    ⟨F.TH_STATUS_REBUILD_CL, .ro, []⟩,
    ⟨F.TH_STATUS_POOL_LOW, .ro, []⟩,
    ⟨F.TH_STATUS_ORD_LOW, .ro, []⟩,
    ⟨F.TH_STATUS_TOMB_FULL, .ro, []⟩,
    ⟨F.TH_STATUS_STALLED, .ro, []⟩]⟩,
  ⟨0x30008, 0x10000000, 1, 4, 1, fun _ _ => [⟨F.TH_EVENT_POOL_FULL, .w1c, []⟩,
    ⟨F.TH_EVENT_QUEUE_FULL, .w1c, []⟩,
    ⟨F.TH_EVENT_WINDOW_FULL, .w1c, []⟩,
    ⟨F.TH_EVENT_HW_DROP, .w1c, []⟩,
    ⟨F.TH_EVENT_MISS, .w1c, []⟩,
    ⟨F.TH_EVENT_REBUILD, .w1c, []⟩,
    ⟨F.TH_EVENT_STALL, .w1c, []⟩,
    ⟨F.TH_EVENT_TOMB_FULL, .w1c, []⟩,
    ⟨F.TH_EVENT_MALFORMED, .w1c, []⟩]⟩,
  ⟨0x3000c, 0x10000000, 1, 4, 1, fun _ _ => [⟨F.TH_POOL_IN_USE, .ro, []⟩]⟩,
  ⟨0x30010, 0x10000000, 1, 4, 1, fun _ _ => [⟨F.TH_POOL_HWM_HWM, .ro, []⟩,
    ⟨F.TH_POOL_HWM_RESTART, .wo, []⟩]⟩,
  ⟨0x30014, 0x10000000, 1, 4, 1, fun _ _ => [⟨F.TH_ORD_HELD, .ro, []⟩,
    ⟨F.TH_ORD_HWM, .ro, []⟩]⟩,
  ⟨0x30018, 0x10000000, 1, 4, 1, fun _ _ => [⟨F.TH_FLOW_SEL_FLOW, .rw, []⟩]⟩,
  ⟨0x3001c, 0x10000000, 1, 4, 1, fun _ _ => [⟨F.TH_FLOW_STAT_NEXT, .ro, []⟩,
    ⟨F.TH_FLOW_STAT_HELD, .ro, []⟩,
    ⟨F.TH_FLOW_STAT_STALLED, .ro, []⟩]⟩,
  ⟨0x30020, 0x10000000, 1, 4, 1, fun _ _ => [⟨F.TH_HIST_SEL_QUEUE, .rw, []⟩,
    ⟨F.TH_HIST_SEL_BIN, .rw, []⟩]⟩,
  ⟨0x30024, 0x10000000, 1, 4, 1, fun _ _ => [⟨F.TH_HIST_DATA_COUNT, .ro, []⟩]⟩,
  ⟨0x30028, 0x10000000, 1, 4, 1, fun _ _ => [⟨F.TH_CORE_SEL_LOGICAL, .rw, []⟩]⟩,
  ⟨0x3002c, 0x10000000, 1, 4, 1, fun _ _ => [⟨F.TH_CORE_BUSY_BUSY, .ro, []⟩,
    ⟨F.TH_CORE_BUSY_MAPPED, .ro, []⟩,
    ⟨F.TH_CORE_BUSY_DISPATCHES, .ro, []⟩]⟩]

def specsTH1 : List RSpec := [
  ⟨0x30030, 0x10000000, 1, 4, 1, fun _ _ => [⟨F.TH_REFUSE_CNT_CORE, .rc, []⟩,
    ⟨F.TH_REFUSE_CNT_HW, .rc, []⟩]⟩,
  ⟨0x30034, 0x10000000, 1, 4, 1, fun _ _ => [⟨F.TH_REFUSE_HOST_HOST, .rc, []⟩,
    ⟨F.TH_REFUSE_HOST_MALFORMED, .rc, []⟩]⟩,
  ⟨0x30038, 0x10000000, 1, 4, 1, fun _ _ => [⟨F.TH_REPLAY_CNT_REPLAYS, .rc, []⟩,
    ⟨F.TH_REPLAY_CNT_PREEMPTS, .rc, []⟩]⟩,
  ⟨0x3003c, 0x10000000, 1, 4, 1, fun _ _ => [⟨F.TH_CANCEL_CNT_CANCELS, .rc, []⟩,
    ⟨F.TH_CANCEL_CNT_TOMBS, .ro, []⟩]⟩,
  ⟨0x30100, 0x10000000, 1, 8, 16, fun _ j => [⟨F.TH_CLOAD_RUNNING j, .ro, []⟩,
    ⟨F.TH_CLOAD_WAITING j, .ro, []⟩,
    ⟨F.TH_CLOAD_QUEUED j, .ro, []⟩]⟩,
  ⟨0x30104, 0x10000000, 1, 8, 16, fun _ j => [⟨F.TH_MISS_MISSES j, .rc, []⟩,
    ⟨F.TH_MISS_WORST_US j, .rc, []⟩]⟩,
  ⟨0x30400, 0x10000000, 1, 8, 128, fun _ j => [⟨F.TH_QSTAT_DEPTH j, .ro, []⟩,
    ⟨F.TH_QSTAT_OLDEST_US j, .ro, []⟩]⟩,
  ⟨0x30404, 0x10000000, 1, 8, 128, fun _ j => [⟨F.TH_QCFG_LIMIT j, .rw, [(1, 65536)]⟩,
    ⟨F.TH_QCFG_HIST_EN j, .rw, []⟩,
    ⟨F.TH_QCFG_CLR_HIST j, .wo, []⟩]⟩]

def specsHP0 : List RSpec := [
  ⟨0x40000, 0x10000000, 1, 4, 1, fun _ _ => [⟨F.HP_CTRL_CE_EVT, .rw, []⟩,
    ⟨F.HP_CTRL_WIN_EN, .rw, []⟩,
    ⟨F.HP_CTRL_EXPORT_EN, .rw, []⟩,
    ⟨F.HP_CTRL_CBW_WRAP_EVT, .rw, []⟩,
    ⟨F.HP_CTRL_REMOTE_TMO_MS, .rw, [(1, 255)]⟩]⟩,
  ⟨0x40004, 0x10000000, 1, 4, 1, fun _ _ => [⟨F.HP_STATUS_MOVES, .ro, []⟩,
    ⟨F.HP_STATUS_SPARE_LOW, .ro, []⟩,
    ⟨F.HP_STATUS_CTX_LOW, .ro, []⟩]⟩,
  ⟨0x40008, 0x10000000, 1, 4, 1, fun _ _ => [⟨F.HP_EVENT_HBM_CE, .w1c, []⟩,
    ⟨F.HP_EVENT_HBM_UE, .w1c, []⟩,
    ⟨F.HP_EVENT_POISON, .w1c, []⟩,
    ⟨F.HP_EVENT_CACHE_PAR, .w1c, []⟩,
    ⟨F.HP_EVENT_MIG_DONE, .w1c, []⟩,
    ⟨F.HP_EVENT_UNMAPPED, .w1c, []⟩,
    ⟨F.HP_EVENT_FT_FULL, .w1c, []⟩,
    ⟨F.HP_EVENT_REMOTE_ERR, .w1c, []⟩]⟩,
  ⟨0x4000c, 0x10000000, 1, 4, 1, fun _ _ => [⟨F.HP_CACHE_WAYS_ENABLE, .rw, []⟩,
    ⟨F.HP_CACHE_WAYS_FAILED, .ro, []⟩]⟩,
  ⟨0x40010, 0x10000000, 1, 4, 1, fun _ _ => [⟨F.HP_CTX_REGION_FIRST_PAGE, .rws, []⟩,
    ⟨F.HP_CTX_REGION_PAGES, .rws, [(1, 8192)]⟩]⟩,
  ⟨0x40014, 0x10000000, 1, 4, 1, fun _ _ => [⟨F.HP_FT_CFG_PAGE, .rws, []⟩,
    ⟨F.HP_FT_CFG_WILD_EN, .rw, []⟩]⟩,
  ⟨0x40018, 0x10000000, 1, 4, 1, fun _ _ => [⟨F.HP_FT_STAT_ENTRIES, .ro, []⟩,
    ⟨F.HP_FT_STAT_MISSES, .rc, []⟩]⟩,
  ⟨0x4001c, 0x10000000, 1, 4, 1, fun _ _ => [⟨F.HP_PAGE_CFG_SPARES, .rws, []⟩,
    ⟨F.HP_PAGE_CFG_FREE, .ro, []⟩]⟩,
  ⟨0x40020, 0x10000000, 1, 4, 1, fun _ _ => [⟨F.HP_PAGE_SEL_PAGE, .rw, []⟩]⟩,
  ⟨0x40024, 0x10000000, 1, 4, 1, fun _ _ => [⟨F.HP_PAGE_DATA_PHYS, .ro, []⟩,
    ⟨F.HP_PAGE_DATA_MAPPED, .ro, []⟩,
    ⟨F.HP_PAGE_DATA_MOVING, .ro, []⟩,
    ⟨F.HP_PAGE_DATA_POISONED, .ro, []⟩,
    ⟨F.HP_PAGE_DATA_LINES, .ro, []⟩]⟩,
  ⟨0x40028, 0x10000000, 1, 4, 1, fun _ _ => [⟨F.HP_WIN_SEL_SLOT, .rw, [(1, 255)]⟩]⟩,
  ⟨0x4002c, 0x10000000, 1, 4, 1, fun _ _ => [⟨F.HP_WIN_DATA_PEER, .rw, []⟩,
    ⟨F.HP_WIN_DATA_VALID, .rw, []⟩,
    ⟨F.HP_WIN_DATA_LINK, .rw, []⟩]⟩]

def specsHP1 : List RSpec := [
  ⟨0x40030, 0x10000000, 1, 4, 1, fun _ _ => [⟨F.HP_EXPORT_FIRST_PAGE, .rw, []⟩,
    ⟨F.HP_EXPORT_PAGES, .rw, []⟩]⟩,
  ⟨0x40034, 0x10000000, 1, 4, 1, fun _ _ => [⟨F.HP_MIG_CFG_RATE, .rw, [(1, 255)]⟩]⟩,
  ⟨0x40038, 0x10000000, 1, 4, 1, fun _ _ => [⟨F.HP_ECC_CNT_CE, .rc, []⟩,
    ⟨F.HP_ECC_CNT_UE, .rc, []⟩]⟩,
  ⟨0x4003c, 0x10000000, 1, 4, 1, fun _ _ => [⟨F.HP_CACHE_CNT_PARITY, .rc, []⟩,
    ⟨F.HP_CACHE_CNT_REMOTE_ERR, .rc, []⟩]⟩,
  ⟨0x40100, 0x10000000, 1, 16, 16, fun _ j => [⟨F.HP_STG_CFG_SLOTS j, .rws, [(16, 96)]⟩,
    ⟨F.HP_STG_CFG_READ_KW j, .rws, [(1, 8)]⟩,
    ⟨F.HP_STG_CFG_WRITE_KW j, .rws, [(1, 8)]⟩]⟩,
  ⟨0x40104, 0x10000000, 1, 16, 16, fun _ j => [⟨F.HP_JOBWIN_KW_PER_CORE j, .rws, [(1, 64)]⟩]⟩,
  ⟨0x40108, 0x10000000, 1, 16, 16, fun _ j => [⟨F.HP_CSTAT_SLOTS_USED j, .ro, []⟩,
    ⟨F.HP_CSTAT_WAITING j, .ro, []⟩,
    ⟨F.HP_CSTAT_WAIT_HWM j, .ro, []⟩]⟩,
  ⟨0x4010c, 0x10000000, 1, 16, 16, fun _ j => [⟨F.HP_CBW_KBYTES j, .ro, []⟩]⟩,
  ⟨0x40200, 0x10000000, 1, 8, 16, fun _ j => [⟨F.HP_PC_STAT_LANES_REMAPPED j, .ro, []⟩,
    ⟨F.HP_PC_STAT_LANES_LEFT j, .ro, []⟩,
    ⟨F.HP_PC_STAT_PPR_LEFT j, .ro, []⟩,
    ⟨F.HP_PC_STAT_TRAINED j, .ro, []⟩,
    ⟨F.HP_PC_STAT_SELF_REFRESH j, .ro, []⟩]⟩,
  ⟨0x40204, 0x10000000, 1, 8, 16, fun _ j => [⟨F.HP_PC_ERR_CE j, .rc, []⟩,
    ⟨F.HP_PC_ERR_UE j, .rc, []⟩]⟩]

def specsEP0 : List RSpec := [
  ⟨0x100000, 0x10000, 4, 4, 1, fun i _ => [⟨F.EP_CTRL_EN i, .rw, []⟩,
    ⟨F.EP_CTRL_ROLES i, .rw, []⟩,
    ⟨F.EP_CTRL_PORT_RESET i, .wo, []⟩,
    ⟨F.EP_CTRL_LOOPBACK i, .rw, [(0, 2)]⟩]⟩,
  ⟨0x100004, 0x10000, 4, 4, 1, fun i _ => [⟨F.EP_STATUS_LINK i, .ro, []⟩,
    ⟨F.EP_STATUS_SPEED i, .ro, []⟩,
    ⟨F.EP_STATUS_FEC_ACT i, .ro, []⟩,
    ⟨F.EP_STATUS_AN_DONE i, .ro, []⟩,
    ⟨F.EP_STATUS_PAUSE_IGNORED i, .ro, []⟩,
    ⟨F.EP_STATUS_PAUSED i, .ro, []⟩]⟩,
  ⟨0x100008, 0x10000, 4, 4, 1, fun i _ => [⟨F.EP_EVENT_LINK_UP i, .w1c, []⟩,
    ⟨F.EP_EVENT_LINK_DOWN i, .w1c, []⟩,
    ⟨F.EP_EVENT_AN_FAIL i, .w1c, []⟩,
    ⟨F.EP_EVENT_PAUSE_BREAK i, .w1c, []⟩,
    ⟨F.EP_EVENT_TS_LOST i, .w1c, []⟩,
    ⟨F.EP_EVENT_TX_DROP i, .w1c, []⟩]⟩,
  ⟨0x10000c, 0x10000, 4, 4, 1, fun i _ => [⟨F.EP_PHY_CFG_MODE i, .rw, [(0, 6)]⟩,
    ⟨F.EP_PHY_CFG_FEC i, .rw, [(0, 2)]⟩,
    ⟨F.EP_PHY_CFG_AN_RESTART i, .wo, []⟩,
    ⟨F.EP_PHY_CFG_TX_SQUELCH i, .rw, []⟩,
    ⟨F.EP_PHY_CFG_RX_POL i, .rws, []⟩,
    ⟨F.EP_PHY_CFG_TX_POL i, .rws, []⟩]⟩,
  ⟨0x100010, 0x10000, 4, 4, 1, fun i _ => [⟨F.EP_AN_ADV_ABIL i, .rw, []⟩,
    ⟨F.EP_AN_ADV_FEC i, .rw, []⟩]⟩,
  ⟨0x100014, 0x10000, 4, 4, 1, fun i _ => [⟨F.EP_AN_STAT_LP_ABIL i, .ro, []⟩,
    ⟨F.EP_AN_STAT_LP_FEC i, .ro, []⟩,
    ⟨F.EP_AN_STAT_RESOLVED i, .ro, []⟩,
    ⟨F.EP_AN_STAT_AN_FAILS i, .rc, []⟩]⟩,
  ⟨0x100018, 0x10000, 4, 4, 1, fun i _ => [⟨F.EP_PCS_STAT_BLOCK_LOCK i, .ro, []⟩,
    ⟨F.EP_PCS_STAT_HI_BER i, .ro, []⟩,
    ⟨F.EP_PCS_STAT_FEC_ALIGN i, .ro, []⟩,
    ⟨F.EP_PCS_STAT_LINK_DOWNS i, .rc, []⟩,
    ⟨F.EP_PCS_STAT_ERR_BLOCKS i, .rc, []⟩]⟩,
  ⟨0x10001c, 0x10000, 4, 4, 1, fun i _ => [⟨F.EP_FEC_CNT_CORRECTED i, .rc, []⟩,
    ⟨F.EP_FEC_CNT_UNCORRECTED i, .rc, []⟩]⟩,
  ⟨0x100020, 0x10000, 4, 4, 1, fun i _ => [⟨F.EP_RX_CFG_MAX_FRAME i, .rw, [(64, 9216)]⟩,
    ⟨F.EP_RX_CFG_DELIVER_BAD i, .rw, []⟩,
    ⟨F.EP_RX_CFG_MISS_TO_HOST i, .rw, []⟩,
    ⟨F.EP_RX_CFG_MCAST_EN i, .rw, []⟩,
    ⟨F.EP_RX_CFG_PROMISC i, .rw, []⟩,
    ⟨F.EP_RX_CFG_RSR_EN i, .rw, []⟩]⟩,
  ⟨0x100024, 0x10000, 4, 4, 1, fun i _ => [⟨F.EP_TX_CFG_MAX_AGE_MS i, .rw, []⟩,
    ⟨F.EP_TX_CFG_DEF_PCP i, .rw, []⟩,
    ⟨F.EP_TX_CFG_TCR_EN i, .rw, []⟩]⟩,
  ⟨0x100028, 0x10000, 4, 4, 1, fun i _ => [⟨F.EP_PAUSE_CFG_PAUSE_EN i, .rw, []⟩,
    ⟨F.EP_PAUSE_CFG_PFC_EN i, .rw, []⟩,
    ⟨F.EP_PAUSE_CFG_WD_MS i, .rw, [(1, 1000)]⟩,
    ⟨F.EP_PAUSE_CFG_HOLDOFF_MS i, .rw, [(1, 60000)]⟩]⟩,
  ⟨0x10002c, 0x10000, 4, 4, 1, fun i _ => [⟨F.EP_TS_CORR_RX_LAT i, .rw, []⟩,
    ⟨F.EP_TS_CORR_TX_LAT i, .rw, []⟩,
    ⟨F.EP_TS_CORR_AUTO i, .rw, []⟩]⟩]

def specsEP1 : List RSpec := [
  ⟨0x100030, 0x10000, 4, 4, 1, fun i _ => [⟨F.EP_TS_STAT_USED i, .ro, []⟩,
    ⟨F.EP_TS_STAT_HWM i, .ro, []⟩,
    ⟨F.EP_TS_STAT_RESTART i, .wo, []⟩]⟩,
  ⟨0x100034, 0x10000, 4, 4, 1, fun i _ => [⟨F.EP_RING_CFG_TPL_PAGE i, .rws, []⟩,
    ⟨F.EP_RING_CFG_STAT_PAGE i, .rws, []⟩]⟩,
  ⟨0x100038, 0x10000, 4, 4, 1, fun i _ => [⟨F.EP_RSR_WIDX_WIDX i, .ro, []⟩]⟩,
  ⟨0x10003c, 0x10000, 4, 4, 1, fun i _ => [⟨F.EP_TCR_WIDX_WIDX i, .ro, []⟩]⟩,
  ⟨0x100040, 0x10000, 4, 8, 8, fun i j => [⟨F.EP_UCAST_LO_ADDR_LO i j, .rw, []⟩]⟩,
  ⟨0x100044, 0x10000, 4, 8, 8, fun i j => [⟨F.EP_UCAST_HI_ADDR_HI i j, .rw, []⟩,
    ⟨F.EP_UCAST_HI_VALID i j, .rw, []⟩]⟩,
  ⟨0x100080, 0x10000, 4, 4, 8, fun i j => [⟨F.EP_TXQ_LIMIT i j, .rw, [(1, 4096)]⟩,
    ⟨F.EP_TXQ_DEPTH i j, .ro, []⟩]⟩,
  ⟨0x1000a0, 0x10000, 4, 4, 8, fun i j => [⟨F.EP_PFC_STAT_FRAMES i j, .rc, []⟩,
    ⟨F.EP_PFC_STAT_HELD_MS i j, .rc, []⟩]⟩,
  ⟨0x1000c0, 0x10000, 4, 4, 8, fun i j => [⟨F.EP_CNT_COUNT i j, .rc, []⟩]⟩,
  ⟨0x100100, 0x10000, 4, 4, 16, fun i j => [⟨F.EP_HOSTF_VALUE i j, .rw, []⟩,
    ⟨F.EP_HOSTF_KIND i j, .rw, [(0, 2)]⟩,
    ⟨F.EP_HOSTF_ACTION i j, .rw, []⟩,
    ⟨F.EP_HOSTF_EN i j, .rw, []⟩]⟩]

def specsMG0 : List RSpec := [
  ⟨0xa0000, 0x10000000, 1, 4, 1, fun _ _ => [⟨F.MG_CTRL_EN, .rw, []⟩,
    ⟨F.MG_CTRL_PLCA_EN, .rw, []⟩,
    ⟨F.MG_CTRL_SRCF_MODE, .rw, []⟩,
    ⟨F.MG_CTRL_MSG_EN, .rw, []⟩,
    ⟨F.MG_CTRL_FENCE_EN, .rw, []⟩,
    ⟨F.MG_CTRL_COL_WRAP_EVT, .rw, []⟩]⟩,
  ⟨0xa0004, 0x10000000, 1, 4, 1, fun _ _ => [⟨F.MG_STATUS_LISTEN_ONLY, .ro, []⟩,
    ⟨F.MG_STATUS_JABBER, .ro, []⟩,
    ⟨F.MG_STATUS_PLCA_ACTIVE, .ro, []⟩,
    ⟨F.MG_STATUS_BLANKING, .ro, []⟩,
    ⟨F.MG_STATUS_TXQ_DEPTH, .ro, []⟩]⟩,
  ⟨0xa0008, 0x10000000, 1, 4, 1, fun _ _ => [⟨F.MG_EVENT_JABBER, .w1c, []⟩,
    ⟨F.MG_EVENT_LATE_COL, .w1c, []⟩,
    ⟨F.MG_EVENT_EXCESS_COL, .w1c, []⟩,
    ⟨F.MG_EVENT_MSG_REJECT, .w1c, []⟩,
    ⟨F.MG_EVENT_FENCED, .w1c, []⟩,
    ⟨F.MG_EVENT_SYNC_RX, .w1c, []⟩,
    ⟨F.MG_EVENT_BLANK_RX, .w1c, []⟩,
    ⟨F.MG_EVENT_WAKE, .w1c, []⟩,
    ⟨F.MG_EVENT_RATE_DROP, .w1c, []⟩,
    ⟨F.MG_EVENT_LISTEN_END, .w1c, []⟩]⟩,
  ⟨0xa000c, 0x10000000, 1, 4, 1, fun _ _ => [⟨F.MG_MAC_CFG_TX_TMO_MS, .rw, [(1, 65535)]⟩,
    ⟨F.MG_MAC_CFG_MCAST_EN, .rw, []⟩]⟩,
  ⟨0xa0010, 0x10000000, 1, 4, 1, fun _ _ => [⟨F.MG_ADDR_LO_ADDR_LO, .rw, []⟩]⟩,
  ⟨0xa0040, 0x10000000, 1, 8, 8, fun _ j => [⟨F.MG_SRCF_LO_ADDR_LO j, .rw, []⟩]⟩,
  ⟨0xa0014, 0x10000000, 1, 4, 1, fun _ _ => [⟨F.MG_ADDR_HI_ADDR_HI, .rw, []⟩,
    ⟨F.MG_ADDR_HI_VALID, .rw, []⟩]⟩,
  ⟨0xa0044, 0x10000000, 1, 8, 8, fun _ j => [⟨F.MG_SRCF_HI_ADDR_HI j, .rw, []⟩,
    ⟨F.MG_SRCF_HI_VALID j, .rw, []⟩]⟩,
  ⟨0xa0018, 0x10000000, 1, 4, 1, fun _ _ => [⟨F.MG_PLCA_NODE_ID, .rw, []⟩,
    ⟨F.MG_PLCA_NODE_CNT, .rw, [(1, 255)]⟩,
    ⟨F.MG_PLCA_TO_TIMER, .rw, [(1, 255)]⟩,
    ⟨F.MG_PLCA_BURST_CNT, .rw, []⟩]⟩,
  ⟨0xa001c, 0x10000000, 1, 4, 1, fun _ _ => [⟨F.MG_GUARD_JAB_MS, .rw, [(2, 255)]⟩]⟩,
  ⟨0xa0020, 0x10000000, 1, 4, 8, fun _ j => [⟨F.MG_CNT_COUNT j, .rc, []⟩]⟩,
  ⟨0xa00c0, 0x10000000, 1, 4, 1, fun _ _ => [⟨F.MG_WAKE_CFG_PAT_EN, .rw, []⟩,
    ⟨F.MG_WAKE_CFG_DIRECT_EN, .rw, []⟩,
    ⟨F.MG_WAKE_CFG_PIN_EN, .rw, []⟩,
    ⟨F.MG_WAKE_CFG_CODE, .rw, []⟩]⟩]

def specsMG1 : List RSpec := [
  ⟨0xa00c4, 0x10000000, 1, 4, 1, fun _ _ => [⟨F.MG_WAKE_SEL_PATTERN, .rw, []⟩,
    ⟨F.MG_WAKE_SEL_WORD, .rw, [(0, 17)]⟩]⟩,
  ⟨0xa00c8, 0x10000000, 1, 4, 1, fun _ _ => [⟨F.MG_WAKE_DATA_DATA, .rw, []⟩]⟩,
  ⟨0xa00cc, 0x10000000, 1, 4, 1, fun _ _ => [⟨F.MG_WAKE_STAT_PAT_HIT, .ro, []⟩,
    ⟨F.MG_WAKE_STAT_DIRECT, .ro, []⟩,
    ⟨F.MG_WAKE_STAT_PIN, .ro, []⟩,
    ⟨F.MG_WAKE_STAT_SRC, .ro, []⟩]⟩,
  ⟨0xa00d0, 0x10000000, 1, 4, 1, fun _ _ => [⟨F.MG_MSG_CFG_SYNC_EN, .rw, []⟩,
    ⟨F.MG_MSG_CFG_BLANK_EN, .rw, []⟩,
    ⟨F.MG_MSG_CFG_WINDOW_MS, .rw, [(1, 255)]⟩]⟩,
  ⟨0xa00d4, 0x10000000, 1, 4, 1, fun _ _ => [⟨F.MG_MSG_STAT_LAST_SRC, .ro, []⟩,
    ⟨F.MG_MSG_STAT_LAST_TYPE, .ro, []⟩,
    ⟨F.MG_MSG_STAT_LAST_LATE, .ro, []⟩]⟩,
  ⟨0xa00d8, 0x10000000, 1, 4, 1, fun _ _ => [⟨F.MG_LISTEN_LISTEN_MS, .rw, [(0, 10000)]⟩,
    ⟨F.MG_LISTEN_END, .wo, []⟩]⟩,
  ⟨0xa00dc, 0x10000000, 1, 4, 1, fun _ _ => [⟨F.MG_RATE_RATE, .rw, []⟩,
    ⟨F.MG_RATE_BURST, .rw, [(1, 255)]⟩]⟩]

def specsCP0 : List RSpec := [
  ⟨0x50000, 0x10000000, 1, 4, 1, fun _ _ => [⟨F.CP_CTRL_SET, .wo, []⟩,
    ⟨F.CP_CTRL_SERVO_STATE, .rw, []⟩,
    ⟨F.CP_CTRL_SERVO_EN, .rw, []⟩]⟩,
  ⟨0x50004, 0x10000000, 1, 4, 1, fun _ _ => [⟨F.CP_STATUS_STATE, .ro, []⟩,
    ⟨F.CP_STATUS_TIME_VALID, .ro, []⟩,
    ⟨F.CP_STATUS_REF_LOST, .ro, []⟩,
    ⟨F.CP_STATUS_SLEWING, .ro, []⟩]⟩,
  ⟨0x50008, 0x10000000, 1, 4, 1, fun _ _ => [⟨F.CP_EVENT_LOCK, .w1c, []⟩,
    ⟨F.CP_EVENT_UNLOCK, .w1c, []⟩,
    ⟨F.CP_EVENT_HOLDOVER, .w1c, []⟩,
    ⟨F.CP_EVENT_SRC_LOST, .w1c, []⟩,
    ⟨F.CP_EVENT_STEP, .w1c, []⟩,
    ⟨F.CP_EVENT_STEP_REFUSED, .w1c, []⟩]⟩,
  ⟨0x5000c, 0x10000000, 1, 4, 1, fun _ _ => [⟨F.CP_SRC_CFG_SRC, .rw, [(0, 3)]⟩,
    ⟨F.CP_SRC_CFG_HWY, .rw, []⟩,
    ⟨F.CP_SRC_CFG_BW, .rw, []⟩]⟩,
  ⟨0x50010, 0x10000000, 1, 4, 1, fun _ _ => [⟨F.CP_LOOP_LOCK_NS, .rw, [(1, 1000)]⟩,
    ⟨F.CP_LOOP_HOLD_S, .rw, [(1, 255)]⟩]⟩,
  ⟨0x50014, 0x10000000, 1, 4, 1, fun _ _ => [⟨F.CP_FREQ_FREQ, .rw, [(0, 85899346), (4209067950, 4294967295)]⟩]⟩,
  ⟨0x50018, 0x10000000, 1, 4, 1, fun _ _ => [⟨F.CP_FREQ_ACT_FREQ, .ro, []⟩]⟩,
  ⟨0x50050, 0x10000000, 1, 4, 1, fun _ _ => [⟨F.CP_HOLD_FREQ, .ro, []⟩]⟩,
  ⟨0x5001c, 0x10000000, 1, 4, 1, fun _ _ => [⟨F.CP_ADJ_ADJ_NS, .rw, []⟩]⟩,
  ⟨0x50020, 0x10000000, 1, 4, 1, fun _ _ => [⟨F.CP_NS_LO_NS, .ro, []⟩]⟩,
  ⟨0x50024, 0x10000000, 1, 4, 1, fun _ _ => [⟨F.CP_NS_HI_NS, .ro, []⟩]⟩,
  ⟨0x50028, 0x10000000, 1, 4, 1, fun _ _ => [⟨F.CP_SEC_LO_SEC_LO, .ro, []⟩]⟩]

def specsCP1 : List RSpec := [
  ⟨0x50034, 0x10000000, 1, 4, 1, fun _ _ => [⟨F.CP_SET_SEC_LO_SEC_LO, .rw, []⟩]⟩,
  ⟨0x5002c, 0x10000000, 1, 4, 1, fun _ _ => [⟨F.CP_SEC_HI_SEC_HI, .ro, []⟩]⟩,
  ⟨0x50038, 0x10000000, 1, 4, 1, fun _ _ => [⟨F.CP_SET_SEC_HI_SEC_HI, .rw, []⟩]⟩,
  ⟨0x50030, 0x10000000, 1, 4, 1, fun _ _ => [⟨F.CP_NSEC_NSEC, .ro, []⟩]⟩,
  ⟨0x5003c, 0x10000000, 1, 4, 1, fun _ _ => [⟨F.CP_SET_NSEC_NSEC, .rw, [(0, 999999999)]⟩]⟩,
  ⟨0x50040, 0x10000000, 1, 4, 1, fun _ _ => [⟨F.CP_PD_ERROR_NS, .ro, []⟩]⟩,
  ⟨0x50044, 0x10000000, 1, 4, 1, fun _ _ => [⟨F.CP_PPS_OUT_EN, .rw, []⟩,
    ⟨F.CP_PPS_OUT_WIDTH_MS, .rw, [(1, 500)]⟩,
    ⟨F.CP_PPS_OUT_OFS_NS, .rw, [(0, 976562)]⟩]⟩,
  ⟨0x50048, 0x10000000, 1, 4, 1, fun _ _ => [⟨F.CP_RECCLK_EN, .rw, []⟩,
    ⟨F.CP_RECCLK_PORT, .rw, []⟩,
    ⟨F.CP_RECCLK_DIV, .rw, []⟩]⟩,
  ⟨0x5004c, 0x10000000, 1, 4, 1, fun _ _ => [⟨F.CP_SERVO_ADDR, .rw, []⟩]⟩,
  ⟨0x50054, 0x10000000, 1, 4, 1, fun _ _ => [⟨F.CP_CNT_LOCK_LOSSES, .rc, []⟩,
    ⟨F.CP_CNT_CAP_OVR, .rc, []⟩,
    ⟨F.CP_CNT_STEPS, .ro, []⟩]⟩,
  ⟨0x50060, 0x10000000, 1, 16, 6, fun _ j => [⟨F.CP_CAP_CFG_SRC j, .rw, []⟩,
    ⟨F.CP_CAP_CFG_EDGE j, .rw, []⟩,
    ⟨F.CP_CAP_CFG_EN j, .rw, []⟩,
    ⟨F.CP_CAP_CFG_HWY j, .rw, []⟩,
    ⟨F.CP_CAP_CFG_VALID j, .ro, []⟩,
    ⟨F.CP_CAP_CFG_OVR j, .w1c, []⟩]⟩,
  ⟨0x50064, 0x10000000, 1, 16, 6, fun _ j => [⟨F.CP_CAP_NS_VALUE j, .ro, []⟩]⟩]

def specsCP2 : List RSpec := [
  ⟨0x50068, 0x10000000, 1, 16, 6, fun _ j => [⟨F.CP_CAP_SEC_VALUE j, .ro, []⟩]⟩]

def specsTD0 : List RSpec := [
  ⟨0xb0000, 0x10000000, 1, 4, 1, fun _ _ => [⟨F.TD_CTRL_EN, .rw, []⟩,
    ⟨F.TD_CTRL_SLIPS_WRAP_EVT, .rw, []⟩]⟩,
  ⟨0xb0004, 0x10000000, 1, 4, 1, fun _ _ => [⟨F.TD_STATUS_CLK_LOST, .ro, []⟩,
    ⟨F.TD_STATUS_FS_LOCK, .ro, []⟩]⟩,
  ⟨0xb0008, 0x10000000, 1, 4, 1, fun _ _ => [⟨F.TD_EVENT_SLIP, .w1c, []⟩,
    ⟨F.TD_EVENT_COLLISION, .w1c, []⟩,
    ⟨F.TD_EVENT_CLK_LOST, .w1c, []⟩,
    ⟨F.TD_EVENT_FS_ERR, .w1c, []⟩,
    ⟨F.TD_EVENT_SLOT_REJECT, .w1c, []⟩]⟩,
  ⟨0xb000c, 0x10000000, 1, 4, 1, fun _ _ => [⟨F.TD_SLOT_SEL_HWY, .rw, []⟩,
    ⟨F.TD_SLOT_SEL_SLOT, .rw, []⟩]⟩,
  ⟨0xb0010, 0x10000000, 1, 4, 1, fun _ _ => [⟨F.TD_SLOT_DATA_CHANNEL, .rw, []⟩,
    ⟨F.TD_SLOT_DATA_LAW, .rw, [(0, 2)]⟩,
    ⟨F.TD_SLOT_DATA_RX_EN, .rw, []⟩,
    ⟨F.TD_SLOT_DATA_TX_EN, .rw, []⟩,
    ⟨F.TD_SLOT_DATA_COMPANION, .ro, []⟩,
    ⟨F.TD_SLOT_DATA_COL_DIS, .ro, []⟩]⟩,
  ⟨0xb0014, 0x10000000, 1, 4, 1, fun _ _ => [⟨F.TD_IDLE_A_IDLE, .rw, []⟩,
    ⟨F.TD_IDLE_MU_IDLE, .rw, []⟩]⟩,
  ⟨0xb0018, 0x10000000, 1, 4, 1, fun _ _ => [⟨F.TD_LAST_COL_HWY, .ro, []⟩,
    ⟨F.TD_LAST_COL_SLOT, .ro, []⟩]⟩,
  ⟨0xb001c, 0x10000000, 1, 4, 1, fun _ _ => [⟨F.TD_CNT_SLIPS, .ro, []⟩,
    ⟨F.TD_CNT_COLLISIONS, .rc, []⟩]⟩,
  ⟨0xb0100, 0x10000000, 1, 16, 16, fun _ j => [⟨F.TD_HCFG_EN j, .rw, []⟩,
    ⟨F.TD_HCFG_MASTER j, .rw, []⟩,
    ⟨F.TD_HCFG_SHARED j, .rw, []⟩,
    ⟨F.TD_HCFG_COL_ACT j, .rw, []⟩,
    ⟨F.TD_HCFG_FS_POL j, .rw, []⟩,
    ⟨F.TD_HCFG_OFS_BITS j, .rw, []⟩]⟩,
  ⟨0xb0104, 0x10000000, 1, 16, 16, fun _ j => [⟨F.TD_HSTAT_DISABLED j, .ro, []⟩]⟩,
  ⟨0xb0108, 0x10000000, 1, 16, 16, fun _ j => [⟨F.TD_HCNT_SLIPS_RX j, .rc, []⟩,
    ⟨F.TD_HCNT_SLIPS_TX j, .rc, []⟩,
    ⟨F.TD_HCNT_COLL j, .rc, []⟩,
    ⟨F.TD_HCNT_FS_ERR j, .rc, []⟩]⟩,
  ⟨0xb010c, 0x10000000, 1, 16, 16, fun _ j => [⟨F.TD_HFILL_RX_FILL j, .ro, []⟩,
    ⟨F.TD_HFILL_TX_FILL j, .ro, []⟩]⟩]

def specsBS0 : List RSpec := [
  ⟨0xc0000, 0x10000000, 1, 4, 1, fun _ _ => [⟨F.BS_CTRL_EN, .rw, []⟩,
    ⟨F.BS_CTRL_SYNC_IN_EN, .rw, []⟩,
    ⟨F.BS_CTRL_SYNC_CMD, .wo, []⟩,
    ⟨F.BS_CTRL_SLIPS_WRAP_EVT, .rw, []⟩]⟩,
  ⟨0xc0004, 0x10000000, 1, 4, 1, fun _ _ => [⟨F.BS_STATUS_CLK_LOST, .ro, []⟩,
    ⟨F.BS_STATUS_SETTLING, .ro, []⟩]⟩,
  ⟨0xc0008, 0x10000000, 1, 4, 1, fun _ _ => [⟨F.BS_EVENT_CLK_LOST, .w1c, []⟩,
    ⟨F.BS_EVENT_CLK_BACK, .w1c, []⟩,
    ⟨F.BS_EVENT_SYNC, .w1c, []⟩,
    ⟨F.BS_EVENT_MAP_REJECT, .w1c, []⟩,
    ⟨F.BS_EVENT_COEF_REFUSED, .w1c, []⟩,
    ⟨F.BS_EVENT_SWAP_DONE, .w1c, []⟩,
    ⟨F.BS_EVENT_RATIO_ERR, .w1c, []⟩,
    ⟨F.BS_EVENT_OVERLOAD, .w1c, []⟩,
    ⟨F.BS_EVENT_SLIP, .w1c, []⟩]⟩,
  ⟨0xc000c, 0x10000000, 1, 4, 1, fun _ _ => [⟨F.BS_CLK_CFG_GEN0, .rws, []⟩,
    ⟨F.BS_CLK_CFG_GEN1, .rws, []⟩,
    ⟨F.BS_CLK_CFG_GEN2, .rws, []⟩,
    ⟨F.BS_CLK_CFG_GEN3, .rws, []⟩,
    ⟨F.BS_CLK_CFG_GEN4, .rws, []⟩,
    ⟨F.BS_CLK_CFG_GEN5, .rws, []⟩,
    ⟨F.BS_CLK_CFG_GEN6, .rws, []⟩,
    ⟨F.BS_CLK_CFG_GEN7, .rws, []⟩,
    ⟨F.BS_CLK_CFG_FREQ0, .rws, [(0, 5)]⟩,
    ⟨F.BS_CLK_CFG_FREQ1, .rws, [(0, 5)]⟩,
    ⟨F.BS_CLK_CFG_FREQ2, .rws, [(0, 5)]⟩,
    ⟨F.BS_CLK_CFG_FREQ3, .rws, [(0, 5)]⟩,
    ⟨F.BS_CLK_CFG_FREQ4, .rws, [(0, 5)]⟩,
    ⟨F.BS_CLK_CFG_FREQ5, .rws, [(0, 5)]⟩,
    ⟨F.BS_CLK_CFG_FREQ6, .rws, [(0, 5)]⟩,
    ⟨F.BS_CLK_CFG_FREQ7, .rws, [(0, 5)]⟩]⟩,
  ⟨0xc0010, 0x10000000, 1, 4, 1, fun _ _ => [⟨F.BS_COEF_SEL_GROUP, .rw, []⟩,
    ⟨F.BS_COEF_SEL_BANK, .rw, []⟩,
    ⟨F.BS_COEF_SEL_TAP, .rw, []⟩]⟩,
  ⟨0xc0014, 0x10000000, 1, 4, 1, fun _ _ => [⟨F.BS_COEF_DATA_COEF, .rw, []⟩]⟩,
  ⟨0xc0018, 0x10000000, 1, 4, 1, fun _ _ => [⟨F.BS_MAP_CNT_RX_MAPPED, .ro, []⟩,
    ⟨F.BS_MAP_CNT_TX_MAPPED, .ro, []⟩]⟩,
  ⟨0xc001c, 0x10000000, 1, 4, 1, fun _ _ => [⟨F.BS_RATIO_ADDR_ADDR, .rw, []⟩]⟩,
  ⟨0xc0020, 0x10000000, 1, 4, 1, fun _ _ => [⟨F.BS_SYNC_NS_LO_NS, .ro, []⟩]⟩,
  ⟨0xc0024, 0x10000000, 1, 4, 1, fun _ _ => [⟨F.BS_SYNC_NS_HI_NS, .ro, []⟩]⟩,
  ⟨0xc0028, 0x10000000, 1, 4, 1, fun _ _ => [⟨F.BS_SYNC_STAT_LAST_SRC, .ro, []⟩,
    ⟨F.BS_SYNC_STAT_COUNT, .ro, []⟩]⟩,
  ⟨0xc002c, 0x10000000, 1, 4, 1, fun _ _ => [⟨F.BS_CNT_SLIPS, .ro, []⟩,
    ⟨F.BS_CNT_OVERLOADS, .rc, []⟩]⟩]

def specsBS1 : List RSpec := [
  ⟨0xc0030, 0x10000000, 1, 4, 1, fun _ _ => [⟨F.BS_LOSS_CNT_LOSSES, .rc, []⟩,
    ⟨F.BS_LOSS_CNT_RATIO_ERRS, .rc, []⟩]⟩,
  ⟨0xc0034, 0x10000000, 1, 4, 1, fun _ _ => [⟨F.BS_GD_SEL_GROUP, .rw, []⟩,
    ⟨F.BS_GD_SEL_DIR, .rw, []⟩]⟩,
  ⟨0xc0038, 0x10000000, 1, 4, 1, fun _ _ => [⟨F.BS_GD_GD_NS, .ro, []⟩]⟩,
  ⟨0xc003c, 0x10000000, 1, 4, 1, fun _ _ => [⟨F.BS_TIMED_USED, .ro, []⟩]⟩,
  ⟨0xc0100, 0x10000000, 1, 32, 16, fun _ j => [⟨F.BS_GCFG_EN j, .rw, []⟩,
    ⟨F.BS_GCFG_EXPERT j, .rw, []⟩,
    ⟨F.BS_GCFG_PRESET j, .rw, []⟩,
    ⟨F.BS_GCFG_SYNC_EN j, .rw, []⟩,
    ⟨F.BS_GCFG_RAW_SETTLE j, .rw, []⟩,
    ⟨F.BS_GCFG_DC j, .rw, []⟩,
    ⟨F.BS_GCFG_TX_EN j, .rw, []⟩,
    ⟨F.BS_GCFG_TRACK j, .rw, []⟩,
    ⟨F.BS_GCFG_INC_SRC j, .rw, []⟩]⟩,
  ⟨0xc0104, 0x10000000, 1, 32, 16, fun _ j => [⟨F.BS_GCHAIN_ORDER j, .rw, [(3, 5)]⟩,
    ⟨F.BS_GCHAIN_D j, .rw, [(16, 512)]⟩,
    ⟨F.BS_GCHAIN_D_FIR j, .rw, [(0, 2)]⟩,
    ⟨F.BS_GCHAIN_TAPS j, .rw, [(1, 64)]⟩,
    ⟨F.BS_GCHAIN_OUT_RATE j, .rw, []⟩]⟩,
  ⟨0xc0108, 0x10000000, 1, 32, 16, fun _ j => [⟨F.BS_GSHI_SH1 j, .rw, []⟩,
    ⟨F.BS_GSHI_SH2 j, .rw, []⟩,
    ⟨F.BS_GSHI_SH3 j, .rw, []⟩,
    ⟨F.BS_GSHI_SH4 j, .rw, []⟩,
    ⟨F.BS_GSHI_SH5 j, .rw, []⟩]⟩,
  ⟨0xc010c, 0x10000000, 1, 32, 16, fun _ j => [⟨F.BS_GSHC_SH1 j, .rw, []⟩,
    ⟨F.BS_GSHC_SH2 j, .rw, []⟩,
    ⟨F.BS_GSHC_SH3 j, .rw, []⟩,
    ⟨F.BS_GSHC_SH4 j, .rw, []⟩,
    ⟨F.BS_GSHC_SH5 j, .rw, []⟩]⟩,
  ⟨0xc0110, 0x10000000, 1, 32, 16, fun _ j => [⟨F.BS_GFIR_FADE_LEN j, .rw, []⟩,
    ⟨F.BS_GFIR_ACTIVE j, .ro, []⟩,
    ⟨F.BS_GFIR_FADING j, .ro, []⟩,
    ⟨F.BS_GFIR_QUEUED j, .ro, []⟩,
    ⟨F.BS_GFIR_QUEUED_TO j, .ro, []⟩,
    ⟨F.BS_GFIR_SWAP j, .wo, []⟩,
    ⟨F.BS_GFIR_SWAP_TO j, .wo, []⟩]⟩,
  ⟨0xc0114, 0x10000000, 1, 32, 16, fun _ j => [⟨F.BS_GRSMP_INC j, .rw, [(2097152, 8388608)]⟩,
    ⟨F.BS_GRSMP_TRK_LOCK j, .ro, []⟩,
    ⟨F.BS_GRSMP_RATIO_ERR j, .ro, []⟩,
    ⟨F.BS_GRSMP_NO_CLOCK j, .ro, []⟩,
    ⟨F.BS_GRSMP_SETTLING j, .ro, []⟩,
    ⟨F.BS_GRSMP_OVERLOAD j, .w1c, []⟩]⟩,
  ⟨0xc0400, 0x10000000, 1, 4, 256, fun _ j => [⟨F.BS_CH_CHANNEL j, .rw, []⟩,
    ⟨F.BS_CH_RX_EN j, .rw, []⟩,
    ⟨F.BS_CH_TX_EN j, .rw, []⟩,
    ⟨F.BS_CH_TIMED j, .rw, []⟩,
    ⟨F.BS_CH_TSLOT j, .rw, []⟩,
    ⟨F.BS_CH_MISMATCH j, .ro, []⟩,
    ⟨F.BS_CH_TS_SHORT j, .ro, []⟩,
    ⟨F.BS_CH_OVERLOAD j, .w1c, []⟩,
    ⟨F.BS_CH_SLIP j, .w1c, []⟩]⟩]

def specsLM0 : List RSpec := [
  ⟨0xd0000, 0x10000000, 1, 4, 1, fun _ _ => [⟨F.LM_CTRL_EN, .rw, []⟩,
    ⟨F.LM_CTRL_TELEM_EN, .rw, []⟩,
    ⟨F.LM_CTRL_TELEM_10MS, .rw, [(1, 255)]⟩,
    ⟨F.LM_CTRL_RESET_FAULT, .wo, []⟩]⟩,
  ⟨0xd0004, 0x10000000, 1, 4, 1, fun _ _ => [⟨F.LM_STATUS_STATE, .ro, []⟩,
    ⟨F.LM_STATUS_STEP, .ro, []⟩,
    ⟨F.LM_STATUS_BLANKING, .ro, []⟩,
    ⟨F.LM_STATUS_INPUT, .ro, []⟩,
    ⟨F.LM_STATUS_RANGE, .ro, []⟩,
    ⟨F.LM_STATUS_ENTRY, .ro, []⟩]⟩,
  ⟨0xd0008, 0x10000000, 1, 4, 1, fun _ _ => [⟨F.LM_EVENT_RECORD, .w1c, []⟩,
    ⟨F.LM_EVENT_PASS_DONE, .w1c, []⟩,
    ⟨F.LM_EVENT_RANGE_CHANGE, .w1c, []⟩,
    ⟨F.LM_EVENT_BLANK_TIMEOUT, .w1c, []⟩,
    ⟨F.LM_EVENT_STILE_FAULT, .w1c, []⟩,
    ⟨F.LM_EVENT_OUT_OF_SERVICE, .w1c, []⟩,
    ⟨F.LM_EVENT_NO_CLOCK, .w1c, []⟩]⟩,
  ⟨0xd000c, 0x10000000, 1, 4, 1, fun _ _ => [⟨F.LM_CFG_CHAIN, .rw, []⟩,
    ⟨F.LM_CFG_NOTCH, .rw, [(0, 2)]⟩,
    ⟨F.LM_CFG_WMODE, .rw, []⟩,
    ⟨F.LM_CFG_BLANK_PIN_EN, .rw, []⟩,
    ⟨F.LM_CFG_BLANK_POL, .rw, []⟩,
    ⟨F.LM_CFG_TOKEN_EN, .rw, []⟩,
    ⟨F.LM_CFG_TOKEN_CH, .rw, []⟩,
    ⟨F.LM_CFG_TOKEN_EDGE, .rw, []⟩]⟩,
  ⟨0xd0010, 0x10000000, 1, 4, 1, fun _ _ => [⟨F.LM_SCAN_ADDR_ADDR, .rw, []⟩]⟩,
  ⟨0xd0014, 0x10000000, 1, 4, 1, fun _ _ => [⟨F.LM_REC_ADDR_ADDR, .rw, []⟩]⟩,
  ⟨0xd0018, 0x10000000, 1, 4, 1, fun _ _ => [⟨F.LM_REC_WIDX_WIDX, .ro, []⟩]⟩,
  ⟨0xd001c, 0x10000000, 1, 4, 1, fun _ _ => [⟨F.LM_CNT_STILE_FAULTS, .rc, []⟩,
    ⟨F.LM_CNT_BLANK_TIMEOUTS, .rc, []⟩,
    ⟨F.LM_CNT_RANGE_CHANGES, .ro, []⟩]⟩,
  ⟨0xd0040, 0x10000000, 1, 4, 8, fun _ j => [⟨F.LM_RLY_IDLE j, .rw, []⟩,
    ⟨F.LM_RLY_STATE j, .ro, []⟩,
    ⟨F.LM_RLY_SETTLE_MS j, .rw, []⟩]⟩,
  ⟨0xd0060, 0x10000000, 1, 4, 8, fun _ j => [⟨F.LM_INT_VALUE j, .ro, []⟩,
    ⟨F.LM_INT_VALID j, .ro, []⟩]⟩,
  ⟨0xd0100, 0x10000000, 1, 4, 32, fun _ j => [⟨F.LM_AIN_MEAN_NV j, .ro, []⟩]⟩]

def specsRK0 : List RSpec := [
  ⟨0x80000, 0x10000000, 1, 4, 1, fun _ _ => [⟨F.RK_CTRL_EN, .rw, []⟩,
    ⟨F.RK_CTRL_HOST_ENGINES, .rw, [(0, 4)]⟩,
    ⟨F.RK_CTRL_BYTES_WRAP_EVT, .rw, []⟩]⟩,
  ⟨0x80004, 0x10000000, 1, 4, 1, fun _ _ => [⟨F.RK_STATUS_IN_SERVICE, .ro, []⟩,
    ⟨F.RK_STATUS_BUSY, .ro, []⟩]⟩,
  ⟨0x80008, 0x10000000, 1, 4, 1, fun _ _ => [⟨F.RK_EVENT_QUARANTINE, .w1c, []⟩,
    ⟨F.RK_EVENT_RELEASED, .w1c, []⟩,
    ⟨F.RK_EVENT_RETIRED, .w1c, []⟩,
    ⟨F.RK_EVENT_CELL_BUSY, .w1c, []⟩,
    ⟨F.RK_EVENT_ORPHAN, .w1c, []⟩,
    ⟨F.RK_EVENT_DATA_ERROR, .w1c, []⟩]⟩,
  ⟨0x8000c, 0x10000000, 1, 4, 1, fun _ _ => [⟨F.RK_CELL_OFS, .rws, []⟩]⟩,
  ⟨0x80010, 0x10000000, 1, 4, 1, fun _ _ => [⟨F.RK_QSTAT_CELL_DEPTH, .ro, []⟩,
    ⟨F.RK_QSTAT_HOST_DEPTH, .ro, []⟩]⟩,
  ⟨0x80014, 0x10000000, 1, 4, 1, fun _ _ => [⟨F.RK_QHWM_CELL_HWM, .ro, []⟩,
    ⟨F.RK_QHWM_HOST_HWM, .ro, []⟩,
    ⟨F.RK_QHWM_RESTART, .wo, []⟩]⟩,
  ⟨0x80018, 0x10000000, 1, 4, 1, fun _ _ => [⟨F.RK_CNT_CELL_BUSY, .rc, []⟩,
    ⟨F.RK_CNT_ORPHANS, .rc, []⟩]⟩,
  ⟨0x8001c, 0x10000000, 1, 4, 1, fun _ _ => [⟨F.RK_REPLAY_CNT_REPLAYS, .rc, []⟩,
    ⟨F.RK_REPLAY_CNT_FAILS, .rc, []⟩]⟩,
  ⟨0x80020, 0x10000000, 1, 4, 1, fun _ _ => [⟨F.RK_JOBS_LO_JOBS, .ro, []⟩]⟩,
  ⟨0x80024, 0x10000000, 1, 4, 1, fun _ _ => [⟨F.RK_JOBS_HI_JOBS, .ro, []⟩]⟩,
  ⟨0x80028, 0x10000000, 1, 4, 1, fun _ _ => [⟨F.RK_IN_LO_BYTES, .ro, []⟩]⟩,
  ⟨0x8002c, 0x10000000, 1, 4, 1, fun _ _ => [⟨F.RK_IN_HI_BYTES, .ro, []⟩]⟩]

def specsRK1 : List RSpec := [
  ⟨0x80030, 0x10000000, 1, 4, 1, fun _ _ => [⟨F.RK_OUT_LO_BYTES, .ro, []⟩]⟩,
  ⟨0x80034, 0x10000000, 1, 4, 1, fun _ _ => [⟨F.RK_OUT_HI_BYTES, .ro, []⟩]⟩,
  ⟨0x80038, 0x10000000, 1, 4, 1, fun _ _ => [⟨F.RK_WAIT_MAX_CELL_US, .rc, []⟩,
    ⟨F.RK_WAIT_MAX_HOST_US, .rc, []⟩]⟩,
  ⟨0x8003c, 0x10000000, 1, 4, 1, fun _ _ => [⟨F.RK_TEST_ENGINE, .rw, []⟩,
    ⟨F.RK_TEST_INJECT, .wo, [(0, 2)]⟩]⟩,
  ⟨0x80100, 0x10000000, 1, 16, 4, fun _ j => [⟨F.RK_ENG_STATE j, .ro, []⟩,
    ⟨F.RK_ENG_OP j, .ro, []⟩,
    ⟨F.RK_ENG_HOST j, .ro, []⟩,
    ⟨F.RK_ENG_QUARANTINES j, .ro, []⟩,
    ⟨F.RK_ENG_RELEASE j, .wo, []⟩]⟩,
  ⟨0x80104, 0x10000000, 1, 16, 4, fun _ j => [⟨F.RK_EJOBS_COUNT j, .ro, []⟩]⟩,
  ⟨0x80108, 0x10000000, 1, 16, 4, fun _ j => [⟨F.RK_EIN_COUNT j, .ro, []⟩]⟩,
  ⟨0x8010c, 0x10000000, 1, 16, 4, fun _ j => [⟨F.RK_EOUT_COUNT j, .ro, []⟩]⟩,
  ⟨0x80200, 0x10000000, 1, 4, 16, fun _ j => [⟨F.RK_DCNT_COUNT j, .rc, []⟩]⟩]

def specsHI0 : List RSpec := [
  ⟨0x20000, 0x10000000, 1, 4, 1, fun _ _ => [⟨F.HI_CTRL_RINGS_RESET, .wo, []⟩,
    ⟨F.HI_CTRL_ITEM_EVT, .rw, []⟩]⟩,
  ⟨0x20004, 0x10000000, 1, 4, 1, fun _ _ => [⟨F.HI_STATUS_FAST, .ro, []⟩,
    ⟨F.HI_STATUS_RINGS, .ro, []⟩]⟩,
  ⟨0x20008, 0x10000000, 1, 4, 1, fun _ _ => [⟨F.HI_EVENT_HOST_RESET, .w1c, []⟩,
    ⟨F.HI_EVENT_RING_HALT, .w1c, []⟩,
    ⟨F.HI_EVENT_PCIE_ERR, .w1c, []⟩,
    ⟨F.HI_EVENT_ITEM_DROP, .w1c, []⟩,
    ⟨F.HI_EVENT_JOB_HELD, .w1c, []⟩]⟩,
  ⟨0x2000c, 0x10000000, 1, 4, 1, fun _ _ => [⟨F.HI_POLL_FAST_US, .rw, [(1, 15)]⟩,
    ⟨F.HI_POLL_SLOW_US, .rw, [(1, 255)]⟩,
    ⟨F.HI_POLL_IDLE_US, .rw, [(1, 65535)]⟩]⟩,
  ⟨0x20010, 0x10000000, 1, 4, 1, fun _ _ => [⟨F.HI_DB_LO_ADDR, .rw, []⟩]⟩,
  ⟨0x20018, 0x10000000, 1, 4, 1, fun _ _ => [⟨F.HI_HEAD_LO_ADDR, .rw, []⟩]⟩,
  ⟨0x20014, 0x10000000, 1, 4, 1, fun _ _ => [⟨F.HI_DB_HI_ADDR, .rw, []⟩]⟩,
  ⟨0x2001c, 0x10000000, 1, 4, 1, fun _ _ => [⟨F.HI_HEAD_HI_ADDR, .rw, []⟩]⟩,
  ⟨0x20020, 0x10000000, 1, 4, 1, fun _ _ => [⟨F.HI_JOBS_IN_USE, .ro, []⟩,
    ⟨F.HI_JOBS_HELD, .ro, []⟩,
    ⟨F.HI_JOBS_HWM, .ro, []⟩,
    ⟨F.HI_JOBS_RESTART, .wo, []⟩]⟩,
  ⟨0x20024, 0x10000000, 1, 4, 1, fun _ _ => [⟨F.HI_CMD_LO_COUNT, .ro, []⟩]⟩,
  ⟨0x20028, 0x10000000, 1, 4, 1, fun _ _ => [⟨F.HI_CMD_HI_COUNT, .ro, []⟩]⟩,
  ⟨0x2002c, 0x10000000, 1, 4, 1, fun _ _ => [⟨F.HI_ERR_CNT_BAD_DESC, .rc, []⟩,
    ⟨F.HI_ERR_CNT_HALTS, .rc, []⟩]⟩]

def specsHI1 : List RSpec := [
  ⟨0x20030, 0x10000000, 1, 4, 1, fun _ _ => [⟨F.HI_DROP_CNT_ITEMS, .rc, []⟩,
    ⟨F.HI_DROP_CNT_COMPLETIONS, .rc, []⟩]⟩,
  ⟨0x20034, 0x10000000, 1, 4, 1, fun _ _ => [⟨F.HI_PCIE_STAT_LINK_UP, .ro, []⟩,
    ⟨F.HI_PCIE_STAT_SPEED, .ro, []⟩,
    ⟨F.HI_PCIE_STAT_WIDTH, .ro, []⟩,
    ⟨F.HI_PCIE_STAT_BME, .ro, []⟩,
    ⟨F.HI_PCIE_STAT_D3HOT, .ro, []⟩,
    ⟨F.HI_PCIE_STAT_HOST_RESETS, .ro, []⟩]⟩,
  ⟨0x20038, 0x10000000, 1, 4, 1, fun _ _ => [⟨F.HI_PCIE_ERR_COUNT, .rc, []⟩,
    ⟨F.HI_PCIE_ERR_KIND, .ro, []⟩,
    ⟨F.HI_PCIE_ERR_SOURCE, .ro, []⟩,
    ⟨F.HI_PCIE_ERR_RING, .ro, []⟩]⟩,
  ⟨0x20040, 0x10000000, 1, 4, 16, fun _ j => [⟨F.HI_MOD_CNT j, .rw, [(1, 255)]⟩,
    ⟨F.HI_MOD_US j, .rw, []⟩]⟩,
  ⟨0x20100, 0x10000000, 1, 16, 64, fun _ j => [⟨F.HI_RBASE_LO_ADDR j, .rw, []⟩]⟩,
  ⟨0x20104, 0x10000000, 1, 16, 64, fun _ j => [⟨F.HI_RBASE_HI_ADDR j, .rw, []⟩]⟩,
  ⟨0x20108, 0x10000000, 1, 16, 64, fun _ j => [⟨F.HI_RCFG_EN j, .rw, []⟩,
    ⟨F.HI_RCFG_KIND j, .rw, []⟩,
    ⟨F.HI_RCFG_SIZE_LOG2 j, .rw, []⟩,
    ⟨F.HI_RCFG_VEC j, .rw, []⟩,
    ⟨F.HI_RCFG_MOD j, .rw, []⟩,
    ⟨F.HI_RCFG_IRQ_EN j, .rw, []⟩]⟩,
  ⟨0x2010c, 0x10000000, 1, 16, 64, fun _ j => [⟨F.HI_RSTAT_STATE j, .ro, []⟩,
    ⟨F.HI_RSTAT_ERR j, .ro, []⟩,
    ⟨F.HI_RSTAT_OUTSTANDING j, .ro, []⟩]⟩,
  ⟨0x4000000, 0x10000000, 1, 4, 1, fun _ _ => [⟨F.HI_NUDGE_VALUE, .wo, []⟩]⟩]

def specsTW0 : List RSpec := [
  ⟨0x90000, 0x10000000, 1, 4, 1, fun _ _ => [⟨F.TW_CTRL_EN, .rw, []⟩,
    ⟨F.TW_CTRL_HB_EN, .rw, []⟩,
    ⟨F.TW_CTRL_FENCE_FABRIC, .rw, []⟩,
    ⟨F.TW_CTRL_CNT_WRAP_EVT, .rw, []⟩]⟩,
  ⟨0x90004, 0x10000000, 1, 4, 1, fun _ _ => [⟨F.TW_STATUS_ROLE, .ro, []⟩,
    ⟨F.TW_STATUS_ACT_SLOT, .ro, []⟩,
    ⟨F.TW_STATUS_DUP_ID, .ro, []⟩,
    ⟨F.TW_STATUS_FENCED, .ro, []⟩,
    ⟨F.TW_STATUS_KEY_NEXT, .ro, []⟩,
    ⟨F.TW_STATUS_LINKS_UP, .ro, []⟩]⟩,
  ⟨0x90008, 0x10000000, 1, 4, 1, fun _ _ => [⟨F.TW_EVENT_DUP_ID, .w1c, []⟩,
    ⟨F.TW_EVENT_LINK_UP, .w1c, []⟩,
    ⟨F.TW_EVENT_LINK_LOST, .w1c, []⟩,
    ⟨F.TW_EVENT_AUTH_FAIL, .w1c, []⟩,
    ⟨F.TW_EVENT_ATTACH_FAIL, .w1c, []⟩,
    ⟨F.TW_EVENT_SYNCED, .w1c, []⟩,
    ⟨F.TW_EVENT_PEER_LOST, .w1c, []⟩,
    ⟨F.TW_EVENT_FENCE_SENT, .w1c, []⟩,
    ⟨F.TW_EVENT_FENCE_CONFIRMED, .w1c, []⟩,
    ⟨F.TW_EVENT_TAKEOVER_DONE, .w1c, []⟩,
    ⟨F.TW_EVENT_LOG_OVERRUN, .w1c, []⟩,
    ⟨F.TW_EVENT_CKPT_GAP, .w1c, []⟩,
    ⟨F.TW_EVENT_SHADOW_FULL, .w1c, []⟩,
    ⟨F.TW_EVENT_EPOCH_SWITCH, .w1c, []⟩]⟩,
  ⟨0x9000c, 0x10000000, 1, 4, 1, fun _ _ => [⟨F.TW_ID_DEV_ID, .rws, []⟩,
    ⟨F.TW_ID_VALID, .rws, []⟩]⟩,
  ⟨0x90010, 0x10000000, 1, 4, 1, fun _ _ => [⟨F.TW_NET_UDP_PORT, .rws, [(1, 65535)]⟩,
    ⟨F.TW_NET_DSCP, .rw, []⟩,
    ⟨F.TW_NET_PCP, .rw, []⟩]⟩,
  ⟨0x90014, 0x10000000, 1, 4, 1, fun _ _ => [⟨F.TW_HB_HB_US, .rw, [(50, 5000)]⟩,
    ⟨F.TW_HB_MISS, .rw, [(2, 15)]⟩]⟩,
  ⟨0x90018, 0x10000000, 1, 4, 1, fun _ _ => [⟨F.TW_LINK_SEL_LINK, .rw, []⟩,
    ⟨F.TW_LINK_SEL_WORD, .rw, []⟩]⟩,
  ⟨0x9001c, 0x10000000, 1, 4, 1, fun _ _ => [⟨F.TW_LINK_DATA_DATA, .rw, []⟩]⟩,
  ⟨0x90020, 0x10000000, 1, 4, 1, fun _ _ => [⟨F.TW_KEY_SEL_WORD, .rw, []⟩]⟩,
  ⟨0x90024, 0x10000000, 1, 4, 1, fun _ _ => [⟨F.TW_KEY_DATA_KEY, .wo, []⟩]⟩,
  ⟨0x90028, 0x10000000, 1, 4, 1, fun _ _ => [⟨F.TW_EPOCH_CUR, .ro, []⟩,
    ⟨F.TW_EPOCH_SWITCH, .wo, []⟩,
    ⟨F.TW_EPOCH_PREV_MS, .rw, []⟩]⟩,
  ⟨0x9002c, 0x10000000, 1, 4, 1, fun _ _ => [⟨F.TW_MIRROR_BUF_OFS, .rws, []⟩,
    ⟨F.TW_MIRROR_BUF_KB, .rws, [(1, 255)]⟩]⟩]

def specsTW1 : List RSpec := [
  ⟨0x90030, 0x10000000, 1, 4, 1, fun _ _ => [⟨F.TW_LINKS_LO_UP, .ro, []⟩]⟩,
  ⟨0x90034, 0x10000000, 1, 4, 1, fun _ _ => [⟨F.TW_LINKS_HI_UP, .ro, []⟩]⟩,
  ⟨0x90038, 0x10000000, 1, 4, 1, fun _ _ => [⟨F.TW_TWIN_TWIN, .rw, []⟩,
    ⟨F.TW_TWIN_EN, .rw, []⟩,
    ⟨F.TW_TWIN_DIRECT_PORT, .rw, [(0, 4)]⟩,
    ⟨F.TW_TWIN_ING_FWD, .rw, []⟩,
    ⟨F.TW_TWIN_NOTE_US, .rw, [(5, 100)]⟩]⟩,
  ⟨0x9003c, 0x10000000, 1, 4, 1, fun _ _ => [⟨F.TW_TKO_DURATION_US, .ro, []⟩,
    ⟨F.TW_TKO_PATH, .ro, []⟩,
    ⟨F.TW_TKO_SLOT, .ro, []⟩,
    ⟨F.TW_TKO_CLOSED, .ro, []⟩]⟩,
  ⟨0x90100, 0x10000000, 1, 32, 4, fun _ j => [⟨F.TW_PRI_CFG_PEER j, .rw, []⟩,
    ⟨F.TW_PRI_CFG_EN j, .rw, []⟩,
    ⟨F.TW_PRI_CFG_AUTO j, .rw, []⟩,
    ⟨F.TW_PRI_CFG_DIRECT_PORT j, .rw, [(0, 4)]⟩,
    ⟨F.TW_PRI_CFG_ING_SRC j, .rw, []⟩,
    ⟨F.TW_PRI_CFG_ACT_MODE j, .rw, [(2, 4)]⟩,
    ⟨F.TW_PRI_CFG_FORCE j, .wo, []⟩,
    ⟨F.TW_PRI_CFG_TAKEOVER j, .wo, []⟩]⟩,
  ⟨0x90104, 0x10000000, 1, 32, 4, fun _ j => [⟨F.TW_PRI_SHADOW_FIRST_PAGE j, .rws, []⟩,
    ⟨F.TW_PRI_SHADOW_PAGES j, .rws, [(0, 8192)]⟩]⟩,
  ⟨0x90108, 0x10000000, 1, 32, 4, fun _ j => [⟨F.TW_PRI_LOG_LOG_MS j, .rw, [(8, 255)]⟩,
    ⟨F.TW_PRI_LOG_LOG_PAGES j, .rws, [(1, 255)]⟩]⟩,
  ⟨0x9010c, 0x10000000, 1, 32, 4, fun _ j => [⟨F.TW_PRI_STAT_STATE j, .ro, []⟩,
    ⟨F.TW_PRI_STAT_MIRRORED j, .ro, []⟩,
    ⟨F.TW_PRI_STAT_EXACT j, .ro, []⟩,
    ⟨F.TW_PRI_STAT_REFUSE j, .ro, []⟩]⟩,
  ⟨0x90110, 0x10000000, 1, 32, 4, fun _ j => [⟨F.TW_PRI_LAG_LAG_US j, .ro, []⟩,
    ⟨F.TW_PRI_LAG_LOG_HELD_MS j, .ro, []⟩]⟩,
  ⟨0x90114, 0x10000000, 1, 32, 4, fun _ j => [⟨F.TW_PRI_ADDR_UCAST_A j, .rw, []⟩,
    ⟨F.TW_PRI_ADDR_A_EN j, .rw, []⟩,
    ⟨F.TW_PRI_ADDR_UCAST_B j, .rw, []⟩,
    ⟨F.TW_PRI_ADDR_B_EN j, .rw, []⟩,
    ⟨F.TW_PRI_ADDR_ADDRS j, .ro, []⟩]⟩,
  ⟨0x90200, 0x10000000, 1, 4, 32, fun _ j => [⟨F.TW_CNT_COUNT j, .rc, []⟩]⟩]

def specsRL0 : List RSpec := [
  ⟨0x60000, 0x10000000, 1, 4, 1, fun _ _ => [⟨F.RL_CTRL_AUTO_RETIRE, .rw, []⟩,
    ⟨F.RL_CTRL_ROW_REPAIR_EN, .rw, []⟩,
    ⟨F.RL_CTRL_FATAL_ISOLATE, .rw, []⟩,
    ⟨F.RL_CTRL_COALESCE_EN, .rw, []⟩]⟩,
  ⟨0x60004, 0x10000000, 1, 4, 1, fun _ _ => [⟨F.RL_STATUS_FIFO_FULL, .ro, []⟩,
    ⟨F.RL_STATUS_LOSING, .ro, []⟩,
    ⟨F.RL_STATUS_SCRUBBING, .ro, []⟩,
    ⟨F.RL_STATUS_ISOLATED, .ro, []⟩,
    ⟨F.RL_STATUS_RETIRING, .ro, []⟩]⟩,
  ⟨0x60008, 0x10000000, 1, 4, 1, fun _ _ => [⟨F.RL_EVENT_CORE_SUSPECT, .w1c, []⟩,
    ⟨F.RL_EVENT_CORE_RETIRED, .w1c, []⟩,
    ⟨F.RL_EVENT_ROW_REPAIRED, .w1c, []⟩,
    ⟨F.RL_EVENT_NO_SPARE_ROW, .w1c, []⟩,
    ⟨F.RL_EVENT_CLUSTER_OUT, .w1c, []⟩,
    ⟨F.RL_EVENT_PAGE_SUSPECT, .w1c, []⟩,
    ⟨F.RL_EVENT_SCRUB_DONE, .w1c, []⟩,
    ⟨F.RL_EVENT_FATAL, .w1c, []⟩,
    ⟨F.RL_EVENT_REPORTS_LOST, .w1c, []⟩,
    ⟨F.RL_EVENT_FIRST_CAPTURED, .w1c, []⟩,
    ⟨F.RL_EVENT_LIFE_90, .w1c, []⟩,
    ⟨F.RL_EVENT_LIFE_END, .w1c, []⟩]⟩,
  ⟨0x6000c, 0x10000000, 1, 4, 1, fun _ _ => [⟨F.RL_FIFO_STAT_DEPTH, .ro, []⟩,
    ⟨F.RL_FIFO_STAT_HWM, .ro, []⟩,
    ⟨F.RL_FIFO_STAT_RESTART, .wo, []⟩]⟩,
  ⟨0x60010, 0x10000000, 1, 4, 1, fun _ _ => [⟨F.RL_LOST_A_LOW, .rc, []⟩,
    ⟨F.RL_LOST_A_HIGH, .rc, []⟩]⟩,
  ⟨0x60014, 0x10000000, 1, 4, 1, fun _ _ => [⟨F.RL_LOST_B_LOW, .rc, []⟩,
    ⟨F.RL_LOST_B_HIGH, .rc, []⟩]⟩,
  ⟨0x60018, 0x10000000, 1, 4, 1, fun _ _ => [⟨F.RL_LOST_C_LOW, .rc, []⟩,
    ⟨F.RL_LOST_C_HIGH, .rc, []⟩]⟩,
  ⟨0x6001c, 0x10000000, 1, 4, 1, fun _ _ => [⟨F.RL_FAULT_CNT_CORRECTED, .rc, []⟩,
    ⟨F.RL_FAULT_CNT_CONTAINED, .rc, []⟩]⟩,
  ⟨0x60020, 0x10000000, 1, 4, 1, fun _ _ => [⟨F.RL_SCRUB_CFG_HBM_HOURS, .rw, []⟩,
    ⟨F.RL_SCRUB_CFG_SRAM_MIN, .rw, []⟩,
    ⟨F.RL_SCRUB_CFG_PAUSE, .rw, []⟩]⟩,
  ⟨0x60024, 0x10000000, 1, 4, 1, fun _ _ => [⟨F.RL_SCRUB_STAT_PAGE, .ro, []⟩,
    ⟨F.RL_SCRUB_STAT_PASSES, .ro, []⟩]⟩,
  ⟨0x60028, 0x10000000, 1, 4, 1, fun _ _ => [⟨F.RL_LIFE_COUNT, .rws, []⟩]⟩,
  ⟨0x6002c, 0x10000000, 1, 4, 1, fun _ _ => [⟨F.RL_EQUIV_COUNT, .rws, []⟩]⟩]

def specsRL1 : List RSpec := [
  ⟨0x60030, 0x10000000, 1, 4, 1, fun _ _ => [⟨F.RL_SPARES_SPARE_FREE, .ro, []⟩,
    ⟨F.RL_SPARES_CL_IN_SERVICE, .ro, []⟩]⟩,
  ⟨0x60034, 0x10000000, 1, 4, 1, fun _ _ => [⟨F.RL_CORE_CMD_CORE, .wo, [(0, 143)]⟩,
    ⟨F.RL_CORE_CMD_ACTION, .wo, [(0, 2)]⟩]⟩,
  ⟨0x60038, 0x10000000, 1, 4, 1, fun _ _ => [⟨F.RL_THRESH_RETIRE_FAULTS, .rw, [(1, 255)]⟩,
    ⟨F.RL_THRESH_RETIRE_HOURS, .rw, [(1, 255)]⟩,
    ⟨F.RL_THRESH_CE_STORM, .rw, [(1, 255)]⟩,
    ⟨F.RL_THRESH_HANG_MS, .rw, [(1, 255)]⟩]⟩,
  ⟨0x6003c, 0x10000000, 1, 4, 1, fun _ _ => [⟨F.RL_FIRST_CTRL_VALID, .ro, []⟩,
    ⟨F.RL_FIRST_CTRL_CLEAR, .wo, []⟩,
    ⟨F.RL_FIRST_CTRL_LATER, .ro, []⟩]⟩,
  ⟨0x60040, 0x10000000, 1, 4, 8, fun _ j => [⟨F.RL_FIRST_WORD j, .ro, []⟩]⟩,
  ⟨0x60100, 0x10000000, 1, 8, 16, fun _ j => [⟨F.RL_CL_REPAIR_ROWS j, .ro, []⟩,
    ⟨F.RL_CL_REPAIR_CSM_LEFT j, .ro, []⟩,
    ⟨F.RL_CL_REPAIR_CORE_MIN_LEFT j, .ro, []⟩,
    ⟨F.RL_CL_REPAIR_RETIRED j, .ro, []⟩,
    ⟨F.RL_CL_REPAIR_CPS_LEFT j, .ro, []⟩]⟩,
  ⟨0x60104, 0x10000000, 1, 8, 16, fun _ j => [⟨F.RL_CL_ERR_CORRECTED j, .rc, []⟩,
    ⟨F.RL_CL_ERR_CONTAINED j, .rc, []⟩]⟩,
  ⟨0x60200, 0x10000000, 1, 4, 64, fun _ j => [⟨F.RL_FIFO_SOURCE j, .ro, []⟩,
    ⟨F.RL_FIFO_CODE j, .ro, []⟩,
    ⟨F.RL_FIFO_CLASS j, .ro, []⟩,
    ⟨F.RL_FIFO_COUNT j, .ro, []⟩,
    ⟨F.RL_FIFO_VALID j, .ro, []⟩]⟩]

def specsGL0 : List RSpec := [
  ⟨0x0, 0x10000000, 1, 4, 1, fun _ _ => [⟨F.GL_ID_PART, .ro, []⟩,
    ⟨F.GL_ID_STEPPING, .ro, []⟩]⟩,
  ⟨0x4, 0x10000000, 1, 4, 1, fun _ _ => [⟨F.GL_MODE_MODE, .ro, []⟩,
    ⟨F.GL_MODE_PREV, .ro, []⟩,
    ⟨F.GL_MODE_RETURN, .ro, []⟩,
    ⟨F.GL_MODE_CHANGING, .ro, []⟩]⟩,
  ⟨0x8, 0x10000000, 1, 4, 1, fun _ _ => [⟨F.GL_STATUS_BOOT_READY, .ro, []⟩,
    ⟨F.GL_STATUS_SECURE, .ro, []⟩,
    ⟨F.GL_STATUS_IMAGE_OK, .ro, []⟩,
    ⟨F.GL_STATUS_LIVE, .ro, []⟩,
    ⟨F.GL_STATUS_PERST_COLD, .ro, []⟩]⟩,
  ⟨0xc, 0x10000000, 1, 4, 1, fun _ _ => [⟨F.GL_EVENT_MODE_CHANGE, .w1c, []⟩,
    ⟨F.GL_EVENT_AUTO_ISOLATE, .w1c, []⟩,
    ⟨F.GL_EVENT_LIVE_LOST, .w1c, []⟩,
    ⟨F.GL_EVENT_LIVE_BACK, .w1c, []⟩,
    ⟨F.GL_EVENT_BOOT_FAIL, .w1c, []⟩,
    ⟨F.GL_EVENT_WARM_DONE, .w1c, []⟩,
    ⟨F.GL_EVENT_FACTORY_DENIED, .w1c, []⟩]⟩,
  ⟨0x10, 0x10000000, 1, 4, 1, fun _ _ => [⟨F.GL_CTRL_WARM_KEY, .wo, []⟩,
    ⟨F.GL_CTRL_WARM_RESET, .wo, []⟩,
    ⟨F.GL_CTRL_PERST_COLD, .rws, []⟩]⟩,
  ⟨0x14, 0x10000000, 1, 4, 1, fun _ _ => [⟨F.GL_STRAP_BOOT, .ro, []⟩,
    ⟨F.GL_STRAP_PERST, .ro, []⟩,
    ⟨F.GL_STRAP_TEST, .ro, []⟩,
    ⟨F.GL_STRAP_SVN_MIN, .ro, []⟩]⟩,
  ⟨0x18, 0x10000000, 1, 4, 1, fun _ _ => [⟨F.GL_RESET_CAUSE_LAST, .ro, []⟩,
    ⟨F.GL_RESET_CAUSE_WARM_CNT, .ro, []⟩]⟩,
  ⟨0x1c, 0x10000000, 1, 4, 1, fun _ _ => [⟨F.GL_BOOT_STAT_SRC, .ro, []⟩,
    ⟨F.GL_BOOT_STAT_STATUS, .ro, []⟩,
    ⟨F.GL_BOOT_STAT_SVN, .ro, []⟩]⟩,
  ⟨0x100, 0x10000000, 1, 4, 88, fun _ j => [⟨F.GL_SCRATCH_DATA j, .rw, []⟩]⟩]

def specsPW0 : List RSpec := [
  ⟨0x70000, 0x10000000, 1, 4, 1, fun _ _ => [⟨F.PW_CTRL_WAKE_MODE, .rw, [(2, 5), (7, 8), (15, 15)]⟩,
    ⟨F.PW_CTRL_VCORE_OFF, .rws, []⟩,
    ⟨F.PW_CTRL_LIVE_ISOLATE, .rws, []⟩]⟩,
  ⟨0x70004, 0x10000000, 1, 4, 1, fun _ _ => [⟨F.PW_STATUS_PWR_OK, .ro, []⟩,
    ⟨F.PW_STATUS_LIVE_EN, .ro, []⟩,
    ⟨F.PW_STATUS_VCORE_EN, .ro, []⟩,
    ⟨F.PW_STATUS_HBM_SR, .ro, []⟩,
    ⟨F.PW_STATUS_JOURNAL, .ro, []⟩]⟩,
  ⟨0x70008, 0x10000000, 1, 4, 1, fun _ _ => [⟨F.PW_EVENT_DOZE_ENTRY, .w1c, []⟩,
    ⟨F.PW_EVENT_DOZE_EXIT, .w1c, []⟩,
    ⟨F.PW_EVENT_THERMOS_EXIT, .w1c, []⟩,
    ⟨F.PW_EVENT_WAKE_TO_BOOT, .w1c, []⟩,
    ⟨F.PW_EVENT_UNDERVOLT, .w1c, []⟩,
    ⟨F.PW_EVENT_JOURNAL_KEPT, .w1c, []⟩,
    ⟨F.PW_EVENT_JOURNAL_LOST, .w1c, []⟩]⟩,
  ⟨0x7000c, 0x10000000, 1, 4, 1, fun _ _ => [⟨F.PW_TIMES_ENTRY_MS, .ro, []⟩,
    ⟨F.PW_TIMES_EXIT_MS, .ro, []⟩,
    ⟨F.PW_TIMES_DOZE_WAKE_US, .ro, []⟩]⟩,
  ⟨0x70010, 0x10000000, 1, 4, 1, fun _ _ => [⟨F.PW_POWER_NOW, .ro, []⟩,
    ⟨F.PW_POWER_PEAK, .ro, []⟩,
    ⟨F.PW_POWER_RESTART, .wo, []⟩]⟩,
  ⟨0x70014, 0x10000000, 1, 4, 1, fun _ _ => [⟨F.PW_JOURNAL_HANDLE, .ro, []⟩,
    ⟨F.PW_JOURNAL_STEP, .ro, []⟩,
    ⟨F.PW_JOURNAL_ROLLBACK, .ro, []⟩,
    ⟨F.PW_JOURNAL_PHASE, .ro, []⟩]⟩,
  ⟨0x70018, 0x10000000, 1, 4, 1, fun _ _ => [⟨F.PW_IMAGE_CURRENT, .ro, []⟩]⟩,
  ⟨0x7001c, 0x10000000, 1, 4, 1, fun _ _ => [⟨F.PW_UV_CNT_COUNT, .rc, []⟩]⟩,
  ⟨0x70100, 0x10000000, 1, 8, 16, fun _ j => [⟨F.PW_CL_RESET j, .wo, []⟩,
    ⟨F.PW_CL_STATE j, .ro, []⟩,
    ⟨F.PW_CL_UNGATED j, .ro, []⟩,
    ⟨F.PW_CL_RESETS j, .ro, []⟩]⟩,
  ⟨0x70104, 0x10000000, 1, 8, 16, fun _ j => [⟨F.PW_FWX_IMAGE j, .ro, []⟩,
    ⟨F.PW_FWX_VERSION j, .ro, []⟩]⟩,
  ⟨0x70200, 0x10000000, 1, 4, 8, fun _ j => [⟨F.PW_RAIL_UV j, .ro, []⟩,
    ⟨F.PW_RAIL_UV_STICKY j, .w1c, []⟩,
    ⟨F.PW_RAIL_UV_CNT j, .rc, []⟩,
    ⟨F.PW_RAIL_NOMINAL_MV j, .ro, []⟩]⟩]

def specsLN0 : List RSpec := [
  ⟨0x2000000, 0x10000000, 1, 4, 1, fun _ _ => [⟨F.LN_MBX_CMD_OPCODE, .rw, []⟩]⟩,
  ⟨0x2000004, 0x10000000, 1, 4, 1, fun _ _ => [⟨F.LN_MBX_STAT_RESULT, .ro, []⟩,
    ⟨F.LN_MBX_STAT_OPCODE, .ro, []⟩,
    ⟨F.LN_MBX_STAT_DONE, .rc, []⟩,
    ⟨F.LN_MBX_STAT_BUSY, .ro, []⟩]⟩,
  ⟨0x2000008, 0x10000000, 1, 4, 8, fun _ j => [⟨F.LN_MBX_ARG_ARG j, .rw, []⟩]⟩,
  ⟨0x2000028, 0x10000000, 1, 4, 4, fun _ j => [⟨F.LN_MBX_RES_RES j, .ro, []⟩]⟩,
  ⟨0x2000038, 0x10000000, 1, 4, 1, fun _ _ => [⟨F.LN_EVENT_DONE, .w1c, []⟩,
    ⟨F.LN_EVENT_IGNORED, .w1c, []⟩,
    ⟨F.LN_EVENT_EVT_PENDING, .ro, []⟩,
    ⟨F.LN_EVENT_EVT_OVERFLOW, .w1c, []⟩,
    ⟨F.LN_EVENT_IRQ_DONE_EN, .rw, []⟩,
    ⟨F.LN_EVENT_IRQ_EVT_EN, .rw, []⟩]⟩,
  ⟨0x200003c, 0x10000000, 1, 4, 1, fun _ _ => [⟨F.LN_IGNORED_COUNT, .ro, []⟩]⟩]

def specsCL0 : List RSpec := [
  ⟨0x200000, 0x10000, 16, 4, 1, fun i _ => [⟨F.CL_STATUS_IN_SERVICE i, .ro, []⟩,
    ⟨F.CL_STATUS_ACTIVE i, .ro, []⟩,
    ⟨F.CL_STATUS_SPARE_FREE i, .ro, []⟩,
    ⟨F.CL_STATUS_ROM_REDIRECT i, .ro, []⟩]⟩,
  ⟨0x200004, 0x10000, 16, 4, 1, fun i _ => [⟨F.CL_EVENT_ROW_LOGGED i, .w1c, []⟩,
    ⟨F.CL_EVENT_CPS_RESTORED i, .w1c, []⟩,
    ⟨F.CL_EVENT_ROM_REDIRECT i, .w1c, []⟩,
    ⟨F.CL_EVENT_PATCH_CHANGED i, .w1c, []⟩]⟩,
  ⟨0x200008, 0x10000, 16, 4, 1, fun i _ => [⟨F.CL_CTRL_LOG_CLR i, .wo, []⟩,
    ⟨F.CL_CTRL_ARB_RESTART i, .wo, []⟩,
    ⟨F.CL_CTRL_OVL_WRAP_EVT i, .rw, []⟩]⟩,
  ⟨0x20000c, 0x10000, 16, 4, 1, fun i _ => [⟨F.CL_PATCH_SEL_BLOCK i, .rw, []⟩]⟩,
  ⟨0x200010, 0x10000, 16, 4, 1, fun i _ => [⟨F.CL_PATCH_DATA_CPS_BLOCK i, .ro, []⟩]⟩,
  ⟨0x200014, 0x10000, 16, 4, 1, fun i _ => [⟨F.CL_ROM_VER_VERSION i, .ro, []⟩]⟩,
  ⟨0x200018, 0x10000, 16, 4, 1, fun i _ => [⟨F.CL_CSM_STAT_MAX_NS i, .ro, []⟩]⟩,
  ⟨0x20001c, 0x10000, 16, 4, 1, fun i _ => [⟨F.CL_CSM_ROWLOG_ROW i, .ro, []⟩,
    ⟨F.CL_CSM_ROWLOG_BANK i, .ro, []⟩,
    ⟨F.CL_CSM_ROWLOG_VALID i, .ro, []⟩]⟩,
  ⟨0x200020, 0x10000, 16, 4, 1, fun i _ => [⟨F.CL_CPS_ROWLOG_ROW i, .ro, []⟩,
    ⟨F.CL_CPS_ROWLOG_BANK i, .ro, []⟩,
    ⟨F.CL_CPS_ROWLOG_VALID i, .ro, []⟩]⟩,
  ⟨0x200024, 0x10000, 16, 4, 1, fun i _ => [⟨F.CL_SELFTEST_CORE_PASS i, .ro, []⟩,
    ⟨F.CL_SELFTEST_CPS_PASS i, .ro, []⟩,
    ⟨F.CL_SELFTEST_VECTORS_PASS i, .ro, []⟩]⟩,
  ⟨0x200040, 0x10000, 16, 4, 9, fun i j => [⟨F.CL_ROWLOG_ROW (9 * i + j), .ro, []⟩,
    ⟨F.CL_ROWLOG_MEM (9 * i + j), .ro, []⟩,
    ⟨F.CL_ROWLOG_VALID (9 * i + j), .ro, []⟩]⟩,
  ⟨0x200080, 0x10000, 16, 4, 9, fun i j => [⟨F.CL_OVL_CNT_COPIES (9 * i + j), .ro, []⟩]⟩]

def specsCL1 : List RSpec := [
  ⟨0x2000c0, 0x10000, 16, 4, 9, fun i j => [⟨F.CL_CSM_WAIT_WAITS (9 * i + j), .rc, []⟩]⟩]

def specsST : List RSpec := specsST0 ++ specsST1

def specsCO : List RSpec := specsCO0

def specsTH : List RSpec := specsTH0 ++ specsTH1

def specsHP : List RSpec := specsHP0 ++ specsHP1

def specsEP : List RSpec := specsEP0 ++ specsEP1

def specsMG : List RSpec := specsMG0 ++ specsMG1

def specsCP : List RSpec := specsCP0 ++ specsCP1 ++ specsCP2

def specsTD : List RSpec := specsTD0

def specsBS : List RSpec := specsBS0 ++ specsBS1

def specsLM : List RSpec := specsLM0

def specsRK : List RSpec := specsRK0 ++ specsRK1

def specsHI : List RSpec := specsHI0 ++ specsHI1

def specsTW : List RSpec := specsTW0 ++ specsTW1

def specsRL : List RSpec := specsRL0 ++ specsRL1

def specsGL : List RSpec := specsGL0

def specsPW : List RSpec := specsPW0

def specsLN : List RSpec := specsLN0

def specsCL : List RSpec := specsCL0 ++ specsCL1

/-- The specifications of the region that holds an address (R508). -/
def specsAt (a : Nat) : List RSpec :=
  if 0x0 ≤ a ∧ a < 0x10000 then specsGL
  else if 0x10000 ≤ a ∧ a < 0x20000 then specsST
  else if 0x20000 ≤ a ∧ a < 0x30000 then specsHI
  else if 0x30000 ≤ a ∧ a < 0x40000 then specsTH
  else if 0x40000 ≤ a ∧ a < 0x50000 then specsHP
  else if 0x50000 ≤ a ∧ a < 0x60000 then specsCP
  else if 0x60000 ≤ a ∧ a < 0x70000 then specsRL
  else if 0x70000 ≤ a ∧ a < 0x80000 then specsPW
  else if 0x80000 ≤ a ∧ a < 0x90000 then specsRK
  else if 0x90000 ≤ a ∧ a < 0xa0000 then specsTW
  else if 0xa0000 ≤ a ∧ a < 0xb0000 then specsMG
  else if 0xb0000 ≤ a ∧ a < 0xc0000 then specsTD
  else if 0xc0000 ≤ a ∧ a < 0xd0000 then specsBS
  else if 0xd0000 ≤ a ∧ a < 0xe0000 then specsLM
  else if 0x100000 ≤ a ∧ a < 0x140000 then specsEP
  else if 0x200000 ≤ a ∧ a < 0x300000 then specsCL
  else if 0x400000 ≤ a ∧ a < 0x490000 then specsCO
  else if 0x2000000 ≤ a ∧ a < 0x3000000 then specsLN
  else if 0x4000000 ≤ a ∧ a < 0x5000000 then specsHI
  else []

/-- The instance numbers by which an address is an instance of a register. -/
def RSpec.hit (r : RSpec) (a : Nat) : Option (Nat × Nat) :=
  if a < r.base then none else
  let i := (a - r.base) / r.stride1
  let o := (a - r.base) % r.stride1
  let j := o / r.stride2
  if i < r.count1 ∧ j < r.count2 ∧ o % r.stride2 = 0 then some (i, j) else none

/-- The fields of the register at an address; none where the offset holds no register (R509). -/
def fieldsIn (a : Nat) : List RSpec → Option (List FSpec)
  | [] => none
  | r :: rs => match r.hit a with
    | some (i, j) => some (r.fields i j)
    | none => fieldsIn a rs

def fieldsAt (a : Nat) : Option (List FSpec) := fieldsIn a (specsAt a)

end Sys2Proof.Machine
end

