-- ==== Sys2Proof/Machine/State.lean ====
section
/-! DEFINITION. The state of the device, its state after reset, and the reasons for which a step may stop. -/
namespace Sys2Proof.Machine

/-- The state of the block: everything the spec gives it, and the queue of the commands that wait. -/
structure State where
  /-- What is fused, strapped or fitted to the part (R46, R490, R494). -/
  fuse : Fuses
  /-- Device time since power-on, ns: what the spec measures intervals against. -/
  elapsed : Nat
  /-- The model's own field: counts the free values drawn. -/
  freeCtr : Nat
  /-- Register fields that differ from their reset values, by address × 8 + lowest bit (R508-R514). -/
  regs : SMap Nat
  /-- The physical cores that differ from a core at reset (R2, R73). -/
  cores : SMap Core
  /-- CSM, CPS, patch maps and spare rows of the clusters (R80, R214, R452). -/
  mem : ClusterMem
  /-- Trailhead (R146-R178). -/
  th : Trail
  /-- The open channels by number (R30-R40, R193). -/
  chans : SMap Chan
  /-- Hamper (R180-R212). -/
  hp : Hamper
  /-- The packet ports (R234-R268). -/
  ep : Ports
  /-- Compass (R284-R297). -/
  cp : Compass
  /-- The TDM highways (R299-R305). -/
  td : Tdm
  /-- The bitstream ports (R309-R335). -/
  bs : Bits1
  /-- The line measurement unit (R337-R354). -/
  lm : Lmu
  /-- The host interface (R374-R404). -/
  hi : HostIf
  /-- Reports and the reporting FIFO (R401, R462-R467). -/
  rl : Rel
  /-- The fabric and the twin (R406-R436). -/
  tw : Fabric
  /-- The management port (R269-R282). -/
  mg : Mgmt
  /-- Modes, resets, images and jobs of the whole device (R469-R494). -/
  gl : Modes
  /-- The self-timed supervisor (R51-R69). -/
  st : Supervisor
  /-- Rucksack (R356-R373). -/
  rk : Rucksack
  /-- The Lantern mailbox (R496-R506). -/
  ln : Lantern
  /-- The value that the last register read returned (R18, R509). -/
  lastRead : Nat
  /-- What the device has sent out of itself, newest first: host writes, frames, samples, pins. -/
  out : List Out
  /-- The commands that wait, first in, first out. -/
  pending : List Instr
deriving DecidableEq, Repr

/-- Reasons for a stop with a fault. No meaning of this model raises one: the spec gives every command an effect. -/
inductive Fault where
  /-- Raised by nothing; safe. -/
  | none
deriving DecidableEq, Repr

/-- Reasons for a refusal. -/
inductive Refusal where
  /-- A command whose meaning is not written yet; raised by the dispatch alone; safe. -/
  | notModelled (mnemonic : String)
deriving DecidableEq, Repr

/-- The state right after a power-on or cold reset, in HELD (R480, R491): every register field at its reset value (R512),
memories and tables empty, the page table and the spare pool of R186, and the management port in listen-only (R280). -/
def State.reset : State :=
  { fuse := ⟨false, false, 0, 0, false, false, []⟩, elapsed := 0, freeCtr := 0, regs := [], cores := []
    mem := ⟨[], [], [], [], [], []⟩
    th := { queues := [], nextId := 0, nextDisp := 0, flows := [], hist := [], busy := [], disp := [], rebuild := none,
            cancels := [], stopped := [] }
    chans := []
    hp := { hbm := [], poison := [], page := [], spares := 64, pool := (List.range 64).map (8128 + ·), heldPages := [],
            moves := [], wins := [], remote := [], nextRemote := 0, pprUsed := [], wayFails := [], ceTimes := [], moved := [] }
    ep := ⟨[], []⟩
    cp := { sec := 0, ns := 0, frac := 0, residue := 0, loopOut := 0, run := 0, lastPps := 0, locked := [], servoSeq := 0,
            ppsHigh := none, stepped := false, lastEpoch := 0, lastTick := 0, recclk := false }
    td := ⟨[], [], [], []⟩
    bs := ⟨[], [], [], [], []⟩
    lm := { sweep := none, run := none, closed := none, dsch := false, exc := ⟨0, 0, 0, 0, 0, none⟩,
            chain := ⟨0, [0, 0, 0, 0, 0], [0, 0, 0, 0, 0], [], 0, 0, 0, [], 0, 0, 0, 0, false, false⟩
            blankPin := false, blanks := [], lastTelem := 0, telemLeft := [], refWait := false }
    hi := { ring := [], bufs := [], jobs := [], msix := [], msixPend := [], lastTail := none, lastNudge := none,
            slowUntilRead := false, lastPcieWarn := none, nextPoll := 0, itemDrop := [], latch := [] }
    rl := ⟨[], [], []⟩
    tw := { link := [], keyCur := [], keyPrev := [], keyNext := [], switchAt := none, slot := [], notes := [], notesSince := 0,
            noteNext := 0, noteSent := 0, mgFence := [], fabFence := [], migIn := [], evacLink := none, evacAt := 0,
            installed := none }
    mg := { queue := [], started := none, collisions := 0, backoff := none, sendSeq := 0, bucket := 32000000000, filled := 0,
            listenUntil := 500000000, rejects := [], lastSync := none, lastBlank := none, syncAt := [], blank := none, wake := []
            plca := 255 + 8 * 2 ^ 8 + 32 * 2 ^ 16 }
    gl := { trans := none, waiting := [], released := false, egressOff := false, accepted := false, block0 := false,
            curPage := none, newPage := none, fwx := none, warm := false, closedNow := 0, exitAt := none, shadow := [] }
    st := { missSeen := false, lastRaise := none, settle := 0, short := false, okWindows := 0, avs := none, refBack := false,
            refWindows := 0, measured := false, margin := 0, hold := 0, minima := [], excess := false, journal := [],
            measuredAge := false, ageWarned := [], ageLimited := [], entered := [] }
    rk := ⟨[], [], [], false, [], [], [], []⟩
    ln := ⟨[], none, 0, 0⟩
    lastRead := 0, out := [], pending := [] }

end Sys2Proof.Machine
end

