-- ==== Sys2Proof/Machine/Ops.lean ====
section
/-! DEFINITION. The named operations that every family uses: register fields, free values, time, reports and counters,
the cores and the cluster memories. -/
namespace Sys2Proof.Machine

/-! ## Register fields (R5, R18, R512) -/

/-- The stored value of a register field. -/
def State.fld (s : State) (f : Fld) : Nat := mget f.rst s.regs f.key

/-- Stores a value in a register field, cut to the field's width. -/
def State.setFld (s : State) (f : Fld) (v : Nat) : State := { s with regs := mset f.rst s.regs f.key (v % 2 ^ f.w) }

/-- A one-bit field as a flag. -/
def State.flag (s : State) (f : Fld) : Bool := s.fld f = 1

def State.setFlag (s : State) (f : Fld) (b : Bool) : State := s.setFld f (b2n b)

/-- Returns a field to its reset value. -/
def State.rstFld (s : State) (f : Fld) : State := { s with regs := mdel s.regs f.key }

/-- Returns every field of an address range to its reset value, but for the keys that a test keeps. -/
def State.rstRegion (s : State) (lo hi : Nat) (keep : Nat → Bool) : State :=
  { s with regs := mkeep (fun k => keep k || k < lo * 8 || hi * 8 ≤ k) s.regs }

/-- Counts in a class W field (R21). -/
def State.incW (s : State) (f : Fld) (n : Nat) : State := s.setFld f (s.fld f + n)

/-- Draws the number of the next free value. -/
def State.fresh (s : State) : Nat × State := (s.freeCtr, { s with freeCtr := s.freeCtr + 1 })

/-! ## Variant (R46, R47) -/

def State.clusters (s : State) : Nat := if s.fuse.small then 8 else 16
def State.coreCount (s : State) : Nat := 9 * s.clusters
/-- Channel limit (R30). -/
def State.chanLimit (s : State) : Nat := if s.fuse.small then 4096 else 8192
/-- Physical pages of the stack (R186). -/
def State.pages (s : State) : Nat := if s.fuse.small then 4096 else 8192
/-- Admission reserve in half units (R42). -/
def State.reserve (s : State) : Nat := if s.fuse.small then 1216 else 2432

/-! ## Time (R11, R284) -/

/-- Compass time in nanoseconds, a 64-bit class W count (R11). -/
def State.nowNs (s : State) : Nat := (s.cp.sec * 1000000000 + s.cp.ns) % 2 ^ 64

/-! ## Reports (R460-R466) -/

def Cls.code : Cls → Nat
  | .info => 0
  | .warn => 1
  | .corrected => 2
  | .contained => 3
  | .fatal => 4

/-- Place of a class in the order of loss summaries (R464). -/
def Cls.rank : Cls → Nat
  | .fatal => 0
  | .contained => 1
  | .corrected => 2
  | .warn => 3
  | .info => 4

/-- The RL_LOST field of a class (R464, R468). -/
def Cls.lostFld : Cls → Fld
  | .info => F.RL_LOST_A_LOW
  | .warn => F.RL_LOST_A_HIGH
  | .corrected => F.RL_LOST_B_LOW
  | .contained => F.RL_LOST_B_HIGH
  | .fatal => F.RL_LOST_C_LOW

/-- SOURCE and INSTANCE of the block that holds a register (R401). -/
def srcOf (a : Nat) : Nat × Nat :=
  let o := a % 0x10000
  if a < 0x10000 then (0x00, 0)
  else if a < 0x20000 then (0x01, if 0x100 ≤ o then (o - 0x100) / 16 else 0)
  else if a < 0x30000 then (0x02, if 0x100 ≤ o then (o - 0x100) / 16 else 0)
  else if a < 0x40000 then (0x03, if 0x400 ≤ o then (o - 0x400) / 64 else if 0x100 ≤ o then (o - 0x100) / 8 else 0)
  else if a < 0x50000 then (0x04, if 0x200 ≤ o then (o - 0x200) / 8 else 0)
  else if a < 0x60000 then (0x05, if 0x60 ≤ o then (o - 0x60) / 16 else 0)
  else if a < 0x70000 then (0x06, 0)
  else if a < 0x80000 then (0x07, 0)
  else if a < 0x90000 then (0x08, if 0x100 ≤ o ∧ o < 0x200 then (o - 0x100) / 16 else 0)
  else if a < 0xA0000 then (0x09, 0)
  else if a < 0xB0000 then (0x0A, 0)
  else if a < 0xC0000 then (0x0B, if 0x100 ≤ o then (o - 0x100) / 16 else 0)
  else if a < 0xD0000 then (0x0C, if 0x100 ≤ o ∧ o < 0x400 then (o - 0x100) / 32 else 0)
  else if a < 0xE0000 then (0x0D, 0)
  else if a < 0x200000 then (0x10, (a - 0x100000) / 0x10000)
  else if a < 0x400000 then (0x20, (a - 0x200000) / 0x10000)
  else if a < 0x2000000 then (0x21, (a - 0x400000) / 0x1000)
  else if a < 0x3000000 then (0x0E, 0)
  else (0x02, 0)

/-- Reports that name one channel each and are never coalesced (R462). -/
def neverCoalesced (src code : Nat) : Bool := src = 0x30 && (code = 0x0303 || code = 0x0305)

/-- Whether a report is counted in an entry that waits (R462). -/
def coalesce (r : Report) : List Report → Option (List Report)
  | [] => none
  | e :: t =>
    if e.src = r.src ∧ e.code = r.code ∧ e.lost = false then some ({ e with count := min (e.count + 1) 65535 } :: t)
    else (coalesce r t).map (e :: ·)

/-- The waiting entries with one taken by a report, or nothing when it finds no entry it may use (R462). -/
def fifoPut (co : Bool) (r : Report) (l : List Report) : Option (List Report) :=
  match (if co && !neverCoalesced r.src r.code then coalesce r l else none) with
  | some l' => some l'
  | none => if l.length < 60 ∨ (l.length < 64 ∧ r.cls = .fatal) then some (l ++ [r]) else none

/-- Counts a lost report (R464). -/
def State.countLost (s : State) (c : Cls) (t : Nat) : State :=
  let p := mget (0, 0) s.rl.lost c.rank
  let s := { s with rl := { s.rl with lost := mset (0, 0) s.rl.lost c.rank (p.1 + 1, if p.1 = 0 then t else p.2) } }
  ((s.setFld c.lostFld (satAdd 16 (s.fld c.lostFld) 1)).setFlag F.RL_EVENT_REPORTS_LOST true).setFlag F.RL_STATUS_LOSING true

/-- Enters a report into the FIFO (R462, R464). -/
def State.enq (s : State) (r : Report) : State :=
  match fifoPut (s.flag F.RL_CTRL_COALESCE_EN) r s.rl.fifo with
  | some l =>
    let s := { s with rl := { s.rl with fifo := l } }
    s.setFld F.RL_FIFO_STAT_HWM (max (s.fld F.RL_FIFO_STAT_HWM) l.length)
  | none =>
    let full := s.fld r.cls.lostFld = 65534
    let s := s.countLost r.cls r.time
    -- the lost count reached all-ones: its own COUNTER_SAT may be coalesced or lost in turn (R466)
    if full then
      let a := r.cls.lostFld
      let e : Report := ⟨.info, 0x06, 0, 0x00F4, 1, r.time, a.addr, a.lo, 0, false, false⟩
      match fifoPut (s.flag F.RL_CTRL_COALESCE_EN) e s.rl.fifo with
      | some l => { s with rl := { s.rl with fifo := l } }
      | none => s.countLost .info r.time
    else s

/-- Counts in a class S field; one INFO event COUNTER_SAT when it reaches all-ones (R21, R22, R466). -/
def State.incS (s : State) (f : Fld) (n : Nat) : State :=
  let v := s.fld f
  let v' := satAdd f.w v n
  let s := s.setFld f v'
  if v < v' ∧ v' = 2 ^ f.w - 1 then
    s.enq ⟨.info, (srcOf f.addr).1, (srcOf f.addr).2, 0x00F4, 1, s.nowNs, f.addr % 0x1000000, f.lo, 0, false, false⟩
  else s

/-- Counts in a class W field with an optional wrap event (R21, R466). -/
def State.incWrap (s : State) (f : Fld) (n : Nat) (evt : Bool) : State :=
  let v := s.fld f + n
  let s := s.setFld f v
  if evt && decide (v ≥ 2 ^ f.w) then
    s.enq ⟨.info, (srcOf f.addr).1, (srcOf f.addr).2, 0x00F5, 1, s.nowNs, f.addr % 0x1000000, f.lo, 0, false, false⟩
  else s

/-- The words of a record in the form of R401, PHASE 0. -/
def Report.words (r : Report) : List Nat :=
  [r.cls.code + b2n r.injected * 8 + b2n r.lost * 16, r.src % 256 + r.inst % 65536 * 256, r.code % 65536 + r.count % 65536 * 65536,
   r.time % 2 ^ 32, r.time / 2 ^ 32 % 2 ^ 32, r.a0 % 2 ^ 32, r.a1 % 2 ^ 32, r.a2 % 2 ^ 32]

/-- Captures the first CONTAINED or FATAL report since RL_FIRST was cleared, and counts the later ones (R465). -/
def State.captureFirst (s : State) (r : Report) : State :=
  if s.flag F.RL_FIRST_CTRL_VALID then s.incS F.RL_FIRST_CTRL_LATER 1
  else
    let w := { r with count := 1 }.words
    let s := (List.range 8).foldl (fun s i => s.setFld (F.RL_FIRST_WORD i) (nth w i)) s
    (s.setFlag F.RL_FIRST_CTRL_VALID true).setFlag F.RL_EVENT_FIRST_CAPTURED true

/-- The cluster that a report of SOURCE 0x20 or 0x21 concerns. -/
def clusterOf (src inst : Nat) : Option Nat :=
  if src = 0x20 then some inst else if src = 0x21 then some (inst / 9) else none

/-- Raises a report: the counts by class (R468), the first capture (R465), the FATAL bit and the FIFO (R462). -/
def State.raiseR (s : State) (r : Report) : State :=
  let s := match r.cls with
    | .corrected =>
      let s := s.incS F.RL_FAULT_CNT_CORRECTED 1
      match clusterOf r.src r.inst with
      | some c => s.incS (F.RL_CL_ERR_CORRECTED c) 1
      | none => s
    | .contained =>
      let s := s.incS F.RL_FAULT_CNT_CONTAINED 1
      match clusterOf r.src r.inst with
      | some c => s.incS (F.RL_CL_ERR_CONTAINED c) 1
      | none => s
    | .fatal => s.setFlag F.RL_EVENT_FATAL true
    | _ => s
  let s := if r.cls = .contained ∨ r.cls = .fatal then s.captureFirst r else s
  s.enq r

/-- Raises a report of a class, SOURCE, INSTANCE and CODE with three arguments (R461). -/
def State.raise (s : State) (cls : Cls) (src inst code a0 a1 a2 : Nat) : State :=
  s.raiseR ⟨cls, src, inst, code, 1, s.nowNs, a0 % 2 ^ 32, a1 % 2 ^ 32, a2 % 2 ^ 32, false, false⟩

/-- Raises a report marked as injected (R107). -/
def State.raiseInj (s : State) (cls : Cls) (src inst code a0 a1 a2 : Nat) : State :=
  s.raiseR ⟨cls, src, inst, code, 1, s.nowNs, a0 % 2 ^ 32, a1 % 2 ^ 32, a2 % 2 ^ 32, true, false⟩

/-- Sets a bit of an _EVENT register and raises the report that goes with it, with CODE 0x0100 + bit (R460). -/
def State.event (s : State) (f : Fld) (cls : Cls) (inst a0 a1 a2 : Nat) : State :=
  (s.setFlag f true).raise cls (srcOf f.addr).1 inst (0x0100 + f.lo) a0 a1 a2

/-- Raises the WARN report of a write that a rule ignores (R540, R460 CONFIG_REFUSED). -/
def State.configRefused (s : State) (a lo : Nat) : State :=
  s.raise .warn (srcOf a).1 (srcOf a).2 0x00F2 (a % 0x1000000) lo 0

/-- Raises the WARN report of a reserved encoding that a write carried (R8, R540). -/
def State.reservedEncoding (s : State) (a lo : Nat) : State :=
  s.raise .warn (srcOf a).1 (srcOf a).2 0x00F0 (a % 0x1000000) lo 0

/-! ## Cores (R73, R97, R105, R107) -/

/-- A bank after a core reset. -/
def Bank.init : Bank := ⟨[], [], srDispatch 1 false, 0, 0, 0⟩

/-- A core after power-on: every register zero but SR, memories zero (R84, R145). -/
def Core.init : Core :=
  { main := Bank.init, shadow := { Bank.init with sr := 0 }, inShadow := false, bl := [], ovt := 0, pc := 0, stack := [],
    slots := 0, branch := none, win := [], cache := [], cacheOk := false, filling := false, waiting := false, waitSince := 0,
    nest := 0, faultReq := none, handlers := [], waitPc := 0, gvReq := 0, gvtSat := false, dbgReq := false, preReq := false, timReq := false, timer := 0,
    timerFrac := 0, inject := 0, ovl := none, run := none, xm := [], ym := [], cm := [], hist := [], suspect := false,
    busyNs := 0, busyFrom := 0, disp := 0 }

/-- The record of physical core `k`. -/
def State.core (s : State) (k : Nat) : Core := mget Core.init s.cores k

def State.setCore (s : State) (k : Nat) (c : Core) : State := { s with cores := mset Core.init s.cores k c }

/-- The core exists on this part (R2, R46). -/
def State.coreEnabled (s : State) (k : Nat) : Bool := k < s.coreCount

/-- CO_STATUS.STATE is 1: in service (R107). -/
def State.inService (s : State) (k : Nat) : Bool := s.coreEnabled k && s.fld (F.CO_STATUS_STATE k) = 1

def State.mapped (s : State) (k : Nat) : Bool := s.coreEnabled k && s.flag (F.CO_STATUS_MAPPED k)
def State.logical (s : State) (k : Nat) : Nat := s.fld (F.CO_STATUS_LOGICAL k)

/-- The physical cores of a cluster (R15). -/
def coresOf (c : Nat) : List Nat := (List.range 9).map (9 * c + ·)

/-- n_c, the number of active cores of a cluster (R55, R105). -/
def State.active (s : State) (c : Nat) : Nat := ((coresOf c).filter s.mapped).length

/-- The lowest-numbered logical core of a cluster, which DOZE keeps (R475). -/
def State.dozeCore (s : State) (c : Nat) : Option Nat :=
  ((coresOf c).filter s.mapped).foldl (fun acc k =>
    match acc with
    | none => some k
    | some b => if s.logical k < s.logical b then some k else acc) none

/-- All active cores of the device. -/
def State.activeCores (s : State) : Nat := ((List.range s.clusters).map s.active).foldl (· + ·) 0

/-- The cluster is enabled and in service (R451). -/
def State.clusterIn (s : State) (c : Nat) : Bool := decide (c < s.clusters) && bit (s.fld F.RL_SPARES_CL_IN_SERVICE) c

/-- The present mode (R44, R469). -/
def State.mode (s : State) : Nat := s.fld F.GL_MODE_MODE

/-- The cores of a cluster run code: the cluster is released and neither in reset, out of service nor under load (R145,
R483, R485). -/
def State.coresRun (s : State) (c : Nat) : Bool :=
  let st := s.fld (F.PW_CL_STATE c)
  s.gl.released && decide (c < s.clusters) && (st = 1 || st = 3 || st = 4) && s.mode ≠ 0 && s.mode ≠ 9

/-- The active bank of a core. -/
def Core.bank (c : Core) : Bank := if c.inShadow then c.shadow else c.main

def Core.setBank (c : Core) (b : Bank) : Core := if c.inShadow then { c with shadow := b } else { c with main := b }

def Core.sr (c : Core) : W24 := c.bank.sr
def Core.setSr (c : Core) (v : W24) : Core := c.setBank { c.bank with sr := v }

/-! ## Cluster memories (R80, R81) -/

/-- The first CSM address in X and Y space (R80). -/
def csmBase : Nat := 0x400000
def csmWords : Nat := 1048576

/-- Is the address a CSM word? -/
def inCsm (a : Nat) : Bool := csmBase ≤ a && a < csmBase + csmWords

def csmKey (c w : Nat) : Nat := c * csmWords + w

/-- A CSM word of cluster `c`. -/
def csmGet (m : SMap W32) (c w : Nat) : W32 := mget 0 m (csmKey c w)
def csmSet (m : SMap W32) (c w : Nat) (v : W32) : SMap W32 := mset 0 m (csmKey c w) v

/-- The 32-bit CSM word that a 24-bit store leaves (R81). -/
def csmExtend (v : Nat) : W32 := BitVec.ofNat 32 (unsgn 32 (sgn 24 v))

def cpsKey (c w : Nat) : Nat := c * 262144 + w
def State.cps (s : State) (c w : Nat) : W32 := mget 0 s.mem.cps (cpsKey c w)

end Sys2Proof.Machine
end

