-- ==== Sys2Proof/Machine/HamperOps.lean ====
section
/-! DEFINITION. Access to Hamper memory: the page table (R185, R186), bytes and words of slot 0 with writes to pages on
the move (R187), poison (R181, R182), and the contexts of channels (R193-R206). -/
namespace Sys2Proof.Machine

def pageBytes : Nat := 2097152
def lineBytes : Nat := 128
def linesPerPage : Nat := 16384

/-- The page-table entry of R186 for a page that has not been moved. -/
def State.pageDefault (s : State) (p : Nat) : Option Nat := if p + s.hp.spares < s.pages then some p else none

/-- The physical page of a logical page, or nothing when it is unmapped (R185, R186). -/
def State.physPage (s : State) (p : Nat) : Option Nat := (mfind s.hp.page p).getD (s.pageDefault p)

/-- Sets a page-table entry. -/
def State.setPage (s : State) (p : Nat) (v : Option Nat) : State :=
  { s with hp := { s.hp with page := if v = s.pageDefault p then mdel s.hp.page p else mput s.hp.page p v } }

/-- Physical byte address of a slot-0 address. -/
def State.phys (s : State) (a : Nat) : Option Nat := (s.physPage (a / pageBytes)).map fun q => q * pageBytes + a % pageBytes

/-- The byte at a slot-0 address; 0 on an unmapped page, which its users refuse before they read (R186). -/
def State.byte (s : State) (a : Nat) : Byte :=
  match s.phys a with
  | some q => mget 0 s.hp.hbm q
  | none => 0

/-- The destination of a copied line of a page that is being moved (R187). -/
def moveCopy (q : Nat) : List Move → Option Nat
  | [] => none
  | m :: r => if m.src = q / pageBytes ∧ q % pageBytes / lineBytes < m.line then some (m.dst * pageBytes + q % pageBytes) else moveCopy q r

/-- The canonical form of the memories: the stack and its poison, CSM and CPS. -/
def State.memWf (s : State) : Bool := mwf 0 s.hp.hbm && mwf false s.hp.poison && mwf 0 s.mem.csm && mwf 0 s.mem.cps

/-- Writes a byte; a write to a line already copied goes to the destination too (R187). -/
def State.setByte (s : State) (a : Nat) (b : Byte) : State :=
  match s.phys a with
  | none => s
  | some q =>
    let h := mset 0 s.hp.hbm q b
    let h := match moveCopy q s.hp.moves with
      | some d => mset 0 h d b
      | none => h
    { s with hp := { s.hp with hbm := h } }

/-- Ends the poison of a 64-bit word, in both copies while its page is on the move (R182). -/
def State.unpoison (s : State) (w : Nat) : State :=
  let p := mset false s.hp.poison w false
  let p := match moveCopy (w * 8) s.hp.moves with
    | some d => mset false p (d / 8) false
    | none => p
  { s with hp := { s.hp with poison := p } }

/-- Ends the poison of the 64-bit words that a write of `n` bytes at `a` replaces whole (R182). -/
def State.unpoisonRange (s : State) (a n : Nat) : State :=
  if s.hp.poison = [] then s
  else (List.range (n / 8)).foldl (fun s i =>
    let w := (a + 7) / 8 + i
    if w * 8 + 8 ≤ a + n then
      match s.phys (w * 8) with
      | some q => s.unpoison (q / 8)
      | none => s
    else s) s

/-- Writes bytes from an address on. -/
def State.setBytes (s : State) (a : Nat) (l : List Byte) : State :=
  ((l.foldl (fun (e : State × Nat) b => (e.1.setByte e.2 b, e.2 + 1)) (s, a)).1).unpoisonRange a l.length

/-- Reads `n` bytes. -/
def State.bytesAt (s : State) (a n : Nat) : List Byte := (List.range n).map fun i => s.byte (a + i)

/-- Is a 64-bit word of the range poisoned (R182)? -/
def State.poisoned (s : State) (a n : Nat) : Bool :=
  if s.hp.poison = [] then false
  else (List.range ((a + n + 7) / 8 - a / 8)).any fun i =>
    match s.phys ((a / 8 + i) * 8) with
    | some q => mget false s.hp.poison (q / 8)
    | none => false

/-- Is every page of the range mapped (R186)? -/
def State.mappedRange (s : State) (a n : Nat) : Bool :=
  n = 0 || (List.range ((a + n - 1) / pageBytes - a / pageBytes + 1)).all fun i => (s.physPage (a / pageBytes + i)).isSome

/-- A 32-bit word, little-endian (R193). -/
def State.word (s : State) (a : Nat) : Nat := leNat (s.bytesAt a 4)
def State.setWord (s : State) (a v : Nat) : State := s.setBytes a (leBytes 4 v)

/-- Any access to an unmapped page of slot 0 (R186). -/
def State.unmappedEvent (s : State) (page : Nat) : State := s.event F.HP_EVENT_UNMAPPED .warn 0 page 0 0

/-- A read that meets a poisoned word (R181). -/
def State.poisonSeen (s : State) : State := s.setFlag F.HP_EVENT_POISON true

/-! ## Contexts -/

/-- The record of an open channel. -/
def State.chan (s : State) (n : Nat) : Option Chan := mfind s.chans n
def State.setChan (s : State) (n : Nat) (c : Chan) : State := { s with chans := mput s.chans n c }

/-- Word `i` of a channel's context. -/
def State.ctxWord (s : State) (c : Chan) (i : Nat) : Nat := s.word (c.ctx + 4 * i)
def State.setCtxWord (s : State) (c : Chan) (i v : Nat) : State := s.setWord (c.ctx + 4 * i) v

/-- Counts in a class S field of a context word; one COUNTER_SAT of SOURCE 0x30 at all-ones (R21, R461). -/
def State.ctxIncS (s : State) (n : Nat) (c : Chan) (i lo w : Nat) : State :=
  let x := s.ctxWord c i
  let v := bits x lo w
  let v' := satAdd w v 1
  let s := s.setCtxWord c i (setBits x lo w v')
  if v < v' ∧ v' = 2 ^ w - 1 then s.raise .info 0x30 n 0x00F4 (4 * i) lo 0 else s

/-- Counts `k` in count `i` that the mailbox keeps of a Lantern channel (R504): 0 sent, 1 stored, 2 late, early or lost, 3 concealed. -/
def State.lanternCount (s : State) (n i k : Nat) : State :=
  match s.chan n with
  | some c => if c.lantern then
      let l := c.stats ++ List.replicate (4 - c.stats.length) 0
      s.setChan n { c with stats := setAt l i ((nth l i + k) % 65536) }
    else s
  | none => s

def ChanState.code : ChanState → Nat
  | .opened => 1
  | .closing => 2
  | .migOut => 3
  | .migIn => 4

/-- Header word 0 of a channel (R193). -/
def Chan.word0 (c : Chan) (n : Nat) : Nat :=
  n % 8192 + c.st.code * 2 ^ 13 + c.profile % 16 * 2 ^ 16 + c.frame % 4 * 2 ^ 20 + c.home % 16 * 2 ^ 22 + c.mirror % 4 * 2 ^ 26
    + b2n c.graph.wb * 2 ^ 28

/-- The frame number of the last frame tick (R149). -/
def Chan.frameNo (c : Chan) : Nat := (c.frames + 16383) % 16384

/-- Header word 1 of a channel (R193). -/
def Chan.word1 (c : Chan) : Nat := c.stagger % 64 + c.units % 256 * 2 ^ 8 + (if c.ticked = 0 then 0 else (c.ticked + 16383) % 16384) * 2 ^ 16

/-- Stores a channel's record and writes header words 0 and 1 from it. -/
def State.putChan (s : State) (n : Nat) (c : Chan) : State :=
  ((s.setChan n c).setCtxWord c 0 (c.word0 n)).setCtxWord c 1 c.word1

/-- Frame length in ns (R12). -/
def frameNs (f : Nat) : Nat := if f = 0 then 5000000 else if f = 1 then 10000000 else 20000000

/-! ## Packed bytes (R198) -/

/-- Three bytes to a word, byte 3j in bits [23:16]. -/
def packBytes : List Byte → List Nat
  | [] => []
  | [a] => [a.toNat * 65536]
  | [a, b] => [a.toNat * 65536 + b.toNat * 256]
  | a :: b :: c :: r => (a.toNat * 65536 + b.toNat * 256 + c.toNat) :: packBytes r

/-- The bytes of packed words. -/
def unpackWords (l : List Nat) : List Byte :=
  l.flatMap fun w => [BitVec.ofNat 8 (w / 65536), BitVec.ofNat 8 (w / 256), BitVec.ofNat 8 w]

/-! ## Media rings (R200-R202) -/

/-- Byte address of a ring slot's tag: `base` is the header word of the ring's descriptor (20 or 24). -/
def State.ringSlot (s : State) (c : Chan) (base frames samples f : Nat) : Nat :=
  c.ctx + s.ctxWord c base + f % frames * (4 * (samples + 1))

/-- Writes samples, then the tag with frame number and VALID, and LAST (R200). -/
def State.writeRing (s : State) (c : Chan) (base : Nat) (shape : RingShape) (f : Nat) (samples : List Nat) : State :=
  let a := s.ringSlot c base shape.frames shape.samples f
  let s := s.setBytes (a + 4) (wordsLe (samples.map fun v => unsgn 32 (sgn 24 v)))
  let s := s.setWord a (f % 16384 + 2 ^ 31)
  s.setCtxWord c (base + 2) (setBits (s.ctxWord c (base + 2)) 0 14 f)

/-- The samples of a ring slot when its tag carries the frame (R201). -/
def State.readRing (s : State) (c : Chan) (base : Nat) (shape : RingShape) (f : Nat) : Option (List Nat) :=
  let a := s.ringSlot c base shape.frames shape.samples f
  let tag := s.word a
  if bit tag 31 ∧ bits tag 0 14 = f % 16384 then
    some ((List.range shape.samples).map fun i => bits (s.word (a + 4 + 4 * i)) 0 24)
  else none

/-- An item of DEST 0 at release (R202): one frame for the channel's transmit ring, or a counted discard. -/
def State.txRingItem (s : State) (n : Nat) (data : List Byte) : State :=
  match s.chan n with
  | none => s
  | some c =>
    let shape := c.graph.tx
    let f := nth (packBytes (data.take 3)) 0 % 16384
    let bad := shape.frames = 0 || data.length ≠ 3 * (shape.samples + 1)
      || decide ((f + 16384 + 1 - bits (s.ctxWord c 1) 16 14) % 16384 ≥ shape.frames)
    if bad then
      let s := if shape.frames = 0 then s else s.ctxIncS n c 27 16 16
      s.raise .warn 0x30 n Config.codeItemRejected.toNat n 0 0
    else s.writeRing c 24 shape f (packBytes (data.drop 3))

/-! ## Jitter buffer (R203-R206) -/

/-- The descriptor of a slot store. -/
structure JbShape where
  base : Nat
  slots : Nat
  slotBytes : Nat
  view : Nat
deriving DecidableEq, Repr

def State.jbShape (s : State) (c : Chan) : JbShape :=
  let w := s.ctxWord c 29
  ⟨c.ctx + s.ctxWord c 28, 2 ^ bits w 0 4, 64 * bits w 4 6, bits w 10 5⟩

def JbShape.slot (j : JbShape) (i : Nat) : Nat := j.base + i * (16 + j.slotBytes)

/-- Why an insert was not stored, as the JB_CODE of R248. -/
inductive JbOut where
  | stored | late | early | dup | oversize
deriving DecidableEq, Repr

def JbOut.code : JbOut → Nat
  | .stored => 1
  | .late => 2
  | .early => 3
  | .dup => 4
  | .oversize => 5

/-- insert of R204. -/
def State.jbInsert (s : State) (n : Nat) (c : Chan) (seq ts pt : Nat) (m : Bool) (payload : List Byte) : State × JbOut :=
  let j := s.jbShape c
  if payload.length > j.slotBytes ∨ c.graph.jbLog2 = 0 then (s.ctxIncS n c 33 16 16, .oversize)
  else
    let s := if bit (s.ctxWord c 29) 16 then s
      else ((s.setCtxWord c 30 (setBits (s.ctxWord c 30) 0 16 seq)).setCtxWord c 31 ts).setCtxWord c 29
        (setBits (s.ctxWord c 29) 16 1 1)
    let d := (seq + 65536 - bits (s.ctxWord c 30) 0 16) % 65536
    if d ≥ 32768 then ((s.ctxIncS n c 32 0 16).lanternCount n 2 1, .late)
    else if d ≥ j.slots then ((s.ctxIncS n c 32 16 16).lanternCount n 2 1, .early)
    else
      let a := j.slot (seq % j.slots)
      if bit (s.word a) 24 then (s.ctxIncS n c 33 0 16, .dup)
      else
        let s := s.setBytes a (wordsLe [seq % 65536 + pt % 128 * 2 ^ 16 + b2n m * 2 ^ 23 + 2 ^ 24, ts, s.nowNs % 2 ^ 32,
          payload.length % 2048])
        let s := s.setBytes (a + 16) payload
        ((s.setCtxWord c 35 (s.ctxWord c 35 + 1)).lanternCount n 1 1, .stored)

/-- advance of R206. -/
def State.jbAdvance (s : State) (n : Nat) (c : Chan) (newSeq newTs : Nat) (reset : Bool) : State :=
  let j := s.jbShape c
  let play := bits (s.ctxWord c 30) 0 16
  let a := (newSeq % 65536 + 65536 - play) % 65536
  let clear (s : State) (i : Nat) : State := s.setWord (j.slot i) (setBits (s.word (j.slot i)) 24 1 0)
  if reset ∨ a ≥ 32768 then
    let s := (List.range j.slots).foldl clear s
    s.setCtxWord c 29 (setBits (s.ctxWord c 29) 16 1 0)
  else
    let s := (List.range (min a j.slots)).foldl (fun s i =>
      let k := (play + i) % j.slots
      let w := s.word (j.slot k)
      if bit w 24 then clear (if bit w 25 then s else s.ctxIncS n c 34 0 16) k else s.lanternCount n 2 1) s
    let w := s.ctxWord c 30
    let w := if play + a > 65535 then setBits w 16 16 (bits w 16 16 + 1) else w
    (s.setCtxWord c 30 (setBits w 0 16 newSeq)).setCtxWord c 31 newTs

/-- The words of the view of R205, and the slots it marks STAGED. -/
def State.jbView (s : State) (c : Chan) : List Nat × List Nat :=
  let j := s.jbShape c
  let play := bits (s.ctxWord c 30) 0 16
  let per := 4 + (j.slotBytes + 2) / 3
  let ent := (List.range j.view).map fun i =>
    let k := (play + i) % j.slots
    let w := s.word (j.slot k)
    let hit := bit w 24 && bits w 0 16 = (play + i) % 65536
    let pad (l : List Nat) : List Nat := l ++ List.replicate (per - l.length) 0
    (hit, k, if hit then pad ((List.range 4).map (fun q => s.word (j.slot k + 4 * q))
      ++ packBytes (s.bytesAt (j.slot k + 16) j.slotBytes)) else List.replicate per 0)
  let mask := (ent.zip (List.range j.view)).foldl (fun acc e => if e.1.1 then acc else acc + 2 ^ e.2) 0
  ([s.ctxWord c 30, s.ctxWord c 31, mask + bits (s.ctxWord c 29) 16 1 * 2 ^ 16, 0] ++ ent.flatMap (·.2.2),
    (ent.filter (·.1)).map (·.2.1))

/-- Marks slots STAGED (R205). -/
def State.jbMark (s : State) (c : Chan) (l : List Nat) : State :=
  let j := s.jbShape c
  l.foldl (fun s k => s.setWord (j.slot k) (setBits (s.word (j.slot k)) 25 1 1)) s

end Sys2Proof.Machine
end

