-- ==== Sys2Proof/Machine/HostOps.lean ====
section
/-! DEFINITION. What the device writes to host memory: ring entries, HEAD, MSI-X messages (R377-R384), completions
(R386, R387), event records (R401-R403), and the jobs table (R397-R400). -/
namespace Sys2Proof.Machine

def State.emit (s : State) (o : Out) : State := { s with out := o :: s.out }

def RingSt.init : RingSt := ⟨0, 0, 0, 0, 0, 0⟩
def State.ring (s : State) (r : Nat) : RingSt := mget RingSt.init s.hi.ring r
def State.setRing (s : State) (r : Nat) (x : RingSt) : State :=
  { s with hi := { s.hi with ring := mset RingSt.init s.hi.ring r x } }

/-- HI_RSTAT STATE: 0 disabled, 1 running, 2 draining, 3 halted. -/
def State.ringState (s : State) (r : Nat) : Nat := s.fld (F.HI_RSTAT_STATE r)
def State.ringKind (s : State) (r : Nat) : Nat := s.fld (F.HI_RCFG_KIND r)
/-- Entries of a ring (R377). -/
def State.ringSize (s : State) (r : Nat) : Nat := 2 ^ s.fld (F.HI_RCFG_SIZE_LOG2 r)

/-- The running ring of a kind, of which at most one is enabled (R377). -/
def State.runningRing (s : State) (kind : Nat) : Option Nat :=
  firstBelow 64 fun r => s.ringState r = 1 && s.ringKind r = kind

/-- The vector is masked: the mask bit of its MSI-X entry, set after a reset of the PCI Express function (R383). -/
def State.vecMasked (s : State) (v : Nat) : Bool := bit (mget 1 s.hi.msix (4 * v + 3)) 0

/-- Sends an MSI-X message, or sets the pending bit of a masked vector (R383). -/
def State.sendMsix (s : State) (v : Nat) : State :=
  if s.vecMasked v then
    { s with hi := { s.hi with msixPend := if v ∈ s.hi.msixPend then s.hi.msixPend else v :: s.hi.msixPend } }
  else s.emit (.msix v)

/-- Moderation of a ring's messages after an entry (R383). -/
def State.moderate (s : State) (r : Nat) : State :=
  if s.flag (F.HI_RCFG_IRQ_EN r) then
    let x := s.ring r
    let m := s.fld (F.HI_RCFG_MOD r)
    let n := x.since + 1
    if n ≥ s.fld (F.HI_MOD_CNT m) ∨ s.fld (F.HI_MOD_US m) = 0 then
      (s.setRing r { x with since := 0 }).sendMsix (s.fld (F.HI_RCFG_VEC r))
    else s.setRing r { x with since := n, firstAt := if x.since = 0 then s.elapsed else x.firstAt }
  else s

/-- Writes entry number HEAD of a ring: the entry with its PHASE, then HEAD, then any message (R380). -/
def State.ringEntry (s : State) (r : Nat) (words : List Nat) : State :=
  let x := s.ring r
  let phase := b2n (x.head / s.ringSize r % 2 = 0)
  let words := setBits (nth words 0) 31 1 phase :: words.drop 1
  let s := s.emit (.entry r x.head words)
  let h := (x.head + 1) % 2 ^ 32
  let s := (s.setRing r { x with head := h }).emit (.head r h)
  s.moderate r

/-- May record number HEAD be written: HEAD − TAIL below SIZE (R379)? -/
def State.ringRoom (s : State) (r : Nat) : Bool :=
  let x := s.ring r
  (x.head + 2 ^ 32 - x.tail) % 2 ^ 32 < s.ringSize r

/-! ## Completions (R386) -/

/-- Counts a completed command in the 64-bit HI_CMD (R405). -/
def State.countCmd (s : State) : State :=
  let v := s.fld F.HI_CMD_LO_COUNT + 2 ^ 32 * s.fld F.HI_CMD_HI_COUNT + 1
  (s.setFld F.HI_CMD_LO_COUNT v).setFld F.HI_CMD_HI_COUNT (v / 2 ^ 32)

/-- Is the command's ring still the one that fetched it, and does it write completions: running, draining or halted? -/
def State.originLive (s : State) (o : Origin) : Bool :=
  (s.ring o.ring).gen = o.gen && s.ringState o.ring ≠ 0

/-- Completes a command with STATUS, DETAIL and value words (R386); a completion whose ring was reset is discarded and
counted (R404). -/
def State.complete (s : State) (o : Origin) (status detail : Nat) (vals : List Nat) : State :=
  let s := s.countCmd
  let s := if status = 5 then s.incS F.HI_ERR_CNT_BAD_DESC 1 else s
  if s.originLive o then
    s.ringEntry o.ring ([status % 256 + detail % 256 * 2 ^ 8 + o.op % 256 * 2 ^ 16, o.tag % 2 ^ 32, o.handle % 65536]
      ++ (List.range 5).map fun i => nth vals i % 2 ^ 32)
  else s.incS F.HI_DROP_CNT_COMPLETIONS 1

/-- Completes the command of an optional origin. -/
def State.completeOpt (s : State) (o : Option Origin) (status detail : Nat) (vals : List Nat) : State :=
  match o with
  | some o => s.complete o status detail vals
  | none => s

/-! ## Frames to host software (R396) -/

/-- Completes the posted descriptors in front that break the rules, in ring order, when a frame reaches them (R388, R396).
DEDUCED. -/
def State.skipBad (s : State) (r : Nat) : List RxBuf → State
  | [] => { s with hi := { s.hi with bufs := [] } }
  | b :: rest =>
    if b.bad then (s.complete ⟨r, (s.ring r).gen, b.tag, 0, 0⟩ 5 0 []).skipBad r rest
    else { s with hi := { s.hi with bufs := b :: rest } }

/-- Delivers a frame with its receive record into the next posted buffer; whether there was one. -/
def State.hostDeliver (s : State) (port : Nat) (rec : List Nat) (frame : List Byte) : State × Bool :=
  let s := match s.runningRing 1 with
    | some r => s.skipBad r s.hi.bufs
    | none => s
  match s.runningRing 1, s.hi.bufs with
  | some r, b :: rest =>
    let all := wordsLe rec ++ frame
    let w := all.take b.len
    let s := ({ s with hi := { s.hi with bufs := rest } } : State).emit (.host b.addr w)
    (s.ringEntry r [0, b.tag, 0, port, w.length, b2n (w.length < all.length), 0, 0], true)
  | _, _ => (s, false)

/-! ## Items to the host event ring (R403) -/

/-- An item of DEST 1 at release: a record with ITEM = 1, or a counted discard. -/
def State.itemRecord (s : State) (chan seq : Nat) (data : List Byte) : State :=
  let trunc := decide (data.length > 20)
  let d := data.take 20
  let d := d ++ List.replicate (20 - d.length) 0
  let words := [2 ^ 5 + b2n trunc * 2 ^ 6, 0x30 + chan * 256, data.length % 65536 + seq % 65536 * 2 ^ 16] ++ leWords d
  match s.runningRing 2 with
  | some r =>
    if s.ringRoom r then s.ringEntry r words
    else drop s
  | none => drop s
where
  /-- Discards the record: counts it, and raises one ITEM_DROP per channel and second. -/
  drop (s : State) : State :=
    let s := (s.incS F.HI_DROP_CNT_ITEMS 1).setFlag F.HI_EVENT_ITEM_DROP true
    let sec := s.elapsed / 1000000000 + 1
    let p := mget (0, 0) s.hi.itemDrop chan
    if p.1 = sec then { s with hi := { s.hi with itemDrop := mput s.hi.itemDrop chan (sec, p.2 + 1) } }
    else
      let s := { s with hi := { s.hi with itemDrop := mput s.hi.itemDrop chan (sec, 1) } }
      if s.flag F.HI_CTRL_ITEM_EVT then s.raise .warn 0x02 0 0x0006 chan ((if p.1 + 1 = sec then p.2 else 0) + 1) 0 else s

/-! ## Jobs (R397-R400) -/

def JobState.code : JobState → Nat
  | .queued => 1
  | .running => 2
  | .suspending => 3
  | .suspended => 4
  | .cancelling => 5
  | .held => 6

def State.job (s : State) (h : Nat) : Option Job := s.hi.jobs.find? (·.handle = h)

/-- Stores a job's record in place of the one with its handle. -/
def State.setJob (s : State) (j : Job) : State :=
  { s with hi := { s.hi with jobs := s.hi.jobs.map fun x => if x.handle = j.handle then j else x } }

def State.dropJob (s : State) (h : Nat) : State := { s with hi := { s.hi with jobs := s.hi.jobs.filter (·.handle ≠ h) } }

/-- Enters a new job; HI_JOBS.HWM follows the number in use (R405). -/
def State.addJob (s : State) (j : Job) : State :=
  let s := { s with hi := { s.hi with jobs := s.hi.jobs ++ [j] } }
  s.setFld F.HI_JOBS_HWM (max (s.fld F.HI_JOBS_HWM) s.hi.jobs.length)

/-- Live jobs of a kind, held ones left out. -/
def State.liveJobs (s : State) (op : Nat) : List Job := s.hi.jobs.filter fun j => j.op = op && j.st ≠ .held

/-- A job's ring runs, or is halted (R379, R384, R404). DEDUCED: a ring that was disabled since is no longer the job's, as
each descriptor yields exactly one completion and the counts of an enabling start at 0 (R378, R379). -/
def State.jobRingRuns (s : State) (o : Origin) : Bool :=
  (s.ring o.ring).gen = o.gen && (s.ringState o.ring = 1 || s.ringState o.ring = 3)

/-- Raises JOB_PROGRESS: at most one per job in 10 ms, but for the last step, suspensions and resumptions (R400). -/
def State.jobProgress (s : State) (h : Nat) (always : Bool) : State :=
  match s.job h with
  | none => s
  | some j =>
    let due := match j.lastReport with
      | none => true
      | some t => decide (s.elapsed ≥ t + 10000000)
    if always || due then
      (s.setJob { j with lastReport := some s.elapsed }).raise .info 0x02 j.origin.ring 0x0001 (h + j.op * 65536) j.done j.total
    else s

/-- Ends a job: its completion is written when its ring runs and held otherwise, with JOB_HELD (R384, R397); the control
commands that wait for it then complete: cancels as given, suspends as meeting a job that ended (R399). -/
def State.endJob (s : State) (h status detail : Nat) (vals : List Nat) : State :=
  match s.job h with
  | none => s
  | some j =>
    let s := s.jobProgress h true
    let vals := vals.take 4
    let s :=
      if s.jobRingRuns j.origin then (s.dropJob h).complete j.origin status detail vals
      else
        let s := s.setJob { j with st := .held, held := [status, detail] ++ vals, suspenders := [], cancellers := [] }
        (s.setFlag F.HI_EVENT_JOB_HELD true).raise .info 0x02 j.origin.ring 0x0005 h j.op 0
    let s := j.cancellers.foldl (fun s o => s.complete o (if status = 3 then 3 else 8) 0 []) s
    j.suspenders.foldl (fun s o => s.complete o 8 0 []) s

end Sys2Proof.Machine
end

