-- ==== Sys2Proof/Machine/CompassOps.lean ====
section
/-! DEFINITION. The time base (R284-R297): the clock and its frequency, the lock states, steps and RECCLK_OUT. -/
namespace Sys2Proof.Machine

/-- The bound of frequency words: 500 ppm (R286). -/
def freqMax : Int := 85899346
def clampFreq (i : Int) : Int := max (-freqMax) (min freqMax i)

/-- A frequency word is in range (R286). -/
def freqOk (v : Nat) : Bool := -freqMax ≤ sgn 32 v && sgn 32 v ≤ freqMax

/-- The hardware loop steers: SRC 2 or 3 (R289). -/
def State.loopSrc (s : State) : Bool := s.fld F.CP_SRC_CFG_SRC = 2 || s.fld F.CP_SRC_CFG_SRC = 3

/-- The base of FREQ_ACT (R286, R292). -/
def State.freqBase (s : State) : Int :=
  if s.loopSrc then
    if s.fld F.CP_STATUS_STATE = 3 then sgn 32 (s.fld F.CP_HOLD_FREQ) else clampFreq s.cp.loopOut
  else sgn 32 (s.fld F.CP_FREQ_FREQ)

/-- The slew term: 100 ppm toward a smaller residue (R287). -/
def slewUnit : Int := 17179869
def State.slewTerm (s : State) : Int := if s.cp.residue = 0 then 0 else if s.cp.residue > 0 then slewUnit else -slewUnit

/-- FREQ_ACT (R286). -/
def State.freqAct (s : State) : Int := clampFreq (s.freqBase + s.slewTerm)

/-- Adds 2^-32 ns units to the time (R284). -/
def Compass.add (c : Compass) (d : Int) : Compass :=
  let t := ((c.sec : Int) * 1000000000 + c.ns) * 4294967296 + c.frac + d
  let t := t.toNat
  { c with frac := t % 4294967296, ns := t / 4294967296 % 1000000000, sec := t / 4294967296 / 1000000000 % 2 ^ 48 }

/-- One period of REF25_IN: the last part of a residue stays for the end of the slew (R284, R287). -/
def State.compassPeriod (s : State) : State :=
  let slew := if s.cp.residue.natAbs ≤ slewUnit.natAbs then 0 else s.slewTerm
  let f := clampFreq (s.freqBase + slew)
  let c := s.cp.add (40 * 4294967296 + f)
  { s with cp := { c with residue := c.residue - slew, stepped := false } }

/-- Sets the residue that slewing removes (R287). -/
def State.setResidue (s : State) (v : Nat) : State := { s with cp := { s.cp with residue := sgn 32 v * 4294967296 } }

/-- The mean of the loop output over the last HOLD_S seconds spent in LOCKED, or CP_FREQ (R292). -/
def State.holdMean (s : State) : Int :=
  let l := s.cp.locked.take (s.fld F.CP_LOOP_HOLD_S)
  let n := l.foldl (fun (acc : Nat) e => acc + e.2.2) 0
  if n = 0 then sgn 32 (s.fld F.CP_FREQ_FREQ) else (l.foldl (fun (acc : Int) e => acc + e.2.1) 0) / (n : Int)

/-- Enters HOLDOVER when the state is LOCKED or ACQUIRE (R291, R292). -/
def State.holdover (s : State) : State :=
  let st := s.fld F.CP_STATUS_STATE
  if s.loopSrc ∧ (st = 1 ∨ st = 2) then
    let s := s.setFld F.CP_HOLD_FREQ (unsgn 32 s.holdMean)
    let s : State := { s with cp := { s.cp with run := 0 } }
    ((s.setFld F.CP_STATUS_STATE 3).setFlag F.CP_EVENT_SRC_LOST true).event F.CP_EVENT_HOLDOVER .warn 0 0 0 0
  else s

/-- A source of SRC 2 or 3 is selected or returns (R291). -/
def State.acquire (s : State) : State :=
  let st := s.fld F.CP_STATUS_STATE
  if s.loopSrc ∧ (st = 0 ∨ st = 3) then
    let out := s.freqBase
    (({ s with cp := { s.cp with run := 0, loopOut := out } } : State)).setFld F.CP_STATUS_STATE 1
  else s

/-- Adds a loop output to those of its second (R292). -/
def noteLocked (sec : Nat) (v : Int) (l : List (Nat × Int × Nat)) : List (Nat × Int × Nat) :=
  match l with
  | (t, sum, n) :: r => if t = sec then (t, sum + v, n + 1) :: r else ((sec, v, 1) :: l).take 255
  | [] => [(sec, v, 1)]

/-- One phase comparison (R289-R291): the loop moves, and the state follows the error. -/
def State.compare (s : State) (err : Int) : State :=
  let s := (s.setFld F.CP_PD_ERROR_NS (unsgn 32 err)).acquire
  let f := s.fresh
  let s := f.2
  let out := clampFreq (sgn 32 (Config.loopOutput f.1).toNat)
  let s : State := { s with cp := { s.cp with loopOut := out } }
  let lock := s.fld F.CP_LOOP_LOCK_NS
  if s.fld F.CP_STATUS_STATE = 1 then
    if err.natAbs ≤ lock then
      if s.cp.run + 1 ≥ 8 then
        ((({ s with cp := { s.cp with run := 0 } } : State)).setFld F.CP_STATUS_STATE 2).event F.CP_EVENT_LOCK .info 0 0 0 0
      else { s with cp := { s.cp with run := s.cp.run + 1 } }
    else { s with cp := { s.cp with run := 0 } }
  else if s.fld F.CP_STATUS_STATE = 2 then
    let l := noteLocked (s.elapsed / 1000000000) out s.cp.locked
    let s : State := { s with cp := { s.cp with locked := l } }
    if err.natAbs > 4 * lock then
      if s.cp.run + 1 ≥ 2 then
        let s : State := { s with cp := { s.cp with run := 0 } }
        ((s.setFld F.CP_STATUS_STATE 1).incS F.CP_CNT_LOCK_LOSSES 1).event F.CP_EVENT_UNLOCK .warn 0 0 0 0
      else { s with cp := { s.cp with run := s.cp.run + 1 } }
    else { s with cp := { s.cp with run := 0 } }
  else s

/-- An offset wrapped to ± half of a period. -/
def wrapErr (v period : Nat) : Int := if v % period * 2 < period then (v % period : Nat) else (v % period : Nat) - (period : Int)

/-- Frame boundaries of a channel after a step (R288): the next one under R34, and those passed over counted. -/
def Chan.restep (c : Chan) (now : Nat) : Chan :=
  let o := c.stagger * 125000
  let p := frameNs c.frame
  let next := if now < o then o else o + ((now - o) / p + 1) * p
  let passed := if c.nextB ≤ now then (now - c.nextB) / p + 1 else 0
  { c with nextB := next, frames := c.frames + passed, mediaDue := none }

/-- CP_CTRL.SET: a step, or its refusal (R288). -/
def State.timeStep (s : State) : State :=
  if s.flag F.CP_STATUS_TIME_VALID ∧ s.chans ≠ [] then s.event F.CP_EVENT_STEP_REFUSED .warn 0 0 0 0
  else
    let sec := s.fld F.CP_SET_SEC_LO_SEC_LO + 2 ^ 32 * s.fld F.CP_SET_SEC_HI_SEC_HI
    let s : State := { s with cp := { s.cp with sec := sec, ns := s.fld F.CP_SET_NSEC_NSEC, frac := 0, residue := 0, stepped := true } }
    let now := s.nowNs
    let ch := s.chans.map fun c => (c.1, c.2.restep now)
    let s : State := { s with chans := ch, cp := { s.cp with lastEpoch := now / 5000000, lastTick := now / 125000 } }
    ((s.setFlag F.CP_STATUS_TIME_VALID true).setFlag F.CP_EVENT_STEP true).incW F.CP_CNT_STEPS 1

/-- RECCLK_OUT runs: enabled, and the port's link is up (R296). -/
def State.recclkOn (s : State) : Bool :=
  s.flag F.CP_RECCLK_EN && s.flag (F.EP_STATUS_LINK (s.fld F.CP_RECCLK_PORT))

/-- Reports a squelch or a release of RECCLK_OUT (R296). -/
def State.recclkCheck (s : State) : State :=
  let on := s.recclkOn
  if on = s.cp.recclk then s
  else ({ s with cp := { s.cp with recclk := on } } : State).raise .info 0x05 0 0x0180 (s.fld F.CP_RECCLK_PORT) (b2n on) 0

end Sys2Proof.Machine
end

