-- ==== Sys2Proof/Machine/TdmOps.lean ====
section
/-! DEFINITION. The TDM side of the media bank (R299-R305): companding, the slot table, the samples of channels. -/
namespace Sys2Proof.Machine

/-! ## G.711 (R300) -/

/-- A-law code to 16-bit linear. -/
def alawExpand (a : Nat) : Int :=
  let v := a ^^^ 0x55
  let q := v % 16 * 16
  let seg := v / 16 % 8
  let t : Nat := if seg = 0 then q + 8 else (q + 0x108) * 2 ^ (seg - 1)
  if bit v 7 then t else -t

/-- µ-law code to 16-bit linear. -/
def ulawExpand (u : Nat) : Int :=
  let v := 255 - u % 256
  let t : Nat := (v % 16 * 8 + 0x84) * 2 ^ (v / 16 % 8) - 0x84
  if bit v 7 then -t else t

/-- The segment of a magnitude: the first end that it does not pass. -/
def lawSegment (v first : Nat) : Nat := (firstBelow 8 fun i => decide (v ≤ (first + 1) * 2 ^ i - 1)).getD 8

/-- 16-bit linear to A-law. -/
def alawCompress (x : Int) : Nat :=
  let p := x / 8
  let neg := decide (p < 0)
  let m : Nat := if neg then (-p - 1).toNat else p.toNat
  let mask := if neg then 0x55 else 0xD5
  let seg := lawSegment m 0x1F
  if seg ≥ 8 then 0x7F ^^^ mask
  else (seg * 16 + (if seg < 2 then m / 2 % 16 else m / 2 ^ seg % 16)) ^^^ mask

/-- 16-bit linear to µ-law. -/
def ulawCompress (x : Int) : Nat :=
  let p := x / 4
  let neg := decide (p < 0)
  let m : Nat := min (if neg then (-p).toNat else p.toNat) 8159 + 33
  let mask := if neg then 0x7F else 0xFF
  let seg := lawSegment m 0x3F
  if seg ≥ 8 then 0x7F ^^^ mask else (seg * 16 + m / 2 ^ (seg + 1) % 16) ^^^ mask

/-! ## The slot table (R300, R301) -/

def slotKey (h k : Nat) : Nat := 512 * h + k
/-- An entry in the form of TD_SLOT_DATA. -/
def State.tdSlot (s : State) (h k : Nat) : Nat := mget 0 s.td.slots (slotKey h k)
def State.setTdSlot (s : State) (h k v : Nat) : State := { s with td := { s.td with slots := mset 0 s.td.slots (slotKey h k) v } }
def entChan (v : Nat) : Nat := bits v 0 13
def entLaw (v : Nat) : Nat := bits v 13 2
def entRx (v : Nat) : Bool := bit v 15
def entTx (v : Nat) : Bool := bit v 16
def entCompanion (v : Nat) : Bool := bit v 17

/-- An entry rejected by R301. -/
def State.slotRejects (s : State) (h k v : Nat) : Bool :=
  let next := s.tdSlot h (k + 1)
  let others := s.td.slots.filter fun e => e.1 ≠ slotKey h k && entChan e.2 = entChan v
  (entLaw v = 2 && k % 2 = 1) || entCompanion (s.tdSlot h k) || (entLaw v = 2 && (entRx next || entTx next))
    || (entRx v && others.any fun e => entRx e.2) || (entTx v && others.any fun e => entTx e.2)

/-- Writes an entry of the slot table, or rejects it (R301). -/
def State.slotWrite301 (s : State) (h k v : Nat) : State :=
  let v := bits v 0 17
  if s.slotRejects h k v then s.event F.TD_EVENT_SLOT_REJECT .warn h h k 0
  else
    let s := s.setTdSlot h k v
    if k % 2 = 0 ∧ (entLaw v = 2) then s.setTdSlot h (k + 1) (2 ^ 17)
    else if k % 2 = 0 ∧ entCompanion (s.tdSlot h (k + 1)) then s.setTdSlot h (k + 1) 0
    else s

/-- The mode whose media bank is served: DRAIN keeps that of its entry (R44). -/
def State.bankMode (s : State) : Nat := if s.mode = 6 then s.fld F.GL_MODE_PREV else s.mode

/-- The mode serves a highway (R299). -/
def servesHwy (m h : Nat) : Bool := ((m = 2 || m = 7) && h < 16) || (m = 4 && h < 8)

/-- A highway is active. -/
def State.hwyActive (s : State) (h : Nat) : Bool :=
  servesHwy s.bankMode h && s.flag F.TD_CTRL_EN && s.flag (F.TD_HCFG_EN h)

/-- The entries of a channel on active highways. -/
def State.tdmEntries (s : State) (n : Nat) : List (Nat × Nat × Nat) :=
  s.td.slots.filterMap fun e =>
    if entChan e.2 = n ∧ (entRx e.2 ∨ entTx e.2) ∧ s.hwyActive (e.1 / 512) then some (e.1 / 512, e.1 % 512, e.2) else none
def State.tdmRx (s : State) (n : Nat) : Bool := (s.tdmEntries n).any fun e => entRx e.2.2
def State.tdmTx (s : State) (n : Nat) : Bool := (s.tdmEntries n).any fun e => entTx e.2.2

/-! ## Samples (R300, R302) -/

/-- The idle codes of a law: A-law, µ-law, linear (R301, R308). -/
def State.idleCodes (s : State) (law : Nat) : List Nat :=
  match law with
  | 0 => [s.fld F.TD_IDLE_A_IDLE]
  | 1 => [s.fld F.TD_IDLE_MU_IDLE]
  | _ => [0, 0]

/-- A frame of idle code on a highway. -/
def State.idleFrame (s : State) (h : Nat) : List Byte :=
  (List.range 512).map fun k =>
    let v := s.tdSlot h k
    if entCompanion v then 0 else BitVec.ofNat 8 (nth (s.idleCodes (entLaw v)) 0)

/-- The sample that a slot's bytes carry: 24 bits, the linear value in bits 23:8. -/
def slotSample (law hi lo : Nat) : Nat :=
  let v : Int := match law with
    | 0 => alawExpand hi
    | 1 => ulawExpand hi
    | _ => sgn 16 (hi * 256 + lo)
  unsgn 16 v * 256

/-- The codes of a sample on transmit. -/
def sampleCodes (law v : Nat) : List Nat :=
  let x := sgn 16 (v / 256)
  match law with
  | 0 => [alawCompress x]
  | 1 => [ulawCompress x]
  | _ => [bits v 16 8, bits v 8 8]

def Hwy.init : Hwy := ⟨[], [], [], [], 0, none, 0, 0⟩
def State.hwy (s : State) (h : Nat) : Hwy := mget Hwy.init s.td.hw h
def State.setHwy (s : State) (h : Nat) (x : Hwy) : State := { s with td := { s.td with hw := mset Hwy.init s.td.hw h x } }

/-- A controlled slip (R303). -/
def State.slip (s : State) (h : Nat) (rx : Bool) : State :=
  let s := s.incS (if rx then F.TD_HCNT_SLIPS_RX h else F.TD_HCNT_SLIPS_TX h) 1
  let s := s.incWrap F.TD_CNT_SLIPS 1 (s.flag F.TD_CTRL_SLIPS_WRAP_EVT)
  let sec := s.elapsed / 1000000000 + 1
  if (s.hwy h).slipSec = sec then s.setFlag F.TD_EVENT_SLIP true
  else (s.setHwy h { s.hwy h with slipSec := sec }).event F.TD_EVENT_SLIP .info h h (b2n rx) 0

/-- A collision of a driven slot (R305). -/
def State.tdCollision (s : State) (h k : Nat) : State :=
  let v := s.tdSlot h k
  if s.flag (F.TD_HCFG_SHARED h) ∧ entTx v then
    let s := ((s.incS (F.TD_HCNT_COLL h) 1).incS F.TD_CNT_COLLISIONS 1).setFld F.TD_LAST_COL_HWY h
    let s := s.setFld F.TD_LAST_COL_SLOT k
    let sec := s.elapsed / 1000000000 + 1
    let s := if (s.hwy h).colSec = sec then s.setFlag F.TD_EVENT_COLLISION true
      else (s.setHwy h { s.hwy h with colSec := sec }).event F.TD_EVENT_COLLISION .warn h h k 0
    if s.flag (F.TD_HCFG_COL_ACT h) then s.setTdSlot h k (setBits (setBits v 16 1 0) 18 1 1) else s
  else s

/-- One received frame of a highway goes to the channels of its RX_EN entries (R302). -/
def State.takeFrame (s : State) (h : Nat) (data : List Byte) : State :=
  let b (k : Nat) : Nat := (data.getD k 0).toNat
  (s.td.slots.filter fun e => e.1 / 512 = h && entRx e.2).foldl (fun s e =>
    let k := e.1 % 512
    let n := entChan e.2
    if (s.chan n).isSome then
      (let v := slotSample (entLaw e.2) (b k) (b (k + 1))
       { s with td := { s.td with acc := mput s.td.acc n ((v :: mget [] s.td.acc n).take 960) } })
    else s) s

/-- The codes that a slot sends at a tick, and the samples left to play (R301, R302, R305). -/
def State.slotCodes (s : State) (v : Nat) : List Nat :=
  match entTx v && (s.chan (entChan v)).isSome, mget [] s.td.play (entChan v) with
  | true, x :: _ => sampleCodes (entLaw v) x
  | _, _ => s.idleCodes (entLaw v)

/-- The 512 codes of a highway at a tick; 256 is high impedance. -/
def State.txFrame (s : State) (h : Nat) : List Nat :=
  let shared := s.flag (F.TD_HCFG_SHARED h)
  (List.range 512).map fun k =>
    let v := s.tdSlot h k
    if entCompanion v then
      let u := s.tdSlot h (k - 1)
      if shared && !entTx u then 256 else nth (s.slotCodes u) 1
    else if shared && !entTx v then 256 else nth (s.slotCodes v) 0

/-- Each channel's playing frame moves on by one sample. -/
def State.playOn (s : State) : State :=
  let l := s.td.play.filterMap fun e => match e.2 with
    | _ :: x :: r => some (e.1, x :: r)
    | _ => none
  { s with td := { s.td with play := l } }

/-- Completes the receive slot of a channel at its boundary from the samples of the last frame (R302); a slot that holds
more samples than ticks were gathered begins with zeros (the model's own filling). -/
def State.tdmSlotDone (s : State) (n f : Nat) : State :=
  match s.chan n with
  | none => s
  | some c =>
    let want := c.graph.rx.samples
    let got := (mget [] s.td.acc n).take (min want (40 * 2 ^ c.frame))
    let s : State := { s with td := { s.td with acc := mdel s.td.acc n } }
    if c.graph.rx.frames = 0 then s
    else s.writeRing c 20 c.graph.rx f (List.replicate (want - got.length) 0 ++ got.reverse)

/-- The transmit slot of frame `f` is checked once and played from now on; a missing frame counts MISSED and plays idle
(R201, R302). -/
def State.tdmPlay (s : State) (n f : Nat) : State :=
  match s.chan n with
  | none => s
  | some c =>
    let got := if c.graph.tx.frames = 0 then none else s.readRing c 24 c.graph.tx f
    let s := if got.isNone ∧ c.graph.tx.frames ≠ 0 then s.ctxIncS n c 27 0 16 else s
    let l := got.getD []
    { s with td := { s.td with play := if l = [] then mdel s.td.play n else mput s.td.play n l } }

end Sys2Proof.Machine
end

