-- ==== Sys2Proof/Machine/BsOps.lean ====
section
/-! DEFINITION. The bitstream ports (R309-R335): settings, the receive chain, fades, resets, mappings and the transmit
chain. The measurement channel of the LMU uses the same CIC, FIR and DC blocker. -/
namespace Sys2Proof.Machine

/-! ## Settings (R311, R329, R336) -/

/-- f_mod in kHz of a FREQ code (R311). -/
def freqKhz (f : Nat) : Nat := nth [2048, 3072, 4096, 6144, 8192, 12288] f
/-- fs_out in kHz. -/
def rateKhz (r : Nat) : Nat := nth [8, 16, 32, 48] r

/-- FREQ of clock pair `k`. -/
def State.pairFreq (s : State) (k : Nat) : Nat := s.fld ⟨R.BS_CLK_CFG, 4 * k + 1, 3, 0⟩
def State.pairGen (s : State) (k : Nat) : Bool := s.flag ⟨R.BS_CLK_CFG, 4 * k, 1, 0⟩

/-- The settings of a chain in use. -/
structure ChainCfg where
  fmod : Nat
  order : Nat
  d : Nat
  df : Nat
  taps : Nat
  shI : List Nat
  shC : List Nat
  fs : Nat
  /-- DC corner in Hz, 0 for off. -/
  dc : Nat
deriving DecidableEq, Repr

/-- A preset (R329): FREQ code, OUT_RATE, order, D, D_FIR code, taps. -/
def presetOf (p : Nat) : List Nat :=
  ([[0, 0, 4, 128, 0, 31], [0, 1, 4, 128, 0, 31], [1, 0, 4, 96, 1, 31], [1, 1, 4, 96, 1, 31], [2, 0, 4, 128, 1, 31],
    [2, 1, 4, 128, 1, 31], [2, 2, 4, 128, 0, 63], [3, 0, 5, 192, 1, 31], [3, 1, 5, 192, 1, 31], [3, 3, 4, 128, 0, 63],
    [4, 0, 5, 256, 1, 31], [4, 1, 5, 256, 1, 31], [4, 2, 5, 256, 0, 63], [5, 0, 5, 384, 1, 31], [5, 1, 5, 384, 1, 31],
    [5, 3, 5, 256, 0, 63]] : List (List Nat)).getD p []

/-- ceil(log2 D) for D of 16-512. -/
def clog2 (d : Nat) : Nat := (firstBelow 10 fun i => decide (d ≤ 2 ^ i)).getD 10

/-- The shift of a preset's last comb: G − 24 (R314, R330). -/
def presetShift (order d : Nat) : Nat := order * clog2 d + 2 - 24

def State.groupCfg (s : State) (g : Nat) : ChainCfg :=
  { fmod := freqKhz (s.pairFreq (g / 2))
    order := s.fld (F.BS_GCHAIN_ORDER g)
    d := s.fld (F.BS_GCHAIN_D g)
    df := 2 ^ s.fld (F.BS_GCHAIN_D_FIR g)
    taps := s.fld (F.BS_GCHAIN_TAPS g)
    shI := [s.fld (F.BS_GSHI_SH1 g), s.fld (F.BS_GSHI_SH2 g), s.fld (F.BS_GSHI_SH3 g), s.fld (F.BS_GSHI_SH4 g), s.fld (F.BS_GSHI_SH5 g)]
    shC := [s.fld (F.BS_GSHC_SH1 g), s.fld (F.BS_GSHC_SH2 g), s.fld (F.BS_GSHC_SH3 g), s.fld (F.BS_GSHC_SH4 g), s.fld (F.BS_GSHC_SH5 g)]
    fs := rateKhz (s.fld (F.BS_GCHAIN_OUT_RATE g))
    dc := nth [0, 5, 10, 20] (s.fld (F.BS_GCFG_DC g)) }

/-- The nominal ratio fs_out × D × D_fir ÷ f_mod lies in 0.5-2.0 (R317). -/
def ratioOk (fs d df fmod : Nat) : Bool := fmod ≤ 2 * (fs * d * df) && fs * d * df ≤ 2 * fmod

/-- INC of the nominal clock: f_r ÷ fs_out (R317). -/
def ChainCfg.nominalInc (c : ChainCfg) : Nat := c.fmod * 2 ^ 22 / (c.d * c.df * c.fs)

/-- N_settle (R328). -/
def ChainCfg.settle (c : ChainCfg) : Nat := c.order + ((c.taps - 1) + 2 * c.df - 1) / (2 * c.df) + 8

/-- Group delays in ns (R331), rounded to the nearest. -/
def ChainCfg.tauRx (c : ChainCfg) : Nat :=
  ((c.order * (c.d - 1) + (c.taps - 1) * c.d + 16 * c.d * c.df) * 1000000 + c.fmod) / (2 * c.fmod)
def ChainCfg.tauTx (c : ChainCfg) : Nat := ((16 * c.d * c.df + (c.taps - 1) * c.d + 2 * c.d) * 1000000 + c.fmod) / (2 * c.fmod)

/-- The mode serves a group (R310). -/
def servesGroup (m g : Nat) : Bool := m = 3 || (m = 4 && 8 ≤ g)
def State.groupActive (s : State) (g : Nat) : Bool :=
  servesGroup s.bankMode g && s.flag F.BS_CTRL_EN && s.flag (F.BS_GCFG_EN g)

def State.pairLost (s : State) (k : Nat) : Bool := bit (s.fld F.BS_STATUS_CLK_LOST) k
/-- Samples of the group are replaced by zero (R313, R318). -/
def State.groupSilent (s : State) (g : Nat) : Bool :=
  s.pairLost (g / 2) || s.flag (F.BS_GRSMP_RATIO_ERR g) || (s.pairGen (g / 2) && s.flag F.CP_STATUS_REF_LOST)

def BsGroup.init : BsGroup := ⟨false, none, none, none, 0, false, 0, 0, 0, 0, 0, 0⟩
def State.bsGroup (s : State) (g : Nat) : BsGroup := mget BsGroup.init s.bs.group g
def State.setBsGroup (s : State) (g : Nat) (x : BsGroup) : State :=
  { s with bs := { s.bs with group := mset BsGroup.init s.bs.group g x } }

/-- A coefficient, signed Q1.23 (R315). -/
def State.coef (s : State) (g : Nat) (b : Bool) (i : Nat) : Int := sgn 24 (mget 0 s.bs.coef (128 * g + 64 * b2n b + i))
def State.setCoef (s : State) (g : Nat) (b : Bool) (i v : Nat) : State :=
  { s with bs := { s.bs with coef := mset 0 s.bs.coef (128 * g + 64 * b2n b + i) (v % 2 ^ 24) } }

/-! ## CIC, FIR and DC blocker (R314-R316) -/

def sat24 (i : Int) : Int := max (-8388608) (min 8388607 i)
def asr48 (v sh : Nat) : Nat := unsgn 48 (sgn 48 v / ((2 ^ sh : Nat) : Int))

/-- A column of integrators or combs over one value. -/
def cicColumn (f : Nat → Nat → Nat × Nat) : List Nat → List Nat → Nat → List Nat × Nat
  | m :: ms, sh :: shs, v =>
    let r := f m v
    let t := cicColumn f ms shs (asr48 r.2 sh)
    (r.1 :: t.1, t.2)
  | ms, _, v => (ms, v)

/-- One modulator edge; the CIC output of each D-th edge (R314). -/
def cicStep (c : ChainCfg) (x : BsChain) (b : Bool) : BsChain × Option Int :=
  let i := cicColumn (fun m v => ((m + v) % 2 ^ 48, (m + v) % 2 ^ 48)) x.integ (c.shI.take c.order) (if b then 1 else 2 ^ 48 - 1)
  let y := { x with integ := i.1, edge := x.edge + 1 }
  if x.edge % c.d = c.d - 1 then
    let k := cicColumn (fun m v => (v, (v + 2 ^ 48 - m) % 2 ^ 48)) x.comb (c.shC.take c.order) i.2
    let v := sgn 48 k.2
    ({ y with comb := k.1, overload := y.overload || decide (sat24 v ≠ v) }, some (sat24 v))
  else (y, none)

/-- A sum rounded half up to 24 bits and saturated. -/
def roundSat (num : Int) (den : Nat) : Int := sat24 ((2 * num + (den : Int)) / (2 * (den : Int)))

/-- The FIR sum over inputs with the newest first (R315). -/
def firSum (coef : Nat → Int) (taps : Nat) (l : List Int) : Int :=
  ((List.range taps).foldl (fun acc i => acc + 2 * (coef i * l.getD i 0)) 0)

/-- The fade of a group at FIR output `m` (R324): the weight of the new bank over L. -/
def fadeAt (f : BsFade) (len m : Nat) : Nat := if m < f.first then 0 else min (m + 1 - f.first) len

/-- The FIR output `m` of a group from its inputs, and whether a fade ran. -/
def State.firOut (s : State) (g : Nat) (c : ChainCfg) (m : Nat) (sum : (Nat → Int) → Int) : Int × Bool :=
  let x := s.bsGroup g
  let one (b : Bool) : Int := roundSat (sum (s.coef g b)) (2 ^ 24)
  let _ := c
  let len := s.fld (F.BS_GFIR_FADE_LEN g) + 1
  match (if x.fade.isSome then x.fade else x.lastFade) with
  | some f =>
    let w := fadeAt f len m
    if w = 0 then (one (!f.target), false)
    else if w = len then (one f.target, m < f.first + len)
    else
      let o := one (!f.target)
      let n := one f.target
      (roundSat (o * len + w * (n - o)) len, true)
  | none => (one x.active, false)

/-- a of the DC blocker, Q1.23 (R316). -/
def dcCoef (c : ChainCfg) : Int :=
  let den : Int := 1000000000000000 * (c.fmod * 1000 : Nat)
  let num : Int := 8388608 * (den - 6283185307179586 * (c.dc * c.d * c.df : Nat))
  (2 * num + den) / (2 * den)

/-- One FIR output through the DC blocker (R316). -/
def dcStep (c : ChainCfg) (x : BsChain) (v : Int) : BsChain × Int :=
  if c.dc = 0 then (x, v)
  else
    let y := (2 * ((v - x.dcX) * 8388608 + dcCoef c * x.dcY) + 8388608) / 16777216
    ({ x with dcX := v, dcY := sat24 y, overload := x.overload || decide (sat24 y ≠ y) }, sat24 y)

def BsChain.init : BsChain := ⟨0, [0, 0, 0, 0, 0], [0, 0, 0, 0, 0], [], 0, 0, 0, [], 0, 0, 0, 0, false, false⟩

/-- One modulator bit through CIC, FIR and DC blocker; `fir m sum` is FIR output `m`. -/
def chainBit (c : ChainCfg) (fir : Nat → ((Nat → Int) → Int) → Int × Bool) (x : BsChain) (b : Bool) : BsChain × Option Int :=
  match cicStep c x b with
  | (x, none) => (x, none)
  | (x, some v) =>
    let l := (v :: x.fir).take 64
    let q := x.firIn
    let x := { x with fir := l, firIn := q + 1 }
    if q % c.df = 0 then
      let r := fir (q / c.df) fun co => firSum co c.taps l
      let d := dcStep c { x with faded := x.faded || r.2 } r.1
      (d.1, some d.2)
    else (x, none)

/-! ## The resampler and slots (R317, R320, R321, R328, R332) -/

/-- The value at a position between 16 inputs around it: `x j` is input `j`. -/
def resample (inc : Nat) (pos : Nat) (x : Int → Int) : Int :=
  let p : Nat := pos / 2 ^ 22
  let ph : Nat := pos % 2 ^ 22 / 2 ^ 16
  let fr : Int := (pos % 2 ^ 16 : Nat)
  let h (ph t : Nat) : Int := sgn 24 (Config.resampler inc ph t).toNat
  let sum := (List.range 16).foldl
    (fun (acc : Int) (t : Nat) => acc + x ((p : Int) - 15 + (t : Int)) * ((65536 - fr) * h ph t + fr * h (ph + 1) t)) 0
  roundSat sum (2 ^ 39)

/-- Input `j` of a chain's resampler. -/
def BsChain.input (x : BsChain) (j : Int) : Int := if j < 0 ∨ j ≥ x.inpN then 0 else x.inp.getD (x.inpN - 1 - j.toNat) 0

/-- INC in use (R317-R319). -/
def State.incOf (s : State) (g : Nat) : Nat := s.fld (F.BS_GRSMP_INC g)

/-- The grid index of output 0 and its position: the first grid instant at or after the reset (R318, R325). -/
def State.firstGrid (s : State) (g : Nat) (c : ChainCfg) : Nat × Nat :=
  let t := (s.bsGroup g).resetAt
  let n := (t * c.fs + 999999) / 1000000
  (n, (n * 1000000 - t * c.fs) * c.fmod * 2 ^ 22 / (c.fs * 1000000 * c.d * c.df))

/-- One output of a slot: sample, whether it settles, and whether the last output was repeated (R320, R328). -/
def State.slotOut (s : State) (g : Nat) (c : ChainCfg) (x : BsChain) : BsChain × Int × Bool × Bool :=
  let inc := s.incOf g
  let missing := decide (x.pos / 2 ^ 22 ≥ x.inpN)
  let v := if missing then x.last else resample inc x.pos x.input
  let settling := decide (x.outN < c.settle)
  let raw := s.flag (F.BS_GCFG_EXPERT g) && s.flag (F.BS_GCFG_RAW_SETTLE g)
  let x := { x with last := v, outN := x.outN + 1, pos := x.pos + inc }
  (x, if settling && !raw then 0 else v, settling, missing)

/-- The outputs of a slot. -/
def State.slotOuts (s : State) (g : Nat) (c : ChainCfg) : Nat → BsChain → List Int → Bool → Bool → BsChain × List Int × Bool × Bool
  | 0, x, l, st, sl => (x, l.reverse, st, sl)
  | n + 1, x, l, st, sl =>
    let r := s.slotOut g c x
    s.slotOuts g c n r.1 (r.2.1 :: l) (st || r.2.2.1) (sl || r.2.2.2)

/-- Discards the oldest frame's worth of input when more than two frames wait (R320). -/
def BsChain.trim (x : BsChain) (frameIn : Nat) : BsChain × Bool :=
  let p := x.pos / 2 ^ 22
  if x.inpN > p + 2 * frameIn then ({ x with pos := x.pos + frameIn * 2 ^ 22 }, true) else (x, false)

/-- Keeps of the resampler's inputs what later outputs may use. -/
def BsChain.forget (x : BsChain) : BsChain :=
  { x with inp := x.inp.take (x.inpN + 16 - x.pos / 2 ^ 22) }

/-- The chain of a channel over the modulator bits of a slot, then its outputs: samples and flags of R321. -/
def State.runSlot (s : State) (b g : Nat) (c : ChainCfg) (bits : List Bool) (first count frameIn : Nat) :
    BsChain × List Int × Nat :=
  let x0 := match mfind s.bs.chain b with
    | some x => x
    | none => { BsChain.init with pos := (s.firstGrid g c).2 }
  let silent := s.groupSilent g
  let x := (if silent then [] else bits).foldl (fun x bt =>
    match chainBit c (s.firOut g c) x bt with
    | (x, some v) => { x with inp := v :: x.inp, inpN := x.inpN + 1 }
    | (x, none) => x) x0
  -- outputs of earlier slots that were not taken are passed over; instants before the reset have none
  let skip := first - (s.firstGrid g c).1 - x.outN
  let x := { x with outN := x.outN + skip, pos := x.pos + skip * s.incOf g }
  let early := min count ((s.firstGrid g c).1 - first)
  let t := if silent then (x, false) else x.trim frameIn
  let r := s.slotOuts g c (count - early) t.1 [] (decide (early ≠ 0)) false
  let l := List.replicate early 0 ++ r.2.1
  let flags := b2n r.2.2.1 + 2 * b2n silent + 4 * b2n r.1.overload + 8 * b2n (!silent && (r.2.2.2 || t.2)) + 16 * b2n r.1.faded
  ({ r.1 with overload := false, faded := false }.forget, if silent then l.map fun _ => 0 else l, flags)

/-! ## Fades (R323, R324) -/

/-- The number of the next FIR output of a group, from the nominal clock since its last reset. -/
def State.nextFir (s : State) (g : Nat) : Nat :=
  let c := s.groupCfg g
  (s.nowNs - (s.bsGroup g).resetAt) * c.fmod / (1000000 * c.d * c.df) + 1

/-- A bank refuses coefficients: the group is enabled, and the bank active or part of a running fade (R323). -/
def State.bankBusy (s : State) (g : Nat) (b : Bool) : Bool :=
  s.flag (F.BS_GCFG_EN g) && ((s.bsGroup g).fade.isSome || (s.bsGroup g).active = b)

def State.startFade (s : State) (g : Nat) (t : Bool) (o : Option Origin) : State :=
  s.setBsGroup g { s.bsGroup g with fade := some ⟨t, s.nextFir g, o⟩ }

/-- A swap request (R324). -/
def State.swapRequest (s : State) (g : Nat) (t : Bool) (o : Option Origin) : State :=
  let x := s.bsGroup g
  match x.fade, x.queued with
  | none, _ => if x.active = t then s.completeOpt o 0 0 [] else s.startFade g t o
  | some _, none => s.setBsGroup g { x with queued := some ⟨t, 0, o⟩ }
  | some _, some q => (s.setBsGroup g { x with queued := some ⟨t, 0, o⟩ }).completeOpt q.origin 3 0 []

/-- The end of a fade: its target becomes active, and a queued request starts or is discarded (R324). -/
def State.endFade (s : State) (g : Nat) : State :=
  let x := s.bsGroup g
  match x.fade with
  | none => s
  | some f =>
    let s := s.setBsGroup g { x with active := f.target, fade := none, queued := none, lastFade := some f }
    let s := (s.event F.BS_EVENT_SWAP_DONE .info g g (b2n f.target) 0).completeOpt f.origin 0 0 []
    match x.queued with
    | none => s
    | some q => if q.target = f.target then s.completeOpt q.origin 0 0 [] else s.startFade g q.target q.origin

/-! ## Resets (R325, R326, R328) -/

/-- The effects of a reset on one group. -/
def State.groupReset (s : State) (g : Nat) : State :=
  let ch := s.bs.chain.filter fun e => e.1 / 16 ≠ g
  let tx := s.bs.tx.filter fun e => e.1 / 16 ≠ g
  let s : State := { s with bs := { s.bs with chain := ch, tx := tx } }
  let s := s.endFade g
  let x := s.bsGroup g
  let s := s.setBsGroup g { x with resetAt := s.nowNs, localDue := false, lastFade := none, fade := x.fade.map fun f => { f with first := 0 } }
  let s := s.setFld F.BS_STATUS_SETTLING (setBits (s.fld F.BS_STATUS_SETTLING) g 1 1)
  s.setFlag (F.BS_GRSMP_SETTLING g) true

/-- A group takes a reset of its own at its next edge (R326). -/
def State.localReset (s : State) (g : Nat) : State := s.setBsGroup g { s.bsGroup g with localDue := true }

/-- Requests a synchronising reset (R325). -/
def State.syncRequest (s : State) (instant src : Nat) : State := { s with bs := { s.bs with sync := s.bs.sync ++ [(instant, src)] } }

/-- Applies a preset: its settings, and its coefficients in bank A (R329, R330). -/
def State.applyPreset (s : State) (g p : Nat) : State :=
  let w := presetOf p
  let order := nth w 2
  let s := (((s.setFld (F.BS_GCHAIN_ORDER g) order).setFld (F.BS_GCHAIN_D g) (nth w 3)).setFld (F.BS_GCHAIN_D_FIR g) (nth w 4)).setFld
    (F.BS_GCHAIN_TAPS g) (nth w 5)
  let s := s.setFld (F.BS_GCHAIN_OUT_RATE g) (nth w 1)
  let s := [F.BS_GSHI_SH1 g, F.BS_GSHI_SH2 g, F.BS_GSHI_SH3 g, F.BS_GSHI_SH4 g, F.BS_GSHI_SH5 g, F.BS_GSHC_SH1 g, F.BS_GSHC_SH2 g,
    F.BS_GSHC_SH3 g, F.BS_GSHC_SH4 g, F.BS_GSHC_SH5 g].foldl (fun s f => s.setFld f 0) s
  let s := s.setFld (if order = 5 then F.BS_GSHC_SH5 g else F.BS_GSHC_SH4 g) (presetShift order (nth w 3))
  let s := (List.range 64).foldl (fun s i => s.setCoef g false i (if i < nth w 5 then (Config.presetCoef p i).toNat else 0)) s
  let s := s.setBsGroup g { s.bsGroup g with active := false, fade := none, queued := none, lastFade := none }
  s.setFld (F.BS_GRSMP_INC g) (s.groupCfg g).nominalInc

/-! ## Mappings (R322) -/

/-- Bitstream channel mapped to a local channel in a direction. -/
def State.bsMapped (s : State) (n : Nat) (tx : Bool) : Option Nat :=
  firstBelow 256 fun b => s.fld (F.BS_CH_CHANNEL b) = n && (if tx then s.flag (F.BS_CH_TX_EN b) else s.flag (F.BS_CH_RX_EN b))

/-- A write of BS_CH is rejected (R322). -/
def State.mapRejects (s : State) (b v : Nat) : Bool :=
  let n := bits v 0 13
  let rx := bit v 13
  let tx := bit v 14
  let other (p : Nat → Bool) : Bool := (List.range 256).any fun d => d ≠ b && p d
  (rx && other fun d => s.flag (F.BS_CH_RX_EN d) && s.fld (F.BS_CH_CHANNEL d) = n)
    || (tx && other fun d => s.flag (F.BS_CH_TX_EN d) && s.fld (F.BS_CH_CHANNEL d) = n)
    || (rx && s.td.slots.any fun e => entChan e.2 = n && entRx e.2) || (tx && s.td.slots.any fun e => entChan e.2 = n && entTx e.2)
    || (bit v 15 && other fun d => s.flag (F.BS_CH_TIMED d) && s.fld (F.BS_CH_TSLOT d) = bits v 16 4)

/-- A write of BS_CH: the mapping, and the W1C bits (R322). -/
def State.bsChWrite (s : State) (b v : Nat) : State :=
  if s.mapRejects b v then s.event F.BS_EVENT_MAP_REJECT .warn b b (bits v 0 13) 0
  else
    let s := ((s.setFld (F.BS_CH_CHANNEL b) (bits v 0 13)).setFlag (F.BS_CH_RX_EN b) (bit v 13)).setFlag (F.BS_CH_TX_EN b) (bit v 14)
    let s := (s.setFlag (F.BS_CH_TIMED b) (bit v 15)).setFld (F.BS_CH_TSLOT b) (bits v 16 4)
    let s := if bit v 22 then s.setFlag (F.BS_CH_OVERLOAD b) false else s
    let s := if bit v 23 then s.setFlag (F.BS_CH_SLIP b) false else s
    (s.setFlag (F.BS_CH_MISMATCH b) false).setFlag (F.BS_CH_TS_SHORT b) false

/-- Samples of a frame at the group's rate. -/
def frameSamples (frame fs : Nat) : Nat := 5 * 2 ^ frame * fs

/-- Does the channel's ring fit the group's rate? -/
def ringFits (c : Chan) (r : RingShape) (fs : Nat) : Bool := r.frames ≠ 0 && r.samples = frameSamples c.frame fs

/-! ## The transmit chain (R334) -/

/-- The FIR inputs that one resampled input gives. -/
def txPull (inc' : Nat) : Nat → BsTx → List Int → BsTx × List Int
  | 0, x, l => (x, l.reverse)
  | n + 1, x, l =>
    if x.pos < 2 ^ 22 then
      let v := resample inc' (15 * 2 ^ 22 + x.pos) fun j => if j < 0 then 0 else x.inp.getD (15 - j.toNat) 0
      txPull inc' n { x with pos := x.pos + inc' } (v :: l)
    else ({ x with pos := x.pos - 2 ^ 22 }, l.reverse)

/-- The PCM words of a frame: reverse resampler, then the interpolating FIR. -/
def State.txChain (s : State) (g : Nat) (c : ChainCfg) (x : BsTx) (samples : List Int) : BsTx × List Int :=
  let inc' := if s.incOf g = 0 then 2 ^ 22 else 2 ^ 44 / s.incOf g
  samples.foldl (fun (acc : BsTx × List Int) v =>
    let p := txPull inc' 4 { acc.1 with inp := (v :: acc.1.inp).take 16 } []
    p.2.foldl (fun (acc : BsTx × List Int) u =>
      let l := (u :: acc.1.fir).take 64
      let out := (List.range c.df).map fun j =>
        (s.firOut g c (s.nextFir g) fun co => (List.range ((c.taps + c.df - 1) / c.df)).foldl
          (fun a i => if i * c.df + j < c.taps then a + 2 * (co (i * c.df + j) * l.getD i 0) else a) 0).1
      ({ acc.1 with fir := l }, acc.2 ++ out)) (p.1, acc.2)) (x, [])

/-- The group carries its transmit words: not a second group of a pair whose first does not transmit alike (R334). -/
def State.txCarries (s : State) (g : Nat) : Bool :=
  g % 2 = 0 || (s.flag (F.BS_GCFG_EN (g - 1)) && s.fld (F.BS_GCHAIN_D (g - 1)) = s.fld (F.BS_GCHAIN_D g))

/-- The transmit slot of frame `f` is checked once and sent (R201, R334). -/
def State.bsPlay (s : State) (n b f : Nat) : State :=
  let g := b / 16
  let c := s.groupCfg g
  match s.chan n with
  | none => s
  | some ch =>
    if s.groupActive g ∧ s.flag (F.BS_GCFG_TX_EN g) then
      if ringFits ch ch.graph.tx c.fs = false then s.setFlag (F.BS_CH_MISMATCH b) true
      else
        let got := s.readRing ch 24 ch.graph.tx f
        let s := if got.isNone then s.ctxIncS n ch 27 0 16 else s
        let l := (got.getD (List.replicate ch.graph.tx.samples 0)).map (sgn 24)
        let r := s.txChain g c (mget ⟨[], 0, []⟩ s.bs.tx b) l
        let s : State := { s with bs := { s.bs with tx := mput s.bs.tx b r.1 } }
        let on := s.txCarries g && !s.pairLost (g / 2)
        s.emit (.bitstream b (r.2.map fun v => if on then unsgn 24 v else 0))
    else s

end Sys2Proof.Machine
end

