-- ==== Sys2Proof/Machine/PortOps.lean ====
section
/-! DEFINITION. What the packet ports share: admission of frames (R239, R240, R250-R253), completions (R254), headers
and checksums (R252), and the SRTP contexts (R255-R260). -/
namespace Sys2Proof.Machine

def Port.init : Port := ⟨[], none, [], [], none, false, none, false, none, none⟩
def State.port (s : State) (p : Nat) : Port := mget Port.init s.ep.port p
def State.setPort (s : State) (p : Nat) (x : Port) : State :=
  { s with ep := { s.ep with port := mset Port.init s.ep.port p x } }

/-- An SRTP context (R256). -/
def srtpZero : List Nat := List.replicate 32 0
def State.srtpCtx (s : State) (i : Nat) : List Nat := mget srtpZero s.ep.srtp i
def State.setSrtp (s : State) (i : Nat) (l : List Nat) : State := { s with ep := { s.ep with srtp := mset srtpZero s.ep.srtp i l } }

/-- Tag bytes of a suite (R255). -/
def suiteTag (suite : Nat) : Nat :=
  match suite with
  | 1 => 10
  | 2 => 4
  | 3 => 10
  | 4 => 4
  | 5 => 16
  | 6 => 16
  | _ => 0

/-- Bytes of a suite's master key and salt (R255). -/
def suiteKey (suite : Nat) : Nat := if suite = 3 ∨ suite = 4 ∨ suite = 6 then 32 else if suite = 0 then 0 else 16
def suiteSalt (suite : Nat) : Nat := if suite = 5 ∨ suite = 6 then 12 else if suite = 0 then 0 else 14

/-! ## Checksums (R245, R252) -/

/-- One's complement sum of 16-bit big-endian words. -/
def onesSum : List Byte → Nat
  | [] => 0
  | [a] => a.toNat * 256
  | a :: b :: r =>
    let v := a.toNat * 256 + b.toNat + onesSum r
    if v ≥ 65536 then v - 65535 else v

/-- The Internet checksum of bytes. -/
def inetSum (l : List Byte) : Nat := 65535 - onesSum l

def put16 (l : List Byte) (i v : Nat) : List Byte :=
  setAt (setAt l i (BitVec.ofNat 8 (v / 256))) (i + 1) (BitVec.ofNat 8 v)
def get16 (l : List Byte) (i : Nat) : Nat := beNat (slice l i 2)
def get32 (l : List Byte) (i : Nat) : Nat := beNat (slice l i 4)

/-- Where the IP header begins: after an optional 0x8100 tag. -/
def ipStart (l : List Byte) : Nat := if get16 l 12 = 0x8100 then 18 else 14

/-- The UDP checksum over the pseudo-header and the datagram, 0 sent as 0xFFFF (R252). -/
def udpSum (v6 : Bool) (addrs udp : List Byte) : Nat :=
  let pseudo := if v6 then addrs ++ beBytes 4 udp.length ++ [0, 0, 0, 17] else addrs ++ [0, 17] ++ beBytes 2 udp.length
  let c := inetSum (pseudo ++ udp)
  if c = 0 then 65535 else c

/-- The finished header and payload of an item (R252): lengths and checksums filled in. -/
def buildFrame (hdr payload : List Byte) (csum4 : Bool) : List Byte :=
  let ip := ipStart hdr
  let v6 := get16 hdr (ip - 2) = 0x86DD
  let udpAt := if v6 then ip + 40 else ip + 20
  let udpLen := 8 + payload.length
  let h := put16 (put16 hdr (udpAt + 4) udpLen) (udpAt + 6) 0
  let h := if v6 then put16 h (ip + 4) udpLen
    else
      let h := put16 (put16 h (ip + 2) (20 + udpLen)) (ip + 10) 0
      put16 h (ip + 10) (inetSum (slice h ip 20))
  let h := if v6 ∨ csum4 then
      let addrs := if v6 then slice h (ip + 8) 32 else slice h (ip + 12) 8
      put16 h (udpAt + 6) (udpSum v6 addrs (h.drop udpAt ++ payload))
    else h
  h ++ payload

/-- Pads a frame before its FCS (R242). -/
def padFrame (l : List Byte) : List Byte := l ++ List.replicate (60 - l.length) 0

/-- Length on the wire of `n` bytes before the FCS (R240, R242). -/
def wireLen (n : Nat) : Nat := max n 60 + 4

/-! ## Completions (R254) -/

/-- Counts a frame that is not sent (R266). -/
def State.txDrop (s : State) (p : Nat) : State := (s.incS (F.EP_CNT_COUNT p 5) 1).setFlag (F.EP_EVENT_TX_DROP p) true

/-- Writes a record to a status ring of a port: the first or second 1 MB of STAT_PAGE (R249, R254). -/
def State.statRing (s : State) (p : Nat) (tcr : Bool) (words : List Nat) : State :=
  let f := if tcr then F.EP_TCR_WIDX_WIDX p else F.EP_RSR_WIDX_WIDX p
  let w := s.fld f
  let s := s.setBytes (s.fld (F.EP_RING_CFG_STAT_PAGE p) * pageBytes + b2n tcr * 1048576 + w % 32768 * 32) (wordsLe words)
  s.setFld f (w + 1)

/-- Completes a frame of a port with a status (R254): the record of an item, the completion of a host frame.
`ts` is the timestamp taken, as seconds and nanoseconds. -/
def State.txDone (s : State) (p : Nat) (f : TxFrame) (status : Nat) (aborted : Bool) (roc : Nat) (ts : Option (Nat × Nat)) :
    State :=
  let lost := f.tsReq && !f.tsEntry && decide (status = 0)
  let padded := decide (f.len = 64) && decide (f.hdr.length + f.payload.length + (if f.rtp then suiteTag f.suite else 0) < 60)
  let w0 := status % 256 + b2n ts.isSome * 2 ^ 8 + b2n lost * 2 ^ 9 + b2n padded * 2 ^ 10 + b2n f.alt * 2 ^ 11
    + b2n aborted * 2 ^ 12 + f.pri % 8 * 2 ^ 13 + f.len % 16384 * 2 ^ 16
  let t := ts.getD (0, 0)
  let s := if status = 0 then s else s.txDrop p
  let s := if lost then (s.incS (F.EP_CNT_COUNT p 6) 1).setFlag (F.EP_EVENT_TS_LOST p) true else s
  match f.kind with
  | 0 =>
    let seq := if f.rtp then get16 f.payload 2 else 0
    let words := [w0, f.flow % 16384 + f.seq % 65536 * 2 ^ 16, seq, if f.rtp ∧ f.suite ≠ 0 then roc else 0,
      t.2, t.1 % 2 ^ 32, t.1 / 2 ^ 32 % 65536, 0]
    let s := if s.flag (F.EP_TX_CFG_TCR_EN p) then s.statRing p true words else s
    match s.chan (f.flow / 2) with
    | some c =>
      let s := s.setChan (f.flow / 2) { c with inFlight := c.inFlight - 1 }
      if status = 0 then s.lanternCount (f.flow / 2) 0 1 else s
    | none => s
  | 1 => s.completeOpt f.origin status 0 [w0, t.2, t.1 % 2 ^ 32, t.1 / 2 ^ 32 % 65536]
  | _ => s

/-! ## Admission (R239, R240, R253) -/

/-- Ports 0-3 that are enabled, hold a role bit and have their link up (R239). -/
def State.candidates (s : State) (role : Nat) : Option Nat :=
  firstBelow 4 fun p => s.flag (F.EP_CTRL_EN p) && bit (s.fld (F.EP_CTRL_ROLES p)) role && s.flag (F.EP_STATUS_LINK p)

def State.txQueue (s : State) (p pri : Nat) : List TxFrame := mget [] (s.port p).queues pri
def State.setTxQueue (s : State) (p pri : Nat) (l : List TxFrame) : State :=
  s.setPort p { s.port p with queues := mset [] (s.port p).queues pri l }

/-- Every frame queued at a port, the one on the wire left out. -/
def State.queuedFrames (s : State) (p : Nat) : List TxFrame := (List.range 8).flatMap (s.txQueue p)

/-- Timestamp entries in use (R265). -/
def State.tsUsed (s : State) (p : Nat) : Nat :=
  (s.queuedFrames p |>.filter (·.tsEntry)).length + (match (s.port p).cur with
    | some o => b2n o.f.tsEntry
    | none => 0)

/-- Admits a frame to the queue of its priority, or completes it with REFUSED (R253, R265). -/
def State.txAdmit (s : State) (p : Nat) (f : TxFrame) : State :=
  let q := s.txQueue p f.pri
  let used := (s.queuedFrames p).foldl (fun acc x => acc + x.len) 0
  if q.length < s.fld (F.EP_TXQ_LIMIT p f.pri) ∧ used + f.len ≤ 1048576 then
    let e := f.tsReq && decide (s.tsUsed p < 64)
    let s := s.setTxQueue p f.pri (q ++ [{ f with tsEntry := e }])
    s.setFld (F.EP_TS_STAT_HWM p) (max (s.fld (F.EP_TS_STAT_HWM p)) (s.tsUsed p))
  else s.txDone p f 2 false 0 none

/-- The page of a port's template table for a plane (R251); after a takeover that of the slot's shadow (R429). -/
def State.tplPage (s : State) (p plane : Nat) : Nat :=
  match s.tw.installed with
  | none => s.fld (F.EP_RING_CFG_TPL_PAGE p)
  | some i => s.fld (F.TW_PRI_SHADOW_FIRST_PAGE i) + (if bit (s.fld (F.EP_CTRL_ROLES p)) plane then plane else 1 - plane)

/-- A template in a page, as 32 words (R251). -/
def State.templateAt (s : State) (page t : Nat) : List Nat := (List.range 32).map fun i => s.word (page * pageBytes + t * 128 + 4 * i)

/-- The template of an index in a port's table for a plane. -/
def State.template (s : State) (p plane t : Nat) : List Nat := s.templateAt (s.tplPage p plane) t

/-- An item that is not yet bound to a port or header. -/
def itemFrame (s : State) (flow seq : Nat) (data : List Byte) : TxFrame :=
  ⟨0, 0, s.elapsed, flow, seq, false, false, 0, 0, false, [], data.drop 3, false, false, 0, none, 0, none, 0⟩

/-- Releases an item of an even flow to a packet port (R239, R250-R253). -/
def State.releaseItem (s : State) (flow seq : Nat) (data : List Byte) : State :=
  let n := flow / 2
  let s := match s.chan n with
    | some c => s.setChan n { c with inFlight := c.inFlight + 1 }
    | none => s
  let f := itemFrame s flow seq data
  let b0 := (data.getD 0 0).toNat
  if data.length < 3 ∨ b0 ≥ 32 ∨ data.getD 1 0 ≠ 0 ∨ data.getD 2 0 ≠ 0 then
    s.txDone Config.portOfDropped.val f 5 false 0 none
  else
    let plane := bits b0 1 1
    let main := s.candidates plane
    let pick := match main with
      | some p => some (p, false)
      | none => if bit b0 2 then (s.candidates (1 - plane)).map fun p => (p, true) else none
    match pick with
    | none => s.txDone Config.portOfDropped.val f 6 false 0 none
    | some (p, alt) =>
      let t := s.template p plane (2 * n + bits b0 0 1)
      let w0 := nth t 0
      let f := { f with link := if alt then 1 - plane else plane, alt := alt, tsReq := bit b0 3, rtp := bit b0 4 }
      if bit w0 0 = false then s.txDone p f 8 false 0 none
      else
        let hdr := ((t.drop 2).flatMap (leBytes 4)).take (bits w0 8 7)
        let ctx := bits w0 16 14
        let suite := if f.rtp then bits (nth (s.srtpCtx ctx) 0) 0 4 else 0
        let pri := if bit w0 2 then (hdr.getD 14 0).toNat / 32 else s.fld (F.EP_TX_CFG_DEF_PCP p)
        let len := wireLen (hdr.length + f.payload.length + suiteTag suite)
        let f := { f with hdr := hdr, srtp := ctx, suite := suite, pri := pri, len := len, csum := bit w0 3 }
        if len > s.fld (F.EP_RX_CFG_MAX_FRAME p) then s.txDone p f 5 false 0 none else s.txAdmit p f

/-! ## SRTP (R255-R260) -/

/-- Length of an RTP header with its CSRC list and extension; nothing when malformed (R246). -/
def rtpHdrLen (l : List Byte) : Option Nat :=
  if l.length < 12 then none
  else
    let b0 := (l.getD 0 0).toNat
    let n := 12 + 4 * (b0 % 16)
    if b0 / 64 ≠ 2 ∨ l.length < n then none
    else if bit b0 4 then
      if l.length < n + 4 then none
      else
        let e := n + 4 + 4 * get16 l (n + 2)
        if l.length < e then none else some e
    else some n

/-- srtp_out of R259: the packet as sent with its tag, the context afterwards and the ROC used. -/
def srtpOut (ctx : List Nat) (pkt : List Byte) : List Byte × List Nat × Nat :=
  let suite := bits (nth ctx 0) 0 4
  let seq := get16 pkt 2
  let last := bits (nth ctx 3) 0 16
  let first := bit (nth ctx 0) 7
  let roc := if !first && decide (seq < last) && decide (last - seq ≥ 32768) then (nth ctx 2 + 1) % 2 ^ 32 else nth ctx 2
  let ctx' := setAt (setAt (setAt ctx 0 (setBits (nth ctx 0) 7 1 0)) 2 roc) 3 seq
  let idx := roc * 65536 + seq
  let key := slice ctx 8 8
  let salt := slice ctx 16 4
  let h := (rtpHdrLen pkt).getD (min 12 pkt.length)
  let body := (pkt.drop h).zipIdx.map fun e => e.1 ^^^ Config.srtpStream suite key salt idx (get32 pkt 8) e.2
  let enc := pkt.take h ++ body
  (enc ++ (List.range (suiteTag suite)).map (Config.srtpTag suite key salt idx enc), ctx', roc)

/-- The outcome of srtp_in: the SRTP_CODE, and the context and the decrypted packet when it is accepted. -/
structure SrtpIn where
  code : Nat
  ctx : List Nat
  pkt : List Byte
deriving DecidableEq, Repr

/-- The index estimate of RFC 3711 Appendix A from SEQ, ROC and LAST_SEQ (R258). -/
def srtpEstimate (seq roc last : Nat) : Nat :=
  let v : Int :=
    if last < 32768 then (if seq > last + 32768 then (roc : Int) - 1 else roc)
    else (if seq + 32768 < last then (roc : Int) + 1 else roc)
  (v % (2 ^ 32 : Nat)).toNat * 65536 + seq

/-- The replay bitmap as a number: bit 0 is the highest index (R256). -/
def srtpBitmap (ctx : List Nat) : Nat := (List.range 4).foldl (fun acc i => acc + nth ctx (4 + i) * 2 ^ (32 * i)) 0

/-- srtp_in of R258; `tagOk` says whether the tag verifies with the index that the context gives. -/
def srtpIn (x : List Nat) (pkt : List Byte) (tagOk : Bool) : SrtpIn :=
  let w0 := nth x 0
  let suite := bits w0 0 4
  let ssrc := get32 pkt 8
  let seq := get16 pkt 2
  if bit w0 5 = false then ⟨5, x, pkt⟩
  else if bit w0 6 ∧ ssrc ≠ nth x 1 then ⟨4, x, pkt⟩
  else
    let fresh := !bit w0 6 && (bit w0 7 || decide (ssrc ≠ nth x 1))
    let first := bit w0 7 || fresh
    let map := if fresh then 0 else srtpBitmap x
    let roc := if fresh ∧ ssrc ≠ nth x 1 then 0 else nth x 2
    let i := if first then roc * 65536 + seq else srtpEstimate seq roc (bits (nth x 3) 0 16)
    let high := roc * 65536 + bits (nth x 3) 0 16
    let replay := !first && (decide (i + 128 ≤ high) || (decide (i ≤ high) && bit map (high - i)))
    if replay then ⟨3, x, pkt⟩
    else if tagOk = false then ⟨2, x, pkt⟩
    else
      let newHigh := first || decide (i > high)
      let map' := if first then 1
        else if newHigh then (map * 2 ^ (min (i - high) 128) + 1) % 2 ^ 128
        else map ||| 2 ^ (high - i)
      let roc' := if newHigh then i / 65536 % 2 ^ 32 else roc
      let last' := if newHigh then seq else bits (nth x 3) 0 16
      let body := pkt.take (pkt.length - suiteTag suite)
      let h := (rtpHdrLen body).getD 12
      let key := slice x 8 8
      let salt := slice x 16 4
      let dec := body.take h ++ (body.drop h).zipIdx.map fun e => e.1 ^^^ Config.srtpStream suite key salt i ssrc e.2
      let ctx := [setBits w0 7 1 0, if fresh then ssrc else nth x 1, roc', last'] ++
        (List.range 4).map (fun k => map' / 2 ^ (32 * k) % 2 ^ 32) ++ x.drop 8
      ⟨1, ctx, dec⟩

end Sys2Proof.Machine
end

