-- ==== Sys2Proof/Machine/RkOps.lean ====
section
/-! DEFINITION. What Rucksack and the Lantern mailbox take from commits: job descriptors and cells (R360-R364), and
Lantern events (R503). -/
namespace Sys2Proof.Machine

/-! ## Rucksack jobs -/

/-- Fields of descriptor word 0 (R360). -/
def rkOp (w : List Nat) : Nat := bits (nth w 0) 1 2
def rkWrap (w : List Nat) : Nat := bits (nth w 0) 3 2
def rkWin4 (w : List Nat) : Bool := bit (nth w 0) 5
def rkDictIn (w : List Nat) : Bool := bit (nth w 0) 6
def rkDictOut (w : List Nat) : Bool := bit (nth w 0) 7
def rkRetry (w : List Nat) : Bool := bit (nth w 0) 8
def rkToken (w : List Nat) : Bool := bit (nth w 0) 9
def rkEdge (w : List Nat) : Nat := bits (nth w 0) 10 5
/-- A 42-bit address in two words. -/
def rkAddr (w : List Nat) (i : Nat) : Nat := nth w i + 2 ^ 32 * bits (nth w (i + 1)) 0 10

/-- The descriptor breaks R360. DEDUCED: the EDGE of a job without token is 0, and a RESUME names a state block. -/
def rkBad (cell : Bool) (w : List Nat) : Bool :=
  let w0 := nth w 0
  let resume := rkOp w = 2
  let dict := rkDictIn w || rkDictOut w
  let hi (i : Nat) : Bool := nth w i ≥ 2 ^ 10
  let big (i : Nat) : Bool := nth w i ≥ 2 ^ 24
  w0 ≥ 2 ^ 15 || bit w0 0 ≠ cell || rkOp w = 3 || rkWrap w = 3
  || (rkToken w && !cell) || (!rkToken w && rkEdge w ≠ 0)
  || hi 2 || hi 5 || hi 8 || hi 10 || big 3 || big 6 || big 11 || nth w 6 = 0
  || rkAddr w 7 % 64 ≠ 0 || rkAddr w 9 % 64 ≠ 0
  || (!dict && rkAddr w 9 ≠ 0) || (dict && rkWrap w = 2)
  || (rkOp w = 1 && rkWin4 w) || (rkOp w ≠ 1 && nth w 11 ≠ 0)
  || (resume && (rkWrap w ≠ 0 || rkWin4 w || dict || rkAddr w 1 ≠ 0 || nth w 3 ≠ 0 || rkAddr w 7 = 0))

/-- RK_QHWM follows the depths (R373). -/
def State.rkMark (s : State) : State :=
  let s := s.setFld F.RK_QHWM_CELL_HWM (max (s.fld F.RK_QHWM_CELL_HWM) s.rk.cellQ.length)
  s.setFld F.RK_QHWM_HOST_HWM (max (s.fld F.RK_QHWM_HOST_HWM) s.rk.hostQ.length)

/-- Byte address of a channel's job cell, when its KERNEL area holds one (R362). -/
def State.cellAddr (s : State) (c : Chan) : Option Nat :=
  let o := s.fld F.RK_CELL_OFS
  if c.graph.kernelBytes ≥ o + 64 then some (c.ctx + c.areas.kernel + o) else none

/-- Writes the completion words of a cell (R361, R363). -/
def State.cellDone (s : State) (a : Nat) (w12 w13 w14 w15 : Nat) : State :=
  s.setBytes (a + 48) (wordsLe [w12, w13, w14, w15])

/-- Examines a cell that a commit has just written with GO = 1 (R362). Answers the edge on which a job that ends at
once with BAD_DESCRIPTOR delivers its token (R360, R363). -/
def State.cellSubmit (s : State) (n a : Nat) : State × Option Nat :=
  let st := bits (s.word (a + 48)) 0 2
  if st = 1 ∨ st = 2 then
    ((s.incS F.RK_CNT_CELL_BUSY 1).event F.RK_EVENT_CELL_BUSY .warn 0 n 0 0, none)
  else
    let w := (List.range 12).map fun i => s.word (a + 4 * i)
    if rkBad true w then (s.cellDone a (3 + 5 * 256) 0 0 0, if rkToken w then some (rkEdge w) else none)
    else
      let s := s.cellDone a 1 0 0 0
      let j : RkJob := ⟨none, n, w, s.elapsed, false, false, 0⟩
      let s : State := { s with rk := { s.rk with cellQ := s.rk.cellQ ++ [j] } }
      (s.rkMark, none)

/-! ## Lantern events (R502, R503) -/

/-- Enters a tone item of a Lantern channel into the event FIFO. -/
def State.lanternItem (s : State) (n : Nat) (data : List Byte) : State :=
  if s.ln.fifo.length < 32 then
    let e := Config.lanternEvent data
    let first := s.ln.fifo.length = 0
    let s := { s with ln := { s.ln with fifo := s.ln.fifo ++ [(n, e.1.toNat, e.2.toNat)] } }
    if first ∧ s.flag F.LN_EVENT_IRQ_EVT_EN then s.sendMsix 0 else s
  else
    let sec := s.elapsed / 1000000000 + 1
    if s.ln.lastOverflow = sec then s.setFlag F.LN_EVENT_EVT_OVERFLOW true
    else
      let s := { s with ln := { s.ln with lastOverflow := sec } }
      s.event F.LN_EVENT_EVT_OVERFLOW .warn 0 n 0 0

end Sys2Proof.Machine
end

