-- ==== Sys2Proof/Machine/TrailOps.lean ====
section
/-! DEFINITION. Trailhead's shared operations (R146-R178): the pool and the queues, tokens and readiness, acceptance of
requests, ordered flows, commits and the other ways in which an entry ends. -/
namespace Sys2Proof.Machine

/-! ## Queues and the pool (R150-R152) -/

def State.queueAt (s : State) (q : Nat) : List Entry := mget [] s.th.queues q
def State.setQueue (s : State) (q : Nat) (l : List Entry) : State :=
  { s with th := { s.th with queues := mset [] s.th.queues q l } }

/-- The level at which an entry stands: 0 for a replay (R166). -/
def Entry.qlevel (e : Entry) : Nat := if e.replays = 0 then e.level else 0
def Entry.queue (e : Entry) : Nat := 8 * e.cluster + e.qlevel

/-- Every queued entry, and every running one with its core. -/
def State.queued (s : State) : List Entry := s.th.queues.flatMap (·.2)
def State.runs (s : State) : List (Nat × Running) := s.cores.filterMap fun e => e.2.run.map fun r => (e.1, r)
/-- The reservations of running entries (R155). -/
def State.resvs (s : State) : List Resv := s.runs.flatMap (·.2.res)

/-- The target node of an edge. -/
def Chan.edgeSpec (c : Chan) (e : Nat) : GEdge := c.graph.edges.getD e ⟨0, 0, 0, 0, 0⟩
def Chan.node (c : Chan) (n : Nat) : GNode := c.graph.nodes.getD n ⟨0, 0, 0, 0, 0, 0, 0, 0, 0, [], []⟩
/-- The queue of a channel's node (R155). -/
def Chan.nodeQueue (c : Chan) (n : Nat) : Nat := 8 * c.home + (c.node n).level

def Resv.pool : Resv → Bool
  | .token _ _ _ _ p => p
  | .work _ _ _ _ _ => true
  | .item _ _ _ _ _ _ => false

/-- The queue in which a reservation holds a place. -/
def State.resvQueue (s : State) : Resv → Option Nat
  | .token n e _ _ true => (s.chan n).map fun c => c.nodeQueue (c.edgeSpec e).dst
  | .work l c _ _ _ => some (8 * c + l)
  | _ => none

/-- TH_POOL.IN_USE: entries queued, dispatched or reserved (R152). -/
def State.poolUsed (s : State) : Nat := s.queued.length + s.runs.length + (s.resvs.filter (·.pool)).length

/-- Places that levels 1-7 use; DEDUCED: a replay entry uses the part of level 0. -/
def State.poolGeneral (s : State) : Nat :=
  (s.queued.filter (·.replays = 0)).length + (s.runs.filter fun r => r.2.e.replays = 0).length + (s.resvs.filter (·.pool)).length

/-- A pool place is free for levels 1-7 (R152). -/
def State.poolRoom (s : State) : Bool := s.poolGeneral < 65536 - 16 * s.clusters

/-- Entries in a queue and reservations for it stay under its limit (R152). -/
def State.queueRoom (s : State) (q : Nat) : Bool :=
  (s.queueAt q).length + (s.resvs.filter fun r => s.resvQueue r = some q).length < s.fld (F.TH_QCFG_LIMIT q)

/-- The high-water mark of the pool (R179). -/
def State.poolMark (s : State) : State := s.setFld F.TH_POOL_HWM_HWM (max (s.fld F.TH_POOL_HWM_HWM) s.poolUsed)

/-- Places in use on ordered flows: items held and reserved (R155, R170). -/
def State.ordUsed (s : State) : Nat :=
  (s.th.flows.foldl (fun acc f => acc + f.2.held.length) 0)
    + (s.resvs.filter fun r => match r with | .item _ _ _ _ _ _ => true | _ => false).length

def State.ordMark (s : State) : State := s.setFld F.TH_ORD_HWM (max (s.fld F.TH_ORD_HWM) s.ordUsed)

/-- Slots of a cluster that entries hold. -/
def State.heldSlots (s : State) (c : Nat) : List Nat :=
  (s.queued.filterMap fun e => if e.cluster = c then e.slot else none)
    ++ s.runs.filterMap fun r => if r.2.e.cluster = c then r.2.e.slot else none

/-- The free slots of a cluster, lowest first. -/
def State.freeSlotList (s : State) (c : Nat) : List Nat :=
  (List.range (s.fld (F.HP_STG_CFG_SLOTS c))).filter fun k => !(s.heldSlots c).contains k

/-- Entries of a cluster that wait for staging, in the order in which they became visible. -/
def State.unstaged (s : State) (c : Nat) : List Entry :=
  sortBy (fun a b => a.id < b.id) (s.queued.filter fun e => e.kind = .node && e.cluster = c && e.ready = false)

/-- Staging requests of a cluster that wait for a slot (R212); the field stays at 255 when more. -/
def State.slotWaiters (s : State) (c : Nat) : Nat :=
  min 255 (((s.unstaged c).filter fun e => e.slot = none).length - (s.freeSlotList c).length)

/-- Counts bytes that pass through a cluster port (R184, R212). -/
def State.portBytes (s : State) (c n : Nat) : State :=
  let t := mget 0 s.hp.moved c + n
  let s : State := { s with hp := { s.hp with moved := mset 0 s.hp.moved c (t % 1024) } }
  s.incWrap (F.HP_CBW_KBYTES c) (t / 1024) (s.flag F.HP_CTRL_CBW_WRAP_EVT)

/-- Makes an entry visible at the tail of its queue (R151, R158). -/
def State.pushEntry (s : State) (e : Entry) : State :=
  let e := { e with id := s.th.nextId, since := s.elapsed }
  let s := { s with th := { s.th with nextId := s.th.nextId + 1 } }
  let s := (s.setQueue e.queue (s.queueAt e.queue ++ [e])).poolMark
  if e.kind = .node then
    s.setFld (F.HP_CSTAT_WAIT_HWM e.cluster) (max (s.fld (F.HP_CSTAT_WAIT_HWM e.cluster)) (s.slotWaiters e.cluster))
  else s

/-- Returns an entry to the head of its level; its wait is counted from now (R135, R175, R178). -/
def State.returnEntry (s : State) (e : Entry) : State :=
  s.setQueue e.queue ({ e with since := s.elapsed } :: s.queueAt e.queue)

/-- Replaces a queued entry. -/
def State.updEntry (s : State) (e : Entry) : State :=
  s.setQueue e.queue ((s.queueAt e.queue).map fun x => if x.id = e.id then e else x)

def State.dropQueued (s : State) (p : Entry → Bool) : State :=
  { s with th := { s.th with queues := s.th.queues.filterMap fun q =>
    let l := q.2.filter fun e => !p e
    if l = [] then none else some (q.1, l) } }

/-! ## Tokens and readiness (R146-R149) -/

def Chan.tokens (c : Chan) (e : Nat) : List Token := mget [] c.edges e
def Chan.setTokens (c : Chan) (e : Nat) (l : List Token) : Chan := { c with edges := mset [] c.edges e l }
/-- The input and output edges of a node, lowest-numbered first. -/
def Chan.inputs (c : Chan) (n : Nat) : List Nat := (List.range c.graph.edges.length).filter fun e => (c.edgeSpec e).dst = n
def Chan.outputs (c : Chan) (n : Nat) : List Nat := (List.range c.graph.edges.length).filter fun e => (c.edgeSpec e).src = n

/-- Each input edge holds its required count (R147). -/
def Chan.nodeReady (c : Chan) (n : Nat) : Bool :=
  c.inputs n ≠ [] && (c.inputs n).all fun e => (c.edgeSpec e).req ≤ (c.tokens e).length

/-- The tokens that the node consumes from an edge. -/
def Chan.consumed (c : Chan) (e : Nat) : List Token := (c.tokens e).take (c.edgeSpec e).req

/-- The node's frame number: that of the oldest token of its lowest-numbered input edge (R149). -/
def Chan.nodeFrame (c : Chan) (n : Nat) : Nat :=
  match c.inputs n with
  | [] => 0
  | e :: _ => match c.tokens e with
    | [] => 0
    | t :: _ => t.frame

def Chan.nodeVoid (c : Chan) (n : Nat) : Bool := (c.inputs n).any fun e => (c.consumed e).any (·.isVoid)

/-- Removes the required count of tokens from each input edge (R148). -/
def Chan.consume (c : Chan) (n : Nat) : Chan :=
  (c.inputs n).foldl (fun c e => c.setTokens e ((c.tokens e).drop (c.edgeSpec e).req)) c

/-- Reservations on an edge (R155). -/
def State.edgeResv (s : State) (n e : Nat) : Nat :=
  (s.resvs.filter fun r => match r with | .token n' e' _ _ _ => n' = n && e' = e | _ => false).length

/-- Room on an edge, reservations counted (R155). -/
def State.edgeRoom (s : State) (n : Nat) (c : Chan) (e : Nat) : Bool :=
  (c.tokens e).length + s.edgeResv n e < (c.edgeSpec e).depth

/-- Does the node have an entry queued or dispatched (R147)? -/
def State.hasEntry (s : State) (n nd : Nat) : Bool :=
  s.queued.any (fun e => e.kind = .node && e.chan = n && e.node = nd)
    || s.runs.any fun r => r.2.e.kind = .node && r.2.e.chan = n && r.2.e.node = nd

/-- The lowest-numbered buffer of an edge that holds no token. -/
def Chan.freeBuf (c : Chan) (e : Nat) : Nat :=
  (firstBelow (c.edgeSpec e).depth fun b => (c.tokens e).all (·.buf ≠ b)).getD 0

/-- Byte address of a token buffer (R194): edge after edge, buffer after buffer. -/
def Chan.bufAddr (c : Chan) (e b : Nat) : Nat :=
  c.ctx + c.areas.edges + 4 * ((c.graph.edges.take e).foldl (fun acc x => acc + x.depth * x.words) 0 + b * (c.edgeSpec e).words)

/-- Places a token on an edge and writes its data, as far as the edge's token size reaches. -/
def State.placeToken (s : State) (n e frame : Nat) (isVoid : Bool) (data : List Nat) : State :=
  match s.chan n with
  | none => s
  | some c =>
    let data := data.take (c.edgeSpec e).words
    let b := c.freeBuf e
    let s := if data = [] then s else s.setBytes (c.bufAddr e b) (wordsLe data)
    s.setChan n (c.setTokens e (c.tokens e ++ [⟨frame % 16384, isVoid, b, data.length⟩]))

/-- A dropped hardware token (R156). -/
def State.hwDrop (s : State) (n e : Nat) : State :=
  let s := (s.incS F.TH_REFUSE_CNT_HW 1).setFlag F.TH_EVENT_HW_DROP true
  if s.flag F.TH_CTRL_DROP_EVT then s.event F.TH_EVENT_HW_DROP .warn 0 n e 0 else s

/-- Places a void token on each output edge of a node that has room; a token without room is dropped (R164). -/
def State.voidOutputs (s : State) (n nd frame : Nat) : State :=
  match s.chan n with
  | none => s
  | some c => (c.outputs nd).foldl (fun s e =>
      match s.chan n with
      | none => s
      | some c => if s.edgeRoom n c e then s.placeToken n e frame true [] else s.hwDrop n e) s

/-- Consumes a node's input tokens and places void tokens on its outputs (R164). -/
def State.consumeVoid (s : State) (n nd frame : Nat) : State :=
  match s.chan n with
  | none => s
  | some c => (s.setChan n (c.consume nd)).voidOutputs n nd frame

/-- The ready entry of a node. -/
def Chan.entry (c : Chan) (n nd : Nat) : Entry :=
  { id := 0, kind := .node, chan := n, node := nd, frame := c.nodeFrame nd, isVoid := c.nodeVoid nd,
    level := (c.node nd).level, cluster := c.home, since := 0, slot := none, ready := false, cancel := false, replays := 0,
    barred := [], handle := 0, w1 := 0, w2 := 0, w3 := 0, desc := [], crc := none, restage := false, jbMarked := [],
    preempt := none, asked := [] }

/-- Entries are made for a channel: its home is in service and not being rebuilt (R177, R451). -/
def State.homeServes (s : State) (c : Chan) : Bool :=
  s.clusterIn c.home && (match s.th.rebuild with
    | some (k, _, _) => k ≠ c.home
    | none => true)

/-- Makes ready entries for the listed nodes of a channel where R147 holds. A channel tombstone swallows the ready; so
does a node-instance tombstone, which is removed and followed by void tokens (R173, R174). -/
def State.settle : Nat → Nat → List Nat → State → State
  | 0, _, _, s => s
  | _ + 1, _, [], s => s
  | fuel + 1, n, nd :: rest, s =>
    match s.chan n with
    | none => s
    | some c =>
      if c.tomb || !c.nodeReady nd || s.hasEntry n nd || !s.homeServes c then settle fuel n rest s
      else
        let f := c.nodeFrame nd
        if (nd, f) ∈ c.tombs then
          let s := s.setChan n { c with tombs := c.tombs.erase (nd, f) }
          settle fuel n (((c.outputs nd).map fun e => (c.edgeSpec e).dst) ++ nd :: rest) (s.consumeVoid n nd f)
        else settle fuel n rest (s.pushEntry (c.entry n nd))

/-- The number of steps after which `settle` has looked at every node that tokens may make ready. -/
def settleFuel : Nat := 8192

/-- Makes ready what the listed nodes allow. -/
def State.makeReady (s : State) (n : Nat) (l : List Nat) : State := State.settle settleFuel n l s

/-- The nodes that a node's output edges lead to. -/
def Chan.targets (c : Chan) (nd : Nat) : List Nat := (c.outputs nd).map fun e => (c.edgeSpec e).dst

/-! ## Acceptance of tokens (R155, R156) -/

/-- Does a further token on edge `e` complete its target's readiness? Tokens and reservations are counted. -/
def State.completes (s : State) (n : Nat) (c : Chan) (e : Nat) : Bool :=
  let d := (c.edgeSpec e).dst
  (c.inputs d).all (fun i => (c.edgeSpec i).req ≤ (c.tokens i).length + s.edgeResv n i + b2n (i = e))
    && !s.hasEntry n d
    && !s.resvs.any fun r => match r with
      | .token n' e' _ _ true => n' = n && (c.edgeSpec e').dst = d
      | _ => false

/-- The decision on a token: accepted with or without a pool entry, or the limit that refuses it. -/
inductive Decide where
  | ok (pool : Bool)
  | edgeFull | poolFull | queueFull | window | malformed
deriving DecidableEq, Repr

/-- Decides a token request (R155). -/
def State.tokenDecide (s : State) (n : Nat) (c : Chan) (e : Nat) : Decide :=
  if !s.edgeRoom n c e then .edgeFull
  else if !s.completes n c e then .ok false
  else if !s.poolRoom then .poolFull
  else if !s.queueRoom (c.nodeQueue (c.edgeSpec e).dst) then .queueFull
  else .ok true

/-- TH_EVENT records the limit that caused a refusal (R156, R170). -/
def State.noteRefusal (s : State) : Decide → State
  | .poolFull => s.setFlag F.TH_EVENT_POOL_FULL true
  | .queueFull => s.setFlag F.TH_EVENT_QUEUE_FULL true
  | .window => s.setFlag F.TH_EVENT_WINDOW_FULL true
  | _ => s

/-- Counts a malformed request (R154). -/
def State.countMalformed (s : State) : State :=
  (s.incS F.TH_REFUSE_HOST_MALFORMED 1).event F.TH_EVENT_MALFORMED .warn 0 0 0 0

/-- Delivers a source token to an edge (R149, R155, R156). -/
def State.sourceToken (s : State) (n e frame : Nat) : State :=
  match s.chan n with
  | none => s
  | some c =>
    match s.tokenDecide n c e with
    | .ok _ => (s.placeToken n e frame false []).makeReady n [(c.edgeSpec e).dst]
    | r => (s.noteRefusal r).hwDrop n e

/-- Delivers a source token to every edge of a channel that has the producer: 16 Compass, 17 media bank, 18 Rucksack,
19 LMU (R149, R391). -/
def State.sourceTokens (s : State) (n src : Nat) (frame : Nat) : State :=
  match s.chan n with
  | none => s
  | some c => (c.outputs src).foldl (fun s e => s.sourceToken n e frame) s

/-! ## Ordered flows (R170-R172) -/

def Flow.init : Flow := ⟨0, [], false, 0⟩
def State.flow (s : State) (f : Nat) : Flow := mget Flow.init s.th.flows f
def State.setFlow (s : State) (f : Nat) (x : Flow) : State := { s with th := { s.th with flows := mset Flow.init s.th.flows f x } }

/-- Decides an item by its sequence number (R170): no held item, and no reservation but those left out by `own`. -/
def State.itemDecide (s : State) (f seq : Nat) (own : Bool) : Decide :=
  let x := s.flow f
  let d := (seq + 65536 - x.next) % 65536
  if d > 63 ∨ x.held.any (·.seq = seq) then .window
  else if own then .ok false
  else if s.resvs.any (fun r => match r with | .item f' q _ _ _ _ => f' = f && q = seq | _ => false) then .window
  else if s.ordUsed ≥ 32768 then .window
  else .ok false

/-- Writes NEXT of a channel's flows into its context header (R193). -/
def State.writeNext (s : State) (n : Nat) : State :=
  match s.chan n with
  | none => s
  | some c => s.setCtxWord c 3 ((s.flow (2 * n)).next + 65536 * (s.flow (2 * n + 1)).next)

/-- Hands a released item to its destination (R171, R202, R403, R503). -/
def State.handOver (s : State) (f : Nat) (h : Held) : State :=
  if h.skip then s
  else if f % 2 = 0 then s.releaseItem f h.seq h.data
  else if h.dest = 0 then s.txRingItem (f / 2) h.data
  else match s.chan (f / 2) with
    | some c => if c.lantern then s.lanternItem (f / 2) h.data else s.itemRecord (f / 2) h.seq h.data
    | none => s

/-- Releases held items in order while one is NEXT (R171). -/
def State.release : Nat → Nat → State → State
  | 0, _, s => s
  | fuel + 1, f, s =>
    let x := s.flow f
    match x.held.find? (·.seq = x.next) with
    | none => s
    | some h =>
      let x : Flow := ⟨(x.next + 1) % 65536, x.held.filter (·.seq ≠ x.next), false, s.elapsed⟩
      let s := s.setFlow f x
      release fuel f ((s.writeNext (f / 2)).handOver f h)

/-- Holds an accepted item and releases what is in order. -/
def State.holdItem (s : State) (f : Nat) (h : Held) : State :=
  let x := s.flow f
  State.release 65 f (State.setFlow s f { x with held := x.held ++ [h] }).ordMark

/-- An item at its node's commit point: judged again against NEXT (R172). -/
def State.commitItem (s : State) (f : Nat) (h : Held) : State :=
  match s.itemDecide f h.seq true with
  | .ok _ => s.holdItem f h
  | _ => (s.incS F.TH_REFUSE_CNT_CORE 1).setFlag F.TH_EVENT_WINDOW_FULL true

/-! ## CSM areas (R196) -/

def State.readWords (s : State) (c : Nat) : Nat := s.fld (F.HP_STG_CFG_READ_KW c) * 1024
def State.writeWords (s : State) (c : Nat) : Nat := s.fld (F.HP_STG_CFG_WRITE_KW c) * 1024
/-- X-space address of a slot's read area. -/
def State.slotRead (s : State) (c k : Nat) : Nat := csmBase + k * (s.readWords c + s.writeWords c)
def State.slotWrite (s : State) (c k : Nat) : Nat := s.slotRead c k + s.readWords c
def State.jobPart (s : State) (c i : Nat) : Nat :=
  csmBase + s.fld (F.HP_STG_CFG_SLOTS c) * (s.readWords c + s.writeWords c) + i * (s.fld (F.HP_JOBWIN_KW_PER_CORE c) * 1024)

/-- CSM word at an X-space address of cluster `c`. -/
def State.csmAt (s : State) (c a : Nat) : Nat := (csmGet s.mem.csm c (a - csmBase)).toNat
/-- Writes words to the CSM of a cluster. -/
def State.putCsm (s : State) (c a : Nat) (l : List Nat) : State :=
  { s with mem := { s.mem with csm := (l.zipIdx).foldl (fun m e => csmSet m c (a - csmBase + e.2) (BitVec.ofNat 32 e.1)) s.mem.csm } }

/-- Places of extents in an area: each starts at a 16-word boundary (R198). -/
def layExtents : Nat → List (Extent × Nat) → List (Extent × Nat × Nat)
  | _, [] => []
  | at_, (x, n) :: r => (x, at_, n) :: layExtents (at_ + roundUp n 16) r

/-- CSM words that an extent of `len` context words takes (R198). -/
def extWords (x : Extent) (len : Nat) : Nat := if x.pack then (4 * len + 2) / 3 else len

/-- The words of a node's write map in the window. -/
def Chan.writeLen (_c : Chan) (x : Extent) : Nat := if x.kind = 0 then 0 else if x.kind = 6 then 2 else extWords x x.len

def Chan.writePlan (c : Chan) (nd : Nat) : List (Extent × Nat × Nat) :=
  layExtents 0 ((c.node nd).wr.map fun x => (x, c.writeLen x))

/-- The write map's total, as WIN_LEN counts it: in units of 64 words (R160, R197). -/
def Chan.winUnits (c : Chan) (nd : Nat) : Nat :=
  ((c.writePlan nd).foldl (fun acc x => max acc (if x.2.2 = 0 then acc else x.2.1 + x.2.2)) 0 + 63) / 64

/-- The write window of an entry on a physical core: address and words (R160, R196). -/
def State.window (s : State) (k : Nat) (e : Entry) : Nat × Nat :=
  match e.kind with
  | .node => match s.chan e.chan, e.slot with
    | some c, some sl => (s.slotWrite e.cluster sl, 64 * c.winUnits e.node)
    | _, _ => (0, 0)
  | _ => (s.jobPart e.cluster (k % 9), s.fld (F.HP_JOBWIN_KW_PER_CORE e.cluster) * 1024)

/-- A 24-bit X-space word as the device reads it for a request. -/
def State.xWord (s : State) (k a : Nat) : Nat :=
  if a < 0x4000 then (mget 0 (s.core k).xm a).toNat
  else if inCsm a then bits (s.csmAt (k / 9) a) 0 24
  else (Config.absentX a).toNat

/-- The 32-bit words of token data: CSM words unchanged, XM words sign-extended (R81, R198). -/
def State.tokenData (s : State) (k a n : Nat) : List Nat :=
  (List.range n).map fun i =>
    let x := (a + i) % 2 ^ 24
    if inCsm x then s.csmAt (k / 9) x else unsgn 32 (sgn 24 (s.xWord k x))

/-- The bytes of item data (R198). -/
def State.itemData (s : State) (k a n : Nat) : List Byte :=
  (unpackWords ((List.range ((n + 2) / 3)).map fun i => s.xWord k ((a + i) % 2 ^ 24))).take n

/-! ## The write map (R198, R199) -/

/-- Writes one extent of the write map, `w` its words in the window. Answers the edge of a token owed at once. -/
def State.writeExtent (s : State) (n : Nat) (frame : Nat) (x : Extent) (w : List Nat) : State × Option Nat :=
  match s.chan n with
  | none => (s, none)
  | some c =>
    if x.kind = 1 then
      let bytes := if x.pack then (unpackWords (w.map fun v => v % 2 ^ 24)).take (4 * x.len) else wordsLe w
      let s := s.setBytes (c.ctx + x.ofs) bytes
      match s.cellAddr c with
      | some a =>
        if c.ctx + x.ofs ≤ a ∧ a + 4 ≤ c.ctx + x.ofs + 4 * x.len ∧ bit (s.word a) 0 then s.cellSubmit n a else (s, none)
      | none => (s, none)
    else if x.kind = 5 then
      (if c.graph.tx.frames = 0 then s
        else s.writeRing c 24 c.graph.tx frame ((List.range c.graph.tx.samples).map fun i => bits (nth w (i + 1)) 0 24), none)
    else if x.kind = 6 then
      (s.jbAdvance n c (bits (nth w 0) 0 16) (nth w 1) (bit (nth w 0) 16), none)
    else (s, none)

/-- Bytes that an extent of the write map moves to Hamper; a jitter-buffer advance moves none. -/
def extBytes (c : Chan) (x : Extent) : Nat := match x.kind with
  | 1 => 4 * x.len
  | 5 => 4 * (c.graph.tx.samples + 1)
  | _ => 0

/-- Writes the write map of a node from its window, in extent order; answers the edges of tokens owed at once. -/
def State.writeMap (s : State) (k : Nat) (e : Entry) : State × List Nat :=
  match s.chan e.chan, e.slot with
  | some c, some sl =>
    let s := s.portBytes e.cluster ((c.node e.node).wr.foldl (fun a x => a + extBytes c x) 0)
    (c.writePlan e.node).foldl (fun (acc : State × List Nat) p =>
      let w := (List.range p.2.2).map fun i => s.csmAt (k / 9) (s.slotWrite e.cluster sl + p.2.1 + i)
      let r := acc.1.writeExtent e.chan e.frame p.1 w
      (r.1, match r.2 with
        | some x => acc.2 ++ [x]
        | none => acc.2)) (s, [])
  | _, _ => (s, [])

/-! ## The end of an entry (R162-R169) -/

/-- Writes a node's completion record (R163). -/
def State.nodeRecord (s : State) (e : Entry) (core : Option Nat) (status err detail : Nat) (late : Bool) : State :=
  match e.kind, s.chan e.chan with
  | .node, some c =>
    let sr := match core with
      | some k => (s.core k).main.sr
      | none => 0
    let lg := match core with
      | some k => s.logical k
      | none => 0
    let w0 := status % 256 + err % 256 * 2 ^ 8 + b2n (srBit sr srLV) * 2 ^ 16 + b2n (srBit sr srGV) * 2 ^ 17
      + b2n (srBit sr srCBX) * 2 ^ 18 + b2n late * 2 ^ 19 + b2n e.isVoid * 2 ^ 20 + e.replays % 8 * 2 ^ 21 + lg % 128 * 2 ^ 24
    let s := s.setChan e.chan { c with ran := mput c.ran e.node (e.frame % 16384 + 1) }
    s.setBytes (c.ctx + c.areas.nodes + 128 * e.node) (wordsLe [w0, detail % 65536 + e.frame % 16384 * 2 ^ 16])
  | _, _ => s

/-- Takes the running entry from a core; its reservations go with it, and its time is counted as busy (R176). -/
def State.clearRun (s : State) (k : Nat) : State :=
  let c := s.core k
  s.setCore k { c with run := none, busyNs := c.busyNs + (s.elapsed - c.busyFrom) }

/-- Withdraws a PREEMPT that a core has not accepted (R169). -/
def State.withdraw (s : State) (k : Nat) : State :=
  let s := s.setCore k { s.core k with preReq := false }
  { s with th := { s.th with queues := s.th.queues.map fun q =>
    (q.1, q.2.map fun e => if e.preempt = some k then { e with preempt := none } else e) } }

/-- Completes the node cancels that waited for the end of an entry (R173). -/
def State.cancelsDone (s : State) (e : Entry) : State :=
  let hit (w : CancelWait) : Bool := e.kind = .node && w.chan = e.chan && w.node = e.node && w.frame = e.frame
  let l := s.th.cancels.filter hit
  let s := { s with th := { s.th with cancels := s.th.cancels.filter fun w => !hit w } }
  l.foldl (fun s w => (s.incS F.TH_CANCEL_CNT_CANCELS 1).complete w.origin 3 0 []) s

/-- Ends an entry whose cancel bit is set, or that a cancel discards (R132, R164, R173). The entry has left its core or
queue already. -/
def State.endCancelled (s : State) (e : Entry) (core : Option Nat) : State :=
  match e.kind with
  | .node =>
    let s := s.nodeRecord e core 3 0 0 false
    let s := s.cancelsDone e
    match s.chan e.chan with
    | some c => if c.tomb then s else (s.consumeVoid e.chan e.node e.frame).makeReady e.chan (c.targets e.node ++ [e.node])
    | none => s
  | .hostJob => (s.incS F.TH_CANCEL_CNT_CANCELS 1).endJob e.handle 3 0 []
  | .work => s

/-- Ends an entry with DATA_ERROR or FAULT: its input tokens are consumed and void tokens placed (R164, R167). -/
def State.endFailed (s : State) (e : Entry) (core : Option Nat) (status err detail : Nat) : State :=
  match e.kind with
  | .node =>
    let s := s.nodeRecord e core status err detail false
    match s.chan e.chan with
    | some c => if c.tomb then s else (s.consumeVoid e.chan e.node e.frame).makeReady e.chan (c.targets e.node ++ [e.node])
    | none => s
  | .hostJob => s.endJob e.handle status 0 []
  | .work => s

/-- The deadline of a frame in Compass ns: B_(f+1) (R37). -/
def Chan.deadline (c : Chan) (f : Nat) : Nat := c.nextB - (c.frames + 16384 - 1 - f % 16384) % 16384 * frameNs c.frame

/-- Compares a commit with the node's deadline (R165): lateness in ns. -/
def State.lateness (s : State) (e : Entry) : Nat :=
  match e.kind, s.chan e.chan with
  | .node, some c => s.nowNs - c.deadline e.frame
  | _, _ => 0

/-- Counts a deadline miss of the home cluster (R165). -/
def State.countMiss (s : State) (e : Entry) (late : Nat) : State :=
  if late = 0 then s
  else
    let s : State := { s with st := { s.st with missSeen := true } }
    let s := s.incS (F.TH_MISS_MISSES e.cluster) 1
    let s := s.setFld (F.TH_MISS_WORST_US e.cluster) (max (s.fld (F.TH_MISS_WORST_US e.cluster)) (min (late / 1000) 65535))
    let s := s.setFlag F.TH_EVENT_MISS true
    if s.flag F.TH_CTRL_MISS_EVT then s.event F.TH_EVENT_MISS .warn e.cluster e.chan e.node (late / 1000) else s

/-- The work entry of a request (R153, R160). -/
def workEntry (level cluster : Nat) (w1 w2 w3 : W24) : Entry :=
  { id := 0, kind := .work, chan := 0, node := 0, frame := 0, isVoid := false, level := level, cluster := cluster,
    since := 0, slot := none, ready := true, cancel := false, replays := 0, barred := [], handle := 0, w1 := w1, w2 := w2,
    w3 := w3, desc := [], crc := none, restage := false, jbMarked := [], preempt := none, asked := [] }

def ShChan.init : ShChan := ⟨0, 0, 0, none, false, 0, [], none, false⟩
def TwSlot.init : TwSlot := ⟨[], [], [], [], 0, 0, none, false, 0, [], 0, 0⟩
def State.twSlot (s : State) (i : Nat) : TwSlot := mget TwSlot.init s.tw.slot i
def State.setTwSlot (s : State) (i : Nat) (x : TwSlot) : State :=
  { s with tw := { s.tw with slot := mset TwSlot.init s.tw.slot i x } }

/-- The slot past SUSPECT (R427). -/
def State.actSlot (s : State) : Option Nat := firstBelow 4 fun i => decide (4 ≤ s.fld (F.TW_PRI_STAT_STATE i)) && decide (s.fld (F.TW_PRI_STAT_STATE i) ≤ 5)

/-- The highest SENT note of a channel that was taken over or has migrated in (R431, R434). -/
def State.sentNote (s : State) (n : Nat) : Option Nat :=
  match mfind s.tw.migIn n with
  | some m => m.note
  | none => s.actSlot.bind fun i => (mget ShChan.init (s.twSlot i).chans n).note

/-- An egress item of such a channel that is released as a SKIP (R431): at or below the highest SENT note, or of a frame whose
boundary lies before the cutoff. -/
def State.takeoverSkip (s : State) (n frame : Nat) (data : List Byte) : Bool :=
  let noted : Bool := match s.sentNote n with
    | some m => bit (data.getD 0 0).toNat 4 && decide ((m + 65536 - beNat (slice data 5 2) % 65536) % 65536 < 32768)
    | none => false
  let early : Bool := match s.actSlot, s.chan n with
    | some i, some c =>
      (match (s.twSlot i).cutoff with
       | some t => (mfind (s.twSlot i).chans n).isSome && decide (c.deadline frame - frameNs c.frame < t)
       | none => false)
    | _, _ => false
  noted || early

/-- The notes of a channel have served once an item lies above them. -/
def State.noteServed (s : State) (n : Nat) : State :=
  match mfind s.tw.migIn n with
  | some m => if m.resume.isSome then s else { s with tw := { s.tw with migIn := mdel s.tw.migIn n } }
  | none =>
    match s.actSlot with
    | none => s
    | some i =>
      let x := s.twSlot i
      match mfind x.chans n with
      | some h => if h.note.isSome then s.setTwSlot i { x with chans := mset ShChan.init x.chans n { h with note := none } } else s
      | none => s

/-- An item of a committed node (R171, R431). -/
def State.nodeItem (s : State) (k : Nat) (e : Entry) (f q : Nat) (sk : Bool) (a l d : Nat) : State :=
  let data := if sk then [] else s.itemData k a l
  if sk then s.commitItem f ⟨q, true, d, s.elapsed, []⟩
  else if f % 2 = 0 then
    (if s.takeoverSkip (f / 2) e.frame data then s.commitItem f ⟨q, true, d, s.elapsed, []⟩
     else (s.noteServed (f / 2)).commitItem f ⟨q, false, d, s.elapsed, data⟩)
  else s.commitItem f ⟨q, false, d, s.elapsed, data⟩

/-- The effects of a commit (R132, R148, R162, R199) after the entry has left its core: `res` its reservations, `owed` the
edges on which its write map owes a token. -/
def State.commitEffects (s : State) (k : Nat) (r : Running) (imm : Nat) (owed : List Nat) : State :=
  let e := r.e
  let late := s.lateness e
  let status := if e.replays = 0 then 0 else 1
  -- token data, then the removal of the inputs and the announced tokens, at one point (R148, R199)
  let toks := r.res.filterMap fun x => match x with
    | .token n ed a l _ => some (n, ed, s.tokenData k a l)
    | _ => none
  let s := match e.kind, s.chan e.chan with
    | .node, some c => s.setChan e.chan (c.consume e.node)
    | _, _ => s
  let s := toks.foldl (fun s t => s.placeToken t.1 t.2.1 e.frame false t.2.2) s
  let s := s.portBytes e.cluster (toks.foldl (fun a t => a + 4 * t.2.2.length) 0)
  let s := s.nodeRecord e (some k) status 0 imm (late ≠ 0)
  let s := if e.kind = .node ∧ imm % 256 = 1 then s.lanternCount e.chan 3 1 else s
  let s := s.countMiss e late
  let s := toks.foldl (fun s t => match s.chan t.1 with
    | some c => s.makeReady t.1 [(c.edgeSpec t.2.1).dst]
    | none => s) s
  let s := if e.kind = .node then s.makeReady e.chan [e.node] else s
  let s := r.res.foldl (fun s x => match x with
    | .item f q sk a l d => s.nodeItem k e f q sk a l d
    | .work l c w1 w2 w3 => s.pushEntry (workEntry l c w1 w2 w3)
    | _ => s) s
  let s := owed.foldl (fun s ed => match s.chan e.chan with
    | some c => s.sourceToken e.chan ed c.frameNo
    | none => s) s
  match e.kind with
  | .hostJob => s.endJob e.handle status 0 [imm % 65536]
  | _ => s

/-- The commit of the entry that a core runs (R132). -/
def State.commitRun (s : State) (k imm : Nat) : State :=
  match (s.core k).run with
  | none => s
  | some r =>
    let s := s.withdraw k
    if r.e.cancel then (s.clearRun k).endCancelled r.e (some k)
    else
      let m := s.writeMap k r.e
      (m.1.clearRun k).commitEffects k r imm m.2

/-- Clears OVT and the injection-independent traces of an aborted node on its core (R104). -/
def State.abortRun (s : State) (k : Nat) : State := (s.setCore k { s.core k with ovt := 0 }).clearRun k

/-- Ends the running entry of a core with a kernel error (R83, R101, R108): it is not replayed. -/
def State.kernelError (s : State) (k err pc : Nat) : State :=
  match (s.core k).run with
  | none => s
  | some r =>
    let e := r.e
    let s := s.abortRun k
    let s := s.raise .warn 0x30 e.chan 0x0301 e.chan e.node pc
    if e.cancel then s.endCancelled e (some k) else s.endFailed e (some k) 10 err pc

/-- An entry whose third replay was aborted (R167). -/
def State.nodeFault (s : State) (e : Entry) (core : Option Nat) : State :=
  let s := if e.kind = .node then s.raise .contained 0x30 e.chan 0x0300 e.chan e.node 0 else s
  s.endFailed e core 9 0 0

/-- Aborts the running entry of a core by a fault or a core reset, and queues its replay with the core barred (R166,
R167). `restage`: its read area was damaged (R442). -/
def State.faultAbort (s : State) (k : Nat) (restage : Bool) : State :=
  match (s.core k).run with
  | none => s
  | some r =>
    let e := r.e
    let s := s.abortRun k
    if e.cancel then s.endCancelled e (some k)
    else if e.replays ≥ 3 then s.nodeFault e (some k)
    else
      let again := restage && decide (e.kind = .node)
      let e := { e with replays := e.replays + 1, barred := k :: e.barred.filter (· ≠ k), preempt := none, asked := [] }
      let e := { e with restage := again, ready := !again }
      (s.incS F.TH_REPLAY_CNT_REPLAYS 1).pushEntry e

/-- Aborts the running entry of a core without a replay: a cluster reset (R178). It returns to the head of its level. -/
def State.resetAbort (s : State) (k : Nat) : State :=
  match (s.core k).run with
  | none => s
  | some r =>
    let s := s.abortRun k
    if r.e.cancel then s.endCancelled r.e (some k) else s.returnEntry { r.e with preempt := none }

/-! ## Bars and preemption (R159, R167-R169, R445) -/

/-- In-service cores of a cluster, mapped ones. -/
def State.servingCores (s : State) (c : Nat) : List Nat := (coresOf c).filter s.inService

/-- A core to which an entry may go (R159, R161). -/
def State.eligible (s : State) (k : Nat) (e : Entry) : Bool := s.inService k && !s.th.stopped.contains k && !e.barred.contains k

/-- The eligible core of a cluster blocked in WAIT.WORK for the longest time; the lowest core among equals. -/
def State.longestBlocked (s : State) (c : Nat) (e : Entry) : Option Nat :=
  ((coresOf c).filter fun k => s.eligible k e && (s.core k).waiting).foldl (fun acc k =>
    match acc with
    | none => some k
    | some b => if (s.core k).waitSince < (s.core b).waitSince then some k else acc) none

/-- Lifts the bars of a replay entry for which every in-service core is barred (R445). -/
def State.unbar (s : State) (c : Nat) : State :=
  match s.queueAt (8 * c) with
  | [] => s
  | e :: _ =>
    if e.ready ∧ s.servingCores c ≠ [] ∧ (s.servingCores c).all (e.barred.contains ·) then
      (s.updEntry { e with barred := [] }).raise .warn 0x20 c 0x0213 c e.chan 0
    else s

/-- The core to which PREEMPT is raised (R168): the highest-numbered level, then the latest dispatch, then the lowest
logical core. -/
def State.preemptTarget (s : State) (c : Nat) (e : Entry) : Option Nat :=
  let lo := s.fld F.TH_CTRL_PREEMPT_MIN
  let cand := (coresOf c).filterMap fun k =>
    match (s.core k).run with
    | some r => if s.eligible k e && lo ≤ r.e.qlevel && !e.asked.contains k then some (k, r) else none
    | none => none
  (cand.foldl (fun (acc : Option (Nat × Running)) x =>
    match acc with
    | none => some x
    | some b =>
      if x.2.e.qlevel > b.2.e.qlevel ∨ (x.2.e.qlevel = b.2.e.qlevel ∧ (x.2.order > b.2.order
          ∨ (x.2.order = b.2.order ∧ s.logical x.1 < s.logical b.1))) then some x else acc) none).map (·.1)

/-- Raises PREEMPT for the level-0 entry at the head of a cluster when no eligible core is blocked (R168). -/
def State.preemptScan (s : State) (c : Nat) : State :=
  let s := s.unbar c
  match s.queueAt (8 * c) with
  | [] => s
  | e :: _ =>
    if e.ready ∧ e.preempt = none ∧ s.flag F.TH_CTRL_PREEMPT_EN ∧ s.longestBlocked c e = none then
      match s.preemptTarget c e with
      | some k =>
        (s.setCore k { s.core k with preReq := true }).updEntry { e with preempt := some k, asked := k :: e.asked }
      | none => s
    else s

end Sys2Proof.Machine
end

