-- ==== Sys2Proof/Machine/AdmOps.lean ====
section
/-! DEFINITION. Admission (R30-R33, R42, R43, R232, R233) and what the supervisor computes (R55). Units are half units. -/
namespace Sys2Proof.Machine

/-- Committed units of all open channels (R30). -/
def State.committed (s : State) : Nat := s.chans.foldl (fun acc c => acc + c.2.units) 0
/-- Committed units of the channels homed in a cluster: C_c (R55). -/
def State.committedIn (s : State) (c : Nat) : Nat := s.chans.foldl (fun acc x => if x.2.home = c then acc + x.2.units else acc) 0

/-- A cluster counts in the budget and in R33's choice: in service, and not in a FW_EXCHANGE step (R451, R485). -/
def State.clusterCounts (s : State) (c : Nat) : Bool :=
  s.clusterIn c && (let st := s.fld (F.PW_CL_STATE c); st ≠ 0 && st ≠ 4 && st ≠ 5 && st ≠ 6)

/-- Active cores that the budget counts. -/
def State.budgetCores (s : State) : Nat :=
  ((List.range s.clusters).filter s.clusterCounts).foldl (fun acc c => acc + s.active c) 0

/-- Clusters with n_c above 0: those that the comparisons take (R55, R232). -/
def State.speedClusters (s : State) : List Nat := (List.range s.clusters).filter fun c => s.clusterIn c && s.active c ≠ 0

/-- The lowest ST_SPEED of the last window, in units of 1/16 instr/µs. -/
def State.lowestSpeed (s : State) : Nat :=
  match (s.speedClusters.map fun c => s.fld (F.ST_SPEED_SPEED c)) with
  | [] => 0
  | v :: r => r.foldl min v

/-- The floor admissible budget: 137.5 units a core less the reserve (R42). -/
def State.floorBudget (s : State) : Nat := s.budgetCores * 275 - s.reserve

/-- The measured budget (R232), rounded down to a half unit before the reserve is taken. -/
def State.measuredBudget (s : State) : Nat :=
  match s.st.minima.take s.st.hold with
  | [] => 0
  | v :: r => s.budgetCores * (r.foldl min v) * (256 - s.st.margin) * 2 / (256 * 8 * 16) - s.reserve

/-- The reduced budget of R61. -/
def State.reducedBudget (s : State) : Nat := s.budgetCores * 275 * s.lowestSpeed / (16 * 1100) - s.reserve

/-- The admissible budget in half units (R42, R61, R232). -/
def State.budget (s : State) : Nat :=
  if s.flag F.ST_STATUS_BELOW_FLOOR then min s.floorBudget s.reducedBudget
  else if s.st.measured ∧ s.flag F.ST_STATUS_REF_LOST = false ∧ s.flag F.ST_STATUS_AVS_FAULT = false then
    max s.measuredBudget s.floorBudget
  else s.floorBudget

/-- Raises one WARN event for each crossing of the budget below the committed units (R43, R233). -/
def State.budgetCheck (s : State) : State :=
  let ahead := decide (s.committed > s.budget)
  if ahead = s.st.excess then s
  else
    let s : State := { s with st := { s.st with excess := ahead } }
    if ahead then s.raise .warn 0x00 0 0x0180 s.committed s.budget 0 else s

/-- The home cluster that the basic rule chooses (R33). -/
def State.homeChoice (s : State) : Option Nat :=
  ((List.range s.clusters).filter s.clusterCounts).foldl (fun acc c =>
    match acc with
    | none => some c
    | some b => if s.committedIn c < s.committedIn b then some c else acc) none

/-! ## Demands of the supervisor (R55) -/

/-- A non-negative rational number. -/
structure Frac where
  num : Nat
  den : Nat
deriving DecidableEq, Repr

def Frac.lt (a b : Frac) : Bool := a.num * b.den < b.num * a.den
def Frac.max (a b : Frac) : Frac := if a.lt b then b else a

/-- The sum of the busy fractions of a cluster's active cores, in 1/1024. -/
def State.busySum (s : State) (c : Nat) : Nat :=
  ((coresOf c).filter s.mapped).foldl (fun acc k => acc + mget 0 s.th.busy (s.logical k)) 0

/-- n_c as the supervisor takes it: in DOZE the ungated core alone (R475). -/
def State.supCores (s : State) (c : Nat) : Nat := if s.mode = 8 then min 1 (s.active c) else s.active c

/-- floor_c in units of 1/16 instr/µs. -/
def State.floorDemand (s : State) (c : Nat) : Frac := ⟨(s.committedIn c + 152) * 64, s.supCores c⟩

/-- load_c. -/
def State.loadDemand (s : State) (c : Nat) : Frac :=
  ⟨s.busySum c * s.fld (F.ST_SPEED_SPEED c), 4 * s.fld F.ST_TARGET_UTIL_TARGET * s.supCores c⟩

/-- need_c. -/
def State.needOf (s : State) (c : Nat) : Frac :=
  let m := (s.floorDemand c).max (s.loadDemand c)
  ⟨m.num * (256 + s.fld F.ST_TARGET_GUARD), m.den * 256⟩

/-- M_c. -/
def State.speedOf (s : State) (c : Nat) : Frac := ⟨s.fld (F.ST_SPEED_SPEED c), 1⟩

end Sys2Proof.Machine
end

