-- ==== Sys2Proof/Machine/Operands.lean ====
section
/-! DEFINITION. The operand forms of the Dziul instructions: register codes (R109, R119), effective addresses
(R90-R93), the memory spaces (R80-R83), and what a consumer inside a window sees (R121). -/
namespace Sys2Proof.Machine

/-- Why an instruction cannot run: illegal (R108), an address error (R82), a return-stack error (R101). -/
inductive DErr where
  | illegal | address | stack
deriving DecidableEq, Repr

/-- What an instruction works on: the core as it stood before the instruction, the core as the instruction leaves it,
the CSM, the cluster, the CSM store window of the running entry (R82), and whether XM was read or lane 0 multiplied
(R107). -/
structure Ctx where
  c0 : Core
  c : Core
  csm : SMap W32
  cl : Nat
  winLo : Nat
  winLen : Nat
  xmRead : Bool
  mul0 : Bool
deriving DecidableEq, Repr

/-! ## Register codes (R109) -/

def rcX (n : Nat) : Nat := n
def rcY (n : Nat) : Nat := 8 + n
def rcA (n : Nat) : Nat := 0x10 + n
def rcP (n : Nat) : Nat := 0x30 + n
def rcM (n : Nat) : Nat := 0x38 + n
def rcB (n : Nat) : Nat := 0x40 + n
def rcL (n : Nat) : Nat := 0x48 + n

/-- A code that names a register (R109). -/
def rcValid (r : Nat) : Bool := r < 0x55
/-- The 24-bit class (R109). -/
def rc24 (r : Nat) : Bool := r < 0x10 || (0x18 ≤ r && r < 0x28) || (0x30 ≤ r && r < 0x50) || r = 0x51
def rcIsA (r : Nat) : Bool := 0x10 ≤ r && r < 0x18
/-- A part of an accumulator: AH, AL or AG. -/
def rcIsPart (r : Nat) : Bool := 0x18 ≤ r && r < 0x30
/-- An X or Y register. -/
def rcXY (r : Nat) : Bool := r < 0x10
/-- P, M, B or L: the registers that form addresses. -/
def rcIsPtr (r : Nat) : Bool := 0x30 ≤ r && r < 0x50

/-- The register whose window a code belongs to: parts belong to their accumulator. -/
def rcHome (r : Nat) : Nat := if rcIsPart r then 0x10 + r % 8 else r

/-- The newest value of a whole register (accumulators 56 bits). -/
def Core.newest (c : Core) (r : Nat) : Nat :=
  if rcIsA r then (mget 0 c.bank.a (r - 0x10)).toNat
  else if 0x40 ≤ r ∧ r < 0x50 then (mget 0 c.bl r).toNat
  else if r = 0x50 then c.sr.toNat
  else if r = 0x51 then c.bank.lc.toNat
  else if r = 0x52 then c.bank.ls.toNat
  else if r = 0x53 then c.bank.le.toNat
  else if r = 0x54 then c.ovt.toNat
  else (mget 0 c.bank.r r).toNat

/-- The value a consumer sees: the newest producer that does not hide its result stands (R121). -/
def seenFrom (hide : Hz → Bool) (code : Nat) : List Hz → Nat → Nat
  | [], cur => cur
  | e :: r, cur => if e.code ≠ code then seenFrom hide code r cur else if hide e then seenFrom hide code r e.old else cur

/-- Any read (R121, row LD). -/
def hideRead (e : Hz) : Bool := e.cls = .load && e.age = 1
/-- A store, MOV, part read or PM store. -/
def hideMove (e : Hz) : Bool := (e.cls = .load || e.cls = .arith) && e.age = 1
/-- An address formed through a pointer. -/
def hideAddr (e : Hz) : Bool := ((e.cls = .load || e.cls = .ptr) && e.age = 1) || (e.cls = .ptrAcc && (e.age = 1 || e.age = 2))
/-- A use of the SR settings. -/
def hideSetting (e : Hz) : Bool := e.cls = .setting && e.age = 1
/-- The loop-end test. -/
def hideLoop (e : Hz) : Bool := e.cls = .loopCount && e.age = 1
/-- Instruction fetch from CM. -/
def hideFetch (e : Hz) : Bool := e.cls = .fetch && (e.age = 1 || e.age = 2)

def Core.seen (c : Core) (hide : Hz → Bool) (r : Nat) : Nat := seenFrom hide r c.win (c.newest r)

/-- SR as an instruction that uses its settings sees it. -/
def Core.settings (c : Core) : W24 := BitVec.ofNat 24 (c.seen hideSetting 0x50)

/-- A part of an accumulator value (R72). -/
def accPart (a r : Nat) : Nat :=
  if r < 0x20 then bits a 24 24 else if r < 0x28 then bits a 0 24 else unsgn 24 (sgn 8 (bits a 48 8))

/-- A register read as a value: 56 bits for a whole accumulator, 24 otherwise. `mv`: the read is a store, MOV or the
like, which the window of an arithmetic result hides; a part read always is (R121). -/
def Core.rd (c : Core) (mv : Bool) (r : Nat) : Nat :=
  if rcIsPart r then accPart (c.seen hideMove (rcHome r)) r
  else c.seen (if mv then hideMove else hideRead) r

/-- An accumulator written from a 24-bit value (R72). -/
def accFrom24 (v : Nat) : Nat := unsgn 56 (sgn 24 v * 2 ^ 24)

/-- Writes a register with no window. -/
def Core.put (c : Core) (r v : Nat) : Core :=
  let b := c.bank
  if rcIsA r then c.setBank { b with a := mset 0 b.a (r - 0x10) (BitVec.ofNat 56 v) }
  else if rcIsPart r then
    let n := r % 8
    let a := (mget 0 b.a n).toNat
    let a' := if r < 0x20 then setBits a 24 24 v else if r < 0x28 then setBits a 0 24 v else setBits a 48 8 v
    c.setBank { b with a := mset 0 b.a n (BitVec.ofNat 56 a') }
  else if 0x40 ≤ r ∧ r < 0x50 then { c with bl := mset 0 c.bl r (BitVec.ofNat 24 v) }
  else if r = 0x50 then c.setSr (srWrite b.sr v)
  else if r = 0x51 then c.setBank { b with lc := BitVec.ofNat 24 v }
  else if r = 0x52 then c.setBank { b with ls := BitVec.ofNat 15 (v / 2 * 2) }
  else if r = 0x53 then c.setBank { b with le := BitVec.ofNat 15 (v / 2 * 2) }
  else if r = 0x54 then { c with ovt := BitVec.ofNat 24 v }
  else c.setBank { b with r := mset 0 b.r r (BitVec.ofNat 24 v) }

/-- Records a result in the window (R121). -/
def Core.note (c : Core) (r : Nat) (cls : HzClass) : Core := { c with win := ⟨rcHome r, c.newest (rcHome r), 0, cls⟩ :: c.win }

/-- Writes a register, its old value standing for the consumers inside its window. -/
def Core.wr (c : Core) (r v : Nat) (cls : HzClass) : Core := (c.note r cls).put r v

/-- The class of a MOV, MOVI or ALU result by its destination and whether its source is an accumulator or a part. -/
def moveClass (c : Core) (d : Nat) (fromAcc : Bool) : HzClass :=
  if rcIsPtr d then (if fromAcc then .ptrAcc else .ptr)
  else if d = 0x50 then .setting
  else if d = 0x51 ∧ srBit c.sr srLA then .loopCount
  else .free

/-- The value that a destination takes from a source (R119), and whether the transfer saturated. `src` is the source's
code, `v` its value. -/
def convert (c : Core) (d src v : Nat) : Nat × Bool :=
  if rcIsA d then (if rcIsA src then v else accFrom24 v, false)
  else if rcIsA src then
    if 0x28 ≤ d ∧ d < 0x30 then (bits v 0 8, false)
    else if d = 0x52 ∨ d = 0x53 then (bits v 0 15, false)
    else if d = 0x50 ∨ d = 0x54 then (bits v 0 24, false)
    else store24 (srBit c.settings srIM) (srRND c.settings) v
  else (v % 2 ^ 24, false)

/-- Sets SR.LV when a store saturated (R78). -/
def Core.stickLV (c : Core) (b : Bool) : Core := if b then c.setSr (srSet c.sr srLV true) else c

/-- Sets SR.GV when an accumulator clamped, and makes a GV trap pending while GVT = 1, up to three (R77, R139). -/
def Core.stickGV (c c0 : Core) (b : Bool) : Core :=
  if b then
    let c := c.setSr (srSet c.sr srGV true)
    if srBit c0.settings srGVT then
      if c.gvReq < 3 then { c with gvReq := c.gvReq + 1 } else { c with gvtSat := true }
    else c
  else c

/-! ## Effective addresses (R90-R93) -/

/-- The words an access reaches, the pointer afterwards, and whether an offset was folded. -/
structure EaOut where
  words : List Nat
  upd : Option Nat
  cbx : Bool
deriving DecidableEq, Repr

/-- The addresses of an access of `w` words through the six-bit field `ea`. -/
def Core.ea (c : Core) (ea w : Nat) : EaOut :=
  let mode := ea / 8 % 8
  let n := ea % 8
  let p := c.seen hideAddr (rcP n)
  let m := sgn 24 (c.seen hideAddr (rcM n))
  let b := c.seen hideAddr (rcB n)
  let l := c.seen hideAddr (rcL n)
  let lin (a : Int) : List Nat := (List.range w).map fun (j : Nat) => unsgn 24 (a + (j : Int))
  if l = 0 ∨ mode = 0 ∨ mode = 7 then
    let pi : Int := (p : Nat)
    let wi : Int := (w : Nat)
    match mode with
    | 0 => ⟨lin pi, none, false⟩
    | 1 => ⟨lin pi, some (unsgn 24 (pi + wi)), false⟩
    | 2 => ⟨lin pi, some (unsgn 24 (pi - wi)), false⟩
    | 3 => ⟨lin pi, some (unsgn 24 (pi + m)), false⟩
    | 4 => ⟨lin pi, some (unsgn 24 (pi - m)), false⟩
    | 5 => ⟨lin (pi + m), none, false⟩
    | 6 => ⟨lin (pi - wi), some (unsgn 24 (pi - wi)), false⟩
    | _ => ⟨lin pi, some (rev24 ((rev24 p + rev24 (unsgn 24 m)) % 2 ^ 24)), false⟩
  else
    let li : Int := (l : Nat)
    let wi : Int := (w : Nat)
    let off0 : Int := (p : Int) - (b : Int)
    let out := decide (off0 < 0) || decide (off0 ≥ li)
    let off := if out then off0 % li else off0
    let first : Int := if mode = 5 then off + m else if mode = 6 then off - wi else off
    let nxt : Option Int :=
      match mode with
      | 1 => some (off + wi)
      | 2 => some (off - wi)
      | 3 => some (off + m)
      | 4 => some (off - m)
      | 6 => some (off - wi)
      | _ => none
    ⟨(List.range w).map (fun (j : Nat) => unsgn 24 ((b : Int) + (first + (j : Int)) % li)),
      nxt.map (fun (x : Int) => unsgn 24 ((b : Int) + x % li)), out⟩

/-- Does the field write its pointer back? -/
def eaWrites (ea : Nat) : Bool := !(ea / 8 % 8 = 0 || ea / 8 % 8 = 5)

/-- Two fields that name one pointer, one of them written back, are illegal (R117). -/
def eaClash (a b : Nat) : Bool := a % 8 = b % 8 && (eaWrites a || eaWrites b)

/-- The pointer write-back of an access, written last (R94, R123), and the CBX flag (R91). -/
def Core.eaFinish (c : Core) (ea : Nat) (o : EaOut) : Core :=
  let c := if o.cbx then c.setSr (srSet c.sr srCBX true) else c
  match o.upd with
  | some p => c.wr (rcP (ea % 8)) p .free
  | none => c

/-! ## Memory spaces (R80-R82) -/

/-- A space: 0 X, 1 Y, 2 C (R110). -/
def Ctx.load1 (x : Ctx) (sp a : Nat) : Except DErr Nat :=
  if sp = 2 then (if a < 0x8000 then .ok (mget 0 x.c0.cm a).toNat else .error .address)
  else if a < 0x4000 then .ok (if sp = 0 then (mget 0 x.c0.xm a).toNat else (mget 0 x.c0.ym a).toNat)
  else if inCsm a then .ok (bits (csmGet x.csm x.cl (a - csmBase)).toNat 0 24)
  else .error .address

/-- The words of an access; one word out of range makes the whole access an address error (R82). -/
def Ctx.loads (x : Ctx) (sp : Nat) : List Nat → Except DErr (List Nat)
  | [] => .ok []
  | a :: r => (x.load1 sp a).bind fun v => (x.loads sp r).map (v :: ·)

/-- May the word be stored to (R82)? -/
def Ctx.storable (x : Ctx) (sp a : Nat) : Bool :=
  if sp = 2 then a < 0x8000
  else a < 0x4000 || (inCsm a && x.winLo ≤ a && a < x.winLo + x.winLen)

/-- Stores one word that may be stored. A store to CM is noted for instruction fetch (R89). -/
def Ctx.store1 (x : Ctx) (sp a v : Nat) : Ctx :=
  let w := BitVec.ofNat 24 v
  if sp = 2 then
    let c := { x.c with win := ⟨0x10000 + a, (mget 0 x.c.cm a).toNat, 0, .fetch⟩ :: x.c.win, cm := mset 0 x.c.cm a w }
    { x with c := c }
  else if a < 0x4000 then
    if sp = 0 then { x with c := { x.c with xm := mset 0 x.c.xm a w } } else { x with c := { x.c with ym := mset 0 x.c.ym a w } }
  else { x with csm := csmSet x.csm x.cl (a - csmBase) (csmExtend v) }

/-- Stores words in order, when every one may be stored. -/
def Ctx.stores (x : Ctx) (sp : Nat) (l : List (Nat × Nat)) : Except DErr Ctx :=
  if l.all fun e => x.storable sp e.1 then .ok (l.foldl (fun x e => x.store1 sp e.1 e.2) x) else .error .address

/-- Notes that XM was read, for an injected parity fault (R107). -/
def Ctx.noteXm (x : Ctx) (sp : Nat) (l : List Nat) : Ctx :=
  if sp = 0 ∧ l.any (· < 0x4000) then { x with xmRead := true } else x

/-! ## Instruction fields (R110) -/

/-- Bits [hi:lo] of the 40-bit format field. -/
def fbits (f : BitVec 40) (hi lo : Nat) : Nat := bits f.toNat lo (hi + 1 - lo)

/-- Illegal unless a condition holds. -/
def legal (b : Bool) : Except DErr Unit := if b then .ok () else .error .illegal

end Sys2Proof.Machine
end

