-- ==== Sys2Proof/Machine/Arith.lean ====
section
/-! DEFINITION. What the arithmetic and move instructions of a Dziul core do to the core (R112-R120). Each takes the
40 format bits and the context, and answers the new context or why the instruction cannot run. -/
namespace Sys2Proof.Machine

/-! ## Quad operations (R114-R117) -/

/-- The operand sources of a format Q word (R110). -/
structure QFields where
  aq : Nat
  s1 : Nat
  s2 : Nat
  yb : Nat
  pm : Nat
  pq : Nat
  eax : Nat
  eay : Nat
  eac : Nat
deriving DecidableEq, Repr

def qFields (f : BitVec 40) : QFields :=
  ⟨fbits f 39 39, fbits f 38 37, fbits f 36 35, fbits f 34 32, fbits f 31 29, fbits f 28 28, fbits f 27 22, fbits f 21 16,
    fbits f 15 10⟩

/-- The checks of a format Q word (R108, R114-R117): unused bits and fields are zero, no reserved PM, no clash of
pointers. `tap`: FTAP or FTAPX; `ex`: FTAPX. -/
def qLegal (f : BitVec 40) (tap ex : Bool) : Bool :=
  let q := qFields f
  let useX := q.s1 = 2 || (!tap && q.pm = 2)
  let useY := q.s1 = 3 || q.pm = 1 || (!tap && q.pm = 3)
  let useC := q.s2 = 2
  fbits f 9 0 = 0
  && (if tap then q.s1 = 2 && q.s2 = 2 && q.pm ≤ 1 else q.pm ≤ 3)
  && (tap || !((q.pm = 1 || q.pm = 3) && q.s1 = 3))
  && (tap || !(q.pm = 2 && q.s1 = 2))
  && (q.yb = 0 || q.s2 = 3 || ex)
  && (q.pq = 0 || (!tap && q.pm ≠ 0))
  && (useX || q.eax = 0) && (useY || q.eay = 0) && (useC || q.eac = 0)
  && !(useX && useY && eaClash q.eax q.eay) && !(useX && useC && eaClash q.eax q.eac)
  && !(useY && useC && eaClash q.eay q.eac)

/-- The three kinds of lane arithmetic. -/
inductive LaneOp where
  | mpy | mac | msu
deriving DecidableEq, Repr

/-- One lane of R114: the new accumulator, whether it clamped, the carry. -/
def lane (op : LaneOp) (im : Bool) (a x y : Nat) : AccOut :=
  match op with
  | .mpy => ⟨unsgn 56 (product im x y), false, false⟩
  | .mac => accumulate a (product im x y)
  | .msu => accumulate a (-(product im x y))

/-- Writes the results of the four lanes and sets the flags: V when any lane clamped, the others from lane 0 (R77, R114). -/
def quadWrite (x : Ctx) (aq : Nat) (o : List AccOut) : Ctx :=
  let c := (List.range 4).foldl (fun (c : Core) j => c.wr (rcA (4 * aq + j)) (o.getD j ⟨0, false, false⟩).val .arith) x.c
  let l0 := o.getD 0 ⟨0, false, false⟩
  let any := o.any (·.clamp)
  let c := c.setSr (srAcc c.sr l0.carry any (accInt l0.val))
  { x with c := c.stickGV x.c0 any, mul0 := true }

/-- The accumulator stores of PM = 3 (R115, R78). -/
def quadStoreWords (c0 : Core) (pq : Nat) : List (Nat × Bool) :=
  (List.range 4).map fun j =>
    store24 (srBit c0.settings srIM) (srRND c0.settings) (c0.seen hideMove (rcA (4 * pq + j)))

/-- MPYQ, MACQ and MSUQ (R114, R115). -/
def quadBody (op : LaneOp) (f : BitVec 40) (x : Ctx) : Except DErr Ctx := do
  legal (qLegal f false false)
  let q := qFields f
  let c0 := x.c0
  let im := srBit c0.settings srIM
  let ex := c0.ea q.eax 4
  let ey := c0.ea q.eay 4
  let ec := c0.ea q.eac 4
  let xs ← (if q.s1 = 2 then x.loads 0 ex.words else if q.s1 = 3 then x.loads 1 ey.words
    else .ok ((List.range 4).map fun j => c0.rd false (rcX (4 * q.s1 + j))))
  let ys ← (if q.s2 = 2 then x.loads 2 ec.words else if q.s2 = 3 then .ok (List.replicate 4 (c0.rd false (rcY q.yb)))
    else .ok ((List.range 4).map fun j => c0.rd false (rcY (4 * q.s2 + j))))
  let pl ← (if q.pm = 1 then x.loads 1 ey.words else if q.pm = 2 then x.loads 0 ex.words else .ok [])
  let o := (List.range 4).map fun j => lane op im (c0.rd false (rcA (4 * q.aq + j))) (nth xs j) (nth ys j)
  let st := quadStoreWords c0 q.pq
  let x1 ← (if q.pm = 3 then x.stores 1 (ey.words.zip (st.map (·.1))) else .ok x)
  let x2 := quadWrite x1 q.aq o
  let x2 := if q.s1 = 2 ∨ q.pm = 2 then x2.noteXm 0 ex.words else x2
  let c := x2.c
  let c := if q.pm = 3 then c.stickLV (st.any (·.2)) else c
  let c := if q.pm = 1 then (List.range 4).foldl (fun (c : Core) j => c.wr (rcY (4 * q.pq + j)) (nth pl j) .load) c else c
  let c := if q.pm = 2 then (List.range 4).foldl (fun (c : Core) j => c.wr (rcX (4 * q.pq + j)) (nth pl j) .load) c else c
  let c := if q.s1 = 2 ∨ q.pm = 2 then c.eaFinish q.eax ex else c
  let c := if q.s1 = 3 ∨ q.pm = 1 ∨ q.pm = 3 then c.eaFinish q.eay ey else c
  let c := if q.s2 = 2 then c.eaFinish q.eac ec else c
  return { x2 with c := c }

/-- FTAP and FTAPX (R116). -/
def tapBody (expo : Bool) (f : BitVec 40) (x : Ctx) : Except DErr Ctx := do
  legal (qLegal f true expo)
  let q := qFields f
  let c0 := x.c0
  let im := srBit c0.settings srIM
  let ex := c0.ea q.eax 4
  let ey := c0.ea q.eay 4
  let ec := c0.ea q.eac 4
  let xs ← x.loads 0 ex.words
  let cs ← x.loads 2 ec.words
  let o := (List.range 4).map fun j => lane .mac im (c0.rd false (rcA (4 * q.aq + j))) (nth xs j) (nth cs j)
  let x1 ← (if q.pm = 1 then x.stores 1 (ey.words.zip xs) else .ok x)
  let x2 := (quadWrite x1 q.aq o).noteXm 0 ex.words
  let c := x2.c
  let c := if expo then
      let y := sgn 24 (c0.rd false (rcY q.yb))
      let m := xs.foldl (fun (acc : Int) v => if (rsb 24 v : Int) < acc then (rsb 24 v : Int) else acc) y
      c.wr (rcY q.yb) (unsgn 24 m) .arith
    else c
  let c := c.eaFinish q.eax ex
  let c := if q.pm = 1 then c.eaFinish q.eay ey else c
  let c := c.eaFinish q.eac ec
  return { x2 with c := c }

/-! ## Scalar accumulator arithmetic (R118) -/

def sD (f : BitVec 40) : Nat := fbits f 39 33
def sS (f : BitVec 40) : Nat := fbits f 32 26
def sT (f : BitVec 40) : Nat := fbits f 25 19
def sSH (f : BitVec 40) : Nat := fbits f 18 12

/-- Format S with bits [11:0] zero, and zero in each field that the instruction does not use (R108). -/
def sUnused (f : BitVec 40) (d s t sh : Bool) : Bool :=
  fbits f 11 0 = 0 && (d || sD f = 0) && (s || sS f = 0) && (t || sT f = 0) && (sh || sSH f = 0)

/-- Writes a scalar accumulator result with its flags. -/
def accWrite (x : Ctx) (d : Nat) (o : AccOut) (mul : Bool) : Ctx :=
  let c := x.c.wr d o.val .arith
  let c := c.setSr (srAcc c.sr o.carry o.clamp (accInt o.val))
  { x with c := c.stickGV x.c0 o.clamp, mul0 := x.mul0 || mul }

/-- MPY, MAC and MSU: one lane with scalar operands (R118). -/
def scalarBody (op : LaneOp) (f : BitVec 40) (x : Ctx) : Except DErr Ctx := do
  legal (sUnused f true true true false && rcIsA (sD f) && rcXY (sS f) && rcXY (sT f))
  let c0 := x.c0
  let im := srBit c0.settings srIM
  return accWrite x (sD f) (lane op im (c0.rd false (sD f)) (c0.rd false (sS f)) (c0.rd false (sT f))) true

/-- ADDA and SUBA (R118). -/
def addaBody (sub : Bool) (f : BitVec 40) (x : Ctx) : Except DErr Ctx := do
  legal (sUnused f true true false false && rcIsA (sD f) && rcIsA (sS f))
  let v := accInt (x.c0.rd false (sS f))
  return accWrite x (sD f) (accumulate (x.c0.rd false (sD f)) (if sub then -v else v)) false

/-- NEGA and ABSA: accumulate(0, −Ad) and accumulate(0, |Ad|) (R118). -/
def negaBody (abs : Bool) (f : BitVec 40) (x : Ctx) : Except DErr Ctx := do
  legal (sUnused f true false false false && rcIsA (sD f))
  let v := accInt (x.c0.rd false (sD f))
  return accWrite x (sD f) (accumulate 0 (if abs then (v.natAbs : Int) else -v)) false

/-- CLRA and CLRQ: the named accumulators become zero; C, V, N, E := 0, Z := 1 (R112). -/
def clrBody (quad : Bool) (f : BitVec 40) (x : Ctx) : Except DErr Ctx := do
  legal (sUnused f true false false false && rcIsA (sD f) && (!quad || sD f % 4 = 0))
  let regs := if quad then (List.range 4).map (sD f + ·) else [sD f]
  let c := regs.foldl (fun (c : Core) r => c.wr r 0 .arith) x.c
  return { x with c := c.setSr (srAcc c.sr false false 0) }

/-- ASHA (R118): a left shift is exact and clamps, a right shift floors. DEDUCED: C is the carry out of bit 55 of the
last doubling of a left shift, 0 for a right shift. -/
def ashaBody (f : BitVec 40) (x : Ctx) : Except DErr Ctx := do
  let sh := sgn 7 (sSH f)
  legal (sUnused f true false false true && rcIsA (sD f) && decide (sh ≥ -56) && decide (sh ≤ 56))
  let a := x.c0.rd false (sD f)
  let o : AccOut :=
    if sh > 0 then
      let r := clamp56 (accInt a * (2 ^ sh.toNat : Nat))
      ⟨r.1, r.2, bit a (56 - sh.toNat)⟩
    else ⟨unsgn 56 (accInt a / (2 ^ (-sh).toNat : Nat)), false, false⟩
  return accWrite x (sD f) o false

/-- CMPA: the flags of the exact difference; nothing is written and GV is not set (R118). -/
def cmpaBody (f : BitVec 40) (x : Ctx) : Except DErr Ctx := do
  legal (sUnused f true true false false && rcIsA (sD f) && rcIsA (sS f))
  let a := x.c0.rd false (sD f)
  let b := accInt (x.c0.rd false (sS f))
  let o := accumulate a (-b)
  return { x with c := x.c.setSr (srAcc x.c.sr o.carry o.clamp (accInt a - b)) }

/-- EXP (R118). DEDUCED: d is of the 24-bit class, s a whole accumulator or of the 24-bit class. -/
def expBody (f : BitVec 40) (x : Ctx) : Except DErr Ctx := do
  legal (sUnused f true true false false && rc24 (sD f) && (rcIsA (sS f) || rc24 (sS f)))
  let v := x.c0.rd false (sS f)
  let e : Int := if rcIsA (sS f) then (rsb 56 v : Int) - 8 else (rsb 24 v : Int)
  return { x with c := x.c.wr (sD f) (unsgn 24 e) .arith }

/-- NORM (R118): D names Ad, S names d. DEDUCED: d is of the 24-bit class and no part of Ad (R123). -/
def normBody (f : BitVec 40) (x : Ctx) : Except DErr Ctx := do
  legal (sUnused f true true false false && rcIsA (sD f) && rc24 (sS f) && rcHome (sS f) ≠ sD f)
  let a := accInt (x.c0.rd false (sD f))
  let e : Int := (rsb 56 (x.c0.rd false (sD f)) : Int) - 8
  let v : Int := if e ≥ 0 then a * (2 ^ e.toNat : Nat) else a / (2 ^ (-e).toNat : Nat)
  let c := (x.c.wr (sD f) (unsgn 56 v) .arith).wr (sS f) (unsgn 24 e) .arith
  let sr := c.sr
  let sr := srSet (srSet (srSet (srSet sr srV false) srZ (decide (v = 0))) srN (decide (v < 0))) srE (outOfFrac v)
  return { x with c := c.setSr sr }

/-! ## 24-bit arithmetic (R112) -/

/-- The operations of opcodes 0x38-0x3C. -/
inductive AluOp where
  | add | sub | and | or | xor
deriving DecidableEq, Repr

def aluVal (op : AluOp) (a b : Nat) : Nat :=
  match op with
  | .add => (a + b) % 2 ^ 24
  | .sub => (a + 2 ^ 24 - b % 2 ^ 24) % 2 ^ 24
  | .and => a &&& b
  | .or => a ||| b
  | .xor => a ^^^ b

/-- Writes a 24-bit result with Z and N. -/
def aluWrite (x : Ctx) (d v : Nat) (fromAcc : Bool) : Ctx :=
  let c := x.c.wr d v (moveClass x.c0 d fromAcc)
  { x with c := c.setSr (srZN c.sr v) }

/-- ADD, SUB, AND, OR and XOR. -/
def aluBody (op : AluOp) (f : BitVec 40) (x : Ctx) : Except DErr Ctx := do
  legal (sUnused f true true true false && rc24 (sD f) && rc24 (sS f) && rc24 (sT f))
  return aluWrite x (sD f) (aluVal op (x.c0.rd false (sS f)) (x.c0.rd false (sT f))) (rcIsPart (sS f) || rcIsPart (sT f))

/-- The shifts of opcodes 0x3D-0x3F. -/
inductive ShiftOp where
  | lsl | lsr | asr
deriving DecidableEq, Repr

def shiftVal (op : ShiftOp) (v n : Nat) : Nat :=
  match op with
  | .lsl => v * 2 ^ n % 2 ^ 24
  | .lsr => v % 2 ^ 24 / 2 ^ n
  | .asr => unsgn 24 (sgn 24 v / (2 ^ n : Nat))

/-- LSL, LSR and ASR by 0-23. -/
def shiftBody (op : ShiftOp) (f : BitVec 40) (x : Ctx) : Except DErr Ctx := do
  legal (sUnused f true true false true && rc24 (sD f) && rc24 (sS f) && decide (sSH f ≤ 23))
  return aluWrite x (sD f) (shiftVal op (x.c0.rd false (sS f)) (sSH f)) (rcIsPart (sS f))

/-- CMP: Z and N of the 24-bit difference; D is zero. -/
def cmpBody (f : BitVec 40) (x : Ctx) : Except DErr Ctx := do
  legal (sUnused f false true true false && rc24 (sS f) && rc24 (sT f))
  return { x with c := x.c.setSr (srZN x.c.sr (aluVal .sub (x.c0.rd false (sS f)) (x.c0.rd false (sT f)))) }

/-- Format I: bits [32:24] zero. -/
def iLegal (f : BitVec 40) : Bool := fbits f 32 24 = 0

/-- ADDI. -/
def addiBody (f : BitVec 40) (x : Ctx) : Except DErr Ctx := do
  legal (iLegal f && rc24 (sD f))
  return aluWrite x (sD f) (aluVal .add (x.c0.rd false (sD f)) (fbits f 23 0)) (rcIsPart (sD f))

/-! ## Moves (R119) -/

/-- LS and LE may not be written while a hardware loop is active (R119). -/
def loopRegOk (c0 : Core) (d : Nat) : Bool := !((d = 0x52 || d = 0x53) && srBit c0.sr srLA)

/-- Moves a value with conversion. -/
def moveTo (x : Ctx) (d src v : Nat) : Ctx :=
  let cv := convert x.c0 d src v
  let c := x.c.wr d cv.1 (moveClass x.c0 d (rcIsA src || rcIsPart src))
  { x with c := c.stickLV cv.2 }

/-- MOVI. -/
def moviBody (f : BitVec 40) (x : Ctx) : Except DErr Ctx := do
  legal (iLegal f && rcValid (sD f) && loopRegOk x.c0 (sD f))
  return moveTo x (sD f) 0 (fbits f 23 0)

/-- MOV. -/
def movBody (f : BitVec 40) (x : Ctx) : Except DErr Ctx := do
  legal (sUnused f true true false false && rcValid (sD f) && rcValid (sS f) && loopRegOk x.c0 (sD f))
  return moveTo x (sD f) (sS f) (x.c0.rd true (sS f))

/-! ## Loads and stores (R120) -/

/-- Words of an access by the W field; 0 for the reserved value. -/
def accWidth (w : Nat) : Nat := if w = 0 then 1 else if w = 1 then 2 else if w = 2 then 4 else 0

/-- The register groups allowed by width (R120). -/
def groupOk (reg w : Nat) : Bool :=
  match w with
  | 0 => reg < 0x28 || (0x30 ≤ reg && reg < 0x50)
  | 1 => reg % 2 = 0 && (reg < 0x18 || (0x30 ≤ reg && reg < 0x40))
  | 2 => reg % 4 = 0 && reg < 0x18
  | _ => false

/-- Loads a register group from words in order. -/
def loadGroup (x : Ctx) (reg sp : Nat) (addrs : List Nat) : Except DErr Ctx := do
  let vs ← x.loads sp addrs
  let c := (List.range addrs.length).foldl
    (fun (c : Core) j => c.wr (reg + j) (convert x.c0 (reg + j) 0 (nth vs j)).1 .load) x.c
  return ({ x with c := c }).noteXm sp addrs

/-- Stores a register group to words in order. -/
def storeGroup (x : Ctx) (reg sp : Nat) (addrs : List Nat) : Except DErr Ctx := do
  let vs := (List.range addrs.length).map fun j => convert x.c0 0 (reg + j) (x.c0.rd true (reg + j))
  let x ← x.stores sp (addrs.zip (vs.map (·.1)))
  return { x with c := x.c.stickLV (vs.any (·.2)) }

/-- LD and ST through an effective address (format M). -/
def ldBody (store : Bool) (f : BitVec 40) (x : Ctx) : Except DErr Ctx := do
  let reg := fbits f 39 33
  let sp := fbits f 32 31
  let w := fbits f 30 29
  let e := fbits f 28 23
  legal (fbits f 22 0 = 0 && decide (sp ≤ 2) && groupOk reg w)
  let o := x.c0.ea e (accWidth w)
  let x ← (if store then storeGroup x reg sp o.words else loadGroup x reg sp o.words)
  return { x with c := x.c.eaFinish e o }

/-- LDA and STA at an absolute address (format MA): the words are linear. -/
def ldaBody (store : Bool) (f : BitVec 40) (x : Ctx) : Except DErr Ctx := do
  let reg := fbits f 39 33
  let sp := fbits f 32 31
  let w := fbits f 30 29
  legal (fbits f 28 24 = 0 && decide (sp ≤ 2) && groupOk reg w)
  let addrs := (List.range (accWidth w)).map fun j => (fbits f 23 0 + j) % 2 ^ 24
  if store then storeGroup x reg sp addrs else loadGroup x reg sp addrs

/-! ## The local timer (R137) -/

/-- SETT. DEDUCED: s is of the 24-bit class. -/
def settBody (f : BitVec 40) (x : Ctx) : Except DErr Ctx := do
  legal (sUnused f false true false false && rc24 (sS f))
  return { x with c := { x.c with timer := x.c0.rd true (sS f), timerFrac := 0 } }

/-- GETT. DEDUCED: d is of the 24-bit class. -/
def gettBody (f : BitVec 40) (x : Ctx) : Except DErr Ctx := do
  legal (sUnused f true false false false && rc24 (sD f))
  return { x with c := x.c.wr (sD f) x.c0.timer .load }

/-! ## Branches and loops (R125-R128) -/

/-- The loop registers as the loop logic reads them. -/
def Core.lsN (c : Core) : Nat := c.bank.ls.toNat
def Core.leN (c : Core) : Nat := c.bank.le.toNat
def Core.looping (c : Core) : Bool := srBit c.sr srLA

/-- Control instructions are illegal in delay slots, as the end instruction of a running loop and just before it
(R126, R128). -/
def controlOk (c0 : Core) : Bool :=
  c0.slots = 0 && !(c0.looping && (c0.pc = c0.leN || c0.pc + 2 = c0.leN))

/-- Does a branch to `t` leave the loop body from inside it (R128)? DEDUCED: a branch of called code does not. -/
def leavesLoop (c0 : Core) (t : Nat) : Bool :=
  c0.looping && c0.lsN ≤ c0.pc && c0.pc ≤ c0.leN && !(c0.lsN ≤ t && t ≤ c0.leN)

/-- Opens the two delay slots of a branch (R125). -/
def openSlots (x : Ctx) (b : Option Branch) : Ctx := { x with c := { x.c with slots := 3, branch := b } }

def bCC (f : BitVec 40) : Nat := fbits f 39 36
def bTarget (f : BitVec 40) : Nat := fbits f 14 0 / 2 * 2

/-- B and CALL. -/
def branchBody (call : Bool) (f : BitVec 40) (x : Ctx) : Except DErr Ctx := do
  legal (fbits f 35 33 = 0 && fbits f 32 15 = 0 && controlOk x.c0)
  if condHolds x.c0.sr (bCC f) then
    if call then
      if x.c0.stack.length ≥ 8 then .error .stack
      else
        let x := { x with c := { x.c with stack := BitVec.ofNat 15 (x.c0.pc + 6) :: x.c.stack } }
        return openSlots x (some (.jump (bTarget f) false))
    else return openSlots x (some (.jump (bTarget f) (leavesLoop x.c0 (bTarget f))))
  else return openSlots x none

/-- BRP: the target is Pn[14:0]; Pn[23:15] must be zero when the condition holds (R125). -/
def brpBody (f : BitVec 40) (x : Ctx) : Except DErr Ctx := do
  legal (fbits f 32 15 = 0 && fbits f 14 0 = 0 && controlOk x.c0)
  if condHolds x.c0.sr (bCC f) then
    let p := x.c0.seen hideAddr (rcP (fbits f 35 33))
    if p ≥ 2 ^ 15 then .error .address
    else return openSlots x (some (.jump (p / 2 * 2) (leavesLoop x.c0 (p / 2 * 2))))
  else return openSlots x none

/-- RTS and RTI: they pop when the condition holds (R125, R142). -/
def rtsBody (rti : Bool) (f : BitVec 40) (x : Ctx) : Except DErr Ctx := do
  legal (fbits f 35 33 = 0 && fbits f 32 15 = 0 && fbits f 14 0 = 0 && controlOk x.c0)
  if condHolds x.c0.sr (bCC f) then
    match x.c.stack with
    | [] => .error .stack
    | t :: r =>
      let x := { x with c := { x.c with stack := r } }
      return openSlots x (some (if rti then .rti t.toNat else .jump t.toNat (leavesLoop x.c0 t.toNat)))
  else return openSlots x none

/-- DO and DOR with the count given (R127): the next instruction is the body, or the one after it when the count is 0. -/
def loopStart (cnt e : Nat) (x : Ctx) : Except DErr Ctx := do
  let ls := x.c0.pc + 2
  legal (controlOk x.c0 && !x.c0.looping && decide (ls ≤ e))
  let c := (x.c.put 0x52 ls).put 0x53 e
  if cnt = 0 then return { x with c := { c with pc := e } }
  else
    let c := (c.put 0x51 cnt)
    let c := c.setSr (srSet c.sr srLA true)
    return { x with c := { c with cache := [], cacheOk := false, filling := decide ((e - ls) / 2 + 1 ≤ 64) } }

def doBody (f : BitVec 40) (x : Ctx) : Except DErr Ctx := do
  legal (fbits f 23 15 = 0)
  loopStart (fbits f 39 24) (bTarget f) x

def dorBody (f : BitVec 40) (x : Ctx) : Except DErr Ctx := do
  legal (fbits f 23 15 = 0 && fbits f 32 24 = 0 && rc24 (sD f))
  loopStart (x.c0.rd false (sD f)) (bTarget f) x

end Sys2Proof.Machine
end

