-- ==== Sys2Proof/Machine/CoreCtl.lean ====
section
/-! DEFINITION. What the device does around the instructions of a core: fetch and the step to the next instruction
(R86-R89, R121-R130), errors and faults (R83, R98-R101, R145), resets, interrupts (R138-R142), overlays (R102) and the
retirement that a fault may start (R447-R449). -/
namespace Sys2Proof.Machine

/-! ## Overlay sources (R80, R102, R214) -/

/-- A word of the ROM copy as the patch map redirects it (R214). -/
def State.romRead (s : State) (c w : Nat) : W32 :=
  match mget 0 s.mem.patch (c * 512 + w / 256) with
  | 0 => Config.romWord w
  | b => s.cps c (256 * b + w % 256)

/-- The words of an overlay copy; nothing when a source or destination word lies out of range (R102). -/
def State.overlay (s : State) (c src dst n : Nat) : Option (List W24) :=
  if dst + n > 0x8000 then none
  else if src + n ≤ 0x40000 then some ((List.range n).map fun i => (s.cps c (src + i)).setWidth 24)
  else if 0x100000 ≤ src ∧ src + n ≤ 0x120000 then
    some ((List.range n).map fun i => (s.romRead c (src - 0x100000 + i)).setWidth 24)
  else none

/-- CM as the copy of the dispatcher leaves it: CPS words 0-0xFFF (R145). -/
def State.dispatcher (s : State) (c : Nat) : SMap W24 :=
  s.mem.cps.filterMap fun e =>
    let w := e.1 - cpsKey c 0
    if cpsKey c 0 ≤ e.1 ∧ w < 0x1000 ∧ e.2.setWidth 24 ≠ (0 : W24) then some (w, e.2.setWidth 24) else none

/-! ## Resets and blocking -/

/-- SR as a dispatch to core `k` leaves it (R74). -/
def State.srInit (s : State) (k : Nat) : W24 := srDispatch (s.fld (F.CO_CTRL_RND_INIT k)) (s.flag (F.CO_CTRL_GVT_INIT k))

/-- A core after a core reset: its memories zero (R84) and the dispatcher copied when the clusters are released (R145).
What the device keeps of the core stays. -/
def State.resetCore (s : State) (k : Nat) : State :=
  let s := s.withdraw k
  let c := s.core k
  let cm := if s.gl.released then s.dispatcher (k / 9) else []
  s.setCore k { Core.init with
    main := { Bank.init with sr := s.srInit k }
    cm := cm
    hist := c.hist
    suspect := c.suspect
    busyNs := c.busyNs
    busyFrom := c.busyFrom
    disp := c.disp }

/-- A core whose node was aborted leaves interrupt context and blocks (R135, R142). DEDUCED: in the WAIT.WORK or YIELD
from which the node was dispatched. -/
def Core.block (c : Core) (now : Nat) : Core :=
  { c with
    inShadow := false
    pc := c.waitPc
    stack := []
    slots := 0
    branch := none
    win := []
    cacheOk := false
    filling := false
    waiting := true
    waitSince := now
    nest := 0
    faultReq := none
    handlers := []
    ovl := none }

def State.blockCore (s : State) (k : Nat) : State := s.setCore k ((s.core k).block s.elapsed)

/-! ## Suspect cores (R447-R449) -/

/-- Begins the retirement of a core: dispatch to it stops (R449 step 1). An automatic one waits while a CORE_RETIRE job is
live in its cluster (R447). -/
def State.startRetire (s : State) (k : Nat) (job : Option Nat) : State :=
  if s.rl.retire.any (·.core = k) || s.fld (F.CO_STATUS_STATE k) = 2 then s
  else
    let busy := job.isNone && s.rl.retire.any fun r => r.core / 9 = k / 9 && r.job.isSome
    let r : Retire := ⟨k, if busy then 0 else 1, job, s.elapsed, none⟩
    let s : State := { s with rl := { s.rl with retire := s.rl.retire ++ [r] } }
    if busy then s
    else
      let s : State := { s with th := { s.th with stopped := k :: s.th.stopped } }
      s.setFlag F.RL_STATUS_RETIRING true

/-- CORE_SUSPECT of a core (R447, R453). -/
def State.reportSuspect (s : State) (k : Nat) : State :=
  let s := s.setCore k { s.core k with suspect := true }
  let s := (s.setFlag F.RL_EVENT_CORE_SUSPECT true).raise .warn 0x21 k (0x0140 + F.RL_EVENT_CORE_SUSPECT.lo) k 0 0
  if s.flag F.RL_CTRL_AUTO_RETIRE ∧ s.fld (F.CO_STATUS_STATE k) = 1 then s.startRetire k none else s

/-- Enters a fault into a core's history (R447). -/
def State.faultHistory (s : State) (k : Nat) : State :=
  let c := s.core k
  let span := s.fld F.RL_THRESH_RETIRE_HOURS * 3600000000000
  let n := s.fld F.RL_THRESH_RETIRE_FAULTS
  let old := c.hist.filter fun t => s.elapsed < t + span
  let below := decide (old.length < n)
  let s := s.setCore k { c with hist := s.elapsed :: old, suspect := c.suspect && !below }
  if !(s.core k).suspect && decide (n ≤ old.length + 1) then s.reportSuspect k else s

/-! ## Detected faults (R98-R100) -/

/-- Records a detected fault in CO_STATUS, counts it and reports it (R98, R107, R460). -/
def State.noteFault (s : State) (k code lane : Nat) : State :=
  let inj := code = 10 || code = 11
  let s := s.setFld (F.CO_STATUS_LAST_FAULT k) code
  let s := if code = 7 ∨ code = 11 then s.setFld (F.CO_STATUS_LAST_LANE k) lane else s
  let s := s.incS (F.CO_STATUS_FAULT_CNT k) 1
  let s := if inj then s.raiseInj .contained 0x21 k (0x0200 + code) k 0 0
    else if code = 6 ∨ code = 12 then s.raise .contained 0x20 (k / 9) (0x0200 + code) (k / 9) k 0
    else s.raise .contained 0x21 k (0x0200 + code) k (if code = 7 then lane else 0) 0
  if inj then s else s.faultHistory k

/-- A detected fault in a node: the fault interrupt when CO_CTRL.FAULT_INT asks for it and the return stack has room, the
abort and the replay otherwise (R98, R99, R140). -/
def State.nodeDetect (s : State) (k code lane : Nat) : State :=
  let s := s.noteFault k code lane
  let c := s.core k
  if s.flag (F.CO_CTRL_FAULT_INT k) ∧ c.stack.length < 8 ∧ c.faultReq = none then
    s.setCore k { c with faultReq := some code, ovl := none }
  else
    let s := (s.faultAbort k (code = 6)).blockCore k
    s.preemptScan (k / 9)

/-! ## Errors of the code (R83, R101, R108, R145) -/

/-- An illegal instruction, an address error or a return-stack error at CM address `pc`: the node ends with DATA_ERROR;
with no node open the core is held in reset. -/
def State.codeError (s : State) (k pc : Nat) (e : DErr) : State :=
  let st := decide (e = .stack)
  let s := s.setFld (F.CO_STATUS_LAST_FAULT k) (if st then 9 else 8)
  if (s.core k).run.isSome then (s.kernelError k (if st then 2 else 1) pc).blockCore k
  else
    let s := (s.resetCore k).setFld (F.CO_STATUS_STATE k) 3
    s.raise .warn 0x21 k 0x0210 k pc 0

/-! ## Fetch (R86-R89) -/

/-- A CM word as instruction fetch sees it: not the stores of the last two instructions (R89). -/
def Core.cmFetch (c : Core) (a : Nat) : Nat := seenFrom hideFetch (0x10000 + a) c.win (mget 0 c.cm a).toNat

/-- The instruction at PC: from the repeat cache while SR.RCA = 1, from CM otherwise. -/
def Core.fetch (c : Core) : W48 :=
  if srBit c.sr srRCA then c.cache.getD ((c.pc - c.lsN) / 2) 0
  else BitVec.ofNat 48 (c.cmFetch c.pc * 2 ^ 24 + c.cmFetch (c.pc + 1))

/-- The core executes: it is in service, its cluster runs, and DOZE does not gate it. -/
def State.coreLive (s : State) (k : Nat) : Bool :=
  s.inService k && s.coresRun (k / 9) && (s.mode ≠ 8 || s.dozeCore (k / 9) = some k)

/-- The request of highest priority that the core accepts at its present boundary (R138, R139). -/
def Core.acceptable (c : Core) : Option Nat :=
  if srBit c.sr srIE ∧ c.slots = 0 ∧ c.ovl = none ∧ c.stack.length < 8 then
    if c.gvReq ≠ 0 then some 2 else if c.dbgReq then some 3 else if c.preReq then some 4 else if c.timReq then some 5 else none
  else none

/-- The fault interrupt is requested and not yet taken. -/
def Core.faultPending (c : Core) : Bool := c.faultReq.isSome && !c.handlers.contains 1

/-- The core issues the instruction word: it executes, is not blocked, waits for no overlay or interrupt, and the word is
what it fetches. -/
def State.canIssue (s : State) (k : Nat) (w : W48) : Bool :=
  let c := s.core k
  s.coreLive k && !c.waiting && c.ovl = none && !c.faultPending && c.acceptable = none && c.fetch = w

/-- An instruction word. -/
def word48 (op : Nat) (f : BitVec 40) : W48 := BitVec.ofNat 48 (op * 2 ^ 40 + f.toNat)

/-- What an instruction of core `k` works on. -/
def State.ctx (s : State) (k : Nat) : Ctx :=
  let c := s.core k
  let w := match c.run with
    | some r => s.window k r.e
    | none => (0, 0)
  ⟨c, c, s.mem.csm, k / 9, w.1, w.2, false, false⟩

/-! ## The step to the next instruction (R121, R125-R130) -/

/-- Notes the instruction in the repeat cache while a pass fills it (R129). -/
def Core.fill (c0 c : Core) (w : W48) : Core :=
  if c0.looping && c0.filling && c0.lsN + 2 * c0.cache.length = c0.pc && c0.pc ≤ c0.leN then
    let c := { c with cache := c0.cache ++ [w] }
    if c0.pc = c0.leN then { c with cacheOk := true, filling := false } else c
  else c

/-- Begins another pass of a loop body. -/
def Core.nextPass (c : Core) : Core :=
  if c.cacheOk then c.setSr (srSet c.sr srRCA true)
  else { c with cache := [], filling := decide ((c.leN - c.lsN) / 2 + 1 ≤ 64) }

/-- The program counter after an instruction: delay slots, branches and the loop-end test (R125-R129). -/
def Core.advance (c0 c : Core) : Core :=
  let taken : Option (Nat × Bool) := match c.slots, c.branch with
    | 1, some (.jump t l) => some (t, l)
    | _, _ => none
  let rti : Bool := match c.slots, c.branch with
    | 1, some (.rti _) => true
    | _, _ => false
  let c := { c with slots := c.slots - 1 }
  match taken with
  | some (t, leaves) =>
    let c := { c with pc := t, branch := none }
    let c := if leaves then c.setSr (srSet c.sr srLA false) else c
    if c0.looping then { c.setSr (srSet c.sr srRCA false) with filling := false } else c
  | none =>
    if rti then c
    else if c0.looping && c0.pc = c0.leN then
      let n := c0.seen hideLoop 0x51
      if n > 1 then ({ c.put 0x51 (n - 1) with pc := c0.lsN }).nextPass
      else
        let c := c.put 0x51 0
        { c.setSr (srSet (srSet c.sr srLA false) srRCA false) with pc := c0.leN + 2, filling := false }
    else { c with pc := c.pc + 2 }

/-- Windows age by one instruction; those that can hide nothing more are dropped (R121). -/
def Core.ageWin (c : Core) : Core := { c with win := (c.win.map fun e => { e with age := e.age + 1 }).filter (·.age ≤ 2) }

def Core.finish (c0 c : Core) (w : W48) : Core := ((c0.advance (c0.fill c w))).ageWin

/-- Ends a handler at its RTI (R142): the nesting count falls, or the main bank is swapped back in. -/
def Core.leaveHandler (c : Core) (t : Nat) : Core :=
  let c := { c with slots := 0, branch := none, handlers := c.handlers.drop 1, win := [], cacheOk := false, filling := false }
  if c.nest > 0 then { c.setSr (srSet c.sr srIE true) with nest := c.nest - 1, pc := t }
  else { c with inShadow := false, pc := t }

/-- PREEMPTs outstanding to a core end when its handler returns; the next candidate is asked (R169). -/
def State.preemptReturn (s : State) (k : Nat) : State :=
  let s : State := { s with th := { s.th with queues := s.th.queues.map fun q =>
    (q.1, q.2.map fun e => if e.preempt = some k then { e with preempt := none } else e) } }
  s.preemptScan (k / 9)

/-- The RTI whose slots have executed (R99, R142, R169). -/
def State.doRti (s : State) (k t : Nat) : State :=
  let c := s.core k
  match c.handlers with
  | 1 :: _ => ((s.faultAbort k (c.faultReq = some 6)).blockCore k).preemptScan (k / 9)
  | 4 :: _ => (s.setCore k (c.leaveHandler t)).preemptReturn k
  | _ => s.setCore k (c.leaveHandler t)

/-- Completes an instruction of core `k`, `c` the core as its body leaves it. -/
def State.endInstr (s : State) (k : Nat) (w : W48) (c : Core) : State :=
  let c0 := s.core k
  let c' := c0.finish c w
  let s := s.setCore k c'
  match c'.slots, c'.branch with
  | 0, some (.rti t) => s.doRti k t
  | _, _ => if c'.pc > 0x7FFE then s.codeError k c'.pc .address else s

/-- Does an injected fault strike this instruction (R107)? Its code, 10 or 11. -/
def injected (x : Ctx) : Option Nat :=
  if x.c0.run.isNone then none
  else if x.c0.inject = 1 ∧ x.xmRead then some 10
  else if x.c0.inject = 2 ∧ x.mul0 then some 11
  else none

/-- An instruction whose effect stays within the core and the CSM: a body over the context (R108, R112). -/
def State.dziul (s : State) (k : Nat) (op : Nat) (f : BitVec 40) (body : BitVec 40 → Ctx → Except DErr Ctx) : State :=
  let w := word48 op f
  if s.canIssue k w then
    match body f (s.ctx k) with
    | .error e => s.codeError k (s.core k).pc e
    | .ok x =>
      match injected x with
      | some code => (s.setCore k { s.core k with inject := 0 }).nodeDetect k code 0
      | none => ({ s with mem := { s.mem with csm := x.csm } }).endInstr k w x.c
  else s

/-! ## Interrupt entry (R140, R141) -/

/-- Enters the vector of a source: the return address is pushed, the shadow bank swapped in or the nesting count raised. -/
def Core.enter (c : Core) (pri : Nat) : Core :=
  let c := { c with stack := BitVec.ofNat 15 c.pc :: c.stack, win := [], cacheOk := false, filling := false, waiting := false }
  let c := { c with handlers := pri :: c.handlers, slots := 0, branch := none }
  let c := if c.inShadow then { c with nest := c.nest + 1 }
    else { c with shadow := { c.shadow with sr := c.main.sr }, inShadow := true }
  let sr := srSet (srSet (srSet (srSet (srSet c.sr srIE false) srGVT false) srLA false) srRCA false) srSB true
  { c.setSr sr with pc := 8 * pri }

/-- Takes a request out of those pending. -/
def Core.takeReq (c : Core) (pri : Nat) : Core :=
  match pri with
  | 2 => { c with gvReq := c.gvReq - 1 }
  | 3 => { c with dbgReq := false }
  | 4 => { c with preReq := false }
  | 5 => { c with timReq := false }
  | _ => c

end Sys2Proof.Machine
end

