-- ==== Sys2Proof/Machine/MemOps.lean ====
section
/-! DEFINITION. Hamper's further operations: errors of the stack and the cache (R181-R183, R456), page moves (R187, R188),
room for contexts (R192), pooled windows (R189, R190) and the flow table (R208-R210). -/
namespace Sys2Proof.Machine

/-! ## Errors (R181-R183, R456) -/

/-- Pseudo-channel of a physical address (R180). -/
def pcOf (q : Nat) : Nat := q / 256 % 16

/-- Counts a corrected error of a logical page; PAGE_SUSPECT when it collects CE_STORM of them in an hour (R456). -/
def State.pageStorm (s : State) (page q : Nat) : State :=
  let l := s.elapsed :: (mget [] s.hp.ceTimes page).filter fun t => s.elapsed < t + 3600000000000
  if l.length ≥ s.fld F.RL_THRESH_CE_STORM then
    let s : State := { s with hp := { s.hp with ceTimes := mdel s.hp.ceTimes page } }
    s.event F.RL_EVENT_PAGE_SUSPECT .warn 0 page (pcOf q) (Config.hbmRow q).toNat
  else { s with hp := { s.hp with ceTimes := mput s.hp.ceTimes page l } }

/-- What a read meets (R181, R183). -/
def State.memErr (s : State) : MemErr → State
  | .corrected a =>
    match s.phys a with
    | none => s
    | some q =>
      let s := (s.incS F.HP_ECC_CNT_CE 1).incS (F.HP_PC_ERR_CE (pcOf q)) 1
      let s := if s.flag F.HP_CTRL_CE_EVT then s.event F.HP_EVENT_HBM_CE .corrected (pcOf q) (a % 2 ^ 32) (a / 2 ^ 32) (q / pageBytes)
        else s.setFlag F.HP_EVENT_HBM_CE true
      s.pageStorm (a / pageBytes) q
  | .uncorrectable a =>
    match s.phys a with
    | none => s
    | some q =>
      let s := (s.incS F.HP_ECC_CNT_UE 1).incS (F.HP_PC_ERR_UE (pcOf q)) 1
      let s : State := { s with hp := { s.hp with poison := mset false s.hp.poison (q / 8) true } }
      s.event F.HP_EVENT_HBM_UE .contained (pcOf q) (a % 2 ^ 32) (a / 2 ^ 32) (q / pageBytes)
  | .cacheParity w =>
    let s := (s.incS F.HP_CACHE_CNT_PARITY 1).event F.HP_EVENT_CACHE_PAR .corrected 0 w.val 0 0
    let n := mget 0 s.hp.wayFails w.val + 1
    let s : State := { s with hp := { s.hp with wayFails := mput s.hp.wayFails w.val n } }
    if n = 4 then
      (s.setFld F.HP_CACHE_WAYS_FAILED (setBits (s.fld F.HP_CACHE_WAYS_FAILED) w.val 1 1)).raise .warn 0x04 0 0x0180 w.val 0 0
    else s

def State.memErrs (s : State) (l : List MemErr) : State := l.foldl State.memErr s

/-! ## Page moves (R187, R188) -/

/-- Starts a move, or answers the status of its refusal (R188). -/
def State.startMove (s : State) (page : Nat) (repair : Bool) (o : Option Origin) : State × Option Nat :=
  match s.physPage page with
  | none => if s.hp.moves.length ≥ 4 then (s, some 2) else (s.unmappedEvent page, some 8)
  | some q =>
    if s.hp.moves.length ≥ 4 then (s, some 2)
    else if s.hp.moves.any (·.page = page) then (s, some 6)
    else match s.hp.pool with
      | [] => (s, some 7)
      | d :: r => ({ s with hp := { s.hp with pool := r, moves := s.hp.moves ++ [⟨page, q, d, 0, repair, o⟩] } }, none)

/-- Copies `n` bytes of the stack with their poison (R182, R187). -/
def State.copyPhys (s : State) (src dst n : Nat) : State :=
  let mv {α : Type} (sc : Nat) (m : SMap α) : SMap α :=
    let kept := m.filter fun e => !(dst / sc ≤ e.1 && e.1 < (dst + n) / sc)
    (m.filter fun e => src / sc ≤ e.1 && e.1 < (src + n) / sc).foldl (fun m e => mput m (e.1 - src / sc + dst / sc) e.2) kept
  { s with hp := { s.hp with hbm := mv 1 s.hp.hbm, poison := mv 8 s.hp.poison } }

/-- Sets a physical range to zero. -/
def State.zeroPhys (s : State) (q n : Nat) : State :=
  { s with hp := { s.hp with
    hbm := s.hp.hbm.filter fun e => !(q ≤ e.1 && e.1 < q + n)
    poison := s.hp.poison.filter fun e => !(q / 8 ≤ e.1 && e.1 < (q + n) / 8) } }

/-- Writes zeros over a range of slot 0 that lies in one page, in both copies while the page is on the move. -/
def State.zeroRange (s : State) (a n : Nat) : State :=
  match s.phys a with
  | none => s
  | some q =>
    let s := s.zeroPhys q n
    match s.hp.moves.find? (·.src = q / pageBytes) with
    | some m => s.zeroPhys (m.dst * pageBytes + q % pageBytes) n
    | none => s

/-! ## Room for contexts (R192) -/

def granuleBytes : Nat := 4096

/-- Contexts that stand in a page: first granule and granules. -/
def State.ctxsIn (s : State) (page : Nat) : List (Nat × Nat) :=
  s.chans.filterMap fun c => if c.2.ctx / pageBytes = page then some (c.2.ctx % pageBytes / granuleBytes, c.2.granules) else none

/-- The lowest place of `g` granules in a page: at its start or after a context. -/
def placeIn (l : List (Nat × Nat)) (g : Nat) : Option Nat :=
  let cand := 0 :: l.map fun e => e.1 + e.2
  let good := cand.filter fun a => a + g ≤ 512 && l.all fun e => a + g ≤ e.1 || e.1 + e.2 ≤ a
  match good with
  | [] => none
  | a :: r => some (r.foldl min a)

/-- The place of a new context: the lowest in the region's mapped pages. -/
def State.ctxPlace (s : State) (g : Nat) : Option Nat :=
  ((List.range (s.fld F.HP_CTX_REGION_PAGES)).map (s.fld F.HP_CTX_REGION_FIRST_PAGE + ·)).findSome? fun p =>
    if (s.physPage p).isSome then (placeIn (s.ctxsIn p) g).map fun a => p * pageBytes + a * granuleBytes else none

/-! ## Pooled windows (R189, R190) -/

/-- Slot of a 42-bit Hamper address. -/
def slotOf (a : Nat) : Nat := a / 2 ^ 34 % 256
def State.win (s : State) (k : Nat) : Nat := mget 0 s.hp.wins k
def State.winOpen (s : State) (k : Nat) : Bool := s.flag F.HP_CTRL_WIN_EN && bit (s.win k) 14

/-- A remote access failed (R190). -/
def State.remoteErr (s : State) : State := (s.incS F.HP_CACHE_CNT_REMOTE_ERR 1).setFlag F.HP_EVENT_REMOTE_ERR true

/-! ## Flow table (R208-R210) -/

def State.ftBase (s : State) : Nat :=
  (match s.tw.installed with
   | none => s.fld F.HP_FT_CFG_PAGE
   | some i => s.fld (F.TW_PRI_SHADOW_FIRST_PAGE i) + 2) * pageBytes
/-- Address of entry `i` of a bucket. -/
def State.ftAddr (s : State) (b i : Nat) : Nat := s.ftBase + b * 512 + i * 64
def State.ftWords (s : State) (b i : Nat) : List Nat := (List.range 16).map fun j => s.word (s.ftAddr b i + 4 * j)
def State.ftValid (s : State) (b i : Nat) : Bool := bit (s.word (s.ftAddr b i)) 0

/-- The key of an entry's words (R209). -/
def ftKey (w : List Nat) : List Byte :=
  wordsLe ((nth w 0 / 2 % 4 * 2) :: (List.range 9).map fun i => nth w (i + 1))
/-- VLAN_EN and VID, which with the key make an entry the same entry (R210). -/
def ftVlan (w : List Nat) : Nat := bits (nth w 0) 3 13

def ftB0 (k : List Byte) : Nat := (Config.ftBucket false k).toNat
def ftB1 (k : List Byte) : Nat := (Config.ftBucket true k).toNat

/-- A bucket with a poisoned word counts as holding no match (R182). -/
def State.ftEntries (s : State) (b : Nat) : List Nat :=
  if s.poisoned (s.ftBase + b * 512) 512 then [] else (List.range 8).filter (s.ftValid b)

/-- The entry with a key and VLAN condition. -/
def State.ftFind (s : State) (k : List Byte) (vlan : Nat) : Option (Nat × Nat) :=
  [ftB0 k, ftB1 k].findSome? fun b =>
    ((s.ftEntries b).find? fun i => let w := s.ftWords b i; ftKey w = k && ftVlan w = vlan).map fun i => (b, i)

/-- One lookup of R209 with a key: an entry with VLAN_EN = 1 that matches is taken before one with VLAN_EN = 0. -/
def State.ftMatch (s : State) (k : List Byte) (vid : Option Nat) (port : Nat) : Option (Nat × Nat) :=
  let ok (vlan : Bool) (b i : Nat) : Bool :=
    let w := s.ftWords b i
    ftKey w = k && bit (nth w 0) 3 = vlan && (!vlan || vid = some (bits (nth w 0) 4 12)) && bit (nth w 10) (16 + port)
  let pick (vlan : Bool) := [ftB0 k, ftB1 k].findSome? fun b => ((s.ftEntries b).find? (ok vlan b)).map fun i => (b, i)
  match pick true with
  | some e => some e
  | none => pick false

/-- The key of a packet's addresses and ports; `wild` zeroes the source fields (R209). -/
def packetKey (v6 : Bool) (dst src : List Nat) (dport sport : Nat) (wild : Bool) : List Byte :=
  wordsLe ([b2n wild * 2 + b2n v6 * 4] ++ (List.range 4).map (nth dst) ++ (List.range 4).map (fun i => if wild then 0 else nth src i)
    ++ [dport + (if wild then 0 else sport) * 65536])

/-- The lookup of a received UDP packet (R209): the entry, or a counted miss. -/
def State.ftLookup (s : State) (v6 : Bool) (dst src : List Nat) (dport sport : Nat) (vid : Option Nat) (port : Nat) :
    State × Option (Nat × Nat) :=
  match s.ftMatch (packetKey v6 dst src dport sport false) vid port with
  | some e => (s, some e)
  | none =>
    let r := if s.flag F.HP_FT_CFG_WILD_EN then s.ftMatch (packetKey v6 dst src dport sport true) vid port else none
    match r with
    | some e => (s, some e)
    | none => (s.incS F.HP_FT_STAT_MISSES 1, none)

def State.ftPut (s : State) (b i : Nat) (w : List Nat) : State := s.setBytes (s.ftAddr b i) (wordsLe w)
def State.ftDel (s : State) (b i : Nat) : State := s.setBytes (s.ftAddr b i) (List.replicate 64 0)
def State.ftFree (s : State) (b : Nat) : Option Nat := firstBelow 8 fun i => !s.ftValid b i
def State.ftLoad (s : State) (b : Nat) : Nat := ((List.range 8).filter (s.ftValid b)).length

/-- The other candidate bucket of an entry that stands in bucket `b`. -/
def State.ftOther (s : State) (b i : Nat) : Nat :=
  let k := ftKey (s.ftWords b i)
  if ftB0 k = b then ftB1 k else ftB0 k

/-- Breadth-first search for a chain of relocations (R210): paths of places, the newest first. Answers the chain and the
free place at its end. -/
def State.ftChain (s : State) : Nat → List (List (Nat × Nat)) → List Nat → Option (List (Nat × Nat) × (Nat × Nat))
  | 0, _, _ => none
  | fuel + 1, front, seen =>
    let hit := front.findSome? fun p =>
      match p with
      | [] => none
      | e :: _ =>
        let b := s.ftOther e.1 e.2
        (s.ftFree b).map fun i => (p, (b, i))
    match hit with
    | some r => some r
    | none =>
      let step := front.foldl (fun (acc : List (List (Nat × Nat)) × List Nat) p =>
        match p with
        | [] => acc
        | e :: _ =>
          let b := s.ftOther e.1 e.2
          if acc.2.contains b then acc
          else (acc.1 ++ (List.range 8).map (fun i => (b, i) :: p), b :: acc.2)) ([], seen)
      s.ftChain fuel step.1 step.2

/-- Makes the relocations of a chain from its end back; answers the place freed at its head. -/
def State.ftRelocate (s : State) : List (Nat × Nat) → Nat × Nat → State × (Nat × Nat)
  | [], free => (s, free)
  | e :: r, free => ((s.ftPut free.1 free.2 (s.ftWords e.1 e.2)).ftDel e.1 e.2).ftRelocate r e

/-- Inserts an entry of 12 words (R210): the status, and its index when it was placed. -/
def State.ftInsert (s : State) (w : List Nat) : State × Nat × Nat :=
  let k := ftKey w
  let e := w.take 12 ++ [0, 0, 0, 0]
  let done (s : State) (p : Nat × Nat) : State × Nat × Nat :=
    ((s.ftPut p.1 p.2 e).setFld F.HP_FT_STAT_ENTRIES (s.fld F.HP_FT_STAT_ENTRIES + 1), 0, p.1 * 8 + p.2)
  if (s.ftFind k (ftVlan w)).isSome then (s, 6, 0)
  else
    let b0 := ftB0 k
    let b1 := ftB1 k
    let b := if s.ftLoad b1 < s.ftLoad b0 then b1 else b0
    match s.ftFree b with
    | some i => done s (b, i)
    | none =>
      let front := ((List.range 8).map fun i => [(b0, i)]) ++ (List.range 8).map fun i => [(b1, i)]
      match s.ftChain 32 front [b0, b1] with
      | some (p, free) =>
        let r := s.ftRelocate p free
        done r.1 r.2
      | none => (s.setFlag F.HP_EVENT_FT_FULL true, 7, 0)

/-- Deletes the entry with a key and VLAN condition (R210). -/
def State.ftDelete (s : State) (w : List Nat) : State × Nat :=
  match s.ftFind (ftKey w) (ftVlan w) with
  | some p => ((s.ftDel p.1 p.2).setFld F.HP_FT_STAT_ENTRIES (s.fld F.HP_FT_STAT_ENTRIES - 1), 0)
  | none => (s, 8)

end Sys2Proof.Machine
end

