-- ==== Sys2Proof/Machine/ModeOps.lean ====
section
/-! DEFINITION. Mode transitions as other blocks start them (R441, R470, R472). -/
namespace Sys2Proof.Machine

/-- Service modes: TRUNK, ACCESS, MIXED and LANTERN (R470). -/
def serviceMode (m : Nat) : Bool := m = 2 || m = 3 || m = 4 || m = 7

/-- Modes that open channels (R44). -/
def admitsChannels (m : Nat) : Bool := serviceMode m

/-- May an automatic trigger with this target be applied from the mode (R470)? -/
def autoAllowed (m target : Nat) : Bool :=
  if target = 10 then m ≠ 0 && m ≠ 9 && m ≠ 11 && m ≠ 10
  else if m = 5 then serviceMode target
  else m = 9 && target ≠ 9

/-- Begins a transition to a mode. -/
def State.startTrans (s : State) (target : Nat) (auto : Bool) (o : Option Origin) : State :=
  { s with gl := { s.gl with trans := some ⟨target, auto, o, s.elapsed⟩ } }

/-- An automatic trigger (R472): it starts its transition, supersedes a MODE_SET, is absorbed, or waits. -/
def State.trigger (s : State) (target : Nat) : State :=
  match s.gl.trans with
  | none => if autoAllowed s.mode target then s.startTrans target true none else s
  | some t =>
    if t.auto then
      (if t.target = target then s else { s with gl := { s.gl with waiting := s.gl.waiting ++ [target] } })
    else if autoAllowed s.mode target then
      (s.startTrans target true none).completeOpt t.origin 6 0x47 []
    else s

/-- A FATAL report that names the device: SOURCE GL_ or RL_ (R441). -/
def State.fatalDevice (s : State) (src code a0 a1 : Nat) : State :=
  let s := s.raise .fatal src 0 code a0 a1 0
  if s.flag F.RL_CTRL_FATAL_ISOLATE then (s.setFlag F.RL_STATUS_ISOLATED true).trigger 10 else s

end Sys2Proof.Machine
end

