-- ==== Sys2Proof/Machine/ChanOps.lean ====
section
/-! DEFINITION. Channels as a whole: graphs and contexts (R192-R195, R217, R222, R228-R231, R391), opening and closing
(R30-R33, R40, R173, R542), rehoming (R451), and the rebuilding of queues (R177). -/
namespace Sys2Proof.Machine

/-! ## Graphs (R391) -/

/-- An extent of two words (R195). -/
def extentOf (a b : Nat) : Extent := ⟨bits a 0 4, bit a 4, bits a 5 5, bits a 16 16, b⟩

/-- Node `i` of a graph buffer; its kernel descriptor is not among the read extents. -/
def nodeOf (w : List Nat) (i : Nat) : GNode :=
  let x (j : Nat) : Nat := nth w (48 + 32 * i + j)
  { kid := bits (x 0) 0 8, level := bits (x 0) 8 3, stateOfs := x 1, src := x 2, len := x 3, dest := x 4, entry := x 5,
    cost := x 6, fixed := x 7, rd := (List.range 3).map fun j => extentOf (x (8 + 2 * j)) (x (9 + 2 * j)),
    wr := (List.range 4).map fun j => extentOf (x (14 + 2 * j)) (x (15 + 2 * j)) }

def edgeOf (v : Nat) : GEdge := ⟨bits v 0 5, bits v 5 5, bits v 10 3, bits v 13 3, bits v 16 12⟩

/-- The graph that a buffer of 560 words spells. -/
def graphOf (w : List Nat) : Graph :=
  { nodes := (List.range (bits (nth w 0) 0 5)).map (nodeOf w)
    edges := (List.range (bits (nth w 0) 8 6)).map fun e => edgeOf (nth w (16 + e))
    wb := bit (nth w 0) 16
    kernelBytes := bits (nth w 1) 0 18
    rx := ⟨bits (nth w 2) 0 4, bits (nth w 2) 16 16⟩
    tx := ⟨bits (nth w 3) 0 4, bits (nth w 3) 16 16⟩
    jbLog2 := bits (nth w 4) 0 4
    jbSlotBytes := 64 * bits (nth w 4) 4 6
    jbView := bits (nth w 4) 10 5 }

def customKid (kid : Nat) : Bool := 0x80 ≤ kid
def libraryKid (kid : Nat) : Bool := 0x01 ≤ kid && kid ≤ 0x16

/-- A ring of R391: none, or 2-8 frames of 40-960 samples. -/
def ringOk (v : Nat) : Bool :=
  bits v 4 12 = 0 && (bits v 0 4 = 0 || (2 ≤ bits v 0 4 && bits v 0 4 ≤ 8 && 40 ≤ bits v 16 16 && bits v 16 16 ≤ 960))

/-- The bits and ranges of an edge word. -/
def edgeOk (nodes v : Nat) : Bool :=
  let e := edgeOf v
  v < 2 ^ 28 && (e.src < nodes || (16 ≤ e.src && e.src ≤ 19)) && e.dst < nodes && 1 ≤ e.depth && e.depth ≤ 4
    && 1 ≤ e.req && e.req ≤ e.depth

/-- An extent of a node (R195, R391): its kind exists in the map, its references exist, and it stays in its area. -/
def extentOk (g : Graph) (nd : Nat) (wr : Bool) (a b : Nat) : Bool :=
  let x := extentOf a b
  bits a 10 6 = 0 && (x.kind = 1 || b = 0) && (match x.kind with
    | 0 => true
    | 1 => decide (b + 4 * x.len ≤ g.kernelBytes)
    | 2 => !wr && x.edge < g.edges.length && (g.edges.getD x.edge ⟨0, 16, 0, 0, 0⟩).dst = nd
    | 3 => !wr && g.rx.frames ≠ 0
    | 4 => !wr && g.jbLog2 ≠ 0
    | 5 => wr && g.tx.frames ≠ 0
    | 6 => wr && g.jbLog2 ≠ 0
    | _ => false)

/-- The words of a node entry (R391, R217, R228). -/
def nodeOk (g : Graph) (w : List Nat) (i : Nat) : Bool :=
  let x (j : Nat) : Nat := nth w (48 + 32 * i + j)
  let kid := bits (x 0) 0 8
  x 0 < 2 ^ 11 && bits (x 0) 8 3 ≠ 0 && (libraryKid kid || customKid kid)
    && (if customKid kid then x 2 < 2 ^ 24 && 1 ≤ x 3 && x 3 ≤ 32768 && x 4 < 2 ^ 15 && x 5 < 2 ^ 15
      else (List.range 6).all fun j => x (2 + j) = 0)
    && ((List.range 3).all fun j => extentOk g i false (x (8 + 2 * j)) (x (9 + 2 * j)))
    && ((List.range 4).all fun j => extentOk g i true (x (14 + 2 * j)) (x (15 + 2 * j)))
    && ((List.range 10).all fun j => x (22 + j) = 0)

/-- The fields of a graph buffer keep their ranges (R391). -/
def graphOk (w : List Nat) : Bool :=
  let g := graphOf w
  let n := g.nodes.length
  nth w 0 < 2 ^ 17 && bits (nth w 0) 5 3 = 0 && bits (nth w 0) 14 2 = 0 && 1 ≤ n && n ≤ 16 && g.edges.length ≤ 32
    && nth w 1 < 2 ^ 18 && g.kernelBytes % 64 = 0 && ringOk (nth w 2) && ringOk (nth w 3) && nth w 4 < 2 ^ 15
    && (g.jbLog2 = 0 || (4 ≤ g.jbLog2 && g.jbLog2 ≤ 9 && 64 ≤ g.jbSlotBytes && g.jbSlotBytes ≤ 1536 && 1 ≤ g.jbView && g.jbView ≤ 16))
    && ((List.range 11).all fun j => nth w (5 + j) = 0)
    && ((List.range 32).all fun e => if e < g.edges.length then edgeOk n (nth w (16 + e)) else nth w (16 + e) = 0)
    && ((List.range 16).all fun i => if i < n then nodeOk g w i else (List.range 32).all fun j => nth w (48 + 32 * i + j) = 0)

/-! ## Costs (R228-R231) -/

/-- C per 10 ms and F per frame of a library kernel, C in quarters of an instruction-time. -/
def kernelCost (kid tail mirror : Nat) (wb : Bool) : Nat × Nat :=
  match kid with
  | 0x01 => (4 * 4500, 2500)
  | 0x02 => (4 * 2500, 1500)
  | 0x03 => (4 * 6500, 2000)
  | 0x04 => (4 * 2500, 2000)
  | 0x05 => (4 * 9000, 2000)
  | 0x06 => (4 * 11000, 2000)
  | 0x07 => (4 * 16000, 3500)
  | 0x08 => (4 * 62000, 5000)
  | 0x09 => (4 * 12000, 2500)
  | 0x0A => (4 * 14000, 2500)
  | 0x0B => (4 * 18000, 5000)
  | 0x0C => (4 * 70000, 7000)
  | 0x0D => (4 * 60000, 6000)
  | 0x0E => (4 * 300000, 8000)
  | 0x0F => (4 * 45000, 5500)
  | 0x10 => (4 * 280000, 8000)
  | 0x11 => (4 * 8000 + 1125 * tail, 4000)
  | 0x12 => (4 * 14000 + 4 * 1125 * tail, 4500)
  | 0x13 => (4 * 14000, 3000)
  | 0x14 => (4 * 20000, 3500)
  | 0x15 => (4 * 4000, 1500)
  | 0x16 => (4 * (if mirror = 2 then (if wb then 27000 else 11000) else if wb then 8000 else 4000), 2000)
  | _ => (0, 0)

/-- Units of an expert graph in half units: 1.25 W ÷ 80,000 rounded up to a half unit (R229, R231). -/
def graphUnits (g : Graph) (tail mirror frame : Nat) : Nat :=
  let k := g.nodes.map fun nd => if customKid nd.kid then (4 * nd.cost, nd.fixed) else kernelCost nd.kid tail mirror g.wb
  let c := k.foldl (fun acc x => acc + x.1) 0
  let f := k.foldl (fun acc x => acc + x.2) 0
  -- 8 W, as F counts twice, once or half per 10 ms
  let w8 := 2 * c + (if frame = 0 then 16 else if frame = 1 then 8 else 4) * f
  (w8 + 255999) / 256000

/-! ## Layout of a context (R193-R195) -/

def jbStoreBytes (g : Graph) : Nat := if g.jbLog2 = 0 then 0 else 2 ^ g.jbLog2 * (16 + g.jbSlotBytes)
def ringBytes (r : RingShape) : Nat := 4 * (r.samples + 1) * r.frames
/-- The receive ring with its timestamp entries (R332). -/
def rxBytes (g : Graph) : Nat := ringBytes g.rx + 16 * g.rx.frames
def edgeBytes (g : Graph) : Nat := 4 * g.edges.foldl (fun acc e => acc + e.depth * e.words) 0

/-- Where the kernel descriptors stand: after the NODES area, 64 bytes for each node (the model's own place). -/
def descOfs (i : Nat) : Nat := 4544 + 64 * i

/-- The areas in the order GRAPH, NODES, descriptors, EDGES, slot store, rings, KERNEL (the model's own order). -/
def areasOf (g : Graph) : Areas :=
  let r (n : Nat) : Nat := roundUp n 64
  let edges := 5568
  let jb := edges + r (edgeBytes g)
  let rx := jb + r (jbStoreBytes g)
  -- the receive ring leaves room for the timestamp entries of R332
  let tx := rx + r (rxBytes g)
  let kernel := tx + r (ringBytes g.tx)
  ⟨256, 2496, edges, if g.jbLog2 = 0 then 0 else jb, if g.rx.frames = 0 then 0 else rx, if g.tx.frames = 0 then 0 else tx, kernel,
    kernel + g.kernelBytes⟩

/-- Words of a jitter-buffer view (R205). -/
def viewWords (g : Graph) : Nat := 4 + g.jbView * (4 + (g.jbSlotBytes + 2) / 3)

/-- An extent as the device places it: length in words, and the context offset (R195). -/
def placeExtent (g : Graph) (a : Areas) (x : Extent) : Extent :=
  match x.kind with
  | 1 => { x with ofs := a.kernel + x.ofs }
  | 2 =>
    let e := g.edges.getD x.edge ⟨0, 0, 0, 0, 0⟩
    { x with len := e.req * e.words, ofs := a.edges + 4 * (g.edges.take x.edge).foldl (fun acc y => acc + y.depth * y.words) 0 }
  | 3 => { x with pack := false, len := g.rx.samples + 1, ofs := a.rx }
  | 4 => { x with pack := false, len := viewWords g, ofs := a.jb }
  | 5 => { x with pack := false, len := g.tx.samples + 1, ofs := a.tx }
  | 6 => { x with pack := false, len := 2, ofs := a.jb }
  | _ => { x with len := 0 }

/-- A graph with its extents placed and the kernel descriptor as read extent 0 (R195, R217). -/
def placeGraph (g : Graph) : Graph :=
  let a := areasOf g
  { g with nodes := g.nodes.zipIdx.map fun e =>
    { e.1 with rd := ⟨1, false, 0, 16, descOfs e.2⟩ :: e.1.rd.map (placeExtent g a), wr := e.1.wr.map (placeExtent g a) } }

/-- The read area of a node: each extent with its place and length in CSM words (R198). -/
def GNode.readPlan (nd : GNode) : List (Extent × Nat × Nat) :=
  layExtents 0 (nd.rd.map fun x => (x, if x.kind = 0 then 0 else extWords x x.len))

/-- Words of an area that a plan needs. -/
def planWords (p : List (Extent × Nat × Nat)) : Nat := p.foldl (fun acc x => max acc (if x.2.2 = 0 then acc else x.2.1 + x.2.2)) 0

/-- Each map fits the read area and the write window of a cluster (R195). -/
def State.mapsFit (s : State) (c : Nat) (g : Graph) : Bool :=
  g.nodes.all fun nd => decide (planWords nd.readPlan ≤ s.readWords c)
    && decide (planWords (layExtents 0 (nd.wr.map fun x => (x, if x.kind = 0 then 0 else extWords x x.len))) ≤ s.writeWords c)

/-! ## Parameters (R222) -/

/-- Default words 40-47 of a profile. -/
def defaultParams (profile : Nat) : List Nat :=
  let tail := if profile = 1 ∨ profile = 3 then 128 else 64
  let enc := if profile = 3 then 2 else 0
  [tail + 2 * 2 ^ 8 + 2 ^ 10 + 6 * 2 ^ 12 + 70 * 2 ^ 16, 0x100000, 0, 0x7F, 101 + 2 ^ 7, 20 + 40 * 2 ^ 8 + 120 * 2 ^ 16 + 2 ^ 24,
    enc + 2 ^ 5 + 24 * 2 ^ 8 + 2 ^ 14, (Config.defaultPt profile).toNat]

/-- The ranges of words 40-63 (R222) for a profile. -/
def paramsOk (profile : Nat) (w : List Nat) : Bool :=
  let x (i : Nat) : Nat := nth w (i - 40)
  let tail := bits (x 40) 0 8
  let dtd := bits (x 40) 12 4
  let cng := bits (x 40) 16 8
  let gain (v : Nat) : Bool := decide (-240 ≤ sgn 12 v) && decide (sgn 12 v ≤ 120)
  let lo := bits (x 45) 0 8
  let ini := bits (x 45) 8 8
  let hi := bits (x 45) 16 8
  let enc := bits (x 46) 0 4
  let kb := bits (x 46) 8 6
  x 40 < 2 ^ 24 && (tail = 0 || (8 ≤ tail && tail ≤ 128 && tail % 8 = 0)) && bits (x 40) 8 2 ≠ 3 && 3 ≤ dtd && dtd ≤ 12
    && 40 ≤ cng && cng ≤ 90 && 1 ≤ x 41 && x 41 ≤ 0x400000 && bits (x 42) 12 4 = 0 && x 42 < 2 ^ 28 && gain (bits (x 42) 0 12)
    && gain (bits (x 42) 16 12) && x 43 < 2 ^ 12 && bit (x 43) 7 = false && x 44 < 2 ^ 10 && 96 ≤ bits (x 44) 0 7
    && bits (x 44) 8 2 ≠ 3 && x 45 < 2 ^ 25 && lo ≤ 200 && lo ≤ ini && ini ≤ hi && hi ≤ 250 && lo ≤ hi
    && x 46 < 2 ^ 15 && bits (x 46) 6 2 = 0 && (if profile = 3 then enc ≤ 8 else enc = 0) && 8 ≤ kb && kb ≤ 40
    && x 47 < 2 ^ 15 && bit (x 47) 7 = false && ((List.range 16).all fun i => x (48 + i) = 0)

/-- The jitter-buffer limit of R222; a channel without slot store has none. -/
def jbLimitOk (g : Graph) (frame : Nat) (w45 : Nat) : Bool :=
  g.jbLog2 = 0 || decide (bits w45 16 8 ≤ (2 ^ g.jbLog2 - 1) * (5 * 2 ^ frame))

/-- The frame lengths of R230: profile, IP form, frame code. -/
def profileFrame (profile : Nat) (ip : Bool) (frame : Nat) : Bool :=
  match profile with
  | 1 => if ip then frame = 1 || frame = 2 else frame ≤ 2
  | 2 => frame = 1 || frame = 2
  | 3 => frame = 2
  | 4 => frame = 2
  | _ => false

def profileUnits (profile : Nat) : Nat := nth [0, 4, 6, 20, 16] profile
/-- Granules of a basic context (R192). -/
def profileGranules (profile : Nat) : Nat := nth [0, 10, 12, 24, 24] profile

/-! ## Opening (R30-R33, R192-R195, R542) -/

/-- What an open asks for. -/
structure OpenReq where
  chan : Nat
  profile : Nat
  ip : Bool
  frame : Nat
  mirror : Nat
  stagger : Nat
  cluster : Option Nat
  granules : Nat
  units : Nat
  graph : List Nat
  lantern : Bool
deriving DecidableEq, Repr

/-- The checks of steps 3 to 7 of R542: the status of a refusal, or the home cluster and the context's address. -/
def State.openChecks (s : State) (r : OpenReq) : Except Nat (Nat × Nat) :=
  if (s.chan r.chan).isSome then .error 6
  else
    let home := match r.cluster with
      | some c => if s.clusterCounts c then some c else none
      | none => s.homeChoice
    match home with
    | none => .error 6
    | some c =>
      if s.chans.length ≥ s.chanLimit ∨ s.committed + r.units > s.budget then .error 7
      else if r.mirror = 2 ∧ (s.chans.filter fun x => x.2.mirror = 2).length ≥ 1024 then .error 7
      else match s.ctxPlace r.granules with
        | none => .error 7
        | some a => .ok (c, a)

/-- Compass time of the first frame boundary after now (R34): multiples of the frame length plus the stagger slot's
offset of 125 µs each. -/
def firstBoundary (now frame stagger : Nat) : Nat :=
  let o := stagger * 125000
  let p := frameNs frame
  if now < o then o else o + ((now - o) / p + 1) * p

/-- The area table of a context header (R194). -/
def areaTable (g : Graph) (a : Areas) : List Nat :=
  let e (kind len ofs : Nat) : List Nat := if len = 0 then [0, 0] else [kind + (len + 63) / 64 * 2 ^ 16, ofs]
  e 1 2240 a.graph ++ e 2 2048 a.nodes ++ e 3 (edgeBytes g) a.edges ++ e 4 (jbStoreBytes g) a.jb ++ e 5 (rxBytes g) a.rx
    ++ e 6 (ringBytes g.tx) a.tx ++ e 7 g.kernelBytes a.kernel ++ [0, 0]

/-- The record words of a node (R195). -/
def nodeRecordWords (nd : GNode) : List Nat :=
  let ext (x : Extent) : List Nat := if x.kind = 0 then [0, 0]
    else [x.kind + b2n x.pack * 16 + x.edge % 32 * 2 ^ 5 + x.len % 65536 * 2 ^ 16, x.ofs]
  [0, 0, 0, 0] ++ nd.rd.flatMap ext ++ nd.wr.flatMap ext ++ List.replicate 12 0

/-- The kernel descriptor of a node (R217); `version` is the library's version word. -/
def kernelDesc (version : Nat) (a : Areas) (nd : GNode) : List Nat :=
  let lib := libraryKid nd.kid
  let o (i v : Nat) : Nat := if lib then (Config.kernelOverlay nd.kid i).toNat else v
  [nd.kid + bits version 8 16 * 2 ^ 8, bits (o 0 nd.src) 0 24, bits (o 1 nd.len) 0 15, bits (o 2 nd.dest) 0 15,
    bits (o 3 nd.entry) 0 15, a.kernel + nd.stateOfs] ++ List.replicate 10 0

/-- Writes a new context (R193-R195, R200, R203, R222): `ps` are words 40-63. -/
def State.writeContext (s : State) (n : Nat) (c : Chan) (buf ps : List Nat) : State :=
  let g := c.graph
  let a := c.areas
  let s := s.zeroRange c.ctx (c.granules * granuleBytes)
  let ring (r : RingShape) (o : Nat) : List Nat := if r.frames = 0 then [0, 0, 0, 0] else [o, r.frames + r.samples * 2 ^ 16, 0, 0]
  let jb := if g.jbLog2 = 0 then List.replicate 8 0
    else [a.jb, g.jbLog2 + g.jbSlotBytes / 64 * 2 ^ 4 + g.jbView * 2 ^ 10, 0, 0, 0, 0, 0, 0]
  let head := [c.word0 n, c.word1, c.granules, 0] ++ areaTable g a ++ ring g.rx a.rx ++ ring g.tx a.tx ++ jb ++ [0, 0, 0, 0] ++ ps
  let s := s.setBytes c.ctx (wordsLe head)
  let s := s.setBytes (c.ctx + a.graph) (wordsLe buf)
  g.nodes.zipIdx.foldl (fun s e =>
    let s := s.setBytes (c.ctx + a.nodes + 128 * e.2) (wordsLe (nodeRecordWords e.1))
    s.setBytes (c.ctx + descOfs e.2) (wordsLe (kernelDesc (s.romRead c.home 0).toNat a e.1))) s

/-- Opens a channel for which the checks have passed. -/
def State.openChannel (s : State) (r : OpenReq) (home ctx : Nat) : State :=
  let g := placeGraph (graphOf r.graph)
  let c : Chan := {
    st := .opened, profile := r.profile, ipForm := r.ip, expert := r.profile = 0, frame := r.frame, mirror := r.mirror,
    home := home, stagger := r.stagger, units := r.units, ctx := ctx, granules := r.granules, graph := g, areas := areasOf g,
    edges := [], nextB := firstBoundary s.nowNs r.frame r.stagger, frames := 0, ticked := 0, mediaDue := none, tomb := false, tombs := [], ran := [],
    closer := none, inFlight := 0, lantern := r.lantern, stats := [], rtpSent := none }
  let ps := if r.profile = 0 then List.replicate 24 0 else defaultParams r.profile ++ List.replicate 16 0
  let s : State := { s with th := { s.th with flows := mdel (mdel s.th.flows (2 * r.chan)) (2 * r.chan + 1) } }
  (((s.setChan r.chan c).writeContext r.chan c r.graph ps).budgetCheck)

/-- SLOTS_LOG2 of a basic profile's graph; a store that the graph has holds the profile's default JB_MAX_MS of 120 (DEDUCED from R222
and R230). -/
def profileSlots (profile : Nat) (ip : Bool) (frame mirror : Nat) : Nat :=
  match Config.profileStore profile ip frame mirror with
  | some k => max (4 + k.val) (if frame = 0 then 5 else 4)
  | none => 0

/-- The graph that the device builds for a basic profile (R230). -/
def profileWords (profile : Nat) (ip : Bool) (frame mirror : Nat) : List Nat :=
  (List.range 560).map fun i =>
    let v := (Config.profileGraph profile ip frame mirror i).toNat
    if i = 4 then v / 16 * 16 + profileSlots profile ip frame mirror else v

/-- A request for a basic profile (R230), as CH_OPEN and the Lantern open make it. -/
def basicReq (n profile : Nat) (ip : Bool) (frame mirror stagger : Nat) (lantern : Bool) : OpenReq :=
  ⟨n, profile, ip, frame, mirror, stagger, none, profileGranules profile, profileUnits profile,
    profileWords profile ip frame mirror, lantern⟩

/-- The content checks of a basic open: its parameters against its slot store (R222). -/
def basicOk (r : OpenReq) : Bool := jbLimitOk (graphOf r.graph) r.frame (nth (defaultParams r.profile) 5)

/-! ## Closing (R40, R173, R363) -/

/-- The channel of a cell job that Rucksack holds is gone: queued jobs are discarded and running ones stopped (R363). -/
def State.orphanCells (s : State) (n : Nat) : State :=
  let mine (j : RkJob) : Bool := j.host.isNone && j.chan = n
  let run := s.rk.eng.filter fun e => mine e.2
  let k := (s.rk.cellQ.filter mine).length + run.length
  let q := s.rk.cellQ.filter fun j => !mine j
  let en := s.rk.eng.filter fun e => !mine e.2
  let s : State := { s with rk := { s.rk with cellQ := q, eng := en } }
  let s := run.foldl (fun s e => s.setFld (F.RK_ENG_STATE e.1) 0) s
  if k = 0 then s else (s.incS F.RK_CNT_ORPHANS k).setFlag F.RK_EVENT_ORPHAN true

/-- Cancels every entry of a channel: queued ones are removed, running ones carry the cancel bit (R173). -/
def State.cancelEntries (s : State) (n : Nat) : State :=
  let mine (e : Entry) : Bool := e.kind = .node && e.chan = n
  let gone := s.queued.filter mine
  let s := s.dropQueued mine
  let s := gone.foldl (fun s e => s.endCancelled e none) s
  s.runs.foldl (fun s r => if mine r.2.e then s.setCore r.1 { s.core r.1 with run := some { r.2 with e := { r.2.e with cancel := true } } } else s) s

/-- Starts to close a channel (R40). -/
def State.beginClose (s : State) (n : Nat) (o : Option Origin) : State :=
  match s.chan n with
  | none => s
  | some c =>
    let s := s.putChan n { c with st := .closing, tomb := true, closer := o, mediaDue := none }
    (s.cancelEntries n).orphanCells n

/-- Every node of a closing channel is done and every released item has left (R40). -/
def State.closeDone (s : State) (n : Nat) (c : Chan) : Bool :=
  !s.runs.any (fun r => r.2.e.kind = .node && r.2.e.chan = n) && c.inFlight = 0
    && !s.resvs.any fun r => match r with
      | .token n' _ _ _ _ => n' = n
      | .item f _ _ _ _ _ => f / 2 = n
      | .work _ _ _ _ _ => false

/-- Removes a channel: its units, granules, flows and tombstones go with it. -/
def State.removeChan (s : State) (n : Nat) : State :=
  let s : State := { s with chans := mdel s.chans n }
  let s : State := { s with th := { s.th with flows := mdel (mdel s.th.flows (2 * n)) (2 * n + 1) } }
  s.budgetCheck

/-! ## Rebuilding and rehoming (R177, R451) -/

/-- The host-job entry of FW_JOB (R394); the job keeps its cluster and its 16 descriptor words in `work`. -/
def fwEntry (j : Job) (cluster : Nat) : Entry :=
  { id := 0, kind := .hostJob, chan := 0, node := 0, frame := 0, isVoid := false, level := 5, cluster := cluster,
    since := 0, slot := none, ready := true, cancel := false, replays := 0, barred := [], handle := j.handle, w1 := 0, w2 := 0,
    w3 := 0, desc := (j.work.drop 1).map (BitVec.ofNat 32), crc := none, restage := false, jbMarked := [], preempt := none, asked := [] }

/-- The cluster in service with the fewest entries queued at level 5 (R394). -/
def State.fwChoice (s : State) : Option Nat :=
  ((List.range s.clusters).filter s.clusterIn).foldl (fun acc c =>
    match acc with
    | none => some c
    | some b => if (s.queueAt (8 * c + 5)).length < (s.queueAt (8 * b + 5)).length then some c else acc) none

/-- Posts again the firmware jobs that have lost their entry (R177 step 4): to their cluster while it serves, otherwise to
the one with the fewest entries at level 5; a job that no cluster takes ends with REFUSED. -/
def State.repost (s : State) : State :=
  let has (h : Nat) : Bool := s.queued.any (fun e => e.kind = .hostJob && e.handle = h)
    || s.runs.any fun r => r.2.e.kind = .hostJob && r.2.e.handle = h
  ((s.liveJobs 0x69).filter fun j => !has j.handle).foldl (fun s j =>
    let c := if s.clusterIn (nth j.work 0) then some (nth j.work 0) else s.fwChoice
    match c with
    | some c => s.pushEntry (fwEntry j c)
    | none => s.endJob j.handle 2 0 []) s

/-- The nodes of the channels homed in a cluster that are ready, ordered by deadline, then channel, then node. -/
def State.readyNodes (s : State) (c : Nat) : List (Nat × Nat) :=
  let l := s.chans.flatMap fun x =>
    if x.2.home = c ∧ x.2.tomb = false then
      ((List.range x.2.graph.nodes.length).filter x.2.nodeReady).map fun nd => (x.2.deadline (x.2.nodeFrame nd), x.1, nd)
    else []
  (sortBy (fun a b => a.1 < b.1) l).map fun e => e.2

/-- Step 3 of R177: entries for every ready node of the channels homed in a cluster. -/
def State.rebuildEntries (s : State) (c : Nat) : State := (s.readyNodes c).foldl (fun s e => s.makeReady e.1 [e.2]) s

/-- Steps 1 and 2 of R177: the queued entries of a cluster are discarded, and the pool places that running nodes reserve for
its queues. Answers the number of work entries lost. -/
def State.dropCluster (s : State) (c : Nat) : State × Nat :=
  let mine (e : Entry) : Bool := e.cluster = c
  let lost := (s.queued.filter fun e => mine e && e.kind = .work).length
  let s := s.dropQueued mine
  let free (r : Resv) : Resv := match r with
    | .token n e a l true => .token n e a l ((s.resvQueue r).all fun q => q / 8 ≠ c)
    | r => r
  (s.runs.foldl (fun s r => s.setCore r.1 { s.core r.1 with run := some { r.2 with res := r.2.res.map free } }) s, lost)

/-- Rehomes a channel (R451 step 3). -/
def State.rehome (s : State) (n : Nat) : State :=
  match s.chan n, s.homeChoice with
  | some c, some h =>
    let s := (s.putChan n { c with home := h }).raise .info 0x30 n 0x0305 n h 0
    s.makeReady n (List.range c.graph.nodes.length)
  | _, _ => s

/-- The running entries of a cluster are aborted without replay; tokens stay on their edges (R451 step 2). -/
def State.abortCluster (s : State) (c : Nat) : State :=
  (coresOf c).foldl (fun s k =>
    match (s.core k).run with
    | none => s.withdraw k
    | some r =>
      let s := (s.withdraw k).abortRun k
      (if r.e.cancel then s.endCancelled r.e (some k) else s).blockCore k) s

/-- A cluster leaves service (R451). -/
def State.clusterOut (s : State) (c : Nat) : State :=
  if s.clusterIn c = false then s
  else
    let s := s.setFld F.RL_SPARES_CL_IN_SERVICE (setBits (s.fld F.RL_SPARES_CL_IN_SERVICE) c 1 0)
    let s := s.setFld (F.PW_CL_STATE c) 0
    let s := (s.setFlag F.RL_EVENT_CLUSTER_OUT true).raise .warn 0x20 c (0x0140 + F.RL_EVENT_CLUSTER_OUT.lo) c 0 0
    let s := (s.dropCluster c).1.abortCluster c
    let rb := s.th.rebuild.filter fun x => x.1 ≠ c
    let s : State := { s with th := { s.th with rebuild := rb } }
    let s := if (List.range s.clusters).any s.clusterIn then
        ((s.chans.filter fun x => x.2.home = c).map (·.1)).foldl State.rehome s
      else s.fatalDevice 0x00 0x0181 c 0
    s.repost.budgetCheck

/-- The clusters that hold the same image as a cluster, itself left out (R443). -/
def State.sameImage (s : State) (c : Nat) : List Nat :=
  (List.range s.clusters).filter fun d => d ≠ c && s.clusterIn d && mget 0 s.mem.image d = mget 0 s.mem.image c

end Sys2Proof.Machine
end

