-- ==== Sys2Proof/Machine/Bitstream.lean ====
section
/-! DEFINITION. Commands and events of the bitstream ports (R313-R335). -/
namespace Sys2Proof.Machine

/-! ## Clocks (R313) -/

/-- BS_CLOCK_LOST: no rising edge of BS_CLK[k] for 2 µs. -/
def execBsClockLost (k : Fin 8) (s : State) : Host.Outcome State Fault Refusal :=
  if s.pairLost k = false ∧ (s.groupActive (2 * k.val) ∨ s.groupActive (2 * k.val + 1)) then
    let s := s.setFld F.BS_STATUS_CLK_LOST (setBits (s.fld F.BS_STATUS_CLK_LOST) k 1 1)
    let s := (s.setFlag (F.BS_GRSMP_NO_CLOCK (2 * k.val)) true).setFlag (F.BS_GRSMP_NO_CLOCK (2 * k.val + 1)) true
    .next ((s.incS F.BS_LOSS_CNT_LOSSES 1).event F.BS_EVENT_CLK_LOST .warn k k 0 0)
  else .next s

/-- CLK_BACK: 64 edges without a gap; both groups of the pair reset at the next edge. -/
def execClkBack (k : Fin 8) (s : State) : Host.Outcome State Fault Refusal :=
  if s.pairLost k then
    let s := s.setFld F.BS_STATUS_CLK_LOST (setBits (s.fld F.BS_STATUS_CLK_LOST) k 1 0)
    let s := [2 * k.val, 2 * k.val + 1].foldl (fun s g => (s.setFlag (F.BS_GRSMP_NO_CLOCK g) (s.flag (F.BS_GRSMP_RATIO_ERR g))).localReset g) s
    .next (s.event F.BS_EVENT_CLK_BACK .info k k 0 0)
  else .next s

/-! ## Slots (R320, R321, R332) -/

/-- Sets a sticky flag of a slot with at most one INFO event per group and second (R320, R321). -/
def State.slotEvent (s : State) (g b : Nat) (ovl : Bool) : State :=
  let sec := s.elapsed / 1000000000 + 1
  let x := s.bsGroup g
  if ovl then
    let s := ((s.incS F.BS_CNT_OVERLOADS 1).setFlag (F.BS_CH_OVERLOAD b) true).setFlag (F.BS_GRSMP_OVERLOAD g) true
    if x.ovlSec = sec then s.setFlag F.BS_EVENT_OVERLOAD true
    else (s.setBsGroup g { x with ovlSec := sec }).event F.BS_EVENT_OVERLOAD .info g g b 0
  else
    let s := (s.incWrap F.BS_CNT_SLIPS 1 (s.flag F.BS_CTRL_SLIPS_WRAP_EVT)).setFlag (F.BS_CH_SLIP b) true
    if x.slipSec = sec then s.setFlag F.BS_EVENT_SLIP true
    else (s.setBsGroup g { x with slipSec := sec }).event F.BS_EVENT_SLIP .info g g b 0

/-- The timestamp entry of a timed channel's slot (R332). -/
def State.timedEntry (s : State) (b : Nat) (c : Chan) (cfg : ChainCfg) (f flags : Nat) (start : Nat) : State :=
  if s.flag (F.BS_CH_TIMED b) then
    let r := c.graph.rx
    let len := bits (s.ctxWord c 12) 16 12 * 64
    if ringBytes r + 16 * r.frames ≤ len then
      let t := start - cfg.tauRx
      s.setBytes (c.ctx + s.ctxWord c 20 + ringBytes r + 16 * (f % r.frames))
        (wordsLe [f % 16384 + flags % 32 * 2 ^ 14 + 2 ^ 31, t % 2 ^ 32, t / 2 ^ 32 % 2 ^ 32, cfg.tauRx % 2 ^ 24])
    else s.setFlag (F.BS_CH_TS_SHORT b) true
  else s

/-- BS_SLOT_COMPLETE: the receive slot of the last boundary of the channel that bitstream channel `b` feeds; `bits` are the
modulator bits since the channel's last slot. -/
def execBsSlotComplete (b : BitVec 8) (bits : List Bool) (s : State) : Host.Outcome State Fault Refusal :=
  let b := b.toNat
  let g := b / 16
  let n := s.fld (F.BS_CH_CHANNEL b)
  match s.chan n with
  | none => .next s
  | some c =>
    match c.mediaDue with
    | none => .next s
    | some f =>
      let cfg := s.groupCfg g
      if s.flag (F.BS_CH_RX_EN b) = false ∨ s.groupActive g = false ∨ s.mode = 10 then .next s
      else if ringFits c c.graph.rx cfg.fs = false then .next (s.setFlag (F.BS_CH_MISMATCH b) true)
      else
        let start := c.nextB - 2 * frameNs c.frame
        let first := start * cfg.fs / 1000000
        let r := s.runSlot b g cfg bits first (frameSamples c.frame cfg.fs) (frameSamples c.frame cfg.fs * s.incOf g / 2 ^ 22)
        let s : State := { s with bs := { s.bs with chain := mput s.bs.chain b r.1 } }
        let flags := r.2.2
        let s := s.timedEntry b c cfg f flags start
        let a := s.ringSlot c 20 c.graph.rx.frames c.graph.rx.samples f
        let s := s.writeRing c 20 c.graph.rx f (r.2.1.map fun v => unsgn 24 v)
        let s := s.setWord a (f % 16384 + flags % 32 * 2 ^ 14 + 2 ^ 31)
        let s := if flags / 4 % 2 = 1 then s.slotEvent g b true else s
        let s := if flags / 8 % 2 = 1 then s.slotEvent g b false else s
        let s := match s.chan n with
          | some c => s.setChan n { c with mediaDue := none }
          | none => s
        .next (s.sourceTokens n 17 f)

/-! ## Synchronising resets (R325, R326, R328) -/

/-- SYNC_IN_EDGE: a rising edge on SYNC_IN. -/
def execSyncInEdge (s : State) : Host.Outcome State Fault Refusal :=
  .next (if s.flag F.BS_CTRL_SYNC_IN_EN then s.syncRequest s.nowNs 1 else s)

/-- SYNC_CMD: BS_CTRL.SYNC_CMD. -/
def execSyncCmd (s : State) : Host.Outcome State Fault Refusal := .next (s.syncRequest s.nowNs 3)

/-- The source that a reset records: SYNC_IN, then message, then command (R326). -/
def syncSource (l : List (Nat × Nat)) : Nat × Nat :=
  match l with
  | [] => (0, 0)
  | e :: r => r.foldl (fun a x => if x.2 < a.2 then x else a) e

/-- SYNC_RESET: the first group clock edge at or after the instant of the requests that are due. A group without clock resets
when it returns. -/
def execSyncReset (s : State) : Host.Outcome State Fault Refusal :=
  let due := s.bs.sync.filter fun e => e.1 ≤ s.nowNs
  if due = [] then .next s
  else
    let rest := s.bs.sync.filter fun e => s.nowNs < e.1
    let s : State := { s with bs := { s.bs with sync := rest } }
    let src := syncSource due
    let gs := (List.range 16).filter fun g => s.groupActive g && s.flag (F.BS_GCFG_SYNC_EN g)
    let s := gs.foldl (fun s g => if s.pairLost (g / 2) then s.localReset g else s.groupReset g) s
    let s := ((s.setFld F.BS_SYNC_NS_LO_NS src.1).setFld F.BS_SYNC_NS_HI_NS (src.1 / 2 ^ 32)).setFld F.BS_SYNC_STAT_LAST_SRC src.2
    .next ((s.incW F.BS_SYNC_STAT_COUNT 1).event F.BS_EVENT_SYNC .info 0 src.2 (src.1 % 2 ^ 32) (src.1 / 2 ^ 32))

/-- GROUP_LOCAL_RESET: the next edge of a group that owes a reset (R326). -/
def execGroupLocalReset (g : Fin 16) (s : State) : Host.Outcome State Fault Refusal :=
  .next (if (s.bsGroup g).localDue ∧ s.groupActive g ∧ s.pairLost (g.val / 2) = false then s.groupReset g else s)

/-- BS_SETTLE_END: the settling outputs of a group have been delivered (R328). -/
def execBsSettleEnd (g : Fin 16) (s : State) : Host.Outcome State Fault Refusal :=
  let c := s.groupCfg g
  if s.flag (F.BS_GRSMP_SETTLING g) ∧ (s.bsGroup g).resetAt + c.settle * 1000000 / c.fs ≤ s.nowNs then
    .next ((s.setFld F.BS_STATUS_SETTLING (setBits (s.fld F.BS_STATUS_SETTLING) g 1 0)).setFlag (F.BS_GRSMP_SETTLING g) false)
  else .next s

/-! ## Mappings, coefficients and swaps (R322-R324) -/

/-- BS_CH_WRITE. -/
def execBsChWrite (b : BitVec 8) (v : BitVec 32) (s : State) : Host.Outcome State Fault Refusal := .next (s.bsChWrite b.toNat v.toNat)

/-- BS_COEF_DATA: a read, or a write of a value, then TAP advances (R323, R336). -/
def State.coefAccess (s : State) (w : Option Nat) : State :=
  let g := s.fld F.BS_COEF_SEL_GROUP
  let b := s.flag F.BS_COEF_SEL_BANK
  let t := s.fld F.BS_COEF_SEL_TAP
  let s := match w with
    | none => { s with lastRead := mget 0 s.bs.coef (128 * g + 64 * b2n b + t) }
    | some v => if s.bankBusy g b then s.event F.BS_EVENT_COEF_REFUSED .warn g g (b2n b) t else s.setCoef g b t v
  s.setFld F.BS_COEF_SEL_TAP (t + 1)

/-- BS_COEF_DATA_ACCESS. -/
def execBsCoefDataAccess (write : Bool) (v : BitVec 32) (s : State) : Host.Outcome State Fault Refusal :=
  .next (s.coefAccess (if write then some v.toNat else none))

/-- SWAP: BS_GFIR.SWAP. -/
def execSwap (g : Fin 16) (target : Bool) (s : State) : Host.Outcome State Fault Refusal := .next (s.swapRequest g target none)

/-- SWAP_DONE: the last output of a fade. -/
def execSwapDone (g : Fin 16) (s : State) : Host.Outcome State Fault Refusal :=
  match (s.bsGroup g).fade with
  | none => .next s
  | some f => .next (if f.first + s.fld (F.BS_GFIR_FADE_LEN g) + 1 ≤ s.nextFir g then s.endFade g else s)

/-! ## The ratio tracker and the ratio block (R318, R319) -/

/-- What an epoch's measurement finds of a group: the ratio, and the offset from the grid in 1/64 of an input sample. -/
def State.trackGroup (s : State) (g ratio offset : Nat) : State :=
  let x := s.bsGroup g
  let bad := ratio < 2 ^ 21 || ratio > 2 ^ 23
  if s.groupActive g = false ∨ s.pairLost (g / 2) then s
  else if bad then
    let s := s.setBsGroup g { x with goodRun := 0 }
    if s.flag (F.BS_GRSMP_RATIO_ERR g) then s
    else
      let s := (s.setFlag (F.BS_GRSMP_RATIO_ERR g) true).setFlag (F.BS_GRSMP_NO_CLOCK g) true
      (s.incS F.BS_LOSS_CNT_RATIO_ERRS 1).event F.BS_EVENT_RATIO_ERR .warn g g 0 0
  else if s.flag (F.BS_GRSMP_RATIO_ERR g) then
    if x.goodRun + 1 ≥ 8 then
      ((s.setBsGroup g { x with goodRun := 0 }).setFlag (F.BS_GRSMP_RATIO_ERR g) false |>.setFlag (F.BS_GRSMP_NO_CLOCK g) false).localReset g
    else s.setBsGroup g { x with goodRun := x.goodRun + 1 }
  else
    let steer := !(s.flag (F.BS_GCFG_EXPERT g) && s.flag (F.BS_GCFG_TRACK g))
    let inc := if s.pairGen (g / 2) then (s.groupCfg g).nominalInc else ratio
    let s := if steer then s.setFld (F.BS_GRSMP_INC g) inc else s
    let inn := if offset ≤ 1 then x.inRun + 1 else 0
    let out := if offset > 4 then x.outRun + 1 else 0
    let s := s.setBsGroup g { x with inRun := inn, outRun := out }
    if inn ≥ 8 then s.setFlag (F.BS_GRSMP_TRK_LOCK g) true
    else if out ≥ 2 then s.setFlag (F.BS_GRSMP_TRK_LOCK g) false else s

/-- The ratio block's word of a group (R319). -/
def State.ratioWord (s : State) (g : Nat) : State :=
  if s.flag (F.BS_GCFG_EXPERT g) ∧ s.flag (F.BS_GCFG_TRACK g) ∧ s.flag (F.BS_GCFG_INC_SRC g) then
    let w := s.word (s.fld F.BS_RATIO_ADDR_ADDR * 16 + 4 * g)
    let x := s.bsGroup g
    if w / 2 ^ 24 = x.seq then s
    else
      let s := s.setBsGroup g { x with seq := w / 2 ^ 24 }
      let inc := w % 2 ^ 24
      if inc < 2 ^ 21 ∨ inc > 2 ^ 23 then s.raise .warn 0x0C g 0x0180 g inc 0 else s.setFld (F.BS_GRSMP_INC g) inc
  else s

end Sys2Proof.Machine
end

