-- ==== Sys2Proof/Machine/MgOps.lean ====
section
/-! DEFINITION. The operations of the management port (R269-R282): its queue, the messages it builds, and listen-only. -/
namespace Sys2Proof.Machine

def State.setMg (s : State) (x : Mgmt) : State := { s with mg := x }

/-- A management frame of kind `i` of MG_CNT is counted: class S but for COLLISIONS (R283). -/
def State.mgCount (s : State) (i : Nat) : State :=
  if i = 3 then s.incWrap (F.MG_CNT_COUNT 3) 1 (s.flag F.MG_CTRL_COL_WRAP_EVT) else s.incS (F.MG_CNT_COUNT i) 1

/-- The port's own address: bytes 0-1 in ADDR_HI and 2-5 in ADDR_LO (R283). -/
def State.mgAddr (s : State) : Nat := s.fld F.MG_ADDR_HI_ADDR_HI * 2 ^ 32 + s.fld F.MG_ADDR_LO_ADDR_LO

/-- Listen-only holds the queue (R280). -/
def State.listenOnly (s : State) : Bool := s.flag F.MG_STATUS_LISTEN_ONLY

/-- Listen-only begins or begins anew (R280). -/
def State.startListen (s : State) : State :=
  let s := s.setFlag F.MG_STATUS_LISTEN_ONLY true
  s.setMg { s.mg with listenUntil := s.elapsed + s.fld F.MG_LISTEN_LISTEN_MS * 1000000 }

/-- Listen-only ends: by its time or by a write of 1 to MG_LISTEN.END (R280). -/
def State.endListen (s : State) : State :=
  if s.listenOnly then (s.setFlag F.MG_STATUS_LISTEN_ONLY false).setFlag F.MG_EVENT_LISTEN_END true else s

/-- Sets MG_STATUS.TXQ_DEPTH. -/
def State.mgDepth (s : State) : State := s.setFld F.MG_STATUS_TXQ_DEPTH s.mg.queue.length

/-- Where a FENCE or FENCE_ACK enters: at the head, behind any such message there and behind a frame that has started
(R272). -/
def mgEnter (started : Bool) (f : MgFrame) (q : List MgFrame) : List MgFrame :=
  if !f.fence then q ++ [f]
  else
    let keep := if started then q.take 1 else []
    let rest := if started then q.drop 1 else q
    keep ++ (rest.takeWhile (·.fence)) ++ [f] ++ rest.dropWhile (·.fence)

/-- Requests the transmission of a frame, `bytes` long before its FCS (R272). The outcome of a request that is not queued
completes its command. -/
def State.mgSend (s : State) (bytes : List Byte) (fence : Bool) (o : Option Origin) : State :=
  if bytes.length + 4 > 1522 then s.completeOpt o 5 0 []
  else if s.flag F.MG_CTRL_EN = false ∨ s.mode = 9 then s.completeOpt o 6 0 []
  else if s.mg.queue.length ≥ 16 then (s.mgCount 7).completeOpt o 2 0 []
  else (s.setMg { s.mg with queue := mgEnter s.mg.started.isSome ⟨padFrame bytes, fence, s.elapsed, o⟩ s.mg.queue }).mgDepth

/-- The 48-byte payload of a message that this device sends (R276): it sets SRC, SEQ, EPOCH and TAG itself (R279). -/
def State.mgPayload (s : State) (type dst : Nat) (all : Bool) (at_ arg : Nat) : List Byte :=
  let body := beBytes 1 1 ++ beBytes 1 type ++ beBytes 1 (b2n all) ++ beBytes 1 (s.fld F.TW_EPOCH_CUR)
    ++ beBytes 2 (s.fld F.TW_ID_DEV_ID) ++ beBytes 2 dst ++ beBytes 4 s.mg.sendSeq ++ beBytes 8 at_ ++ beBytes 4 arg
    ++ List.replicate 8 0
  body ++ (List.range 16).map (Config.mgTag s.tw.keyCur body)

/-- Builds and queues a message (R276, R279). -/
def State.mgMessage (s : State) (type dst : Nat) (all : Bool) (at_ arg : Nat) (o : Option Origin) : State :=
  let frame := beBytes 6 Config.mgDestination.toNat ++ beBytes 6 s.mgAddr ++ beBytes 2 0x88B5 ++ s.mgPayload type dst all at_ arg
  let s := s.setMg { s.mg with sendSeq := (s.mg.sendSeq + 1) % 2 ^ 32 }
  s.mgSend frame (type = 3 || type = 4) o

/-- The first frame of the queue ends with a status: DONE, TIMEOUT, or the job-specific 0x40 or 0x41 (R271, R272). -/
def State.mgEnd (s : State) (status : Nat) : State :=
  match s.mg.queue with
  | [] => s
  | f :: r =>
    let s := (s.setMg { s.mg with queue := r, started := none, collisions := 0, backoff := none }).mgDepth
    let s := if status = 0 then s else s.mgCount 7
    s.completeOpt f.origin status 0 []

/-- Empties the queue with a status (R282). -/
def State.mgFlush (s : State) (status : Nat) : State :=
  let q := s.mg.queue
  let s := (s.setMg { s.mg with queue := [], started := none, collisions := 0, backoff := none }).mgDepth
  q.foldl (fun s f => s.completeOpt f.origin status 0 []) s

end Sys2Proof.Machine
end

