-- ==== Sys2Proof/Machine/FabOps.lean ====
section
/-! DEFINITION. The operations of the fabric logic (R406-R431): link records and states, send queues, the checks of a received
frame, mirroring, SENT notes, fencing and the slots of a twin. -/
namespace Sys2Proof.Machine

/-! ## Links (R412, R413) -/

def Link.init : Link :=
  { words := [], state := 0, queue := [], unacked := [], seq := 0, ack := 0, credit := 0, ackSent := 0, txc := 0, rxCur := none,
    rxPrev := none, heard := 0, ackAt := 0, serial := 0, peerMode := 0, peerRole := 0, peerSlots := [], attached := false,
    authSec := 0, hbAt := none }
def State.link (s : State) (l : Nat) : Link := mget Link.init s.tw.link l
def State.setLink (s : State) (l : Nat) (x : Link) : State := { s with tw := { s.tw with link := mset Link.init s.tw.link l x } }

/-- A word of a link record; WINDOW is 32 and RTO_US 200 after reset (R412). -/
def Link.word (x : Link) (i : Nat) : Nat := (mfind x.words i).getD (if i = 12 then 32 + 200 * 256 else 0)
def Link.peer (x : Link) : Nat := bits (x.word 0) 0 14
def Link.en (x : Link) : Bool := bit (x.word 0) 14
def Link.v6 (x : Link) : Bool := bit (x.word 0) 15
def Link.ports (x : Link) : Nat := bits (x.word 0) 16 4
def Link.payloadMax (x : Link) : Nat := bits (x.word 11) 16 16
def Link.window (x : Link) : Nat := bits (x.word 12) 0 7
def Link.rtoUs (x : Link) : Nat := bits (x.word 12) 8 16
/-- Frames that the 256 KB receive buffer of a link holds (R415). -/
def Link.grant (x : Link) : Nat := if x.payloadMax = 0 then 0 else 262144 / x.payloadMax

/-- The fabric takes part (R406). -/
def State.fabOn (s : State) : Bool := s.flag F.TW_ID_VALID && s.flag F.TW_CTRL_EN

/-- The enabled link of a peer. -/
def State.linkOf (s : State) (peer : Nat) : Option Nat := firstBelow 64 fun l => (s.link l).en && (s.link l).peer = peer

/-- Counts in TW_CNT (R439): the counters marked W wrap. -/
def State.twCount (s : State) (i n : Nat) : State :=
  if i ∈ [0, 1, 11, 12, 14, 15, 16, 18, 20, 25, 28] then s.incWrap (F.TW_CNT_COUNT i) n (s.flag F.TW_CTRL_CNT_WRAP_EVT)
  else s.incS (F.TW_CNT_COUNT i) n

/-- Moves a link to a state: LINKS_UP and the UP bits follow. -/
def State.linkState (s : State) (l st : Nat) : State :=
  let s := s.setLink l { s.link l with state := st }
  let f := if l < 32 then F.TW_LINKS_LO_UP else F.TW_LINKS_HI_UP
  let s := s.setFld f (setBits (s.fld f) (l % 32) 1 (b2n (st = 2)))
  s.setFld F.TW_STATUS_LINKS_UP (popCount (s.fld F.TW_LINKS_LO_UP) 32 + popCount (s.fld F.TW_LINKS_HI_UP) 32)

/-- SEQ and ACK start again at 0 and unacknowledged frames are discarded (R413). -/
def Link.restart (x : Link) (now : Nat) : Link :=
  { x with unacked := [], seq := 0, ack := 0, ackSent := 0, ackAt := now, attached := false }

/-! ## Sending (R415, R416) -/

/-- TYPE of a payload (R408). -/
def fabType : FabBody → Nat
  | .heartbeat .. => 1
  | .mirror .. => 2
  | .readReq .. => 3
  | .readResp .. => 3
  | .writeReq .. => 4
  | .writeResp .. => 4
  | .migrate .. => 5
  | .credit => 6
  | .fence .. => 7

def fabSequenced (b : FabBody) : Bool := 2 ≤ fabType b && fabType b ≤ 5

/-- Length of a MIRROR record; that of a TABLE record's content is taken as its words (the model's own). -/
def mirrorLen : MirrorRec → Nat
  | .checkpoint _ _ _ _ _ data => 8 + 64 + 16 + data.length
  | .template _ _ w => 8 + 4 + 4 * w.length
  | .srtp _ w => 8 + 4 + 4 * w.length
  | .flow _ w => 8 + 4 + 4 * w.length
  | .slot _ _ => 8 + 8
  | .ingress _ _ b => 8 + 12 + b.length
  | .sent p => 8 + 4 * p.length
  | _ => 16

/-- LENGTH of a payload. -/
def fabLen : FabBody → Nat
  | .heartbeat .. => 32
  | .mirror r => r.foldl (fun acc x => acc + mirrorLen x) 0
  | .readReq .. => 16
  | .readResp _ _ d => 8 + d.length
  | .writeReq _ _ d => 16 + d.length
  | .writeResp .. => 8
  | .migrate (.checkpoint _ _ _ _ b _) => 24 + b.length
  | .migrate (.ingress _ _ _ b) => 16 + b.length
  | .migrate _ => 32
  | .credit => 0
  | .fence _ => 0

/-- The port by which a frame leaves (R416): the lowest of PORTS that is up and holds the role, else either role. -/
def State.fabPort (s : State) (x : Link) (ty : Nat) : Option Nat :=
  let up (p : Nat) : Bool := bit x.ports p && s.flag (F.EP_CTRL_EN p) && s.flag (F.EP_STATUS_LINK p)
  let role := if ty = 2 ∨ ty = 5 then 2 else 3
  match firstBelow 4 (fun p => up p && bit (s.fld (F.EP_CTRL_ROLES p)) role) with
  | some p => some p
  | none => firstBelow 4 fun p => up p && (bit (s.fld (F.EP_CTRL_ROLES p)) 2 || bit (s.fld (F.EP_CTRL_ROLES p)) 3)

/-- Hands a frame of a link to a port, with the link's next transmission count (R408, R409). -/
def State.fabWire (s : State) (l p seq : Nat) (retx : Bool) (b : FabBody) (note : Nat) : State :=
  let x := s.link l
  let h : FabHdr := {
    src := s.fld F.TW_ID_DEV_ID, dst := x.peer, seq := seq, ack := x.ack, epoch := s.fld F.TW_EPOCH_CUR, credit := x.grant,
    txc := x.txc, retx := retx }
  let s := (s.setLink l { x with txc := (x.txc + 1) % 2 ^ 64, ackSent := x.ack }).twCount 0 1
  let s := if fabType b = 2 then s.twCount 14 1 else s
  let len := (if bit (x.word 13) 12 then 18 else 14) + (if x.v6 then 40 else 20) + 8 + 32 + fabLen b + 16
  let f : TxFrame := {
    kind := 2, pri := s.fld F.TW_NET_PCP, since := s.elapsed, flow := 0, seq := 0, rtp := false, csum := false, srtp := 0,
    suite := 0, alt := false, hdr := [], payload := [], tsReq := false, tsEntry := false, len := wireLen len, origin := none,
    link := l, fab := some (h, b), note := note }
  if wireLen len > s.fld (F.EP_RX_CFG_MAX_FRAME p) then s.txDrop p else s.txAdmit p f

/-- No fabric frame leaves: the device's own ID is duplicated (R407), or egress has stopped (R474). -/
def State.fabMute (s : State) : Bool := s.flag F.TW_STATUS_DUP_ID || s.gl.egressOff || s.mode = 9 || s.mode = 0

/-- Enters a frame into a link's send queue (R416). -/
def State.fabQueue (s : State) (l : Nat) (b : FabBody) (note : Nat) : State :=
  let x := s.link l
  let f : FabFrame := ⟨none, b, note⟩
  let q := match b with
    | .fence _ => (x.queue.takeWhile fun y => fabType y.body = 7) ++ [f] ++ x.queue.dropWhile fun y => fabType y.body = 7
    | _ => x.queue ++ [f]
  s.setLink l { x with queue := q }

/-- The head of a link's queue leaves when window, credit and an up port allow (R415, R416). -/
def State.fabSend (s : State) (l : Nat) : State :=
  let x := s.link l
  match x.queue with
  | [] => s
  | f :: r =>
    let resp : Bool := match f.body with
      | .fence b => b
      | _ => false
    if x.en = false ∨ s.fabOn = false ∨ s.flag F.TW_STATUS_DUP_ID ∨ (s.fabMute ∧ resp = false) then s
    else if fabSequenced f.body ∧ x.unacked.length ≥ x.window then s
    else if fabSequenced f.body ∧ x.unacked.length ≥ x.credit then s.twCount 6 1
    else
      match s.fabPort x (fabType f.body) with
      | none => s.twCount 29 1
      | some p =>
        if fabSequenced f.body then
          (let y := { x with
             queue := r
             unacked := x.unacked ++ [{ f with seq := some x.seq }]
             seq := (x.seq + 1) % 2 ^ 32
             ackAt := if x.unacked = [] then s.elapsed else x.ackAt }
           (s.setLink l y).fabWire l p x.seq false f.body f.note)
        else (s.setLink l { x with queue := r }).fabWire l p x.seq false f.body f.note

/-- Sends every unacknowledged frame again from the oldest, with RETX (R415). -/
def State.fabResend (s : State) (l : Nat) : State :=
  let x := s.link l
  let s := s.setLink l { x with ackAt := s.elapsed }
  x.unacked.foldl (fun s f =>
    match s.fabPort (s.link l) (fabType f.body), f.seq with
    | some p, some q => (s.twCount 2 1).fabWire l p q true f.body f.note
    | _, _ => s) s

/-! ## Mirroring on the primary (R420-R425) -/

/-- The link to this device's twin, when mirroring runs. -/
def State.twinLink (s : State) : Option Nat :=
  if s.flag F.TW_TWIN_EN ∧ s.fabOn ∧ s.flag F.TW_STATUS_DUP_ID = false then
    match s.linkOf (s.fld F.TW_TWIN_TWIN) with
    | some l => if (s.link l).state = 2 ∧ (s.link l).attached then some l else none
    | none => none
  else none

/-- Sends a change to the twin as a MIRROR record (R420). -/
def State.mirror (s : State) (r : MirrorRec) : State :=
  match s.twinLink with
  | some l => s.fabQueue l (.mirror [r]) 0
  | none => s

/-- The lowest-numbered port that holds a media role. -/
def State.rolePort (s : State) (role : Nat) : Option Nat := firstBelow 4 fun p => bit (s.fld (F.EP_CTRL_ROLES p)) role

/-- Mirrors a template of a port's table, for each plane of which the port's table is the one sent (R420). -/
def State.mirrorTemplate (s : State) (p t : Nat) : State :=
  let s := if s.rolePort 0 = some p then s.mirror (.template false t (s.template p 0 t)) else s
  if s.rolePort 1 = some p then s.mirror (.template true t (s.template p 1 t)) else s

/-- The class by which the twin treats a channel: one on a bitstream port and a Lantern channel count as NONE (R421). -/
def State.mirrorClass (s : State) (n : Nat) (c : Chan) : Nat :=
  if c.lantern ∨ (List.range 256).any (fun b =>
    (s.flag (F.BS_CH_RX_EN b) || s.flag (F.BS_CH_TX_EN b)) && decide (s.fld (F.BS_CH_CHANNEL b) = n)) then 0 else c.mirror

/-- The sync of R420 is queued: templates, SRTP contexts, flow entries, slot table and the open channels. A full checkpoint of
each channel follows from its mirror node. -/
def State.syncTwin (s : State) (l : Nat) : State :=
  let s := s.setLink l { s.link l with attached := true }
  let tpl (s : State) (role : Nat) : State := match s.rolePort role with
    | none => s
    | some p => (mkeys s.chans).foldl (fun s n => [2 * n, 2 * n + 1].foldl (fun s t =>
        let w := s.template p role t
        if bit (nth w 0) 0 then
          (s.mirror (.template (role = 1) t w)).mirror (.srtp (bits (nth w 0) 16 14) (s.srtpCtx (bits (nth w 0) 16 14)))
        else s) s) s
  let s := tpl (tpl s 0) 1
  let s := (List.range 4096).foldl (fun s b => (s.ftEntries b).foldl (fun s i =>
    let w := s.ftWords b i
    if bits (nth w 10) 13 3 ≤ 1 then
      (let s := s.mirror (.flow true w)
       if bits (nth w 10) 13 3 = 0 then s.mirror (.srtp (bits (nth w 11) 0 14) (s.srtpCtx (bits (nth w 11) 0 14))) else s)
    else s) s) s
  let s := s.td.slots.foldl (fun s e => s.mirror (.slot e.1 e.2)) s
  s.chans.foldl (fun s e => if e.2.mirror ≠ 0 then s.mirror (.opened e.1 e.2.granules (s.mirrorClass e.1 e.2)) else s) s

/-- Sends the gathered SENT notes in one MIRROR frame (R425). -/
def State.flushNotes (s : State) : State :=
  match s.tw.notes with
  | [] => s
  | l =>
    let s' : State := { s with tw := { s.tw with notes := [] } }
    match s.twinLink with
    | some k => s'.fabQueue k (.mirror [.sent l]) s.tw.noteNext
    | none => { s' with tw := { s'.tw with noteSent := s.tw.noteNext } }

/-- Places the SENT note of a packet; answers one past its number (R425). -/
def State.placeNote (s : State) (n seq : Nat) : State × Nat :=
  let k := s.tw.noteNext + 1
  ({ s with tw := { s.tw with
      notes := s.tw.notes ++ [(n, seq)]
      notesSince := if s.tw.notes = [] then s.elapsed else s.tw.notesSince
      noteNext := k } }, k)

/-! ## Fencing (R428) -/

/-- The device is told to stop egress and enter ISOLATE; a device already stopped answers at once (R278, R428). -/
def State.answerFence (s : State) : State :=
  if s.gl.egressOff then
    let mg := s.tw.mgFence
    let fb := s.tw.fabFence
    let s : State := { s with tw := { s.tw with mgFence := [], fabFence := [] } }
    let s := mg.foldl (fun s d => s.mgMessage 4 d false s.nowNs 0 none) s
    fb.foldl (fun s l => s.fabQueue l (.fence true) 0) s
  else s

def State.fenced (s : State) : State := (s.trigger 10).answerFence

/-- Sends FENCE for a slot on the fabric and the management bus (R428). -/
def State.sendFence (s : State) (i : Nat) : State :=
  let peer := s.fld (F.TW_PRI_CFG_PEER i)
  let s := match s.linkOf peer with
    | some l => if s.flag F.TW_CTRL_FENCE_FABRIC then (s.fabQueue l (.fence false) 0).twCount 22 1 else s
    | none => s
  let s := (s.mgMessage 3 peer false s.nowNs 0 none).twCount 22 1
  let s := s.setTwSlot i { s.twSlot i with fencedAt := s.elapsed }
  s.setFlag F.TW_EVENT_FENCE_SENT true

/-! ## Slots of a twin (R418, R427) -/

def State.slotState (s : State) (i : Nat) : Nat := s.fld (F.TW_PRI_STAT_STATE i)
def State.setSlotState (s : State) (i v : Nat) : State := s.setFld (F.TW_PRI_STAT_STATE i) v

/-- The slot that names a primary. -/
def State.slotOf (s : State) (peer : Nat) : Option Nat :=
  firstBelow 4 fun i => s.flag (F.TW_PRI_CFG_EN i) && s.fld (F.TW_PRI_CFG_PEER i) = peer

/-- A READY slot enters SUSPECT (R427, R428). -/
def State.suspect (s : State) (i : Nat) : State :=
  if s.slotState i = 2 then
    let s := (s.setSlotState i 3).event F.TW_EVENT_PEER_LOST .warn i (s.fld (F.TW_PRI_CFG_PEER i)) 0 0
    let s := s.setTwSlot i { s.twSlot i with suspectAt := s.elapsed, fenceAt := s.nowNs, slow := false, cutoff := none }
    s.sendFence i
  else s

/-- The fence of a slot is confirmed by a path: it enters REPLAY, and the device leaves TWIN for ACT_MODE (R427-R429). -/
def State.confirmFence (s : State) (i path : Nat) : State :=
  if s.slotState i = 3 ∧ s.actSlot = none ∧ s.mode = 5 then
    let s := (s.setSlotState i 4).setFlag F.TW_EVENT_FENCE_CONFIRMED true
    let s := ((s.setFld F.TW_TKO_PATH path).setFld F.TW_TKO_SLOT i).setFld F.TW_STATUS_ACT_SLOT i
    let lost : Bool := match s.linkOf (s.fld (F.TW_PRI_CFG_PEER i)) with
      | some l => (s.link l).state ≠ 2
      | none => true
    let x := s.twSlot i
    let s := s.setTwSlot i { x with cutoff := if path = 2 ∧ lost then some x.fenceAt else none }
    s.trigger (s.fld (F.TW_PRI_CFG_ACT_MODE i))
  else s

/-- A slot's shadow state is discarded. -/
def State.clearSlot (s : State) (i : Nat) : State :=
  ((s.setTwSlot i TwSlot.init).setFld (F.TW_PRI_STAT_MIRRORED i) 0).setFld (F.TW_PRI_STAT_EXACT i) 0

/-- The link to a slot's primary enters LOST (R427). -/
def State.slotLinkLost (s : State) (i : Nat) : State :=
  if s.slotState i = 2 then (if s.flag (F.TW_PRI_CFG_AUTO i) then s.suspect i else s)
  else if s.slotState i = 1 then (s.clearSlot i).raise .warn 0x09 i 0x0183 (s.fld (F.TW_PRI_CFG_PEER i)) 0 0
  else s

/-- A link is lost (R413): counted, reported, and PROBING again at once. -/
def State.linkLost (s : State) (l : Nat) : State :=
  let x := s.link l
  let s := (s.twCount 8 1).event F.TW_EVENT_LINK_LOST .warn l x.peer 0 0
  let s := (s.linkState l 1).setLink l { (s.link l).restart s.elapsed with state := 1 }
  let s := { s with tw := { s.tw with notes := if s.flag F.TW_TWIN_EN ∧ x.peer = s.fld F.TW_TWIN_TWIN then [] else s.tw.notes,
                                      noteSent := if s.flag F.TW_TWIN_EN ∧ x.peer = s.fld F.TW_TWIN_TWIN then s.tw.noteNext else s.tw.noteSent } }
  match s.slotOf x.peer with
  | some i => s.slotLinkLost i
  | none => s

/-- A link comes up (R413); a SUSPECT slot of that peer returns to READY (R427). -/
def State.linkUp (s : State) (l serial : Nat) : State :=
  let s := s.setLink l { s.link l with serial := serial }
  let s := (s.linkState l 2).event F.TW_EVENT_LINK_UP .info l (s.link l).peer 0 0
  match s.slotOf (s.link l).peer with
  | some i => if s.slotState i = 3 then (s.setSlotState i 2).raise .info 0x09 i (0x0100 + F.TW_EVENT_PEER_LOST.lo) (s.link l).peer 0 0 else s
  | none => s

/-! ## Receiving (R410, R415) -/

/-- A frame that fails authentication (R410). -/
def State.fabAuthFail (s : State) (l : Nat) : State :=
  let s := (s.twCount 3 1).setFlag F.TW_EVENT_AUTH_FAIL true
  let sec := s.elapsed / 1000000000 + 1
  if (s.link l).authSec = sec then s
  else (s.setLink l { s.link l with authSec := sec }).raise .warn 0x09 l (0x0100 + F.TW_EVENT_AUTH_FAIL.lo) (s.link l).peer 0 0

/-- The device's own ID is duplicated (R407). -/
def State.ownDup (s : State) : State :=
  if s.flag F.TW_STATUS_DUP_ID then s.twCount 9 1
  else ((s.setFlag F.TW_STATUS_DUP_ID true).twCount 9 1).event F.TW_EVENT_DUP_ID .fatal 0 (s.fld F.TW_ID_DEV_ID) 0 0

/-- EPOCH is the current one, or the previous one within PREV_MS of the switch (R410): whether it is the previous one. -/
def State.fabEpoch (s : State) (e : Nat) : Option Bool :=
  if e = s.fld F.TW_EPOCH_CUR then some false
  else match s.tw.switchAt with
    | some t => if (e + 1) % 256 = s.fld F.TW_EPOCH_CUR ∧ s.elapsed ≤ t + s.fld F.TW_EPOCH_PREV_MS * 1000000 then some true else none
    | none => none

/-- The checks of R410 and the ACK and CREDIT of an accepted frame: the state, and the link when the frame passes. -/
def State.fabCheck (s : State) (f : FabIn) : State × Option Nat :=
  let h := f.hdr
  let own := s.fld F.TW_ID_DEV_ID
  if s.fabOn = false then (s, none)
  else if f.wellFormed = false then (s.twCount 4 1, none)
  else if h.dst ≠ own then (s.twCount 4 1, none)
  else if h.src = own then
    (match s.fabEpoch h.epoch with
     | none => (s.twCount 10 1, none)
     | some _ => if f.tagOk then (s.ownDup, none) else ((s.twCount 3 1).setFlag F.TW_EVENT_AUTH_FAIL true, none))
  else match s.linkOf h.src with
    | none => (s.twCount 4 1, none)
    | some l =>
      match s.fabEpoch h.epoch with
      | none => (s.twCount 10 1, none)
      | some prev =>
        let x := s.link l
        let last := if prev then x.rxPrev else x.rxCur
        let fresh : Bool := match last with
          | none => true
          | some t => decide (h.txc > t)
        if fresh = false ∨ f.tagOk = false then (s.fabAuthFail l, none)
        else
          let un := x.unacked.filter fun y => match y.seq with
            | some q => decide ((q + 2 ^ 32 - h.ack % 2 ^ 32) % 2 ^ 32 < 2 ^ 31)
            | none => true
          let y := { x with
            rxCur := if prev then x.rxCur else some h.txc
            rxPrev := if prev then some h.txc else x.rxPrev
            heard := s.elapsed
            unacked := un
            credit := h.credit
            ackAt := if un.length < x.unacked.length then s.elapsed else x.ackAt }
          ((s.setLink l y).twCount 1 1, some l)

/-- A sequenced frame is taken only in order (R415). -/
def State.fabSeq (s : State) (l : Nat) (h : FabHdr) : State × Bool :=
  let x := s.link l
  if h.seq = x.ack then (s.setLink l { x with ack := (x.ack + 1) % 2 ^ 32 }, true)
  else ((s.twCount 5 1).fabQueue l .credit 0, false)

end Sys2Proof.Machine
end

