-- ==== Sys2Proof/Machine/PortRx.lean ====
section
/-! DEFINITION. Reception of a frame by a packet port (R240-R249, R261-R264) and the twin's ingress log (R426). -/
namespace Sys2Proof.Machine

/-! ## Latencies and times (R264) -/

/-- RX_LAT and TX_LAT of a rate and FEC: SPEED 0 for 10 Gb/s, FEC_ACT 0 none, 1 Clause 74, 2 Clause 108. -/
def portLat (speed fec : Nat) : Nat × Nat :=
  if speed = 1 then (if fec = 0 then (64, 40) else if fec = 1 then (128, 48) else (224, 72))
  else (if fec = 0 then (96, 64) else (256, 80))

/-- The latencies applied: by the resolved mode with AUTO, otherwise as written. -/
def State.lat (s : State) (p : Nat) : Nat × Nat :=
  if s.flag (F.EP_TS_CORR_AUTO p) then portLat (s.fld (F.EP_STATUS_SPEED p)) (s.fld (F.EP_STATUS_FEC_ACT p))
  else (s.fld (F.EP_TS_CORR_RX_LAT p), s.fld (F.EP_TS_CORR_TX_LAT p))

/-- Compass time in nanoseconds with the 48-bit seconds. -/
def State.time1588 (s : State) : Nat := s.cp.sec * 1000000000 + s.cp.ns

/-- The next pause unit of 512 bit times, in hundredths of a nanosecond (R261). -/
def quantum (speed : Nat) : Nat := if speed = 1 then 2048 else 5120

/-! ## Receive records (R248) -/

/-- What a receive record says, but for its times. -/
structure RxRec where
  len : Nat
  flags : Nat
  disp : Nat
  srtp : Nat
  jb : Nat
  pcp : Nat
  hostf : Nat
  chan : Nat
  entry : Nat
  seq : Nat
deriving DecidableEq, Repr

def RxRec.words (r : RxRec) (t : Nat) : List Nat :=
  [min r.len 16383 + r.flags, r.disp + r.srtp * 2 ^ 4 + r.jb * 2 ^ 7 + r.pcp * 2 ^ 10 + r.hostf * 2 ^ 13 + r.chan * 2 ^ 18,
    r.entry, r.seq, t % 1000000000, t / 1000000000 % 2 ^ 32, t / 1000000000 / 2 ^ 32 % 65536, 0]

/-- Sets a flag of word 0 by its bit. -/
def RxRec.set (r : RxRec) (i : Nat) (b : Bool) : RxRec := if b then { r with flags := setBits r.flags i 1 1 } else r

/-! ## Parsing (R245) -/

/-- What parsing finds: the protocol fields that the later steps need. -/
structure Parsed where
  etype : Nat
  vid : Option Nat
  pcp : Nat
  v4 : Bool
  v6 : Bool
  udp : Bool
  frag : Bool
  ipErr : Bool
  udpErr : Bool
  proto : Option Nat
  dst : List Nat
  src : List Nat
  dport : Nat
  sport : Nat
  payload : List Byte
deriving DecidableEq, Repr

def be32s (l : List Byte) : Nat → List Nat
  | 0 => []
  | n + 1 => beNat (l.take 4) :: be32s (l.drop 4) n

/-- The UDP part of an IP payload. -/
def parseUdp (p : Parsed) (v6 : Bool) (addrs ip : List Byte) : Parsed :=
  let len := get16 ip 4
  let sum := get16 ip 6
  let dg := ip.take len
  let bad := ip.length < 8 || decide (len < 8) || decide (len > ip.length)
  let sumBad := if sum = 0 then v6 else decide (sum ≠ udpSum v6 addrs (put16 dg 6 0))
  { p with udp := true, udpErr := bad || sumBad, dport := get16 ip 2, sport := get16 ip 0, payload := dg.drop 8 }

/-- Parses a frame without its FCS: at most one 0x8100 tag, then IPv4 or IPv6 and UDP. -/
def parseFrame (l : List Byte) : Parsed :=
  let tag := get16 l 12 = 0x8100
  let at_ := if tag then 18 else 14
  let tci := get16 l 14
  let p : Parsed := {
    etype := get16 l (at_ - 2), vid := if tag then some (tci % 4096) else none, pcp := if tag then tci / 8192 else 0, v4 := false,
    v6 := false, udp := false, frag := false, ipErr := false, udpErr := false, proto := none, dst := [], src := [], dport := 0,
    sport := 0, payload := [] }
  let ip := l.drop at_
  if p.etype = 0x0800 then
    let b0 := (ip.getD 0 0).toNat
    let ihl := b0 % 16
    let total := get16 ip 2
    let p := { p with
      v4 := true, proto := some (ip.getD 9 0).toNat, frag := get16 ip 6 % 0x4000 ≠ 0
      src := [beNat (slice ip 12 4), 0, 0, 0], dst := [beNat (slice ip 16 4), 0, 0, 0] }
    let err := ip.length < 20 || decide (b0 / 16 ≠ 4) || decide (ihl < 5) || decide (total > ip.length) || decide (total < 4 * ihl)
      || decide (inetSum (ip.take (4 * ihl)) ≠ 0)
    if err then { p with ipErr := true, udp := p.proto = some 17 }
    else if p.proto = some 17 then
      (if p.frag then { p with udp := true } else parseUdp p false (slice ip 12 8) ((ip.take total).drop (4 * ihl)))
    else p
  else if p.etype = 0x86DD then
    let next := (ip.getD 6 0).toNat
    let p := { p with v6 := true, proto := some next, src := be32s (slice ip 8 16) 4, dst := be32s (slice ip 24 16) 4 }
    if next = 17 ∧ ip.length ≥ 40 then parseUdp p true (slice ip 8 32) ((ip.drop 40).take (get16 ip 4)) else p
  else p

/-- The destination-address check (R243). -/
def State.daPass (s : State) (p : Nat) (l : List Byte) : Bool :=
  let da := beNat (l.take 6)
  let own := (List.range 8).any fun j =>
    s.flag (F.EP_UCAST_HI_VALID p j) && decide (s.fld (F.EP_UCAST_HI_ADDR_HI p j) * 2 ^ 32 + s.fld (F.EP_UCAST_LO_ADDR_LO p j) = da)
  own || decide (da = 2 ^ 48 - 1) || (bit (l.getD 0 0).toNat 0 && s.flag (F.EP_RX_CFG_MCAST_EN p)) || s.flag (F.EP_RX_CFG_PROMISC p)

/-! ## MAC control (R261, R262) -/

/-- The hold of a priority ends; HELD_MS keeps the longest (R268). -/
def State.endHold (s : State) (p i : Nat) : State :=
  let x := s.port p
  let s := match mfind x.heldFrom i with
    | some t => s.setFld (F.EP_PFC_STAT_HELD_MS p i) (max (s.fld (F.EP_PFC_STAT_HELD_MS p i)) (min 65535 ((s.elapsed - t) / 1000000)))
    | none => s
  s.setPort p { x with pauseEnd := mdel x.pauseEnd i, heldFrom := mdel x.heldFrom i }

/-- Priority `i` is paused for `q` quanta, or released by 0. -/
def State.pausePri (s : State) (p i q : Nat) : State :=
  let x := s.port p
  if q = 0 then s.endHold p i
  else
    let s := s.setPort p { x with
      pauseEnd := mput x.pauseEnd i (s.elapsed + q * quantum (s.fld (F.EP_STATUS_SPEED p)) / 100)
      heldFrom := if (mfind x.heldFrom i).isSome then x.heldFrom else mput x.heldFrom i s.elapsed }
    s.incS (F.EP_PFC_STAT_FRAMES p i) 1

/-- Shows the priorities held now. -/
def State.showPaused (s : State) (p : Nat) : State :=
  s.setFld (F.EP_STATUS_PAUSED p) ((mkeys (s.port p).pauseEnd).foldl (fun acc i => acc + 2 ^ i) 0)

/-- A MAC control frame: the state, and whether it was taken. -/
def State.macControl (s : State) (p : Nat) (l : List Byte) : State × Bool :=
  let op := get16 l 14
  if s.flag (F.EP_STATUS_PAUSE_IGNORED p) then (s, false)
  else if op = 0x0001 ∧ s.flag (F.EP_PAUSE_CFG_PAUSE_EN p) then
    (((List.range 8).foldl (fun s i => s.pausePri p i (get16 l 16)) s).showPaused p, true)
  else if op = 0x0101 ∧ s.flag (F.EP_PAUSE_CFG_PFC_EN p) then
    (((List.range 8).foldl (fun s i => if bit (get16 l 16) i then s.pausePri p i (get16 l (18 + 2 * i)) else s) s).showPaused p, true)
  else (s, false)

/-! ## Delivery -/

/-- Counts a received frame in the first of the counters 0-4 whose condition it meets (R266). -/
def State.rxCount (s : State) (p : Nat) (r : RxRec) : State :=
  let f (i : Nat) : Bool := bit r.flags i
  let k := if f 14 || f 15 then some 0 else if f 16 || f 17 then some 1 else if f 30 then some 2
    else if f 24 || f 25 then some 3 else if f 28 then some 4 else none
  match k with
  | some i => s.incS (F.EP_CNT_COUNT p i) 1
  | none => s

/-- Ends a reception: the record is counted and written to the receive status ring (R249). -/
def State.rxEnd (s : State) (p : Nat) (r : RxRec) (t : Nat) : State :=
  let s := s.rxCount p r
  if s.flag (F.EP_RX_CFG_RSR_EN p) then s.statRing p false (r.words t) else s

/-- Sends a frame to host software: DISP 2, or NOBUF (R244, R396). -/
def State.toHost (s : State) (p : Nat) (r : RxRec) (t : Nat) (l : List Byte) : State :=
  let h := s.hostDeliver p (({ r with disp := 2 }).words t) l
  if h.2 then h.1.rxEnd p { r with disp := 2 } t else s.rxEnd p (r.set 30 true) t

/-- The insertion of an RTP payload into a channel's store: the state and the outcome code. -/
def State.rtpInsert (s : State) (n : Nat) (c : Chan) (rtp : List Byte) (tag : Nat) (dec : Bool) : State × Nat :=
  let h := (rtpHdrLen rtp).getD 12
  let last := if dec then rtp.length else rtp.length - tag
  let padN := if bit (rtp.getD 0 0).toNat 5 then (rtp.getD (last - 1) 0).toNat else 0
  if h + padN > last then (s, 6)
  else
    let b1 := (rtp.getD 1 0).toNat
    let x := s.jbInsert n c (get16 rtp 2) (get32 rtp 4) (b1 % 128) (bit b1 7) ((rtp.take (last - padN)).drop h)
    (x.1, x.2.code)

/-- A channel takes packets: it is open, or migrates out and has not switched (R246, R434). -/
def Chan.takesPackets (c : Chan) : Bool := c.st = .opened || (c.st = .migOut && !c.tomb)

/-- rtp_in (R246): `ctx` the entry's SRTP context. -/
def State.rtpIn (s : State) (n ctx : Nat) (rtp : List Byte) (tagOk : Bool) (r : RxRec) : State × RxRec :=
  match s.chan n with
  | none => (s, { r with jb := 7 })
  | some c =>
    if c.takesPackets = false then (s, { r with jb := 7 })
    else
      let suite := bits (nth (s.srtpCtx ctx) 0) 0 4
      match rtpHdrLen rtp with
      | none => (s, { r with jb := 6 })
      | some h =>
        if rtp.length < h + suiteTag suite then (s, { r with jb := 6 })
        else
          let padBad : Bool := suite = 0 && bit (rtp.getD 0 0).toNat 5 && decide ((rtp.getD (rtp.length - 1) 0).toNat > rtp.length - h)
          if padBad then (s, { r with jb := 6 })
          else
            let r := { r with seq := get16 rtp 2 }
            if suite = 0 then
              let x := s.rtpInsert n c rtp 0 true
              (x.1, { r with jb := x.2, disp := if x.2 = 6 then 0 else 1 })
            else
              let o := srtpIn (s.srtpCtx ctx) rtp tagOk
              let r := { r with srtp := o.code }
              if o.code ≠ 1 then (s, r.set 28 true)
              else
                let x := (s.setSrtp ctx o.ctx).rtpInsert n c o.pkt 0 true
                (x.1, { r with jb := x.2, disp := if x.2 = 6 then 0 else 1 })

/-- The miss path (R247). -/
def State.missPath (s : State) (p : Nat) (r : RxRec) (t : Nat) (l : List Byte) (q : Parsed) : State :=
  let hit (i : Nat) : Bool :=
    s.flag (F.EP_HOSTF_EN p i) && (match s.fld (F.EP_HOSTF_KIND p i) with
      | 0 => s.fld (F.EP_HOSTF_VALUE p i) = q.etype
      | 1 => q.proto = some (s.fld (F.EP_HOSTF_VALUE p i) % 256)
      | 2 => q.udp && !q.frag && s.fld (F.EP_HOSTF_VALUE p i) = q.dport
      | _ => false)
  match firstBelow 16 hit with
  | some i =>
    let r := { r with hostf := i + 1 }
    if s.flag (F.EP_HOSTF_ACTION p i) then s.rxEnd p r t else s.toHost p r t l
  | none => if s.flag (F.EP_RX_CFG_MISS_TO_HOST p) then s.toHost p r t l else s.rxEnd p r t

/-! ## The twin's ingress log (R426) -/

/-- Bytes that the log of a slot holds, with a header of 16 bytes for each frame (the model's own). -/
def logBytes (l : List LogFrame) : Nat := l.foldl (fun acc f => acc + 16 + f.bytes.length) 0

/-- Drops the oldest frames until a log fits; the number dropped. -/
def logFit (room : Nat) : List LogFrame → List LogFrame × Nat
  | [] => ([], 0)
  | f :: r => if logBytes (f :: r) ≤ room then (f :: r, 0) else let x := logFit room r; (x.1, x.2 + 1)

/-- Writes a frame into a slot's ingress log. -/
def State.logIngress (s : State) (i t port : Nat) (l : List Byte) : State :=
  let x := s.twSlot i
  let y := logFit (s.fld (F.TW_PRI_LOG_LOG_PAGES i) * pageBytes) (x.log ++ [⟨t, port, l⟩])
  let s := (s.setTwSlot i { x with log := y.1 }).twCount 20 1
  let s := if y.2 = 0 then s else (s.twCount 21 y.2).setFlag F.TW_EVENT_LOG_OVERRUN true
  let first := (y.1.head?.map (·.time)).getD t
  s.setFld (F.TW_PRI_LAG_LOG_HELD_MS i) (min 65535 ((t - first) / 1000000))

/-- The slot whose primary a frame is addressed to, by UCAST_A and UCAST_B, while it logs. -/
def State.logSlot (s : State) (p : Nat) (l : List Byte) : Option Nat :=
  let da := beNat (l.take 6)
  let has (j : Nat) : Bool := s.fld (F.EP_UCAST_HI_ADDR_HI p j) * 2 ^ 32 + s.fld (F.EP_UCAST_LO_ADDR_LO p j) = da
  firstBelow 4 fun i =>
    s.flag (F.TW_PRI_CFG_EN i) && !s.flag (F.TW_PRI_CFG_ING_SRC i) && decide (1 ≤ s.slotState i) && decide (s.slotState i ≤ 4)
      && s.tw.installed ≠ some i
      && ((s.flag (F.TW_PRI_ADDR_A_EN i) && has (s.fld (F.TW_PRI_ADDR_UCAST_A i)))
        || (s.flag (F.TW_PRI_ADDR_B_EN i) && has (s.fld (F.TW_PRI_ADDR_UCAST_B i))))

/-! ## receive (R244) -/

/-- The channel that migrates out and has switched: the link and the target channel to which its ingress goes (R434). -/
def State.forwardTo (s : State) (n : Nat) : Option (Nat × Nat) :=
  (s.hi.jobs.find? fun j => j.op = 0x65 && j.step = 3 && nth j.args 0 % 8192 = n && j.st ≠ .held).map fun j => (nth j.work 0, nth j.args 1 / 65536 % 8192)

/-- A frame that parses without error, from its flow-table lookup on. -/
def State.rxRoute (s : State) (p : Nat) (r : RxRec) (t : Nat) (l : List Byte) (q : Parsed) (tagOk : Bool) : State :=
  if q.udp = false ∨ q.frag then s.missPath p r t l q
  else
    let k := s.ftLookup q.v6 q.dst q.src q.dport q.sport q.vid p
    let s := k.1
    match k.2 with
    | none => s.missPath p r t l q
    | some (b, i) =>
      let w := s.ftWords b i
      let n := bits (nth w 10) 0 13
      let r := { (r.set 26 true).set 27 (bit (nth w 0) 1) with chan := n, entry := b * 8 + i }
      let s := s.setWord (s.ftAddr b i + 48) (nth w 12 + 1)
      match bits (nth w 10) 13 3 with
      | 0 =>
        match s.forwardTo n with
        | some (lk, dst) => ((s.fabQueue lk (.migrate (.ingress dst t p l)) 0).twCount 28 1).rxEnd p { r with disp := 3 } t
        | none =>
          let x := s.rtpIn n (bits (nth w 11) 0 14) q.payload tagOk r
          let fwd : Bool := match s.chan n with
            | some c => c.mirror ≠ 0
            | none => false
          let s := if x.2.disp = 1 ∧ x.2.jb = 1 ∧ s.flag F.TW_TWIN_ING_FWD ∧ fwd then x.1.mirror (.ingress t p l) else x.1
          s.rxEnd p x.2 t
      | 2 => s.rxEnd p { r with disp := 3 } t
      | _ => s.toHost p r t l

/-- The whole of receive: `l` is the frame from its destination address to its FCS. -/
def State.receive (s : State) (p : Nat) (l : List Byte) (pcs overflow tagOk : Bool) : State :=
  let t := s.time1588 - (s.lat p).1
  let max := s.fld (F.EP_RX_CFG_MAX_FRAME p)
  let runt := l.length < 64
  let long := l.length > max
  let body := l.take (l.length - 4)
  let fcs := leNat (l.drop (l.length - 4)) ≠ (crc32 0xEDB88320 body).toNat
  let r : RxRec := ⟨l.length, 0, 0, 0, 0, 0, 0, 0, 0, 0⟩
  let r := ((((r.set 14 runt).set 15 long).set 18 long).set 16 fcs).set 17 pcs
  if overflow then s.rxEnd p (r.set 30 true) t
  else if runt ∨ long ∨ fcs ∨ pcs then
    (if s.flag (F.EP_RX_CFG_DELIVER_BAD p) then s.toHost p r t (l.take max) else s.rxEnd p r t)
  else if get16 l 12 = 0x8808 then
    let m := s.macControl p l
    m.1.rxEnd p { r.set 29 m.2 with disp := 4 } t
  else
    match s.logSlot p l with
    | some i => (s.logIngress i t p l).rxEnd p { r with disp := 3 } t
    | none =>
      if s.daPass p l = false then s.rxEnd p (r.set 31 true) t
      else
        let q := parseFrame body
        let r := { r with pcp := q.pcp }
        let r := (((((r.set 19 q.vid.isSome).set 20 q.v4).set 21 q.v6).set 22 q.udp).set 23 q.frag)
        let r := (r.set 24 q.ipErr).set 25 q.udpErr
        if q.ipErr ∨ q.udpErr then (if s.flag (F.EP_RX_CFG_DELIVER_BAD p) then s.toHost p r t l else s.rxEnd p r t)
        else s.rxRoute p r t l q tagOk

/-- Feeds a frame of the ingress log, or a forwarded one, to the jitter buffer of its channel under R244 and R204, for the channels
that a test takes (R430, R434). -/
def State.feedFrame (s : State) (p : Nat) (l : List Byte) (tagOk : Bool) (ok : Nat → Bool) : State :=
  let q := parseFrame (l.take (l.length - 4))
  if q.udp = false ∨ q.frag ∨ q.ipErr ∨ q.udpErr then s
  else
    let k := s.ftLookup q.v6 q.dst q.src q.dport q.sport q.vid p
    match k.2 with
    | none => k.1
    | some (b, i) =>
      let w := k.1.ftWords b i
      let n := bits (nth w 10) 0 13
      if bits (nth w 10) 13 3 = 0 ∧ ok n then (k.1.rtpIn n (bits (nth w 11) 0 14) q.payload tagOk ⟨l.length, 0, 0, 0, 0, 0, 0, 0, 0, 0⟩).1
      else k.1

end Sys2Proof.Machine
end

