-- ==== Sys2Proof/Machine/PortTx.lean ====
section
/-! DEFINITION. Transmission by a packet port (R242, R252-R265), its link (R235-R237, R267) and what a takeover's first packet
starts (R427, R432). -/
namespace Sys2Proof.Machine

/-! ## Takeover (R427, R432) -/

/-- The distinct source addresses of a plane's installed templates, as header bytes. -/
def State.sourceAddrs (s : State) (i : Nat) (planeB : Bool) : List (List Byte) :=
  let page := s.fld (F.TW_PRI_SHADOW_FIRST_PAGE i) + b2n planeB
  (mkeys (s.twSlot i).chans).foldl (fun acc n => [2 * n, 2 * n + 1].foldl (fun acc t =>
    let w := s.templateAt page t
    let h := ((w.drop 2).flatMap (leBytes 4)).take (bits (nth w 0) 8 7)
    let ip := ipStart h
    let src := if get16 h (ip - 2) = 0x86DD then slice h (ip + 8) 16 else slice h (ip + 12) 4
    let old := acc.any fun o =>
      let k := ipStart o
      (if get16 o (k - 2) = 0x86DD then slice o (k + 8) 16 else slice o (k + 12) 4) = src
    if bit (nth w 0) 0 && !old then acc ++ [h] else acc) acc) []

/-- The announcements of a plane begin with its first packet; addresses beyond 256 are left out with one WARN event. -/
def State.startAnnounce (s : State) (i : Nat) (planeB : Bool) : State :=
  let x := s.twSlot i
  let all := s.sourceAddrs i planeB
  let new := all.take (256 - x.announce.length)
  let l := x.announce ++ new.map fun h => ⟨planeB, h, 0, s.elapsed⟩
  let s := s.setTwSlot i { x with announce := l, planes := setBits x.planes (b2n planeB) 1 1 }
  let s := s.setFld (F.TW_PRI_ADDR_ADDRS i) l.length
  if new.length < all.length then s.raise .warn 0x09 i 0x0182 (s.fld (F.TW_PRI_CFG_PEER i)) 0 0 else s

/-- A packet of a taken-over channel leaves: the first makes the slot ACTING (R427). -/
def State.takeoverPacket (s : State) (n plane : Nat) : State :=
  match s.tw.installed with
  | none => s
  | some i =>
    let x := s.twSlot i
    if (mfind x.chans n).isNone then s
    else
      let s := if s.slotState i = 4 then
          (let s := ((s.setSlotState i 5).setFlag F.TW_EVENT_TAKEOVER_DONE true).twCount 24 1
           s.setFld F.TW_TKO_DURATION_US (min 4095 ((s.elapsed - x.suspectAt) / 1000)))
        else s
      if bit x.planes plane then s else s.startAnnounce i (plane = 1)

/-! ## The start and the end of a frame -/

/-- The highest-numbered priority that is not paused and has a frame (R253, R261). -/
def State.nextPri (s : State) (p : Nat) : Option Nat :=
  ((List.range 8).reverse).find? fun i => (mfind (s.port p).pauseEnd i).isNone && !(s.txQueue p i).isEmpty

/-- An item is discarded when it was released more than MAX_AGE_MS ago (R253). -/
def State.aged (s : State) (p : Nat) (f : TxFrame) : Bool :=
  f.kind = 0 && s.fld (F.EP_TX_CFG_MAX_AGE_MS p) ≠ 0 && decide (s.elapsed > f.since + s.fld (F.EP_TX_CFG_MAX_AGE_MS p) * 1000000)

/-- Discards the head of a queue when it is aged. -/
def State.ageHead (s : State) (p i : Nat) : State :=
  match s.txQueue p i with
  | f :: r => if s.aged p f then (s.setTxQueue p i r).txDone p f 11 false 0 none else s
  | [] => s

/-- EVACUATE has stopped the egress of media and host frames (R435). -/
def State.evacStopped (s : State) : Bool := s.hi.jobs.any fun j => j.op = 0x66 && j.st ≠ .held && j.step = 2

/-- A fence answer, the one frame that leaves in ISOLATE (R474). -/
def TxFrame.fenceAnswer (f : TxFrame) : Bool :=
  match f.fab with
  | some (_, .fence b) => b
  | _ => false

/-- The item needs a SENT note before it starts (R425). -/
def State.needsNote (s : State) (f : TxFrame) : Bool :=
  f.kind = 0 && f.rtp && s.twinLink.isSome && (match s.chan (f.flow / 2) with
    | some c => c.mirror ≠ 0
    | none => false)

/-- Puts a frame on the wire (R252, R259, R264). -/
def State.startFrame (s : State) (p : Nat) (f : TxFrame) : State :=
  let t := s.time1588 + (s.lat p).2
  let ts := (t / 1000000000, t % 1000000000)
  match f.kind with
  | 0 =>
    let ctx := s.srtpCtx f.srtp
    let use := f.rtp && decide (bits (nth ctx 0) 0 4 ≠ 0)
    if use ∧ bit (nth ctx 0) 5 = false then s.txDone p f 6 false 0 none
    else
      let o := srtpOut ctx f.payload
      let s := if use then s.setSrtp f.srtp o.2.1 else s
      let bytes := padFrame (buildFrame f.hdr (if use then o.1 else f.payload) f.csum)
      let s := s.setPort p { s.port p with cur := some ⟨f, bytes, o.2.2, use, 0, ts⟩ }
      let s := match s.chan (f.flow / 2) with
        | some c => if f.rtp then s.setChan (f.flow / 2) { c with rtpSent := some (get16 f.payload 2) } else s
        | none => s
      s.takeoverPacket (f.flow / 2) f.link
  | 1 => s.setPort p { s.port p with cur := some ⟨f, padFrame f.payload, 0, false, 0, ts⟩ }
  | _ =>
    let s := s.setPort p { s.port p with cur := some ⟨f, [], 0, false, 0, ts⟩ }
    { s with tw := { s.tw with noteSent := max s.tw.noteSent f.note } }

/-- The port may transmit: enabled, its link up, live, not squelched and not in reset (R237, R268, R492). -/
def State.mayTransmit (s : State) (p : Nat) : Bool :=
  s.flag (F.EP_CTRL_EN p) && s.flag (F.EP_STATUS_LINK p) && s.flag F.GL_STATUS_LIVE && !s.flag (F.EP_PHY_CFG_TX_SQUELCH p)
    && !(s.port p).resetting

/-- The port starts the head frame of the highest priority that is not paused (R253). -/
def State.transmit (s : State) (p : Nat) : State :=
  if s.mayTransmit p = false ∨ (s.port p).cur.isSome then s
  else match s.nextPri p with
    | none => s
    | some i =>
      match s.txQueue p i with
      | [] => s
      | f :: r =>
        if s.aged p f then s.ageHead p i
        else if (s.gl.egressOff ∧ f.fenceAnswer = false) ∨ (s.evacStopped ∧ f.kind ≠ 2) then s
        else if s.needsNote f ∧ f.note = 0 then
          (let k := s.placeNote (f.flow / 2) (get16 f.payload 2)
           k.1.setTxQueue p i ({ f with note := k.2 } :: r))
        else if s.needsNote f ∧ f.note > s.tw.noteSent then s
        else (s.setTxQueue p i r).startFrame p f

/-- The frame on the wire ends; an aborted one has an invalid FCS (R50, R254). -/
def State.transmitEnd (s : State) (p : Nat) (aborted : Bool) : State :=
  match (s.port p).cur with
  | none => s
  | some o =>
    let s := s.setPort p { s.port p with cur := none }
    let fcs := (crc32 0xEDB88320 o.bytes).toNat
    let fcs := if aborted then 2 ^ 32 - 1 - fcs else fcs
    let s := match o.f.fab with
      | some (h, b) => s.emit (.fabric p o.f.link h b)
      | none => s.emit (.frame p (o.bytes ++ leBytes 4 fcs) (!aborted))
    let roc := if o.srtpUsed then o.roc else 0
    s.txDone p o.f (if aborted then 9 else 0) aborted roc (if o.f.tsEntry ∧ aborted = false then some o.ts else none)

/-! ## Links (R235-R237) -/

/-- Discards every queued frame of a port that a test picks with BAD_STATE (R237, R254, R474). -/
def State.flushPort (s : State) (p : Nat) (pick : TxFrame → Bool) : State :=
  (List.range 8).foldl (fun s i =>
    let q := s.txQueue p i
    let s := s.setTxQueue p i (q.filter fun f => !pick f)
    (q.filter pick).foldl (fun s f => s.txDone p f 6 false 0 none) s) s

/-- Negotiation is used by a MODE (R235). -/
def usesAn (mode : Nat) : Bool := mode = 1 || mode = 2 || mode = 4

/-- Negotiation begins again. -/
def State.restartAn (s : State) (p : Nat) : State :=
  let s := s.setPort p { s.port p with anRetry := none }
  (s.setFlag (F.EP_STATUS_AN_DONE p) false).setFld (F.EP_AN_STAT_RESOLVED p) 0

/-- What the loss of a direct port brings: ISOLATE on a primary, SUSPECT on a twin (R428). -/
def State.directLost (s : State) (p : Nat) : State :=
  let s := if s.flag F.TW_TWIN_EN ∧ s.fld F.TW_TWIN_DIRECT_PORT = p then s.trigger 10 else s
  (List.range 4).foldl (fun s i =>
    if s.flag (F.TW_PRI_CFG_EN i) ∧ s.flag (F.TW_PRI_CFG_AUTO i) ∧ s.fld (F.TW_PRI_CFG_DIRECT_PORT i) = p then s.suspect i else s) s

/-- The link of a port drops: queued frames are discarded, the frame on the wire is cut, and negotiation restarts. -/
def State.dropLink (s : State) (p : Nat) : State :=
  let was := s.flag (F.EP_STATUS_LINK p)
  let s := (s.setFlag (F.EP_STATUS_LINK p) false).restartAn p
  let s := ((s.setFlag (F.EP_PCS_STAT_BLOCK_LOCK p) false).setFlag (F.EP_PCS_STAT_FEC_ALIGN p) false)
  let s := match (s.port p).cur with
    | some o => (s.setPort p { s.port p with cur := none }).txDone p o.f 6 false 0 none
    | none => s
  let s := s.flushPort p fun _ => true
  let s := s.setPort p { s.port p with downAt := some s.elapsed }
  (if was then s.directLost p else s).recclkCheck

/-- LINK_DOWN (R237): counted and reported. -/
def State.linkDown (s : State) (p : Nat) : State :=
  if s.flag (F.EP_STATUS_LINK p) then
    ((s.dropLink p).incS (F.EP_PCS_STAT_LINK_DOWNS p) 1).event (F.EP_EVENT_LINK_DOWN p) .warn p p 0 0
  else s

/-- Resets a port (R267): status, event and counter fields are cleared and queued frames complete with BAD_STATE. -/
def State.portReset (s : State) (p : Nat) (o : Option Origin) : State :=
  let s := s.dropLink p
  let d := (s.port p).downAt
  let s := s.setPort p { Port.init with resetting := true, resetBy := o, downAt := d }
  let base := 0x100000 + p * 0x10000
  -- status 0x004, events 0x008, negotiation, PCS and FEC status 0x014-0x01C, timestamps 0x030, PFC 0x0A0 and counters 0x0C0
  let clear (s : State) (lo hi : Nat) : State := s.rstRegion (base + lo) (base + hi) fun _ => false
  clear (clear (clear (clear s 0x004 0x00C) 0x014 0x020) 0x030 0x034) 0x0A0 0x0E0

/-- The abilities that a port advertises in a mode (R236). -/
def advertised (mode abil : Nat) : Nat :=
  match mode with
  | 1 => abil % 4 + bits abil 4 1 * 16
  | 2 => bits abil 2 2 * 4
  | 4 => bits abil 4 1 * 16
  | _ => 0

/-- The resolved ability: RESOLVED of EP_AN_STAT (R236). -/
def resolveAbility (common : Nat) : Nat :=
  if bit common 0 then 1 else if bit common 2 then 3 else if bit common 1 then 2 else if bit common 3 then 4 else if bit common 4 then 5
  else 0

/-- The FEC of a resolved ability from both sides' F0-F3 (R236). -/
def resolveFec (r a b : Nat) : Nat :=
  let e (i : Nat) : Bool := bit a i || bit b i
  if r = 1 ∨ r = 3 then (if e 2 then 2 else if e 3 then 1 else 0)
  else if r = 2 ∨ r = 4 then (if e 3 then 1 else 0)
  else if bit a 0 && bit b 0 && e 1 then 1
  else 0

end Sys2Proof.Machine
end

