-- ==== Sys2Proof/Machine/LanternOps.lean ====
section
/-! DEFINITION. The mailbox as other blocks see it (R497, R502, R506). -/
namespace Sys2Proof.Machine

/-- May the running mailbox command complete? A close waits for its channel (R40, R500). -/
def State.mailboxDue (s : State) : Bool :=
  match s.ln.cmd with
  | some (op, l) => op ≠ 0x11 || nth l 0 ≠ 0 || (s.chan (nth l 5)).isNone
  | none => false

/-- Results, then STAT, of the running command (R497 step 4), without the interrupt. -/
def State.mailboxFinish (s : State) : State :=
  match s.ln.cmd with
  | none => s
  | some (op, l) =>
    let s : State := { s with ln := { s.ln with cmd := none } }
    let s := (List.range 4).foldl (fun s i => s.setFld (F.LN_MBX_RES_RES i) (nth l (1 + i))) s
    let s := (s.setFld F.LN_MBX_STAT_RESULT (nth l 0)).setFld F.LN_MBX_STAT_OPCODE (op % 64)
    ((s.setFlag F.LN_MBX_STAT_BUSY false).setFlag F.LN_MBX_STAT_DONE true).setFlag F.LN_EVENT_DONE true

/-- The mailbox at a host-only reset (R506). -/
def State.mailboxHostReset (s : State) : State :=
  let s := if s.mailboxDue then s.mailboxFinish else s
  ((s.setFlag F.LN_MBX_STAT_DONE false).setFlag F.LN_EVENT_IRQ_DONE_EN false).setFlag F.LN_EVENT_IRQ_EVT_EN false

/-- LN_ fields at reset and an empty event FIFO (R496, R506). -/
def State.mailboxClear (s : State) : State :=
  ({ s with ln := State.reset.ln } : State).rstRegion 0x2000000 0x3000000 fun _ => false

end Sys2Proof.Machine
end

