-- ==== Sys2Proof/Machine/RingOps.lean ====
section
/-! DEFINITION. The rings as the host interface runs them (R377-R384): enabling and disabling, halts, polling, failed reads
of host memory (R382), the writing of reports (R463, R464) and the reset of the interface (R404). -/
namespace Sys2Proof.Machine

/-! ## States of a ring -/

/-- Commands of a ring that are started and not completed, jobs left out (R384). -/
def State.ringBusy (s : State) (r : Nat) : Bool :=
  let x := s.ring r
  let jobs := (s.hi.jobs.filter fun j => j.origin.ring = r && j.origin.gen = x.gen).length
  x.started ≠ x.tail || decide ((x.started + 2 ^ 32 - x.head) % 2 ^ 32 > jobs)

/-- A ring is enabled: its counts start at 0 and the device writes HEAD (R378). -/
def State.ringStart (s : State) (r : Nat) : State :=
  let s := s.setRing r { RingSt.init with gen := (s.ring r).gen + 1 }
  let s : State := if s.ringKind r = 1 then { s with hi := { s.hi with bufs := [] } } else s
  let s := s.emit (.head r 0)
  (s.setFld (F.HI_RSTAT_STATE r) 1).setFld (F.HI_RSTAT_ERR r) 0

/-- A write of EN = 0 to a ring that is not disabled (R384). -/
def State.ringStop (s : State) (r : Nat) : State :=
  if s.ringKind r = 0 then s.setFld (F.HI_RSTAT_STATE r) (if s.ringBusy r then 2 else 0)
  else
    let s : State := if s.ringKind r = 1 then { s with hi := { s.hi with bufs := [] } } else s
    s.setFld (F.HI_RSTAT_STATE r) 0

/-- A ring halts (R379). -/
def State.ringHalt (s : State) (r err : Nat) : State :=
  let s := (s.setFld (F.HI_RSTAT_STATE r) 3).setFld (F.HI_RSTAT_ERR r) err
  ((s.incS F.HI_ERR_CNT_HALTS 1).setFlag F.HI_EVENT_RING_HALT true).raise .warn 0x02 r 0x0002 r err 0

/-- SIZE_LOG2 fits a KIND (R377). -/
def ringSizeOk (kind size : Nat) : Bool := if kind < 2 then 4 ≤ size && size ≤ 16 else 8 ≤ size && size ≤ 12

/-- A write of HI_RCFG[r] (R377, R384, R405, R540). -/
def State.rcfgWrite (s : State) (r v : Nat) : State :=
  let a := R.HI_RCFG r
  let ok := ringSizeOk (bits v 1 2) (bits v 3 5)
  let kind := if ok then bits v 1 2 else s.ringKind r
  let size := if ok then bits v 3 5 else s.fld (F.HI_RCFG_SIZE_LOG2 r)
  let s := if ok then s else s.reservedEncoding a 1
  let st := s.ringState r
  let en := bit v 0
  let was := s.flag (F.HI_RCFG_EN r)
  let change := decide (kind ≠ s.ringKind r) || decide (size ≠ s.fld (F.HI_RCFG_SIZE_LOG2 r))
  let second := kind ≠ 0 && (List.range 64).any fun q => q ≠ r && s.ringState q ≠ 0 && decide (s.ringKind q = kind)
  if (st ≠ 0 ∧ ((en ∧ was = false) ∨ change)) ∨ (st = 0 ∧ en ∧ second) then s.configRefused a 0
  else
    let s := ((s.setFlag (F.HI_RCFG_EN r) en).setFld (F.HI_RCFG_KIND r) kind).setFld (F.HI_RCFG_SIZE_LOG2 r) size
    let s := (s.setFld (F.HI_RCFG_VEC r) (bits v 8 6)).setFld (F.HI_RCFG_MOD r) (bits v 14 4)
    let s := s.setFlag (F.HI_RCFG_IRQ_EN r) (bit v 18)
    if en ∧ st = 0 then s.ringStart r else if en = false ∧ st ≠ 0 ∧ st ≠ 2 then s.ringStop r else s

/-! ## Failed reads (R382, R388) -/

/-- Records a failed read of host memory: KIND 1-4, SOURCE, ring and address. -/
def State.pcieErr (s : State) (kind source ring addr : Nat) : State :=
  let s := ((s.incS F.HI_PCIE_ERR_COUNT 1).setFld F.HI_PCIE_ERR_KIND kind).setFld F.HI_PCIE_ERR_SOURCE source
  let s := (s.setFld F.HI_PCIE_ERR_RING ring).setFlag F.HI_EVENT_PCIE_ERR true
  let again : Bool := match s.hi.lastPcieWarn with
    | some t => decide (s.elapsed < t + 1000000000)
    | none => false
  if again then s
  else ({ s with hi := { s.hi with lastPcieWarn := some s.elapsed } } : State).raise .warn 0x02 ring 0x0003 (kind + 8 * source)
    (addr % 2 ^ 32) (addr / 2 ^ 32)

/-! ## Polling (R381) -/

/-- The interface is active (R381). -/
def State.hiActive (s : State) : Bool :=
  let span := s.fld F.HI_POLL_IDLE_US * 1000
  let near (t : Option Nat) : Bool := match t with
    | some t => decide (s.elapsed < t + span)
    | none => false
  near s.hi.lastTail || near s.hi.lastNudge
    || (List.range 64).any fun r => s.ringState r ≠ 0 && decide (s.ringKind r = 0) && decide ((s.ring r).tail ≠ (s.ring r).head)

/-- Sets the time of the next poll: at FAST_US while the interface is active and no read has failed since the last good one. -/
def State.nextPoll (s : State) : State :=
  let fast := s.hiActive && !s.hi.slowUntilRead
  let us := if fast then s.fld F.HI_POLL_FAST_US else s.fld F.HI_POLL_SLOW_US
  let s := s.setFlag F.HI_STATUS_FAST fast
  { s with hi := { s.hi with nextPoll := s.elapsed + us * 1000 } }

/-- The buffer of a packet-receive descriptor, judged by the rules of R396. -/
def rxBufOf (d : List (BitVec 32)) : RxBuf :=
  let w (i : Nat) : Nat := (d.getD i 0).toNat
  let addr := w 2 + 2 ^ 32 * w 3
  ⟨w 0, w 1, addr, !(64 ≤ w 0 ∧ w 0 ≤ 16384 ∧ w 0 % 64 = 0 ∧ addr % 64 = 0 ∧ (d.drop 4).all (· = 0))⟩

/-- Posts a receive buffer (R396). -/
def State.postBuf (s : State) (d : List (BitVec 32)) : State :=
  { s with hi := { s.hi with bufs := s.hi.bufs ++ [rxBufOf d] } }

/-- What a poll does with the TAIL of one running ring (R379, R381); `rx`: the descriptors of the packet-receive ring from
the first new one on. -/
def State.pollRing (s : State) (rx : List (List (BitVec 32))) (r t : Nat) : State :=
  let x := s.ring r
  if s.ringState r ≠ 1 then s
  else if s.ringKind r < 2 then
    let n := (t + 2 ^ 32 - x.tail) % 2 ^ 32
    if (t + 2 ^ 32 - x.head) % 2 ^ 32 > s.ringSize r ∨ n > s.ringSize r then s.ringHalt r 1
    else if n = 0 then s
    else
      let s : State := { s with hi := { s.hi with lastTail := some s.elapsed } }
      if s.ringKind r = 0 then s.setRing r { x with tail := t }
      else (List.range n).foldl (fun s i => s.postBuf (rx.getD i [])) (s.setRing r { x with tail := t, started := t })
  else
    let d := (t + 2 ^ 32 - x.head) % 2 ^ 32
    if 0 < d ∧ d < 2 ^ 31 then s.ringHalt r 3
    else if t = x.tail then s
    else
      let s : State := { s with hi := { s.hi with lastTail := some s.elapsed } }
      s.setRing r { x with tail := t, started := t }

/-! ## The reporting FIFO (R463, R464) -/

def clsOf (rank : Nat) : Cls :=
  match rank with
  | 0 => .fatal
  | 1 => .contained
  | 2 => .corrected
  | 3 => .warn
  | _ => .info

/-- Makes loss summaries while entries are free and counts are pending (R464). -/
def State.lossSummaries (s : State) : State :=
  let s := (List.range 5).foldl (fun (s : State) i =>
    let p := mget (0, 0) s.rl.lost i
    if p.1 = 0 ∨ s.rl.fifo.length ≥ 64 then s
    else
      let e : Report := ⟨clsOf i, 0x06, 0, 0x0108, min p.1 65535, p.2, 0, 0, 0, false, true⟩
      { s with rl := { s.rl with fifo := s.rl.fifo ++ [e], lost := mdel s.rl.lost i } }) s
  if s.rl.lost = [] then s.setFlag F.RL_STATUS_LOSING false else s

/-- The class belongs to the error-log ring (R402). -/
def Cls.toErrorLog : Cls → Bool
  | .info => false
  | .warn => false
  | _ => true

/-- The oldest entry for the event or the error-log ring leaves the FIFO when that ring has room (R402, R463). -/
def State.writeReport (s : State) (err : Bool) : State :=
  match s.runningRing (if err then 3 else 2), s.rl.fifo.find? (fun e => e.cls.toErrorLog = err) with
  | some r, some e =>
    if s.ringRoom r then
      let s : State := { s with rl := { s.rl with fifo := s.rl.fifo.erase e } }
      (s.ringEntry r e.words).lossSummaries
    else s
  | _, _ => s

/-! ## The reset of the host interface (R404) -/

/-- Every HI_ field at its reset value, but for HI_CMD, HOST_RESETS and the link fields, which show the link. -/
def State.hiFields (s : State) : State :=
  let keep := [F.HI_CMD_LO_COUNT, F.HI_CMD_HI_COUNT, F.HI_PCIE_STAT_HOST_RESETS, F.HI_PCIE_STAT_LINK_UP, F.HI_PCIE_STAT_SPEED,
    F.HI_PCIE_STAT_WIDTH, F.HI_PCIE_STAT_BME, F.HI_PCIE_STAT_D3HOT].map Fld.key
  (s.rstRegion 0x20000 0x30000 (keep.contains ·)).setFld F.HI_JOBS_HWM s.hi.jobs.length

/-- Rings, buffers and polling as after a reset of the interface; a command already fetched still runs, and its completion
finds its ring disabled. -/
def State.hiClear (s : State) (msix : Bool) : State :=
  let s := s.hiFields
  let ring := s.hi.ring.map fun e => (e.1, { e.2 with since := 0 })
  { s with hi := { s.hi with
    ring := ring
    bufs := []
    msix := if msix then [] else s.hi.msix
    msixPend := if msix then [] else s.hi.msixPend
    lastTail := none
    lastNudge := none
    slowUntilRead := false
    nextPoll := s.elapsed
    latch := mkeep (0x30000 ≤ ·) s.hi.latch } }

/-- A reset of the interface by a cause of R401 (R376, R404): 0 FLR, 1 hot reset, 2 link down, 3 PERST_N, 4 RINGS_RESET,
5 Bus Master Enable cleared, 6 D3hot. The first four reset the function, and all but the first of them take the link down. -/
def State.hostReset (s : State) (cause : Nat) : State :=
  let s := (s.hiClear (cause < 4)).mailboxHostReset.incW F.HI_PCIE_STAT_HOST_RESETS 1
  let s := if 1 ≤ cause ∧ cause ≤ 3 then
      ((s.setFlag F.HI_PCIE_STAT_LINK_UP false).setFld F.HI_PCIE_STAT_SPEED 0).setFld F.HI_PCIE_STAT_WIDTH 0 else s
  let s := if cause < 4 ∨ cause = 5 then s.setFlag F.HI_PCIE_STAT_BME false else s
  let s := if cause < 4 then s.setFlag F.HI_PCIE_STAT_D3HOT false else if cause = 6 then s.setFlag F.HI_PCIE_STAT_D3HOT true else s
  (s.setFlag F.HI_EVENT_HOST_RESET true).raise .info 0x02 0 0x0004 cause 0 0

end Sys2Proof.Machine
end

