-- ==== Sys2Proof/Machine/CmdOps.lean ====
section
/-! DEFINITION. What every command of a ring goes through (R385-R388, R397): its start, its checks, and the entry of jobs. -/
namespace Sys2Proof.Machine

/-! ## Fields of a descriptor (R385) -/

/-- Argument word `i`. -/
def arg (c : HCmd) (i : Nat) : Nat := (c.args.getD i 0).toNat
def cmdFence (c : HCmd) : Bool := bit c.hi.toNat 0
def cmdExpert (c : HCmd) : Bool := bit c.hi.toNat 1
def cmdHandle (c : HCmd) : Nat := bits c.hi.toNat 8 16
def bufAddr (c : HCmd) : Nat := arg c 11 + 2 ^ 32 * arg c 12
def bufLen (c : HCmd) : Nat := arg c 13

/-- The LENGTH bytes of the host buffer. -/
def bufBytes (c : HCmd) : List Byte := c.buf.take (bufLen c) ++ List.replicate (bufLen c - c.buf.length) 0

/-- No argument word has a bit outside its mask; words without a mask are 0. -/
def argMask (c : HCmd) (l : List Nat) : Bool := (List.range 14).all fun i => (arg c i) &&& (nth l i) = arg c i

/-- As `argMask` for a command with a host buffer, whose address is a multiple of 4. -/
def bufMask (c : HCmd) (l : List Nat) : Bool :=
  argMask c (l ++ List.replicate (11 - l.length) 0 ++ [0xFFFFFFFF, 0xFFFFFFFF, 0xFFFFFFFF]) && decide (bufAddr c % 4 = 0)

/-! ## Start and checks (R387, R388) -/

/-- The command's origin as it starts. -/
def State.originOf (s : State) (c : HCmd) (op : Nat) : Origin := ⟨c.ring.val, (s.ring c.ring.val).gen, c.tag.toNat, cmdHandle c, op⟩

/-- A fetched command of the ring is left, and a fence finds every earlier one complete (R387). -/
def State.mayStart (s : State) (c : HCmd) : Bool :=
  let x := s.ring c.ring.val
  s.mode ≠ 0 && s.mode ≠ 9 && x.started ≠ x.tail && (!cmdFence c || x.head = x.started || s.ringState c.ring.val = 0)

/-- The next command of the ring starts. -/
def State.start (s : State) (c : HCmd) : State :=
  let x := s.ring c.ring.val
  s.setRing c.ring.val { x with started := (x.started + 1) % 2 ^ 32 }

/-- The checks of R388 in their order: `ok` for the bits and values of the descriptor, `mode` for the present mode, `chan` the
local channel that the command names, `buf` whether it reads its host buffer. -/
def State.checked (s : State) (c : HCmd) (o : Origin) (ok mode : Bool) (chan : Option Nat) (buf : Bool) (f : State → State) : State :=
  let lantern : Bool := match chan with
    | some n => s.mode = 7 && decide (n < 240)
    | none => false
  if ok = false ∨ bits c.hi.toNat 2 6 ≠ 0 then s.complete o 5 0 []
  else if mode = false then s.complete o 6 0 []
  else if lantern then s.complete o 12 0 []
  else if buf ∧ c.fail.val ≠ 0 then (s.pcieErr c.fail.val 2 c.ring.val (bufAddr c)).complete o 10 1 []
  else f s

/-- A command that is neither a job command nor a job-control command: its HANDLE is 0. -/
def State.command (s : State) (c : HCmd) (op : Nat) (ok mode : Bool) (chan : Option Nat) (buf : Bool)
    (f : State → Origin → State) : State :=
  if s.mayStart c then
    let o := s.originOf c op
    (s.start c).checked c o (ok && decide (cmdHandle c = 0)) mode chan buf fun s => f s o
  else s

/-- The outcome of a command whose channel must be open: NOT_FOUND when it is not, and BAD_STATE for a change to one that is
being closed (DEDUCED from R31 and R40). -/
def State.withChan (s : State) (o : Origin) (n : Nat) (change : Bool) (f : State → Chan → State) : State :=
  match s.chan n with
  | none => s.complete o 8 0 []
  | some c => if change ∧ c.st = .closing then s.complete o 6 0 [] else f s c

/-! ## Jobs (R397) -/

/-- A job command: the checks of R388, then those of R397; `same` picks the live jobs that count against the kind's limit. -/
def State.jobCommand (s : State) (c : HCmd) (op : Nat) (ok mode : Bool) (chan : Option Nat) (buf : Bool) (same : Job → Bool)
    (limit : Nat) (f : State → Origin → State) : State :=
  if s.mayStart c then
    let o := s.originOf c op
    (s.start c).checked c o ok mode chan buf fun s =>
      if o.handle = 0 then s.complete o 5 0 []
      else if (s.job o.handle).isSome then s.complete o 6 0 []
      else if s.hi.jobs.length ≥ 256 then s.complete o 2 0 []
      else if ((s.liveJobs op).filter same).length ≥ limit then s.complete o 6 0 []
      else f s o
  else s

/-- A new job of a kind in a state. -/
def newJob (c : HCmd) (o : Origin) (st : JobState) (work : List Nat) (total : Nat) : Job :=
  { handle := o.handle, op := o.op, st := st, left := .running, origin := o, args := (List.range 14).map (arg c), step := 0,
    work := work, done := 0, total := total, lastReport := none, held := [], suspenders := [], cancellers := [] }

/-- A job becomes SUSPENDED: the suspend commands that wait complete (R399, R400). -/
def State.suspended (s : State) (h : Nat) : State :=
  match s.job h with
  | none => s
  | some j =>
    let s := s.setJob { j with st := .suspended, left := .running, suspenders := [] }
    let s := s.jobProgress h true
    j.suspenders.foldl (fun s o => s.complete o 0 0 []) s

end Sys2Proof.Machine
end

