-- ==== Sys2Proof/Machine/RemoteOps.lean ====
section
/-! DEFINITION. Copies between host memory and Hamper addresses (R393), and accesses to pooled windows as the device that asks
makes them (R189, R190, R417). -/
namespace Sys2Proof.Machine

/-- The logical pages that HOST_COPY may not write (R393). -/
def State.guardedPage (s : State) (p : Nat) : Bool :=
  let f := s.fld F.HP_CTX_REGION_FIRST_PAGE
  (f ≤ p && p < f + s.fld F.HP_CTX_REGION_PAGES) || p = s.fld F.HP_FT_CFG_PAGE
    || (List.range 4).any fun q => p = s.fld (F.EP_RING_CFG_TPL_PAGE q) || p = s.fld (F.EP_RING_CFG_STAT_PAGE q)

/-- The pages of a slot-0 range. -/
def pagesOf (a n : Nat) : List Nat := (List.range ((a + n - 1) / pageBytes - a / pageBytes + 1)).map (a / pageBytes + ·)

/-- The first unmapped page of a slot-0 range. -/
def State.hole (s : State) (a n : Nat) : Option Nat := (pagesOf a n).find? fun p => (s.physPage p).isNone

/-- Cuts `n` bytes into pieces of at most `m`, as offset and length. -/
def pieces (m : Nat) : Nat → Nat → Nat → List (Nat × Nat)
  | 0, _, _ => []
  | fuel + 1, ofs, n => if n = 0 ∨ m = 0 then [] else (ofs, min m n) :: pieces m fuel (ofs + min m n) (n - min m n)

/-- Issues an access to a pooled window as READ or WRITE requests in address order (R417). -/
def State.remoteAccess (s : State) (a n : Nat) (data : Option (List Byte)) (host : Nat) (o : Option Origin) : State :=
  let w := s.win (Sys2Proof.Machine.slotOf a)
  let peer := bits w 0 14
  let l := bits w 16 6
  let most := (s.link l).payloadMax / 4 * 4 - 16
  let acc := s.hp.nextRemote
  let base := Config.peerFirstPage peer |>.toNat
  (pieces most (n / 4) 0 n).foldl (fun (s : State) p =>
    let tag := s.hp.nextRemote
    let r : Remote := ⟨tag, acc, peer, l, data.isSome, p.1, p.2, s.elapsed + s.fld F.HP_CTRL_REMOTE_TMO_MS * 1000000, o, host⟩
    let s : State := { s with hp := { s.hp with remote := s.hp.remote ++ [r], nextRemote := tag + 1 } }
    let pa := base * pageBytes + a % 2 ^ 34 + p.1
    match data with
    | some d => (s.fabQueue l (.writeReq pa (tag % 2 ^ 32) (slice d p.1 p.2)) 0).twCount 12 1
    | none => (s.fabQueue l (.readReq pa p.2 (tag % 2 ^ 32)) 0).twCount 11 1) s

/-- A remote access ends without its data: its requests that are still out are forgotten (R190). -/
def State.remoteFail (s : State) (r : Remote) (status : Nat) : State :=
  let s : State := { s with hp := { s.hp with remote := s.hp.remote.filter (·.acc ≠ r.acc) } }
  s.remoteErr.completeOpt r.origin status 0 []

/-- The answer to a request (R190, R417): `data` of a READ goes to the host buffer. -/
def State.remoteAnswer (s : State) (l tag status : Nat) (write : Bool) (data : List Byte) : State :=
  match s.hp.remote.find? fun r => r.tag % 2 ^ 32 = tag && r.link = l && r.write = write with
  | none => s
  | some r =>
    if status ≠ 0 then s.remoteFail r status
    else
      let s : State := { s with hp := { s.hp with remote := s.hp.remote.filter (·.tag ≠ r.tag) } }
      let s := if write then s else s.emit (.host (r.host + r.ofs) (data.take r.len))
      if s.hp.remote.any (·.acc = r.acc) then s else s.completeOpt r.origin 0 0 []

/-- A copy to or from a Hamper address (R393): `data` is what host memory gives, for a copy to Hamper. -/
def State.hostCopy (s : State) (a n host : Nat) (data : Option (List Byte)) (errs : List MemErr) (o : Origin) : State :=
  if Sys2Proof.Machine.slotOf a ≠ 0 then
    if s.winOpen (Sys2Proof.Machine.slotOf a) then s.remoteAccess a n data host (some o) else s.remoteErr.complete o 8 0 []
  else match data with
    | some d =>
      if (pagesOf a n).any s.guardedPage then s.complete o 12 0 []
      else (match s.hole a n with
        | some p => (s.unmappedEvent p).complete o 8 0 []
        | none => (s.setBytes a d).complete o 0 0 [])
    | none =>
      match s.hole a n with
      | some p => (s.unmappedEvent p).complete o 8 0 []
      | none =>
        let s := s.memErrs errs
        if s.poisoned a n then s.poisonSeen.complete o 10 0 [] else (s.emit (.host host (s.bytesAt a n))).complete o 0 0 []

end Sys2Proof.Machine
end

