-- ==== Sys2Proof/Machine/MigOps.lean ====
section
/-! DEFINITION. Channels that come from elsewhere (R430, R434), checkpoints to the twin (R422), and the jobs MIGRATE, EVACUATE and
CHECKPOINT_ALL (R434-R436). -/
namespace Sys2Proof.Machine

/-! ## A channel from its context bytes -/

/-- What places a channel: its context, state, home, next frame and next boundary. -/
structure Adopt where
  chan : Nat
  ctx : Nat
  granules : Nat
  st : ChanState
  home : Nat
  frames : Nat
  nextB : Nat
deriving DecidableEq, Repr

/-- The channel that a context spells (R193, R391). Tokens on edges are no part of a context: none stands on an edge. -/
def State.adopted (s : State) (a : Adopt) : Chan :=
  let h (i : Nat) : Nat := s.word (a.ctx + 4 * i)
  let g := placeGraph (graphOf (leWords (s.bytesAt (a.ctx + 256) 2240)))
  { st := a.st, profile := bits (h 0) 16 4, ipForm := false, expert := decide (bits (h 0) 16 4 = 0), frame := bits (h 0) 20 2,
    mirror := bits (h 0) 26 2, home := a.home, stagger := bits (h 1) 0 6, units := bits (h 1) 8 8, ctx := a.ctx,
    granules := a.granules, graph := g, areas := areasOf g, edges := [], nextB := a.nextB, frames := a.frames, ticked := a.frames, mediaDue := none,
    tomb := false, tombs := [], ran := [], closer := none, inFlight := 0, lantern := false, stats := [], rtpSent := none }

/-- Makes the channel of a context; NEXT of its flows comes from header word 3. -/
def State.adopt (s : State) (a : Adopt) : State :=
  let c := s.adopted a
  let w := s.word (a.ctx + 12)
  let s := s.putChan a.chan c
  (s.setFlow (2 * a.chan) { Flow.init with next := bits w 0 16, moved := s.elapsed }).setFlow (2 * a.chan + 1)
    { Flow.init with next := bits w 16 16, moved := s.elapsed }

/-! ## Checkpoints to the twin (R422, R435, R436) -/

/-- The mirrored channels that EVACUATE and CHECKPOINT_ALL take (R505). -/
def State.mirrored (s : State) : List Nat := (s.chans.filter fun e => e.2.mirror ≠ 0 && !e.2.lantern && e.2.st ≠ .closing).map (·.1)

/-- A channel leaves the list of a job that waits for its full checkpoint: one more unit of progress (R400). -/
def State.checkpointed (s : State) (h n : Nat) : State :=
  match s.job h with
  | none => s
  | some j =>
    if n ∈ j.work ∧ (j.st = .running ∨ j.st = .suspending) then
      let w := j.work.filter (· ≠ n)
      (s.setJob { j with work := w, done := j.done + 1, step := if w = [] ∧ j.step = 0 then 1 else j.step }).jobProgress h false
    else s

/-- A full checkpoint of a channel was handed to the link. -/
def State.fullSent (s : State) (n : Nat) : State :=
  ((s.hi.jobs.filter fun j => j.st ≠ .held && (j.op = 0x66 || j.op = 0x68)).map (·.handle)).foldl (fun s h => s.checkpointed h n) s

/-- Sends the checkpoint that a cell job left in the mirror buffer (R422). -/
def State.checkpointSend (s : State) (n written : Nat) : State :=
  match s.twinLink, s.chan n with
  | some l, some c =>
    let a := c.ctx + c.areas.kernel + s.fld F.TW_MIRROR_BUF_OFS
    let full := decide (bits (s.word a) 16 2 = 1)
    let r : MirrorRec := .checkpoint n (bits (s.word a) 0 14) full (s.word (a + 4) + 2 ^ 32 * s.word (a + 8))
      ((List.range 4).map (s.ctxWord c)) (s.bytesAt (a + 64) written)
    let s := s.fabQueue l (.mirror [r]) 0
    if full then s.fullSent n else s
  | _, _ => s

/-- Does a link still hold a MIRROR frame that the peer has not acknowledged? -/
def State.mirrorOut (s : State) (l : Nat) : Bool :=
  let m (f : FabFrame) : Bool := fabType f.body = 2
  (s.link l).queue.any m || (s.link l).unacked.any m

/-- CHECKPOINT_ALL ends when the twin has every record (R436): its frames are acknowledged. -/
def State.checkpointAllDone (s : State) (l : Nat) : State :=
  if s.mirrorOut l ∨ s.twinLink ≠ some l then s
  else ((s.hi.jobs.filter fun j => j.st = .running && j.op = 0x68 && j.step = 1).map (·.handle)).foldl (fun s h => s.endJob h 0 0 []) s

/-! ## MIGRATE (R434) -/

/-- The live MIGRATE job of a channel. Its step: 0 asked, 1 checkpoints, 2 waits for the switch, 3 forwards. Its work: link,
checkpoints applied in a row, one past the frame last applied, boundary and frame of the switch, end of forwarding. -/
def State.migJob (s : State) (n : Nat) : Option Job := s.hi.jobs.find? fun j => j.op = 0x65 && j.st ≠ .held && nth j.args 0 % 8192 = n

def Job.migDst (j : Job) : Nat := bits (nth j.args 1) 16 13

/-- Sends a MIGRATE record on a job's link. -/
def State.migSend (s : State) (l : Nat) (r : MigrateRec) : State := s.fabQueue l (.migrate r) 0

/-- Sends the whole context of a channel as a full checkpoint. -/
def State.migCheckpoint (s : State) (n : Nat) (c : Chan) (j : Job) (frame stage : Nat) (final : Bool) : State :=
  s.migSend (nth j.work 0) (.checkpoint j.migDst frame stage final (s.bytesAt c.ctx (c.granules * granuleBytes)) c.rtpSent.toList)

/-- The full checkpoint of every frame, at the boundary that ends it. -/
def State.migBoundary (s : State) (n : Nat) (c : Chan) : State :=
  if c.st = ChanState.migOut ∧ c.frames ≠ 0 then
    match s.migJob n with
    | some j => if j.step = 1 then s.migCheckpoint n c j c.frameNo c.nextB false else s
    | none => s
  else s

/-- A channel returns to STATE 1 on the source, and the target is told. -/
def State.migWithdraw (s : State) (n : Nat) (j : Job) : State :=
  let s := match s.chan n with
    | some c => if c.st = ChanState.migOut then s.putChan n { c with st := .opened } else s
    | none => s
  s.migSend (nth j.work 0) (.cancel j.migDst)

/-- A close of a channel that migrates (the model's choice where the spec is silent): before the switch the migration is withdrawn
and its job ends with BAD_STATE; a channel that migrates in is gone for its source. -/
def State.migrationClosed (s : State) (n : Nat) : State :=
  let s : State := { s with tw := { s.tw with migIn := mdel s.tw.migIn n } }
  match s.migJob n with
  | some j => if j.step < 3 then (s.migWithdraw n j).endJob j.handle 6 0 [] else s
  | none => s

/-- The target's admission (R434 step 1): the status, and the channel when it is DONE. -/
def State.migAdmit (s : State) (l src dst frame mirror stagger units granules : Nat) : State × Nat :=
  if dst ≥ s.chanLimit ∨ frame > 2 ∨ mirror > 2 ∨ stagger ≥ 40 ∨ granules = 0 ∨ granules > 64 then (s, 5)
  else if admitsChannels s.mode = false then (s, 6)
  else if s.mode = 7 ∧ dst < 240 then (s, 12)
  else
    match s.openChecks ⟨dst, 0, true, frame, mirror, stagger, none, granules, units, [], false⟩ with
    | .error e => (s, e)
    | .ok (home, ctx) =>
      let s := s.zeroRange ctx (granules * granuleBytes)
      let w0 := frame * 2 ^ 20 + mirror * 2 ^ 26
      let s := s.setBytes ctx (wordsLe [w0, stagger + units % 256 * 2 ^ 8, granules, 0])
      let s := s.adopt ⟨dst, ctx, granules, .migIn, home, 0, firstBoundary s.nowNs frame stagger⟩
      (({ s with tw := { s.tw with migIn := mput s.tw.migIn dst ⟨l, src, 0, none, none⟩ } } : State).budgetCheck, 0)

/-- A checkpoint on the target: the context becomes the source's, its state and home stay. The final one lets the channel run from
the following boundary on, with the frame after the checkpoint's as backlog (R430). -/
def State.migApply (s : State) (m : MigIn) (dst frame stage : Nat) (final : Bool) (bytes : List Byte) (notes : List Nat) : State :=
  match s.chan dst with
  | none => s
  | some c =>
    let s := s.setBytes c.ctx (bytes.take (c.granules * granuleBytes))
    let p := frameNs c.frame
    let resume := firstBoundary stage c.frame c.stagger
    let a : Adopt := ⟨dst, c.ctx, c.granules, if final then .opened else .migIn, c.home, (frame + 1) % 16384, resume - p⟩
    let s := s.adopt a
    let m := { m with last := frame, resume := if final then some resume else none, note := notes.head? }
    let s : State := { s with tw := { s.tw with migIn := mput s.tw.migIn dst m } }
    let s := s.migSend m.link (.applied dst frame)
    if final then s.twCount 27 1 else s

/-- A channel that has migrated in stands still until its boundary of resumption. -/
def State.migHeld (s : State) (n : Nat) (c : Chan) : Bool :=
  match mfind s.tw.migIn n with
  | some m => c.st = .migIn || (match m.resume with
    | some t => decide (s.nowNs < t)
    | none => false)
  | none => c.st = .migIn

/-- The boundary of resumption has come. -/
def State.migResumed (s : State) (n : Nat) : State :=
  match mfind s.tw.migIn n with
  | some m =>
    if m.note.isSome then { s with tw := { s.tw with migIn := mput s.tw.migIn n { m with resume := none } } }
    else { s with tw := { s.tw with migIn := mdel s.tw.migIn n } }
  | none => s

/-- The source hears that a checkpoint was applied: two in a row prepare the switch at the next boundary. -/
def State.migApplied (s : State) (n : Nat) (j : Job) (frame : Nat) : State :=
  match s.chan n with
  | none => s
  | some c =>
    let run := if nth j.work 2 ≠ 0 ∧ frame = nth j.work 2 % 16384 then nth j.work 1 + 1 else 1
    let w := setAt (setAt j.work 1 run) 2 (frame + 1)
    if run ≥ 2 then (s.setJob { j with work := setAt (setAt w 3 c.nextB) 4 c.frameNo, step := 2, done := 2 }).jobProgress j.handle false
    else s.setJob { j with work := w }

/-- A MIGRATE record arrives on a link; `tagOk` is for a forwarded frame's SRTP tag. -/
def State.migRecv (s : State) (l : Nat) (r : MigrateRec) (tagOk : Bool) : State :=
  let mine (dst : Nat) : Option (Nat × Job) :=
    (s.hi.jobs.find? fun j => j.op = 0x65 && j.st ≠ .held && nth j.work 0 = l && j.migDst = dst).map fun j => (nth j.args 0 % 8192, j)
  match r with
  | .request src dst frame mirror stagger units granules =>
    let x := s.migAdmit l src dst frame mirror stagger units granules
    x.1.migSend l (.answer dst x.2)
  | .answer dst status =>
    (match mine dst with
     | some (n, j) =>
       if status ≠ 0 then
         (match s.chan n with
          | some c => (if c.st = ChanState.migOut then s.putChan n { c with st := .opened } else s).endJob j.handle status 0 []
          | none => s.endJob j.handle status 0 [])
       else if j.step = 0 then (s.setJob { j with step := 1, done := 1 }).jobProgress j.handle false
       else s
     | none => s)
  | .checkpoint dst frame stage final bytes notes =>
    (match mfind s.tw.migIn dst with
     | some m => if m.link = l then s.migApply m dst frame stage final bytes notes else s
     | none => s.migSend l (.answer dst 8))
  | .applied dst frame =>
    (match mine dst with
     | some (n, j) => if j.step = 1 then s.migApplied n j frame else s
     | none => s)
  | .ingress dst _ port bytes => s.feedFrame port bytes tagOk fun n => n = dst
  | .cancel dst =>
    (match mfind s.tw.migIn dst with
     | some m =>
       if m.link = l ∧ m.resume.isNone then
         ({ s with tw := { s.tw with migIn := mdel s.tw.migIn dst } } : State).removeChan dst
       else s
     | none => s)

/-- A slot that acts is DETACHED when none of its channels is left (R427). -/
def State.actingEnd (s : State) : State :=
  match s.actSlot with
  | none => s
  | some i =>
    if s.slotState i = 5 ∧ (mkeys (s.twSlot i).chans).all (fun n => (s.chan n).isNone) then
      let s := (s.setSlotState i 0).clearSlot i
      { s with tw := { s.tw with installed := none } }
    else s

/-! ## EVACUATE (R435) -/

/-- The live EVACUATE job. Its step: 0 full checkpoints, 1 waits for an epoch boundary, 2 egress stopped, 3 fenced. -/
def State.evacJob (s : State) : Option Job := s.hi.jobs.find? fun j => j.op = 0x66 && j.st ≠ .held

/-- Egress stops at an epoch boundary, and the gathered notes leave. -/
def State.evacEpoch (s : State) : State :=
  match s.evacJob with
  | some j => if j.step = 1 ∧ j.st = .running then (s.setJob { j with step := 2 }).flushNotes else s
  | none => s

/-- A heartbeat of the twin shows the slot ACTING: the fence is repeated no more and the job ends. -/
def State.evacHeard (s : State) (l : Nat) (slots : List Nat) : State :=
  if s.tw.evacLink = some l ∧ slots.any (· = 5) then
    let s : State := { s with tw := { s.tw with evacLink := none } }
    match s.evacJob with
    | some j => s.endJob j.handle 0 0 []
    | none => s
  else s

end Sys2Proof.Machine
end

