-- ==== Sys2Proof/Machine/ChannelCommands.lean ====
section
/-! DEFINITION. The channel commands (R30, R31, R40, R163, R172-R174, R192-R195, R222, R230, R231, R389-R392, R542). -/
namespace Sys2Proof.Machine

/-! ## Opening -/

/-- Steps 3 to 7 of R542 and the open itself. -/
def State.openFor (s : State) (o : Origin) (r : OpenReq) : State :=
  match s.openChecks r with
  | .error e => s.complete o e 0 []
  | .ok (home, ctx) =>
    let s := s.openChannel r home ctx
    let s := match s.chan r.chan with
      | some c => if c.mirror ≠ 0 then s.mirror (.opened r.chan r.granules (s.mirrorClass r.chan c)) else s
      | none => s
    s.complete o 0 0 [r.units + home * 2 ^ 16]

/-- The fields of a basic open keep their ranges (R8, R230). -/
def basicFieldsOk (r : OpenReq) : Bool :=
  decide (1 ≤ r.profile) && decide (r.profile ≤ 4) && decide (r.frame ≤ 2) && decide (r.mirror ≤ 2) && decide (r.stagger < 40)
    && profileFrame r.profile r.ip r.frame

/-- CH_OPEN. -/
def execChOpen (c : HCmd) (s : State) : Host.Outcome State Fault Refusal :=
  let a := arg c 0
  let r := basicReq (a % 8192) (bits a 16 4) (bit a 24) (bits a 20 2) (bits a 22 2) (arg c 1 % 64) false
  .next (s.command c 0x10 (argMask c [0x1FF1FFF, 0x3F] && decide (r.chan < s.chanLimit) && basicFieldsOk r) (admitsChannels s.mode)
    (some r.chan) false fun s o => if basicOk r then s.openFor o r else s.complete o 5 0 [])

/-- What an expert open asks for: the charge is the declared figure, which is no lower than the computed one (R231). -/
def graphReq (c : HCmd) : OpenReq :=
  let a := arg c 0
  { chan := a % 8192, profile := 0, ip := bit a 24, frame := bits a 20 2, mirror := bits a 22 2, stagger := arg c 1 % 64,
    cluster := if bit a 29 then none else some (bits a 25 4), granules := arg c 2, units := arg c 3, graph := leWords (bufBytes c),
    lantern := false }

/-- The content of a graph, its maps and its cost (R195, R231, R391). -/
def State.graphContentOk (s : State) (r : OpenReq) : Bool :=
  let g := graphOf r.graph
  let u := graphUnits g (Config.expertTail r.graph).val r.mirror r.frame
  graphOk r.graph && decide ((areasOf g).total ≤ r.granules * granuleBytes) && decide (u ≤ r.units) && decide (r.units ≤ 255)
    && !(r.mirror = 0 && g.nodes.any fun nd => nd.kid = 0x16)
    && s.mapsFit (r.cluster.getD (s.homeChoice.getD 0)) (placeGraph g)

/-- CH_OPEN_GRAPH. -/
def execChOpenGraph (c : HCmd) (s : State) : Host.Outcome State Fault Refusal :=
  let a := arg c 0
  let r := graphReq c
  let named := if bit a 29 then decide (bits a 25 4 = 0) else decide (bits a 25 4 < s.clusters)
  .next (s.command c 0x11 (bufMask c [0x3FF01FFF, 0x3F, 0x7F, 0xFFFFFFFF] && decide (bufLen c = 2240) && decide (r.chan < s.chanLimit)
    && decide (r.frame ≤ 2) && decide (r.mirror ≤ 2) && decide (r.stagger < 40) && decide (4 ≤ r.granules) && decide (r.granules ≤ 64)
    && named) (admitsChannels s.mode) (some r.chan) true fun s o => if s.graphContentOk r then s.openFor o r else s.complete o 5 0 [])

/-! ## Closing -/

/-- CH_CLOSE. -/
def execChClose (c : HCmd) (s : State) : Host.Outcome State Fault Refusal :=
  let n := arg c 0
  .next (s.command c 0x12 (argMask c [0x1FFF] && decide (n < s.chanLimit)) true (some n) false fun s o =>
    s.withChan o n true fun s _ => (s.migrationClosed n).beginClose n (some o))

/-- CLOSE_COMPLETE: `n` the channel; nothing happens while a node of it runs or an item of it is on its way. -/
def execCloseComplete (n : BitVec 13) (s : State) : Host.Outcome State Fault Refusal :=
  .next (match s.chan n.toNat with
  | none => s
  | some c =>
    if c.st = .closing ∧ s.closeDone n.toNat c then
      let s := s.removeChan n.toNat
      let s := if c.mirror ≠ 0 then s.mirror (.closed n.toNat) else s
      s.actingEnd.completeOpt c.closer 0 0 []
    else s)

/-! ## Parameters and contexts -/

/-- The bits of words 40-63 that basic level may change (R222). -/
def basicParamMask (i : Nat) : Nat := nth [0x700, 0, 0x0FFF0FFF, 0x7F, 0x3FF, 0x1FFFFFF, 0x3F1F, 0x7F7F] (i - 40)

/-- CH_PARAM's decision for a channel: words 40-63 before and after, at expert level or not (R222, R392). -/
def paramOk (c : Chan) (expert : Bool) (old new : List Nat) : Bool :=
  if c.profile = 0 then expert
  else
    let basic : Bool := (List.range 24).all fun i =>
      let m := basicParamMask (40 + i)
      nth new i - (nth new i &&& m) = nth old i - (nth old i &&& m)
    (expert || basic) && paramsOk c.profile new
      && (bits (nth new 5) 0 24 = bits (nth old 5) 0 24 || jbLimitOk c.graph c.frame (nth new 5))

/-- CH_PARAM. -/
def execChParam (c : HCmd) (s : State) : Host.Outcome State Fault Refusal :=
  let n := arg c 0
  let first := arg c 1 % 64
  let count := bits (arg c 1) 8 6
  .next (s.command c 0x13 (argMask c ([0x1FFF, 0x3F3F] ++ List.replicate (min count 11) 0xFFFFFFFF) && decide (n < s.chanLimit)
    && decide (40 ≤ first) && decide (1 ≤ count) && decide (count ≤ 11) && decide (first + count ≤ 64)) true (some n) false fun s o =>
      s.withChan o n true fun s ch =>
        let old := (List.range 24).map fun i => s.ctxWord ch (40 + i)
        let new := (List.range 24).map fun i => if first ≤ 40 + i ∧ 40 + i < first + count then arg c (2 + 40 + i - first) else nth old i
        if paramOk ch (cmdExpert c) old new then (s.setBytes (ch.ctx + 160) (wordsLe new)).complete o 0 0 []
        else s.complete o 5 0 [])

/-- CH_STATUS. -/
def execChStatus (c : HCmd) (s : State) : Host.Outcome State Fault Refusal :=
  let n := arg c 0
  .next (s.command c 0x14 (argMask c [0x1FFF, 0xF] && decide (n < s.chanLimit)) true (some n) false fun s o =>
    s.withChan o n false fun s ch =>
      let a := ch.ctx + ch.areas.nodes + 128 * arg c 1
      s.complete o 0 0 [s.word a, s.word (a + 4), s.ctxWord ch 0, s.ctxWord ch 1])

/-- CTX_READ: `errs` the errors that its reads meet. -/
def execCtxRead (c : HCmd) (errs : List MemErr) (s : State) : Host.Outcome State Fault Refusal :=
  let n := arg c 0
  let ofs := arg c 1
  .next (s.command c 0x15 (bufMask c [0x1FFF, 0xFFFFFFFF] && decide (n < s.chanLimit) && decide (ofs % 4 = 0) && decide (bufLen c % 4 = 0)
    && decide (4 ≤ bufLen c)) true (some n) false fun s o =>
      s.withChan o n false fun s ch =>
        if ofs + bufLen c > ch.granules * granuleBytes then s.complete o 5 0 []
        else
          let s := s.memErrs errs
          if s.poisoned (ch.ctx + ofs) (bufLen c) then s.poisonSeen.complete o 10 0 []
          else (s.emit (.host (bufAddr c) (s.bytesAt (ch.ctx + ofs) (bufLen c)))).complete o 0 0 [])

/-- CTX_WRITE. -/
def execCtxWrite (c : HCmd) (s : State) : Host.Outcome State Fault Refusal :=
  let n := arg c 0
  let ofs := arg c 1
  .next (s.command c 0x16 (bufMask c [0x1FFF, 0xFFFFFFFF] && decide (n < s.chanLimit) && decide (ofs % 4 = 0) && decide (160 ≤ ofs)
    && decide (bufLen c % 4 = 0) && decide (4 ≤ bufLen c)) true (some n) true fun s o =>
      s.withChan o n true fun s ch =>
        if ofs + bufLen c > ch.granules * granuleBytes then s.complete o 5 0 []
        else (s.setBytes (ch.ctx + ofs) (bufBytes c)).complete o 0 0 [])

/-! ## Cancels and flows -/

/-- The cancel of a node instance (R173, R174). -/
def State.nodeCancel (s : State) (o : Origin) (n : Nat) (ch : Chan) (nd f : Nat) : State :=
  let hit (e : Entry) : Bool := e.kind = .node && e.chan = n && e.node = nd && e.frame % 16384 = f
  match s.queued.find? hit with
  | some e => (((s.dropQueued hit).endCancelled e none).incS F.TH_CANCEL_CNT_CANCELS 1).complete o 3 0 []
  | none =>
    match s.runs.find? (fun r => hit r.2.e) with
    | some (k, r) =>
      let s := s.setCore k { s.core k with run := some { r with e := { r.e with cancel := true } } }
      { s with th := { s.th with cancels := s.th.cancels ++ [⟨n, nd, r.e.frame, 0, o⟩] } }
    | none =>
      let past : Bool := match mfind ch.ran nd with
        | some v => decide ((v + 16384 - 1 - f) % 16384 < 8192)
        | none => false
      if past ∨ nd ≥ ch.graph.nodes.length then s.complete o 8 0 []
      else if (nd, f) ∈ ch.tombs then s.complete o 3 0 []
      else if (s.chans.foldl (fun acc x => acc + x.2.tombs.length) 0) ≥ 1024 then (s.setFlag F.TH_EVENT_TOMB_FULL true).complete o 2 0 []
      else ((s.setChan n { ch with tombs := ch.tombs ++ [(nd, f)] }).incS F.TH_CANCEL_CNT_CANCELS 1).complete o 3 0 []

/-- NODE_CANCEL. -/
def execNodeCancel (c : HCmd) (s : State) : Host.Outcome State Fault Refusal :=
  let n := arg c 0
  .next (s.command c 0x17 (argMask c [0x1FFF, 0x3FFF000F] && decide (n < s.chanLimit)) true (some n) false fun s o =>
    s.withChan o n true fun s ch => s.nodeCancel o n ch (arg c 1 % 16) (bits (arg c 1) 16 14))

/-- FLOW_RESYNC: reservations of running nodes stay. -/
def execFlowResync (c : HCmd) (s : State) : Host.Outcome State Fault Refusal :=
  let f := arg c 0
  .next (s.command c 0x18 (argMask c [0x3FFF, 0xFFFF] && decide (f / 2 < s.chanLimit)) true (some (f / 2)) false fun s o =>
    s.withChan o (f / 2) true fun s _ => ((s.setFlow f ⟨arg c 1, [], false, s.elapsed⟩).writeNext (f / 2)).complete o 0 0 [])

end Sys2Proof.Machine
end

