-- ==== Sys2Proof/Machine/CompassEvents.lean ====
section
/-! DEFINITION. Commands and events of Compass (R285-R297). -/
namespace Sys2Proof.Machine

/-- TIME_STEP: CP_CTRL.SET. -/
def execTimeStep (s : State) : Host.Outcome State Fault Refusal := .next s.timeStep

/-- CP_ADJ_WRITE. -/
def execCpAdjWrite (v : BitVec 32) (s : State) : Host.Outcome State Fault Refusal := .next (s.setResidue v.toNat)

/-- SLEW_ABSORBED: the residue reaches zero (R287). -/
def execSlewAbsorbed (s : State) : Host.Outcome State Fault Refusal :=
  .next (if s.cp.residue.natAbs ≤ slewUnit.natAbs then
    (let c := s.cp.add s.cp.residue
     { s with cp := { c with residue := 0 } })
  else s)

/-- PPS_IN_EDGE: a rising edge; with SRC 2 a comparison (R289, R291). -/
def execPpsInEdge (s : State) : Host.Outcome State Fault Refusal :=
  let s : State := { s with cp := { s.cp with lastPps := s.elapsed } }
  .next (if s.fld F.CP_SRC_CFG_SRC = 2 ∧ s.flag F.CP_STATUS_REF_LOST = false then s.compare (wrapErr s.cp.ns 1000000000) else s)

/-- SRC_LOST: no PPS_IN edge within 1.1 s (R291). -/
def execSrcLost (s : State) : Host.Outcome State Fault Refusal :=
  .next (if s.fld F.CP_SRC_CFG_SRC = 2 ∧ s.cp.lastPps + 1100000000 ≤ s.elapsed then s.holdover else s)

/-- PPS_OUT_RISE: the nanoseconds pass OFS_NS (R295). -/
def execPpsOutRise (s : State) : Host.Outcome State Fault Refusal :=
  let ofs := s.fld F.CP_PPS_OUT_OFS_NS * 1024
  .next (if s.flag F.CP_PPS_OUT_EN ∧ s.flag F.CP_STATUS_TIME_VALID ∧ s.flag F.CP_STATUS_REF_LOST = false ∧ s.cp.ppsHigh = none
      ∧ s.cp.stepped = false ∧ ofs ≤ s.cp.ns ∧ s.cp.ns ≤ ofs + 40 then
    ({ s with cp := { s.cp with ppsHigh := some s.elapsed } } : State).emit (.pin "PPS_OUT" true)
  else s)

/-- PPS_OUT_FALL: WIDTH_MS after the rise (R295). -/
def execPpsOutFall (s : State) : Host.Outcome State Fault Refusal :=
  match s.cp.ppsHigh with
  | none => .next s
  | some t => .next (if t + s.fld F.CP_PPS_OUT_WIDTH_MS * 1000000 ≤ s.elapsed then
      ({ s with cp := { s.cp with ppsHigh := none } } : State).emit (.pin "PPS_OUT" false) else s)

/-- CAPTURE_EDGE: the selected edge of capture unit `i` (R297). -/
def execCaptureEdge (i : Fin 6) (s : State) : Host.Outcome State Fault Refusal :=
  if s.flag (F.CP_CAP_CFG_EN i) then
    let s := if s.flag (F.CP_CAP_CFG_VALID i) then (s.setFlag (F.CP_CAP_CFG_OVR i) true).incS F.CP_CNT_CAP_OVR 1 else s
    .next (((s.setFld (F.CP_CAP_NS_VALUE i) s.cp.ns).setFld (F.CP_CAP_SEC_VALUE i) s.cp.sec).setFlag (F.CP_CAP_CFG_VALID i) true)
  else .next s

/-- A read of CP_CAP_SEC clears VALID (R297). -/
def execCapSecRead (i : Fin 6) (s : State) : Host.Outcome State Fault Refusal :=
  let s : State := { s with lastRead := s.fld (F.CP_CAP_SEC_VALUE i) }
  .next (s.setFlag (F.CP_CAP_CFG_VALID i) false)

/-- A read of CP_NSEC latches the seconds (R285). -/
def execCpNsecRead (s : State) : Host.Outcome State Fault Refusal :=
  let s : State := { s with lastRead := s.cp.ns }
  .next ((s.setFld F.CP_SEC_LO_SEC_LO s.cp.sec).setFld F.CP_SEC_HI_SEC_HI (s.cp.sec / 2 ^ 32))

end Sys2Proof.Machine
end

