-- ==== Sys2Proof/Machine/Data.lean ====
section
/-! DEFINITION. Dziul instructions that compute and move data: quads, scalar accumulators, 24-bit arithmetic, moves, loads
and stores (R112-R120). -/
namespace Sys2Proof.Machine

/-- MPYQ (R114, R115). -/
def execMpyq (k : Fin 144) (f : BitVec 40) (s : State) : Host.Outcome State Fault Refusal :=
  .next (s.dziul k 0x10 f (quadBody .mpy))

/-- MACQ (R114, R115). -/
def execMacq (k : Fin 144) (f : BitVec 40) (s : State) : Host.Outcome State Fault Refusal :=
  .next (s.dziul k 0x11 f (quadBody .mac))

/-- MSUQ (R114, R115). -/
def execMsuq (k : Fin 144) (f : BitVec 40) (s : State) : Host.Outcome State Fault Refusal :=
  .next (s.dziul k 0x12 f (quadBody .msu))

/-- FTAP (R116). -/
def execFtap (k : Fin 144) (f : BitVec 40) (s : State) : Host.Outcome State Fault Refusal :=
  .next (s.dziul k 0x13 f (tapBody false))

/-- FTAPX (R116). -/
def execFtapx (k : Fin 144) (f : BitVec 40) (s : State) : Host.Outcome State Fault Refusal :=
  .next (s.dziul k 0x14 f (tapBody true))

/-- MPY (R118). -/
def execMpy (k : Fin 144) (f : BitVec 40) (s : State) : Host.Outcome State Fault Refusal :=
  .next (s.dziul k 0x20 f (scalarBody .mpy))

/-- MAC (R118). -/
def execMac (k : Fin 144) (f : BitVec 40) (s : State) : Host.Outcome State Fault Refusal :=
  .next (s.dziul k 0x21 f (scalarBody .mac))

/-- MSU (R118). -/
def execMsu (k : Fin 144) (f : BitVec 40) (s : State) : Host.Outcome State Fault Refusal :=
  .next (s.dziul k 0x22 f (scalarBody .msu))

/-- ADDA (R118). -/
def execAdda (k : Fin 144) (f : BitVec 40) (s : State) : Host.Outcome State Fault Refusal :=
  .next (s.dziul k 0x28 f (addaBody false))

/-- SUBA (R118). -/
def execSuba (k : Fin 144) (f : BitVec 40) (s : State) : Host.Outcome State Fault Refusal :=
  .next (s.dziul k 0x29 f (addaBody true))

/-- NEGA (R118). -/
def execNega (k : Fin 144) (f : BitVec 40) (s : State) : Host.Outcome State Fault Refusal :=
  .next (s.dziul k 0x2A f (negaBody false))

/-- ABSA (R118). -/
def execAbsa (k : Fin 144) (f : BitVec 40) (s : State) : Host.Outcome State Fault Refusal :=
  .next (s.dziul k 0x2B f (negaBody true))

/-- CLRA (R112). -/
def execClra (k : Fin 144) (f : BitVec 40) (s : State) : Host.Outcome State Fault Refusal :=
  .next (s.dziul k 0x2C f (clrBody false))

/-- CLRQ (R112). -/
def execClrq (k : Fin 144) (f : BitVec 40) (s : State) : Host.Outcome State Fault Refusal :=
  .next (s.dziul k 0x2D f (clrBody true))

/-- ASHA (R118). -/
def execAsha (k : Fin 144) (f : BitVec 40) (s : State) : Host.Outcome State Fault Refusal :=
  .next (s.dziul k 0x2E f ashaBody)

/-- CMPA (R118). -/
def execCmpa (k : Fin 144) (f : BitVec 40) (s : State) : Host.Outcome State Fault Refusal :=
  .next (s.dziul k 0x2F f cmpaBody)

/-- EXP (R118). -/
def execExpOp (k : Fin 144) (f : BitVec 40) (s : State) : Host.Outcome State Fault Refusal :=
  .next (s.dziul k 0x30 f expBody)

/-- NORM (R118). -/
def execNorm (k : Fin 144) (f : BitVec 40) (s : State) : Host.Outcome State Fault Refusal :=
  .next (s.dziul k 0x31 f normBody)

/-- ADD (R112). -/
def execAdd (k : Fin 144) (f : BitVec 40) (s : State) : Host.Outcome State Fault Refusal :=
  .next (s.dziul k 0x38 f (aluBody .add))

/-- SUB (R112). -/
def execSub (k : Fin 144) (f : BitVec 40) (s : State) : Host.Outcome State Fault Refusal :=
  .next (s.dziul k 0x39 f (aluBody .sub))

/-- AND (R112). -/
def execAndOp (k : Fin 144) (f : BitVec 40) (s : State) : Host.Outcome State Fault Refusal :=
  .next (s.dziul k 0x3A f (aluBody .and))

/-- OR (R112). -/
def execOrOp (k : Fin 144) (f : BitVec 40) (s : State) : Host.Outcome State Fault Refusal :=
  .next (s.dziul k 0x3B f (aluBody .or))

/-- XOR (R112). -/
def execXorOp (k : Fin 144) (f : BitVec 40) (s : State) : Host.Outcome State Fault Refusal :=
  .next (s.dziul k 0x3C f (aluBody .xor))

/-- LSL (R112). -/
def execLsl (k : Fin 144) (f : BitVec 40) (s : State) : Host.Outcome State Fault Refusal :=
  .next (s.dziul k 0x3D f (shiftBody .lsl))

/-- LSR (R112). -/
def execLsr (k : Fin 144) (f : BitVec 40) (s : State) : Host.Outcome State Fault Refusal :=
  .next (s.dziul k 0x3E f (shiftBody .lsr))

/-- ASR (R112). -/
def execAsr (k : Fin 144) (f : BitVec 40) (s : State) : Host.Outcome State Fault Refusal :=
  .next (s.dziul k 0x3F f (shiftBody .asr))

/-- CMP (R112). -/
def execCmp (k : Fin 144) (f : BitVec 40) (s : State) : Host.Outcome State Fault Refusal :=
  .next (s.dziul k 0x40 f cmpBody)

/-- ADDI (R112). -/
def execAddi (k : Fin 144) (f : BitVec 40) (s : State) : Host.Outcome State Fault Refusal :=
  .next (s.dziul k 0x41 f addiBody)

/-- MOVI (R119). -/
def execMovi (k : Fin 144) (f : BitVec 40) (s : State) : Host.Outcome State Fault Refusal :=
  .next (s.dziul k 0x42 f moviBody)

/-- MOV (R119). -/
def execMov (k : Fin 144) (f : BitVec 40) (s : State) : Host.Outcome State Fault Refusal :=
  .next (s.dziul k 0x43 f movBody)

/-- LD (R120). -/
def execLd (k : Fin 144) (f : BitVec 40) (s : State) : Host.Outcome State Fault Refusal :=
  .next (s.dziul k 0x50 f (ldBody false))

/-- ST (R120). -/
def execSt (k : Fin 144) (f : BitVec 40) (s : State) : Host.Outcome State Fault Refusal :=
  .next (s.dziul k 0x51 f (ldBody true))

/-- LDA (R120). -/
def execLda (k : Fin 144) (f : BitVec 40) (s : State) : Host.Outcome State Fault Refusal :=
  .next (s.dziul k 0x52 f (ldaBody false))

/-- STA (R120). -/
def execSta (k : Fin 144) (f : BitVec 40) (s : State) : Host.Outcome State Fault Refusal :=
  .next (s.dziul k 0x53 f (ldaBody true))

end Sys2Proof.Machine
end

