-- ==== Sys2Proof/Machine/Deflate.lean ====
section
/-! DEFINITION. DEFLATE as Rucksack writes and reads it (R356-R359, R370): every output byte stands with the number of input bytes
that are consumed when it is written. -/
namespace Sys2Proof.Machine

/-- Adler-32 of a list of bytes (RFC 1950). -/
def adler32 (l : List Byte) : Nat :=
  let p := l.foldl (fun (p : Nat × Nat) b => ((p.1 + b.toNat) % 65521, (p.2 + (p.1 + b.toNat) % 65521) % 65521)) (1, 0)
  p.2 * 65536 + p.1

def crcOf (l : List Byte) : Nat := (crc32 0xEDB88320 l).toNat

/-! ## Codes of RFC 1951 -/

def lenBase : List Nat :=
  [3, 4, 5, 6, 7, 8, 9, 10, 11, 13, 15, 17, 19, 23, 27, 31, 35, 43, 51, 59, 67, 83, 99, 115, 131, 163, 195, 227, 258]
def lenExtra : List Nat := [0, 0, 0, 0, 0, 0, 0, 0, 1, 1, 1, 1, 2, 2, 2, 2, 3, 3, 3, 3, 4, 4, 4, 4, 5, 5, 5, 5, 0]
def distBase : List Nat :=
  [1, 2, 3, 4, 5, 7, 9, 13, 17, 25, 33, 49, 65, 97, 129, 193, 257, 385, 513, 769, 1025, 1537, 2049, 3073, 4097, 6145, 8193, 12289,
   16385, 24577]
def distExtra : List Nat :=
  [0, 0, 0, 0, 1, 1, 2, 2, 3, 3, 4, 4, 5, 5, 6, 6, 7, 7, 8, 8, 9, 9, 10, 10, 11, 11, 12, 12, 13, 13]

/-- The last index of a rising table whose value is no greater. -/
def codeIndex (l : List Nat) (v : Nat) : Nat := (l.filter (· ≤ v)).length - 1

/-- `n` bits of a value, least significant first; and most significant first, as codes are packed. -/
def bitsLow (n v : Nat) : List Bool := (List.range n).map (bit v)
def bitsHigh (n v : Nat) : List Bool := (bitsLow n v).reverse

/-- The fixed code of a literal or length symbol. -/
def fixedCode (v : Nat) : List Bool :=
  if v < 144 then bitsHigh 8 (0x30 + v) else if v < 256 then bitsHigh 9 (0x190 + v - 144)
  else if v < 280 then bitsHigh 7 (v - 256) else bitsHigh 8 (0xC0 + v - 280)

/-! ## Compression (R356) -/

/-- Length of the common prefix of two lists, at most `n`. -/
def common : Nat → List Byte → List Byte → Nat
  | 0, _, _ => 0
  | _ + 1, [], _ => 0
  | _ + 1, _, [] => 0
  | n + 1, a :: r, b :: t => if a = b then common n r t + 1 else 0

/-- Length of the match at a distance: `rev` is the history, newest first, `rest` the input still to code. -/
def matchAt (rev rest : List Byte) (d n : Nat) : Nat := common n ((rev.take d).reverse ++ rest) rest

/-- The greedy match at a position: length and distance (R356). -/
def bestMatch (rev rest : List Byte) (window : Nat) : Nat × Nat :=
  let cand := ((List.range (min window rev.length)).map (· + 1)).filter fun d => matchAt rev rest d 3 = 3
  (cand.take 4).foldl (fun b d => let n := matchAt rev rest d 258; if n > b.1 then (n, d) else b) (0, 0)

/-- Codes of the block's body, each with the input bytes consumed after it. -/
def lzCodes : Nat → List Byte → List Byte → Nat → Nat → List (List Bool × Nat)
  | 0, _, _, _, n => [(fixedCode 256, n)]
  | _ + 1, _, [], _, n => [(fixedCode 256, n)]
  | fuel + 1, rev, b :: rest, window, n =>
    let m := bestMatch rev (b :: rest) window
    if m.1 < 3 then (fixedCode b.toNat, n + 1) :: lzCodes fuel (b :: rev) rest window (n + 1)
    else
      let i := codeIndex lenBase m.1
      let k := codeIndex distBase m.2
      let code := fixedCode (257 + i) ++ bitsLow (nth lenExtra i) (m.1 - nth lenBase i) ++ bitsHigh 5 k
        ++ bitsLow (nth distExtra k) (m.2 - nth distBase k)
      (code, n + m.1) :: lzCodes fuel (((b :: rest).take m.1).reverse ++ rev) ((b :: rest).drop m.1) window (n + m.1)

/-- Packs bits into bytes, the last padded with zeros; each byte is marked with the mark of its last bit. -/
def packBits : Nat → List (Bool × Nat) → List (Byte × Nat)
  | 0, _ => []
  | _ + 1, [] => []
  | fuel + 1, l =>
    let h := l.take 8
    let v := h.zipIdx.foldl (fun acc e => acc + b2n e.1.1 * 2 ^ e.2) 0
    (BitVec.ofNat 8 v, (h.getLast?.map (·.2)).getD 0) :: packBits fuel (l.drop 8)

/-- The DEFLATE stream of an input with a dictionary. -/
def deflate (dict input : List Byte) (window : Nat) : List (Byte × Nat) :=
  let codes := ([true, true, false], 0) :: lzCodes input.length (dict.drop (dict.length - window)).reverse input window 0
  let l := codes.flatMap fun c => c.1.map fun b => (b, c.2)
  packBits l.length l

/-- The output of a compression job (R357): `dict` is there when the dictionary is used. -/
def compressJob (wrap : Nat) (win4 : Bool) (dict : Option (List Byte)) (input : List Byte) : List (Byte × Nat) :=
  let body := deflate (dict.getD []) input (if win4 then 4096 else 32768)
  let mark (n : Nat) (l : List Byte) : List (Byte × Nat) := l.map fun b => (b, n)
  let n := input.length
  if wrap = 1 then
    let cmf := if win4 then 0x48 else 0x78
    let f := if dict.isSome then 32 else 0
    let flg := f + (31 - (cmf * 256 + f) % 31) % 31
    let id := match dict with
      | some d => beBytes 4 (adler32 d)
      | none => []
    mark 0 ([BitVec.ofNat 8 cmf, BitVec.ofNat 8 flg] ++ id) ++ body ++ mark n (beBytes 4 (adler32 input))
  else if wrap = 2 then mark 0 [0x1F, 0x8B, 8, 0, 0, 0, 0, 0, 4, 255] ++ body ++ mark n (leBytes 4 (crcOf input) ++ leBytes 4 n)
  else body

/-! ## Decompression (R357, R370) -/

/-- An error: DETAIL, and the bit position of the element that it names. -/
structure RkErr where
  detail : Nat
  at_ : Nat
deriving DecidableEq, Repr

/-- The decoder: bit position, and the output, newest first. -/
structure Inf where
  pos : Nat
  out : List (Byte × Nat)
deriving DecidableEq, Repr

/-- What the decoder is given: the input, the history of the dictionary, newest first, and EXPECT_LEN. -/
structure InfIn where
  input : List Byte
  dict : List Byte
  expect : Nat
deriving DecidableEq, Repr

def InfIn.total (x : InfIn) : Nat := 8 * x.input.length
def InfIn.bitAt (x : InfIn) (i : Nat) : Bool := bit (x.input.getD (i / 8) 0).toNat (i % 8)

/-- TRUNCATED_INPUT, at IN_LEN. -/
def InfIn.truncated (x : InfIn) : RkErr := ⟨0x4A, x.total⟩

/-- `n` bits from a position, least significant first. -/
def InfIn.get (x : InfIn) (pos n : Nat) : Except RkErr Nat :=
  if pos + n > x.total then .error x.truncated
  else .ok ((List.range n).foldl (fun acc i => acc + b2n (x.bitAt (pos + i)) * 2 ^ i) 0)

/-- The canonical codes of a list of code lengths: length, code, symbol. -/
def codesOf (lens : List Nat) : List (Nat × Nat × Nat) :=
  let count (n : Nat) : Nat := (lens.filter (· = n)).length
  let first := (List.range 16).foldl (fun (l : List Nat) n => l ++ [if n ≤ 1 then 0 else (nth l (n - 1) + count (n - 1)) * 2]) []
  lens.zipIdx.filterMap fun e =>
    if e.1 = 0 then none else some (e.1, nth first e.1 + ((lens.take e.2).filter (· = e.1)).length, e.2)

/-- 2^15 less the room that the codes take: 0 when the set is complete. -/
def codeRoom (lens : List Nat) : Int := 32768 - (lens.foldl (fun acc n => if n = 0 then acc else acc + 2 ^ (15 - n)) 0 : Nat)

/-- Reads one symbol: the next bits form a code, most significant bit first. -/
def InfIn.symbol (x : InfIn) (codes : List (Nat × Nat × Nat)) (start : Nat) : Nat → Nat → Nat → Except RkErr (Nat × Nat)
  | 0, _, _ => .error ⟨0x45, start⟩
  | fuel + 1, n, v =>
    if start + n ≥ x.total then .error x.truncated
    else
      let v := 2 * v + b2n (x.bitAt (start + n))
      match codes.find? fun c => c.1 = n + 1 && c.2.1 = v with
      | some c => .ok (c.2.2, start + n + 1)
      | none => symbol x codes start fuel (n + 1) v

/-- Appends one byte. -/
def Inf.put (s : Inf) (b : Byte) : Inf := { s with out := (b, s.pos / 8) :: s.out }

/-- Copies a match of `n` bytes at a distance. -/
def Inf.copy (dict : List Byte) (d : Nat) : Nat → Inf → Inf
  | 0, s => s
  | n + 1, s =>
    let b := if d ≤ s.out.length then ((s.out[d - 1]?).map (·.1)).getD 0 else dict.getD (d - 1 - s.out.length) 0
    copy dict d n (s.put b)

/-- The body of a block of codes. -/
def InfIn.codes (x : InfIn) (lit dist : List (Nat × Nat × Nat)) : Nat → Inf → Inf × Option RkErr
  | 0, s => (s, some x.truncated)
  | fuel + 1, s =>
    match x.symbol lit s.pos 15 0 0 with
    | .error e => (s, some e)
    | .ok (v, p) =>
      if v = 256 then ({ s with pos := p }, none)
      else if v < 256 then
        (if x.expect ≠ 0 ∧ s.out.length ≥ x.expect then (s, some ⟨0x47, s.pos⟩)
         else codes x lit dist fuel (({ s with pos := p } : Inf).put (BitVec.ofNat 8 v)))
      else if v ≥ 286 then (s, some ⟨0x45, s.pos⟩)
      else
        let i := v - 257
        match x.get p (nth lenExtra i) with
        | .error e => (s, some e)
        | .ok le =>
          let n := nth lenBase i + le
          if x.expect ≠ 0 ∧ s.out.length + n > x.expect then (s, some ⟨0x47, s.pos⟩)
          else
            let q := p + nth lenExtra i
            match x.symbol dist q 15 0 0 with
            | .error e => (s, some e)
            | .ok (k, r) =>
              if k ≥ 30 then (s, some ⟨0x45, q⟩)
              else match x.get r (nth distExtra k) with
                | .error e => (s, some e)
                | .ok de =>
                  let d := nth distBase k + de
                  if d > x.dict.length + s.out.length then (s, some ⟨0x46, q⟩)
                  else codes x lit dist fuel (Inf.copy x.dict d n { s with pos := r + nth distExtra k })

/-- The code lengths of a dynamic block: symbols 16-18 repeat. -/
def InfIn.lengths (x : InfIn) (codes : List (Nat × Nat × Nat)) (total : Nat) : Nat → Nat → List Nat → Except RkErr (List Nat × Nat)
  | 0, _, _ => .error x.truncated
  | fuel + 1, pos, l =>
    if l.length = total then .ok (l, pos)
    else match x.symbol codes pos 7 0 0 with
      | .error e => .error e
      | .ok (v, p) =>
        if v < 16 then lengths x codes total fuel p (l ++ [v])
        else
          let n := if v = 16 then 2 else if v = 17 then 3 else 7
          match x.get p n with
          | .error e => .error e
          | .ok k =>
            let k := k + (if v = 18 then 11 else 3)
            if (v = 16 ∧ l = []) ∨ l.length + k > total then .error ⟨0x45, pos⟩
            else lengths x codes total fuel (p + n) (l ++ List.replicate k (if v = 16 then l.getLast?.getD 0 else 0))

/-- The tables of a dynamic block whose HLIT begins at a position. -/
def InfIn.tables (x : InfIn) (pos : Nat) : Except RkErr (List Nat × List Nat × Nat) :=
  match x.get pos 14 with
  | .error e => .error e
  | .ok h =>
    let hlit := h % 32 + 257
    let hdist := bits h 5 5 + 1
    let hclen := bits h 10 4 + 4
    match x.get (pos + 14) (3 * hclen) with
    | .error e => .error e
    | .ok v =>
      let order := [16, 17, 18, 0, 8, 7, 9, 6, 10, 5, 11, 4, 12, 3, 13, 2, 14, 1, 15]
      let cl := (List.range 19).map fun s => match (List.range hclen).find? fun i => nth order i = s with
        | some i => bits v (3 * i) 3
        | none => 0
      if codeRoom cl ≠ 0 then .error ⟨0x45, pos⟩
      else match x.lengths (codesOf cl) (hlit + hdist) (hlit + hdist + 1) (pos + 14 + 3 * hclen) [] with
        | .error e => .error e
        | .ok (l, p) =>
          let lit := l.take hlit
          let dist := l.drop hlit
          let one : Bool := (dist.filter (· ≠ 0)).length ≤ 1 && dist.all (· ≤ 1)
          if codeRoom lit ≠ 0 ∨ (codeRoom dist ≠ 0 ∧ one = false) then .error ⟨0x45, pos⟩ else .ok (lit, dist, p)

def fixedLit : List Nat := List.replicate 144 8 ++ List.replicate 112 9 ++ List.replicate 24 7 ++ List.replicate 8 8
def fixedDist : List Nat := List.replicate 32 5

/-- Copies the bytes of a stored block. -/
def InfIn.stored (x : InfIn) : Nat → Inf → Inf × Option RkErr
  | 0, s => (s, none)
  | n + 1, s =>
    if s.pos + 8 > x.total then (s, some x.truncated)
    else if x.expect ≠ 0 ∧ s.out.length ≥ x.expect then (s, some ⟨0x47, s.pos⟩)
    else stored x n (({ s with pos := s.pos + 8 } : Inf).put (x.input.getD (s.pos / 8) 0))

/-- Blocks up to the one with BFINAL = 1. -/
def InfIn.blocks (x : InfIn) : Nat → Inf → Inf × Option RkErr
  | 0, s => (s, some x.truncated)
  | fuel + 1, s =>
    match x.get s.pos 3 with
    | .error e => (s, some e)
    | .ok h =>
      let p := s.pos + 3
      let r : Inf × Option RkErr := match h / 2 with
        | 0 =>
          let q := (p + 7) / 8 * 8
          (match x.get q 32 with
           | .error e => (s, some e)
           | .ok v => if v % 65536 + v / 65536 ≠ 65535 then (s, some ⟨0x48, q⟩) else x.stored (v % 65536) { s with pos := q + 32 })
        | 1 => x.codes (codesOf fixedLit) (codesOf fixedDist) (x.total + 1) { s with pos := p }
        | 2 =>
          (match x.tables p with
           | .error e => (s, some e)
           | .ok (lit, dist, q) => x.codes (codesOf lit) (codesOf dist) (x.total + 1) { s with pos := q })
        | _ => (s, some ⟨0x44, s.pos + 1⟩)
      match r.2 with
      | some e => (r.1, some e)
      | none => if h % 2 = 1 then (r.1, none) else blocks x fuel r.1

/-- Skips a zero-terminated gzip field; answers the place after it. -/
def skipZero (l : List Byte) : Nat → Nat → Option Nat
  | 0, _ => none
  | fuel + 1, i => if i ≥ l.length then none else if l.getD i 0 = 0 then some (i + 1) else skipZero l fuel (i + 1)

/-- The bytes of the wrapper before the stream: where the stream begins, or an error (R357, R359). -/
def wrapStart (wrap : Nat) (dict : Option (List Byte)) (l : List Byte) : Except RkErr Nat :=
  let at_ (i : Nat) : Nat := (l.getD i 0).toNat
  let short : RkErr := ⟨0x4A, 8 * l.length⟩
  if wrap = 0 then .ok 0
  else if wrap = 1 then
    if l.length < 1 then .error short
    else if at_ 0 % 16 ≠ 8 ∨ at_ 0 / 16 > 7 then .error ⟨0x43, 0⟩
    else if l.length < 2 then .error short
    else if (at_ 0 * 256 + at_ 1) % 31 ≠ 0 then .error ⟨0x43, 8⟩
    else if bit (at_ 1) 5 then
      if l.length < 6 then .error short
      else match dict with
        | some d => if adler32 d = beNat (slice l 2 4) then .ok 6 else .error ⟨0x43, 16⟩
        | none => .error ⟨0x43, 16⟩
    else .ok 2
  else
    let chk := [(0, decide (at_ 0 = 0x1F)), (1, decide (at_ 1 = 0x8B)), (2, decide (at_ 2 = 8)), (3, decide (at_ 3 < 32))]
    match chk.find? fun c => !c.2 || decide (c.1 ≥ l.length) with
    | some c => .error (if c.1 ≥ l.length then short else ⟨0x43, 8 * c.1⟩)
    | none =>
      let flg := at_ 3
      let a := if bit flg 2 then 12 + (at_ 10 + 256 * at_ 11) else 10
      let b := if bit flg 3 then skipZero l (l.length + 1) a else some a
      let c := b.bind fun i => if bit flg 4 then skipZero l (l.length + 1) i else some i
      match c with
      | none => .error short
      | some i =>
        if bit flg 1 then
          (if i + 2 > l.length then .error short
           else if crcOf (l.take i) % 65536 = at_ i + 256 * at_ (i + 1) then .ok (i + 2) else .error ⟨0x43, 8 * i⟩)
        else if i > l.length then .error short
        else .ok i

/-- The first field of a trailer that differs; the fields must lie within the input. -/
def trailer (l : List Byte) (pos : Nat) (fields : List (List Byte)) : Option RkErr × Nat :=
  fields.foldl (fun (acc : Option RkErr × Nat) f =>
    match acc.1 with
    | some _ => acc
    | none =>
      if acc.2 + f.length > l.length then (some ⟨0x4A, 8 * l.length⟩, acc.2)
      else if slice l acc.2 f.length = f then (none, acc.2 + f.length)
      else (some ⟨0x49, 8 * acc.2⟩, acc.2)) (none, pos)

/-- What a decompression job makes of its input: the bytes, the error or the number of input bytes consumed. -/
def decompressJob (wrap : Nat) (dict : Option (List Byte)) (expect : Nat) (l : List Byte) : List (Byte × Nat) × Except RkErr Nat :=
  match wrapStart wrap dict l with
  | .error e => ([], .error e)
  | .ok i =>
    let x : InfIn := ⟨l, (dict.getD []).reverse, expect⟩
    let r := x.blocks (x.total + 1) ⟨8 * i, []⟩
    let out := r.1.out.reverse
    match r.2 with
    | some e => (out, .error e)
    | none =>
      let p := (r.1.pos + 7) / 8
      let data := out.map (·.1)
      if expect ≠ 0 ∧ data.length < expect then (out, .error ⟨0x49, 8 * p⟩)
      else
        let t := if wrap = 1 then trailer l p [beBytes 4 (adler32 data)]
          else if wrap = 2 then trailer l p [leBytes 4 (crcOf data), leBytes 4 data.length] else (none, p)
        match t.1 with
        | some e => (out, .error e)
        | none => (out, .ok t.2)

end Sys2Proof.Machine
end

