-- ==== Sys2Proof/Machine/Rucksack.lean ====
section
/-! DEFINITION. Rucksack (R356-R373): its queues, engines and jobs. -/
namespace Sys2Proof.Machine

/-! ## Access to Hamper -/

/-- What the jobs of an engine read outside slot 0, as the peers answered: input, dictionary block and state block, and the status
of an access that failed, 0 when none did (R190, R191). -/
structure RkFar where
  input : List Byte
  dict : List Byte
  fail : Nat
deriving DecidableEq, Repr

/-- The status of an access that fails: an unmapped page, a window that is not open, a poisoned word, or what a peer answered. -/
def State.rkAccess (s : State) (a n : Nat) (write : Bool) (fail : Nat) : State × Nat :=
  if Sys2Proof.Machine.slotOf a ≠ 0 then
    if s.winOpen (Sys2Proof.Machine.slotOf a) = false then (s.remoteErr, 8)
    else if fail ≠ 0 then (s.remoteErr, fail)
    else (s, 0)
  else if s.mappedRange a n = false then
    (match (List.range ((a + n - 1) / pageBytes - a / pageBytes + 1)).find? fun i => (s.physPage (a / pageBytes + i)).isNone with
     | some i => (s.unmappedEvent (a / pageBytes + i), 8)
     | none => (s, 8))
  else if write = false ∧ s.poisoned a n then (s.poisonSeen, 10)
  else (s, 0)

/-- Reads bytes of slot 0, or takes what a peer gave. -/
def State.rkRead (s : State) (a n : Nat) (far : List Byte) : List Byte :=
  if Sys2Proof.Machine.slotOf a ≠ 0 then far.take n ++ List.replicate (n - far.length) 0 else s.bytesAt a n

/-- Writes bytes to slot 0 or through a pooled window. -/
def State.rkWrite (s : State) (a : Nat) (l : List Byte) : State :=
  if Sys2Proof.Machine.slotOf a ≠ 0 then
    (if l = [] then s else s.remoteAccess a (roundUp l.length 4) (some (l ++ List.replicate (roundUp l.length 4 - l.length) 0)) 0 none)
  else s.setBytes a l

/-- A dictionary block: its history bytes (R358). -/
def dictOf (l : List Byte) : List Byte := let n := min 32768 (leNat (l.take 4)); (l.drop 64).drop (32768 - n)

/-- The dictionary block of a history (R358). -/
def dictBlock (h : List Byte) : List Byte :=
  wordsLe [h.length, adler32 h] ++ List.replicate 56 0 ++ List.replicate (32768 - h.length) 0 ++ h

/-! ## The stream of a job -/

/-- What a job writes in all, and how it then ends. -/
def rkStream (w : List Nat) (input dict : List Byte) : List (Byte × Nat) × RkFin :=
  let useDict := if rkDictIn w then some dict else none
  let save (data : List Byte) : List Byte :=
    let all := dict ++ data
    all.drop (all.length - 32768)
  let addr := if rkDictOut w then some (rkAddr w 9) else none
  if rkOp w = 0 then
    let check := if rkWrap w = 2 then crcOf input else adler32 input
    (compressJob (rkWrap w) (rkWin4 w) useDict input, ⟨0, 0, input.length, check, save input, addr⟩)
  else
    let r := decompressJob (rkWrap w) useDict (nth w 11) input
    let data := r.1.map (·.1)
    match r.2 with
    | .error e => (r.1, ⟨10, e.detail, e.at_ / 8, e.at_ % 8, [], none⟩)
    | .ok n =>
      let check := if rkWrap w = 2 then crcOf data else adler32 data
      (r.1, ⟨0, if n < input.length then 0x4D else 0, n, check, save data, addr⟩)

/-! ## Engines (R364-R366) -/

def State.engJob (s : State) (e : Nat) : Option RkJob := mfind s.rk.eng e

/-- An engine is left free of its job. -/
def State.engFree (s : State) (e : Nat) : State :=
  let s : State := { s with rk := { s.rk with eng := mdel s.rk.eng e } }
  ((s.setFld (F.RK_ENG_STATE e) 0).setFld (F.RK_ENG_OP e) 0).setFlag (F.RK_ENG_HOST e) false

/-- Counts bytes of an engine and of all (R373). -/
def State.rkBytes (s : State) (e : Nat) (out : Bool) (n : Nat) : State :=
  let k := 2 * e + b2n out
  let old := mget 0 s.rk.bytes k
  let all := mget 0 s.rk.bytes (8 + b2n out) + n
  let b := mput (mput s.rk.bytes k (old + n)) (8 + b2n out) all
  let s : State := { s with rk := { s.rk with bytes := b } }
  let s := s.incWrap (if out then F.RK_EOUT_COUNT e else F.RK_EIN_COUNT e) ((old + n) / 1024 - old / 1024) (s.flag F.RK_CTRL_BYTES_WRAP_EVT)
  if out then (s.setFld F.RK_OUT_LO_BYTES all).setFld F.RK_OUT_HI_BYTES (all / 2 ^ 32)
  else (s.setFld F.RK_IN_LO_BYTES all).setFld F.RK_IN_HI_BYTES (all / 2 ^ 32)

/-- Counts an ended job (R370, R373). -/
def State.rkCount (s : State) (e detail : Nat) : State :=
  let n := s.fld F.RK_JOBS_LO_JOBS + 2 ^ 32 * s.fld F.RK_JOBS_HI_JOBS + 1
  let s := (s.setFld F.RK_JOBS_LO_JOBS n).setFld F.RK_JOBS_HI_JOBS (n / 2 ^ 32)
  let s := s.incW (F.RK_EJOBS_COUNT e) 1
  if 0x40 ≤ detail ∧ detail < 0x50 then s.incS (F.RK_DCNT_COUNT (detail - 0x40)) 1 else s

/-- The output of a cell job lies in its channel's mirror buffer (R422). -/
def State.inMirror (s : State) (c : Chan) (a : Nat) : Bool :=
  let b := c.ctx + c.areas.kernel + s.fld F.TW_MIRROR_BUF_OFS + 64
  decide (b ≤ a) && decide (a < b + 1024 * s.fld F.TW_MIRROR_BUF_KB)

/-- A job ends (R361, R363): the completion words, the token, the checkpoint or the host completion. -/
def State.rkEnd (s : State) (e : Nat) (j : RkJob) (status detail consumed written check : Nat) (verified saved : Bool) : State :=
  let s := (s.engFree e).rkCount e detail
  let s := if status = 10 then s.setFlag F.RK_EVENT_DATA_ERROR true else s
  let status := if status = 0 ∧ j.second then 1 else status
  let w12 := status % 256 * 2 ^ 8 + detail % 256 * 2 ^ 16 + e % 4 * 2 ^ 24 + b2n verified * 2 ^ 26 + b2n j.second * 2 ^ 27 + b2n saved * 2 ^ 28
  match j.host with
  | some h => s.endJob h status detail [w12, consumed, written, check]
  | none =>
    match s.chan j.chan with
    | none => s
    | some c =>
      let s := match s.cellAddr c with
        | some a => s.cellDone a (w12 + 3) consumed written check
        | none => s
      let s := if status ≤ 1 ∧ s.inMirror c (rkAddr j.words 4) then s.checkpointSend j.chan written else s
      if rkToken j.words then s.sourceToken j.chan (rkEdge j.words) c.frameNo else s

/-- An engine is quarantined, for the fourth time retired (R365, R366). -/
def State.quarantine (s : State) (e : Nat) (inj : Bool) : State :=
  let s := s.engFree e
  let q := s.fld (F.RK_ENG_QUARANTINES e) + 1
  let s := (s.setFld (F.RK_ENG_QUARANTINES e) q).setFlag F.RK_EVENT_QUARANTINE true
  let code := 0x0100 + F.RK_EVENT_QUARANTINE.lo
  let s := if inj then s.raiseInj .contained 0x08 e code e 0 0 else s.raise .contained 0x08 e code e 0 0
  let s := if q ≥ 4 then (s.setFld (F.RK_ENG_STATE e) 3).event F.RK_EVENT_RETIRED .warn e e 0 0 else s.setFld (F.RK_ENG_STATE e) 2
  if (List.range 4).all (fun k => decide (2 ≤ s.fld (F.RK_ENG_STATE k))) then s.raise .warn 0x08 0 0x0181 0 0 0 else s

/-- A failed run: the job runs a second time on another engine, or ends with FAULT (R365). -/
def State.rkFail (s : State) (e : Nat) (mismatch inj : Bool) : State :=
  match s.engJob e with
  | none => s
  | some j =>
    let s := s.quarantine e inj
    let free := (List.range 4).any fun k => decide (s.fld (F.RK_ENG_STATE k) < 2)
    if rkRetry j.words ∧ j.second = false ∧ free then
      let j' := { j with second := true, since := s.elapsed }
      match j.host with
      | some h =>
        let s : State := { s with rk := { s.rk with hostQ := j' :: s.rk.hostQ } }
        (match s.job h with
         | some x => s.setJob { x with st := if x.st = JobState.running then .queued else x.st }
         | none => s).rkMark
      | none =>
        let s : State := { s with rk := { s.rk with cellQ := j' :: s.rk.cellQ } }
        (match s.chan j.chan with
         | some c => (match s.cellAddr c with
           | some a => s.cellDone a 1 0 0 0
           | none => s)
         | none => s).rkMark
    else
      let st := s.fld (F.RK_ENG_STATE e)
      let s := (s.incS F.RK_REPLAY_CNT_FAILS 1).rkEnd e { j with second := j.second } 9 (if mismatch then 0x41 else 0x42) 0 0 0 false false
      s.setFld (F.RK_ENG_STATE e) st

/-- The next job for a free engine (R364): whether it is a host job, and the job. -/
def State.rkNext (s : State) : Option (Bool × RkJob) :=
  let running := (s.rk.eng.filter fun e => e.2.host.isSome).length
  let host := if running < s.fld F.RK_CTRL_HOST_ENGINES then s.rk.hostQ.find? (!·.parked) else none
  match s.rk.cellQ, host with
  | c :: _, some h => if s.rk.lastHost then some (false, c) else some (true, h)
  | c :: _, none => some (false, c)
  | [], some h => some (true, h)
  | [], none => none

/-- Longest wait, in µs (R373). -/
def State.rkWait (s : State) (f : Fld) (since : Nat) : State := s.setFld f (max (s.fld f) (min 65535 ((s.elapsed - since) / 1000)))

/-- ENGINE_TAKE_JOB. A RESUME takes its state block, or ends with BAD_STATE (R369). -/
def execEngineTakeJob (e : Fin 4) (s : State) : Host.Outcome State Fault Refusal :=
  .next (if s.flag F.RK_CTRL_EN = false ∨ s.fld (F.RK_ENG_STATE e.val) ≠ 0 ∨ e.val ∈ s.rk.testing then s
  else match s.rkNext with
    | none => s
    | some (host, j) =>
      let q := s.rk.hostQ.erase j
      let c := s.rk.cellQ.erase j
      let s : State := { s with rk := { s.rk with
        hostQ := if host then q else s.rk.hostQ
        cellQ := if host then s.rk.cellQ else c
        eng := mput s.rk.eng e.val j
        lastHost := host } }
      let s := ((s.setFld (F.RK_ENG_STATE e.val) 1).setFld (F.RK_ENG_OP e.val) (rkOp j.words)).setFlag (F.RK_ENG_HOST e.val) host
      let s := s.rkWait (if host then F.RK_WAIT_MAX_HOST_US else F.RK_WAIT_MAX_CELL_US) j.since
      let s := match j.host, s.chan j.chan with
        | some h, _ => (match s.job h with
          | some x => s.setJob { x with st := if x.st = JobState.queued then .running else x.st }
          | none => s)
        | none, some ch => (match s.cellAddr ch with
          | some a => s.cellDone a 2 0 0 0
          | none => s)
        | none, none => s
      if rkOp j.words = 2 ∧ j.skip = 0 ∧ j.second = false then
        let a := rkAddr j.words 7
        if (mfind s.rk.conts a).isNone ∨ (Sys2Proof.Machine.slotOf a = 0 ∧ bit (s.word a) 0 = false) then
          s.rkEnd e.val j 6 0 0 0 0 false false
        else if Sys2Proof.Machine.slotOf a = 0 then s.setWord a (s.word a - 1)
        else s
      else if rkOp j.words = 2 ∧ Sys2Proof.Machine.slotOf (rkAddr j.words 7) = 0 ∧ bit (s.word (rkAddr j.words 7)) 0 then
        s.setWord (rkAddr j.words 7) (s.word (rkAddr j.words 7) - 1)
      else s)

/-- The bytes still to write of an engine's job and its end: those of a state block, or of the whole job. -/
def State.rkWork (s : State) (j : RkJob) (far : RkFar) : List (Byte × Nat) × RkFin × Nat :=
  let cont := if rkOp j.words = 2 ∨ j.skip ≠ 0 then mfind s.rk.conts (rkAddr j.words 7) else none
  match cont with
  | some c => (c.rest, c.fin, c.op)
  | none =>
    let input := s.rkRead (rkAddr j.words 1) (nth j.words 3) far.input
    let dict := if rkDictIn j.words then dictOf (s.rkRead (rkAddr j.words 9) 32832 far.dict) else []
    let r := rkStream j.words input dict
    (r.1, r.2, rkOp j.words)

/-- Writes a state block (R368, R369). -/
def State.rkSuspend (s : State) (a : Nat) (c : RkCont) : State :=
  let s : State := { s with rk := { s.rk with conts := mput s.rk.conts a c } }
  if Sys2Proof.Machine.slotOf a = 0 then s.setWord a 1 else s

/-- The accesses of a job, the first that fails decides (R370). -/
def State.rkReach (s : State) (j : RkJob) (far : RkFar) : State × Nat :=
  let resume := decide (rkOp j.words = 2) || decide (j.skip ≠ 0)
  let l := (if resume then [] else [(rkAddr j.words 1, nth j.words 3, false)])
    ++ (if rkDictIn j.words && !resume then [(rkAddr j.words 9, 32832, false)] else [])
    ++ (if rkDictOut j.words then [(rkAddr j.words 9, 32832, true)] else [])
    ++ (if rkAddr j.words 7 ≠ 0 then [(rkAddr j.words 7, 34816, true)] else [])
    ++ [(rkAddr j.words 4, nth j.words 6, true)]
  l.foldl (fun (acc : State × Nat) x => if acc.2 ≠ 0 ∨ x.2.1 = 0 then acc else acc.1.rkAccess x.1 x.2.1 x.2.2 far.fail) (s, 0)

/-- RK_JOB_END: `far` what the job read through pooled windows, `errs` the errors that its reads met. -/
def State.rkJobEnd (s : State) (e : Nat) (far : RkFar) (errs : List MemErr) : State :=
  match s.engJob e with
  | none => s
  | some j =>
    let s := s.memErrs errs
    let r := s.rkReach j far
    let s := r.1
    if r.2 ≠ 0 then s.rkEnd e j r.2 0x4C 0 0 0 false false
    else
      let k := s.rkWork j far
      let inj := mget 0 s.rk.inject e
      let hit := inj = 2 || (inj = 1 && k.2.2 = 0)
      if hit then ({ s with rk := { s.rk with inject := mdel s.rk.inject e } } : State).rkFail e (inj = 1) true
      else
        let cap := nth j.words 6 - j.skip
        let out := k.1.take cap
        let n := j.skip + out.length
        let s := s.rkWrite (rkAddr j.words 4 + j.skip) (out.map (·.1))
        let s := (s.rkBytes e true out.length).rkBytes e false (if rkOp j.words = 2 ∨ j.skip ≠ 0 then 0 else nth j.words 3)
        let used := (out.getLast?.map (·.2)).getD 0
        let s := if j.second then s.incS F.RK_REPLAY_CNT_REPLAYS (if k.2.1.status = 0 ∧ k.1.length ≤ cap then 1 else 0) else s
        if k.1.length > cap then
          let a := rkAddr j.words 7
          if a = 0 then s.rkEnd e j 7 0x40 used n 0 false false
          else (s.rkSuspend a ⟨k.2.2, k.1.drop cap, k.2.1⟩).rkEnd e j 4 0x40 used n 0 false false
        else
          let f := k.2.1
          let saved := f.dictAddr.isSome && decide (f.status = 0)
          let s := match f.dictAddr with
            | some a => if f.status = 0 then s.rkWrite a (dictBlock f.dict) else s
            | none => s
          s.rkEnd e j f.status f.detail f.consumed n f.check (decide (f.status = 0) && decide (k.2.2 = 0)) saved

/-- RK_JOB_END: `input` and `dict` are what peers gave of an input and a dictionary block in pooled windows, `fail` the status of a
remote access that failed. -/
def execRkJobEnd (e : Fin 4) (input dict : List (BitVec 8)) (fail : BitVec 4) (errs : List MemErr) (s : State) : Host.Outcome State Fault Refusal :=
  .next (s.rkJobEnd e.val ⟨input, dict, fail.toNat⟩ errs)

/-- QUARANTINE: `mismatch` found by the checker, otherwise a fault of a stage. -/
def execQuarantine (e : Fin 4) (mismatch : Bool) (s : State) : Host.Outcome State Fault Refusal :=
  .next (match s.engJob e.val with
  | some j => if mismatch ∧ rkOp j.words = 1 then s else s.rkFail e.val mismatch false
  | none => s)

/-- RELEASE: a write of RK_ENG[e].RELEASE (R366). -/
def State.rkRelease (s : State) (e : Nat) : State :=
  if s.fld (F.RK_ENG_STATE e) = 2 ∧ e ∉ s.rk.testing then { s with rk := { s.rk with testing := e :: s.rk.testing } } else s

def execRelease (e : Fin 4) (s : State) : Host.Outcome State Fault Refusal := .next (s.rkRelease e.val)

/-- ENGINE_SELFTEST_END: an engine that fails stays quarantined. -/
def execEngineSelftestEnd (e : Fin 4) (pass : Bool) (s : State) : Host.Outcome State Fault Refusal :=
  .next (if e.val ∈ s.rk.testing then
    let s : State := { s with rk := { s.rk with testing := s.rk.testing.erase e.val } }
    if pass then (s.setFld (F.RK_ENG_STATE e.val) 0).event F.RK_EVENT_RELEASED .info e.val e.val 0 0
    else s.raise .warn 0x08 e.val 0x0180 e.val 0 0
  else s)

/-- A write of RK_TEST: an injection is armed in an engine in service; INJECT 3 is reserved (R8). -/
def State.rkTest (s : State) (v : Nat) : State :=
  let e := v % 4
  let i := bits v 2 2
  let s := s.setFld F.RK_TEST_ENGINE e
  if i = 3 then s.reservedEncoding R.RK_TEST 2
  else if i = 0 ∨ s.fld (F.RK_ENG_STATE e) ≥ 2 then s
  else { s with rk := { s.rk with inject := mput s.rk.inject e i } }

def execRkTestInject (v : BitVec 32) (s : State) : Host.Outcome State Fault Refusal := .next (s.rkTest v.toNat)

/-- RK_QHWM.RESTART. -/
def State.rkHwmRestart (s : State) : State :=
  (s.setFld F.RK_QHWM_CELL_HWM s.rk.cellQ.length).setFld F.RK_QHWM_HOST_HWM s.rk.hostQ.length

def execRkHwmRestart (s : State) : Host.Outcome State Fault Refusal := .next s.rkHwmRestart

/-! ## Host jobs (R360, R371) -/

/-- RK_JOB. A descriptor that breaks R360 ends the job at once. -/
def execRkJob (c : HCmd) (s : State) : Host.Outcome State Fault Refusal :=
  .next (s.jobCommand c 0x67 (argMask c (List.replicate 12 0xFFFFFFFF)) true none false (fun _ => true) 256 fun s o =>
    let w := (List.range 12).map (arg c)
    if rkBad false w then s.complete o 5 0 []
    else
      let s := s.addJob (newJob c o .queued [] (nth w 3))
      ({ s with rk := { s.rk with hostQ := s.rk.hostQ ++ [⟨some o.handle, 0, w, s.elapsed, false, false, 0⟩] } } : State).rkMark)

/-- JOB_SUSPEND of a Rucksack job: held in the queue, or stopped at the next byte when it has a state block. -/
def State.rkSuspendJob (s : State) (o : Origin) (j : Job) : State :=
  if j.st = .queued then
    let q := s.rk.hostQ.map fun x => if x.host = some j.handle then { x with parked := true } else x
    (({ s with rk := { s.rk with hostQ := q } } : State).setJob { j with suspenders := j.suspenders ++ [o] }).suspended j.handle
  else
    match s.rk.eng.find? fun e => e.2.host = some j.handle with
    | some (_, r) =>
      if rkAddr r.words 7 = 0 then s.complete o 6 0 [] else s.setJob { j with st := .suspending, suspenders := j.suspenders ++ [o] }
    | none => s.complete o 6 0 []

/-- HOST_SUSPEND: the engine stops after `n` more bytes of output and writes the state block. -/
def execHostSuspend (e : Fin 4) (n : BitVec 24) (input dict : List (BitVec 8)) (s : State) : Host.Outcome State Fault Refusal :=
  .next (match s.engJob e.val with
  | none => s
  | some j =>
    match j.host with
    | none => s
    | some h =>
      let ready : Bool := match s.job h with
        | some x => x.st = .suspending
        | none => false
      let far : RkFar := ⟨input, dict, 0⟩
      let k := s.rkWork j far
      let cap := nth j.words 6 - j.skip
      -- a job with no byte left, or with a full buffer, ends and does not suspend
      if ready = false ∨ n.toNat ≥ k.1.length ∨ n.toNat ≥ cap ∨ (s.rkReach j far).2 ≠ 0 then s
      else
        let out := k.1.take n.toNat
        let s := s.rkWrite (rkAddr j.words 4 + j.skip) (out.map (·.1))
        let s := s.rkBytes e.val true out.length
        let s := s.rkSuspend (rkAddr j.words 7) ⟨k.2.2, k.1.drop n.toNat, k.2.1⟩
        let s := (s.engFree e.val).incS (F.RK_DCNT_COUNT 0xB) 1
        let s := match s.job h with
          | some x => s.setJob { x with work := j.words ++ [j.skip + out.length], left := .queued }
          | none => s
        s.suspended h)

/-- JOB_RESUME of a Rucksack job: to its old place, or with its state block to the tail of the queue. -/
def State.rkResumeJob (s : State) (j : Job) : State :=
  let s := if s.rk.hostQ.any (·.host = some j.handle) then
      { s with rk := { s.rk with hostQ := s.rk.hostQ.map fun x => if x.host = some j.handle then { x with parked := false } else x } }
    else
      let w := j.work.take 12
      let a := rkAddr w 7
      let s : State := if Sys2Proof.Machine.slotOf a = 0 ∧ rkOp w ≠ 2 then s.setWord a 0 else s
      let r : RkJob := ⟨some j.handle, 0, w, s.elapsed, false, false, nth j.work 12⟩
      ({ s with rk := { s.rk with hostQ := s.rk.hostQ ++ [r] } } : State).rkMark
  s.setJob { j with st := .queued }

/-- JOB_CANCEL of a Rucksack job: removed from its queue or stopped at once; no dictionary or state block is written. -/
def State.rkCancelJob (s : State) (j : Job) : State :=
  let mine (x : RkJob) : Bool := x.host = some j.handle
  let w : Nat := match s.rk.eng.find? fun e => mine e.2 with
    | some (_, r) => r.skip
    | none => nth j.work 12
  let s := match s.rk.eng.find? fun e => mine e.2 with
    | some (e, _) => s.engFree e
    | none => s
  let s : State := { s with rk := { s.rk with hostQ := s.rk.hostQ.filter fun x => !mine x } }
  s.endJob j.handle 3 0 [3 * 2 ^ 8, 0, w, 0]

end Sys2Proof.Machine
end

