-- ==== Sys2Proof/Machine/FabricLinks.lean ====
section
/-! DEFINITION. Fabric frames and links (R406-R417), what a twin does with MIRROR records (R419-R426), and remote accesses (R190). -/
namespace Sys2Proof.Machine

/-! ## Records on the twin (R420-R426) -/

/-- Runs a change with a slot's shadow tables in force; the statistics of the table in force stay. -/
def State.withShadow (s : State) (i : Nat) (f : State → State × Nat × Nat) : State × Nat :=
  let old := s.tw.installed
  let n := s.fld F.HP_FT_STAT_ENTRIES
  let full := s.fld F.HP_EVENT_FT_FULL
  let r := f { s with tw := { s.tw with installed := some i } }
  let s : State := { r.1 with tw := { r.1.tw with installed := old } }
  ((s.setFld F.HP_FT_STAT_ENTRIES n).setFld F.HP_EVENT_FT_FULL full, r.2.1)

/-- MIRRORED and EXACT of a slot. -/
def State.slotCounts (s : State) (i : Nat) : State :=
  let l := ((s.twSlot i).chans.map (·.2)).filter (·.full)
  (s.setFld (F.TW_PRI_STAT_MIRRORED i) l.length).setFld (F.TW_PRI_STAT_EXACT i) (l.filter (·.cls = 2)).length

def State.setSh (s : State) (i n : Nat) (c : ShChan) : State :=
  let x := s.twSlot i
  s.setTwSlot i { x with chans := mput x.chans n c }

/-- The place of a shadow context: granules in the pages from the fourth to the log, none across a page. -/
def State.shadowPlace (s : State) (i granules : Nat) : Option Nat :=
  let first := s.fld (F.TW_PRI_SHADOW_FIRST_PAGE i)
  let pages := s.fld (F.TW_PRI_SHADOW_PAGES i) - s.fld (F.TW_PRI_LOG_LOG_PAGES i)
  let used := (s.twSlot i).chans.map (·.2)
  ((List.range pages).filter (3 ≤ ·)).findSome? fun k =>
    let base := (first + k) * pageBytes
    if (s.physPage (first + k)).isNone then none
    else
      let l := (used.filter fun c => c.ctx / pageBytes = first + k).map fun c => (c.ctx % pageBytes / granuleBytes, c.granules)
      (placeIn l granules).map fun g => base + g * granuleBytes

/-- The extents of a decompressed checkpoint: offset, length and bytes, both in 4 bytes (the model's own coding of R422). -/
def ckptExtents : Nat → List Byte → List (Nat × List Byte)
  | 0, _ => []
  | fuel + 1, l => if l.length < 8 then [] else
    let n := leNat (slice l 4 4)
    (leNat (l.take 4), slice l 8 n) :: ckptExtents fuel (l.drop (8 + n))

/-- A CHECKPOINT record (R424): applied in FRAME order, or when it is full. -/
def State.applyCheckpoint (s : State) (i n frame : Nat) (full : Bool) (stage : Nat) (hdr : List Nat) (data : List Byte) : State :=
  match mfind (s.twSlot i).chans n with
  | none => s
  | some c =>
    let next : Bool := match c.last with
      | some f => c.full && decide (frame = (f + 1) % 16384)
      | none => false
    let gap : Bool := match c.last with
      | some f => decide (frame ≠ (f + 1) % 16384)
      | none => false
    let s := if gap then (s.setFlag F.TW_EVENT_CKPT_GAP true).twCount 17 1 else s
    if next ∨ full then
      let d := (decompressJob 0 (some c.dict) 0 data).1.map (·.1)
      let room := c.granules * granuleBytes
      let s := s.setBytes c.ctx (wordsLe hdr)
      let s := (ckptExtents (d.length + 1) d).foldl (fun s e => if e.1 + e.2.length ≤ room then s.setBytes (c.ctx + e.1) e.2 else s) s
      let all := c.dict ++ d
      let s := s.setSh i n { c with last := some frame, full := true, stage := stage, dict := all.drop (all.length - 32768) }
      let x := s.twSlot i
      let s := s.setTwSlot i { x with lag := max x.lag ((s.nowNs - stage) / 1000) }
      (s.twCount 16 1).slotCounts i
    else (s.setSh i n { c with full := false }).slotCounts i

/-- One record of a MIRROR frame for a slot (R423). -/
def State.applyRecord (s : State) (i : Nat) (r : MirrorRec) : State :=
  match r with
  | .checkpoint n frame full stage hdr data => s.applyCheckpoint i n frame full stage hdr data
  | .template planeB t w =>
    (s.setBytes ((s.fld (F.TW_PRI_SHADOW_FIRST_PAGE i) + b2n planeB) * pageBytes + t * 128) (wordsLe w)).twCount 18 1
  | .srtp k w => let x := s.twSlot i; (s.setTwSlot i { x with srtp := mput x.srtp k w }).twCount 18 1
  | .slot k w => let x := s.twSlot i; (s.setTwSlot i { x with tdm := mset 0 x.tdm k w }).twCount 18 1
  | .flow add w =>
    let s := s.twCount 18 1
    let n := bits (nth w 10) 0 13
    if add then
      let r := s.withShadow i fun s => s.ftInsert w
      let c := mget ShChan.init (s.twSlot i).chans n
      let known := (mfind (s.twSlot i).chans n).isSome
      if r.2 = 0 then (if known ∧ c.noFlow then r.1.setSh i n { c with noFlow := false } else r.1)
      else
        let s := (r.1.twCount 31 1).event F.TW_EVENT_SHADOW_FULL .warn i n 0 0
        if known then s.setSh i n { c with noFlow := true } else s
    else (s.withShadow i fun s => let d := s.ftDelete w; (d.1, d.2, 0)).1
  | .ingress t port b => s.logIngress i t port b
  | .sent l =>
    l.foldl (fun s e => match mfind (s.twSlot i).chans e.1 with
      | some c =>
        let later : Bool := match c.note with
          | some m => decide ((e.2 + 65536 - m) % 65536 < 32768)
          | none => true
        if later then s.setSh i e.1 { c with note := some e.2 } else s
      | none => s) s
  | .opened n g cls =>
    (match s.shadowPlace i g with
     | some a => (s.zeroRange a (g * granuleBytes)).setSh i n { ShChan.init with cls := cls, granules := g, ctx := a }
     | none => s)
  | .closed n => let x := s.twSlot i; (s.setTwSlot i { x with chans := mdel x.chans n }).slotCounts i
  | .reserved sub => s.raise .warn 0x09 i 0x0180 sub 0 0

/-- Every item of the sync has been applied: SYNCING becomes READY (R420, R427). -/
def State.synced (s : State) (i : Nat) : State :=
  if s.slotState i = 1 then (s.setSlotState i 2).event F.TW_EVENT_SYNCED .info i (s.fld (F.TW_PRI_CFG_PEER i)) 0 0 else s

/-! ## Received frames (R410-R417) -/

/-- TW_STATUS.ROLE (R439). -/
def State.twRole (s : State) : Nat :=
  if s.actSlot.isSome then 3 else if s.mode = 5 then 2 else if s.twinLink.isSome then 1 else 0

/-- Checks a frame and, when its payload fits, hands it on with its link; what acknowledgements allow follows. -/
def State.fabIn (s : State) (f : FabIn) (g : State → Nat → State) : State :=
  let r := s.fabCheck f
  match r.2 with
  | none => r.1
  | some l => (g r.1 l).checkpointAllDone l

/-- A sequenced frame is handled only in its order. -/
def State.fabOrdered (s : State) (f : FabIn) (l : Nat) (g : State → State) : State :=
  let r := s.fabSeq l f.hdr
  if r.2 then g r.1 else r.1

/-- What a heartbeat says of the peer (R407, R413, R414). -/
def State.heartbeat (s : State) (l serial mode role : Nat) (slots : List Nat) : State :=
  let x := s.link l
  if x.state = 2 ∧ serial ≠ x.serial then
    let s := (s.twCount 9 1).setFlag F.TW_EVENT_DUP_ID true
    (s.raise .warn 0x09 l (0x0100 + F.TW_EVENT_DUP_ID.lo) l x.serial serial).linkLost l
  else
    let s := if x.state = 1 then s.linkUp l serial else s
    let s := s.setLink l { s.link l with peerMode := mode, peerRole := role, peerSlots := slots }
    let twin : Bool := s.flag F.TW_TWIN_EN && decide (x.peer = s.fld F.TW_TWIN_TWIN) && decide (2 ≤ role) && slots.any (1 ≤ ·)
    let s := if twin ∧ (s.link l).attached = false then s.syncTwin l else s
    s.evacHeard l slots

/-- HEARTBEAT. -/
def execHeartbeat (f : FabIn) (s : State) : Host.Outcome State Fault Refusal :=
  .next (match f.body with
  | .heartbeat serial _ mode role slots => s.fabIn f fun s l => s.heartbeat l serial mode role slots
  | _ => s)

/-- MIRROR_FRAME: `last` says that the frame carries the last item of the sync. -/
def execMirrorFrame (f : FabIn) (last : Bool) (s : State) : Host.Outcome State Fault Refusal :=
  .next (match f.body with
  | .mirror recs => s.fabIn f fun s l => s.fabOrdered f l fun s =>
    let s := s.twCount 15 1
    (match s.slotOf (s.link l).peer with
     | some i =>
       if 1 ≤ s.slotState i ∧ s.slotState i ≤ 3 then
         let s := recs.foldl (fun s r => s.applyRecord i r) s
         if last then s.synced i else s
       else s
     | none => s)
  | _ => s)

/-- A range of bytes that this device exports (R189, R190). -/
def State.exported (s : State) (a n : Nat) : Bool :=
  let first := s.fld F.HP_EXPORT_FIRST_PAGE
  s.flag F.HP_CTRL_EXPORT_EN && decide (first * pageBytes ≤ a) && decide (a + n ≤ (first + s.fld F.HP_EXPORT_PAGES) * pageBytes)

/-- READ_REQUEST: a READ, served or refused, or its response. -/
def execReadRequest (f : FabIn) (errs : List MemErr) (s : State) : Host.Outcome State Fault Refusal :=
  .next (match f.body with
  | .readReq a n tag => s.fabIn f fun s l => s.fabOrdered f l fun s =>
    let s := s.twCount 11 1
    let answer (s : State) (st : Nat) (d : List Byte) : State :=
      ((s.fabQueue l (.readResp tag st d) 0).twCount 11 1).twCount 13 (b2n (st = 12))
    if s.exported a n = false then answer s 12 []
    else if s.mappedRange a n = false then answer (s.unmappedEvent (a / pageBytes)) 8 []
    else
      let s := s.memErrs errs
      if s.poisoned a n then answer s.poisonSeen 10 [] else answer s 0 (s.bytesAt a n)
  | .readResp tag st d => s.fabIn f fun s l => s.fabOrdered f l fun s => (s.twCount 11 1).remoteAnswer l tag st false d
  | _ => s)

/-- WRITE_REQUEST: a WRITE, served or refused, or its response. -/
def execWriteRequest (f : FabIn) (s : State) : Host.Outcome State Fault Refusal :=
  .next (match f.body with
  | .writeReq a tag d => s.fabIn f fun s l => s.fabOrdered f l fun s =>
    let s := s.twCount 12 1
    let answer (s : State) (st : Nat) : State := ((s.fabQueue l (.writeResp tag st) 0).twCount 12 1).twCount 13 (b2n (st = 12))
    if s.exported a d.length = false then answer s 12
    else if s.mappedRange a d.length = false then answer (s.unmappedEvent (a / pageBytes)) 8
    else answer (s.setBytes a d) 0
  | .writeResp tag st => s.fabIn f fun s l => s.fabOrdered f l fun s => (s.twCount 12 1).remoteAnswer l tag st true []
  | _ => s)

/-- MIGRATE_FRAME: `tagOk` for the SRTP tag of forwarded ingress. -/
def execMigrateFrame (f : FabIn) (tagOk : Bool) (s : State) : Host.Outcome State Fault Refusal :=
  .next (match f.body with
  | .migrate r => s.fabIn f fun s l => s.fabOrdered f l fun s => s.migRecv l r tagOk
  | _ => s)

/-- CREDIT: its ACK and credit are taken by the checks. -/
def execCredit (f : FabIn) (s : State) : Host.Outcome State Fault Refusal :=
  .next (match f.body with
  | .credit => s.fabIn f fun s _ => s
  | _ => s)

/-- FENCE_FRAME: a FENCE of the named twin isolates the device; one with RESP confirms the fence, and takes a READY slot through
SUSPECT at once (R428, R435). -/
def execFenceFrame (f : FabIn) (s : State) : Host.Outcome State Fault Refusal :=
  .next (match f.body with
  | .fence false => s.fabIn f fun s l =>
    if s.flag F.TW_TWIN_EN ∧ (s.link l).peer = s.fld F.TW_TWIN_TWIN then
      let s := s.twCount 23 1
      ({ s with tw := { s.tw with fabFence := s.tw.fabFence ++ [l] } } : State).fenced
    else s
  | .fence true => s.fabIn f fun s l =>
    (match s.slotOf (s.link l).peer with
     | some i =>
       let s := if s.slotState i = 2 then
           (let s := (s.setSlotState i 3).event F.TW_EVENT_PEER_LOST .warn i (s.link l).peer 0 0
            s.setTwSlot i { s.twSlot i with suspectAt := s.elapsed, fenceAt := s.nowNs, slow := false, cutoff := none })
         else s
       s.confirmFence i 1
     | none => s)
  | _ => s)

/-! ## Sending and time (R413-R416, R425) -/

/-- FABRIC_FRAME_SEND: `l` the link. -/
def execFabricFrameSend (l : Fin 64) (s : State) : Host.Outcome State Fault Refusal := .next (s.fabSend l.val)

/-- HEARTBEAT_SEND: one HEARTBEAT on each port of the link that is up. -/
def execHeartbeatSend (l : Fin 64) (s : State) : Host.Outcome State Fault Refusal :=
  let x := s.link l.val
  let due : Bool := match x.hbAt with
    | some t => decide (s.elapsed ≥ t + s.fld F.TW_HB_HB_US * 1000)
    | none => true
  .next (if x.en ∧ x.state ≠ 0 ∧ s.fabOn ∧ s.flag F.TW_CTRL_HB_EN ∧ s.fabMute = false ∧ due then
    let s := s.setLink l.val { x with hbAt := some s.elapsed }
    let b : FabBody := .heartbeat Config.deviceSerial.toNat s.nowNs s.mode s.twRole ((List.range 4).map s.slotState)
    (List.range 4).foldl (fun s p =>
      if bit x.ports p ∧ s.flag (F.EP_CTRL_EN p) ∧ s.flag (F.EP_STATUS_LINK p) then s.fabWire l.val p x.seq false b 0 else s) s
  else s)

/-- LINK_LOST: no authenticated frame for MISS heartbeats. -/
def execLinkLost (l : Fin 64) (s : State) : Host.Outcome State Fault Refusal :=
  let x := s.link l.val
  .next (if x.state = 2 ∧ s.elapsed ≥ x.heard + s.fld F.TW_HB_MISS * s.fld F.TW_HB_HB_US * 1000 then
    (s.twCount 7 (s.fld F.TW_HB_MISS)).linkLost l.val
  else s)

/-- RETRANSMIT_TIMEOUT. -/
def execRetransmitTimeout (l : Fin 64) (s : State) : Host.Outcome State Fault Refusal :=
  let x := s.link l.val
  .next (if x.unacked ≠ [] ∧ x.en ∧ s.fabOn ∧ s.fabMute = false ∧ s.elapsed ≥ x.ackAt + x.rtoUs * 1000 then s.fabResend l.val else s)

/-- CREDIT_FRAME_SEND: the grant has grown by a quarter of the buffer since the last frame that carried it. -/
def execCreditFrameSend (l : Fin 64) (s : State) : Host.Outcome State Fault Refusal :=
  let x := s.link l.val
  .next (if x.en ∧ x.grant ≠ 0 ∧ x.queue = [] ∧ (x.ack + 2 ^ 32 - x.ackSent) % 2 ^ 32 ≥ (x.grant + 3) / 4 then s.fabQueue l.val .credit 0 else s)

/-- SENT_NOTE_FLUSH. -/
def execSentNoteFlush (s : State) : Host.Outcome State Fault Refusal :=
  .next (if s.tw.notes ≠ [] ∧ s.elapsed ≥ s.tw.notesSince + s.fld F.TW_TWIN_NOTE_US * 1000 then s.flushNotes else s)

/-! ## Remote accesses (R190) -/

/-- REMOTE_RESPONSE: the answer to the request of a tag on a link. -/
def execRemoteResponse (l : Fin 64) (tag : BitVec 32) (status : Fin 16) (write : Bool) (data : List (BitVec 8)) (s : State) :
    Host.Outcome State Fault Refusal := .next (s.remoteAnswer l.val tag.toNat status.val write data)

/-- REMOTE_TIMEOUT: the requests whose time is up. -/
def execRemoteTimeout (s : State) : Host.Outcome State Fault Refusal :=
  .next (match s.hp.remote.find? fun r => decide (r.due ≤ s.elapsed) with
  | some r => s.remoteFail r 11
  | none => s)

end Sys2Proof.Machine
end

