-- ==== Sys2Proof/Machine/Faults.lean ====
section
/-! DEFINITION. Detected faults of the cores and what follows them: replays, resets, retirements, row repairs and cluster
resets (R98-R100, R107, R145, R443-R453, R483). -/
namespace Sys2Proof.Machine

/-! ## Rows (R98, R452, R453, R513) -/

/-- Memory unit of a logged row: XM, YM, CM of core k are 3k, 3k + 1, 3k + 2; the CSM and CPS of cluster c are 432 + c and
448 + c. -/
def unitCluster (u : Nat) : Nat := if u < 432 then u / 27 else u % 16

/-- Spare rows of a memory unit. -/
def unitSpares (u : Nat) : Nat := if u < 432 then 8 else if u < 448 then 32 else 16

/-- Shows a logged row, or none, in the row log of its memory (R513). -/
def State.showRow (s : State) (u row : Nat) (valid : Bool) : State :=
  if u < 432 then
    let s := (s.setFld (F.CL_ROWLOG_ROW (u / 3)) row).setFld (F.CL_ROWLOG_MEM (u / 3)) (u % 3)
    s.setFlag (F.CL_ROWLOG_VALID (u / 3)) valid
  else
    let c := u % 16
    if u < 448 then
      ((s.setFld (F.CL_CSM_ROWLOG_ROW c) row).setFld (F.CL_CSM_ROWLOG_BANK c) (row / 2 ^ 14)).setFlag (F.CL_CSM_ROWLOG_VALID c) valid
    else
      ((s.setFld (F.CL_CPS_ROWLOG_ROW c) row).setFld (F.CL_CPS_ROWLOG_BANK c) (row / 2 ^ 14)).setFlag (F.CL_CPS_ROWLOG_VALID c) valid

/-- Logs a row; dispatch to the core of a core memory stops while row repair is enabled (R98, R452). -/
def State.logRow (s : State) (u row : Nat) : State :=
  let s : State := { s with mem := { s.mem with logged := (u, row) :: s.mem.logged.filter (· ≠ (u, row)) } }
  let s := (s.showRow u row true).setFlag (F.CL_EVENT_ROW_LOGGED (unitCluster u)) true
  if u < 432 ∧ s.flag F.RL_CTRL_ROW_REPAIR_EN then { s with th := { s.th with stopped := u / 3 :: s.th.stopped } } else s

/-- The fewest spare rows left in a memory of an in-service core of a cluster (R468). -/
def State.coreRowsLeft (s : State) (c : Nat) : Nat :=
  ((coresOf c).filter s.inService).foldl (fun acc k =>
    (List.range 3).foldl (fun acc m => min acc (8 - mget 0 s.mem.sparesUsed (3 * k + m))) acc) 8

/-- The unit in which a fault of a code in core `k` logs a row (R98). -/
def faultUnit (k code : Nat) : Option Nat :=
  match code with
  | 2 => some (3 * k)
  | 3 => some (3 * k + 1)
  | 4 => some (3 * k + 2)
  | 6 => some (432 + k / 9)
  | 12 => some (448 + k / 9)
  | _ => none

def State.logFault (s : State) (k code row : Nat) : State :=
  match faultUnit k code with
  | some u => s.logRow u row
  | none => s

/-- A parity fault of a CPS or ROM word during an overlay copy (R443): the CPS word comes from another cluster, or the
cluster leaves service; a ROM word is served from the next cluster. -/
def State.cpsRestore (s : State) (c addr : Nat) : State :=
  if addr < 0x40000 then
    match s.sameImage c with
    | d :: _ =>
      let s : State := { s with mem := { s.mem with cps := mset 0 s.mem.cps (cpsKey c addr) (s.cps d addr) } }
      s.event (F.CL_EVENT_CPS_RESTORED c) .corrected c c addr d
    | [] => s.clusterOut c
  else if s.flag (F.CL_STATUS_ROM_REDIRECT c) then s
  else (s.setFlag (F.CL_STATUS_ROM_REDIRECT c) true).event (F.CL_EVENT_ROM_REDIRECT c) .warn c c addr 0

/-- Codes of detected faults (R98). -/
def faultCode (n : Nat) : Bool := (1 ≤ n && n ≤ 7) || n = 12

/-- CORE_FAULT: a parity or residue fault while the core runs an entry. -/
def execCoreFault (k : Fin 144) (code : Fin 16) (lane : Fin 4) (addr : BitVec 24) (row : BitVec 18) (s : State) :
    Host.Outcome State Fault Refusal :=
  let c := s.core k
  match c.run with
  | none => .next s
  | some r =>
    if s.coreLive k ∧ c.faultReq = none ∧ faultCode code ∧ (code.val = 12 → c.ovl.isSome) ∧ (code.val ≠ 12 → c.ovl = none) then
      let s := if code.val = 12 ∧ 0x100000 ≤ addr.toNat then s else s.logFault k code row.toNat
      let s := if code.val = 4 ∨ code.val = 12 then s.setCore k { s.core k with ovt := 0 } else s
      let s := if code.val = 5 then s.setCore k { s.core k with cacheOk := false, filling := false } else s
      let area := match r.e.slot with
        | some sl => s.slotRead (k / 9) sl ≤ addr.toNat && addr.toNat < s.slotWrite (k / 9) sl
        | none => false
      -- a CSM fault outside the entry's read area asks for no restaging (R442)
      let s := if code.val = 6 ∧ area = false then
          (let s := s.noteFault k 6 0
           let c := s.core k
           if s.flag (F.CO_CTRL_FAULT_INT k) ∧ c.stack.length < 8 then s.setCore k { c with faultReq := some 1 }
           else ((s.faultAbort k false).blockCore k).preemptScan (k / 9))
        else s.nodeDetect k code lane
      .next (if code.val = 12 then s.cpsRestore (k / 9) addr.toNat else s)
    else .next s

/-- IDLE_FAULT: a fault with no node open (R100, R145). -/
def execIdleFault (k : Fin 144) (code : Fin 16) (lane : Fin 4) (addr : BitVec 24) (row : BitVec 18) (s : State) :
    Host.Outcome State Fault Refusal :=
  let c := s.core k
  if s.coreLive k ∧ c.run = none ∧ faultCode code ∧ (code.val = 12 → c.ovl.isSome) then
    if code.val = 1 ∧ c.waiting then .next (s.noteFault k 1 0)
    else
      let s := if code.val = 12 ∧ 0x100000 ≤ addr.toNat then s else s.logFault k code row.toNat
      let s := (s.setFld (F.CO_STATUS_LAST_FAULT k) code).incS (F.CO_STATUS_FAULT_CNT k) 1
      let s := if code.val = 7 then s.setFld (F.CO_STATUS_LAST_LANE k) lane else s
      let s := (s.raise .contained 0x21 k 0x0212 k code 0).faultHistory k
      let s := s.resetCore k
      .next (if code.val = 12 then s.cpsRestore (k / 9) addr.toNat else s)
  else .next s

/-- A reset of a core: its running entry is aborted and replayed (R166, R178, R450). -/
def State.coreReset (s : State) (k : Nat) : State := ((s.faultAbort k false).resetCore k).preemptScan (k / 9)

/-- CORE_HANG: a node has been dispatched for HANG_MS without commit (R444). -/
def execCoreHang (k : Fin 144) (s : State) : Host.Outcome State Fault Refusal :=
  match (s.core k).run with
  | none => .next s
  | some r =>
    if r.e.kind = .node ∧ r.at_ + s.fld F.RL_THRESH_HANG_MS * 1000000 ≤ s.nowNs then
      .next ((s.raise .contained 0x21 k 0x0211 k r.e.chan 0).coreReset k)
    else .next s

/-- FAULT_INJECT: CO_CTRL.INJECT (R107). -/
def State.faultInject (s : State) (k kind : Nat) : State :=
  if kind = 0 then s
  else if kind ≥ 3 then s.reservedEncoding (R.CO_CTRL k) 8
  else if s.fld (F.CO_STATUS_STATE k) = 1 then s.setCore k { s.core k with inject := kind }
  else s

def execFaultInject (k : Fin 144) (kind : Fin 4) (s : State) : Host.Outcome State Fault Refusal :=
  .next (if s.coreEnabled k then s.faultInject k kind else s)

/-- CLR_CNT: CO_CTRL.CLR_CNT (R107). -/
def execClrCnt (k : Fin 144) (s : State) : Host.Outcome State Fault Refusal :=
  .next (if s.coreEnabled k then s.setFld (F.CO_STATUS_FAULT_CNT k) 0 else s)

/-- CORE_RESET: RL_CORE_CMD ACTION 1 (R450). -/
def State.coreResetCmd (s : State) (k : Nat) : State :=
  let st := s.fld (F.CO_STATUS_STATE k)
  if s.coreEnabled k = false ∨ st = 0 ∨ st = 2 then s
  else (s.coreReset k).setFld (F.CO_STATUS_STATE k) 1

def execCoreReset (k : Fin 144) (s : State) : Host.Outcome State Fault Refusal := .next (s.coreResetCmd k)

/-- CLEAR_FAULT_HISTORY: RL_CORE_CMD ACTION 2 (R447). -/
def State.clearHistory (s : State) (k : Nat) : State :=
  if s.coreEnabled k then s.setCore k { s.core k with hist := [], suspect := false } else s

def execClearFaultHistory (k : Fin 144) (s : State) : Host.Outcome State Fault Refusal := .next (s.clearHistory k)

/-! ## Retirement (R448, R449) -/

/-- Starts the automatic retirements of a cluster that waited for its job (R447). -/
def State.wakeRetire (s : State) (c : Nat) : State :=
  (s.rl.retire.filter fun r => r.step = 0 && r.core / 9 = c).foldl (fun s r =>
    let l := s.rl.retire.filter fun x => x.core ≠ r.core
    let s : State := { s with rl := { s.rl with retire := l } }
    s.startRetire r.core none) s

/-- Step 5 of R449: what the retirement leaves in the registers. -/
def State.noteRetired (s : State) (c : Nat) (spare : Option Nat) : State :=
  let s := if spare.isSome then s.setFld F.RL_SPARES_SPARE_FREE (setBits (s.fld F.RL_SPARES_SPARE_FREE) c 1 0) else s
  let s := s.setFld (F.RL_CL_REPAIR_RETIRED c) (s.fld (F.RL_CL_REPAIR_RETIRED c) + 1)
  s.setFld (F.RL_CL_REPAIR_CORE_MIN_LEFT c) (s.coreRowsLeft c)

/-- Takes a retirement out of those under way. -/
def State.dropRetire (s : State) (k : Nat) : State :=
  let l := s.rl.retire.filter fun x => x.core ≠ k
  let s : State := { s with rl := { s.rl with retire := l } }
  s.setFlag F.RL_STATUS_RETIRING (l.any fun x => x.step ≠ 0)

/-- Step 6 of R449: the report and the completion of the job. -/
def State.tellRetired (s : State) (r : Retire) : State :=
  let p := r.spare.getD 0xFF
  let s := (s.setFlag F.RL_EVENT_CORE_RETIRED true).raise .info 0x21 r.core (0x0140 + F.RL_EVENT_CORE_RETIRED.lo) r.core p s.budget
  let s := s.budgetCheck
  match r.job with
  | some h => (s.endJob h 0 0 [p, s.budget]).wakeRetire (r.core / 9)
  | none => s

/-- The end of a retirement: steps 5 and 6 of R449. A cluster without active core leaves service (R451). -/
def State.endRetire (s : State) (r : Retire) : State :=
  let c := r.core / 9
  let s := ((s.noteRetired c r.spare).dropRetire r.core).tellRetired r
  if s.active c = 0 then s.clusterOut c else s

/-- RETIRE_NODE_TIMEOUT: the node of a retiring core has not committed within 2 ms (R449 step 2). -/
def execRetireNodeTimeout (k : Fin 144) (s : State) : Host.Outcome State Fault Refusal :=
  match s.rl.retire.find? fun r => r.core = k.val && r.step = 1 with
  | none => .next s
  | some r => .next (if (s.core k).run.isSome ∧ r.since + 2000000 ≤ s.elapsed then s.coreReset k else s)

/-- RETIREMENT_SWAP: steps 3 and 4 of R449, and with no free spare the end. -/
def execRetirementSwap (k : Fin 144) (s : State) : Host.Outcome State Fault Refusal :=
  match s.rl.retire.find? fun r => r.core = k.val && r.step = 1 with
  | none => .next s
  | some r =>
    if (s.core k).run.isSome then .next s
    else
      let c := k.val / 9
      let lg := s.logical k
      let s := s.resetCore k
      let s := ((s.setFld (F.CO_STATUS_STATE k) 2).setFlag (F.CO_STATUS_MAPPED k) false).setFld (F.CO_STATUS_LOGICAL k) 0
      let spare := if bit (s.fld F.RL_SPARES_SPARE_FREE) c then (coresOf c).find? fun p => s.fld (F.CO_STATUS_STATE p) = 0 else none
      let r := { r with step := 2, spare := spare }
      match spare with
      | some p =>
        let s := s.resetCore p
        let s := ((s.setFld (F.CO_STATUS_STATE p) 1).setFlag (F.CO_STATUS_MAPPED p) true).setFld (F.CO_STATUS_LOGICAL p) lg
        let l := s.rl.retire.map fun x => if x.core = r.core then r else x
        let s : State := { s with rl := { s.rl with retire := l } }
        .next { s with st := { s.st with entered := p :: s.st.entered } }
      | none => .next (s.endRetire r)

/-- SPARE_READY: the spare blocks in WAIT.WORK (R449 steps 4 to 6). Where the cluster's cores do not run, it is ready when
it has been reset. -/
def execSpareReady (k : Fin 144) (s : State) : Host.Outcome State Fault Refusal :=
  match s.rl.retire.find? fun r => r.core = k.val && r.step = 2 with
  | none => .next s
  | some r =>
    match r.spare with
    | none => .next s
    | some p => .next (if (s.core p).waiting || !s.coresRun (p / 9) then s.endRetire r else s)

/-! ## Row repair (R452, R453) -/

/-- ROW_REPAIRED: a logged row is replaced by a spare row, or found without one. -/
def execRowRepaired (u : Fin 464) (row : BitVec 18) (s : State) : Host.Outcome State Fault Refusal :=
  let core := u.val < 432
  let c := unitCluster u
  let k := u.val / 3
  if s.flag F.RL_CTRL_ROW_REPAIR_EN ∧ s.mem.logged.contains (u.val, row.toNat) ∧ (core → (s.core k).run = none) then
    let l := s.mem.logged.filter (· ≠ (u.val, row.toNat))
    let s : State := { s with mem := { s.mem with logged := l } }
    let s := match l.find? fun e => if core then e.1 / 3 = k ∧ e.1 < 432 else e.1 = u.val with
      | some e => s.showRow e.1 e.2 true
      | none => s.showRow u row.toNat false
    let s := if core ∧ !l.any (fun e => e.1 < 432 && e.1 / 3 = k) ∧ !s.rl.retire.any (fun r => r.core = k && r.step ≠ 0) then
        (let st := s.th.stopped.filter (· ≠ k)
         { s with th := { s.th with stopped := st } })
      else s
    let src := if core then 0x21 else 0x20
    let inst := if core then k else c
    let used := mget 0 s.mem.sparesUsed u
    if used < unitSpares u then
      let s : State := { s with mem := { s.mem with sparesUsed := mset 0 s.mem.sparesUsed u (used + 1) } }
      let s := if core then (s.resetCore k).setFld (F.RL_CL_REPAIR_CORE_MIN_LEFT c) (s.coreRowsLeft c)
        else if u.val < 448 then s.setFld (F.RL_CL_REPAIR_CSM_LEFT c) (32 - (used + 1))
        else s.setFld (F.RL_CL_REPAIR_CPS_LEFT c) (16 - (used + 1))
      let s := s.setFld (F.RL_CL_REPAIR_ROWS c) (satAdd 8 (s.fld (F.RL_CL_REPAIR_ROWS c)) 1)
      .next ((s.setFlag F.RL_EVENT_ROW_REPAIRED true).raise .corrected src inst (0x0140 + F.RL_EVENT_ROW_REPAIRED.lo) inst
        (if core then u.val % 3 else if u.val < 448 then 3 else 4) row.toNat)
    else
      let s := (s.setFlag F.RL_EVENT_NO_SPARE_ROW true).raise .warn src inst (0x0140 + F.RL_EVENT_NO_SPARE_ROW.lo) inst
        (if core then u.val % 3 else if u.val < 448 then 3 else 4) 0
      .next (if core ∧ (s.core k).suspect = false then s.reportSuspect k else s)
  else .next s

/-! ## Cluster resets (R178, R211, R483) -/

/-- Clears the row logs of a cluster (R513). -/
def State.logClr (s : State) (c : Nat) : State :=
  let s := ((s.rstFld (F.CL_CSM_ROWLOG_ROW c)).rstFld (F.CL_CSM_ROWLOG_BANK c)).rstFld (F.CL_CSM_ROWLOG_VALID c)
  let s := ((s.rstFld (F.CL_CPS_ROWLOG_ROW c)).rstFld (F.CL_CPS_ROWLOG_BANK c)).rstFld (F.CL_CPS_ROWLOG_VALID c)
  (coresOf c).foldl (fun s k => ((s.rstFld (F.CL_ROWLOG_ROW k)).rstFld (F.CL_ROWLOG_MEM k)).rstFld (F.CL_ROWLOG_VALID k)) s

/-- Frees the staging slots of a cluster: its queued nodes are staged again (R211). -/
def State.freeSlots (s : State) (c : Nat) : State :=
  let q := s.th.queues.map fun q => (q.1, q.2.map fun e =>
    if e.cluster = c ∧ e.kind = .node then { e with slot := none, ready := false, crc := none, restage := false, jbMarked := [] } else e)
  { s with th := { s.th with queues := q } }

/-- PW_CL.RESET (R483). -/
def State.clusterReset (s : State) (c : Nat) : State :=
  let st := s.fld (F.PW_CL_STATE c)
  if s.clusterIn c = false ∨ st = 0 ∨ st = 4 ∨ st = 5 ∨ st = 6 then s.configRefused (R.PW_CL c) 0
  else
    let s := (coresOf c).foldl (fun s k => (s.resetAbort k).resetCore k) s
    let s := ((s.freeSlots c).logClr c).setFld (F.CL_CSM_STAT_MAX_NS c) 0
    let s := (coresOf c).foldl (fun s k => (s.setFld (F.CL_OVL_CNT_COPIES k) 0).setFld (F.CL_CSM_WAIT_WAITS k) 0) s
    let s := (coresOf c).foldl (fun s k => if s.fld (F.CO_STATUS_STATE k) = 3 then s.setFld (F.CO_STATUS_STATE k) 1 else s) s
    (s.setFld (F.PW_CL_STATE c) 2).incW (F.PW_CL_RESETS c) 1

def execClusterReset (c : Fin 16) (s : State) : Host.Outcome State Fault Refusal :=
  .next (if c.val < s.clusters then s.clusterReset c else s)

/-- The results of a cluster's self-test (R513). -/
def State.setSelftest (s : State) (c cores : Nat) (cps vectors : Bool) : State :=
  ((s.setFld (F.CL_SELFTEST_CORE_PASS c) cores).setFlag (F.CL_SELFTEST_CPS_PASS c) cps).setFlag (F.CL_SELFTEST_VECTORS_PASS c) vectors

/-- CLUSTER_RESET_END: the cluster is back in service. -/
def execClusterResetEnd (c : Fin 16) (cores : BitVec 9) (cps vectors : Bool) (s : State) : Host.Outcome State Fault Refusal :=
  if s.fld (F.PW_CL_STATE c) = 2 then .next ((s.setSelftest c cores.toNat cps vectors).setFld (F.PW_CL_STATE c) 1) else .next s

/-- LOG_CLR: CL_CTRL.LOG_CLR (R513). -/
def execLogClr (c : Fin 16) (s : State) : Host.Outcome State Fault Refusal :=
  .next (if c.val < s.clusters then s.logClr c else s)

/-- ARB_RESTART: CL_CTRL.ARB_RESTART (R513). -/
def execArbRestart (c : Fin 16) (s : State) : Host.Outcome State Fault Refusal :=
  .next (if c.val < s.clusters then s.setFld (F.CL_CSM_STAT_MAX_NS c) 0 else s)

/-- CL_PATCH_DATA_READ: the map entry of the selected block; the selector advances (R511). -/
def execClPatchDataRead (c : Fin 16) (s : State) : Host.Outcome State Fault Refusal :=
  if c.val < s.clusters then
    let b := s.fld (F.CL_PATCH_SEL_BLOCK c)
    let s := s.setFld (F.CL_PATCH_SEL_BLOCK c) (b + 1)
    .next { s with lastRead := mget 0 s.mem.patch (c.val * 512 + b) }
  else .next { s with lastRead := 0 }

end Sys2Proof.Machine
end

