-- ==== Sys2Proof/Machine/FrameEvents.lean ====
section
/-! DEFINITION. Frame boundaries (R34, R149, R174, R298, R302, R334) and Compass epochs (R176, R293, R318, R319). -/
namespace Sys2Proof.Machine

/-- Modes in which frame ticks are delivered: the service modes and DRAIN (R470, R473, R474). -/
def ticksIn (m : Nat) : Bool := serviceMode m || m = 6

/-- The media-bank token of a boundary: at once from a TDM mapping, later otherwise (R149, R302). -/
def State.mediaAt (s : State) (n f : Nat) : State :=
  match s.chan n with
  | none => s
  | some c =>
    if (s.bsMapped n false).isSome then s.setChan n { c with mediaDue := some f }
    else if s.tdmRx n then (s.tdmSlotDone n f).sourceTokens n 17 f
    else s.setChan n { c with mediaDue := if c.outputs 17 = [] then none else some f }

/-- One frame boundary of a channel. -/
def State.boundary (s : State) (n : Nat) (c : Chan) : State :=
  let f := c.frames
  let live := c.tombs.filter fun t => (f + 16384 - t.2) % 16384 < 2 || (f + 16384 - t.2) % 16384 ≥ 8192
  let tick := ticksIn s.mode && !c.tomb
  let s := s.putChan n { c with
    frames := f + 1, ticked := if tick then f + 1 else c.ticked, nextB := c.nextB + frameNs c.frame, tombs := live, mediaDue := none }
  if tick then
    let s := s.sourceTokens n 16 f
    let s := if f = 0 then s
      else match s.bsMapped n true with
        | some b => s.bsPlay n b (f - 1)
        | none => if s.tdmTx n then s.tdmPlay n (f - 1) else s
    s.mediaAt n f
  else s

/-- The switch of a migration comes first at this boundary (R434). -/
def State.switchDue (s : State) (n : Nat) (c : Chan) : Bool :=
  match s.migJob n with
  | some j => j.step = 2 && decide (nth j.work 3 ≤ c.nextB)
  | none => false

/-- FRAME_TICK: every open channel whose boundary has come, in channel order. -/
def execFrameTick (s : State) : Host.Outcome State Fault Refusal :=
  if s.flag F.CP_STATUS_REF_LOST then .next s
  else .next ((s.chans.map (·.1)).foldl (fun s n =>
    match s.chan n with
    | some c => if c.nextB ≤ s.nowNs ∧ s.migHeld n c = false ∧ s.switchDue n c = false then ((s.migResumed n).migBoundary n c).boundary n c else s
    | none => s) s)

/-! ## Epochs -/

/-- Latches the busy fraction and the dispatches of one core (R176). -/
def State.latchCore (s : State) (k : Nat) : State :=
  let c := s.core k
  let busy := c.busyNs + (if c.run.isSome then s.elapsed - c.busyFrom else 0)
  let s := s.setCore k { c with busyNs := 0, busyFrom := s.elapsed, disp := 0 }
  if s.mapped k then
    let l := s.logical k
    let b := mset 0 s.th.busy l (min 1023 (busy * 1024 / 5000000))
    let d := mset 0 s.th.disp l (min 65535 c.disp)
    { s with th := { s.th with busy := b, disp := d } }
  else s

/-- Sets the STATE that a PTP servo shows (R291). -/
def State.servoState (s : State) (v : Nat) : State :=
  let s := s.setFld F.CP_CTRL_SERVO_STATE v
  if s.fld F.CP_SRC_CFG_SRC = 1 then s.setFld F.CP_STATUS_STATE v else s

/-- A write of CP_FREQ (R286). -/
def State.writeFreq (s : State) (v : Nat) : State :=
  if freqOk v then s.setFld F.CP_FREQ_FREQ v else s.reservedEncoding R.CP_FREQ 0

/-- The read of the servo block (R293). -/
def State.servoBlock (s : State) : State :=
  if s.flag F.CP_CTRL_SERVO_EN then
    let a := s.fld F.CP_SERVO_ADDR * 16
    if s.mappedRange a 16 = false then s.unmappedEvent (a / pageBytes)
    else if s.word a = s.cp.servoSeq then s
    else
      let s : State := { s with cp := { s.cp with servoSeq := s.word a } }
      ((s.writeFreq (s.word (a + 4))).setResidue (s.word (a + 8))).servoState (s.word (a + 12) % 4)
  else s

/-- The longest lag of each slot in the epoch that ends (R424). -/
def State.latchLag (s : State) : State :=
  (List.range 4).foldl (fun s i =>
    let x := s.twSlot i
    (s.setTwSlot i { x with lag := 0 }).setFld (F.TW_PRI_LAG_LAG_US i) (min 65535 x.lag)) s

/-- COMPASS_EPOCH: `meas` is what the ratio tracker measures of each group, ratio and offset in 1/64 of an input sample. -/
def execCompassEpoch (meas : List (Nat × Nat)) (s : State) : Host.Outcome State Fault Refusal :=
  if s.nowNs / 5000000 ≠ s.cp.lastEpoch ∧ s.flag F.CP_STATUS_REF_LOST = false then
    let s : State := { s with cp := { s.cp with lastEpoch := s.nowNs / 5000000 } }
    let s := (List.range s.coreCount).foldl State.latchCore s
    let s := s.servoBlock.evacEpoch.latchLag
    let s := (List.range 16).foldl (fun s g => match meas[g]? with
      | some m => s.trackGroup g m.1 m.2
      | none => s) s
    .next ((List.range 16).foldl State.ratioWord s)
  else .next s

end Sys2Proof.Machine
end

