-- ==== Sys2Proof/Machine/HamperEvents.lean ====
section
/-! DEFINITION. Events of Hamper: page moves (R187), pooled-window slots (R189, R212) and cache ways (R183, R212). -/
namespace Sys2Proof.Machine

/-- PAGE_MOVE_LINE_COPY: the next line of a move is copied, with its poison (R182, R187); `errs` are what the read met. -/
def execPageMoveLineCopy (page : BitVec 13) (errs : List MemErr) (s : State) : Host.Outcome State Fault Refusal :=
  match s.hp.moves.find? fun m => m.page = page.toNat && m.line < linesPerPage with
  | none => .next s
  | some m =>
    let s := s.memErrs errs
    let s := s.copyPhys (m.src * pageBytes + m.line * lineBytes) (m.dst * pageBytes + m.line * lineBytes) lineBytes
    let l := s.hp.moves.map fun x => if x.page = m.page then { x with line := m.line + 1 } else x
    .next { s with hp := { s.hp with moves := l } }

/-- The fields of HP_WIN_DATA: PEER, VALID and LINK. -/
def winMask (v : Nat) : Nat := bits v 0 15 + bits v 16 6 * 2 ^ 16

/-- A write to HP_WIN_DATA sets the slot that HP_WIN_SEL selects. -/
def State.winWrite (s : State) (v : Nat) : State :=
  { s with hp := { s.hp with wins := mset 0 s.hp.wins (s.fld F.HP_WIN_SEL_SLOT) (winMask v) } }

/-- HP_WIN_DATA_WRITE. -/
def execHpWinDataWrite (v : BitVec 32) (s : State) : Host.Outcome State Fault Refusal := .next (s.winWrite v.toNat)

/-- A write of HP_CACHE_WAYS.ENABLE; a value that leaves no way both enabled and not failed is reserved. The emptied way held
nothing that HBM does not hold (R183). -/
def State.cacheWays (s : State) (v : Nat) : State :=
  if (List.range 16).any fun w => bit v w && !bit (s.fld F.HP_CACHE_WAYS_FAILED) w then s.setFld F.HP_CACHE_WAYS_ENABLE v
  else s.reservedEncoding R.HP_CACHE_WAYS 0

/-- CACHE_WAY_DISABLE. -/
def execCacheWayDisable (v : BitVec 16) (s : State) : Host.Outcome State Fault Refusal := .next (s.cacheWays v.toNat)

end Sys2Proof.Machine
end

