-- ==== Sys2Proof/Machine/HostCommands.lean ====
section
/-! DEFINITION. The commands of a ring that are no jobs (R389-R396), channel commands and system commands left out. -/
namespace Sys2Proof.Machine

/-- Reserved opcodes (R389). -/
def reservedOp (op : Nat) : Bool :=
  op = 0 || (0x07 ≤ op && op ≤ 0x0F) || (0x19 ≤ op && op ≤ 0x1F) || (0x24 ≤ op && op ≤ 0x2F) || (0x37 ≤ op && op ≤ 0x3F)
    || (0x42 ≤ op && op ≤ 0x4F) || (0x55 ≤ op && op ≤ 0x5F) || 0x6A ≤ op

/-- NOP_COMMAND: opcode 0x01, or a reserved opcode, which completes with BAD_DESCRIPTOR (R388). -/
def execNopCommand (c : HCmd) (op : BitVec 8) (s : State) : Host.Outcome State Fault Refusal :=
  .next (if op.toNat = 1 ∨ reservedOp op.toNat then
    s.command c op.toNat (decide (op.toNat = 1) && argMask c []) true none false fun s o => s.complete o 0 0 []
  else s)

/-- DEVICE_INFO. -/
def execDeviceInfo (c : HCmd) (s : State) : Host.Outcome State Fault Refusal :=
  .next (s.command c 0x03 (argMask c []) true none false fun s o =>
    s.complete o 0 0 [s.fld F.TW_ID_DEV_ID + s.mode * 2 ^ 16, (s.romRead 0 0).toNat, s.budget, s.committed, s.chans.length])

/-- ADMISSION (R232). -/
def execAdmission (c : HCmd) (s : State) : Host.Outcome State Fault Refusal :=
  .next (s.command c 0x04 (argMask c [0xFF01, 0xFFFF] && decide (125 ≤ arg c 1)) true none false fun s o =>
    let m := bit (arg c 0) 0
    let s : State := { s with st := { s.st with measured := m, margin := bits (arg c 0) 8 8, hold := arg c 1 } }
    let s := s.budgetCheck
    s.complete o 0 0 [s.budget])

/-- The clusters that a mask names, 0 meaning every enabled one (R389). -/
def State.maskClusters (s : State) (m : Nat) : List Nat := (List.range s.clusters).filter fun c => m = 0 || bit m c

/-- First word of the shared area of a cluster's CSM (R196). -/
def State.sharedFrom (s : State) (c : Nat) : Nat := s.jobPart c 9 - csmBase

/-- Words that a load brings to the CPS of a cluster. -/
def State.loadCps (s : State) (c ofs : Nat) (l : List Nat) : State :=
  { s with mem := { s.mem with cps := l.zipIdx.foldl (fun m e => mset 0 m (cpsKey c (ofs + e.2)) (BitVec.ofNat 32 e.1)) s.mem.cps } }

/-- CSM_LOAD (R196, R389, R488). -/
def execCsmLoad (c : HCmd) (s : State) : Host.Outcome State Fault Refusal :=
  let n := bufLen c / 4
  let ofs := arg c 1
  let csm := bit (arg c 0) 16
  let cl := s.maskClusters (arg c 0 % 65536)
  let fits : Bool := if csm then cl.all (fun k => s.sharedFrom k ≤ ofs) && decide (ofs + n ≤ csmWords) else decide (ofs + n ≤ 262144)
  let named := decide (arg c 0 % 65536 < 2 ^ s.clusters)
  let load : Bool := match s.gl.fwx with
    | some x => x.phase = 1 && !x.suspended
    | none => false
  .next (s.command c 0x05 (bufMask c [0x1FFFF, 0xFFFFFFFF] && decide (bufLen c % 4 = 0) && decide (0 < n) && fits && named)
    (csm || s.mode = 1 || load) none true fun s o =>
      let l := leWords (bufBytes c)
      if csm then (cl.foldl (fun s k => s.putCsm k (csmBase + ofs) l) s).complete o 0 0 []
      else if s.fuse.secure then s.complete o 12 0 []
      else
        let s := cl.foldl (fun s k => s.loadCps k ofs l) s
        let s : State := if ofs = 0 ∧ 256 ≤ n then { s with gl := { s.gl with block0 := true } } else s
        s.complete o 0 0 [])

/-- DEC_SYNC (R325). -/
def execDecSync (c : HCmd) (s : State) : Host.Outcome State Fault Refusal :=
  .next (s.command c 0x20 (argMask c []) true none false fun s o => (s.syncRequest s.nowNs 3).complete o 0 0 [])

/-- MSG_SEND (R276, R279). -/
def execMsgSend (c : HCmd) (s : State) : Host.Outcome State Fault Refusal :=
  let ty := arg c 0 % 256
  .next (s.command c 0x21 (argMask c [0x1FF, 0x3FFF, 0xFFFFFFFF, 0xFFFFFFFF, 0xFFFFFFFF] && (ty = 1 || ty = 2 || ty = 3 || ty = 5))
    true none false fun s o => s.mgMessage ty (arg c 1) (bit (arg c 0) 8) (arg c 2 + 2 ^ 32 * arg c 3) (arg c 4) (some o))

/-- COEF_WRITE (R323). -/
def execCoefWrite (c : HCmd) (s : State) : Host.Outcome State Fault Refusal :=
  let g := arg c 0 % 16
  let b := bit (arg c 0) 4
  .next (s.command c 0x22 (bufMask c [0x1F] && decide (bufLen c = 256)) true none true fun s o =>
    if s.bankBusy g b then s.complete o 6 0 []
    else ((leWords (bufBytes c)).zipIdx.foldl (fun s e => s.setCoef g b e.2 e.1) s).complete o 0 0 [])

/-- BANK_SWAP (R324). -/
def execBankSwap (c : HCmd) (s : State) : Host.Outcome State Fault Refusal :=
  .next (s.command c 0x23 (argMask c [0x1F]) true none false fun s o => s.swapRequest (arg c 0 % 16) (bit (arg c 0) 4) (some o))

/-! ## Host frames (R395) -/

/-- A host frame for a packet port (R242, R253). -/
def State.sendHostFrame (s : State) (p pri : Nat) (ts : Bool) (bytes : List Byte) (o : Origin) : State :=
  let f : TxFrame := {
    kind := 1, pri := pri, since := s.elapsed, flow := 0, seq := 0, rtp := false, csum := false, srtp := 0, suite := 0,
    alt := false, hdr := [], payload := bytes, tsReq := ts, tsEntry := false, len := wireLen bytes.length, origin := some o,
    link := 0, fab := none, note := 0 }
  if f.len > s.fld (F.EP_RX_CFG_MAX_FRAME p) then s.txDone p f 5 false 0 none
  else if s.flag (F.EP_CTRL_EN p) = false ∨ s.flag (F.EP_STATUS_LINK p) = false then s.txDone p f 6 false 0 none
  else s.txAdmit p f

/-- PKT_SEND (R395). -/
def execPktSend (c : HCmd) (s : State) : Host.Outcome State Fault Refusal :=
  let p := arg c 0 % 8
  .next (s.command c 0x30 (bufMask c [0xF7] && decide (p ≤ 4) && decide (14 ≤ bufLen c))
    (p = 4 || !(s.mode = 10 || s.gl.egressOff)) none true fun s o =>
      if p = 4 then s.mgSend (bufBytes c) false (some o)
      else s.sendHostFrame p (bits (arg c 0) 4 3) (bit (arg c 0) 7) (bufBytes c) o)

/-! ## Flow table, templates and SRTP contexts (R208-R210, R251, R256-R260) -/

/-- The words of a flow entry keep R208: `n` of them, entry or key. -/
def flowOk (w : List Nat) (entry : Bool) : Bool :=
  let x (i : Nat) : Nat := nth w i
  let wild := bit (x 0) 1
  let v4 := !bit (x 0) 2
  let hi (a : Nat) : Bool := (List.range 3).all fun i => x (a + 1 + i) = 0
  x 0 < 2 ^ 16 && (bit (x 0) 3 || bits (x 0) 4 12 = 0) && (!v4 || (hi 1 && hi 5))
    && (!wild || ((List.range 4).all (fun i => x (5 + i) = 0) && x 9 < 65536))
    && (!entry || (bit (x 0) 0 && x 10 < 2 ^ 20 && bits (x 10) 13 3 ≤ 3 && x 11 < 2 ^ 14))

/-- Runs `f` when the flow-table page is mapped (R186). -/
def State.withFtPage (s : State) (o : Origin) (f : State → State) : State :=
  match s.physPage (s.ftBase / pageBytes) with
  | some _ => f s
  | none => (s.unmappedEvent (s.ftBase / pageBytes)).complete o 8 0 []

/-- A flow entry that the twin also holds: KIND 0 or 1 (R420). -/
def State.mirrorFlow (s : State) (add : Bool) (w : List Nat) : State := if bits (nth w 10) 13 3 ≤ 1 then s.mirror (.flow add w) else s

/-- FT_INSERT (R210). -/
def execFtInsert (c : HCmd) (s : State) : Host.Outcome State Fault Refusal :=
  let w := (List.range 12).map (arg c)
  .next (s.command c 0x31 (argMask c (List.replicate 12 0xFFFFFFFF) && flowOk w true) true
    (if bits (nth w 10) 13 3 ≤ 1 then some (nth w 10 % 8192) else none) false fun s o => s.withFtPage o fun s =>
      let r := s.ftInsert w
      if r.2.1 = 0 then (r.1.mirrorFlow true w).complete o 0 0 [r.2.2] else r.1.complete o r.2.1 0 [])

/-- FT_DELETE (R210). -/
def execFtDelete (c : HCmd) (s : State) : Host.Outcome State Fault Refusal :=
  let w := (List.range 10).map (arg c)
  .next (s.command c 0x32 (argMask c (List.replicate 10 0xFFFFFFFF) && flowOk w false) true none false fun s o => s.withFtPage o fun s =>
    let old := match s.ftFind (ftKey w) (ftVlan w) with
      | some p => s.ftWords p.1 p.2
      | none => []
    let r := s.ftDelete w
    (if r.2 = 0 then r.1.mirrorFlow false old else r.1).complete o r.2 0 [])

/-- The words of a template keep R251. -/
def templateOk (w : List Nat) : Bool :=
  let w0 := nth w 0
  bits w0 4 4 = 0 && bit w0 15 = false && bits w0 30 2 = 0 && nth w 1 = 0 && ((List.range 13).all fun i => nth w (19 + i) = 0)
    && decide (bits w0 8 7 = 14 + 4 * b2n (bit w0 2) + (if bit w0 1 then 40 else 20) + 8) && !(bit w0 1 && bit w0 3)

/-- The pages that hold a port's table: one, or after a takeover those of the planes that the port serves (R251, R429). -/
def State.tablePages (s : State) (p : Nat) : List Nat :=
  match s.tw.installed with
  | none => [s.tplPage p 0]
  | some _ =>
    let l := ([0, 1].filter fun k => bit (s.fld (F.EP_CTRL_ROLES p)) k).map (s.tplPage p)
    if l = [] then [s.tplPage p 0] else l

/-- Writes a template into a port's table. -/
def State.writeTemplate (s : State) (p t : Nat) (w : List Nat) : State :=
  let s := (s.tablePages p).foldl (fun s g => s.setBytes (g * pageBytes + t * 128) (wordsLe w)) s
  s.mirrorTemplate p t

/-- TPL_WRITE (R251). -/
def execTplWrite (c : HCmd) (s : State) : Host.Outcome State Fault Refusal :=
  let t := arg c 1
  let ports := (List.range 4).filter fun p => bit (arg c 0) p
  .next (s.command c 0x33 (bufMask c [0xF, 0x3FFF] && decide (bufLen c = 128)) true (some (t / 2)) true fun s o =>
    let w := leWords (bufBytes c)
    if templateOk w then
      match (ports.flatMap s.tablePages).find? fun g => (s.physPage g).isNone with
      | some g => (s.unmappedEvent g).complete o 8 0 []
      | none => (ports.foldl (fun s p => s.writeTemplate p t w) s).complete o 0 0 []
    else s.complete o 5 0 [])

/-- The context after an SRTP_WRITE (R256, R257, R260). -/
def srtpWritten (old w : List Nat) : List Nat :=
  let w0 := nth w 0
  let suite := bits w0 0 4
  let key := slice w 8 12
  let new := key.any (· ≠ 0)
  let held := if suite = 0 then List.replicate 12 0 else if new then key else slice old 8 12
  let set := suite ≠ 0 && (new || bit (nth old 0) 5)
  [suite + bits w0 4 1 * 2 ^ 4 + b2n set * 2 ^ 5 + bits w0 6 1 * 2 ^ 6 + 2 ^ 7, nth w 1, nth w 2, nth w 3, 0, 0, 0, 0] ++ held
    ++ List.replicate 12 0

/-- The words of an SRTP_WRITE keep R256. -/
def srtpOk (w : List Nat) : Bool :=
  decide (bits (nth w 0) 0 4 ≤ 6) && decide (nth w 0 < 2 ^ 8) && decide (nth w 3 < 2 ^ 16)
    && (List.range 12).all fun i => nth w (20 + i) = 0

/-- SRTP_WRITE (R256-R258, R260). -/
def execSrtpWrite (c : HCmd) (s : State) : Host.Outcome State Fault Refusal :=
  let i := arg c 0
  .next (s.command c 0x34 (bufMask c [0x3FFF] && decide (bufLen c = 128)) true none true fun s o =>
    let w := leWords (bufBytes c)
    if srtpOk w then
      let n := srtpWritten (s.srtpCtx i) w
      ((s.setSrtp i n).mirror (.srtp i n)).complete o 0 0 []
    else s.complete o 5 0 [])

/-- SRTP_READ: key and salt read as zero (R257). -/
def execSrtpRead (c : HCmd) (s : State) : Host.Outcome State Fault Refusal :=
  .next (s.command c 0x35 (bufMask c [0x3FFF] && decide (bufLen c = 128)) true none false fun s o =>
    let x := s.srtpCtx (arg c 0)
    (s.emit (.host (bufAddr c) (wordsLe (x.take 8 ++ List.replicate 12 0 ++ x.drop 20)))).complete o 0 0 [])

/-- PORT_RESET (R267). -/
def execPortReset (c : HCmd) (s : State) : Host.Outcome State Fault Refusal :=
  .next (s.command c 0x36 (argMask c [3]) true none false fun s o => s.portReset (arg c 0 % 4) (some o))

/-! ## Copies and moves (R188, R393) -/

/-- HOST_COPY. -/
def execHostCopy (c : HCmd) (errs : List MemErr) (s : State) : Host.Outcome State Fault Refusal :=
  let a := arg c 1 + 2 ^ 32 * arg c 2
  let n := bufLen c
  let toHamper := bit (arg c 0) 0
  .next (s.command c 0x40 (bufMask c [1, 0xFFFFFFFF, 0x3FF] && decide (a % 4 = 0) && decide (n % 4 = 0) && decide (4 ≤ n)
    && decide (n ≤ 16777216)) true none toHamper fun s o =>
      s.hostCopy a n (bufAddr c) (if toHamper then some (bufBytes c) else none) errs o)

/-- PAGE_MOVE (R188). -/
def execPageMove (c : HCmd) (s : State) : Host.Outcome State Fault Refusal :=
  .next (s.command c 0x41 (argMask c [0x1FFF]) true none false fun s o =>
    let r := s.startMove (arg c 0) false (some o)
    match r.2 with
    | some st => r.1.complete o st 0 []
    | none => r.1)

end Sys2Proof.Machine
end

