-- ==== Sys2Proof/Machine/HostRings.lean ====
section
/-! DEFINITION. The commands of the host interface around its rings (R375-R384, R404, R463). -/
namespace Sys2Proof.Machine

/-- DOORBELL_POLL: a poll that is due reads the doorbell page and fetches what is new (R379, R381, R382). -/
def execDoorbellPoll (tails : List (BitVec 32)) (rx : List (List (BitVec 32))) (kind : Fin 5) (fetch : Bool) (s : State) :
    Host.Outcome State Fault Refusal :=
  .next (if s.elapsed < s.hi.nextPoll ∨ s.mode = 0 ∨ s.mode = 9 then s
    else if kind.val ≠ 0 then
      let s := s.pcieErr kind.val (b2n fetch) 0 (s.fld F.HI_DB_LO_ADDR * 256 + s.fld F.HI_DB_HI_ADDR * 2 ^ 32)
      ({ s with hi := { s.hi with slowUntilRead := true } } : State).nextPoll
    else
      let s : State := { s with hi := { s.hi with slowUntilRead := false } }
      ((List.range 64).foldl (fun (s : State) r => s.pollRing rx r (tails.getD r 0).toNat) s).nextPoll)

/-- HI_NUDGE: a write of any value (R382). -/
def execHiNudge (s : State) : Host.Outcome State Fault Refusal :=
  .next (({ s with hi := { s.hi with lastNudge := some s.elapsed, nextPoll := s.elapsed } } : State).setFlag F.HI_STATUS_FAST
    (!s.hi.slowUntilRead))

/-- INTERFACE_IDLE (R381). -/
def execInterfaceIdle (s : State) : Host.Outcome State Fault Refusal :=
  .next (if s.flag F.HI_STATUS_FAST ∧ s.hiActive = false then s.nextPoll else s)

/-- HI_RCFG_WRITE (R377, R384). -/
def execHiRcfgWrite (r : Fin 64) (v : BitVec 32) (s : State) : Host.Outcome State Fault Refusal := .next (s.rcfgWrite r.val v.toNat)

/-- RING_DRAINED: the last completion of a draining ring has been written (R384). -/
def execRingDrained (r : Fin 64) (s : State) : Host.Outcome State Fault Refusal :=
  .next (if s.ringState r.val = 2 ∧ s.ringBusy r.val = false then s.setFld (F.HI_RSTAT_STATE r.val) 0 else s)

/-- INTERRUPT_MODERATION_TIMER (R383). -/
def execInterruptModerationTimer (r : Fin 64) (s : State) : Host.Outcome State Fault Refusal :=
  let x := s.ring r.val
  .next (if s.flag (F.HI_RCFG_IRQ_EN r.val) ∧ 0 < x.since
      ∧ x.firstAt + s.fld (F.HI_MOD_US (s.fld (F.HI_RCFG_MOD r.val))) * 1000 ≤ s.elapsed then
    (s.setRing r.val { x with since := 0 }).sendMsix (s.fld (F.HI_RCFG_VEC r.val)) else s)

/-- MSIX_UNMASK: host software clears the mask bit of a vector; a held message is sent (R383). -/
def execMsixUnmask (v : Fin 64) (s : State) : Host.Outcome State Fault Refusal :=
  let m := mput s.hi.msix (4 * v.val + 3) (setBits (mget 1 s.hi.msix (4 * v.val + 3)) 0 1 0)
  let held := s.hi.msixPend.contains v.val
  let s : State := { s with hi := { s.hi with msix := m, msixPend := s.hi.msixPend.filter (· ≠ v.val) } }
  .next (if held then s.emit (.msix v.val) else s)

/-- REPORT_RECORD_WRITE (R402, R463, R464). -/
def execReportRecordWrite (err : Bool) (s : State) : Host.Outcome State Fault Refusal := .next (s.writeReport err)

/-- HOST_RESET (R376, R404). -/
def execHostReset (cause : Fin 7) (s : State) : Host.Outcome State Fault Refusal := .next (s.hostReset cause.val)

/-- RINGS_RESET: a write of 1 to HI_CTRL.RINGS_RESET (R404). -/
def execRingsReset (s : State) : Host.Outcome State Fault Refusal := .next (s.hostReset 4)

/-- BAD_ACCESS: an access that is not an aligned access of 4 bytes (R375, R461); a read returns zero. -/
def execBadAccess (bar : Fin 3) (ofs : BitVec 24) (en : BitVec 8) (write : Bool) (s : State) : Host.Outcome State Fault Refusal :=
  let s : State := if write then s else { s with lastRead := 0 }
  .next (s.raise .warn 0x02 0 0x00F3 ofs.toNat (2 * bar.val) en.toNat)

/-- PCIE_LINK_UP: training ends with a speed and a width (R405, R491). -/
def execPcieLinkUp (speed : Fin 4) (width : Fin 3) (s : State) : Host.Outcome State Fault Refusal :=
  .next (((s.setFlag F.HI_PCIE_STAT_LINK_UP true).setFld F.HI_PCIE_STAT_SPEED (speed.val + 1)).setFld F.HI_PCIE_STAT_WIDTH
    (2 ^ width.val))

/-- JOBS_HWM_RESTART: HI_JOBS.RESTART (R405). -/
def execJobsHwmRestart (s : State) : Host.Outcome State Fault Refusal := .next (s.setFld F.HI_JOBS_HWM s.hi.jobs.length)

end Sys2Proof.Machine
end

