-- ==== Sys2Proof/Machine/Images.lean ====
section
/-! DEFINITION. Containers and firmware exchange (R214, R215, R485-R488). -/
namespace Sys2Proof.Machine

/-! ## The layout of a container (R487) -/

def imgField (b : List Byte) (i n : Nat) : Nat := leNat (slice b i n)
def imgVersion (b : List Byte) : Nat := imgField b 8 3
def imgSvn (b : List Byte) : Nat := imgField b 6 2
def imgSegments (b : List Byte) : Nat := imgField b 16 2
/-- Entry `i` of the patch map. -/
def imgPatch (b : List Byte) (i : Nat) : Nat := imgField b (224 + 2 * i) 2

/-- CPS offset and length in words of each segment. -/
def imgSegs (b : List Byte) : List (Nat × Nat) :=
  (List.range (imgSegments b)).map fun i => (imgField b (1248 + 8 * i) 4, imgField b (1252 + 8 * i) 4)

def segsWords (l : List (Nat × Nat)) : Nat := l.foldl (fun acc x => acc + x.2) 0
def imgData (b : List Byte) : Nat := 1248 + 8 * imgSegments b

/-- Do two spans of CPS words overlap? -/
def segMeets (a b : Nat × Nat) : Bool := a.1 < b.1 + b.2 && b.1 < a.1 + a.2

/-- No segment overlaps an earlier one. -/
def segsApart : List (Nat × Nat) → List (Nat × Nat) → Bool
  | _, [] => true
  | seen, x :: r => !seen.any (segMeets x) && segsApart (x :: seen) r

/-- The layout of R487; a container fills its buffer, and bytes that no field is assigned are 0. -/
def imgOk (b : List Byte) : Bool :=
  let segs := imgSegs b
  let map := (List.range 512).map (imgPatch b)
  1248 ≤ b.length && imgField b 0 4 = 0x474D495A && imgField b 4 2 = 1 && imgField b 12 4 = b.length && imgField b 11 1 = 0
    && imgField b 18 14 = 0 && 1 ≤ segs.length && segs.length ≤ 64 && imgData b + 4 * segsWords segs ≤ b.length
    && (b.drop (imgData b + 4 * segsWords segs)).all (· = 0)
    && map.all (fun p => p = 0 || (16 ≤ p && p ≤ 1023))
    && segs.all (fun x => x.1 + x.2 ≤ 262144) && (segs.getD 0 (1, 0)).1 = 0 && 0x1000 ≤ (segs.getD 0 (1, 0)).2
    && segsApart [] segs && segs.all fun x => map.all fun p => p = 0 || !segMeets x (256 * p, 256)

/-- A container is accepted (R488); `sig`: the key hash and the signature verify. -/
def State.imgAccepted (s : State) (b : List Byte) (sig : Bool) : Bool := imgOk b && sig && decide (s.fuse.svnMin ≤ imgSvn b)

/-! ## Loading a cluster -/

/-- Writes the segments to the CPS of a cluster, and its patch map (R214, R215). -/
def State.imgLoad (s : State) (c : Nat) (b : List Byte) (id : Nat) : State :=
  let put (e : SMap W32 × Nat) (x : Nat × Nat) : SMap W32 × Nat :=
    ((leWords (slice b e.2 (4 * x.2))).zipIdx.foldl (fun m w => mset 0 m (cpsKey c (x.1 + w.2)) (BitVec.ofNat 32 w.1)) e.1, e.2 + 4 * x.2)
  let cps := ((imgSegs b).foldl put (s.mem.cps, imgData b)).1
  let patch := (List.range 512).foldl (fun m i => mset 0 m (c * 512 + i) (imgPatch b i)) s.mem.patch
  let s : State := { s with mem := { s.mem with cps := cps, patch := patch, image := mset 0 s.mem.image c id } }
  (s.setFld (F.PW_FWX_VERSION c) (imgVersion b)).event (F.CL_EVENT_PATCH_CHANGED c) .info c c (imgVersion b) 0

/-! ## The image store (R485) -/

/-- Bytes of a physical page. -/
def State.physBytes (s : State) (q n : Nat) : List Byte := (List.range n).map fun i => mget 0 s.hp.hbm (q * pageBytes + i)

/-- Writes a container into a page of the store. -/
def State.storeImage (s : State) (q : Nat) (b : List Byte) : State :=
  { s with hp := { s.hp with hbm := (b.zipIdx.foldl (fun m e => mset 0 m (q * pageBytes + e.2) e.1) s.hp.hbm) } }

/-- The container in a page. -/
def State.imageIn (s : State) (q : Nat) : List Byte := s.physBytes q (leNat (s.physBytes q 16 |>.drop 12))

/-- Takes the two pages of the store at the first accepted container, while the pool holds two. -/
def State.takeStore (s : State) : State :=
  match s.gl.curPage, s.hp.pool with
  | none, a :: b :: r => { s with hp := { s.hp with pool := r }, gl := { s.gl with curPage := some a, newPage := some b } }
  | _, _ => s

/-- The outcome of a container check, and what an acceptance leaves (R488, R494). -/
def State.imgChecked (s : State) (b : List Byte) (ok : Bool) (src : Nat) : State :=
  let s := s.setFld F.GL_BOOT_STAT_STATUS (if ok then 0 else 12)
  if ok then
    let s : State := { s with gl := { s.gl with accepted := true } }
    ((s.setFlag F.GL_STATUS_IMAGE_OK true).setFld F.GL_BOOT_STAT_SRC src).setFld F.GL_BOOT_STAT_SVN (imgSvn b)
  else s

/-- A container for every enabled cluster in BOOT. -/
def State.loadAll (s : State) (b : List Byte) (src : Nat) : State :=
  let s := (s.imgChecked b true src).takeStore
  let id := match s.gl.curPage with
    | some q => q + 1
    | none => 16384
  let s := match s.gl.curPage with
    | some q => s.storeImage q b
    | none => s
  let s := (List.range s.clusters).foldl (fun s c => (s.imgLoad c b id).setFld (F.PW_FWX_IMAGE c) 0) s
  let s : State := { s with gl := { s.gl with block0 := true } }
  s.setFld F.PW_IMAGE_CURRENT (imgVersion b)

/-- PATCH_LOAD (R215): in BOOT; `sig`: the key hash and the signature of the container verify. -/
def execPatchLoad (c : HCmd) (sig : Bool) (s : State) : Host.Outcome State Fault Refusal :=
  .next (s.command c 0x06 (bufMask c []) (s.mode = 1) none true fun s o =>
    let b := bufBytes c
    if s.imgAccepted b sig then (s.loadAll b 1).complete o 0 0 [] else (s.imgChecked b false 1).complete o 12 0 [])

/-- QSPI_BOOT_LOAD: with STRAP_BOOT = 1 the container in the flash is read and checked once BOOT is entered (R491 step 8). -/
def execQspiBootLoad (image : List (BitVec 8)) (sig : Bool) (s : State) : Host.Outcome State Fault Refusal :=
  .next (if s.fuse.strapBoot = 1 ∧ s.mode = 1 then
      (if s.imgAccepted image sig then s.loadAll image 2
       else (s.imgChecked image false 2).setFlag F.GL_EVENT_BOOT_FAIL true)
    else s)

/-! ## FW_EXCHANGE (R485, R486) -/

/-- PW_JOURNAL shows the journal. -/
def State.fwxShow (s : State) : State :=
  match s.gl.fwx with
  | none => (((s.setFld F.PW_JOURNAL_HANDLE 0).setFld F.PW_JOURNAL_STEP 0).setFlag F.PW_JOURNAL_ROLLBACK false).setFld F.PW_JOURNAL_PHASE 0
  | some x => (((s.setFld F.PW_JOURNAL_HANDLE x.handle).setFld F.PW_JOURNAL_STEP x.step).setFlag F.PW_JOURNAL_ROLLBACK x.rollback).setFld
      F.PW_JOURNAL_PHASE x.phase

def State.setFwx (s : State) (x : Option Fwx) : State := ({ s with gl := { s.gl with fwx := x } } : State).fwxShow

/-- A step begins: the cluster drains, and its channels are rehomed as in step 3 of R451. -/
def State.fwxDrain (s : State) (x : Fwx) (c : Nat) : State :=
  let s := s.setFwx (some { x with step := c + 1, cluster := c, phase := 0, suspended := false })
  let s := if s.clusterIn c then s.setFld (F.PW_CL_STATE c) 4 else s
  let mine := (s.chans.filter fun e => e.2.home = c).map (·.1)
  let s := s.dropQueued fun e => e.kind = .node && e.cluster = c
  (mine.foldl State.rehome s).budgetCheck

/-- The load phase: the cluster's image is incomplete from here on. -/
def State.fwxLoad (s : State) (x : Fwx) : State :=
  let c := x.cluster
  let s := (s.setFld (F.PW_CL_STATE c) 5).setFld (F.PW_FWX_IMAGE c) 2
  let s := s.setFwx (some { x with phase := 1, suspended := false })
  match (if x.rollback then s.gl.curPage else s.gl.newPage) with
  | some q => if imgOk (s.imageIn q) then s.imgLoad c (s.imageIn q) (q + 1) else s
  | none => s

/-- The job ends and the journal is empty. -/
def State.fwxEnd (s : State) (x : Fwx) (status : Nat) : State :=
  ((s.setFwx none).setFlag F.PW_STATUS_JOURNAL false).endJob x.handle status 0 []

/-- The clusters that a rollback still has to restore: those that hold the new or an incomplete image, highest first. -/
def State.fwxLeft (s : State) : List Nat := ((List.range s.clusters).filter fun c => s.fld (F.PW_FWX_IMAGE c) = 1 || s.fld (F.PW_FWX_IMAGE c) = 2).reverse

/-- What follows a step: the next one, a suspension between steps, or the end. -/
def State.fwxNext (s : State) (x : Fwx) : State :=
  let s := match s.job x.handle with
    | some j => (s.setJob { j with done := j.done + 1 }).jobProgress x.handle false
    | none => s
  if x.rollback then
    match s.fwxLeft with
    | c :: _ => s.fwxDrain x c
    | [] => s.fwxEnd x 3
  else if x.cluster + 1 < s.clusters then
    match s.job x.handle with
    | some j =>
      if j.st = .suspending then (s.setFwx (some { x with step := x.cluster + 2, cluster := x.cluster + 1, phase := 0, suspended := true })).suspended x.handle
      else s.fwxDrain x (x.cluster + 1)
    | none => s
  else
    let cur := s.gl.curPage
    let s : State := { s with gl := { s.gl with curPage := s.gl.newPage, newPage := cur } }
    let s := (List.range s.clusters).foldl (fun s c => s.setFld (F.PW_FWX_IMAGE c) 0) s
    (s.setFld F.PW_IMAGE_CURRENT (s.fld (F.PW_FWX_VERSION x.cluster))).fwxEnd x 0

/-- The end of a phase: `test` is what the self-test found, in the form of CL_SELFTEST, and `ok` whether it passed. -/
def State.fwxPhase (s : State) (x : Fwx) (test : Nat) (ok : Bool) : State :=
  let c := x.cluster
  match x.phase with
  | 0 => if s.runs.any (fun r => r.1 / 9 = c) then s else s.fwxLoad x
  | 1 => (s.setFld (F.PW_CL_STATE c) 6).setFwx (some { x with phase := 2 })
  | 2 =>
    let s := s.setSelftest c (bits test 0 9) (bit test 9) (bit test 10)
    if ok then (coresOf c).foldl (fun s k => s.resetCore k) (s.setFwx (some { x with phase := 3 }))
    else
      let s := (s.setFld (F.PW_CL_STATE c) 0).setFwx (some { x with suspended := true })
      let s := s.raise .warn 0x07 c Config.codeExchangeTest.toNat c 0 0
      (match s.job x.handle with
       | some j =>
         let s := s.setJob { j with st := .suspended, left := if x.rollback then .cancelling else .running, suspenders := [] }
         j.suspenders.foldl (fun s o => s.complete o 0 0 []) (s.jobProgress x.handle true)
       | none => s)
  | _ =>
    let s := (s.setFld (F.PW_FWX_IMAGE c) (if x.rollback then 0 else 1)).setFld (F.PW_CL_STATE c)
      (if s.clusterIn c then (if s.mode = 8 then 3 else 1) else 0)
    s.budgetCheck.fwxNext x

/-- FWX_STEP_END: a phase of the step in progress ends. -/
def execFwxStepEnd (test : BitVec 11) (ok : Bool) (s : State) : Host.Outcome State Fault Refusal :=
  .next (match s.gl.fwx with
    | some x => if x.suspended then s else s.fwxPhase x test.toNat ok
    | none => s)

/-- The start of an exchange past the checks of R397. -/
def State.fwxStart (s : State) (c : HCmd) (o : Origin) (b : List Byte) : State :=
  let s := (s.imgChecked b true 1).takeStore
  match s.gl.newPage with
  | none => s.complete o 7 0 []
  | some q =>
    let s := (s.storeImage q b).addJob (newJob c o .running [] s.clusters)
    s.fwxDrain ⟨o.handle, o, false, 1, 0, 0, false⟩ 0

/-- FW_EXCHANGE: `sig` as for PATCH_LOAD. The running library is that of cluster 0. -/
def execFwExchange (c : HCmd) (sig : Bool) (s : State) : Host.Outcome State Fault Refusal :=
  .next (s.jobCommand c 0x60 (bufMask c []) true none true (fun _ => true) 1 fun s o =>
    let b := bufBytes c
    if s.imgAccepted b sig = false then (s.imgChecked b false 1).complete o 12 0 []
    else if bits (imgVersion b) 16 8 ≠ bits (s.romRead 0 0).toNat 16 8 then (s.imgChecked b true 1).complete o 6 0x41 []
    else s.fwxStart c o b)

/-- JOB_RESUME of an exchange: the step is repeated from Load, or from its drain when that had not ended (R485, R486). -/
def State.fwxResume (s : State) : State :=
  match s.gl.fwx with
  | none => s
  | some x => if x.phase = 0 then s.fwxDrain x x.cluster else s.fwxLoad x

/-- JOB_CANCEL of an exchange: it rolls back. A cluster that only drains goes back to service. -/
def State.fwxCancel (s : State) : State :=
  match s.gl.fwx with
  | none => s
  | some x =>
    let s := if s.fld (F.PW_CL_STATE x.cluster) = 4 then (s.setFld (F.PW_CL_STATE x.cluster) 1).budgetCheck else s
    let y := { x with rollback := true, suspended := false }
    match s.fwxLeft with
    | c :: _ => if c = x.cluster ∧ x.phase ≠ 0 then s.fwxLoad y else s.fwxDrain y c
    | [] => s.fwxEnd y 3

end Sys2Proof.Machine
end

