-- ==== Sys2Proof/Machine/LmuOps.lean ====
section
/-! DEFINITION. The line measurement unit (R337-R354): the Stile sequence, excitation, ranges, windows and records. Instants
within an entry are Compass nanoseconds, those of outputs in units of 1/32 ns. -/
namespace Sys2Proof.Machine

/-! ## Fields of a scan entry (R347) -/

def lmInput (e : List Nat) : Nat := bits (nth e 0) 0 6
def lmRange (e : List Nat) : Nat := if lmInput e ≥ 32 then 0 else bits (nth e 0) 6 2
def lmAuto (e : List Nat) : Bool := bit (nth e 0) 8 && lmInput e < 32
def lmNoDsch (e : List Nat) : Bool := bit (nth e 0) 9
def lmRelays (e : List Nat) : Nat := bits (nth e 0) 16 8
def lmExc (e : List Nat) : Nat := bits (nth e 0) 24 3
def lmGap (e : List Nat) : Nat := bits (nth e 1) 0 6
def lmDschUs (e : List Nat) : Nat := bits (nth e 1) 6 10
def lmExcAt (e : List Nat) : Nat := bits (nth e 1) 16 8
def lmExtMs (e : List Nat) : Nat := bits (nth e 1) 24 8
def lmLevel (e : List Nat) : Int := sgn 16 (bits (nth e 2) 0 16)
def lmStart (e : List Nat) : Int := sgn 16 (bits (nth e 2) 16 16)
def lmFreq (e : List Nat) : Nat := bits (nth e 3) 0 10
def lmWin (e : List Nat) : Nat := bits (nth e 3) 10 12

/-- The bits and ranges of an entry in a list of `n` entries under a WMODE (R345-R347, R351). -/
def lmEntryOk (wmode : Bool) (e : List Nat) : Bool :=
  let fq := lmFreq e
  lmInput e < 40 && bits (nth e 0) 10 6 = 0 && bits (nth e 0) 27 5 = 0 && lmExc e < 6
    && (lmNoDsch e || 32 ≤ lmInput e || (4 ≤ lmDschUs e && lmDschUs e ≤ 1000))
    && (if lmExc e = 4 then 5 ≤ fq && fq ≤ 1000 else if lmExc e = 3 then 1 ≤ fq && fq ≤ 1000 else fq = 0)
    && nth e 3 < 2 ^ 22 && (if wmode then 1 ≤ lmWin e else lmWin e = 0)

/-! ## Chains (R342) -/

/-- The chain of a CHAIN code: f_mod is 1,024 kHz. -/
def lmChain (c : Nat) : ChainCfg :=
  let w := ([[4, 128, 31, 8], [4, 64, 15, 16], [5, 256, 31, 4], [5, 512, 63, 2]] : List (List Nat)).getD c [4, 128, 31, 8]
  let n := nth w 0
  let sh := presetShift n (nth w 1)
  ⟨1024, n, nth w 1, 1, nth w 2, [0, 0, 0, 0, 0], (List.range 5).map fun i => if i + 1 = n then sh else 0, nth w 3, 0⟩

/-- S of a chain. -/
def lmSettle (c : ChainCfg) : Nat := c.order + c.taps
/-- The output interval in 1/32 ns. -/
def lmStep32 (c : ChainCfg) : Nat := 32000000 / c.fs
/-- τ in 1/32 ns. -/
def lmTau32 (c : ChainCfg) : Nat := c.order * (c.d - 1) * 15625 + (c.taps - 1) * 16000000 / c.fs

/-- Full scale of a range in nanovolts (R343). -/
def lmFull (r : Nat) : Nat := 1600000000 / 10 ^ r

/-! ## What is in force -/

/-- CHAIN, NOTCH and WMODE for the entry in progress: latched by a sweep, chain 1 for telemetry (R351, R353). -/
def State.lmCfgWord (s : State) : Nat :=
  s.fld F.LM_CFG_CHAIN + s.fld F.LM_CFG_NOTCH * 2 ^ 2 + s.fld F.LM_CFG_WMODE * 2 ^ 4 + s.fld F.LM_CFG_TOKEN_EN * 2 ^ 7
    + s.fld F.LM_CFG_TOKEN_CH * 2 ^ 8 + s.fld F.LM_CFG_TOKEN_EDGE * 2 ^ 21
def State.lmCfg (s : State) (r : LmRun) : Nat :=
  if r.telem then 1 + 2 ^ 4 else match s.lm.sweep with
    | some w => w.cfg
    | none => s.lmCfgWord
def lmWmode (cfg : Nat) : Bool := bit cfg 4

/-- Blanking is in force (R346). `msg`: an accepted BLANK message interval runs. -/
def State.blankNow (s : State) (msg : Bool) : Bool :=
  msg || (s.flag F.LM_CFG_BLANK_PIN_EN && s.lm.blankPin != s.flag F.LM_CFG_BLANK_POL)

/-- Follows a change of blanking: the interval opens or closes, and LM_STATUS.BLANKING shows it. -/
def State.blankFollow (s : State) (on : Bool) : State :=
  if on = s.flag F.LM_STATUS_BLANKING then s
  else
    let l := match on, s.lm.blanks with
      | true, l => (s.nowNs, none) :: l.take 63
      | false, (t, _) :: l => (t, some s.nowNs) :: l
      | false, [] => []
    let s : State := { s with lm := { s.lm with blanks := l } }
    s.setFlag F.LM_STATUS_BLANKING on

/-- Does the span from `a` to `b`, in 1/32 ns, overlap blanking? -/
def State.blankSpan (s : State) (a b : Nat) : Bool :=
  s.lm.blanks.any fun e => 32 * e.1 ≤ b && (match e.2 with
    | none => true
    | some t => decide (a ≤ 32 * t))

/-- Drives the relays (R337, R355). -/
def State.setRelays (s : State) (v : Nat) : State :=
  (List.range 8).foldl (fun s j =>
    if s.flag (F.LM_RLY_STATE j) = bit v j then s
    else (s.setFlag (F.LM_RLY_STATE j) (bit v j)).emit (.pin ("LM_SW" ++ toString j) (bit v j))) s

/-- The relays as IDLE has them. -/
def State.idleRelays (s : State) : Nat := (List.range 8).foldl (fun acc j => acc + s.fld (F.LM_RLY_IDLE j) * 2 ^ j) 0

/-- DAC code of an excitation at a Compass time (R338). -/
def excCode (x : LmExc) (now : Nat) : Int :=
  match x.wave with
  | 1 => x.level
  | 2 => if x.winAt.isSome then x.level else x.start
  | 3 => match x.winAt with
    | none => x.start
    | some t => if x.freq * 1000000 ≤ now - t then x.level else x.start + (x.level - x.start) * ((now - t : Nat) : Int) / (x.freq * 1000000 : Nat)
  | 4 => x.level * sgn 32 (Config.cosSin ((now - x.at_) * x.freq % 1000000000) 1000000000).2.toNat / 1073741824
  | _ => 0

/-- Applies an entry's excitation (R338, R339). -/
def State.applyExc (s : State) (e : List Nat) : State :=
  if lmExc e = 0 then s
  else { s with lm := { s.lm with exc := ⟨lmExc e, lmLevel e, lmStart e, lmFreq e, s.nowNs, none⟩ } }

def excOff : LmExc := ⟨5, 0, 0, 0, 0, none⟩

def State.lmRun (s : State) (r : LmRun) : State := { s with lm := { s.lm with run := some r } }
def State.lmStep (s : State) (n : Nat) : State := s.setFld F.LM_STATUS_STEP n

/-! ## The Stile sequence (R340) -/

/-- Begins an entry with step 1: the previous input switch opens. -/
def State.lmBegin (s : State) (e : List Nat) (telem : Bool) (index : Nat) : State :=
  let r : LmRun := {
    e := e, telem := telem, index := index, gapEnd := 0, relayEnd := none, dschEnd := 0, resetAt := 0, outN := 0, settleFrom := 0,
    first := lmRange e, range := lmRange e, want := none, blocks := 0, small := true, changes := 0, discarded := 0, flags := 0,
    win := none, lastA := 0 }
  ((s.lmRun r).lmStep 1).setFld F.LM_STATUS_ENTRY index

/-- Step 2: relays, excitation and the open gap. -/
def State.lmGapStart (s : State) (r : LmRun) : State :=
  let now := s.nowNs
  let relays := if r.telem then s.idleRelays else lmRelays r.e
  let changed := (List.range 8).filter fun j => s.flag (F.LM_RLY_STATE j) ≠ bit relays j
  let ms := changed.foldl (fun acc j => max acc (s.fld (F.LM_RLY_SETTLE_MS j))) 0
  let s := s.setRelays relays
  let s := if lmExcAt r.e = 0 then s.applyExc r.e else s
  let relayEnd := if changed = [] then none else some (now + ms * 1000000)
  ((s.lmRun { r with gapEnd := now + (lmGap r.e + 1) * 1000, relayEnd := relayEnd }).lmStep 2).setFld F.LM_STATUS_INPUT 63

/-- Step 6: the input switch closes. -/
def State.lmClose (s : State) (r : LmRun) : State :=
  let s : State := { s with lm := { s.lm with closed := some (lmInput r.e) } }
  (s.lmRun r).lmStep 6

/-- After the gap and the relays: discharge, or the switch at once. -/
def State.lmAfterGap (s : State) (r : LmRun) : State :=
  if lmInput r.e < 32 ∧ lmNoDsch r.e = false then
    let s : State := { s with lm := { s.lm with dsch := true } }
    (s.lmRun { r with dschEnd := s.nowNs + lmDschUs r.e * 1000 }).lmStep 4
  else s.lmClose r

/-- Step 7: connect, and the reset of channel 256 at the next modulator edge. -/
def State.lmConnect (s : State) (r : LmRun) : State :=
  let edge := (s.nowNs * 16 + 15624) / 15625 * 15625 / 16
  let s : State := { s with lm := { s.lm with chain := BsChain.init } }
  let s := (s.lmRun { r with resetAt := edge }).lmStep 8
  (s.setFld F.LM_STATUS_INPUT (lmInput r.e)).setFld F.LM_STATUS_RANGE r.range

/-! ## Ends of entries, passes and sweeps (R350-R353) -/

/-- The state shown when no entry runs (R355). -/
def State.lmIdle (s : State) : State :=
  let st := match s.lm.sweep with
    | some w => if w.suspended then 4 else 3
    | none => if s.flag F.LM_CTRL_EN then 1 else 0
  let s : State := { s with lm := { s.lm with run := none } }
  if s.fld F.LM_STATUS_STATE = 5 then s.lmStep 0 else (s.setFld F.LM_STATUS_STATE st).lmStep 0

/-- Opens the Stile, sets code 0 and returns the relays to IDLE (R352). -/
def State.lmRelease (s : State) : State :=
  let s : State := { s with lm := { s.lm with run := none, closed := none, dsch := false, exc := excOff } }
  ((s.setRelays s.idleRelays).lmStep 0).setFld F.LM_STATUS_INPUT 63

/-- Ends the sweep with a status (R351, R352). -/
def State.endSweep (s : State) (status : Nat) : State :=
  match s.lm.sweep with
  | none => s
  | some w =>
    let s : State := { s with lm := { s.lm with sweep := none } }
    let s := if s.lm.run.any (·.telem) then s else s.lmRelease.lmIdle
    s.endJob w.job status 0 []

/-- Suspends the sweep at the end of an entry: the completions of the commands that waited are the job's (R352, R399). -/
def State.suspendSweep (s : State) (w : LmSweep) : State :=
  let s : State := { s with lm := { s.lm with sweep := some { w with suspended := true } } }
  let s := s.lmRelease.lmIdle
  match s.job w.job with
  | none => s
  | some j =>
    let s := s.setJob { j with st := .suspended, suspenders := [] }
    (j.suspenders.foldl (fun s o => s.complete o 0 0 []) s).jobProgress w.job true

/-- Begins the sweep's present entry. -/
def State.sweepEntry (s : State) (w : LmSweep) : State :=
  let s : State := { s with lm := { s.lm with sweep := some { w with waiting := false, gapUntil := none } } }
  (s.lmBegin (w.list.getD w.entry []) false w.entry).setFld F.LM_STATUS_STATE 3

/-- What follows an entry of a sweep whose record is written (R341, R351, R352). -/
def State.nextSweep (s : State) (w : LmSweep) : State :=
  let suspend : Bool := match s.job w.job with
    | some j => decide (j.st = .suspending)
    | none => false
  let lastEntry : Bool := decide (w.entry + 1 ≥ w.list.length)
  let w' := if lastEntry then { w with entry := 0, pass := w.pass + 1 } else { w with entry := w.entry + 1 }
  let s : State := { s with lm := { s.lm with sweep := some w', run := none } }
  let s := if lastEntry then
      (let s := s.setFlag F.LM_EVENT_PASS_DONE true
       match s.job w.job with
       | some j => (s.setJob { j with done := w'.pass }).jobProgress w.job true
       | none => s)
    else s
  if lastEntry ∧ w.passes ≠ 0 ∧ w'.pass ≥ w.passes then s.endSweep 0
  else if suspend then s.suspendSweep w'
  else if lastEntry then
    let s : State := { s with lm := { s.lm with closed := none, sweep := some { w' with gapUntil := some (s.nowNs + w.gapMs * 1000000) } } }
    s.lmIdle
  else s.sweepEntry w'

/-- What follows a telemetry reading: the next input, or a sweep that waits (R351, R353). -/
def State.nextTelem (s : State) : State :=
  match s.lm.sweep, s.lm.telemLeft with
  | some w, l =>
    if w.waiting then
      (let s : State := { s with lm := { s.lm with telemLeft := [], run := none } }
       s.sweepEntry w)
    else match l with
      | i :: r => ({ s with lm := { s.lm with telemLeft := r } } : State).lmBegin [i, 0, 0, 16 * 2 ^ 10] true (i - 32)
      | [] => ({ s with lm := { s.lm with closed := none } } : State).lmIdle
  | none, i :: r => ({ s with lm := { s.lm with telemLeft := r } } : State).lmBegin [i, 0, 0, 16 * 2 ^ 10] true (i - 32)
  | none, [] => ({ s with lm := { s.lm with closed := none } } : State).lmIdle

/-- The next entry after one that has ended; nothing while the reference is lost (R350). -/
def State.lmNext (s : State) (r : LmRun) : State :=
  if s.lm.refWait then s
  else if r.telem then s.nextTelem
  else match s.lm.sweep with
    | some w => s.nextSweep w
    | none => s.lmIdle

/-! ## Records (R348, R349) -/

/-- Delivers the token of a record (R149, R349). -/
def State.lmToken (s : State) (cfg : Nat) : State :=
  let n := bits cfg 8 13
  let e := bits cfg 21 5
  match s.chan n with
  | some c => if e < c.graph.edges.length then s.sourceToken n e c.frameNo else s.hwDrop n e
  | none => s.hwDrop n e

/-- Division of a sum by its weights, toward minus infinity. -/
def lmMean (sum : Int) (w : Nat) : Int := if w = 0 then 0 else sum / (w : Int)

/-- The words of a record: `flags` are bits 16-25 of word 0 without VALID. -/
def lmRecord (r : LmRun) (pass : Nat) (win : LmWin) (flags : Nat) : List Nat :=
  let valid := !bit flags 7 && !bit flags 8
  let only := win.count = 0
  let v (i : Int) : Nat := if only then 0 else unsgn 32 i
  let iq (i : Int) : Nat := if lmExc r.e = 4 then unsgn 32 (lmMean (2 * i) win.w) else 0
  [lmInput r.e + r.first * 2 ^ 6 + r.range * 2 ^ 8 + r.index % 64 * 2 ^ 10 + b2n valid * 2 ^ 16 + flags / 2 * 2 ^ 17,
    pass % 65536 + win.count % 65536 * 2 ^ 16, v (lmMean win.wy win.w), v win.lo, v win.hi, iq win.wi, iq win.wq,
    r.discarded % 65536 + r.changes % 16 * 2 ^ 16, win.start / 32 % 2 ^ 32, win.start / 32 / 2 ^ 32 % 2 ^ 32, win.stop / 32 % 2 ^ 32,
    win.stop / 32 / 2 ^ 32 % 2 ^ 32, unsgn 16 (lmLevel r.e) + lmExc r.e * 2 ^ 16, 0, 0, 0]

def LmWin.empty (t : Nat) : LmWin := ⟨t, t, 0, 0, 0, 0, 0, 0, 0⟩

/-- Ends the entry in progress with its record; telemetry updates LM_INT alone (R348, R349, R353). -/
def State.lmFinish (s : State) (r : LmRun) (flags : Nat) : State :=
  let win := r.win.getD (LmWin.empty (32 * s.nowNs))
  let flags := if win.count = 0 ∧ bit flags 7 = false ∧ bit flags 8 = false then setBits flags 9 1 1 else flags
  let mean := BitVec.ofNat 32 (unsgn 32 (lmMean win.wy win.w))
  let i := lmInput r.e
  let ok := bit flags 7 = false && bit flags 8 = false && win.count ≠ 0
  let s := if ok then
      (if i < 32 then (if r.telem then s else s.setFld (F.LM_AIN_MEAN_NV i) mean.toNat)
       else (s.setFld (F.LM_INT_VALUE (i - 32)) (Config.lmuInternal i mean).toNat).setFlag (F.LM_INT_VALID (i - 32)) true)
    else s
  let s := if r.telem then s
    else match s.lm.sweep with
      | none => s
      | some w =>
        let k := s.fld F.LM_REC_WIDX_WIDX
        let s := s.setBytes (w.recAddr * 16 + k % 256 * 64) (wordsLe (lmRecord r w.pass win flags))
        let s := (s.incW F.LM_REC_WIDX_WIDX 1).setFlag F.LM_EVENT_RECORD true
        if bit w.cfg 7 then s.lmToken w.cfg else s
  s.lmNext r

/-! ## Outputs (R343-R346) -/

/-- The number of two 64-bit blocks in a row beyond density 0.9 or 0.1 that the bits of an output bring (R344). -/
def densityBlocks : Nat → Nat → Bool → List Bool → Nat × Bool
  | 0, run, hit, _ => (run, hit)
  | n + 1, run, hit, l =>
    if l.length < 64 then (run, hit)
    else
      let ones := (l.take 64).foldl (fun acc b => acc + b2n b) 0
      let run := if 10 * ones > 576 ∨ 10 * ones < 64 then run + 1 else 0
      densityBlocks n run (hit || decide (run ≥ 2)) (l.drop 64)

/-- The end of a notch window from its start, in 1/32 ns (R345). -/
def notchEnd (start notch : Nat) (e : List Nat) : Nat :=
  let len := 32 * (if notch = 0 then 20000000 else if notch = 1 then 16666667 else 100000000)
  if lmExc e = 4 ∧ lmFreq e ≠ 0 then
    let periods := (len * lmFreq e + 32000000000 - 1) / 32000000000
    start + periods * 32000000000 / lmFreq e
  else start + len

/-- Adds an output of weight `w` to a window. -/
def LmWin.add (x : LmWin) (w : Nat) (y : Int) (cs : Int × Int) : LmWin :=
  if w = 0 then x
  else
    { x with
      w := x.w + w
      wy := x.wy + w * y
      wi := x.wi + w * y * cs.1 / 1073741824
      wq := x.wq + w * y * cs.2 / 1073741824
      lo := if x.count = 0 then y else min x.lo y
      hi := if x.count = 0 then y else max x.hi y
      count := x.count + 1 }

/-- Asks for another range (R344). -/
def LmRun.askRange (r : LmRun) (up sat : Bool) : LmRun :=
  let r := if sat then { r with flags := setBits r.flags 2 1 1 } else r
  if lmAuto r.e = false ∨ r.want.isSome then r
  else if up then
    if r.range = 0 then { r with flags := setBits r.flags 2 1 1 }
    else if r.changes ≥ 4 then { r with flags := setBits r.flags 3 1 1 }
    else { r with want := some (r.range - 1) }
  else r

/-- A range change at an output boundary: the outputs from output `next` on are withheld, and the window starts afresh. -/
def State.lmChange (s : State) (r : LmRun) (rg next : Nat) : State × LmRun :=
  let s := (s.incW F.LM_CNT_RANGE_CHANGES 1).setFlag F.LM_EVENT_RANGE_CHANGE true
  let fl := setBits r.flags 1 1 1
  let fl := if r.changes + 1 ≥ 4 then setBits fl 3 1 1 else fl
  (s.setFld F.LM_STATUS_RANGE rg, { r with range := rg, want := none, settleFrom := next, small := true, changes := r.changes + 1, flags := fl, win := none, blocks := 0 })

/-- The settle count, the window and the counting of one output `y` at index `k` whose nominal instant is `t`. -/
def State.lmCount (s : State) (r : LmRun) (cfg : ChainCfg) (cw : Nat) (k t : Nat) (y : Int) : State × LmRun × Bool :=
  let a := t - lmTau32 cfg
  let set := lmSettle cfg
  if k < r.settleFrom + set then
    let small := r.small && decide (20 * y.natAbs ≤ lmFull r.range)
    let r := { r with small := small }
    let down := k + 1 = r.settleFrom + set && small && lmAuto r.e && r.range < 3 && r.want.isNone && r.changes < 4
    (s, if down then { r with want := some (r.range + 1) } else r, false)
  else
    let x := s.lm.exc
    let cs := Config.cosSin ((a - 32 * x.at_) * x.freq % 32000000000) 32000000000
    let c := (sgn 32 cs.1.toNat, sgn 32 cs.2.toNat)
    let wm := lmWmode cw
    let win := r.win.getD (let w := LmWin.empty a; if wm then w else { w with stop := notchEnd a (bits cw 2 2) r.e })
    let s : State := if r.win.isNone ∧ x.winAt.isNone then { s with lm := { s.lm with exc := { x with winAt := some (a / 32) } } } else s
    if wm then
      if r.telem = false ∧ s.blankSpan (t - 2 * lmTau32 cfg) t then
        (s, { r with win := some win, discarded := r.discarded + 1 }, false)
      else
        let win := { win.add 1 y c with stop := a + lmStep32 cfg }
        (s, { r with win := some win }, decide (win.count ≥ (if r.telem then 16 else lmWin r.e)))
    else
      let fl := if s.blankSpan a (min win.stop (a + lmStep32 cfg)) then setBits r.flags 5 1 1 else r.flags
      let w := min win.stop (a + lmStep32 cfg) - a
      let win := win.add w y c
      (s, { r with win := some win, flags := fl }, decide (win.stop ≤ a + lmStep32 cfg))

/-- One output of channel 256. -/
def State.lmOutput (s : State) (r : LmRun) (bits : List Bool) : State :=
  let cw := s.lmCfg r
  let cfg := lmChain (Sys2Proof.Machine.bits cw 0 2)
  let fir (_ : Nat) (sum : (Nat → Int) → Int) : Int × Bool :=
    (roundSat (sum fun i => sgn 24 (Config.lmuCoef (Sys2Proof.Machine.bits cw 0 2) i).toNat) (2 ^ 24), false)
  let p := (bits.take cfg.d).foldl (fun (acc : BsChain × Option Int) b =>
    let z := chainBit cfg fir acc.1 b
    (z.1, if z.2.isSome then z.2 else acc.2)) ({ s.lm.chain with overload := false }, none)
  match p.2 with
  | none => s
  | some v =>
    let sat := p.1.overload || decide (v = 8388607) || decide (v = -8388608)
    let s : State := { s with lm := { s.lm with chain := p.1 } }
    let k := r.outN
    let t := 32 * r.resetAt + (k + 1) * lmStep32 cfg
    let y := sgn 32 (Config.lmuNanovolts r.range (BitVec.ofNat 24 (unsgn 24 v))).toNat
    let blocks := densityBlocks 8 r.blocks false bits
    let pending := r.want
    let r := { r with outN := k + 1, blocks := blocks.1 }
    -- excitation applied after connect: the settle count restarts (R339)
    let exc := lmExcAt r.e ≠ 0 && k + 1 = lmExcAt r.e && lmExc r.e ≠ 0
    let s := if exc then s.applyExc r.e else s
    let r := if exc then { r with settleFrom := k + 1, win := none, flags := setBits r.flags 4 1 1 } else r
    let c := s.lmCount r cfg cw k t y
    let s := c.1
    let r := c.2.1.askRange (blocks.2 || sat) sat
    match pending with
    | some rg => let q := s.lmChange { r with want := pending } rg (k + 1); q.1.lmRun q.2
    | none =>
      if c.2.2 ∧ r.want.isNone then s.lmFinish r r.flags
      else (s.lmRun r).lmStep (if r.win.isSome then 9 else 8)

end Sys2Proof.Machine
end

