-- ==== Sys2Proof/Machine/SupOps.lean ====
section
/-! DEFINITION. The operations of the self-timed supervisor (R53-R63). -/
namespace Sys2Proof.Machine

/-- Clusters that the supervisor compares: not one under reset (R67). -/
def State.compared (s : State) : List Nat := s.speedClusters.filter fun c => s.fld (F.PW_CL_STATE c) ≠ 2

/-- A voltage clipped under R59. -/
def State.clipV (s : State) (v : Nat) : Nat :=
  max 680 (min 900 (max (s.fld F.ST_VLIMIT_VMIN_MV) (min (s.fld F.ST_VLIMIT_VMAX_MV) v)))

/-- Starts a Vout write and the settle time after it (R57, R62), where the supervisor issues commands; nothing outside
680-900 mV is commanded (R59). -/
def State.commandV (s : State) (v : Nat) : State :=
  if s.flag F.ST_CTRL_EN ∧ s.flag F.ST_STATUS_AVS_FAULT = false then
    let v := max 680 (min 900 v)
    let s := (s.setFld F.ST_VSET_CMD_MV v).setFlag F.ST_STATUS_SETTLING true
    let s := s.setFlag F.ST_STATUS_AT_VMIN (v = s.fld F.ST_VLIMIT_VMIN_MV)
    let s : State := { s with st := { s.st with settle := 1, avs := some ⟨some v, 0⟩ } }
    s.emit (.avsWrite (s.fld F.ST_AVS_CFG_RAIL) v)
  else s

/-- The step toward limits that were moved past the command, in every mode (R59). -/
def State.limitStep (s : State) : State :=
  let cmd := s.fld F.ST_VSET_CMD_MV
  if cmd > s.fld F.ST_VLIMIT_VMAX_MV then
    s.commandV (max (s.fld F.ST_VLIMIT_VMAX_MV) (cmd - s.fld F.ST_STEP_STEP_MV))
  else if cmd < s.fld F.ST_VLIMIT_VMIN_MV then
    s.commandV (min (s.fld F.ST_VLIMIT_VMIN_MV) (cmd + s.fld F.ST_STEP_STEP_MV))
  else s

/-- The limits were written (R59, R69). -/
def State.limitsMoved (s : State) : State :=
  let s := s.setFlag F.ST_STATUS_AT_VMIN (s.fld F.ST_VSET_CMD_MV = s.fld F.ST_VLIMIT_VMIN_MV)
  if s.st.settle = 1 ∨ s.mode = 9 then s else s.limitStep

/-- Starts a read of Vout and output current (R62). -/
def State.readV (s : State) : State :=
  ({ s with st := { s.st with avs := some ⟨none, 0⟩ } }).emit (.avsRead (s.fld F.ST_AVS_CFG_RAIL))

/-- BELOW_FLOOR is entered, naming a cluster (R60, R63). -/
def State.belowFloor (s : State) (c : Nat) : State :=
  if s.flag F.ST_STATUS_BELOW_FLOOR then s
  else
    let s := (s.setFlag F.ST_STATUS_BELOW_FLOOR true).event F.ST_EVENT_BELOW_FLOOR .warn 0 c 0 0
    let s : State := { s with st := { s.st with okWindows := 0 } }
    s.budgetCheck

/-- The report at the limit: a raise is wanted and the command equals VMAX (R60). -/
def State.limitReport (s : State) (want : Bool) : State :=
  let at_ := want && s.fld F.ST_VSET_CMD_MV = s.fld F.ST_VLIMIT_VMAX_MV
  let s := if at_ ∧ s.flag F.ST_STATUS_AT_VMAX = false then s.setFlag F.ST_EVENT_AT_VMAX true else s
  let s := s.setFlag F.ST_STATUS_AT_VMAX at_
  let low := s.compared.find? fun c => (s.speedOf c).lt (s.floorDemand c)
  let short := at_ && low.isNone && s.compared.any fun c => (s.speedOf c).lt (s.needOf c)
  let s := if short ∧ s.st.short = false then s.raise .info 0x01 0 0x0181 0 0 0 else s
  let s : State := { s with st := { s.st with short := short } }
  match at_, low with
  | true, some c => s.belowFloor c
  | _, _ => s

/-- Raises the command by steps (R56, R58). -/
def State.raiseV (s : State) (n : Nat) : State :=
  let cmd := s.fld F.ST_VSET_CMD_MV
  let v := s.clipV (cmd + n * s.fld F.ST_STEP_STEP_MV)
  if v > cmd then
    let s : State := { s with st := { s.st with lastRaise := some s.elapsed } }
    (s.incW F.ST_STEP_CNT_RAISES 1).commandV v
  else s

/-- Lowers the command by one step. -/
def State.lowerV (s : State) : State :=
  let cmd := s.fld F.ST_VSET_CMD_MV
  let v := s.clipV (cmd - s.fld F.ST_STEP_STEP_MV)
  if v < cmd then (s.incW F.ST_STEP_CNT_LOWERS 1).commandV v else s

/-- No raise in the last LOWER_EPOCHS epochs. -/
def State.lowerDue (s : State) : Bool :=
  match s.st.lastRaise with
  | none => true
  | some t => decide (s.elapsed ≥ t + s.fld F.ST_STEP_LOWER_EPOCHS * 5000000)

/-- The voltage is held by ST_VSET.FIXED_MV: fixed mode, HELD and BOOT (R58, R68). -/
def State.fixedV (s : State) : Bool := s.fld F.ST_CTRL_MODE = 1 || s.mode = 0 || s.mode = 1

/-- Each cluster's speed lies above its need by the hysteresis (R56). -/
def State.allAbove (s : State) : Bool :=
  s.compared.all fun c =>
    let n := s.needOf c
    (⟨n.num * (256 + s.fld F.ST_TARGET_HYST), n.den * 256⟩ : Frac).lt (s.speedOf c)

/-- The decision of a sensor window (R56, R59, R60). -/
def State.supDecide (s : State) : State :=
  let cmd := s.fld F.ST_VSET_CMD_MV
  let short := s.compared.any fun c => (s.speedOf c).lt (s.needOf c)
  let miss := s.st.missSeen
  let s := s.limitReport (miss || short)
  let ready := s.st.settle = 0 && s.flag F.ST_CTRL_EN && !s.flag F.ST_STATUS_AVS_FAULT
  let outside := cmd > s.fld F.ST_VLIMIT_VMAX_MV ∨ cmd < s.fld F.ST_VLIMIT_VMIN_MV
  if !ready then s
  else if outside then s.limitStep
  else if s.fixedV then (if cmd = s.clipV (s.fld F.ST_VSET_FIXED_MV) then s else s.commandV (s.fld F.ST_VSET_FIXED_MV))
  else
    let s : State := { s with st := { s.st with missSeen := false } }
    if miss then
      (if cmd < s.fld F.ST_VLIMIT_VMAX_MV then s.setFlag F.ST_EVENT_MISS_RAISE true else s).raiseV (s.fld F.ST_STEP_MISS_STEPS)
    else if short then s.raiseV 1
    else if s.allAbove ∧ s.flag F.ST_CTRL_LOWER_EN ∧ s.lowerDue ∧ s.flag F.ST_STATUS_REF_LOST = false then s.lowerV
    else s

/-- Writes ST_REQ and ST_STATUS.WORST (R55, R69). -/
def State.supRequest (s : State) : State :=
  let l := s.compared
  match l with
  | [] => s
  | c0 :: _ =>
    let top := l.foldl (fun b c => if (s.needOf b).lt (s.needOf c) then c else b) c0
    let n := s.needOf top
    -- M_c − need_c as a fraction: compare m·den − num across clusters
    let worse (a b : Nat) : Bool :=
      let na := s.needOf a
      let nb := s.needOf b
      decide (((s.speedOf a).num * na.den : Int) * nb.den - na.num * nb.den < ((s.speedOf b).num * nb.den : Int) * na.den - nb.num * na.den)
    let worst := l.foldl (fun b c => if worse c b then c else b) c0
    let s := s.setFld F.ST_REQ_NEED (min 65535 (if n.den = 0 then 0 else n.num / n.den))
    let s := s.setFld F.ST_REQ_CLUSTER top
    let s := s.setFlag F.ST_REQ_SOURCE ((s.floorDemand top).lt (s.loadDemand top))
    s.setFld F.ST_STATUS_WORST worst

/-- The speed of one cluster from its ring counts: 0-8 the cores, 9 the shared logic (R53). -/
def State.clusterSpeed (s : State) (c : Nat) (counts : List Nat) : State :=
  let inc := (List.range 9).filter fun i =>
    let k := 9 * c + i
    let st := s.fld (F.CO_STATUS_STATE k)
    (st = 1 || st = 3) && !s.st.entered.contains k && (s.mode ≠ 8 || s.dozeCore c = some k)
  let vals := (inc ++ [9]).map fun i => (Config.ringSpeed (s.fld (F.ST_CAL_RING_COEF c)) (nth counts i)).toNat
  let m := vals.foldl min 65535
  let s := (s.setFld (F.ST_SPEED_SPEED c) m).setFld (F.ST_SPEED_NCORES c) vals.length
  if m < s.fld F.ST_SPEED_MIN_MIN then (s.setFld F.ST_SPEED_MIN_MIN m).setFld F.ST_SPEED_MIN_CLUSTER c else s

/-- Moves the wait after a command on at the end of a window (R57). -/
def State.settleStep (s : State) : State :=
  if s.st.settle = 2 then { s with st := { s.st with settle := 3 } }
  else if s.st.settle = 3 then ({ s with st := { s.st with settle := 0 } }).setFlag F.ST_STATUS_SETTLING false
  else s

/-- An attempt of the AVSBus transaction failed (R62, R63). -/
def State.avsFail (s : State) : State :=
  match s.st.avs with
  | none => s
  | some t =>
    let s := s.incS F.ST_AVS_ERR_CNT_COUNT 1
    if t.fails < s.fld F.ST_AVS_CFG_RETRIES then
      let s : State := { s with st := { s.st with avs := some { t with fails := t.fails + 1 } } }
      s.emit (match t.write with
        | some v => .avsWrite (s.fld F.ST_AVS_CFG_RAIL) v
        | none => .avsRead (s.fld F.ST_AVS_CFG_RAIL))
    else
      let s : State := { s with st := { s.st with avs := none } }
      let s := if s.flag F.ST_STATUS_AVS_FAULT then s
        else (s.setFlag F.ST_STATUS_AVS_FAULT true).event F.ST_EVENT_AVS_FAULT .warn 0 0 0 0
      let s := if s.fld F.ST_VREAD_V_MV < 720 then s.belowFloor (s.fld F.ST_STATUS_WORST) else s
      s.budgetCheck

/-- A successful read of Vout and output current (R62, R63). -/
def State.avsReadOk (s : State) (v i : Nat) : State :=
  let s := (s.setFld F.ST_VREAD_V_MV v).setFld F.ST_VREAD_I_QA i
  let s : State := { s with st := { s.st with avs := none } }
  if s.flag F.ST_STATUS_AVS_FAULT then
    ((s.setFlag F.ST_STATUS_AVS_FAULT false).setFld F.ST_VSET_CMD_MV v).budgetCheck
  else s

end Sys2Proof.Machine
end

