-- ==== Sys2Proof/Machine/Lmu.lean ====
section
/-! DEFINITION. The commands of the line measurement unit (R337-R354) and of the reference clock, which it waits for (R54). -/
namespace Sys2Proof.Machine

/-- STILE_READBACK: the readback of step 1, 5 or 6 agrees and the sequence moves on (R340). -/
def execStileReadback (s : State) : Host.Outcome State Fault Refusal :=
  .next (match s.lm.run with
    | none => s
    | some r =>
      match s.fld F.LM_STATUS_STEP with
      | 1 => ({ s with lm := { s.lm with closed := none } } : State).lmGapStart r
      | 5 => ({ s with lm := { s.lm with dsch := false } } : State).lmClose r
      | 6 => s.lmConnect r
      | _ => s)

/-- The LMU leaves service: every switch that it can it opens, and a running sweep completes with FAULT (R341). -/
def State.lmOut (s : State) (sw : Nat) : State :=
  let s := ((s.setFld F.LM_STATUS_STATE 5).setFlag F.LM_EVENT_STILE_FAULT true).incS F.LM_CNT_STILE_FAULTS 1
  let s := s.event F.LM_EVENT_OUT_OF_SERVICE .fatal 0 sw 0 0
  let s : State := { s with lm := { s.lm with run := none, telemLeft := [] } }
  let s := (s.setFld F.LM_STATUS_INPUT 63).lmStep 0
  let s := s.endSweep 9
  { s with lm := { s.lm with closed := if sw < 40 then some sw else none, dsch := sw = 40 } }

/-- STILE_STUCK_CLOSED: a switch, 40 being DSCH, is still closed 2 µs after step 1 or 5 (R341). -/
def execStileStuckClosed (sw : Fin 41) (s : State) : Host.Outcome State Fault Refusal :=
  let step := s.fld F.LM_STATUS_STEP
  .next (if s.lm.run.isSome ∧ ((step = 1 ∧ sw.val < 40) ∨ (step = 5 ∧ sw.val = 40)) then s.lmOut sw.val else s)

/-- STILE_STUCK_OPEN: the switch of step 6 is still open after 2 µs (R341). -/
def execStileStuckOpen (s : State) : Host.Outcome State Fault Refusal :=
  .next (match s.lm.run with
    | none => s
    | some r =>
      if s.fld F.LM_STATUS_STEP = 6 then
        (let s := (s.incS F.LM_CNT_STILE_FAULTS 1).event F.LM_EVENT_STILE_FAULT .contained 0 (lmInput r.e) 0 0
         let s : State := { s with lm := { s.lm with closed := none } }
         s.lmFinish r (setBits r.flags 8 1 1))
      else s)

/-- OPEN_GAP_END: step 2 ends; relays that still settle are waited for (R340). -/
def execOpenGapEnd (s : State) : Host.Outcome State Fault Refusal :=
  .next (match s.lm.run with
    | none => s
    | some r =>
      if s.fld F.LM_STATUS_STEP = 2 ∧ r.gapEnd ≤ s.nowNs then
        (if r.relayEnd.isSome then s.lmStep 3 else s.lmAfterGap r)
      else s)

/-- RELAY_SETTLE_END: the changed relays have settled; the open gap must have ended too (R340). -/
def execRelaySettleEnd (s : State) : Host.Outcome State Fault Refusal :=
  .next (match s.lm.run with
    | none => s
    | some r =>
      match r.relayEnd with
      | none => s
      | some t =>
        let r' := { r with relayEnd := none }
        if t > s.nowNs then s
        else if s.fld F.LM_STATUS_STEP = 3 then s.lmAfterGap r'
        else if s.fld F.LM_STATUS_STEP = 2 then s.lmRun r'
        else s)

/-- DISCHARGE_END: DSCH_US has passed and DSCH opens; its readback follows (R340). -/
def execDischargeEnd (s : State) : Host.Outcome State Fault Refusal :=
  .next (match s.lm.run with
    | none => s
    | some r => if s.fld F.LM_STATUS_STEP = 4 ∧ r.dschEnd ≤ s.nowNs then s.lmStep 5 else s)

/-- LMU_OUTPUT: channel 256 makes an output of the modulator bits since the last one (R342-R348). -/
def execLmuOutput (bits : List Bool) (s : State) : Host.Outcome State Fault Refusal :=
  .next (match s.lm.run with
    | none => s
    | some r => if s.fld F.LM_STATUS_STEP = 8 ∨ s.fld F.LM_STATUS_STEP = 9 then s.lmOutput r bits else s)

/-- Blanking follows the pin, its settings and the message interval (R346). -/
def State.blankUpdate (s : State) : State := s.blankFollow (s.blankNow (s.flag F.MG_STATUS_BLANKING))

/-- BLANK_PIN_EDGE: the BLANK pin takes a level (R346). -/
def execBlankPinEdge (level : Bool) (s : State) : Host.Outcome State Fault Refusal :=
  .next ({ s with lm := { s.lm with blankPin := level } } : State).blankUpdate

/-- BLANK_TIMEOUT: the discards have lengthened the entry by more than EXT_MS (R346). -/
def execBlankTimeout (s : State) : Host.Outcome State Fault Refusal :=
  .next (match s.lm.run with
    | none => s
    | some r =>
      let cw := s.lmCfg r
      if r.telem = false ∧ lmWmode cw ∧ r.discarded * lmStep32 (lmChain (bits cw 0 2)) > lmExtMs r.e * 32000000 then
        ((s.incS F.LM_CNT_BLANK_TIMEOUTS 1).setFlag F.LM_EVENT_BLANK_TIMEOUT true).lmFinish r (setBits r.flags 6 1 1)
      else s)

/-- PASS_GAP_END: PASS_GAP_MS has passed and the next pass starts (R351). -/
def execPassGapEnd (s : State) : Host.Outcome State Fault Refusal :=
  .next (match s.lm.sweep with
    | none => s
    | some w =>
      match w.gapUntil with
      | none => s
      | some t =>
        if w.suspended = false ∧ t ≤ s.nowNs ∧ s.lm.refWait = false then
          (if s.lm.run.isSome then { s with lm := { s.lm with sweep := some { w with waiting := true, gapUntil := none } } }
           else s.sweepEntry w)
        else s)

/-- No sweep runs: none at all, or a suspended one. -/
def State.sweepIdle (s : State) : Bool :=
  match s.lm.sweep with
  | none => true
  | some w => w.suspended

/-- TELEMETRY_START: the LMU measures inputs 32 to 39 in order (R353). -/
def execTelemetryStart (s : State) : Host.Outcome State Fault Refusal :=
  .next (if s.flag F.LM_CTRL_EN ∧ s.flag F.LM_CTRL_TELEM_EN ∧ s.sweepIdle ∧ s.lm.run = none ∧ s.fld F.LM_STATUS_STATE ≠ 5
      ∧ s.lm.refWait = false ∧ s.mode ≠ 0 ∧ s.mode ≠ 9 then
    let s : State := { s with lm := { s.lm with telemLeft := [33, 34, 35, 36, 37, 38, 39] } }
    (s.lmBegin [32, 0, 0, 16 * 2 ^ 10] true 0).setFld F.LM_STATUS_STATE 2
  else s)

/-- The effect of a write of 1 to LM_CTRL.RESET_FAULT: the readback is repeated; `open_`: every switch reads open (R341). -/
def State.lmResetFault (s : State) (open_ : Bool) : State :=
  if s.fld F.LM_STATUS_STATE = 5 ∧ open_ then
    ({ s with lm := { s.lm with closed := none, dsch := false } } : State).setFld F.LM_STATUS_STATE 1
  else s

/-- RESET_FAULT (R341). -/
def execResetFault (open_ : Bool) (s : State) : Host.Outcome State Fault Refusal := .next (s.lmResetFault open_)

/-- REF_LOST: no edge of the reference for 320 ns. Sensors hold; the supervisor commands at least 800 mV (R54); Compass stands
in holdover (R294, R297); the LMU's entry ends with NO_CLOCK and Stile opens (R350). -/
def execRefLost (s : State) : Host.Outcome State Fault Refusal :=
  if s.flag F.CP_STATUS_REF_LOST then .next s
  else
    let s := (s.setFlag F.ST_STATUS_REF_LOST true).event F.ST_EVENT_REF_LOST .warn 0 0 0 0
    let s : State := { s with st := { s.st with refBack := false, refWindows := 0 } }
    let s := if s.fld F.ST_VSET_CMD_MV < 800 ∧ s.fld F.ST_VSET_CMD_MV < s.fld F.ST_VLIMIT_VMAX_MV
      then s.commandV (s.clipV 800) else s
    let s := (s.setFlag F.CP_STATUS_REF_LOST true).setFlag F.CP_STATUS_TIME_VALID false
    let s := s.holdover
    let s := if s.cp.ppsHigh.isSome then ({ s with cp := { s.cp with ppsHigh := none } } : State).emit (.pin "PPS_OUT" false) else s
    let s : State := { s with lm := { s.lm with refWait := true } }
    let s := match s.lm.run with
      | none => s
      | some r => (s.lmFinish r (setBits r.flags 7 1 1)).setFlag F.LM_EVENT_NO_CLOCK true
    .next ((({ s with lm := { s.lm with closed := none, dsch := false } } : State).setFld F.LM_STATUS_INPUT 63).lmStep 0)

/-- REF_RETURN: the reference returns (R54); the LMU continues with the next entry (R350). -/
def execRefReturn (s : State) : Host.Outcome State Fault Refusal :=
  if s.flag F.CP_STATUS_REF_LOST then
    let s := ({ s with st := { s.st with refBack := true, refWindows := 0 } } : State).setFlag F.CP_STATUS_REF_LOST false
    let s : State := { s with lm := { s.lm with refWait := false } }
    .next (match s.lm.run, s.lm.sweep with
      | some r, _ => s.lmNext r
      | none, some w => if w.waiting then s.sweepEntry w else s
      | none, none => s)
  else .next s

end Sys2Proof.Machine
end

