-- ==== Sys2Proof/Machine/Jobs.lean ====
section
/-! DEFINITION. The jobs of the host interface (R394, R397-R400), core retirement and HBM repair by command (R448, R454, R455), scrubbing
and powered hours (R457-R459), and line-test sweeps (R351, R352). -/
namespace Sys2Proof.Machine

/-! ## FW_JOB (R394) -/

/-- Posts the entry of a firmware job, or refuses it (R155, R156). -/
def State.fwPost (s : State) (c : HCmd) (o : Origin) (cl : Nat) : State :=
  let room := s.queueRoom (8 * cl + 5)
  if room && s.poolRoom then
    let words := [0x69 + c.hi.toNat * 256, c.tag.toNat] ++ (List.range 14).map (arg c)
    let j := newJob c o .queued (cl :: words) 1
    (s.addJob j).pushEntry (fwEntry j cl)
  else
    let s := if room then s.setFlag F.TH_EVENT_POOL_FULL true else s.setFlag F.TH_EVENT_QUEUE_FULL true
    (s.incS F.TH_REFUSE_HOST_HOST 1).complete o 2 0 []

/-- FW_JOB. -/
def execFwJob (c : HCmd) (s : State) : Host.Outcome State Fault Refusal :=
  let a := arg c 0
  .next (s.jobCommand c 0x69 (decide (a ≤ 16) && (a = 16 || s.clusterIn a)) true none false (fun _ => true) 256 fun s o =>
    match (if a = 16 then s.fwChoice else some a) with
    | some cl => s.fwPost c o cl
    | none => (s.incS F.TH_REFUSE_HOST_HOST 1).complete o 2 0 [])

/-- Does a core run the entry of a firmware job? -/
def State.fwRuns (s : State) (h : Nat) : Bool := s.runs.any fun r => r.2.e.kind = .hostJob && r.2.e.handle = h

/-! ## CORE_RETIRE (R448) -/

/-- CORE_RETIRE. -/
def execCoreRetire (c : HCmd) (s : State) : Host.Outcome State Fault Refusal :=
  let k := arg c 0
  .next (s.jobCommand c 0x61 (argMask c [0xFF] && decide (k < 144) && decide (k / 9 < s.clusters)) true none false
    (fun j => nth j.args 0 / 9 = k / 9) 1 fun s o =>
      let st := s.fld (F.CO_STATUS_STATE k)
      if st = 2 ∨ s.rl.retire.any (·.core = k) then s.complete o 6 0 []
      else if st = 0 then
        let s := (s.setFld (F.CO_STATUS_STATE k) 2).setFld F.RL_SPARES_SPARE_FREE (setBits (s.fld F.RL_SPARES_SPARE_FREE) (k / 9) 1 0)
        (s.setFld (F.RL_CL_REPAIR_RETIRED (k / 9)) (s.fld (F.RL_CL_REPAIR_RETIRED (k / 9)) + 1)).complete o 0 0 []
      else (s.addJob (newJob c o .running [] 1)).startRetire k (some o.handle))

/-- JOB_CANCEL of a retirement whose swap has not begun: the core serves again. -/
def State.retireCancel (s : State) (h : Nat) : State :=
  match s.rl.retire.find? (·.job = some h) with
  | none => s.endJob h 3 0 []
  | some r =>
    let repair := s.flag F.RL_CTRL_ROW_REPAIR_EN && s.mem.logged.any fun e => e.1 < 432 && e.1 / 3 = r.core
    let st := if repair then s.th.stopped else s.th.stopped.filter (· ≠ r.core)
    let s : State := { s with th := { s.th with stopped := st } }
    ((s.dropRetire r.core).endJob h 3 0 []).wakeRetire (r.core / 9)

/-! ## HBM_REPAIR (R454, R455) -/

/-- Post-package repair rows that a pseudo-channel has left (R212). -/
def State.pprLeft (s : State) (pc : Fin 16) : Nat := (s.fuse.ppr.getD pc.val 0).toNat - mget 0 s.hp.pprUsed pc.val

/-- The logical page that maps to a physical page. -/
def State.logicalOf (s : State) (q : Nat) : Option Nat := firstBelow 8192 fun p => s.physPage p = some q

/-- Takes an unmapped page out of the spare pool while its row is repaired. -/
def State.holdPage (s : State) (q : Nat) : State :=
  { s with hp := { s.hp with pool := s.hp.pool.filter (· ≠ q), heldPages := q :: s.hp.heldPages } }

/-- HBM_REPAIR. The job's work: kind, physical page, logical page and its new physical page. Its step: 1 the page moves, 2 the
pseudo-channel is paused. -/
def execHbmRepair (c : HCmd) (s : State) : Host.Outcome State Fault Refusal :=
  let pc : Fin 16 := Fin.ofNat 16 (arg c 0)
  let kind := bits (arg c 0) 4 2
  let ok : Bool := if kind = 0 then argMask c [0x3F, 0x7F] && decide (arg c 1 < 72) else kind = 1 && argMask c [0x3F, 0xF3FFF]
  .next (s.jobCommand c 0x62 ok true none false (fun j => nth j.args 0 % 16 = pc.val) 1 fun s o =>
    if kind = 0 then
      (if s.fld (F.HP_PC_STAT_LANES_LEFT pc) = 0 then s.complete o 7 0 []
       else s.addJob { newJob c o .running [0, 0, 0, 0] 1 with step := 2 })
    else if s.pprLeft pc = 0 ∨ s.hp.pool = [] then s.complete o 7 0 []
    else
      let q := (Config.rowPage pc.val (bits (arg c 1) 16 4) (bits (arg c 1) 0 14)).toNat % s.pages
      match s.logicalOf q with
      | none => (s.holdPage q).addJob { newJob c o .running [1, q, 0xFFFFFFFF, 0xFFFFFFFF] 2 with step := 2, done := 1 }
      | some p =>
        let r := s.startMove p true none
        match r.2 with
        | some st => r.1.complete o st 0 []
        | none => r.1.addJob { newJob c o .running [1, q, p, 0] 2 with step := 1 })

/-- The page of a repair has moved: step 3 follows, or the end of a cancelled job, with the held page retired. -/
def State.repairMoved (s : State) (m : Move) : State :=
  let s : State := { s with hp := { s.hp with heldPages := m.src :: s.hp.heldPages } }
  match s.hi.jobs.find? fun j => j.op = 0x62 && j.st ≠ .held && j.step = 1 && nth j.work 2 = m.page with
  | none => s
  | some j =>
    let s := (s.setJob { j with step := 2, done := 1, work := setAt j.work 3 m.dst }).jobProgress j.handle false
    if j.st = .cancelling then
      ({ s with hp := { s.hp with heldPages := s.hp.heldPages.filter (· ≠ m.src) } } : State).endJob j.handle 3 0 []
    else s

/-- MIG_DONE: the page-table entry switches to the destination (R187, R188). -/
def execMigDone (page : BitVec 13) (s : State) : Host.Outcome State Fault Refusal :=
  .next (match s.hp.moves.find? fun m => m.page = page.toNat && m.line = linesPerPage with
    | none => s
    | some m =>
      let s := s.setPage m.page (some m.dst)
      let s : State := { s with hp := { s.hp with moves := s.hp.moves.filter fun x => x.page ≠ m.page } }
      let s := if m.repair then s.repairMoved m else { s with hp := { s.hp with pool := s.hp.pool ++ [m.src] } }
      (s.event F.HP_EVENT_MIG_DONE .info 0 m.page m.dst 0).completeOpt m.origin 0 0 [])

/-- HBM_REPAIR_PAUSE_END: the pause of a pseudo-channel ends; `ok`: the test of a repaired row passes. -/
def execHbmRepairPauseEnd (pc : Fin 16) (ok : Bool) (s : State) : Host.Outcome State Fault Refusal :=
  .next (match s.hi.jobs.find? fun j => j.op = 0x62 && j.st ≠ .held && j.step = 2 && nth j.args 0 % 16 = pc.val with
    | none => s
    | some j =>
      let cancelled := decide (j.st = .cancelling)
      let s := s.setJob { j with done := j.total }
      if nth j.work 0 = 0 then
        let s := s.setFld (F.HP_PC_STAT_LANES_REMAPPED pc) (s.fld (F.HP_PC_STAT_LANES_REMAPPED pc) + 1)
        let s := s.setFld (F.HP_PC_STAT_LANES_LEFT pc) (s.fld (F.HP_PC_STAT_LANES_LEFT pc) - 1)
        s.endJob j.handle (if cancelled then 3 else 0) 0 []
      else
        let q := nth j.work 1
        let good := ok && !cancelled
        let s : State := { s with hp := { s.hp with
          pprUsed := mset 0 s.hp.pprUsed pc.val (mget 0 s.hp.pprUsed pc.val + 1)
          heldPages := s.hp.heldPages.filter (· ≠ q)
          pool := if good then s.hp.pool ++ [q] else s.hp.pool } }
        let s := if ok then s else s.raise .warn 0x04 pc 0x0181 q pc 0
        if cancelled then s.endJob j.handle 3 0 []
        else s.endJob j.handle 0 (if ok then 0 else 0x40) [nth j.work 2, nth j.work 3])

/-! ## Scrubbing (R457, R458) -/

/-- A CSM word in error: its row is logged, and a queued node whose read area holds it is staged again (R442). -/
def State.scrubCsm (s : State) (c word row : Nat) : State :=
  let s := (s.raise .contained 0x20 c 0x0206 c word 0).logRow (432 + c) row
  let a := csmBase + word
  let hit (e : Entry) : Bool := e.cluster = c && e.kind = .node && (match e.slot with
    | some sl => s.slotRead c sl ≤ a && a < s.slotWrite c sl
    | none => false)
  let q := s.th.queues.map fun q => (q.1, q.2.map fun e => if hit e then { e with ready := false, restage := true } else e)
  { s with th := { s.th with queues := q } }

/-- A word found in error is handled as a read that found it in service. -/
def State.scrubErr (s : State) : ScrubErr → State
  | .hbm e => s.memErr e
  | .cps c addr row =>
    let s := if 0x100000 ≤ addr.toNat then s else s.logRow (448 + c.val) row.toNat
    s.cpsRestore c.val addr.toNat
  | .csm c word row => s.scrubCsm c.val word.toNat row.toNat
  | .thermos => s.raise .corrected 0x06 0 Config.codeThermosFixed.toNat 0 0 0

/-- Found in error and not corrected. -/
def ScrubErr.lost : ScrubErr → Bool
  | .hbm (.uncorrectable _) => true
  | .csm _ _ _ => true
  | _ => false

/-- SCRUB. The job's work: corrected and uncorrectable words. -/
def execScrub (c : HCmd) (s : State) : Host.Outcome State Fault Refusal :=
  .next (s.jobCommand c 0x63 (argMask c [7, 0xFF] && decide (arg c 0 ≠ 0)) true none false (fun _ => true) 1 fun s o =>
    let total := if bit (arg c 0) 0 then ((List.range 8192).filter fun p => (s.physPage p).isSome).length else 0
    (s.addJob (newJob c o .running [0, 0] total)).setFlag F.RL_STATUS_SCRUBBING true)

/-- The mapped page after the one last scrubbed. -/
def State.nextScrub (s : State) : Nat :=
  let p := s.fld F.RL_SCRUB_STAT_PAGE
  match (List.range 8192).find? fun i => (s.physPage ((p + 1 + i) % 8192)).isSome with
  | some i => (p + 1 + i) % 8192
  | none => p

/-- A read of a running SCRUB job: its words in error, and a page of progress. -/
def State.scrubJobRead (s : State) (j : Job) (target : Nat) (errs : List ScrubErr) : State :=
  let lost := (errs.filter ScrubErr.lost).length
  let w := [nth j.work 0 + (errs.length - lost), nth j.work 1 + lost]
  let s := errs.foldl State.scrubErr s
  if target = 0 then
    ((s.setJob { j with work := w, done := j.done + 1 }).setFld F.RL_SCRUB_STAT_PAGE s.nextScrub).jobProgress j.handle false
  else s.setJob { j with work := w }

/-- PATROL_SCRUB_READ: a read of the patrol, or of the SCRUB job that runs in its place. -/
def execPatrolScrubRead (target : Fin 3) (errs : List ScrubErr) (s : State) : Host.Outcome State Fault Refusal :=
  .next (if s.mode = 0 ∨ s.mode = 9 then s
    else match s.hi.jobs.find? fun j => j.op = 0x63 && j.st = .running with
      | some j => if bit (nth j.args 0) target.val then s.scrubJobRead j target.val errs else s
      | none =>
        let on := if target.val = 0 then s.fld F.RL_SCRUB_CFG_HBM_HOURS ≠ 0 else s.fld F.RL_SCRUB_CFG_SRAM_MIN ≠ 0
        if on ∧ s.flag F.RL_SCRUB_CFG_PAUSE = false then
          let s := errs.foldl State.scrubErr s
          if target.val = 0 then s.setFld F.RL_SCRUB_STAT_PAGE s.nextScrub else s
        else s)

/-- SCRUB_DONE: a pass is complete, of the SCRUB job that runs or of the patrol. -/
def execScrubDone (hbm : Bool) (s : State) : Host.Outcome State Fault Refusal :=
  .next (
    let done (s : State) (h : Bool) : State :=
      (if h then s.incW F.RL_SCRUB_STAT_PASSES 1 else s).setFlag F.RL_EVENT_SCRUB_DONE true
    match s.hi.jobs.find? fun j => j.op = 0x63 && j.st = .running with
    | some j => ((done s (bit (nth j.args 0) 0)).setFlag F.RL_STATUS_SCRUBBING false).endJob j.handle 0 0 j.work
    | none => done s hbm)

/-! ## Powered hours (R459) -/

/-- What an hour at a mean temperature in 1/16 °C adds to RL_EQUIV: 16 × 2^((T − 95) ÷ 10). -/
def equivHour (t : BitVec 16) : Nat :=
  let d := sgn 16 t.toNat - 1520
  if d % 160 = 0 ∧ -640 ≤ d then (if 0 ≤ d then 16 * 2 ^ (d / 160).toNat else 16 / 2 ^ (-(d / 160)).toNat)
  else (Config.equivalentHour t).toNat

/-- LIFE_HOUR. -/
def execLifeHour (temp : Option (BitVec 16)) (s : State) : Host.Outcome State Fault Refusal :=
  let t := temp.getD 1680
  let old := s.fld F.RL_EQUIV_COUNT
  let s := (s.incS F.RL_LIFE_COUNT 1).incS F.RL_EQUIV_COUNT (equivHour t)
  let new := s.fld F.RL_EQUIV_COUNT
  let s := if old < 5045760 ∧ 5045760 ≤ new then s.event F.RL_EVENT_LIFE_90 .warn 0 new 0 0 else s
  .next (if old < 5606400 ∧ 5606400 ≤ new then s.event F.RL_EVENT_LIFE_END .warn 0 new 0 0 else s)

/-! ## LINE_TEST_SWEEP (R351) -/

/-- The scan list of `n` entries. -/
def State.scanList (s : State) (n : Nat) : List (List Nat) :=
  let a := s.fld F.LM_SCAN_ADDR_ADDR * 16
  (List.range n).map fun i => (List.range 4).map fun w => s.word (a + 16 * i + 4 * w)

/-- Starts a sweep past the checks of R397. -/
def State.sweepStart (s : State) (c : HCmd) (o : Origin) : State :=
  let n := arg c 0
  let a := s.fld F.LM_SCAN_ADDR_ADDR * 16
  let cfg := s.lmCfgWord
  let l := s.scanList n
  if s.mappedRange a (16 * n) = false then (s.unmappedEvent (a / pageBytes)).complete o 8 0 []
  else if s.poisoned a (16 * n) then s.poisonSeen.complete o 10 0 []
  else if l.any (fun e => !lmEntryOk (lmWmode cfg) e) ∨ (lmWmode cfg = false ∧ n > 16) then s.complete o 5 0 []
  else if s.lm.sweep.isSome ∨ s.flag F.LM_CTRL_EN = false ∨ s.fld F.LM_STATUS_STATE = 5 then s.complete o 6 0 []
  else if l.any (fun e => lmInput e < 32) ∧ s.mode ≠ 3 ∧ s.mode ≠ 4 then s.complete o 6 0 []
  else
    let busy := s.lm.run.isSome || s.lm.refWait
    let w : LmSweep := {
      job := o.handle, list := l, passes := arg c 1, gapMs := arg c 2, pass := 0, entry := 0,
      recAddr := s.fld F.LM_REC_ADDR_ADDR * 16, cfg := cfg, waiting := busy, gapUntil := none, suspended := false }
    let s := s.addJob (newJob c o .running [] (arg c 1))
    if busy then { s with lm := { s.lm with sweep := some w } } else s.sweepEntry w

/-- LINE_TEST_SWEEP. -/
def execLineTestSweep (c : HCmd) (s : State) : Host.Outcome State Fault Refusal :=
  .next (s.jobCommand c 0x64 (argMask c [0x7F, 0xFFFF, 0xFFFF] && decide (1 ≤ arg c 0) && decide (arg c 0 ≤ 64)) true none false
    (fun _ => true) 1 fun s o => s.sweepStart c o)

/-- JOB_SUSPEND of a sweep: at once between entries, otherwise when the record of the present entry is written (R352). -/
def State.sweepSuspend (s : State) : State :=
  match s.lm.sweep with
  | none => s
  | some w => if w.waiting ∨ w.gapUntil.isSome then s.suspendSweep { w with waiting := false, gapUntil := none } else s

/-- JOB_RESUME of a sweep: the next entry with the full sequence. -/
def State.sweepResume (s : State) : State :=
  match s.lm.sweep with
  | none => s
  | some w =>
    let w := { w with suspended := false }
    if s.lm.run.isSome ∨ s.lm.refWait then { s with lm := { s.lm with sweep := some { w with waiting := true } } } else s.sweepEntry w

/-! ## Job control (R398, R399) -/

/-- A job-control command: its HANDLE names the target. -/
def State.jobControl (s : State) (c : HCmd) (op : Nat) (f : State → Origin → Job → State) : State :=
  if s.mayStart c then
    let o := s.originOf c op
    (s.start c).checked c o (argMask c []) true none false fun s =>
      match s.job o.handle with
      | some j => f s o j
      | none => s.complete o 8 0 []
  else s

/-- The job becomes SUSPENDED now. -/
def State.suspendNow (s : State) (j : Job) : State := (s.setJob { j with st := .suspending }).suspended j.handle

/-- JOB_SUSPEND of a queued or running job by its kind (R398). -/
def State.suspendKind (s : State) (o : Origin) (j : Job) : State :=
  let j' := { j with st := .suspending, suspenders := j.suspenders ++ [o] }
  match j.op with
  | 0x60 => s.setJob j'
  | 0x62 => s.setJob j'
  | 0x63 => (s.suspendNow j').setFlag F.RL_STATUS_SCRUBBING false
  | 0x64 => (s.setJob j').sweepSuspend
  | 0x66 => if j.step < 2 then s.suspendNow j' else s.setJob j'
  | 0x67 => s.rkSuspendJob o j
  | 0x68 => s.suspendNow j'
  | _ => s.complete o 6 0 []

/-- JOB_SUSPEND. -/
def execJobSuspend (c : HCmd) (s : State) : Host.Outcome State Fault Refusal :=
  .next (s.jobControl c 0x50 fun s o j =>
    match j.st with
    | .held => s.complete o 6 0 []
    | .cancelling => s.complete o 6 0 []
    | .suspended => s.complete o 0 0 []
    | .suspending => s.setJob { j with suspenders := j.suspenders ++ [o] }
    | _ => s.suspendKind o j)

/-- What a resumed job does by its kind. -/
def State.resumeKind (s : State) (j : Job) : State :=
  match j.op with
  | 0x60 => s.fwxResume
  | 0x63 => s.setFlag F.RL_STATUS_SCRUBBING true
  | 0x64 => s.sweepResume
  | 0x67 => s.rkResumeJob j
  | _ => s

/-- JOB_RESUME: a SUSPENDED job returns to the state that it left; resumptions are always reported (R400). -/
def execJobResume (c : HCmd) (s : State) : Host.Outcome State Fault Refusal :=
  .next (s.jobControl c 0x51 fun s o j =>
    if j.st = .suspended then
      let j := { j with st := j.left, left := .running }
      (((s.setJob j).jobProgress j.handle true).resumeKind j).complete o 0 0 []
    else s.complete o 6 0 [])

/-- JOB_CANCEL of a firmware job (R173). -/
def State.fwCancelJob (s : State) (j : Job) : State :=
  let mine (e : Entry) : Bool := e.kind = .hostJob && e.handle = j.handle
  if s.fwRuns j.handle then
    let s := s.setJob { j with st := .cancelling }
    s.runs.foldl (fun s r => if mine r.2.e then s.setCore r.1 { s.core r.1 with run := some { r.2 with e := { r.2.e with cancel := true } } } else s) s
  else match s.queued.find? mine with
    | some e => (s.dropQueued mine).endCancelled e none
    | none => s.endJob j.handle 3 0 []

/-- JOB_CANCEL by kind, with the canceller entered in the job (R398). -/
def State.cancelKind (s : State) (j : Job) : State :=
  match j.op with
  | 0x60 => (s.setJob { j with st := .cancelling }).fwxCancel
  | 0x61 => s.retireCancel j.handle
  | 0x62 => s.setJob { j with st := .cancelling }
  | 0x63 => (s.setFlag F.RL_STATUS_SCRUBBING false).endJob j.handle 3 0 j.work
  | 0x64 => s.endSweep 3
  | 0x65 => (s.migWithdraw (nth j.args 0 % 8192) j).endJob j.handle 3 0 []
  | 0x66 => ({ s with tw := { s.tw with evacLink := none } } : State).endJob j.handle 3 0 []
  | 0x67 => s.rkCancelJob j
  | 0x69 => s.fwCancelJob j
  | _ => s.endJob j.handle 3 0 []

/-- The kind lets the job be cancelled no more: after the swap or the switch (R398). -/
def State.pastCancel (s : State) (j : Job) : Bool :=
  (j.op = 0x61 && s.rl.retire.any fun r => r.job = some j.handle && r.step = 2) || (j.op = 0x65 && decide (j.step = 3))

/-- JOB_CANCEL. -/
def execJobCancel (c : HCmd) (s : State) : Host.Outcome State Fault Refusal :=
  .next (s.jobControl c 0x52 fun s o j =>
    let j' := { j with cancellers := j.cancellers ++ [o] }
    match j.st with
    | .held => s.complete o 6 0 []
    | .cancelling => s.setJob j'
    | _ => if s.pastCancel j then s.complete o 6 0 [] else (s.setJob j').cancelKind j')

/-- The state that a job shows: a firmware job runs while a core runs its entry. -/
def State.shownState (s : State) (j : Job) : JobState := if j.op = 0x69 ∧ j.st = .queued ∧ s.fwRuns j.handle then .running else j.st

/-- JOB_STATUS: the state and progress of a job, or the held completion, with which the handle is freed. -/
def execJobStatus (c : HCmd) (s : State) : Host.Outcome State Fault Refusal :=
  .next (s.jobControl c 0x53 fun s o j =>
    if j.st = .held then
      (s.dropJob j.handle).complete o 0 0 ((nth j.held 0 + nth j.held 1 * 2 ^ 8 + 6 * 2 ^ 16) :: (List.range 4).map fun i => nth j.held (2 + i))
    else s.complete o 0 0 [(s.shownState j).code + j.op * 2 ^ 8, j.done, j.total])

/-- JOB_LIST: one entry for each live or held job. -/
def execJobList (c : HCmd) (s : State) : Host.Outcome State Fault Refusal :=
  .next (s.command c 0x54 (bufMask c [] && decide (2048 ≤ bufLen c)) true none false fun s o =>
    let l := s.hi.jobs.flatMap fun j => leBytes 8 (j.handle + j.op * 2 ^ 16 + (s.shownState j).code * 2 ^ 24)
    (s.emit (.host (bufAddr c) l)).complete o 0 0 [s.hi.jobs.length])

end Sys2Proof.Machine
end

