-- ==== Sys2Proof/Machine/Tdm.lean ====
section
/-! DEFINITION. Commands and events of the TDM highways (R301-R305). -/
namespace Sys2Proof.Machine

/-- Reads the frame of a highway for a tick (R302-R304): the frame just received by a master, the oldest in the slip buffer
of a slave, or the last one again. -/
def State.tickFrame (s : State) (h : Nat) (data : List Byte) : State × List Byte :=
  if s.flag (F.TD_HCFG_MASTER h) then (s, data)
  else if bit (s.fld F.TD_STATUS_CLK_LOST) h then (s, s.idleFrame h)
  else
    let x := s.hwy h
    match x.rx with
    | f :: r => (s.setHwy h { x with rx := r, rxLast := f }, f)
    | [] => (s.slip h true, x.rxLast)

/-- One highway at a tick. -/
def State.hwyTick (s : State) (h : Nat) (data : List Byte) : State :=
  let r := s.tickFrame h data
  let s := r.1.takeFrame h r.2
  let codes := s.txFrame h
  if s.flag (F.TD_HCFG_MASTER h) then s.emit (.tdm h codes)
  else
    let x := s.hwy h
    let s := s.setHwy h { x with tx := (x.tx ++ [codes]).drop (x.tx.length - 1) }
    if x.tx.length ≥ 2 then s.slip h false else s

/-- HIGHWAY_TICK: each 125 µs of Compass time every active highway hands over and takes one frame. `data` is what master
highways received, by highway; `col` the slots of master highways whose driven bits read back wrong. -/
def execHighwayTick (data : List (List (BitVec 8))) (col : List (Fin 16 × Fin 512)) (s : State) : Host.Outcome State Fault Refusal :=
  if s.nowNs / 125000 ≠ s.cp.lastTick ∧ s.flag F.CP_STATUS_REF_LOST = false then
    let s : State := { s with cp := { s.cp with lastTick := s.nowNs / 125000 } }
    let s := ((List.range 16).filter s.hwyActive).foldl (fun s h => s.hwyTick h (data.getD h [])) s
    let s := (col.filter fun e => s.hwyActive e.1 && s.flag (F.TD_HCFG_MASTER e.1)).foldl (fun s e => s.tdCollision e.1 e.2) s
    .next s.playOn
  else .next s

/-- Alignment of a slave highway from the bit-time of its frame sync (R304); `lost` says whether a realignment loses or
doubles a frame. -/
def State.fsCheck (s : State) (h fs : Nat) (lost : Bool) : State :=
  let x := s.hwy h
  let lockBit (s : State) (b : Bool) : State := s.setFld F.TD_STATUS_FS_LOCK (setBits (s.fld F.TD_STATUS_FS_LOCK) h 1 (b2n b))
  if fs = 0 then lockBit (s.setHwy h { x with run := x.run + 1, cand := none }) (decide (x.run + 1 ≥ 2))
  else
    let s := (s.incS (F.TD_HCNT_FS_ERR h) 1).setFlag F.TD_EVENT_FS_ERR true
    let s := if s.fld F.CP_SRC_CFG_SRC = 3 ∧ s.fld F.CP_SRC_CFG_HWY = h then s.holdover else s
    if x.cand = some fs then
      let s := lockBit (s.setHwy h { x with run := 2, cand := none }) true
      if lost then s.slip h true else s
    else lockBit (s.setHwy h { x with run := 0, cand := some fs }) false

/-- HIGHWAY_FRAME_RECEIVED: a slave highway has received a frame and sent one (R303-R305). `fs` is the bit-time at which its
frame sync was sampled against the present alignment. -/
def execHighwayFrameReceived (h : Fin 16) (data : List (BitVec 8)) (fs : BitVec 12) (lost : Bool) (col : List (Fin 512)) (s : State) :
    Host.Outcome State Fault Refusal :=
  if s.hwyActive h ∧ s.flag (F.TD_HCFG_MASTER h) = false ∧ bit (s.fld F.TD_STATUS_CLK_LOST) h = false then
    let s := s.fsCheck h fs.toNat lost
    let x := s.hwy h
    let s := s.setHwy h { x with rx := (x.rx ++ [data]).drop (x.rx.length - 1) }
    let s := if x.rx.length ≥ 2 then s.slip h true else s
    let x := s.hwy h
    let s := match x.tx with
      | f :: r => (s.setHwy h { x with tx := r, txLast := f }).emit (.tdm h f)
      | [] => (s.slip h false).emit (.tdm h x.txLast)
    let s := col.foldl (fun (s : State) k => s.tdCollision h.val k.val) s
    .next (if s.fld F.CP_SRC_CFG_SRC = 3 ∧ s.fld F.CP_SRC_CFG_HWY = h.val ∧ s.flag F.CP_STATUS_REF_LOST = false ∧ fs.toNat = 0 then
      s.compare (wrapErr s.cp.ns 125000) else s)
  else .next s

/-- CLK_LOST: no TD_CLK edge for 1 µs on a slave highway (R304). -/
def execClkLost (h : Fin 16) (s : State) : Host.Outcome State Fault Refusal :=
  if s.hwyActive h ∧ s.flag (F.TD_HCFG_MASTER h) = false ∧ bit (s.fld F.TD_STATUS_CLK_LOST) h = false then
    let s := s.setFld F.TD_STATUS_CLK_LOST (setBits (s.fld F.TD_STATUS_CLK_LOST) h 1 1)
    let s := s.event F.TD_EVENT_CLK_LOST .warn h h 0 0
    .next (if s.fld F.CP_SRC_CFG_SRC = 3 ∧ s.fld F.CP_SRC_CFG_HWY = h.val then s.holdover else s)
  else .next s

/-- TD_CLK_RETURN: the clock of a slave highway is back (R291, R304). -/
def execTdClkReturn (h : Fin 16) (s : State) : Host.Outcome State Fault Refusal :=
  if bit (s.fld F.TD_STATUS_CLK_LOST) h then
    let s := s.setFld F.TD_STATUS_CLK_LOST (setBits (s.fld F.TD_STATUS_CLK_LOST) h 1 0)
    let s := s.setHwy h { s.hwy h with run := 0, cand := none }
    .next (if s.fld F.CP_SRC_CFG_SRC = 3 ∧ s.fld F.CP_SRC_CFG_HWY = h.val then s.acquire else s)
  else .next s

/-- A write of a slot-table entry whose changes are mirrored to the twin (R301, R420). -/
def State.slotEntryWrite (s : State) (h k v : Nat) : State :=
  let s' := s.slotWrite301 h k v
  [k, k + 1].foldl (fun x j => if s'.tdSlot h j = s.tdSlot h j then x else x.mirror (.slot (512 * h + j) (s'.tdSlot h j))) s'

/-- TD_SLOT_DATA_WRITE: a write to the entry that TD_SLOT_SEL selects (R301). LAW 3 is reserved: the field keeps its value. -/
def State.slotDataWrite (s : State) (v : Nat) : State :=
  let h := s.fld F.TD_SLOT_SEL_HWY
  let k := s.fld F.TD_SLOT_SEL_SLOT
  if entLaw v = 3 then (s.slotEntryWrite h k (setBits v 13 2 (entLaw (s.tdSlot h k)))).reservedEncoding R.TD_SLOT_DATA 13
  else s.slotEntryWrite h k v

def execTdSlotDataWrite (v : BitVec 32) (s : State) : Host.Outcome State Fault Refusal := .next (s.slotDataWrite v.toNat)

end Sys2Proof.Machine
end

