-- ==== Sys2Proof/Machine/Lantern.lean ====
section
/-! DEFINITION. The Lantern mailbox (R496-R506). A command takes its effect at its acceptance and shows its results at its
completion. -/
namespace Sys2Proof.Machine

/-! ## Acceptance (R497, R498) -/

def State.lnArg (s : State) (i : Nat) : Nat := s.fld (F.LN_MBX_ARG_ARG i)

/-- A write of LN_MBX_CMD that is ignored. -/
def State.mailboxIgnored (s : State) (op : Nat) : State :=
  let s := (s.incWrap F.LN_IGNORED_COUNT 1 false).setFlag F.LN_EVENT_IGNORED true
  let sec := s.elapsed / 1000000000 + 1
  if s.ln.lastIgnored = sec then s
  else ({ s with ln := { s.ln with lastIgnored := sec } } : State).event F.LN_EVENT_IGNORED .warn 0 op 0 0

/-- A write of an opcode to LN_MBX_CMD; `f` gives the result code and the results. -/
def State.mailbox (s : State) (op : Nat) (f : State → State × Nat × List Nat) : State :=
  if s.mode ≠ 7 then s
  else if s.flag F.LN_MBX_STAT_BUSY ∨ s.flag F.LN_MBX_STAT_DONE then s.mailboxIgnored op
  else
    let n := s.lnArg 0
    let r := f ((s.setFld F.LN_MBX_CMD_OPCODE op).setFlag F.LN_MBX_STAT_BUSY true)
    let v := r.2.2 ++ List.replicate (4 - r.2.2.length) 0
    { r.1 with ln := { r.1.ln with cmd := some (op, r.2.1 :: v ++ [n]) } }

/-- The result code of a native status (R499). -/
def lanternResult (status : Nat) : Nat :=
  match status with
  | 0 => 0
  | 1 => 0
  | 5 => 3
  | 6 => 4
  | 8 => 5
  | 7 => 6
  | 2 => 6
  | _ => 7

/-- A command on an open Lantern channel: BAD_CHANNEL, BAD_ARG, NOT_OPEN, CHANNEL_BUSY, or its effect. -/
def State.lanternChan (s : State) (ok : Bool) (f : State → Nat → Chan → State × Nat × List Nat) : State × Nat × List Nat :=
  let n := s.lnArg 0
  if n > 239 then (s, 2, [])
  else if ok = false then (s, 3, [])
  else match s.chan n with
    | none => (s, 5, [])
    | some c => if c.lantern = false then (s, 5, []) else if c.st = .closing then (s, 4, []) else f s n c

/-! ## The commands (R500-R504) -/

/-- Echo tails of the forerunner. -/
def lanternTail (v : Nat) : Bool := v = 16 || v = 32 || v = 64

/-- CH_OPEN: the native open, its parameters, then the slot entry, without which the open is undone. -/
def State.lanternOpen (s : State) : State × Nat × List Nat :=
  let n := s.lnArg 0
  let law := s.lnArg 3
  let r := basicReq n 1 false 2 0 (n % 40) true
  if n > 239 then (s, 2, [])
  else if s.lnArg 1 > 15 ∨ s.lnArg 2 > 511 ∨ law > 1 ∨ lanternTail (s.lnArg 4) = false ∨ basicOk r = false then (s, 3, [])
  else match s.openChecks r with
    | .error e => (s, lanternResult e, [])
    | .ok (home, ctx) =>
      let v := n + law * 2 ^ 13 + 2 ^ 15 + 2 ^ 16
      if s.slotRejects (s.lnArg 1) (s.lnArg 2) v then (s.slotEntryWrite (s.lnArg 1) (s.lnArg 2) v, 3, [])
      else
        let s' := s.openChannel r home ctx
        match s'.chan n with
        | none => (s', 7, [])
        | some c =>
          let pt := if law = 0 then 8 else 0
          let s' := s'.setCtxWord c 40 (setBits (s'.ctxWord c 40) 0 8 (s.lnArg 4))
          let s' := s'.setCtxWord c 47 (pt + pt * 2 ^ 8)
          (s'.slotEntryWrite (s.lnArg 1) (s.lnArg 2) v, 0, [home])

/-- The header of a template with another destination address and UDP ports. -/
def protoFilled (w : List Nat) (remote rport lport : Nat) : List Nat :=
  let h := (w.drop 2).flatMap (leBytes 4)
  let ip := ipStart h
  let h := put16 (put16 (put16 (put16 h (ip + 16) (remote / 65536)) (ip + 18) (remote % 65536)) (ip + 20) lport) (ip + 22) rport
  w.take 2 ++ leWords h

/-- The source address of a template's IPv4 header. -/
def protoSource (w : List Nat) : Nat :=
  let h := (w.drop 2).flatMap (leBytes 4)
  beNat (slice h (ipStart h + 12) 4)

/-- Deletes every flow entry of a channel. -/
def State.dropFlows (s : State) (n : Nat) : State :=
  (List.range 4096).foldl (fun s b => (s.ftEntries b).foldl (fun s i =>
    let w := s.ftWords b i
    if bits (nth w 10) 0 13 = n then ((s.ftDel b i).setFld F.HP_FT_STAT_ENTRIES (s.fld F.HP_FT_STAT_ENTRIES - 1)).mirrorFlow false w else s) s) s

/-- CH_SET_IP: a template for each port that holds the role of the plane, and the flow entry. -/
def State.lanternSetIp (s : State) (n : Nat) : State × Nat × List Nat :=
  let remote := s.lnArg 1 * 65536 + s.lnArg 2
  let plane := s.lnArg 5 % 2
  let ports := (List.range 4).filter fun p => bit (s.fld (F.EP_CTRL_ROLES p)) plane
  match ports with
  | [] => (s, 7, [])
  | p0 :: _ =>
    match (ports.flatMap s.tablePages).find? fun g => (s.physPage g).isNone with
    | some g => (s.unmappedEvent g, lanternResult 8, [])
    | none =>
      let src := protoSource (s.template p0 plane 16383)
      let s := ports.foldl (fun s p => s.writeTemplate p (2 * n) (protoFilled (s.template p plane 16383) remote (s.lnArg 3) (s.lnArg 4))) s
      let w := [1, src, 0, 0, 0, remote, 0, 0, 0, s.lnArg 4 + s.lnArg 3 * 65536, n + 15 * 2 ^ 16, 16383]
      let r := (s.dropFlows n).ftInsert w
      (if r.2.1 = 0 then r.1.mirrorFlow true w else r.1, lanternResult r.2.1, [])

/-- A gain code as tenths of a dB (R501). -/
def gainOf (code : Nat) : Nat := unsgn 12 ((code - 24 : Int) * 5)

/-- CH_STATS. -/
def State.lanternStats (s : State) (n : Nat) (c : Chan) : State × Nat × List Nat :=
  let v := (List.range 4).map (nth c.stats)
  (if s.lnArg 1 = 1 then s.setChan n { c with stats := [] } else s, 0, v)

/-- EVT_READ. -/
def State.lanternEvent (s : State) : State × Nat × List Nat :=
  match s.ln.fifo with
  | [] => (s, 8, [])
  | e :: r => ({ s with ln := { s.ln with fifo := r } }, 0, [e.1, e.2.1, e.2.2, r.length])

/-! ## The rows -/

/-- NOP. -/
def execMailboxNop (s : State) : Host.Outcome State Fault Refusal := .next (s.mailbox 0x00 fun s => (s, 0, []))

/-- GET_VERSION. -/
def execGetVersion (s : State) : Host.Outcome State Fault Refusal :=
  .next (s.mailbox 0x01 fun s => (s, 0, [0x0240, (s.romRead 0 0).toNat / 65536, (s.romRead 0 0).toNat % 65536]))

/-- CH_OPEN. -/
def execLanternChOpen (s : State) : Host.Outcome State Fault Refusal := .next (s.mailbox 0x10 State.lanternOpen)

/-- CH_CLOSE: completes when the channel is gone. -/
def execLanternChClose (s : State) : Host.Outcome State Fault Refusal :=
  .next (s.mailbox 0x11 fun s => s.lanternChan true fun s n _ => (s.beginClose n none, 0, []))

/-- CH_SET_IP. -/
def execChSetIp (s : State) : Host.Outcome State Fault Refusal :=
  .next (s.mailbox 0x12 fun s => s.lanternChan (s.lnArg 5 < 4) fun s n _ => s.lanternSetIp n)

/-- CH_GAIN. -/
def execChGain (s : State) : Host.Outcome State Fault Refusal :=
  .next (s.mailbox 0x13 fun s => s.lanternChan (decide (s.lnArg 1 ≤ 48) && decide (s.lnArg 2 ≤ 48)) fun s _ c =>
    (s.setCtxWord c 42 (gainOf (s.lnArg 1) + gainOf (s.lnArg 2) * 2 ^ 16), 0, []))

/-- CH_EC. -/
def execChEc (s : State) : Host.Outcome State Fault Refusal :=
  .next (s.mailbox 0x14 fun s => s.lanternChan (lanternTail (s.lnArg 1) && decide (s.lnArg 2 < 2)) fun s _ c =>
    (s.setCtxWord c 40 (setBits (setBits (s.ctxWord c 40) 0 8 (s.lnArg 1)) 8 2 (2 * s.lnArg 2)), 0, []))

/-- CH_STATS. -/
def execChStats (s : State) : Host.Outcome State Fault Refusal :=
  .next (s.mailbox 0x15 fun s => s.lanternChan (s.lnArg 1 < 2) State.lanternStats)

/-- EVT_READ. -/
def execEvtRead (s : State) : Host.Outcome State Fault Refusal := .next (s.mailbox 0x20 State.lanternEvent)

/-- MAILBOX_COMPLETION. -/
def execMailboxCompletion (s : State) : Host.Outcome State Fault Refusal :=
  .next (if s.mailboxDue then
      let s := s.mailboxFinish
      if s.flag F.LN_EVENT_IRQ_DONE_EN then s.sendMsix 0 else s
    else s)

/-- LN_MBX_STAT as it reads. -/
def State.mailboxStat (s : State) : Nat :=
  if s.mode ≠ 7 then 0
  else s.fld F.LN_MBX_STAT_RESULT + s.fld F.LN_MBX_STAT_OPCODE * 2 ^ 8 + s.fld F.LN_MBX_STAT_DONE * 2 ^ 14 + s.fld F.LN_MBX_STAT_BUSY * 2 ^ 15

/-- A read of LN_MBX_STAT clears the DONE that it returns (R498). -/
def State.mailboxStatRead (s : State) : State :=
  let v := s.mailboxStat
  let s' : State := { s with lastRead := v }
  if bit v 14 then s'.setFlag F.LN_MBX_STAT_DONE false else s'

/-- LN_MBX_STAT_READ. -/
def execLnMbxStatRead (s : State) : Host.Outcome State Fault Refusal := .next s.mailboxStatRead

/-- A write of an opcode to LN_MBX_CMD, reserved ones included. -/
def State.mailboxWrite (s : State) (op : Nat) : State :=
  let go (o : Host.Outcome State Fault Refusal) : State := match o with
    | .next t => t
    | _ => s
  match op with
  | 0x00 => go (execMailboxNop s)
  | 0x01 => go (execGetVersion s)
  | 0x10 => go (execLanternChOpen s)
  | 0x11 => go (execLanternChClose s)
  | 0x12 => go (execChSetIp s)
  | 0x13 => go (execChGain s)
  | 0x14 => go (execChEc s)
  | 0x15 => go (execChStats s)
  | 0x20 => go (execEvtRead s)
  | _ => s.mailbox op fun s => (s, 1, [])

end Sys2Proof.Machine
end

