-- ==== Sys2Proof/Machine/Management.lean ====
section
/-! DEFINITION. The commands of the management port (R269-R282). -/
namespace Sys2Proof.Machine

/-! ## Messages (R276-R278) -/

/-- Rejects a message: one WARN event for the first from each source in each second (R277). -/
def State.mgReject (s : State) (src : Nat) : State :=
  let s := (s.mgCount 2).setFlag F.MG_EVENT_MSG_REJECT true
  let sec := s.elapsed / 1000000000 + 1
  if mget 0 s.mg.rejects src = sec then s
  else (s.setMg { s.mg with rejects := mput s.mg.rejects src sec }).raise .warn 0x0A 0 (0x0100 + F.MG_EVENT_MSG_REJECT.lo) src 0 0

/-- Blanking by message begins or ends (R278), and the LMU follows (R346). -/
def State.mgBlank (s : State) (on : Bool) : State :=
  let s := s.setFlag F.MG_STATUS_BLANKING on
  s.blankFollow (s.blankNow on)

/-- A BLANK interval that has begun and not ended starts; one that has ended stops. -/
def State.blankAct (s : State) : State :=
  match s.mg.blank with
  | none => s
  | some (a, b) =>
    if b ≤ s.nowNs then (s.setMg { s.mg with blank := none }).mgBlank false
    else if a ≤ s.nowNs ∧ s.flag F.MG_STATUS_BLANKING = false then s.mgBlank true
    else s

/-- Accepted SYNC messages whose AT has come request a synchronising reset (R278, R325). -/
def State.syncAct (s : State) : State :=
  if s.mg.syncAt.any (· ≤ s.nowNs) then
    (s.setMg { s.mg with syncAt := s.mg.syncAt.filter (· > s.nowNs) }).syncRequest s.nowNs 2
  else s

/-- The action of an accepted message (R278). -/
def State.mgAct (s : State) (type src dst at_ arg : Nat) (all : Bool) : State :=
  match type with
  | 1 =>
    if s.flag F.MG_MSG_CFG_SYNC_EN ∧ s.mg.lastSync ≠ some at_ then
      ((s.setMg { s.mg with lastSync := some at_, syncAt := at_ :: s.mg.syncAt }).setFlag F.MG_EVENT_SYNC_RX true).syncAct
    else s
  | 2 =>
    if s.flag F.MG_MSG_CFG_BLANK_EN ∧ s.mg.lastBlank ≠ some at_ then
      let x := match s.mg.blank, arg with
        | some (a, _), 0 => some (a, at_)
        | none, 0 => none
        | _, n => some (at_, at_ + n * 1000)
      ((s.setMg { s.mg with lastBlank := some at_, blank := x }).setFlag F.MG_EVENT_BLANK_RX true).blankAct
    else s
  | 3 =>
    if s.flag F.MG_CTRL_FENCE_EN then
      (let s : State := { s with tw := { s.tw with mgFence := s.tw.mgFence ++ [src] } }
       let s := (s.twCount 23 1).event F.MG_EVENT_FENCED .warn 0 src 0 0
       s.fenced)
    else s
  | _ =>
    if all = false ∧ dst = s.fld F.TW_ID_DEV_ID then
      (match s.slotOf src with
       | some i => s.confirmFence i 2
       | none => s)
    else s

/-- A message frame: the checks of R277, MG_MSG_STAT, and the action. `m` is its payload. -/
def State.mgMessageIn (s : State) (m : List Byte) (tagOk : Bool) : State :=
  let b (i n : Nat) : Nat := beNat (slice m i n)
  let type := b 1 1
  let all := bit (b 2 1) 0
  let src := b 4 2 % 16384
  let dst := b 6 2 % 16384
  let at_ := b 12 8
  let now := s.nowNs
  let win := s.fld F.MG_MSG_CFG_WINDOW_MS * 1000000
  let zeros := b 2 1 < 2 && b 4 2 < 16384 && b 6 2 < 16384 && b 24 8 = 0
  let ours := all || dst = s.fld F.TW_ID_DEV_ID
  let cur := s.fld F.TW_EPOCH_CUR
  let epoch := b 3 1 = cur || (b 3 1 + 1) % 256 = cur
  let near := at_ ≤ now + win && now ≤ at_ + win
  let fenceOk := type ≠ 3 || (s.flag F.TW_TWIN_EN && s.fld F.TW_TWIN_TWIN = src)
  if m.length ≥ 48 && b 0 1 = 1 && 1 ≤ type && type ≤ 4 && zeros && ours && epoch && tagOk && near && fenceOk then
    let s := ((s.setFld F.MG_MSG_STAT_LAST_SRC src).setFld F.MG_MSG_STAT_LAST_TYPE type).setFlag F.MG_MSG_STAT_LAST_LATE (at_ < now)
    s.mgAct type src dst at_ (b 20 4) all
  else s.mgReject src

/-! ## Wake (R281) -/

/-- A wake cause in THERMOS: it is recorded, and the first begins the exit (R478). -/
def State.wake (s : State) : State :=
  let s := s.setFlag F.MG_EVENT_WAKE true
  if s.gl.exitAt.isSome then s
  else
    let w := s.fld F.PW_CTRL_WAKE_MODE
    let s : State := { s with gl := { s.gl with exitAt := some s.elapsed } }
    s.trigger (if w = 15 then s.fld F.GL_MODE_RETURN else w)

/-- Word `w` of wake pattern `i`. -/
def State.wakeWord (s : State) (i w : Nat) : Nat := mget 0 s.mg.wake (32 * i + w)

/-- A frame that the detector examines. -/
def State.wakeFrame (s : State) (l : List Byte) : State :=
  let hit (i : Nat) : Bool := bit (s.fld F.MG_WAKE_CFG_PAT_EN) i && (List.range 64).all fun j =>
    let m := bit (s.wakeWord i (16 + j / 32)) (j % 32)
    !m || (l.getD j 0).toNat = bits (s.wakeWord i (j / 4)) (8 * (j % 4)) 8
  let hits := (List.range 4).foldl (fun acc i => acc + b2n (hit i) * 2 ^ i) 0
  let m := l.drop 14
  let b (i n : Nat) : Nat := beNat (slice m i n)
  let direct := s.flag F.MG_WAKE_CFG_DIRECT_EN && get16 l 12 = 0x88B5 && b 0 1 = 1 && b 1 1 = 5
    && (bit (b 2 1) 0 || b 6 2 % 16384 = s.fld F.TW_ID_DEV_ID) && b 20 4 % 65536 = s.fld F.MG_WAKE_CFG_CODE
  let s := s.setFld F.MG_WAKE_STAT_PAT_HIT (s.fld F.MG_WAKE_STAT_PAT_HIT ||| hits)
  let s := if direct ∧ s.flag F.MG_WAKE_STAT_DIRECT = false then
      (s.setFlag F.MG_WAKE_STAT_DIRECT true).setFld F.MG_WAKE_STAT_SRC (b 4 2) else s
  if hits ≠ 0 ∨ direct then s.wake else s

/-! ## Reception (R274) -/

/-- The bucket of MG_RATE at the present time, in units of 10⁻⁹ frame. -/
def State.bucketNow (s : State) : Nat :=
  min (s.fld F.MG_RATE_BURST * 1000000000) (s.mg.bucket + (s.elapsed - s.mg.filled) * s.fld F.MG_RATE_RATE)

/-- Steps 5 and 6: the bucket, then host software. -/
def State.mgToHost (s : State) (l : List Byte) : State :=
  let limited := s.fld F.MG_RATE_RATE ≠ 0
  let b := s.bucketNow
  if limited ∧ b < 1000000000 then
    ((s.setMg { s.mg with bucket := b, filled := s.elapsed }).mgCount 1).setFlag F.MG_EVENT_RATE_DROP true
  else
    let s := if limited then s.setMg { s.mg with bucket := b - 1000000000, filled := s.elapsed } else s
    let h := s.hostDeliver 4 [l.length % 16384, 2, 0, 0, 0, 0, 0, 0] l
    if h.2 then h.1 else s.mgCount 1

/-- A received frame passes the steps of R274. -/
def State.mgReceive (s : State) (l : List Byte) (rxErr tagOk : Bool) : State :=
  let body := l.take (l.length - 4)
  let fcsBad := leNat (l.drop (l.length - 4)) ≠ (crc32 0xEDB88320 body).toNat
  if l.length < 64 ∨ l.length > 1522 ∨ fcsBad ∨ rxErr then s.mgCount 0
  else
    let da := beNat (l.take 6)
    let sa := beNat (slice l 6 6)
    let own := s.flag F.MG_ADDR_HI_VALID && da = s.mgAddr
    if !(own || da = 2 ^ 48 - 1 || (bit (l.getD 0 0).toNat 0 && s.flag F.MG_MAC_CFG_MCAST_EN)) then s
    else
      let match_ := (List.range 16).any fun i => s.flag (F.MG_SRCF_HI_VALID i)
        && s.fld (F.MG_SRCF_HI_ADDR_HI i) * 2 ^ 32 + s.fld (F.MG_SRCF_LO_ADDR_LO i) = sa
      if match_ ≠ s.flag F.MG_CTRL_SRCF_MODE then s.mgCount 1
      else if get16 l 12 = 0x88B5 ∧ s.flag F.MG_CTRL_MSG_EN then s.mgMessageIn (body.drop 14) tagOk
      else s.mgToHost l

/-- MG_FRAME_RECEIVED: a whole frame (R274); in THERMOS the wake detector examines it (R281). `rxErr`: MG_RX_ER within it;
`own`: it is the port's own transmission; `tagOk`: the tag of a message verifies. -/
def execMgFrameReceived (frame : List Byte) (rxErr own tagOk : Bool) (s : State) : Host.Outcome State Fault Refusal :=
  if s.mode = 9 then
    let good := 64 ≤ frame.length && frame.length ≤ 1522 && !rxErr
      && leNat (frame.drop (frame.length - 4)) = (crc32 0xEDB88320 (frame.take (frame.length - 4))).toNat
    .next (if good ∧ own = false then s.wakeFrame frame else s)
  else .next (if s.flag F.MG_CTRL_EN ∧ own = false ∧ s.mode ≠ 0 then s.mgReceive frame rxErr tagOk else s)

/-- SYNC_MESSAGE_ACT (R278). -/
def execSyncMessageAct (s : State) : Host.Outcome State Fault Refusal := .next s.syncAct

/-- BLANK_INTERVAL_START (R278). -/
def execBlankIntervalStart (s : State) : Host.Outcome State Fault Refusal :=
  .next (match s.mg.blank with
    | some (a, b) => if a ≤ s.nowNs ∧ s.nowNs < b ∧ s.flag F.MG_STATUS_BLANKING = false then s.mgBlank true else s
    | none => s)

/-- BLANK_INTERVAL_END (R278). -/
def execBlankIntervalEnd (s : State) : Host.Outcome State Fault Refusal :=
  .next (match s.mg.blank with
    | some (_, b) => if b ≤ s.nowNs then (s.setMg { s.mg with blank := none }).mgBlank false else s
    | none => s)

/-! ## Transmission (R271-R273) -/

/-- The head of the queue may be sent now: enabled, live, no listen-only, no carrier, no back-off (R271, R280, R492). -/
def State.mgMaySend (s : State) : Bool :=
  s.flag F.MG_CTRL_EN && s.flag F.GL_STATUS_LIVE && !s.listenOnly && !s.flag F.MG_STATUS_JABBER && s.mg.started.isNone
    && s.mg.backoff.isNone && s.mode ≠ 0 && s.mode ≠ 9

/-- A frame has waited longer than TX_TMO_MS (R271). -/
def State.mgLate (s : State) (f : MgFrame) : Bool := s.elapsed > f.since + s.fld F.MG_MAC_CFG_TX_TMO_MS * 1000000

/-- MG_TRANSMIT_ATTEMPT: after deferral and gap, or in its transmit opportunity, the port starts the head frame (R271, R273). -/
def execMgTransmitAttempt (s : State) : Host.Outcome State Fault Refusal :=
  .next (match s.mg.queue with
    | [] => s
    | f :: _ =>
      if s.mgMaySend = false then s
      else if s.mgLate f then s.mgEnd 11
      else s.setMg { s.mg with started := some s.elapsed })

/-- MG_COLLISION: MG_COL rises after `sent` bit times, preamble included (R271). -/
def execMgCollision (sent : Nat) (s : State) : Host.Outcome State Fault Refusal :=
  if s.mg.started = none then .next s
  else
    let s := s.mgCount 3
    if sent > 512 then .next (((s.mgCount 5).event F.MG_EVENT_LATE_COL .warn 0 0 0 0).mgEnd 0x40)
    else
      let n := s.mg.collisions + 1
      if n = 16 then .next (((s.mgCount 4).event F.MG_EVENT_EXCESS_COL .warn 0 0 0 0).mgEnd 0x41)
      else
        let k := min n 10
        let r := (Config.mgRandom s.freeCtr).toNat % 2 ^ k
        let s : State := { s with freeCtr := s.freeCtr + 1 }
        .next (s.setMg { s.mg with started := none, collisions := n, backoff := some (s.elapsed + r * 51200) })

/-- BACKOFF_END (R271). -/
def execBackoffEnd (s : State) : Host.Outcome State Fault Refusal :=
  .next (match s.mg.backoff with
    | some t => if t ≤ s.elapsed then s.setMg { s.mg with backoff := none } else s
    | none => s)

/-- MG_TRANSMIT_END: the frame has been sent (R272). -/
def execMgTransmitEnd (s : State) : Host.Outcome State Fault Refusal :=
  .next (match s.mg.started, s.mg.queue with
    | some _, f :: _ => (s.emit (.mgFrame (f.bytes ++ leBytes 4 (crc32 0xEDB88320 f.bytes).toNat) true)).mgEnd 0
    | _, _ => s)

/-- MG_TX_TIMEOUT: frame `n` of the queue has waited longer than TX_TMO_MS (R271, R272). -/
def execMgTxTimeout (n : Fin 16) (s : State) : Host.Outcome State Fault Refusal :=
  .next (match s.mg.queue[n.val]? with
    | none => s
    | some f =>
      if s.mgLate f = false ∨ (n.val = 0 ∧ s.mg.started.isSome) then s
      else if n.val = 0 then s.mgEnd 11
      else (((s.setMg { s.mg with queue := s.mg.queue.eraseIdx n.val }).mgDepth).mgCount 7).completeOpt f.origin 11 0 [])

/-- JABBER: MG_CRS has stayed high for JAB_MS (R275). -/
def execJabber (s : State) : Host.Outcome State Fault Refusal :=
  .next (if s.flag F.MG_STATUS_JABBER then s
    else ((s.setFlag F.MG_STATUS_JABBER true).mgCount 6).event F.MG_EVENT_JABBER .warn 0 0 0 0)

/-- JABBER_CLEAR: 96 bit times after MG_CRS fell (R275). -/
def execJabberClear (s : State) : Host.Outcome State Fault Refusal := .next (s.setFlag F.MG_STATUS_JABBER false)

/-- OWN_JABBER: the port's own MG_TX_EN would stay high for more than 2 ms; it is forced low (R275). -/
def execOwnJabber (s : State) : Host.Outcome State Fault Refusal :=
  .next (if s.mg.started.isSome then (s.mgEnd 0x40).raise .warn 0x0A 0 0x0180 0 0 0 else s)

/-- Takes MG_PLCA into force. -/
def State.plcaApply (s : State) : State :=
  let v := s.fld F.MG_PLCA_NODE_ID + s.fld F.MG_PLCA_NODE_CNT * 2 ^ 8 + s.fld F.MG_PLCA_TO_TIMER * 2 ^ 16
    + s.fld F.MG_PLCA_BURST_CNT * 2 ^ 24
  s.setMg { s.mg with plca := v }

/-- PLCA_BEACON_LOSS: R271 governs until BEACONs return (R273); a waiting write of MG_PLCA then acts. -/
def execPlcaBeaconLoss (s : State) : Host.Outcome State Fault Refusal :=
  .next (if s.flag F.MG_STATUS_PLCA_ACTIVE then (s.setFlag F.MG_STATUS_PLCA_ACTIVE false).plcaApply else s)

/-- BEACON: a BEACON is seen (R273): PLCA is active where it is enabled, and a write of MG_PLCA takes effect. -/
def execBeacon (s : State) : Host.Outcome State Fault Refusal :=
  let s := s.plcaApply
  .next (if s.flag F.MG_CTRL_PLCA_EN ∧ s.fld F.MG_PLCA_NODE_ID ≠ 255 then s.setFlag F.MG_STATUS_PLCA_ACTIVE true else s)

/-- LISTEN_END (R280). -/
def execListenEnd (s : State) : Host.Outcome State Fault Refusal := .next (if s.mg.listenUntil ≤ s.elapsed then s.endListen else s)

/-- MG_LISTEN_END_WRITE: a write of 1 to MG_LISTEN.END (R280). -/
def execMgListenEndWrite (s : State) : Host.Outcome State Fault Refusal := .next s.endListen

/-- WAKE_PIN: the WAKE pin rises in THERMOS (R281). -/
def execWakePin (s : State) : Host.Outcome State Fault Refusal :=
  .next (if s.mode = 9 ∧ s.flag F.MG_WAKE_CFG_PIN_EN then (s.setFlag F.MG_WAKE_STAT_PIN true).wake else s)

end Sys2Proof.Machine
end

