-- ==== Sys2Proof/Machine/Resets.lean ====
section
/-! DEFINITION. Resets of the device (R480, R481, R486, R491) and what each block's reset table leaves (R67, R106, R178, R211,
R267, R282, R306, R335, R354, R372, R404, R438, R467, R506). -/
namespace Sys2Proof.Machine

/-! ## Register fields (R18) -/

/-- The access code of a stored field. -/
def keyAcc (k : Nat) : Option Acc :=
  (fieldsAt (k / 32 * 4)).bind fun l => (l.find? fun x => x.f.lo = k % 32).map (·.acc)

def keyRws (k : Nat) : Bool := keyAcc k = some Acc.rws

/-- A field that the configuration shadow of R477 takes. -/
def keyShadowed (k : Nat) : Bool := keyAcc k = some Acc.rws || keyAcc k = some Acc.rw

/-- Returns the fields of an address range that are not RWS to their reset values. -/
def State.rstButRws (s : State) (lo hi : Nat) : State := s.rstRegion lo hi keyRws

/-! ## The blocks at a GL_RESET -/

/-- Completes commands whose work the reset ended; their rings are disabled, so the completions are discarded (R404). -/
def State.discard (s : State) (l : List (Option Origin)) : State := l.foldl (fun s o => s.completeOpt o 6 0 []) s

/-- Drops the jobs that a test picks, without completion; the control commands that waited for them are answered. -/
def State.abandon (s : State) (p : Job → Bool) : State :=
  let gone := s.hi.jobs.filter p
  let s : State := { s with hi := { s.hi with jobs := s.hi.jobs.filter fun j => !p j } }
  gone.foldl (fun s j => s.discard ((j.suspenders ++ j.cancellers).map some)) s

/-- Trailhead (R178): everything but the graph state and NEXT of each flow is emptied; nodes are aborted without replay. -/
def State.warmTrail (s : State) : State :=
  let waits := s.th.cancels.map fun w => some w.origin
  let s := (List.range s.coreCount).foldl (fun s k => s.abortRun k) s
  let flows := s.th.flows.map fun e => (e.1, { Flow.init with next := e.2.next, moved := s.elapsed })
  let s : State := { s with
    th := { State.reset.th with nextId := s.th.nextId, nextDisp := s.th.nextDisp, flows := flows }
    cores := [] }
  let s := (s.chans.map (·.1)).foldl (fun s n =>
    match s.chan n with
    | some c => s.setChan n { c with mediaDue := none, tombs := [], inFlight := 0, tomb := c.tomb && c.st ≠ .closing }
    | none => s) s
  (s.rstRegion 0x30000 0x40000 fun _ => false).discard waits

/-- The cores (R106, R107): retirements and the mapping stay. -/
def State.warmCores (s : State) : State :=
  let s := s.rstRegion 0x400000 0x2000000 fun k => keyRws k || (k / 32 * 4 % 0x1000 = 4 && (k % 32 = 0 || k % 32 = 8 || k % 32 = 15))
  (List.range s.coreCount).foldl (fun s k => if s.fld (F.CO_STATUS_STATE k) = 3 then s.setFld (F.CO_STATUS_STATE k) 1 else s) s

/-- The cluster registers (R513) and memories: CSM, CPS and patch maps stay. -/
def State.warmClusters (s : State) : State :=
  let s : State := { s with mem := { s.mem with logged := [] } }
  let s := s.rstRegion 0x200000 0x400000 fun _ => false
  (List.range s.clusters).foldl (fun s c =>
    let st := s.fld (F.PW_CL_STATE c)
    (s.setFld (F.PW_CL_STATE c) (if s.clusterIn c = false ∨ st = 0 ∨ st = 5 ∨ st = 6 then 0 else 1)).setFld (F.PW_CL_UNGATED c) 9) s

/-- Hamper (R211): moves are abandoned and their destinations return to the pool; a page held for a repair is given up. -/
def State.warmHamper (s : State) : State :=
  let waits := s.hp.moves.map (·.origin) ++ s.hp.remote.map (·.origin)
  let s : State := { s with hp := { s.hp with
    pool := s.hp.pool ++ s.hp.moves.map (·.dst)
    heldPages := []
    moves := []
    wins := []
    remote := []
    wayFails := []
    ceTimes := []
    moved := [] } }
  let kept := F.HP_CACHE_WAYS_FAILED.key :: (List.range 16).flatMap fun i =>
    [(F.HP_PC_STAT_LANES_REMAPPED i).key, (F.HP_PC_STAT_LANES_LEFT i).key, (F.HP_PC_STAT_PPR_LEFT i).key, (F.HP_PC_STAT_TRAINED i).key]
  (s.rstRegion 0x40000 0x50000 fun k => keyRws k || kept.contains k).discard waits

/-- Every frame of a packet port is discarded with BAD_STATE. -/
def State.dropFrames (s : State) (p : Nat) : State :=
  let s := match (s.port p).cur with
    | some o => (s.setPort p { s.port p with cur := none }).txDone p o.f 6 false 0 none
    | none => s
  s.flushPort p fun _ => true

/-- The packet ports (R267): links retrain; templates and contexts stay. -/
def State.warmPorts (s : State) : State :=
  let s := (List.range 4).foldl (fun s p => s.dropFrames p) s
  let waits := (List.range 4).map fun p => (s.port p).resetBy
  let s : State := { s with ep := { s.ep with port := [] } }
  (s.rstButRws 0x100000 0x200000).discard waits

/-- The management port (R282): wake patterns and MG_WAKE_STAT stay; no listen-only. -/
def State.warmMgmt (s : State) : State :=
  let s := s.mgFlush 6
  let s := s.rstRegion 0xA0000 0xB0000 fun k => keyRws k || k / 32 * 4 = R.MG_WAKE_STAT
  (s.setMg { State.reset.mg with wake := s.mg.wake, filled := s.elapsed, listenUntil := s.elapsed }).setFlag F.MG_STATUS_LISTEN_ONLY false

/-- The highways and the bitstream ports (R306, R335): slot table and coefficients stay. -/
def State.warmMedia (s : State) : State :=
  let waits := s.bs.group.flatMap fun e => [e.2.fade, e.2.queued].map fun f => f.bind (·.origin)
  let s : State := { s with td := { s.td with hw := [], acc := [], play := [] }, bs := { State.reset.bs with coef := s.bs.coef } }
  ((s.rstButRws 0xB0000 0xC0000).rstButRws 0xC0000 0xD0000).discard waits

/-- The LMU (R354): the Stile opens, the relays are released; a sweep ends without completion. -/
def State.warmLmu (s : State) : State :=
  let pin := s.lm.blankPin
  let s := s.setRelays 0
  let s : State := { s with lm := { State.reset.lm with blankPin := pin } }
  (s.rstRegion 0xD0000 0xE0000 fun _ => false).abandon fun j => j.op = 0x64 && j.st ≠ .held

/-- Rucksack (R372): jobs are abandoned; quarantine and retirement stay. -/
def State.warmRucksack (s : State) : State :=
  let kept := (List.range 4).flatMap fun e => [(F.RK_ENG_STATE e).key, (F.RK_ENG_QUARANTINES e).key]
  let s : State := { s with rk := { State.reset.rk with conts := s.rk.conts } }
  let s := s.rstRegion 0x80000 0x90000 fun k => keyRws k || kept.contains k
  let s := (List.range 4).foldl (fun s e => if s.fld (F.RK_ENG_STATE e) = 1 then s.setFld (F.RK_ENG_STATE e) 0 else s) s
  s.abandon fun j => j.op = 0x67 && j.st ≠ .held

/-- The fabric (R438): keys and link records stay, links are PROBING, slots SYNCING; an ACTING slot stays. -/
def State.warmFabric (s : State) : State :=
  let link := s.tw.link.map fun e => (e.1, { Link.init with
    words := e.2.words, state := if e.2.en then 1 else 0, txc := e.2.txc, rxCur := e.2.rxCur, rxPrev := e.2.rxPrev,
    heard := s.elapsed, ackAt := s.elapsed })
  let st := (List.range 4).map s.slotState
  let acting := s.actSlot.filter fun i => nth st i = 5
  let kept := [F.TW_EPOCH_CUR.key, F.TW_STATUS_KEY_NEXT.key]
  let s : State := { s with tw := { s.tw with
    link := link, notes := [], noteSent := s.tw.noteNext, mgFence := [], fabFence := [], evacLink := none,
    installed := if acting.isSome then s.tw.installed else none
    slot := s.tw.slot.filter fun e => acting = some e.1 } }
  let s := s.rstRegion 0x90000 0xA0000 fun k => keyRws k || kept.contains k
  let s := (List.range 4).foldl (fun s i =>
    if nth st i = 0 then s else s.setSlotState i (if acting = some i then 5 else 1)) s
  match acting with
  | some i => s.setFld F.TW_STATUS_ACT_SLOT i
  | none => s

/-- The supervisor (R67): every field at its reset value; the aging journal stays. -/
def State.warmSupervisor (s : State) : State :=
  let s : State := { s with st := { State.reset.st with journal := s.st.journal } }
  s.rstRegion 0x10000 0x20000 fun _ => false

/-- Reliability (R467): a retirement that passed its step 3 stands; jobs end without completion; waiting reports are lost. -/
def State.warmRel (s : State) : State :=
  let s := (s.rl.retire.filter fun r => r.step = 2).foldl (fun s r => s.noteRetired (r.core / 9) r.spare) s
  let keep := [F.RL_FIRST_CTRL_VALID, F.RL_FIRST_CTRL_LATER, F.RL_LIFE_COUNT, F.RL_EQUIV_COUNT, F.RL_SPARES_SPARE_FREE,
    F.RL_SPARES_CL_IN_SERVICE].map Fld.key ++ (List.range 8).map fun i => (F.RL_FIRST_WORD i).key
  let repair (k : Nat) : Bool := (List.range 16).any fun c => k / 32 * 4 = R.RL_CL_REPAIR c
  let gone := s.rl.fifo
  let s : State := { s with rl := ⟨[], [], []⟩ }
  let s := s.rstRegion 0x60000 0x70000 fun k => keyRws k || keep.contains k || repair k
  let s := gone.foldl (fun s r => s.countLost r.cls r.time) s
  s.abandon fun j => (j.op = 0x61 || j.op = 0x62) && j.st ≠ .held

/-- The mailbox (R506): Lantern channels stay open. -/
def State.warmLantern (s : State) : State := s.mailboxClear

/-- Closes in progress complete during the reset (R481). -/
def State.warmCloses (s : State) : State :=
  let l := s.chans.filter fun e => e.2.st = .closing
  l.foldl (fun s e => (s.removeChan e.1).completeOpt e.2.closer 0 0 []) s

/-- FW_EXCHANGE stops where it is and waits for JOB_RESUME (R486). -/
def State.fwxKept (s : State) : State :=
  match s.gl.fwx with
  | none => s
  | some x =>
    let s : State := { s with gl := { s.gl with fwx := some { x with suspended := true } } }
    let s := (s.setFlag F.PW_STATUS_JOURNAL true).setFlag F.PW_EVENT_JOURNAL_KEPT true
    match s.job x.handle with
    | some j => (s.setJob { j with st := .suspended, suspenders := [], cancellers := [] }).discard ((j.suspenders ++ j.cancellers).map some)
    | none => s

/-- Every block under its own reset table, after the host interface has reset. -/
def State.warmBlocks (s : State) : State :=
  let s := s.warmTrail.warmCores.warmClusters.warmCloses
  let s := s.warmPorts.warmMgmt.warmMedia.warmLmu
  s.warmRucksack.warmFabric.warmSupervisor.warmHamper.warmLantern

/-- A GL_RESET begins (R472, R481): the device stands in HELD. -/
def State.warmReset (s : State) (key : Nat) : State :=
  if key ≠ 0xA5 then s.configRefused R.GL_CTRL 8
  else
    let waits := s.gl.trans.bind (·.origin)
    let s := (List.range 4).foldl (fun s p => s.flushPort p fun f => !f.fenceAnswer) s
    let s := s.hiClear false
    let s := (s.incW F.HI_PCIE_STAT_HOST_RESETS 1).setFlag F.HI_EVENT_HOST_RESET true
    let s : State := { s with gl := { s.gl with
      trans := none, waiting := [], released := false, egressOff := true, warm := true, exitAt := none, closedNow := 0 } }
    let s : State := { s with hi := { s.hi with latch := mkeep (fun k => 0x50000 ≤ k && k < 0x60000) s.hi.latch } }
    let s := (s.completeOpt waits 6 0x47 []).fwxKept.warmBlocks.warmRel
    (s.setFld F.GL_MODE_MODE 0).setFlag F.PW_STATUS_HBM_SR true

/-! ## Cold resets (R480, R491) -/

/-- Straps as sampled at the start (R490): BOOT in bits 1:0, PERST, TEST. -/
def strapped (f : Fuses) (straps : Nat) : Fuses :=
  { f with strapBoot := bits straps 0 2, strapPerst := bit straps 2, strapTest := bit straps 3 }

/-- GL_STATUS.LIVE follows PWR_OK and LIVE_EN. -/
def State.liveFollow (s : State) : State :=
  s.setFlag F.GL_STATUS_LIVE (s.flag F.PW_STATUS_PWR_OK && s.flag F.PW_STATUS_LIVE_EN)

/-- The device in HELD after a cold reset of a cause; what it sent and the commands that wait stand, and so do the levels of pins
and repaired rows. -/
def State.cold (s : State) (cause straps : Nat) (power : Bool) : State :=
  let live := s.flag F.PW_STATUS_LIVE_EN
  let lost := s.gl.fwx.isSome || (s.mode = 0 && s.flag F.PW_EVENT_JOURNAL_LOST)
  let z := State.reset
  let fuse := strapped s.fuse straps
  let n := if fuse.small then 4096 else 8192
  let spares := s.fld F.HP_PAGE_CFG_SPARES
  let r : State := { z with
    fuse := fuse
    elapsed := s.elapsed
    freeCtr := s.freeCtr
    out := s.out
    pending := s.pending
    hp := { z.hp with spares := spares, pool := (List.range spares).map (n - spares + ·), pprUsed := s.hp.pprUsed }
    lm := { z.lm with blankPin := s.lm.blankPin }
    mg := { z.mg with filled := s.elapsed, listenUntil := s.elapsed + 500000000 } }
  let r := (r.setFld F.GL_RESET_CAUSE_LAST cause).setFlag F.PW_EVENT_JOURNAL_LOST lost
  let r := ((r.setFlag F.PW_STATUS_PWR_OK power).setFlag F.PW_STATUS_LIVE_EN live).liveFollow
  let r := r.setFlag F.GL_STATUS_PERST_COLD fuse.strapPerst
  let r := ((r.setFld F.GL_STRAP_BOOT fuse.strapBoot).setFlag F.GL_STRAP_PERST fuse.strapPerst).setFlag F.GL_STRAP_TEST fuse.strapTest
  let r := (r.setFld F.GL_STRAP_SVN_MIN fuse.svnMin).setFlag F.GL_STATUS_SECURE fuse.secure
  if fuse.small then
    ((r.setFld F.RL_SPARES_SPARE_FREE 0xFF).setFld F.RL_SPARES_CL_IN_SERVICE 0xFF).setFld F.GL_ID_PART 0x4096
  else r

/-! ## Self-test and the cores (R105, R106, R491 step 5) -/

/-- Bits 0-8 of a cluster's result: the cores that passed; bit 9 CPS and ROM copy, bit 10 the reference vectors. -/
def State.noteTests (s : State) (tests : List (BitVec 11)) : State :=
  (List.range s.clusters).foldl (fun s c =>
    let t := (tests.getD c 0x3FF).toNat
    s.setSelftest c (bits t 0 9) (bit t 9) (bit t 10)) s

/-- The cores of a cluster enter service after a cold start: logical numbers are filled in order of physical position. -/
def State.placeCores (s : State) (c pass : Nat) : State :=
  let good := (List.range 9).filter fun i => bit pass i
  let s := (List.range 9).foldl (fun s i =>
    let k := 9 * c + i
    match good.findIdx? (· = i) with
    | some j =>
      if j < 8 then ((s.setFld (F.CO_STATUS_STATE k) 1).setFlag (F.CO_STATUS_MAPPED k) true).setFld (F.CO_STATUS_LOGICAL k) (8 * c + j)
      else ((s.setFld (F.CO_STATUS_STATE k) 0).setFlag (F.CO_STATUS_MAPPED k) false).setFld (F.CO_STATUS_LOGICAL k) 0
    | none => ((s.setFld (F.CO_STATUS_STATE k) 2).setFlag (F.CO_STATUS_MAPPED k) false).setFld (F.CO_STATUS_LOGICAL k) 0) s
  let s := if good.length < 9 then s.setFld F.RL_SPARES_SPARE_FREE (setBits (s.fld F.RL_SPARES_SPARE_FREE) c 1 0) else s
  let s := s.setFld (F.RL_CL_REPAIR_RETIRED c) (9 - good.length)
  if good = [] then
    (s.setFld F.RL_SPARES_CL_IN_SERVICE (setBits (s.fld F.RL_SPARES_CL_IN_SERVICE) c 1 0)).setFld (F.PW_CL_STATE c) 0
  else s

def State.coldCores (s : State) (tests : List (BitVec 11)) : State :=
  (List.range s.clusters).foldl (fun s c => s.placeCores c (bits (tests.getD c 0x3FF).toNat 0 9)) s

/-- What HBM training finds (R455): failing lanes per pseudo-channel, of which two can be moved to spares. -/
def State.trained (s : State) (lanes : List Nat) : State :=
  (List.range 16).foldl (fun s i =>
    let n := min 2 (nth lanes i)
    ((s.setFld (F.HP_PC_STAT_LANES_REMAPPED i) n).setFld (F.HP_PC_STAT_LANES_LEFT i) (2 - n)).setFlag (F.HP_PC_STAT_TRAINED i) true) s

/-- BOOT is entered from HELD (R470, R472). -/
def State.enterBoot (s : State) : State :=
  let s : State := { s with gl := { s.gl with egressOff := false, warm := false } }
  let s := ((s.setFld F.GL_MODE_MODE 1).setFld F.GL_MODE_PREV 0).setFlag F.PW_STATUS_HBM_SR false
  s.event F.GL_EVENT_MODE_CHANGE .info 0 0 1 0

end Sys2Proof.Machine
end

