-- ==== Sys2Proof/Machine/Modes.lean ====
section
/-! DEFINITION. Mode changes (R469-R478), resets and start-up (R480-R493). -/
namespace Sys2Proof.Machine

/-! ## The transition table (R470, R471, R473, R488) -/

/-- BOOT may be left (R488). -/
def State.imageOk (s : State) : Bool := s.gl.accepted || (!s.fuse.secure && s.gl.block0)

/-- A TWIN slot stands beyond a state. -/
def State.slotBeyond (s : State) (n : Nat) : Bool := (List.range 4).any fun i => s.slotState i > n

/-- A job is live (R471). -/
def State.jobsLive (s : State) : Bool := s.hi.jobs.any fun j => j.st ≠ .held

/-- The channel has a slot entry or a bitstream mapping that a mode does not serve (R473). -/
def State.mediaUnserved (s : State) (m n : Nat) : Bool :=
  s.td.slots.any (fun e => entChan e.2 = n && (entRx e.2 || entTx e.2) && !servesHwy m (e.1 / 512))
    || (List.range 256).any fun b =>
      (s.flag (F.BS_CH_RX_EN b) || s.flag (F.BS_CH_TX_EN b)) && s.fld (F.BS_CH_CHANNEL b) = n && !servesGroup m (b / 16)

/-- Entry to LANTERN with a native channel below 240, or exit with a Lantern channel (R473). -/
def State.lanternConflict (s : State) (m t : Nat) : Bool :=
  (t = 7 && s.chans.any fun e => e.1 < 240 && !e.2.lantern) || (m = 7 && t ≠ 7 && s.chans.any fun e => e.2.lantern)

/-- DETAIL values of a failed condition, the first that holds; 0 when the change is allowed. -/
def firstOf : List (Bool × Nat) → Nat
  | [] => 0
  | (c, d) :: r => if c then d else firstOf r

/-- The DETAIL with which a change from mode `m` to `t` is refused, or 0 (R470, R471). `FACTORY` without the strap is judged apart. -/
def State.modeDetailFrom (s : State) (m t : Nat) : Nat :=
  let noImage : Bool × Nat := (m = 1 && t ≠ 11 && !s.imageOk, 0x44)
  let open_ : Bool × Nat := (s.chans ≠ [], 0x41)
  let quiet : List (Bool × Nat) := [noImage, open_, (s.jobsLive, 0x43), (s.slotBeyond 0, 0x46)]
  let noId : Bool × Nat := (!s.flag F.TW_ID_VALID, 0x45)
  if t = 10 then (if m = 0 || m = 9 || m = 11 || m = 10 then 0x40 else firstOf [noImage])
  else if (t = 8 || t = 9) && (serviceMode m || m = 6 || m = 1 || m = 5) then firstOf quiet
  else if m = 8 && t = 9 then firstOf quiet
  else if m = 1 then
    (if serviceMode t then firstOf [noImage, (s.lanternConflict m t, 0x48)]
     else if t = 5 then firstOf [noImage, open_, noId]
     else if t = 11 then 0
     else 0x40)
  else if serviceMode m then
    (if serviceMode t then
       firstOf [(s.lanternConflict m t, 0x48), (s.chans.any fun e => s.mediaUnserved t e.1, 0x42)]
     else if t = 6 then 0
     else if t = 1 then firstOf [open_]
     else if t = 5 then firstOf [open_, noId]
     else 0x40)
  else if m = 6 then (if t = 1 then firstOf [open_] else if t = s.fld F.GL_MODE_PREV then 0 else 0x40)
  else if m = 10 then (if t = 1 || t = 5 then 0 else 0x40)
  else if m = 5 then (if t = 1 then firstOf [(s.slotBeyond 2, 0x46)] else 0x40)
  else 0x40

/-- DOZE returns to RETURN, or to any mode allowed from there (R470). -/
def State.modeDetail (s : State) (t : Nat) : Nat :=
  let r := s.fld F.GL_MODE_RETURN
  if s.mode = 8 ∧ t ≠ 9 ∧ t ≠ 10 then
    (if t = r then (if t = 5 && !s.flag F.TW_ID_VALID then 0x45 else 0) else s.modeDetailFrom r t)
  else s.modeDetailFrom s.mode t

/-- MODE_SET past the checks of R388. -/
def State.modeSet (s : State) (t : Nat) (o : Origin) : State :=
  if s.gl.trans.isSome then s.complete o 6 0x49 []
  else if t = s.mode then s.complete o 0 0 []
  else if s.mode = 1 ∧ t = 11 ∧ s.fuse.strapTest = false then (s.setFlag F.GL_EVENT_FACTORY_DENIED true).complete o 12 0 []
  else
    let d := s.modeDetail t
    if d = 0 then s.startTrans t false (some o) else s.complete o 6 d []

/-- MODE_SET. -/
def execModeSet (c : HCmd) (s : State) : Host.Outcome State Fault Refusal :=
  .next (s.command c 0x02 (argMask c [0xF] && decide (arg c 0 < 12)) true none false fun s o => s.modeSet (arg c 0) o)

/-! ## Entering and leaving modes -/

/-- Egress stops (R474): every queued frame but the fence answers is discarded, and a FENCE is acknowledged. -/
def State.stopEgress (s : State) : State :=
  if s.gl.egressOff then s
  else
    let s : State := { s with gl := { s.gl with egressOff := true } }
    let s := (List.range 4).foldl (fun s p => s.flushPort p fun f => !f.fenceAnswer) s
    (s.setFlag F.TW_STATUS_FENCED true).answerFence

/-- EGRESS_STOPPED. -/
def execEgressStopped (s : State) : Host.Outcome State Fault Refusal :=
  .next (match s.gl.trans with
    | some t => if t.target = 10 then s.stopEgress else s
    | none => s)

/-- The clusters are released: each core copies the dispatcher (R145, R491 step 10). -/
def State.releaseClusters (s : State) : State :=
  if s.gl.released then s
  else
    let s : State := { s with gl := { s.gl with released := true } }
    (List.range s.coreCount).foldl (fun s k => s.resetCore k) s

/-- Channels kept from a GL_RESET resume: steps 3 to 5 of R177 for every cluster (R178, R473). -/
def State.resumeChannels (s : State) : State :=
  ((List.range s.clusters).foldl (fun s c => if s.clusterIn c then s.rebuildEntries c else s) s).repost

/-- Open channels are closed without egress and without completion (R470): their number. -/
def State.closeAll (s : State) : State :=
  let l := s.chans.filter fun e => e.2.st ≠ .closing
  let s := l.foldl (fun s e =>
    let s := s.beginClose e.1 none
    match s.chan e.1 with
    | some c => if s.closeDone e.1 c then s.removeChan e.1 else s
    | none => s) s
  { s with gl := { s.gl with closedNow := l.length } }

/-- Leaving ISOLATE: nothing that it held in the queues is sent (R474). -/
def State.leaveIsolate (s : State) (t : Nat) : State :=
  let s := (List.range 4).foldl (fun s p => s.flushPort p fun _ => true) s
  let link := s.tw.link.map fun e => (e.1, { e.2 with queue := [] })
  let s : State := { s with tw := { s.tw with link := link, evacLink := none } }
  let s := s.closeAll
  let s : State := { s with gl := { s.gl with egressOff := false } }
  if t = 5 then s.setFlag F.TW_STATUS_FENCED false else s

/-- DOZE gates every core of a cluster but its lowest-numbered logical one (R475). -/
def State.dozeIn (s : State) : State :=
  let s := (List.range s.clusters).foldl (fun s c =>
    if s.fld (F.PW_CL_STATE c) = 1 then
      let keep := s.dozeCore c
      let s := ((coresOf c).filter fun k => keep ≠ some k).foldl (fun s k => (s.resetAbort k).resetCore k) s
      (s.setFld (F.PW_CL_STATE c) 3).setFld (F.PW_CL_UNGATED c) (b2n keep.isSome)
    else s) s
  s.setFlag F.PW_EVENT_DOZE_ENTRY true

/-- Every gated core is restored from its dispatcher copy. -/
def State.dozeOut (s : State) (since : Nat) : State :=
  let s := (List.range s.clusters).foldl (fun s c =>
    if s.fld (F.PW_CL_STATE c) = 3 then
      let keep := s.dozeCore c
      let s := ((coresOf c).filter fun k => keep ≠ some k).foldl (fun s k => s.resetCore k) s
      (s.setFld (F.PW_CL_STATE c) 1).setFld (F.PW_CL_UNGATED c) 9
    else s) s
  (s.setFlag F.PW_EVENT_DOZE_EXIT true).setFld F.PW_TIMES_DOZE_WAKE_US (min 0xFFF ((s.elapsed - since) / 1000))

/-- THERMOS entry (R476, R477): the command completes, waiting reports are written, the configuration shadow is taken, and every
block outside the Thermos domain is powered down. -/
def State.thermosIn (s : State) (t : Trans) : State :=
  let s := s.completeOpt t.origin 0 0 []
  let s := (List.range 64).foldl (fun s _ => (s.writeReport true).writeReport false) s
  let shadow := mkeep keyShadowed s.regs
  let off := s.flag F.PW_CTRL_VCORE_OFF
  let s := if off then s else s.commandV (s.clipV (s.fld F.ST_VLIMIT_VMIN_MV))
  let s := s.hiClear true
  let s := ((s.setFlag F.HI_PCIE_STAT_LINK_UP false).setFld F.HI_PCIE_STAT_SPEED 0).setFld F.HI_PCIE_STAT_WIDTH 0
  let s := s.warmBlocks.warmRel
  let cp := State.reset.cp
  let s : State := { s with cp := cp, gl := { s.gl with shadow := shadow, exitAt := none, released := false } }
  let s := (s.rstRegion 0x50000 0x60000 fun _ => false).rstRegion R.MG_WAKE_STAT (R.MG_WAKE_STAT + 4) fun _ => false
  let s := (s.setFlag F.PW_STATUS_HBM_SR true).setFlag F.PW_STATUS_VCORE_EN (!off)
  s.setFld F.PW_TIMES_ENTRY_MS (min 255 ((s.elapsed - t.since) / 1000000))

/-- The conditions of a wake's target hold (R478). -/
def State.wakeOk (s : State) (t : Nat) : Bool :=
  (!serviceMode t || s.imageOk) && (t ≠ 5 || (s.imageOk && s.flag F.TW_ID_VALID))

/-- THERMOS exit (R478): the shadow is restored, Compass restarts, and host software sees a host-only reset with cause 2. -/
def State.thermosOut (s : State) (tests : List (BitVec 11)) : State :=
  let s := s.gl.shadow.foldl (fun (s : State) e => { s with regs := mput s.regs e.1 e.2 }) s
  let began := s.gl.exitAt.getD s.elapsed
  let s : State := { s with gl := { s.gl with shadow := [], exitAt := none } }
  let s := ((s.setFlag F.PW_STATUS_HBM_SR false).setFlag F.PW_STATUS_VCORE_EN true).noteTests tests
  let s := (s.hostReset 2).setFlag F.PW_EVENT_THERMOS_EXIT true
  s.setFld F.PW_TIMES_EXIT_MS (min 255 ((s.elapsed - began) / 1000000))

/-- Shows the new mode and reports it (R469, R472). -/
def State.showMode (s : State) (old new : Nat) (auto : Bool) : State :=
  let s := (s.setFld F.GL_MODE_MODE new).setFld F.GL_MODE_PREV old
  let s := if new = 8 ∨ new = 9 then s.setFld F.GL_MODE_RETURN old else s
  let closed := s.gl.closedNow
  let s : State := { s with gl := { s.gl with closedNow := 0 } }
  let s := s.event F.GL_EVENT_MODE_CHANGE .info 0 old new closed
  if auto ∧ new = 10 then s.setFlag F.GL_EVENT_AUTO_ISOLATE true else s

/-- Triggers that waited are applied from the mode reached, or dropped (R472). -/
def State.applyWaiting (s : State) : State :=
  let l := s.gl.waiting
  let s : State := { s with gl := { s.gl with waiting := [] } }
  l.foldl (fun s t =>
    if s.gl.trans.isNone ∧ autoAllowed s.mode t = false then s.raise .warn 0x00 0 Config.codeTriggerDropped.toNat t s.mode 0
    else s.trigger t) s

/-- The mode in which a transition ends: BOOT in place of a wake's target whose conditions do not hold. -/
def State.endsIn (s : State) (t : Trans) : State × Nat :=
  if s.mode = 9 ∧ t.target ≠ 10 ∧ s.wakeOk t.target = false then (s.setFlag F.PW_EVENT_WAKE_TO_BOOT true, 1) else (s, t.target)

/-- What the end of a transition does beside showing the mode. -/
def State.crossMode (s : State) (t : Trans) (old new : Nat) : State :=
  let s := if old = 8 then s.dozeOut t.since else s
  let s := if old = 10 then s.leaveIsolate new else s
  let s := if new = 10 then s.stopEgress else if new = 8 then s.dozeIn else s
  let s := if new = 7 then s.mailboxClear else s
  let s := if (old = 3 ∨ old = 4) ∧ new ≠ 3 ∧ new ≠ 4 then s.endSweep 0x40 else s
  if serviceMode new || new = 5 then s.releaseClusters else s

/-- A transition ends. -/
def State.endTrans (s : State) (tests : List (BitVec 11)) : State :=
  match s.gl.trans with
  | none => s
  | some t =>
    let s : State := { s with gl := { s.gl with trans := none } }
    let before := (List.range 16).filter s.groupActive
    let old := s.mode
    let s := if old = 9 then s.thermosOut tests else s
    let p := s.endsIn t
    let s := p.1
    let new := p.2
    if new = 9 then (((if old = 8 then s.setFlag F.PW_EVENT_DOZE_EXIT true else s).thermosIn t).showMode old new t.auto).applyWaiting
    else
      let s := (s.crossMode t old new).showMode old new t.auto
      -- a bitstream group that the new mode serves starts with a reset of its own (R326)
      let s := ((List.range 16).filter fun g => s.groupActive g && !before.contains g).foldl (fun (s : State) g => s.localReset g) s
      let s := if old = 1 ∧ serviceMode new then s.resumeChannels else s
      (s.completeOpt t.origin 0 0 []).applyWaiting

/-- MODE_CHANGE: the transition in progress ends; `tests` are the results of the short self-test of a THERMOS exit. -/
def execModeChange (tests : List (BitVec 11)) (s : State) : Host.Outcome State Fault Refusal := .next (s.endTrans tests)

/-! ## Resets -/

/-- WARM_RESET: GL_CTRL.WARM_RESET with the value of WARM_KEY (R480, R481). -/
def execWarmReset (key : BitVec 8) (s : State) : Host.Outcome State Fault Refusal :=
  .next (if s.mode = 0 ∨ s.mode = 9 then s else s.warmReset key.toNat)

/-- WARM_DONE: the GL_RESET reaches BOOT (R481). -/
def execWarmDone (tests : List (BitVec 11)) (s : State) : Host.Outcome State Fault Refusal :=
  .next (if s.gl.warm then
      let s := s.noteTests tests
      let s := (s.setFld F.GL_RESET_CAUSE_LAST 3).incW F.GL_RESET_CAUSE_WARM_CNT 1
      s.enterBoot.setFlag F.GL_EVENT_WARM_DONE true
    else s)

/-- POWER_ON_RESET: PWR_OK rises; after a loss of PWR_OK the cause is 4 (R480, R484, R491). -/
def execPowerOnReset (straps : BitVec 4) (s : State) : Host.Outcome State Fault Refusal :=
  .next (if s.flag F.PW_STATUS_PWR_OK then s
    else (s.cold (if s.fld F.GL_RESET_CAUSE_LAST = 4 then 4 else 0) straps.toNat true).setFlag F.PW_STATUS_VCORE_EN true)

/-- SYS_RESET: SYS_RESET_N low for at least 1 µs (R480). -/
def execSysReset (straps : BitVec 4) (s : State) : Host.Outcome State Fault Refusal :=
  .next (if s.flag F.PW_STATUS_PWR_OK then (s.cold 1 straps.toNat true).setFlag F.PW_STATUS_VCORE_EN true else s)

/-- The choice of R482 that is in force. -/
def State.perstCold (s : State) : Bool := s.flag F.GL_STRAP_PERST || s.flag F.GL_CTRL_PERST_COLD

/-- PERST: PERST_N is a cold reset or a host-only reset with cause 3 (R482). -/
def execPerst (straps : BitVec 4) (s : State) : Host.Outcome State Fault Refusal :=
  .next (if s.flag F.PW_STATUS_PWR_OK = false then s
    else if s.perstCold then (s.cold 2 straps.toNat true).setFlag F.PW_STATUS_VCORE_EN true
    else if s.mode = 9 then s
    else s.hostReset 3)

/-- BOOT_READY: self-test and training complete and BOOT is entered (R491 steps 5 to 7). `tests`: results by cluster; `lanes`: failing
lanes by pseudo-channel. -/
def execBootReady (tests : List (BitVec 11)) (lanes : List Nat) (s : State) : Host.Outcome State Fault Refusal :=
  .next (if s.mode = 0 ∧ s.gl.warm = false ∧ s.flag F.PW_STATUS_PWR_OK then
      (((s.noteTests tests).coldCores tests).trained lanes).enterBoot.setFlag F.GL_STATUS_BOOT_READY true
    else s)

/-! ## Power (R484, R492, R493) -/

/-- UNDERVOLT: a rail trips its detector. -/
def execUndervolt (i : Fin 8) (s : State) : Host.Outcome State Fault Refusal :=
  .next (if s.flag F.PW_STATUS_PWR_OK = false ∨ (i.val = 2 ∧ s.flag F.PW_STATUS_VCORE_EN = false) then s
    else
      let s := (s.setFlag (F.PW_RAIL_UV i) true).setFlag (F.PW_RAIL_UV_STICKY i) true
      let s := (s.incS (F.PW_RAIL_UV_CNT i) 1).incS F.PW_UV_CNT_COUNT 1
      (s.setFlag F.PW_EVENT_UNDERVOLT true).fatalDevice 0x00 (0x0100 + F.PW_EVENT_UNDERVOLT.lo) i 0)

/-- UNDERVOLT_END: the rail is above its threshold again. -/
def execUndervoltEnd (i : Fin 8) (s : State) : Host.Outcome State Fault Refusal := .next (s.setFlag (F.PW_RAIL_UV i) false)

/-- PWR_OK_FALL: every output goes to high impedance and the device is held. -/
def execPwrOkFall (s : State) : Host.Outcome State Fault Refusal :=
  .next (if s.flag F.PW_STATUS_PWR_OK then
      s.cold 4 (s.fuse.strapBoot + 4 * b2n s.fuse.strapPerst + 8 * b2n s.fuse.strapTest) false
    else s)

/-- LIVE_LOST: LIVE_EN falls while PWR_OK is high; a management frame in progress is cut short and stays first in its queue. -/
def execLiveLost (s : State) : Host.Outcome State Fault Refusal :=
  .next (if s.flag F.PW_STATUS_LIVE_EN = false then s
    else
      let s := (s.setFlag F.PW_STATUS_LIVE_EN false).liveFollow
      if s.flag F.PW_STATUS_PWR_OK then
        let s := match s.mg.started, s.mg.queue with
          | some _, f :: _ => (s.emit (.mgFrame f.bytes false)).setMg { s.mg with started := none }
          | _, _ => s
        let s := s.setFlag F.GL_EVENT_LIVE_LOST true
        if s.flag F.PW_CTRL_LIVE_ISOLATE then s.trigger 10 else s
      else s)

/-- LIVE_BACK: LIVE_EN rises; the management port starts listen-only. -/
def execLiveBack (s : State) : Host.Outcome State Fault Refusal :=
  .next (if s.flag F.PW_STATUS_LIVE_EN then s
    else
      let s := (s.setFlag F.PW_STATUS_LIVE_EN true).liveFollow
      if s.flag F.PW_STATUS_PWR_OK then s.startListen.setFlag F.GL_EVENT_LIVE_BACK true else s)

end Sys2Proof.Machine
end

