-- ==== Sys2Proof/Machine/Nodes.lean ====
section
/-! DEFINITION. Dziul instructions that join a core to Trailhead, overlays, the local timer and BKPT (R131-R138), and the
dispatch of entries (R159, R160). -/
namespace Sys2Proof.Machine

/-- Issues an instruction that acts on more than the core: illegal unless `ok`; otherwise `act` is its effect and the
core goes on, no window open across it (R122). -/
def State.control (s : State) (k : Nat) (op : Nat) (f : BitVec 40) (ok : Bool) (act : State → State) : State :=
  let w := word48 op f
  if s.canIssue k w then
    if ok then
      let s := s.setCore k { s.core k with win := [] }
      let s := act s
      s.endInstr k w (s.core k)
    else s.codeError k (s.core k).pc .illegal
  else s

/-! ## WAIT.WORK, COMMIT and YIELD (R131, R132, R135) -/

/-- WAIT.WORK: the core blocks at the instruction. -/
def execWaitWork (k : Fin 144) (f : BitVec 40) (s : State) : Host.Outcome State Fault Refusal :=
  let c := s.core k
  if s.canIssue k (word48 0x08 f) then
    if f = 0 ∧ controlOk c ∧ c.inShadow = false ∧ c.run = none then
      .next (s.setCore k { c with waiting := true, waitSince := s.elapsed, waitPc := c.pc, win := [] })
    else .next (s.codeError k c.pc .illegal)
  else .next s

/-- COMMIT: ends the open node as a transaction. -/
def execCommit (k : Fin 144) (f : BitVec 40) (s : State) : Host.Outcome State Fault Refusal :=
  let c := s.core k
  let ok := fbits f 39 24 = 0 && fbits f 23 16 = 0 && controlOk c && !c.inShadow && c.run.isSome
  .next (s.control k 0x09 f ok fun s => s.commitRun k (fbits f 15 0))

/-- YIELD: ends any open node as an abort, leaves interrupt context and blocks. -/
def execYield (k : Fin 144) (f : BitVec 40) (s : State) : Host.Outcome State Fault Refusal :=
  let c := s.core k
  if s.canIssue k (word48 0x0A f) then
    if f = 0 ∧ controlOk c then
      let s := if c.handlers.contains 4 then s.incS F.TH_REPLAY_CNT_PREEMPTS 1 else s
      let s := s.withdraw k
      let s := match c.run with
        | none => s
        | some r =>
          let s := s.abortRun k
          if r.e.cancel then s.endCancelled r.e (some k) else s.returnEntry r.e
      .next ((s.setCore k { s.core k with waitPc := c.pc }).blockCore k)
    else .next (s.codeError k c.pc .illegal)
  else .next s

/-! ## Dispatch (R159, R160) -/

/-- Bin of a waiting time (R175). -/
def waitBin (ns : Nat) : Nat := if ns < 1000 then 0 else (firstBelow 15 fun b => decide (ns / 1000 < 2 ^ b)).getD 15

/-- Records the waiting time of a dispatched entry (R175, R466). -/
def State.noteWait (s : State) (e : Entry) : State :=
  if s.flag (F.TH_QCFG_HIST_EN e.queue) then
    let b := waitBin (s.elapsed - e.since)
    let v := mget 0 s.th.hist (16 * e.queue + b)
    let v' := satAdd 24 v 1
    let s : State := { s with th := { s.th with hist := mset 0 s.th.hist (16 * e.queue + b) v' } }
    if v < v' ∧ v' = 2 ^ 24 - 1 then s.raise .info 0x03 e.cluster 0x00F4 R.TH_HIST_DATA 0 (e.queue + b * 256) else s
  else s

/-- The descriptor words 0-3 of a dispatch (R160). -/
def State.dispatchWords (s : State) (k : Nat) (e : Entry) : List Nat :=
  let head (ch nd lv kind : Nat) : Nat :=
    ch % 8192 + nd % 16 * 2 ^ 13 + lv % 8 * 2 ^ 17 + b2n e.isVoid * 2 ^ 20 + b2n (e.replays ≠ 0) * 2 ^ 21 + kind * 2 ^ 22
  match e.kind with
  | .node =>
    let w := s.window k e
    [head e.chan e.node e.level 0, s.slotRead e.cluster (e.slot.getD 0), w.1, w.2 / 64 % 1024 + e.frame % 16384 * 2 ^ 10]
  | .hostJob => [head 0 0 5 1, e.handle, (s.window k e).1, 0]
  | .work => [head 0 0 e.level 2, e.w1.toNat, e.w2.toNat, e.w3.toNat]

/-- The entry that a cluster dispatches next, and the core that receives it: the lowest-numbered level whose head is
dispatchable and finds an eligible blocked core (R151, R159). -/
def State.nextDispatch (s : State) (c : Nat) : Option (Entry × Nat) :=
  (List.range 8).findSome? fun l =>
    match s.queueAt (8 * c + l) with
    | [] => none
    | e :: _ => if e.ready then (s.longestBlocked c e).map fun k => (e, k) else none

/-- Trailhead may dispatch in the cluster: it runs, is not being rebuilt (R177), and the device is not isolated (R474). -/
def State.dispatchOpen (s : State) (c : Nat) : Bool :=
  s.coresRun c && s.mode ≠ 10 && (match s.th.rebuild with
    | some (k, _, _) => k ≠ c
    | none => true)

/-- Loads a core with an entry (R74, R97, R131, R160, R394). -/
def State.deliver (s : State) (k : Nat) (e : Entry) : State :=
  let w := s.dispatchWords k e
  let c := s.core k
  let m := c.main
  let r := (w.zipIdx).foldl (fun (r : SMap W24) x => mset 0 r (rcX (4 + x.2)) (BitVec.ofNat 24 x.1)) m.r
  let c := { c with main := { m with r := r, sr := s.srInit k, lc := 0 } }
  let c := { c with stack := [], slots := 0, branch := none, win := [], cacheOk := false, filling := false }
  let c := { c with waiting := false, pc := c.waitPc + 2, gvtSat := false, preReq := false }
  let c := { c with run := some ⟨e, s.nowNs, s.th.nextDisp, []⟩, busyFrom := s.elapsed, disp := c.disp + 1 }
  let s := s.setCore k c
  let s : State := { s with th := { s.th with nextDisp := s.th.nextDisp + 1 } }
  match e.kind with
  | .hostJob =>
    let s := s.putCsm e.cluster (s.jobPart e.cluster (k % 9)) (e.desc.map (·.toNat))
    match s.job e.handle with
    | some j => s.setJob { j with st := if j.st = .queued then .running else j.st }
    | none => s
  | _ => s

/-- DISPATCH of cluster `c`. -/
def execDispatch (c : Fin 16) (s : State) : Host.Outcome State Fault Refusal :=
  if s.dispatchOpen c then
    let s := s.unbar c
    match s.nextDispatch c with
    | some (e, k) =>
      if s.coreLive k then
        let s := match e.preempt with
          | some p => s.setCore p { s.core p with preReq := false }
          | none => s
        let s := s.setQueue e.queue ((s.queueAt e.queue).drop 1)
        let s := (s.noteWait e).deliver k { e with preempt := none }
        .next (s.preemptScan c)
      else .next s
    | none => .next s
  else .next s

/-! ## ENQ (R133, R153-R157) -/

/-- The open channel that a request names. -/
def State.openChan (s : State) (n : Nat) : Option Chan := s.chan n

/-- Words of data that a request names lie inside the node's write window (R154). -/
def inWindow (win : Nat × Nat) (a n : Nat) : Bool := win.1 ≤ a && a + n ≤ win.1 + win.2

/-- Answers an ENQ: the decision, and the reservation that an accepted request needs. Nothing while the queue's cluster is
being rebuilt, when the request is decided later (R177). -/
def State.enqDecide (s : State) (k : Nat) (w : List Nat) : Option (Decide × Option Resv) :=
  let w0 := nth w 0
  let w1 := nth w 1
  let w2 := nth w 2
  let w3 := nth w 3
  let run := (s.core k).run
  let win := match run with
    | some r => s.window k r.e
    | none => (0, 0)
  let dataOk (a n : Nat) : Bool := n = 0 || run.isNone || inWindow win a n
  let busy (c : Nat) : Bool := match s.th.rebuild with
    | some (q, _, _) => q = c
    | none => false
  match w0 % 16 with
  | 0 =>
    match s.openChan (bits w0 4 13) with
    | none => some (.malformed, none)
    | some c =>
      let n := bits w0 4 13
      let e := bits w0 17 5
      if w0 ≥ 2 ^ 22 ∨ w2 ≥ 2 ^ 16 ∨ w3 ≠ 0 ∨ e ≥ c.graph.edges.length ∨ dataOk w1 w2 = false then some (.malformed, none)
      else if busy c.home then none
      else match s.tokenDecide n c e with
        | .ok p => some (.ok p, some (.token n e w1 w2 p))
        | r => some (r, none)
  | 1 =>
    let f := bits w0 5 14
    let sk := bit w0 4
    let len := bits w3 0 14
    let dest := bits w3 14 2
    if w0 ≥ 2 ^ 19 ∨ w1 ≥ 2 ^ 16 ∨ w3 ≥ 2 ^ 16 ∨ (s.openChan (f / 2)).isNone ∨ (f % 2 = 0 ∧ dest ≠ 0) ∨ dest ≥ 2
        ∨ (sk ∧ (w2 ≠ 0 ∨ len ≠ 0)) ∨ (sk = false ∧ len = 0) ∨ dataOk w2 ((len + 2) / 3) = false then some (.malformed, none)
    else match s.itemDecide f w1 false with
      | .ok p => some (.ok p, some (.item f w1 sk w2 len dest))
      | r => some (r, none)
  | 2 =>
    let l := bits w0 4 3
    let c := bits w0 7 4
    if w0 ≥ 2 ^ 11 ∨ l = 0 ∨ s.clusterIn c = false then some (.malformed, none)
    else if busy c then none
    else if !s.poolRoom then some (.poolFull, none)
    else if !s.queueRoom (8 * c + l) then some (.queueFull, none)
    else some (.ok true, some (.work l c (BitVec.ofNat 24 w1) (BitVec.ofNat 24 w2) (BitVec.ofNat 24 w3)))
  | _ => some (.malformed, none)

/-- Makes an accepted request visible at once: made outside a node (R133, R171). DEDUCED: such a token carries the
frame number of its channel, as a source token does. -/
def State.enqNow (s : State) (k : Nat) : Resv → State
  | .token n e a l _ =>
    match s.chan n with
    | none => s
    | some c => (s.placeToken n e c.frameNo false (s.tokenData k a l)).makeReady n [(c.edgeSpec e).dst]
  | .item f q sk a l d => s.holdItem f ⟨q, sk, d, s.elapsed, if sk then [] else s.itemData k a l⟩
  | .work l c w1 w2 w3 => s.pushEntry (workEntry l c w1 w2 w3)

/-- Reserves for an accepted request of a node (R133, R155). -/
def State.enqReserve (s : State) (k : Nat) (r : Running) (x : Resv) : State :=
  let s := s.setCore k { s.core k with run := some { r with res := r.res ++ [x] } }
  s.poolMark.ordMark

/-- The X quad that an ENQ offers. -/
def Core.enqWords (c : Core) (q : Nat) : List Nat := (List.range 4).map fun j => c.rd false (rcX (4 * q + j))

/-- Writes the answer of an ENQ to d with Z and N, and goes on. -/
def State.enqResult (s : State) (k : Nat) (w : W48) (f : BitVec 40) (v : Nat) : State :=
  let c := (s.core k).wr (sD f) v .load
  s.endInstr k w (c.setSr (srZN c.sr v))

/-- ENQ with the requests of which `mine` tells the OP (R133). -/
def State.enqInstr (s : State) (k : Nat) (f : BitVec 40) (mine : Nat → Bool) : State :=
  let w := word48 0x0B f
  let c := s.core k
  if s.canIssue k w then
    if iLegal f && rc24 (sD f) && decide (fbits f 23 0 ≤ 1) then
      let ws := c.enqWords (fbits f 23 0)
      if mine (nth ws 0 % 16) then
        match s.enqDecide k ws with
        | none => s
        | some (.ok _, some x) =>
          let s := match c.run with
            | some r => s.enqReserve k r x
            | none => s.enqNow k x
          s.enqResult k w f 0
        | some (.malformed, _) => s.countMalformed.enqResult k w f 1
        | some (r, _) => ((s.incS F.TH_REFUSE_CNT_CORE 1).noteRefusal r).enqResult k w f 1
      else s
    else if mine 0 then s.codeError k c.pc .illegal else s
  else s
/-- ENQ of a TOKEN request, and of a request with a reserved OP, which is malformed (R153-R155). -/
def execEnqToken (k : Fin 144) (f : BitVec 40) (s : State) : Host.Outcome State Fault Refusal :=
  .next (s.enqInstr k f fun op => op ≠ 1 && op ≠ 2)

/-- ENQ of an ITEM or SKIP request (R170). -/
def execEnqItem (k : Fin 144) (f : BitVec 40) (s : State) : Host.Outcome State Fault Refusal :=
  .next (s.enqInstr k f fun op => op = 1)

/-- ENQ of a WORK request (R155). -/
def execEnqWork (k : Fin 144) (f : BitVec 40) (s : State) : Host.Outcome State Fault Refusal :=
  .next (s.enqInstr k f fun op => op = 2)

/-! ## Overlays, the local timer and BKPT (R102, R103, R136-R138) -/

/-- OVL: the copy starts; the next instruction issues when it has ended (R103). -/
def execOvl (k : Fin 144) (f : BitVec 40) (s : State) : Host.Outcome State Fault Refusal :=
  let w := word48 0x0C f
  let c := s.core k
  if s.canIssue k w then
    if fbits f 33 15 = 0 ∧ controlOk c then
      let src := c.seen hideAddr (rcP (fbits f 39 37))
      let dst := c.seen hideAddr (rcP (fbits f 36 34))
      if src ≥ 2 ^ 21 ∨ dst ≥ 2 ^ 15 then .next (s.codeError k c.pc .address)
      else match s.overlay (k / 9) src dst (fbits f 14 0 + 1) with
        | none => .next (s.codeError k c.pc .address)
        | some l =>
          let s := s.incWrap (F.CL_OVL_CNT_COPIES k) 1 (s.flag (F.CL_CTRL_OVL_WRAP_EVT (k / 9)))
          .next (s.endInstr k w { c with win := [], ovl := some ⟨dst, l⟩ })
    else .next (s.codeError k c.pc .illegal)
  else .next s

/-- OVL_COPY_END: every word is in CM; instruction fetch sees it as it sees stores (R89, R103, R104). -/
def execOvlCopyEnd (k : Fin 144) (s : State) : Host.Outcome State Fault Refusal :=
  let c := s.core k
  match c.ovl with
  | none => .next s
  | some o =>
    let l := o.words.zipIdx
    let win := l.map fun e => (⟨0x10000 + o.dst + e.2, (mget 0 c.cm (o.dst + e.2)).toNat, 1, .fetch⟩ : Hz)
    let cm := l.foldl (fun m e => mset 0 m (o.dst + e.2) e.1) c.cm
    .next (s.setCore k { c with ovl := none, cm := cm, win := win ++ c.win })

/-- SETT (R137). -/
def execSett (k : Fin 144) (f : BitVec 40) (s : State) : Host.Outcome State Fault Refusal := .next (s.dziul k 0x0D f settBody)

/-- GETT (R137). -/
def execGett (k : Fin 144) (f : BitVec 40) (s : State) : Host.Outcome State Fault Refusal := .next (s.dziul k 0x0E f gettBody)

/-- BKPT requests the debug interrupt (R138). -/
def execBkpt (k : Fin 144) (f : BitVec 40) (s : State) : Host.Outcome State Fault Refusal :=
  .next (s.dziul k 0x0F f fun f x => do
    legal (f = 0)
    return { x with c := { x.c with dbgReq := true } })

/-! ## Interrupts (R138-R142) -/

/-- INTERRUPT_ENTRY: the fault interrupt, or the request of highest priority that the boundary accepts. -/
def execInterruptEntry (k : Fin 144) (s : State) : Host.Outcome State Fault Refusal :=
  let c := s.core k
  if s.coreLive k then
    if c.faultPending then .next (s.setCore k (c.enter 1))
    else match c.acceptable with
      | some p => .next (s.setCore k ((c.takeReq p).enter p))
      | none => .next s
  else .next s

/-- DEBUG_HALT_REQUEST: the debug path requests the debug interrupt. -/
def execDebugHaltRequest (k : Fin 144) (s : State) : Host.Outcome State Fault Refusal :=
  .next (if s.coreLive k then s.setCore k { s.core k with dbgReq := true } else s)

/-- LOCAL_TIMER_EXPIRY: the count reaches zero and requests the timer interrupt once (R137). -/
def execLocalTimerExpiry (k : Fin 144) (s : State) : Host.Outcome State Fault Refusal :=
  let c := s.core k
  .next (if c.timer = 1 ∧ c.timerFrac ≥ 1000 then s.setCore k { c with timer := 0, timerFrac := 0, timReq := true } else s)

end Sys2Proof.Machine
end

