-- ==== Sys2Proof/Machine/PacketPorts.lean ====
section
/-! DEFINITION. The commands of the packet ports (R234-R268). -/
namespace Sys2Proof.Machine

/-- FRAME_RECEIVED: a whole frame, from its destination address to its FCS (R244). `pcs`: a PCS error code lies inside it;
`overflow`: the crossing FIFO overflowed; `tagOk`: its SRTP tag verifies. -/
def execFrameReceived (p : Fin 4) (frame : List Byte) (pcs overflow tagOk : Bool) (s : State) : Host.Outcome State Fault Refusal :=
  .next (if s.flag (F.EP_CTRL_EN p) ∧ (s.port p).resetting = false ∧ s.mode ≠ 0 ∧ s.mode ≠ 9 then s.receive p frame pcs overflow tagOk
    else s)

/-- FRAME_TRANSMIT_START (R253). -/
def execFrameTransmitStart (p : Fin 4) (s : State) : Host.Outcome State Fault Refusal := .next (s.transmit p)

/-- TX_AGE_DISCARD: the head item of a priority is too old (R253). -/
def execTxAgeDiscard (p : Fin 4) (pri : Fin 8) (s : State) : Host.Outcome State Fault Refusal := .next (s.ageHead p pri)

/-- FRAME_TRANSMIT_END (R254); `aborted`: the crossing FIFO underran (R50). -/
def execFrameTransmitEnd (p : Fin 4) (aborted : Bool) (s : State) : Host.Outcome State Fault Refusal := .next (s.transmitEnd p aborted)

/-- LINK_UP: negotiation where it is used, training, block lock and alignment are complete (R237). -/
def execLinkUp (p : Fin 4) (s : State) : Host.Outcome State Fault Refusal :=
  let mode := s.fld (F.EP_PHY_CFG_MODE p)
  if s.flag (F.EP_STATUS_LINK p) ∨ mode = 0 ∨ (s.port p).resetting ∨ (usesAn mode ∧ s.flag (F.EP_STATUS_AN_DONE p) = false) then .next s
  else
    let r := s.fld (F.EP_AN_STAT_RESOLVED p)
    let speed := if mode = 3 ∨ mode = 5 ∨ (usesAn mode ∧ r ≠ 5) then 1 else 0
    let fec := if mode = 3 then 2 else if mode = 5 ∨ mode = 6 then s.fld (F.EP_PHY_CFG_FEC p)
      else resolveFec r (s.fld (F.EP_AN_ADV_FEC p)) (s.fld (F.EP_AN_STAT_LP_FEC p))
    let s := ((s.setFlag (F.EP_STATUS_LINK p) true).setFld (F.EP_STATUS_SPEED p) speed).setFld (F.EP_STATUS_FEC_ACT p) fec
    let s := (s.setFlag (F.EP_PCS_STAT_BLOCK_LOCK p) true).setFlag (F.EP_PCS_STAT_FEC_ALIGN p) (fec = 2)
    let s := s.setPort p { s.port p with downAt := none }
    .next ((s.event (F.EP_EVENT_LINK_UP p) .info p p 0 0).recclkCheck)

/-- LINK_DOWN: a link condition is lost (R237). -/
def execLinkDown (p : Fin 4) (s : State) : Host.Outcome State Fault Refusal := .next (s.linkDown p)

/-- AN_COMPLETE: negotiation ends with the partner's abilities and FEC bits (R236). -/
def execAnComplete (p : Fin 4) (abil : BitVec 5) (fec : BitVec 4) (s : State) : Host.Outcome State Fault Refusal :=
  let mode := s.fld (F.EP_PHY_CFG_MODE p)
  if usesAn mode = false ∨ s.flag (F.EP_STATUS_AN_DONE p) ∨ (s.port p).resetting then .next s
  else
    let r := resolveAbility (advertised mode (s.fld (F.EP_AN_ADV_ABIL p)) &&& abil.toNat)
    let s := ((s.setFld (F.EP_AN_STAT_LP_ABIL p) abil.toNat).setFld (F.EP_AN_STAT_LP_FEC p) fec.toNat).setFld (F.EP_AN_STAT_RESOLVED p) r
    let x := s.port p
    if r = 0 then
      let s := (s.incS (F.EP_AN_STAT_AN_FAILS p) 1).setFlag (F.EP_EVENT_AN_FAIL p) true
      let s := if x.anFailed then s else s.raise .warn 0x10 p (0x0100 + (F.EP_EVENT_AN_FAIL p).lo) p 0 0
      .next (s.setPort p { x with anFailed := true, anRetry := some (s.elapsed + 1000000000) })
    else .next ((s.setPort p { x with anFailed := false, anRetry := none }).setFlag (F.EP_STATUS_AN_DONE p) true)

/-- AN_RETRY: negotiation restarts 1 s after it failed (R236). -/
def execAnRetry (p : Fin 4) (s : State) : Host.Outcome State Fault Refusal :=
  .next (match (s.port p).anRetry with
    | some t => if t ≤ s.elapsed then s.restartAn p else s
    | none => s)

/-- PAUSE_TIME_EXPIRY: a priority's pause time has run out (R261, R262). -/
def execPauseTimeExpiry (p : Fin 4) (pri : Fin 8) (s : State) : Host.Outcome State Fault Refusal :=
  .next (match mfind (s.port p).pauseEnd pri with
    | some t => if t ≤ s.elapsed then (s.endHold p pri).showPaused p else s
    | none => s)

/-- PAUSE_BREAK: a priority has been held for longer than WD_MS (R262). -/
def execPauseBreak (p : Fin 4) (pri : Fin 8) (s : State) : Host.Outcome State Fault Refusal :=
  .next (match mfind (s.port p).heldFrom pri with
    | none => s
    | some t =>
      if s.elapsed > t + s.fld (F.EP_PAUSE_CFG_WD_MS p) * 1000000 then
        (let s := ((List.range 8).foldl (fun s i => s.endHold p i) s).showPaused p
         let s := s.setPort p { s.port p with ignoreUntil := some (s.elapsed + s.fld (F.EP_PAUSE_CFG_HOLDOFF_MS p) * 1000000) }
         let s := (s.setFlag (F.EP_STATUS_PAUSE_IGNORED p) true).incS (F.EP_CNT_COUNT p 7) 1
         s.event (F.EP_EVENT_PAUSE_BREAK p) .warn p p pri 0)
      else s)

/-- HOLDOFF_END (R262). -/
def execHoldoffEnd (p : Fin 4) (s : State) : Host.Outcome State Fault Refusal :=
  .next (match (s.port p).ignoreUntil with
    | some t => if t ≤ s.elapsed then (s.setPort p { s.port p with ignoreUntil := none }).setFlag (F.EP_STATUS_PAUSE_IGNORED p) false else s
    | none => s)

/-- PORT_RESET_END: a port reset ends and its command completes (R267). -/
def execPortResetEnd (p : Fin 4) (s : State) : Host.Outcome State Fault Refusal :=
  .next (if (s.port p).resetting then
    (s.setPort p { s.port p with resetting := false, resetBy := none }).completeOpt (s.port p).resetBy 0 0 [] else s)

/-- EP_PORT_RESET_WRITE: a write of 1 to EP_CTRL.PORT_RESET (R267). -/
def execEpPortResetWrite (p : Fin 4) (s : State) : Host.Outcome State Fault Refusal := .next (s.portReset p none)

/-- The effect of a write of EP_PHY_CFG that changes MODE or FEC (R235): the link goes down and starts again. -/
def State.phyChanged (s : State) (p mode fec : Nat) : State :=
  let same := s.fld (F.EP_PHY_CFG_MODE p) = mode ∧ s.fld (F.EP_PHY_CFG_FEC p) = fec
  let s := (s.setFld (F.EP_PHY_CFG_MODE p) mode).setFld (F.EP_PHY_CFG_FEC p) fec
  if same then s else (s.linkDown p).restartAn p

/-- A write of 1 to EP_PHY_CFG.AN_RESTART (R268). -/
def State.anRestart (s : State) (p : Nat) : State :=
  if usesAn (s.fld (F.EP_PHY_CFG_MODE p)) then (s.linkDown p).restartAn p else s

/-- AN_RESTART (R268). -/
def execAnRestart (p : Fin 4) (s : State) : Host.Outcome State Fault Refusal := .next (s.anRestart p)

/-- The effect of a write of 1 to EP_TS_STAT.RESTART: HWM takes USED (R268). -/
def State.tsRestart (s : State) (p : Nat) : State := s.setFld (F.EP_TS_STAT_HWM p) (s.tsUsed p)

/-- TS_HWM_RESTART (R268). -/
def execTsHwmRestart (p : Fin 4) (s : State) : Host.Outcome State Fault Refusal := .next (s.tsRestart p)

end Sys2Proof.Machine
end

