-- ==== Sys2Proof/Machine/Program.lean ====
section
/-! DEFINITION. Dziul instructions of program flow: NOP, branches and loops (R112, R125-R130, R142), and illegal words
(R108). -/
namespace Sys2Proof.Machine

/-- Opcodes that the instruction list of R112 assigns. -/
def opAssigned (o : Nat) : Bool :=
  o ≤ 0x14 || (0x20 ≤ o && o ≤ 0x22) || (0x28 ≤ o && o ≤ 0x31) || (0x38 ≤ o && o ≤ 0x43) || (0x50 ≤ o && o ≤ 0x53)

/-- NOP, with opcode 0 (R112); a word of a reserved opcode is an illegal instruction (R108). Words of other opcodes are
other commands. -/
def execNop (k : Fin 144) (w : BitVec 48) (s : State) : Host.Outcome State Fault Refusal :=
  let op := w.toNat / 2 ^ 40
  let f := BitVec.ofNat 40 w.toNat
  if op = 0 then .next (s.dziul k 0 f fun f x => do
    legal (f = 0)
    return x)
  else if opAssigned op then .next s
  else .next (s.dziul k op f fun _ _ => .error .illegal)

/-- B (R125). -/
def execB (k : Fin 144) (f : BitVec 40) (s : State) : Host.Outcome State Fault Refusal :=
  .next (s.dziul k 0x01 f (branchBody false))

/-- CALL (R125). -/
def execCall (k : Fin 144) (f : BitVec 40) (s : State) : Host.Outcome State Fault Refusal :=
  .next (s.dziul k 0x02 f (branchBody true))

/-- BRP (R125). -/
def execBrp (k : Fin 144) (f : BitVec 40) (s : State) : Host.Outcome State Fault Refusal := .next (s.dziul k 0x03 f brpBody)

/-- RTS (R125). -/
def execRts (k : Fin 144) (f : BitVec 40) (s : State) : Host.Outcome State Fault Refusal :=
  .next (s.dziul k 0x04 f (rtsBody false))

/-- RTI (R142). -/
def execRti (k : Fin 144) (f : BitVec 40) (s : State) : Host.Outcome State Fault Refusal :=
  .next (s.dziul k 0x05 f (rtsBody true))

/-- DO (R127). -/
def execDoImm (k : Fin 144) (f : BitVec 40) (s : State) : Host.Outcome State Fault Refusal := .next (s.dziul k 0x06 f doBody)

/-- DOR (R127). -/
def execDor (k : Fin 144) (f : BitVec 40) (s : State) : Host.Outcome State Fault Refusal := .next (s.dziul k 0x07 f dorBody)

end Sys2Proof.Machine
end

