-- ==== Sys2Proof/Machine/Trailhead.lean ====
section
/-! DEFINITION. Events of Trailhead and of staging (R149, R172, R177, R179, R182, R197, R198, R442). -/
namespace Sys2Proof.Machine

/-! ## Staging (R182, R197, R198, R205, R442) -/

/-- The words of a context range as one extent stages them. -/
def State.rangeWords (s : State) (a n : Nat) (pack : Bool) : List Nat :=
  if pack then packBytes (s.bytesAt a (4 * n)) else (List.range n).map fun i => s.word (a + 4 * i)

/-- What an extent of the read map stages for a frame (R195, R198, R201, R205), and the context ranges it reads. -/
def State.stageExtent (s : State) (c : Chan) (frame : Nat) (x : Extent) : List Nat × List (Nat × Nat) :=
  match x.kind with
  | 1 => (s.rangeWords (c.ctx + x.ofs) x.len x.pack, [(c.ctx + x.ofs, 4 * x.len)])
  | 2 =>
    let w := (c.edgeSpec x.edge).words
    let l := (c.consumed x.edge).map fun t => c.bufAddr x.edge t.buf
    (if x.pack then packBytes (l.flatMap fun a => s.bytesAt a (4 * w)) else l.flatMap fun a => s.rangeWords a w false,
      l.map fun a => (a, 4 * w))
  | 3 =>
    let a := s.ringSlot c 20 c.graph.rx.frames c.graph.rx.samples frame
    (s.rangeWords a (c.graph.rx.samples + 1) false, [(a, 4 * (c.graph.rx.samples + 1))])
  | 4 =>
    let j := s.jbShape c
    ((s.jbView c).1, (s.jbView c).2.map fun k => (j.slot k, 16 + j.slotBytes))
  | _ => ([], [])

/-- A node whose staging met a poisoned word (R182). -/
def State.contextPoison (s : State) (e : Entry) (ofs : Nat) : State :=
  let s := s.poisonSeen.dropQueued (fun x => x.id = e.id)
  ((s.raise .contained 0x30 e.chan 0x0302 e.chan ofs 0).endFailed e none 9 0 0).cancelsDone e

/-- A read area staged again that differs (R442). -/
def State.restageMismatch (s : State) (e : Entry) : State :=
  let s := s.dropQueued (fun x => x.id = e.id)
  ((s.raise .contained 0x30 e.chan 0x0304 e.chan e.node 0).endFailed e none 9 0 0).cancelsDone e

/-- Ends the staging of an entry into a slot. -/
def State.stage (s : State) (e : Entry) (slot : Nat) : State :=
  match s.chan e.chan with
  | none => s
  | some c =>
    let plan := layExtents 0 ((c.node e.node).rd.map fun x => (x, if x.kind = 0 then 0 else extWords x x.len))
    let parts := plan.map fun p => (p.2.1, s.stageExtent c e.frame p.1)
    let bad := (parts.flatMap fun p => p.2.2).find? fun r => s.poisoned r.1 r.2
    match bad with
    | some r => s.contextPoison e (r.1 - c.ctx)
    | none =>
      let crc := crc32c (parts.flatMap fun p => wordsLe p.2.1)
      let view := (c.node e.node).rd.any fun x => x.kind = 4
      let marks := if view then (s.jbView c).2 else []
      let again := e.restage && e.crc.isSome
      let marks := if again then marks.filter e.jbMarked.contains else marks
      let s := s.jbMark c marks
      if again ∧ e.crc ≠ some crc then s.restageMismatch e
      else
        let s := parts.foldl (fun s p => s.putCsm e.cluster (s.slotRead e.cluster slot + p.1) p.2.1) s
        let s := s.portBytes e.cluster (parts.foldl (fun acc p => acc + p.2.2.foldl (fun a r => a + r.2) 0) 0)
        let e := { e with slot := some slot, ready := true, restage := false }
        let e := if again then e else { e with crc := some crc, jbMarked := marks }
        (s.updEntry e).preemptScan e.cluster

/-- STAGING_COMPLETE: the staging of the `n`-th waiting entry of a cluster ends; `errs` are the errors that its reads met. -/
def execStagingComplete (c : Fin 16) (n : Nat) (errs : List MemErr) (s : State) : Host.Outcome State Fault Refusal :=
  if s.clusterIn c ∧ s.fld (F.PW_CL_STATE c) ≠ 2 then
    match (s.unstaged c)[n]? with
    | none => .next s
    | some e =>
      match e.slot with
      | some k => .next ((s.memErrs errs).stage e k)
      | none =>
        -- an earlier entry without a slot takes an earlier free one
        let before := (((s.unstaged c).take n).filter fun x => x.slot = none).length
        match (s.freeSlotList c)[before]? with
        | none => .next s
        | some k => .next ((s.memErrs errs).stage e k)
  else .next s

/-! ## Rebuilds (R177) -/

/-- QUEUE_REBUILD: a queue pointer of a cluster failed parity in one copy, or in both or in an entry. -/
def execQueueRebuild (c : Fin 16) (both : Bool) (s : State) : Host.Outcome State Fault Refusal :=
  if c.val < s.clusters then
    if both = false then .next (s.raise .corrected 0x03 c Config.codePointerCopy.toNat c 0 0)
    else if s.th.rebuild.isSome ∨ s.clusterIn c = false then .next s
    else
      let d := s.dropCluster c
      let s := d.1.incS F.TH_REFUSE_CNT_HW d.2
      let s : State := { s with th := { s.th with rebuild := some (c.val, s.elapsed, d.2) } }
      .next ((s.setFlag F.TH_STATUS_REBUILDING true).setFld F.TH_STATUS_REBUILD_CL c)
  else .next s

/-- QUEUE_REBUILD_END: steps 3 to 5. -/
def execQueueRebuildEnd (s : State) : Host.Outcome State Fault Refusal :=
  match s.th.rebuild with
  | none => .next s
  | some (c, t, lost) =>
    let s : State := { s with th := { s.th with rebuild := none } }
    let s := ((s.rebuildEntries c).repost).setFlag F.TH_STATUS_REBUILDING false
    .next ((s.event F.TH_EVENT_REBUILD .contained c c ((s.elapsed - t) / 1000) lost).preemptScan c)

/-! ## Flows and source tokens (R149, R172) -/

/-- FLOW_STALL (R172). -/
def execFlowStall (f : BitVec 14) (s : State) : Host.Outcome State Fault Refusal :=
  let x := s.flow f.toNat
  let ms := s.fld F.TH_CTRL_STALL_MS
  let oldest := x.held.foldl (fun acc h => min acc h.time) s.elapsed
  if x.held ≠ [] ∧ x.stalled = false ∧ ms ≠ 0 ∧ max x.moved oldest + ms * 1000000 ≤ s.elapsed then
    .next ((s.setFlow f.toNat { x with stalled := true }).event F.TH_EVENT_STALL .warn 0 f.toNat 0 0)
  else .next s

/-- MEDIA_TOKEN_TIMEOUT: no mapping completed the receive slot by B_f + 20 µs (R149). -/
def execMediaTokenTimeout (n : BitVec 13) (s : State) : Host.Outcome State Fault Refusal :=
  match s.chan n.toNat with
  | none => .next s
  | some c =>
    match c.mediaDue with
    | none => .next s
    | some f =>
      if c.nextB + 20000 ≤ s.nowNs + frameNs c.frame ∧ s.mode ≠ 10 then
        .next ((s.setChan n.toNat { c with mediaDue := none }).sourceTokens n.toNat 17 f)
      else .next s

/-! ## Counters (R179) -/

/-- POOL_HWM_RESTART: TH_POOL_HWM.RESTART. -/
def State.poolRestart (s : State) : State := (s.setFld F.TH_POOL_HWM_HWM s.poolUsed).setFld F.TH_ORD_HWM s.ordUsed
def execPoolHwmRestart (s : State) : Host.Outcome State Fault Refusal := .next s.poolRestart

/-- CLR_HIST: TH_QCFG.CLR_HIST of queue `q` (R175). -/
def State.clrHist (s : State) (q : Nat) : State :=
  let h := s.th.hist.filter fun e => e.1 / 16 ≠ q
  { s with th := { s.th with hist := h } }
def execClrHist (q : BitVec 7) (s : State) : Host.Outcome State Fault Refusal :=
  .next (if q.toNat / 8 < s.clusters then s.clrHist q.toNat else s)

end Sys2Proof.Machine
end

