-- ==== Sys2Proof/Machine/Idle.lean ====
section
/-! DEFINITION. What the passage of time does while no command waits (DESIGN CHOICE): one period of REF25_IN. -/
namespace Sys2Proof.Machine

/-- A local timer after one period: it counts microseconds (R137). A timer that is due keeps the count 1 until
LOCAL_TIMER_EXPIRY. -/
def Core.countTimer (c : Core) : Core :=
  if c.timer = 0 then c
  else if c.timerFrac + 40 < 1000 then { c with timerFrac := c.timerFrac + 40 }
  else if c.timer = 1 then { c with timerFrac := 1000 }
  else { c with timer := c.timer - 1, timerFrac := c.timerFrac + 40 - 1000 }

/-- The present power estimate in 0.1 W, a free value (R479). -/
def State.powerNow (s : State) : Nat := (Config.powerNow s.elapsed (s.fld F.ST_VREAD_I_QA)).toNat

/-- PW_POWER.PEAK follows the estimate (R495). -/
def State.powerPeak (s : State) : State := s.setFld F.PW_POWER_PEAK (max (s.fld F.PW_POWER_PEAK) s.powerNow)

/-- One period of the 25 MHz reference (R11, R284): device time goes on; Compass and the local timers count while the
reference is there (R137, R294) and the device is not in THERMOS (R476). -/
def State.idle (s : State) : State :=
  let s := ({ s with elapsed := s.elapsed + 40 } : State).powerPeak
  if s.flag F.CP_STATUS_REF_LOST ∨ s.mode = 9 then s
  else
    let s := s.compassPeriod
    { s with cores := s.cores.map fun e => (e.1, e.2.countTimer) }

end Sys2Proof.Machine
end

