-- ==== Sys2Proof/Machine/Takeover.lean ====
section
/-! DEFINITION. Attachment, takeover and failback (R418, R426-R436), and the registers of links, keys and slots (R411, R412, R427). -/
namespace Sys2Proof.Machine

/-! ## Attachment (R418) -/

/-- The slot's shadow pages hold the tables and contexts of the given sizes in granules. -/
def State.shadowFits (s : State) (i : Nat) (ctxs : List Nat) : Bool :=
  decide (3 ≤ s.fld (F.TW_PRI_SHADOW_PAGES i) - s.fld (F.TW_PRI_LOG_LOG_PAGES i))
    && (ctxs.zipIdx.foldl (fun (acc : Option State) e => match acc with
      | none => none
      | some x => (x.shadowPlace i e.1).map fun a => x.setSh i e.2 { ShChan.init with granules := e.1, ctx := a }) (some (s.clearSlot i))).isSome

/-- The first check that fails, or 0. -/
def State.attachRefuse (s : State) (i : Nat) (ctxs : List Nat) (exact : Nat) (major : Bool) : Nat :=
  let peer := s.fld (F.TW_PRI_CFG_PEER i)
  let other : Bool := (List.range 4).any fun j => j ≠ i && s.flag (F.TW_PRI_CFG_EN j) && s.fld (F.TW_PRI_CFG_PEER j) = peer
  if s.fuse.small ∧ ctxs.length > 4096 then 1
  else if major then 2
  else if s.shadowFits i ctxs = false then 3
  else if exact > 1024 then 4
  else if s.mode ≠ 5 ∨ other then 5
  else 0

/-- ATTACH_CHECK. -/
def execAttachCheck (i : Fin 4) (ctxs : List Nat) (exact : Nat) (major minor : Bool) (s : State) : Host.Outcome State Fault Refusal :=
  let i := i.val
  let peer := s.fld (F.TW_PRI_CFG_PEER i)
  let up : Bool := match s.linkOf peer with
    | some l => s.fabOn && decide ((s.link l).state = 2)
    | none => false
  .next (if s.flag (F.TW_PRI_CFG_EN i) ∧ s.slotState i = 0 ∧ up then
    let r := s.attachRefuse i ctxs exact major
    let s := s.setFld (F.TW_PRI_STAT_REFUSE i) r
    if r = 0 then
      let s := (s.clearSlot i).setSlotState i 1
      if minor then s.twCount 30 1 else s
    else (s.twCount 19 1).event F.TW_EVENT_ATTACH_FAIL .warn i peer r 0
  else s)

/-! ## Fencing (R428) -/

/-- FENCE_REPEAT: every 5 ms in SUSPECT. -/
def execFenceRepeat (i : Fin 4) (s : State) : Host.Outcome State Fault Refusal :=
  .next (if s.slotState i.val = 3 ∧ s.elapsed ≥ (s.twSlot i.val).fencedAt + 5000000 then s.sendFence i.val else s)

/-- FENCE_SLOW: no confirmation within 50 ms. -/
def execFenceSlow (i : Fin 4) (s : State) : Host.Outcome State Fault Refusal :=
  let x := s.twSlot i.val
  .next (if s.slotState i.val = 3 ∧ x.slow = false ∧ s.elapsed ≥ x.suspectAt + 50000000 then
    (s.setTwSlot i.val { x with slow := true }).raise .warn 0x09 i.val 0x0181 (s.fld (F.TW_PRI_CFG_PEER i.val)) 0 0
  else s)

/-- DIRECT_LINK_EVIDENCE: the direct port has been link-down for 500 µs. -/
def execDirectLinkEvidence (i : Fin 4) (s : State) : Host.Outcome State Fault Refusal :=
  let p := s.fld (F.TW_PRI_CFG_DIRECT_PORT i.val)
  let down : Bool := p < 4 && !s.flag (F.EP_STATUS_LINK p) && (match (s.port p).downAt with
    | some t => decide (s.elapsed ≥ t + 500000)
    | none => false)
  .next (if s.slotState i.val = 3 ∧ down then s.confirmFence i.val 3 else s)

/-- A TAKEOVER or FORCE write is ignored: the slot is not READY or SUSPECT, or another is past SUSPECT (R427). -/
def State.takeoverRefused (s : State) (i : Nat) : Bool :=
  (s.slotState i ≠ 2 && s.slotState i ≠ 3) || (List.range 4).any fun j => j ≠ i && decide (3 < s.slotState j)

/-- TW_PRI_CFG.TAKEOVER or, with `force`, TW_PRI_CFG.FORCE. -/
def State.takeover (s : State) (i : Nat) (force : Bool) : State :=
  if s.takeoverRefused i then s.configRefused (R.TW_PRI_CFG i) (if force then 30 else 31)
  else
    let s := s.suspect i
    if force then s.confirmFence i 0 else s

/-- TAKEOVER. -/
def execTakeover (i : Fin 4) (s : State) : Host.Outcome State Fault Refusal := .next (s.takeover i.val false)

/-- FORCE: host evidence; a READY slot passes through SUSPECT (R428). -/
def execForce (i : Fin 4) (s : State) : Host.Outcome State Fault Refusal := .next (s.takeover i.val true)

/-! ## Installation (R429, R430) -/

/-- A transmit SRTP context begins anew with its ROC and LAST_SEQ; a receive context loses its replay bitmap. -/
def srtpInstalled (w : List Nat) : List Nat :=
  if bit (nth w 0) 4 then setAt w 0 (setBits (nth w 0) 7 1 0) else setAt (setAt (setAt (setAt w 4 0) 5 0) 6 0) 7 0

/-- The slot's primary has its addresses on every port with a media role. -/
def State.installAddrs (s : State) (i : Nat) : State :=
  (List.range 4).foldl (fun s p =>
    if bits (s.fld (F.EP_CTRL_ROLES p)) 0 2 = 0 then s
    else
      let s := if s.flag (F.TW_PRI_ADDR_A_EN i) then s.setFlag (F.EP_UCAST_HI_VALID p (s.fld (F.TW_PRI_ADDR_UCAST_A i))) true else s
      if s.flag (F.TW_PRI_ADDR_B_EN i) then s.setFlag (F.EP_UCAST_HI_VALID p (s.fld (F.TW_PRI_ADDR_UCAST_B i))) true else s) s

/-- The slot's tables take the place of the device's own. -/
def State.installTables (s : State) (i : Nat) : State :=
  let x := s.twSlot i
  let srtp := x.srtp.map fun e => (e.1, srtpInstalled e.2)
  { s with tw := { s.tw with installed := some i }, ep := { s.ep with srtp := srtp }, td := { s.td with slots := x.tdm } }

/-- A channel of the shadow can be taken over: it has a class, a full checkpoint and its flow entries. -/
def ShChan.takeable (c : ShChan) : Bool := c.full && decide (c.cls ≠ 0) && !c.noFlow

/-- Resumes one channel from its last applied checkpoint, or closes it. -/
def State.installChan (s : State) (i n : Nat) (c : ShChan) : State :=
  if c.takeable ∧ n < s.chanLimit then
    let w0 := s.word c.ctx
    let stagger := bits (s.word (c.ctx + 4)) 0 6
    let f := c.last.getD 0
    s.adopt ⟨n, c.ctx, c.granules, .opened, s.homeChoice.getD 0, (f + 1) % 16384, firstBoundary c.stage (bits w0 20 2) stagger⟩
  else
    (s.incS F.TW_TKO_CLOSED 1).raise .warn 0x30 n 0x0303 n i 0

/-- Feeds the log of a slot to the jitter buffers: of each channel the frames received from 100 µs before its STAGE_NS on;
`tagOks`: whether the SRTP tag of each logged frame verifies. -/
def State.feedLog (s : State) (i : Nat) (tagOks : List Bool) : State :=
  let x := s.twSlot i
  (x.log.zip (tagOks ++ List.replicate x.log.length true)).foldl (fun s e =>
    s.feedFrame e.1.port e.1.bytes e.2 fun n => match mfind x.chans n with
      | some c => c.takeable && decide (c.stage ≤ e.1.time + 100000)
      | none => false) s

/-- The transition to ACT_MODE can end, or has ended. -/
def State.installReady (s : State) (i : Nat) : Bool :=
  s.slotState i = 4 && s.tw.installed.isNone && (match s.gl.trans with
    | some t => t.auto && t.target = s.fld (F.TW_PRI_CFG_ACT_MODE i) && serviceMode t.target
    | none => serviceMode s.mode)

/-- The whole installation. -/
def State.install (s : State) (i : Nat) (tagOks : List Bool) : State :=
  let s := (s.setFld F.TW_TKO_CLOSED 0).endTrans []
  let s := (s.installTables i).installAddrs i
  let s := (s.twSlot i).chans.foldl (fun s e => s.installChan i e.1 e.2) s
  s.budgetCheck.feedLog i tagOks

/-- SLOT_INSTALLED. -/
def execSlotInstalled (i : Fin 4) (tagOks : List Bool) (s : State) : Host.Outcome State Fault Refusal :=
  .next (if s.installReady i.val then s.install i.val tagOks else s)

/-- INGRESS_LOG_EXPIRY: frames older than LOG_MS leave the log (R426). -/
def execIngressLogExpiry (i : Fin 4) (s : State) : Host.Outcome State Fault Refusal :=
  let x := s.twSlot i.val
  let t := s.time1588
  let l := x.log.filter fun f => decide (t ≤ f.time + s.fld (F.TW_PRI_LOG_LOG_MS i.val) * 1000000)
  let span := match l with
    | [] => 0
    | f :: _ => min 65535 ((t - f.time) / 1000000)
  .next ((s.setTwSlot i.val { x with log := l }).setFld (F.TW_PRI_LAG_LOG_HELD_MS i.val) span)

/-! ## Announcements (R432) -/

/-- A gratuitous ARP request, or an unsolicited neighbour advertisement with override, for the source of a header. -/
def announceFrame (h : List Byte) : List Byte :=
  let ip := ipStart h
  let mac := slice h 6 6
  let tag := slice h 12 (ip - 14)
  if get16 h (ip - 2) = 0x86DD then
    let src := slice h (ip + 8) 16
    let all : List Byte := [0xFF, 0x02, 0, 0, 0, 0, 0, 0, 0, 0, 0, 0, 0, 0, 0, 1]
    let body : List Byte := [136, 0, 0, 0, 0x20, 0, 0, 0] ++ src ++ [2, 1] ++ mac
    let sum := inetSum (src ++ all ++ beBytes 4 body.length ++ [0, 0, 0, 58] ++ body)
    padFrame (([0x33, 0x33, 0, 0, 0, 1] : List Byte) ++ mac ++ tag ++ [0x86, 0xDD, 0x60, 0, 0, 0] ++ beBytes 2 body.length
      ++ [58, 255] ++ src ++ all ++ put16 body 2 sum)
  else
    let src := slice h (ip + 12) 4
    padFrame (List.replicate 6 0xFF ++ mac ++ tag ++ [0x08, 0x06, 0, 1, 8, 0, 6, 4, 0, 1] ++ mac ++ src
      ++ List.replicate 6 0 ++ src)

/-- Offset of each send from the first, in ns. -/
def announceAt (k : Nat) : Nat := nth [0, 20000000, 100000000] k

/-- GRATUITOUS_ANNOUNCE: send of announcement `n` of a slot on every port that holds its plane's role. -/
def execGratuitousAnnounce (i : Fin 4) (n : BitVec 8) (s : State) : Host.Outcome State Fault Refusal :=
  let x := s.twSlot i.val
  .next (match x.announce[n.toNat]? with
    | none => s
    | some a =>
      if a.sent < 3 ∧ s.elapsed ≥ a.at_ + announceAt a.sent then
        let s := s.setTwSlot i.val { x with announce := setAt x.announce n.toNat { a with sent := a.sent + 1 } }
        ((List.range 4).filter fun p => bit (s.fld (F.EP_CTRL_ROLES p)) (b2n a.planeB)).foldl (fun s p =>
          (s.emit (.announce p (announceFrame a.hdr))).twCount 25 1) s
      else s)

/-! ## Link records, keys and epochs (R411, R412) -/

/-- A word of a link record as it reads. -/
def Link.show (x : Link) (i : Nat) : Nat :=
  if i = 14 then x.state + min 255 x.credit * 2 ^ 8 + min 127 x.unacked.length * 2 ^ 16
  else if i = 15 then x.serial % 2 ^ 32
  else x.word i

/-- The bits that a word of the record assigns. -/
def linkMask (i : Nat) : Nat := match i with
  | 0 => 0xFFFFF
  | 10 => 0xFFFF0000
  | 12 => 0xFFFF7F
  | 13 => 0x1FFF
  | _ => 0xFFFFFFFF

/-- The fields of word 11 or 12 that carry a reserved encoding: their lowest bit and width. -/
def linkReserved (i v : Nat) : List (Nat × Nat) :=
  if i = 11 then
    (let m := bits v 16 16
     if m < 256 ∨ m > 8192 ∨ m % 16 ≠ 0 then [(16, 16)] else [])
  else if i = 12 then
    (if bits v 0 7 = 0 ∨ bits v 0 7 > 64 then [(0, 7)] else []) ++ (if bits v 8 16 < 50 ∨ bits v 8 16 > 10000 then [(8, 16)] else [])
  else []

/-- A write of word 0: the link is enabled, disabled, or stays as it is. -/
def State.linkWord0 (s : State) (l v : Nat) : State :=
  let x := s.link l
  let dup : Bool := (List.range 64).any fun k => k ≠ l && (s.link k).en && decide ((s.link k).peer = bits v 0 14)
  if bit v 14 ∧ dup then s.configRefused R.TW_LINK_DATA 0
  else
    let was := x.en
    let s := s.setLink l { x with words := mput x.words 0 v }
    if was = false ∧ bit v 14 then (s.setLink l ((s.link l).restart s.elapsed)).linkState l 1
    else if was ∧ bit v 14 = false then s.linkState l 0
    else s

/-- A write of the selected word. -/
def State.linkWrite (s : State) (l i v : Nat) : State :=
  let v := v &&& linkMask i
  let x := s.link l
  if i = 0 then s.linkWord0 l v
  else if i ≥ 14 then s
  else if x.en then s.configRefused R.TW_LINK_DATA 0
  else
    let bad := linkReserved i v
    let w := bad.foldl (fun w f => setBits w f.1 f.2 (bits (x.word i) f.1 f.2)) v
    let s := s.setLink l { x with words := mput x.words i w }
    match bad with
    | [] => s
    | f :: _ => s.reservedEncoding R.TW_LINK_DATA f.1

/-- TW_LINK_DATA_ACCESS. -/
def execTwLinkDataAccess (write : Bool) (v : BitVec 32) (s : State) : Host.Outcome State Fault Refusal :=
  let l := s.fld F.TW_LINK_SEL_LINK
  let i := s.fld F.TW_LINK_SEL_WORD
  let s' : State := if write then s.linkWrite l i v.toNat else { s with lastRead := (s.link l).show i }
  .next (s'.setFld F.TW_LINK_SEL_WORD ((i + 1) % 16))

/-- TW_KEY_DATA_WRITE. -/
def execTwKeyDataWrite (v : BitVec 32) (s : State) : Host.Outcome State Fault Refusal :=
  let i := s.fld F.TW_KEY_SEL_WORD
  let old := if s.tw.keyNext = [] then List.replicate 8 0 else s.tw.keyNext
  let s' : State := { s with tw := { s.tw with keyNext := setAt old i v.toNat } }
  let s' := if i = 7 then s'.setFlag F.TW_STATUS_KEY_NEXT true else s'
  .next (s'.setFld F.TW_KEY_SEL_WORD ((i + 1) % 8))

/-- TW_EPOCH.SWITCH (R411). -/
def State.epochSwitch (s : State) : State :=
  if s.flag F.TW_STATUS_KEY_NEXT then
    let link := s.tw.link.map fun e => (e.1, { e.2 with txc := 0, rxPrev := e.2.rxCur, rxCur := none })
    let s : State := { s with tw := { s.tw with
      link := link, keyPrev := s.tw.keyCur, keyCur := s.tw.keyNext, keyNext := [], switchAt := some s.elapsed } }
    let s := s.setFld F.TW_EPOCH_CUR ((s.fld F.TW_EPOCH_CUR + 1) % 256)
    (s.setFlag F.TW_STATUS_KEY_NEXT false).setFlag F.TW_EVENT_EPOCH_SWITCH true
  else s.configRefused R.TW_EPOCH 8

/-- EPOCH_SWITCH. -/
def execEpochSwitch (s : State) : Host.Outcome State Fault Refusal := .next s.epochSwitch

/-! ## MIGRATE (R434) -/

/-- MIGRATE. -/
def execMigrate (c : HCmd) (s : State) : Host.Outcome State Fault Refusal :=
  let n := arg c 0
  .next (s.jobCommand c 0x65 (argMask c [0x1FFF, 0x1FFF3FFF, 0xFFFF]) true (some n) false (fun j => nth j.args 0 = n) 1 fun s o =>
    match s.chan n with
    | none => s.complete o 8 0 []
    | some ch =>
      if ch.st ≠ .opened then s.complete o 6 0 []
      else match s.linkOf (bits (arg c 1) 0 14) with
        | none => s.complete o 8 0 []
        | some l =>
          if s.fabOn = false ∨ (s.link l).state ≠ 2 then s.complete o 8 0 []
          else
            let s := (s.putChan n { ch with st := .migOut }).addJob (newJob c o .running [l, 0, 0, 0, 0, 0] 4)
            s.migSend l (.request n (bits (arg c 1) 16 13) ch.frame ch.mirror ch.stagger ch.units ch.granules))

/-- MIGRATE_SWITCH: the boundary of the switch has come. -/
def execMigrateSwitch (n : BitVec 13) (s : State) : Host.Outcome State Fault Refusal :=
  let n := n.toNat
  .next (match s.migJob n, s.chan n with
    | some j, some ch =>
      if j.step = 2 ∧ s.nowNs ≥ nth j.work 3 then
        let s := s.putChan n { ch with tomb := true, mediaDue := none }
        let s := (s.cancelEntries n).orphanCells n
        let ch := (s.chan n).getD ch
        let s := s.migCheckpoint n ch j (nth j.work 4) (nth j.work 3) true
        let fwd := nth j.args 2 * 1000000
        let s := s.setJob { j with step := 3, done := 3, work := setAt j.work 5 (s.elapsed + fwd) }
        (s.jobProgress j.handle false).twCount 26 1
      else s
    | _, _ => s)

/-- MIGRATE_FORWARD_END: forwarding ends, the source closes the channel, and the job is done. -/
def execMigrateForwardEnd (n : BitVec 13) (s : State) : Host.Outcome State Fault Refusal :=
  let n := n.toNat
  .next (match s.migJob n with
    | some j =>
      if j.step = 3 ∧ s.elapsed ≥ nth j.work 5 then
        let s := match s.chan n with
          | some ch => if ch.st = ChanState.closing then s else s.beginClose n none
          | none => s
        let s := s.setJob { j with done := 4 }
        s.endJob j.handle 0 0 [j.migDst, nth j.work 4]
      else s
    | none => s)

/-! ## EVACUATE and CHECKPOINT_ALL (R435, R436) -/

/-- EVACUATE. -/
def execEvacuate (c : HCmd) (s : State) : Host.Outcome State Fault Refusal :=
  .next (s.jobCommand c 0x66 (argMask c [0x3FFF]) true none false (fun _ => true) 1 fun s o =>
    if arg c 0 ≠ s.fld F.TW_TWIN_TWIN then s.complete o 5 0 []
    else match s.twinLink with
      | none => s.complete o 6 0 []
      | some l =>
        if (s.link l).peerSlots.any (· = 2) = false then s.complete o 6 0 []
        else
          let w := s.mirrored
          s.addJob { newJob c o .running w w.length with step := if w = [] then 1 else 0 })

/-- EVACUATE_FENCE: every MIRROR frame is acknowledged; the source fences itself. -/
def execEvacuateFence (s : State) : Host.Outcome State Fault Refusal :=
  .next (match s.evacJob, s.twinLink with
    | some j, some l =>
      if j.step = 2 ∧ j.st = .running ∧ s.tw.notes = [] ∧ s.mirrorOut l = false then
        let s := ((s.fabQueue l (.fence true) 0).setJob { j with step := 3 }).trigger 10
        { s with tw := { s.tw with evacLink := some l, evacAt := s.elapsed } }
      else s
    | _, _ => s)

/-- EVACUATE_FENCE_REPEAT. -/
def execEvacuateFenceRepeat (s : State) : Host.Outcome State Fault Refusal :=
  .next (match s.tw.evacLink with
    | some l =>
      if s.elapsed ≥ s.tw.evacAt + 5000000 then
        let s := s.fabQueue l (.fence true) 0
        { s with tw := { s.tw with evacAt := s.elapsed } }
      else s
    | none => s)

/-- CHECKPOINT_ALL. -/
def execCheckpointAll (c : HCmd) (s : State) : Host.Outcome State Fault Refusal :=
  .next (s.jobCommand c 0x68 (argMask c []) true none false (fun _ => true) 1 fun s o =>
    let w := if s.flag F.TW_TWIN_EN then s.mirrored else []
    match s.twinLink with
    | none => if s.flag F.TW_TWIN_EN then s.complete o 6 0 [] else (s.addJob (newJob c o .running [] 0)).endJob o.handle 0 0 []
    | some l =>
      let s := s.addJob { newJob c o .running w w.length with step := if w = [] then 1 else 0 }
      if w = [] then s.checkpointAllDone l else s)

end Sys2Proof.Machine
end

