-- ==== Sys2Proof/Machine/Views.lean ====
section
/-! DEFINITION. What a register shows when it is read: the fields that follow other state, the registers that a part does not
have (R2, R509), and the effects of a read (R18, R23, R285, R511). -/
namespace Sys2Proof.Machine

/-! ## Which registers exist -/

/-- A cluster register of the ranges that repeat by cluster, on a cluster that a ZG4096 has not (R2). -/
def smallOff (a : Nat) : Bool :=
  let beyond (base stride n : Nat) : Bool := base + n * stride ≤ a && a < base + 2 * n * stride
  beyond 0x10100 16 8 || beyond 0x30100 8 8 || beyond 0x30400 8 64 || beyond 0x40100 16 8 || beyond 0x60100 8 8 || beyond 0x70100 8 8
    || beyond 0x200000 0x10000 8 || beyond 0x400000 0x1000 72

/-- The register answers: it exists on this part (R2, R509), and the mailbox in LANTERN alone (R375, R496). -/
def State.regAnswers (s : State) (a : Nat) : Bool :=
  !(s.fuse.small && smallOff a) && !(decide (0x2000000 ≤ a) && decide (a < 0x3000000) && s.mode ≠ 7)

/-! ## Fields that follow other state -/

/-- Instance number of a register that repeats at a stride. -/
def instOf (base stride n a : Nat) : Option Nat :=
  if base ≤ a ∧ (a - base) % stride = 0 ∧ (a - base) / stride < n then some ((a - base) / stride) else none

def maskOf (n : Nat) (p : Nat → Bool) : Nat := (List.range n).foldl (fun acc i => acc + b2n (p i) * 2 ^ i) 0
def countOf (n : Nat) (p : Nat → Bool) : Nat := ((List.range n).filter p).length

/-- The GL_ and PW_ fields. -/
def State.viewPower (s : State) (f : Fld) : Nat :=
  if f = F.GL_MODE_CHANGING then b2n s.gl.trans.isSome
  else if f = F.GL_STATUS_PERST_COLD then b2n s.perstCold
  else if f = F.PW_POWER_NOW then s.powerNow
  else s.fld f

/-- ST_LOAD[c] (R55, R67). -/
def State.viewSupervisor (s : State) (f : Fld) : Nat :=
  match instOf (R.ST_LOAD 0) 16 16 f.addr with
  | some c =>
    if f.lo = 0 then min 1023 (s.busySum c / s.active c)
    else if f.lo = 10 then s.active c
    else min 65535 (s.committedIn c)
  | none => s.fld f

/-- The HI_ fields (R405). -/
def State.viewHost (s : State) (f : Fld) : Nat :=
  if f = F.HI_STATUS_RINGS then countOf 64 fun r => s.ringState r ≠ 0
  else if f = F.HI_JOBS_IN_USE then s.hi.jobs.length
  else if f = F.HI_JOBS_HELD then (s.hi.jobs.filter fun j => j.st = .held).length
  else match instOf (R.HI_RSTAT 0) 16 64 f.addr with
    | some r =>
      if f.lo = 8 then
        (if s.ringKind r = 0 then ((s.ring r).tail + 2 ^ 32 - (s.ring r).head) % 2 ^ 32
          else if s.ringKind r = 1 ∧ s.ringState r ≠ 0 then s.hi.bufs.length else 0)
      else s.fld f
    | none => s.fld f

/-- TH_FLOW_STAT of a flow (R179). -/
def State.viewFlow (s : State) (lo : Nat) : Nat :=
  let f := s.fld F.TH_FLOW_SEL_FLOW
  let x := s.flow f
  if (s.chan (f / 2)).isNone then 0
  else if lo = 0 then x.next
  else if lo = 16 then
    x.held.length + (s.resvs.filter fun r => match r with
      | .item g _ _ _ _ _ => g = f
      | _ => false).length
  else b2n x.stalled

/-- The TH_ fields (R179). -/
def State.viewTrail (s : State) (f : Fld) : Nat :=
  if f = F.TH_STATUS_POOL_LOW then b2n (decide (65536 < s.poolUsed + 4096))
  else if f = F.TH_STATUS_ORD_LOW then b2n (decide (32768 < s.ordUsed + 2048))
  else if f = F.TH_STATUS_TOMB_FULL then b2n (decide (1024 ≤ s.chans.foldl (fun acc c => acc + c.2.tombs.length) 0))
  else if f = F.TH_STATUS_STALLED then (s.th.flows.filter (·.2.stalled)).length
  else if f = F.TH_POOL_IN_USE then s.poolUsed
  else if f = F.TH_ORD_HELD then s.ordUsed
  else if f.addr = R.TH_FLOW_STAT then s.viewFlow f.lo
  else if f = F.TH_HIST_DATA_COUNT then mget 0 s.th.hist (16 * s.fld F.TH_HIST_SEL_QUEUE + s.fld F.TH_HIST_SEL_BIN)
  else if f = F.TH_CORE_BUSY_BUSY then min 1023 (mget 0 s.th.busy (s.fld F.TH_CORE_SEL_LOGICAL))
  else if f = F.TH_CORE_BUSY_DISPATCHES then min 65535 (mget 0 s.th.disp (s.fld F.TH_CORE_SEL_LOGICAL))
  else if f = F.TH_CORE_BUSY_MAPPED then
    b2n ((List.range s.coreCount).any fun k => s.mapped k && decide (s.logical k = s.fld F.TH_CORE_SEL_LOGICAL))
  else if f = F.TH_CANCEL_CNT_TOMBS then s.chans.foldl (fun acc c => acc + c.2.tombs.length) 0
  else match instOf (R.TH_CLOAD 0) 8 16 f.addr, instOf (R.TH_QSTAT 0) 8 128 f.addr with
    | some c, _ =>
      if f.lo = 0 then countOf 9 fun i => (s.core (9 * c + i)).run.isSome
      else if f.lo = 4 then countOf 9 fun i => (s.core (9 * c + i)).waiting
      else (List.range 8).foldl (fun acc l => acc + (s.queueAt (8 * c + l)).length) 0
    | _, some q =>
      if f.lo = 0 then (s.queueAt q).length
      else match s.queueAt q with
        | e :: _ => min 0x7FFF ((s.elapsed - e.since) / 1000)
        | [] => 0
    | none, none => s.fld f

/-- Granules of the context region's mapped pages that no context takes (R192). -/
def State.freeGranules (s : State) : Nat :=
  let first := s.fld F.HP_CTX_REGION_FIRST_PAGE
  let n := s.fld F.HP_CTX_REGION_PAGES
  let mapped := countOf n fun i => (s.physPage (first + i)).isSome
  let used := s.chans.foldl (fun acc c =>
    let p := c.2.ctx / pageBytes
    if first ≤ p ∧ p < first + n ∧ (s.physPage p).isSome then acc + c.2.granules else acc) 0
  mapped * (pageBytes / granuleBytes) - used

/-- HP_PAGE_DATA of the selected page (R188, R212). -/
def State.viewPage (s : State) (lo : Nat) : Nat :=
  let p := s.fld F.HP_PAGE_SEL_PAGE
  let m := s.hp.moves.find? (·.page = p)
  if lo = 0 then (s.physPage p).getD 0
  else if lo = 13 then b2n (s.physPage p).isSome
  else if lo = 14 then b2n m.isSome
  else if lo = 15 then
    match s.physPage p with
    | some q => b2n (s.hp.poison.any fun e => e.2 && decide (e.1 * 8 / pageBytes = q))
    | none => 0
  else match m with
    | some m => m.line
    | none => 0

/-- The HP_ fields (R212). -/
def State.viewHamper (s : State) (f : Fld) : Nat :=
  if f = F.HP_STATUS_MOVES then s.hp.moves.length
  else if f = F.HP_STATUS_SPARE_LOW then b2n (decide (s.hp.pool.length < 4))
  else if f = F.HP_STATUS_CTX_LOW then b2n (decide (s.freeGranules < 64))
  else if f = F.HP_PAGE_CFG_FREE then min 255 s.hp.pool.length
  else if f.addr = R.HP_PAGE_DATA then s.viewPage f.lo
  else if f.addr = R.HP_WIN_DATA then bits (s.win (s.fld F.HP_WIN_SEL_SLOT)) f.lo f.w
  else match instOf (R.HP_CSTAT 0) 16 16 f.addr, instOf (R.HP_PC_STAT 0) 8 16 f.addr with
    | some c, _ => if f.lo = 0 then (s.heldSlots c).length else if f.lo = 8 then s.slotWaiters c else s.fld f
    | _, some i =>
      if f.lo = 8 then (s.fuse.ppr.getD i 0).toNat - mget 0 s.hp.pprUsed i
      else if f.lo = 17 then s.fld F.PW_STATUS_HBM_SR
      else s.fld f
    | none, none => s.fld f

/-- The CP_ fields (R286, R287). -/
def State.viewCompass (s : State) (f : Fld) : Nat :=
  if f = F.CP_STATUS_SLEWING then b2n (decide (s.cp.residue ≠ 0))
  else if f = F.CP_FREQ_ACT_FREQ then unsgn 32 s.freqAct
  else if f = F.CP_ADJ_ADJ_NS then unsgn 32 (s.cp.residue / 4294967296)
  else if f = F.CP_NS_LO_NS then s.nowNs % 2 ^ 32
  else if f = F.CP_NS_HI_NS then s.nowNs / 2 ^ 32
  else if f = F.CP_NSEC_NSEC then s.cp.ns
  else s.fld f

/-- RL_FIFO[j]: an entry that waits, the oldest first (R468). -/
def State.viewFifo (s : State) (j lo : Nat) : Nat :=
  match s.rl.fifo[j]? with
  | none => 0
  | some r =>
    if lo = 0 then r.src
    else if lo = 8 then r.code
    else if lo = 20 then r.cls.code
    else if lo = 23 then min 255 r.count
    else 1

/-- The RL_ fields (R468). -/
def State.viewReports (s : State) (f : Fld) : Nat :=
  if f = F.RL_STATUS_FIFO_FULL then b2n (decide (60 ≤ s.rl.fifo.length))
  else if f = F.RL_FIFO_STAT_DEPTH then s.rl.fifo.length
  else match instOf (R.RL_FIFO 0) 4 64 f.addr with
    | some j => s.viewFifo j f.lo
    | none => s.fld f

/-- The RK_ fields (R373). -/
def State.viewRucksack (s : State) (f : Fld) : Nat :=
  if f = F.RK_STATUS_IN_SERVICE then maskOf 4 fun e => s.fld (F.RK_ENG_STATE e) < 2
  else if f = F.RK_STATUS_BUSY then maskOf 4 fun e => s.fld (F.RK_ENG_STATE e) = 1
  else if f = F.RK_QSTAT_CELL_DEPTH then s.rk.cellQ.length
  else if f = F.RK_QSTAT_HOST_DEPTH then s.rk.hostQ.length
  else s.fld f

/-- The TW_ fields (R412, R439). -/
def State.viewFabric (s : State) (f : Fld) : Nat :=
  if f = F.TW_STATUS_ROLE then s.twRole
  else if f = F.TW_LINK_DATA_DATA then (s.link (s.fld F.TW_LINK_SEL_LINK)).show (s.fld F.TW_LINK_SEL_WORD)
  else s.fld f

/-- The MG_ fields (R283). -/
def State.viewMgmt (s : State) (f : Fld) : Nat :=
  if f.addr = R.MG_WAKE_DATA then mget 0 s.mg.wake (32 * s.fld F.MG_WAKE_SEL_PATTERN + s.fld F.MG_WAKE_SEL_WORD) else s.fld f

/-- The TD_ fields (R308). -/
def State.viewTdm (s : State) (f : Fld) : Nat :=
  if f.addr = R.TD_SLOT_DATA then bits (s.tdSlot (s.fld F.TD_SLOT_SEL_HWY) (s.fld F.TD_SLOT_SEL_SLOT)) f.lo f.w
  else match instOf (R.TD_HSTAT 0) 16 16 f.addr, instOf (R.TD_HFILL 0) 16 16 f.addr with
    | some h, _ => countOf 512 fun k => bit (s.tdSlot h k) 18
    | _, some h => if f.lo = 0 then 512 * (s.hwy h).rx.length else 512 * (s.hwy h).tx.length
    | none, none => s.fld f

/-- The BS_ fields (R331, R336). -/
def State.viewBits (s : State) (f : Fld) : Nat :=
  if f.addr = R.BS_COEF_DATA then
    mget 0 s.bs.coef (128 * s.fld F.BS_COEF_SEL_GROUP + 64 * s.fld F.BS_COEF_SEL_BANK + s.fld F.BS_COEF_SEL_TAP)
  else if f = F.BS_MAP_CNT_RX_MAPPED then countOf 256 fun b => s.flag (F.BS_CH_RX_EN b)
  else if f = F.BS_MAP_CNT_TX_MAPPED then countOf 256 fun b => s.flag (F.BS_CH_TX_EN b)
  else if f = F.BS_GD_GD_NS then
    (let c := s.groupCfg (s.fld F.BS_GD_SEL_GROUP)
     if s.flag F.BS_GD_SEL_DIR then c.tauTx else c.tauRx)
  else if f = F.BS_TIMED_USED then
    maskOf 16 fun t => (List.range 256).any fun b => s.flag (F.BS_CH_TIMED b) && decide (s.fld (F.BS_CH_TSLOT b) = t)
  else match instOf (R.BS_GFIR 0) 32 16 f.addr, instOf (R.BS_GRSMP 0) 32 16 f.addr with
    | some g, _ =>
      let x := s.bsGroup g
      if f.lo = 12 then b2n x.active
      else if f.lo = 13 then b2n x.fade.isSome
      else if f.lo = 14 then b2n x.queued.isSome
      else if f.lo = 15 then (match x.queued with
        | some q => b2n q.target
        | none => 0)
      else s.fld f
    | _, some g => if f.lo = 26 then b2n (s.groupSilent g) else s.fld f
    | none, none => s.fld f

/-- The EP_ fields (R268). -/
def State.viewPort (s : State) (f : Fld) : Nat :=
  let p := (f.addr - 0x100000) / 0x10000
  if f = F.EP_TS_STAT_USED p then s.tsUsed p
  else if f = F.EP_TS_CORR_RX_LAT p then (s.lat p).1
  else if f = F.EP_TS_CORR_TX_LAT p then (s.lat p).2
  else match instOf (R.EP_TXQ p 0) 4 8 f.addr with
    | some q => if f.lo = 16 then (s.txQueue p q).length else s.fld f
    | none => s.fld f

/-- The CL_ fields (R213, R513). -/
def State.viewCluster (s : State) (f : Fld) : Nat :=
  let c := (f.addr - 0x200000) / 0x10000
  if f = F.CL_STATUS_IN_SERVICE c then b2n (s.clusterIn c)
  else if f = F.CL_STATUS_ACTIVE c then s.active c
  else if f = F.CL_STATUS_SPARE_FREE c then b2n (bit (s.fld F.RL_SPARES_SPARE_FREE) c)
  else if f = F.CL_PATCH_DATA_CPS_BLOCK c then mget 0 s.mem.patch (c * 512 + s.fld (F.CL_PATCH_SEL_BLOCK c))
  else if f = F.CL_ROM_VER_VERSION c then (s.romRead c 0).toNat % 2 ^ 24
  else s.fld f

/-- The CO_ fields (R107). -/
def State.viewCore (s : State) (f : Fld) : Nat :=
  let k := (f.addr - 0x400000) / 0x1000
  if f = F.CO_STATUS_WAITING k then b2n (s.core k).waiting
  else if f = F.CO_STATUS_IN_NODE k then
    (match (s.core k).run with
      | some r => b2n (decide (r.e.kind = .node))
      | none => 0)
  else if f = F.CO_STATUS_SHADOW k then b2n (s.core k).inShadow
  else if f = F.CO_STATUS_OVL_BUSY k then b2n (s.core k).ovl.isSome
  else if f = F.CO_STATUS_GVT_SAT k then b2n (s.core k).gvtSat
  else s.fld f

/-- The LN_ fields (R506). -/
def State.viewLantern (s : State) (f : Fld) : Nat :=
  if f = F.LN_EVENT_EVT_PENDING then b2n (decide (s.ln.fifo ≠ [])) else s.fld f

/-- What a field shows. -/
def State.view (s : State) (f : Fld) : Nat :=
  let a := f.addr
  if a < 0x10000 then s.viewPower f
  else if a < 0x20000 then s.viewSupervisor f
  else if a < 0x30000 then s.viewHost f
  else if a < 0x40000 then s.viewTrail f
  else if a < 0x50000 then s.viewHamper f
  else if a < 0x60000 then s.viewCompass f
  else if a < 0x70000 then s.viewReports f
  else if a < 0x80000 then s.viewPower f
  else if a < 0x90000 then s.viewRucksack f
  else if a < 0xA0000 then s.viewFabric f
  else if a < 0xB0000 then s.viewMgmt f
  else if a < 0xC0000 then s.viewTdm f
  else if a < 0xD0000 then s.viewBits f
  else if a < 0x100000 then s.fld f
  else if a < 0x200000 then s.viewPort f
  else if a < 0x400000 then s.viewCluster f
  else if a < 0x2000000 then s.viewCore f
  else s.viewLantern f

/-! ## Reads -/

/-- The low word of each 64-bit counter, by its high word (R23, R285). -/
def lowWord : List (Nat × Nat) :=
  [(R.HI_CMD_HI, R.HI_CMD_LO), (R.RK_JOBS_HI, R.RK_JOBS_LO), (R.RK_IN_HI, R.RK_IN_LO), (R.RK_OUT_HI, R.RK_OUT_LO),
   (R.CP_NS_HI, R.CP_NS_LO), (R.BS_SYNC_NS_HI, R.BS_SYNC_NS_LO)]

/-- A word of the MSI-X table, and of its pending bits (R375, R383). -/
def State.msixWord (s : State) (a : Nat) : Nat :=
  if a < 0x4001400 then mget (b2n (decide (a / 4 % 4 = 3))) s.hi.msix ((a - 0x4001000) / 4)
  else if a = 0x4001800 then maskOf 32 s.hi.msixPend.contains
  else if a = 0x4001804 then maskOf 32 fun i => s.hi.msixPend.contains (32 + i)
  else 0

/-- The value of a register of the map as its fields show it. -/
def State.showWord (s : State) (l : List FSpec) : Nat :=
  l.foldl (fun acc x => if x.acc = .wo then acc else setBits acc x.f.lo x.f.w (s.view x.f)) 0

/-- The value that a read of an address returns (R2, R18, R23, R375, R509). -/
def State.regValue (s : State) (a : Nat) : Nat :=
  if 0x4001000 ≤ a ∧ a < 0x4002000 then s.msixWord a
  else if s.regAnswers a = false then 0
  else match fieldsAt a with
    | none => 0
    | some l => match lowWord.find? (·.1 = a) with
      | some p => mget 0 s.hi.latch p.2
      | none => s.showWord l

/-- The effects of a read other than its value: fields of code RC are cleared (R18); a low word latches its high word (R23);
CP_NSEC latches the seconds (R285); CP_CAP_SEC clears VALID (R297); LN_MBX_STAT clears DONE (R498); and selectors advance (R511). -/
def State.readEffects (s : State) (a : Nat) (l : List FSpec) : State :=
  let s := (l.filter fun x => x.acc = .rc).foldl (fun s x => s.setFld x.f 0) s
  match lowWord.find? (·.2 = a) with
  | some p =>
    let high := match fieldsAt p.1 with
      | some h => s.showWord h
      | none => 0
    { s with hi := { s.hi with latch := mset 0 s.hi.latch a high } }
  | none =>
    if a = R.CP_NSEC then (s.setFld F.CP_SEC_LO_SEC_LO s.cp.sec).setFld F.CP_SEC_HI_SEC_HI (s.cp.sec / 2 ^ 32)
    else if a = R.BS_COEF_DATA then s.setFld F.BS_COEF_SEL_TAP (s.fld F.BS_COEF_SEL_TAP + 1)
    else if a = R.TW_LINK_DATA then s.setFld F.TW_LINK_SEL_WORD (s.fld F.TW_LINK_SEL_WORD + 1)
    else match instOf (R.CP_CAP_SEC 0) 16 6 a, instOf (R.CL_PATCH_DATA 0) 0x10000 16 a with
      | some i, _ => s.setFlag (F.CP_CAP_CFG_VALID i) false
      | _, some c => s.setFld (F.CL_PATCH_SEL_BLOCK c) (s.fld (F.CL_PATCH_SEL_BLOCK c) + 1)
      | none, none => s

/-- A read of a register by host software. -/
def State.readReg (s : State) (a : Nat) : State :=
  let s' : State := { s with lastRead := s.regValue a }
  if s.regAnswers a then
    match fieldsAt a with
    | some l => s'.readEffects a l
    | none => s'
  else s'

end Sys2Proof.Machine
end

