-- ==== Sys2Proof/Machine/Registers.lean ====
section
/-! DEFINITION. Register accesses: how a write is judged (R8, R18, R20, R540, R541), what follows from it in each region, and
reads (R18, R23). -/
namespace Sys2Proof.Machine

/-! ## Judging the fields of a write (R540 steps 1 and 2) -/

/-- RWS fields take writes: HELD and BOOT (R20). -/
def State.rwsOpen (s : State) : Bool := s.mode = 0 || s.mode = 1

/-- A writable field that ignores writes as things stand: LIMIT of a level-0 queue (R152), the latencies of a port with AUTO
(R264), the chain of a group at basic level (R336), and INC while the tracker or the ratio block sets it (R319). -/
def State.ignoresWrite (s : State) (a lo : Nat) : Bool :=
  match instOf (R.TH_QCFG 0) 8 128 a, instOf (R.EP_TS_CORR 0) 0x10000 4 a, instOf (R.BS_GCHAIN 0) 4 0x80 a with
  | some q, _, _ => q % 8 = 0 && lo = 0
  | _, some p, _ => lo < 24 && s.flag (F.EP_TS_CORR_AUTO p)
  | _, _, some k =>
    let g := k / 8
    let expert := s.flag (F.BS_GCFG_EXPERT g)
    if k % 8 < 3 then !expert
    else if k % 8 = 4 then lo = 0 && !(expert && s.flag (F.BS_GCFG_TRACK g) && !s.flag (F.BS_GCFG_INC_SRC g))
    else false
  | _, _, _ => false

/-- The write may set the field. -/
def State.maySet (s : State) (a : Nat) (x : FSpec) : Bool :=
  match x.acc with
  | .rw => !s.ignoresWrite a x.f.lo
  | .rws => s.rwsOpen
  | _ => false

/-- Fields that hold a page number, which is below 4,096 on a ZG4096 (the chapter of Hamper), and offsets that are multiples
of 64 (R362, R422). -/
def pageField (f : Fld) : Bool :=
  f = F.HP_CTX_REGION_FIRST_PAGE || f = F.HP_FT_CFG_PAGE || f = F.HP_PAGE_SEL_PAGE || f = F.HP_EXPORT_FIRST_PAGE
    || ((instOf (R.EP_RING_CFG 0) 0x10000 4 f.addr).isSome) || ((instOf (R.TW_PRI_SHADOW 0) 0x20 4 f.addr).isSome && f.lo = 0)
def ofs64 (f : Fld) : Bool := f = F.RK_CELL_OFS || f = F.TW_MIRROR_BUF_OFS

/-- The value is a reserved encoding of the field (R8). -/
def State.reservedIn (s : State) (x : FSpec) (v : Nat) : Bool :=
  (x.allowed ≠ [] && !x.allowed.any fun r => r.1 ≤ v && v ≤ r.2) || (s.fuse.small && pageField x.f && decide (4096 ≤ v))
    || (ofs64 x.f && v % 64 ≠ 0)

/-- The fields that a write sets with their values, and the lowest bits of those that carried a reserved encoding. -/
structure Judged where
  sets : List (Fld × Nat)
  bad : List Nat
deriving DecidableEq, Repr

/-- The value of a field after a write, as far as it is judged. -/
def Judged.after (j : Judged) (s : State) (f : Fld) : Nat :=
  match j.sets.find? (·.1 = f) with
  | some e => e.2
  | none => s.fld f

/-- Two fields of which the one's range depends on the other keep their values when the write would break it (R540 step 2). -/
def Judged.pair (j : Judged) (f g : Fld) (broken : Bool) : Judged :=
  if broken then ⟨j.sets.filter fun e => e.1 ≠ f && e.1 ≠ g, j.bad ++ [f.lo, g.lo]⟩ else j

/-- Step 2 of R540. BW 3 is reserved with SRC 2 (R290), and FEC 2 with MODE 6 (R235). -/
def State.judge (s : State) (a v : Nat) (l : List FSpec) : Judged :=
  let value (x : FSpec) : Nat := bits v x.f.lo x.f.w
  let bad := l.filter fun x => (s.maySet a x || x.acc = .wo) && s.reservedIn x (value x)
  let good := l.filter fun x => s.maySet a x && !s.reservedIn x (value x)
  let j : Judged := ⟨good.map fun x => (x.f, value x), bad.map fun x => x.f.lo⟩
  let j := j.pair F.CP_SRC_CFG_SRC F.CP_SRC_CFG_BW
    (a = R.CP_SRC_CFG && decide (j.after s F.CP_SRC_CFG_SRC = 2) && decide (j.after s F.CP_SRC_CFG_BW = 3))
  match instOf (R.EP_PHY_CFG 0) 0x10000 4 a with
  | some p => j.pair (F.EP_PHY_CFG_MODE p) (F.EP_PHY_CFG_FEC p)
    (decide (j.after s (F.EP_PHY_CFG_MODE p) = 6) && decide (j.after s (F.EP_PHY_CFG_FEC p) = 2))
  | none => j

/-! ## Rules that ignore a whole write (R540 step 3) -/

/-- The page ranges of R541: first page and pages, an empty range left out. -/
def State.pageRanges (s : State) : List (Nat × Nat) :=
  ([(s.fld F.HP_CTX_REGION_FIRST_PAGE, s.fld F.HP_CTX_REGION_PAGES), (s.fld F.HP_FT_CFG_PAGE, 1),
      (s.fld F.HP_EXPORT_FIRST_PAGE, s.fld F.HP_EXPORT_PAGES)]
    ++ ((List.range 4).flatMap fun p => [(s.fld (F.EP_RING_CFG_TPL_PAGE p), 1), (s.fld (F.EP_RING_CFG_STAT_PAGE p), 1)])
    ++ ((List.range 4).map fun i => (s.fld (F.TW_PRI_SHADOW_FIRST_PAGE i), s.fld (F.TW_PRI_SHADOW_PAGES i)))).filter fun r => r.2 ≠ 0

/-- No two ranges of a list overlap. -/
def rangesApart : List (Nat × Nat) → Bool
  | [] => true
  | r :: t => (t.all fun q => r.1 + r.2 ≤ q.1 || q.1 + q.2 ≤ r.1) && rangesApart t

/-- The register takes part in R541. -/
def pageRegister (a : Nat) : Bool :=
  a = R.HP_CTX_REGION || a = R.HP_FT_CFG || a = R.HP_EXPORT || (instOf (R.EP_RING_CFG 0) 0x10000 4 a).isSome
    || (instOf (R.TW_PRI_SHADOW 0) 0x20 4 a).isSome

/-- Staging slots and job windows fit the CSM of a cluster (R199). -/
def State.csmFits (s : State) (c : Nat) : Bool :=
  s.fld (F.HP_STG_CFG_SLOTS c) * ((s.fld (F.HP_STG_CFG_READ_KW c) + s.fld (F.HP_STG_CFG_WRITE_KW c)) * 1024)
    + 9 * s.fld (F.HP_JOBWIN_KW_PER_CORE c) * 1024 ≤ csmWords

/-- A write of BS_GCFG applies the preset: one that leaves basic level and selects the preset, clears EXPERT or sets EN, and one
that sets EXPERT while another preset or none is in use (R329, R330). -/
def State.presetApplies (old new : State) (g : Nat) : Bool :=
  let same := old.fld (F.BS_GCFG_PRESET g) = new.fld (F.BS_GCFG_PRESET g)
  let was := old.flag (F.BS_GCFG_EXPERT g)
  if new.flag (F.BS_GCFG_EXPERT g) then !was && (!same || !old.flag (F.BS_GCFG_EN g))
  else !same || was || (new.flag (F.BS_GCFG_EN g) && !old.flag (F.BS_GCFG_EN g))

/-- The settings of a group break R317, R330 or R334; `new` is the state that the write would leave. -/
def State.groupBreaks (old new : State) (g : Nat) (gcfg : Bool) : Bool :=
  let w := presetOf (new.fld (F.BS_GCFG_PRESET g))
  let p := gcfg && old.presetApplies new g
  let fs := rateKhz (if p then nth w 1 else new.fld (F.BS_GCHAIN_OUT_RATE g))
  let d := if p then nth w 3 else new.fld (F.BS_GCHAIN_D g)
  let df := 2 ^ (if p then nth w 4 else new.fld (F.BS_GCHAIN_D_FIR g))
  !ratioOk fs d df (freqKhz (new.pairFreq (g / 2))) || (gcfg && nth w 0 ≠ new.pairFreq (g / 2))
    || (new.flag (F.BS_GCFG_TX_EN g) && decide (d < 96))

/-- A rule ignores the whole write that would lead from `old` to `new` (R540 step 3). -/
def State.refusesWrite (old new : State) (a : Nat) : Bool :=
  if a = R.ST_VLIMIT then new.fld F.ST_VLIMIT_VMAX_MV ≤ new.fld F.ST_VLIMIT_VMIN_MV
  else if a = R.HI_POLL then new.fld F.HI_POLL_SLOW_US < new.fld F.HI_POLL_FAST_US
  else if a = R.HI_DB_LO ∨ a = R.HI_DB_HI ∨ a = R.HI_HEAD_LO ∨ a = R.HI_HEAD_HI then (List.range 64).any fun r => old.ringState r ≠ 0
  else if a = R.LM_CFG ∨ a = R.LM_SCAN_ADDR ∨ a = R.LM_REC_ADDR then old.lm.sweep.isSome
  else if pageRegister a then !rangesApart new.pageRanges
  else match instOf (R.HI_RBASE_LO 0) 16 64 a, instOf (R.HI_RBASE_HI 0) 16 64 a, instOf (R.HP_STG_CFG 0) 16 16 a,
      instOf (R.HP_JOBWIN 0) 16 16 a, instOf (R.BS_GCFG 0) 0x20 16 a, instOf (R.BS_GCHAIN 0) 0x20 16 a with
    | some r, _, _, _, _, _ => old.ringState r ≠ 0 && old.fld (F.HI_RBASE_LO_ADDR r) ≠ new.fld (F.HI_RBASE_LO_ADDR r)
    | _, some r, _, _, _, _ => old.ringState r ≠ 0 && old.fld (F.HI_RBASE_HI_ADDR r) ≠ new.fld (F.HI_RBASE_HI_ADDR r)
    | _, _, some c, _, _, _ => !new.csmFits c
    | _, _, _, some c, _, _ => !new.csmFits c
    | _, _, _, _, some g, _ => old.groupBreaks new g true
    | _, _, _, _, _, some g => old.groupBreaks new g false
    | none, none, none, none, none, none => false

/-! ## What follows a write, by region

`o` is the state before the write and `s` the one with its fields set; `v` is the value written and `ok` says that no WO field
of the write carried a reserved encoding. -/

/-- GL_ and PW_: WARM_RESET (R480), PEAK (R495), a cluster reset (R483). -/
def State.afterPower (s : State) (a v : Nat) : State :=
  if a = R.GL_CTRL ∧ bit v 8 then (if s.mode = 0 then s else s.warmReset (v % 256))
  else if a = R.PW_POWER ∧ bit v 31 then s.setFld F.PW_POWER_PEAK s.powerNow
  else match instOf (R.PW_CL 0) 8 16 a with
    | some c => if bit v 0 then s.clusterReset c else s
    | none => s

/-- ST_: the lowest speed restarts, the command follows moved limits (R59), and the aging events may be raised again
(R65, R67). -/
def State.afterSupervisor (s : State) (a v : Nat) : State :=
  if a = R.ST_SPEED_MIN ∧ bit v 31 then s.setFld F.ST_SPEED_MIN_MIN 0xFFFF
  else if a = R.ST_VLIMIT then s.limitsMoved
  else if a = R.ST_EVENT then
    let w := if bit v 4 then [] else s.st.ageWarned
    let l := if bit v 5 then [] else s.st.ageLimited
    { s with st := { s.st with ageWarned := w, ageLimited := l } }
  else s

/-- HI_: RINGS_RESET (R404) and the high-water mark of the jobs (R405). -/
def State.afterHost (s : State) (a v : Nat) : State :=
  if a = R.HI_CTRL ∧ bit v 0 then s.hostReset 4
  else if a = R.HI_JOBS ∧ bit v 31 then s.setFld F.HI_JOBS_HWM s.hi.jobs.length
  else s

/-- TH_: the high-water marks (R179) and the bins of a queue (R175). -/
def State.afterTrail (s : State) (a v : Nat) : State :=
  if a = R.TH_POOL_HWM ∧ bit v 31 then s.poolRestart
  else match instOf (R.TH_QCFG 0) 8 128 a with
    | some q => if bit v 18 then s.clrHist q else s
    | none => s

/-- CP_: a step (R288), the state for SRC 1 and a change of source (R291), and RECCLK_OUT (R296). -/
def State.afterCompass (o s : State) (a v : Nat) : State :=
  if a = R.CP_CTRL then
    let s := s.servoState (s.fld F.CP_CTRL_SERVO_STATE)
    if bit v 0 then s.timeStep else s
  else if a = R.CP_SRC_CFG then
    let src := s.fld F.CP_SRC_CFG_SRC
    if src = 0 then s.setFld F.CP_STATUS_STATE 0
    else if src ≠ o.fld F.CP_SRC_CFG_SRC then s.acquire
    else s
  else if a = R.CP_RECCLK then s.recclkCheck
  else s

/-- RL_FIRST_CTRL.CLEAR (R465). -/
def State.firstClear (s : State) : State := (s.setFlag F.RL_FIRST_CTRL_VALID false).setFld F.RL_FIRST_CTRL_LATER 0

/-- RL_FIFO_STAT.RESTART (R468). -/
def State.fifoRestart (s : State) : State := s.setFld F.RL_FIFO_STAT_HWM s.rl.fifo.length

/-- RL_: the restarts, and RL_CORE_CMD (R447, R450). -/
def State.afterReports (s : State) (a v : Nat) (ok : Bool) : State :=
  if a = R.RL_FIFO_STAT ∧ bit v 31 then s.fifoRestart
  else if a = R.RL_FIRST_CTRL ∧ bit v 1 then s.firstClear
  else if a = R.RL_CORE_CMD ∧ ok then
    (if bits v 8 2 = 1 then s.coreResetCmd (v % 256) else if bits v 8 2 = 2 then s.clearHistory (v % 256) else s)
  else s

/-- RK_: the high-water marks, an injection and a release (R366, R373). -/
def State.afterRucksack (s : State) (a v : Nat) (ok : Bool) : State :=
  if a = R.RK_QHWM ∧ bit v 31 then s.rkHwmRestart
  else if a = R.RK_TEST ∧ ok then s.rkTest v
  else match instOf (R.RK_ENG 0) 16 4 a with
    | some e => if bit v 11 then s.rkRelease e else s
    | none => s

/-- TW_: the switch to the next key (R411) and takeovers (R427, R428). -/
def State.afterFabric (s : State) (a v : Nat) : State :=
  if a = R.TW_EPOCH ∧ bit v 8 then s.epochSwitch
  else match instOf (R.TW_PRI_CFG 0) 0x20 4 a with
    | some i => if bit v 30 then s.takeover i true else if bit v 31 then s.takeover i false else s
    | none => s

/-- MG_: the end of listen-only (R280), and PLCA, whose parameters wait while it is active (R273). -/
def State.afterMgmt (s : State) (a v : Nat) : State :=
  if a = R.MG_LISTEN ∧ bit v 31 then s.endListen
  else if a = R.MG_PLCA ∨ a = R.MG_CTRL then
    let s := if s.flag F.MG_CTRL_PLCA_EN ∧ s.fld F.MG_PLCA_NODE_ID ≠ 255 then s else s.setFlag F.MG_STATUS_PLCA_ACTIVE false
    if s.flag F.MG_STATUS_PLCA_ACTIVE then s else s.plcaApply
  else s

/-- TD_HCFG: a highway realigns (R304). -/
def State.afterTdm (o s : State) (a : Nat) : State :=
  match instOf (R.TD_HCFG 0) 16 16 a with
  | some h =>
    if [F.TD_HCFG_MASTER h, F.TD_HCFG_FS_POL h, F.TD_HCFG_OFS_BITS h].any fun f => o.fld f ≠ s.fld f then
      (s.setHwy h { s.hwy h with run := 0, cand := none }).setFld F.TD_STATUS_FS_LOCK (setBits (s.fld F.TD_STATUS_FS_LOCK) h 1 0)
    else s
  | none => s

/-- A group whose chain or level changes (R317, R326, R329, R330). -/
def State.afterGroup (o s : State) (g : Nat) (gcfg : Bool) : State :=
  let s' := if gcfg && o.presetApplies s g then s.applyPreset g (s.fld (F.BS_GCFG_PRESET g)) else s
  let chain := [F.BS_GCHAIN_ORDER g, F.BS_GCHAIN_D g, F.BS_GCHAIN_D_FIR g, F.BS_GCHAIN_TAPS g, F.BS_GCHAIN_OUT_RATE g,
    F.BS_GSHI_SH1 g, F.BS_GSHI_SH2 g, F.BS_GSHI_SH3 g, F.BS_GSHI_SH4 g, F.BS_GSHI_SH5 g,
    F.BS_GSHC_SH1 g, F.BS_GSHC_SH2 g, F.BS_GSHC_SH3 g, F.BS_GSHC_SH4 g, F.BS_GSHC_SH5 g]
  let cfg := [F.BS_GCFG_PRESET g, F.BS_GCFG_EXPERT g, F.BS_GCFG_TRACK g, F.BS_GCFG_DC g]
  let changed := (chain ++ cfg).any fun f => o.fld f ≠ s'.fld f
  let tracks := !(s'.flag (F.BS_GCFG_EXPERT g) && s'.flag (F.BS_GCFG_TRACK g))
  let s' := if changed ∧ tracks then s'.setFld (F.BS_GRSMP_INC g) (s'.groupCfg g).nominalInc else s'
  let risen := s'.flag (F.BS_GCFG_EN g) && !o.flag (F.BS_GCFG_EN g)
  if changed ∨ risen then s'.localReset g else s'

/-- BS_: enables, chains, swaps and synchronising resets (R324-R326). -/
def State.afterBits (o s : State) (a v : Nat) : State :=
  if a = R.BS_CTRL then
    let s := if s.flag F.BS_CTRL_EN ∧ o.flag F.BS_CTRL_EN = false then
        ((List.range 16).filter fun g => s.flag (F.BS_GCFG_EN g)).foldl (fun s g => s.localReset g) s
      else s
    if bit v 2 then s.syncRequest s.nowNs 3 else s
  else match instOf (R.BS_GCFG 0) 4 0x80 a with
    | some k =>
      let g := k / 8
      if k % 8 < 4 then o.afterGroup s g (decide (k % 8 = 0))
      else if k % 8 = 4 ∧ bit v 16 then s.swapRequest g (bit v 17) none
      else s
    | none => s

/-- LM_: the LMU is enabled, its fault is reset (R341), blanking follows its settings (R346), and relays take IDLE outside
sweeps (R352). -/
def State.afterLmu (s : State) (a v : Nat) : State :=
  if a = R.LM_CTRL then
    let s := if s.lm.run.isNone ∧ s.lm.sweep.isNone ∧ s.fld F.LM_STATUS_STATE < 2 then
        s.setFld F.LM_STATUS_STATE (s.fld F.LM_CTRL_EN) else s
    if bit v 16 then s.fresh.2.lmResetFault (Config.stileReadsOpen s.fresh.1) else s
  else if a = R.LM_CFG then s.blankUpdate
  else match instOf (R.LM_RLY 0) 4 8 a with
    | some _ => if s.lm.sweep.isNone then s.setRelays s.idleRelays else s
    | none => s

/-- EP_: the physical layer starts again (R235, R268), a port reset (R267), the timestamp mark. -/
def State.afterPort (o s : State) (a v : Nat) : State :=
  let p := (a - 0x100000) / 0x10000
  if a = R.EP_CTRL p ∧ bit v 8 then s.portReset p none
  else if a = R.EP_PHY_CFG p then
    let changed := s.fld (F.EP_PHY_CFG_MODE p) ≠ o.fld (F.EP_PHY_CFG_MODE p) ∨ s.fld (F.EP_PHY_CFG_FEC p) ≠ o.fld (F.EP_PHY_CFG_FEC p)
    let s := if changed then (s.linkDown p).restartAn p else s
    if bit v 5 then s.anRestart p else s
  else if a = R.EP_TS_STAT p ∧ bit v 31 then s.tsRestart p
  else s

/-- CL_ and CO_: row logs and the arbiter's mark (R513), injections and the fault count (R107). -/
def State.afterCluster (s : State) (a v : Nat) (ok : Bool) : State :=
  match instOf (R.CL_CTRL 0) 0x10000 16 a, instOf (R.CO_CTRL 0) 0x1000 144 a with
  | some c, _ =>
    let s := if bit v 0 then s.logClr c else s
    if bit v 1 then s.setFld (F.CL_CSM_STAT_MAX_NS c) 0 else s
  | _, some k =>
    let s := if ok then s.faultInject k (bits v 8 2) else s
    if bit v 10 then s.setFld (F.CO_STATUS_FAULT_CNT k) 0 else s
  | none, none => s

/-- What follows a write that was made. -/
def State.afterWrite (o s : State) (a v : Nat) (ok : Bool) : State :=
  if a < 0x10000 then s.afterPower a v
  else if a < 0x20000 then s.afterSupervisor a v
  else if a < 0x30000 then s.afterHost a v
  else if a < 0x40000 then s.afterTrail a v
  else if a < 0x50000 then s
  else if a < 0x60000 then o.afterCompass s a v
  else if a < 0x70000 then s.afterReports a v ok
  else if a < 0x80000 then s.afterPower a v
  else if a < 0x90000 then s.afterRucksack a v ok
  else if a < 0xA0000 then s.afterFabric a v
  else if a < 0xB0000 then s.afterMgmt a v
  else if a < 0xC0000 then o.afterTdm s a
  else if a < 0xD0000 then o.afterBits s a v
  else if a < 0x100000 then s.afterLmu a v
  else if a < 0x200000 then o.afterPort s a v
  else if a < 0x2000000 then s.afterCluster a v ok
  else s

/-! ## The write -/

/-- Raises the WARN report of a write that would change an RWS field outside HELD and BOOT (R20, R460). -/
def State.rwsWrite (s : State) (a lo : Nat) : State :=
  s.raise .warn (srcOf a).1 (srcOf a).2 0x00F1 (a % 0x1000000) lo 0

/-- The three steps of R540 over the fields of a register; then the bits of code W1C that carry a one are cleared (R18), and
what follows the write is done. -/
def State.writeFields (s : State) (a v : Nat) (l : List FSpec) : State :=
  let locked := if s.rwsOpen then [] else (l.filter fun x => x.acc = .rws && bits v x.f.lo x.f.w ≠ s.fld x.f).map fun x => x.f.lo
  let s := match locked with
    | [] => s
    | lo :: r => s.rwsWrite a (r.foldl min lo)
  let j := s.judge a v l
  let s := match j.bad with
    | [] => s
    | lo :: r => s.reservedEncoding a (r.foldl min lo)
  let new := j.sets.foldl (fun (t : State) e => t.setFld e.1 e.2) s
  if s.refusesWrite new a then s.configRefused a 0
  else
    let new := (l.filter fun x => x.acc = .w1c && bit v x.f.lo).foldl (fun (t : State) x => t.setFlag x.f false) new
    let wo := l.filter fun x => x.acc = .wo
    s.afterWrite new a v (wo.all fun x => !j.bad.contains x.f.lo)

/-- A word of the MSI-X table is written; a vector that is no longer masked sends what was held (R375, R383). -/
def State.msixWrite (s : State) (a v : Nat) : State :=
  let k := (a - 0x4001000) / 4
  let s : State := { s with hi := { s.hi with msix := mput s.hi.msix k v } }
  let n := k / 4
  if s.hi.msixPend.contains n ∧ s.vecMasked n = false then
    ({ s with hi := { s.hi with msixPend := s.hi.msixPend.filter (· ≠ n) } } : State).emit (.msix n)
  else s

def State.taken (s : State) : Host.Outcome State Fault Refusal → State
  | .next t => t
  | _ => s

/-- The registers whose write is an operation of its own; nothing for the others. -/
def State.writeData (s : State) (a v : Nat) : Option State :=
  if a = R.HI_NUDGE then some (s.taken (execHiNudge s))
  else if a = R.HP_WIN_DATA then some (s.winWrite v)
  else if a = R.HP_CACHE_WAYS then some (s.cacheWays (v % 65536))
  else if a = R.CP_ADJ then some (s.setResidue v)
  else if a = R.TD_SLOT_DATA then some (s.slotDataWrite v)
  else if a = R.BS_COEF_DATA then some (s.coefAccess (some v))
  else if a = R.TW_LINK_DATA then some (s.taken (execTwLinkDataAccess true (BitVec.ofNat 32 v) s))
  else if a = R.TW_KEY_DATA then some (s.taken (execTwKeyDataWrite (BitVec.ofNat 32 v) s))
  else if a = R.MG_WAKE_DATA then
    let k := 32 * s.fld F.MG_WAKE_SEL_PATTERN + s.fld F.MG_WAKE_SEL_WORD
    some { s with mg := { s.mg with wake := mset 0 s.mg.wake k v } }
  else if a = R.LN_MBX_CMD then some (s.mailboxWrite (v % 256))
  else match instOf (R.HI_RCFG 0) 16 64 a, instOf (R.BS_CH 0) 4 256 a with
    | some r, _ => some (s.rcfgWrite r v)
    | _, some b => some (s.bsChWrite b v)
    | none, none => none

/-- A write of a register by host software (R2, R375, R509, R540). In THERMOS the host interface is down (R476). -/
def State.writeReg (s : State) (a v : Nat) : State :=
  if s.mode = 9 then s
  else if 0x4001000 ≤ a ∧ a < 0x4001400 ∧ a % 4 = 0 then s.msixWrite a v
  else if s.regAnswers a = false then s
  else match s.writeData a v with
    | some t => t
    | none => match fieldsAt a with
      | some l => s.writeFields a v l
      | none => s

/-! ## The commands -/

/-- REGISTER_WRITE (R540). -/
def execRegisterWrite (a v : BitVec 32) (s : State) : Host.Outcome State Fault Refusal := .next (s.writeReg a.toNat v.toNat)

/-- EP_PHY_CFG_WRITE: a change of MODE or FEC takes the link down and starts it again (R235). -/
def execEpPhyCfgWrite (p : Fin 4) (v : BitVec 32) (s : State) : Host.Outcome State Fault Refusal :=
  .next (s.writeReg (R.EP_PHY_CFG p.val) v.toNat)

/-- RC_READ: a read of a register; its fields of code RC are cleared (R18, R19). -/
def execRcRead (a : BitVec 32) (s : State) : Host.Outcome State Fault Refusal := .next (s.readReg a.toNat)

/-- COUNTER_LOW_WORD_READ: a read of the low word of a 64-bit counter latches its high word (R23). -/
def execCounterLowWordRead (a : BitVec 32) (s : State) : Host.Outcome State Fault Refusal :=
  if lowWord.any (·.2 = a.toNat) then .next (s.readReg a.toNat) else .next s

/-- FIFO_HWM_RESTART: RL_FIFO_STAT.RESTART (R468). -/
def execFifoHwmRestart (s : State) : Host.Outcome State Fault Refusal := .next s.fifoRestart

/-- POWER_PEAK_RESTART: PW_POWER.RESTART (R495). -/
def execPowerPeakRestart (s : State) : Host.Outcome State Fault Refusal := .next (s.setFld F.PW_POWER_PEAK s.powerNow)

/-- FIRST_CLEAR: RL_FIRST_CTRL.CLEAR (R465). -/
def execFirstClear (s : State) : Host.Outcome State Fault Refusal := .next s.firstClear

end Sys2Proof.Machine
end

