-- ==== Sys2Proof/Machine/Supervision.lean ====
section
/-! DEFINITION. The commands of the self-timed supervisor: windows, AVSBus, aging and crossings (R51-R69). -/
namespace Sys2Proof.Machine

/-- SENSOR_WINDOW: the ring counts of the clusters in order; ST_SPEED, the measured budget and the decision follow (R53,
R56, R232). While the reference is lost the sensors hold; after its return the windows are counted (R54). -/
def execSensorWindow (counts : List (List Nat)) (s : State) : Host.Outcome State Fault Refusal :=
  if s.mode = 0 ∨ s.mode = 9 then .next s
  else if s.flag F.ST_STATUS_REF_LOST then
    .next (if s.st.refBack then { s with st := { s.st with refWindows := s.st.refWindows + 1 } } else s)
  else
    let s := (List.range s.clusters).foldl (fun s c => s.clusterSpeed c (counts.getD c [])) s
    let s : State := { s with st := { s.st with
      minima := (s.lowestSpeed :: s.st.minima).take 65535
      entered := [] } }
    -- a fault with Vout below 720 mV keeps BELOW_FLOOR (R63); such a window does not count (DEDUCED)
    let fine := (s.compared.all fun c => !(s.speedOf c).lt (s.floorDemand c))
      && !(s.flag F.ST_STATUS_AVS_FAULT && decide (s.fld F.ST_VREAD_V_MV < 720))
    let s : State := { s with st := { s.st with okWindows := if fine then s.st.okWindows + 1 else 0 } }
    let s := s.settleStep.supRequest.supDecide
    let s := if s.st.avs = none ∧ s.flag F.ST_STATUS_AVS_FAULT = false then s.readV else s
    .next s.budgetCheck

/-- FLOOR_RESTORED: after 200 consecutive windows at or above the floor demand (R61). -/
def execFloorRestored (s : State) : Host.Outcome State Fault Refusal :=
  .next (if s.flag F.ST_STATUS_BELOW_FLOOR ∧ s.st.okWindows ≥ 200 then
    ((s.setFlag F.ST_STATUS_BELOW_FLOOR false).raise .info 0x01 0 0x0182 0 0 0).budgetCheck else s)

/-- SETTLE_EXPIRY: the settle time ends; one complete window follows before the next decision (R57), and a step toward moved
limits follows at once (R59). -/
def execSettleExpiry (s : State) : Host.Outcome State Fault Refusal :=
  .next (if s.st.settle = 1 then ({ s with st := { s.st with settle := 2 } } : State).limitStep else s)

/-- AVS_TRANSACTION_END: an acknowledged transaction (`ok`), of which a read gives the voltage and the current in 0.25 A;
or an attempt that ends in a CRC error or a negative status (R62, R63). -/
def execAvsTransactionEnd (ok : Bool) (mv qa : BitVec 10) (s : State) : Host.Outcome State Fault Refusal :=
  match s.st.avs with
  | none => .next s
  | some t =>
    if ok then
      match t.write with
      | some _ => .next s.readV
      | none => .next (s.avsReadOk mv.toNat qa.toNat)
    else .next s.avsFail

/-- AVS_RESPONSE_TIMEOUT: no response within 8 clock periods (R62). -/
def execAvsResponseTimeout (s : State) : Host.Outcome State Fault Refusal := .next s.avsFail

/-- AVS_FAULT_POLL: a Vout read every 5 ms during an AVS fault (R63). -/
def execAvsFaultPoll (s : State) : Host.Outcome State Fault Refusal :=
  .next (if s.flag F.ST_STATUS_AVS_FAULT ∧ s.st.avs = none then s.readV else s)

/-- REF_LOST_CLEAR: two complete windows after the return (R54). -/
def execRefLostClear (s : State) : Host.Outcome State Fault Refusal :=
  .next (if s.flag F.ST_STATUS_REF_LOST ∧ s.st.refBack ∧ s.st.refWindows ≥ 2 then
    let s : State := { s with st := { s.st with refBack := false, refWindows := 0 } }
    (s.setFlag F.ST_STATUS_REF_LOST false).budgetCheck else s)

/-- The age of one cluster (R64, R65). -/
def State.ageOf (s : State) (c idx : Nat) : State :=
  let s := s.setFld (F.ST_AGE_INDEX c) idx
  let s : State := { s with st := { s.st with journal := mput s.st.journal c ((idx :: mget [] s.st.journal c).take 64) } }
  let s := if idx ≤ s.fld F.ST_AGE_CFG_WARN ∧ s.st.ageWarned.contains c = false then
      let s : State := { s with st := { s.st with ageWarned := c :: s.st.ageWarned } }
      s.event F.ST_EVENT_AGE_WARN .warn 0 c idx 0
    else s
  if idx ≤ 930 ∧ s.st.ageLimited.contains c = false then
    let s : State := { s with st := { s.st with ageLimited := c :: s.st.ageLimited } }
    s.event F.ST_EVENT_AGE_LIMIT .warn 0 c idx 0
  else s

/-- AGE_MEASUREMENT: the age indexes of the clusters in order, in permille (R64, R65). -/
def execAgeMeasurement (idx : List Nat) (s : State) : Host.Outcome State Fault Refusal :=
  if s.flag F.ST_CTRL_AGE_EN ∨ s.st.measuredAge = false then
    let s : State := { s with st := { s.st with measuredAge := true } }
    let cs := List.range s.clusters
    let s := cs.foldl (fun s c => s.ageOf c (nth idx c % 1024)) s
    let low := cs.foldl (fun (b : Nat) c => if s.fld (F.ST_AGE_INDEX c) < s.fld (F.ST_AGE_INDEX b) then c else b) 0
    let v := s.fld (F.ST_AGE_INDEX low)
    let s := (s.setFld F.ST_AGE_MIN_INDEX v).setFld F.ST_AGE_MIN_CLUSTER low
    .next (s.raise .info 0x01 0 0x0180 v (unsgn 32 ((v : Int) - 930)) 0)
  else .next s

/-- XING: a crossing FIFO overflows or underruns, `i` naming the interface (R51). -/
def execXing (i : BitVec 8) (s : State) : Host.Outcome State Fault Refusal :=
  .next ((s.incS F.ST_XING_CNT_COUNT 1).event F.ST_EVENT_XING .warn 0 i.toNat 0 0)

/-- SPEED_MIN_RESTART (R69). -/
def execSpeedMinRestart (s : State) : Host.Outcome State Fault Refusal := .next (s.setFld F.ST_SPEED_MIN_MIN 0xFFFF)

end Sys2Proof.Machine
end

