-- ==== Sys2Proof/Machine/Dispatch.lean ====
section
/-! DEFINITION. The dispatch of a command to its meaning: one arm per row of the opcode table. -/
namespace Sys2Proof.Machine

def exec (i : Instr) (s : State) : Host.Outcome State Fault Refusal :=
  match i with
  | .nop k w => Sys2Proof.Machine.execNop k w s
  | .b k f => Sys2Proof.Machine.execB k f s
  | .call k f => Sys2Proof.Machine.execCall k f s
  | .brp k f => Sys2Proof.Machine.execBrp k f s
  | .rts k f => Sys2Proof.Machine.execRts k f s
  | .rti k f => Sys2Proof.Machine.execRti k f s
  | .doImm k f => Sys2Proof.Machine.execDoImm k f s
  | .dor k f => Sys2Proof.Machine.execDor k f s
  | .waitWork k f => Sys2Proof.Machine.execWaitWork k f s
  | .dispatch c => Sys2Proof.Machine.execDispatch c s
  | .commit k f => Sys2Proof.Machine.execCommit k f s
  | .yield k f => Sys2Proof.Machine.execYield k f s
  | .enqToken k f => Sys2Proof.Machine.execEnqToken k f s
  | .enqItem k f => Sys2Proof.Machine.execEnqItem k f s
  | .enqWork k f => Sys2Proof.Machine.execEnqWork k f s
  | .ovl k f => Sys2Proof.Machine.execOvl k f s
  | .ovlCopyEnd k => Sys2Proof.Machine.execOvlCopyEnd k s
  | .sett k f => Sys2Proof.Machine.execSett k f s
  | .gett k f => Sys2Proof.Machine.execGett k f s
  | .bkpt k f => Sys2Proof.Machine.execBkpt k f s
  | .mpyq k f => Sys2Proof.Machine.execMpyq k f s
  | .macq k f => Sys2Proof.Machine.execMacq k f s
  | .msuq k f => Sys2Proof.Machine.execMsuq k f s
  | .ftap k f => Sys2Proof.Machine.execFtap k f s
  | .ftapx k f => Sys2Proof.Machine.execFtapx k f s
  | .mpy k f => Sys2Proof.Machine.execMpy k f s
  | .mac k f => Sys2Proof.Machine.execMac k f s
  | .msu k f => Sys2Proof.Machine.execMsu k f s
  | .adda k f => Sys2Proof.Machine.execAdda k f s
  | .suba k f => Sys2Proof.Machine.execSuba k f s
  | .nega k f => Sys2Proof.Machine.execNega k f s
  | .absa k f => Sys2Proof.Machine.execAbsa k f s
  | .clra k f => Sys2Proof.Machine.execClra k f s
  | .clrq k f => Sys2Proof.Machine.execClrq k f s
  | .asha k f => Sys2Proof.Machine.execAsha k f s
  | .cmpa k f => Sys2Proof.Machine.execCmpa k f s
  | .expOp k f => Sys2Proof.Machine.execExpOp k f s
  | .norm k f => Sys2Proof.Machine.execNorm k f s
  | .add k f => Sys2Proof.Machine.execAdd k f s
  | .sub k f => Sys2Proof.Machine.execSub k f s
  | .andOp k f => Sys2Proof.Machine.execAndOp k f s
  | .orOp k f => Sys2Proof.Machine.execOrOp k f s
  | .xorOp k f => Sys2Proof.Machine.execXorOp k f s
  | .lsl k f => Sys2Proof.Machine.execLsl k f s
  | .lsr k f => Sys2Proof.Machine.execLsr k f s
  | .asr k f => Sys2Proof.Machine.execAsr k f s
  | .cmp k f => Sys2Proof.Machine.execCmp k f s
  | .addi k f => Sys2Proof.Machine.execAddi k f s
  | .movi k f => Sys2Proof.Machine.execMovi k f s
  | .mov k f => Sys2Proof.Machine.execMov k f s
  | .ld k f => Sys2Proof.Machine.execLd k f s
  | .st k f => Sys2Proof.Machine.execSt k f s
  | .lda k f => Sys2Proof.Machine.execLda k f s
  | .sta k f => Sys2Proof.Machine.execSta k f s
  | .interruptEntry k => Sys2Proof.Machine.execInterruptEntry k s
  | .debugHaltRequest k => Sys2Proof.Machine.execDebugHaltRequest k s
  | .localTimerExpiry k => Sys2Proof.Machine.execLocalTimerExpiry k s
  | .coreFault k code lane addr row => Sys2Proof.Machine.execCoreFault k code lane addr row s
  | .idleFault k code lane addr row => Sys2Proof.Machine.execIdleFault k code lane addr row s
  | .coreHang k => Sys2Proof.Machine.execCoreHang k s
  | .stagingComplete c n errs => Sys2Proof.Machine.execStagingComplete c n errs s
  | .queueRebuild c both => Sys2Proof.Machine.execQueueRebuild c both s
  | .queueRebuildEnd => Sys2Proof.Machine.execQueueRebuildEnd s
  | .flowStall f => Sys2Proof.Machine.execFlowStall f s
  | .frameTick => Sys2Proof.Machine.execFrameTick s
  | .mediaTokenTimeout n => Sys2Proof.Machine.execMediaTokenTimeout n s
  | .compassEpoch meas => Sys2Proof.Machine.execCompassEpoch meas s
  | .sensorWindow counts => Sys2Proof.Machine.execSensorWindow counts s
  | .floorRestored => Sys2Proof.Machine.execFloorRestored s
  | .settleExpiry => Sys2Proof.Machine.execSettleExpiry s
  | .avsTransactionEnd ok mv qa => Sys2Proof.Machine.execAvsTransactionEnd ok mv qa s
  | .avsResponseTimeout => Sys2Proof.Machine.execAvsResponseTimeout s
  | .avsFaultPoll => Sys2Proof.Machine.execAvsFaultPoll s
  | .refLost => Sys2Proof.Machine.execRefLost s
  | .refReturn => Sys2Proof.Machine.execRefReturn s
  | .refLostClear => Sys2Proof.Machine.execRefLostClear s
  | .ageMeasurement idx => Sys2Proof.Machine.execAgeMeasurement idx s
  | .xing j => Sys2Proof.Machine.execXing j s
  | .pageMoveLineCopy page errs => Sys2Proof.Machine.execPageMoveLineCopy page errs s
  | .migDone page => Sys2Proof.Machine.execMigDone page s
  | .remoteResponse l tag status write data => Sys2Proof.Machine.execRemoteResponse l tag status write data s
  | .remoteTimeout => Sys2Proof.Machine.execRemoteTimeout s
  | .frameReceived p frame pcs overflow tagOk => Sys2Proof.Machine.execFrameReceived p frame pcs overflow tagOk s
  | .frameTransmitStart p => Sys2Proof.Machine.execFrameTransmitStart p s
  | .txAgeDiscard p pri => Sys2Proof.Machine.execTxAgeDiscard p pri s
  | .frameTransmitEnd p aborted => Sys2Proof.Machine.execFrameTransmitEnd p aborted s
  | .linkUp p => Sys2Proof.Machine.execLinkUp p s
  | .linkDown p => Sys2Proof.Machine.execLinkDown p s
  | .anComplete p abil fec => Sys2Proof.Machine.execAnComplete p abil fec s
  | .anRetry p => Sys2Proof.Machine.execAnRetry p s
  | .pauseTimeExpiry p pri => Sys2Proof.Machine.execPauseTimeExpiry p pri s
  | .pauseBreak p pri => Sys2Proof.Machine.execPauseBreak p pri s
  | .holdoffEnd p => Sys2Proof.Machine.execHoldoffEnd p s
  | .portResetEnd p => Sys2Proof.Machine.execPortResetEnd p s
  | .mgFrameReceived frame rxErr own tagOk => Sys2Proof.Machine.execMgFrameReceived frame rxErr own tagOk s
  | .syncMessageAct => Sys2Proof.Machine.execSyncMessageAct s
  | .blankIntervalStart => Sys2Proof.Machine.execBlankIntervalStart s
  | .blankIntervalEnd => Sys2Proof.Machine.execBlankIntervalEnd s
  | .mgTransmitAttempt => Sys2Proof.Machine.execMgTransmitAttempt s
  | .mgCollision sent => Sys2Proof.Machine.execMgCollision sent s
  | .backoffEnd => Sys2Proof.Machine.execBackoffEnd s
  | .mgTransmitEnd => Sys2Proof.Machine.execMgTransmitEnd s
  | .mgTxTimeout n => Sys2Proof.Machine.execMgTxTimeout n s
  | .jabber => Sys2Proof.Machine.execJabber s
  | .jabberClear => Sys2Proof.Machine.execJabberClear s
  | .ownJabber => Sys2Proof.Machine.execOwnJabber s
  | .plcaBeaconLoss => Sys2Proof.Machine.execPlcaBeaconLoss s
  | .listenEnd => Sys2Proof.Machine.execListenEnd s
  | .wakePin => Sys2Proof.Machine.execWakePin s
  | .timeStep => Sys2Proof.Machine.execTimeStep s
  | .cpAdjWrite v => Sys2Proof.Machine.execCpAdjWrite v s
  | .slewAbsorbed => Sys2Proof.Machine.execSlewAbsorbed s
  | .ppsInEdge => Sys2Proof.Machine.execPpsInEdge s
  | .srcLost => Sys2Proof.Machine.execSrcLost s
  | .ppsOutRise => Sys2Proof.Machine.execPpsOutRise s
  | .ppsOutFall => Sys2Proof.Machine.execPpsOutFall s
  | .captureEdge j => Sys2Proof.Machine.execCaptureEdge j s
  | .capSecRead j => Sys2Proof.Machine.execCapSecRead j s
  | .cpNsecRead => Sys2Proof.Machine.execCpNsecRead s
  | .highwayTick data col => Sys2Proof.Machine.execHighwayTick data col s
  | .highwayFrameReceived h data fs lost col => Sys2Proof.Machine.execHighwayFrameReceived h data fs lost col s
  | .clkLost h => Sys2Proof.Machine.execClkLost h s
  | .tdSlotDataWrite v => Sys2Proof.Machine.execTdSlotDataWrite v s
  | .bsClockLost k => Sys2Proof.Machine.execBsClockLost k s
  | .clkBack k => Sys2Proof.Machine.execClkBack k s
  | .bsSlotComplete b bits => Sys2Proof.Machine.execBsSlotComplete b bits s
  | .syncInEdge => Sys2Proof.Machine.execSyncInEdge s
  | .syncReset => Sys2Proof.Machine.execSyncReset s
  | .groupLocalReset g => Sys2Proof.Machine.execGroupLocalReset g s
  | .bsSettleEnd g => Sys2Proof.Machine.execBsSettleEnd g s
  | .bsChWrite b v => Sys2Proof.Machine.execBsChWrite b v s
  | .bsCoefDataAccess write v => Sys2Proof.Machine.execBsCoefDataAccess write v s
  | .swap g target => Sys2Proof.Machine.execSwap g target s
  | .swapDone g => Sys2Proof.Machine.execSwapDone g s
  | .stileReadback => Sys2Proof.Machine.execStileReadback s
  | .stileStuckClosed sw => Sys2Proof.Machine.execStileStuckClosed sw s
  | .stileStuckOpen => Sys2Proof.Machine.execStileStuckOpen s
  | .openGapEnd => Sys2Proof.Machine.execOpenGapEnd s
  | .relaySettleEnd => Sys2Proof.Machine.execRelaySettleEnd s
  | .dischargeEnd => Sys2Proof.Machine.execDischargeEnd s
  | .lmuOutput bits => Sys2Proof.Machine.execLmuOutput bits s
  | .blankPinEdge level => Sys2Proof.Machine.execBlankPinEdge level s
  | .blankTimeout => Sys2Proof.Machine.execBlankTimeout s
  | .passGapEnd => Sys2Proof.Machine.execPassGapEnd s
  | .telemetryStart => Sys2Proof.Machine.execTelemetryStart s
  | .resetFault allOpen => Sys2Proof.Machine.execResetFault allOpen s
  | .engineTakeJob e => Sys2Proof.Machine.execEngineTakeJob e s
  | .rkJobEnd e input dict fail errs => Sys2Proof.Machine.execRkJobEnd e input dict fail errs s
  | .quarantine e mismatch => Sys2Proof.Machine.execQuarantine e mismatch s
  | .release e => Sys2Proof.Machine.execRelease e s
  | .engineSelftestEnd e pass => Sys2Proof.Machine.execEngineSelftestEnd e pass s
  | .rkTestInject v => Sys2Proof.Machine.execRkTestInject v s
  | .doorbellPoll tails rx kind fetch => Sys2Proof.Machine.execDoorbellPoll tails rx kind fetch s
  | .hiNudge => Sys2Proof.Machine.execHiNudge s
  | .hiRcfgWrite r v => Sys2Proof.Machine.execHiRcfgWrite r v s
  | .ringDrained r => Sys2Proof.Machine.execRingDrained r s
  | .interruptModerationTimer r => Sys2Proof.Machine.execInterruptModerationTimer r s
  | .reportRecordWrite err => Sys2Proof.Machine.execReportRecordWrite err s
  | .hostReset cause => Sys2Proof.Machine.execHostReset cause s
  | .ringsReset => Sys2Proof.Machine.execRingsReset s
  | .badAccess bar ofs en write => Sys2Proof.Machine.execBadAccess bar ofs en write s
  | .nopCommand c op => Sys2Proof.Machine.execNopCommand c op s
  | .modeSet c => Sys2Proof.Machine.execModeSet c s
  | .modeChange tests => Sys2Proof.Machine.execModeChange tests s
  | .deviceInfo c => Sys2Proof.Machine.execDeviceInfo c s
  | .admission c => Sys2Proof.Machine.execAdmission c s
  | .csmLoad c => Sys2Proof.Machine.execCsmLoad c s
  | .patchLoad c sig => Sys2Proof.Machine.execPatchLoad c sig s
  | .chOpen c => Sys2Proof.Machine.execChOpen c s
  | .chOpenGraph c => Sys2Proof.Machine.execChOpenGraph c s
  | .chClose c => Sys2Proof.Machine.execChClose c s
  | .closeComplete n => Sys2Proof.Machine.execCloseComplete n s
  | .chParam c => Sys2Proof.Machine.execChParam c s
  | .chStatus c => Sys2Proof.Machine.execChStatus c s
  | .ctxRead c errs => Sys2Proof.Machine.execCtxRead c errs s
  | .ctxWrite c => Sys2Proof.Machine.execCtxWrite c s
  | .nodeCancel c => Sys2Proof.Machine.execNodeCancel c s
  | .flowResync c => Sys2Proof.Machine.execFlowResync c s
  | .decSync c => Sys2Proof.Machine.execDecSync c s
  | .msgSend c => Sys2Proof.Machine.execMsgSend c s
  | .coefWrite c => Sys2Proof.Machine.execCoefWrite c s
  | .bankSwap c => Sys2Proof.Machine.execBankSwap c s
  | .pktSend c => Sys2Proof.Machine.execPktSend c s
  | .ftInsert c => Sys2Proof.Machine.execFtInsert c s
  | .ftDelete c => Sys2Proof.Machine.execFtDelete c s
  | .tplWrite c => Sys2Proof.Machine.execTplWrite c s
  | .srtpWrite c => Sys2Proof.Machine.execSrtpWrite c s
  | .srtpRead c => Sys2Proof.Machine.execSrtpRead c s
  | .portReset c => Sys2Proof.Machine.execPortReset c s
  | .hostCopy c errs => Sys2Proof.Machine.execHostCopy c errs s
  | .pageMove c => Sys2Proof.Machine.execPageMove c s
  | .jobSuspend c => Sys2Proof.Machine.execJobSuspend c s
  | .jobResume c => Sys2Proof.Machine.execJobResume c s
  | .jobCancel c => Sys2Proof.Machine.execJobCancel c s
  | .jobStatus c => Sys2Proof.Machine.execJobStatus c s
  | .jobList c => Sys2Proof.Machine.execJobList c s
  | .fwExchange c sig => Sys2Proof.Machine.execFwExchange c sig s
  | .fwxStepEnd test ok => Sys2Proof.Machine.execFwxStepEnd test ok s
  | .coreRetire c => Sys2Proof.Machine.execCoreRetire c s
  | .retireNodeTimeout k => Sys2Proof.Machine.execRetireNodeTimeout k s
  | .retirementSwap k => Sys2Proof.Machine.execRetirementSwap k s
  | .spareReady k => Sys2Proof.Machine.execSpareReady k s
  | .hbmRepair c => Sys2Proof.Machine.execHbmRepair c s
  | .hbmRepairPauseEnd pc ok => Sys2Proof.Machine.execHbmRepairPauseEnd pc ok s
  | .scrub c => Sys2Proof.Machine.execScrub c s
  | .patrolScrubRead target errs => Sys2Proof.Machine.execPatrolScrubRead target errs s
  | .scrubDone hbm => Sys2Proof.Machine.execScrubDone hbm s
  | .rowRepaired u row => Sys2Proof.Machine.execRowRepaired u row s
  | .lifeHour temp => Sys2Proof.Machine.execLifeHour temp s
  | .lineTestSweep c => Sys2Proof.Machine.execLineTestSweep c s
  | .migrate c => Sys2Proof.Machine.execMigrate c s
  | .migrateSwitch n => Sys2Proof.Machine.execMigrateSwitch n s
  | .migrateForwardEnd n => Sys2Proof.Machine.execMigrateForwardEnd n s
  | .evacuate c => Sys2Proof.Machine.execEvacuate c s
  | .evacuateFence => Sys2Proof.Machine.execEvacuateFence s
  | .rkJob c => Sys2Proof.Machine.execRkJob c s
  | .checkpointAll c => Sys2Proof.Machine.execCheckpointAll c s
  | .fwJob c => Sys2Proof.Machine.execFwJob c s
  | .heartbeat f => Sys2Proof.Machine.execHeartbeat f s
  | .mirrorFrame f last => Sys2Proof.Machine.execMirrorFrame f last s
  | .readRequest f errs => Sys2Proof.Machine.execReadRequest f errs s
  | .writeRequest f => Sys2Proof.Machine.execWriteRequest f s
  | .migrateFrame f tagOk => Sys2Proof.Machine.execMigrateFrame f tagOk s
  | .credit f => Sys2Proof.Machine.execCredit f s
  | .fenceFrame f => Sys2Proof.Machine.execFenceFrame f s
  | .fabricFrameSend l => Sys2Proof.Machine.execFabricFrameSend l s
  | .heartbeatSend l => Sys2Proof.Machine.execHeartbeatSend l s
  | .linkLost l => Sys2Proof.Machine.execLinkLost l s
  | .retransmitTimeout l => Sys2Proof.Machine.execRetransmitTimeout l s
  | .creditFrameSend l => Sys2Proof.Machine.execCreditFrameSend l s
  | .sentNoteFlush => Sys2Proof.Machine.execSentNoteFlush s
  | .attachCheck j ctxs exact major minor => Sys2Proof.Machine.execAttachCheck j ctxs exact major minor s
  | .fenceRepeat j => Sys2Proof.Machine.execFenceRepeat j s
  | .fenceSlow j => Sys2Proof.Machine.execFenceSlow j s
  | .directLinkEvidence j => Sys2Proof.Machine.execDirectLinkEvidence j s
  | .slotInstalled j tagOks => Sys2Proof.Machine.execSlotInstalled j tagOks s
  | .ingressLogExpiry j => Sys2Proof.Machine.execIngressLogExpiry j s
  | .gratuitousAnnounce j n => Sys2Proof.Machine.execGratuitousAnnounce j n s
  | .takeover j => Sys2Proof.Machine.execTakeover j s
  | .force j => Sys2Proof.Machine.execForce j s
  | .twLinkDataAccess write v => Sys2Proof.Machine.execTwLinkDataAccess write v s
  | .twKeyDataWrite v => Sys2Proof.Machine.execTwKeyDataWrite v s
  | .epochSwitch => Sys2Proof.Machine.execEpochSwitch s
  | .hpWinDataWrite v => Sys2Proof.Machine.execHpWinDataWrite v s
  | .cacheWayDisable v => Sys2Proof.Machine.execCacheWayDisable v s
  | .epPortResetWrite p => Sys2Proof.Machine.execEpPortResetWrite p s
  | .epPhyCfgWrite p v => Sys2Proof.Machine.execEpPhyCfgWrite p v s
  | .anRestart p => Sys2Proof.Machine.execAnRestart p s
  | .tsHwmRestart p => Sys2Proof.Machine.execTsHwmRestart p s
  | .mgListenEndWrite => Sys2Proof.Machine.execMgListenEndWrite s
  | .syncCmd => Sys2Proof.Machine.execSyncCmd s
  | .speedMinRestart => Sys2Proof.Machine.execSpeedMinRestart s
  | .faultInject k kind => Sys2Proof.Machine.execFaultInject k kind s
  | .clrCnt k => Sys2Proof.Machine.execClrCnt k s
  | .poolHwmRestart => Sys2Proof.Machine.execPoolHwmRestart s
  | .clrHist q => Sys2Proof.Machine.execClrHist q s
  | .rkHwmRestart => Sys2Proof.Machine.execRkHwmRestart s
  | .jobsHwmRestart => Sys2Proof.Machine.execJobsHwmRestart s
  | .fifoHwmRestart => Sys2Proof.Machine.execFifoHwmRestart s
  | .powerPeakRestart => Sys2Proof.Machine.execPowerPeakRestart s
  | .coreReset k => Sys2Proof.Machine.execCoreReset k s
  | .clearFaultHistory k => Sys2Proof.Machine.execClearFaultHistory k s
  | .firstClear => Sys2Proof.Machine.execFirstClear s
  | .logClr c => Sys2Proof.Machine.execLogClr c s
  | .arbRestart c => Sys2Proof.Machine.execArbRestart c s
  | .clPatchDataRead c => Sys2Proof.Machine.execClPatchDataRead c s
  | .clusterReset c => Sys2Proof.Machine.execClusterReset c s
  | .clusterResetEnd c cores cps vectors => Sys2Proof.Machine.execClusterResetEnd c cores cps vectors s
  | .warmReset key => Sys2Proof.Machine.execWarmReset key s
  | .warmDone tests => Sys2Proof.Machine.execWarmDone tests s
  | .powerOnReset straps => Sys2Proof.Machine.execPowerOnReset straps s
  | .sysReset straps => Sys2Proof.Machine.execSysReset straps s
  | .perst straps => Sys2Proof.Machine.execPerst straps s
  | .bootReady tests lanes => Sys2Proof.Machine.execBootReady tests lanes s
  | .qspiBootLoad image sig => Sys2Proof.Machine.execQspiBootLoad image sig s
  | .undervolt j => Sys2Proof.Machine.execUndervolt j s
  | .pwrOkFall => Sys2Proof.Machine.execPwrOkFall s
  | .liveLost => Sys2Proof.Machine.execLiveLost s
  | .liveBack => Sys2Proof.Machine.execLiveBack s
  | .egressStopped => Sys2Proof.Machine.execEgressStopped s
  | .mailboxNop => Sys2Proof.Machine.execMailboxNop s
  | .getVersion => Sys2Proof.Machine.execGetVersion s
  | .lanternChOpen => Sys2Proof.Machine.execLanternChOpen s
  | .lanternChClose => Sys2Proof.Machine.execLanternChClose s
  | .chSetIp => Sys2Proof.Machine.execChSetIp s
  | .chGain => Sys2Proof.Machine.execChGain s
  | .chEc => Sys2Proof.Machine.execChEc s
  | .chStats => Sys2Proof.Machine.execChStats s
  | .evtRead => Sys2Proof.Machine.execEvtRead s
  | .mailboxCompletion => Sys2Proof.Machine.execMailboxCompletion s
  | .lnMbxStatRead => Sys2Proof.Machine.execLnMbxStatRead s
  | .rcRead a => Sys2Proof.Machine.execRcRead a s
  | .counterLowWordRead a => Sys2Proof.Machine.execCounterLowWordRead a s
  | .registerWrite a v => Sys2Proof.Machine.execRegisterWrite a v s
  | .tdClkReturn h => Sys2Proof.Machine.execTdClkReturn h s
  | .beacon => Sys2Proof.Machine.execBeacon s
  | .msixUnmask v => Sys2Proof.Machine.execMsixUnmask v s
  | .interfaceIdle => Sys2Proof.Machine.execInterfaceIdle s
  | .hostSuspend e n input dict => Sys2Proof.Machine.execHostSuspend e n input dict s
  | .evacuateFenceRepeat => Sys2Proof.Machine.execEvacuateFenceRepeat s
  | .undervoltEnd j => Sys2Proof.Machine.execUndervoltEnd j s
  | .pcieLinkUp speed width => Sys2Proof.Machine.execPcieLinkUp speed width s

end Sys2Proof.Machine
end

