-- ==== Sys2Proof/Safety.lean ====
section
/-! DEFINITION. What a safe run of the block is, and the terms in which statements speak of states: which parts of a state a command changes,
what a register of a Dziul core holds, and what an instruction of a core finds when nothing but the instruction itself happens. -/
namespace Sys2Proof.Machine

/-! ## Runs -/

/-- The states that n steps reach: none when a step on the way answers a fault or a refusal. -/
def run : Nat → State → Option State
  | 0, s => some s
  | n + 1, s =>
    match step s with
    | .next t => run n t
    | .fault _ => none
    | .refused _ => none

/-- A run of any length from the state meets neither a fault nor a refusal. -/
def Safe (s : State) : Prop := ∀ n, ∃ t, run n s = some t

/-- The sparse memories of the block are in canonical form: HBM, its poison marks, the CSM and the CPS. -/
def MemInv (s : State) : Prop := s.memWf = true

/-! ## Parts of the state -/

/-- The parts of the state, a name for each field but the queue of commands. -/
inductive Part where
  | fuse | elapsed | freeCtr | regs | cores | mem | th | chans | hp | ep | cp | td | bs | lm | hi | rl | tw | mg | gl | st | rk | ln
  | lastRead | out
deriving DecidableEq, Repr

/-- A part is the same in two states. -/
def Part.Same (p : Part) (s t : State) : Prop :=
  match p with
  | .fuse => t.fuse = s.fuse
  | .elapsed => t.elapsed = s.elapsed
  | .freeCtr => t.freeCtr = s.freeCtr
  | .regs => t.regs = s.regs
  | .cores => t.cores = s.cores
  | .mem => t.mem = s.mem
  | .th => t.th = s.th
  | .chans => t.chans = s.chans
  | .hp => t.hp = s.hp
  | .ep => t.ep = s.ep
  | .cp => t.cp = s.cp
  | .td => t.td = s.td
  | .bs => t.bs = s.bs
  | .lm => t.lm = s.lm
  | .hi => t.hi = s.hi
  | .rl => t.rl = s.rl
  | .tw => t.tw = s.tw
  | .mg => t.mg = s.mg
  | .gl => t.gl = s.gl
  | .st => t.st = s.st
  | .rk => t.rk = s.rk
  | .ln => t.ln = s.ln
  | .lastRead => t.lastRead = s.lastRead
  | .out => t.out = s.out

/-- Nothing of the state but the listed parts differs; the queue of commands does not. -/
def Only (ps : List Part) (s t : State) : Prop := t.pending = s.pending ∧ ∀ p, p ∉ ps → p.Same s t

/-- The parts of the state that a command may change. -/
def writes : Instr → List Part
  | .nop .. | .b .. | .call .. | .brp .. | .rts .. | .rti .. | .doImm .. | .dor .. | .sett .. | .gett .. | .bkpt .. | .mpyq .. | .macq ..
  | .msuq .. | .ftap .. | .ftapx .. | .mpy .. | .mac .. | .msu .. | .adda .. | .suba .. | .nega .. | .absa .. | .clra .. | .clrq .. | .asha ..
  | .cmpa .. | .expOp .. | .norm .. | .add .. | .sub .. | .andOp .. | .orOp .. | .xorOp .. | .lsl .. | .lsr .. | .asr .. | .cmp .. | .addi ..
  | .movi .. | .mov .. | .ld .. | .st .. | .lda .. | .sta .. | .stagingComplete .. =>
    [.regs, .cores, .mem, .th, .chans, .hp, .hi, .rl, .out]
  | .waitWork .. | .yield .. | .ovl .. | .coreHang .. | .queueRebuildEnd | .nodeCancel .. | .retireNodeTimeout .. | .coreReset ..
  | .clusterReset .. =>
    [.regs, .cores, .th, .chans, .hp, .hi, .rl, .out]
  | .dispatch .. =>
    [.regs, .cores, .mem, .th, .hi, .rl]
  | .commit .. =>
    [.regs, .cores, .th, .chans, .hp, .ep, .hi, .rl, .tw, .st, .rk, .ln, .out]
  | .enqToken .. | .enqItem .. | .enqWork .. =>
    [.regs, .cores, .th, .chans, .hp, .ep, .hi, .rl, .ln, .out]
  | .ovlCopyEnd .. | .interruptEntry .. | .debugHaltRequest .. | .localTimerExpiry .. | .clearFaultHistory .. =>
    [.cores]
  | .coreFault .. | .idleFault .. | .fwxStepEnd .. | .patrolScrubRead .. =>
    [.regs, .cores, .mem, .th, .chans, .hp, .hi, .rl, .gl, .st, .out]
  | .queueRebuild .. =>
    [.regs, .cores, .th, .rl]
  | .flowStall .. =>
    [.regs, .th, .rl]
  | .frameTick =>
    [.regs, .th, .chans, .hp, .td, .bs, .rl, .tw, .out]
  | .mediaTokenTimeout .. =>
    [.regs, .th, .chans, .hp, .rl]
  | .compassEpoch .. =>
    [.regs, .cores, .th, .cp, .bs, .hi, .rl, .tw]
  | .sensorWindow .. | .avsTransactionEnd .. | .avsResponseTimeout =>
    [.regs, .rl, .st, .out]
  | .floorRestored | .refLostClear | .ageMeasurement .. =>
    [.regs, .rl, .st]
  | .settleExpiry =>
    [.regs, .st, .out]
  | .avsFaultPoll =>
    [.st, .out]
  | .refLost =>
    [.regs, .th, .chans, .hp, .cp, .lm, .hi, .rl, .st, .out]
  | .refReturn =>
    [.regs, .lm, .hi, .rl, .st, .out]
  | .xing .. | .jabber | .captureEdge .. | .bsClockLost .. | .bsChWrite .. | .lifeHour .. | .cacheWayDisable .. =>
    [.regs, .rl]
  | .pageMoveLineCopy .. =>
    [.regs, .hp, .rl]
  | .migDone .. | .remoteResponse .. | .remoteTimeout | .chParam .. | .ctxRead .. | .ctxWrite .. | .pageMove .. | .hbmRepair ..
  | .hbmRepairPauseEnd .. =>
    [.regs, .hp, .hi, .rl, .out]
  | .frameReceived .. | .frameTransmitStart .. | .fabricFrameSend .. | .heartbeatSend .. | .retransmitTimeout .. =>
    [.regs, .chans, .hp, .ep, .hi, .rl, .tw, .out]
  | .txAgeDiscard .. | .frameTransmitEnd .. =>
    [.regs, .chans, .hp, .ep, .hi, .rl, .out]
  | .linkUp .. =>
    [.regs, .ep, .cp, .rl]
  | .linkDown .. | .portReset .. | .epPortResetWrite .. | .anRestart .. =>
    [.regs, .chans, .hp, .ep, .cp, .hi, .rl, .tw, .mg, .gl, .out]
  | .anComplete .. | .pauseBreak .. =>
    [.regs, .ep, .rl]
  | .anRetry .. | .pauseTimeExpiry .. | .holdoffEnd .. =>
    [.regs, .ep]
  | .portResetEnd .. =>
    [.regs, .ep, .hi, .rl, .out]
  | .mgFrameReceived .. =>
    [.regs, .bs, .lm, .hi, .rl, .tw, .mg, .gl, .out]
  | .syncMessageAct =>
    [.bs, .mg]
  | .blankIntervalStart | .openGapEnd | .relaySettleEnd | .blankPinEdge .. | .passGapEnd | .telemetryStart | .resetFault .. =>
    [.regs, .lm]
  | .blankIntervalEnd =>
    [.regs, .lm, .mg]
  | .mgTransmitAttempt | .mgTransmitEnd | .mgTxTimeout .. | .ownJabber | .msgSend .. =>
    [.regs, .hi, .rl, .mg, .out]
  | .mgCollision .. =>
    [.freeCtr, .regs, .hi, .rl, .mg, .out]
  | .backoffEnd =>
    [.mg]
  | .jabberClear | .listenEnd | .bsSettleEnd .. | .dischargeEnd | .ringDrained .. | .tsHwmRestart .. | .mgListenEndWrite | .speedMinRestart
  | .clrCnt .. | .poolHwmRestart | .rkHwmRestart | .jobsHwmRestart | .fifoHwmRestart | .powerPeakRestart | .firstClear | .logClr ..
  | .arbRestart .. | .clusterResetEnd .. | .undervoltEnd .. | .pcieLinkUp .. =>
    [.regs]
  | .plcaBeaconLoss | .liveBack | .beacon =>
    [.regs, .mg]
  | .wakePin | .modeSet .. | .undervolt .. =>
    [.regs, .hi, .rl, .gl, .out]
  | .timeStep =>
    [.regs, .chans, .cp, .rl]
  | .cpAdjWrite .. | .slewAbsorbed =>
    [.cp]
  | .ppsInEdge =>
    [.freeCtr, .regs, .cp, .rl]
  | .srcLost | .clkLost .. =>
    [.regs, .cp, .rl]
  | .ppsOutRise | .ppsOutFall =>
    [.cp, .out]
  | .capSecRead .. | .cpNsecRead | .clPatchDataRead .. | .lnMbxStatRead =>
    [.regs, .lastRead]
  | .highwayTick .. =>
    [.regs, .cp, .td, .rl, .out]
  | .highwayFrameReceived .. =>
    [.freeCtr, .regs, .cp, .td, .rl, .out]
  | .tdSlotDataWrite .. =>
    [.regs, .td, .rl, .tw]
  | .clkBack .. =>
    [.regs, .bs, .rl]
  | .bsSlotComplete .. =>
    [.regs, .th, .chans, .hp, .bs, .rl]
  | .syncInEdge | .syncCmd =>
    [.bs]
  | .syncReset | .groupLocalReset .. | .swap .. | .swapDone .. | .decSync .. | .coefWrite .. | .bankSwap .. =>
    [.regs, .bs, .hi, .rl, .out]
  | .bsCoefDataAccess .. =>
    [.regs, .bs, .rl, .lastRead]
  | .stileReadback =>
    [.regs, .lm, .out]
  | .stileStuckClosed .. | .lineTestSweep .. =>
    [.regs, .lm, .hi, .rl, .out]
  | .stileStuckOpen | .lmuOutput .. | .blankTimeout =>
    [.regs, .th, .chans, .hp, .lm, .hi, .rl, .out]
  | .engineTakeJob .. | .rkJobEnd .. | .quarantine .. =>
    [.regs, .th, .chans, .hp, .hi, .rl, .tw, .rk, .out]
  | .release .. =>
    [.rk]
  | .engineSelftestEnd .. | .rkTestInject .. =>
    [.regs, .rl, .rk]
  | .doorbellPoll .. =>
    [.regs, .hi, .rl]
  | .hiNudge | .interfaceIdle =>
    [.regs, .hi]
  | .hiRcfgWrite .. | .reportRecordWrite .. | .nopCommand .. | .deviceInfo .. | .chStatus .. | .srtpRead .. | .jobStatus .. | .jobList ..
  | .scrub .. | .scrubDone .. | .evacuate .. | .checkpointAll .. =>
    [.regs, .hi, .rl, .out]
  | .interruptModerationTimer .. | .msixUnmask .. =>
    [.hi, .out]
  | .hostReset .. | .ringsReset =>
    [.regs, .hi, .rl, .ln]
  | .badAccess .. =>
    [.regs, .rl, .lastRead]
  | .modeChange .. | .slotInstalled .. =>
    [.regs, .cores, .mem, .th, .chans, .hp, .ep, .cp, .td, .bs, .lm, .hi, .rl, .tw, .mg, .gl, .st, .rk, .ln, .out]
  | .admission .. =>
    [.regs, .hi, .rl, .st, .out]
  | .csmLoad .. =>
    [.regs, .mem, .hi, .rl, .gl, .out]
  | .patchLoad .. =>
    [.regs, .mem, .hp, .hi, .rl, .gl, .out]
  | .chOpen .. | .chOpenGraph .. =>
    [.regs, .th, .chans, .hp, .hi, .rl, .tw, .st, .out]
  | .chClose .. | .migrateSwitch .. =>
    [.regs, .cores, .th, .chans, .hp, .hi, .rl, .tw, .rk, .out]
  | .closeComplete .. =>
    [.regs, .th, .chans, .hi, .rl, .tw, .st, .out]
  | .flowResync .. =>
    [.regs, .th, .hp, .hi, .rl, .out]
  | .pktSend .. =>
    [.regs, .chans, .hp, .ep, .hi, .rl, .mg, .out]
  | .ftInsert .. | .ftDelete .. | .tplWrite .. | .hostCopy .. | .mirrorFrame .. | .readRequest .. | .writeRequest .. =>
    [.regs, .hp, .hi, .rl, .tw, .out]
  | .srtpWrite .. =>
    [.regs, .ep, .hi, .rl, .tw, .out]
  | .jobSuspend .. =>
    [.regs, .lm, .hi, .rl, .rk, .out]
  | .jobResume .. =>
    [.regs, .mem, .th, .chans, .hp, .lm, .hi, .rl, .gl, .st, .rk, .out]
  | .jobCancel .. =>
    [.regs, .cores, .mem, .th, .chans, .hp, .lm, .hi, .rl, .tw, .gl, .st, .rk, .out]
  | .fwExchange .. =>
    [.regs, .th, .chans, .hp, .hi, .rl, .gl, .st, .out]
  | .coreRetire .. | .fwJob .. =>
    [.regs, .th, .hi, .rl, .out]
  | .retirementSwap .. | .spareReady .. =>
    [.regs, .cores, .th, .chans, .hp, .hi, .rl, .gl, .st, .out]
  | .rowRepaired .. =>
    [.regs, .cores, .mem, .th, .rl]
  | .migrate .. =>
    [.regs, .chans, .hp, .hi, .rl, .tw, .out]
  | .migrateForwardEnd .. =>
    [.regs, .cores, .th, .chans, .hp, .hi, .rl, .rk, .out]
  | .evacuateFence | .directLinkEvidence .. =>
    [.regs, .hi, .rl, .tw, .gl, .out]
  | .rkJob .. =>
    [.regs, .hi, .rl, .rk, .out]
  | .heartbeat .. | .linkLost .. | .fenceRepeat .. =>
    [.regs, .hi, .rl, .tw, .mg, .out]
  | .migrateFrame .. =>
    [.regs, .th, .chans, .hp, .ep, .hi, .rl, .tw, .st, .out]
  | .credit .. =>
    [.regs, .hi, .rl, .tw, .out]
  | .fenceFrame .. | .takeover .. | .force .. =>
    [.regs, .hi, .rl, .tw, .mg, .gl, .out]
  | .creditFrameSend .. | .sentNoteFlush | .evacuateFenceRepeat =>
    [.tw]
  | .attachCheck .. | .fenceSlow .. | .epochSwitch =>
    [.regs, .rl, .tw]
  | .ingressLogExpiry .. | .twKeyDataWrite .. =>
    [.regs, .tw]
  | .gratuitousAnnounce .. =>
    [.regs, .rl, .tw, .out]
  | .twLinkDataAccess .. =>
    [.regs, .rl, .tw, .lastRead]
  | .hpWinDataWrite .. =>
    [.hp]
  | .epPhyCfgWrite .. | .registerWrite .. =>
    [.freeCtr, .regs, .cores, .mem, .th, .chans, .hp, .ep, .cp, .td, .bs, .lm, .hi, .rl, .tw, .mg, .gl, .st, .rk, .ln, .lastRead, .out]
  | .faultInject .. =>
    [.regs, .cores, .rl]
  | .clrHist .. =>
    [.th]
  | .warmReset .. =>
    [.regs, .cores, .mem, .th, .chans, .hp, .ep, .td, .bs, .lm, .hi, .rl, .tw, .mg, .gl, .st, .rk, .ln, .out]
  | .warmDone .. | .bootReady .. =>
    [.regs, .rl, .gl]
  | .powerOnReset .. | .sysReset .. | .perst .. | .pwrOkFall =>
    [.fuse, .elapsed, .freeCtr, .regs, .cores, .mem, .th, .chans, .hp, .ep, .cp, .td, .bs, .lm, .hi, .rl, .tw, .mg, .gl, .st, .rk, .ln, .lastRead, .out]
  | .qspiBootLoad .. =>
    [.regs, .mem, .hp, .rl, .gl]
  | .liveLost =>
    [.regs, .hi, .rl, .mg, .gl, .out]
  | .egressStopped =>
    [.regs, .chans, .hp, .ep, .hi, .rl, .tw, .mg, .gl, .out]
  | .mailboxNop | .getVersion | .evtRead =>
    [.regs, .rl, .ln]
  | .lanternChOpen =>
    [.regs, .th, .chans, .hp, .td, .rl, .tw, .st, .ln]
  | .lanternChClose =>
    [.regs, .cores, .th, .chans, .hp, .hi, .rl, .rk, .ln, .out]
  | .chSetIp =>
    [.regs, .hp, .rl, .tw, .ln]
  | .chGain | .chEc =>
    [.regs, .hp, .rl, .ln]
  | .chStats =>
    [.regs, .chans, .rl, .ln]
  | .mailboxCompletion =>
    [.regs, .hi, .ln, .out]
  | .rcRead .. | .counterLowWordRead .. =>
    [.regs, .hi, .lastRead]
  | .tdClkReturn .. =>
    [.regs, .cp, .td]
  | .hostSuspend .. =>
    [.regs, .hp, .hi, .rl, .tw, .rk, .out]

/-- Every register field but those of the listed ones, by where they stand, holds what it held. -/
def FldsBut (fs : List Fld) (s t : State) : Prop := ∀ f : Fld, (∀ g ∈ fs, g.key ≠ f.key) → t.fld f = s.fld f

/-- Every register field outside the address range of RL_, where reports are counted, and but those of the listed ones holds what it
held. -/
def FldsButRl (fs : List Fld) (s t : State) : Prop :=
  ∀ f : Fld, (f.key < 0x60000 * 8 ∨ 0x70000 * 8 ≤ f.key) → (∀ g ∈ fs, g.key ≠ f.key) → t.fld f = s.fld f

/-! ## Cores -/

/-- What a register holds by its code (R109), a part of an accumulator as the 24-bit value that a read of it gives (R72). -/
def Core.reg (c : Core) (r : Nat) : Nat := if rcIsPart r then accPart (c.newest (rcHome r)) r else c.newest r

/-- What a register other than SR holds after a value is written to it (R72, R73). -/
def regStored (d v : Nat) : Nat :=
  if rcIsA d then v % 2 ^ 56
  else if 0x28 ≤ d ∧ d < 0x30 then unsgn 24 (sgn 8 (v % 2 ^ 8))
  else if d = 0x52 ∨ d = 0x53 then v / 2 * 2 % 2 ^ 15
  else v % 2 ^ 24

/-- Two register codes share bits: they are one, or one names an accumulator and the other a part of it. -/
def overlaps (r d : Nat) : Bool := r = d || (rcIsA d && rcHome r = d) || (rcIsA r && rcHome d = r)

/-- Every register but SR and those that share bits with a listed one holds what it held. -/
def KeepsRegs (ds : List Nat) (c c' : Core) : Prop :=
  ∀ r, rcValid r = true → r ≠ 0x50 → (∀ d ∈ ds, overlaps r d = false) → c'.reg r = c.reg r

/-- The three memories of the core hold what they held. -/
def KeepsMem (c c' : Core) : Prop := c'.xm = c.xm ∧ c'.ym = c.ym ∧ c'.cm = c.cm

/-- The listed bits of SR stand as listed, every other as before. -/
def SrBits (l : List (Nat × Bool)) (old new : W24) : Prop :=
  ∀ i, i < 24 → srBit new i = ((l.find? fun e => e.1 = i).map (·.2)).getD (srBit old i)

/-- Core `k` issues the word of opcode `op` and format bits `f` (R86, R138), outside delay slots and hardware loops, no injected fault is
armed (R107), and the next word lies in CM. -/
def Straight (s : State) (k : Fin 144) (op : Nat) (f : BitVec 40) : Prop :=
  s.canIssue k.val (word48 op f) = true ∧ (s.core k.val).inject = 0 ∧ (s.core k.val).slots = 0 ∧ (s.core k.val).branch = none
    ∧ (s.core k.val).looping = false ∧ (s.core k.val).pc < 0x7FFD

/-- An instruction of core `k` leaves the device as it was but for the core, which goes on to the next word with its return stack and
its memories as they were, and of which the rest is as `P` says. -/
def CoreStep (i : Instr) (k : Fin 144) (s : State) (P : Core → Core → Prop) : Prop :=
  ∃ c', exec i s = .next (s.setCore k.val c') ∧ c'.pc = (s.core k.val).pc + 2 ∧ c'.stack = (s.core k.val).stack
    ∧ KeepsMem (s.core k.val) c' ∧ P (s.core k.val) c'

/-- Register `d` takes a 24-bit result, Z and N tell of it, every other register and bit of SR stays (R112). -/
def AluDone (d v : Nat) (c c' : Core) : Prop :=
  c'.reg d = regStored d v ∧ KeepsRegs [d] c c' ∧ SrBits [(srZ, decide (v % 2 ^ 24 = 0)), (srN, bit v 23)] c.sr c'.sr

/-- Accumulator `d` takes a result, the flags C, V, Z, N and E tell of it (R74), and GV is set with V (R77); every other register and
bit of SR stays. -/
def AccDone (d val : Nat) (carry clamp : Bool) (c c' : Core) : Prop :=
  c'.reg d = val % 2 ^ 56 ∧ KeepsRegs [d] c c'
    ∧ SrBits [(srC, carry), (srV, clamp), (srZ, decide (accInt val = 0)), (srN, decide (accInt val < 0)), (srE, outOfFrac (accInt val)),
        (srGV, clamp || srBit c.sr srGV)] c.sr c'.sr

/-- The carry out of bit 55 of the 56-bit sum of an accumulator and an operand (R74). -/
def accCarry (a : Nat) (x : Int) : Bool := decide (a % 2 ^ 56 + unsgn 56 x ≥ 2 ^ 56)

/-- A move into register `d` ends: `d` takes the value, SR only its bits that may be written (R74), and with `lv` LV is set; every
other register stays. -/
def Moved (d v : Nat) (lv : Bool) (c c' : Core) : Prop :=
  KeepsRegs [d] c c'
    ∧ (if d = 0x50 then c'.sr = srWrite c.sr v else c'.reg d = regStored d v ∧ c'.sr = if lv then srSet c.sr srLV true else c.sr)

/-! ## Memory as a core sees it (R80-R82) -/

/-- A word that lies in a space: 0 X, 1 Y, 2 C. X and Y reach the CSM beyond their own memories. -/
def reaches (sp a : Nat) : Bool := if sp = 2 then a < 0x8000 else a < 0x4000 || inCsm a

/-- The word of a space that core `k` reads from its memories and the CSM, the low 24 bits of a CSM word. -/
def Core.word (c : Core) (csm : SMap W32) (k sp a : Nat) : Nat :=
  if sp = 2 then (mget 0 c.cm a).toNat
  else if a < 0x4000 then (if sp = 0 then (mget 0 c.xm a).toNat else (mget 0 c.ym a).toNat)
  else (csmGet csm (k / 9) (a - csmBase)).toNat % 2 ^ 24

def State.spaceWord (s : State) (k sp a : Nat) : Nat := (s.core k).word s.mem.csm k sp a

/-- Two addresses name one word: X and Y share the CSM. -/
def sameWord (sp a sp' a' : Nat) : Prop := a = a' ∧ (sp = sp' ∨ sp ≠ 2 ∧ sp' ≠ 2 ∧ 0x4000 ≤ a)

/-- A core takes loaded values into registers, then the pointer that formed the address, which wins over a load of the same register
(R94, R123); CBX is set when an offset was folded (R91). -/
def Loaded (vs : List (Nat × Nat)) (upd : List (Nat × Nat)) (cbx : Bool) (c c' : Core) : Prop :=
  (∀ e ∈ vs, (∀ p ∈ upd, p.1 ≠ e.1) → c'.reg e.1 = regStored e.1 e.2) ∧ (∀ p ∈ upd, c'.reg p.1 = p.2 % 2 ^ 24)
    ∧ KeepsRegs (vs.map (·.1) ++ upd.map (·.1)) c c' ∧ c'.sr = if cbx then srSet c.sr srCBX true else c.sr

/-- Core `k` stored words in a space, in order: each stands where no later one overwrote it, a CSM word with the sign of the 24-bit value in
bits 31-24 (R81); every other word, of the core and of the CSM of any cluster, holds what it held. -/
def Stored (k sp : Nat) (vs : List (Nat × Nat)) (s t : State) : Prop :=
  (∀ l e r, vs = l ++ e :: r → (∀ x ∈ r, x.1 ≠ e.1) → t.spaceWord k sp e.1 = e.2 % 2 ^ 24
      ∧ (sp ≠ 2 → 0x4000 ≤ e.1 → csmGet t.mem.csm (k / 9) (e.1 - csmBase) = csmExtend e.2))
    ∧ (∀ sp' a, sp' ≤ 2 → reaches sp' a = true → (∀ e ∈ vs, ¬sameWord sp e.1 sp' a) → t.spaceWord k sp' a = s.spaceWord k sp' a)
    ∧ ∀ c w, w < csmWords → (c ≠ k / 9 ∨ ∀ e ∈ vs, e.1 ≠ csmBase + w) → csmGet t.mem.csm c w = csmGet s.mem.csm c w

/-- An instruction of core `k` that stores leaves the device as it was but for the core and the CSM, the words stored as `Stored` says;
the core goes on to the next word with its return stack as it was, and the rest of it is as `P` says. -/
def StoreStep (i : Instr) (k : Fin 144) (s : State) (sp : Nat) (vs : List (Nat × Nat)) (P : Core → Core → Prop) : Prop :=
  ∃ c' csm, exec i s = .next (({ s with mem := { s.mem with csm := csm } } : State).setCore k.val c') ∧ c'.pc = (s.core k.val).pc + 2
    ∧ c'.stack = (s.core k.val).stack ∧ Stored k.val sp vs s (({ s with mem := { s.mem with csm := csm } } : State).setCore k.val c')
    ∧ P (s.core k.val) c'

/-- SR with the sticky bits LV and CBX set when a store saturated (R78) and when an offset was folded (R91). -/
def srSticky (sr : W24) (lv cbx : Bool) : W24 :=
  let sr := if lv then srSet sr srLV true else sr
  if cbx then srSet sr srCBX true else sr

/-- The pointer of an effective address and what is written back to it, if anything is. -/
def EaOut.pointer (o : EaOut) (ea : Nat) : List (Nat × Nat) := o.upd.toList.map fun p => (rcP (ea % 8), p)

/-- The four accumulators of quad `aq` take results; C, Z, N and E tell of the first of them, V that one of them clamped; GV, LV and CBX are sticky.
The registers of `more` take a value each. Every other register and bit of SR stays. -/
def QuadDone (aq : Nat) (val : Nat → Nat) (carry clamp lv cbx : Bool) (more : List (Nat × Nat)) (c c' : Core) : Prop :=
  (∀ j, j < 4 → c'.reg (0x10 + (4 * aq + j)) = val j % 2 ^ 56) ∧ (∀ e ∈ more, c'.reg e.1 = e.2 % 2 ^ 24)
    ∧ KeepsRegs ((List.range 4).map (fun j => 0x10 + (4 * aq + j)) ++ more.map (·.1)) c c'
    ∧ SrBits [(srC, carry), (srV, clamp), (srZ, decide (accInt (val 0) = 0)), (srN, decide (accInt (val 0) < 0)), (srE, outOfFrac (accInt (val 0))),
        (srGV, clamp || srBit c.sr srGV), (srLV, lv || srBit c.sr srLV), (srCBX, cbx || srBit c.sr srCBX)] c.sr c'.sr

/-! ## Flow of control -/

/-- Core `k` issues a control instruction where one is legal (R126, R128), and no injected fault is armed. -/
def Flows (s : State) (k : Fin 144) (op : Nat) (f : BitVec 40) : Prop :=
  s.canIssue k.val (word48 op f) = true ∧ (s.core k.val).inject = 0 ∧ controlOk (s.core k.val) = true ∧ (s.core k.val).branch = none
    ∧ (s.core k.val).pc < 0x7FFD

/-- A taken branch of the core to `t` leaves a running loop from inside its body (R128). -/
def exitsLoop (c : Core) (t : Nat) : Bool := c.looping && decide (c.lsN ≤ c.pc ∧ c.pc ≤ c.leN ∧ ¬(c.lsN ≤ t ∧ t ≤ c.leN))

/-- The core goes on to the next word with its registers, SR and memories as they were. -/
def FlowKept (c c' : Core) : Prop := c'.pc = c.pc + 2 ∧ c'.sr = c.sr ∧ KeepsRegs [] c c' ∧ KeepsMem c c'

/-- An instruction of core `k` leaves the device as it was but for the core, of which `P` tells. -/
def FlowStep (i : Instr) (k : Fin 144) (s : State) (P : Core → Core → Prop) : Prop :=
  ∃ c', exec i s = .next (s.setCore k.val c') ∧ P (s.core k.val) c'

/-! ## Commands of a ring -/

/-- The command is the next of its ring, no fence holds it, its flags are legal, and what it reads of host memory arrives (R385, R387,
R388). -/
def Starts (s : State) (c : HCmd) : Prop := s.mayStart c = true ∧ bits c.hi.toNat 2 6 = 0 ∧ c.fail.val = 0

/-- A command that is no job command starts: its HANDLE is 0. -/
def Plain (s : State) (c : HCmd) : Prop := Starts s c ∧ cmdHandle c = 0

/-- A job command starts: its handle names no job, and the device holds fewer than 256 jobs and fewer than `limit` live ones of this kind
that `same` picks (R397). -/
def StartsJob (s : State) (c : HCmd) (op limit : Nat) (same : Job → Bool) : Prop :=
  Starts s c ∧ cmdHandle c ≠ 0 ∧ s.job (cmdHandle c) = none ∧ s.hi.jobs.length < 256 ∧ ((s.liveJobs op).filter same).length < limit

/-! ## Fabric frames -/

/-- A received frame passes every check of R410 on the link of its source. -/
def FabPasses (s : State) (f : FabIn) (l : Nat) : Prop :=
  s.fabOn = true ∧ f.wellFormed = true ∧ f.hdr.dst = s.fld F.TW_ID_DEV_ID ∧ f.hdr.src ≠ s.fld F.TW_ID_DEV_ID ∧ s.linkOf f.hdr.src = some l
    ∧ f.tagOk = true ∧ ∃ prev, s.fabEpoch f.hdr.epoch = some prev
      ∧ ∀ t, (if prev then (s.link l).rxPrev else (s.link l).rxCur) = some t → t < f.hdr.txc

end Sys2Proof.Machine
end

