-- ==== Sys2Proof/Certificates/Slice0/Obligations.lean ====
section
/-! DEFINITION. The statements for the provers. Each docstring says what its statement states and which rules of the specification it
formalises or rests on; OBLIGATIONS.json lists them with their numbers. -/
open Sys2Proof Sys2Proof.Machine

/-- A step takes the command at the front of the queue and is that command's effect on the state with the queue's
rest. -/
def Obligations.StepRunsTheFrontCommand : Prop :=
  ∀ (s : State) (c : Instr) (r : List Instr), s.pending = c :: r → step s = Sys2Proof.Machine.exec c { s with pending := r }

/-- THE MODEL'S CHOICE (log entry 1): with no command waiting, a step is one period of the 25 MHz reference. Device
time goes on by 40 ns (R11, R284); nothing but the estimate of power, Compass and the local timers changes, and with
the reference lost or in THERMOS only the estimate does (R54, R476). -/
def Obligations.EmptyQueuePassesOnePeriod : Prop :=
  ∀ s : State, s.pending = [] → ∃ t, step s = .next t ∧ t.elapsed = s.elapsed + 40 ∧ Only [.elapsed, .regs, .cores, .cp] s t
    ∧ (s.flag F.CP_STATUS_REF_LOST = true ∨ s.mode = 9 → Only [.elapsed, .regs] s t ∧ FldsBut [F.PW_POWER_PEAK] s t)

/-- Commands run first in, first out, and no command enters the queue by itself: n steps use up the first n commands
that wait. -/
def Obligations.QueueIsFirstInFirstOut : Prop :=
  ∀ (n : Nat) (s : State), n ≤ s.pending.length → ∃ t, run n s = some t ∧ t.pending = s.pending.drop n

/-- No command stops the block: from every state, a run of any length meets neither a fault nor a refusal. -/
def Obligations.EveryRunIsSafe : Prop := ∀ s : State, Safe s

/-- A command changes nothing but the parts of the state that `writes` lists for it: a core's instruction leaves
ports, highways, links and the host's rings alone, a register's command the cores and the memories, and so for each of
the 302 commands; the queue of commands is no command's effect. -/
def Obligations.CommandsChangeOnlyTheirParts : Prop :=
  ∀ (i : Instr) (s t : State), Sys2Proof.Machine.exec i s = .next t → Only (writes i) s t

/-- R95, R105, R171, R412, R469, R480, R491, R512, R514: the state right after a cold reset. The sparse memories list
nothing and are in canonical form; the device is in HELD with no channel, job, command, flow or frame; registers read
as the register map gives them, and each link record has a window of 32 frames and a timeout of 200 µs. The variant is
a ZG8192, the straps are 0 and the fuses 0: the model's choice (log entry 2). What a core's registers and memories
hold at reset is the model's choice too (log entry 3), and no clause is about it. -/
def Obligations.ResetState : Prop :=
  let s := State.reset
  MemInv s ∧ s.hp.hbm = [] ∧ s.mem.csm = [] ∧ s.mem.cps = [] ∧ s.pending = [] ∧ s.chans = [] ∧ s.hi.jobs = [] ∧ s.th.queues = [] ∧ s.mode = 0
    ∧ s.regValue R.GL_ID = 0x00B08192 ∧ s.regValue R.GL_MODE = 0x100 ∧ s.regValue R.GL_RESET_CAUSE = 0 ∧ s.regValue R.ST_CTRL = 0x19 ∧ s.regValue R.ST_VLIMIT = 0x038402A8
    ∧ s.regValue R.ST_VSET = 0x03200320 ∧ s.regValue R.ST_AVS_CFG = 0x302 ∧ s.regValue R.ST_AGE_MIN = 0x3E8 ∧ (∀ c : Fin 16, s.regValue (R.ST_AGE c) = 0x3E8)
    ∧ ∀ l : Fin 64, (s.link l).window = 32 ∧ (s.link l).rtoUs = 200 ∧ (s.link l).en = false

/-- Every step keeps HBM, its poison marks, the CSM and the CPS in canonical form: addresses strictly rising and no
entry equal to what an unlisted address reads as, so that equal memories are equal data. -/
def Obligations.MemoryStaysCanonical : Prop := ∀ s t : State, MemInv s → step s = .next t → MemInv t

/-- R15, with the first sentence of R105, to which its last one points: physical core 9c + i is core i of cluster c.
At reset the core at i = 8 of each cluster is the spare, and it has no logical number; core 9c + j has the logical
number 8c + j, so the logical cores are 0-127, each mapped once. -/
def Obligations.ResetCoreMap : Prop :=
  (∀ k : Fin 144, ∃ (c : Fin 16) (i : Fin 9), k.val = 9 * c.val + i.val)
  ∧ (∀ c : Fin 16, State.reset.fld (F.CO_STATUS_STATE (9 * c.val + 8)) = 0 ∧ State.reset.fld (F.CO_STATUS_MAPPED (9 * c.val + 8)) = 0)
  ∧ (∀ (c : Fin 16) (j : Fin 8), State.reset.fld (F.CO_STATUS_STATE (9 * c.val + j.val)) = 1 ∧ State.reset.fld (F.CO_STATUS_MAPPED (9 * c.val + j.val)) = 1
      ∧ State.reset.fld (F.CO_STATUS_LOGICAL (9 * c.val + j.val)) = 8 * c.val + j.val)
  ∧ ∀ n : Fin 128, ∃ k : Fin 144, (State.reset.fld (F.CO_STATUS_MAPPED k.val) = 1 ∧ State.reset.fld (F.CO_STATUS_LOGICAL k.val) = n.val)
      ∧ ∀ k' : Fin 144, State.reset.fld (F.CO_STATUS_MAPPED k'.val) = 1 → State.reset.fld (F.CO_STATUS_LOGICAL k'.val) = n.val → k' = k

/-- R482: PERST_N is a cold reset when GL_STRAP.PERST or GL_CTRL.PERST_COLD is 1, and otherwise a reset of the host
interface alone; GL_STATUS.PERST_COLD shows which. A device without power (R484) or, for the second kind, in THERMOS,
where the host interface is down (R476), is left as it is. -/
def Obligations.PerstChoice : Prop :=
  ∀ (s : State) (straps : BitVec 4),
    let cold := s.fld F.GL_STRAP_PERST = 1 ∨ s.fld F.GL_CTRL_PERST_COLD = 1
    (bit (s.regValue R.GL_STATUS) 4 = true ↔ cold)
    ∧ (s.fld F.PW_STATUS_PWR_OK = 1 → cold → ∃ t, Sys2Proof.Machine.exec (.perst straps) s = .next t ∧ t.mode = 0 ∧ t.chans = [] ∧ t.cores = [] ∧ t.hp.hbm = []
        ∧ t.mem.csm = [] ∧ t.hi.jobs = [] ∧ t.fld F.GL_RESET_CAUSE_LAST = 2)
    ∧ (s.fld F.PW_STATUS_PWR_OK = 1 → ¬cold → s.mode ≠ 9 → Sys2Proof.Machine.exec (.perst straps) s = .next (s.hostReset 3)
        ∧ (s.hostReset 3).fld F.HI_EVENT_HOST_RESET = 1 ∧ Only [.regs, .hi, .rl, .ln] s (s.hostReset 3) ∧ (∀ r, r < 64 → (s.hostReset 3).ringState r = 0))
    ∧ (s.fld F.PW_STATUS_PWR_OK ≠ 1 ∨ ¬cold ∧ s.mode = 9 → Sys2Proof.Machine.exec (.perst straps) s = .next s)

/-- R509: at an offset of BAR0 that holds no register a read gives 0 and changes nothing, and a write changes nothing;
no event is raised. The gaps inside a region are such offsets (no register of the map stands there), and so is every
offset of the four ranges that the rule names. The registers of clusters and cores that a ZG4096 has not read and
write in the same way (R2), and an access that is no aligned one of 4 bytes is answered with 0 and reported (R375). -/
def Obligations.UnassignedOffsets : Prop :=
  (∀ (s : State) (a v : BitVec 32), a.toNat < 0x1000000 →
      fieldsAt a.toNat = none ∨ s.fuse.small = true ∧ (0x280000 ≤ a.toNat ∧ a.toNat < 0x300000 ∨ 0x448000 ≤ a.toNat ∧ a.toNat < 0x490000) →
      Sys2Proof.Machine.exec (.rcRead a) s = .next { s with lastRead := 0 } ∧ Sys2Proof.Machine.exec (.registerWrite a v) s = .next s)
  ∧ (∀ a : Nat, 0x0E0000 ≤ a ∧ a < 0x100000 ∨ 0x140000 ≤ a ∧ a < 0x200000 ∨ 0x300000 ≤ a ∧ a < 0x400000 ∨ 0x490000 ≤ a ∧ a < 0x1000000 → fieldsAt a = none)
  ∧ ∀ (s : State) (bar : Fin 3) (ofs : BitVec 24) (en : BitVec 8) (w : Bool), ∃ t, Sys2Proof.Machine.exec (.badAccess bar ofs en w) s = .next t
      ∧ t.lastRead = (if w then s.lastRead else 0) ∧ Only [.regs, .rl, .lastRead] s t ∧ FldsButRl [] s t

/-- R8, R18, R20, R540: a write of a register that is judged field by field. A rule that ignores the whole write
leaves every field outside RL_ and every other part of the device as it was. Otherwise each field that the write may
set and whose value is no reserved encoding takes its bits of the value, a W1C bit that carries a one is cleared,
every other field keeps its value; then the register's own consequences follow. -/
def Obligations.RegisterWriteRules : Prop :=
  ∀ (s : State) (a v : BitVec 32) (l : List FSpec),
    let j := s.judge a.toNat v.toNat l
    let val (x : FSpec) : Nat := bits v.toNat x.f.lo x.f.w
    s.mode ≠ 9 → a.toNat < 0x4001000 → s.regAnswers a.toNat = true → s.writeData a.toNat v.toNat = none → fieldsAt a.toNat = some l →
    (l.map fun x => x.f.key).Nodup →
      (a.toNat ≠ R.CP_SRC_CFG → instOf (R.EP_PHY_CFG 0) 0x10000 4 a.toNat = none →
        ∀ x ∈ l, ((x.f, val x) ∈ j.sets ↔ s.maySet a.toNat x = true ∧ s.reservedIn x (val x) = false))
      ∧ (s.refusesWrite (j.sets.foldl (fun (t : State) e => t.setFld e.1 e.2) s) a.toNat = true →
          ∃ t, Sys2Proof.Machine.exec (.registerWrite a v) s = .next t ∧ Only [.regs, .rl] s t ∧ FldsButRl [] s t)
      ∧ (s.refusesWrite (j.sets.foldl (fun (t : State) e => t.setFld e.1 e.2) s) a.toNat = false →
          ∃ (old new : State) (ok : Bool), Sys2Proof.Machine.exec (.registerWrite a v) s = .next (old.afterWrite new a.toNat v.toNat ok)
            ∧ Only [.regs, .rl] s old ∧ FldsButRl [] s old ∧ Only [.regs, .rl] s new
            ∧ (∀ x ∈ l, (x.f, val x) ∈ j.sets → new.fld x.f = val x)
            ∧ (∀ x ∈ l, x.acc = .w1c → x.f.w = 1 → bit v.toNat x.f.lo = true → new.fld x.f = 0)
            ∧ (∀ x ∈ l, (x.f.key < 0x60000 * 8 ∨ 0x70000 * 8 ≤ x.f.key) → (∀ e ∈ j.sets, e.1 ≠ x.f) → x.acc ≠ .w1c ∨ bit v.toNat x.f.lo = false →
                new.fld x.f = s.fld x.f)
            ∧ ∀ g : Fld, (g.key < 0x60000 * 8 ∨ 0x70000 * 8 ≤ g.key) → (∀ x ∈ l, x.f.key ≠ g.key) → new.fld g = s.fld g)

/-- R2, R18, R23, R511: a read gives the value that the register shows. Fields of code RC are cleared by it, the low
word of a 64-bit counter latches its high word, and the reads of BS_COEF_DATA and TW_LINK_DATA advance their
selectors; no other field changes. R235, R268, R465, R468, R495: EP_PHY_CFG is written as every register is; a change
of MODE or FEC while the link is down starts negotiation anew. The restart of the FIFO's high-water mark sets it to
the present depth, that of the power peak to the present power. Clearing RL_FIRST frees it for the next capture and
zeroes LATER. -/
def Obligations.RegisterReadsAndRestarts : Prop :=
  (∀ s : State,
    (∀ (p : Fin 4) (v : BitVec 32), Sys2Proof.Machine.exec (.epPhyCfgWrite p v) s = Sys2Proof.Machine.exec (.registerWrite (BitVec.ofNat 32 (R.EP_PHY_CFG p)) v) s)
    ∧ (∀ (p : Fin 4) (v : BitVec 32), s.mode = 0 → bits v.toNat 0 3 ≤ 5 → bits v.toNat 0 3 ≠ s.fld (F.EP_PHY_CFG_MODE p) → bits v.toNat 3 2 ≤ 2 → bit v.toNat 5 = false →
        s.flag (F.EP_STATUS_LINK p) = false → ∃ t, Sys2Proof.Machine.exec (.epPhyCfgWrite p v) s = .next t ∧ t.fld (F.EP_PHY_CFG_MODE p) = bits v.toNat 0 3
          ∧ t.fld (F.EP_PHY_CFG_FEC p) = bits v.toNat 3 2 ∧ t.fld (F.EP_STATUS_AN_DONE p) = 0 ∧ t.fld (F.EP_AN_STAT_RESOLVED p) = 0)
    ∧ Sys2Proof.Machine.exec .fifoHwmRestart s = .next (s.setFld F.RL_FIFO_STAT_HWM s.rl.fifo.length)
    ∧ Sys2Proof.Machine.exec .powerPeakRestart s = .next (s.setFld F.PW_POWER_PEAK s.powerNow)
    ∧ ∃ t, Sys2Proof.Machine.exec .firstClear s = .next t ∧ t.fld F.RL_FIRST_CTRL_VALID = 0 ∧ t.fld F.RL_FIRST_CTRL_LATER = 0
        ∧ FldsBut [F.RL_FIRST_CTRL_VALID, F.RL_FIRST_CTRL_LATER] s t ∧ t.rl = s.rl)
  ∧ ∀ (s : State) (a : BitVec 32),
    (∃ t, Sys2Proof.Machine.exec (.rcRead a) s = .next t ∧ t.lastRead = s.regValue a.toNat ∧ Only [.regs, .hi, .lastRead] s t)
    ∧ (∀ l, s.regAnswers a.toNat = true → fieldsAt a.toNat = some l → lowWord.find? (·.2 = a.toNat) = none →
        a.toNat ∉ [R.CP_NSEC, R.BS_COEF_DATA, R.TW_LINK_DATA] → instOf (R.CP_CAP_SEC 0) 16 6 a.toNat = none →
        instOf (R.CL_PATCH_DATA 0) 0x10000 16 a.toNat = none →
          ∃ t, Sys2Proof.Machine.exec (.rcRead a) s = .next t ∧ t.hi = s.hi ∧ (∀ x ∈ l, x.acc = .rc → t.fld x.f = 0)
            ∧ FldsBut ((l.filter fun x => x.acc = .rc).map (·.f)) s t)
    ∧ (a.toNat = R.BS_COEF_DATA → ∃ t, Sys2Proof.Machine.exec (.rcRead a) s = .next t
        ∧ t.lastRead = mget 0 s.bs.coef (128 * s.fld F.BS_COEF_SEL_GROUP + 64 * s.fld F.BS_COEF_SEL_BANK + s.fld F.BS_COEF_SEL_TAP) % 2 ^ 24
        ∧ t.fld F.BS_COEF_SEL_TAP = (s.fld F.BS_COEF_SEL_TAP + 1) % 64 ∧ FldsBut [F.BS_COEF_SEL_TAP] s t)
    ∧ (∀ p ∈ lowWord, a.toNat = p.2 → ∃ t l h, Sys2Proof.Machine.exec (.counterLowWordRead a) s = .next t ∧ fieldsAt p.2 = some l ∧ fieldsAt p.1 = some h
        ∧ t.lastRead = s.showWord l ∧ t.regValue p.1 = s.showWord h ∧ t.regs = s.regs)

/-- R112: ADD, SUB, AND, OR and XOR write to d the 24-bit sum, difference, conjunction, disjunction and exclusive
disjunction of s and t and set Z and N from it; LSL, LSR and ASR write s shifted by n = 0-23 places; ADDI adds the
immediate to d; CMP sets Z and N from the difference of s and t and writes nothing. Operands are of the 24-bit class
of R109, fields that an instruction does not use are zero (R108), and a source is what R121 lets the instruction see. -/
def Obligations.AluResults : Prop :=
  ∀ (s : State) (k : Fin 144) (f : BitVec 40),
    let d := sD f
    let a := (s.core k.val).rd false (sS f)
    let b := (s.core k.val).rd false (sT f)
    let n := sSH f
    (sUnused f true true true false = true → rc24 d = true → rc24 (sS f) = true → rc24 (sT f) = true →
      (Straight s k 0x38 f → CoreStep (.add k f) k s (AluDone d ((a + b) % 2 ^ 24)))
      ∧ (Straight s k 0x39 f → CoreStep (.sub k f) k s (AluDone d ((a + 2 ^ 24 - b % 2 ^ 24) % 2 ^ 24)))
      ∧ (Straight s k 0x3A f → CoreStep (.andOp k f) k s (AluDone d (a &&& b)))
      ∧ (Straight s k 0x3B f → CoreStep (.orOp k f) k s (AluDone d (a ||| b)))
      ∧ (Straight s k 0x3C f → CoreStep (.xorOp k f) k s (AluDone d (a ^^^ b))))
    ∧ (sUnused f true true false true = true → rc24 d = true → rc24 (sS f) = true → n ≤ 23 →
      (Straight s k 0x3D f → CoreStep (.lsl k f) k s (AluDone d (a * 2 ^ n % 2 ^ 24)))
      ∧ (Straight s k 0x3E f → CoreStep (.lsr k f) k s (AluDone d (a % 2 ^ 24 / 2 ^ n)))
      ∧ (Straight s k 0x3F f → CoreStep (.asr k f) k s (AluDone d (unsgn 24 (sgn 24 a / (2 ^ n : Nat))))))
    ∧ (iLegal f = true → rc24 d = true → Straight s k 0x41 f →
      CoreStep (.addi k f) k s (AluDone d (((s.core k.val).rd false d + fbits f 23 0) % 2 ^ 24)))
    ∧ (sUnused f false true true false = true → rc24 (sS f) = true → rc24 (sT f) = true → Straight s k 0x40 f →
      CoreStep (.cmp k f) k s fun c c' => KeepsRegs [] c c'
        ∧ SrBits [(srZ, decide ((a + 2 ^ 24 - b % 2 ^ 24) % 2 ^ 24 = 0)), (srN, bit ((a + 2 ^ 24 - b % 2 ^ 24) % 2 ^ 24) 23)] c.sr c'.sr)

/-- R75, R77, R112, R118: the scalar accumulator instructions. MPY, MAC and MSU write the product of two X or Y
registers (doubled in fractional mode, SR.IM = 0), or the accumulator plus or minus it, ADDA and SUBA the sum or
difference of two accumulators, NEGA and ABSA the negation or the absolute value, each clamped to 56 bits except MPY's
product; C is the carry out of bit 55 of the addition, V tells of a clamp. CLRA clears an accumulator and CLRQ the
four of a quad, with C, V, N and E 0 and Z 1. -/
def Obligations.AccResults : Prop :=
  ∀ (s : State) (k : Fin 144) (f : BitVec 40),
    let c := s.core k.val
    let d := sD f
    let a := c.rd false d
    let p := product (srBit c.settings srIM) (c.rd false (sS f)) (c.rd false (sT f))
    let v := accInt (c.rd false (sS f))
    (sUnused f true true true false = true → rcIsA d = true → rcXY (sS f) = true → rcXY (sT f) = true →
      (Straight s k 0x20 f → CoreStep (.mpy k f) k s (AccDone d (unsgn 56 p) false false))
      ∧ (Straight s k 0x21 f → CoreStep (.mac k f) k s (AccDone d (clamp56 (accInt a + p)).1 (accCarry a p) (clamp56 (accInt a + p)).2))
      ∧ (Straight s k 0x22 f → CoreStep (.msu k f) k s (AccDone d (clamp56 (accInt a - p)).1 (accCarry a (-p)) (clamp56 (accInt a - p)).2)))
    ∧ (sUnused f true true false false = true → rcIsA d = true → rcIsA (sS f) = true →
      (Straight s k 0x28 f → CoreStep (.adda k f) k s (AccDone d (clamp56 (accInt a + v)).1 (accCarry a v) (clamp56 (accInt a + v)).2))
      ∧ (Straight s k 0x29 f → CoreStep (.suba k f) k s (AccDone d (clamp56 (accInt a - v)).1 (accCarry a (-v)) (clamp56 (accInt a - v)).2)))
    ∧ (sUnused f true false false false = true → rcIsA d = true →
      (Straight s k 0x2A f → CoreStep (.nega k f) k s (AccDone d (clamp56 (-accInt a)).1 (accCarry 0 (-accInt a)) (clamp56 (-accInt a)).2))
      ∧ (Straight s k 0x2B f →
        CoreStep (.absa k f) k s (AccDone d (clamp56 (accInt a).natAbs).1 (accCarry 0 (accInt a).natAbs) (clamp56 (accInt a).natAbs).2))
      ∧ (Straight s k 0x2C f → CoreStep (.clra k f) k s fun c c' => c'.reg d = 0 ∧ KeepsRegs [d] c c'
        ∧ SrBits [(srC, false), (srV, false), (srZ, true), (srN, false), (srE, false)] c.sr c'.sr)
      ∧ (d % 4 = 0 → Straight s k 0x2D f → CoreStep (.clrq k f) k s fun c c' => (∀ j, j < 4 → c'.reg (d + j) = 0)
        ∧ KeepsRegs [d, d + 1, d + 2, d + 3] c c' ∧ SrBits [(srC, false), (srV, false), (srZ, true), (srN, false), (srE, false)] c.sr c'.sr))

/-- R118: ASHA shifts an accumulator left by 1-56 places with a clamp, or right by 0-56 places; CMPA sets the flags
from the exact difference of two accumulators and writes nothing; EXP writes to d the redundant sign bits of a 24-bit
register, or those of an accumulator less 8; NORM shifts an accumulator by that count and writes the count to d. The
carry of ASHA is the model's reading (log entry 19), so is the class of d (log entry 20). -/
def Obligations.AccShifts : Prop :=
  ∀ (s : State) (k : Fin 144) (f : BitVec 40),
    let c := s.core k.val
    let d := sD f
    let a := c.rd false d
    let b := accInt (c.rd false (sS f))
    let sh := sgn 7 (sSH f)
    let e : Int := (rsb 56 a : Int) - 8
    (sUnused f true false false true = true → rcIsA d = true → Straight s k 0x2E f →
      (0 < sh → sh ≤ 56 → CoreStep (.asha k f) k s
        (AccDone d (clamp56 (accInt a * (2 ^ sh.toNat : Nat))).1 (bit a (56 - sh.toNat)) (clamp56 (accInt a * (2 ^ sh.toNat : Nat))).2))
      ∧ (-56 ≤ sh → sh ≤ 0 → CoreStep (.asha k f) k s (AccDone d (unsgn 56 (accInt a / (2 ^ (-sh).toNat : Nat))) false false)))
    ∧ (sUnused f true true false false = true → rcIsA d = true → rcIsA (sS f) = true → Straight s k 0x2F f →
      CoreStep (.cmpa k f) k s fun c c' => KeepsRegs [] c c'
        ∧ SrBits [(srC, accCarry a (-b)), (srV, (clamp56 (accInt a - b)).2), (srZ, decide (accInt a = b)), (srN, decide (accInt a < b)),
            (srE, outOfFrac (accInt a - b))] c.sr c'.sr)
    ∧ (sUnused f true true false false = true → rc24 d = true → Straight s k 0x30 f →
      (rcIsA (sS f) = true → CoreStep (.expOp k f) k s fun c c' =>
        c'.reg d = regStored d (unsgn 24 ((rsb 56 (c.rd false (sS f)) : Int) - 8)) ∧ KeepsRegs [d] c c' ∧ c'.sr = c.sr)
      ∧ (rc24 (sS f) = true → CoreStep (.expOp k f) k s fun c c' =>
        c'.reg d = regStored d (rsb 24 (c.rd false (sS f))) ∧ KeepsRegs [d] c c' ∧ c'.sr = c.sr))
    ∧ (sUnused f true true false false = true → rcIsA d = true → rc24 (sS f) = true → rcHome (sS f) ≠ d → Straight s k 0x31 f →
      let v : Int := if e ≥ 0 then accInt a * (2 ^ e.toNat : Nat) else accInt a / (2 ^ (-e).toNat : Nat)
      CoreStep (.norm k f) k s fun c c' => c'.reg d = unsgn 56 v ∧ c'.reg (sS f) = regStored (sS f) (unsgn 24 e) ∧ KeepsRegs [d, sS f] c c'
        ∧ SrBits [(srV, false), (srZ, decide (v = 0)), (srN, decide (v < 0)), (srE, outOfFrac v)] c.sr c'.sr)

/-- R72, R73, R76, R78, R119: MOVI and MOV. A 24-bit value goes into an accumulator with the sign in AG and AL 0; an
accumulator goes whole into an accumulator, its low bits into AG, LS, LE, SR and OVT, and rounded and saturated by R76
and R78 into any other register, a saturation setting LV. SR takes only the bits that may be written. R137, R138: SETT
loads the timer and clears its fraction, GETT reads it, BKPT requests the debug interrupt, NOP changes nothing but the
pc. -/
def Obligations.MoveResults : Prop :=
  ∀ (s : State) (k : Fin 144) (f : BitVec 40),
    let c := s.core k.val
    let d := sD f
    let imm := fbits f 23 0
    let v := c.rd true (sS f)
    let wide (x : Nat) := unsgn 56 (sgn 24 x * (2 ^ 24 : Nat))
    (rcValid d = true → ¬((d = 0x52 ∨ d = 0x53) ∧ srBit c.sr srLA = true) →
      (iLegal f = true → Straight s k 0x42 f → CoreStep (.movi k f) k s (Moved d (if rcIsA d then wide imm else imm) false))
      ∧ (sUnused f true true false false = true → rcValid (sS f) = true → Straight s k 0x43 f →
        (rcIsA (sS f) = false → CoreStep (.mov k f) k s (Moved d (if rcIsA d then wide v else v % 2 ^ 24) false))
        ∧ (rcIsA (sS f) = true → rcIsA d = true → CoreStep (.mov k f) k s (Moved d v false))
        ∧ (rcIsA (sS f) = true → 0x28 ≤ d ∧ d < 0x30 → CoreStep (.mov k f) k s (Moved d (v % 2 ^ 8) false))
        ∧ (rcIsA (sS f) = true → d = 0x52 ∨ d = 0x53 → CoreStep (.mov k f) k s (Moved d (v % 2 ^ 15) false))
        ∧ (rcIsA (sS f) = true → d = 0x50 ∨ d = 0x54 → CoreStep (.mov k f) k s (Moved d (v % 2 ^ 24) false))
        ∧ (rcIsA (sS f) = true → rc24 d = true → ¬(0x28 ≤ d ∧ d < 0x30) → CoreStep (.mov k f) k s
            (Moved d (store24 (srBit c.settings srIM) (srRND c.settings) v).1 (store24 (srBit c.settings srIM) (srRND c.settings) v).2))))
    ∧ (sUnused f false true false false = true → rc24 (sS f) = true → Straight s k 0x0D f → CoreStep (.sett k f) k s fun c c' =>
        c'.timer = v ∧ c'.timerFrac = 0 ∧ KeepsRegs [] c c' ∧ c'.sr = c.sr)
    ∧ (sUnused f true false false false = true → rc24 d = true → Straight s k 0x0E f → CoreStep (.gett k f) k s fun c c' =>
        c'.reg d = regStored d c.timer ∧ KeepsRegs [d] c c' ∧ c'.sr = c.sr)
    ∧ (Straight s k 0x0F 0 → CoreStep (.bkpt k 0) k s fun c c' => c'.dbgReq = true ∧ KeepsRegs [] c c' ∧ c'.sr = c.sr)
    ∧ (Straight s k 0 0 → CoreStep (.nop k 0) k s fun c c' => KeepsRegs [] c c' ∧ c'.sr = c.sr)

/-- R81, R90-R94, R119, R120, R123: LD loads a group of 1, 2 or 4 registers from the words that its effective address
reaches and then writes the pointer back; LDA loads from consecutive words at an absolute address. An accumulator
takes a word with its sign, AL 0. Every word of the access lies in its space (R82). -/
def Obligations.LoadResults : Prop :=
  ∀ (s : State) (k : Fin 144) (f : BitVec 40),
    let c := s.core k.val
    let g := fbits f 39 33
    let sp := fbits f 32 31
    let w := accWidth (fbits f 30 29)
    let o := c.ea (fbits f 28 23) w
    let value (r a : Nat) := if rcIsA r then unsgn 56 (sgn 24 (s.spaceWord k.val sp a) * (2 ^ 24 : Nat)) else s.spaceWord k.val sp a
    let group (l : List Nat) := (List.range w).map fun j => (g + j, value (g + j) (nth l j))
    sp ≤ 2 → groupOk g (fbits f 30 29) = true →
      (fbits f 22 0 = 0 → (∀ a ∈ o.words, reaches sp a = true) → Straight s k 0x50 f →
        CoreStep (.ld k f) k s (Loaded (group o.words) (o.upd.toList.map fun p => (rcP (fbits f 28 23 % 8), p)) o.cbx))
      ∧ (fbits f 28 24 = 0 → (∀ j, j < w → reaches sp ((fbits f 23 0 + j) % 2 ^ 24) = true) → Straight s k 0x52 f →
        CoreStep (.lda k f) k s (Loaded (group ((List.range w).map fun j => (fbits f 23 0 + j) % 2 ^ 24)) [] false))

/-- R78, R81, R82, R90-R94, R119, R120: ST stores a group of 1, 2 or 4 registers to the words that its effective
address reaches and then writes the pointer back; STA stores to consecutive words at an absolute address. A whole
accumulator is rounded and saturated, a saturation sets LV. A word of the CSM must lie in the write window of the
running entry. -/
def Obligations.StoreResults : Prop :=
  ∀ (s : State) (k : Fin 144) (f : BitVec 40),
    let c := s.core k.val
    let g := fbits f 39 33
    let sp := fbits f 32 31
    let w := accWidth (fbits f 30 29)
    let o := c.ea (fbits f 28 23) w
    let value (r : Nat) : Nat × Bool :=
      if rcIsA r then store24 (srBit c.settings srIM) (srRND c.settings) (c.rd true r) else (c.rd true r % 2 ^ 24, false)
    let lv := (List.range w).any fun j => (value (g + j)).2
    let group (l : List Nat) := (List.range w).map fun j => (nth l j, (value (g + j)).1)
    sp ≤ 2 → groupOk g (fbits f 30 29) = true →
      (fbits f 22 0 = 0 → (∀ a ∈ o.words, (s.ctx k.val).storable sp a = true) → Straight s k 0x51 f →
        StoreStep (.st k f) k s sp (group o.words) fun c c' => (∀ p, o.upd = some p → c'.reg (rcP (fbits f 28 23 % 8)) = p % 2 ^ 24)
          ∧ KeepsRegs (o.upd.toList.map fun _ => rcP (fbits f 28 23 % 8)) c c' ∧ c'.sr = srSticky c.sr lv o.cbx)
      ∧ (fbits f 28 24 = 0 → (∀ j, j < w → (s.ctx k.val).storable sp ((fbits f 23 0 + j) % 2 ^ 24) = true) → Straight s k 0x53 f →
        StoreStep (.sta k f) k s sp (group ((List.range w).map fun j => (fbits f 23 0 + j) % 2 ^ 24)) fun c c' =>
          KeepsRegs [] c c' ∧ c'.sr = srSticky c.sr lv false)

/-- R76-R78, R90-R94, R114, R115, R117, R123: MPYQ, MACQ and MSUQ. Each lane takes one source from a quad of X
registers or of words of X or Y and one from a quad of Y registers, one Y register or words of C, and writes its
accumulator of the quad; V tells that a lane clamped, C, Z, N and E of lane 0. Beside it four words are loaded from Y
or X, or four rounded accumulators are stored to Y. The pointers used are written last. -/
def Obligations.QuadResults : Prop :=
  ∀ (s : State) (k : Fin 144) (f : BitVec 40),
    let c := s.core k.val
    let q := qFields f
    let im := srBit c.settings srIM
    let ex := c.ea q.eax 4
    let ey := c.ea q.eay 4
    let ec := c.ea q.eac 4
    let x (j : Nat) := if q.s1 = 2 then s.spaceWord k.val 0 (nth ex.words j) else if q.s1 = 3 then s.spaceWord k.val 1 (nth ey.words j)
      else c.rd false (4 * q.s1 + j)
    let y (j : Nat) := if q.s2 = 2 then s.spaceWord k.val 2 (nth ec.words j) else if q.s2 = 3 then c.rd false (8 + q.yb)
      else c.rd false (8 + (4 * q.s2 + j))
    let a (j : Nat) := c.rd false (0x10 + (4 * q.aq + j))
    let p (j : Nat) := product im (x j) (y j)
    let st (j : Nat) := store24 im (srRND c.settings) (c.rd true (0x10 + (4 * q.pq + j)))
    let stored := if q.pm = 3 then (List.range 4).map fun j => (nth ey.words j, (st j).1) else []
    let loaded := if q.pm = 1 then (List.range 4).map fun j => (8 + (4 * q.pq + j), s.spaceWord k.val 1 (nth ey.words j))
      else if q.pm = 2 then (List.range 4).map fun j => (4 * q.pq + j, s.spaceWord k.val 0 (nth ex.words j)) else []
    let useX := q.s1 = 2 ∨ q.pm = 2
    let useY := q.s1 = 3 ∨ q.pm = 1 ∨ q.pm = 3
    let ptrs := (if useX then ex.pointer q.eax else []) ++ (if useY then ey.pointer q.eay else []) ++ if q.s2 = 2 then ec.pointer q.eac else []
    let cbx := decide useX && ex.cbx || decide useY && ey.cbx || decide (q.s2 = 2) && ec.cbx
    let lv := decide (q.pm = 3) && (List.range 4).any fun j => (st j).2
    let done (val : Nat → Nat) (carry clamp : Bool) := QuadDone q.aq val carry clamp lv cbx (loaded ++ ptrs)
    qLegal f false false = true → (useX → ∀ w ∈ ex.words, reaches 0 w = true) → (q.s1 = 3 ∨ q.pm = 1 → ∀ w ∈ ey.words, reaches 1 w = true) →
      (q.pm = 3 → ∀ w ∈ ey.words, (s.ctx k.val).storable 1 w = true) → (q.s2 = 2 → ∀ w ∈ ec.words, reaches 2 w = true) →
      (Straight s k 0x10 f → StoreStep (.mpyq k f) k s 1 stored (done (fun j => unsgn 56 (p j)) false false))
      ∧ (Straight s k 0x11 f → StoreStep (.macq k f) k s 1 stored (done (fun j => (clamp56 (accInt (a j) + p j)).1) (accCarry (a 0) (p 0))
          ((List.range 4).any fun j => (clamp56 (accInt (a j) + p j)).2)))
      ∧ (Straight s k 0x12 f → StoreStep (.msuq k f) k s 1 stored (done (fun j => (clamp56 (accInt (a j) - p j)).1) (accCarry (a 0) (-p 0))
          ((List.range 4).any fun j => (clamp56 (accInt (a j) - p j)).2)))

/-- R77, R91-R94, R116, R117, R123: FTAP accumulates in each lane the product of a word of X and a word of C, and
stores the words of X on to Y when its store is named; FTAPX takes moreover into a Y register the least of what it
held and the redundant sign bits of the four words. -/
def Obligations.TapResults : Prop :=
  ∀ (s : State) (k : Fin 144) (f : BitVec 40),
    let c := s.core k.val
    let q := qFields f
    let im := srBit c.settings srIM
    let ex := c.ea q.eax 4
    let ey := c.ea q.eay 4
    let ec := c.ea q.eac 4
    let x (j : Nat) := s.spaceWord k.val 0 (nth ex.words j)
    let a (j : Nat) := c.rd false (0x10 + (4 * q.aq + j))
    let p (j : Nat) := product im (x j) (s.spaceWord k.val 2 (nth ec.words j))
    let stored := if q.pm = 1 then (List.range 4).map fun j => (nth ey.words j, x j) else []
    let ptrs := ex.pointer q.eax ++ (if q.pm = 1 then ey.pointer q.eay else []) ++ ec.pointer q.eac
    let cbx := ex.cbx || decide (q.pm = 1) && ey.cbx || ec.cbx
    let least := (List.range 4).foldl (fun m j => min m (rsb 24 (x j) : Int)) (sgn 24 (c.rd false (8 + q.yb)))
    let done (more : List (Nat × Nat)) := QuadDone q.aq (fun j => (clamp56 (accInt (a j) + p j)).1) (accCarry (a 0) (p 0))
      ((List.range 4).any fun j => (clamp56 (accInt (a j) + p j)).2) false cbx (more ++ ptrs)
    (∀ w ∈ ex.words, reaches 0 w = true) → (∀ w ∈ ec.words, reaches 2 w = true) → (q.pm = 1 → ∀ w ∈ ey.words, (s.ctx k.val).storable 1 w = true) →
      (qLegal f true false = true → Straight s k 0x13 f → StoreStep (.ftap k f) k s 1 stored (done []))
      ∧ (qLegal f true true = true → Straight s k 0x14 f → StoreStep (.ftapx k f) k s 1 stored (done [(8 + q.yb, unsgn 24 least)]))

/-- R101, R125, R126, R128, R142: B, CALL, BRP, RTS and RTI. The two instructions that follow, the delay slots, still
execute. When the condition holds the branch is taken after them: to the target of B and CALL, to the address in a
pointer for BRP, to the address popped from the return stack for RTS and RTI; CALL pushes the address behind its
slots. A ninth address pushed, or one popped from an empty stack, is a return-stack error; a pointer of more than 15
bits is an address error. -/
def Obligations.BranchResults : Prop :=
  ∀ (s : State) (k : Fin 144) (f : BitVec 40),
    let c := s.core k.val
    let t := fbits f 14 0 / 2 * 2
    let p := c.seen hideAddr (0x30 + fbits f 35 33)
    let holds := condHolds c.sr (fbits f 39 36) = true
    let taken (st : List (BitVec 15)) (b : Branch) (c c' : Core) := FlowKept c c' ∧ c'.slots = 2 ∧ c'.branch = some b ∧ c'.stack = st
    let through (c c' : Core) := FlowKept c c' ∧ c'.slots = 2 ∧ c'.branch = none ∧ c'.stack = c.stack
    let stops (e : DErr) (i : Instr) := exec i s = .next (s.codeError k.val c.pc e)
    fbits f 32 15 = 0 →
      (fbits f 35 33 = 0 →
        (Flows s k 0x01 f → (holds → FlowStep (.b k f) k s (taken c.stack (.jump t (exitsLoop c t)))) ∧ (¬holds → FlowStep (.b k f) k s through))
        ∧ (Flows s k 0x02 f →
          (holds → c.stack.length < 8 → FlowStep (.call k f) k s (taken (BitVec.ofNat 15 (c.pc + 6) :: c.stack) (.jump t false)))
          ∧ (holds → 8 ≤ c.stack.length → stops .stack (.call k f)) ∧ (¬holds → FlowStep (.call k f) k s through)))
      ∧ (fbits f 14 0 = 0 → Flows s k 0x03 f →
        (holds → p < 2 ^ 15 → FlowStep (.brp k f) k s (taken c.stack (.jump (p / 2 * 2) (exitsLoop c (p / 2 * 2)))))
        ∧ (holds → 2 ^ 15 ≤ p → stops .address (.brp k f)) ∧ (¬holds → FlowStep (.brp k f) k s through))
      ∧ (fbits f 35 33 = 0 → fbits f 14 0 = 0 →
        (Flows s k 0x04 f → (∀ a r, c.stack = a :: r → holds → FlowStep (.rts k f) k s (taken r (.jump a.toNat (exitsLoop c a.toNat))))
          ∧ (c.stack = [] → holds → stops .stack (.rts k f)) ∧ (¬holds → FlowStep (.rts k f) k s through))
        ∧ (Flows s k 0x05 f → (∀ a r, c.stack = a :: r → holds → FlowStep (.rti k f) k s (taken r (.rti a.toNat)))
          ∧ (c.stack = [] → holds → stops .stack (.rti k f)) ∧ (¬holds → FlowStep (.rti k f) k s through)))

/-- R127, R129: DO and DOR start a hardware loop whose body runs from the next word to the end address that they name:
LS, LE and LC are loaded and LA is set; with a count of 0 the body is skipped and LC and LA stay. DO takes its count
from the word, DOR from a register. -/
def Obligations.LoopResults : Prop :=
  ∀ (s : State) (k : Fin 144) (f : BitVec 40),
    let c := s.core k.val
    let e := fbits f 14 0 / 2 * 2
    let loops (n : Nat) (i : Instr) :=
      (n = 0 → e + 2 ≤ 0x7FFE → FlowStep i k s fun c c' => c'.pc = e + 2 ∧ c'.stack = c.stack ∧ KeepsMem c c' ∧ c'.sr = c.sr
        ∧ c'.reg 0x52 = (c.pc + 2) / 2 * 2 ∧ c'.reg 0x53 = e ∧ KeepsRegs [0x52, 0x53] c c')
      ∧ (n ≠ 0 → CoreStep i k s fun c c' => c'.reg 0x52 = (c.pc + 2) / 2 * 2 ∧ c'.reg 0x53 = e ∧ c'.reg 0x51 = n % 2 ^ 24 ∧ KeepsRegs [0x51, 0x52, 0x53] c c'
          ∧ SrBits [(srLA, true)] c.sr c'.sr)
    c.pc + 2 ≤ e → fbits f 23 15 = 0 →
      (Straight s k 0x06 f → loops (fbits f 39 24) (.doImm k f))
      ∧ (fbits f 32 24 = 0 → rc24 (sD f) = true → Straight s k 0x07 f → loops (c.rd false (sD f)) (.dor k f))

/-- R125-R128, R142: what stands at the end of an instruction, told of NOP. Inside the two slots the pc goes on; at
the end of the second a taken branch reaches its target, clearing LA when it leaves the loop, and RTI ends the
handler: the nesting count falls, or the main bank is back. At the end address of a running loop LC counts down and
the body starts again, or the loop ends. -/
def Obligations.EndOfInstruction : Prop :=
  ∀ (s : State) (k : Fin 144),
    let c := s.core k.val
    let i := Instr.nop k 0
    s.canIssue k.val 0 = true → c.inject = 0 → c.pc < 0x7FFD →
      (1 < c.slots → c.looping = false → FlowStep i k s fun c c' => FlowKept c c' ∧ c'.slots = c.slots - 1 ∧ c'.branch = c.branch ∧ c'.stack = c.stack)
      ∧ (∀ t b, c.slots = 1 → c.branch = some (.jump t b) → t ≤ 0x7FFE → c.looping = false →
        FlowStep i k s fun c c' => c'.pc = t ∧ c'.slots = 0 ∧ c'.branch = none ∧ c'.stack = c.stack ∧ KeepsMem c c' ∧ KeepsRegs [] c c'
          ∧ SrBits [(srLA, decide (b = false) && srBit c.sr srLA)] c.sr c'.sr)
      ∧ (∀ t, c.slots = 1 → c.branch = some (.rti t) → c.looping = false → (∀ r, c.handlers ≠ 1 :: r ∧ c.handlers ≠ 4 :: r) →
        FlowStep i k s fun c c' => c'.pc = t ∧ c'.slots = 0 ∧ c'.branch = none ∧ c'.handlers = c.handlers.drop 1 ∧ KeepsMem c c'
          ∧ (c.nest = 0 → c'.inShadow = false ∧ c'.main = c.main ∧ c'.shadow = c.shadow)
          ∧ (0 < c.nest → c'.nest = c.nest - 1 ∧ c'.inShadow = c.inShadow ∧ SrBits [(srIE, true)] c.sr c'.sr))
      ∧ (c.slots = 0 → c.branch = none → c.looping = true → c.pc = c.leN →
        let n := c.seen hideLoop 0x51
        (1 < n → c.lsN ≤ 0x7FFE → FlowStep i k s fun c c' => c'.pc = c.lsN ∧ c'.reg 0x51 = (n - 1) % 2 ^ 24 ∧ KeepsRegs [0x51] c c' ∧ KeepsMem c c'
          ∧ ∀ j, j < 24 → j ≠ srRCA → srBit c'.sr j = srBit c.sr j)
        ∧ (n ≤ 1 → c.leN + 2 ≤ 0x7FFE → FlowStep i k s fun c c' => c'.pc = c.leN + 2 ∧ c'.reg 0x51 = 0 ∧ KeepsRegs [0x51] c c' ∧ KeepsMem c c'
          ∧ SrBits [(srLA, false), (srRCA, false)] c.sr c'.sr))

/-- R131, R132, R135, R142, R149: WAIT.WORK blocks a core that runs no entry, outside handlers. COMMIT ends the open
entry of a core, which goes on with its registers as they were. YIELD leaves interrupt context and blocks; an open
entry that is not to be cancelled returns to the head of its queue, counted as waiting from now. No other core runs
anything else for it. -/
def Obligations.NodeEnd : Prop :=
  ∀ (s : State) (k : Fin 144) (f : BitVec 40),
    let c := s.core k.val
    (s.canIssue k.val (word48 0x08 0) = true → controlOk c = true → c.inShadow = false → c.run = none →
      FlowStep (.waitWork k 0) k s fun c c' => c'.waiting = true ∧ c'.waitSince = s.elapsed ∧ c'.waitPc = c.pc ∧ c'.pc = c.pc ∧ c'.sr = c.sr
        ∧ KeepsRegs [] c c' ∧ KeepsMem c c')
    ∧ (∀ r, fbits f 39 16 = 0 → c.run = some r → c.inShadow = false → Straight s k 0x09 f →
        ∃ t, Sys2Proof.Machine.exec (.commit k f) s = .next t ∧ (t.core k.val).run = none ∧ FlowKept c (t.core k.val) ∧ (t.core k.val).stack = c.stack
          ∧ (t.core k.val).busyNs = c.busyNs + (s.elapsed - c.busyFrom) ∧ ∀ j, j ≠ k.val → t.core j = s.core j)
    ∧ (s.canIssue k.val (word48 0x0A 0) = true → controlOk c = true →
        ∃ t, Sys2Proof.Machine.exec (.yield k 0) s = .next t ∧ (t.core k.val).run = none ∧ (t.core k.val).waiting = true ∧ (t.core k.val).waitSince = s.elapsed
          ∧ (t.core k.val).waitPc = c.pc ∧ (t.core k.val).inShadow = false ∧ (t.core k.val).stack = [] ∧ KeepsMem c (t.core k.val)
          ∧ (∀ j, j ≠ k.val → t.core j = s.core j)
          ∧ ∀ r, c.run = some r → r.e.cancel = false → ∃ l, t.queueAt r.e.queue = { r.e with since := s.elapsed } :: l)

/-- R74, R97, R131, R159, R160: DISPATCH gives the entry that stands first in the lowest-numbered level with one that
is ready and finds a blocked core to that core: X4 to X7 take the words of its descriptor, SR is set up and LC
cleared, and the core goes on behind its WAIT.WORK. -/
def Obligations.DispatchResults : Prop :=
  ∀ (s : State) (c : Fin 16) (e : Entry) (k : Nat),
    s.dispatchOpen c.val = true → (s.unbar c.val).nextDispatch c.val = some (e, k) → (s.unbar c.val).coreLive k = true → e.kind ≠ .hostJob →
      let o := s.core k
      let words := (s.unbar c.val).dispatchWords k { e with preempt := none }
      ∃ t, Sys2Proof.Machine.exec (.dispatch c) s = .next t ∧ (t.core k).run = some ⟨{ e with preempt := none }, s.nowNs, s.th.nextDisp, []⟩
        ∧ (t.core k).waiting = false ∧ (t.core k).pc = o.waitPc + 2 ∧ (t.core k).stack = [] ∧ (t.core k).main.sr = s.srInit k ∧ (t.core k).main.lc = 0
        ∧ (e.cluster < 16 → ∀ j, j < 4 → mget 0 (t.core k).main.r (4 + j) = BitVec.ofNat 24 (nth words j)) ∧ (t.core k).disp = o.disp + 1 ∧ KeepsMem o (t.core k)

/-- R133, R153-R156, R170: ENQ offers the four words of a quad of X registers as a request of a token, an item or
work. The answer goes to d, 0 when the request is accepted and 1 when it is refused or malformed, with Z and N. A
refusal by a limit is counted; what an entry has reserved stands until its end. -/
def Obligations.RequestResults : Prop :=
  ∀ (s : State) (k : Fin 144) (f : BitVec 40) (i : Instr),
    let c := s.core k.val
    let d := sD f
    let ws := (List.range 4).map fun j => c.rd false (4 * fbits f 23 0 + j)
    let op := nth ws 0 % 16
    (i = .enqToken k f ∧ op ≠ 1 ∧ op ≠ 2 ∨ i = .enqItem k f ∧ op = 1 ∨ i = .enqWork k f ∧ op = 2) → iLegal f = true → rc24 d = true →
      fbits f 23 0 ≤ 1 → Straight s k 0x0B f →
      (∀ p x, s.enqDecide k.val ws = some (.ok p, some x) → ∃ t, Sys2Proof.Machine.exec i s = .next t ∧ AluDone d 0 c (t.core k.val)
          ∧ (t.core k.val).pc = c.pc + 2 ∧ (t.core k.val).run = c.run.map fun r => { r with res := r.res ++ [x] })
      ∧ (∀ x, s.enqDecide k.val ws = some (.malformed, x) → ∃ t, Sys2Proof.Machine.exec i s = .next t ∧ AluDone d 1 c (t.core k.val)
          ∧ (t.core k.val).pc = c.pc + 2 ∧ (t.core k.val).run = c.run)
      ∧ (∀ v x, s.enqDecide k.val ws = some (v, x) → v ∈ [.edgeFull, .poolFull, .queueFull, .window] → ∃ t, Sys2Proof.Machine.exec i s = .next t
          ∧ AluDone d 1 c (t.core k.val) ∧ (t.core k.val).pc = c.pc + 2 ∧ (t.core k.val).run = c.run
          ∧ t.fld F.TH_REFUSE_CNT_CORE = min (s.fld F.TH_REFUSE_CNT_CORE + 1) (2 ^ 16 - 1))

/-- R102-R104, R137-R141: OVL reads the words that it is to copy and the copy starts; OVL_COPY_END puts them into CM.
An interrupt is taken by pushing the pc and entering the vector of its priority in the shadow bank with SR.IE, GVT, LA
and RCA clear and SB set; in a handler the nesting count rises instead. The debug path requests the debug interrupt. A
timer whose last microsecond is over goes to 0 and requests its interrupt. -/
def Obligations.OverlayInterrupt : Prop :=
  ∀ (s : State) (k : Fin 144) (f : BitVec 40),
    let c := s.core k.val
    let src := c.seen hideAddr (0x30 + fbits f 39 37)
    let dst := c.seen hideAddr (0x30 + fbits f 36 34)
    (∀ l, fbits f 33 15 = 0 → src < 2 ^ 21 → dst < 2 ^ 15 → s.overlay (k.val / 9) src dst (fbits f 14 0 + 1) = some l → Straight s k 0x0C f →
        ∃ t, Sys2Proof.Machine.exec (.ovl k f) s = .next t ∧ (t.core k.val).ovl = some ⟨dst, l⟩ ∧ FlowKept c (t.core k.val) ∧ (t.core k.val).stack = c.stack)
    ∧ (∀ o, c.ovl = some o → FlowStep (.ovlCopyEnd k) k s fun c c' => c'.ovl = none ∧ c'.pc = c.pc ∧ KeepsRegs [] c c' ∧ c'.xm = c.xm ∧ c'.ym = c.ym
        ∧ (∀ j, j < o.words.length → mget 0 c'.cm (o.dst + j) = o.words.getD j 0)
        ∧ ∀ a, a < o.dst ∨ o.dst + o.words.length ≤ a → mget 0 c'.cm a = mget 0 c.cm a)
    ∧ (∀ p, s.coreLive k.val = true → (if c.faultPending then some 1 else c.acceptable) = some p →
        FlowStep (.interruptEntry k) k s fun c c' => c'.pc = 8 * p ∧ c'.stack = BitVec.ofNat 15 c.pc :: c.stack ∧ c'.inShadow = true ∧ c'.waiting = false
          ∧ c'.handlers = p :: c.handlers ∧ c'.nest = (if c.inShadow then c.nest + 1 else c.nest) ∧ KeepsMem c c'
          ∧ (c.inShadow = false → c'.main = c.main)
          ∧ SrBits [(srIE, false), (srGVT, false), (srLA, false), (srRCA, false), (srSB, true)] c.sr c'.sr)
    ∧ (s.coreLive k.val = true → FlowStep (.debugHaltRequest k) k s fun c c' => c' = { c with dbgReq := true })
    ∧ (c.timer = 1 → 1000 ≤ c.timerFrac → FlowStep (.localTimerExpiry k) k s fun c c' => c' = { c with timer := 0, timerFrac := 0, timReq := true })

/-- R83, R101, R108: a word that breaks a rule of its format, told of a word with a reserved opcode, of ADD with a set
bit that must be zero and of MOV to a register that does not exist, runs as an illegal instruction. With no node open
the core is held in reset: CO_STATUS.STATE is 3 and LAST_FAULT is 8. With a node open the open entry ends, and the
core blocks. -/
def Obligations.IllegalWords : Prop :=
  ∀ (s : State) (k : Fin 144) (op : Nat) (f : BitVec 40) (i : Instr),
    let c := s.core k.val
    (i = .nop k (word48 op f) ∧ 0 < op ∧ op < 256 ∧ opAssigned op = false ∨ i = .add k f ∧ op = 0x38 ∧ fbits f 18 0 ≠ 0
        ∨ i = .mov k f ∧ op = 0x43 ∧ 0x55 ≤ fbits f 39 33) → s.canIssue k.val (word48 op f) = true →
      ∃ t, Sys2Proof.Machine.exec i s = .next t
        ∧ (c.run = none → t.fld (F.CO_STATUS_STATE k.val) = 3 ∧ t.fld (F.CO_STATUS_LAST_FAULT k.val) = 8 ∧ (t.core k.val).pc = 0 ∧ (t.core k.val).stack = []
            ∧ (t.core k.val).xm = [] ∧ (t.core k.val).ym = [])
        ∧ (c.run ≠ none → (t.core k.val).run = none ∧ (t.core k.val).waiting = true ∧ (t.core k.val).waitPc = c.waitPc ∧ (t.core k.val).inShadow = false)
        ∧ ∀ j, j ≠ k.val → t.core j = s.core j

/-- R149, R172, R175, R177, R179, R197: staging puts the words of the read map into the read area of the entry's slot.
A queue pointer lost in both copies discards the cluster's queued entries and starts a rebuild, lost in one copy it is
only reported; the rebuild ends. A flow that has stood still for STALL_MS is marked stalled. A media-bank token that
no mapping delivered is delivered at its time. A restart of the high-water marks sets them to the present fill;
clearing the histogram of a queue clears its own counts alone. -/
def Obligations.TrailheadEvents : Prop :=
  ∀ (s : State) (c : Fin 16),
    (∀ (n : Nat) (e : Entry) (k : Nat) (ch : Chan),
        let plan := layExtents 0 ((ch.node e.node).rd.map fun x => (x, if x.kind = 0 then 0 else extWords x x.len))
        let parts := plan.map fun p => (p.2.1, s.stageExtent ch e.frame p.1)
        s.clusterIn c = true → s.fld (F.PW_CL_STATE c) ≠ 2 → (s.unstaged c)[n]? = some e → e.slot = some k → s.chan e.chan = some ch → e.restage = false →
        (∀ p ∈ parts, ∀ r ∈ p.2.2, s.poisoned r.1 r.2 = false) →
          ∃ t, Sys2Proof.Machine.exec (.stagingComplete c n []) s = .next t
            ∧ t.mem = (parts.foldl (fun x p => x.putCsm e.cluster (s.slotRead e.cluster k + p.1) p.2.1) s).mem ∧ t.cp = s.cp ∧ t.ep = s.ep)
    ∧ (c.val < s.clusters → ∃ t, Sys2Proof.Machine.exec (.queueRebuild c false) s = .next t ∧ t.th = s.th ∧ t.cores = s.cores
        ∧ FldsButRl [] s t)
    ∧ (s.th.rebuild = none → s.clusterIn c = true → ∃ t, Sys2Proof.Machine.exec (.queueRebuild c true) s = .next t
        ∧ t.fld F.TH_STATUS_REBUILDING = 1 ∧ t.fld F.TH_STATUS_REBUILD_CL = c.val ∧ (∃ n, t.th.rebuild = some (c.val, s.elapsed, n))
        ∧ (∀ q, ∀ e ∈ t.queueAt q, e.cluster ≠ c.val ∧ e ∈ s.queued) ∧ t.chans = s.chans ∧ t.mem = s.mem)
    ∧ (∀ r, s.th.rebuild = some r → ∃ t, Sys2Proof.Machine.exec .queueRebuildEnd s = .next t ∧ t.fld F.TH_EVENT_REBUILD = 1
        ∧ t.fld F.TH_STATUS_REBUILDING = 0)
    ∧ (∀ f : BitVec 14, (s.flow f.toNat).held ≠ [] → (s.flow f.toNat).stalled = false → s.fld F.TH_CTRL_STALL_MS ≠ 0 →
        (s.flow f.toNat).moved + s.fld F.TH_CTRL_STALL_MS * 1000000 ≤ s.elapsed →
        (∃ h ∈ (s.flow f.toNat).held, h.time + s.fld F.TH_CTRL_STALL_MS * 1000000 ≤ s.elapsed) →
          ∃ t, Sys2Proof.Machine.exec (.flowStall f) s = .next t ∧ t.flow f.toNat = { s.flow f.toNat with stalled := true }
            ∧ t.fld F.TH_EVENT_STALL = 1 ∧ FldsButRl [F.TH_EVENT_STALL] s t ∧ (∀ g, g ≠ f.toNat → t.flow g = s.flow g) ∧ t.chans = s.chans)
    ∧ (∀ (n : BitVec 13) (ch : Chan) (f : Nat), s.chan n.toNat = some ch → ch.mediaDue = some f → ch.nextB + 20000 ≤ s.nowNs + frameNs ch.frame → s.mode ≠ 10 →
        Sys2Proof.Machine.exec (.mediaTokenTimeout n) s = .next ((s.setChan n.toNat { ch with mediaDue := none }).sourceTokens n.toNat 17 f))
    ∧ (∃ t, Sys2Proof.Machine.exec .poolHwmRestart s = .next t ∧ t.fld F.TH_POOL_HWM_HWM = s.poolUsed % 2 ^ F.TH_POOL_HWM_HWM.w
        ∧ t.fld F.TH_ORD_HWM = s.ordUsed % 2 ^ F.TH_ORD_HWM.w ∧ FldsBut [F.TH_POOL_HWM_HWM, F.TH_ORD_HWM] s t ∧ t.th = s.th)
    ∧ (∀ q : BitVec 7, q.toNat / 8 < s.clusters → ∃ t, Sys2Proof.Machine.exec (.clrHist q) s = .next t
        ∧ (∀ b, mget 0 t.th.hist b = if b / 16 = q.toNat then 0 else mget 0 s.th.hist b) ∧ t.th.queues = s.th.queues ∧ t.regs = s.regs)

/-- R182, R183, R187, R212: a step of a page move copies one line of 128 bytes and goes on to the next. A write of
HP_WIN_DATA sets the selected pooled-window slot. The ways of the cache that are enabled are set, unless none of them
would be both enabled and not failed. -/
def Obligations.HamperResults : Prop :=
  ∀ s : State,
    (∀ (page : BitVec 13) (m : Move), s.memWf = true → (s.hp.moves.find? fun m => m.page = page.toNat && m.line < linesPerPage) = some m → m.src ≠ m.dst →
        ∃ t, Sys2Proof.Machine.exec (.pageMoveLineCopy page []) s = .next t
          ∧ t.hp.moves = (s.hp.moves.map fun x => if x.page = m.page then { x with line := m.line + 1 } else x)
          ∧ (∀ i, i < 128 → mget 0 t.hp.hbm (m.dst * pageBytes + m.line * 128 + i) = mget 0 s.hp.hbm (m.src * pageBytes + m.line * 128 + i))
          ∧ (∀ q, (q < m.dst * pageBytes + m.line * 128 ∨ m.dst * pageBytes + m.line * 128 + 128 ≤ q) → mget 0 t.hp.hbm q = mget 0 s.hp.hbm q)
          ∧ t.regs = s.regs)
    ∧ (∀ v : BitVec 32, ∃ t, Sys2Proof.Machine.exec (.hpWinDataWrite v) s = .next t
        ∧ (∀ k, mget 0 t.hp.wins k = if k = s.fld F.HP_WIN_SEL_SLOT then bits v.toNat 0 15 + bits v.toNat 16 6 * 2 ^ 16 else mget 0 s.hp.wins k)
        ∧ t.regs = s.regs ∧ t.hp.hbm = s.hp.hbm ∧ t.hp.page = s.hp.page)
    ∧ ∀ v : BitVec 16, ∃ t, Sys2Proof.Machine.exec (.cacheWayDisable v) s = .next t
        ∧ ((∃ w, w < 16 ∧ bit v.toNat w = true ∧ bit (s.fld F.HP_CACHE_WAYS_FAILED) w = false) →
            t.fld F.HP_CACHE_WAYS_ENABLE = v.toNat ∧ FldsBut [F.HP_CACHE_WAYS_ENABLE] s t)
        ∧ ((∀ w, w < 16 → bit v.toNat w = true → bit (s.fld F.HP_CACHE_WAYS_FAILED) w = true) → FldsButRl [] s t ∧ t.hp = s.hp)

/-- R34, R149, R174, R176, R293: at a boundary that has come an open channel counts one more frame, and its next
boundary lies one frame later. At an epoch the busy time and the dispatches of every core are latched and start anew. -/
def Obligations.BoundaryResults : Prop :=
  ∀ s : State,
    (s.flag F.CP_STATUS_REF_LOST = false → (s.chans.map (·.1)).Nodup → ∃ t, Sys2Proof.Machine.exec .frameTick s = .next t
        ∧ ∀ n c, (n, c) ∈ s.chans →
            (c.nextB ≤ s.nowNs → s.migHeld n c = false → s.switchDue n c = false →
              ∃ c', t.chan n = some c' ∧ c'.frames = c.frames + 1 ∧ c'.nextB = c.nextB + frameNs c.frame)
            ∧ (s.nowNs < c.nextB → t.chan n = some c))
    ∧ (s.flag F.CP_STATUS_REF_LOST = false → (∀ e ∈ s.chans, s.nowNs < e.2.nextB) → Sys2Proof.Machine.exec .frameTick s = .next s)
    ∧ ∀ meas, s.nowNs / 5000000 ≠ s.cp.lastEpoch → s.flag F.CP_STATUS_REF_LOST = false →
        ∃ t, Sys2Proof.Machine.exec (.compassEpoch meas) s = .next t ∧ t.cp.lastEpoch = s.nowNs / 5000000 ∧ t.mem = s.mem ∧ t.chans = s.chans
          ∧ ∀ k, k < s.coreCount → t.core k = { s.core k with busyNs := 0, busyFrom := s.elapsed, disp := 0 }

/-- R98-R100, R107, R145, R443, R444, R447, R450: a detected fault of a core that runs an entry is recorded and
counted, its row is logged, and the core takes the fault interrupt, or the entry is aborted for its replay; one with
no node open resets the core, or is only counted while it waits for work; a CPS word in error is restored from a
cluster with the same image. A hung node and a reset by command abort the entry and reset the core; an injection
stands for the next check; the count and the history are cleared. -/
def Obligations.CoreFaults : Prop :=
  ∀ (s : State) (k : Fin 144),
    (∀ (code : Fin 16) (lane : Fin 4) (addr : BitVec 24) (row : BitVec 18), s.coreLive k = true → faultCode code = true →
        (code.val = 12 → (s.core k).ovl.isSome = true ∧ (0x40000 ≤ addr.toNat ∨ s.sameImage (k / 9) ≠ [])) →
        (∀ r, (s.core k).run = some r → (s.core k).faultReq = none → (code.val ≠ 12 → (s.core k).ovl = none) →
          (code.val = 6 → ∃ sl, r.e.slot = some sl ∧ s.slotRead (k / 9) sl ≤ addr.toNat ∧ addr.toNat < s.slotWrite (k / 9) sl) →
          ∃ t, Sys2Proof.Machine.exec (.coreFault k code lane addr row) s = .next t
            ∧ t.fld (F.CO_STATUS_LAST_FAULT k) = code.val ∧ (code.val = 7 → t.fld (F.CO_STATUS_LAST_LANE k) = lane.val)
            ∧ (s.flag (F.CO_CTRL_FAULT_INT k) = true → (s.core k).stack.length < 8 →
                (t.core k).faultReq = some code.val ∧ (t.core k).run = some r
                ∧ t.fld (F.CO_STATUS_FAULT_CNT k) = satAdd (F.CO_STATUS_FAULT_CNT k).w (s.fld (F.CO_STATUS_FAULT_CNT k)) 1
                ∧ ∀ u, faultUnit k code = some u → (code.val = 12 → addr.toNat < 0x100000) → (u, row.toNat) ∈ t.mem.logged)
            ∧ (s.flag (F.CO_CTRL_FAULT_INT k) = false → r.e.cancel = false → r.e.replays < 3 →
                (t.core k).run = none ∧ (t.core k).waiting = true
                ∧ t.fld F.TH_REPLAY_CNT_REPLAYS = satAdd F.TH_REPLAY_CNT_REPLAYS.w (s.fld F.TH_REPLAY_CNT_REPLAYS) 1)
            ∧ (code.val = 12 → addr.toNat < 0x40000 → ∀ d l, s.sameImage (k / 9) = d :: l → t.cps (k / 9) addr.toNat = s.cps d addr.toNat))
        ∧ ((s.core k).run = none → ∃ t, Sys2Proof.Machine.exec (.idleFault k code lane addr row) s = .next t
            ∧ t.fld (F.CO_STATUS_LAST_FAULT k) = code.val
            ∧ t.fld (F.CO_STATUS_FAULT_CNT k) = satAdd (F.CO_STATUS_FAULT_CNT k).w (s.fld (F.CO_STATUS_FAULT_CNT k)) 1
            ∧ (code.val = 1 → (s.core k).waiting = true → (t.core k).pc = (s.core k).pc ∧ (t.core k).waiting = true)
            ∧ (code.val ≠ 1 ∨ (s.core k).waiting = false → (t.core k).pc = 0 ∧ (t.core k).run = none ∧ (t.core k).stack = [])))
    ∧ (∀ r, (s.core k).run = some r → r.e.kind = .node → r.at_ + s.fld F.RL_THRESH_HANG_MS * 1000000 ≤ s.nowNs →
        ∃ t, Sys2Proof.Machine.exec (.coreHang k) s = .next t ∧ (t.core k).run = none ∧ (t.core k).pc = 0)
    ∧ (s.coreEnabled k = true →
        (∀ kind : Fin 4, Sys2Proof.Machine.exec (.faultInject k kind) s = .next (
          if kind.val = 3 then s.reservedEncoding (R.CO_CTRL k) 8
          else if kind.val ≠ 0 ∧ s.fld (F.CO_STATUS_STATE k) = 1 then s.setCore k { s.core k with inject := kind.val } else s))
        ∧ (∃ t, Sys2Proof.Machine.exec (.clrCnt k) s = .next t ∧ t.fld (F.CO_STATUS_FAULT_CNT k) = 0 ∧ t.cores = s.cores ∧ FldsBut [F.CO_STATUS_FAULT_CNT k] s t)
        ∧ (s.fld (F.CO_STATUS_STATE k) ≠ 0 → s.fld (F.CO_STATUS_STATE k) ≠ 2 → ∃ t, Sys2Proof.Machine.exec (.coreReset k) s = .next t
            ∧ t.fld (F.CO_STATUS_STATE k) = 1 ∧ (t.core k).run = none ∧ (t.core k).pc = 0 ∧ (t.core k).stack = [])
        ∧ (s.fld (F.CO_STATUS_STATE k) = 0 ∨ s.fld (F.CO_STATUS_STATE k) = 2 → Sys2Proof.Machine.exec (.coreReset k) s = .next s)
        ∧ Sys2Proof.Machine.exec (.clearFaultHistory k) s = .next (s.setCore k { s.core k with hist := [], suspect := false }))

/-- R448, R449, R451-R453, R478, R483, R513: what the steps of a retirement do, and a row's repair, a cluster's reset
and its end, the clearing of its row logs and of its longest wait, and a read of its patch map. -/
def Obligations.RetireAndRepair : Prop :=
  ∀ s : State,
    (∀ (k : Fin 144) (r : Retire), (s.rl.retire.find? fun r => r.core = k.val && r.step = 1) = some r →
        ((s.core k).run.isSome = true → r.since + 2000000 ≤ s.elapsed → ∃ t, Sys2Proof.Machine.exec (.retireNodeTimeout k) s = .next t
            ∧ (t.core k).run = none ∧ (t.core k).pc = 0)
        ∧ ((s.core k).run.isSome = true → Sys2Proof.Machine.exec (.retirementSwap k) s = .next s)
        ∧ ((s.core k).run = none → bit (s.fld F.RL_SPARES_SPARE_FREE) (k / 9) = true →
            ∀ p, ((coresOf (k / 9)).find? fun p => p ≠ k.val && s.fld (F.CO_STATUS_STATE p) = 0) = some p →
            ∃ t, Sys2Proof.Machine.exec (.retirementSwap k) s = .next t
              ∧ t.fld (F.CO_STATUS_STATE k) = 2 ∧ t.fld (F.CO_STATUS_MAPPED k) = 0 ∧ t.fld (F.CO_STATUS_LOGICAL k) = 0
              ∧ t.fld (F.CO_STATUS_STATE p) = 1 ∧ t.fld (F.CO_STATUS_MAPPED p) = 1
              ∧ t.fld (F.CO_STATUS_LOGICAL p) = s.logical k % 2 ^ (F.CO_STATUS_LOGICAL p).w
              ∧ (t.core k).pc = 0 ∧ (t.core p).pc = 0 ∧ (t.core p).run = none))
    ∧ (∀ (k : Fin 144) (r : Retire) (p : Nat), (s.rl.retire.find? fun r => r.core = k.val && r.step = 2) = some r → r.spare = some p →
        (s.core p).waiting = true ∨ s.coresRun (p / 9) = false → 0 < s.active (k / 9) → ∃ t, Sys2Proof.Machine.exec (.spareReady k) s = .next t
          ∧ t.fld F.RL_EVENT_CORE_RETIRED = 1 ∧ bit (t.fld F.RL_SPARES_SPARE_FREE) (k / 9) = false
          ∧ t.fld (F.RL_CL_REPAIR_RETIRED (k / 9)) = (s.fld (F.RL_CL_REPAIR_RETIRED (k / 9)) + 1) % 2 ^ (F.RL_CL_REPAIR_RETIRED (k / 9)).w
          ∧ t.rl.retire.any (·.core = k.val) = false)
    ∧ (∀ (u : Fin 464) (row : BitVec 18), s.flag F.RL_CTRL_ROW_REPAIR_EN = true → (u.val, row.toNat) ∈ s.mem.logged →
        (u.val < 432 → (s.core (u / 3)).run = none) → ∃ t, Sys2Proof.Machine.exec (.rowRepaired u row) s = .next t
          ∧ t.mem.logged = s.mem.logged.filter (· ≠ (u.val, row.toNat))
          ∧ (mget 0 s.mem.sparesUsed u < unitSpares u → mget 0 t.mem.sparesUsed u = mget 0 s.mem.sparesUsed u + 1 ∧ t.fld F.RL_EVENT_ROW_REPAIRED = 1
              ∧ t.fld (F.RL_CL_REPAIR_ROWS (unitCluster u)) = satAdd 8 (s.fld (F.RL_CL_REPAIR_ROWS (unitCluster u))) 1 % 2 ^ (F.RL_CL_REPAIR_ROWS (unitCluster u)).w
              ∧ (u.val < 432 → (t.core (u / 3)).pc = 0))
          ∧ (unitSpares u ≤ mget 0 s.mem.sparesUsed u → t.mem.sparesUsed = s.mem.sparesUsed ∧ t.fld F.RL_EVENT_NO_SPARE_ROW = 1))
    ∧ ∀ c : Fin 16, c.val < s.clusters →
        (s.clusterIn c = true → s.fld (F.PW_CL_STATE c) ∉ [0, 4, 5, 6] → ∃ t, Sys2Proof.Machine.exec (.clusterReset c) s = .next t
            ∧ t.fld (F.PW_CL_STATE c) = 2 ∧ t.fld (F.PW_CL_RESETS c) = (s.fld (F.PW_CL_RESETS c) + 1) % 2 ^ (F.PW_CL_RESETS c).w
            ∧ ∀ k ∈ coresOf c, (t.core k).run = none ∧ (t.core k).pc = 0)
        ∧ (s.clusterIn c = false ∨ s.fld (F.PW_CL_STATE c) ∈ [0, 4, 5, 6] → Sys2Proof.Machine.exec (.clusterReset c) s = .next (s.configRefused (R.PW_CL c) 0))
        ∧ (∀ (cores : BitVec 9) (cps vectors : Bool), s.fld (F.PW_CL_STATE c) = 2 → ∃ t, Sys2Proof.Machine.exec (.clusterResetEnd c cores cps vectors) s = .next t
            ∧ t.fld (F.PW_CL_STATE c) = 1 ∧ t.fld (F.CL_SELFTEST_CORE_PASS c) = cores.toNat ∧ t.fld (F.CL_SELFTEST_CPS_PASS c) = b2n cps
            ∧ t.fld (F.CL_SELFTEST_VECTORS_PASS c) = b2n vectors
            ∧ FldsBut [F.PW_CL_STATE c, F.CL_SELFTEST_CORE_PASS c, F.CL_SELFTEST_CPS_PASS c, F.CL_SELFTEST_VECTORS_PASS c] s t)
        ∧ (∃ t, Sys2Proof.Machine.exec (.logClr c) s = .next t ∧ t.fld (F.CL_CSM_ROWLOG_VALID c) = 0 ∧ t.fld (F.CL_CPS_ROWLOG_VALID c) = 0
            ∧ (∀ k ∈ coresOf c, t.fld (F.CL_ROWLOG_VALID k) = 0) ∧ t.mem = s.mem)
        ∧ (∃ t, Sys2Proof.Machine.exec (.arbRestart c) s = .next t ∧ t.fld (F.CL_CSM_STAT_MAX_NS c) = 0 ∧ FldsBut [F.CL_CSM_STAT_MAX_NS c] s t)
        ∧ ∃ t, Sys2Proof.Machine.exec (.clPatchDataRead c) s = .next t ∧ t.lastRead = mget 0 s.mem.patch (c.val * 512 + s.fld (F.CL_PATCH_SEL_BLOCK c))
            ∧ t.fld (F.CL_PATCH_SEL_BLOCK c) = (s.fld (F.CL_PATCH_SEL_BLOCK c) + 1) % 512 ∧ FldsBut [F.CL_PATCH_SEL_BLOCK c] s t

/-- R51, R53, R54, R57, R59-R65, R69: a sensor window writes the speed of every cluster, the least of its sensors'
values; while the reference is lost nothing is measured. After 200 good windows BELOW_FLOOR clears. The end of a
settle time lets a complete window follow, and a step toward limits that were moved. An acknowledged Vout write is
followed by a read, an acknowledged read shows voltage and current; a failed attempt is made again, and the last one
is an AVS fault, during which Vout is read every 5 ms. Two windows after the return of the reference REF_LOST clears.
An age measurement writes the index of each cluster and their least. A crossing error is counted. -/
def Obligations.SupervisorResults : Prop :=
  ∀ s : State,
    (∀ counts, s.mode ≠ 0 → s.mode ≠ 9 → s.flag F.ST_STATUS_REF_LOST = false → ∃ t, Sys2Proof.Machine.exec (.sensorWindow counts) s = .next t
        ∧ ∀ c, c < s.clusters → t.fld (F.ST_SPEED_SPEED c) = (s.clusterSpeed c (counts.getD c [])).fld (F.ST_SPEED_SPEED c))
    ∧ (∀ counts, s.mode ≠ 0 → s.mode ≠ 9 → s.flag F.ST_STATUS_REF_LOST = true → ∃ t, Sys2Proof.Machine.exec (.sensorWindow counts) s = .next t
        ∧ t.regs = s.regs ∧ t.st.refWindows = if s.st.refBack then s.st.refWindows + 1 else s.st.refWindows)
    ∧ (s.flag F.ST_STATUS_BELOW_FLOOR = true → 200 ≤ s.st.okWindows → ∃ t, Sys2Proof.Machine.exec .floorRestored s = .next t
        ∧ t.fld F.ST_STATUS_BELOW_FLOOR = 0 ∧ FldsButRl [F.ST_STATUS_BELOW_FLOOR] s t)
    ∧ (s.st.settle = 1 → s.fld F.ST_VLIMIT_VMIN_MV ≤ s.fld F.ST_VSET_CMD_MV → s.fld F.ST_VSET_CMD_MV ≤ s.fld F.ST_VLIMIT_VMAX_MV →
        Sys2Proof.Machine.exec .settleExpiry s = .next { s with st := { s.st with settle := 2 } })
    ∧ (s.st.settle = 1 → s.fld F.ST_VLIMIT_VMAX_MV < s.fld F.ST_VSET_CMD_MV → s.flag F.ST_CTRL_EN = true → s.flag F.ST_STATUS_AVS_FAULT = false →
        ∃ t, Sys2Proof.Machine.exec .settleExpiry s = .next t ∧ t.fld F.ST_STATUS_SETTLING = 1
          ∧ t.fld F.ST_VSET_CMD_MV = max 680 (min 900 (max (s.fld F.ST_VLIMIT_VMAX_MV) (s.fld F.ST_VSET_CMD_MV - s.fld F.ST_STEP_STEP_MV)))
          ∧ t.out = .avsWrite (s.fld F.ST_AVS_CFG_RAIL) (t.fld F.ST_VSET_CMD_MV) :: s.out)
    ∧ (∀ x mv qa, s.st.avs = some x → ∃ t, Sys2Proof.Machine.exec (.avsTransactionEnd true mv qa) s = .next t
        ∧ (x.write ≠ none → t.st.avs = some ⟨none, 0⟩ ∧ t.out = .avsRead (s.fld F.ST_AVS_CFG_RAIL) :: s.out ∧ t.regs = s.regs)
        ∧ (x.write = none → t.st.avs = none ∧ t.fld F.ST_VREAD_V_MV = mv.toNat ∧ t.fld F.ST_VREAD_I_QA = qa.toNat ∧ t.fld F.ST_STATUS_AVS_FAULT ≠ 1
            ∧ t.fld F.ST_VSET_CMD_MV = if s.flag F.ST_STATUS_AVS_FAULT then mv.toNat else s.fld F.ST_VSET_CMD_MV))
    ∧ (∀ x mv qa i, s.st.avs = some x → (i = .avsTransactionEnd false mv qa ∨ i = .avsResponseTimeout) → ∃ t, Sys2Proof.Machine.exec i s = .next t
        ∧ t.fld F.ST_AVS_ERR_CNT_COUNT = satAdd F.ST_AVS_ERR_CNT_COUNT.w (s.fld F.ST_AVS_ERR_CNT_COUNT) 1
        ∧ (x.fails < s.fld F.ST_AVS_CFG_RETRIES → t.st.avs = some { x with fails := x.fails + 1 } ∧ t.fld F.ST_STATUS_AVS_FAULT = s.fld F.ST_STATUS_AVS_FAULT)
        ∧ (s.fld F.ST_AVS_CFG_RETRIES ≤ x.fails → t.st.avs = none ∧ t.fld F.ST_STATUS_AVS_FAULT = 1 ∧ (s.flag F.ST_STATUS_AVS_FAULT = false → t.fld F.ST_EVENT_AVS_FAULT = 1)))
    ∧ (s.flag F.ST_STATUS_AVS_FAULT = true → s.st.avs = none → ∃ t, Sys2Proof.Machine.exec .avsFaultPoll s = .next t ∧ t.st.avs = some ⟨none, 0⟩
        ∧ t.out = .avsRead (s.fld F.ST_AVS_CFG_RAIL) :: s.out ∧ t.regs = s.regs)
    ∧ (s.flag F.ST_STATUS_REF_LOST = true → s.st.refBack = true → 2 ≤ s.st.refWindows → ∃ t, Sys2Proof.Machine.exec .refLostClear s = .next t
        ∧ t.fld F.ST_STATUS_REF_LOST = 0 ∧ t.st.refBack = false ∧ FldsButRl [F.ST_STATUS_REF_LOST] s t)
    ∧ (∀ idx, s.flag F.ST_CTRL_AGE_EN = true ∨ s.st.measuredAge = false → ∃ t, Sys2Proof.Machine.exec (.ageMeasurement idx) s = .next t ∧ t.st.measuredAge = true
        ∧ (∀ c, c < s.clusters → t.fld (F.ST_AGE_INDEX c) = nth idx c % 1024 ∧ t.fld F.ST_AGE_MIN_INDEX ≤ nth idx c % 1024)
        ∧ t.fld F.ST_AGE_MIN_INDEX = t.fld (F.ST_AGE_INDEX (t.fld F.ST_AGE_MIN_CLUSTER)))
    ∧ (∀ i : BitVec 8, ∃ t, Sys2Proof.Machine.exec (.xing i) s = .next t ∧ t.fld F.ST_XING_CNT_COUNT = satAdd F.ST_XING_CNT_COUNT.w (s.fld F.ST_XING_CNT_COUNT) 1
        ∧ t.fld F.ST_EVENT_XING = 1 ∧ FldsButRl [F.ST_XING_CNT_COUNT, F.ST_EVENT_XING] s t)
    ∧ Sys2Proof.Machine.exec .speedMinRestart s = .next (s.setFld F.ST_SPEED_MIN_MIN 0xFFFF)

/-- R285, R287-R289, R291, R295, R297: setting the time is done while no channel is open or the time is not valid, and
is refused otherwise. A write of CP_ADJ sets the residue that is slewed; the last part of it ends a slew. An edge of
PPS_IN is noted, and its absence for 1.1 s puts a locked loop into HOLDOVER. PPS_OUT rises and falls. An edge of an
enabled capture unit latches the time. A read of CP_CAP_SEC makes the capture free again; one of CP_NSEC latches the
seconds. -/
def Obligations.CompassResults : Prop :=
  ∀ s : State,
    (s.flag F.CP_STATUS_TIME_VALID = false ∨ s.chans = [] → ∃ t, Sys2Proof.Machine.exec .timeStep s = .next t
        ∧ t.cp.sec = s.fld F.CP_SET_SEC_LO_SEC_LO + 2 ^ 32 * s.fld F.CP_SET_SEC_HI_SEC_HI ∧ t.cp.ns = s.fld F.CP_SET_NSEC_NSEC ∧ t.cp.frac = 0
        ∧ t.cp.residue = 0 ∧ t.fld F.CP_STATUS_TIME_VALID = 1 ∧ t.fld F.CP_EVENT_STEP = 1
        ∧ t.fld F.CP_CNT_STEPS = (s.fld F.CP_CNT_STEPS + 1) % 2 ^ F.CP_CNT_STEPS.w
        ∧ FldsBut [F.CP_STATUS_TIME_VALID, F.CP_EVENT_STEP, F.CP_CNT_STEPS] s t)
    ∧ (s.flag F.CP_STATUS_TIME_VALID = true → s.chans ≠ [] → ∃ t, Sys2Proof.Machine.exec .timeStep s = .next t
        ∧ t.cp = s.cp ∧ t.chans = s.chans ∧ t.fld F.CP_EVENT_STEP_REFUSED = 1 ∧ FldsButRl [F.CP_EVENT_STEP_REFUSED] s t)
    ∧ (∀ v : BitVec 32, Sys2Proof.Machine.exec (.cpAdjWrite v) s = .next { s with cp := { s.cp with residue := v.toInt * 4294967296 } })
    ∧ (s.cp.residue.natAbs ≤ 17179869 → ∃ t, Sys2Proof.Machine.exec .slewAbsorbed s = .next t ∧ t.cp.residue = 0 ∧ t.regs = s.regs
        ∧ ∀ x : Int, ((s.cp.sec : Int) * 1000000000 + s.cp.ns) * 4294967296 + s.cp.frac + s.cp.residue = x → 0 ≤ x → x < 2 ^ 48 * 1000000000 * 4294967296 →
            ((t.cp.sec : Int) * 1000000000 + t.cp.ns) * 4294967296 + t.cp.frac = x)
    ∧ (∃ t, Sys2Proof.Machine.exec .ppsInEdge s = .next t ∧ t.cp.lastPps = s.elapsed ∧ t.chans = s.chans
        ∧ (s.fld F.CP_SRC_CFG_SRC = 2 → s.flag F.CP_STATUS_REF_LOST = false →
            t.fld F.CP_PD_ERROR_NS = unsgn 32 (wrapErr s.cp.ns 1000000000) % 2 ^ 32)
        ∧ (s.fld F.CP_SRC_CFG_SRC ≠ 2 → t.regs = s.regs))
    ∧ (s.fld F.CP_SRC_CFG_SRC = 2 → s.cp.lastPps + 1100000000 ≤ s.elapsed → s.fld F.CP_STATUS_STATE = 1 ∨ s.fld F.CP_STATUS_STATE = 2 →
        ∃ t, Sys2Proof.Machine.exec .srcLost s = .next t ∧ t.fld F.CP_STATUS_STATE = 3 ∧ t.fld F.CP_HOLD_FREQ = unsgn 32 s.holdMean % 2 ^ 32
          ∧ t.fld F.CP_EVENT_SRC_LOST = 1 ∧ t.fld F.CP_EVENT_HOLDOVER = 1)
    ∧ (s.flag F.CP_PPS_OUT_EN = true → s.flag F.CP_STATUS_TIME_VALID = true → s.flag F.CP_STATUS_REF_LOST = false → s.cp.ppsHigh = none → s.cp.stepped = false →
        s.cp.ns = s.fld F.CP_PPS_OUT_OFS_NS * 1024 →
        Sys2Proof.Machine.exec .ppsOutRise s = .next { s with cp := { s.cp with ppsHigh := some s.elapsed }, out := .pin "PPS_OUT" true :: s.out })
    ∧ (∀ b, s.cp.ppsHigh = some b → b + s.fld F.CP_PPS_OUT_WIDTH_MS * 1000000 ≤ s.elapsed →
        Sys2Proof.Machine.exec .ppsOutFall s = .next { s with cp := { s.cp with ppsHigh := none }, out := .pin "PPS_OUT" false :: s.out })
    ∧ (∀ i : Fin 6, s.flag (F.CP_CAP_CFG_EN i) = true → ∃ t, Sys2Proof.Machine.exec (.captureEdge i) s = .next t
        ∧ t.fld (F.CP_CAP_NS_VALUE i) = s.cp.ns % 2 ^ 30 ∧ t.fld (F.CP_CAP_SEC_VALUE i) = s.cp.sec % 2 ^ 32 ∧ t.fld (F.CP_CAP_CFG_VALID i) = 1
        ∧ (s.flag (F.CP_CAP_CFG_VALID i) = true → t.fld (F.CP_CAP_CFG_OVR i) = 1 ∧ t.fld F.CP_CNT_CAP_OVR = satAdd F.CP_CNT_CAP_OVR.w (s.fld F.CP_CNT_CAP_OVR) 1)
        ∧ (s.flag (F.CP_CAP_CFG_VALID i) = false → FldsBut [F.CP_CAP_NS_VALUE i, F.CP_CAP_SEC_VALUE i, F.CP_CAP_CFG_VALID i] s t))
    ∧ (∀ i : Fin 6, ∃ t, Sys2Proof.Machine.exec (.capSecRead i) s = .next t ∧ t.lastRead = s.fld (F.CP_CAP_SEC_VALUE i) ∧ t.fld (F.CP_CAP_CFG_VALID i) = 0
        ∧ FldsBut [F.CP_CAP_CFG_VALID i] s t)
    ∧ ∃ t, Sys2Proof.Machine.exec .cpNsecRead s = .next t ∧ t.lastRead = s.cp.ns ∧ t.fld F.CP_SEC_LO_SEC_LO = s.cp.sec % 2 ^ 32
        ∧ t.fld F.CP_SEC_HI_SEC_HI = s.cp.sec / 2 ^ 32 % 2 ^ 16 ∧ FldsBut [F.CP_SEC_LO_SEC_LO, F.CP_SEC_HI_SEC_HI] s t

/-- R301-R305: at a tick of 125 µs a master highway sends the codes of its 512 slots and a slave highway keeps them
for its own clock. A slave that has received a frame puts it into its slip buffer and sends the oldest frame that
waits; a frame sync out of place is counted. The loss and the return of a slave's clock are shown in TD_STATUS. A
write of a slot entry sets its 17 bits, takes or frees the companion of a linear slot, or is rejected and changes no
entry. -/
def Obligations.TdmCommands : Prop :=
  ∀ s : State,
    (∀ data col, s.nowNs / 125000 ≠ s.cp.lastTick → s.flag F.CP_STATUS_REF_LOST = false →
        ∃ t, Sys2Proof.Machine.exec (.highwayTick data col) s = .next t ∧ t.cp = { s.cp with lastTick := s.nowNs / 125000 }
          ∧ ∀ h, h < 16 → s.hwyActive h = true →
              if s.flag (F.TD_HCFG_MASTER h) then .tdm h (s.txFrame h) ∈ t.out else ∃ l, (t.hwy h).tx = l ++ [s.txFrame h])
    ∧ (∀ (h : Fin 16) data fs lost col, s.hwyActive h = true → s.flag (F.TD_HCFG_MASTER h) = false → bit (s.fld F.TD_STATUS_CLK_LOST) h = false →
        ∃ t, Sys2Proof.Machine.exec (.highwayFrameReceived h data fs lost col) s = .next t
          ∧ (fs ≠ 0 → t.fld (F.TD_HCNT_FS_ERR h) = satAdd 8 (s.fld (F.TD_HCNT_FS_ERR h)) 1)
          ∧ ∀ f r, fs = 0 → (s.hwy h).rx.length < 2 → (s.hwy h).tx = f :: r →
              t.out = .tdm h f :: s.out ∧ (t.hwy h).rx = (s.hwy h).rx ++ [data] ∧ (t.hwy h).tx = r ∧ (t.hwy h).txLast = f)
    ∧ (∀ h : Fin 16, s.hwyActive h = true → s.flag (F.TD_HCFG_MASTER h) = false → bit (s.fld F.TD_STATUS_CLK_LOST) h = false →
        ∃ t, Sys2Proof.Machine.exec (.clkLost h) s = .next t ∧ t.fld F.TD_EVENT_CLK_LOST = 1 ∧ t.td = s.td
          ∧ ∀ j, j < 16 → bit (t.fld F.TD_STATUS_CLK_LOST) j = (decide (j = h.val) || bit (s.fld F.TD_STATUS_CLK_LOST) j))
    ∧ (∀ h : Fin 16, bit (s.fld F.TD_STATUS_CLK_LOST) h = true →
        ∃ t, Sys2Proof.Machine.exec (.tdClkReturn h) s = .next t ∧ t.hwy h = { s.hwy h with run := 0, cand := none }
          ∧ ∀ j, j < 16 → bit (t.fld F.TD_STATUS_CLK_LOST) j = (decide (j ≠ h.val) && bit (s.fld F.TD_STATUS_CLK_LOST) j))
    ∧ ∀ v : BitVec 32,
        let h := s.fld F.TD_SLOT_SEL_HWY
        let k := s.fld F.TD_SLOT_SEL_SLOT
        let w := if entLaw v.toNat = 3 then setBits v.toNat 13 2 (entLaw (s.tdSlot h k)) else v.toNat
        let x := bits w 0 17
        ∃ t, Sys2Proof.Machine.exec (.tdSlotDataWrite v) s = .next t
          ∧ (s.slotRejects h k x = true → t.td = s.td ∧ t.fld F.TD_EVENT_SLOT_REJECT = 1)
          ∧ (s.slotRejects h k x = false → t.tdSlot h k = x
              ∧ (k % 2 = 0 → entLaw x = 2 → t.tdSlot h (k + 1) = 2 ^ 17)
              ∧ (k % 2 = 0 → entLaw x ≠ 2 → entCompanion (s.tdSlot h (k + 1)) = true → t.tdSlot h (k + 1) = 0)
              ∧ ∀ h' k', slotKey h' k' ≠ slotKey h k → slotKey h' k' ≠ slotKey h (k + 1) → t.tdSlot h' k' = s.tdSlot h' k')

/-- R313, R320, R322-R328, R332, R336: loss and return of a clock pair. A complete receive slot goes to the ring of
the channel that the bitstream channel feeds, with its header word, and the media-bank token follows. Requests of a
synchronising reset wait, and the reset takes every group that takes part, or leaves it to owe one. Settling ends. A
mapping is written, or rejected and kept. A coefficient is read or written, and TAP advances. A swap starts a fade, is
done at once when its bank is active, or waits behind a running fade, of which the end makes the target active. -/
def Obligations.BitstreamResults : Prop :=
  ∀ s : State,
    (∀ k : Fin 8, s.pairLost k = false → s.groupActive (2 * k.val) = true ∨ s.groupActive (2 * k.val + 1) = true →
        ∃ t, Sys2Proof.Machine.exec (.bsClockLost k) s = .next t ∧ t.bs = s.bs ∧ t.fld F.BS_EVENT_CLK_LOST = 1
          ∧ t.fld F.BS_LOSS_CNT_LOSSES = satAdd F.BS_LOSS_CNT_LOSSES.w (s.fld F.BS_LOSS_CNT_LOSSES) 1
          ∧ t.fld (F.BS_GRSMP_NO_CLOCK (2 * k.val)) = 1 ∧ t.fld (F.BS_GRSMP_NO_CLOCK (2 * k.val + 1)) = 1
          ∧ ∀ j, j < 8 → t.pairLost j = (decide (j = k.val) || s.pairLost j))
    ∧ (∀ k : Fin 8, s.pairLost k = true → ∃ t, Sys2Proof.Machine.exec (.clkBack k) s = .next t ∧ t.fld F.BS_EVENT_CLK_BACK = 1
          ∧ (∀ j, j < 8 → t.pairLost j = (decide (j ≠ k.val) && s.pairLost j))
          ∧ ∀ g, t.bsGroup g = if g / 2 = k.val then { s.bsGroup g with localDue := true } else s.bsGroup g)
    ∧ (∀ (b : BitVec 8) (l : List Bool) (c : Chan) (f : Nat),
        let n := s.fld (F.BS_CH_CHANNEL b.toNat)
        let g := b.toNat / 16
        let cfg := s.groupCfg g
        let start := c.nextB - 2 * frameNs c.frame
        let r := s.runSlot b.toNat g cfg l (start * cfg.fs / 1000000) (frameSamples c.frame cfg.fs) (frameSamples c.frame cfg.fs * s.incOf g / 2 ^ 22)
        let v := s.timedEntry b.toNat c cfg f r.2.2 start
        s.chan n = some c → c.mediaDue = some f → s.flag (F.BS_CH_RX_EN b.toNat) = true → s.groupActive g = true → s.mode ≠ 10 →
        ringFits c c.graph.rx cfg.fs = true →
          ∃ u : State, Sys2Proof.Machine.exec (.bsSlotComplete b l) s = .next (u.sourceTokens n 17 f) ∧ u.bs.chain = mput s.bs.chain b.toNat r.1
            ∧ u.chan n = some { c with mediaDue := none }
            ∧ u.hp = ((v.writeRing c 20 c.graph.rx f (r.2.1.map fun x => unsgn 24 x)).setWord (v.ringSlot c 20 c.graph.rx.frames c.graph.rx.samples f)
                (f % 16384 + r.2.2 % 32 * 2 ^ 14 + 2 ^ 31)).hp)
    ∧ (s.flag F.BS_CTRL_SYNC_IN_EN = true →
        Sys2Proof.Machine.exec .syncInEdge s = .next { s with bs := { s.bs with sync := s.bs.sync ++ [(s.nowNs, 1)] } })
    ∧ Sys2Proof.Machine.exec .syncCmd s = .next { s with bs := { s.bs with sync := s.bs.sync ++ [(s.nowNs, 3)] } }
    ∧ (∀ d, d ∈ s.bs.sync → d.1 ≤ s.nowNs → ∃ t, Sys2Proof.Machine.exec .syncReset s = .next t ∧ t.fld F.BS_EVENT_SYNC = 1
        ∧ t.bs.sync = s.bs.sync.filter (fun e => s.nowNs < e.1)
        ∧ t.fld F.BS_SYNC_STAT_COUNT = (s.fld F.BS_SYNC_STAT_COUNT + 1) % 2 ^ F.BS_SYNC_STAT_COUNT.w
        ∧ (∀ g, g < 16 → s.groupActive g = true → s.flag (F.BS_GCFG_SYNC_EN g) = true → s.pairLost (g / 2) = false →
            (t.bsGroup g).resetAt = s.nowNs ∧ (t.bsGroup g).localDue = false ∧ t.fld (F.BS_GRSMP_SETTLING g) = 1)
        ∧ (∀ g, g < 16 → s.groupActive g = true → s.flag (F.BS_GCFG_SYNC_EN g) = true → s.pairLost (g / 2) = true →
            t.bsGroup g = { s.bsGroup g with localDue := true })
        ∧ ∀ g, s.groupActive g = false ∨ s.flag (F.BS_GCFG_SYNC_EN g) = false → t.bsGroup g = s.bsGroup g)
    ∧ (∀ g : Fin 16, (s.bsGroup g).localDue = true → s.groupActive g = true → s.pairLost (g.val / 2) = false →
        ∃ t, Sys2Proof.Machine.exec (.groupLocalReset g) s = .next t ∧ (t.bsGroup g).resetAt = s.nowNs ∧ (t.bsGroup g).localDue = false
          ∧ t.fld (F.BS_GRSMP_SETTLING g) = 1 ∧ (∀ b, b / 16 = g.val → mfind t.bs.chain b = none) ∧ ∀ j, j ≠ g.val → t.bsGroup j = s.bsGroup j)
    ∧ (∀ g : Fin 16, s.flag (F.BS_GRSMP_SETTLING g) = true →
        (s.bsGroup g).resetAt + (s.groupCfg g).settle * 1000000 / (s.groupCfg g).fs ≤ s.nowNs →
        ∃ t, Sys2Proof.Machine.exec (.bsSettleEnd g) s = .next t ∧ t.fld (F.BS_GRSMP_SETTLING g) = 0
          ∧ (∀ j, j < 16 → bit (t.fld F.BS_STATUS_SETTLING) j = (decide (j ≠ g.val) && bit (s.fld F.BS_STATUS_SETTLING) j))
          ∧ FldsBut [F.BS_GRSMP_SETTLING g, F.BS_STATUS_SETTLING] s t)
    ∧ (∀ (b : BitVec 8) (v : BitVec 32), ∃ t, Sys2Proof.Machine.exec (.bsChWrite b v) s = .next t
        ∧ (s.mapRejects b.toNat v.toNat = true → t.fld F.BS_EVENT_MAP_REJECT = 1 ∧ FldsButRl [F.BS_EVENT_MAP_REJECT] s t)
        ∧ (s.mapRejects b.toNat v.toNat = false → t.fld (F.BS_CH_CHANNEL b.toNat) = bits v.toNat 0 13
            ∧ t.flag (F.BS_CH_RX_EN b.toNat) = bit v.toNat 13 ∧ t.flag (F.BS_CH_TX_EN b.toNat) = bit v.toNat 14
            ∧ t.flag (F.BS_CH_TIMED b.toNat) = bit v.toNat 15 ∧ t.fld (F.BS_CH_TSLOT b.toNat) = bits v.toNat 16 4
            ∧ (bit v.toNat 22 = true → t.fld (F.BS_CH_OVERLOAD b.toNat) = 0) ∧ (bit v.toNat 23 = true → t.fld (F.BS_CH_SLIP b.toNat) = 0)))
    ∧ (∀ (w : Bool) (v : BitVec 32),
        let g := s.fld F.BS_COEF_SEL_GROUP
        let b := s.flag F.BS_COEF_SEL_BANK
        let i := s.fld F.BS_COEF_SEL_TAP
        ∃ t, Sys2Proof.Machine.exec (.bsCoefDataAccess w v) s = .next t ∧ t.fld F.BS_COEF_SEL_TAP = (i + 1) % 64
          ∧ (w = false → t.lastRead = mget 0 s.bs.coef (128 * g + 64 * b2n b + i) ∧ t.bs = s.bs)
          ∧ (w = true → s.bankBusy g b = true → t.fld F.BS_EVENT_COEF_REFUSED = 1 ∧ t.bs = s.bs)
          ∧ (w = true → s.bankBusy g b = false → t.bs = { s.bs with coef := mset 0 s.bs.coef (128 * g + 64 * b2n b + i) (v.toNat % 2 ^ 24) }))
    ∧ (∀ (g : Fin 16) (b : Bool), ∃ t, Sys2Proof.Machine.exec (.swap g b) s = .next t
        ∧ ((s.bsGroup g).fade = none → (s.bsGroup g).active = b → t.bs = s.bs)
        ∧ ((s.bsGroup g).fade = none → (s.bsGroup g).active ≠ b → t.bsGroup g = { s.bsGroup g with fade := some ⟨b, s.nextFir g, none⟩ })
        ∧ ((s.bsGroup g).fade ≠ none → t.bsGroup g = { s.bsGroup g with queued := some ⟨b, 0, none⟩ }))
    ∧ ∀ (g : Fin 16) (f : BsFade), (s.bsGroup g).fade = some f → f.first + s.fld (F.BS_GFIR_FADE_LEN g) + 1 ≤ s.nextFir g →
        ∃ t, Sys2Proof.Machine.exec (.swapDone g) s = .next t ∧ t.fld F.BS_EVENT_SWAP_DONE = 1
          ∧ (t.bsGroup g).active = f.target ∧ (t.bsGroup g).queued = none
          ∧ ((s.bsGroup g).queued = none → (t.bsGroup g).fade = none)
          ∧ ∀ q, (s.bsGroup g).queued = some q → q.target ≠ f.target → (t.bsGroup g).fade = some ⟨q.target, s.nextFir g, q.origin⟩

/-- R338-R341: the Stile sequence of an entry: the readback of step 1 begins the open gap with the entry's relays,
that of step 5 closes the input, that of step 6 connects; the gap and the relays lead to the discharge, or to the
switch at once; the discharge ends. A switch stuck closed takes the LMU out of service and ends its sweep; one stuck
open ends the entry with its record. RESET_FAULT brings the LMU back when every switch reads open. -/
def Obligations.StileSequence : Prop :=
  ∀ s : State,
    (∀ r, s.lm.run = some r →
      (s.fld F.LM_STATUS_STEP = 1 → ∃ t r', Sys2Proof.Machine.exec .stileReadback s = .next t ∧ t.fld F.LM_STATUS_STEP = 2 ∧ t.fld F.LM_STATUS_INPUT = 63
          ∧ t.lm.closed = none ∧ t.lm.run = some r' ∧ r'.gapEnd = s.nowNs + (lmGap r.e + 1) * 1000 ∧ r'.e = r.e
          ∧ (∀ j, j < 8 → t.flag (F.LM_RLY_STATE j) = bit (if r.telem then s.idleRelays else lmRelays r.e) j)
          ∧ (r'.relayEnd = none ↔ ∀ j, j < 8 → s.flag (F.LM_RLY_STATE j) = bit (if r.telem then s.idleRelays else lmRelays r.e) j)
          ∧ (lmExcAt r.e = 0 → lmExc r.e ≠ 0 → t.lm.exc = ⟨lmExc r.e, lmLevel r.e, lmStart r.e, lmFreq r.e, s.nowNs, none⟩))
      ∧ (s.fld F.LM_STATUS_STEP = 5 → ∃ t, Sys2Proof.Machine.exec .stileReadback s = .next t ∧ t.fld F.LM_STATUS_STEP = 6 ∧ t.lm.dsch = false
          ∧ t.lm.closed = some (lmInput r.e) ∧ t.lm.run = some r ∧ FldsBut [F.LM_STATUS_STEP] s t)
      ∧ (s.fld F.LM_STATUS_STEP = 6 → ∃ t r', Sys2Proof.Machine.exec .stileReadback s = .next t ∧ t.fld F.LM_STATUS_STEP = 8 ∧ t.lm.chain = BsChain.init
          ∧ t.lm.run = some r' ∧ r' = { r with resetAt := (s.nowNs * 16 + 15624) / 15625 * 15625 / 16 } ∧ t.fld F.LM_STATUS_INPUT = lmInput r.e
          ∧ t.fld F.LM_STATUS_RANGE = r.range % 2 ^ F.LM_STATUS_RANGE.w)
      ∧ (s.fld F.LM_STATUS_STEP = 2 → r.gapEnd ≤ s.nowNs → r.relayEnd.isSome = true → ∃ t, Sys2Proof.Machine.exec .openGapEnd s = .next t
          ∧ t.fld F.LM_STATUS_STEP = 3 ∧ t.lm = s.lm ∧ FldsBut [F.LM_STATUS_STEP] s t)
      ∧ (∀ i : Instr, i = .openGapEnd ∧ s.fld F.LM_STATUS_STEP = 2 ∧ r.gapEnd ≤ s.nowNs ∧ r.relayEnd = none
            ∨ i = .relaySettleEnd ∧ s.fld F.LM_STATUS_STEP = 3 ∧ (∃ a, r.relayEnd = some a ∧ a ≤ s.nowNs) →
          ∃ t, Sys2Proof.Machine.exec i s = .next t ∧ FldsBut [F.LM_STATUS_STEP] s t
            ∧ (lmInput r.e < 32 → lmNoDsch r.e = false → t.fld F.LM_STATUS_STEP = 4 ∧ t.lm.dsch = true ∧ t.lm.closed = s.lm.closed
                ∧ t.lm.run = some { r with relayEnd := none, dschEnd := s.nowNs + lmDschUs r.e * 1000 })
            ∧ (32 ≤ lmInput r.e ∨ lmNoDsch r.e = true → t.fld F.LM_STATUS_STEP = 6 ∧ t.lm.closed = some (lmInput r.e) ∧ t.lm.run = some { r with relayEnd := none }))
      ∧ (∀ a, s.fld F.LM_STATUS_STEP = 2 → r.relayEnd = some a → a ≤ s.nowNs → Sys2Proof.Machine.exec .relaySettleEnd s = .next (s.lmRun { r with relayEnd := none }))
      ∧ (s.fld F.LM_STATUS_STEP = 4 → r.dschEnd ≤ s.nowNs → ∃ t, Sys2Proof.Machine.exec .dischargeEnd s = .next t
          ∧ t.fld F.LM_STATUS_STEP = 5 ∧ t.lm = s.lm ∧ FldsBut [F.LM_STATUS_STEP] s t)
      ∧ (∀ sw : Fin 41, (s.fld F.LM_STATUS_STEP = 1 ∧ sw.val < 40 ∨ s.fld F.LM_STATUS_STEP = 5 ∧ sw.val = 40) →
          ∃ t, Sys2Proof.Machine.exec (.stileStuckClosed sw) s = .next t ∧ t.fld F.LM_STATUS_STATE = 5 ∧ t.fld F.LM_EVENT_STILE_FAULT = 1
            ∧ t.fld F.LM_EVENT_OUT_OF_SERVICE = 1 ∧ t.lm.run = none ∧ t.lm.sweep = none ∧ t.lm.telemLeft = [] ∧ t.fld F.LM_STATUS_STEP = 0
            ∧ t.lm.closed = (if sw.val < 40 then some sw.val else none) ∧ t.lm.dsch = decide (sw.val = 40))
      ∧ (s.fld F.LM_STATUS_STEP = 6 → ∃ t, Sys2Proof.Machine.exec .stileStuckOpen s = .next t ∧ t.fld F.LM_EVENT_STILE_FAULT = 1
          ∧ t.fld F.LM_CNT_STILE_FAULTS = satAdd F.LM_CNT_STILE_FAULTS.w (s.fld F.LM_CNT_STILE_FAULTS) 1))
    ∧ (s.lm.run = none → ∀ i ∈ ([.stileReadback, .openGapEnd, .relaySettleEnd, .dischargeEnd, .stileStuckOpen, .lmuOutput [], .blankTimeout] : List Instr),
        Sys2Proof.Machine.exec i s = .next s)
    ∧ (∀ opened : Bool, (s.fld F.LM_STATUS_STATE = 5 → opened = true → ∃ t, Sys2Proof.Machine.exec (.resetFault opened) s = .next t
          ∧ t.fld F.LM_STATUS_STATE = 1 ∧ t.lm.closed = none ∧ t.lm.dsch = false ∧ FldsBut [F.LM_STATUS_STATE] s t)
        ∧ (s.fld F.LM_STATUS_STATE ≠ 5 ∨ opened = false → Sys2Proof.Machine.exec (.resetFault opened) s = .next s))

/-- R54, R294, R344-R346, R350, R351, R353: an output goes through the chain, the settle count and the window;
blanking follows its pin, and an entry that it lengthens too far ends with its record; the next pass starts after its
gap, at once or after the telemetry reading under way; telemetry begins with input 32. A lost reference puts Compass
in holdover, has the supervisor command 800 mV and opens Stile; its return lets the LMU go on. -/
def Obligations.LmuEvents : Prop :=
  ∀ s : State,
    (∀ r b, s.lm.run = some r → (s.fld F.LM_STATUS_STEP = 8 ∨ s.fld F.LM_STATUS_STEP = 9) → Sys2Proof.Machine.exec (.lmuOutput b) s = .next (s.lmOutput r b))
    ∧ (∀ r b, s.lm.run = some r → s.fld F.LM_STATUS_STEP ≠ 8 → s.fld F.LM_STATUS_STEP ≠ 9 → Sys2Proof.Machine.exec (.lmuOutput b) s = .next s)
    ∧ (∀ level, ∃ t, Sys2Proof.Machine.exec (.blankPinEdge level) s = .next t ∧ t.lm.blankPin = level
        ∧ t.flag F.LM_STATUS_BLANKING = (s.flag F.MG_STATUS_BLANKING || (s.flag F.LM_CFG_BLANK_PIN_EN && level != s.flag F.LM_CFG_BLANK_POL))
        ∧ FldsBut [F.LM_STATUS_BLANKING] s t)
    ∧ (∀ r, s.lm.run = some r → r.telem = false → lmWmode (s.lmCfg r) = true →
        lmExtMs r.e * 32000000 < r.discarded * lmStep32 (lmChain (bits (s.lmCfg r) 0 2)) → ∃ t, Sys2Proof.Machine.exec .blankTimeout s = .next t
          ∧ t.fld F.LM_EVENT_BLANK_TIMEOUT = 1 ∧ t.fld F.LM_CNT_BLANK_TIMEOUTS = satAdd F.LM_CNT_BLANK_TIMEOUTS.w (s.fld F.LM_CNT_BLANK_TIMEOUTS) 1)
    ∧ (∀ w a, s.lm.sweep = some w → w.gapUntil = some a → w.suspended = false → a ≤ s.nowNs → s.lm.refWait = false →
        (s.lm.run = none → ∃ t, Sys2Proof.Machine.exec .passGapEnd s = .next t ∧ t.fld F.LM_STATUS_STATE = 3 ∧ t.fld F.LM_STATUS_STEP = 1
          ∧ t.lm.sweep = some { w with waiting := false, gapUntil := none } ∧ ∃ r, t.lm.run = some r ∧ r.telem = false ∧ r.index = w.entry ∧ r.e = w.list.getD w.entry [])
        ∧ (s.lm.run.isSome = true → ∃ t, Sys2Proof.Machine.exec .passGapEnd s = .next t ∧ t.lm.sweep = some { w with waiting := true, gapUntil := none }
          ∧ t.lm.run = s.lm.run ∧ FldsBut [] s t))
    ∧ (s.flag F.LM_CTRL_EN = true → s.flag F.LM_CTRL_TELEM_EN = true → s.sweepIdle = true → s.lm.run = none → s.fld F.LM_STATUS_STATE ≠ 5 → s.lm.refWait = false →
        s.mode ≠ 0 → s.mode ≠ 9 → ∃ t r, Sys2Proof.Machine.exec .telemetryStart s = .next t ∧ t.fld F.LM_STATUS_STATE = 2 ∧ t.fld F.LM_STATUS_STEP = 1
          ∧ t.lm.run = some r ∧ r.telem = true ∧ lmInput r.e = 32 ∧ t.lm.telemLeft = [33, 34, 35, 36, 37, 38, 39] ∧ t.lm.sweep = s.lm.sweep)
    ∧ (s.flag F.CP_STATUS_REF_LOST = false → ∃ t, Sys2Proof.Machine.exec .refLost s = .next t ∧ t.fld F.CP_STATUS_REF_LOST = 1 ∧ t.fld F.CP_STATUS_TIME_VALID = 0
        ∧ t.fld F.ST_STATUS_REF_LOST = 1 ∧ t.fld F.ST_EVENT_REF_LOST = 1 ∧ t.lm.refWait = true ∧ t.lm.closed = none ∧ t.lm.dsch = false
        ∧ t.fld F.LM_STATUS_INPUT = 63 ∧ t.fld F.LM_STATUS_STEP = 0 ∧ (s.lm.run.isSome = true → t.fld F.LM_EVENT_NO_CLOCK = 1)
        ∧ (s.flag F.ST_CTRL_EN = true → s.flag F.ST_STATUS_AVS_FAULT = false → s.fld F.ST_VSET_CMD_MV < 800 → 800 ≤ s.fld F.ST_VLIMIT_VMAX_MV →
            s.fld F.ST_VLIMIT_VMIN_MV ≤ 800 → t.fld F.ST_VSET_CMD_MV = 800))
    ∧ (s.flag F.CP_STATUS_REF_LOST = true → Sys2Proof.Machine.exec .refLost s = .next s ∧ ∃ t, Sys2Proof.Machine.exec .refReturn s = .next t
        ∧ t.fld F.CP_STATUS_REF_LOST = 0 ∧ t.lm.refWait = false ∧ t.st.refBack = true ∧ t.st.refWindows = 0)

/-- R242-R244, R252-R254, R261: a frame reaches the steps of reception only at an enabled port in service; one in
error that is not delivered leaves channels and host memory as they were; a PAUSE holds every priority. The head of
the highest priority that is not paused starts, once its SENT note has gone where it needs one; an aged item is
discarded; a frame that ends has left the wire with its FCS, an aborted one with another. -/
def Obligations.PortFrames : Prop :=
  ∀ (s : State) (p : Fin 4),
    (∀ l pcs overflow tagOk,
        (s.flag (F.EP_CTRL_EN p) = false ∨ (s.port p).resetting = true ∨ s.mode = 0 ∨ s.mode = 9 →
          Sys2Proof.Machine.exec (.frameReceived p l pcs overflow tagOk) s = .next s)
        ∧ (s.flag (F.EP_CTRL_EN p) = true → (s.port p).resetting = false → s.mode ≠ 0 → s.mode ≠ 9 →
            ∃ t, Sys2Proof.Machine.exec (.frameReceived p l pcs overflow tagOk) s = .next t ∧ t = s.receive p l pcs overflow tagOk
            ∧ (overflow = true ∨ (l.length < 64 ∨ s.fld (F.EP_RX_CFG_MAX_FRAME p) < l.length ∨ pcs = true
                  ∨ leNat (l.drop (l.length - 4)) ≠ (crc32 0xEDB88320 (l.take (l.length - 4))).toNat) ∧ s.flag (F.EP_RX_CFG_DELIVER_BAD p) = false →
                t.chans = s.chans ∧ t.out = s.out ∧ t.ep = s.ep)
            ∧ (overflow = false → 64 ≤ l.length → l.length ≤ s.fld (F.EP_RX_CFG_MAX_FRAME p) → pcs = false →
                leNat (l.drop (l.length - 4)) = (crc32 0xEDB88320 (l.take (l.length - 4))).toNat → get16 l 12 = 0x8808 → get16 l 14 = 0x0001 →
                s.flag (F.EP_PAUSE_CFG_PAUSE_EN p) = true → s.flag (F.EP_STATUS_PAUSE_IGNORED p) = false → get16 l 16 ≠ 0 →
                ∀ i, i < 8 → (mfind (t.port p).pauseEnd i).isSome = true)))
    ∧ (s.mayTransmit p = false ∨ (s.port p).cur.isSome = true ∨ s.nextPri p = none → Sys2Proof.Machine.exec (.frameTransmitStart p) s = .next s)
    ∧ (∀ i f r, s.mayTransmit p = true → (s.port p).cur = none → s.nextPri p = some i → s.txQueue p i = f :: r → s.aged p f = false →
        (s.gl.egressOff = false ∨ f.fenceAnswer = true) → (s.evacStopped = false ∨ f.kind = 2) →
        (s.needsNote f = true → f.note = 0 → ∃ t, Sys2Proof.Machine.exec (.frameTransmitStart p) s = .next t ∧ (t.port p).cur = none
            ∧ t.tw.notes = s.tw.notes ++ [(f.flow / 2, get16 f.payload 2)] ∧ t.txQueue p i = { f with note := s.tw.noteNext + 1 } :: r)
        ∧ (s.needsNote f = true → f.note ≠ 0 → s.tw.noteSent < f.note → Sys2Proof.Machine.exec (.frameTransmitStart p) s = .next s)
        ∧ (s.needsNote f = false ∨ f.note ≠ 0 ∧ f.note ≤ s.tw.noteSent → Sys2Proof.Machine.exec (.frameTransmitStart p) s = .next ((s.setTxQueue p i r).startFrame p f))
        ∧ (f.kind = 1 → s.needsNote f = false → ∃ t o, Sys2Proof.Machine.exec (.frameTransmitStart p) s = .next t ∧ (t.port p).cur = some o ∧ o.f = f
            ∧ o.bytes = padFrame f.payload ∧ t.txQueue p i = r))
    ∧ (∀ (i : Fin 8) f r, s.txQueue p i = f :: r → s.aged p f = true → ∃ t, Sys2Proof.Machine.exec (.txAgeDiscard p i) s = .next t
        ∧ t.txQueue p i = r ∧ t = (s.setTxQueue p i r).txDone p f 11 false 0 none)
    ∧ (∀ (i : Fin 8) f r, s.txQueue p i = f :: r → s.aged p f = false → Sys2Proof.Machine.exec (.txAgeDiscard p i) s = .next s)
    ∧ ∀ o aborted, (s.port p).cur = some o → ∃ t, Sys2Proof.Machine.exec (.frameTransmitEnd p aborted) s = .next t ∧ (t.port p).cur = none
        ∧ (o.f.fab = none → .frame p (o.bytes ++ leBytes 4 (if aborted then 2 ^ 32 - 1 - (crc32 0xEDB88320 o.bytes).toNat else (crc32 0xEDB88320 o.bytes).toNat)) (!aborted) ∈ t.out)
        ∧ (∀ h b, o.f.fab = some (h, b) → .fabric p o.f.link h b ∈ t.out)

/-- R235-R237, R261, R262, R267, R268: a link comes up at the speed and with the FEC of its mode or of its
negotiation, and goes down with its queued frames discarded; negotiation resolves an ability or fails and is tried
again; a hold ends by its time or by the watchdog, after which pauses are ignored for a while; a port in reset is down
until its reset ends. -/
def Obligations.PortLinks : Prop :=
  ∀ (s : State) (p : Fin 4),
    (let m := s.fld (F.EP_PHY_CFG_MODE p)
     let r := s.fld (F.EP_AN_STAT_RESOLVED p)
     s.flag (F.EP_STATUS_LINK p) = false → m ≠ 0 → (s.port p).resetting = false → (usesAn m = true → s.flag (F.EP_STATUS_AN_DONE p) = true) →
        ∃ t, Sys2Proof.Machine.exec (.linkUp p) s = .next t ∧ t.fld (F.EP_STATUS_LINK p) = 1 ∧ t.fld (F.EP_PCS_STAT_BLOCK_LOCK p) = 1 ∧ t.fld (F.EP_EVENT_LINK_UP p) = 1
          ∧ (t.port p).downAt = none ∧ t.fld (F.EP_STATUS_SPEED p) = (if m = 3 ∨ m = 5 ∨ (usesAn m = true ∧ r ≠ 5) then 1 else 0)
          ∧ t.fld (F.EP_STATUS_FEC_ACT p) = (if m = 3 then 2 else if m = 5 ∨ m = 6 then s.fld (F.EP_PHY_CFG_FEC p)
              else resolveFec r (s.fld (F.EP_AN_ADV_FEC p)) (s.fld (F.EP_AN_STAT_LP_FEC p))) % 2 ^ (F.EP_STATUS_FEC_ACT p).w)
    ∧ (s.flag (F.EP_STATUS_LINK p) = true → ∃ t, Sys2Proof.Machine.exec (.linkDown p) s = .next t ∧ t.fld (F.EP_STATUS_LINK p) = 0 ∧ t.fld (F.EP_STATUS_AN_DONE p) = 0
        ∧ t.fld (F.EP_EVENT_LINK_DOWN p) = 1 ∧ t.fld (F.EP_PCS_STAT_LINK_DOWNS p) = satAdd (F.EP_PCS_STAT_LINK_DOWNS p).w (s.fld (F.EP_PCS_STAT_LINK_DOWNS p)) 1
        ∧ (t.port p).cur = none ∧ (t.port p).downAt = some s.elapsed ∧ ∀ i, i < 8 → t.txQueue p i = [])
    ∧ (s.flag (F.EP_STATUS_LINK p) = false → Sys2Proof.Machine.exec (.linkDown p) s = .next s)
    ∧ (∀ (abil : BitVec 5) (fec : BitVec 4), usesAn (s.fld (F.EP_PHY_CFG_MODE p)) = true → s.flag (F.EP_STATUS_AN_DONE p) = false → (s.port p).resetting = false →
        let r := resolveAbility (advertised (s.fld (F.EP_PHY_CFG_MODE p)) (s.fld (F.EP_AN_ADV_ABIL p)) &&& abil.toNat)
        ∃ t, Sys2Proof.Machine.exec (.anComplete p abil fec) s = .next t ∧ t.fld (F.EP_AN_STAT_RESOLVED p) = r ∧ t.fld (F.EP_AN_STAT_LP_ABIL p) = abil.toNat
          ∧ t.fld (F.EP_AN_STAT_LP_FEC p) = fec.toNat
          ∧ (r ≠ 0 → t.fld (F.EP_STATUS_AN_DONE p) = 1 ∧ (t.port p).anRetry = none)
          ∧ (r = 0 → t.fld (F.EP_EVENT_AN_FAIL p) = 1 ∧ (t.port p).anRetry = some (s.elapsed + 1000000000)
              ∧ t.fld (F.EP_AN_STAT_AN_FAILS p) = satAdd (F.EP_AN_STAT_AN_FAILS p).w (s.fld (F.EP_AN_STAT_AN_FAILS p)) 1))
    ∧ (∀ a, (s.port p).anRetry = some a → a ≤ s.elapsed → ∃ t, Sys2Proof.Machine.exec (.anRetry p) s = .next t ∧ (t.port p).anRetry = none
        ∧ t.fld (F.EP_STATUS_AN_DONE p) = 0 ∧ t.fld (F.EP_AN_STAT_RESOLVED p) = 0 ∧ FldsBut [F.EP_STATUS_AN_DONE p, F.EP_AN_STAT_RESOLVED p] s t)
    ∧ (∀ (i : Fin 8) a, mfind (s.port p).pauseEnd i = some a → a ≤ s.elapsed → ∃ t, Sys2Proof.Machine.exec (.pauseTimeExpiry p i) s = .next t
        ∧ mfind (t.port p).pauseEnd i = none ∧ mfind (t.port p).heldFrom i = none ∧ FldsBut [F.EP_PFC_STAT_HELD_MS p i, F.EP_STATUS_PAUSED p] s t
        ∧ ∀ k, k ≠ i.val → mfind (t.port p).pauseEnd k = mfind (s.port p).pauseEnd k)
    ∧ (∀ (i : Fin 8) a, mfind (s.port p).heldFrom i = some a → a + s.fld (F.EP_PAUSE_CFG_WD_MS p) * 1000000 < s.elapsed → ∃ t, Sys2Proof.Machine.exec (.pauseBreak p i) s = .next t
        ∧ (∀ k, k < 8 → mfind (t.port p).pauseEnd k = none) ∧ t.fld (F.EP_STATUS_PAUSE_IGNORED p) = 1 ∧ t.fld (F.EP_EVENT_PAUSE_BREAK p) = 1
        ∧ (t.port p).ignoreUntil = some (s.elapsed + s.fld (F.EP_PAUSE_CFG_HOLDOFF_MS p) * 1000000))
    ∧ (∀ a, (s.port p).ignoreUntil = some a → a ≤ s.elapsed → ∃ t, Sys2Proof.Machine.exec (.holdoffEnd p) s = .next t ∧ (t.port p).ignoreUntil = none
        ∧ t.fld (F.EP_STATUS_PAUSE_IGNORED p) = 0 ∧ FldsBut [F.EP_STATUS_PAUSE_IGNORED p] s t)
    ∧ ((s.port p).resetting = true → ∃ t, Sys2Proof.Machine.exec (.portResetEnd p) s = .next t ∧ (t.port p).resetting = false ∧ (t.port p).resetBy = none
        ∧ t = (s.setPort p { s.port p with resetting := false, resetBy := none }).completeOpt (s.port p).resetBy 0 0 [])
    ∧ (∃ t, Sys2Proof.Machine.exec (.epPortResetWrite p) s = .next t ∧ (t.port p).resetting = true ∧ (t.port p).resetBy = none ∧ (t.port p).cur = none
        ∧ t.fld (F.EP_STATUS_LINK p) = 0 ∧ t.fld (F.EP_STATUS_AN_DONE p) = 0 ∧ (∀ i, t.txQueue p i = []) ∧ ∀ i, i < 8 → t.fld (F.EP_CNT_COUNT p i) = 0)
    ∧ (usesAn (s.fld (F.EP_PHY_CFG_MODE p)) = true → ∃ t, Sys2Proof.Machine.exec (.anRestart p) s = .next t ∧ t.flag (F.EP_STATUS_LINK p) = false
        ∧ t.fld (F.EP_STATUS_AN_DONE p) = 0 ∧ t.fld (F.EP_AN_STAT_RESOLVED p) = 0)
    ∧ (usesAn (s.fld (F.EP_PHY_CFG_MODE p)) = false → Sys2Proof.Machine.exec (.anRestart p) s = .next s)
    ∧ ∃ t, Sys2Proof.Machine.exec (.tsHwmRestart p) s = .next t ∧ t.fld (F.EP_TS_STAT_HWM p) = s.tsUsed p % 2 ^ (F.EP_TS_STAT_HWM p).w ∧ FldsBut [F.EP_TS_STAT_HWM p] s t

/-- R375-R384, R402, R404, R405, R461, R463: a poll that is due takes the new TAIL of a running command ring, or halts
a ring whose TAIL is impossible, and sets the time of the next poll; one that fails is recorded and slows polling
down. A write of HI_NUDGE makes a poll due. A disabled ring is enabled with its counts at 0; a write of EN = 0 stops
one or lets it drain, and the drained ring is disabled. A message that waited for its moderation time is sent;
unmasking a vector sends its held message. The oldest record for the event or the error-log ring is written to it. A
reset of the interface disables every ring. A bad access is reported, the trained link is shown, and the jobs'
high-water mark restarts. -/
def Obligations.HostRingResults : Prop :=
  ∀ s : State,
    (∀ tails rx fetch (r : Fin 64), s.hi.nextPoll ≤ s.elapsed → s.mode ≠ 0 → s.mode ≠ 9 → s.ringState r = 1 → s.ringKind r = 0 →
        let v := (tails.getD r.val 0).toNat
        ∃ t, Sys2Proof.Machine.exec (.doorbellPoll tails rx 0 fetch) s = .next t ∧ t.hi.slowUntilRead = false
          ∧ t.hi.nextPoll = s.elapsed + (if t.flag F.HI_STATUS_FAST then s.fld F.HI_POLL_FAST_US else s.fld F.HI_POLL_SLOW_US) * 1000
          ∧ ((v + 2 ^ 32 - (s.ring r).head) % 2 ^ 32 ≤ s.ringSize r → (v + 2 ^ 32 - (s.ring r).tail) % 2 ^ 32 ≤ s.ringSize r →
              (s.ring r).tail < 2 ^ 32 → t.ring r = { s.ring r with tail := v } ∧ t.ringState r = 1)
          ∧ (s.ringSize r < (v + 2 ^ 32 - (s.ring r).head) % 2 ^ 32 → t.ring r = s.ring r ∧ t.ringState r = 3 ∧ t.fld (F.HI_RSTAT_ERR r) = 1))
    ∧ (∀ tails rx (k : Fin 5) fetch, s.hi.nextPoll ≤ s.elapsed → s.mode ≠ 0 → s.mode ≠ 9 → k ≠ 0 →
        ∃ t, Sys2Proof.Machine.exec (.doorbellPoll tails rx k fetch) s = .next t ∧ t.hi.slowUntilRead = true ∧ t.hi.ring = s.hi.ring
          ∧ t.fld F.HI_PCIE_ERR_KIND = k.val ∧ t.fld F.HI_EVENT_PCIE_ERR = 1 ∧ t.fld F.HI_STATUS_FAST = 0
          ∧ t.hi.nextPoll = s.elapsed + s.fld F.HI_POLL_SLOW_US * 1000)
    ∧ (∃ t, Sys2Proof.Machine.exec .hiNudge s = .next t ∧ t.hi.nextPoll = s.elapsed ∧ t.hi.lastNudge = some s.elapsed
        ∧ t.flag F.HI_STATUS_FAST = !s.hi.slowUntilRead ∧ FldsBut [F.HI_STATUS_FAST] s t)
    ∧ (s.flag F.HI_STATUS_FAST = true → s.hiActive = false → ∃ t, Sys2Proof.Machine.exec .interfaceIdle s = .next t ∧ t.fld F.HI_STATUS_FAST = 0
        ∧ t.hi.nextPoll = s.elapsed + s.fld F.HI_POLL_SLOW_US * 1000 ∧ FldsBut [F.HI_STATUS_FAST] s t)
    ∧ (∀ (r : Fin 64) (v : BitVec 32), ringSizeOk (bits v.toNat 1 2) (bits v.toNat 3 5) = true → s.ringState r = 0 → bit v.toNat 0 = true →
        (bits v.toNat 1 2 = 0 ∨ ∀ q, q < 64 → q ≠ r.val → s.ringState q ≠ 0 → s.ringKind q ≠ bits v.toNat 1 2) →
        ∃ t, Sys2Proof.Machine.exec (.hiRcfgWrite r v) s = .next t ∧ t.ringState r = 1 ∧ t.fld (F.HI_RSTAT_ERR r) = 0
          ∧ t.ring r = { RingSt.init with gen := (s.ring r).gen + 1 } ∧ t.out = .head r 0 :: s.out ∧ t.ringKind r = bits v.toNat 1 2
          ∧ t.fld (F.HI_RCFG_SIZE_LOG2 r) = bits v.toNat 3 5 ∧ t.fld (F.HI_RCFG_EN r) = 1 ∧ ∀ q, q ≠ r.val → t.ring q = s.ring q)
    ∧ (∀ (r : Fin 64) (v : BitVec 32), s.ringState r = 1 → bit v.toNat 0 = false → bits v.toNat 1 2 = s.ringKind r → bits v.toNat 3 5 = s.fld (F.HI_RCFG_SIZE_LOG2 r) →
        ringSizeOk (bits v.toNat 1 2) (bits v.toNat 3 5) = true →
        ∃ t, Sys2Proof.Machine.exec (.hiRcfgWrite r v) s = .next t ∧ t.fld (F.HI_RCFG_EN r) = 0 ∧ t.hi.ring = s.hi.ring
          ∧ t.ringState r = if s.ringKind r = 0 ∧ s.ringBusy r = true then 2 else 0)
    ∧ (∀ r : Fin 64, s.ringState r = 2 → s.ringBusy r = false → Sys2Proof.Machine.exec (.ringDrained r) s = .next (s.setFld (F.HI_RSTAT_STATE r) 0))
    ∧ (∀ r : Fin 64, s.flag (F.HI_RCFG_IRQ_EN r) = true → 0 < (s.ring r).since →
        (s.ring r).firstAt + s.fld (F.HI_MOD_US (s.fld (F.HI_RCFG_MOD r))) * 1000 ≤ s.elapsed →
        ∃ t, Sys2Proof.Machine.exec (.interruptModerationTimer r) s = .next t ∧ t.ring r = { s.ring r with since := 0 } ∧ t.regs = s.regs
          ∧ (s.vecMasked (s.fld (F.HI_RCFG_VEC r)) = false → t.out = .msix (s.fld (F.HI_RCFG_VEC r)) :: s.out)
          ∧ (s.vecMasked (s.fld (F.HI_RCFG_VEC r)) = true → t.out = s.out ∧ s.fld (F.HI_RCFG_VEC r) ∈ t.hi.msixPend))
    ∧ (∀ v : Fin 64, ∃ t, Sys2Proof.Machine.exec (.msixUnmask v) s = .next t ∧ t.vecMasked v = false ∧ v.val ∉ t.hi.msixPend
        ∧ t.out = if v.val ∈ s.hi.msixPend then .msix v :: s.out else s.out)
    ∧ (∀ (err : Bool) (r : Nat) (e : Report), s.runningRing (if err then 3 else 2) = some r → s.rl.fifo.find? (fun e => e.cls.toErrorLog = err) = some e →
        s.ringRoom r = true → ∃ t m l, Sys2Proof.Machine.exec (.reportRecordWrite err) s = .next t ∧ t.rl.fifo = s.rl.fifo.erase e ++ l
          ∧ t.out = m ++ .head r (((s.ring r).head + 1) % 2 ^ 32)
              :: .entry r (s.ring r).head (setBits (nth e.words 0) 31 1 (b2n (decide ((s.ring r).head / s.ringSize r % 2 = 0))) :: e.words.drop 1) :: s.out
          ∧ (t.ring r).head = ((s.ring r).head + 1) % 2 ^ 32)
    ∧ (∀ (i : Instr) (k : Nat), ((∃ cause : Fin 7, i = .hostReset cause ∧ k = cause.val) ∨ i = .ringsReset ∧ k = 4) → ∃ t, Sys2Proof.Machine.exec i s = .next t
        ∧ (∀ r, r < 64 → t.ringState r = 0 ∧ t.fld (F.HI_RCFG_EN r) = 0) ∧ t.hi.bufs = [] ∧ t.hi.jobs = s.hi.jobs ∧ t.fld F.HI_EVENT_HOST_RESET = 1
        ∧ t.fld F.HI_PCIE_STAT_HOST_RESETS = (s.fld F.HI_PCIE_STAT_HOST_RESETS + 1) % 2 ^ 8
        ∧ (1 ≤ k ∧ k ≤ 3 → t.fld F.HI_PCIE_STAT_LINK_UP = 0) ∧ (k = 0 ∨ 4 ≤ k → t.fld F.HI_PCIE_STAT_LINK_UP = s.fld F.HI_PCIE_STAT_LINK_UP))
    ∧ (∀ bar ofs en w, ∃ t, Sys2Proof.Machine.exec (.badAccess bar ofs en w) s = .next t ∧ FldsButRl [] s t ∧ t.lastRead = (if w then s.lastRead else 0)
        ∧ t = (if w then s else { s with lastRead := 0 }).raise .warn 0x02 0 0x00F3 ofs.toNat (2 * bar.val) en.toNat)
    ∧ (∀ (v : Fin 4) (w : Fin 3), ∃ t, Sys2Proof.Machine.exec (.pcieLinkUp v w) s = .next t ∧ t.fld F.HI_PCIE_STAT_LINK_UP = 1
        ∧ t.fld F.HI_PCIE_STAT_SPEED = v.val + 1 ∧ t.fld F.HI_PCIE_STAT_WIDTH = 2 ^ w.val
        ∧ FldsBut [F.HI_PCIE_STAT_LINK_UP, F.HI_PCIE_STAT_SPEED, F.HI_PCIE_STAT_WIDTH] s t)
    ∧ Sys2Proof.Machine.exec .jobsHwmRestart s = .next (s.setFld F.HI_JOBS_HWM s.hi.jobs.length)

/-- R385-R388, R405: a NOP command completes. Its completion, as that of every command, counts in HI_CMD, and an
opcode that is reserved, a set bit that must be zero or a HANDLE of a command that is no job command makes it
BAD_DESCRIPTOR, which is counted too. While the command is not the next of its ring, or a fence holds it, nothing
happens. -/
def Obligations.CommandChecks : Prop :=
  ∀ (s : State) (c : HCmd) (op : BitVec 8),
    (s.mayStart c = false → Sys2Proof.Machine.exec (.nopCommand c op) s = .next s)
    ∧ (Plain s c → op = 1 → argMask c [] = true →
        Sys2Proof.Machine.exec (.nopCommand c op) s = .next ((s.start c).complete (s.originOf c 1) 0 0 []))
    ∧ (s.mayStart c = true → (reservedOp op.toNat = true ∨ op = 1 ∧ (argMask c [] = false ∨ bits c.hi.toNat 2 6 ≠ 0 ∨ cmdHandle c ≠ 0)) →
        ∃ t, Sys2Proof.Machine.exec (.nopCommand c op) s = .next t ∧ t = (s.start c).complete (s.originOf c op.toNat) 5 0 []
          ∧ t.fld F.HI_ERR_CNT_BAD_DESC = satAdd F.HI_ERR_CNT_BAD_DESC.w (s.fld F.HI_ERR_CNT_BAD_DESC) 1)

/-- R232, R325, R389-R396: what each command of a ring does past its checks, when its ring runs, its words keep their
masks and the device's mode allows it: DEVICE_INFO answers with the device's words; ADMISSION sets the admission's
basis; CSM_LOAD writes the CSM or the CPS of the clusters it names; DEC_SYNC requests a synchronising reset; MSG_SEND
and PKT_SEND hand a message or a frame to its port; COEF_WRITE writes a bank, BANK_SWAP asks for a swap; FT_INSERT and
FT_DELETE change the flow table; TPL_WRITE, SRTP_WRITE and SRTP_READ act on templates and SRTP contexts, of which a
key reads as zero; PORT_RESET resets a port; HOST_COPY and PAGE_MOVE start a copy and a move. -/
def Obligations.HostCommandResults : Prop :=
  ∀ (s : State) (c : HCmd), Plain s c →
    let u := s.start c
    let b := bufBytes c
    (argMask c [] = true → Sys2Proof.Machine.exec (.deviceInfo c) s
        = .next (u.complete (s.originOf c 0x03) 0 0 [s.fld F.TW_ID_DEV_ID + s.mode * 2 ^ 16, (u.romRead 0 0).toNat, u.budget, u.committed, s.chans.length]))
    ∧ (argMask c [0xFF01, 0xFFFF] = true → 125 ≤ arg c 1 → ∃ t, Sys2Proof.Machine.exec (.admission c) s = .next t
        ∧ t.st.measured = bit (arg c 0) 0 ∧ t.st.margin = bits (arg c 0) 8 8 ∧ t.st.hold = arg c 1 ∧ t.chans = s.chans)
    ∧ (bufMask c [0x1FFFF, 0xFFFFFFFF] = true → bufLen c % 4 = 0 → 0 < bufLen c → arg c 0 % 65536 < 2 ^ s.clusters → bit (arg c 0) 16 = true →
        (∀ k, k < s.clusters → s.sharedFrom k ≤ arg c 1) → arg c 1 + bufLen c / 4 ≤ 1048576 →
        ∃ t, Sys2Proof.Machine.exec (.csmLoad c) s = .next t
          ∧ (∀ k, k < s.clusters → arg c 0 % 65536 = 0 ∨ bit (arg c 0 % 65536) k = true → ∀ i, i < bufLen c / 4 →
              csmGet t.mem.csm k (arg c 1 + i) = BitVec.ofNat 32 (nth (leWords b) i))
          ∧ (∀ k w, w < csmWords → (w < arg c 1 ∨ arg c 1 + bufLen c / 4 ≤ w ∨ ¬(arg c 0 % 65536 = 0 ∨ bit (arg c 0 % 65536) k = true)) →
              csmGet t.mem.csm k w = csmGet s.mem.csm k w) ∧ t.mem.cps = s.mem.cps)
    ∧ (bufMask c [0x1FFFF, 0xFFFFFFFF] = true → bufLen c % 4 = 0 → 0 < bufLen c → arg c 0 % 65536 < 2 ^ s.clusters → bit (arg c 0) 16 = false →
        arg c 1 + bufLen c / 4 ≤ 262144 → s.mode = 1 → s.fuse.secure = false →
        ∃ t, Sys2Proof.Machine.exec (.csmLoad c) s = .next t ∧ t.mem.csm = s.mem.csm
          ∧ ∀ k, k < s.clusters → arg c 0 % 65536 = 0 ∨ bit (arg c 0 % 65536) k = true → ∀ i, i < bufLen c / 4 →
              t.cps k (arg c 1 + i) = BitVec.ofNat 32 (nth (leWords b) i))
    ∧ (argMask c [] = true → ∃ t, Sys2Proof.Machine.exec (.decSync c) s = .next t ∧ t.bs.sync = s.bs.sync ++ [(s.nowNs, 3)])
    ∧ (argMask c [0x1FF, 0x3FFF, 0xFFFFFFFF, 0xFFFFFFFF, 0xFFFFFFFF] = true → arg c 0 % 256 ∈ [1, 2, 3, 5] → Sys2Proof.Machine.exec (.msgSend c) s
        = .next (u.mgMessage (arg c 0 % 256) (arg c 1) (bit (arg c 0) 8) (arg c 2 + 2 ^ 32 * arg c 3) (arg c 4) (some (s.originOf c 0x21))))
    ∧ (bufMask c [0x1F] = true → bufLen c = 256 → s.bankBusy (arg c 0 % 16) (bit (arg c 0) 4) = false →
        ∃ t, Sys2Proof.Machine.exec (.coefWrite c) s = .next t ∧ (∀ i, i < 64 →
              mget 0 t.bs.coef (128 * (arg c 0 % 16) + 64 * b2n (bit (arg c 0) 4) + i) = nth (leWords b) i % 2 ^ 24)
          ∧ ∀ k, (∀ i, i < 64 → k ≠ 128 * (arg c 0 % 16) + 64 * b2n (bit (arg c 0) 4) + i) → mget 0 t.bs.coef k = mget 0 s.bs.coef k)
    ∧ (argMask c [0x1F] = true → Sys2Proof.Machine.exec (.bankSwap c) s
        = .next (u.swapRequest (arg c 0 % 16) (bit (arg c 0) 4) (some (s.originOf c 0x23))))
    ∧ (bufMask c [0xF7] = true → 14 ≤ bufLen c → arg c 0 % 8 = 4 → Sys2Proof.Machine.exec (.pktSend c) s = .next (u.mgSend b false (some (s.originOf c 0x30))))
    ∧ (bufMask c [0xF7] = true → 14 ≤ bufLen c → arg c 0 % 8 < 4 → s.mode ≠ 10 → s.gl.egressOff = false → Sys2Proof.Machine.exec (.pktSend c) s
        = .next (u.sendHostFrame (arg c 0 % 8) (bits (arg c 0) 4 3) (bit (arg c 0) 7) b (s.originOf c 0x30)))
    ∧ (let w := (List.range 12).map (arg c)
       argMask c (List.replicate 12 0xFFFFFFFF) = true → flowOk w true = true → (u.physPage (u.ftBase / pageBytes)).isSome = true →
        (s.mode = 7 → 2 ≤ bits (nth w 10) 13 3 ∨ 240 ≤ nth w 10 % 8192) → (u.ftInsert w).2.1 = 0 → Sys2Proof.Machine.exec (.ftInsert c) s
          = .next (((u.ftInsert w).1.mirrorFlow true w).complete (s.originOf c 0x31) 0 0 [(u.ftInsert w).2.2]))
    ∧ (let w := (List.range 10).map (arg c)
       argMask c (List.replicate 10 0xFFFFFFFF) = true → flowOk w false = true → (u.physPage (u.ftBase / pageBytes)).isSome = true →
        ∀ p, u.ftFind (ftKey w) (ftVlan w) = some p → Sys2Proof.Machine.exec (.ftDelete c) s
          = .next (((u.ftDelete w).1.mirrorFlow false (u.ftWords p.1 p.2)).complete (s.originOf c 0x32) 0 0 []))
    ∧ (bufMask c [0xF, 0x3FFF] = true → bufLen c = 128 → (s.mode = 7 → 240 ≤ arg c 1 / 2) → templateOk (leWords b) = true →
        (∀ p, p < 4 → bit (arg c 0) p = true → ∀ g ∈ s.tablePages p, (s.physPage g).isSome = true) → Sys2Proof.Machine.exec (.tplWrite c) s
          = .next ((((List.range 4).filter fun p => bit (arg c 0) p).foldl (fun s p => s.writeTemplate p (arg c 1) (leWords b)) u).complete (s.originOf c 0x33) 0 0 []))
    ∧ (bufMask c [0x3FFF] = true → bufLen c = 128 → srtpOk (leWords b) = true → ∃ t, Sys2Proof.Machine.exec (.srtpWrite c) s = .next t
        ∧ t = ((u.setSrtp (arg c 0) (srtpWritten (s.srtpCtx (arg c 0)) (leWords b))).mirror (.srtp (arg c 0) (srtpWritten (s.srtpCtx (arg c 0)) (leWords b)))).complete
            (s.originOf c 0x34) 0 0 [])
    ∧ (bufMask c [0x3FFF] = true → bufLen c = 128 → Sys2Proof.Machine.exec (.srtpRead c) s
        = .next ((u.emit (.host (bufAddr c) (wordsLe ((s.srtpCtx (arg c 0)).take 8 ++ List.replicate 12 0 ++ (s.srtpCtx (arg c 0)).drop 20)))).complete
            (s.originOf c 0x35) 0 0 []))
    ∧ (argMask c [3] = true → Sys2Proof.Machine.exec (.portReset c) s = .next (u.portReset (arg c 0 % 4) (some (s.originOf c 0x36))))
    ∧ (bufMask c [1, 0xFFFFFFFF, 0x3FF] = true → arg c 1 % 4 = 0 → bufLen c % 4 = 0 → 4 ≤ bufLen c → bufLen c ≤ 16777216 → ∀ errs,
        Sys2Proof.Machine.exec (.hostCopy c errs) s = .next (u.hostCopy (arg c 1 + 2 ^ 32 * arg c 2) (bufLen c) (bufAddr c)
          (if bit (arg c 0) 0 then some b else none) errs (s.originOf c 0x40)))
    ∧ (argMask c [0x1FFF] = true → (u.startMove (arg c 0) false (some (s.originOf c 0x41))).2 = none → Sys2Proof.Machine.exec (.pageMove c) s
        = .next (u.startMove (arg c 0) false (some (s.originOf c 0x41))).1)

/-- R30, R31, R34, R40, R163, R172-R174, R192-R195, R222, R230, R231, R392, R542: what each channel command does past
its checks: an open makes the channel with its home, its context and its charge; a close begins, and once no node of
the channel runs and no item or token of it is on its way the channel is removed with its flows, but not before;
parameters are written; status, context words and parts of the context are read and written; a node instance is
cancelled where it stands; a flow starts anew at a number. -/
def Obligations.ChannelResults : Prop :=
  (∀ (s : State) (n : BitVec 13) (c : Chan), s.chan n.toNat = some c →
    (c.st = .closing → s.closeDone n.toNat c = true → ∃ t, Sys2Proof.Machine.exec (.closeComplete n) s = .next t ∧ t.chan n.toNat = none
      ∧ (∀ m, m ≠ n.toNat → t.chan m = s.chan m) ∧ t.flow (2 * n.toNat) = Flow.init ∧ t.flow (2 * n.toNat + 1) = Flow.init ∧ t.mem = s.mem)
    ∧ (c.st ≠ .closing ∨ s.closeDone n.toNat c = false → Sys2Proof.Machine.exec (.closeComplete n) s = .next s))
  ∧ ∀ (s : State) (c : HCmd), Plain s c →
    let u := s.start c
    let n := arg c 0
    (let r := basicReq (n % 8192) (bits n 16 4) (bit n 24) (bits n 20 2) (bits n 22 2) (arg c 1 % 64) false
     argMask c [0x1FF1FFF, 0x3F] = true → r.chan < s.chanLimit → basicFieldsOk r = true → admitsChannels s.mode = true →
      (s.mode = 7 → 240 ≤ r.chan) → ∀ home ctx, u.openChecks r = .ok (home, ctx) → ∃ t ch, Sys2Proof.Machine.exec (.chOpen c) s = .next t
        ∧ t.chan r.chan = some ch ∧ ch.st = .opened ∧ ch.home = home ∧ ch.ctx = ctx ∧ ch.profile = r.profile ∧ ch.units = r.units ∧ ch.granules = r.granules
        ∧ ch.frames = 0 ∧ ch.nextB = firstBoundary s.nowNs r.frame r.stagger ∧ (∀ m, m ≠ r.chan → t.chan m = s.chan m))
    ∧ (let r := graphReq c
       bufMask c [0x3FF01FFF, 0x3F, 0x7F, 0xFFFFFFFF] = true → bufLen c = 2240 → r.chan < s.chanLimit → r.frame ≤ 2 → r.mirror ≤ 2 → r.stagger < 40 →
        4 ≤ r.granules → r.granules ≤ 64 → (if bit n 29 then bits n 25 4 = 0 else bits n 25 4 < s.clusters) → admitsChannels s.mode = true →
        (s.mode = 7 → 240 ≤ r.chan) → u.graphContentOk r = true → ∀ home ctx, u.openChecks r = .ok (home, ctx) →
        ∃ t ch, Sys2Proof.Machine.exec (.chOpenGraph c) s = .next t ∧ t.chan r.chan = some ch ∧ ch.st = .opened ∧ ch.home = home ∧ ch.ctx = ctx
          ∧ ch.units = arg c 3 ∧ ch.granules = arg c 2 ∧ ch.frames = 0 ∧ (∀ m, m ≠ r.chan → t.chan m = s.chan m))
    ∧ (∀ ch, argMask c [0x1FFF] = true → n < s.chanLimit → (s.mode = 7 → 240 ≤ n) → s.chan n = some ch → ch.st ≠ .closing →
        Sys2Proof.Machine.exec (.chClose c) s = .next ((u.migrationClosed n).beginClose n (some (s.originOf c 0x12))))
    ∧ (∀ ch, let first := arg c 1 % 64
        let count := bits (arg c 1) 8 6
        let old := (List.range 24).map fun i => s.ctxWord ch (40 + i)
        let new := (List.range 24).map fun i => if first ≤ 40 + i ∧ 40 + i < first + count then arg c (2 + 40 + i - first) else nth old i
        argMask c ([0x1FFF, 0x3F3F] ++ List.replicate (min count 11) 0xFFFFFFFF) = true → n < s.chanLimit → 40 ≤ first → 1 ≤ count → count ≤ 11 →
        first + count ≤ 64 → (s.mode = 7 → 240 ≤ n) → s.chan n = some ch → ch.st ≠ .closing → paramOk ch (cmdExpert c) old new = true →
          Sys2Proof.Machine.exec (.chParam c) s = .next ((u.setBytes (ch.ctx + 160) (wordsLe new)).complete (s.originOf c 0x13) 0 0 []))
    ∧ (∀ ch, argMask c [0x1FFF, 0xF] = true → n < s.chanLimit → (s.mode = 7 → 240 ≤ n) → s.chan n = some ch →
        Sys2Proof.Machine.exec (.chStatus c) s = .next (u.complete (s.originOf c 0x14) 0 0 [s.word (ch.ctx + ch.areas.nodes + 128 * arg c 1),
          s.word (ch.ctx + ch.areas.nodes + 128 * arg c 1 + 4), s.ctxWord ch 0, s.ctxWord ch 1]))
    ∧ (∀ ch, bufMask c [0x1FFF, 0xFFFFFFFF] = true → n < s.chanLimit → arg c 1 % 4 = 0 → bufLen c % 4 = 0 → 4 ≤ bufLen c → (s.mode = 7 → 240 ≤ n) →
        s.chan n = some ch → arg c 1 + bufLen c ≤ ch.granules * granuleBytes → s.poisoned (ch.ctx + arg c 1) (bufLen c) = false →
          Sys2Proof.Machine.exec (.ctxRead c []) s
            = .next ((u.emit (.host (bufAddr c) (s.bytesAt (ch.ctx + arg c 1) (bufLen c)))).complete (s.originOf c 0x15) 0 0 []))
    ∧ (∀ ch, bufMask c [0x1FFF, 0xFFFFFFFF] = true → n < s.chanLimit → arg c 1 % 4 = 0 → 160 ≤ arg c 1 → bufLen c % 4 = 0 → 4 ≤ bufLen c →
        (s.mode = 7 → 240 ≤ n) → s.chan n = some ch → ch.st ≠ .closing → arg c 1 + bufLen c ≤ ch.granules * granuleBytes →
          ∃ t, Sys2Proof.Machine.exec (.ctxWrite c) s = .next t ∧ t.mem = s.mem
            ∧ (s.hp.moves = [] → (∀ p q x, s.physPage p = some x → s.physPage q = some x → p = q) →
                (∀ i, i < bufLen c → (s.phys (ch.ctx + arg c 1 + i)).isSome = true) →
                ∀ x, t.byte x = if ch.ctx + arg c 1 ≤ x ∧ x < ch.ctx + arg c 1 + bufLen c then (bufBytes c).getD (x - (ch.ctx + arg c 1)) 0 else s.byte x))
    ∧ (∀ ch, argMask c [0x1FFF, 0x3FFF000F] = true → n < s.chanLimit → (s.mode = 7 → 240 ≤ n) → s.chan n = some ch → ch.st ≠ .closing →
        Sys2Proof.Machine.exec (.nodeCancel c) s = .next (u.nodeCancel (s.originOf c 0x17) n ch (arg c 1 % 16) (bits (arg c 1) 16 14)))
    ∧ (∀ ch, argMask c [0x3FFF, 0xFFFF] = true → n / 2 < s.chanLimit → (s.mode = 7 → 240 ≤ n / 2) → s.chan (n / 2) = some ch → ch.st ≠ .closing →
        ∃ t, Sys2Proof.Machine.exec (.flowResync c) s = .next t ∧ t.flow n = ⟨arg c 1, [], false, s.elapsed⟩ ∧ ∀ f, f ≠ n → t.flow f = s.flow f)

/-- R394, R397, R448, R454, R455, R457: past its checks FW_JOB posts its entry to the cluster that it names, or that
has the fewest, and is refused where that queue or the pool is full; CORE_RETIRE begins the retirement of an active
core, takes a spare out at once, and is turned away for a core out of use; HBM_REPAIR starts with the move of its
row's page, or with the pause for a lane or for an unmapped page; SCRUB starts over the regions that it names. -/
def Obligations.JobStarts : Prop :=
  ∀ (s : State) (c : HCmd),
    let u := s.start c
    (∀ cl, StartsJob s c 0x69 256 (fun _ => true) → (arg c 0 < 16 ∧ s.clusterIn (arg c 0) = true ∧ cl = arg c 0 ∨ arg c 0 = 16 ∧ s.fwChoice = some cl) →
        let j := newJob c (s.originOf c 0x69) .queued ([cl, 0x69 + c.hi.toNat * 256, c.tag.toNat] ++ (List.range 14).map (arg c)) 1
        (s.queueRoom (8 * cl + 5) = true → s.poolRoom = true → Sys2Proof.Machine.exec (.fwJob c) s = .next ((u.addJob j).pushEntry (fwEntry j cl)))
        ∧ (s.queueRoom (8 * cl + 5) = false → Sys2Proof.Machine.exec (.fwJob c) s
            = .next (((u.setFlag F.TH_EVENT_QUEUE_FULL true).incS F.TH_REFUSE_HOST_HOST 1).complete (s.originOf c 0x69) 2 0 []))
        ∧ (s.queueRoom (8 * cl + 5) = true → s.poolRoom = false → Sys2Proof.Machine.exec (.fwJob c) s
            = .next (((u.setFlag F.TH_EVENT_POOL_FULL true).incS F.TH_REFUSE_HOST_HOST 1).complete (s.originOf c 0x69) 2 0 [])))
    ∧ (StartsJob s c 0x61 1 (fun j => nth j.args 0 / 9 = arg c 0 / 9) → argMask c [0xFF] = true → arg c 0 < 144 → arg c 0 / 9 < s.clusters →
        let k := arg c 0
        (s.fld (F.CO_STATUS_STATE k) ≠ 0 → s.fld (F.CO_STATUS_STATE k) ≠ 2 → s.rl.retire.any (·.core = k) = false →
          ∃ t, Sys2Proof.Machine.exec (.coreRetire c) s = .next t ∧ t.rl.retire = s.rl.retire ++ [⟨k, 1, some (cmdHandle c), s.elapsed, none⟩]
            ∧ t.th.stopped = k :: s.th.stopped ∧ t.fld F.RL_STATUS_RETIRING = 1 ∧ t.job (cmdHandle c) = some (newJob c (s.originOf c 0x61) .running [] 1))
        ∧ (s.fld (F.CO_STATUS_STATE k) = 0 → s.rl.retire.any (·.core = k) = false → ∃ t, Sys2Proof.Machine.exec (.coreRetire c) s = .next t
            ∧ t.fld (F.CO_STATUS_STATE k) = 2 ∧ t.fld F.RL_SPARES_SPARE_FREE = setBits (s.fld F.RL_SPARES_SPARE_FREE) (k / 9) 1 0 % 2 ^ F.RL_SPARES_SPARE_FREE.w
            ∧ t.rl.retire = s.rl.retire ∧ t.th = s.th ∧ t.hi.jobs = s.hi.jobs)
        ∧ ((s.fld (F.CO_STATUS_STATE k) = 2 ∨ s.rl.retire.any (·.core = k) = true) → Sys2Proof.Machine.exec (.coreRetire c) s
            = .next (u.complete (s.originOf c 0x61) 6 0 [])))
    ∧ (StartsJob s c 0x62 1 (fun j => nth j.args 0 % 16 = arg c 0 % 16) → bits (arg c 0) 4 2 = 0 → argMask c [0x3F, 0x7F] = true → arg c 1 < 72 →
        s.fld (F.HP_PC_STAT_LANES_LEFT (arg c 0 % 16)) ≠ 0 → ∃ t, Sys2Proof.Machine.exec (.hbmRepair c) s = .next t
          ∧ t.job (cmdHandle c) = some { newJob c (s.originOf c 0x62) .running [0, 0, 0, 0] 1 with step := 2 } ∧ t.hp = s.hp)
    ∧ (StartsJob s c 0x62 1 (fun j => nth j.args 0 % 16 = arg c 0 % 16) → bits (arg c 0) 4 2 = 1 → argMask c [0x3F, 0xF3FFF] = true →
        s.pprLeft (Fin.ofNat 16 (arg c 0)) ≠ 0 → ∀ d r, s.hp.pool = d :: r →
        let q := (Config.rowPage (arg c 0 % 16) (bits (arg c 1) 16 4) (bits (arg c 1) 0 14)).toNat % s.pages
        (s.logicalOf q = none → ∃ t, Sys2Proof.Machine.exec (.hbmRepair c) s = .next t ∧ q ∉ t.hp.pool ∧ q ∈ t.hp.heldPages ∧ t.hp.moves = s.hp.moves
            ∧ t.job (cmdHandle c) = some { newJob c (s.originOf c 0x62) .running [1, q, 0xFFFFFFFF, 0xFFFFFFFF] 2 with step := 2, done := 1 })
        ∧ (∀ p, s.logicalOf q = some p → s.hp.moves.length < 4 → s.hp.moves.any (·.page = p) = false →
            ∃ t, Sys2Proof.Machine.exec (.hbmRepair c) s = .next t ∧ t.hp.pool = r ∧ t.hp.moves = s.hp.moves ++ [⟨p, q, d, 0, true, none⟩]
              ∧ t.job (cmdHandle c) = some { newJob c (s.originOf c 0x62) .running [1, q, p, 0] 2 with step := 1 }))
    ∧ (StartsJob s c 0x63 1 (fun _ => true) → argMask c [7, 0xFF] = true → arg c 0 ≠ 0 → ∃ t, Sys2Proof.Machine.exec (.scrub c) s = .next t
        ∧ t.fld F.RL_STATUS_SCRUBBING = 1 ∧ t.job (cmdHandle c) = some (newJob c (s.originOf c 0x63) .running [0, 0]
            (if bit (arg c 0) 0 then ((List.range 8192).filter fun p => (s.physPage p).isSome).length else 0)))

/-- R187, R188, R351, R454, R455, R457-R459: a move that has copied its last line switches the page and frees the
source; a repair's pause ends with a lane remapped or a row replaced; a scrubbing read goes on to the next mapped
page, for the running SCRUB job or for the patrol, and a complete pass is shown; an hour in power is counted, and its
equivalent; a sweep past its checks begins its first entry. -/
def Obligations.JobProgress : Prop :=
  ∀ s : State,
    (∀ (page : BitVec 13) (m : Move), (s.hp.moves.find? fun m => m.page = page.toNat && m.line = linesPerPage) = some m → m.repair = false →
        ∃ t, Sys2Proof.Machine.exec (.migDone page) s = .next t ∧ t.physPage page.toNat = some m.dst ∧ t.hp.pool = s.hp.pool ++ [m.src]
          ∧ t.hp.moves = (s.hp.moves.filter fun x => x.page ≠ page.toNat) ∧ t.fld F.HP_EVENT_MIG_DONE = 1 ∧ t.hp.hbm = s.hp.hbm
          ∧ ∀ p, p ≠ page.toNat → t.physPage p = s.physPage p)
    ∧ (∀ (pc : Fin 16) (ok : Bool) (j : Job), (s.hi.jobs.find? fun j => j.op = 0x62 && j.st ≠ .held && j.step = 2 && nth j.args 0 % 16 = pc.val) = some j →
        (nth j.work 0 = 0 → ∃ t, Sys2Proof.Machine.exec (.hbmRepairPauseEnd pc ok) s = .next t ∧ t.hp = s.hp
          ∧ t.fld (F.HP_PC_STAT_LANES_REMAPPED pc) = (s.fld (F.HP_PC_STAT_LANES_REMAPPED pc) + 1) % 2 ^ (F.HP_PC_STAT_LANES_REMAPPED pc).w
          ∧ t.fld (F.HP_PC_STAT_LANES_LEFT pc) = (s.fld (F.HP_PC_STAT_LANES_LEFT pc) - 1) % 2 ^ (F.HP_PC_STAT_LANES_LEFT pc).w)
        ∧ (nth j.work 0 ≠ 0 → ∃ t, Sys2Proof.Machine.exec (.hbmRepairPauseEnd pc ok) s = .next t
            ∧ t.hp.pprUsed = mset 0 s.hp.pprUsed pc.val (mget 0 s.hp.pprUsed pc.val + 1)
            ∧ t.hp.heldPages = s.hp.heldPages.filter (· ≠ nth j.work 1)
            ∧ t.hp.pool = if ok = true ∧ j.st ≠ .cancelling then s.hp.pool ++ [nth j.work 1] else s.hp.pool))
    ∧ (∀ (target : Fin 3) (j : Job), s.mode ≠ 0 → s.mode ≠ 9 → (s.hi.jobs.find? fun j => j.op = 0x63 && j.st = .running) = some j → bit (nth j.args 0) target.val = true →
        target.val = 0 → ∃ t, Sys2Proof.Machine.exec (.patrolScrubRead target []) s = .next t ∧ t.fld F.RL_SCRUB_STAT_PAGE = s.nextScrub % 2 ^ F.RL_SCRUB_STAT_PAGE.w
          ∧ t.hp = s.hp ∧ t.mem = s.mem)
    ∧ (∀ target errs, s.mode ≠ 0 → s.mode ≠ 9 → (s.hi.jobs.find? fun j => j.op = 0x63 && j.st = .running) = none → s.flag F.RL_SCRUB_CFG_PAUSE = false →
        (if target.val = 0 then s.fld F.RL_SCRUB_CFG_HBM_HOURS ≠ 0 else s.fld F.RL_SCRUB_CFG_SRAM_MIN ≠ 0) → Sys2Proof.Machine.exec (.patrolScrubRead target errs) s
          = .next (let t := errs.foldl State.scrubErr s; if target.val = 0 then t.setFld F.RL_SCRUB_STAT_PAGE t.nextScrub else t))
    ∧ (∀ hbm, (s.hi.jobs.find? fun j => j.op = 0x63 && j.st = .running) = none → ∃ t, Sys2Proof.Machine.exec (.scrubDone hbm) s = .next t
        ∧ t.fld F.RL_EVENT_SCRUB_DONE = 1 ∧ t.fld F.RL_SCRUB_STAT_PASSES
            = (if hbm then (s.fld F.RL_SCRUB_STAT_PASSES + 1) % 2 ^ F.RL_SCRUB_STAT_PASSES.w else s.fld F.RL_SCRUB_STAT_PASSES) ∧ FldsBut [F.RL_EVENT_SCRUB_DONE, F.RL_SCRUB_STAT_PASSES] s t)
    ∧ (∀ temp, ∃ t, Sys2Proof.Machine.exec (.lifeHour temp) s = .next t ∧ t.fld F.RL_LIFE_COUNT = satAdd F.RL_LIFE_COUNT.w (s.fld F.RL_LIFE_COUNT) 1
        ∧ t.fld F.RL_EQUIV_COUNT = satAdd F.RL_EQUIV_COUNT.w (s.fld F.RL_EQUIV_COUNT) (equivHour (temp.getD 1680))
        ∧ (s.fld F.RL_EQUIV_COUNT < 5606400 → 5606400 ≤ t.fld F.RL_EQUIV_COUNT → t.fld F.RL_EVENT_LIFE_END = 1)
        ∧ (s.fld F.RL_EQUIV_COUNT < 5045760 → 5045760 ≤ t.fld F.RL_EQUIV_COUNT → t.fld F.RL_EVENT_LIFE_90 = 1))
    ∧ ∀ c : HCmd, StartsJob s c 0x64 1 (fun _ => true) → argMask c [0x7F, 0xFFFF, 0xFFFF] = true → 1 ≤ arg c 0 → arg c 0 ≤ 64 →
        let a := s.fld F.LM_SCAN_ADDR_ADDR * 16
        s.mappedRange a (16 * arg c 0) = true → s.poisoned a (16 * arg c 0) = false →
        (s.scanList (arg c 0)).all (fun e => lmEntryOk (lmWmode s.lmCfgWord) e) = true → (lmWmode s.lmCfgWord = false → arg c 0 ≤ 16) →
        s.lm.sweep = none → s.lm.run = none → s.lm.refWait = false → s.flag F.LM_CTRL_EN = true → s.fld F.LM_STATUS_STATE ≠ 5 →
        ((s.scanList (arg c 0)).all (fun e => 32 ≤ lmInput e) = true ∨ s.mode = 3 ∨ s.mode = 4) →
        ∃ t, Sys2Proof.Machine.exec (.lineTestSweep c) s = .next t ∧ t.fld F.LM_STATUS_STATE = 3 ∧ (t.job (cmdHandle c)).isSome = true
          ∧ ∃ w, t.lm.sweep = some w ∧ w.job = cmdHandle c ∧ w.list = s.scanList (arg c 0) ∧ w.passes = arg c 1 ∧ w.gapMs = arg c 2
              ∧ w.pass = 0 ∧ w.entry = 0 ∧ w.recAddr = s.fld F.LM_REC_ADDR_ADDR * 16 ∧ w.suspended = false

/-- R398-R400: what the job-control commands do with the job of their HANDLE: a SUSPENDED job is suspended already,
one of a kind that suspends at once becomes SUSPENDED or carries the command until its step ends, a held job turns the
command away; a SUSPENDED job goes back to the state that it left; a job that can still be cancelled is cancelled as
its kind says, one past that point is not; a held completion is fetched once and frees its handle, a live job shows
its state and progress; the list has every job. -/
def Obligations.JobControl : Prop :=
  ∀ (s : State) (c : HCmd), Starts s c →
    let u := s.start c
    let h := cmdHandle c
    (argMask c [] = true → ∀ j, s.job h = some j →
      (let o := s.originOf c 0x50
       (j.st = .suspended → Sys2Proof.Machine.exec (.jobSuspend c) s = .next (u.complete o 0 0 []))
       ∧ ((j.st = .held ∨ j.st = .cancelling ∨ (j.st = .running ∨ j.st = .queued) ∧ j.op ∉ [0x60, 0x62, 0x63, 0x64, 0x66, 0x67, 0x68]) →
          Sys2Proof.Machine.exec (.jobSuspend c) s = .next (u.complete o 6 0 []))
       ∧ (j.st = .suspending ∨ (j.st = .running ∨ j.st = .queued) ∧ (j.op = 0x60 ∨ j.op = 0x62 ∨ j.op = 0x66 ∧ 2 ≤ j.step) →
          Sys2Proof.Machine.exec (.jobSuspend c) s = .next (u.setJob { j with st := .suspending, suspenders := j.suspenders ++ [o] }))
       ∧ ((j.st = .running ∨ j.st = .queued) → (j.op = 0x63 ∨ j.op = 0x68 ∨ j.op = 0x66 ∧ j.step < 2) →
          ∃ t, Sys2Proof.Machine.exec (.jobSuspend c) s = .next t ∧ ∃ j', t.job h = some j' ∧ j'.st = .suspended ∧ j'.suspenders = [] ∧ j'.done = j.done))
      ∧ (let o := s.originOf c 0x51
         (j.st = .suspended → Sys2Proof.Machine.exec (.jobResume c) s
            = .next ((((u.setJob { j with st := j.left, left := .running }).jobProgress h true).resumeKind { j with st := j.left, left := .running }).complete o 0 0 []))
         ∧ (j.st ≠ .suspended → Sys2Proof.Machine.exec (.jobResume c) s = .next (u.complete o 6 0 [])))
      ∧ (let o := s.originOf c 0x52
         let j' := { j with cancellers := j.cancellers ++ [o] }
         (j.st = .held ∨ j.st ≠ .cancelling ∧ u.pastCancel j = true → Sys2Proof.Machine.exec (.jobCancel c) s = .next (u.complete o 6 0 []))
         ∧ (j.st = .cancelling → Sys2Proof.Machine.exec (.jobCancel c) s = .next (u.setJob j'))
         ∧ (j.st ≠ .held → j.st ≠ .cancelling → j.op = 0x62 → Sys2Proof.Machine.exec (.jobCancel c) s = .next (u.setJob { j' with st := .cancelling }))
         ∧ (j.st ≠ .held → j.st ≠ .cancelling → j.op = 0x63 → Sys2Proof.Machine.exec (.jobCancel c) s
              = .next (((u.setJob j').setFlag F.RL_STATUS_SCRUBBING false).endJob h 3 0 j.work))
         ∧ (j.st ≠ .held → j.st ≠ .cancelling → j.op = 0x69 → s.fwRuns h = false → (s.queued.find? fun e => e.kind = .hostJob && e.handle = h) = none →
              Sys2Proof.Machine.exec (.jobCancel c) s = .next ((u.setJob j').endJob h 3 0 [])))
      ∧ (let o := s.originOf c 0x53
         (j.st = .held → ∃ t, Sys2Proof.Machine.exec (.jobStatus c) s = .next t ∧ t.job h = none
            ∧ t = (u.dropJob h).complete o 0 0 ((nth j.held 0 + nth j.held 1 * 2 ^ 8 + 6 * 2 ^ 16) :: (List.range 4).map fun i => nth j.held (2 + i)))
         ∧ (j.st ≠ .held → Sys2Proof.Machine.exec (.jobStatus c) s = .next (u.complete o 0 0 [(s.shownState j).code + j.op * 2 ^ 8, j.done, j.total]))))
    ∧ (argMask c [] = true → s.job h = none → Sys2Proof.Machine.exec (.jobStatus c) s = .next (u.complete (s.originOf c 0x53) 8 0 []))
    ∧ (bufMask c [] = true → 2048 ≤ bufLen c → h = 0 → ∃ t, Sys2Proof.Machine.exec (.jobList c) s = .next t ∧ t.hi.jobs = s.hi.jobs
        ∧ t = (u.emit (.host (bufAddr c) (s.hi.jobs.flatMap fun j => leBytes 8 (j.handle + j.op * 2 ^ 16 + (s.shownState j).code * 2 ^ 24)))).complete
            (s.originOf c 0x54) 0 0 [s.hi.jobs.length])

/-- R358-R371, R373: RK_JOB enters the host queue or ends with BAD_DESCRIPTOR; a free engine takes the next job, and
ends a RESUME without its state block; the end of a job frees the engine, counts the job and leaves the output in
Hamper; a failed run quarantines the engine, the fourth time for good; a quarantined engine is tested on RELEASE and
goes back to service when it passes; an injection is armed; HOST_SUSPEND leaves the state block and the job SUSPENDED. -/
def Obligations.RucksackResults : Prop :=
  ∀ s : State,
    (∀ c : HCmd, StartsJob s c 0x67 256 (fun _ => true) → argMask c (List.replicate 12 0xFFFFFFFF) = true →
        let w := (List.range 12).map (arg c)
        (rkBad false w = true → Sys2Proof.Machine.exec (.rkJob c) s = .next ((s.start c).complete (s.originOf c 0x67) 5 0 []))
        ∧ (rkBad false w = false → ∃ t, Sys2Proof.Machine.exec (.rkJob c) s = .next t
            ∧ t.rk.hostQ = s.rk.hostQ ++ [⟨some (cmdHandle c), 0, w, s.elapsed, false, false, 0⟩] ∧ t.rk.cellQ = s.rk.cellQ
            ∧ t.job (cmdHandle c) = some (newJob c (s.originOf c 0x67) .queued [] (nth w 3))))
    ∧ (∀ e : Fin 4,
        (s.flag F.RK_CTRL_EN = false ∨ s.fld (F.RK_ENG_STATE e) ≠ 0 ∨ e.val ∈ s.rk.testing ∨ s.rkNext = none → Sys2Proof.Machine.exec (.engineTakeJob e) s = .next s)
        ∧ (∀ host j, s.flag F.RK_CTRL_EN = true → s.fld (F.RK_ENG_STATE e) = 0 → e.val ∉ s.rk.testing → s.rkNext = some (host, j) →
            (rkOp j.words ≠ 2 → ∃ t, Sys2Proof.Machine.exec (.engineTakeJob e) s = .next t ∧ t.fld (F.RK_ENG_STATE e) = 1
                ∧ t.fld (F.RK_ENG_OP e) = rkOp j.words % 2 ^ (F.RK_ENG_OP e).w ∧ t.fld (F.RK_ENG_HOST e) = b2n host ∧ t.engJob e = some j ∧ t.rk.lastHost = host
                ∧ t.rk.hostQ = (if host then s.rk.hostQ.erase j else s.rk.hostQ) ∧ t.rk.cellQ = (if host then s.rk.cellQ else s.rk.cellQ.erase j))
            ∧ (rkOp j.words = 2 → j.skip = 0 → j.second = false → mfind s.rk.conts (rkAddr j.words 7) = none →
                ∃ t, Sys2Proof.Machine.exec (.engineTakeJob e) s = .next t ∧ t.fld (F.RK_ENG_STATE e) = 0 ∧ t.engJob e = none))
        ∧ (∀ j (input dict : List (BitVec 8)) (fail : BitVec 4), s.engJob e = some j → mget 0 s.rk.inject e = 0 →
            ∃ t, Sys2Proof.Machine.exec (.rkJobEnd e input dict fail []) s = .next t ∧ t.fld (F.RK_ENG_STATE e) = 0 ∧ t.engJob e = none
              ∧ t.fld (F.RK_EJOBS_COUNT e) = (s.fld (F.RK_EJOBS_COUNT e) + 1) % 2 ^ (F.RK_EJOBS_COUNT e).w
              ∧ (let far : RkFar := ⟨input, dict, fail.toNat⟩
                 let k := s.rkWork j far
                 ∀ h, j.host = some h → (s.rkReach j far).2 = 0 → Sys2Proof.Machine.slotOf (rkAddr j.words 4 + j.skip) = 0 → k.1.length ≤ nth j.words 6 - j.skip →
                   k.2.1.dictAddr = none → t.hp = (s.setBytes (rkAddr j.words 4 + j.skip) (k.1.map (·.1))).hp))
        ∧ (∀ j mismatch, s.engJob e = some j → ¬(mismatch = true ∧ rkOp j.words = 1) → ∃ t, Sys2Proof.Machine.exec (.quarantine e mismatch) s = .next t
            ∧ t.fld (F.RK_ENG_STATE e) = (if 4 ≤ s.fld (F.RK_ENG_QUARANTINES e) + 1 then 3 else 2) ∧ t.fld F.RK_EVENT_QUARANTINE = 1
            ∧ t.fld (F.RK_ENG_QUARANTINES e) = (s.fld (F.RK_ENG_QUARANTINES e) + 1) % 2 ^ (F.RK_ENG_QUARANTINES e).w ∧ t.engJob e = none)
        ∧ (s.fld (F.RK_ENG_STATE e) = 2 → e.val ∉ s.rk.testing → Sys2Proof.Machine.exec (.release e) s
            = .next { s with rk := { s.rk with testing := e.val :: s.rk.testing } })
        ∧ (e.val ∈ s.rk.testing → (∃ t, Sys2Proof.Machine.exec (.engineSelftestEnd e true) s = .next t ∧ t.fld (F.RK_ENG_STATE e) = 0
              ∧ t.fld F.RK_EVENT_RELEASED = 1 ∧ t.rk.testing = s.rk.testing.erase e.val)
            ∧ ∃ t, Sys2Proof.Machine.exec (.engineSelftestEnd e false) s = .next t ∧ t.fld (F.RK_ENG_STATE e) = s.fld (F.RK_ENG_STATE e)
              ∧ t.rk.testing = s.rk.testing.erase e.val)
        ∧ (∀ (n : BitVec 24) (input dict : List (BitVec 8)) j h x, s.engJob e = some j → j.host = some h → s.job h = some x → x.st = .suspending →
            let far : RkFar := ⟨input, dict, 0⟩
            let k := s.rkWork j far
            n.toNat < k.1.length → n.toNat < nth j.words 6 - j.skip → (s.rkReach j far).2 = 0 →
            ∃ t x', Sys2Proof.Machine.exec (.hostSuspend e n input dict) s = .next t ∧ t.fld (F.RK_ENG_STATE e) = 0 ∧ t.engJob e = none
              ∧ t.job h = some x' ∧ x'.st = .suspended ∧ mfind t.rk.conts (rkAddr j.words 7) = some ⟨k.2.2, k.1.drop n.toNat, k.2.1⟩))
    ∧ (∀ v : BitVec 32,
        (bits v.toNat 2 2 = 3 → Sys2Proof.Machine.exec (.rkTestInject v) s = .next ((s.setFld F.RK_TEST_ENGINE (v.toNat % 4)).reservedEncoding R.RK_TEST 2))
        ∧ (bits v.toNat 2 2 = 1 ∨ bits v.toNat 2 2 = 2 → s.fld (F.RK_ENG_STATE (v.toNat % 4)) < 2 → ∃ t, Sys2Proof.Machine.exec (.rkTestInject v) s = .next t
            ∧ t.fld F.RK_TEST_ENGINE = v.toNat % 4 ∧ t.rk = { s.rk with inject := mput s.rk.inject (v.toNat % 4) (bits v.toNat 2 2) } ∧ FldsBut [F.RK_TEST_ENGINE] s t))
    ∧ ∃ t, Sys2Proof.Machine.exec .rkHwmRestart s = .next t ∧ t.fld F.RK_QHWM_CELL_HWM = s.rk.cellQ.length % 2 ^ F.RK_QHWM_CELL_HWM.w
        ∧ t.fld F.RK_QHWM_HOST_HWM = s.rk.hostQ.length % 2 ^ F.RK_QHWM_HOST_HWM.w ∧ FldsBut [F.RK_QHWM_CELL_HWM, F.RK_QHWM_HOST_HWM] s t

/-- R406-R417, R419-R423, R428, R435: a frame that passes the checks of R410 leaves its credit and acknowledgement
with its link. A heartbeat tells the peer's mode, role and slots, and brings a probing link up; another serial takes
the link down. A sequenced frame counts only in its order, and one out of order is answered with CREDIT. MIRROR
records are applied to the slot of their primary; a READ or WRITE of an exported range is served and answered, one of
another range is denied; an answer ends its request; a MIGRATE record reaches the migration; FENCE of the named twin
isolates the device, and its answer confirms the fence of the slot. A frame of another kind of command, or with TW_
off, changes nothing. -/
def Obligations.FabricFrames : Prop :=
  ∀ (s : State) (f : FabIn) (l : Nat), FabPasses s f l →
    let u := (s.fabCheck f).1
    let x := s.link l
    let v := u.setLink l { u.link l with ack := (x.ack + 1) % 2 ^ 32 }
    let late := ((u.twCount 5 1).fabQueue l .credit 0).checkpointAllDone l
    (f.body = .credit → ∃ t, Sys2Proof.Machine.exec (.credit f) s = .next t ∧ (t.link l).credit = f.hdr.credit ∧ (t.link l).heard = s.elapsed
        ∧ (t.link l).unacked = x.unacked.filter (fun y => match y.seq with
            | some q => decide ((q + 2 ^ 32 - f.hdr.ack % 2 ^ 32) % 2 ^ 32 < 2 ^ 31)
            | none => true)
        ∧ (t.link l).ack = x.ack ∧ (t.link l).queue = x.queue ∧ (t.link l).state = x.state)
    ∧ (∀ serial time mode role slots, f.body = .heartbeat serial time mode role slots →
        (x.state = 1 ∨ x.state = 2 ∧ serial = x.serial → ∃ t, Sys2Proof.Machine.exec (.heartbeat f) s = .next t
            ∧ (t.link l).state = 2 ∧ (t.link l).serial = serial ∧ (t.link l).peerMode = mode ∧ (t.link l).peerRole = role ∧ (t.link l).peerSlots = slots
            ∧ (x.state = 1 → t.fld F.TW_EVENT_LINK_UP = 1))
        ∧ (x.state = 2 → serial ≠ x.serial → ∃ t, Sys2Proof.Machine.exec (.heartbeat f) s = .next t
            ∧ (t.link l).state = 1 ∧ t.fld F.TW_EVENT_DUP_ID = 1 ∧ t.fld F.TW_EVENT_LINK_LOST = 1))
    ∧ (∀ recs last, f.body = .mirror recs →
        (f.hdr.seq ≠ x.ack → Sys2Proof.Machine.exec (.mirrorFrame f last) s = .next late)
        ∧ (f.hdr.seq = x.ack → ∀ i, s.slotOf x.peer = some i → 1 ≤ s.slotState i → s.slotState i ≤ 3 → Sys2Proof.Machine.exec (.mirrorFrame f last) s
            = .next ((if last then (recs.foldl (fun s r => s.applyRecord i r) (v.twCount 15 1)).synced i
                else recs.foldl (fun s r => s.applyRecord i r) (v.twCount 15 1)).checkpointAllDone l)))
    ∧ (∀ a n tag, f.body = .readReq a n tag →
        (f.hdr.seq ≠ x.ack → Sys2Proof.Machine.exec (.readRequest f []) s = .next late)
        ∧ (f.hdr.seq = x.ack → ∃ t, Sys2Proof.Machine.exec (.readRequest f []) s = .next t ∧ (t.link l).ack = (x.ack + 1) % 2 ^ 32 ∧ t.hp = s.hp
            ∧ ∃ st d, (t.link l).queue = x.queue ++ [⟨none, .readResp tag st d, 0⟩]
              ∧ (s.exported a n = false → st = 12 ∧ d = [])
              ∧ (s.exported a n = true → s.mappedRange a n = false → st = 8 ∧ d = [])
              ∧ (s.exported a n = true → s.mappedRange a n = true → s.poisoned a n = true → st = 10 ∧ d = [])
              ∧ (s.exported a n = true → s.mappedRange a n = true → s.poisoned a n = false → st = 0 ∧ d = s.bytesAt a n)))
    ∧ (∀ tag st d errs, f.body = .readResp tag st d → f.hdr.seq = x.ack → Sys2Proof.Machine.exec (.readRequest f errs) s
        = .next (((v.twCount 11 1).remoteAnswer l tag st false d).checkpointAllDone l))
    ∧ (∀ a tag d, f.body = .writeReq a tag d →
        (f.hdr.seq ≠ x.ack → Sys2Proof.Machine.exec (.writeRequest f) s = .next late)
        ∧ (f.hdr.seq = x.ack → ∃ t, Sys2Proof.Machine.exec (.writeRequest f) s = .next t ∧ (t.link l).ack = (x.ack + 1) % 2 ^ 32
            ∧ ∃ st, (t.link l).queue = x.queue ++ [⟨none, .writeResp tag st, 0⟩]
              ∧ (s.exported a d.length = false → st = 12 ∧ t.hp = s.hp)
              ∧ (s.exported a d.length = true → s.mappedRange a d.length = false → st = 8 ∧ t.hp = s.hp)
              ∧ (s.exported a d.length = true → s.mappedRange a d.length = true → st = 0 ∧ t.hp = (s.setBytes a d).hp)))
    ∧ (∀ tag st, f.body = .writeResp tag st → f.hdr.seq = x.ack → Sys2Proof.Machine.exec (.writeRequest f) s
        = .next (((v.twCount 12 1).remoteAnswer l tag st true []).checkpointAllDone l))
    ∧ (∀ r tagOk, f.body = .migrate r →
        (f.hdr.seq ≠ x.ack → Sys2Proof.Machine.exec (.migrateFrame f tagOk) s = .next late)
        ∧ (f.hdr.seq = x.ack → Sys2Proof.Machine.exec (.migrateFrame f tagOk) s = .next ((v.migRecv l r tagOk).checkpointAllDone l)))
    ∧ (f.body = .fence false → s.flag F.TW_TWIN_EN = true → x.peer = s.fld F.TW_TWIN_TWIN → Sys2Proof.Machine.exec (.fenceFrame f) s
        = .next ((State.fenced (let w := u.twCount 23 1; { w with tw := { w.tw with fabFence := s.tw.fabFence ++ [l] } })).checkpointAllDone l))
    ∧ (f.body = .fence false → ¬(s.flag F.TW_TWIN_EN = true ∧ x.peer = s.fld F.TW_TWIN_TWIN) → Sys2Proof.Machine.exec (.fenceFrame f) s
        = .next (u.checkpointAllDone l))
    ∧ (∀ i, f.body = .fence true → s.slotOf x.peer = some i → (s.slotState i = 2 ∨ s.slotState i = 3) → s.actSlot = none → s.mode = 5 →
        ∃ t, Sys2Proof.Machine.exec (.fenceFrame f) s = .next t ∧ t.fld F.TW_EVENT_FENCE_CONFIRMED = 1 ∧ t.fld F.TW_TKO_PATH = 1
          ∧ t.fld F.TW_TKO_SLOT = i % 2 ^ F.TW_TKO_SLOT.w)

/-- R190, R413-R417, R425: the head of a link's queue leaves by the port that R416 names while window and credit allow
it, a sequenced one with the next SEQ and kept until it is acknowledged; a due heartbeat leaves; a silent link is lost
and starts again; unacknowledged frames go again after the timeout; a grown grant is sent; gathered notes leave in one
frame; an answer or a timeout ends the remote access that it names. -/
def Obligations.FabricSending : Prop :=
  ∀ (s : State) (l : Fin 64),
    let x := s.link l
    (∀ fr r, x.queue = fr :: r → x.en = true → s.fabOn = true → s.flag F.TW_STATUS_DUP_ID = false → s.fabMute = false →
        (fabSequenced fr.body = true → x.window ≤ x.unacked.length → Sys2Proof.Machine.exec (.fabricFrameSend l) s = .next s)
        ∧ (fabSequenced fr.body = true → x.unacked.length < x.window → x.credit ≤ x.unacked.length → Sys2Proof.Machine.exec (.fabricFrameSend l) s = .next (s.twCount 6 1))
        ∧ ((fabSequenced fr.body = true → x.unacked.length < x.window ∧ x.unacked.length < x.credit) →
            (s.fabPort x (fabType fr.body) = none → Sys2Proof.Machine.exec (.fabricFrameSend l) s = .next (s.twCount 29 1))
            ∧ ∀ p, s.fabPort x (fabType fr.body) = some p → ∃ t, Sys2Proof.Machine.exec (.fabricFrameSend l) s = .next t
              ∧ (t.link l).queue = r ∧ (t.link l).txc = (x.txc + 1) % 2 ^ 64 ∧ (t.link l).ackSent = x.ack
              ∧ (t.link l).unacked = (if fabSequenced fr.body then x.unacked ++ [{ fr with seq := some x.seq }] else x.unacked)
              ∧ (t.link l).seq = (if fabSequenced fr.body then (x.seq + 1) % 2 ^ 32 else x.seq)))
    ∧ (x.en = true → x.state ≠ 0 → s.fabOn = true → s.flag F.TW_CTRL_HB_EN = true → s.fabMute = false →
        (∀ a, x.hbAt = some a → a + s.fld F.TW_HB_HB_US * 1000 ≤ s.elapsed) → ∃ t, Sys2Proof.Machine.exec (.heartbeatSend l) s = .next t
          ∧ (t.link l).hbAt = some s.elapsed ∧ (t.link l).queue = x.queue ∧ (t.link l).seq = x.seq ∧ (t.link l).unacked = x.unacked)
    ∧ (x.state = 2 → x.heard + s.fld F.TW_HB_MISS * s.fld F.TW_HB_HB_US * 1000 ≤ s.elapsed → ∃ t, Sys2Proof.Machine.exec (.linkLost l) s = .next t
        ∧ (t.link l).state = 1 ∧ (t.link l).seq = 0 ∧ (t.link l).ack = 0 ∧ (t.link l).unacked = [] ∧ (t.link l).attached = false ∧ t.fld F.TW_EVENT_LINK_LOST = 1)
    ∧ (x.unacked ≠ [] → x.en = true → s.fabOn = true → s.fabMute = false → x.ackAt + x.rtoUs * 1000 ≤ s.elapsed →
        ∃ t, Sys2Proof.Machine.exec (.retransmitTimeout l) s = .next t ∧ t = s.fabResend l ∧ (t.link l).ackAt = s.elapsed ∧ (t.link l).unacked = x.unacked
          ∧ (t.link l).queue = x.queue ∧ (t.link l).seq = x.seq)
    ∧ (x.en = true → x.grant ≠ 0 → x.queue = [] → (x.grant + 3) / 4 ≤ (x.ack + 2 ^ 32 - x.ackSent) % 2 ^ 32 → Sys2Proof.Machine.exec (.creditFrameSend l) s
        = .next (s.setLink l { x with queue := [⟨none, .credit, 0⟩] }))
    ∧ (s.tw.notes ≠ [] → s.tw.notesSince + s.fld F.TW_TWIN_NOTE_US * 1000 ≤ s.elapsed →
        ∃ t, Sys2Proof.Machine.exec .sentNoteFlush s = .next t ∧ t.tw.notes = []
          ∧ (∀ k, s.twinLink = some k → (t.link k).queue = (s.link k).queue ++ [⟨none, .mirror [.sent s.tw.notes], s.tw.noteNext⟩])
          ∧ (s.twinLink = none → t.tw.noteSent = s.tw.noteNext ∧ t.tw.link = s.tw.link))
    ∧ (∀ (tag : BitVec 32) (st : Fin 16) (write : Bool) (d : List (BitVec 8)) (r : Remote),
        (s.hp.remote.find? fun r => r.tag % 2 ^ 32 = tag.toNat && r.link = l.val && r.write = write) = some r →
        (st.val ≠ 0 → ∃ t, Sys2Proof.Machine.exec (.remoteResponse l tag st write d) s = .next t
            ∧ t.hp.remote = s.hp.remote.filter (fun q => q.acc ≠ r.acc) ∧ t.fld F.HP_EVENT_REMOTE_ERR = 1)
        ∧ (st.val = 0 → ∃ t, Sys2Proof.Machine.exec (.remoteResponse l tag st write d) s = .next t ∧ t.hp.remote = s.hp.remote.filter (fun q => q.tag ≠ r.tag)
            ∧ (write = false → .host (r.host + r.ofs) (d.take r.len) ∈ t.out)))
    ∧ ∀ r, (s.hp.remote.find? fun r => decide (r.due ≤ s.elapsed)) = some r → ∃ t, Sys2Proof.Machine.exec .remoteTimeout s = .next t
        ∧ t.hp.remote = s.hp.remote.filter (fun q => q.acc ≠ r.acc) ∧ t.fld F.HP_EVENT_REMOTE_ERR = 1

/-- R418, R426-R432: an attachment passes its checks or is refused with their code; FENCE is sent again and its
slowness is shown; a port that has been down long enough, or FORCE, confirms the fence and the slot enters REPLAY;
TAKEOVER brings a READY slot to SUSPECT; the installation takes over the channels that can be taken over; the ingress
log keeps its span, and announcements count their sends. -/
def Obligations.TwinSlots : Prop :=
  ∀ (s : State) (i : Fin 4),
    (∀ ctxs exact major minor l, s.flag (F.TW_PRI_CFG_EN i) = true → s.slotState i = 0 → s.linkOf (s.fld (F.TW_PRI_CFG_PEER i)) = some l → s.fabOn = true → (s.link l).state = 2 →
        let r := s.attachRefuse i ctxs exact major
        ∃ t, Sys2Proof.Machine.exec (.attachCheck i ctxs exact major minor) s = .next t ∧ t.fld (F.TW_PRI_STAT_REFUSE i) = r % 2 ^ (F.TW_PRI_STAT_REFUSE i).w
          ∧ (r = 0 → t.slotState i = 1) ∧ (r ≠ 0 → t.slotState i = 0 ∧ t.fld F.TW_EVENT_ATTACH_FAIL = 1 ∧ t.tw = s.tw))
    ∧ (s.slotState i = 3 →
        ((s.twSlot i).fencedAt + 5000000 ≤ s.elapsed → ∃ t, Sys2Proof.Machine.exec (.fenceRepeat i) s = .next t ∧ t.fld F.TW_EVENT_FENCE_SENT = 1
            ∧ (t.twSlot i).fencedAt = s.elapsed ∧ t.slotState i = 3)
        ∧ (s.elapsed < (s.twSlot i).fencedAt + 5000000 → Sys2Proof.Machine.exec (.fenceRepeat i) s = .next s)
        ∧ ((s.twSlot i).slow = false → (s.twSlot i).suspectAt + 50000000 ≤ s.elapsed → ∃ t, Sys2Proof.Machine.exec (.fenceSlow i) s = .next t
            ∧ (t.twSlot i).slow = true ∧ t.slotState i = 3)
        ∧ (∀ a, let p := s.fld (F.TW_PRI_CFG_DIRECT_PORT i)
            p < 4 → s.flag (F.EP_STATUS_LINK p) = false → (s.port p).downAt = some a → a + 500000 ≤ s.elapsed → s.actSlot = none → s.mode = 5 →
            ∃ t, Sys2Proof.Machine.exec (.directLinkEvidence i) s = .next t ∧ t.slotState i = 4 ∧ t.fld F.TW_TKO_PATH = 3 ∧ t.fld F.TW_TKO_SLOT = i.val
              ∧ t.fld F.TW_EVENT_FENCE_CONFIRMED = 1))
    ∧ (s.takeoverRefused i = true → Sys2Proof.Machine.exec (.takeover i) s = .next (s.configRefused (R.TW_PRI_CFG i) 31)
        ∧ Sys2Proof.Machine.exec (.force i) s = .next (s.configRefused (R.TW_PRI_CFG i) 30))
    ∧ (s.takeoverRefused i = false →
        (s.slotState i = 3 → Sys2Proof.Machine.exec (.takeover i) s = .next s)
        ∧ (s.slotState i = 2 → ∃ t, Sys2Proof.Machine.exec (.takeover i) s = .next t ∧ t.slotState i = 3 ∧ t.fld F.TW_EVENT_PEER_LOST = 1 ∧ t.fld F.TW_EVENT_FENCE_SENT = 1
            ∧ (t.twSlot i).suspectAt = s.elapsed ∧ (t.twSlot i).fencedAt = s.elapsed)
        ∧ (s.actSlot = none → s.mode = 5 → ∃ t, Sys2Proof.Machine.exec (.force i) s = .next t ∧ t.slotState i = 4 ∧ t.fld F.TW_TKO_PATH = 0 ∧ t.fld F.TW_TKO_SLOT = i.val
            ∧ t.fld F.TW_EVENT_FENCE_CONFIRMED = 1))
    ∧ (∀ tagOks, s.installReady i = true → ∃ t, Sys2Proof.Machine.exec (.slotInstalled i tagOks) s = .next t ∧ t.tw.installed = some i.val)
    ∧ (∀ tagOks, s.installReady i = false → Sys2Proof.Machine.exec (.slotInstalled i tagOks) s = .next s)
    ∧ (∃ t, Sys2Proof.Machine.exec (.ingressLogExpiry i) s = .next t
        ∧ (t.twSlot i).log = (s.twSlot i).log.filter (fun f => decide (s.time1588 ≤ f.time + s.fld (F.TW_PRI_LOG_LOG_MS i) * 1000000))
        ∧ FldsBut [F.TW_PRI_LAG_LOG_HELD_MS i] s t)
    ∧ (∀ (n : BitVec 8) a, (s.twSlot i).announce[n.toNat]? = some a →
        (a.sent < 3 → a.at_ + announceAt a.sent ≤ s.elapsed → ∃ t, Sys2Proof.Machine.exec (.gratuitousAnnounce i n) s = .next t
            ∧ (t.twSlot i).announce = setAt (s.twSlot i).announce n.toNat { a with sent := a.sent + 1 }
            ∧ ∀ p, p < 4 → bit (s.fld (F.EP_CTRL_ROLES p)) (b2n a.planeB) = true → .announce p (announceFrame a.hdr) ∈ t.out)
        ∧ (3 ≤ a.sent → Sys2Proof.Machine.exec (.gratuitousAnnounce i n) s = .next s))

/-- R411, R412: an access to TW_LINK_DATA reads the selected word or writes it, and the selector goes on; word 0
enables or disables the link, the others keep their values while it is enabled. The words of the next key are written
in order, and a switch of the epoch takes the key, or is refused without one. -/
def Obligations.LinkRecords : Prop :=
  ∀ s : State,
    let l := s.fld F.TW_LINK_SEL_LINK
    let i := s.fld F.TW_LINK_SEL_WORD
    let x := s.link l
    (∀ v : BitVec 32, (∃ t, Sys2Proof.Machine.exec (.twLinkDataAccess false v) s = .next t ∧ t.lastRead = x.show i ∧ t.fld F.TW_LINK_SEL_WORD = (i + 1) % 16
          ∧ FldsBut [F.TW_LINK_SEL_WORD] s t ∧ t.tw = s.tw)
        ∧ (∃ t, Sys2Proof.Machine.exec (.twLinkDataAccess true v) s = .next t ∧ t.fld F.TW_LINK_SEL_WORD = (i + 1) % 16
          ∧ (14 ≤ i → t.tw = s.tw) ∧ (1 ≤ i → x.en = true → t.tw = s.tw)
          ∧ (1 ≤ i → i < 14 → x.en = false → linkReserved i (v.toNat &&& linkMask i) = [] → (t.link l).word i = v.toNat &&& linkMask i)
          ∧ (i = 0 → x.en = false → bit v.toNat 14 = true → ((List.range 64).any fun k => k ≠ l && (s.link k).en && decide ((s.link k).peer = bits v.toNat 0 14)) = false →
              (t.link l).en = true ∧ (t.link l).state = 1 ∧ (t.link l).seq = 0 ∧ (t.link l).ack = 0 ∧ (t.link l).unacked = [] ∧ (t.link l).peer = bits v.toNat 0 14)
          ∧ (i = 0 → x.en = true → bit v.toNat 14 = false → (t.link l).en = false ∧ (t.link l).state = 0)))
    ∧ (∀ v : BitVec 32, let w := s.fld F.TW_KEY_SEL_WORD
        w < 8 → ∃ t, Sys2Proof.Machine.exec (.twKeyDataWrite v) s = .next t ∧ t.fld F.TW_KEY_SEL_WORD = (w + 1) % 8
          ∧ t.tw = { s.tw with keyNext := setAt (if s.tw.keyNext = [] then List.replicate 8 0 else s.tw.keyNext) w v.toNat }
          ∧ (w = 7 → t.fld F.TW_STATUS_KEY_NEXT = 1))
    ∧ (s.flag F.TW_STATUS_KEY_NEXT = true → ∃ t, Sys2Proof.Machine.exec .epochSwitch s = .next t ∧ t.fld F.TW_EPOCH_CUR = (s.fld F.TW_EPOCH_CUR + 1) % 256
        ∧ t.tw.keyCur = s.tw.keyNext ∧ t.tw.keyPrev = s.tw.keyCur ∧ t.tw.keyNext = [] ∧ t.tw.switchAt = some s.elapsed ∧ t.fld F.TW_STATUS_KEY_NEXT = 0
        ∧ t.fld F.TW_EVENT_EPOCH_SWITCH = 1 ∧ (∀ k, (t.link k).txc = 0 ∧ (t.link k).rxPrev = (s.link k).rxCur ∧ (t.link k).rxCur = none)
        ∧ FldsBut [F.TW_EPOCH_CUR, F.TW_STATUS_KEY_NEXT, F.TW_EVENT_EPOCH_SWITCH] s t)
    ∧ (s.flag F.TW_STATUS_KEY_NEXT = false → Sys2Proof.Machine.exec .epochSwitch s = .next (s.configRefused R.TW_EPOCH 8))

/-- R434-R436: MIGRATE asks the target of the link for a channel's place, or ends with the status of what is missing;
at the boundary of the switch the source stops the channel and forwards, and at the end of forwarding it closes the
channel; EVACUATE and CHECKPOINT_ALL start with the mirrored channels; the source of an evacuation fences itself and
tells the twin again until it is heard. -/
def Obligations.MigrationResults : Prop :=
  ∀ s : State,
    (∀ c : HCmd, StartsJob s c 0x65 1 (fun j => nth j.args 0 = arg c 0) → argMask c [0x1FFF, 0x1FFF3FFF, 0xFFFF] = true → (s.mode = 7 → 240 ≤ arg c 0) →
        let n := arg c 0
        let o := s.originOf c 0x65
        (s.chan n = none → Sys2Proof.Machine.exec (.migrate c) s = .next ((s.start c).complete o 8 0 []))
        ∧ (∀ ch, s.chan n = some ch →
            (ch.st ≠ .opened → Sys2Proof.Machine.exec (.migrate c) s = .next ((s.start c).complete o 6 0 []))
            ∧ (ch.st = .opened → s.linkOf (bits (arg c 1) 0 14) = none → Sys2Proof.Machine.exec (.migrate c) s = .next ((s.start c).complete o 8 0 []))
            ∧ ∀ l, ch.st = .opened → s.linkOf (bits (arg c 1) 0 14) = some l →
              (s.fabOn = false ∨ (s.link l).state ≠ 2 → Sys2Proof.Machine.exec (.migrate c) s = .next ((s.start c).complete o 8 0 []))
              ∧ (s.fabOn = true → (s.link l).state = 2 → ∃ t, Sys2Proof.Machine.exec (.migrate c) s = .next t
                  ∧ (t.chan n).map (·.st) = some .migOut ∧ t.job (cmdHandle c) = some (newJob c o .running [l, 0, 0, 0, 0, 0] 4)
                  ∧ (t.link l).queue = (s.link l).queue ++ [⟨none, .migrate (.request n (bits (arg c 1) 16 13) ch.frame ch.mirror ch.stagger ch.units ch.granules), 0⟩])))
    ∧ (∀ (n : BitVec 13) j, s.migJob n.toNat = some j →
        (∀ ch, s.chan n.toNat = some ch → j.step = 2 → nth j.work 3 ≤ s.nowNs → ∃ t j', Sys2Proof.Machine.exec (.migrateSwitch n) s = .next t
            ∧ t.job j.handle = some j' ∧ j'.step = 3 ∧ j'.done = 3 ∧ j'.work = setAt j.work 5 (s.elapsed + nth j.args 2 * 1000000))
        ∧ (j.step = 3 → nth j.work 5 ≤ s.elapsed → ∃ t, Sys2Proof.Machine.exec (.migrateForwardEnd n) s = .next t
            ∧ ∀ ch, s.chan n.toNat = some ch → (t.chan n.toNat).map (·.st) = some .closing)
        ∧ (j.step ≠ 2 → Sys2Proof.Machine.exec (.migrateSwitch n) s = .next s) ∧ (j.step ≠ 3 → Sys2Proof.Machine.exec (.migrateForwardEnd n) s = .next s))
    ∧ (∀ c : HCmd, StartsJob s c 0x66 1 (fun _ => true) → argMask c [0x3FFF] = true →
        (arg c 0 ≠ s.fld F.TW_TWIN_TWIN → Sys2Proof.Machine.exec (.evacuate c) s = .next ((s.start c).complete (s.originOf c 0x66) 5 0 []))
        ∧ (arg c 0 = s.fld F.TW_TWIN_TWIN → s.twinLink = none → Sys2Proof.Machine.exec (.evacuate c) s = .next ((s.start c).complete (s.originOf c 0x66) 6 0 []))
        ∧ (∀ l, arg c 0 = s.fld F.TW_TWIN_TWIN → s.twinLink = some l →
            (2 ∉ (s.link l).peerSlots → Sys2Proof.Machine.exec (.evacuate c) s = .next ((s.start c).complete (s.originOf c 0x66) 6 0 []))
            ∧ (2 ∈ (s.link l).peerSlots → ∃ t, Sys2Proof.Machine.exec (.evacuate c) s = .next t ∧ t.job (cmdHandle c)
                = some { newJob c (s.originOf c 0x66) .running s.mirrored s.mirrored.length with step := if s.mirrored = [] then 1 else 0 })))
    ∧ (∀ j l, s.evacJob = some j → s.twinLink = some l → j.step = 2 → j.st = .running → s.tw.notes = [] → s.mirrorOut l = false →
        ∃ t j', Sys2Proof.Machine.exec .evacuateFence s = .next t ∧ t.tw.evacLink = some l ∧ t.tw.evacAt = s.elapsed ∧ t.job j.handle = some j' ∧ j'.step = 3
          ∧ ∃ a b, (t.link l).queue = a ++ [⟨none, .fence true, 0⟩] ++ b ∧ a ++ b = (s.link l).queue ∧ ∀ y ∈ a, fabType y.body = 7)
    ∧ (∀ l, s.tw.evacLink = some l → s.tw.evacAt + 5000000 ≤ s.elapsed → ∃ t, Sys2Proof.Machine.exec .evacuateFenceRepeat s = .next t ∧ t.tw.evacAt = s.elapsed
        ∧ t.tw.evacLink = some l ∧ ∃ a b, (t.link l).queue = a ++ [⟨none, .fence true, 0⟩] ++ b ∧ a ++ b = (s.link l).queue ∧ ∀ y ∈ a, fabType y.body = 7)
    ∧ (∀ c : HCmd, StartsJob s c 0x68 1 (fun _ => true) → argMask c [] = true →
        (s.flag F.TW_TWIN_EN = true → s.twinLink = none → Sys2Proof.Machine.exec (.checkpointAll c) s = .next ((s.start c).complete (s.originOf c 0x68) 6 0 []))
        ∧ (s.flag F.TW_TWIN_EN = false → Sys2Proof.Machine.exec (.checkpointAll c) s
            = .next (((s.start c).addJob (newJob c (s.originOf c 0x68) .running [] 0)).endJob (cmdHandle c) 0 0 []))
        ∧ (∀ l, s.twinLink = some l → s.mirrored ≠ [] → ∃ t, Sys2Proof.Machine.exec (.checkpointAll c) s = .next t
            ∧ t.job (cmdHandle c) = some (newJob c (s.originOf c 0x68) .running s.mirrored s.mirrored.length)))

/-- R271-R273, R275, R281: the head of the management queue starts, collides, backs off, ends or times out: a frame
that ends leaves the queue, and what waits behind it stands. A collision after 512 bit times or the sixteenth one ends
the frame; another one draws a back-off of a whole number of slot times below 2^min(n, 10). Jabber of the line is
shown until it clears, and the port's own jabber ends the frame. -/
def Obligations.ManagementTransmit : Prop :=
  ∀ (s : State) (f : MgFrame) (r : List MgFrame), s.mg.queue = f :: r →
    let ended (t : State) (code : Nat) := t.mg.queue = r ∧ t.mg.started = none ∧ t.mg.collisions = 0 ∧ t.mg.backoff = none
      ∧ t.fld F.MG_STATUS_TXQ_DEPTH = r.length % 2 ^ F.MG_STATUS_TXQ_DEPTH.w ∧ t = s.mgEnd code
    (s.mgMaySend = false → Sys2Proof.Machine.exec .mgTransmitAttempt s = .next s)
    ∧ (s.mgMaySend = true → s.mgLate f = false → Sys2Proof.Machine.exec .mgTransmitAttempt s = .next (s.setMg { s.mg with started := some s.elapsed }))
    ∧ (s.mgMaySend = true → s.mgLate f = true → ∃ t, Sys2Proof.Machine.exec .mgTransmitAttempt s = .next t ∧ ended t 11)
    ∧ (s.mg.started.isSome = true → ∃ t, Sys2Proof.Machine.exec .mgTransmitEnd s = .next t ∧ t.mg.queue = r ∧ t.mg.started = none ∧ t.mg.collisions = 0
        ∧ .mgFrame (f.bytes ++ leBytes 4 (crc32 0xEDB88320 f.bytes).toNat) true ∈ t.out)
    ∧ (s.mg.started.isSome = true → ∀ sent, ∃ t, Sys2Proof.Machine.exec (.mgCollision sent) s = .next t
        ∧ (512 < sent → t.mg.queue = r ∧ t.mg.started = none ∧ t.fld F.MG_EVENT_LATE_COL = 1)
        ∧ (sent ≤ 512 → s.mg.collisions + 1 = 16 → t.mg.queue = r ∧ t.mg.started = none ∧ t.fld F.MG_EVENT_EXCESS_COL = 1)
        ∧ (sent ≤ 512 → s.mg.collisions + 1 ≠ 16 → t.mg.queue = s.mg.queue ∧ t.mg.started = none ∧ t.mg.collisions = s.mg.collisions + 1
            ∧ ∃ n, n < 2 ^ min (s.mg.collisions + 1) 10 ∧ t.mg.backoff = some (s.elapsed + n * 51200)))
    ∧ (∀ a, s.mg.backoff = some a → a ≤ s.elapsed → Sys2Proof.Machine.exec .backoffEnd s = .next (s.setMg { s.mg with backoff := none }))
    ∧ (s.mgLate f = true → s.mg.started = none → ∃ t, Sys2Proof.Machine.exec (.mgTxTimeout 0) s = .next t ∧ ended t 11)
    ∧ (∀ (n : Fin 16) (g : MgFrame), n ≠ 0 → s.mg.queue[n.val]? = some g → s.mgLate g = true → ∃ t, Sys2Proof.Machine.exec (.mgTxTimeout n) s = .next t
        ∧ t.mg.queue = s.mg.queue.eraseIdx n.val ∧ t.mg.started = s.mg.started ∧ t.mg.backoff = s.mg.backoff)
    ∧ (s.mg.started.isSome = true → ∃ t, Sys2Proof.Machine.exec .ownJabber s = .next t ∧ t.mg.queue = r ∧ t.mg.started = none)
    ∧ (s.flag F.MG_STATUS_JABBER = false → ∃ t, Sys2Proof.Machine.exec .jabber s = .next t ∧ t.fld F.MG_STATUS_JABBER = 1 ∧ t.fld F.MG_EVENT_JABBER = 1 ∧ t.mg = s.mg)
    ∧ (∃ t, Sys2Proof.Machine.exec .jabberClear s = .next t ∧ t.fld F.MG_STATUS_JABBER = 0 ∧ t.mg = s.mg ∧ FldsBut [F.MG_STATUS_JABBER] s t)

/-- R273, R274, R276-R278, R280, R281: a received frame is counted when it is bad, examined by the wake detector in
THERMOS, taken as a message, or handed to host software. A message whose tag fails is rejected. A message interval of
blanking starts and ends, and due synchronisations act; the PLCA settings act at a BEACON or at its loss; listen-only
ends; the WAKE pin begins the exit of THERMOS. -/
def Obligations.ManagementReceive : Prop :=
  ∀ s : State,
    (∀ (l : List Byte) (rxErr tagOk : Bool), s.mode ≠ 9 → (s.flag F.MG_CTRL_EN = false ∨ s.mode = 0 → Sys2Proof.Machine.exec (.mgFrameReceived l rxErr false tagOk) s = .next s)
        ∧ Sys2Proof.Machine.exec (.mgFrameReceived l rxErr true tagOk) s = .next s
        ∧ (s.flag F.MG_CTRL_EN = true → s.mode ≠ 0 →
            let bad := l.length < 64 ∨ 1522 < l.length ∨ rxErr = true ∨ leNat (l.drop (l.length - 4)) ≠ (crc32 0xEDB88320 (l.take (l.length - 4))).toNat
            let mine := s.flag F.MG_ADDR_HI_VALID = true ∧ beNat (l.take 6) = s.mgAddr ∨ beNat (l.take 6) = 2 ^ 48 - 1
              ∨ bit (l.getD 0 0).toNat 0 = true ∧ s.flag F.MG_MAC_CFG_MCAST_EN = true
            let listed := (List.range 16).any fun i => s.flag (F.MG_SRCF_HI_VALID i)
              && s.fld (F.MG_SRCF_HI_ADDR_HI i) * 2 ^ 32 + s.fld (F.MG_SRCF_LO_ADDR_LO i) = beNat (slice l 6 6)
            let isMsg := get16 l 12 = 0x88B5 ∧ s.flag F.MG_CTRL_MSG_EN = true
            (bad → Sys2Proof.Machine.exec (.mgFrameReceived l rxErr false tagOk) s = .next (s.mgCount 0))
            ∧ (¬bad → ¬mine → Sys2Proof.Machine.exec (.mgFrameReceived l rxErr false tagOk) s = .next s)
            ∧ (¬bad → mine → listed ≠ s.flag F.MG_CTRL_SRCF_MODE → Sys2Proof.Machine.exec (.mgFrameReceived l rxErr false tagOk) s = .next (s.mgCount 1))
            ∧ (¬bad → mine → listed = s.flag F.MG_CTRL_SRCF_MODE → ¬isMsg → Sys2Proof.Machine.exec (.mgFrameReceived l rxErr false tagOk) s = .next (s.mgToHost l))
            ∧ (¬bad → mine → listed = s.flag F.MG_CTRL_SRCF_MODE → isMsg → Sys2Proof.Machine.exec (.mgFrameReceived l rxErr false tagOk) s
                = .next (s.mgMessageIn ((l.take (l.length - 4)).drop 14) tagOk))
            ∧ (¬bad → mine → listed = s.flag F.MG_CTRL_SRCF_MODE → isMsg → tagOk = false → ∃ t, Sys2Proof.Machine.exec (.mgFrameReceived l rxErr false tagOk) s = .next t
                ∧ t.fld F.MG_EVENT_MSG_REJECT = 1 ∧ t.fld F.MG_MSG_STAT_LAST_TYPE = s.fld F.MG_MSG_STAT_LAST_TYPE ∧ t.mg.queue = s.mg.queue)))
    ∧ (∀ (l : List Byte) (tagOk : Bool), s.mode = 9 → 64 ≤ l.length → l.length ≤ 1522 → leNat (l.drop (l.length - 4)) = (crc32 0xEDB88320 (l.take (l.length - 4))).toNat →
        Sys2Proof.Machine.exec (.mgFrameReceived l false false tagOk) s = .next (s.wakeFrame l))
    ∧ (s.mg.syncAt.any (· ≤ s.nowNs) = true → ∃ t, Sys2Proof.Machine.exec .syncMessageAct s = .next t ∧ t.mg.syncAt = s.mg.syncAt.filter (· > s.nowNs)
        ∧ t.bs.sync = s.bs.sync ++ [(s.nowNs, 2)])
    ∧ (∀ a b, s.mg.blank = some (a, b) → a ≤ s.nowNs → s.nowNs < b → s.flag F.MG_STATUS_BLANKING = false → ∃ t, Sys2Proof.Machine.exec .blankIntervalStart s = .next t
        ∧ t.fld F.MG_STATUS_BLANKING = 1 ∧ t.flag F.LM_STATUS_BLANKING = true ∧ FldsBut [F.MG_STATUS_BLANKING, F.LM_STATUS_BLANKING] s t)
    ∧ (∀ a b, s.mg.blank = some (a, b) → b ≤ s.nowNs → ∃ t, Sys2Proof.Machine.exec .blankIntervalEnd s = .next t ∧ t.mg.blank = none
        ∧ t.fld F.MG_STATUS_BLANKING = 0 ∧ t.flag F.LM_STATUS_BLANKING = (s.flag F.LM_CFG_BLANK_PIN_EN && s.lm.blankPin != s.flag F.LM_CFG_BLANK_POL)
        ∧ FldsBut [F.MG_STATUS_BLANKING, F.LM_STATUS_BLANKING] s t)
    ∧ (let plca := s.fld F.MG_PLCA_NODE_ID + s.fld F.MG_PLCA_NODE_CNT * 2 ^ 8 + s.fld F.MG_PLCA_TO_TIMER * 2 ^ 16 + s.fld F.MG_PLCA_BURST_CNT * 2 ^ 24
       (s.flag F.MG_STATUS_PLCA_ACTIVE = true → ∃ t, Sys2Proof.Machine.exec .plcaBeaconLoss s = .next t ∧ t.fld F.MG_STATUS_PLCA_ACTIVE = 0 ∧ t.mg = { s.mg with plca := plca }
          ∧ FldsBut [F.MG_STATUS_PLCA_ACTIVE] s t)
       ∧ ∃ t, Sys2Proof.Machine.exec .beacon s = .next t ∧ t.mg = { s.mg with plca := plca } ∧ FldsBut [F.MG_STATUS_PLCA_ACTIVE] s t
          ∧ (s.flag F.MG_CTRL_PLCA_EN = true → s.fld F.MG_PLCA_NODE_ID ≠ 255 → t.fld F.MG_STATUS_PLCA_ACTIVE = 1))
    ∧ (s.listenOnly = true → ∀ i : Instr, i = .mgListenEndWrite ∨ i = .listenEnd ∧ s.mg.listenUntil ≤ s.elapsed → ∃ t, Sys2Proof.Machine.exec i s = .next t
        ∧ t.fld F.MG_STATUS_LISTEN_ONLY = 0 ∧ t.fld F.MG_EVENT_LISTEN_END = 1 ∧ t.mg = s.mg ∧ FldsBut [F.MG_STATUS_LISTEN_ONLY, F.MG_EVENT_LISTEN_END] s t)
    ∧ (s.mode = 9 → s.flag F.MG_WAKE_CFG_PIN_EN = true → ∃ t, Sys2Proof.Machine.exec .wakePin s = .next t ∧ t.fld F.MG_WAKE_STAT_PIN = 1 ∧ t.fld F.MG_EVENT_WAKE = 1
        ∧ t.gl.exitAt.isSome = true ∧ (s.gl.exitAt = none → s.gl.trans = none →
            let w := if s.fld F.PW_CTRL_WAKE_MODE = 15 then s.fld F.GL_MODE_RETURN else s.fld F.PW_CTRL_WAKE_MODE
            w ≠ 9 → w ≠ 10 → t.gl.trans = some ⟨w, true, none, s.elapsed⟩))

/-- R469-R474, R478, R488: MODE_SET starts the transition that the table allows, is done at once for the present mode,
and is refused during a transition or where a condition fails. Egress stops on the way to ISOLATE. The end of a
transition shows the new mode and the one before it; out of THERMOS it is the target, or BOOT. -/
def Obligations.ModeResults : Prop :=
  ∀ s : State,
    (∀ c : HCmd, Plain s c → argMask c [0xF] = true → arg c 0 < 12 →
      let u := s.start c
      let o := s.originOf c 0x02
      (s.gl.trans.isSome = true → Sys2Proof.Machine.exec (.modeSet c) s = .next (u.complete o 6 0x49 []))
      ∧ (s.gl.trans = none → arg c 0 = s.mode → Sys2Proof.Machine.exec (.modeSet c) s = .next (u.complete o 0 0 []))
      ∧ (s.gl.trans = none → s.mode = 1 → arg c 0 = 11 → s.fuse.strapTest = false → Sys2Proof.Machine.exec (.modeSet c) s
          = .next ((u.setFlag F.GL_EVENT_FACTORY_DENIED true).complete o 12 0 []))
      ∧ (s.gl.trans = none → arg c 0 ≠ s.mode → ¬(s.mode = 1 ∧ arg c 0 = 11 ∧ s.fuse.strapTest = false) →
          (u.modeDetail (arg c 0) = 0 → ∃ t, Sys2Proof.Machine.exec (.modeSet c) s = .next t ∧ t.gl.trans = some ⟨arg c 0, false, some o, s.elapsed⟩ ∧ t.regs = s.regs)
          ∧ (u.modeDetail (arg c 0) ≠ 0 → Sys2Proof.Machine.exec (.modeSet c) s = .next (u.complete o 6 (u.modeDetail (arg c 0)) []))))
    ∧ (∀ x, s.gl.trans = some x → x.target = 10 → s.gl.egressOff = false → ∃ t, Sys2Proof.Machine.exec .egressStopped s = .next t
        ∧ t.gl.egressOff = true ∧ t.fld F.TW_STATUS_FENCED = 1 ∧ t.tw.mgFence = [] ∧ t.tw.fabFence = [])
    ∧ (s.gl.trans = none → ∀ tests, Sys2Proof.Machine.exec (.modeChange tests) s = .next s)
    ∧ (∀ x tests, s.gl.trans = some x → s.mode ≠ 9 → ∃ t, Sys2Proof.Machine.exec (.modeChange tests) s = .next t
        ∧ t.mode = x.target % 16 ∧ t.fld F.GL_MODE_PREV = s.mode % 16 ∧ t.fld F.GL_EVENT_MODE_CHANGE = 1
        ∧ (x.target = 8 ∨ x.target = 9 → t.fld F.GL_MODE_RETURN = s.mode % 16) ∧ (s.gl.waiting = [] → t.gl.trans = none)
        ∧ (x.target = 10 → t.gl.egressOff = true) ∧ (serviceMode x.target = true ∨ x.target = 5 → t.gl.released = true))
    ∧ (∀ x tests, s.gl.trans = some x → s.mode = 9 → x.target ≠ 9 → ∃ t, Sys2Proof.Machine.exec (.modeChange tests) s = .next t
        ∧ (t.mode = x.target % 16 ∨ t.mode = 1) ∧ t.fld F.GL_MODE_PREV = 9 ∧ t.fld F.PW_EVENT_THERMOS_EXIT = 1 ∧ t.fld F.GL_EVENT_MODE_CHANGE = 1)

/-- R480-R484, R490-R493: the resets and the power of the device. A warm reset wants its key and stands in HELD until
WARM_DONE brings BOOT; PWR_OK, SYS_RESET_N and PERST_N begin cold ones, PERST_N a reset of the host interface where
the strap or the register does not ask for a cold one; BOOT_READY brings BOOT, with the cores and lanes that passed. A
rail under its threshold is reported; LIVE_EN opens and closes the management side. -/
def Obligations.ResetResults : Prop :=
  ∀ s : State,
    (∀ key : BitVec 8, s.mode ≠ 0 → s.mode ≠ 9 →
        (key ≠ 0xA5 → Sys2Proof.Machine.exec (.warmReset key) s = .next (s.configRefused R.GL_CTRL 8))
        ∧ (key = 0xA5 → ∃ t, Sys2Proof.Machine.exec (.warmReset key) s = .next t ∧ t.mode = 0 ∧ t.gl.warm = true ∧ t.gl.released = false ∧ t.gl.trans = none
            ∧ t.fld F.PW_STATUS_HBM_SR = 1))
    ∧ (∀ tests, s.gl.warm = true → ∃ t, Sys2Proof.Machine.exec (.warmDone tests) s = .next t ∧ t.mode = 1 ∧ t.gl.warm = false ∧ t.fld F.GL_RESET_CAUSE_LAST = 3
        ∧ t.fld F.GL_RESET_CAUSE_WARM_CNT = (s.fld F.GL_RESET_CAUSE_WARM_CNT + 1) % 256 ∧ t.fld F.GL_EVENT_WARM_DONE = 1 ∧ t.fld F.PW_STATUS_HBM_SR = 0)
    ∧ (∀ (straps : BitVec 4) (cause : Nat) (i : Instr),
        (i = .powerOnReset straps ∧ s.flag F.PW_STATUS_PWR_OK = false ∧ cause = (if s.fld F.GL_RESET_CAUSE_LAST = 4 then 4 else 0)
          ∨ i = .sysReset straps ∧ s.flag F.PW_STATUS_PWR_OK = true ∧ cause = 1
          ∨ i = .perst straps ∧ s.flag F.PW_STATUS_PWR_OK = true ∧ s.perstCold = true ∧ cause = 2) →
        ∃ t, Sys2Proof.Machine.exec i s = .next t ∧ t.mode = 0 ∧ t.chans = [] ∧ t.cores = [] ∧ t.hp.hbm = [] ∧ t.hi.jobs = [] ∧ t.fld F.GL_RESET_CAUSE_LAST = cause
          ∧ t.fld F.PW_STATUS_PWR_OK = 1 ∧ t.fld F.PW_STATUS_VCORE_EN = 1 ∧ t.fuse = strapped s.fuse straps.toNat ∧ t.fld F.GL_STRAP_BOOT = bits straps.toNat 0 2)
    ∧ (∀ straps, s.flag F.PW_STATUS_PWR_OK = true → s.perstCold = false → s.mode ≠ 9 → Sys2Proof.Machine.exec (.perst straps) s = .next (s.hostReset 3))
    ∧ (s.flag F.PW_STATUS_PWR_OK = true → ∃ t, Sys2Proof.Machine.exec .pwrOkFall s = .next t ∧ t.mode = 0 ∧ t.chans = [] ∧ t.cores = []
        ∧ t.fld F.GL_RESET_CAUSE_LAST = 4 ∧ t.fld F.PW_STATUS_PWR_OK = 0 ∧ t.fld F.GL_STATUS_LIVE = 0)
    ∧ (∀ tests lanes, s.mode = 0 → s.gl.warm = false → s.flag F.PW_STATUS_PWR_OK = true → ∃ t, Sys2Proof.Machine.exec (.bootReady tests lanes) s = .next t
        ∧ t.mode = 1 ∧ t.fld F.GL_STATUS_BOOT_READY = 1
        ∧ (∀ i, i < 16 → t.fld (F.HP_PC_STAT_LANES_REMAPPED i) = min 2 (nth lanes i))
        ∧ ∀ c, c < s.clusters → bits (tests.getD c 0x3FF).toNat 0 9 = 0x1FF →
            (∀ j, j < 8 → t.fld (F.CO_STATUS_STATE (9 * c + j)) = 1 ∧ t.fld (F.CO_STATUS_MAPPED (9 * c + j)) = 1 ∧ t.fld (F.CO_STATUS_LOGICAL (9 * c + j)) = 8 * c + j)
            ∧ t.fld (F.CO_STATUS_STATE (9 * c + 8)) = 0)
    ∧ (∀ i : Fin 8, s.flag F.PW_STATUS_PWR_OK = true → (i = 2 → s.flag F.PW_STATUS_VCORE_EN = true) → ∃ t, Sys2Proof.Machine.exec (.undervolt i) s = .next t
        ∧ t.fld (F.PW_RAIL_UV i) = 1 ∧ t.fld (F.PW_RAIL_UV_STICKY i) = 1 ∧ t.fld F.PW_EVENT_UNDERVOLT = 1
        ∧ t.fld (F.PW_RAIL_UV_CNT i) = satAdd (F.PW_RAIL_UV_CNT i).w (s.fld (F.PW_RAIL_UV_CNT i)) 1)
    ∧ (∀ i : Fin 8, ∃ t, Sys2Proof.Machine.exec (.undervoltEnd i) s = .next t ∧ t.fld (F.PW_RAIL_UV i) = 0 ∧ FldsBut [F.PW_RAIL_UV i] s t)
    ∧ (s.flag F.PW_STATUS_LIVE_EN = true → ∃ t, Sys2Proof.Machine.exec .liveLost s = .next t ∧ t.fld F.PW_STATUS_LIVE_EN = 0 ∧ t.fld F.GL_STATUS_LIVE = 0
        ∧ t.mg.queue = s.mg.queue ∧ (s.flag F.PW_STATUS_PWR_OK = true → s.mg.queue ≠ [] → t.mg.started = none) ∧ (s.flag F.PW_STATUS_PWR_OK = true → t.fld F.GL_EVENT_LIVE_LOST = 1))
    ∧ (s.flag F.PW_STATUS_LIVE_EN = false → ∃ t, Sys2Proof.Machine.exec .liveBack s = .next t ∧ t.fld F.PW_STATUS_LIVE_EN = 1
        ∧ t.fld F.GL_STATUS_LIVE = b2n (s.flag F.PW_STATUS_PWR_OK) ∧ (s.flag F.PW_STATUS_PWR_OK = true → t.fld F.MG_STATUS_LISTEN_ONLY = 1
          ∧ t.fld F.GL_EVENT_LIVE_BACK = 1 ∧ t.mg.listenUntil = s.elapsed + s.fld F.MG_LISTEN_LISTEN_MS * 1000000))

/-- R215, R485-R488, R491: an accepted container is loaded into every enabled cluster in BOOT, from the host or from
the flash, with its patch map and its version; one that is not accepted is refused with its status. A firmware
exchange past its checks drains cluster 0 first. The step in progress goes on: a drained cluster is loaded, a loaded
one is tested, a tested one goes back to service and the next one drains, and a failed test takes the cluster out and
suspends the exchange. -/
def Obligations.ImageResults : Prop :=
  ∀ s : State,
    (∀ (b : List (BitVec 8)) (sig : Bool), s.fuse.strapBoot = 1 → s.mode = 1 → ∃ t, Sys2Proof.Machine.exec (.qspiBootLoad b sig) s = .next t
        ∧ (s.imgAccepted b sig = true → t.gl.accepted = true ∧ t.gl.block0 = true ∧ t.fld F.PW_IMAGE_CURRENT = imgVersion b % 2 ^ 24
            ∧ t.fld F.GL_BOOT_STAT_STATUS = 0 ∧ ∀ k, k < s.clusters → t.fld (F.PW_FWX_VERSION k) = imgVersion b % 2 ^ 24
              ∧ ∀ i, i < 512 → mget 0 t.mem.patch (k * 512 + i) = imgPatch b i)
        ∧ (s.imgAccepted b sig = false → t.fld F.GL_EVENT_BOOT_FAIL = 1 ∧ t.fld F.GL_BOOT_STAT_STATUS = 12 ∧ t.mem = s.mem ∧ t.gl = s.gl))
    ∧ (∀ (c : HCmd) (sig : Bool), Plain s c → bufMask c [] = true → s.mode = 1 → Sys2Proof.Machine.exec (.patchLoad c sig) s
        = .next (if s.imgAccepted (bufBytes c) sig then ((s.start c).loadAll (bufBytes c) 1).complete (s.originOf c 0x06) 0 0 []
          else ((s.start c).imgChecked (bufBytes c) false 1).complete (s.originOf c 0x06) 12 0 []))
    ∧ (∀ (c : HCmd) (sig : Bool), StartsJob s c 0x60 1 (fun _ => true) → bufMask c [] = true → s.imgAccepted (bufBytes c) sig = true →
        bits (imgVersion (bufBytes c)) 16 8 = bits ((s.start c).romRead 0 0).toNat 16 8 → s.gl.curPage.isSome = true → s.gl.newPage.isSome = true →
        ∃ t, Sys2Proof.Machine.exec (.fwExchange c sig) s = .next t
          ∧ t.gl.fwx = some ⟨cmdHandle c, s.originOf c 0x60, false, 1, 0, 0, false⟩ ∧ (t.job (cmdHandle c)).isSome = true)
    ∧ ∀ (x : Fwx) (test : BitVec 11) (ok : Bool), s.gl.fwx = some x → x.suspended = false → x.cluster < s.clusters →
        (x.phase = 0 → s.runs.any (fun r => r.1 / 9 = x.cluster) = false → ∃ t, Sys2Proof.Machine.exec (.fwxStepEnd test ok) s = .next t
          ∧ t.gl.fwx = some { x with phase := 1, suspended := false } ∧ t.fld (F.PW_CL_STATE x.cluster) = 5 ∧ t.fld (F.PW_FWX_IMAGE x.cluster) = 2)
        ∧ (x.phase = 1 → ∃ t, Sys2Proof.Machine.exec (.fwxStepEnd test ok) s = .next t ∧ t.gl.fwx = some { x with phase := 2 }
          ∧ t.fld (F.PW_CL_STATE x.cluster) = 6)
        ∧ (x.phase = 2 → ok = true → ∃ t, Sys2Proof.Machine.exec (.fwxStepEnd test ok) s = .next t ∧ t.gl.fwx = some { x with phase := 3 }
          ∧ ∀ k ∈ coresOf x.cluster, (t.core k).pc = 0 ∧ (t.core k).run = none)
        ∧ (x.phase = 2 → ok = false → ∃ t, Sys2Proof.Machine.exec (.fwxStepEnd test ok) s = .next t ∧ t.gl.fwx = some { x with suspended := true }
          ∧ t.fld (F.PW_CL_STATE x.cluster) = 0)
        ∧ (∀ j, x.phase = 3 → x.rollback = false → x.cluster + 1 < s.clusters → s.job x.handle = some j → j.st = .running →
          ∃ t, Sys2Proof.Machine.exec (.fwxStepEnd test ok) s = .next t
            ∧ t.gl.fwx = some { x with step := x.cluster + 2, cluster := x.cluster + 1, phase := 0, suspended := false }
            ∧ t.fld (F.PW_FWX_IMAGE x.cluster) = 1)

/-- R496-R504: in mode LANTERN an opcode written while neither BUSY nor DONE is set is accepted: BUSY is set, the
effect takes place and the result waits. Otherwise it is ignored and counted, and outside the mode it changes nothing.
A channel number past 239 gives BAD_CHANNEL; NOP and GET_VERSION answer; CH_OPEN opens the channel with its slot;
CH_CLOSE begins its end; CH_SET_IP, CH_GAIN and CH_EC change it; CH_STATS and EVT_READ answer, in order. The
completion shows results, status and DONE, and the read that returns DONE clears it. -/
def Obligations.LanternResults : Prop :=
  ∀ s : State,
    let rows : List (Nat × Instr) := [(0x00, .mailboxNop), (0x01, .getVersion), (0x10, .lanternChOpen), (0x11, .lanternChClose), (0x12, .chSetIp), (0x13, .chGain),
      (0x14, .chEc), (0x15, .chStats), (0x20, .evtRead)]
    let go := s.mode = 7 ∧ s.flag F.LN_MBX_STAT_BUSY = false ∧ s.flag F.LN_MBX_STAT_DONE = false
    let u (op : Nat) := (s.setFld F.LN_MBX_CMD_OPCODE op).setFlag F.LN_MBX_STAT_BUSY true
    let put (t : State) (op : Nat) (l : List Nat) : State := { t with ln := { t.ln with cmd := some (op, l) } }
    let n := s.lnArg 0
    (∀ x ∈ rows, (s.mode ≠ 7 → Sys2Proof.Machine.exec x.2 s = .next s)
        ∧ (s.mode = 7 → s.flag F.LN_MBX_STAT_BUSY = true ∨ s.flag F.LN_MBX_STAT_DONE = true → Sys2Proof.Machine.exec x.2 s = .next (s.mailboxIgnored x.1))
        ∧ (go → 0x10 ≤ x.1 → x.1 ≤ 0x15 → 239 < n → Sys2Proof.Machine.exec x.2 s = .next (put (u x.1) x.1 [2, 0, 0, 0, 0, n])))
    ∧ (go → Sys2Proof.Machine.exec .mailboxNop s = .next (put (u 0) 0 [0, 0, 0, 0, 0, n]))
    ∧ (go → Sys2Proof.Machine.exec .getVersion s = .next (put (u 1) 1 [0, 0x0240, (s.romRead 0 0).toNat / 65536, (s.romRead 0 0).toNat % 65536, 0, n]))
    ∧ (let r := basicReq n 1 false 2 0 (n % 40) true
       go → n ≤ 239 → s.lnArg 1 ≤ 15 → s.lnArg 2 ≤ 511 → s.lnArg 3 ≤ 1 → lanternTail (s.lnArg 4) = true → ∀ home ctx, (u 0x10).openChecks r = .ok (home, ctx) →
        s.slotRejects (s.lnArg 1) (s.lnArg 2) (n + s.lnArg 3 * 2 ^ 13 + 2 ^ 15 + 2 ^ 16) = false → ∃ t, Sys2Proof.Machine.exec .lanternChOpen s = .next t
          ∧ t.ln.cmd = some (0x10, [0, home, 0, 0, 0, n]) ∧ t.flag F.LN_MBX_STAT_BUSY = true
          ∧ ∃ c, t.chan n = some c ∧ c.st = .opened ∧ c.lantern = true ∧ c.profile = 1 ∧ c.home = home ∧ c.ctx = ctx ∧ c.stagger = n % 40)
    ∧ (∀ c, go → n ≤ 239 → s.chan n = some c → c.lantern = true → c.st ≠ .closing →
        (Sys2Proof.Machine.exec .lanternChClose s = .next (put ((u 0x11).beginClose n none) 0x11 [0, 0, 0, 0, 0, n]))
        ∧ (s.lnArg 5 < 4 → ∀ r st, (u 0x12).lanternSetIp n = (r, st, []) → Sys2Proof.Machine.exec .chSetIp s = .next (put r 0x12 [st, 0, 0, 0, 0, n]))
        ∧ (s.lnArg 1 ≤ 48 → s.lnArg 2 ≤ 48 → Sys2Proof.Machine.exec .chGain s = .next (put ((u 0x13).setCtxWord c 42
              (unsgn 12 ((s.lnArg 1 - 24 : Int) * 5) + unsgn 12 ((s.lnArg 2 - 24 : Int) * 5) * 2 ^ 16)) 0x13 [0, 0, 0, 0, 0, n]))
        ∧ (lanternTail (s.lnArg 1) = true → s.lnArg 2 < 2 → Sys2Proof.Machine.exec .chEc s = .next (put ((u 0x14).setCtxWord c 40
              (setBits (setBits (s.ctxWord c 40) 0 8 (s.lnArg 1)) 8 2 (2 * s.lnArg 2))) 0x14 [0, 0, 0, 0, 0, n]))
        ∧ (s.lnArg 1 = 0 → Sys2Proof.Machine.exec .chStats s = .next (put (u 0x15) 0x15 [0, nth c.stats 0, nth c.stats 1, nth c.stats 2, nth c.stats 3, n]))
        ∧ (s.lnArg 1 = 1 → Sys2Proof.Machine.exec .chStats s
            = .next (put ((u 0x15).setChan n { c with stats := [] }) 0x15 [0, nth c.stats 0, nth c.stats 1, nth c.stats 2, nth c.stats 3, n])))
    ∧ (go → s.ln.fifo = [] → Sys2Proof.Machine.exec .evtRead s = .next (put (u 0x20) 0x20 [8, 0, 0, 0, 0, n]))
    ∧ (∀ e r, go → s.ln.fifo = e :: r → ∃ t, Sys2Proof.Machine.exec .evtRead s = .next t ∧ t.ln.fifo = r
        ∧ t.ln.cmd = some (0x20, [0, e.1, e.2.1, e.2.2, r.length, n]) ∧ t.flag F.LN_MBX_STAT_BUSY = true)
    ∧ (∀ op l, s.ln.cmd = some (op, l) → s.mailboxDue = true → ∃ t, Sys2Proof.Machine.exec .mailboxCompletion s = .next t ∧ t.ln.cmd = none
        ∧ t.fld F.LN_MBX_STAT_BUSY = 0 ∧ t.fld F.LN_MBX_STAT_DONE = 1 ∧ t.fld F.LN_EVENT_DONE = 1
        ∧ t.fld F.LN_MBX_STAT_RESULT = nth l 0 % 2 ^ F.LN_MBX_STAT_RESULT.w ∧ t.fld F.LN_MBX_STAT_OPCODE = op % 64
        ∧ ∀ i, i < 4 → t.fld (F.LN_MBX_RES_RES i) = nth l (1 + i) % 2 ^ (F.LN_MBX_RES_RES i).w)
    ∧ ∃ t, Sys2Proof.Machine.exec .lnMbxStatRead s = .next t ∧ t.lastRead = s.mailboxStat
        ∧ (s.mode = 7 → bit s.mailboxStat 14 = true → t.fld F.LN_MBX_STAT_DONE = 0) ∧ (s.mode ≠ 7 → t.lastRead = 0) ∧ FldsBut [F.LN_MBX_STAT_DONE] s t
end

