-- ==== Sys2Proof/Laws/Channels.lean ====
section
/-! SUPPORT. What holds of the graphs that the device builds for its basic profiles. -/
set_option Elab.async false
namespace Sys2Proof.Machine

theorem profileWords_four (profile : Nat) (ip : Bool) (frame mirror : Nat) :
    nth (profileWords profile ip frame mirror) 4
      = (Config.profileGraph profile ip frame mirror 4).toNat / 16 * 16 + profileSlots profile ip frame mirror := by
  simp [nth, profileWords, List.getD]

theorem profileSlots_bound (profile : Nat) (ip : Bool) (frame mirror : Nat) :
    profileSlots profile ip frame mirror = 0 ∨ (4 ≤ profileSlots profile ip frame mirror ∧ profileSlots profile ip frame mirror ≤ 9
      ∧ (frame = 0 → 5 ≤ profileSlots profile ip frame mirror)) := by
  unfold profileSlots
  split
  · next k _ => have := k.isLt; right; split <;> omega
  · exact .inl rfl

/-- The default parameters of a basic profile keep the jitter-buffer limit of R222. -/
theorem basicOk_basicReq (n profile : Nat) (ip : Bool) (frame mirror stagger : Nat) (lantern : Bool) :
    basicOk (basicReq n profile ip frame mirror stagger lantern) = true := by
  have h := profileSlots_bound profile ip frame mirror
  have j : (graphOf (profileWords profile ip frame mirror)).jbLog2 = profileSlots profile ip frame mirror := by
    show bits (nth (profileWords profile ip frame mirror) 4) 0 4 = _
    rw [profileWords_four]; unfold bits; omega
  have w : bits (nth (defaultParams profile) 5) 16 8 = 120 := by simp [defaultParams, nth, bits]
  simp only [basicOk, basicReq, jbLimitOk, j, w]
  rcases h with h | ⟨h4, _, h5⟩
  · simp [h]
  · simp only [Bool.or_eq_true, decide_eq_true_eq]; right
    by_cases f : frame = 0
    · subst f
      have : 2 ^ 5 ≤ 2 ^ profileSlots profile ip 0 mirror := Nat.pow_le_pow_right (by omega) (h5 rfl)
      omega
    · have a : 2 ^ 4 ≤ 2 ^ profileSlots profile ip frame mirror := Nat.pow_le_pow_right (by omega) h4
      have b : 2 ^ 1 ≤ 2 ^ frame := Nat.pow_le_pow_right (by omega) (by omega)
      calc 120 ≤ 15 * (5 * 2 ^ 1) := by decide
        _ ≤ (2 ^ profileSlots profile ip frame mirror - 1) * (5 * 2 ^ frame) := Nat.mul_le_mul (by omega) (by omega)

end Sys2Proof.Machine
end

