-- ==== Sys2Proof/Laws/Maps.lean ====
section
/-! SUPPORT. Laws of the sparse maps: reading back what was written, and the canonical form that every operation keeps. -/
set_option Elab.async false
namespace Sys2Proof.Machine

variable {α : Type}

@[simp] theorem mfind_mput_same (m : SMap α) (a : Nat) (x : α) : mfind (mput m a x) a = some x := by
  induction m with
  | nil => simp [mput, mfind]
  | cons e r ih =>
    obtain ⟨k, v⟩ := e
    simp only [mput]
    split
    · simp [mfind]
    · split
      · simp [mfind]
      · have : ¬k = a := fun h => by omega
        simp [mfind, this, ih]

theorem mfind_mput_ne (m : SMap α) {a b : Nat} (x : α) (h : b ≠ a) : mfind (mput m a x) b = mfind m b := by
  induction m with
  | nil => simp [mput, mfind, Ne.symm h]
  | cons e r ih =>
    obtain ⟨k, v⟩ := e
    simp only [mput]
    split
    · simp [mfind, Ne.symm h]
    · split
      · have hk : ¬k = b := fun e => by omega
        simp [mfind, Ne.symm h, hk]
      · by_cases hk : k = b <;> simp [mfind, hk, ih]

@[simp] theorem mfind_mdel_same (m : SMap α) (a : Nat) : mfind (mdel m a) a = none := by
  induction m with
  | nil => rfl
  | cons e r ih =>
    obtain ⟨k, v⟩ := e
    by_cases h : k = a <;> simp [mdel, mfind, h, ih]

theorem mfind_mdel_ne (m : SMap α) {a b : Nat} (h : b ≠ a) : mfind (mdel m a) b = mfind m b := by
  induction m with
  | nil => rfl
  | cons e r ih =>
    obtain ⟨k, v⟩ := e
    by_cases hk : k = a
    · have : ¬k = b := fun e => by omega
      simp [mdel, mfind, hk, ih, Ne.symm h]
    · by_cases hb : k = b
      · subst hb; simp [mdel, mfind, hk]
      · simp [mdel, mfind, hk, hb, ih]

/-- A value written is the value read. -/
@[simp] theorem mget_mset_same [DecidableEq α] (d : α) (m : SMap α) (a : Nat) (x : α) : mget d (mset d m a x) a = x := by
  unfold mget mset
  split <;> simp_all

/-- A write leaves every other key alone. -/
theorem mget_mset_ne [DecidableEq α] (d e : α) (m : SMap α) {a b : Nat} (x : α) (h : b ≠ a) :
    mget e (mset d m a x) b = mget e m b := by
  unfold mget mset
  split
  · rw [mfind_mdel_ne m h]
  · rw [mfind_mput_ne m x h]

@[simp] theorem mget_mput_same (d : α) (m : SMap α) (a : Nat) (x : α) : mget d (mput m a x) a = x := by
  simp [mget]

theorem mget_mput_ne (d : α) (m : SMap α) {a b : Nat} (x : α) (h : b ≠ a) : mget d (mput m a x) b = mget d m b := by
  simp [mget, mfind_mput_ne m x h]

@[simp] theorem mget_mdel_same (d : α) (m : SMap α) (a : Nat) : mget d (mdel m a) a = d := by simp [mget]

theorem mget_mdel_ne (d : α) (m : SMap α) {a b : Nat} (h : b ≠ a) : mget d (mdel m a) b = mget d m b := by
  simp [mget, mfind_mdel_ne m h]

/-- The canonical form: keys strictly rising, no entry equal to the default. -/
theorem mwf_iff [DecidableEq α] (d : α) (m : SMap α) :
    mwf d m = true ↔ m.Pairwise (fun x y => x.1 < y.1) ∧ ∀ e ∈ m, e.2 ≠ d := by
  match m with
  | [] => simp [mwf]
  | [(k, v)] => simp [mwf]
  | (k, v) :: (k', v') :: r =>
    have ih := mwf_iff d ((k', v') :: r)
    simp only [mwf, Bool.and_eq_true, decide_eq_true_eq, ih, List.pairwise_cons, List.mem_cons, forall_eq_or_imp]
    constructor
    · rintro ⟨⟨hv, hk⟩, ⟨h1, h2⟩, h3, h4⟩
      exact ⟨⟨⟨hk, fun e he => Nat.lt_trans hk (h1 e he)⟩, h1, h2⟩, hv, h3, h4⟩
    · rintro ⟨⟨⟨hk, _⟩, h1, h2⟩, hv, h3, h4⟩
      exact ⟨⟨hv, hk⟩, ⟨h1, h2⟩, h3, h4⟩

theorem mwf_filter [DecidableEq α] {d : α} {m : SMap α} (p : Nat × α → Bool) (h : mwf d m = true) :
    mwf d (m.filter p) = true := by
  rw [mwf_iff] at h ⊢
  exact ⟨h.1.filter _, fun e he => h.2 e ((List.mem_filter.1 he).1)⟩

theorem mdel_eq_filter (m : SMap α) (a : Nat) : mdel m a = m.filter fun e => decide (e.1 ≠ a) := by
  induction m with
  | nil => rfl
  | cons e r ih =>
    obtain ⟨k, v⟩ := e
    by_cases h : k = a <;> simp [mdel, h, ih]

theorem mwf_mdel [DecidableEq α] {d : α} {m : SMap α} (a : Nat) (h : mwf d m = true) : mwf d (mdel m a) = true := by
  rw [mdel_eq_filter]; exact mwf_filter _ h

theorem mem_mput {m : SMap α} {a : Nat} {x : α} {e : Nat × α} (h : e ∈ mput m a x) : e = (a, x) ∨ e ∈ m := by
  induction m with
  | nil => simp_all [mput]
  | cons y r ih =>
    obtain ⟨k, v⟩ := y
    simp only [mput] at h
    split at h
    · simp_all
    · split at h
      · rcases List.mem_cons.1 h with h | h
        · exact .inl h
        · exact .inr (List.mem_cons_of_mem _ h)
      · simp only [List.mem_cons] at h ⊢
        rcases h with h | h
        · exact .inr (.inl h)
        · rcases ih h with h | h
          · exact .inl h
          · exact .inr (.inr h)

theorem mput_rises {m : SMap α} (a : Nat) (x : α) (h : m.Pairwise (fun x y => x.1 < y.1)) :
    (mput m a x).Pairwise (fun x y => x.1 < y.1) := by
  induction m with
  | nil => simp [mput]
  | cons y r ih =>
    obtain ⟨k, v⟩ := y
    have hr := List.pairwise_cons.1 h
    simp only [mput]
    split
    · rename_i hk
      refine List.pairwise_cons.2 ⟨fun e he => ?_, h⟩
      rcases List.mem_cons.1 he with rfl | he
      · exact hk
      · exact Nat.lt_trans hk (hr.1 e he)
    · split
      · rename_i _ hk
        subst hk
        exact List.pairwise_cons.2 ⟨hr.1, hr.2⟩
      · refine List.pairwise_cons.2 ⟨fun e he => ?_, ih hr.2⟩
        rcases mem_mput he with rfl | he
        · show k < a
          omega
        · exact hr.1 e he

theorem mwf_mput [DecidableEq α] {d : α} {m : SMap α} (a : Nat) {x : α} (hx : x ≠ d) (h : mwf d m = true) :
    mwf d (mput m a x) = true := by
  rw [mwf_iff] at h ⊢
  refine ⟨mput_rises a x h.1, fun e he => ?_⟩
  rcases mem_mput he with rfl | he
  · exact hx
  · exact h.2 e he

/-- A write keeps the canonical form. -/
theorem mwf_mset [DecidableEq α] {d : α} {m : SMap α} (a : Nat) (x : α) (h : mwf d m = true) : mwf d (mset d m a x) = true := by
  unfold mset
  split
  · exact mwf_mdel a h
  · rename_i hx
    exact mwf_mput a hx h

/-- Writes one after another keep the canonical form. -/
theorem mwf_foldl [DecidableEq α] {β : Type} {d : α} {l : List β} {f : SMap α → β → SMap α} {m : SMap α}
    (hf : ∀ m b, b ∈ l → mwf d m = true → mwf d (f m b) = true) (h : mwf d m = true) : mwf d (l.foldl f m) = true := by
  induction l generalizing m with
  | nil => exact h
  | cons b l ih =>
    exact ih (fun m c hc => hf m c (List.mem_cons_of_mem _ hc)) (hf m b (List.mem_cons_self ..) h)

theorem mput_mput (m : SMap α) (a : Nat) (x y : α) : mput (mput m a x) a y = mput m a y := by
  induction m with
  | nil => simp [mput]
  | cons e r ih =>
    obtain ⟨k, v⟩ := e
    simp only [mput]
    split
    · simp [mput]
    · rename_i h1
      split
      · simp [mput]
      · rename_i h2
        simp only [mput, if_neg h1, if_neg h2, ih]

theorem mdel_mput (m : SMap α) (a : Nat) (x : α) : mdel (mput m a x) a = mdel m a := by
  induction m with
  | nil => simp [mput, mdel]
  | cons e r ih =>
    obtain ⟨k, v⟩ := e
    simp only [mput]
    split
    · simp [mdel]
    · split
      · rename_i h; simp [mdel, h]
      · rename_i h; simp [mdel, ih]

/-- The later of two writes under one key is the one that stands. -/
theorem mset_mset [DecidableEq α] (d : α) (m : SMap α) (a : Nat) {x : α} (y : α) (hx : x ≠ d) : mset d (mset d m a x) a y = mset d m a y := by
  unfold mset
  rw [if_neg hx]
  split
  · exact mdel_mput _ _ _
  · exact mput_mput _ _ _ _

end Sys2Proof.Machine
end

