-- ==== Sys2Proof/Laws/Core.lean ====
section
/-! SUPPORT. The registers of a Dziul core: what a bit of SR, a register and a memory read after each of the writes that instructions
make, and the step to the next instruction. -/
set_option Elab.async false

namespace Sys2Proof.Machine

/-! ## Bits of SR -/

theorem bit_eq_testBit (v i : Nat) : bit v i = v.testBit i := by
  simp [bit, Nat.testBit_eq_decide_div_mod_eq]

theorem setBits_one (v i : Nat) (b : Bool) : setBits v i 1 (b2n b) = 2 ^ i * (v / 2 ^ i - v / 2 ^ i % 2 + b2n b) + v % 2 ^ i := by
  have hb : b2n b % 2 = b2n b := by cases b <;> rfl
  have h := Nat.div_add_mod v (2 ^ i)
  have hm := Nat.mod_le (v / 2 ^ i) 2
  simp only [setBits, bits, Nat.pow_one]
  rw [hb, Nat.mul_add, Nat.mul_sub, Nat.mul_comm (v / 2 ^ i % 2), Nat.mul_comm (b2n b)]
  have := Nat.mul_le_mul_left (2 ^ i) hm
  omega

theorem testBit_setBits_one (v i j : Nat) (b : Bool) : (setBits v i 1 (b2n b)).testBit j = if j = i then b else v.testBit j := by
  rw [setBits_one, Nat.testBit_two_pow_mul_add _ (Nat.mod_lt _ (Nat.two_pow_pos i))]
  have hev : (v / 2 ^ i - v / 2 ^ i % 2) = 2 * (v / 2 ^ i / 2) := by omega
  split
  · rename_i h
    rw [if_neg (by omega), Nat.testBit_mod_two_pow]; simp [h]
  · rename_i h
    rw [hev]
    by_cases hj : j = i
    · subst hj
      simp only [Nat.sub_self, if_true, Nat.testBit_zero]
      cases b <;> simp [b2n] <;> omega
    · rw [if_neg hj]
      obtain ⟨m, rfl⟩ : ∃ m, j = i + 1 + m := ⟨j - i - 1, by omega⟩
      have e1 : i + 1 + m - i = m + 1 := by omega
      rw [e1, Nat.testBit_succ]
      have e2 : (2 * (v / 2 ^ i / 2) + b2n b) / 2 = v / 2 ^ i / 2 := by cases b <;> simp [b2n] <;> omega
      rw [e2, Nat.div_div_eq_div_mul, ← Nat.pow_succ, Nat.testBit_div_two_pow]
      congr 1; omega

@[simp] theorem srBit_srSet (sr : W24) (i j : Nat) (b : Bool) (hj : j < 24) : srBit (srSet sr i b) j = if j = i then b else srBit sr j := by
  have h := testBit_setBits_one sr.toNat i j b
  simp only [srBit, srSet, bit_eq_testBit, BitVec.toNat_ofNat, Nat.testBit_mod_two_pow, hj, decide_true, Bool.true_and]
  exact h

/-! ## Banks and registers -/

@[simp] theorem Core.setBank_bank (c : Core) (b : Bank) : (c.setBank b).bank = b := by
  unfold Core.setBank Core.bank; split <;> simp_all

@[simp] theorem Core.setBank_bl (c : Core) (b : Bank) : (c.setBank b).bl = c.bl := by unfold Core.setBank; split <;> rfl
@[simp] theorem Core.setBank_ovt (c : Core) (b : Bank) : (c.setBank b).ovt = c.ovt := by unfold Core.setBank; split <;> rfl
@[simp] theorem Core.setBank_xm (c : Core) (b : Bank) : (c.setBank b).xm = c.xm := by unfold Core.setBank; split <;> rfl
@[simp] theorem Core.setBank_ym (c : Core) (b : Bank) : (c.setBank b).ym = c.ym := by unfold Core.setBank; split <;> rfl
@[simp] theorem Core.setBank_cm (c : Core) (b : Bank) : (c.setBank b).cm = c.cm := by unfold Core.setBank; split <;> rfl
@[simp] theorem Core.setBank_pc (c : Core) (b : Bank) : (c.setBank b).pc = c.pc := by unfold Core.setBank; split <;> rfl
@[simp] theorem Core.setBank_slots (c : Core) (b : Bank) : (c.setBank b).slots = c.slots := by unfold Core.setBank; split <;> rfl
@[simp] theorem Core.setBank_branch (c : Core) (b : Bank) : (c.setBank b).branch = c.branch := by unfold Core.setBank; split <;> rfl
@[simp] theorem Core.setBank_stack (c : Core) (b : Bank) : (c.setBank b).stack = c.stack := by unfold Core.setBank; split <;> rfl
@[simp] theorem Core.setBank_run (c : Core) (b : Bank) : (c.setBank b).run = c.run := by unfold Core.setBank; split <;> rfl
@[simp] theorem Core.setBank_gvReq (c : Core) (b : Bank) : (c.setBank b).gvReq = c.gvReq := by unfold Core.setBank; split <;> rfl
@[simp] theorem Core.setBank_inShadow (c : Core) (b : Bank) : (c.setBank b).inShadow = c.inShadow := by unfold Core.setBank; split <;> rfl

@[simp] theorem Core.setSr_sr (c : Core) (v : W24) : (c.setSr v).sr = v := by simp [Core.setSr, Core.sr]

@[simp] theorem Core.newest_setSr (c : Core) (v : W24) (r : Nat) : (c.setSr v).newest r = if r = 0x50 then v.toNat else c.newest r := by
  simp only [Core.newest, Core.setSr, Core.sr, Core.setBank_bank, Core.setBank_bl, Core.setBank_ovt]
  simp only [rcIsA, Bool.and_eq_true, decide_eq_true_eq]
  repeat' split
  all_goals first | rfl | omega

@[simp] theorem Core.newest_win (c : Core) (w : List Hz) (r : Nat) : ({ c with win := w } : Core).newest r = c.newest r := rfl
@[simp] theorem Core.newest_pc (c : Core) (v r : Nat) : ({ c with pc := v } : Core).newest r = c.newest r := rfl
@[simp] theorem Core.newest_note (c : Core) (a r : Nat) (h : HzClass) : (c.note a h).newest r = c.newest r := rfl
@[simp] theorem Core.note_sr (c : Core) (a : Nat) (h : HzClass) : (c.note a h).sr = c.sr := rfl
@[simp] theorem Core.note_bank (c : Core) (a : Nat) (h : HzClass) : (c.note a h).bank = c.bank := rfl

theorem Core.newest_congr {c c' : Core} {r : Nat} (h1 : 0x10 ≤ r → r < 0x18 → mget 0 c.bank.a (r - 0x10) = mget 0 c'.bank.a (r - 0x10))
    (h2 : 0x40 ≤ r → r < 0x50 → mget 0 c.bl r = mget 0 c'.bl r) (h3 : r = 0x50 → c.bank.sr = c'.bank.sr) (h4 : r = 0x51 → c.bank.lc = c'.bank.lc)
    (h5 : r = 0x52 → c.bank.ls = c'.bank.ls) (h6 : r = 0x53 → c.bank.le = c'.bank.le) (h7 : r = 0x54 → c.ovt = c'.ovt)
    (h8 : r < 0x10 ∨ 0x18 ≤ r → r < 0x40 ∨ 0x55 ≤ r → mget 0 c.bank.r r = mget 0 c'.bank.r r) : c.newest r = c'.newest r := by
  unfold Core.newest
  simp only [rcIsA, Bool.and_eq_true, decide_eq_true_eq, Core.sr]
  split
  · rw [h1 (by omega) (by omega)]
  split
  · rw [h2 (by omega) (by omega)]
  split
  · rw [h3 ‹_›]
  split
  · rw [h4 ‹_›]
  split
  · rw [h5 ‹_›]
  split
  · rw [h6 ‹_›]
  split
  · rw [h7 ‹_›]
  · rw [h8 (by omega) (by omega)]

/-- A write of a register leaves every whole register but its own as it was. -/
theorem Core.newest_put_ne (c : Core) (d r v : Nat) (hd : rcValid d = true) (hr : rcIsPart r = false) (h : rcHome d ≠ r) :
    (c.put d v).newest r = c.newest r := by
  simp only [rcValid, decide_eq_true_eq] at hd
  have hr' : ¬(0x18 ≤ r ∧ r < 0x30) := by simpa [rcIsPart] using hr
  have hh : ¬(0x18 ≤ d ∧ d < 0x30) → d ≠ r := fun e => by simpa [rcHome, rcIsPart, e] using h
  have hp' : 0x18 ≤ d ∧ d < 0x30 → 0x10 + d % 8 ≠ r := fun e => by simpa [rcHome, rcIsPart, e] using h
  clear h hr
  unfold Core.put
  dsimp only
  simp only [rcIsA, rcIsPart, Bool.and_eq_true, decide_eq_true_eq]
  split
  · apply Core.newest_congr <;> intros <;> first | (simp only [Core.setBank_bank]; rw [mget_mset_ne]; omega) | simp
  split
  · apply Core.newest_congr <;> intros <;> first | (simp only [Core.setBank_bank]; rw [mget_mset_ne]; omega) | simp
  have hn := hh ‹_›
  split
  · apply Core.newest_congr <;> intros <;> first | (rw [mget_mset_ne]; omega) | rfl
  split
  · rw [Core.newest_setSr, if_neg (by omega)]
  split
  · apply Core.newest_congr <;> intros <;> first | omega | simp
  split
  · apply Core.newest_congr <;> intros <;> first | omega | simp
  split
  · apply Core.newest_congr <;> intros <;> first | omega | simp
  split
  · apply Core.newest_congr <;> intros <;> first | omega | rfl
  · apply Core.newest_congr <;> intros <;> first | (simp only [Core.setBank_bank]; rw [mget_mset_ne]; omega) | simp

/-! ## Parts of accumulators -/

theorem testBit_bits (v lo w j : Nat) : (bits v lo w).testBit j = (decide (j < w) && v.testBit (lo + j)) := by
  simp [bits, Nat.testBit_mod_two_pow, Nat.testBit_div_two_pow, Nat.add_comm]

theorem setBits_eq (v lo w x : Nat) :
    setBits v lo w x = 2 ^ (lo + w) * (v / 2 ^ (lo + w)) + (2 ^ lo * (x % 2 ^ w) + v % 2 ^ lo) := by
  have h1 := Nat.div_add_mod v (2 ^ lo)
  have h2 := Nat.div_add_mod (v / 2 ^ lo) (2 ^ w)
  have e : v / 2 ^ lo / 2 ^ w = v / 2 ^ (lo + w) := by rw [Nat.div_div_eq_div_mul, Nat.pow_add]
  rw [e] at h2
  have h3 : 2 ^ lo * (2 ^ w * (v / 2 ^ (lo + w)) + v / 2 ^ lo % 2 ^ w) = 2 ^ lo * (v / 2 ^ lo) := by rw [h2]
  rw [Nat.mul_add, ← Nat.mul_assoc, ← Nat.pow_add] at h3
  simp only [setBits, bits]
  rw [Nat.mul_comm (v / 2 ^ lo % 2 ^ w), Nat.mul_comm (x % 2 ^ w)]
  omega

theorem testBit_setBits (v lo w x j : Nat) :
    (setBits v lo w x).testBit j = if lo ≤ j ∧ j < lo + w then x.testBit (j - lo) else v.testBit j := by
  have hlt : v % 2 ^ lo < 2 ^ lo := Nat.mod_lt _ (Nat.two_pow_pos lo)
  have hx : x % 2 ^ w < 2 ^ w := Nat.mod_lt _ (Nat.two_pow_pos w)
  have hb : 2 ^ lo * (x % 2 ^ w) + v % 2 ^ lo < 2 ^ (lo + w) := by
    rw [Nat.pow_add]
    calc 2 ^ lo * (x % 2 ^ w) + v % 2 ^ lo < 2 ^ lo * (x % 2 ^ w) + 2 ^ lo := by omega
      _ = 2 ^ lo * (x % 2 ^ w + 1) := by rw [Nat.mul_add, Nat.mul_one]
      _ ≤ 2 ^ lo * 2 ^ w := Nat.mul_le_mul_left _ hx
  rw [setBits_eq, Nat.testBit_two_pow_mul_add _ hb, Nat.testBit_two_pow_mul_add _ hlt]
  by_cases h1 : j < lo
  · rw [if_pos (by omega), if_pos h1, if_neg (by omega), Nat.testBit_mod_two_pow]; simp [h1]
  · by_cases h2 : j < lo + w
    · rw [if_pos h2, if_neg h1, if_pos ⟨by omega, h2⟩, Nat.testBit_mod_two_pow]
      simp; omega
    · rw [if_neg h2, if_neg (by omega), Nat.testBit_div_two_pow]
      congr 1; omega

theorem bits_setBits_same (v lo w x : Nat) : bits (setBits v lo w x) lo w = x % 2 ^ w := by
  apply Nat.eq_of_testBit_eq
  intro j
  rw [testBit_bits, testBit_setBits, Nat.testBit_mod_two_pow]
  by_cases h : j < w
  · rw [if_pos (by omega)]; simp [h]
  · simp [h]

theorem bits_setBits_ne (v lo w x lo' w' : Nat) (h : lo' + w' ≤ lo ∨ lo + w ≤ lo') : bits (setBits v lo w x) lo' w' = bits v lo' w' := by
  apply Nat.eq_of_testBit_eq
  intro j
  rw [testBit_bits, testBit_bits, testBit_setBits]
  by_cases hj : j < w'
  · rw [if_neg (by omega)]
  · simp [hj]

theorem bits_mod (v lo w n : Nat) (h : lo + w ≤ n) : bits (v % 2 ^ n) lo w = bits v lo w := by
  apply Nat.eq_of_testBit_eq
  intro j
  rw [testBit_bits, testBit_bits, Nat.testBit_mod_two_pow]
  by_cases hj : j < w
  · simp [show lo + j < n by omega]
  · simp [hj]

/-! ## What a register reads after a write -/

/-- The value of accumulator `n` as a write of one of its parts leaves it. -/
def accPut (a r v : Nat) : Nat := if r < 0x20 then setBits a 24 24 v else if r < 0x28 then setBits a 0 24 v else setBits a 48 8 v

theorem Core.newest_acc (c : Core) (n : Nat) (h : n < 8) : c.newest (0x10 + n) = (mget 0 c.bank.a n).toNat := by
  have h2 : rcIsA (0x10 + n) = true := by simp [rcIsA]; omega
  simp only [Core.newest, h2, if_true]
  congr 3; omega

theorem Core.newest_put_part (c : Core) (r v : Nat) (h : rcIsPart r = true) :
    (c.put r v).newest (rcHome r) = accPut (c.newest (rcHome r)) r v % 2 ^ 56 := by
  have hp : 0x18 ≤ r ∧ r < 0x30 := by simpa [rcIsPart] using h
  have ha : rcIsA r = false := by simp [rcIsA]; omega
  have hh : rcHome r = 0x10 + r % 8 := by simp [rcHome, h]
  rw [hh, Core.newest_acc _ _ (Nat.mod_lt _ (by decide)), Core.newest_acc _ _ (Nat.mod_lt _ (by decide))]
  unfold Core.put
  simp [h, ha, accPut, BitVec.toNat_ofNat]

theorem Core.newest_lt (c : Core) (n : Nat) (h : n < 8) : c.newest (0x10 + n) < 2 ^ 56 := by
  rw [Core.newest_acc c n h]; exact BitVec.isLt _

theorem accPart_accPut (a d v r : Nat) (hd : rcIsPart d = true) (hr : rcIsPart r = true) (h : rcHome r = rcHome d) :
    accPart (accPut a d v % 2 ^ 56) r = if r = d then regStored d v else accPart a r := by
  have hd' : 0x18 ≤ d ∧ d < 0x30 := by simpa [rcIsPart] using hd
  have hr' : 0x18 ≤ r ∧ r < 0x30 := by simpa [rcIsPart] using hr
  have hm : r % 8 = d % 8 := by simp [rcHome, hd, hr] at h; exact h
  have hA : rcIsA d = false := by simp [rcIsA]; omega
  have h1 : ¬(d = 0x52 ∨ d = 0x53) := by omega
  simp only [accPart, accPut, regStored, hA, if_neg h1]
  rw [bits_mod _ _ _ _ (by decide), bits_mod _ _ _ _ (by decide), bits_mod _ _ _ _ (by decide)]
  by_cases d1 : d < 0x20
  · rw [if_pos d1]
    by_cases r1 : r < 0x20
    · rw [if_pos r1, if_pos (show r = d by omega), bits_setBits_same]; simp; intros; omega
    · rw [if_neg r1, if_neg (show ¬r = d by omega), if_neg r1, bits_setBits_ne _ _ _ _ _ _ (by omega), bits_setBits_ne _ _ _ _ _ _ (by omega)]
  · rw [if_neg d1]
    by_cases d2 : d < 0x28
    · rw [if_pos d2]
      by_cases r1 : r < 0x20
      · rw [if_pos r1, if_neg (show ¬r = d by omega), if_pos r1, bits_setBits_ne _ _ _ _ _ _ (by omega)]
      · rw [if_neg r1]
        by_cases r2 : r < 0x28
        · rw [if_pos r2, if_pos (show r = d by omega), bits_setBits_same]; simp; intros; omega
        · rw [if_neg r2, if_neg (show ¬r = d by omega), if_neg r1, if_neg r2, bits_setBits_ne _ _ _ _ _ _ (by omega)]
    · rw [if_neg d2]
      by_cases r1 : r < 0x20
      · rw [if_pos r1, if_neg (show ¬r = d by omega), if_pos r1, bits_setBits_ne _ _ _ _ _ _ (by omega)]
      · rw [if_neg r1]
        by_cases r2 : r < 0x28
        · rw [if_pos r2, if_neg (show ¬r = d by omega), if_neg r1, if_pos r2, bits_setBits_ne _ _ _ _ _ _ (by omega)]
        · rw [if_neg r2, if_pos (show r = d by omega), bits_setBits_same]; simp [show 40 ≤ d by omega, show d < 48 by omega]

/-- A register reads what a write of it stored. -/
theorem Core.reg_put_same (c : Core) (d v : Nat) (hd : rcValid d = true) (hsr : d ≠ 0x50) : (c.put d v).reg d = regStored d v := by
  have hd' : d < 0x55 := by simpa [rcValid] using hd
  unfold Core.reg
  split
  · rename_i hp
    rw [Core.newest_put_part _ _ _ hp, accPart_accPut _ _ _ _ hp hp rfl, if_pos rfl]
  · rename_i hp
    have hp' : ¬(0x18 ≤ d ∧ d < 0x30) := by simpa [rcIsPart] using hp
    unfold Core.put regStored
    dsimp only
    simp only [if_neg hp]
    split
    · rename_i ha
      have hA : 0x10 ≤ d ∧ d < 0x18 := by simpa [rcIsA] using ha
      simp [Core.newest, ha]
    · rename_i ha
      have hA : ¬(0x10 ≤ d ∧ d < 0x18) := by simpa [rcIsA] using ha
      rw [if_neg (show ¬(0x28 ≤ d ∧ d < 0x30) by omega)]
      split
      · rename_i hb
        rw [if_neg (by omega)]
        simp [Core.newest, ha, hb]
      · rename_i hb
        split
        · subst d; simp [Core.newest, rcIsA]
        split
        · subst d; simp [Core.newest, rcIsA]
        split
        · subst d; simp [Core.newest, rcIsA]
        split
        · subst d; simp [Core.newest, rcIsA]
        · rw [if_neg (by omega)]
          simp only [Core.newest, ha, if_neg hb, Core.setBank_bank, mget_mset_same, BitVec.toNat_ofNat]
          simp [*]

/-- A write of a register leaves every other one that shares no bits with it. -/
theorem Core.reg_put_ne (c : Core) (d v r : Nat) (hd : rcValid d = true) (h : overlaps r d = false) : (c.put d v).reg r = c.reg r := by
  simp only [overlaps, Bool.or_eq_false_iff, Bool.and_eq_false_iff, decide_eq_false_iff_not] at h
  obtain ⟨⟨h1, h2⟩, h3⟩ := h
  unfold Core.reg
  split
  · rename_i hr
    by_cases hh : rcHome d = rcHome r
    · by_cases hp : rcIsPart d = true
      · rw [← hh, Core.newest_put_part _ _ _ hp, accPart_accPut _ _ _ _ hp hr hh.symm, if_neg h1]
      · have : rcHome d = d := by simp [rcHome, hp]
        rw [this] at hh
        have h4 : rcIsA d = true := by
          rw [hh]; simp [rcHome, hr, rcIsA]; omega
        simp [h4, ← hh] at h2
    · have hr' : 0x18 ≤ r ∧ r < 0x30 := by simpa [rcIsPart] using hr
      rw [Core.newest_put_ne _ _ _ _ hd _ hh]
      simp [rcHome, hr', rcIsPart]; omega
  · rename_i hr
    apply Core.newest_put_ne _ _ _ _ hd (by simpa using hr)
    intro hh
    by_cases hp : rcIsPart d = true
    · have h4 : rcIsA r = true := by
        rw [← hh]; simp [rcHome, hp, rcIsA]; omega
      simp [h4, hh] at h3
    · exact h1 (by rw [← hh]; simp [rcHome, hp])

@[simp] theorem Core.reg_setSr (c : Core) (v : W24) (r : Nat) (h : r ≠ 0x50) : (c.setSr v).reg r = c.reg r := by
  unfold Core.reg
  rw [Core.newest_setSr, Core.newest_setSr, if_neg h]
  split
  · rename_i hp
    rw [if_neg]
    simp [rcHome, hp]; omega
  · rfl

@[simp] theorem Core.reg_win (c : Core) (w : List Hz) (r : Nat) : ({ c with win := w } : Core).reg r = c.reg r := rfl
@[simp] theorem Core.reg_note (c : Core) (a r : Nat) (h : HzClass) : (c.note a h).reg r = c.reg r := rfl

theorem Core.put_rest (c : Core) (d v : Nat) : (c.put d v).pc = c.pc ∧ (c.put d v).slots = c.slots ∧ (c.put d v).branch = c.branch
    ∧ (c.put d v).stack = c.stack ∧ (c.put d v).xm = c.xm ∧ (c.put d v).ym = c.ym ∧ (c.put d v).cm = c.cm ∧ (c.put d v).run = c.run := by
  unfold Core.put Core.setSr
  dsimp only
  repeat' split
  all_goals simp

theorem Core.put_sr (c : Core) (d v : Nat) (h : d ≠ 0x50) : (c.put d v).sr = c.sr := by
  unfold Core.put
  dsimp only
  repeat' split
  all_goals first | contradiction | rfl | simp [Core.sr]

/-! ## The step to the next instruction -/

/-- A core as a straight instruction leaves it: the next word, the windows one instruction older. -/
def Core.next (c : Core) : Core := ({ c with slots := 0, pc := c.pc + 2 } : Core).ageWin

@[simp] theorem Core.next_newest (c : Core) (r : Nat) : c.next.newest r = c.newest r := rfl
@[simp] theorem Core.next_reg (c : Core) (r : Nat) : c.next.reg r = c.reg r := rfl
@[simp] theorem Core.next_sr (c : Core) : c.next.sr = c.sr := rfl
@[simp] theorem Core.next_pc (c : Core) : c.next.pc = c.pc + 2 := rfl
@[simp] theorem Core.next_stack (c : Core) : c.next.stack = c.stack := rfl
@[simp] theorem Core.next_xm (c : Core) : c.next.xm = c.xm := rfl
@[simp] theorem Core.next_ym (c : Core) : c.next.ym = c.ym := rfl
@[simp] theorem Core.next_cm (c : Core) : c.next.cm = c.cm := rfl

theorem Core.finish_straight (c0 c : Core) (w : W48) (hl : c0.looping = false) (hs : c.slots = 0) (hb : c.branch = none) :
    c0.finish c w = c.next := by
  have h1 : c0.fill c w = c := by simp [Core.fill, hl]
  unfold Core.finish
  rw [h1]
  unfold Core.advance Core.next
  simp [hs, hb, hl]

/-- A straight instruction whose body succeeds without touching the flow of control. -/
theorem State.dziul_straight {s : State} {k : Fin 144} {op : Nat} {f : BitVec 40} {body : BitVec 40 → Ctx → Except DErr Ctx} {x : Ctx}
    (h : Straight s k op f) (hb : body f (s.ctx k) = .ok x) (h0 : x.c0 = s.core k) (hs : x.c.slots = 0) (hbr : x.c.branch = none)
    (hpc : x.c.pc = (s.core k).pc) :
    s.dziul k op f body = ({ s with mem := { s.mem with csm := x.csm } } : State).setCore k x.c.next := by
  obtain ⟨h1, h2, h3, h4, h5, h6⟩ := h
  have hi : injected x = none := by simp [injected, h0, h2]
  unfold State.dziul
  simp only [h1, if_true, hb, hi]
  unfold State.endInstr
  have e : (({ s with mem := { s.mem with csm := x.csm } } : State).core k) = s.core k := rfl
  have hn : x.c.next.slots = 0 := rfl
  have hn2 : x.c.next.branch = none := hbr
  simp only [e, Core.finish_straight _ _ _ h5 hs hbr, hn, hn2]
  rw [if_neg]
  simp only [Core.next_pc, hpc]; omega

theorem coreStep_of_dziul {s : State} {k : Fin 144} {op : Nat} {f : BitVec 40} {body : BitVec 40 → Ctx → Except DErr Ctx} {x : Ctx} {i : Instr}
    {P : Core → Core → Prop} (he : exec i s = .next (s.dziul k op f body))
    (h : Straight s k op f) (hb : body f (s.ctx k) = .ok x) (h0 : x.c0 = s.core k) (hcsm : x.csm = s.mem.csm) (hs : x.c.slots = (s.core k).slots)
    (hbr : x.c.branch = (s.core k).branch) (hpc : x.c.pc = (s.core k).pc) (hst : x.c.stack = (s.core k).stack) (hm : KeepsMem (s.core k) x.c)
    (hP : P (s.core k) x.c.next) : CoreStep i k s P := by
  refine ⟨x.c.next, ?_, by simp [hpc], by simp [hst], hm, hP⟩
  rw [he, State.dziul_straight h hb h0 (hs.trans h.2.2.1) (hbr.trans h.2.2.2.1) hpc, hcsm]

end Sys2Proof.Machine
end

