-- ==== Sys2Proof/Laws/Dziul.lean ====
section
/-! SUPPORT. What the instructions of a Dziul core leave, body by body: results of 24 bits, results in accumulators, lists of register
writes, moves. A statement about an instruction cites the step lemma of its shape. -/
set_option Elab.async false

namespace Sys2Proof.Machine

theorem rc24_valid {d} (h : rc24 d = true) : rcValid d = true ∧ d ≠ 0x50 ∧ rcIsA d = false := by
  simp [rc24] at h; simp [rcValid, rcIsA]; omega

theorem srZN_bits (old : W24) (v : Nat) : SrBits [(srZ, decide (v % 2 ^ 24 = 0)), (srN, bit v 23)] old (srZN old v) := by
  intro i hi
  simp only [srZN, srBit_srSet _ _ _ _ hi, List.find?]
  by_cases h1 : i = srN
  · subst h1; simp [srZ, srN]
  · by_cases h2 : i = srZ
    · subst h2; simp [srZ, srN]
    · simp [h1, h2, Ne.symm h1, Ne.symm h2]

theorem aluWrite_done {x : Ctx} {d v : Nat} (acc : Bool) (h : rc24 d = true) (h0 : x.c = x.c0) : AluDone d v x.c0 (aluWrite x d v acc).c.next := by
  obtain ⟨h1, h2, _⟩ := rc24_valid h
  unfold aluWrite Core.wr
  dsimp only
  refine ⟨?_, ?_, ?_⟩
  · rw [Core.next_reg, Core.reg_setSr _ _ _ h2, Core.reg_put_same _ _ _ h1 h2]
  · intro r hr hs ho
    rw [Core.next_reg, Core.reg_setSr _ _ _ hs, Core.reg_put_ne _ _ _ _ h1 (ho d (by simp)), Core.reg_note, h0]
  · rw [Core.next_sr, Core.setSr_sr, Core.put_sr _ _ _ h2, Core.note_sr, h0]
    exact srZN_bits _ _

theorem aluStep {s : State} {k : Fin 144} {op f} {body} {i} {d v} {acc : Bool} (hx : exec i s = .next (s.dziul k.val op f body)) (hS : Straight s k op f)
    (hd : rc24 d = true) (hb : body f (s.ctx k) = .ok (aluWrite (s.ctx k) d v acc)) : CoreStep i k s (AluDone d v) := by
  have hp := Core.put_rest (((s.ctx k).c).note d (moveClass (s.ctx k).c0 d acc)) d v
  refine coreStep_of_dziul hx hS hb rfl rfl ?_ ?_ ?_ ?_ ?_ (aluWrite_done acc hd rfl)
  all_goals simp only [aluWrite, Core.wr, Core.setSr, Core.setBank_slots, Core.setBank_branch, Core.setBank_pc, Core.setBank_stack, KeepsMem,
    Core.setBank_xm, Core.setBank_ym, Core.setBank_cm]
  · exact hp.2.1
  · exact hp.2.2.1
  · exact hp.1
  · exact hp.2.2.2.1
  · exact ⟨hp.2.2.2.2.1, hp.2.2.2.2.2.1, hp.2.2.2.2.2.2.1⟩

theorem rcIsA_valid {d} (h : rcIsA d = true) : rcValid d = true ∧ d ≠ 0x50 := by
  simp [rcIsA] at h; simp [rcValid]; omega

theorem regStored_acc {d v} (h : rcIsA d = true) : regStored d v = v % 2 ^ 56 := by simp [regStored, h]

theorem srAcc_bits (old : W24) (c v : Bool) (val : Int) :
    SrBits [(srC, c), (srV, v), (srZ, decide (val = 0)), (srN, decide (val < 0)), (srE, outOfFrac val)] old (srAcc old c v val) := by
  intro i hi
  simp only [srAcc, srBit_srSet _ _ _ _ hi, List.find?]
  by_cases h1 : i = 0
  · subst h1; simp [srC, srV, srZ, srN, srE]
  by_cases h2 : i = 1
  · subst h2; simp [srC, srV, srZ, srN, srE]
  by_cases h3 : i = 2
  · subst h3; simp [srC, srV, srZ, srN, srE]
  by_cases h4 : i = 3
  · subst h4; simp [srC, srV, srZ, srN, srE]
  by_cases h5 : i = 4
  · subst h5; simp [srC, srV, srZ, srN, srE]
  · simp [srC, srV, srZ, srN, srE, h1, h2, h3, h4, h5, Ne.symm h1, Ne.symm h2, Ne.symm h3, Ne.symm h4, Ne.symm h5]

/-- What a sticky GV leaves of a core: GV and the GV traps. -/
theorem Core.stickGV_view (c c0 : Core) (b : Bool) : (∀ r, r ≠ 0x50 → (Core.stickGV c c0 b).reg r = c.reg r)
    ∧ (Core.stickGV c c0 b).sr = (if b then srSet c.sr srGV true else c.sr) ∧ (Core.stickGV c c0 b).pc = c.pc ∧ (Core.stickGV c c0 b).slots = c.slots
    ∧ (Core.stickGV c c0 b).branch = c.branch ∧ (Core.stickGV c c0 b).stack = c.stack ∧ KeepsMem c (Core.stickGV c c0 b) := by
  have key : let c1 := c.setSr (srSet c.sr srGV true)
      (∀ r, r ≠ 0x50 → c1.reg r = c.reg r) ∧ c1.sr = srSet c.sr srGV true ∧ c1.pc = c.pc ∧ c1.slots = c.slots ∧ c1.branch = c.branch
        ∧ c1.stack = c.stack ∧ KeepsMem c c1 := by
    refine ⟨fun r hr => Core.reg_setSr c _ r hr, Core.setSr_sr c _, ?_, ?_, ?_, ?_, ?_⟩ <;> simp [Core.setSr, KeepsMem]
  cases b
  · exact ⟨fun _ _ => rfl, rfl, rfl, rfl, rfl, rfl, rfl, rfl, rfl⟩
  · unfold Core.stickGV
    simp only [if_true]
    split
    · split <;> exact key
    · exact key

theorem accWrite_done {x : Ctx} {d : Nat} (o : AccOut) (m : Bool) (h : rcIsA d = true) (h0 : x.c = x.c0) :
    AccDone d o.val o.carry o.clamp x.c0 (accWrite x d o m).c.next := by
  obtain ⟨h1, h2⟩ := rcIsA_valid h
  obtain ⟨g1, g2, _⟩ := Core.stickGV_view ((x.c.wr d o.val .arith).setSr (srAcc (x.c.wr d o.val .arith).sr o.carry o.clamp (accInt o.val))) x.c0 o.clamp
  unfold accWrite
  dsimp only
  refine ⟨?_, ?_, ?_⟩
  · rw [Core.next_reg, g1 _ h2, Core.reg_setSr _ _ _ h2, Core.wr, Core.reg_put_same _ _ _ h1 h2, regStored_acc h]
  · intro r hr hs ho
    rw [Core.next_reg, g1 _ hs, Core.reg_setSr _ _ _ hs, Core.wr, Core.reg_put_ne _ _ _ _ h1 (ho d (by simp)), Core.reg_note, h0]
  · rw [Core.next_sr, g2]
    have e : ((x.c.wr d o.val .arith).setSr (srAcc (x.c.wr d o.val .arith).sr o.carry o.clamp (accInt o.val))).sr
        = srAcc x.c0.sr o.carry o.clamp (accInt o.val) := by
      rw [Core.setSr_sr, Core.wr, Core.put_sr _ _ _ h2, Core.note_sr, h0]
    rw [e]
    intro i hi
    have hb := srAcc_bits x.c0.sr o.carry o.clamp (accInt o.val) i hi
    by_cases h6 : i = 6
    · subst h6
      simp [srC, srV, srZ, srN, srE, srGV] at hb ⊢
      cases hc : o.clamp
      · simpa [hc] using hb
      · simp
    · have : srBit (if o.clamp = true then srSet (srAcc x.c0.sr o.carry o.clamp (accInt o.val)) srGV true
          else srAcc x.c0.sr o.carry o.clamp (accInt o.val)) i = srBit (srAcc x.c0.sr o.carry o.clamp (accInt o.val)) i := by
        split
        · rw [srBit_srSet _ _ _ _ hi, if_neg (by simpa [srGV] using h6)]
        · rfl
      rw [this, hb]
      have h7 : decide (srGV = i) = false := decide_eq_false (Ne.symm h6)
      simp only [List.find?, h7]
      try rcases decide (srC = i) <;> rcases decide (srV = i) <;> rcases decide (srZ = i) <;> rcases decide (srN = i) <;> rcases decide (srE = i) <;> rfl

theorem accStep {s : State} {k : Fin 144} {op f} {body} {i} {d} {o : AccOut} {m : Bool} (hx : exec i s = .next (s.dziul k.val op f body))
    (hS : Straight s k op f) (hd : rcIsA d = true) (hb : body f (s.ctx k) = .ok (accWrite (s.ctx k) d o m)) :
    CoreStep i k s (AccDone d o.val o.carry o.clamp) := by
  have hp := Core.put_rest (((s.ctx k).c).note d .arith) d o.val
  obtain ⟨_, _, g1, g2, g3, g4, g5⟩ := Core.stickGV_view (((s.ctx k).c.wr d o.val .arith).setSr (srAcc ((s.ctx k).c.wr d o.val .arith).sr o.carry o.clamp
    (accInt o.val))) (s.ctx k).c0 o.clamp
  refine coreStep_of_dziul hx hS hb rfl rfl ?_ ?_ ?_ ?_ ?_ (accWrite_done o m hd rfl)
  · exact g2.trans (by simp only [Core.wr, Core.setSr, Core.setBank_slots]; exact hp.2.1)
  · exact g3.trans (by simp only [Core.wr, Core.setSr, Core.setBank_branch]; exact hp.2.2.1)
  · exact g1.trans (by simp only [Core.wr, Core.setSr, Core.setBank_pc]; exact hp.1)
  · exact g4.trans (by simp only [Core.wr, Core.setSr, Core.setBank_stack]; exact hp.2.2.2.1)
  · obtain ⟨m1, m2, m3⟩ := g5
    exact ⟨m1.trans (by simp only [Core.wr, Core.setSr, Core.setBank_xm]; exact hp.2.2.2.2.1),
      m2.trans (by simp only [Core.wr, Core.setSr, Core.setBank_ym]; exact hp.2.2.2.2.2.1),
      m3.trans (by simp only [Core.wr, Core.setSr, Core.setBank_cm]; exact hp.2.2.2.2.2.2.1)⟩

/-- A run of register writes, then SR. -/
theorem writes_view (c : Core) (l : List (Nat × Nat × HzClass)) (hv : ∀ e ∈ l, rcValid e.1 = true ∧ e.1 ≠ 0x50) :
    let c' := l.foldl (fun (c : Core) e => c.wr e.1 e.2.1 e.2.2) c
    (∀ r, rcValid r = true → r ≠ 0x50 → (∀ e ∈ l, overlaps r e.1 = false) → c'.reg r = c.reg r) ∧ c'.sr = c.sr ∧ c'.pc = c.pc ∧ c'.slots = c.slots
      ∧ c'.branch = c.branch ∧ c'.stack = c.stack ∧ KeepsMem c c' := by
  induction l generalizing c with
  | nil => simp [KeepsMem]
  | cons e l ih =>
    obtain ⟨h1, h2⟩ := hv e (by simp)
    have hp := Core.put_rest (c.note e.1 e.2.2) e.1 e.2.1
    obtain ⟨i1, i2, i3, i4, i5, i6, i7⟩ := ih (c.wr e.1 e.2.1 e.2.2) fun x hx => hv x (by simp [hx])
    refine ⟨fun r hr hs ho => ?_, ?_, i3.trans hp.1, i4.trans hp.2.1, i5.trans hp.2.2.1, i6.trans hp.2.2.2.1, ?_⟩
    · rw [List.foldl_cons, i1 r hr hs fun x hx => ho x (by simp [hx]), Core.wr, Core.reg_put_ne _ _ _ _ h1 (ho e (by simp)), Core.reg_note]
    · rw [List.foldl_cons, i2, Core.wr, Core.put_sr _ _ _ h2, Core.note_sr]
    · obtain ⟨m1, m2, m3⟩ := i7
      exact ⟨m1.trans hp.2.2.2.2.1, m2.trans hp.2.2.2.2.2.1, m3.trans hp.2.2.2.2.2.2.1⟩

theorem srAcc_gv (old : W24) (c v : Bool) (val : Int) : srBit (srAcc old c v val) srGV = srBit old srGV := by
  simp [srAcc, srC, srV, srZ, srN, srE, srGV]

theorem norm_bits (old : W24) (v : Int) :
    SrBits [(srV, false), (srZ, decide (v = 0)), (srN, decide (v < 0)), (srE, outOfFrac v)] old
      (srSet (srSet (srSet (srSet old srV false) srZ (decide (v = 0))) srN (decide (v < 0))) srE (outOfFrac v)) := by
  intro i hi
  simp only [srBit_srSet _ _ _ _ hi, List.find?]
  by_cases h2 : i = 1
  · subst h2; simp [srV, srZ, srN, srE]
  by_cases h3 : i = 2
  · subst h3; simp [srV, srZ, srN, srE]
  by_cases h4 : i = 3
  · subst h4; simp [srV, srZ, srN, srE]
  by_cases h5 : i = 4
  · subst h5; simp [srV, srZ, srN, srE]
  · simp [srV, srZ, srN, srE, h2, h3, h4, h5, Ne.symm h2, Ne.symm h3, Ne.symm h4, Ne.symm h5]

theorem rsb_lt (w v : Nat) (h : 0 < w) : rsb w v < w := by
  unfold rsb
  have := (List.takeWhile_sublist (fun x => x == bit v (w - 1)) (l := (List.range (w - 1)).map fun i => bit v (w - 2 - i))).length_le
  rw [List.length_map, List.length_range] at this
  show List.length _ < _
  omega

theorem unsgn24_small (n : Nat) (h : n < 24) : unsgn 24 (n : Int) = n := by
  unfold unsgn
  rw [Int.emod_eq_of_lt (by omega) (by simp; omega)]; rfl

/-- Register writes, in order, then perhaps SR: what a straight instruction made of them does. -/
theorem writesStep {s : State} {k : Fin 144} {op f} {body} {i} (l : List (Nat × Nat × HzClass)) (sr : W24) {P : Core → Core → Prop}
    (hx : exec i s = .next (s.dziul k.val op f body)) (hS : Straight s k op f) (hv : ∀ e ∈ l, rcValid e.1 = true ∧ e.1 ≠ 0x50)
    {x : Ctx} (hb : body f (s.ctx k) = .ok x) (h0 : x.c0 = s.core k) (hcsm : x.csm = s.mem.csm)
    (hc : x.c = (l.foldl (fun (c : Core) e => c.wr e.1 e.2.1 e.2.2) (s.core k.val)).setSr sr ∨
      x.c = l.foldl (fun (c : Core) e => c.wr e.1 e.2.1 e.2.2) (s.core k.val) ∧ sr = (s.core k.val).sr)
    (hP : ∀ c', (∀ r, r ≠ 0x50 → c'.reg r = (l.foldl (fun (c : Core) e => c.wr e.1 e.2.1 e.2.2) (s.core k.val)).reg r) →
      (∀ r, rcValid r = true → r ≠ 0x50 → (∀ e ∈ l, overlaps r e.1 = false) → c'.reg r = (s.core k.val).reg r) → c'.sr = sr →
      P (s.core k.val) c') : CoreStep i k s P := by
  obtain ⟨w1, w2, w3, w4, w5, w6, w7⟩ := writes_view (s.core k.val) l hv
  rcases hc with hc | ⟨hc, hsr⟩
  · refine coreStep_of_dziul hx hS hb h0 hcsm ?_ ?_ ?_ ?_ ?_ (hP _ ?_ ?_ ?_) <;> rw [hc]
    · simp only [Core.setSr, Core.setBank_slots]; exact w4
    · simp only [Core.setSr, Core.setBank_branch]; exact w5
    · simp only [Core.setSr, Core.setBank_pc]; exact w3
    · simp only [Core.setSr, Core.setBank_stack]; exact w6
    · simp only [Core.setSr, KeepsMem, Core.setBank_xm, Core.setBank_ym, Core.setBank_cm]; exact w7
    · intro r hr; rw [Core.next_reg, Core.reg_setSr _ _ _ hr]
    · intro r hv hr ho; rw [Core.next_reg, Core.reg_setSr _ _ _ hr]; exact w1 r hv hr ho
    · rw [Core.next_sr, Core.setSr_sr]
  · refine coreStep_of_dziul hx hS hb h0 hcsm ?_ ?_ ?_ ?_ ?_ (hP _ ?_ ?_ ?_) <;> rw [hc]
    · exact w4
    · exact w5
    · exact w3
    · exact w6
    · exact w7
    · intro r _; rfl
    · intro r hv hr ho; exact w1 r hv hr ho
    · rw [Core.next_sr, w2, hsr]

theorem reg_wr_same (c : Core) (d v : Nat) (cls : HzClass) (h1 : rcValid d = true) (h2 : d ≠ 0x50) : (c.wr d v cls).reg d = regStored d v := by
  rw [Core.wr, Core.reg_put_same _ _ _ h1 h2]

theorem reg_wr_ne (c : Core) (d v r : Nat) (cls : HzClass) (h1 : rcValid d = true) (h2 : overlaps r d = false) : (c.wr d v cls).reg r = c.reg r := by
  rw [Core.wr, Core.reg_put_ne _ _ _ _ h1 h2, Core.reg_note]

/-- What a step in the flow of control needs of the core that a body leaves. -/
theorem coreStep_same {s : State} {k : Fin 144} {op f} {body} {i} {c' : Core} {P : Core → Core → Prop} {x : Ctx}
    (hx : exec i s = .next (s.dziul k.val op f body)) (hS : Straight s k op f) (hb : body f (s.ctx k) = .ok x)
    (h0 : x.c0 = s.core k) (hcsm : x.csm = s.mem.csm) (hc : x.c = c')
    (h1 : c'.slots = (s.core k).slots) (h2 : c'.branch = (s.core k).branch) (h3 : c'.pc = (s.core k).pc) (h4 : c'.stack = (s.core k).stack)
    (h5 : KeepsMem (s.core k) c') (hP : P (s.core k) c'.next) : CoreStep i k s P := by
  subst hc; exact coreStep_of_dziul hx hS hb h0 hcsm h1 h2 h3 h4 h5 hP

theorem reg_put_sr (c : Core) (v r : Nat) (h : r ≠ 0x50) : (c.put 0x50 v).reg r = c.reg r := by
  simp only [Core.put, rcIsA, rcIsPart]; exact Core.reg_setSr _ _ _ h

theorem sr_put_sr (c : Core) (v : Nat) : (c.put 0x50 v).sr = srWrite c.sr v := by
  simp only [Core.put, rcIsA, rcIsPart]; exact Core.setSr_sr _ _

theorem movedStep {s : State} {k : Fin 144} {op f} {body} {i} {d src v w} {lv : Bool}
    (hx : exec i s = .next (s.dziul k.val op f body)) (hS : Straight s k op f) (hv : rcValid d = true)
    (hb : body f (s.ctx k) = .ok (moveTo (s.ctx k) d src v)) (hc : convert (s.core k) d src v = (w, lv)) (hlv : d = 0x50 → lv = false) :
    CoreStep i k s (Moved d w lv) := by
  have hp := Core.put_rest ((s.core k).note d (moveClass (s.core k) d (rcIsA src || rcIsPart src))) d w
  have hm : (moveTo (s.ctx k) d src v).c = ((s.core k).wr d w (moveClass (s.core k) d (rcIsA src || rcIsPart src))).stickLV lv := by
    simp only [moveTo, show (s.ctx k).c0 = s.core k from rfl, show (s.ctx k).c = s.core k from rfl, hc]
  have hst : ∀ (c : Core), (c.stickLV lv).slots = c.slots ∧ (c.stickLV lv).branch = c.branch ∧ (c.stickLV lv).pc = c.pc
      ∧ (c.stickLV lv).stack = c.stack ∧ (c.stickLV lv).xm = c.xm ∧ (c.stickLV lv).ym = c.ym ∧ (c.stickLV lv).cm = c.cm
      ∧ (∀ r, r ≠ 0x50 → (c.stickLV lv).reg r = c.reg r) ∧ (c.stickLV lv).sr = if lv then srSet c.sr srLV true else c.sr := by
    intro c
    unfold Core.stickLV
    cases lv
    · simp
    · refine ⟨?_, ?_, ?_, ?_, ?_, ?_, ?_, fun r hr => Core.reg_setSr _ _ _ hr, ?_⟩ <;> simp [Core.setSr, Core.sr]
  obtain ⟨a1, a2, a3, a4, a5, a6, a7, a8, a9⟩ := hst ((s.core k).wr d w (moveClass (s.core k) d (rcIsA src || rcIsPart src)))
  refine coreStep_same hx hS hb rfl rfl hm (a1.trans hp.2.1) (a2.trans hp.2.2.1) (a3.trans hp.1) (a4.trans hp.2.2.2.1)
    ⟨a5.trans hp.2.2.2.2.1, a6.trans hp.2.2.2.2.2.1, a7.trans hp.2.2.2.2.2.2.1⟩ ⟨?_, ?_⟩
  · intro r hr hs ho
    rw [Core.next_reg, a8 _ hs, Core.wr, Core.reg_put_ne _ _ _ _ hv (ho d (by simp)), Core.reg_note]
  · split
    · rename_i h50
      subst h50
      rw [Core.next_sr, a9, hlv rfl, Core.wr]
      exact sr_put_sr _ _
    · rename_i h50
      refine ⟨?_, ?_⟩
      · rw [Core.next_reg, a8 _ h50, Core.wr, Core.reg_put_same _ _ _ hv h50]
      · rw [Core.next_sr, a9, Core.wr, Core.put_sr _ _ _ h50, Core.note_sr]

/-! ## Loads -/

theorem load1_ok {s : State} {k : Fin 144} {sp a} (h : reaches sp a = true) : (s.ctx k).load1 sp a = .ok (s.spaceWord k sp a) := by
  unfold reaches at h
  unfold Ctx.load1 State.spaceWord Core.word
  split
  · simp_all; rfl
  · rename_i h2
    simp only [if_neg h2] at h
    split
    · rfl
    · rename_i h4
      have hc : inCsm a = true := by simpa [h4] using h
      rw [if_pos hc]
      simp [bits]; rfl

theorem loads_ok {s : State} {k : Fin 144} {sp l} (h : ∀ a ∈ l, reaches sp a = true) :
    (s.ctx k).loads sp l = .ok (l.map (s.spaceWord k sp)) := by
  induction l with
  | nil => rfl
  | cons a l ih => simp [Ctx.loads, load1_ok (h a (by simp)), ih fun a ha => h a (by simp [ha]), Except.bind, Except.map]

theorem groupOk_codes {g w : Nat} (h : groupOk g w = true) :
    (∀ j, j < accWidth w → rcValid (g + j) = true ∧ g + j ≠ 0x50) ∧
      ∀ i j, i < accWidth w → j < accWidth w → i ≠ j → overlaps (g + i) (g + j) = false := by
  unfold groupOk at h
  split at h
  · simp at h
    have e : accWidth 0 = 1 := rfl
    rw [e]
    refine ⟨fun j hj => ⟨?_, by omega⟩, fun i j hi hj => by omega⟩
    simp [rcValid]; omega
  · simp at h
    simp only [accWidth]
    refine ⟨fun j hj => ⟨by simp [rcValid]; simp at hj; omega, by simp at hj; omega⟩, fun i j hi hj hij => ?_⟩
    simp at hi hj
    have e1 : rcHome (g + i) = g + i := by simp [rcHome, rcIsPart]; omega
    have e2 : rcHome (g + j) = g + j := by simp [rcHome, rcIsPart]; omega
    simp [overlaps, e1, e2]; omega
  · simp at h
    simp only [accWidth]
    refine ⟨fun j hj => ⟨by simp [rcValid]; simp at hj; omega, by simp at hj; omega⟩, fun i j hi hj hij => ?_⟩
    simp at hi hj
    have e1 : rcHome (g + i) = g + i := by simp [rcHome, rcIsPart]; omega
    have e2 : rcHome (g + j) = g + j := by simp [rcHome, rcIsPart]; omega
    simp [overlaps, e1, e2]; omega
  · cases h

/-- A run of register writes leaves in each register, where no later one shares its bits, the value written. -/
theorem writes_value (c : Core) (l : List (Nat × Nat × HzClass)) (hv : ∀ e ∈ l, rcValid e.1 = true ∧ e.1 ≠ 0x50)
    (hd : l.Pairwise fun a b => overlaps a.1 b.1 = false) :
    ∀ e ∈ l, (l.foldl (fun (c : Core) (e : Nat × Nat × HzClass) => c.wr e.1 e.2.1 e.2.2) c).reg e.1 = regStored e.1 e.2.1 := by
  induction l generalizing c with
  | nil => simp
  | cons e l ih =>
    intro e' he'
    rw [List.foldl_cons]
    obtain ⟨h1, h2⟩ := hv e (by simp)
    obtain ⟨p1, p2⟩ := List.pairwise_cons.1 hd
    rcases List.mem_cons.1 he' with rfl | he'
    · rw [(writes_view _ l fun x hx => hv x (by simp [hx])).1 _ h1 h2 fun x hx => p1 x hx]
      exact reg_wr_same _ _ _ _ h1 h2
    · exact ih _ (fun x hx => hv x (by simp [hx])) p2 e' he'

theorem foldl_range_wr (c : Core) (n : Nat) (d v : Nat → Nat) (cl : HzClass) :
    (List.range n).foldl (fun (c : Core) j => c.wr (d j) (v j) cl) c
      = ((List.range n).map fun j => (d j, v j, cl)).foldl (fun (c : Core) (e : Nat × Nat × HzClass) => c.wr e.1 e.2.1 e.2.2) c := by
  rw [List.foldl_map]

theorem pairwise_range {P : Nat → Nat → Prop} (n : Nat) (h : ∀ i j, i < n → j < n → i < j → P i j) : (List.range n).Pairwise P := by
  rw [List.pairwise_iff_getElem]
  intro i j hi hj hij
  simp at hi hj ⊢
  exact h i j hi hj hij

theorem eaFinish_view (c : Core) (ea : Nat) (o : EaOut) : let p := rcP (ea % 8)
    (∀ r, rcValid r = true → r ≠ 0x50 → (o.upd.isSome → r ≠ p) → (c.eaFinish ea o).reg r = c.reg r)
      ∧ (∀ v, o.upd = some v → (c.eaFinish ea o).reg p = v % 2 ^ 24)
      ∧ (c.eaFinish ea o).sr = (if o.cbx then srSet c.sr srCBX true else c.sr)
      ∧ (c.eaFinish ea o).slots = c.slots ∧ (c.eaFinish ea o).branch = c.branch ∧ (c.eaFinish ea o).pc = c.pc ∧ (c.eaFinish ea o).stack = c.stack
      ∧ KeepsMem c (c.eaFinish ea o) := by
  intro p
  have hp : 0x30 ≤ p ∧ p < 0x38 := by simp [p, rcP]; omega
  have hv : rcValid p = true := by simp [rcValid]; omega
  have hp5 : p ≠ 0x50 := by omega
  have hst : ∀ v, regStored p v = v % 2 ^ 24 := fun v => by
    have : rcIsA p = false := by simp [rcIsA]; omega
    unfold regStored
    rw [if_neg (by simp [this]), if_neg (by omega), if_neg (by omega)]
  have hov : ∀ r, rcValid r = true → r ≠ p → overlaps r p = false := by
    intro r hr hrp
    have e1 : rcIsA p = false := by simp [rcIsA]; omega
    have e2 : rcHome p = p := by simp [rcHome, rcIsPart]; omega
    have e3 : rcIsA r = true → ¬ p = r := fun _ h => hrp h.symm
    simp [overlaps, e1, e2, hrp]
    cases h : rcIsA r
    · simp
    · simpa using e3 h
  have key : ∀ (c1 : Core), (∀ r, r ≠ 0x50 → c1.reg r = c.reg r) → c1.sr = (if o.cbx then srSet c.sr srCBX true else c.sr) →
      c1.slots = c.slots → c1.branch = c.branch → c1.pc = c.pc → c1.stack = c.stack → KeepsMem c c1 →
      let c2 := (match o.upd with
        | some v => c1.wr p v .free
        | none => c1)
      (∀ r, rcValid r = true → r ≠ 0x50 → (o.upd.isSome → r ≠ p) → c2.reg r = c.reg r)
      ∧ (∀ v, o.upd = some v → c2.reg p = v % 2 ^ 24)
      ∧ c2.sr = (if o.cbx then srSet c.sr srCBX true else c.sr)
      ∧ c2.slots = c.slots ∧ c2.branch = c.branch ∧ c2.pc = c.pc ∧ c2.stack = c.stack ∧ KeepsMem c c2 := by
    intro c1 h1 h2 h3 h4 h5 h6 h7
    cases hu : o.upd with
    | none => exact ⟨fun r _ hr _ => h1 r hr, by simp, h2, h3, h4, h5, h6, h7⟩
    | some v =>
      have hpr := Core.put_rest (c1.note p .free) p v
      obtain ⟨m1, m2, m3⟩ := h7
      refine ⟨fun r hr hr5 hu => ?_, fun v' hv' => ?_, ?_, hpr.2.1.trans h3, hpr.2.2.1.trans h4, hpr.1.trans h5, hpr.2.2.2.1.trans h6,
        hpr.2.2.2.2.1.trans m1, hpr.2.2.2.2.2.1.trans m2, hpr.2.2.2.2.2.2.1.trans m3⟩
      · show (c1.wr p v .free).reg r = _
        rw [reg_wr_ne _ _ _ _ _ hv (hov r hr (hu rfl)), h1 r hr5]
      · show (c1.wr p v .free).reg p = _
        rw [reg_wr_same _ _ _ _ hv hp5, hst]
        cases hv'; rfl
      · show (c1.wr p v .free).sr = _
        rw [Core.wr, Core.put_sr _ _ _ hp5, Core.note_sr, h2]
  unfold Core.eaFinish
  dsimp only
  by_cases hb : o.cbx = true
  · simp only [hb, if_true] at key ⊢
    refine key _ (fun r hr => Core.reg_setSr _ _ _ hr) (Core.setSr_sr _ _) ?_ ?_ ?_ ?_ ⟨?_, ?_, ?_⟩ <;> simp [Core.setSr]
  · simp only [hb, if_false] at key ⊢
    exact key c (fun _ _ => rfl) rfl rfl rfl rfl rfl ⟨rfl, rfl, rfl⟩

theorem loadGroup_ok {s : State} {k : Fin 144} {g sp w : Nat} {l : List Nat} (hl : l.length = accWidth w)
    (h : ∀ a ∈ l, reaches sp a = true) : loadGroup (s.ctx k) g sp l
      = .ok (({ s.ctx k with c := (List.range (accWidth w)).foldl (fun (c : Core) j => c.wr (g + j) (if rcIsA (g + j) then accFrom24 (s.spaceWord k sp (nth l j)) else s.spaceWord k sp (nth l j)) .load) (s.core k) }).noteXm sp l) := by
  have hc : ∀ j, j < l.length → (convert (s.core k) (g + j) 0 (nth (l.map (s.spaceWord k sp)) j)).1
      = if rcIsA (g + j) then accFrom24 (s.spaceWord k sp (nth l j)) else s.spaceWord k sp (nth l j) := by
    intro j hj
    have e : nth (l.map (s.spaceWord k sp)) j = s.spaceWord k sp (nth l j) := by simp [nth, hj]
    have e2 : rcIsA 0 = false := rfl
    have e3 : s.spaceWord k sp (nth l j) % 2 ^ 24 = s.spaceWord k sp (nth l j) := by
      apply Nat.mod_eq_of_lt
      unfold State.spaceWord Core.word
      repeat' split
      · exact BitVec.isLt _
      · exact BitVec.isLt _
      · exact BitVec.isLt _
      · exact Nat.mod_lt _ (by decide)
    simp only [convert, e, e2, e3]
    split <;> simp
  unfold loadGroup
  rw [loads_ok h]
  have key : ∀ (n : Nat) (c : Core), n ≤ l.length → (List.range n).foldl
      (fun (c : Core) j => c.wr (g + j) (convert (s.ctx k).c0 (g + j) 0 (nth (l.map (s.spaceWord k sp)) j)).1 .load) c
    = (List.range n).foldl
        (fun (c : Core) j => c.wr (g + j) (if rcIsA (g + j) then accFrom24 (s.spaceWord k sp (nth l j)) else s.spaceWord k sp (nth l j)) .load) c := by
    intro n
    induction n with
    | zero => simp
    | succ n ih =>
      intro c hn
      rw [List.range_succ, List.foldl_append, List.foldl_append, ih c (by omega)]
      exact congrArg (fun v => Core.wr _ (g + n) v .load) (hc n (by omega))
  simp only [bind, Except.bind, pure, Except.pure]
  rw [← hl, ← key l.length (s.core k) (Nat.le_refl _)]
  rfl

theorem ea_length (c : Core) (e w : Nat) : (c.ea e w).words.length = w := by
  unfold Core.ea
  dsimp only
  repeat' split
  all_goals simp

theorem noteXm_c (x : Ctx) (sp l) : (x.noteXm sp l).c = x.c ∧ (x.noteXm sp l).c0 = x.c0 ∧ (x.noteXm sp l).csm = x.csm := by
  unfold Ctx.noteXm; split <;> simp

/-! ## What a run of changes leaves of a core -/

/-- A core after writes of registers, in order, each still standing: other registers as before, SR as given, flow as before. -/
structure Core.View (c0 c : Core) (l : List (Nat × Nat)) (sr : W24) : Prop where
  keeps : ∀ r, rcValid r = true → r ≠ 0x50 → (∀ e ∈ l, overlaps r e.1 = false) → c.reg r = c0.reg r
  value : ∀ e ∈ l, c.reg e.1 = regStored e.1 e.2
  sr : c.sr = sr
  slots : c.slots = c0.slots
  branch : c.branch = c0.branch
  pc : c.pc = c0.pc
  stack : c.stack = c0.stack

theorem Core.View.refl (c : Core) : Core.View c c [] c.sr := ⟨fun _ _ _ _ => rfl, by simp, rfl, rfl, rfl, rfl, rfl⟩

theorem Core.View.wr {c0 c : Core} {l sr} (h : Core.View c0 c l sr) (d v : Nat) (cls : HzClass) (hd : rcValid d = true) (h5 : d ≠ 0x50)
    (ho : ∀ e ∈ l, overlaps e.1 d = false) : Core.View c0 (c.wr d v cls) (l ++ [(d, v)]) sr := by
  have hp := Core.put_rest (c.note d cls) d v
  refine ⟨fun r hr hs hl => ?_, fun e he => ?_, ?_, hp.2.1.trans h.slots, hp.2.2.1.trans h.branch, hp.1.trans h.pc, hp.2.2.2.1.trans h.stack⟩
  · rw [reg_wr_ne _ _ _ _ _ hd (hl (d, v) (by simp)), h.keeps r hr hs fun e he => hl e (by simp [he])]
  · rcases List.mem_append.1 he with he | he
    · rw [reg_wr_ne _ _ _ _ _ hd (ho e he), h.value e he]
    · rw [List.mem_singleton.1 he, reg_wr_same _ _ _ _ hd h5]
  · rw [Core.wr, Core.put_sr _ _ _ h5, Core.note_sr, h.sr]

theorem Core.View.setSr {c0 c : Core} {l sr} (h : Core.View c0 c l sr) (v : W24) (hl : ∀ e ∈ l, e.1 ≠ 0x50) : Core.View c0 (c.setSr v) l v := by
  refine ⟨fun r hr hs ho => ?_, fun e he => ?_, Core.setSr_sr _ _, ?_, ?_, ?_, ?_⟩
  · rw [Core.reg_setSr _ _ _ hs, h.keeps r hr hs ho]
  · rw [Core.reg_setSr _ _ _ (hl e he), h.value e he]
  · simpa [Core.setSr] using h.slots
  · simpa [Core.setSr] using h.branch
  · simpa [Core.setSr] using h.pc
  · simpa [Core.setSr] using h.stack

theorem Core.View.stickLV {c0 c : Core} {l sr} (h : Core.View c0 c l sr) (b : Bool) (hl : ∀ e ∈ l, e.1 ≠ 0x50) :
    Core.View c0 (c.stickLV b) l (if b then srSet sr srLV true else sr) := by
  unfold Core.stickLV
  cases b
  · exact h
  · simpa [h.sr] using h.setSr (srSet c.sr srLV true) hl

theorem Core.View.stickGV {c0 c x : Core} {l sr} (h : Core.View c0 c l sr) (b : Bool) (hl : ∀ e ∈ l, e.1 ≠ 0x50) :
    Core.View c0 (Core.stickGV c x b) l (if b then srSet sr srGV true else sr) := by
  obtain ⟨g1, g2, g3, g4, g5, g6, _⟩ := Core.stickGV_view c x b
  refine ⟨fun r hr hs ho => ?_, fun e he => ?_, ?_, g4.trans h.slots, g5.trans h.branch, g3.trans h.pc, g6.trans h.stack⟩
  · rw [g1 r hs, h.keeps r hr hs ho]
  · rw [g1 _ (hl e he), h.value e he]
  · rw [g2, h.sr]

theorem rcP_props (n : Nat) : rcValid (rcP (n % 8)) = true ∧ rcP (n % 8) ≠ 0x50 ∧ rcIsA (rcP (n % 8)) = false ∧ rcHome (rcP (n % 8)) = rcP (n % 8) := by
  have hp : 0x30 ≤ rcP (n % 8) ∧ rcP (n % 8) < 0x38 := by simp [rcP]; omega
  refine ⟨by simp [rcValid]; omega, by omega, by simp [rcIsA]; omega, by simp [rcHome, rcIsPart]; omega⟩

theorem overlaps_rcP {r n : Nat} (h : r ≠ rcP (n % 8)) : overlaps r (rcP (n % 8)) = false := by
  obtain ⟨_, _, e1, e2⟩ := rcP_props n
  simp [overlaps, e1, e2, h]
  intro _; exact Ne.symm h

theorem Core.View.eaFinish {c0 c : Core} {l sr} (h : Core.View c0 c l sr) (ea : Nat) (o : EaOut) (hl : ∀ e ∈ l, e.1 ≠ 0x50)
    (hp : o.upd.isSome → ∀ e ∈ l, e.1 ≠ rcP (ea % 8)) :
    Core.View c0 (c.eaFinish ea o) (l ++ o.upd.toList.map fun p => (rcP (ea % 8), p)) (if o.cbx then srSet sr srCBX true else sr) := by
  have h1 : Core.View c0 (if o.cbx then c.setSr (srSet c.sr srCBX true) else c) l (if o.cbx then srSet sr srCBX true else sr) := by
    split
    · simpa [h.sr] using h.setSr (srSet c.sr srCBX true) hl
    · exact h
  unfold Core.eaFinish
  dsimp only
  obtain ⟨p1, p2, _⟩ := rcP_props ea
  cases hu : o.upd with
  | none => simpa using h1
  | some p => exact h1.wr _ _ _ p1 p2 fun e he => overlaps_rcP (hp (by simp [hu]) e he)

theorem Core.View.note {c0 c : Core} {l sr} (h : Core.View c0 c l sr) (w : List Hz) : Core.View c0 { c with win := w } l sr :=
  ⟨h.keeps, h.value, h.sr, h.slots, h.branch, h.pc, h.stack⟩

/-! ## Stores -/

theorem csmExtend_toNat (v : Nat) : (csmExtend v).toNat % 2 ^ 24 = v % 2 ^ 24 := by
  unfold csmExtend unsgn sgn
  simp only [BitVec.toNat_ofNat]
  split <;> omega

/-- Words stored from a context, in the terms of the core and the CSM. -/
def WordsStored (k sp : Nat) (vs : List (Nat × Nat)) (c : Core) (m : SMap W32) (c' : Core) (m' : SMap W32) : Prop :=
  (∀ l e r, vs = l ++ e :: r → (∀ x ∈ r, x.1 ≠ e.1) → c'.word m' k sp e.1 = e.2 % 2 ^ 24
      ∧ (sp ≠ 2 → 0x4000 ≤ e.1 → csmGet m' (k / 9) (e.1 - csmBase) = csmExtend e.2))
    ∧ (∀ sp' a, sp' ≤ 2 → reaches sp' a = true → (∀ e ∈ vs, ¬sameWord sp e.1 sp' a) → c'.word m' k sp' a = c.word m k sp' a)
    ∧ ∀ c0 w, w < csmWords → (c0 ≠ k / 9 ∨ ∀ e ∈ vs, e.1 ≠ csmBase + w) → csmGet m' c0 w = csmGet m c0 w

theorem Core.word_mem {c c' : Core} {m m' : SMap W32} (k sp a : Nat) (h1 : c'.cm = c.cm) (h2 : c'.xm = c.xm) (h3 : c'.ym = c.ym) (h4 : m' = m) :
    c'.word m' k sp a = c.word m k sp a := by simp only [Core.word, h1, h2, h3, h4]

theorem csmKey_inj {c c' w w' : Nat} (h : w < csmWords) (h' : w' < csmWords) (hk : csmKey c w = csmKey c' w') : c = c' ∧ w = w' := by
  unfold csmKey csmWords at *; omega

theorem csmGet_set_same (m : SMap W32) (c w : Nat) (v : W32) : csmGet (csmSet m c w v) c w = v := by simp [csmGet, csmSet]

theorem csmGet_set_ne (m : SMap W32) {c c' w w' : Nat} (v : W32) (h : w < csmWords) (h' : w' < csmWords) (hn : c' ≠ c ∨ w' ≠ w) :
    csmGet (csmSet m c w v) c' w' = csmGet m c' w' := by
  unfold csmGet csmSet
  rw [mget_mset_ne]
  intro hk
  obtain ⟨h1, h2⟩ := csmKey_inj h' h hk
  rcases hn with h | h <;> contradiction

theorem inCsm_lt {a : Nat} (h : inCsm a = true) : csmBase ≤ a ∧ a - csmBase < csmWords ∧ 0x4000 ≤ a := by
  simp only [inCsm, Bool.and_eq_true, decide_eq_true_eq] at h
  unfold csmBase csmWords at *; omega

theorem storable_reaches {x : Ctx} {sp a} (h : x.storable sp a = true) : reaches sp a = true := by
  unfold Ctx.storable at h; unfold reaches
  split
  · simp_all
  · rename_i h2
    simp only [if_neg h2, Bool.or_eq_true, Bool.and_eq_true, decide_eq_true_eq] at h ⊢
    rcases h with h | h
    · exact .inl h
    · exact .inr h.1.1

/-- One word stored. -/
theorem store1_words (x : Ctx) (k sp a v : Nat) (hcl : x.cl = k / 9) (hr : reaches sp a = true) :
    let y := x.store1 sp a v
    (y.c.word y.csm k sp a = v % 2 ^ 24 ∧ (sp ≠ 2 → 0x4000 ≤ a → csmGet y.csm (k / 9) (a - csmBase) = csmExtend v))
      ∧ (∀ sp' b, sp' ≤ 2 → reaches sp' b = true → sp ≤ 2 → ¬sameWord sp a sp' b → y.c.word y.csm k sp' b = x.c.word x.csm k sp' b)
      ∧ (∀ c w, w < csmWords → (c ≠ k / 9 ∨ a ≠ csmBase + w) → csmGet y.csm c w = csmGet x.csm c w) := by
  by_cases h2 : sp = 2
  · subst h2
    have e : x.store1 2 a v = { x with c := { x.c with win := ⟨0x10000 + a, (mget 0 x.c.cm a).toNat, 0, .fetch⟩ :: x.c.win,
                                                       cm := mset 0 x.c.cm a (BitVec.ofNat 24 v) } } := by simp [Ctx.store1]
    rw [e]
    refine ⟨⟨by simp [Core.word], by simp⟩, fun sp' b h1 h2 _ h3 => ?_, fun c w _ _ => rfl⟩
    unfold Core.word
    split
    · rename_i h; subst h
      rw [mget_mset_ne]; intro h; exact h3 ⟨h.symm, .inl rfl⟩
    · rfl
  by_cases h4 : a < 0x4000
  · by_cases h0 : sp = 0
    · subst h0
      have e : x.store1 0 a v = { x with c := { x.c with xm := mset 0 x.c.xm a (BitVec.ofNat 24 v) } } := by simp [Ctx.store1, h4]
      rw [e]
      refine ⟨⟨by simp [Core.word, h4], fun _ h => by omega⟩, fun sp' b h1 h2 _ h3 => ?_, fun c w _ _ => rfl⟩
      unfold Core.word
      split
      · rfl
      split
      · split
        · rename_i h; subst h
          rw [mget_mset_ne]; intro h; exact h3 ⟨h.symm, .inl rfl⟩
        · rfl
      · rfl
    · have e : x.store1 sp a v = { x with c := { x.c with ym := mset 0 x.c.ym a (BitVec.ofNat 24 v) } } := by simp [Ctx.store1, h2, h4, h0]
      rw [e]
      refine ⟨⟨by simp [Core.word, h2, h4, h0], fun _ h => by omega⟩, fun sp' b h1 h2 hsp h3 => ?_, fun c w _ _ => rfl⟩
      unfold Core.word
      split
      · rfl
      split
      · split
        · rfl
        · rw [mget_mset_ne]; intro h; exact h3 ⟨h.symm, .inl (by omega)⟩
      · rfl
  · have hc : inCsm a = true := by simpa [reaches, h2, h4] using hr
    obtain ⟨c1, c2, c3⟩ := inCsm_lt hc
    have e : x.store1 sp a v = { x with csm := csmSet x.csm (k / 9) (a - csmBase) (csmExtend v) } := by simp [Ctx.store1, h2, h4, hcl]
    rw [e]
    refine ⟨⟨?_, fun _ _ => csmGet_set_same _ _ _ _⟩, fun sp' b h1 h5 _ h3 => ?_, fun c w h5 h6 => ?_⟩
    · simp only [Core.word, if_neg h2, if_neg h4, csmGet_set_same]; exact csmExtend_toNat v
    · unfold Core.word
      split
      · rfl
      split
      · rfl
      · rename_i g1 g2
        have hb : inCsm b = true := by simpa [reaches, g1, g2] using h5
        obtain ⟨b1, b2, b3⟩ := inCsm_lt hb
        rw [csmGet_set_ne _ _ c2 b2]
        right; intro h; exact h3 ⟨by omega, .inr ⟨h2, g1, by omega⟩⟩
    · exact csmGet_set_ne _ _ c2 h5 (by rcases h6 with h | h <;> omega)

theorem store1_view (x : Ctx) (sp a v : Nat) : let y := x.store1 sp a v
    (∃ m1 m2 m3 w, y.c = { x.c with xm := m1, ym := m2, cm := m3, win := w } ∧ (∀ r, y.c.newest r = x.c.newest r))
      ∧ y.c0 = x.c0 ∧ y.cl = x.cl ∧ y.winLo = x.winLo ∧ y.winLen = x.winLen := by
  intro y
  refine ⟨?_, ?_⟩
  · simp only [y, Ctx.store1]
    repeat' split
    · exact ⟨_, _, _, _, rfl, fun _ => rfl⟩
    · exact ⟨_, _, _, _, rfl, fun _ => rfl⟩
    · exact ⟨_, _, _, _, rfl, fun _ => rfl⟩
    · exact ⟨_, _, _, _, rfl, fun _ => rfl⟩
  · simp only [y, Ctx.store1]
    repeat' split
    all_goals exact ⟨rfl, rfl, rfl, rfl⟩

theorem Core.View.mem {c0 c : Core} {l sr} (h : Core.View c0 c l sr) {c' : Core}
    (hc : ∃ m1 m2 m3 w, c' = { c with xm := m1, ym := m2, cm := m3, win := w } ∧ (∀ r, c'.newest r = c.newest r)) : Core.View c0 c' l sr := by
  obtain ⟨m1, m2, m3, w, rfl, hn⟩ := hc
  exact ⟨h.keeps, h.value, h.sr, h.slots, h.branch, h.pc, h.stack⟩

theorem snoc_ind {α : Type} {P : List α → Prop} (h0 : P []) (h1 : ∀ l a, P l → P (l ++ [a])) (l : List α) : P l := by
  have : ∀ l : List α, P l.reverse := by
    intro l
    induction l with
    | nil => exact h0
    | cons a l ih => simpa using h1 _ a ih
  simpa using this l.reverse

/-- Words stored in order. -/
theorem stores_ok (x : Ctx) (k sp : Nat) (hcl : x.cl = k / 9) (hsp : sp ≤ 2) (vs : List (Nat × Nat)) (h : ∀ e ∈ vs, x.storable sp e.1 = true) :
    ∃ y, x.stores sp vs = .ok y ∧ y.c0 = x.c0 ∧ y.cl = x.cl ∧ WordsStored k sp vs x.c x.csm y.c y.csm ∧ Core.View x.c y.c [] x.c.sr := by
  refine ⟨vs.foldl (fun x e => x.store1 sp e.1 e.2) x, ?_, ?_⟩
  · unfold Ctx.stores
    rw [if_pos (by simpa using h)]
  have h' : ∀ e ∈ vs, reaches sp e.1 = true := fun e he => storable_reaches (h e he)
  clear h
  revert h'
  refine snoc_ind (P := fun vs => (∀ e ∈ vs, reaches sp e.1 = true) → let y := vs.foldl (fun (x : Ctx) (e : Nat × Nat) => x.store1 sp e.1 e.2) x
    y.c0 = x.c0 ∧ y.cl = x.cl ∧ WordsStored k sp vs x.c x.csm y.c y.csm ∧ Core.View x.c y.c [] x.c.sr) ?_ ?_ vs
  · intro _
    refine ⟨rfl, rfl, ⟨?_, fun _ _ _ _ _ => rfl, fun _ _ _ _ => rfl⟩, Core.View.refl _⟩
    intro l e r he; simp at he
  · intro vs e ih h' y
    simp only [y]
    obtain ⟨i0, i1, ⟨i2, i3, i4⟩, i5⟩ := ih fun a ha => h' a (by simp [ha])
    rw [List.foldl_append]
    simp only [List.foldl_cons, List.foldl_nil]
    generalize hz : vs.foldl (fun x e => x.store1 sp e.1 e.2) x = z at *
    obtain ⟨⟨s1, s2⟩, s3, s4⟩ := store1_words z k sp e.1 e.2 (by rw [i1, hcl]) (h' e (by simp))
    obtain ⟨v1, v2, v3, _⟩ := store1_view z sp e.1 e.2
    refine ⟨v2.trans i0, v3.trans i1, ⟨?_, ?_, ?_⟩, i5.mem v1⟩
    · intro l e' r hl hr
      rcases List.eq_nil_or_concat r with rfl | ⟨r', e'', rfl⟩
      · have : e = e' := by
          have := congrArg List.getLast? hl
          simpa using this
        subst this
        exact ⟨s1, s2⟩
      · have h2 : vs = l ++ e' :: r' ∧ e = e'' := by
          have : vs ++ [e] = (l ++ e' :: r') ++ [e''] := by simpa using hl
          have := List.append_inj' this rfl
          simpa using this
        obtain ⟨h2, rfl⟩ := h2
        have hne : e.1 ≠ e'.1 := hr e (by simp)
        obtain ⟨j1, j2⟩ := i2 l e' r' h2 fun x hx => hr x (by simp [hx])
        have hre : reaches sp e'.1 = true := h' e' (by simp [h2])
        refine ⟨?_, fun g1 g2 => ?_⟩
        · rw [s3 _ _ hsp hre hsp (fun hs => hne hs.1), j1]
        · have hc : inCsm e'.1 = true := by
            unfold reaches at hre
            rw [if_neg g1] at hre
            simpa [Nat.not_lt.2 g2] using hre
          obtain ⟨c1, c2, c3⟩ := inCsm_lt hc
          rw [s4 _ _ c2 (.inr (by omega)), j2 g1 g2]
    · intro sp' a h1 h2 h3
      rw [s3 sp' a h1 h2 hsp (h3 e (by simp)), i3 sp' a h1 h2 fun e he => h3 e (by simp [he])]
    · intro c w h1 h2
      rw [s4 c w h1 (by rcases h2 with h | h; exact .inl h; exact .inr (h e (by simp))),
        i4 c w h1 (by rcases h2 with h | h; exact .inl h; exact .inr fun e he => h e (by simp [he]))]

theorem storeStep_of {s : State} {k : Fin 144} {op f} {body} {i} {sp vs} {P : Core → Core → Prop} {x : Ctx} {l : List (Nat × Nat)} {sr}
    (hx : exec i s = .next (s.dziul k.val op f body)) (hS : Straight s k op f) (hb : body f (s.ctx k) = .ok x) (h0 : x.c0 = s.core k)
    (hw : WordsStored k.val sp vs (s.core k.val) s.mem.csm x.c x.csm) (hv : Core.View (s.core k.val) x.c l sr)
    (hP : ∀ c', (∀ r, rcValid r = true → r ≠ 0x50 → (∀ e ∈ l, overlaps r e.1 = false) → c'.reg r = (s.core k.val).reg r) →
      (∀ e ∈ l, c'.reg e.1 = regStored e.1 e.2) → c'.sr = sr → P (s.core k.val) c') : StoreStep i k s sp vs P := by
  refine ⟨x.c.next, x.csm, ?_, ?_, ?_, ?_, hP _ hv.keeps hv.value hv.sr⟩
  · rw [hx, State.dziul_straight hS hb h0 (hv.slots.trans hS.2.2.1) (hv.branch.trans hS.2.2.2.1) hv.pc]
  · simp [hv.pc]
  · simp [hv.stack]
  · have hc : ((({ s with mem := { s.mem with csm := x.csm } } : State).setCore k.val x.c.next).core k.val) = x.c.next := by
      simp [State.core, State.setCore]
    have hc2 : (({ s with mem := { s.mem with csm := x.csm } } : State).setCore k.val x.c.next).mem.csm = x.csm := rfl
    obtain ⟨w1, w2, w3⟩ := hw
    unfold Stored State.spaceWord
    rw [hc, hc2]
    exact ⟨w1, w2, w3⟩

theorem eaFinish_mem (c : Core) (ea : Nat) (o : EaOut) :
    (c.eaFinish ea o).cm = c.cm ∧ (c.eaFinish ea o).xm = c.xm ∧ (c.eaFinish ea o).ym = c.ym := by
  obtain ⟨_, _, _, _, _, _, _, h1, h2, h3⟩ := eaFinish_view c ea o
  exact ⟨h3, h1, h2⟩

theorem regStored_rcP (n v : Nat) : regStored (rcP (n % 8)) v = v % 2 ^ 24 := by
  obtain ⟨_, _, e, _⟩ := rcP_props n
  have hp : 0x30 ≤ rcP (n % 8) ∧ rcP (n % 8) < 0x38 := by simp [rcP]; omega
  unfold regStored
  rw [if_neg (by simp [e]), if_neg (by omega), if_neg (by omega)]

theorem storeGroup_ok {s : State} {k : Fin 144} {g sp w : Nat} {l : List Nat} (hl : l.length = w) (hsp : sp ≤ 2)
    (h : ∀ a ∈ l, (s.ctx k.val).storable sp a = true) :
    let c := s.core k.val
    let value (r : Nat) : Nat × Bool :=
      if rcIsA r then store24 (srBit c.settings srIM) (srRND c.settings) (c.rd true r) else (c.rd true r % 2 ^ 24, false)
    let lv := (List.range w).any fun j => (value (g + j)).2
    let vs := (List.range w).map fun j => (nth l j, (value (g + j)).1)
    ∃ y, storeGroup (s.ctx k.val) g sp l = .ok y ∧ y.c0 = c ∧ WordsStored k.val sp vs c s.mem.csm y.c y.csm
      ∧ Core.View c y.c [] (if lv then srSet c.sr srLV true else c.sr) := by
  intro c value lv vs
  have hcv : ∀ r, convert c 0 r (c.rd true r) = value r := by
    intro r
    have e1 : rcIsA 0 = false := rfl
    simp only [convert, value, e1]
    simp
  have hz : l.zip (((List.range l.length).map fun j => convert c 0 (g + j) (c.rd true (g + j))).map (·.1)) = vs := by
    apply List.ext_getElem
    · simp [vs, hl]
    · intro i h1 h2
      simp [vs, hl] at h1 h2
      simp [vs, hcv, nth, h1, hl]
  have hlv : ((List.range l.length).map fun j => convert c 0 (g + j) (c.rd true (g + j))).any (·.2) = lv := by
    simp only [lv, List.any_map, hl, hcv]
    rfl
  have hst : ∀ e ∈ vs, (s.ctx k.val).storable sp e.1 = true := by
    intro e he
    rw [← hz] at he
    exact h e.1 (List.of_mem_zip he).1
  obtain ⟨y, y1, y2, y3, y4, y5⟩ := stores_ok (s.ctx k.val) k.val sp rfl hsp vs hst
  refine ⟨{ y with c := y.c.stickLV lv }, ?_, y2, ?_, y5.stickLV lv (by simp)⟩
  · unfold storeGroup
    have e : (s.ctx k.val).c0 = c := rfl
    simp only [e, hz, hlv, bind, Except.bind, y1]
    rfl
  · have hm : (y.c.stickLV lv).cm = y.c.cm ∧ (y.c.stickLV lv).xm = y.c.xm ∧ (y.c.stickLV lv).ym = y.c.ym := by
      unfold Core.stickLV
      split <;> simp [Core.setSr]
    obtain ⟨w1, w2, w3⟩ := y4
    exact ⟨fun l e r h1 h2 => by rw [Core.word_mem _ _ _ hm.1 hm.2.1 hm.2.2 rfl]; exact w1 l e r h1 h2,
      fun sp' a h1 h2 h3 => by rw [Core.word_mem _ _ _ hm.1 hm.2.1 hm.2.2 rfl]; exact w2 sp' a h1 h2 h3, w3⟩

/-! ## Quads -/

theorem Core.View.wrs {c0 c : Core} {l sr} (h : Core.View c0 c l sr) (n : Nat) (d v : Nat → Nat) (cls : HzClass)
    (hd : ∀ j, j < n → rcValid (d j) = true ∧ d j ≠ 0x50) (ho : ∀ j, j < n → ∀ e ∈ l, overlaps e.1 (d j) = false)
    (hp : ∀ i j, i < n → j < n → i ≠ j → overlaps (d i) (d j) = false) :
    Core.View c0 ((List.range n).foldl (fun (c : Core) j => c.wr (d j) (v j) cls) c) (l ++ (List.range n).map fun j => (d j, v j)) sr := by
  induction n with
  | zero => simpa using h
  | succ n ih =>
    have i1 := ih (fun j hj => hd j (by omega)) (fun j hj => ho j (by omega)) fun i j hi hj => hp i j (by omega) (by omega)
    rw [List.range_succ, List.foldl_append, List.map_append, ← List.append_assoc]
    refine i1.wr (d n) (v n) cls (hd n (by omega)).1 (hd n (by omega)).2 fun e he => ?_
    rcases List.mem_append.1 he with he | he
    · exact ho n (by omega) e he
    · obtain ⟨j, hj, rfl⟩ := List.mem_map.1 he
      simp at hj
      exact hp j n (by omega) (by omega) (by omega)

/-- Codes below the pointers and outside the parts of accumulators share no bits unless they are equal. -/
theorem overlaps_whole {r d : Nat} (hr : rcIsPart r = false) (hd : rcIsPart d = false) (h : r ≠ d) : overlaps r d = false := by
  have e1 : rcHome r = r := by simp [rcHome, hr]
  have e2 : rcHome d = d := by simp [rcHome, hd]
  simp [overlaps, e1, e2, h]
  intro _; exact Ne.symm h

theorem setSr_memories (c : Core) (v : W24) : (c.setSr v).cm = c.cm ∧ (c.setSr v).xm = c.xm ∧ (c.setSr v).ym = c.ym := by simp [Core.setSr]

theorem wr_memories (c : Core) (d v : Nat) (cls : HzClass) : (c.wr d v cls).cm = c.cm ∧ (c.wr d v cls).xm = c.xm ∧ (c.wr d v cls).ym = c.ym := by
  have h := Core.put_rest (c.note d cls) d v
  exact ⟨h.2.2.2.2.2.2.1, h.2.2.2.2.1, h.2.2.2.2.2.1⟩

theorem wrs_memories (c : Core) (n : Nat) (d v : Nat → Nat) (cls : HzClass) :
    let c' := (List.range n).foldl (fun (c : Core) j => c.wr (d j) (v j) cls) c
    c'.cm = c.cm ∧ c'.xm = c.xm ∧ c'.ym = c.ym := by
  induction n with
  | zero => simp
  | succ n ih =>
    rw [List.range_succ, List.foldl_append]
    obtain ⟨h1, h2, h3⟩ := ih
    obtain ⟨g1, g2, g3⟩ := wr_memories ((List.range n).foldl (fun (c : Core) j => c.wr (d j) (v j) cls) c) (d n) (v n) cls
    exact ⟨g1.trans h1, g2.trans h2, g3.trans h3⟩

theorem stickGV_memories (c x : Core) (b : Bool) : (Core.stickGV c x b).cm = c.cm ∧ (Core.stickGV c x b).xm = c.xm ∧ (Core.stickGV c x b).ym = c.ym := by
  obtain ⟨_, _, _, _, _, _, h1, h2, h3⟩ := Core.stickGV_view c x b
  exact ⟨h3, h1, h2⟩

theorem stickLV_memories (c : Core) (b : Bool) : (c.stickLV b).cm = c.cm ∧ (c.stickLV b).xm = c.xm ∧ (c.stickLV b).ym = c.ym := by
  unfold Core.stickLV; split <;> simp [Core.setSr]

theorem WordsStored.mem {k sp vs} {c0 c c' : Core} {m0 m : SMap W32} (h : WordsStored k sp vs c0 m0 c m)
    (hm : c'.cm = c.cm ∧ c'.xm = c.xm ∧ c'.ym = c.ym) : WordsStored k sp vs c0 m0 c' m := by
  obtain ⟨w1, w2, w3⟩ := h
  exact ⟨fun l e r h1 h2 => by rw [Core.word_mem _ _ _ hm.1 hm.2.1 hm.2.2 rfl]; exact w1 l e r h1 h2,
    fun sp' a h1 h2 h3 => by rw [Core.word_mem _ _ _ hm.1 hm.2.1 hm.2.2 rfl]; exact w2 sp' a h1 h2 h3, w3⟩

theorem quad_accs {aq : Nat} (h : aq < 2) : (∀ j, j < 4 → rcValid (0x10 + (4 * aq + j)) = true ∧ 0x10 + (4 * aq + j) ≠ 0x50
      ∧ rcIsA (0x10 + (4 * aq + j)) = true ∧ rcIsPart (0x10 + (4 * aq + j)) = false)
    ∧ ∀ i j, i < 4 → j < 4 → i ≠ j → overlaps (0x10 + (4 * aq + i)) (0x10 + (4 * aq + j)) = false := by
  have h1 : ∀ j, j < 4 → rcIsPart (0x10 + (4 * aq + j)) = false := by intro j hj; simp [rcIsPart]; omega
  refine ⟨fun j hj => ⟨by simp [rcValid]; omega, by omega, by simp [rcIsA]; omega, h1 j hj⟩, fun i j hi hj hij => ?_⟩
  exact overlaps_whole (h1 i hi) (h1 j hj) (by omega)

/-- The accumulators of a quad and the flags. -/
theorem quadWrite_view {x : Ctx} {c0 : Core} {aq : Nat} (haq : aq < 2) (o : List AccOut) (h : Core.View c0 x.c [] c0.sr) (v : Nat → Nat)
    (hv : ∀ j, j < 4 → (o.getD j ⟨0, false, false⟩).val = v j) (carry clamp : Bool) (hc : (o.getD 0 ⟨0, false, false⟩).carry = carry)
    (hl : o.any (·.clamp) = clamp) :
    Core.View c0 (quadWrite x aq o).c ((List.range 4).map fun j => (0x10 + (4 * aq + j), v j))
        (if clamp then srSet (srAcc c0.sr carry clamp (accInt (v 0))) srGV true else srAcc c0.sr carry clamp (accInt (v 0)))
      ∧ ((quadWrite x aq o).c.cm = x.c.cm ∧ (quadWrite x aq o).c.xm = x.c.xm ∧ (quadWrite x aq o).c.ym = x.c.ym)
      ∧ (quadWrite x aq o).c0 = x.c0 ∧ (quadWrite x aq o).csm = x.csm := by
  obtain ⟨q1, q2⟩ := quad_accs haq
  have hf : (List.range 4).foldl (fun (c : Core) j => c.wr (rcA (4 * aq + j)) (o.getD j ⟨0, false, false⟩).val .arith) x.c
      = (List.range 4).foldl (fun (c : Core) j => c.wr (0x10 + (4 * aq + j)) (v j) .arith) x.c := by
    simp only [List.range, List.range.loop, rcA, List.foldl]
    rw [hv 0 (by omega), hv 1 (by omega), hv 2 (by omega), hv 3 (by omega)]
  have hw := h.wrs 4 (fun j => 0x10 + (4 * aq + j)) v .arith (fun j hj => ⟨(q1 j hj).1, (q1 j hj).2.1⟩) (by simp) q2
  have hne : ∀ e ∈ ([] ++ (List.range 4).map fun j => (0x10 + (4 * aq + j), v j)), e.1 ≠ 0x50 := by
    intro e he
    simp only [List.nil_append] at he
    obtain ⟨j, hj, rfl⟩ := List.mem_map.1 he
    exact (q1 j (by simpa using hj)).2.1
  have hm := wrs_memories x.c 4 (fun j => 0x10 + (4 * aq + j)) v .arith
  unfold quadWrite
  dsimp only
  rw [hf, hc, hl, hv 0 (by omega)]
  refine ⟨?_, ?_, rfl, rfl⟩
  · have := (hw.setSr (srAcc c0.sr carry clamp (accInt (v 0))) hne).stickGV (x := x.c0) clamp hne
    rw [hw.sr]
    simpa using this
  · obtain ⟨a1, a2, a3⟩ := stickGV_memories (((List.range 4).foldl (fun (c : Core) j => c.wr (0x10 + (4 * aq + j)) (v j) .arith) x.c).setSr
      (srAcc ((List.range 4).foldl (fun (c : Core) j => c.wr (0x10 + (4 * aq + j)) (v j) .arith) x.c).sr carry clamp (accInt (v 0)))) x.c0 clamp
    obtain ⟨b1, b2, b3⟩ := setSr_memories ((List.range 4).foldl (fun (c : Core) j => c.wr (0x10 + (4 * aq + j)) (v j) .arith) x.c)
      (srAcc ((List.range 4).foldl (fun (c : Core) j => c.wr (0x10 + (4 * aq + j)) (v j) .arith) x.c).sr carry clamp (accInt (v 0)))
    exact ⟨a1.trans (b1.trans hm.1), a2.trans (b2.trans hm.2.1), a3.trans (b3.trans hm.2.2)⟩

theorem sticky_bits (old : W24) (carry clamp lv cbx : Bool) (v : Int) :
    let s1 := srAcc old carry clamp v
    let s2 := if clamp then srSet s1 srGV true else s1
    let s3 := if lv then srSet s2 srLV true else s2
    let s4 := if cbx then srSet s3 srCBX true else s3
    SrBits [(srC, carry), (srV, clamp), (srZ, decide (v = 0)), (srN, decide (v < 0)), (srE, outOfFrac v), (srGV, clamp || srBit old srGV),
      (srLV, lv || srBit old srLV), (srCBX, cbx || srBit old srCBX)] old s4 := by
  intro s1 s2 s3 s4 i hi
  have e4 : srBit s4 i = if i = srCBX then cbx || srBit s3 i else srBit s3 i := by
    simp only [s4]; cases cbx <;> simp [hi]
  have e3 : srBit s3 i = if i = srLV then lv || srBit s2 i else srBit s2 i := by
    simp only [s3]; cases lv <;> simp [hi]
  have e2 : srBit s2 i = if i = srGV then clamp || srBit s1 i else srBit s1 i := by
    simp only [s2]; cases clamp <;> simp [hi]
  have e1 := srAcc_bits old carry clamp v i hi
  rw [e4, e3, e2, show srBit s1 i = _ from e1]
  by_cases h0 : i < 8
  · rcases show i = 0 ∨ i = 1 ∨ i = 2 ∨ i = 3 ∨ i = 4 ∨ i = 5 ∨ i = 6 ∨ i = 7 by omega with rfl | rfl | rfl | rfl | rfl | rfl | rfl | rfl <;>
      simp [srC, srV, srZ, srN, srE, srGV, srLV, srCBX]
  · have : ∀ j, j < 8 → ¬ j = i ∧ ¬ i = j := fun j hj => by omega
    simp [srC, srV, srZ, srN, srE, srGV, srLV, srCBX, this 0 (by omega), this 1 (by omega), this 2 (by omega), this 3 (by omega), this 4 (by omega),
      this 5 (by omega), this 6 (by omega), this 7 (by omega)]

/-- SR as folding offsets leaves it. -/
theorem cbx_twice (sr : W24) (a b : Bool) : (if b then srSet (if a then srSet sr srCBX true else sr) srCBX true else (if a then srSet sr srCBX true else sr))
    = if a || b then srSet sr srCBX true else sr := by
  cases a <;> cases b <;> simp
  apply BitVec.eq_of_getLsbD_eq
  intro i hi
  have e : ∀ v : W24, v.getLsbD i = srBit v i := fun v => by rw [srBit, bit_eq_testBit]; rfl
  rw [e, e, srBit_srSet _ _ _ _ hi, srBit_srSet _ _ _ _ hi]
  split <;> rfl

theorem map_nth4 {l : List Nat} (h : l.length = 4) (g : Nat → Nat) : l.map g = (List.range 4).map fun j => g (nth l j) := by
  apply List.ext_getElem
  · simp [h]
  · intro i h1 h2; simp [nth, h1]; simp at h1; simp [h1]

theorem nth_range4 (g : Nat → Nat) (j : Nat) (hj : j < 4) : nth ((List.range 4).map g) j = g j := by simp [nth, hj]

/-- The parallel loads of a quad: registers below the accumulators. -/
theorem Core.View.quadLoads {c0 c : Core} {l sr} (h : Core.View c0 c l sr) (base : Nat) (hb : base + 4 ≤ 0x10) (v : Nat → Nat) (hl : ∀ e ∈ l, 0x10 ≤ e.1 ∧ e.1 < 0x18) :
    Core.View c0 ((List.range 4).foldl (fun (c : Core) j => c.wr (base + j) (v j) .load) c) (l ++ (List.range 4).map fun j => (base + j, v j)) sr := by
  refine h.wrs 4 (fun j => base + j) v .load (fun j hj => ⟨by simp [rcValid]; omega, by omega⟩) (fun j hj e he => ?_) fun i j hi hj hij => ?_
  · have := hl e he
    exact overlaps_whole (by simp [rcIsPart]; omega) (by simp [rcIsPart]; omega) (by omega)
  · exact overlaps_whole (by simp [rcIsPart]; omega) (by simp [rcIsPart]; omega) (by omega)

/-- A list of registers written with values: as `QuadDone` says it. -/
theorem quadDone_of {aq : Nat} (haq : aq < 2) {val : Nat → Nat} {carry clamp lv cbx : Bool} {more : List (Nat × Nat)} {c c' : Core}
    (hm : ∀ e ∈ more, e.1 < 0x10 ∨ 0x30 ≤ e.1 ∧ e.1 < 0x38)
    (h1 : ∀ r, rcValid r = true → r ≠ 0x50 → (∀ e ∈ ((List.range 4).map fun j => (0x10 + (4 * aq + j), val j)) ++ more, overlaps r e.1 = false) → c'.reg r = c.reg r)
    (h2 : ∀ e ∈ ((List.range 4).map fun j => (0x10 + (4 * aq + j), val j)) ++ more, c'.reg e.1 = regStored e.1 e.2)
    (h3 : c'.sr = if cbx then srSet (if lv then srSet (if clamp then srSet (srAcc c.sr carry clamp (accInt (val 0))) srGV true
        else srAcc c.sr carry clamp (accInt (val 0))) srLV true else (if clamp then srSet (srAcc c.sr carry clamp (accInt (val 0))) srGV true
        else srAcc c.sr carry clamp (accInt (val 0)))) srCBX true else (if lv then srSet (if clamp then srSet (srAcc c.sr carry clamp (accInt (val 0))) srGV true
        else srAcc c.sr carry clamp (accInt (val 0))) srLV true else (if clamp then srSet (srAcc c.sr carry clamp (accInt (val 0))) srGV true
        else srAcc c.sr carry clamp (accInt (val 0))))) : QuadDone aq val carry clamp lv cbx more c c' := by
  refine ⟨fun j hj => ?_, fun e he => ?_, fun r hr h50 ho => h1 r hr h50 fun e he => ?_, ?_⟩
  · have := h2 (0x10 + (4 * aq + j), val j) (List.mem_append_left _ (List.mem_map.2 ⟨j, by simpa using hj, rfl⟩))
    rw [this, regStored_acc ((quad_accs haq).1 j hj).2.2.1]
  · rw [h2 e (List.mem_append_right _ he)]
    have := hm e he
    unfold regStored
    rw [if_neg (by simp [rcIsA]; omega), if_neg (by omega), if_neg (by omega)]
  · refine ho e.1 ?_
    rcases List.mem_append.1 he with he | he
    · obtain ⟨j, hj, rfl⟩ := List.mem_map.1 he
      exact List.mem_append_left _ (List.mem_map.2 ⟨j, hj, rfl⟩)
    · exact List.mem_append_right _ (List.mem_map.2 ⟨e, he, rfl⟩)
  · rw [h3]; exact sticky_bits _ _ _ _ _ _

theorem eaFinish_opt {c0 c : Core} {l sr} (b : Bool) (h : Core.View c0 c l sr) (ea : Nat) (o : EaOut) (hl : ∀ e ∈ l, e.1 ≠ 0x50)
    (hp : b = true → o.upd.isSome → ∀ e ∈ l, e.1 ≠ rcP (ea % 8)) :
    Core.View c0 (if b then c.eaFinish ea o else c) (l ++ if b then o.pointer ea else [])
      (if b && o.cbx then srSet sr srCBX true else sr) := by
  cases b
  · simpa using h
  · simpa [EaOut.pointer] using h.eaFinish ea o hl (hp rfl)

theorem ea_upd_writes (c : Core) (ea w : Nat) (h : (c.ea ea w).upd.isSome = true) : eaWrites ea = true := by
  unfold Core.ea at h
  simp only [eaWrites, Bool.not_eq_true', Bool.or_eq_false_iff, decide_eq_false_iff_not]
  dsimp only at h
  have h8 : ea / 8 % 8 < 8 := Nat.mod_lt _ (by decide)
  constructor <;> intro h0 <;> (rw [h0] at h; revert h; simp) <;> (try split) <;> simp

theorem rd_true_acc (c : Core) (r : Nat) (h : rcIsPart r = false) : c.rd true r = c.seen hideMove r := by simp [Core.rd, h]

theorem qFields_lt (f : BitVec 40) : (qFields f).aq < 2 ∧ (qFields f).pq < 2 ∧ (qFields f).s1 < 4 ∧ (qFields f).s2 < 4 ∧ (qFields f).yb < 8 := by
  simp only [qFields, fbits, bits]
  refine ⟨Nat.mod_lt _ (by decide), Nat.mod_lt _ (by decide), Nat.mod_lt _ (by decide), Nat.mod_lt _ (by decide), Nat.mod_lt _ (by decide)⟩

theorem State.dziul_ok {s : State} {k op : Nat} {f body} {x : Ctx} (h1 : s.canIssue k (word48 op f) = true) (h2 : (s.core k).inject = 0)
    (hb : body f (s.ctx k) = .ok x) (h0 : x.c0 = s.core k) :
    s.dziul k op f body = ({ s with mem := { s.mem with csm := x.csm } } : State).endInstr k (word48 op f) x.c := by
  have hi : injected x = none := by simp [injected, h0, h2]
  unfold State.dziul
  simp only [h1, if_true, hb, hi]

theorem State.dziul_error {s : State} {k op : Nat} {f body} {e : DErr} (h1 : s.canIssue k (word48 op f) = true)
    (hb : body f (s.ctx k) = .error e) : s.dziul k op f body = s.codeError k (s.core k).pc e := by
  unfold State.dziul
  simp only [h1, if_true, hb]

theorem Core.fill_view (c0 c : Core) (w : W48) : ∃ ca ok fi, c0.fill c w = { c with cache := ca, cacheOk := ok, filling := fi } := by
  unfold Core.fill
  split
  · dsimp only
    split
    · exact ⟨_, _, _, rfl⟩
    · exact ⟨_, _, _, rfl⟩
  · exact ⟨_, _, _, rfl⟩

theorem Core.advance_through (c0 c : Core) (hs : c.slots ≠ 1) (hl : c0.looping = true → c0.pc ≠ c0.leN) :
    c0.advance c = { c with slots := c.slots - 1, pc := c.pc + 2 } := by
  unfold Core.advance
  dsimp only
  split
  · rename_i h; split at h
    · exact absurd ‹c.slots = 1› hs
    · cases h
  · split
    · exact absurd ‹c.slots = 1› hs
    · simp only [Bool.false_eq_true, if_false]
      rw [if_neg]
      simp only [Bool.and_eq_true, decide_eq_true_eq, not_and]
      exact hl

/-- An instruction that opens delay slots, or that ends inside them. -/
theorem Core.finish_flow (c0 c : Core) (w : W48) (hs : c.slots ≠ 1) (hl : c0.looping = true → c0.pc ≠ c0.leN) :
    ∃ ca ok fi wi, c0.finish c w = { c with cache := ca, cacheOk := ok, filling := fi, win := wi, slots := c.slots - 1, pc := c.pc + 2 } := by
  obtain ⟨ca, ok, fi, h⟩ := c0.fill_view c w
  unfold Core.finish
  rw [h, Core.advance_through c0 { c with cache := ca, cacheOk := ok, filling := fi } hs hl]
  exact ⟨ca, ok, fi, _, rfl⟩

/-- The end of an instruction with no RTI to complete. -/
theorem State.endInstr_next {s : State} {k : Nat} {w : W48} {c c' : Core} (h : (s.core k).finish c w = c') (hp : c'.pc ≤ 0x7FFE)
    (hr : c'.slots ≠ 0 ∨ ∀ t, c'.branch ≠ some (.rti t)) : s.endInstr k w c = s.setCore k c' := by
  unfold State.endInstr
  simp only [h]
  split
  · rcases hr with hr | hr
    · exact absurd ‹_› hr
    · exact absurd ‹_› (hr _)
  · rw [if_neg (by omega)]

theorem flow_open {s : State} {k : Fin 144} {op f body} {i : Instr} (b : Option Branch) (st : List (BitVec 15))
    (hx : exec i s = .next (s.dziul k.val op f body)) (hF : Flows s k op f)
    (hb : body f (s.ctx k.val) = .ok { s.ctx k.val with c := { s.core k.val with slots := 3, branch := b, stack := st } }) :
    FlowStep i k s fun c c' => FlowKept c c' ∧ c'.slots = 2 ∧ c'.branch = b ∧ c'.stack = st := by
  obtain ⟨h1, h2, h3, h4, h5⟩ := hF
  have hl : (s.core k.val).looping = true → (s.core k.val).pc ≠ (s.core k.val).leN := by
    intro hl
    simp [controlOk, hl] at h3
    exact h3.2.1
  obtain ⟨ca, ok, fi, wi, hf⟩ := Core.finish_flow (s.core k.val) { s.core k.val with slots := 3, branch := b, stack := st } (word48 op f) (by simp) hl
  refine ⟨{ s.core k.val with branch := b, stack := st, cache := ca, cacheOk := ok, filling := fi, win := wi, slots := 2, pc := (s.core k.val).pc + 2 }, ?_,
    ⟨rfl, rfl, fun _ _ _ _ => rfl, rfl, rfl, rfl⟩, rfl, rfl, rfl⟩
  exact hx.trans (congrArg Host.Outcome.next ((State.dziul_ok h1 h2 hb rfl).trans (State.endInstr_next (s := s) hf (by simp; omega) (.inl (by simp)))))

theorem exitsLoop_eq (c : Core) (t : Nat) : leavesLoop c t = exitsLoop c t := by
  unfold leavesLoop exitsLoop
  cases c.looping
  · simp
  · rw [Bool.eq_iff_iff]
    simp only [Bool.true_and, Bool.and_eq_true, decide_eq_true_eq, Bool.not_eq_true', Bool.and_eq_false_iff, decide_eq_false_iff_not]
    omega

theorem srLA_bits (old : W24) : SrBits [(srLA, true)] old (srSet old srLA true) := by
  intro i hi
  rw [srBit_srSet _ _ _ _ hi]
  by_cases h : i = srLA
  · simp [h, List.find?]
  · simp [h, List.find?, Ne.symm h]

theorem Core.View.put {c0 c : Core} {l sr} (h : Core.View c0 c l sr) (d v : Nat) (hd : rcValid d = true) (h5 : d ≠ 0x50)
    (ho : ∀ e ∈ l, overlaps e.1 d = false) : Core.View c0 (c.put d v) (l ++ [(d, v)]) sr := by
  have hp := Core.put_rest c d v
  refine ⟨fun r hr hs hl => ?_, fun e he => ?_, ?_, hp.2.1.trans h.slots, hp.2.2.1.trans h.branch, hp.1.trans h.pc, hp.2.2.2.1.trans h.stack⟩
  · rw [Core.reg_put_ne _ _ _ _ hd (hl (d, v) (by simp)), h.keeps r hr hs fun e he => hl e (by simp [he])]
  · rcases List.mem_append.1 he with he | he
    · rw [Core.reg_put_ne _ _ _ _ hd (ho e he), h.value e he]
    · rw [List.mem_singleton.1 he, Core.reg_put_same _ _ _ hd h5]
  · rw [Core.put_sr _ _ _ h5, h.sr]

theorem put_memories (c : Core) (d v : Nat) : KeepsMem c (c.put d v) := by
  have h := Core.put_rest c d v
  exact ⟨h.2.2.2.2.1, h.2.2.2.2.2.1, h.2.2.2.2.2.2.1⟩

theorem KeepsMem.trans {a b c : Core} (h1 : KeepsMem a b) (h2 : KeepsMem b c) : KeepsMem a c :=
  ⟨h2.1.trans h1.1, h2.2.1.trans h1.2.1, h2.2.2.trans h1.2.2⟩

theorem setSr_keepsMem (c : Core) (v : W24) : KeepsMem c (c.setSr v) := by simp [KeepsMem, Core.setSr]

theorem nop_endInstr {s : State} {k : Fin 144} (h1 : s.canIssue k.val 0 = true) (h2 : (s.core k.val).inject = 0) :
    exec (.nop k 0) s = .next (s.endInstr k.val 0 (s.core k.val)) := by
  have : exec (.nop k 0) s = .next (s.dziul k.val 0 0 fun f x => do legal (f = 0); return x) := by
    show execNop k 0 s = _
    unfold execNop
    have e : (0 : BitVec 48).toNat / 2 ^ 40 = 0 := by decide
    have e2 : BitVec.ofNat 40 (0 : BitVec 48).toNat = 0 := by decide
    simp only [e, e2, if_true]
  have hw : word48 0 (0 : BitVec 40) = 0 := by decide
  have h := State.dziul_ok (s := s) (k := k.val) (op := 0) (f := 0) (body := fun f x => do legal (f = 0); return x) (x := s.ctx k.val) (by rw [hw]; exact h1) h2 rfl rfl
  simp only [hw] at h
  exact this.trans (congrArg Host.Outcome.next h)

theorem Core.advance_jump (c0 c : Core) (t : Nat) (b : Bool) (hs : c.slots = 1) (hb : c.branch = some (.jump t b)) (hl : c0.looping = false) :
    c0.advance c = (if b then ({ c with slots := 0, pc := t, branch := none } : Core).setSr (srSet c.sr srLA false) else { c with slots := 0, pc := t, branch := none }) := by
  unfold Core.advance
  cases b
  · simp [hs, hb, hl]
  · simp only [hs, hb, hl]; simp only [if_true, Core.sr, Core.bank]; simp

theorem Core.advance_rti (c0 c : Core) (t : Nat) (hs : c.slots = 1) (hb : c.branch = some (.rti t)) : c0.advance c = { c with slots := 0 } := by
  unfold Core.advance
  simp only [hs, hb]
  rfl

theorem Core.advance_loop (c0 c : Core) (hs : c.slots = 0) (hl : c0.looping = true) (hp : c0.pc = c0.leN) :
    c0.advance c = if c0.seen hideLoop 0x51 > 1 then
        ({ ({ c with slots := 0 } : Core).put 0x51 (c0.seen hideLoop 0x51 - 1) with pc := c0.lsN } : Core).nextPass
      else
        { (({ c with slots := 0 } : Core).put 0x51 0).setSr (srSet (srSet (({ c with slots := 0 } : Core).put 0x51 0).sr srLA false) srRCA false) with
          pc := c0.leN + 2, filling := false } := by
  unfold Core.advance
  simp only [hs, hl, hp, Bool.true_and, decide_true, if_true, Bool.false_eq_true, if_false]

@[simp] theorem State.core_setCore (s : State) (k : Nat) (c : Core) : (s.setCore k c).core k = c := by simp [State.core, State.setCore]

theorem State.core_setCore_ne (s : State) {k j : Nat} (c : Core) (h : j ≠ k) : (s.setCore k c).core j = s.core j := by
  simp only [State.core, State.setCore]; exact mget_mset_ne _ _ _ _ h

/-- A straight instruction that acts on the device around the core: the core as the body leaves it goes on. -/
theorem State.endInstr_straight {s : State} {k : Nat} {w : W48} {c : Core} (hl : (s.core k).looping = false) (hs : c.slots = 0) (hb : c.branch = none)
    (hp : c.pc < 0x7FFD) : s.endInstr k w c = s.setCore k c.next := by
  refine State.endInstr_next (Core.finish_straight _ _ _ hl hs hb) (by show c.pc + 2 ≤ _; omega) (.inr fun t ht => ?_)
  have : c.next.branch = none := hb
  rw [this] at ht; cases ht

/-- What a device-wide instruction leaves of its core. -/
theorem State.withdraw_core (s : State) (k : Nat) : (s.withdraw k).core k = { s.core k with preReq := false }
    ∧ (∀ j, j ≠ k → (s.withdraw k).core j = s.core j) ∧ (s.withdraw k).elapsed = s.elapsed := by
  refine ⟨?_, fun j hj => ?_, rfl⟩
  · exact State.core_setCore s k _
  · exact State.core_setCore_ne s _ hj

end Sys2Proof.Machine
end

