-- ==== Sys2Proof/Laws/Frame.lean ====
section
/-! SUPPORT. Which parts of the state an operation may write. Each later Frame file holds one lemma per operation of the model, `X_fr`, in the order of
the model's own files: it names the parts that the operation writes, and says that every other part stays as it was and that the sparse memories
keep their canonical form. A lemma about a caller cites those of its callees and unfolds none. For an operation `X`, the fact
`((X_fr s … (.refl s)).cores rfl)` is `(X s …).cores = s.cores` when `X` does not write the cores -/
set_option Elab.async false

namespace Sys2Proof.Machine

/-- The set of parts `a` lies within the set `b`; a set is a number whose bit i stands for the i-th field of State. -/
def partSub (a b : Nat) : Bool := a &&& b == a

theorem partSub_refl (a : Nat) : partSub a a = true := by simp [partSub]

theorem partSub_trans {a b c : Nat} (h2 : partSub b c = true) (h1 : partSub a b = true) : partSub a c = true := by
  simp only [partSub, beq_iff_eq] at *
  rw [← h1, Nat.and_assoc, h2]

theorem partSub_bit {a b i : Nat} (h : partSub a b = true) (ha : a.testBit i = true) : b.testBit i = true := by
  simp only [partSub, beq_iff_eq] at h
  rw [← h, Nat.testBit_and] at ha
  simp_all

/-- `s` differs from `s₀` in the parts of the set `W` alone, and its sparse memories (HBM, the poison marks, the CSM, the CPS) are in
canonical form when those of `s₀` are. -/
structure State.Fr (W : Nat) (s₀ s : State) : Prop where
  wf : s₀.memWf = true → s.memWf = true
  fuse : W.testBit 0 = false → s.fuse = s₀.fuse
  elapsed : W.testBit 1 = false → s.elapsed = s₀.elapsed
  freeCtr : W.testBit 2 = false → s.freeCtr = s₀.freeCtr
  regs : W.testBit 3 = false → s.regs = s₀.regs
  cores : W.testBit 4 = false → s.cores = s₀.cores
  mem : W.testBit 5 = false → s.mem = s₀.mem
  th : W.testBit 6 = false → s.th = s₀.th
  chans : W.testBit 7 = false → s.chans = s₀.chans
  hp : W.testBit 8 = false → s.hp = s₀.hp
  ep : W.testBit 9 = false → s.ep = s₀.ep
  cp : W.testBit 10 = false → s.cp = s₀.cp
  td : W.testBit 11 = false → s.td = s₀.td
  bs : W.testBit 12 = false → s.bs = s₀.bs
  lm : W.testBit 13 = false → s.lm = s₀.lm
  hi : W.testBit 14 = false → s.hi = s₀.hi
  rl : W.testBit 15 = false → s.rl = s₀.rl
  tw : W.testBit 16 = false → s.tw = s₀.tw
  mg : W.testBit 17 = false → s.mg = s₀.mg
  gl : W.testBit 18 = false → s.gl = s₀.gl
  st : W.testBit 19 = false → s.st = s₀.st
  rk : W.testBit 20 = false → s.rk = s₀.rk
  ln : W.testBit 21 = false → s.ln = s₀.ln
  lastRead : W.testBit 22 = false → s.lastRead = s₀.lastRead
  out : W.testBit 23 = false → s.out = s₀.out
  pending : W.testBit 24 = false → s.pending = s₀.pending

theorem State.Fr.refl {W : Nat} (s : State) : State.Fr W s s := by
  constructor <;> first | exact id | exact fun _ => rfl

/-- Every next state of an outcome differs from `s₀` in the parts of `W` alone. -/
def OutFr (W : Nat) (s₀ : State) (o : Host.Outcome State Fault Refusal) : Prop := ∀ t, o = .next t → State.Fr W s₀ t

theorem fr_next {W s₀} {s : State} (h : State.Fr W s₀ s) : OutFr W s₀ (.next s) := by
  intro t ht; cases ht; exact h
theorem outFr_ite {W s₀} {c : Prop} [Decidable c] {a b} (ha : OutFr W s₀ a) (hb : OutFr W s₀ b) : OutFr W s₀ (if c then a else b) := by
  split <;> assumption
theorem fr_ite {W s₀} {c : Prop} [Decidable c] {a b} (ha : State.Fr W s₀ a) (hb : State.Fr W s₀ b) : State.Fr W s₀ (if c then a else b) := by
  split <;> assumption
theorem fr_iteP {W s₀} {α : Type} {c : Prop} [Decidable c] {a b : State × α} (ha : State.Fr W s₀ a.1) (hb : State.Fr W s₀ b.1) : State.Fr W s₀ (if c then a else b).1 := by
  split <;> assumption
theorem fr_pair {W s₀} {α : Type} {a : State} {b : α} (h : State.Fr W s₀ a) : State.Fr W s₀ (Prod.fst (a, b)) := h
theorem fr_foldl {W s₀} {α : Type} {f : State → α → State} {l : List α} {s : State} (hf : ∀ (x : State) (y : α), State.Fr W s₀ x → State.Fr W s₀ (f x y)) (h : State.Fr W s₀ s) : State.Fr W s₀ (l.foldl f s) := by
  induction l generalizing s with
  | nil => exact h
  | cons a l ih => exact ih (hf s a h)

/-- A record update that leaves the four sparse memories as they are. -/
theorem fr_mk {W : Nat} {s₀ t : State} {fuse elapsed freeCtr regs cores mem th chans hp ep cp td bs lm hi rl tw mg gl st rk ln lastRead out pending}
    (e1 : hp.hbm = t.hp.hbm) (e2 : hp.poison = t.hp.poison) (e3 : mem.csm = t.mem.csm) (e4 : mem.cps = t.mem.cps) (h : State.Fr W s₀ t)
    (h0 : W.testBit 0 = true ∨ fuse = t.fuse := by first | exact .inr (by with_reducible rfl) | exact .inl (partSub_bit (by with_reducible assumption) (by exact rfl)))
    (h1 : W.testBit 1 = true ∨ elapsed = t.elapsed := by first | exact .inr (by with_reducible rfl) | exact .inl (partSub_bit (by with_reducible assumption) (by exact rfl)))
    (h2 : W.testBit 2 = true ∨ freeCtr = t.freeCtr := by first | exact .inr (by with_reducible rfl) | exact .inl (partSub_bit (by with_reducible assumption) (by exact rfl)))
    (h3 : W.testBit 3 = true ∨ regs = t.regs := by first | exact .inr (by with_reducible rfl) | exact .inl (partSub_bit (by with_reducible assumption) (by exact rfl)))
    (h4 : W.testBit 4 = true ∨ cores = t.cores := by first | exact .inr (by with_reducible rfl) | exact .inl (partSub_bit (by with_reducible assumption) (by exact rfl)))
    (h5 : W.testBit 5 = true ∨ mem = t.mem := by first | exact .inr (by with_reducible rfl) | exact .inl (partSub_bit (by with_reducible assumption) (by exact rfl)))
    (h6 : W.testBit 6 = true ∨ th = t.th := by first | exact .inr (by with_reducible rfl) | exact .inl (partSub_bit (by with_reducible assumption) (by exact rfl)))
    (h7 : W.testBit 7 = true ∨ chans = t.chans := by first | exact .inr (by with_reducible rfl) | exact .inl (partSub_bit (by with_reducible assumption) (by exact rfl)))
    (h8 : W.testBit 8 = true ∨ hp = t.hp := by first | exact .inr (by with_reducible rfl) | exact .inl (partSub_bit (by with_reducible assumption) (by exact rfl)))
    (h9 : W.testBit 9 = true ∨ ep = t.ep := by first | exact .inr (by with_reducible rfl) | exact .inl (partSub_bit (by with_reducible assumption) (by exact rfl)))
    (h10 : W.testBit 10 = true ∨ cp = t.cp := by first | exact .inr (by with_reducible rfl) | exact .inl (partSub_bit (by with_reducible assumption) (by exact rfl)))
    (h11 : W.testBit 11 = true ∨ td = t.td := by first | exact .inr (by with_reducible rfl) | exact .inl (partSub_bit (by with_reducible assumption) (by exact rfl)))
    (h12 : W.testBit 12 = true ∨ bs = t.bs := by first | exact .inr (by with_reducible rfl) | exact .inl (partSub_bit (by with_reducible assumption) (by exact rfl)))
    (h13 : W.testBit 13 = true ∨ lm = t.lm := by first | exact .inr (by with_reducible rfl) | exact .inl (partSub_bit (by with_reducible assumption) (by exact rfl)))
    (h14 : W.testBit 14 = true ∨ hi = t.hi := by first | exact .inr (by with_reducible rfl) | exact .inl (partSub_bit (by with_reducible assumption) (by exact rfl)))
    (h15 : W.testBit 15 = true ∨ rl = t.rl := by first | exact .inr (by with_reducible rfl) | exact .inl (partSub_bit (by with_reducible assumption) (by exact rfl)))
    (h16 : W.testBit 16 = true ∨ tw = t.tw := by first | exact .inr (by with_reducible rfl) | exact .inl (partSub_bit (by with_reducible assumption) (by exact rfl)))
    (h17 : W.testBit 17 = true ∨ mg = t.mg := by first | exact .inr (by with_reducible rfl) | exact .inl (partSub_bit (by with_reducible assumption) (by exact rfl)))
    (h18 : W.testBit 18 = true ∨ gl = t.gl := by first | exact .inr (by with_reducible rfl) | exact .inl (partSub_bit (by with_reducible assumption) (by exact rfl)))
    (h19 : W.testBit 19 = true ∨ st = t.st := by first | exact .inr (by with_reducible rfl) | exact .inl (partSub_bit (by with_reducible assumption) (by exact rfl)))
    (h20 : W.testBit 20 = true ∨ rk = t.rk := by first | exact .inr (by with_reducible rfl) | exact .inl (partSub_bit (by with_reducible assumption) (by exact rfl)))
    (h21 : W.testBit 21 = true ∨ ln = t.ln := by first | exact .inr (by with_reducible rfl) | exact .inl (partSub_bit (by with_reducible assumption) (by exact rfl)))
    (h22 : W.testBit 22 = true ∨ lastRead = t.lastRead := by first | exact .inr (by with_reducible rfl) | exact .inl (partSub_bit (by with_reducible assumption) (by exact rfl)))
    (h23 : W.testBit 23 = true ∨ out = t.out := by first | exact .inr (by with_reducible rfl) | exact .inl (partSub_bit (by with_reducible assumption) (by exact rfl)))
    (h24 : W.testBit 24 = true ∨ pending = t.pending := by first | exact .inr (by with_reducible rfl) | exact .inl (partSub_bit (by with_reducible assumption) (by exact rfl))) :
    State.Fr W s₀ (State.mk fuse elapsed freeCtr regs cores mem th chans hp ep cp td bs lm hi rl tw mg gl st rk ln lastRead out pending) := by
  refine ⟨fun w => by have := h.wf w; simp only [State.memWf] at this ⊢; rw [e1, e2, e3, e4]; exact this, ?_, ?_, ?_, ?_, ?_, ?_, ?_, ?_, ?_, ?_, ?_, ?_, ?_, ?_, ?_, ?_, ?_, ?_, ?_, ?_, ?_, ?_, ?_, ?_, ?_⟩
  · intro hb; rcases h0 with hx | hx
    · rw [hx] at hb; cases hb
    · exact hx.trans (h.fuse hb)
  · intro hb; rcases h1 with hx | hx
    · rw [hx] at hb; cases hb
    · exact hx.trans (h.elapsed hb)
  · intro hb; rcases h2 with hx | hx
    · rw [hx] at hb; cases hb
    · exact hx.trans (h.freeCtr hb)
  · intro hb; rcases h3 with hx | hx
    · rw [hx] at hb; cases hb
    · exact hx.trans (h.regs hb)
  · intro hb; rcases h4 with hx | hx
    · rw [hx] at hb; cases hb
    · exact hx.trans (h.cores hb)
  · intro hb; rcases h5 with hx | hx
    · rw [hx] at hb; cases hb
    · exact hx.trans (h.mem hb)
  · intro hb; rcases h6 with hx | hx
    · rw [hx] at hb; cases hb
    · exact hx.trans (h.th hb)
  · intro hb; rcases h7 with hx | hx
    · rw [hx] at hb; cases hb
    · exact hx.trans (h.chans hb)
  · intro hb; rcases h8 with hx | hx
    · rw [hx] at hb; cases hb
    · exact hx.trans (h.hp hb)
  · intro hb; rcases h9 with hx | hx
    · rw [hx] at hb; cases hb
    · exact hx.trans (h.ep hb)
  · intro hb; rcases h10 with hx | hx
    · rw [hx] at hb; cases hb
    · exact hx.trans (h.cp hb)
  · intro hb; rcases h11 with hx | hx
    · rw [hx] at hb; cases hb
    · exact hx.trans (h.td hb)
  · intro hb; rcases h12 with hx | hx
    · rw [hx] at hb; cases hb
    · exact hx.trans (h.bs hb)
  · intro hb; rcases h13 with hx | hx
    · rw [hx] at hb; cases hb
    · exact hx.trans (h.lm hb)
  · intro hb; rcases h14 with hx | hx
    · rw [hx] at hb; cases hb
    · exact hx.trans (h.hi hb)
  · intro hb; rcases h15 with hx | hx
    · rw [hx] at hb; cases hb
    · exact hx.trans (h.rl hb)
  · intro hb; rcases h16 with hx | hx
    · rw [hx] at hb; cases hb
    · exact hx.trans (h.tw hb)
  · intro hb; rcases h17 with hx | hx
    · rw [hx] at hb; cases hb
    · exact hx.trans (h.mg hb)
  · intro hb; rcases h18 with hx | hx
    · rw [hx] at hb; cases hb
    · exact hx.trans (h.gl hb)
  · intro hb; rcases h19 with hx | hx
    · rw [hx] at hb; cases hb
    · exact hx.trans (h.st hb)
  · intro hb; rcases h20 with hx | hx
    · rw [hx] at hb; cases hb
    · exact hx.trans (h.rk hb)
  · intro hb; rcases h21 with hx | hx
    · rw [hx] at hb; cases hb
    · exact hx.trans (h.ln hb)
  · intro hb; rcases h22 with hx | hx
    · rw [hx] at hb; cases hb
    · exact hx.trans (h.lastRead hb)
  · intro hb; rcases h23 with hx | hx
    · rw [hx] at hb; cases hb
    · exact hx.trans (h.out hb)
  · intro hb; rcases h24 with hx | hx
    · rw [hx] at hb; cases hb
    · exact hx.trans (h.pending hb)

/-- A record update that keeps the canonical form of the four sparse memories. -/
theorem fr_mem {W : Nat} {s₀ t : State} {fuse elapsed freeCtr regs cores mem th chans hp ep cp td bs lm hi rl tw mg gl st rk ln lastRead out pending}
    (h : State.Fr W s₀ t) (e1 : t.memWf = true → mwf 0 hp.hbm = true) (e2 : t.memWf = true → mwf false hp.poison = true)
    (e3 : t.memWf = true → mwf 0 mem.csm = true) (e4 : t.memWf = true → mwf 0 mem.cps = true)
    (h0 : W.testBit 0 = true ∨ fuse = t.fuse := by first | exact .inr (by with_reducible rfl) | exact .inl (partSub_bit (by with_reducible assumption) (by exact rfl)))
    (h1 : W.testBit 1 = true ∨ elapsed = t.elapsed := by first | exact .inr (by with_reducible rfl) | exact .inl (partSub_bit (by with_reducible assumption) (by exact rfl)))
    (h2 : W.testBit 2 = true ∨ freeCtr = t.freeCtr := by first | exact .inr (by with_reducible rfl) | exact .inl (partSub_bit (by with_reducible assumption) (by exact rfl)))
    (h3 : W.testBit 3 = true ∨ regs = t.regs := by first | exact .inr (by with_reducible rfl) | exact .inl (partSub_bit (by with_reducible assumption) (by exact rfl)))
    (h4 : W.testBit 4 = true ∨ cores = t.cores := by first | exact .inr (by with_reducible rfl) | exact .inl (partSub_bit (by with_reducible assumption) (by exact rfl)))
    (h5 : W.testBit 5 = true ∨ mem = t.mem := by first | exact .inr (by with_reducible rfl) | exact .inl (partSub_bit (by with_reducible assumption) (by exact rfl)))
    (h6 : W.testBit 6 = true ∨ th = t.th := by first | exact .inr (by with_reducible rfl) | exact .inl (partSub_bit (by with_reducible assumption) (by exact rfl)))
    (h7 : W.testBit 7 = true ∨ chans = t.chans := by first | exact .inr (by with_reducible rfl) | exact .inl (partSub_bit (by with_reducible assumption) (by exact rfl)))
    (h8 : W.testBit 8 = true ∨ hp = t.hp := by first | exact .inr (by with_reducible rfl) | exact .inl (partSub_bit (by with_reducible assumption) (by exact rfl)))
    (h9 : W.testBit 9 = true ∨ ep = t.ep := by first | exact .inr (by with_reducible rfl) | exact .inl (partSub_bit (by with_reducible assumption) (by exact rfl)))
    (h10 : W.testBit 10 = true ∨ cp = t.cp := by first | exact .inr (by with_reducible rfl) | exact .inl (partSub_bit (by with_reducible assumption) (by exact rfl)))
    (h11 : W.testBit 11 = true ∨ td = t.td := by first | exact .inr (by with_reducible rfl) | exact .inl (partSub_bit (by with_reducible assumption) (by exact rfl)))
    (h12 : W.testBit 12 = true ∨ bs = t.bs := by first | exact .inr (by with_reducible rfl) | exact .inl (partSub_bit (by with_reducible assumption) (by exact rfl)))
    (h13 : W.testBit 13 = true ∨ lm = t.lm := by first | exact .inr (by with_reducible rfl) | exact .inl (partSub_bit (by with_reducible assumption) (by exact rfl)))
    (h14 : W.testBit 14 = true ∨ hi = t.hi := by first | exact .inr (by with_reducible rfl) | exact .inl (partSub_bit (by with_reducible assumption) (by exact rfl)))
    (h15 : W.testBit 15 = true ∨ rl = t.rl := by first | exact .inr (by with_reducible rfl) | exact .inl (partSub_bit (by with_reducible assumption) (by exact rfl)))
    (h16 : W.testBit 16 = true ∨ tw = t.tw := by first | exact .inr (by with_reducible rfl) | exact .inl (partSub_bit (by with_reducible assumption) (by exact rfl)))
    (h17 : W.testBit 17 = true ∨ mg = t.mg := by first | exact .inr (by with_reducible rfl) | exact .inl (partSub_bit (by with_reducible assumption) (by exact rfl)))
    (h18 : W.testBit 18 = true ∨ gl = t.gl := by first | exact .inr (by with_reducible rfl) | exact .inl (partSub_bit (by with_reducible assumption) (by exact rfl)))
    (h19 : W.testBit 19 = true ∨ st = t.st := by first | exact .inr (by with_reducible rfl) | exact .inl (partSub_bit (by with_reducible assumption) (by exact rfl)))
    (h20 : W.testBit 20 = true ∨ rk = t.rk := by first | exact .inr (by with_reducible rfl) | exact .inl (partSub_bit (by with_reducible assumption) (by exact rfl)))
    (h21 : W.testBit 21 = true ∨ ln = t.ln := by first | exact .inr (by with_reducible rfl) | exact .inl (partSub_bit (by with_reducible assumption) (by exact rfl)))
    (h22 : W.testBit 22 = true ∨ lastRead = t.lastRead := by first | exact .inr (by with_reducible rfl) | exact .inl (partSub_bit (by with_reducible assumption) (by exact rfl)))
    (h23 : W.testBit 23 = true ∨ out = t.out := by first | exact .inr (by with_reducible rfl) | exact .inl (partSub_bit (by with_reducible assumption) (by exact rfl)))
    (h24 : W.testBit 24 = true ∨ pending = t.pending := by first | exact .inr (by with_reducible rfl) | exact .inl (partSub_bit (by with_reducible assumption) (by exact rfl))) :
    State.Fr W s₀ (State.mk fuse elapsed freeCtr regs cores mem th chans hp ep cp td bs lm hi rl tw mg gl st rk ln lastRead out pending) := by
  refine ⟨fun w => by have := h.wf w; simp only [State.memWf, Bool.and_eq_true]; exact ⟨⟨⟨e1 this, e2 this⟩, e3 this⟩, e4 this⟩, ?_, ?_, ?_, ?_, ?_, ?_, ?_, ?_, ?_, ?_, ?_, ?_, ?_, ?_, ?_, ?_, ?_, ?_, ?_, ?_, ?_, ?_, ?_, ?_, ?_⟩
  · intro hb; rcases h0 with hx | hx
    · rw [hx] at hb; cases hb
    · exact hx.trans (h.fuse hb)
  · intro hb; rcases h1 with hx | hx
    · rw [hx] at hb; cases hb
    · exact hx.trans (h.elapsed hb)
  · intro hb; rcases h2 with hx | hx
    · rw [hx] at hb; cases hb
    · exact hx.trans (h.freeCtr hb)
  · intro hb; rcases h3 with hx | hx
    · rw [hx] at hb; cases hb
    · exact hx.trans (h.regs hb)
  · intro hb; rcases h4 with hx | hx
    · rw [hx] at hb; cases hb
    · exact hx.trans (h.cores hb)
  · intro hb; rcases h5 with hx | hx
    · rw [hx] at hb; cases hb
    · exact hx.trans (h.mem hb)
  · intro hb; rcases h6 with hx | hx
    · rw [hx] at hb; cases hb
    · exact hx.trans (h.th hb)
  · intro hb; rcases h7 with hx | hx
    · rw [hx] at hb; cases hb
    · exact hx.trans (h.chans hb)
  · intro hb; rcases h8 with hx | hx
    · rw [hx] at hb; cases hb
    · exact hx.trans (h.hp hb)
  · intro hb; rcases h9 with hx | hx
    · rw [hx] at hb; cases hb
    · exact hx.trans (h.ep hb)
  · intro hb; rcases h10 with hx | hx
    · rw [hx] at hb; cases hb
    · exact hx.trans (h.cp hb)
  · intro hb; rcases h11 with hx | hx
    · rw [hx] at hb; cases hb
    · exact hx.trans (h.td hb)
  · intro hb; rcases h12 with hx | hx
    · rw [hx] at hb; cases hb
    · exact hx.trans (h.bs hb)
  · intro hb; rcases h13 with hx | hx
    · rw [hx] at hb; cases hb
    · exact hx.trans (h.lm hb)
  · intro hb; rcases h14 with hx | hx
    · rw [hx] at hb; cases hb
    · exact hx.trans (h.hi hb)
  · intro hb; rcases h15 with hx | hx
    · rw [hx] at hb; cases hb
    · exact hx.trans (h.rl hb)
  · intro hb; rcases h16 with hx | hx
    · rw [hx] at hb; cases hb
    · exact hx.trans (h.tw hb)
  · intro hb; rcases h17 with hx | hx
    · rw [hx] at hb; cases hb
    · exact hx.trans (h.mg hb)
  · intro hb; rcases h18 with hx | hx
    · rw [hx] at hb; cases hb
    · exact hx.trans (h.gl hb)
  · intro hb; rcases h19 with hx | hx
    · rw [hx] at hb; cases hb
    · exact hx.trans (h.st hb)
  · intro hb; rcases h20 with hx | hx
    · rw [hx] at hb; cases hb
    · exact hx.trans (h.rk hb)
  · intro hb; rcases h21 with hx | hx
    · rw [hx] at hb; cases hb
    · exact hx.trans (h.ln hb)
  · intro hb; rcases h22 with hx | hx
    · rw [hx] at hb; cases hb
    · exact hx.trans (h.lastRead hb)
  · intro hb; rcases h23 with hx | hx
    · rw [hx] at hb; cases hb
    · exact hx.trans (h.out hb)
  · intro hb; rcases h24 with hx | hx
    · rw [hx] at hb; cases hb
    · exact hx.trans (h.pending hb)

theorem memWf_iff {s : State} : s.memWf = true ↔ mwf 0 s.hp.hbm = true ∧ mwf false s.hp.poison = true ∧ mwf 0 s.mem.csm = true ∧ mwf 0 s.mem.cps = true := by
  simp [State.memWf, and_assoc]
/-- A fold over pairs whose first part is a state. -/
theorem fr_foldlP {W s₀} {α β : Type} {f : State × β → α → State × β} {l : List α} {p : State × β} (hf : ∀ (x : State × β) (y : α), State.Fr W s₀ x.1 → State.Fr W s₀ (f x y).1) (h : State.Fr W s₀ p.1) : State.Fr W s₀ (l.foldl f p).1 := by
  induction l generalizing p with
  | nil => exact h
  | cons a l ih => exact ih (hf p a h)

end Sys2Proof.Machine
end

