-- ==== Sys2Proof/Laws/FrameCtx.lean ====
section
/-! SUPPORT. The bodies of the Dziul instructions keep the canonical form of the CSM they work on. -/
set_option Elab.async false

namespace Sys2Proof.Machine

/-! ## The CSM under the bodies of the Dziul instructions -/

/-- A body's result has a canonical CSM. -/
def KeepsCsm (e : Except DErr Ctx) : Prop := ∀ y, e = .ok y → mwf 0 y.csm = true

theorem keeps_ok {y : Ctx} (h : mwf 0 y.csm = true) : KeepsCsm (.ok y) := by
  intro z hz; cases hz; exact h

theorem keeps_error (e : DErr) : KeepsCsm (.error e) := fun _ hy => by cases hy

theorem keeps_bind {α : Type} {e : Except DErr α} {k : α → Except DErr Ctx} (h : ∀ a, KeepsCsm (k a)) : KeepsCsm (e >>= k) := by
  intro y hy
  cases e with
  | error e => cases hy
  | ok a => exact h a y hy

theorem keeps_bindC {e : Except DErr Ctx} {k : Ctx → Except DErr Ctx} (he : KeepsCsm e)
    (h : ∀ a : Ctx, mwf 0 a.csm = true → KeepsCsm (k a)) : KeepsCsm (e >>= k) := by
  intro y hy
  cases e with
  | error e => cases hy
  | ok a => exact h a (he a rfl) y hy

theorem keeps_ite {c : Prop} [Decidable c] {a b : Except DErr Ctx} (ha : KeepsCsm a) (hb : KeepsCsm b) : KeepsCsm (if c then a else b) := by
  split <;> assumption

theorem Ctx.store1_keeps {x : Ctx} (sp a v : Nat) (h : mwf 0 x.csm = true) : mwf 0 (x.store1 sp a v).csm = true := by
  unfold Ctx.store1
  dsimp only
  split
  · exact h
  · split
    · split <;> exact h
    · exact mwf_mset _ _ h

theorem Ctx.stores_keeps {x : Ctx} (sp : Nat) (l : List (Nat × Nat)) (h : mwf 0 x.csm = true) : KeepsCsm (x.stores sp l) := by
  unfold Ctx.stores
  refine keeps_ite (keeps_ok ?_) (keeps_error _)
  induction l generalizing x with
  | nil => exact h
  | cons e l ih => exact ih (Ctx.store1_keeps _ _ _ h)

theorem Ctx.noteXm_csm (x : Ctx) (sp : Nat) (l : List Nat) : (x.noteXm sp l).csm = x.csm := by
  unfold Ctx.noteXm; split <;> rfl

theorem quadBody_keeps (op : LaneOp) (f : BitVec 40) (x : Ctx) (h : mwf 0 x.csm = true) : KeepsCsm (quadBody op f x) := by
  unfold quadBody
  refine keeps_bind fun _ => keeps_bind fun _ => keeps_bind fun _ => keeps_bind fun _ => keeps_bindC ?_ fun y hy => keeps_ok ?_
  · exact keeps_ite (Ctx.stores_keeps _ _ h) (keeps_ok h)
  · show mwf 0 (ite _ _ _ : Ctx).csm = true
    split
    · rw [Ctx.noteXm_csm]; exact hy
    · exact hy

theorem tapBody_keeps (expo : Bool) (f : BitVec 40) (x : Ctx) (h : mwf 0 x.csm = true) : KeepsCsm (tapBody expo f x) := by
  unfold tapBody
  refine keeps_bind fun _ => keeps_bind fun _ => keeps_bind fun _ => keeps_bindC ?_ fun y hy => keeps_ok ?_
  · exact keeps_ite (Ctx.stores_keeps _ _ h) (keeps_ok h)
  · show mwf 0 (Ctx.noteXm _ _ _).csm = true
    rw [Ctx.noteXm_csm]; exact hy

theorem scalarBody_keeps (op : LaneOp) (f : BitVec 40) (x : Ctx) (h : mwf 0 x.csm = true) : KeepsCsm (scalarBody op f x) :=
  keeps_bind fun _ => keeps_ok h

theorem addaBody_keeps (sub : Bool) (f : BitVec 40) (x : Ctx) (h : mwf 0 x.csm = true) : KeepsCsm (addaBody sub f x) :=
  keeps_bind fun _ => keeps_ok h

theorem negaBody_keeps (abs : Bool) (f : BitVec 40) (x : Ctx) (h : mwf 0 x.csm = true) : KeepsCsm (negaBody abs f x) :=
  keeps_bind fun _ => keeps_ok h

theorem clrBody_keeps (quad : Bool) (f : BitVec 40) (x : Ctx) (h : mwf 0 x.csm = true) : KeepsCsm (clrBody quad f x) :=
  keeps_bind fun _ => keeps_ok h

theorem ashaBody_keeps (f : BitVec 40) (x : Ctx) (h : mwf 0 x.csm = true) : KeepsCsm (ashaBody f x) := keeps_bind fun _ => keeps_ok h

theorem cmpaBody_keeps (f : BitVec 40) (x : Ctx) (h : mwf 0 x.csm = true) : KeepsCsm (cmpaBody f x) := keeps_bind fun _ => keeps_ok h

theorem expBody_keeps (f : BitVec 40) (x : Ctx) (h : mwf 0 x.csm = true) : KeepsCsm (expBody f x) := keeps_bind fun _ => keeps_ok h

theorem normBody_keeps (f : BitVec 40) (x : Ctx) (h : mwf 0 x.csm = true) : KeepsCsm (normBody f x) := keeps_bind fun _ => keeps_ok h

theorem aluBody_keeps (op : AluOp) (f : BitVec 40) (x : Ctx) (h : mwf 0 x.csm = true) : KeepsCsm (aluBody op f x) :=
  keeps_bind fun _ => keeps_ok h

theorem shiftBody_keeps (op : ShiftOp) (f : BitVec 40) (x : Ctx) (h : mwf 0 x.csm = true) : KeepsCsm (shiftBody op f x) :=
  keeps_bind fun _ => keeps_ok h

theorem cmpBody_keeps (f : BitVec 40) (x : Ctx) (h : mwf 0 x.csm = true) : KeepsCsm (cmpBody f x) := keeps_bind fun _ => keeps_ok h

theorem addiBody_keeps (f : BitVec 40) (x : Ctx) (h : mwf 0 x.csm = true) : KeepsCsm (addiBody f x) := keeps_bind fun _ => keeps_ok h

theorem moviBody_keeps (f : BitVec 40) (x : Ctx) (h : mwf 0 x.csm = true) : KeepsCsm (moviBody f x) := keeps_bind fun _ => keeps_ok h

theorem movBody_keeps (f : BitVec 40) (x : Ctx) (h : mwf 0 x.csm = true) : KeepsCsm (movBody f x) := keeps_bind fun _ => keeps_ok h

theorem loadGroup_keeps (x : Ctx) (reg sp : Nat) (l : List Nat) (h : mwf 0 x.csm = true) : KeepsCsm (loadGroup x reg sp l) := by
  unfold loadGroup
  refine keeps_bind fun _ => keeps_ok ?_
  rw [Ctx.noteXm_csm]; exact h

theorem storeGroup_keeps (x : Ctx) (reg sp : Nat) (l : List Nat) (h : mwf 0 x.csm = true) : KeepsCsm (storeGroup x reg sp l) := by
  unfold storeGroup
  exact keeps_bindC (Ctx.stores_keeps _ _ h) fun _ hy => keeps_ok hy

theorem ldBody_keeps (store : Bool) (f : BitVec 40) (x : Ctx) (h : mwf 0 x.csm = true) : KeepsCsm (ldBody store f x) := by
  unfold ldBody
  exact keeps_bind fun _ => keeps_bindC (keeps_ite (storeGroup_keeps _ _ _ _ h) (loadGroup_keeps _ _ _ _ h)) fun _ hy => keeps_ok hy

theorem ldaBody_keeps (store : Bool) (f : BitVec 40) (x : Ctx) (h : mwf 0 x.csm = true) : KeepsCsm (ldaBody store f x) := by
  unfold ldaBody
  exact keeps_bind fun _ => keeps_ite (storeGroup_keeps _ _ _ _ h) (loadGroup_keeps _ _ _ _ h)

theorem settBody_keeps (f : BitVec 40) (x : Ctx) (h : mwf 0 x.csm = true) : KeepsCsm (settBody f x) := keeps_bind fun _ => keeps_ok h

theorem gettBody_keeps (f : BitVec 40) (x : Ctx) (h : mwf 0 x.csm = true) : KeepsCsm (gettBody f x) := keeps_bind fun _ => keeps_ok h

theorem branchBody_keeps (call : Bool) (f : BitVec 40) (x : Ctx) (h : mwf 0 x.csm = true) : KeepsCsm (branchBody call f x) := by
  unfold branchBody
  refine keeps_bind fun _ => keeps_ite (keeps_ite (keeps_ite (keeps_error _) ?_) ?_) ?_ <;> exact keeps_ok h

theorem brpBody_keeps (f : BitVec 40) (x : Ctx) (h : mwf 0 x.csm = true) : KeepsCsm (brpBody f x) := by
  unfold brpBody
  refine keeps_bind fun _ => keeps_ite (keeps_ite (keeps_error _) ?_) ?_ <;> exact keeps_ok h

theorem rtsBody_keeps (rti : Bool) (f : BitVec 40) (x : Ctx) (h : mwf 0 x.csm = true) : KeepsCsm (rtsBody rti f x) := by
  unfold rtsBody
  refine keeps_bind fun _ => keeps_ite ?_ (keeps_ok h)
  split
  · exact keeps_error _
  · exact keeps_ok h

theorem loopStart_keeps (n e : Nat) (x : Ctx) (h : mwf 0 x.csm = true) : KeepsCsm (loopStart n e x) := by
  unfold loopStart
  refine keeps_bind fun _ => keeps_ite ?_ ?_ <;> exact keeps_ok h

theorem doBody_keeps (f : BitVec 40) (x : Ctx) (h : mwf 0 x.csm = true) : KeepsCsm (doBody f x) :=
  keeps_bind fun _ => loopStart_keeps _ _ _ h

theorem dorBody_keeps (f : BitVec 40) (x : Ctx) (h : mwf 0 x.csm = true) : KeepsCsm (dorBody f x) :=
  keeps_bind fun _ => loopStart_keeps _ _ _ h

end Sys2Proof.Machine
end

