-- ==== Sys2Proof/Laws/FrameOps.lean ====
section
/-! SUPPORT. The frame lemmas of registers, reports, the HBM, the host rings and the port FIFOs (see Laws/Frame.lean). -/
set_option Elab.async false

namespace Sys2Proof.Machine

theorem State.setFld_fr {W : Nat} {s₀ : State} (s : State) (f : Fld) (v : Nat) (hs : State.Fr W s₀ s)
    (hw : partSub 0x8 W = true := by first | exact partSub_refl _ | exact partSub_trans (by with_reducible assumption) (by exact rfl)) : State.Fr W s₀ (State.setFld s f v) := by
  unfold State.setFld
  exact fr_mk rfl rfl rfl rfl hs

theorem State.setFlag_fr {W : Nat} {s₀ : State} (s : State) (f : Fld) (b : Bool) (hs : State.Fr W s₀ s)
    (hw : partSub 0x8 W = true := by first | exact partSub_refl _ | exact partSub_trans (by with_reducible assumption) (by exact rfl)) : State.Fr W s₀ (State.setFlag s f b) := by
  unfold State.setFlag
  exact State.setFld_fr _ _ _ hs

theorem State.rstFld_fr {W : Nat} {s₀ : State} (s : State) (f : Fld) (hs : State.Fr W s₀ s)
    (hw : partSub 0x8 W = true := by first | exact partSub_refl _ | exact partSub_trans (by with_reducible assumption) (by exact rfl)) : State.Fr W s₀ (State.rstFld s f) := by
  unfold State.rstFld
  exact fr_mk rfl rfl rfl rfl hs

theorem State.rstRegion_fr {W : Nat} {s₀ : State} (s : State) (lo : Nat) (hi : Nat) (keep : Nat → Bool) (hs : State.Fr W s₀ s)
    (hw : partSub 0x8 W = true := by first | exact partSub_refl _ | exact partSub_trans (by with_reducible assumption) (by exact rfl)) : State.Fr W s₀ (State.rstRegion s lo hi keep) := by
  unfold State.rstRegion
  exact fr_mk rfl rfl rfl rfl hs

theorem State.incW_fr {W : Nat} {s₀ : State} (s : State) (f : Fld) (n : Nat) (hs : State.Fr W s₀ s)
    (hw : partSub 0x8 W = true := by first | exact partSub_refl _ | exact partSub_trans (by with_reducible assumption) (by exact rfl)) : State.Fr W s₀ (State.incW s f n) := by
  unfold State.incW
  exact State.setFld_fr _ _ _ hs

theorem State.fresh_fr {W : Nat} {s₀ : State} (s : State) (hs : State.Fr W s₀ s)
    (hw : partSub 0x4 W = true := by first | exact partSub_refl _ | exact partSub_trans (by with_reducible assumption) (by exact rfl)) : State.Fr W s₀ (State.fresh s).2 := fr_mk rfl rfl rfl rfl hs

theorem State.countLost_fr {W : Nat} {s₀ : State} (s : State) (c : Cls) (t : Nat) (hs : State.Fr W s₀ s)
    (hw : partSub 0x8008 W = true := by first | exact partSub_refl _ | exact partSub_trans (by with_reducible assumption) (by exact rfl)) : State.Fr W s₀ (State.countLost s c t) := by
  unfold State.countLost
  lift_lets
  intro x0 x1 x2
  have h3 : State.Fr W s₀ x2 := (fr_mk rfl rfl rfl rfl hs)
  clear_value x2
  exact State.setFlag_fr _ _ _ (State.setFlag_fr _ _ _ (State.setFld_fr _ _ _ h3))

theorem State.enq_fr {W : Nat} {s₀ : State} (s : State) (r : Report) (hs : State.Fr W s₀ s)
    (hw : partSub 0x8008 W = true := by first | exact partSub_refl _ | exact partSub_trans (by with_reducible assumption) (by exact rfl)) : State.Fr W s₀ (State.enq s r) := by
  unfold State.enq
  split
  · lift_lets
    intro x0 x1
    have h2 : State.Fr W s₀ x1 := (fr_mk rfl rfl rfl rfl hs)
    clear_value x1
    exact State.setFld_fr _ _ _ h2
  · lift_lets
    intro x3 x4
    have h5 : State.Fr W s₀ x4 := (State.countLost_fr _ _ _ hs)
    clear_value x4
    intro x6 x7 x8
    refine fr_ite ?_ h5
    · split
      · exact fr_mk rfl rfl rfl rfl h5
      · exact State.countLost_fr _ _ _ h5

theorem State.incS_fr {W : Nat} {s₀ : State} (s : State) (f : Fld) (n : Nat) (hs : State.Fr W s₀ s)
    (hw : partSub 0x8008 W = true := by first | exact partSub_refl _ | exact partSub_trans (by with_reducible assumption) (by exact rfl)) : State.Fr W s₀ (State.incS s f n) := by
  unfold State.incS
  lift_lets
  intro x0 x1 x2
  have h3 : State.Fr W s₀ x2 := (State.setFld_fr _ _ _ hs)
  clear_value x2
  exact fr_ite (State.enq_fr _ _ h3) h3

theorem State.incWrap_fr {W : Nat} {s₀ : State} (s : State) (f : Fld) (n : Nat) (evt : Bool) (hs : State.Fr W s₀ s)
    (hw : partSub 0x8008 W = true := by first | exact partSub_refl _ | exact partSub_trans (by with_reducible assumption) (by exact rfl)) : State.Fr W s₀ (State.incWrap s f n evt) := by
  unfold State.incWrap
  lift_lets
  intro x0 x1
  have h2 : State.Fr W s₀ x1 := (State.setFld_fr _ _ _ hs)
  clear_value x1
  exact fr_ite (State.enq_fr _ _ h2) h2

theorem State.captureFirst_fr {W : Nat} {s₀ : State} (s : State) (r : Report) (hs : State.Fr W s₀ s)
    (hw : partSub 0x8008 W = true := by first | exact partSub_refl _ | exact partSub_trans (by with_reducible assumption) (by exact rfl)) : State.Fr W s₀ (State.captureFirst s r) := by
  unfold State.captureFirst
  lift_lets
  intro x0 x1
  have h2 : State.Fr W s₀ x1 := by
    dsimp -zeta only [x1]
    refine fr_foldl ?_ hs
    · intro y3 y4 g5
      exact State.setFld_fr _ _ _ g5
  clear_value x1
  exact fr_ite (State.incS_fr _ _ _ hs) (State.setFlag_fr _ _ _ (State.setFlag_fr _ _ _ h2))

theorem State.raiseR_fr {W : Nat} {s₀ : State} (s : State) (r : Report) (hs : State.Fr W s₀ s)
    (hw : partSub 0x8008 W = true := by first | exact partSub_refl _ | exact partSub_trans (by with_reducible assumption) (by exact rfl)) : State.Fr W s₀ (State.raiseR s r) := by
  unfold State.raiseR
  lift_lets
  intro x0
  have h1 : State.Fr W s₀ x0 := (State.incS_fr _ _ _ hs)
  clear_value x0
  intro x2
  have h3 : State.Fr W s₀ x2 := (State.incS_fr _ _ _ hs)
  clear_value x2
  intro x4
  have h5 : State.Fr W s₀ x4 := by
    dsimp -zeta only [x4]
    split
    · split
      · exact State.incS_fr _ _ _ h1
      · exact h1
    · split
      · exact State.incS_fr _ _ _ h3
      · exact h3
    · exact State.setFlag_fr _ _ _ hs
    · exact hs
  clear_value x4
  intro x6
  have h7 : State.Fr W s₀ x6 := (fr_ite (State.captureFirst_fr _ _ h5) h5)
  clear_value x6
  exact State.enq_fr _ _ h7

theorem State.raise_fr {W : Nat} {s₀ : State} (s : State) (cls : Cls) (src : Nat) (inst : Nat) (code : Nat) (a0 : Nat) (a1 : Nat) (a2 : Nat) (hs : State.Fr W s₀ s)
    (hw : partSub 0x8008 W = true := by first | exact partSub_refl _ | exact partSub_trans (by with_reducible assumption) (by exact rfl)) : State.Fr W s₀ (State.raise s cls src inst code a0 a1 a2) := by
  unfold State.raise
  exact State.raiseR_fr _ _ hs

theorem State.raiseInj_fr {W : Nat} {s₀ : State} (s : State) (cls : Cls) (src : Nat) (inst : Nat) (code : Nat) (a0 : Nat) (a1 : Nat) (a2 : Nat) (hs : State.Fr W s₀ s)
    (hw : partSub 0x8008 W = true := by first | exact partSub_refl _ | exact partSub_trans (by with_reducible assumption) (by exact rfl)) : State.Fr W s₀ (State.raiseInj s cls src inst code a0 a1 a2) := by
  unfold State.raiseInj
  exact State.raiseR_fr _ _ hs

theorem State.event_fr {W : Nat} {s₀ : State} (s : State) (f : Fld) (cls : Cls) (inst : Nat) (a0 : Nat) (a1 : Nat) (a2 : Nat) (hs : State.Fr W s₀ s)
    (hw : partSub 0x8008 W = true := by first | exact partSub_refl _ | exact partSub_trans (by with_reducible assumption) (by exact rfl)) : State.Fr W s₀ (State.event s f cls inst a0 a1 a2) := by
  unfold State.event
  exact State.raise_fr _ _ _ _ _ _ _ _ (State.setFlag_fr _ _ _ hs)

theorem State.configRefused_fr {W : Nat} {s₀ : State} (s : State) (a : Nat) (lo : Nat) (hs : State.Fr W s₀ s)
    (hw : partSub 0x8008 W = true := by first | exact partSub_refl _ | exact partSub_trans (by with_reducible assumption) (by exact rfl)) : State.Fr W s₀ (State.configRefused s a lo) := by
  unfold State.configRefused
  exact State.raise_fr _ _ _ _ _ _ _ _ hs

theorem State.reservedEncoding_fr {W : Nat} {s₀ : State} (s : State) (a : Nat) (lo : Nat) (hs : State.Fr W s₀ s)
    (hw : partSub 0x8008 W = true := by first | exact partSub_refl _ | exact partSub_trans (by with_reducible assumption) (by exact rfl)) : State.Fr W s₀ (State.reservedEncoding s a lo) := by
  unfold State.reservedEncoding
  exact State.raise_fr _ _ _ _ _ _ _ _ hs

theorem State.setCore_fr {W : Nat} {s₀ : State} (s : State) (k : Nat) (c : Core) (hs : State.Fr W s₀ s)
    (hw : partSub 0x10 W = true := by first | exact partSub_refl _ | exact partSub_trans (by with_reducible assumption) (by exact rfl)) : State.Fr W s₀ (State.setCore s k c) := by
  unfold State.setCore
  exact fr_mk rfl rfl rfl rfl hs

theorem State.setPage_fr {W : Nat} {s₀ : State} (s : State) (p : Nat) (v : Option Nat) (hs : State.Fr W s₀ s)
    (hw : partSub 0x100 W = true := by first | exact partSub_refl _ | exact partSub_trans (by with_reducible assumption) (by exact rfl)) : State.Fr W s₀ (State.setPage s p v) := by
  unfold State.setPage
  lift_lets
  intro x0
  exact fr_mk rfl rfl rfl rfl hs

theorem State.setByte_fr {W : Nat} {s₀ : State} (s : State) (a : Nat) (b : Byte) (hs : State.Fr W s₀ s)
    (hw : partSub 0x100 W = true := by first | exact partSub_refl _ | exact partSub_trans (by with_reducible assumption) (by exact rfl)) : State.Fr W s₀ (State.setByte s a b) := by
  unfold State.setByte
  split
  · exact hs
  · refine fr_mem hs (fun h => ?_) (fun h => (memWf_iff.1 h).2.1) (fun h => (memWf_iff.1 h).2.2.1) fun h => (memWf_iff.1 h).2.2.2
    dsimp only
    split <;> simp only [mwf_mset, (memWf_iff.1 h).1]

theorem State.unpoison_fr {W : Nat} {s₀ : State} (s : State) (w : Nat) (hs : State.Fr W s₀ s)
    (hw : partSub 0x100 W = true := by first | exact partSub_refl _ | exact partSub_trans (by with_reducible assumption) (by exact rfl)) : State.Fr W s₀ (State.unpoison s w) := by
  unfold State.unpoison
  refine fr_mem hs (fun h => (memWf_iff.1 h).1) (fun h => ?_) (fun h => (memWf_iff.1 h).2.2.1) fun h => (memWf_iff.1 h).2.2.2
  dsimp only
  split <;> simp only [mwf_mset, (memWf_iff.1 h).2.1]

theorem State.unpoisonRange_fr {W : Nat} {s₀ : State} (s : State) (a : Nat) (n : Nat) (hs : State.Fr W s₀ s)
    (hw : partSub 0x100 W = true := by first | exact partSub_refl _ | exact partSub_trans (by with_reducible assumption) (by exact rfl)) : State.Fr W s₀ (State.unpoisonRange s a n) := by
  unfold State.unpoisonRange
  refine fr_ite hs (fr_foldl ?_ hs)
  · intro y0 y1 g2
    lift_lets
    intro x3
    refine fr_ite ?_ g2
    · split
      · exact State.unpoison_fr _ _ g2
      · exact g2

theorem State.setBytes_fr {W : Nat} {s₀ : State} (s : State) (a : Nat) (l : List Byte) (hs : State.Fr W s₀ s)
    (hw : partSub 0x100 W = true := by first | exact partSub_refl _ | exact partSub_trans (by with_reducible assumption) (by exact rfl)) : State.Fr W s₀ (State.setBytes s a l) := by
  unfold State.setBytes
  exact State.unpoisonRange_fr _ _ _ (fr_foldlP (fun x y h => State.setByte_fr _ _ _ h) hs)

theorem State.setWord_fr {W : Nat} {s₀ : State} (s : State) (a : Nat) (v : Nat) (hs : State.Fr W s₀ s)
    (hw : partSub 0x100 W = true := by first | exact partSub_refl _ | exact partSub_trans (by with_reducible assumption) (by exact rfl)) : State.Fr W s₀ (State.setWord s a v) := by
  unfold State.setWord
  exact State.setBytes_fr _ _ _ hs

theorem State.unmappedEvent_fr {W : Nat} {s₀ : State} (s : State) (page : Nat) (hs : State.Fr W s₀ s)
    (hw : partSub 0x8008 W = true := by first | exact partSub_refl _ | exact partSub_trans (by with_reducible assumption) (by exact rfl)) : State.Fr W s₀ (State.unmappedEvent s page) := by
  unfold State.unmappedEvent
  exact State.event_fr _ _ _ _ _ _ _ hs

theorem State.poisonSeen_fr {W : Nat} {s₀ : State} (s : State) (hs : State.Fr W s₀ s)
    (hw : partSub 0x8 W = true := by first | exact partSub_refl _ | exact partSub_trans (by with_reducible assumption) (by exact rfl)) : State.Fr W s₀ (State.poisonSeen s) := by
  unfold State.poisonSeen
  exact State.setFlag_fr _ _ _ hs

theorem State.setChan_fr {W : Nat} {s₀ : State} (s : State) (n : Nat) (c : Chan) (hs : State.Fr W s₀ s)
    (hw : partSub 0x80 W = true := by first | exact partSub_refl _ | exact partSub_trans (by with_reducible assumption) (by exact rfl)) : State.Fr W s₀ (State.setChan s n c) := by
  unfold State.setChan
  exact fr_mk rfl rfl rfl rfl hs

theorem State.setCtxWord_fr {W : Nat} {s₀ : State} (s : State) (c : Chan) (i : Nat) (v : Nat) (hs : State.Fr W s₀ s)
    (hw : partSub 0x100 W = true := by first | exact partSub_refl _ | exact partSub_trans (by with_reducible assumption) (by exact rfl)) : State.Fr W s₀ (State.setCtxWord s c i v) := by
  unfold State.setCtxWord
  exact State.setWord_fr _ _ _ hs

theorem State.ctxIncS_fr {W : Nat} {s₀ : State} (s : State) (n : Nat) (c : Chan) (i : Nat) (lo : Nat) (w : Nat) (hs : State.Fr W s₀ s)
    (hw : partSub 0x8108 W = true := by first | exact partSub_refl _ | exact partSub_trans (by with_reducible assumption) (by exact rfl)) : State.Fr W s₀ (State.ctxIncS s n c i lo w) := by
  unfold State.ctxIncS
  lift_lets
  intro x0 x1 x2 x3
  have h4 : State.Fr W s₀ x3 := (State.setCtxWord_fr _ _ _ _ hs)
  clear_value x3
  exact fr_ite (State.raise_fr _ _ _ _ _ _ _ _ h4) h4

theorem State.lanternCount_fr {W : Nat} {s₀ : State} (s : State) (n : Nat) (i : Nat) (k : Nat) (hs : State.Fr W s₀ s)
    (hw : partSub 0x80 W = true := by first | exact partSub_refl _ | exact partSub_trans (by with_reducible assumption) (by exact rfl)) : State.Fr W s₀ (State.lanternCount s n i k) := by
  unfold State.lanternCount
  split
  · lift_lets
    intro x0
    exact fr_ite (State.setChan_fr _ _ _ hs) hs
  · exact hs

theorem State.putChan_fr {W : Nat} {s₀ : State} (s : State) (n : Nat) (c : Chan) (hs : State.Fr W s₀ s)
    (hw : partSub 0x180 W = true := by first | exact partSub_refl _ | exact partSub_trans (by with_reducible assumption) (by exact rfl)) : State.Fr W s₀ (State.putChan s n c) := by
  unfold State.putChan
  exact State.setCtxWord_fr _ _ _ _ (State.setCtxWord_fr _ _ _ _ (State.setChan_fr _ _ _ hs))

theorem State.writeRing_fr {W : Nat} {s₀ : State} (s : State) (c : Chan) (base : Nat) (shape : RingShape) (f : Nat) (samples : List Nat) (hs : State.Fr W s₀ s)
    (hw : partSub 0x100 W = true := by first | exact partSub_refl _ | exact partSub_trans (by with_reducible assumption) (by exact rfl)) : State.Fr W s₀ (State.writeRing s c base shape f samples) := by
  unfold State.writeRing
  lift_lets
  intro x0 x1
  have h2 : State.Fr W s₀ x1 := (State.setBytes_fr _ _ _ hs)
  clear_value x1
  intro x3
  have h4 : State.Fr W s₀ x3 := (State.setWord_fr _ _ _ h2)
  clear_value x3
  exact State.setCtxWord_fr _ _ _ _ h4

theorem State.txRingItem_fr {W : Nat} {s₀ : State} (s : State) (n : Nat) (data : List Byte) (hs : State.Fr W s₀ s)
    (hw : partSub 0x8108 W = true := by first | exact partSub_refl _ | exact partSub_trans (by with_reducible assumption) (by exact rfl)) : State.Fr W s₀ (State.txRingItem s n data) := by
  unfold State.txRingItem
  split
  · exact hs
  · lift_lets
    intro x0 x1 x2 x3
    have h4 : State.Fr W s₀ x3 := (fr_ite hs (State.ctxIncS_fr _ _ _ _ _ _ hs))
    clear_value x3
    exact fr_ite (State.raise_fr _ _ _ _ _ _ _ _ h4) (State.writeRing_fr _ _ _ _ _ _ hs)

theorem State.jbInsert_fr {W : Nat} {s₀ : State} (s : State) (n : Nat) (c : Chan) (seq : Nat) (ts : Nat) (pt : Nat) (m : Bool) (payload : List Byte) (hs : State.Fr W s₀ s)
    (hw : partSub 0x8188 W = true := by first | exact partSub_refl _ | exact partSub_trans (by with_reducible assumption) (by exact rfl)) : State.Fr W s₀ (State.jbInsert s n c seq ts pt m payload).1 := by
  unfold State.jbInsert
  lift_lets
  intro x0 x1
  have h2 : State.Fr W s₀ x1 := (fr_ite hs (State.setCtxWord_fr _ _ _ _ (State.setCtxWord_fr _ _ _ _ (State.setCtxWord_fr _ _ _ _ hs))))
  clear_value x1
  intro x3 x4 x5
  have h6 : State.Fr W s₀ x5 := (State.setBytes_fr _ _ _ h2)
  clear_value x5
  intro x7
  have h8 : State.Fr W s₀ x7 := (State.setBytes_fr _ _ _ h6)
  clear_value x7
  exact fr_iteP (State.ctxIncS_fr _ _ _ _ _ _ hs) (fr_iteP (State.lanternCount_fr _ _ _ _ (State.ctxIncS_fr _ _ _ _ _ _ h2)) (fr_iteP (State.lanternCount_fr _ _ _ _ (State.ctxIncS_fr _ _ _ _ _ _ h2)) (fr_iteP (State.ctxIncS_fr _ _ _ _ _ _ h2) (State.lanternCount_fr _ _ _ _ (State.setCtxWord_fr _ _ _ _ h8)))))

theorem State.jbAdvance_fr {W : Nat} {s₀ : State} (s : State) (n : Nat) (c : Chan) (newSeq : Nat) (newTs : Nat) (reset : Bool) (hs : State.Fr W s₀ s)
    (hw : partSub 0x8188 W = true := by first | exact partSub_refl _ | exact partSub_trans (by with_reducible assumption) (by exact rfl)) : State.Fr W s₀ (State.jbAdvance s n c newSeq newTs reset) := by
  unfold State.jbAdvance
  lift_lets
  intro x0 x1 x2 x3 x4
  have h5 : State.Fr W s₀ x4 := by
    dsimp -zeta only [x4]
    refine fr_foldl ?_ hs
    · intro y6 y7 g8
      exact State.setWord_fr _ _ _ g8
  clear_value x4
  intro x9
  have h10 : State.Fr W s₀ x9 := by
    dsimp -zeta only [x9]
    refine fr_foldl ?_ hs
    · intro y11 y12 g13
      lift_lets
      intro x14 x15
      exact fr_ite (State.setWord_fr _ _ _ (fr_ite g13 (State.ctxIncS_fr _ _ _ _ _ _ g13))) (State.lanternCount_fr _ _ _ _ g13)
  clear_value x9
  intro x16 x17
  exact fr_ite (State.setCtxWord_fr _ _ _ _ h5) (State.setCtxWord_fr _ _ _ _ (State.setCtxWord_fr _ _ _ _ h10))

theorem State.jbMark_fr {W : Nat} {s₀ : State} (s : State) (c : Chan) (l : List Nat) (hs : State.Fr W s₀ s)
    (hw : partSub 0x100 W = true := by first | exact partSub_refl _ | exact partSub_trans (by with_reducible assumption) (by exact rfl)) : State.Fr W s₀ (State.jbMark s c l) := by
  unfold State.jbMark
  lift_lets
  intro x0
  refine fr_foldl ?_ hs
  · intro y1 y2 g3
    exact State.setWord_fr _ _ _ g3

theorem State.emit_fr {W : Nat} {s₀ : State} (s : State) (o : Out) (hs : State.Fr W s₀ s)
    (hw : partSub 0x800000 W = true := by first | exact partSub_refl _ | exact partSub_trans (by with_reducible assumption) (by exact rfl)) : State.Fr W s₀ (State.emit s o) := by
  unfold State.emit
  exact fr_mk rfl rfl rfl rfl hs

theorem State.setRing_fr {W : Nat} {s₀ : State} (s : State) (r : Nat) (x : RingSt) (hs : State.Fr W s₀ s)
    (hw : partSub 0x4000 W = true := by first | exact partSub_refl _ | exact partSub_trans (by with_reducible assumption) (by exact rfl)) : State.Fr W s₀ (State.setRing s r x) := by
  unfold State.setRing
  lift_lets
  intro x0
  exact fr_mk rfl rfl rfl rfl hs

theorem State.sendMsix_fr {W : Nat} {s₀ : State} (s : State) (v : Nat) (hs : State.Fr W s₀ s)
    (hw : partSub 0x804000 W = true := by first | exact partSub_refl _ | exact partSub_trans (by with_reducible assumption) (by exact rfl)) : State.Fr W s₀ (State.sendMsix s v) := by
  unfold State.sendMsix
  lift_lets
  intro x0
  exact fr_ite (fr_mk rfl rfl rfl rfl hs) (State.emit_fr _ _ hs)

theorem State.moderate_fr {W : Nat} {s₀ : State} (s : State) (r : Nat) (hs : State.Fr W s₀ s)
    (hw : partSub 0x804000 W = true := by first | exact partSub_refl _ | exact partSub_trans (by with_reducible assumption) (by exact rfl)) : State.Fr W s₀ (State.moderate s r) := by
  unfold State.moderate
  lift_lets
  intro x0 x1 x2
  exact fr_ite (fr_ite (State.sendMsix_fr _ _ (State.setRing_fr _ _ _ hs)) (State.setRing_fr _ _ _ hs)) hs

theorem State.ringEntry_fr {W : Nat} {s₀ : State} (s : State) (r : Nat) (words : List Nat) (hs : State.Fr W s₀ s)
    (hw : partSub 0x804000 W = true := by first | exact partSub_refl _ | exact partSub_trans (by with_reducible assumption) (by exact rfl)) : State.Fr W s₀ (State.ringEntry s r words) := by
  unfold State.ringEntry
  lift_lets
  intro x0 x1 x2 x3
  have h4 : State.Fr W s₀ x3 := (State.emit_fr _ _ hs)
  clear_value x3
  intro x5 x6
  have h7 : State.Fr W s₀ x6 := (State.emit_fr _ _ (State.setRing_fr _ _ _ h4))
  clear_value x6
  exact State.moderate_fr _ _ h7

theorem State.countCmd_fr {W : Nat} {s₀ : State} (s : State) (hs : State.Fr W s₀ s)
    (hw : partSub 0x8 W = true := by first | exact partSub_refl _ | exact partSub_trans (by with_reducible assumption) (by exact rfl)) : State.Fr W s₀ (State.countCmd s) := by
  unfold State.countCmd
  lift_lets
  intro x0
  exact State.setFld_fr _ _ _ (State.setFld_fr _ _ _ hs)

theorem State.complete_fr {W : Nat} {s₀ : State} (s : State) (o : Origin) (status : Nat) (detail : Nat) (vals : List Nat) (hs : State.Fr W s₀ s)
    (hw : partSub 0x80c008 W = true := by first | exact partSub_refl _ | exact partSub_trans (by with_reducible assumption) (by exact rfl)) : State.Fr W s₀ (State.complete s o status detail vals) := by
  unfold State.complete
  lift_lets
  intro x0
  have h1 : State.Fr W s₀ x0 := (State.countCmd_fr _ hs)
  clear_value x0
  intro x2
  have h3 : State.Fr W s₀ x2 := (fr_ite (State.incS_fr _ _ _ h1) h1)
  clear_value x2
  exact fr_ite (State.ringEntry_fr _ _ _ h3) (State.incS_fr _ _ _ h3)

theorem State.completeOpt_fr {W : Nat} {s₀ : State} (s : State) (o : Option Origin) (status : Nat) (detail : Nat) (vals : List Nat) (hs : State.Fr W s₀ s)
    (hw : partSub 0x80c008 W = true := by first | exact partSub_refl _ | exact partSub_trans (by with_reducible assumption) (by exact rfl)) : State.Fr W s₀ (State.completeOpt s o status detail vals) := by
  unfold State.completeOpt
  split
  · exact State.complete_fr _ _ _ _ _ hs
  · exact hs

theorem State.skipBad_fr {W : Nat} {s₀ : State} (s : State) (r : Nat) (l : List RxBuf) (hs : State.Fr W s₀ s)
    (hw : partSub 0x80c008 W = true := by first | exact partSub_refl _ | exact partSub_trans (by with_reducible assumption) (by exact rfl)) : State.Fr W s₀ (State.skipBad s r l) := by
  induction l generalizing s with
  | nil => exact fr_mk rfl rfl rfl rfl hs
  | cons b l ih =>
    unfold State.skipBad
    exact fr_ite (ih _ (State.complete_fr _ _ _ _ _ hs)) (fr_mk rfl rfl rfl rfl hs)

theorem State.hostDeliver_fr {W : Nat} {s₀ : State} (s : State) (port : Nat) (rec : List Nat) (frame : List Byte) (hs : State.Fr W s₀ s)
    (hw : partSub 0x80c008 W = true := by first | exact partSub_refl _ | exact partSub_trans (by with_reducible assumption) (by exact rfl)) : State.Fr W s₀ (State.hostDeliver s port rec frame).1 := by
  unfold State.hostDeliver
  extract_lets s1
  have h1 : State.Fr W s₀ s1 := by
    unfold s1
    split
    · exact State.skipBad_fr _ _ _ hs
    · exact hs
  clear_value s1
  split
  · exact State.ringEntry_fr _ _ _ (State.emit_fr _ _ (fr_mk rfl rfl rfl rfl h1))
  · exact h1

theorem State.itemRecord.drop_fr {W : Nat} {s₀ : State} (chan : Nat) (s : State) (hs : State.Fr W s₀ s)
    (hw : partSub 0xc008 W = true := by first | exact partSub_refl _ | exact partSub_trans (by with_reducible assumption) (by exact rfl)) : State.Fr W s₀ (State.itemRecord.drop chan s) := by
  unfold State.itemRecord.drop
  lift_lets
  intro x0
  have h1 : State.Fr W s₀ x0 := (State.setFlag_fr _ _ _ (State.incS_fr _ _ _ hs))
  clear_value x0
  intro x2 x3 x4 x5
  have h6 : State.Fr W s₀ x5 := (fr_mk rfl rfl rfl rfl h1)
  clear_value x5
  exact fr_ite (fr_mk rfl rfl rfl rfl h1) (fr_ite (State.raise_fr _ _ _ _ _ _ _ _ h6) h6)

theorem State.itemRecord_fr {W : Nat} {s₀ : State} (s : State) (chan : Nat) (seq : Nat) (data : List Byte) (hs : State.Fr W s₀ s)
    (hw : partSub 0x80c008 W = true := by first | exact partSub_refl _ | exact partSub_trans (by with_reducible assumption) (by exact rfl)) : State.Fr W s₀ (State.itemRecord s chan seq data) := by
  unfold State.itemRecord
  lift_lets
  intro x0 x1 x2 x3
  split
  · exact fr_ite (State.ringEntry_fr _ _ _ hs) (State.itemRecord.drop_fr _ _ hs)
  · exact State.itemRecord.drop_fr _ _ hs

theorem State.setJob_fr {W : Nat} {s₀ : State} (s : State) (j : Job) (hs : State.Fr W s₀ s)
    (hw : partSub 0x4000 W = true := by first | exact partSub_refl _ | exact partSub_trans (by with_reducible assumption) (by exact rfl)) : State.Fr W s₀ (State.setJob s j) := by
  unfold State.setJob
  lift_lets
  intro x0
  exact fr_mk rfl rfl rfl rfl hs

theorem State.dropJob_fr {W : Nat} {s₀ : State} (s : State) (h_ : Nat) (hs : State.Fr W s₀ s)
    (hw : partSub 0x4000 W = true := by first | exact partSub_refl _ | exact partSub_trans (by with_reducible assumption) (by exact rfl)) : State.Fr W s₀ (State.dropJob s h_) := by
  unfold State.dropJob
  lift_lets
  intro x0
  exact fr_mk rfl rfl rfl rfl hs

theorem State.addJob_fr {W : Nat} {s₀ : State} (s : State) (j : Job) (hs : State.Fr W s₀ s)
    (hw : partSub 0x4008 W = true := by first | exact partSub_refl _ | exact partSub_trans (by with_reducible assumption) (by exact rfl)) : State.Fr W s₀ (State.addJob s j) := by
  unfold State.addJob
  lift_lets
  intro x0 x1
  have h2 : State.Fr W s₀ x1 := (fr_mk rfl rfl rfl rfl hs)
  clear_value x1
  exact State.setFld_fr _ _ _ h2

theorem State.jobProgress_fr {W : Nat} {s₀ : State} (s : State) (h_ : Nat) (always : Bool) (hs : State.Fr W s₀ s)
    (hw : partSub 0xc008 W = true := by first | exact partSub_refl _ | exact partSub_trans (by with_reducible assumption) (by exact rfl)) : State.Fr W s₀ (State.jobProgress s h_ always) := by
  unfold State.jobProgress
  split
  · exact hs
  · lift_lets
    intro x0
    exact fr_ite (State.raise_fr _ _ _ _ _ _ _ _ (State.setJob_fr _ _ hs)) hs

theorem State.endJob_fr {W : Nat} {s₀ : State} (s : State) (h_ : Nat) (status : Nat) (detail : Nat) (vals : List Nat) (hs : State.Fr W s₀ s)
    (hw : partSub 0x80c008 W = true := by first | exact partSub_refl _ | exact partSub_trans (by with_reducible assumption) (by exact rfl)) : State.Fr W s₀ (State.endJob s h_ status detail vals) := by
  unfold State.endJob
  split
  · exact hs
  · lift_lets
    intro x0
    have h1 : State.Fr W s₀ x0 := (State.jobProgress_fr _ _ _ hs)
    clear_value x0
    intro x2 x3
    have h4 : State.Fr W s₀ x3 := (State.setJob_fr _ _ h1)
    clear_value x3
    intro x5
    have h6 : State.Fr W s₀ x5 := (fr_ite (State.complete_fr _ _ _ _ _ (State.dropJob_fr _ _ h1)) (State.raise_fr _ _ _ _ _ _ _ _ (State.setFlag_fr _ _ _ h4)))
    clear_value x5
    intro x7
    have h8 : State.Fr W s₀ x7 := by
      dsimp -zeta only [x7]
      refine fr_foldl ?_ h6
      · intro y9 y10 g11
        exact State.complete_fr _ _ _ _ _ g11
    clear_value x7
    refine fr_foldl ?_ h8
    · intro y12 y13 g14
      exact State.complete_fr _ _ _ _ _ g14

theorem State.rkMark_fr {W : Nat} {s₀ : State} (s : State) (hs : State.Fr W s₀ s)
    (hw : partSub 0x8 W = true := by first | exact partSub_refl _ | exact partSub_trans (by with_reducible assumption) (by exact rfl)) : State.Fr W s₀ (State.rkMark s) := by
  unfold State.rkMark
  lift_lets
  intro x0
  have h1 : State.Fr W s₀ x0 := (State.setFld_fr _ _ _ hs)
  clear_value x0
  exact State.setFld_fr _ _ _ h1

theorem State.cellDone_fr {W : Nat} {s₀ : State} (s : State) (a : Nat) (w12 : Nat) (w13 : Nat) (w14 : Nat) (w15 : Nat) (hs : State.Fr W s₀ s)
    (hw : partSub 0x100 W = true := by first | exact partSub_refl _ | exact partSub_trans (by with_reducible assumption) (by exact rfl)) : State.Fr W s₀ (State.cellDone s a w12 w13 w14 w15) := by
  unfold State.cellDone
  exact State.setBytes_fr _ _ _ hs

theorem State.cellSubmit_fr {W : Nat} {s₀ : State} (s : State) (n : Nat) (a : Nat) (hs : State.Fr W s₀ s)
    (hw : partSub 0x108108 W = true := by first | exact partSub_refl _ | exact partSub_trans (by with_reducible assumption) (by exact rfl)) : State.Fr W s₀ (State.cellSubmit s n a).1 := by
  have h1 : State.Fr W s₀ (s.cellDone a 1 0 0 0) := State.cellDone_fr s a 1 0 0 0 hs
  unfold State.cellSubmit
  extract_lets st w s1 j k s2
  clear_value st w
  split
  · exact State.event_fr _ _ _ _ _ _ _ (State.incS_fr _ _ _ hs)
  · split
    · have h := State.cellDone_fr s a (3 + 5 * 256) 0 0 0 hs
      generalize s.cellDone a (3 + 5 * 256) 0 0 0 = s1 at h ⊢
      exact h
    · have h2 : State.Fr W s₀ s1 := h1
      have h3 : State.Fr W s₀ s2 := fr_mk rfl rfl rfl rfl h2
      generalize s2 = s3 at h3 ⊢
      exact State.rkMark_fr _ h3

theorem State.lanternItem_fr {W : Nat} {s₀ : State} (s : State) (n : Nat) (data : List Byte) (hs : State.Fr W s₀ s)
    (hw : partSub 0xa0c008 W = true := by first | exact partSub_refl _ | exact partSub_trans (by with_reducible assumption) (by exact rfl)) : State.Fr W s₀ (State.lanternItem s n data) := by
  unfold State.lanternItem
  refine fr_ite (fr_ite (State.sendMsix_fr _ _ ?_) ?_) (fr_ite (State.setFlag_fr _ _ _ hs) (State.event_fr _ _ _ _ _ _ _ ?_)) <;>
    exact fr_mk rfl rfl rfl rfl hs

theorem State.setPort_fr {W : Nat} {s₀ : State} (s : State) (p : Nat) (x : Port) (hs : State.Fr W s₀ s)
    (hw : partSub 0x200 W = true := by first | exact partSub_refl _ | exact partSub_trans (by with_reducible assumption) (by exact rfl)) : State.Fr W s₀ (State.setPort s p x) := by
  unfold State.setPort
  lift_lets
  intro x0
  exact fr_mk rfl rfl rfl rfl hs

theorem State.setSrtp_fr {W : Nat} {s₀ : State} (s : State) (i : Nat) (l : List Nat) (hs : State.Fr W s₀ s)
    (hw : partSub 0x200 W = true := by first | exact partSub_refl _ | exact partSub_trans (by with_reducible assumption) (by exact rfl)) : State.Fr W s₀ (State.setSrtp s i l) := by
  unfold State.setSrtp
  lift_lets
  intro x0
  exact fr_mk rfl rfl rfl rfl hs

theorem State.txDrop_fr {W : Nat} {s₀ : State} (s : State) (p : Nat) (hs : State.Fr W s₀ s)
    (hw : partSub 0x8008 W = true := by first | exact partSub_refl _ | exact partSub_trans (by with_reducible assumption) (by exact rfl)) : State.Fr W s₀ (State.txDrop s p) := by
  unfold State.txDrop
  exact State.setFlag_fr _ _ _ (State.incS_fr _ _ _ hs)

theorem State.statRing_fr {W : Nat} {s₀ : State} (s : State) (p : Nat) (tcr : Bool) (words : List Nat) (hs : State.Fr W s₀ s)
    (hw : partSub 0x108 W = true := by first | exact partSub_refl _ | exact partSub_trans (by with_reducible assumption) (by exact rfl)) : State.Fr W s₀ (State.statRing s p tcr words) := by
  unfold State.statRing
  lift_lets
  intro x0 x1 x2
  have h3 : State.Fr W s₀ x2 := (State.setBytes_fr _ _ _ hs)
  clear_value x2
  exact State.setFld_fr _ _ _ h3

theorem State.txDone_fr {W : Nat} {s₀ : State} (s : State) (p : Nat) (f : TxFrame) (status : Nat) (aborted : Bool) (roc : Nat) (ts : Option (Nat × Nat)) (hs : State.Fr W s₀ s)
    (hw : partSub 0x80c188 W = true := by first | exact partSub_refl _ | exact partSub_trans (by with_reducible assumption) (by exact rfl)) : State.Fr W s₀ (State.txDone s p f status aborted roc ts) := by
  unfold State.txDone
  lift_lets
  intro x0 x1 x2 x3 x4
  have h5 : State.Fr W s₀ x4 := (fr_ite hs (State.txDrop_fr _ _ hs))
  clear_value x4
  intro x6
  have h7 : State.Fr W s₀ x6 := (fr_ite (State.setFlag_fr _ _ _ (State.incS_fr _ _ _ h5)) h5)
  clear_value x6
  intro x8 x9 x10
  have h11 : State.Fr W s₀ x10 := (fr_ite (State.statRing_fr _ _ _ _ h7) h7)
  clear_value x10
  split
  · split
    · lift_lets
      intro x12
      have h13 : State.Fr W s₀ x12 := (State.setChan_fr _ _ _ h11)
      clear_value x12
      exact fr_ite (State.lanternCount_fr _ _ _ _ h13) h13
    · exact h11
  · exact State.completeOpt_fr _ _ _ _ _ h7
  · exact h7

theorem State.setTxQueue_fr {W : Nat} {s₀ : State} (s : State) (p : Nat) (pri : Nat) (l : List TxFrame) (hs : State.Fr W s₀ s)
    (hw : partSub 0x200 W = true := by first | exact partSub_refl _ | exact partSub_trans (by with_reducible assumption) (by exact rfl)) : State.Fr W s₀ (State.setTxQueue s p pri l) := by
  unfold State.setTxQueue
  lift_lets
  intro x0
  exact State.setPort_fr _ _ _ hs

theorem State.txAdmit_fr {W : Nat} {s₀ : State} (s : State) (p : Nat) (f : TxFrame) (hs : State.Fr W s₀ s)
    (hw : partSub 0x80c388 W = true := by first | exact partSub_refl _ | exact partSub_trans (by with_reducible assumption) (by exact rfl)) : State.Fr W s₀ (State.txAdmit s p f) := by
  unfold State.txAdmit
  lift_lets
  intro x0 x1 x2 x3
  have h4 : State.Fr W s₀ x3 := (State.setTxQueue_fr _ _ _ _ hs)
  clear_value x3
  exact fr_ite (State.setFld_fr _ _ _ h4) (State.txDone_fr _ _ _ _ _ _ _ hs)

theorem State.releaseItem_fr {W : Nat} {s₀ : State} (s : State) (flow : Nat) (seq : Nat) (data : List Byte) (hs : State.Fr W s₀ s)
    (hw : partSub 0x80c388 W = true := by first | exact partSub_refl _ | exact partSub_trans (by with_reducible assumption) (by exact rfl)) : State.Fr W s₀ (State.releaseItem s flow seq data) := by
  unfold State.releaseItem
  lift_lets
  intro x0
  clear_value x0
  intro x1
  have h2 : State.Fr W s₀ x1 := by
    dsimp -zeta only [x1]
    split
    · exact State.setChan_fr _ _ _ hs
    · exact hs
  clear_value x1
  intro x3
  clear_value x3
  intro x4
  clear_value x4
  intro x5
  clear_value x5
  intro x6
  clear_value x6
  intro x7
  clear_value x7
  refine fr_ite (State.txDone_fr _ _ _ _ _ _ _ h2) ?_
  · split
    · exact State.txDone_fr _ _ _ _ _ _ _ h2
    · lift_lets
      intro x8
      clear_value x8
      intro x9
      clear_value x9
      intro x10
      clear_value x10
      intro x11
      clear_value x11
      intro x12
      clear_value x12
      split
      · dsimp -zeta only
        lift_lets
        intro x13
        clear_value x13
        exact State.txDone_fr _ _ _ _ _ _ _ h2
      · dsimp -zeta only
        lift_lets
        intro x14
        clear_value x14
        intro x15
        clear_value x15
        intro x16
        clear_value x16
        intro x17
        clear_value x17
        exact fr_ite (State.txDone_fr _ _ _ _ _ _ _ h2) (State.txAdmit_fr _ _ _ h2)

end Sys2Proof.Machine
end

