-- ==== Sys2Proof/Laws/FrameTrail.lean ====
section
/-! SUPPORT. The frame lemmas of channels, admission and the cores' control (see Laws/Frame.lean). -/
set_option Elab.async false

namespace Sys2Proof.Machine

theorem State.setQueue_fr {W : Nat} {s₀ : State} (s : State) (q_ : Nat) (l : List Entry) (hs : State.Fr W s₀ s)
    (hw : partSub 0x40 W = true := by first | exact partSub_refl _ | exact partSub_trans (by with_reducible assumption) (by exact rfl)) : State.Fr W s₀ (State.setQueue s q_ l) := by
  unfold State.setQueue
  lift_lets
  intro x0
  exact fr_mk rfl rfl rfl rfl hs

theorem State.poolMark_fr {W : Nat} {s₀ : State} (s : State) (hs : State.Fr W s₀ s)
    (hw : partSub 0x8 W = true := by first | exact partSub_refl _ | exact partSub_trans (by with_reducible assumption) (by exact rfl)) : State.Fr W s₀ (State.poolMark s) := by
  unfold State.poolMark
  exact State.setFld_fr _ _ _ hs

theorem State.ordMark_fr {W : Nat} {s₀ : State} (s : State) (hs : State.Fr W s₀ s)
    (hw : partSub 0x8 W = true := by first | exact partSub_refl _ | exact partSub_trans (by with_reducible assumption) (by exact rfl)) : State.Fr W s₀ (State.ordMark s) := by
  unfold State.ordMark
  exact State.setFld_fr _ _ _ hs

theorem State.portBytes_fr {W : Nat} {s₀ : State} (s : State) (c : Nat) (n : Nat) (hs : State.Fr W s₀ s)
    (hw : partSub 0x8108 W = true := by first | exact partSub_refl _ | exact partSub_trans (by with_reducible assumption) (by exact rfl)) : State.Fr W s₀ (State.portBytes s c n) := by
  unfold State.portBytes
  lift_lets
  intro x0 x1 x2
  have h3 : State.Fr W s₀ x2 := (fr_mk rfl rfl rfl rfl hs)
  clear_value x2
  exact State.incWrap_fr _ _ _ _ h3

theorem State.pushEntry_fr {W : Nat} {s₀ : State} (s : State) (e : Entry) (hs : State.Fr W s₀ s)
    (hw : partSub 0x48 W = true := by first | exact partSub_refl _ | exact partSub_trans (by with_reducible assumption) (by exact rfl)) : State.Fr W s₀ (State.pushEntry s e) := by
  unfold State.pushEntry
  lift_lets
  intro x0 x1 x2
  have h3 : State.Fr W s₀ x2 := (fr_mk rfl rfl rfl rfl hs)
  clear_value x2
  intro x4
  have h5 : State.Fr W s₀ x4 := (State.poolMark_fr _ (State.setQueue_fr _ _ _ h3))
  clear_value x4
  exact fr_ite (State.setFld_fr _ _ _ h5) h5

theorem State.returnEntry_fr {W : Nat} {s₀ : State} (s : State) (e : Entry) (hs : State.Fr W s₀ s)
    (hw : partSub 0x40 W = true := by first | exact partSub_refl _ | exact partSub_trans (by with_reducible assumption) (by exact rfl)) : State.Fr W s₀ (State.returnEntry s e) := by
  unfold State.returnEntry
  exact State.setQueue_fr _ _ _ hs

theorem State.updEntry_fr {W : Nat} {s₀ : State} (s : State) (e : Entry) (hs : State.Fr W s₀ s)
    (hw : partSub 0x40 W = true := by first | exact partSub_refl _ | exact partSub_trans (by with_reducible assumption) (by exact rfl)) : State.Fr W s₀ (State.updEntry s e) := by
  unfold State.updEntry
  exact State.setQueue_fr _ _ _ hs

theorem State.dropQueued_fr {W : Nat} {s₀ : State} (s : State) (p : Entry → Bool) (hs : State.Fr W s₀ s)
    (hw : partSub 0x40 W = true := by first | exact partSub_refl _ | exact partSub_trans (by with_reducible assumption) (by exact rfl)) : State.Fr W s₀ (State.dropQueued s p) := by
  unfold State.dropQueued
  lift_lets
  intro x0
  exact fr_mk rfl rfl rfl rfl hs

theorem State.placeToken_fr {W : Nat} {s₀ : State} (s : State) (n : Nat) (e : Nat) (frame : Nat) (isVoid : Bool) (data : List Nat) (hs : State.Fr W s₀ s)
    (hw : partSub 0x180 W = true := by first | exact partSub_refl _ | exact partSub_trans (by with_reducible assumption) (by exact rfl)) : State.Fr W s₀ (State.placeToken s n e frame isVoid data) := by
  unfold State.placeToken
  split
  · exact hs
  · lift_lets
    intro x0 x1 x2
    have h3 : State.Fr W s₀ x2 := (fr_ite hs (State.setBytes_fr _ _ _ hs))
    clear_value x2
    exact State.setChan_fr _ _ _ h3

theorem State.hwDrop_fr {W : Nat} {s₀ : State} (s : State) (n : Nat) (e : Nat) (hs : State.Fr W s₀ s)
    (hw : partSub 0x8008 W = true := by first | exact partSub_refl _ | exact partSub_trans (by with_reducible assumption) (by exact rfl)) : State.Fr W s₀ (State.hwDrop s n e) := by
  unfold State.hwDrop
  lift_lets
  intro x0
  have h1 : State.Fr W s₀ x0 := (State.setFlag_fr _ _ _ (State.incS_fr _ _ _ hs))
  clear_value x0
  exact fr_ite (State.event_fr _ _ _ _ _ _ _ h1) h1

theorem State.voidOutputs_fr {W : Nat} {s₀ : State} (s : State) (n : Nat) (nd : Nat) (frame : Nat) (hs : State.Fr W s₀ s)
    (hw : partSub 0x8188 W = true := by first | exact partSub_refl _ | exact partSub_trans (by with_reducible assumption) (by exact rfl)) : State.Fr W s₀ (State.voidOutputs s n nd frame) := by
  unfold State.voidOutputs
  split
  · exact hs
  · refine fr_foldl ?_ hs
    · intro y0 y1 g2
      split
      · exact g2
      · exact fr_ite (State.placeToken_fr _ _ _ _ _ _ g2) (State.hwDrop_fr _ _ _ g2)

theorem State.consumeVoid_fr {W : Nat} {s₀ : State} (s : State) (n : Nat) (nd : Nat) (frame : Nat) (hs : State.Fr W s₀ s)
    (hw : partSub 0x8188 W = true := by first | exact partSub_refl _ | exact partSub_trans (by with_reducible assumption) (by exact rfl)) : State.Fr W s₀ (State.consumeVoid s n nd frame) := by
  unfold State.consumeVoid
  split
  · exact hs
  · exact State.voidOutputs_fr _ _ _ _ (State.setChan_fr _ _ _ hs)

theorem State.settle_fr {W : Nat} {s₀ : State} (a0 : Nat) (a1 : Nat) (a2 : List Nat) (a3 : State) (ha3 : State.Fr W s₀ a3)
    (hw : partSub 0x81c8 W = true := by first | exact partSub_refl _ | exact partSub_trans (by with_reducible assumption) (by exact rfl)) : State.Fr W s₀ (State.settle a0 a1 a2 a3) := by
  unfold State.settle
  split
  · exact ha3
  · exact ha3
  · split
    · exact ha3
    · lift_lets
      intro x0 x1
      have h2 : State.Fr W s₀ x1 := (State.setChan_fr _ _ _ ha3)
      clear_value x1
      exact fr_ite (State.settle_fr _ _ _ _ ha3) (fr_ite (State.settle_fr _ _ _ _ (State.consumeVoid_fr _ _ _ _ h2)) (State.settle_fr _ _ _ _ (State.pushEntry_fr _ _ ha3)))

theorem State.makeReady_fr {W : Nat} {s₀ : State} (s : State) (n : Nat) (l : List Nat) (hs : State.Fr W s₀ s)
    (hw : partSub 0x81c8 W = true := by first | exact partSub_refl _ | exact partSub_trans (by with_reducible assumption) (by exact rfl)) : State.Fr W s₀ (State.makeReady s n l) := by
  unfold State.makeReady
  exact State.settle_fr _ _ _ _ hs

theorem State.noteRefusal_fr {W : Nat} {s₀ : State} (s : State) (a1 : Decide) (hs : State.Fr W s₀ s)
    (hw : partSub 0x8 W = true := by first | exact partSub_refl _ | exact partSub_trans (by with_reducible assumption) (by exact rfl)) : State.Fr W s₀ (State.noteRefusal s a1) := by
  unfold State.noteRefusal
  split
  · exact State.setFlag_fr _ _ _ hs
  · exact State.setFlag_fr _ _ _ hs
  · exact State.setFlag_fr _ _ _ hs
  · exact hs

theorem State.countMalformed_fr {W : Nat} {s₀ : State} (s : State) (hs : State.Fr W s₀ s)
    (hw : partSub 0x8008 W = true := by first | exact partSub_refl _ | exact partSub_trans (by with_reducible assumption) (by exact rfl)) : State.Fr W s₀ (State.countMalformed s) := by
  unfold State.countMalformed
  exact State.event_fr _ _ _ _ _ _ _ (State.incS_fr _ _ _ hs)

theorem State.sourceToken_fr {W : Nat} {s₀ : State} (s : State) (n : Nat) (e : Nat) (frame : Nat) (hs : State.Fr W s₀ s)
    (hw : partSub 0x81c8 W = true := by first | exact partSub_refl _ | exact partSub_trans (by with_reducible assumption) (by exact rfl)) : State.Fr W s₀ (State.sourceToken s n e frame) := by
  unfold State.sourceToken
  split
  · exact hs
  · split
    · exact State.makeReady_fr _ _ _ (State.placeToken_fr _ _ _ _ _ _ hs)
    · exact State.hwDrop_fr _ _ _ (State.noteRefusal_fr _ _ hs)

theorem State.sourceTokens_fr {W : Nat} {s₀ : State} (s : State) (n : Nat) (src : Nat) (frame : Nat) (hs : State.Fr W s₀ s)
    (hw : partSub 0x81c8 W = true := by first | exact partSub_refl _ | exact partSub_trans (by with_reducible assumption) (by exact rfl)) : State.Fr W s₀ (State.sourceTokens s n src frame) := by
  unfold State.sourceTokens
  split
  · exact hs
  · refine fr_foldl ?_ hs
    · intro y0 y1 g2
      exact State.sourceToken_fr _ _ _ _ g2

theorem State.setFlow_fr {W : Nat} {s₀ : State} (s : State) (f : Nat) (x : Flow) (hs : State.Fr W s₀ s)
    (hw : partSub 0x40 W = true := by first | exact partSub_refl _ | exact partSub_trans (by with_reducible assumption) (by exact rfl)) : State.Fr W s₀ (State.setFlow s f x) := by
  unfold State.setFlow
  lift_lets
  intro x0
  exact fr_mk rfl rfl rfl rfl hs

theorem State.writeNext_fr {W : Nat} {s₀ : State} (s : State) (n : Nat) (hs : State.Fr W s₀ s)
    (hw : partSub 0x100 W = true := by first | exact partSub_refl _ | exact partSub_trans (by with_reducible assumption) (by exact rfl)) : State.Fr W s₀ (State.writeNext s n) := by
  unfold State.writeNext
  split
  · exact hs
  · exact State.setCtxWord_fr _ _ _ _ hs

theorem State.handOver_fr {W : Nat} {s₀ : State} (s : State) (f : Nat) (h_ : Held) (hs : State.Fr W s₀ s)
    (hw : partSub 0xa0c388 W = true := by first | exact partSub_refl _ | exact partSub_trans (by with_reducible assumption) (by exact rfl)) : State.Fr W s₀ (State.handOver s f h_) := by
  unfold State.handOver
  refine fr_ite hs (fr_ite (State.releaseItem_fr _ _ _ _ hs) (fr_ite (State.txRingItem_fr _ _ _ hs) ?_))
  · split
    · exact fr_ite (State.lanternItem_fr _ _ _ hs) (State.itemRecord_fr _ _ _ _ hs)
    · exact hs

theorem State.release_fr {W : Nat} {s₀ : State} (a0 : Nat) (a1 : Nat) (a2 : State) (ha2 : State.Fr W s₀ a2)
    (hw : partSub 0xa0c3c8 W = true := by first | exact partSub_refl _ | exact partSub_trans (by with_reducible assumption) (by exact rfl)) : State.Fr W s₀ (State.release a0 a1 a2) := by
  unfold State.release
  split
  · exact ha2
  · lift_lets
    intro x0 x1 x2
    have h3 : State.Fr W s₀ x2 := (State.setFlow_fr _ _ _ ha2)
    clear_value x2
    split
    · exact ha2
    · exact State.release_fr _ _ _ (State.handOver_fr _ _ _ (State.writeNext_fr _ _ h3))

theorem State.holdItem_fr {W : Nat} {s₀ : State} (s : State) (f : Nat) (h_ : Held) (hs : State.Fr W s₀ s)
    (hw : partSub 0xa0c3c8 W = true := by first | exact partSub_refl _ | exact partSub_trans (by with_reducible assumption) (by exact rfl)) : State.Fr W s₀ (State.holdItem s f h_) := by
  unfold State.holdItem
  lift_lets
  intro x0
  exact State.release_fr _ _ _ (State.ordMark_fr _ (State.setFlow_fr _ _ _ hs))

theorem State.commitItem_fr {W : Nat} {s₀ : State} (s : State) (f : Nat) (h_ : Held) (hs : State.Fr W s₀ s)
    (hw : partSub 0xa0c3c8 W = true := by first | exact partSub_refl _ | exact partSub_trans (by with_reducible assumption) (by exact rfl)) : State.Fr W s₀ (State.commitItem s f h_) := by
  unfold State.commitItem
  split
  · exact State.holdItem_fr _ _ _ hs
  · exact State.setFlag_fr _ _ _ (State.incS_fr _ _ _ hs)

theorem State.putCsm_fr {W : Nat} {s₀ : State} (s : State) (c : Nat) (a : Nat) (l : List Nat) (hs : State.Fr W s₀ s)
    (hw : partSub 0x20 W = true := by first | exact partSub_refl _ | exact partSub_trans (by with_reducible assumption) (by exact rfl)) : State.Fr W s₀ (State.putCsm s c a l) := by
  unfold State.putCsm
  refine fr_mem hs (fun h => (memWf_iff.1 h).1) (fun h => (memWf_iff.1 h).2.1) (fun h => ?_) fun h => (memWf_iff.1 h).2.2.2
  exact mwf_foldl (fun _ _ _ h => mwf_mset _ _ h) (memWf_iff.1 h).2.2.1

theorem State.writeExtent_fr {W : Nat} {s₀ : State} (s : State) (n : Nat) (frame : Nat) (x : Extent) (w : List Nat) (hs : State.Fr W s₀ s)
    (hw : partSub 0x108188 W = true := by first | exact partSub_refl _ | exact partSub_trans (by with_reducible assumption) (by exact rfl)) : State.Fr W s₀ (State.writeExtent s n frame x w).1 := by
  unfold State.writeExtent
  split
  · exact hs
  · lift_lets
    intro x0 x1
    have h2 : State.Fr W s₀ x1 := (State.setBytes_fr _ _ _ hs)
    clear_value x1
    refine fr_iteP ?_ (fr_iteP (fr_ite hs (State.writeRing_fr _ _ _ _ _ _ hs)) (fr_iteP (State.jbAdvance_fr _ _ _ _ _ _ hs) hs))
    · split
      · exact fr_iteP (State.cellSubmit_fr _ _ _ h2) h2
      · exact h2

theorem State.writeMap_fr {W : Nat} {s₀ : State} (s : State) (k : Nat) (e : Entry) (hs : State.Fr W s₀ s)
    (hw : partSub 0x108188 W = true := by first | exact partSub_refl _ | exact partSub_trans (by with_reducible assumption) (by exact rfl)) : State.Fr W s₀ (State.writeMap s k e).1 := by
  unfold State.writeMap
  split
  · exact fr_foldlP (fun x y h => State.writeExtent_fr _ _ _ _ _ h) (State.portBytes_fr _ _ _ hs)
  · exact hs

theorem State.nodeRecord_fr {W : Nat} {s₀ : State} (s : State) (e : Entry) (core : Option Nat) (status : Nat) (err : Nat) (detail : Nat) (late : Bool) (hs : State.Fr W s₀ s)
    (hw : partSub 0x180 W = true := by first | exact partSub_refl _ | exact partSub_trans (by with_reducible assumption) (by exact rfl)) : State.Fr W s₀ (State.nodeRecord s e core status err detail late) := by
  unfold State.nodeRecord
  split
  · lift_lets
    intro x0 x1 x2 x3
    have h4 : State.Fr W s₀ x3 := (State.setChan_fr _ _ _ hs)
    clear_value x3
    exact State.setBytes_fr _ _ _ h4
  · exact hs

theorem State.clearRun_fr {W : Nat} {s₀ : State} (s : State) (k : Nat) (hs : State.Fr W s₀ s)
    (hw : partSub 0x10 W = true := by first | exact partSub_refl _ | exact partSub_trans (by with_reducible assumption) (by exact rfl)) : State.Fr W s₀ (State.clearRun s k) := by
  unfold State.clearRun
  lift_lets
  intro x0
  exact State.setCore_fr _ _ _ hs

theorem State.withdraw_fr {W : Nat} {s₀ : State} (s : State) (k : Nat) (hs : State.Fr W s₀ s)
    (hw : partSub 0x50 W = true := by first | exact partSub_refl _ | exact partSub_trans (by with_reducible assumption) (by exact rfl)) : State.Fr W s₀ (State.withdraw s k) := by
  unfold State.withdraw
  lift_lets
  intro x0 x1
  have h2 : State.Fr W s₀ x1 := (State.setCore_fr _ _ _ hs)
  clear_value x1
  intro x3
  exact fr_mk rfl rfl rfl rfl h2

theorem State.cancelsDone_fr {W : Nat} {s₀ : State} (s : State) (e : Entry) (hs : State.Fr W s₀ s)
    (hw : partSub 0x80c048 W = true := by first | exact partSub_refl _ | exact partSub_trans (by with_reducible assumption) (by exact rfl)) : State.Fr W s₀ (State.cancelsDone s e) := by
  unfold State.cancelsDone
  lift_lets
  intro x0 x1 x2 x3
  have h4 : State.Fr W s₀ x3 := (fr_mk rfl rfl rfl rfl hs)
  clear_value x3
  refine fr_foldl ?_ h4
  · intro y5 y6 g7
    exact State.complete_fr _ _ _ _ _ (State.incS_fr _ _ _ g7)

theorem State.endCancelled_fr {W : Nat} {s₀ : State} (s : State) (e : Entry) (core : Option Nat) (hs : State.Fr W s₀ s)
    (hw : partSub 0x80c1c8 W = true := by first | exact partSub_refl _ | exact partSub_trans (by with_reducible assumption) (by exact rfl)) : State.Fr W s₀ (State.endCancelled s e core) := by
  unfold State.endCancelled
  split
  · lift_lets
    intro x0
    have h1 : State.Fr W s₀ x0 := (State.nodeRecord_fr _ _ _ _ _ _ _ hs)
    clear_value x0
    intro x2
    have h3 : State.Fr W s₀ x2 := (State.cancelsDone_fr _ _ h1)
    clear_value x2
    split
    · exact fr_ite h3 (State.makeReady_fr _ _ _ (State.consumeVoid_fr _ _ _ _ h3))
    · exact h3
  · exact State.endJob_fr _ _ _ _ _ (State.incS_fr _ _ _ hs)
  · exact hs

theorem State.endFailed_fr {W : Nat} {s₀ : State} (s : State) (e : Entry) (core : Option Nat) (status : Nat) (err : Nat) (detail : Nat) (hs : State.Fr W s₀ s)
    (hw : partSub 0x80c1c8 W = true := by first | exact partSub_refl _ | exact partSub_trans (by with_reducible assumption) (by exact rfl)) : State.Fr W s₀ (State.endFailed s e core status err detail) := by
  unfold State.endFailed
  split
  · lift_lets
    intro x0
    have h1 : State.Fr W s₀ x0 := (State.nodeRecord_fr _ _ _ _ _ _ _ hs)
    clear_value x0
    split
    · exact fr_ite h1 (State.makeReady_fr _ _ _ (State.consumeVoid_fr _ _ _ _ h1))
    · exact h1
  · exact State.endJob_fr _ _ _ _ _ hs
  · exact hs

theorem State.countMiss_fr {W : Nat} {s₀ : State} (s : State) (e : Entry) (late : Nat) (hs : State.Fr W s₀ s)
    (hw : partSub 0x88008 W = true := by first | exact partSub_refl _ | exact partSub_trans (by with_reducible assumption) (by exact rfl)) : State.Fr W s₀ (State.countMiss s e late) := by
  unfold State.countMiss
  lift_lets
  intro x0 x1
  have h2 : State.Fr W s₀ x1 := (fr_mk rfl rfl rfl rfl hs)
  clear_value x1
  intro x3
  have h4 : State.Fr W s₀ x3 := (State.incS_fr _ _ _ h2)
  clear_value x3
  intro x5
  have h6 : State.Fr W s₀ x5 := (State.setFld_fr _ _ _ h4)
  clear_value x5
  intro x7
  have h8 : State.Fr W s₀ x7 := (State.setFlag_fr _ _ _ h6)
  clear_value x7
  exact fr_ite hs (fr_ite (State.event_fr _ _ _ _ _ _ _ h8) h8)

theorem State.setTwSlot_fr {W : Nat} {s₀ : State} (s : State) (i : Nat) (x : TwSlot) (hs : State.Fr W s₀ s)
    (hw : partSub 0x10000 W = true := by first | exact partSub_refl _ | exact partSub_trans (by with_reducible assumption) (by exact rfl)) : State.Fr W s₀ (State.setTwSlot s i x) := by
  unfold State.setTwSlot
  lift_lets
  intro x0
  exact fr_mk rfl rfl rfl rfl hs

theorem State.noteServed_fr {W : Nat} {s₀ : State} (s : State) (n : Nat) (hs : State.Fr W s₀ s)
    (hw : partSub 0x10000 W = true := by first | exact partSub_refl _ | exact partSub_trans (by with_reducible assumption) (by exact rfl)) : State.Fr W s₀ (State.noteServed s n) := by
  unfold State.noteServed
  split
  · lift_lets
    intro x0
    exact fr_ite hs (fr_mk rfl rfl rfl rfl hs)
  · split
    · exact hs
    · lift_lets
      intro x1
      split
      · exact fr_ite (State.setTwSlot_fr _ _ _ hs) hs
      · exact hs

theorem State.nodeItem_fr {W : Nat} {s₀ : State} (s : State) (k : Nat) (e : Entry) (f : Nat) (q_ : Nat) (sk : Bool) (a : Nat) (l : Nat) (d : Nat) (hs : State.Fr W s₀ s)
    (hw : partSub 0xa1c3c8 W = true := by first | exact partSub_refl _ | exact partSub_trans (by with_reducible assumption) (by exact rfl)) : State.Fr W s₀ (State.nodeItem s k e f q_ sk a l d) := by
  unfold State.nodeItem
  lift_lets
  intro x0
  exact fr_ite (State.commitItem_fr _ _ _ hs) (fr_ite (fr_ite (State.commitItem_fr _ _ _ hs) (State.commitItem_fr _ _ _ (State.noteServed_fr _ _ hs))) (State.commitItem_fr _ _ _ hs))

theorem State.commitEffects_fr {W : Nat} {s₀ : State} (s : State) (k : Nat) (r : Running) (imm : Nat) (owed : List Nat) (hs : State.Fr W s₀ s)
    (hw : partSub 0xa9c3c8 W = true := by first | exact partSub_refl _ | exact partSub_trans (by with_reducible assumption) (by exact rfl)) : State.Fr W s₀ (State.commitEffects s k r imm owed) := by
  unfold State.commitEffects
  lift_lets
  intro x0 x1 x2 x3 x4
  have h5 : State.Fr W s₀ x4 := by
    dsimp -zeta only [x4]
    split
    · exact State.setChan_fr _ _ _ hs
    · exact hs
  clear_value x4
  intro x6
  have h7 : State.Fr W s₀ x6 := by
    dsimp -zeta only [x6]
    refine fr_foldl ?_ h5
    · intro y8 y9 g10
      exact State.placeToken_fr _ _ _ _ _ _ g10
  clear_value x6
  intro x11
  have h12 : State.Fr W s₀ x11 := (State.portBytes_fr _ _ _ h7)
  clear_value x11
  intro x13
  have h14 : State.Fr W s₀ x13 := (State.nodeRecord_fr _ _ _ _ _ _ _ h12)
  clear_value x13
  intro x15
  have h16 : State.Fr W s₀ x15 := (fr_ite (State.lanternCount_fr _ _ _ _ h14) h14)
  clear_value x15
  intro x17
  have h18 : State.Fr W s₀ x17 := (State.countMiss_fr _ _ _ h16)
  clear_value x17
  intro x19
  have h20 : State.Fr W s₀ x19 := by
    dsimp -zeta only [x19]
    refine fr_foldl ?_ h18
    · intro y21 y22 g23
      split
      · exact State.makeReady_fr _ _ _ g23
      · exact g23
  clear_value x19
  intro x24
  have h25 : State.Fr W s₀ x24 := (fr_ite (State.makeReady_fr _ _ _ h20) h20)
  clear_value x24
  intro x26
  have h27 : State.Fr W s₀ x26 := by
    dsimp -zeta only [x26]
    refine fr_foldl ?_ h25
    · intro y28 y29 g30
      split
      · exact State.nodeItem_fr _ _ _ _ _ _ _ _ _ g30
      · exact State.pushEntry_fr _ _ g30
      · exact g30
  clear_value x26
  intro x31
  have h32 : State.Fr W s₀ x31 := by
    dsimp -zeta only [x31]
    refine fr_foldl ?_ h27
    · intro y33 y34 g35
      split
      · exact State.sourceToken_fr _ _ _ _ g35
      · exact g35
  clear_value x31
  split
  · exact State.endJob_fr _ _ _ _ _ h32
  · exact h32

theorem State.commitRun_fr {W : Nat} {s₀ : State} (s : State) (k : Nat) (imm : Nat) (hs : State.Fr W s₀ s)
    (hw : partSub 0xb9c3d8 W = true := by first | exact partSub_refl _ | exact partSub_trans (by with_reducible assumption) (by exact rfl)) : State.Fr W s₀ (State.commitRun s k imm) := by
  unfold State.commitRun
  split
  · exact hs
  · lift_lets
    intro x0
    have h1 : State.Fr W s₀ x0 := (State.withdraw_fr _ _ hs)
    clear_value x0
    intro x2
    have h3 : State.Fr W s₀ x2.1 := (State.writeMap_fr _ _ _ h1)
    clear_value x2
    exact fr_ite (State.endCancelled_fr _ _ _ (State.clearRun_fr _ _ h1)) (State.commitEffects_fr _ _ _ _ _ (State.clearRun_fr _ _ h3))

theorem State.abortRun_fr {W : Nat} {s₀ : State} (s : State) (k : Nat) (hs : State.Fr W s₀ s)
    (hw : partSub 0x10 W = true := by first | exact partSub_refl _ | exact partSub_trans (by with_reducible assumption) (by exact rfl)) : State.Fr W s₀ (State.abortRun s k) := by
  unfold State.abortRun
  lift_lets
  intro x0
  exact State.clearRun_fr _ _ (State.setCore_fr _ _ _ hs)

theorem State.kernelError_fr {W : Nat} {s₀ : State} (s : State) (k : Nat) (err : Nat) (pc : Nat) (hs : State.Fr W s₀ s)
    (hw : partSub 0x80c1d8 W = true := by first | exact partSub_refl _ | exact partSub_trans (by with_reducible assumption) (by exact rfl)) : State.Fr W s₀ (State.kernelError s k err pc) := by
  unfold State.kernelError
  split
  · exact hs
  · lift_lets
    intro x0 x1
    have h2 : State.Fr W s₀ x1 := (State.abortRun_fr _ _ hs)
    clear_value x1
    intro x3
    have h4 : State.Fr W s₀ x3 := (State.raise_fr _ _ _ _ _ _ _ _ h2)
    clear_value x3
    exact fr_ite (State.endCancelled_fr _ _ _ h4) (State.endFailed_fr _ _ _ _ _ _ h4)

theorem State.nodeFault_fr {W : Nat} {s₀ : State} (s : State) (e : Entry) (core : Option Nat) (hs : State.Fr W s₀ s)
    (hw : partSub 0x80c1c8 W = true := by first | exact partSub_refl _ | exact partSub_trans (by with_reducible assumption) (by exact rfl)) : State.Fr W s₀ (State.nodeFault s e core) := by
  unfold State.nodeFault
  lift_lets
  intro x0
  have h1 : State.Fr W s₀ x0 := (fr_ite (State.raise_fr _ _ _ _ _ _ _ _ hs) hs)
  clear_value x0
  exact State.endFailed_fr _ _ _ _ _ _ h1

theorem State.faultAbort_fr {W : Nat} {s₀ : State} (s : State) (k : Nat) (restage : Bool) (hs : State.Fr W s₀ s)
    (hw : partSub 0x80c1d8 W = true := by first | exact partSub_refl _ | exact partSub_trans (by with_reducible assumption) (by exact rfl)) : State.Fr W s₀ (State.faultAbort s k restage) := by
  unfold State.faultAbort
  split
  · exact hs
  · lift_lets
    intro x0 x1
    have h2 : State.Fr W s₀ x1 := (State.abortRun_fr _ _ hs)
    clear_value x1
    intro x3 x4 x5
    exact fr_ite (State.endCancelled_fr _ _ _ h2) (fr_ite (State.nodeFault_fr _ _ _ h2) (State.pushEntry_fr _ _ (State.incS_fr _ _ _ h2)))

theorem State.resetAbort_fr {W : Nat} {s₀ : State} (s : State) (k : Nat) (hs : State.Fr W s₀ s)
    (hw : partSub 0x80c1d8 W = true := by first | exact partSub_refl _ | exact partSub_trans (by with_reducible assumption) (by exact rfl)) : State.Fr W s₀ (State.resetAbort s k) := by
  unfold State.resetAbort
  split
  · exact hs
  · lift_lets
    intro x0
    have h1 : State.Fr W s₀ x0 := (State.abortRun_fr _ _ hs)
    clear_value x0
    intro x2
    exact fr_ite (State.endCancelled_fr _ _ _ h1) (State.returnEntry_fr _ _ h1)

theorem State.unbar_fr {W : Nat} {s₀ : State} (s : State) (c : Nat) (hs : State.Fr W s₀ s)
    (hw : partSub 0x8048 W = true := by first | exact partSub_refl _ | exact partSub_trans (by with_reducible assumption) (by exact rfl)) : State.Fr W s₀ (State.unbar s c) := by
  unfold State.unbar
  split
  · exact hs
  · exact fr_ite (State.raise_fr _ _ _ _ _ _ _ _ (State.updEntry_fr _ _ hs)) hs

theorem State.preemptScan_fr {W : Nat} {s₀ : State} (s : State) (c : Nat) (hs : State.Fr W s₀ s)
    (hw : partSub 0x8058 W = true := by first | exact partSub_refl _ | exact partSub_trans (by with_reducible assumption) (by exact rfl)) : State.Fr W s₀ (State.preemptScan s c) := by
  unfold State.preemptScan
  lift_lets
  intro x0
  have h1 : State.Fr W s₀ x0 := (State.unbar_fr _ _ hs)
  clear_value x0
  split
  · exact h1
  · refine fr_ite ?_ h1
    · split
      · lift_lets
        intro x2
        exact State.updEntry_fr _ _ (State.setCore_fr _ _ _ h1)
      · exact h1

theorem State.resetCore_fr {W : Nat} {s₀ : State} (s : State) (k : Nat) (hs : State.Fr W s₀ s)
    (hw : partSub 0x50 W = true := by first | exact partSub_refl _ | exact partSub_trans (by with_reducible assumption) (by exact rfl)) : State.Fr W s₀ (State.resetCore s k) := by
  unfold State.resetCore
  lift_lets
  intro x0
  have h1 : State.Fr W s₀ x0 := (State.withdraw_fr _ _ hs)
  clear_value x0
  intro x2 x3 x4 x5
  exact State.setCore_fr _ _ _ h1

theorem State.blockCore_fr {W : Nat} {s₀ : State} (s : State) (k : Nat) (hs : State.Fr W s₀ s)
    (hw : partSub 0x10 W = true := by first | exact partSub_refl _ | exact partSub_trans (by with_reducible assumption) (by exact rfl)) : State.Fr W s₀ (State.blockCore s k) := by
  unfold State.blockCore
  exact State.setCore_fr _ _ _ hs

theorem State.startRetire_fr {W : Nat} {s₀ : State} (s : State) (k : Nat) (job : Option Nat) (hs : State.Fr W s₀ s)
    (hw : partSub 0x8048 W = true := by first | exact partSub_refl _ | exact partSub_trans (by with_reducible assumption) (by exact rfl)) : State.Fr W s₀ (State.startRetire s k job) := by
  unfold State.startRetire
  lift_lets
  intro x0 x1 x2 x3
  have h4 : State.Fr W s₀ x3 := (fr_mk rfl rfl rfl rfl hs)
  clear_value x3
  intro x5 x6
  have h7 : State.Fr W s₀ x6 := (fr_mk rfl rfl rfl rfl h4)
  clear_value x6
  exact fr_ite hs (fr_ite h4 (State.setFlag_fr _ _ _ h7))

theorem State.reportSuspect_fr {W : Nat} {s₀ : State} (s : State) (k : Nat) (hs : State.Fr W s₀ s)
    (hw : partSub 0x8058 W = true := by first | exact partSub_refl _ | exact partSub_trans (by with_reducible assumption) (by exact rfl)) : State.Fr W s₀ (State.reportSuspect s k) := by
  unfold State.reportSuspect
  lift_lets
  intro x0 x1
  have h2 : State.Fr W s₀ x1 := (State.setCore_fr _ _ _ hs)
  clear_value x1
  intro x3
  have h4 : State.Fr W s₀ x3 := (State.raise_fr _ _ _ _ _ _ _ _ (State.setFlag_fr _ _ _ h2))
  clear_value x3
  exact fr_ite (State.startRetire_fr _ _ _ h4) h4

theorem State.faultHistory_fr {W : Nat} {s₀ : State} (s : State) (k : Nat) (hs : State.Fr W s₀ s)
    (hw : partSub 0x8058 W = true := by first | exact partSub_refl _ | exact partSub_trans (by with_reducible assumption) (by exact rfl)) : State.Fr W s₀ (State.faultHistory s k) := by
  unfold State.faultHistory
  lift_lets
  intro x0 x1 x2 x3 x4 x5
  have h6 : State.Fr W s₀ x5 := (State.setCore_fr _ _ _ hs)
  clear_value x5
  exact fr_ite (State.reportSuspect_fr _ _ h6) h6

theorem State.noteFault_fr {W : Nat} {s₀ : State} (s : State) (k : Nat) (code : Nat) (lane : Nat) (hs : State.Fr W s₀ s)
    (hw : partSub 0x8058 W = true := by first | exact partSub_refl _ | exact partSub_trans (by with_reducible assumption) (by exact rfl)) : State.Fr W s₀ (State.noteFault s k code lane) := by
  unfold State.noteFault
  lift_lets
  intro x0 x1
  have h2 : State.Fr W s₀ x1 := (State.setFld_fr _ _ _ hs)
  clear_value x1
  intro x3
  have h4 : State.Fr W s₀ x3 := (fr_ite (State.setFld_fr _ _ _ h2) h2)
  clear_value x3
  intro x5
  have h6 : State.Fr W s₀ x5 := (State.incS_fr _ _ _ h4)
  clear_value x5
  intro x7
  have h8 : State.Fr W s₀ x7 := (fr_ite (State.raiseInj_fr _ _ _ _ _ _ _ _ h6) (fr_ite (State.raise_fr _ _ _ _ _ _ _ _ h6) (State.raise_fr _ _ _ _ _ _ _ _ h6)))
  clear_value x7
  exact fr_ite h8 (State.faultHistory_fr _ _ h8)

theorem State.nodeDetect_fr {W : Nat} {s₀ : State} (s : State) (k : Nat) (code : Nat) (lane : Nat) (hs : State.Fr W s₀ s)
    (hw : partSub 0x80c1d8 W = true := by first | exact partSub_refl _ | exact partSub_trans (by with_reducible assumption) (by exact rfl)) : State.Fr W s₀ (State.nodeDetect s k code lane) := by
  unfold State.nodeDetect
  lift_lets
  intro x0
  have h1 : State.Fr W s₀ x0 := (State.noteFault_fr _ _ _ _ hs)
  clear_value x0
  intro x2 x3
  have h4 : State.Fr W s₀ x3 := (State.blockCore_fr _ _ (State.faultAbort_fr _ _ _ h1))
  clear_value x3
  exact fr_ite (State.setCore_fr _ _ _ h1) (State.preemptScan_fr _ _ h4)

theorem State.codeError_fr {W : Nat} {s₀ : State} (s : State) (k : Nat) (pc : Nat) (e : DErr) (hs : State.Fr W s₀ s)
    (hw : partSub 0x80c1d8 W = true := by first | exact partSub_refl _ | exact partSub_trans (by with_reducible assumption) (by exact rfl)) : State.Fr W s₀ (State.codeError s k pc e) := by
  unfold State.codeError
  lift_lets
  intro x0 x1
  have h2 : State.Fr W s₀ x1 := (State.setFld_fr _ _ _ hs)
  clear_value x1
  intro x3
  have h4 : State.Fr W s₀ x3 := (State.setFld_fr _ _ _ (State.resetCore_fr _ _ h2))
  clear_value x3
  exact fr_ite (State.blockCore_fr _ _ (State.kernelError_fr _ _ _ _ h2)) (State.raise_fr _ _ _ _ _ _ _ _ h4)

theorem State.preemptReturn_fr {W : Nat} {s₀ : State} (s : State) (k : Nat) (hs : State.Fr W s₀ s)
    (hw : partSub 0x8058 W = true := by first | exact partSub_refl _ | exact partSub_trans (by with_reducible assumption) (by exact rfl)) : State.Fr W s₀ (State.preemptReturn s k) := by
  unfold State.preemptReturn
  lift_lets
  intro x0 x1
  have h2 : State.Fr W s₀ x1 := (fr_mk rfl rfl rfl rfl hs)
  clear_value x1
  exact State.preemptScan_fr _ _ h2

theorem State.doRti_fr {W : Nat} {s₀ : State} (s : State) (k : Nat) (t : Nat) (hs : State.Fr W s₀ s)
    (hw : partSub 0x80c1d8 W = true := by first | exact partSub_refl _ | exact partSub_trans (by with_reducible assumption) (by exact rfl)) : State.Fr W s₀ (State.doRti s k t) := by
  unfold State.doRti
  lift_lets
  intro x0
  split
  · exact State.preemptScan_fr _ _ (State.blockCore_fr _ _ (State.faultAbort_fr _ _ _ hs))
  · exact State.preemptReturn_fr _ _ (State.setCore_fr _ _ _ hs)
  · exact State.setCore_fr _ _ _ hs

theorem State.endInstr_fr {W : Nat} {s₀ : State} (s : State) (k : Nat) (w : W48) (c : Core) (hs : State.Fr W s₀ s)
    (hw : partSub 0x80c1d8 W = true := by first | exact partSub_refl _ | exact partSub_trans (by with_reducible assumption) (by exact rfl)) : State.Fr W s₀ (State.endInstr s k w c) := by
  unfold State.endInstr
  lift_lets
  intro x0 x1 x2
  have h3 : State.Fr W s₀ x2 := (State.setCore_fr _ _ _ hs)
  clear_value x2
  split
  · exact State.doRti_fr _ _ _ h3
  · exact fr_ite (State.codeError_fr _ _ _ _ h3) h3

theorem State.dziul_fr {W : Nat} {s₀ : State} (s : State) (k : Nat) (op : Nat) (f : BitVec 40) (body : BitVec 40 → Ctx → Except DErr Ctx)
    (hb : ∀ x, mwf 0 x.csm = true → KeepsCsm (body f x)) (hs : State.Fr W s₀ s)
    (hw : partSub 0x80c1f8 W = true := by first | exact partSub_refl _ | exact partSub_trans (by with_reducible assumption) (by exact rfl)) : State.Fr W s₀ (State.dziul s k op f body) := by
  unfold State.dziul
  refine fr_ite ?_ hs
  split
  · exact State.codeError_fr _ _ _ _ hs
  · rename_i x hx
    split
    · exact State.nodeDetect_fr _ _ _ _ (State.setCore_fr _ _ _ hs)
    · refine State.endInstr_fr _ _ _ _ (fr_mem hs (fun h => (memWf_iff.1 h).1) (fun h => (memWf_iff.1 h).2.1)
        (fun h => ?_) fun h => (memWf_iff.1 h).2.2.2)
      exact hb (s.ctx k) (memWf_iff.1 h).2.2.1 x hx

end Sys2Proof.Machine
end

