-- ==== Sys2Proof/Laws/Reports.lean ====
section
/-! SUPPORT. Register fields read back after writes of fields, counts and reports: a report touches fields of RL_ and nothing else of the
register file. -/
set_option Elab.async false

namespace Sys2Proof.Machine

/-- A field written reads as what was written, cut to its width. -/
@[simp] theorem State.fld_setFld_same (s : State) (f : Fld) (v : Nat) : (s.setFld f v).fld f = v % 2 ^ f.w := by
  simp [State.fld, State.setFld]

/-- A write of a field leaves every other one alone. -/
theorem State.fld_setFld_ne (s : State) (f g : Fld) (v : Nat) (h : f.key ≠ g.key) : (s.setFld f v).fld g = s.fld g := by
  simp only [State.fld, State.setFld]
  exact mget_mset_ne _ _ _ _ (Ne.symm h)

theorem State.fld_setFlag_same (s : State) (f : Fld) (b : Bool) (h : 0 < f.w) : (s.setFlag f b).fld f = b2n b := by
  rw [State.setFlag, State.fld_setFld_same]
  apply Nat.mod_eq_of_lt
  have : 2 ^ 1 ≤ 2 ^ f.w := Nat.pow_le_pow_right (by decide) h
  cases b <;> simp [b2n] <;> omega

theorem State.fld_setFlag_ne (s : State) (f g : Fld) (b : Bool) (h : f.key ≠ g.key) : (s.setFlag f b).fld g = s.fld g :=
  State.fld_setFld_ne _ _ _ _ h

theorem State.fld_rstFld_same (s : State) (f : Fld) : (s.rstFld f).fld f = f.rst := by simp [State.fld, State.rstFld]

theorem State.fld_rstFld_ne (s : State) (f g : Fld) (h : f.key ≠ g.key) : (s.rstFld f).fld g = s.fld g := by
  simp only [State.fld, State.rstFld]; exact mget_mdel_ne _ _ (Ne.symm h)

/-- A field lies outside RL_. -/
def outRl (f : Fld) : Bool := f.key < 0x60000 * 8 || 0x70000 * 8 ≤ f.key

theorem outRl_ne {f g : Fld} (hf : outRl f = false) (hg : outRl g = true) : f.key ≠ g.key := by
  simp only [outRl, Bool.or_eq_true, Bool.or_eq_false_iff, decide_eq_true_eq, decide_eq_false_iff_not] at hf hg; omega

theorem State.fld_setRl {s : State} {f g : Fld} (v : Nat) (hf : outRl f = false) (hg : outRl g = true) : (s.setFld f v).fld g = s.fld g :=
  State.fld_setFld_ne _ _ _ _ (outRl_ne hf hg)

theorem lostFld_rl (c : Cls) : outRl c.lostFld = false := by cases c <;> rfl

theorem State.fld_countLost (s : State) (c : Cls) (t : Nat) (g : Fld) (hg : outRl g = true) : (s.countLost c t).fld g = s.fld g := by
  unfold State.countLost State.setFlag
  rw [State.fld_setRl _ rfl hg, State.fld_setRl _ rfl hg, State.fld_setRl _ (lostFld_rl c) hg]
  rfl

theorem State.fld_enq (s : State) (r : Report) (g : Fld) (hg : outRl g = true) : (s.enq r).fld g = s.fld g := by
  unfold State.enq
  split
  · rw [State.fld_setRl _ rfl hg]; rfl
  · dsimp only
    split
    · split
      · exact State.fld_countLost _ _ _ _ hg
      · rw [State.fld_countLost _ _ _ _ hg]; exact State.fld_countLost _ _ _ _ hg
    · exact State.fld_countLost _ _ _ _ hg

/-- What a class S count leaves of fields outside RL_: the count itself, saturated, and nothing else. -/
theorem State.fld_incS (s : State) (f : Fld) (n : Nat) (g : Fld) (hg : outRl g = true) :
    (s.incS f n).fld g = (s.setFld f (satAdd f.w (s.fld f) n)).fld g := by
  unfold State.incS
  dsimp only
  split
  · exact State.fld_enq _ _ _ hg
  · rfl

theorem State.fld_incS_same (s : State) (f : Fld) (n : Nat) (hg : outRl f = true) : (s.incS f n).fld f = satAdd f.w (s.fld f) n := by
  rw [State.fld_incS _ _ _ _ hg, State.fld_setFld_same]
  apply Nat.mod_eq_of_lt
  unfold satAdd
  have : 0 < 2 ^ f.w := Nat.two_pow_pos _
  omega

theorem State.fld_incS_ne (s : State) (f : Fld) (n : Nat) (g : Fld) (hg : outRl g = true) (h : f.key ≠ g.key) : (s.incS f n).fld g = s.fld g := by
  rw [State.fld_incS _ _ _ _ hg, State.fld_setFld_ne _ _ _ _ h]

/-- What a class W count leaves of fields outside RL_. -/
theorem State.fld_incWrap (s : State) (f : Fld) (n : Nat) (e : Bool) (g : Fld) (hg : outRl g = true) :
    (s.incWrap f n e).fld g = (s.setFld f (s.fld f + n)).fld g := by
  unfold State.incWrap
  dsimp only
  split
  · exact State.fld_enq _ _ _ hg
  · rfl

theorem State.fld_incRl {s : State} {f g : Fld} (n : Nat) (hf : outRl f = false) (hg : outRl g = true) : (s.incS f n).fld g = s.fld g :=
  State.fld_incS_ne _ _ _ _ hg (outRl_ne hf hg)

theorem firstWord_rl (i : Nat) (h : i < 8) : outRl (F.RL_FIRST_WORD i) = false := by
  rcases show i = 0 ∨ i = 1 ∨ i = 2 ∨ i = 3 ∨ i = 4 ∨ i = 5 ∨ i = 6 ∨ i = 7 by omega with rfl | rfl | rfl | rfl | rfl | rfl | rfl | rfl <;> rfl

theorem State.fld_captureFirst (s : State) (r : Report) (g : Fld) (hg : outRl g = true) : (s.captureFirst r).fld g = s.fld g := by
  unfold State.captureFirst
  split
  · exact State.fld_incRl _ rfl hg
  · dsimp only
    unfold State.setFlag
    rw [State.fld_setRl _ rfl hg, State.fld_setRl _ rfl hg]
    have key : ∀ (n : Nat) (s : State), n ≤ 8 →
        ((List.range n).foldl (fun s i => s.setFld (F.RL_FIRST_WORD i) (nth { r with count := 1 }.words i)) s).fld g = s.fld g := by
      intro n
      induction n with
      | zero => intros; rfl
      | succ n ih =>
        intro s hn
        rw [List.range_succ, List.foldl_append]
        show (State.setFld _ _ _).fld g = _
        rw [State.fld_setRl _ (firstWord_rl n (by omega)) hg]
        exact ih s (by omega)
    exact key 8 s (Nat.le_refl _)

/-- A report of INFO, WARN or FATAL, or of another class about no cluster, leaves the fields outside RL_ alone. -/
theorem State.fld_raiseR (s : State) (r : Report) (g : Fld) (hg : outRl g = true) (h : clusterOf r.src r.inst = none ∨ r.cls = .info ∨ r.cls = .warn ∨ r.cls = .fatal) :
    (s.raiseR r).fld g = s.fld g := by
  unfold State.raiseR
  dsimp only
  rw [State.fld_enq _ _ _ hg]
  have key : ∀ s : State, (if r.cls = .contained ∨ r.cls = .fatal then s.captureFirst r else s).fld g = s.fld g := by
    intro s
    split
    · exact State.fld_captureFirst _ _ _ hg
    · rfl
  rw [key]
  split
  · rename_i hc
    have : clusterOf r.src r.inst = none := by rcases h with h | h | h | h <;> simp_all
    rw [this]; exact State.fld_incRl _ rfl hg
  · rename_i hc
    have : clusterOf r.src r.inst = none := by rcases h with h | h | h | h <;> simp_all
    rw [this]; exact State.fld_incRl _ rfl hg
  · exact State.fld_setRl _ rfl hg
  · rfl

theorem State.fld_raise (s : State) (cls : Cls) (src inst code a0 a1 a2 : Nat) (g : Fld) (hg : outRl g = true)
    (h : clusterOf src inst = none ∨ cls = .info ∨ cls = .warn ∨ cls = .fatal) : (s.raise cls src inst code a0 a1 a2).fld g = s.fld g :=
  State.fld_raiseR s _ g hg h

theorem srcOf_cluster (a inst : Nat) (h : a < 0x200000) : clusterOf (srcOf a).1 inst = none := by
  have : (srcOf a).1 < 0x20 := by
    unfold srcOf
    simp only [apply_ite Prod.fst]
    have key : ∀ (p : Prop) [Decidable p] (x y : Nat), x < 32 → (¬p → y < 32) → (if p then x else y) < 32 := by
      intro p _ x y h1 h2; split
      · exact h1
      · exact h2 ‹_›
    iterate 14 refine key _ _ _ (by decide) fun _ => ?_
    rw [if_pos h]; decide
  have h1 : (srcOf a).1 ≠ 0x20 := by omega
  have h2 : (srcOf a).1 ≠ 0x21 := by omega
  simp [clusterOf, h1, h2]

/-- An event sets its bit and leaves every other field outside RL_ alone. -/
theorem State.fld_event_same (s : State) (f : Fld) (cls : Cls) (inst a0 a1 a2 : Nat) (hg : outRl f = true) (hw : 0 < f.w) (ha : f.addr < 0x200000) :
    (s.event f cls inst a0 a1 a2).fld f = 1 := by
  unfold State.event
  rw [State.fld_raise _ _ _ _ _ _ _ _ _ hg (.inl (srcOf_cluster _ _ ha)), State.fld_setFlag_same _ _ _ hw]; rfl

theorem State.fld_event_ne (s : State) (f g : Fld) (cls : Cls) (inst a0 a1 a2 : Nat) (hg : outRl g = true) (ha : f.addr < 0x200000) (h : f.key ≠ g.key) :
    (s.event f cls inst a0 a1 a2).fld g = s.fld g := by
  unfold State.event
  rw [State.fld_raise _ _ _ _ _ _ _ _ _ hg (.inl (srcOf_cluster _ _ ha)), State.fld_setFlag_ne _ _ _ _ h]

theorem outRl_of_ge {g : Fld} (h : 0x70000 ≤ g.addr) : outRl g = true := by
  simp only [outRl, Bool.or_eq_true, decide_eq_true_eq]; unfold Fld.key; omega

theorem outRl_of_lt {g : Fld} (h : g.addr + 4 ≤ 0x60000) (hl : g.lo < 32) : outRl g = true := by
  simp only [outRl, Bool.or_eq_true, decide_eq_true_eq]; unfold Fld.key; omega

end Sys2Proof.Machine
end

