-- ==== Sys2Proof/Laws/FrameCore.lean ====
section
/-! SUPPORT. The frame lemmas of the Dziul instructions and the nodes (see Laws/Frame.lean). -/
set_option Elab.async false

namespace Sys2Proof.Machine

theorem execNop_fr {W : Nat} {s₀ : State} (k : Fin 144) (w : BitVec 48) (s : State) (hs : State.Fr W s₀ s)
    (hw : partSub 0x80c1f8 W = true := by first | exact partSub_refl _ | exact partSub_trans (by with_reducible assumption) (by exact rfl)) : OutFr W s₀ (execNop k w s) := by
  unfold execNop
  exact outFr_ite (fr_next (State.dziul_fr _ _ _ _ _ (fun _ h => keeps_bind fun _ => keeps_ok h) hs))
    (outFr_ite (fr_next hs) (fr_next (State.dziul_fr _ _ _ _ _ (fun _ _ => keeps_error _) hs)))

theorem execB_fr {W : Nat} {s₀ : State} (k : Fin 144) (f : BitVec 40) (s : State) (hs : State.Fr W s₀ s)
    (hw : partSub 0x80c1f8 W = true := by first | exact partSub_refl _ | exact partSub_trans (by with_reducible assumption) (by exact rfl)) : OutFr W s₀ (execB k f s) :=
  fr_next (State.dziul_fr _ _ _ _ _ (fun _ h => branchBody_keeps _ _ _ h) hs)

theorem execCall_fr {W : Nat} {s₀ : State} (k : Fin 144) (f : BitVec 40) (s : State) (hs : State.Fr W s₀ s)
    (hw : partSub 0x80c1f8 W = true := by first | exact partSub_refl _ | exact partSub_trans (by with_reducible assumption) (by exact rfl)) : OutFr W s₀ (execCall k f s) :=
  fr_next (State.dziul_fr _ _ _ _ _ (fun _ h => branchBody_keeps _ _ _ h) hs)

theorem execBrp_fr {W : Nat} {s₀ : State} (k : Fin 144) (f : BitVec 40) (s : State) (hs : State.Fr W s₀ s)
    (hw : partSub 0x80c1f8 W = true := by first | exact partSub_refl _ | exact partSub_trans (by with_reducible assumption) (by exact rfl)) : OutFr W s₀ (execBrp k f s) :=
  fr_next (State.dziul_fr _ _ _ _ _ (fun _ h => brpBody_keeps _ _ h) hs)

theorem execRts_fr {W : Nat} {s₀ : State} (k : Fin 144) (f : BitVec 40) (s : State) (hs : State.Fr W s₀ s)
    (hw : partSub 0x80c1f8 W = true := by first | exact partSub_refl _ | exact partSub_trans (by with_reducible assumption) (by exact rfl)) : OutFr W s₀ (execRts k f s) :=
  fr_next (State.dziul_fr _ _ _ _ _ (fun _ h => rtsBody_keeps _ _ _ h) hs)

theorem execRti_fr {W : Nat} {s₀ : State} (k : Fin 144) (f : BitVec 40) (s : State) (hs : State.Fr W s₀ s)
    (hw : partSub 0x80c1f8 W = true := by first | exact partSub_refl _ | exact partSub_trans (by with_reducible assumption) (by exact rfl)) : OutFr W s₀ (execRti k f s) :=
  fr_next (State.dziul_fr _ _ _ _ _ (fun _ h => rtsBody_keeps _ _ _ h) hs)

theorem execDoImm_fr {W : Nat} {s₀ : State} (k : Fin 144) (f : BitVec 40) (s : State) (hs : State.Fr W s₀ s)
    (hw : partSub 0x80c1f8 W = true := by first | exact partSub_refl _ | exact partSub_trans (by with_reducible assumption) (by exact rfl)) : OutFr W s₀ (execDoImm k f s) :=
  fr_next (State.dziul_fr _ _ _ _ _ (fun _ h => doBody_keeps _ _ h) hs)

theorem execDor_fr {W : Nat} {s₀ : State} (k : Fin 144) (f : BitVec 40) (s : State) (hs : State.Fr W s₀ s)
    (hw : partSub 0x80c1f8 W = true := by first | exact partSub_refl _ | exact partSub_trans (by with_reducible assumption) (by exact rfl)) : OutFr W s₀ (execDor k f s) :=
  fr_next (State.dziul_fr _ _ _ _ _ (fun _ h => dorBody_keeps _ _ h) hs)

theorem execMpyq_fr {W : Nat} {s₀ : State} (k : Fin 144) (f : BitVec 40) (s : State) (hs : State.Fr W s₀ s)
    (hw : partSub 0x80c1f8 W = true := by first | exact partSub_refl _ | exact partSub_trans (by with_reducible assumption) (by exact rfl)) : OutFr W s₀ (execMpyq k f s) :=
  fr_next (State.dziul_fr _ _ _ _ _ (fun _ h => quadBody_keeps _ _ _ h) hs)

theorem execMacq_fr {W : Nat} {s₀ : State} (k : Fin 144) (f : BitVec 40) (s : State) (hs : State.Fr W s₀ s)
    (hw : partSub 0x80c1f8 W = true := by first | exact partSub_refl _ | exact partSub_trans (by with_reducible assumption) (by exact rfl)) : OutFr W s₀ (execMacq k f s) :=
  fr_next (State.dziul_fr _ _ _ _ _ (fun _ h => quadBody_keeps _ _ _ h) hs)

theorem execMsuq_fr {W : Nat} {s₀ : State} (k : Fin 144) (f : BitVec 40) (s : State) (hs : State.Fr W s₀ s)
    (hw : partSub 0x80c1f8 W = true := by first | exact partSub_refl _ | exact partSub_trans (by with_reducible assumption) (by exact rfl)) : OutFr W s₀ (execMsuq k f s) :=
  fr_next (State.dziul_fr _ _ _ _ _ (fun _ h => quadBody_keeps _ _ _ h) hs)

theorem execFtap_fr {W : Nat} {s₀ : State} (k : Fin 144) (f : BitVec 40) (s : State) (hs : State.Fr W s₀ s)
    (hw : partSub 0x80c1f8 W = true := by first | exact partSub_refl _ | exact partSub_trans (by with_reducible assumption) (by exact rfl)) : OutFr W s₀ (execFtap k f s) :=
  fr_next (State.dziul_fr _ _ _ _ _ (fun _ h => tapBody_keeps _ _ _ h) hs)

theorem execFtapx_fr {W : Nat} {s₀ : State} (k : Fin 144) (f : BitVec 40) (s : State) (hs : State.Fr W s₀ s)
    (hw : partSub 0x80c1f8 W = true := by first | exact partSub_refl _ | exact partSub_trans (by with_reducible assumption) (by exact rfl)) : OutFr W s₀ (execFtapx k f s) :=
  fr_next (State.dziul_fr _ _ _ _ _ (fun _ h => tapBody_keeps _ _ _ h) hs)

theorem execMpy_fr {W : Nat} {s₀ : State} (k : Fin 144) (f : BitVec 40) (s : State) (hs : State.Fr W s₀ s)
    (hw : partSub 0x80c1f8 W = true := by first | exact partSub_refl _ | exact partSub_trans (by with_reducible assumption) (by exact rfl)) : OutFr W s₀ (execMpy k f s) :=
  fr_next (State.dziul_fr _ _ _ _ _ (fun _ h => scalarBody_keeps _ _ _ h) hs)

theorem execMac_fr {W : Nat} {s₀ : State} (k : Fin 144) (f : BitVec 40) (s : State) (hs : State.Fr W s₀ s)
    (hw : partSub 0x80c1f8 W = true := by first | exact partSub_refl _ | exact partSub_trans (by with_reducible assumption) (by exact rfl)) : OutFr W s₀ (execMac k f s) :=
  fr_next (State.dziul_fr _ _ _ _ _ (fun _ h => scalarBody_keeps _ _ _ h) hs)

theorem execMsu_fr {W : Nat} {s₀ : State} (k : Fin 144) (f : BitVec 40) (s : State) (hs : State.Fr W s₀ s)
    (hw : partSub 0x80c1f8 W = true := by first | exact partSub_refl _ | exact partSub_trans (by with_reducible assumption) (by exact rfl)) : OutFr W s₀ (execMsu k f s) :=
  fr_next (State.dziul_fr _ _ _ _ _ (fun _ h => scalarBody_keeps _ _ _ h) hs)

theorem execAdda_fr {W : Nat} {s₀ : State} (k : Fin 144) (f : BitVec 40) (s : State) (hs : State.Fr W s₀ s)
    (hw : partSub 0x80c1f8 W = true := by first | exact partSub_refl _ | exact partSub_trans (by with_reducible assumption) (by exact rfl)) : OutFr W s₀ (execAdda k f s) :=
  fr_next (State.dziul_fr _ _ _ _ _ (fun _ h => addaBody_keeps _ _ _ h) hs)

theorem execSuba_fr {W : Nat} {s₀ : State} (k : Fin 144) (f : BitVec 40) (s : State) (hs : State.Fr W s₀ s)
    (hw : partSub 0x80c1f8 W = true := by first | exact partSub_refl _ | exact partSub_trans (by with_reducible assumption) (by exact rfl)) : OutFr W s₀ (execSuba k f s) :=
  fr_next (State.dziul_fr _ _ _ _ _ (fun _ h => addaBody_keeps _ _ _ h) hs)

theorem execNega_fr {W : Nat} {s₀ : State} (k : Fin 144) (f : BitVec 40) (s : State) (hs : State.Fr W s₀ s)
    (hw : partSub 0x80c1f8 W = true := by first | exact partSub_refl _ | exact partSub_trans (by with_reducible assumption) (by exact rfl)) : OutFr W s₀ (execNega k f s) :=
  fr_next (State.dziul_fr _ _ _ _ _ (fun _ h => negaBody_keeps _ _ _ h) hs)

theorem execAbsa_fr {W : Nat} {s₀ : State} (k : Fin 144) (f : BitVec 40) (s : State) (hs : State.Fr W s₀ s)
    (hw : partSub 0x80c1f8 W = true := by first | exact partSub_refl _ | exact partSub_trans (by with_reducible assumption) (by exact rfl)) : OutFr W s₀ (execAbsa k f s) :=
  fr_next (State.dziul_fr _ _ _ _ _ (fun _ h => negaBody_keeps _ _ _ h) hs)

theorem execClra_fr {W : Nat} {s₀ : State} (k : Fin 144) (f : BitVec 40) (s : State) (hs : State.Fr W s₀ s)
    (hw : partSub 0x80c1f8 W = true := by first | exact partSub_refl _ | exact partSub_trans (by with_reducible assumption) (by exact rfl)) : OutFr W s₀ (execClra k f s) :=
  fr_next (State.dziul_fr _ _ _ _ _ (fun _ h => clrBody_keeps _ _ _ h) hs)

theorem execClrq_fr {W : Nat} {s₀ : State} (k : Fin 144) (f : BitVec 40) (s : State) (hs : State.Fr W s₀ s)
    (hw : partSub 0x80c1f8 W = true := by first | exact partSub_refl _ | exact partSub_trans (by with_reducible assumption) (by exact rfl)) : OutFr W s₀ (execClrq k f s) :=
  fr_next (State.dziul_fr _ _ _ _ _ (fun _ h => clrBody_keeps _ _ _ h) hs)

theorem execAsha_fr {W : Nat} {s₀ : State} (k : Fin 144) (f : BitVec 40) (s : State) (hs : State.Fr W s₀ s)
    (hw : partSub 0x80c1f8 W = true := by first | exact partSub_refl _ | exact partSub_trans (by with_reducible assumption) (by exact rfl)) : OutFr W s₀ (execAsha k f s) :=
  fr_next (State.dziul_fr _ _ _ _ _ (fun _ h => ashaBody_keeps _ _ h) hs)

theorem execCmpa_fr {W : Nat} {s₀ : State} (k : Fin 144) (f : BitVec 40) (s : State) (hs : State.Fr W s₀ s)
    (hw : partSub 0x80c1f8 W = true := by first | exact partSub_refl _ | exact partSub_trans (by with_reducible assumption) (by exact rfl)) : OutFr W s₀ (execCmpa k f s) :=
  fr_next (State.dziul_fr _ _ _ _ _ (fun _ h => cmpaBody_keeps _ _ h) hs)

theorem execExpOp_fr {W : Nat} {s₀ : State} (k : Fin 144) (f : BitVec 40) (s : State) (hs : State.Fr W s₀ s)
    (hw : partSub 0x80c1f8 W = true := by first | exact partSub_refl _ | exact partSub_trans (by with_reducible assumption) (by exact rfl)) : OutFr W s₀ (execExpOp k f s) :=
  fr_next (State.dziul_fr _ _ _ _ _ (fun _ h => expBody_keeps _ _ h) hs)

theorem execNorm_fr {W : Nat} {s₀ : State} (k : Fin 144) (f : BitVec 40) (s : State) (hs : State.Fr W s₀ s)
    (hw : partSub 0x80c1f8 W = true := by first | exact partSub_refl _ | exact partSub_trans (by with_reducible assumption) (by exact rfl)) : OutFr W s₀ (execNorm k f s) :=
  fr_next (State.dziul_fr _ _ _ _ _ (fun _ h => normBody_keeps _ _ h) hs)

theorem execAdd_fr {W : Nat} {s₀ : State} (k : Fin 144) (f : BitVec 40) (s : State) (hs : State.Fr W s₀ s)
    (hw : partSub 0x80c1f8 W = true := by first | exact partSub_refl _ | exact partSub_trans (by with_reducible assumption) (by exact rfl)) : OutFr W s₀ (execAdd k f s) :=
  fr_next (State.dziul_fr _ _ _ _ _ (fun _ h => aluBody_keeps _ _ _ h) hs)

theorem execSub_fr {W : Nat} {s₀ : State} (k : Fin 144) (f : BitVec 40) (s : State) (hs : State.Fr W s₀ s)
    (hw : partSub 0x80c1f8 W = true := by first | exact partSub_refl _ | exact partSub_trans (by with_reducible assumption) (by exact rfl)) : OutFr W s₀ (execSub k f s) :=
  fr_next (State.dziul_fr _ _ _ _ _ (fun _ h => aluBody_keeps _ _ _ h) hs)

theorem execAndOp_fr {W : Nat} {s₀ : State} (k : Fin 144) (f : BitVec 40) (s : State) (hs : State.Fr W s₀ s)
    (hw : partSub 0x80c1f8 W = true := by first | exact partSub_refl _ | exact partSub_trans (by with_reducible assumption) (by exact rfl)) : OutFr W s₀ (execAndOp k f s) :=
  fr_next (State.dziul_fr _ _ _ _ _ (fun _ h => aluBody_keeps _ _ _ h) hs)

theorem execOrOp_fr {W : Nat} {s₀ : State} (k : Fin 144) (f : BitVec 40) (s : State) (hs : State.Fr W s₀ s)
    (hw : partSub 0x80c1f8 W = true := by first | exact partSub_refl _ | exact partSub_trans (by with_reducible assumption) (by exact rfl)) : OutFr W s₀ (execOrOp k f s) :=
  fr_next (State.dziul_fr _ _ _ _ _ (fun _ h => aluBody_keeps _ _ _ h) hs)

theorem execXorOp_fr {W : Nat} {s₀ : State} (k : Fin 144) (f : BitVec 40) (s : State) (hs : State.Fr W s₀ s)
    (hw : partSub 0x80c1f8 W = true := by first | exact partSub_refl _ | exact partSub_trans (by with_reducible assumption) (by exact rfl)) : OutFr W s₀ (execXorOp k f s) :=
  fr_next (State.dziul_fr _ _ _ _ _ (fun _ h => aluBody_keeps _ _ _ h) hs)

theorem execLsl_fr {W : Nat} {s₀ : State} (k : Fin 144) (f : BitVec 40) (s : State) (hs : State.Fr W s₀ s)
    (hw : partSub 0x80c1f8 W = true := by first | exact partSub_refl _ | exact partSub_trans (by with_reducible assumption) (by exact rfl)) : OutFr W s₀ (execLsl k f s) :=
  fr_next (State.dziul_fr _ _ _ _ _ (fun _ h => shiftBody_keeps _ _ _ h) hs)

theorem execLsr_fr {W : Nat} {s₀ : State} (k : Fin 144) (f : BitVec 40) (s : State) (hs : State.Fr W s₀ s)
    (hw : partSub 0x80c1f8 W = true := by first | exact partSub_refl _ | exact partSub_trans (by with_reducible assumption) (by exact rfl)) : OutFr W s₀ (execLsr k f s) :=
  fr_next (State.dziul_fr _ _ _ _ _ (fun _ h => shiftBody_keeps _ _ _ h) hs)

theorem execAsr_fr {W : Nat} {s₀ : State} (k : Fin 144) (f : BitVec 40) (s : State) (hs : State.Fr W s₀ s)
    (hw : partSub 0x80c1f8 W = true := by first | exact partSub_refl _ | exact partSub_trans (by with_reducible assumption) (by exact rfl)) : OutFr W s₀ (execAsr k f s) :=
  fr_next (State.dziul_fr _ _ _ _ _ (fun _ h => shiftBody_keeps _ _ _ h) hs)

theorem execCmp_fr {W : Nat} {s₀ : State} (k : Fin 144) (f : BitVec 40) (s : State) (hs : State.Fr W s₀ s)
    (hw : partSub 0x80c1f8 W = true := by first | exact partSub_refl _ | exact partSub_trans (by with_reducible assumption) (by exact rfl)) : OutFr W s₀ (execCmp k f s) :=
  fr_next (State.dziul_fr _ _ _ _ _ (fun _ h => cmpBody_keeps _ _ h) hs)

theorem execAddi_fr {W : Nat} {s₀ : State} (k : Fin 144) (f : BitVec 40) (s : State) (hs : State.Fr W s₀ s)
    (hw : partSub 0x80c1f8 W = true := by first | exact partSub_refl _ | exact partSub_trans (by with_reducible assumption) (by exact rfl)) : OutFr W s₀ (execAddi k f s) :=
  fr_next (State.dziul_fr _ _ _ _ _ (fun _ h => addiBody_keeps _ _ h) hs)

theorem execMovi_fr {W : Nat} {s₀ : State} (k : Fin 144) (f : BitVec 40) (s : State) (hs : State.Fr W s₀ s)
    (hw : partSub 0x80c1f8 W = true := by first | exact partSub_refl _ | exact partSub_trans (by with_reducible assumption) (by exact rfl)) : OutFr W s₀ (execMovi k f s) :=
  fr_next (State.dziul_fr _ _ _ _ _ (fun _ h => moviBody_keeps _ _ h) hs)

theorem execMov_fr {W : Nat} {s₀ : State} (k : Fin 144) (f : BitVec 40) (s : State) (hs : State.Fr W s₀ s)
    (hw : partSub 0x80c1f8 W = true := by first | exact partSub_refl _ | exact partSub_trans (by with_reducible assumption) (by exact rfl)) : OutFr W s₀ (execMov k f s) :=
  fr_next (State.dziul_fr _ _ _ _ _ (fun _ h => movBody_keeps _ _ h) hs)

theorem execLd_fr {W : Nat} {s₀ : State} (k : Fin 144) (f : BitVec 40) (s : State) (hs : State.Fr W s₀ s)
    (hw : partSub 0x80c1f8 W = true := by first | exact partSub_refl _ | exact partSub_trans (by with_reducible assumption) (by exact rfl)) : OutFr W s₀ (execLd k f s) :=
  fr_next (State.dziul_fr _ _ _ _ _ (fun _ h => ldBody_keeps _ _ _ h) hs)

theorem execSt_fr {W : Nat} {s₀ : State} (k : Fin 144) (f : BitVec 40) (s : State) (hs : State.Fr W s₀ s)
    (hw : partSub 0x80c1f8 W = true := by first | exact partSub_refl _ | exact partSub_trans (by with_reducible assumption) (by exact rfl)) : OutFr W s₀ (execSt k f s) :=
  fr_next (State.dziul_fr _ _ _ _ _ (fun _ h => ldBody_keeps _ _ _ h) hs)

theorem execLda_fr {W : Nat} {s₀ : State} (k : Fin 144) (f : BitVec 40) (s : State) (hs : State.Fr W s₀ s)
    (hw : partSub 0x80c1f8 W = true := by first | exact partSub_refl _ | exact partSub_trans (by with_reducible assumption) (by exact rfl)) : OutFr W s₀ (execLda k f s) :=
  fr_next (State.dziul_fr _ _ _ _ _ (fun _ h => ldaBody_keeps _ _ _ h) hs)

theorem execSta_fr {W : Nat} {s₀ : State} (k : Fin 144) (f : BitVec 40) (s : State) (hs : State.Fr W s₀ s)
    (hw : partSub 0x80c1f8 W = true := by first | exact partSub_refl _ | exact partSub_trans (by with_reducible assumption) (by exact rfl)) : OutFr W s₀ (execSta k f s) :=
  fr_next (State.dziul_fr _ _ _ _ _ (fun _ h => ldaBody_keeps _ _ _ h) hs)

theorem State.control_fr {W : Nat} {s₀ : State} (s : State) (k : Nat) (op : Nat) (f : BitVec 40) (ok : Bool) (act : State → State) (hs : State.Fr W s₀ s) (hact : ∀ (x0 : State), State.Fr W s₀ x0 → State.Fr W s₀ (act x0))
    (hw : partSub 0x80c1d8 W = true := by first | exact partSub_refl _ | exact partSub_trans (by with_reducible assumption) (by exact rfl)) : State.Fr W s₀ (State.control s k op f ok act) := by
  unfold State.control
  lift_lets
  intro x0 x1 x2
  have h3 : State.Fr W s₀ x2 := (State.setCore_fr _ _ _ hs)
  clear_value x2
  intro x4
  have h5 : State.Fr W s₀ x4 := (hact _ h3)
  clear_value x4
  exact fr_ite (fr_ite (State.endInstr_fr _ _ _ _ h5) (State.codeError_fr _ _ _ _ hs)) hs

theorem execWaitWork_fr {W : Nat} {s₀ : State} (k : Fin 144) (f : BitVec 40) (s : State) (hs : State.Fr W s₀ s)
    (hw : partSub 0x80c1d8 W = true := by first | exact partSub_refl _ | exact partSub_trans (by with_reducible assumption) (by exact rfl)) : OutFr W s₀ (execWaitWork k f s) := by
  unfold execWaitWork
  lift_lets
  intro x0
  exact outFr_ite (outFr_ite (fr_next (State.setCore_fr _ _ _ hs)) (fr_next (State.codeError_fr _ _ _ _ hs))) (fr_next hs)

theorem execCommit_fr {W : Nat} {s₀ : State} (k : Fin 144) (f : BitVec 40) (s : State) (hs : State.Fr W s₀ s)
    (hw : partSub 0xb9c3d8 W = true := by first | exact partSub_refl _ | exact partSub_trans (by with_reducible assumption) (by exact rfl)) : OutFr W s₀ (execCommit k f s) := by
  unfold execCommit
  lift_lets
  intro x0 x1
  refine fr_next (State.control_fr _ _ _ _ _ _ hs ?_)
  · intro y2 g3
    exact State.commitRun_fr _ _ _ g3

theorem execYield_fr {W : Nat} {s₀ : State} (k : Fin 144) (f : BitVec 40) (s : State) (hs : State.Fr W s₀ s)
    (hw : partSub 0x80c1d8 W = true := by first | exact partSub_refl _ | exact partSub_trans (by with_reducible assumption) (by exact rfl)) : OutFr W s₀ (execYield k f s) := by
  unfold execYield
  lift_lets
  intro x0 x1
  have h2 : State.Fr W s₀ x1 := (fr_ite (State.incS_fr _ _ _ hs) hs)
  clear_value x1
  intro x3
  have h4 : State.Fr W s₀ x3 := (State.withdraw_fr _ _ h2)
  clear_value x3
  intro x5
  have h6 : State.Fr W s₀ x5 := (State.abortRun_fr _ _ h4)
  clear_value x5
  intro x7
  have h8 : State.Fr W s₀ x7 := by
    dsimp -zeta only [x7]
    split
    · exact h4
    · exact fr_ite (State.endCancelled_fr _ _ _ h6) (State.returnEntry_fr _ _ h6)
  clear_value x7
  intro x9
  exact outFr_ite (outFr_ite (fr_next (State.blockCore_fr _ _ (State.setCore_fr _ _ _ h8))) (fr_next (State.codeError_fr _ _ _ _ hs))) (fr_next hs)

theorem State.noteWait_fr {W : Nat} {s₀ : State} (s : State) (e : Entry) (hs : State.Fr W s₀ s)
    (hw : partSub 0x8048 W = true := by first | exact partSub_refl _ | exact partSub_trans (by with_reducible assumption) (by exact rfl)) : State.Fr W s₀ (State.noteWait s e) := by
  unfold State.noteWait
  lift_lets
  intro x0 x1 x2 x3 x4
  have h5 : State.Fr W s₀ x4 := (fr_mk rfl rfl rfl rfl hs)
  clear_value x4
  exact fr_ite (fr_ite (State.raise_fr _ _ _ _ _ _ _ _ h5) h5) hs

theorem State.deliver_fr {W : Nat} {s₀ : State} (s : State) (k : Nat) (e : Entry) (hs : State.Fr W s₀ s)
    (hw : partSub 0x4070 W = true := by first | exact partSub_refl _ | exact partSub_trans (by with_reducible assumption) (by exact rfl)) : State.Fr W s₀ (State.deliver s k e) := by
  unfold State.deliver
  lift_lets
  intro x0 x1 x2 x3 x4 x5 x6 x7 x8
  have h9 : State.Fr W s₀ x8 := (State.setCore_fr _ _ _ hs)
  clear_value x8
  intro x10 x11
  have h12 : State.Fr W s₀ x11 := (fr_mk rfl rfl rfl rfl h9)
  clear_value x11
  intro x13
  have h14 : State.Fr W s₀ x13 := (State.putCsm_fr _ _ _ _ h12)
  clear_value x13
  split
  · split
    · exact State.setJob_fr _ _ h14
    · exact h14
  · exact h12

theorem execDispatch_fr {W : Nat} {s₀ : State} (c : Fin 16) (s : State) (hs : State.Fr W s₀ s)
    (hw : partSub 0xc078 W = true := by first | exact partSub_refl _ | exact partSub_trans (by with_reducible assumption) (by exact rfl)) : OutFr W s₀ (execDispatch c s) := by
  unfold execDispatch
  have h1 := State.unbar_fr s c hs
  refine outFr_ite ?_ (fr_next hs)
  dsimp only
  generalize s.unbar c = s1 at h1 ⊢
  generalize s1.nextDispatch c = o
  match o with
  | none => exact fr_next h1
  | some (e, k) =>
    refine outFr_ite (fr_next (State.preemptScan_fr _ _ (State.deliver_fr _ _ _ (State.noteWait_fr _ _ (State.setQueue_fr _ _ _ ?_))))) (fr_next h1)
    split
    · exact State.setCore_fr _ _ _ h1
    · exact h1

theorem State.enqNow_fr {W : Nat} {s₀ : State} (s : State) (k : Nat) (a2 : Resv) (hs : State.Fr W s₀ s)
    (hw : partSub 0xa0c3c8 W = true := by first | exact partSub_refl _ | exact partSub_trans (by with_reducible assumption) (by exact rfl)) : State.Fr W s₀ (State.enqNow s k a2) := by
  unfold State.enqNow
  split
  · split
    · exact hs
    · exact State.makeReady_fr _ _ _ (State.placeToken_fr _ _ _ _ _ _ hs)
  · exact State.holdItem_fr _ _ _ hs
  · exact State.pushEntry_fr _ _ hs

theorem State.enqReserve_fr {W : Nat} {s₀ : State} (s : State) (k : Nat) (r : Running) (x : Resv) (hs : State.Fr W s₀ s)
    (hw : partSub 0x18 W = true := by first | exact partSub_refl _ | exact partSub_trans (by with_reducible assumption) (by exact rfl)) : State.Fr W s₀ (State.enqReserve s k r x) := by
  unfold State.enqReserve
  lift_lets
  intro x0 x1
  have h2 : State.Fr W s₀ x1 := (State.setCore_fr _ _ _ hs)
  clear_value x1
  exact State.ordMark_fr _ (State.poolMark_fr _ h2)

theorem State.enqResult_fr {W : Nat} {s₀ : State} (s : State) (k : Nat) (w : W48) (f : BitVec 40) (v : Nat) (hs : State.Fr W s₀ s)
    (hw : partSub 0x80c1d8 W = true := by first | exact partSub_refl _ | exact partSub_trans (by with_reducible assumption) (by exact rfl)) : State.Fr W s₀ (State.enqResult s k w f v) := by
  unfold State.enqResult
  lift_lets
  intro x0
  exact State.endInstr_fr _ _ _ _ hs

theorem State.enqInstr_fr {W : Nat} {s₀ : State} (s : State) (k : Nat) (f : BitVec 40) (mine : Nat → Bool) (hs : State.Fr W s₀ s)
    (hw : partSub 0xa0c3d8 W = true := by first | exact partSub_refl _ | exact partSub_trans (by with_reducible assumption) (by exact rfl)) : State.Fr W s₀ (State.enqInstr s k f mine) := by
  unfold State.enqInstr
  lift_lets
  intro x0 x1 x2
  refine fr_ite (fr_ite (fr_ite ?_ hs) (fr_ite (State.codeError_fr _ _ _ _ hs) hs)) hs
  · split
    · exact hs
    · lift_lets
      intro x3
      have h4 : State.Fr W s₀ x3 := by
        dsimp -zeta only [x3]
        split
        · exact State.enqReserve_fr _ _ _ _ hs
        · exact State.enqNow_fr _ _ _ hs
      clear_value x3
      exact State.enqResult_fr _ _ _ _ _ h4
    · exact State.enqResult_fr _ _ _ _ _ (State.countMalformed_fr _ hs)
    · exact State.enqResult_fr _ _ _ _ _ (State.noteRefusal_fr _ _ (State.incS_fr _ _ _ hs))

theorem execEnqToken_fr {W : Nat} {s₀ : State} (k : Fin 144) (f : BitVec 40) (s : State) (hs : State.Fr W s₀ s)
    (hw : partSub 0xa0c3d8 W = true := by first | exact partSub_refl _ | exact partSub_trans (by with_reducible assumption) (by exact rfl)) : OutFr W s₀ (execEnqToken k f s) := by
  unfold execEnqToken
  exact fr_next (State.enqInstr_fr _ _ _ _ hs)

theorem execEnqItem_fr {W : Nat} {s₀ : State} (k : Fin 144) (f : BitVec 40) (s : State) (hs : State.Fr W s₀ s)
    (hw : partSub 0xa0c3d8 W = true := by first | exact partSub_refl _ | exact partSub_trans (by with_reducible assumption) (by exact rfl)) : OutFr W s₀ (execEnqItem k f s) := by
  unfold execEnqItem
  exact fr_next (State.enqInstr_fr _ _ _ _ hs)

theorem execEnqWork_fr {W : Nat} {s₀ : State} (k : Fin 144) (f : BitVec 40) (s : State) (hs : State.Fr W s₀ s)
    (hw : partSub 0xa0c3d8 W = true := by first | exact partSub_refl _ | exact partSub_trans (by with_reducible assumption) (by exact rfl)) : OutFr W s₀ (execEnqWork k f s) := by
  unfold execEnqWork
  exact fr_next (State.enqInstr_fr _ _ _ _ hs)

theorem execOvl_fr {W : Nat} {s₀ : State} (k : Fin 144) (f : BitVec 40) (s : State) (hs : State.Fr W s₀ s)
    (hw : partSub 0x80c1d8 W = true := by first | exact partSub_refl _ | exact partSub_trans (by with_reducible assumption) (by exact rfl)) : OutFr W s₀ (execOvl k f s) := by
  unfold execOvl
  lift_lets
  intro x0 x1 x2 x3 x4
  have h5 : State.Fr W s₀ x4 := (State.incWrap_fr _ _ _ _ hs)
  clear_value x4
  refine outFr_ite (outFr_ite (outFr_ite (fr_next (State.codeError_fr _ _ _ _ hs)) ?_) (fr_next (State.codeError_fr _ _ _ _ hs))) (fr_next hs)
  · split
    · exact fr_next (State.codeError_fr _ _ _ _ hs)
    · exact fr_next (State.endInstr_fr _ _ _ _ h5)

theorem execOvlCopyEnd_fr {W : Nat} {s₀ : State} (k : Fin 144) (s : State) (hs : State.Fr W s₀ s)
    (hw : partSub 0x10 W = true := by first | exact partSub_refl _ | exact partSub_trans (by with_reducible assumption) (by exact rfl)) : OutFr W s₀ (execOvlCopyEnd k s) := by
  unfold execOvlCopyEnd
  lift_lets
  intro x0
  split
  · exact fr_next hs
  · lift_lets
    intro x1 x2 x3
    exact fr_next (State.setCore_fr _ _ _ hs)

theorem execSett_fr {W : Nat} {s₀ : State} (k : Fin 144) (f : BitVec 40) (s : State) (hs : State.Fr W s₀ s)
    (hw : partSub 0x80c1f8 W = true := by first | exact partSub_refl _ | exact partSub_trans (by with_reducible assumption) (by exact rfl)) : OutFr W s₀ (execSett k f s) :=
  fr_next (State.dziul_fr _ _ _ _ _ (fun _ h => settBody_keeps _ _ h) hs)

theorem execGett_fr {W : Nat} {s₀ : State} (k : Fin 144) (f : BitVec 40) (s : State) (hs : State.Fr W s₀ s)
    (hw : partSub 0x80c1f8 W = true := by first | exact partSub_refl _ | exact partSub_trans (by with_reducible assumption) (by exact rfl)) : OutFr W s₀ (execGett k f s) :=
  fr_next (State.dziul_fr _ _ _ _ _ (fun _ h => gettBody_keeps _ _ h) hs)

theorem execBkpt_fr {W : Nat} {s₀ : State} (k : Fin 144) (f : BitVec 40) (s : State) (hs : State.Fr W s₀ s)
    (hw : partSub 0x80c1f8 W = true := by first | exact partSub_refl _ | exact partSub_trans (by with_reducible assumption) (by exact rfl)) : OutFr W s₀ (execBkpt k f s) := by
  unfold execBkpt
  exact fr_next (State.dziul_fr _ _ _ _ _ (fun _ h => keeps_bind fun _ => keeps_ok h) hs)

theorem execInterruptEntry_fr {W : Nat} {s₀ : State} (k : Fin 144) (s : State) (hs : State.Fr W s₀ s)
    (hw : partSub 0x10 W = true := by first | exact partSub_refl _ | exact partSub_trans (by with_reducible assumption) (by exact rfl)) : OutFr W s₀ (execInterruptEntry k s) := by
  unfold execInterruptEntry
  lift_lets
  intro x0
  refine outFr_ite (outFr_ite (fr_next (State.setCore_fr _ _ _ hs)) ?_) (fr_next hs)
  · split
    · exact fr_next (State.setCore_fr _ _ _ hs)
    · exact fr_next hs

theorem execDebugHaltRequest_fr {W : Nat} {s₀ : State} (k : Fin 144) (s : State) (hs : State.Fr W s₀ s)
    (hw : partSub 0x10 W = true := by first | exact partSub_refl _ | exact partSub_trans (by with_reducible assumption) (by exact rfl)) : OutFr W s₀ (execDebugHaltRequest k s) := by
  unfold execDebugHaltRequest
  lift_lets
  intro x0
  exact fr_next (fr_ite (State.setCore_fr _ _ _ hs) hs)

theorem execLocalTimerExpiry_fr {W : Nat} {s₀ : State} (k : Fin 144) (s : State) (hs : State.Fr W s₀ s)
    (hw : partSub 0x10 W = true := by first | exact partSub_refl _ | exact partSub_trans (by with_reducible assumption) (by exact rfl)) : OutFr W s₀ (execLocalTimerExpiry k s) := by
  unfold execLocalTimerExpiry
  lift_lets
  intro x0
  exact fr_next (fr_ite (State.setCore_fr _ _ _ hs) hs)

end Sys2Proof.Machine
end

