-- ==== Sys2Proof/Laws/FrameSup.lean ====
section
/-! SUPPORT. The frame lemmas of the power supervisor, the memory and the modes (see Laws/Frame.lean). -/
set_option Elab.async false

namespace Sys2Proof.Machine

theorem State.budgetCheck_fr {W : Nat} {s₀ : State} (s : State) (hs : State.Fr W s₀ s)
    (hw : partSub 0x88008 W = true := by first | exact partSub_refl _ | exact partSub_trans (by with_reducible assumption) (by exact rfl)) : State.Fr W s₀ (State.budgetCheck s) := by
  unfold State.budgetCheck
  lift_lets
  intro x0 x1 x2
  have h3 : State.Fr W s₀ x2 := (fr_mk rfl rfl rfl rfl hs)
  clear_value x2
  exact fr_ite hs (fr_ite (State.raise_fr _ _ _ _ _ _ _ _ h3) h3)

theorem State.commandV_fr {W : Nat} {s₀ : State} (s : State) (v : Nat) (hs : State.Fr W s₀ s)
    (hw : partSub 0x880008 W = true := by first | exact partSub_refl _ | exact partSub_trans (by with_reducible assumption) (by exact rfl)) : State.Fr W s₀ (State.commandV s v) := by
  unfold State.commandV
  lift_lets
  intro x0 x1
  have h2 : State.Fr W s₀ x1 := (State.setFlag_fr _ _ _ (State.setFld_fr _ _ _ hs))
  clear_value x1
  intro x3
  have h4 : State.Fr W s₀ x3 := (State.setFlag_fr _ _ _ h2)
  clear_value x3
  intro x5 x6
  have h7 : State.Fr W s₀ x6 := (fr_mk rfl rfl rfl rfl h4)
  clear_value x6
  exact fr_ite (State.emit_fr _ _ h7) hs

theorem State.limitStep_fr {W : Nat} {s₀ : State} (s : State) (hs : State.Fr W s₀ s)
    (hw : partSub 0x880008 W = true := by first | exact partSub_refl _ | exact partSub_trans (by with_reducible assumption) (by exact rfl)) : State.Fr W s₀ (State.limitStep s) := by
  unfold State.limitStep
  lift_lets
  intro x0
  exact fr_ite (State.commandV_fr _ _ hs) (fr_ite (State.commandV_fr _ _ hs) hs)

theorem State.limitsMoved_fr {W : Nat} {s₀ : State} (s : State) (hs : State.Fr W s₀ s)
    (hw : partSub 0x880008 W = true := by first | exact partSub_refl _ | exact partSub_trans (by with_reducible assumption) (by exact rfl)) : State.Fr W s₀ (State.limitsMoved s) := by
  unfold State.limitsMoved
  lift_lets
  intro x0
  have h1 : State.Fr W s₀ x0 := (State.setFlag_fr _ _ _ hs)
  clear_value x0
  exact fr_ite h1 (State.limitStep_fr _ h1)

theorem State.readV_fr {W : Nat} {s₀ : State} (s : State) (hs : State.Fr W s₀ s)
    (hw : partSub 0x880000 W = true := by first | exact partSub_refl _ | exact partSub_trans (by with_reducible assumption) (by exact rfl)) : State.Fr W s₀ (State.readV s) := by
  unfold State.readV
  lift_lets
  intro x0
  exact State.emit_fr _ _ (fr_mk rfl rfl rfl rfl hs)

theorem State.belowFloor_fr {W : Nat} {s₀ : State} (s : State) (c : Nat) (hs : State.Fr W s₀ s)
    (hw : partSub 0x88008 W = true := by first | exact partSub_refl _ | exact partSub_trans (by with_reducible assumption) (by exact rfl)) : State.Fr W s₀ (State.belowFloor s c) := by
  unfold State.belowFloor
  lift_lets
  intro x0
  have h1 : State.Fr W s₀ x0 := (State.event_fr _ _ _ _ _ _ _ (State.setFlag_fr _ _ _ hs))
  clear_value x0
  intro x2 x3
  have h4 : State.Fr W s₀ x3 := (fr_mk rfl rfl rfl rfl h1)
  clear_value x3
  exact fr_ite hs (State.budgetCheck_fr _ h4)

theorem State.limitReport_fr {W : Nat} {s₀ : State} (s : State) (want : Bool) (hs : State.Fr W s₀ s)
    (hw : partSub 0x88008 W = true := by first | exact partSub_refl _ | exact partSub_trans (by with_reducible assumption) (by exact rfl)) : State.Fr W s₀ (State.limitReport s want) := by
  unfold State.limitReport
  lift_lets
  intro x0
  clear_value x0
  intro x1
  have h2 : State.Fr W s₀ x1 := (fr_ite (State.setFlag_fr _ _ _ hs) hs)
  clear_value x1
  intro x3
  have h4 : State.Fr W s₀ x3 := (State.setFlag_fr _ _ _ h2)
  clear_value x3
  intro x5
  clear_value x5
  intro x6
  clear_value x6
  intro x7
  have h8 : State.Fr W s₀ x7 := (fr_ite (State.raise_fr _ _ _ _ _ _ _ _ h4) h4)
  clear_value x7
  intro x9
  clear_value x9
  intro x10
  have h11 : State.Fr W s₀ x10 := (fr_mk rfl rfl rfl rfl h8)
  clear_value x10
  split
  · exact State.belowFloor_fr _ _ h11
  · exact h11

theorem State.raiseV_fr {W : Nat} {s₀ : State} (s : State) (n : Nat) (hs : State.Fr W s₀ s)
    (hw : partSub 0x880008 W = true := by first | exact partSub_refl _ | exact partSub_trans (by with_reducible assumption) (by exact rfl)) : State.Fr W s₀ (State.raiseV s n) := by
  unfold State.raiseV
  lift_lets
  intro x0 x1 x2 x3
  have h4 : State.Fr W s₀ x3 := (fr_mk rfl rfl rfl rfl hs)
  clear_value x3
  exact fr_ite (State.commandV_fr _ _ (State.incW_fr _ _ _ h4)) hs

theorem State.lowerV_fr {W : Nat} {s₀ : State} (s : State) (hs : State.Fr W s₀ s)
    (hw : partSub 0x880008 W = true := by first | exact partSub_refl _ | exact partSub_trans (by with_reducible assumption) (by exact rfl)) : State.Fr W s₀ (State.lowerV s) := by
  unfold State.lowerV
  lift_lets
  intro x0 x1
  exact fr_ite (State.commandV_fr _ _ (State.incW_fr _ _ _ hs)) hs

theorem State.supDecide_fr {W : Nat} {s₀ : State} (s : State) (hs : State.Fr W s₀ s)
    (hw : partSub 0x888008 W = true := by first | exact partSub_refl _ | exact partSub_trans (by with_reducible assumption) (by exact rfl)) : State.Fr W s₀ (State.supDecide s) := by
  unfold State.supDecide
  lift_lets
  intro x0 x1 x2 x3
  have h4 : State.Fr W s₀ x3 := (State.limitReport_fr _ _ hs)
  clear_value x3
  intro x5 x6 x7 x8
  have h9 : State.Fr W s₀ x8 := (fr_mk rfl rfl rfl rfl h4)
  clear_value x8
  exact fr_ite h4 (fr_ite (State.limitStep_fr _ h4) (fr_ite (fr_ite h4 (State.commandV_fr _ _ h4)) (fr_ite (State.raiseV_fr _ _ (fr_ite (State.setFlag_fr _ _ _ h9) h9)) (fr_ite (State.raiseV_fr _ _ h9) (fr_ite (State.lowerV_fr _ h9) h9)))))

theorem State.supRequest_fr {W : Nat} {s₀ : State} (s : State) (hs : State.Fr W s₀ s)
    (hw : partSub 0x8 W = true := by first | exact partSub_refl _ | exact partSub_trans (by with_reducible assumption) (by exact rfl)) : State.Fr W s₀ (State.supRequest s) := by
  unfold State.supRequest
  lift_lets
  intro x0
  clear_value x0
  intro x1
  clear_value x1
  split
  · exact hs
  · lift_lets
    intro x2
    clear_value x2
    intro x3
    clear_value x3
    intro x4
    clear_value x4
    intro x5
    have h6 : State.Fr W s₀ x5 := (State.setFld_fr _ _ _ hs)
    clear_value x5
    intro x7
    have h8 : State.Fr W s₀ x7 := (State.setFld_fr _ _ _ h6)
    clear_value x7
    intro x9
    have h10 : State.Fr W s₀ x9 := (State.setFlag_fr _ _ _ h8)
    clear_value x9
    exact State.setFld_fr _ _ _ h10

theorem State.clusterSpeed_fr {W : Nat} {s₀ : State} (s : State) (c : Nat) (counts : List Nat) (hs : State.Fr W s₀ s)
    (hw : partSub 0x8 W = true := by first | exact partSub_refl _ | exact partSub_trans (by with_reducible assumption) (by exact rfl)) : State.Fr W s₀ (State.clusterSpeed s c counts) := by
  unfold State.clusterSpeed
  lift_lets
  intro x0 x1 x2 x3
  have h4 : State.Fr W s₀ x3 := (State.setFld_fr _ _ _ (State.setFld_fr _ _ _ hs))
  clear_value x3
  exact fr_ite (State.setFld_fr _ _ _ (State.setFld_fr _ _ _ h4)) h4

theorem State.settleStep_fr {W : Nat} {s₀ : State} (s : State) (hs : State.Fr W s₀ s)
    (hw : partSub 0x80008 W = true := by first | exact partSub_refl _ | exact partSub_trans (by with_reducible assumption) (by exact rfl)) : State.Fr W s₀ (State.settleStep s) := by
  unfold State.settleStep
  lift_lets
  intro x0
  exact fr_ite (fr_mk rfl rfl rfl rfl hs) (fr_ite (State.setFlag_fr _ _ _ (fr_mk rfl rfl rfl rfl hs)) hs)

theorem State.avsFail_fr {W : Nat} {s₀ : State} (s : State) (hs : State.Fr W s₀ s)
    (hw : partSub 0x888008 W = true := by first | exact partSub_refl _ | exact partSub_trans (by with_reducible assumption) (by exact rfl)) : State.Fr W s₀ (State.avsFail s) := by
  unfold State.avsFail
  split
  · exact hs
  · lift_lets
    intro x0
    have h1 : State.Fr W s₀ x0 := (State.incS_fr _ _ _ hs)
    clear_value x0
    intro x2 x3
    have h4 : State.Fr W s₀ x3 := (fr_mk rfl rfl rfl rfl h1)
    clear_value x3
    intro x5
    have h6 : State.Fr W s₀ x5 := (fr_mk rfl rfl rfl rfl h1)
    clear_value x5
    intro x7
    have h8 : State.Fr W s₀ x7 := (fr_ite h6 (State.event_fr _ _ _ _ _ _ _ (State.setFlag_fr _ _ _ h6)))
    clear_value x7
    intro x9
    have h10 : State.Fr W s₀ x9 := (fr_ite (State.belowFloor_fr _ _ h8) h8)
    clear_value x9
    exact fr_ite (State.emit_fr _ _ h4) (State.budgetCheck_fr _ h10)

theorem State.avsReadOk_fr {W : Nat} {s₀ : State} (s : State) (v : Nat) (i : Nat) (hs : State.Fr W s₀ s)
    (hw : partSub 0x88008 W = true := by first | exact partSub_refl _ | exact partSub_trans (by with_reducible assumption) (by exact rfl)) : State.Fr W s₀ (State.avsReadOk s v i) := by
  unfold State.avsReadOk
  lift_lets
  intro x0
  have h1 : State.Fr W s₀ x0 := (State.setFld_fr _ _ _ (State.setFld_fr _ _ _ hs))
  clear_value x0
  intro x2 x3
  have h4 : State.Fr W s₀ x3 := (fr_mk rfl rfl rfl rfl h1)
  clear_value x3
  exact fr_ite (State.budgetCheck_fr _ (State.setFld_fr _ _ _ (State.setFlag_fr _ _ _ h4))) h4

theorem execSensorWindow_fr {W : Nat} {s₀ : State} (counts : List (List Nat)) (s : State) (hs : State.Fr W s₀ s)
    (hw : partSub 0x888008 W = true := by first | exact partSub_refl _ | exact partSub_trans (by with_reducible assumption) (by exact rfl)) : OutFr W s₀ (execSensorWindow counts s) := by
  unfold execSensorWindow
  lift_lets
  intro x0 x1
  have h2 : State.Fr W s₀ x1 := by
    dsimp -zeta only [x1]
    refine fr_foldl ?_ hs
    · intro y3 y4 g5
      exact State.clusterSpeed_fr _ _ _ g5
  clear_value x1
  intro x6 x7
  have h8 : State.Fr W s₀ x7 := (fr_mk rfl rfl rfl rfl h2)
  clear_value x7
  intro x9 x10 x11
  have h12 : State.Fr W s₀ x11 := (fr_mk rfl rfl rfl rfl h8)
  clear_value x11
  intro x13
  have h14 : State.Fr W s₀ x13 := (State.supDecide_fr _ (State.supRequest_fr _ (State.settleStep_fr _ h12)))
  clear_value x13
  intro x15
  have h16 : State.Fr W s₀ x15 := (fr_ite (State.readV_fr _ h14) h14)
  clear_value x15
  exact outFr_ite (fr_next hs) (outFr_ite (fr_next (fr_ite (fr_mk rfl rfl rfl rfl hs) hs)) (fr_next (State.budgetCheck_fr _ h16)))

theorem execFloorRestored_fr {W : Nat} {s₀ : State} (s : State) (hs : State.Fr W s₀ s)
    (hw : partSub 0x88008 W = true := by first | exact partSub_refl _ | exact partSub_trans (by with_reducible assumption) (by exact rfl)) : OutFr W s₀ (execFloorRestored s) := by
  unfold execFloorRestored
  exact fr_next (fr_ite (State.budgetCheck_fr _ (State.raise_fr _ _ _ _ _ _ _ _ (State.setFlag_fr _ _ _ hs))) hs)

theorem execSettleExpiry_fr {W : Nat} {s₀ : State} (s : State) (hs : State.Fr W s₀ s)
    (hw : partSub 0x880008 W = true := by first | exact partSub_refl _ | exact partSub_trans (by with_reducible assumption) (by exact rfl)) : OutFr W s₀ (execSettleExpiry s) := by
  unfold execSettleExpiry
  lift_lets
  intro x0
  exact fr_next (fr_ite (State.limitStep_fr _ (fr_mk rfl rfl rfl rfl hs)) hs)

theorem execAvsTransactionEnd_fr {W : Nat} {s₀ : State} (ok : Bool) (mv : BitVec 10) (qa : BitVec 10) (s : State) (hs : State.Fr W s₀ s)
    (hw : partSub 0x888008 W = true := by first | exact partSub_refl _ | exact partSub_trans (by with_reducible assumption) (by exact rfl)) : OutFr W s₀ (execAvsTransactionEnd ok mv qa s) := by
  unfold execAvsTransactionEnd
  split
  · exact fr_next hs
  · refine outFr_ite ?_ (fr_next (State.avsFail_fr _ hs))
    · split
      · exact fr_next (State.readV_fr _ hs)
      · exact fr_next (State.avsReadOk_fr _ _ _ hs)

theorem execAvsResponseTimeout_fr {W : Nat} {s₀ : State} (s : State) (hs : State.Fr W s₀ s)
    (hw : partSub 0x888008 W = true := by first | exact partSub_refl _ | exact partSub_trans (by with_reducible assumption) (by exact rfl)) : OutFr W s₀ (execAvsResponseTimeout s) := by
  unfold execAvsResponseTimeout
  exact fr_next (State.avsFail_fr _ hs)

theorem execAvsFaultPoll_fr {W : Nat} {s₀ : State} (s : State) (hs : State.Fr W s₀ s)
    (hw : partSub 0x880000 W = true := by first | exact partSub_refl _ | exact partSub_trans (by with_reducible assumption) (by exact rfl)) : OutFr W s₀ (execAvsFaultPoll s) := by
  unfold execAvsFaultPoll
  exact fr_next (fr_ite (State.readV_fr _ hs) hs)

theorem execRefLostClear_fr {W : Nat} {s₀ : State} (s : State) (hs : State.Fr W s₀ s)
    (hw : partSub 0x88008 W = true := by first | exact partSub_refl _ | exact partSub_trans (by with_reducible assumption) (by exact rfl)) : OutFr W s₀ (execRefLostClear s) := by
  unfold execRefLostClear
  lift_lets
  intro x0 x1
  have h2 : State.Fr W s₀ x1 := (fr_mk rfl rfl rfl rfl hs)
  clear_value x1
  exact fr_next (fr_ite (State.budgetCheck_fr _ (State.setFlag_fr _ _ _ h2)) hs)

theorem State.ageOf_fr {W : Nat} {s₀ : State} (s : State) (c : Nat) (idx : Nat) (hs : State.Fr W s₀ s)
    (hw : partSub 0x88008 W = true := by first | exact partSub_refl _ | exact partSub_trans (by with_reducible assumption) (by exact rfl)) : State.Fr W s₀ (State.ageOf s c idx) := by
  unfold State.ageOf
  lift_lets
  intro x0
  have h1 : State.Fr W s₀ x0 := (State.setFld_fr _ _ _ hs)
  clear_value x0
  intro x2 x3
  have h4 : State.Fr W s₀ x3 := (fr_mk rfl rfl rfl rfl h1)
  clear_value x3
  intro x5 x6
  have h7 : State.Fr W s₀ x6 := (fr_mk rfl rfl rfl rfl h4)
  clear_value x6
  intro x8
  have h9 : State.Fr W s₀ x8 := (fr_ite (State.event_fr _ _ _ _ _ _ _ h7) h4)
  clear_value x8
  intro x10 x11
  have h12 : State.Fr W s₀ x11 := (fr_mk rfl rfl rfl rfl h9)
  clear_value x11
  exact fr_ite (State.event_fr _ _ _ _ _ _ _ h12) h9

theorem execAgeMeasurement_fr {W : Nat} {s₀ : State} (idx : List Nat) (s : State) (hs : State.Fr W s₀ s)
    (hw : partSub 0x88008 W = true := by first | exact partSub_refl _ | exact partSub_trans (by with_reducible assumption) (by exact rfl)) : OutFr W s₀ (execAgeMeasurement idx s) := by
  unfold execAgeMeasurement
  lift_lets
  intro x0 x1
  have h2 : State.Fr W s₀ x1 := (fr_mk rfl rfl rfl rfl hs)
  clear_value x1
  intro x3 x4
  have h5 : State.Fr W s₀ x4 := by
    dsimp -zeta only [x4]
    refine fr_foldl ?_ h2
    · intro y6 y7 g8
      exact State.ageOf_fr _ _ _ g8
  clear_value x4
  intro x9 x10 x11
  have h12 : State.Fr W s₀ x11 := (State.setFld_fr _ _ _ (State.setFld_fr _ _ _ h5))
  clear_value x11
  exact outFr_ite (fr_next (State.raise_fr _ _ _ _ _ _ _ _ h12)) (fr_next hs)

theorem execXing_fr {W : Nat} {s₀ : State} (i : BitVec 8) (s : State) (hs : State.Fr W s₀ s)
    (hw : partSub 0x8008 W = true := by first | exact partSub_refl _ | exact partSub_trans (by with_reducible assumption) (by exact rfl)) : OutFr W s₀ (execXing i s) := by
  unfold execXing
  exact fr_next (State.event_fr _ _ _ _ _ _ _ (State.incS_fr _ _ _ hs))

theorem execSpeedMinRestart_fr {W : Nat} {s₀ : State} (s : State) (hs : State.Fr W s₀ s)
    (hw : partSub 0x8 W = true := by first | exact partSub_refl _ | exact partSub_trans (by with_reducible assumption) (by exact rfl)) : OutFr W s₀ (execSpeedMinRestart s) := by
  unfold execSpeedMinRestart
  exact fr_next (State.setFld_fr _ _ _ hs)

theorem State.pageStorm_fr {W : Nat} {s₀ : State} (s : State) (page : Nat) (q_ : Nat) (hs : State.Fr W s₀ s)
    (hw : partSub 0x8108 W = true := by first | exact partSub_refl _ | exact partSub_trans (by with_reducible assumption) (by exact rfl)) : State.Fr W s₀ (State.pageStorm s page q_) := by
  unfold State.pageStorm
  lift_lets
  intro x0 x1 x2
  have h3 : State.Fr W s₀ x2 := (fr_mk rfl rfl rfl rfl hs)
  clear_value x2
  exact fr_ite (State.event_fr _ _ _ _ _ _ _ h3) (fr_mk rfl rfl rfl rfl hs)

theorem State.memErr_fr {W : Nat} {s₀ : State} (s : State) (e : MemErr) (hs : State.Fr W s₀ s)
    (hw : partSub 0x8108 W = true := by first | exact partSub_refl _ | exact partSub_trans (by with_reducible assumption) (by exact rfl)) : State.Fr W s₀ (State.memErr s e) := by
  match e with
  | .corrected a =>
    unfold State.memErr
    dsimp only
    split
    · exact hs
    · exact State.pageStorm_fr _ _ _ (fr_ite
        (State.event_fr _ _ _ _ _ _ _ (State.incS_fr _ _ _ (State.incS_fr _ _ _ hs)))
        (State.setFlag_fr _ _ _ (State.incS_fr _ _ _ (State.incS_fr _ _ _ hs))))
  | .uncorrectable a =>
    unfold State.memErr
    dsimp only
    split
    · exact hs
    · rename_i w _
      have h := State.incS_fr _ (F.HP_PC_ERR_UE (pcOf w)) 1 (State.incS_fr s F.HP_ECC_CNT_UE 1 hs)
      generalize ((s.incS F.HP_ECC_CNT_UE 1).incS (F.HP_PC_ERR_UE (pcOf w)) 1) = s1 at h ⊢
      exact State.event_fr _ _ _ _ _ _ _ (fr_mem h (fun h => (memWf_iff.1 h).1)
        (fun h => mwf_mset (w / 8) true (memWf_iff.1 h).2.1) (fun h => (memWf_iff.1 h).2.2.1) fun h => (memWf_iff.1 h).2.2.2)
  | .cacheParity w =>
    show State.Fr W s₀ (let s := (s.incS F.HP_CACHE_CNT_PARITY 1).event F.HP_EVENT_CACHE_PAR .corrected 0 w.val 0 0
      let n := mget 0 s.hp.wayFails w.val + 1
      let s : State := { s with hp := { s.hp with wayFails := mput s.hp.wayFails w.val n } }
      if n = 4 then
        (s.setFld F.HP_CACHE_WAYS_FAILED (setBits (s.fld F.HP_CACHE_WAYS_FAILED) w.val 1 1)).raise .warn 0x04 0 0x0180 w.val 0 0
      else s)
    extract_lets s1 n k s2
    have h : State.Fr W s₀ s1 := State.event_fr _ F.HP_EVENT_CACHE_PAR .corrected 0 w.val 0 0 (State.incS_fr _ F.HP_CACHE_CNT_PARITY 1 hs)
    clear_value s1
    have h2 : State.Fr W s₀ s2 := fr_mk rfl rfl rfl rfl h
    clear_value s2 n
    exact fr_ite (State.raise_fr _ _ _ _ _ _ _ _ (State.setFld_fr _ _ _ h2)) h2

theorem State.memErrs_fr {W : Nat} {s₀ : State} (s : State) (l : List MemErr) (hs : State.Fr W s₀ s)
    (hw : partSub 0x8108 W = true := by first | exact partSub_refl _ | exact partSub_trans (by with_reducible assumption) (by exact rfl)) : State.Fr W s₀ (State.memErrs s l) := by
  unfold State.memErrs
  refine fr_foldl ?_ hs
  · intro y0 y1 g2
    exact State.memErr_fr _ _ g2

theorem State.startMove_fr {W : Nat} {s₀ : State} (s : State) (page : Nat) (repair : Bool) (o : Option Origin) (hs : State.Fr W s₀ s)
    (hw : partSub 0x8108 W = true := by first | exact partSub_refl _ | exact partSub_trans (by with_reducible assumption) (by exact rfl)) : State.Fr W s₀ (State.startMove s page repair o).1 := by
  unfold State.startMove
  split
  · exact fr_iteP hs (State.unmappedEvent_fr _ _ hs)
  · refine fr_iteP hs (fr_iteP hs ?_)
    · split
      · exact hs
      · lift_lets
        intro x0
        exact fr_mk rfl rfl rfl rfl hs

theorem State.copyPhys_fr {W : Nat} {s₀ : State} (s : State) (src : Nat) (dst : Nat) (n : Nat) (hs : State.Fr W s₀ s)
    (hw : partSub 0x100 W = true := by first | exact partSub_refl _ | exact partSub_trans (by with_reducible assumption) (by exact rfl)) : State.Fr W s₀ (State.copyPhys s src dst n) := by
  unfold State.copyPhys
  refine fr_mem hs (fun h => ?_) (fun h => ?_) (fun h => (memWf_iff.1 h).2.2.1) fun h => (memWf_iff.1 h).2.2.2
  · have h0 := (memWf_iff.1 h).1
    exact mwf_foldl (fun _ b hb hm => mwf_mput _ (((mwf_iff _ _).1 (mwf_filter _ h0)).2 b hb) hm) (mwf_filter _ h0)
  · have h0 := (memWf_iff.1 h).2.1
    exact mwf_foldl (fun _ b hb hm => mwf_mput _ (((mwf_iff _ _).1 (mwf_filter _ h0)).2 b hb) hm) (mwf_filter _ h0)

theorem State.zeroPhys_fr {W : Nat} {s₀ : State} (s : State) (p : Nat) (n : Nat) (hs : State.Fr W s₀ s)
    (hw : partSub 0x100 W = true := by first | exact partSub_refl _ | exact partSub_trans (by with_reducible assumption) (by exact rfl)) : State.Fr W s₀ (State.zeroPhys s p n) := by
  unfold State.zeroPhys
  exact fr_mem hs (fun h => mwf_filter _ (memWf_iff.1 h).1) (fun h => mwf_filter _ (memWf_iff.1 h).2.1)
    (fun h => (memWf_iff.1 h).2.2.1) fun h => (memWf_iff.1 h).2.2.2

theorem State.zeroRange_fr {W : Nat} {s₀ : State} (s : State) (a : Nat) (n : Nat) (hs : State.Fr W s₀ s)
    (hw : partSub 0x100 W = true := by first | exact partSub_refl _ | exact partSub_trans (by with_reducible assumption) (by exact rfl)) : State.Fr W s₀ (State.zeroRange s a n) := by
  unfold State.zeroRange
  split
  · exact hs
  · lift_lets
    intro x0
    have h1 : State.Fr W s₀ x0 := (State.zeroPhys_fr _ _ _ hs)
    clear_value x0
    split
    · exact State.zeroPhys_fr _ _ _ h1
    · exact h1

theorem State.remoteErr_fr {W : Nat} {s₀ : State} (s : State) (hs : State.Fr W s₀ s)
    (hw : partSub 0x8008 W = true := by first | exact partSub_refl _ | exact partSub_trans (by with_reducible assumption) (by exact rfl)) : State.Fr W s₀ (State.remoteErr s) := by
  unfold State.remoteErr
  exact State.setFlag_fr _ _ _ (State.incS_fr _ _ _ hs)

theorem State.ftLookup_fr {W : Nat} {s₀ : State} (s : State) (v6 : Bool) (dst : List Nat) (src : List Nat) (dport : Nat) (sport : Nat) (vid : Option Nat) (port : Nat) (hs : State.Fr W s₀ s)
    (hw : partSub 0x8008 W = true := by first | exact partSub_refl _ | exact partSub_trans (by with_reducible assumption) (by exact rfl)) : State.Fr W s₀ (State.ftLookup s v6 dst src dport sport vid port).1 := by
  unfold State.ftLookup
  split
  · exact hs
  · lift_lets
    intro x0
    clear_value x0
    split
    · exact hs
    · exact State.incS_fr _ _ _ hs

theorem State.ftPut_fr {W : Nat} {s₀ : State} (s : State) (b : Nat) (i : Nat) (w : List Nat) (hs : State.Fr W s₀ s)
    (hw : partSub 0x100 W = true := by first | exact partSub_refl _ | exact partSub_trans (by with_reducible assumption) (by exact rfl)) : State.Fr W s₀ (State.ftPut s b i w) := by
  unfold State.ftPut
  exact State.setBytes_fr _ _ _ hs

theorem State.ftDel_fr {W : Nat} {s₀ : State} (s : State) (b : Nat) (i : Nat) (hs : State.Fr W s₀ s)
    (hw : partSub 0x100 W = true := by first | exact partSub_refl _ | exact partSub_trans (by with_reducible assumption) (by exact rfl)) : State.Fr W s₀ (State.ftDel s b i) := by
  unfold State.ftDel
  exact State.setBytes_fr _ _ _ hs

theorem State.ftRelocate_fr {W : Nat} {s₀ : State} (s : State) (l : List (Nat × Nat)) (p : Nat × Nat) (hs : State.Fr W s₀ s)
    (hw : partSub 0x100 W = true := by first | exact partSub_refl _ | exact partSub_trans (by with_reducible assumption) (by exact rfl)) : State.Fr W s₀ (State.ftRelocate s l p).1 := by
  induction l generalizing s p with
  | nil => exact hs
  | cons e l ih =>
    have h := State.ftDel_fr _ e.1 e.2 (State.ftPut_fr s p.1 p.2 (s.ftWords e.1 e.2) hs)
    have h2 := ih ((s.ftPut p.1 p.2 (s.ftWords e.1 e.2)).ftDel e.1 e.2) e h
    unfold State.ftRelocate
    exact h2

theorem State.ftInsert_fr {W : Nat} {s₀ : State} (s : State) (w : List Nat) (hs : State.Fr W s₀ s)
    (hw : partSub 0x108 W = true := by first | exact partSub_refl _ | exact partSub_trans (by with_reducible assumption) (by exact rfl)) : State.Fr W s₀ (State.ftInsert s w).1 := by
  unfold State.ftInsert
  lift_lets
  intro x0 x1 x2 x3 x4 x5 x6
  refine fr_iteP hs ?_
  · split
    · exact State.setFld_fr _ _ _ (State.ftPut_fr _ _ _ _ hs)
    · split
      · lift_lets
        intro x7
        have h8 : State.Fr W s₀ x7.1 := (State.ftRelocate_fr _ _ _ hs)
        clear_value x7
        exact State.setFld_fr _ _ _ (State.ftPut_fr _ _ _ _ h8)
      · exact State.setFlag_fr _ _ _ hs

theorem State.ftDelete_fr {W : Nat} {s₀ : State} (s : State) (w : List Nat) (hs : State.Fr W s₀ s)
    (hw : partSub 0x108 W = true := by first | exact partSub_refl _ | exact partSub_trans (by with_reducible assumption) (by exact rfl)) : State.Fr W s₀ (State.ftDelete s w).1 := by
  unfold State.ftDelete
  split
  · exact State.setFld_fr _ _ _ (State.ftDel_fr _ _ _ hs)
  · exact hs

theorem State.startTrans_fr {W : Nat} {s₀ : State} (s : State) (target : Nat) (auto : Bool) (o : Option Origin) (hs : State.Fr W s₀ s)
    (hw : partSub 0x40000 W = true := by first | exact partSub_refl _ | exact partSub_trans (by with_reducible assumption) (by exact rfl)) : State.Fr W s₀ (State.startTrans s target auto o) := by
  unfold State.startTrans
  lift_lets
  intro x0
  exact fr_mk rfl rfl rfl rfl hs

theorem State.trigger_fr {W : Nat} {s₀ : State} (s : State) (target : Nat) (hs : State.Fr W s₀ s)
    (hw : partSub 0x84c008 W = true := by first | exact partSub_refl _ | exact partSub_trans (by with_reducible assumption) (by exact rfl)) : State.Fr W s₀ (State.trigger s target) := by
  unfold State.trigger
  split
  · exact fr_ite (State.startTrans_fr _ _ _ _ hs) hs
  · lift_lets
    intro x0
    exact fr_ite (fr_ite hs (fr_mk rfl rfl rfl rfl hs)) (fr_ite (State.completeOpt_fr _ _ _ _ _ (State.startTrans_fr _ _ _ _ hs)) hs)

theorem State.fatalDevice_fr {W : Nat} {s₀ : State} (s : State) (src : Nat) (code : Nat) (a0 : Nat) (a1 : Nat) (hs : State.Fr W s₀ s)
    (hw : partSub 0x84c008 W = true := by first | exact partSub_refl _ | exact partSub_trans (by with_reducible assumption) (by exact rfl)) : State.Fr W s₀ (State.fatalDevice s src code a0 a1) := by
  unfold State.fatalDevice
  lift_lets
  intro x0
  have h1 : State.Fr W s₀ x0 := (State.raise_fr _ _ _ _ _ _ _ _ hs)
  clear_value x0
  exact fr_ite (State.trigger_fr _ _ (State.setFlag_fr _ _ _ h1)) h1

theorem State.writeContext_fr {W : Nat} {s₀ : State} (s : State) (n : Nat) (c : Chan) (buf : List Nat) (ps : List Nat) (hs : State.Fr W s₀ s)
    (hw : partSub 0x100 W = true := by first | exact partSub_refl _ | exact partSub_trans (by with_reducible assumption) (by exact rfl)) : State.Fr W s₀ (State.writeContext s n c buf ps) := by
  unfold State.writeContext
  lift_lets
  intro x0 x1 x2
  have h3 : State.Fr W s₀ x2 := (State.zeroRange_fr _ _ _ hs)
  clear_value x2
  intro x4 x5 x6 x7
  have h8 : State.Fr W s₀ x7 := (State.setBytes_fr _ _ _ h3)
  clear_value x7
  intro x9
  have h10 : State.Fr W s₀ x9 := (State.setBytes_fr _ _ _ h8)
  clear_value x9
  refine fr_foldl ?_ h10
  · intro y11 y12 g13
    lift_lets
    intro x14
    have h15 : State.Fr W s₀ x14 := (State.setBytes_fr _ _ _ g13)
    clear_value x14
    exact State.setBytes_fr _ _ _ h15

theorem State.openChannel_fr {W : Nat} {s₀ : State} (s : State) (r : OpenReq) (home : Nat) (ctx : Nat) (hs : State.Fr W s₀ s)
    (hw : partSub 0x881c8 W = true := by first | exact partSub_refl _ | exact partSub_trans (by with_reducible assumption) (by exact rfl)) : State.Fr W s₀ (State.openChannel s r home ctx) := by
  unfold State.openChannel
  lift_lets
  intro x0 x1 x2 x3 x4
  have h5 : State.Fr W s₀ x4 := (fr_mk rfl rfl rfl rfl hs)
  clear_value x4
  exact State.budgetCheck_fr _ (State.writeContext_fr _ _ _ _ _ (State.setChan_fr _ _ _ h5))

theorem State.orphanCells_fr {W : Nat} {s₀ : State} (s : State) (n : Nat) (hs : State.Fr W s₀ s)
    (hw : partSub 0x108008 W = true := by first | exact partSub_refl _ | exact partSub_trans (by with_reducible assumption) (by exact rfl)) : State.Fr W s₀ (State.orphanCells s n) := by
  unfold State.orphanCells
  lift_lets
  intro x0 x1 x2 x3 x4 x5 x6
  have h7 : State.Fr W s₀ x6 := (fr_mk rfl rfl rfl rfl hs)
  clear_value x6
  intro x8
  have h9 : State.Fr W s₀ x8 := by
    dsimp -zeta only [x8]
    refine fr_foldl ?_ h7
    · intro y10 y11 g12
      exact State.setFld_fr _ _ _ g12
  clear_value x8
  exact fr_ite h9 (State.setFlag_fr _ _ _ (State.incS_fr _ _ _ h9))

theorem State.cancelEntries_fr {W : Nat} {s₀ : State} (s : State) (n : Nat) (hs : State.Fr W s₀ s)
    (hw : partSub 0x80c1d8 W = true := by first | exact partSub_refl _ | exact partSub_trans (by with_reducible assumption) (by exact rfl)) : State.Fr W s₀ (State.cancelEntries s n) := by
  unfold State.cancelEntries
  lift_lets
  intro x0 x1 x2
  have h3 : State.Fr W s₀ x2 := (State.dropQueued_fr _ _ hs)
  clear_value x2
  intro x4
  have h5 : State.Fr W s₀ x4 := by
    dsimp -zeta only [x4]
    refine fr_foldl ?_ h3
    · intro y6 y7 g8
      exact State.endCancelled_fr _ _ _ g8
  clear_value x4
  refine fr_foldl ?_ h5
  · intro y9 y10 g11
    lift_lets
    intro x12 x13 x14
    exact fr_ite (State.setCore_fr _ _ _ g11) g11

theorem State.beginClose_fr {W : Nat} {s₀ : State} (s : State) (n : Nat) (o : Option Origin) (hs : State.Fr W s₀ s)
    (hw : partSub 0x90c1d8 W = true := by first | exact partSub_refl _ | exact partSub_trans (by with_reducible assumption) (by exact rfl)) : State.Fr W s₀ (State.beginClose s n o) := by
  unfold State.beginClose
  split
  · exact hs
  · lift_lets
    intro x0
    have h1 : State.Fr W s₀ x0 := (State.putChan_fr _ _ _ hs)
    clear_value x0
    exact State.orphanCells_fr _ _ (State.cancelEntries_fr _ _ h1)

theorem State.removeChan_fr {W : Nat} {s₀ : State} (s : State) (n : Nat) (hs : State.Fr W s₀ s)
    (hw : partSub 0x880c8 W = true := by first | exact partSub_refl _ | exact partSub_trans (by with_reducible assumption) (by exact rfl)) : State.Fr W s₀ (State.removeChan s n) := by
  unfold State.removeChan
  lift_lets
  intro x0
  have h1 : State.Fr W s₀ x0 := (fr_mk rfl rfl rfl rfl hs)
  clear_value x0
  intro x2 x3
  have h4 : State.Fr W s₀ x3 := (fr_mk rfl rfl rfl rfl h1)
  clear_value x3
  exact State.budgetCheck_fr _ h4

theorem State.repost_fr {W : Nat} {s₀ : State} (s : State) (hs : State.Fr W s₀ s)
    (hw : partSub 0x80c048 W = true := by first | exact partSub_refl _ | exact partSub_trans (by with_reducible assumption) (by exact rfl)) : State.Fr W s₀ (State.repost s) := by
  unfold State.repost
  lift_lets
  intro x0
  clear_value x0
  refine fr_foldl ?_ hs
  · intro y1 y2 g3
    lift_lets
    intro x4
    clear_value x4
    split
    · exact State.pushEntry_fr _ _ g3
    · exact State.endJob_fr _ _ _ _ _ g3

theorem State.rebuildEntries_fr {W : Nat} {s₀ : State} (s : State) (c : Nat) (hs : State.Fr W s₀ s)
    (hw : partSub 0x81c8 W = true := by first | exact partSub_refl _ | exact partSub_trans (by with_reducible assumption) (by exact rfl)) : State.Fr W s₀ (State.rebuildEntries s c) := by
  unfold State.rebuildEntries
  refine fr_foldl ?_ hs
  · intro y0 y1 g2
    exact State.makeReady_fr _ _ _ g2

theorem State.dropCluster_fr {W : Nat} {s₀ : State} (s : State) (c : Nat) (hs : State.Fr W s₀ s)
    (hw : partSub 0x50 W = true := by first | exact partSub_refl _ | exact partSub_trans (by with_reducible assumption) (by exact rfl)) : State.Fr W s₀ (State.dropCluster s c).1 := by
  unfold State.dropCluster
  lift_lets
  intro x0 x1 x2
  have h3 : State.Fr W s₀ x2 := (State.dropQueued_fr _ _ hs)
  clear_value x2
  intro x4
  refine fr_foldl ?_ h3
  · intro y5 y6 g7
    lift_lets
    intro x8 x9
    exact State.setCore_fr _ _ _ g7

theorem State.rehome_fr {W : Nat} {s₀ : State} (s : State) (n : Nat) (hs : State.Fr W s₀ s)
    (hw : partSub 0x81c8 W = true := by first | exact partSub_refl _ | exact partSub_trans (by with_reducible assumption) (by exact rfl)) : State.Fr W s₀ (State.rehome s n) := by
  unfold State.rehome
  split
  · lift_lets
    intro x0
    have h1 : State.Fr W s₀ x0 := (State.raise_fr _ _ _ _ _ _ _ _ (State.putChan_fr _ _ _ hs))
    clear_value x0
    exact State.makeReady_fr _ _ _ h1
  · exact hs

theorem State.abortCluster_fr {W : Nat} {s₀ : State} (s : State) (c : Nat) (hs : State.Fr W s₀ s)
    (hw : partSub 0x80c1d8 W = true := by first | exact partSub_refl _ | exact partSub_trans (by with_reducible assumption) (by exact rfl)) : State.Fr W s₀ (State.abortCluster s c) := by
  unfold State.abortCluster
  refine fr_foldl ?_ hs
  · intro y0 y1 g2
    split
    · exact State.withdraw_fr _ _ g2
    · lift_lets
      intro x3
      have h4 : State.Fr W s₀ x3 := (State.abortRun_fr _ _ (State.withdraw_fr _ _ g2))
      clear_value x3
      exact State.blockCore_fr _ _ (fr_ite (State.endCancelled_fr _ _ _ h4) h4)

theorem State.clusterOut_fr {W : Nat} {s₀ : State} (s : State) (c : Nat) (hs : State.Fr W s₀ s)
    (hw : partSub 0x8cc1d8 W = true := by first | exact partSub_refl _ | exact partSub_trans (by with_reducible assumption) (by exact rfl)) : State.Fr W s₀ (State.clusterOut s c) := by
  unfold State.clusterOut
  lift_lets
  intro x0
  have h1 : State.Fr W s₀ x0 := (State.setFld_fr _ _ _ hs)
  clear_value x0
  intro x2
  have h3 : State.Fr W s₀ x2 := (State.setFld_fr _ _ _ h1)
  clear_value x2
  intro x4
  have h5 : State.Fr W s₀ x4 := (State.raise_fr _ _ _ _ _ _ _ _ (State.setFlag_fr _ _ _ h3))
  clear_value x4
  intro x6
  have h7 : State.Fr W s₀ x6 := (State.abortCluster_fr _ _ (State.dropCluster_fr _ _ h5))
  clear_value x6
  intro x8 x9 x10
  have h11 : State.Fr W s₀ x10 := (fr_mk rfl rfl rfl rfl h7)
  clear_value x10
  intro x12
  have h13 : State.Fr W s₀ x12 := by
    dsimp -zeta only [x12]
    refine fr_ite (fr_foldl ?_ h11) (State.fatalDevice_fr _ _ _ _ _ h11)
    · intro y14 y15 g16
      exact State.rehome_fr _ _ g16
  clear_value x12
  exact fr_ite hs (State.budgetCheck_fr _ (State.repost_fr _ h13))

end Sys2Proof.Machine
end

