-- ==== Sys2Proof/Laws/FrameFaults.lean ====
section
/-! SUPPORT. The frame lemmas of faults, the scheduler, the clocks and their events (see Laws/Frame.lean). -/
set_option Elab.async false

namespace Sys2Proof.Machine

theorem State.showRow_fr {W : Nat} {s₀ : State} (s : State) (u : Nat) (row : Nat) (valid : Bool) (hs : State.Fr W s₀ s)
    (hw : partSub 0x8 W = true := by first | exact partSub_refl _ | exact partSub_trans (by with_reducible assumption) (by exact rfl)) : State.Fr W s₀ (State.showRow s u row valid) := by
  unfold State.showRow
  lift_lets
  intro x0
  have h1 : State.Fr W s₀ x0 := (State.setFld_fr _ _ _ (State.setFld_fr _ _ _ hs))
  clear_value x0
  intro x2
  exact fr_ite (State.setFlag_fr _ _ _ h1) (fr_ite (State.setFlag_fr _ _ _ (State.setFld_fr _ _ _ (State.setFld_fr _ _ _ hs))) (State.setFlag_fr _ _ _ (State.setFld_fr _ _ _ (State.setFld_fr _ _ _ hs))))

theorem State.logRow_fr {W : Nat} {s₀ : State} (s : State) (u : Nat) (row : Nat) (hs : State.Fr W s₀ s)
    (hw : partSub 0x68 W = true := by first | exact partSub_refl _ | exact partSub_trans (by with_reducible assumption) (by exact rfl)) : State.Fr W s₀ (State.logRow s u row) := by
  unfold State.logRow
  lift_lets
  intro x0 x1
  have h2 : State.Fr W s₀ x1 := (fr_mk rfl rfl rfl rfl hs)
  clear_value x1
  intro x3
  have h4 : State.Fr W s₀ x3 := (State.setFlag_fr _ _ _ (State.showRow_fr _ _ _ _ h2))
  clear_value x3
  intro x5
  exact fr_ite (fr_mk rfl rfl rfl rfl h4) h4

theorem State.logFault_fr {W : Nat} {s₀ : State} (s : State) (k : Nat) (code : Nat) (row : Nat) (hs : State.Fr W s₀ s)
    (hw : partSub 0x68 W = true := by first | exact partSub_refl _ | exact partSub_trans (by with_reducible assumption) (by exact rfl)) : State.Fr W s₀ (State.logFault s k code row) := by
  unfold State.logFault
  split
  · exact State.logRow_fr _ _ _ hs
  · exact hs

theorem State.cpsRestore_fr {W : Nat} {s₀ : State} (s : State) (c : Nat) (addr : Nat) (hs : State.Fr W s₀ s)
    (hw : partSub 0x8cc1f8 W = true := by first | exact partSub_refl _ | exact partSub_trans (by with_reducible assumption) (by exact rfl)) : State.Fr W s₀ (State.cpsRestore s c addr) := by
  unfold State.cpsRestore
  split
  · split
    · refine State.event_fr _ _ _ _ _ _ _ (fr_mem hs (fun h => (memWf_iff.1 h).1) (fun h => (memWf_iff.1 h).2.1) (fun h => (memWf_iff.1 h).2.2.1) fun h => ?_)
      exact mwf_mset _ _ (memWf_iff.1 h).2.2.2
    · exact State.clusterOut_fr _ _ hs
  · exact fr_ite hs (State.event_fr _ _ _ _ _ _ _ (State.setFlag_fr _ _ _ hs))

theorem execCoreFault_fr {W : Nat} {s₀ : State} (k : Fin 144) (code : Fin 16) (lane : Fin 4) (addr : BitVec 24) (row : BitVec 18) (s : State) (hs : State.Fr W s₀ s)
    (hw : partSub 0x8cc1f8 W = true := by first | exact partSub_refl _ | exact partSub_trans (by with_reducible assumption) (by exact rfl)) : OutFr W s₀ (execCoreFault k code lane addr row s) := by
  unfold execCoreFault
  lift_lets
  intro x0 x1
  have h2 : State.Fr W s₀ x1 := (fr_ite hs (State.logFault_fr _ _ _ _ hs))
  clear_value x1
  intro x3 x4
  have h5 : State.Fr W s₀ x4 := (fr_ite (State.setCore_fr _ _ _ h2) h2)
  clear_value x4
  intro x6 x7
  have h8 : State.Fr W s₀ x7 := (fr_ite (State.setCore_fr _ _ _ h5) h5)
  clear_value x7
  intro x9
  have h10 : State.Fr W s₀ x9 := (State.noteFault_fr _ _ _ _ h8)
  clear_value x9
  intro x11
  split
  · exact fr_next hs
  · lift_lets
    intro x12 x13
    have h14 : State.Fr W s₀ x13 := (fr_ite (fr_ite (State.setCore_fr _ _ _ h10) (State.preemptScan_fr _ _ (State.blockCore_fr _ _ (State.faultAbort_fr _ _ _ h10)))) (State.nodeDetect_fr _ _ _ _ h8))
    clear_value x13
    exact outFr_ite (fr_next (fr_ite (State.cpsRestore_fr _ _ _ h14) h14)) (fr_next hs)

theorem execIdleFault_fr {W : Nat} {s₀ : State} (k : Fin 144) (code : Fin 16) (lane : Fin 4) (addr : BitVec 24) (row : BitVec 18) (s : State) (hs : State.Fr W s₀ s)
    (hw : partSub 0x8cc1f8 W = true := by first | exact partSub_refl _ | exact partSub_trans (by with_reducible assumption) (by exact rfl)) : OutFr W s₀ (execIdleFault k code lane addr row s) := by
  unfold execIdleFault
  lift_lets
  intro x0 x1
  have h2 : State.Fr W s₀ x1 := (fr_ite hs (State.logFault_fr _ _ _ _ hs))
  clear_value x1
  intro x3
  have h4 : State.Fr W s₀ x3 := (State.incS_fr _ _ _ (State.setFld_fr _ _ _ h2))
  clear_value x3
  intro x5
  have h6 : State.Fr W s₀ x5 := (fr_ite (State.setFld_fr _ _ _ h4) h4)
  clear_value x5
  intro x7
  have h8 : State.Fr W s₀ x7 := (State.faultHistory_fr _ _ (State.raise_fr _ _ _ _ _ _ _ _ h6))
  clear_value x7
  intro x9
  have h10 : State.Fr W s₀ x9 := (State.resetCore_fr _ _ h8)
  clear_value x9
  exact outFr_ite (outFr_ite (fr_next (State.noteFault_fr _ _ _ _ hs)) (fr_next (fr_ite (State.cpsRestore_fr _ _ _ h10) h10))) (fr_next hs)

theorem State.coreReset_fr {W : Nat} {s₀ : State} (s : State) (k : Nat) (hs : State.Fr W s₀ s)
    (hw : partSub 0x80c1d8 W = true := by first | exact partSub_refl _ | exact partSub_trans (by with_reducible assumption) (by exact rfl)) : State.Fr W s₀ (State.coreReset s k) := by
  unfold State.coreReset
  exact State.preemptScan_fr _ _ (State.resetCore_fr _ _ (State.faultAbort_fr _ _ _ hs))

theorem execCoreHang_fr {W : Nat} {s₀ : State} (k : Fin 144) (s : State) (hs : State.Fr W s₀ s)
    (hw : partSub 0x80c1d8 W = true := by first | exact partSub_refl _ | exact partSub_trans (by with_reducible assumption) (by exact rfl)) : OutFr W s₀ (execCoreHang k s) := by
  unfold execCoreHang
  split
  · exact fr_next hs
  · exact outFr_ite (fr_next (State.coreReset_fr _ _ (State.raise_fr _ _ _ _ _ _ _ _ hs))) (fr_next hs)

theorem State.faultInject_fr {W : Nat} {s₀ : State} (s : State) (k : Nat) (kind : Nat) (hs : State.Fr W s₀ s)
    (hw : partSub 0x8018 W = true := by first | exact partSub_refl _ | exact partSub_trans (by with_reducible assumption) (by exact rfl)) : State.Fr W s₀ (State.faultInject s k kind) := by
  unfold State.faultInject
  lift_lets
  intro x0
  exact fr_ite hs (fr_ite (State.reservedEncoding_fr _ _ _ hs) (fr_ite (State.setCore_fr _ _ _ hs) hs))

theorem execFaultInject_fr {W : Nat} {s₀ : State} (k : Fin 144) (kind : Fin 4) (s : State) (hs : State.Fr W s₀ s)
    (hw : partSub 0x8018 W = true := by first | exact partSub_refl _ | exact partSub_trans (by with_reducible assumption) (by exact rfl)) : OutFr W s₀ (execFaultInject k kind s) := by
  unfold execFaultInject
  exact fr_next (fr_ite (State.faultInject_fr _ _ _ hs) hs)

theorem execClrCnt_fr {W : Nat} {s₀ : State} (k : Fin 144) (s : State) (hs : State.Fr W s₀ s)
    (hw : partSub 0x8 W = true := by first | exact partSub_refl _ | exact partSub_trans (by with_reducible assumption) (by exact rfl)) : OutFr W s₀ (execClrCnt k s) := by
  unfold execClrCnt
  exact fr_next (fr_ite (State.setFld_fr _ _ _ hs) hs)

theorem State.coreResetCmd_fr {W : Nat} {s₀ : State} (s : State) (k : Nat) (hs : State.Fr W s₀ s)
    (hw : partSub 0x80c1d8 W = true := by first | exact partSub_refl _ | exact partSub_trans (by with_reducible assumption) (by exact rfl)) : State.Fr W s₀ (State.coreResetCmd s k) := by
  unfold State.coreResetCmd
  lift_lets
  intro x0
  exact fr_ite hs (State.setFld_fr _ _ _ (State.coreReset_fr _ _ hs))

theorem execCoreReset_fr {W : Nat} {s₀ : State} (k : Fin 144) (s : State) (hs : State.Fr W s₀ s)
    (hw : partSub 0x80c1d8 W = true := by first | exact partSub_refl _ | exact partSub_trans (by with_reducible assumption) (by exact rfl)) : OutFr W s₀ (execCoreReset k s) := by
  unfold execCoreReset
  exact fr_next (State.coreResetCmd_fr _ _ hs)

theorem State.clearHistory_fr {W : Nat} {s₀ : State} (s : State) (k : Nat) (hs : State.Fr W s₀ s)
    (hw : partSub 0x10 W = true := by first | exact partSub_refl _ | exact partSub_trans (by with_reducible assumption) (by exact rfl)) : State.Fr W s₀ (State.clearHistory s k) := by
  unfold State.clearHistory
  lift_lets
  intro x0
  exact fr_ite (State.setCore_fr _ _ _ hs) hs

theorem execClearFaultHistory_fr {W : Nat} {s₀ : State} (k : Fin 144) (s : State) (hs : State.Fr W s₀ s)
    (hw : partSub 0x10 W = true := by first | exact partSub_refl _ | exact partSub_trans (by with_reducible assumption) (by exact rfl)) : OutFr W s₀ (execClearFaultHistory k s) := by
  unfold execClearFaultHistory
  exact fr_next (State.clearHistory_fr _ _ hs)

theorem State.wakeRetire_fr {W : Nat} {s₀ : State} (s : State) (c : Nat) (hs : State.Fr W s₀ s)
    (hw : partSub 0x8048 W = true := by first | exact partSub_refl _ | exact partSub_trans (by with_reducible assumption) (by exact rfl)) : State.Fr W s₀ (State.wakeRetire s c) := by
  unfold State.wakeRetire
  refine fr_foldl ?_ hs
  · intro y0 y1 g2
    lift_lets
    intro x3 x4 x5
    have h6 : State.Fr W s₀ x5 := (fr_mk rfl rfl rfl rfl g2)
    clear_value x5
    exact State.startRetire_fr _ _ _ h6

theorem State.noteRetired_fr {W : Nat} {s₀ : State} (s : State) (c : Nat) (spare : Option Nat) (hs : State.Fr W s₀ s)
    (hw : partSub 0x8 W = true := by first | exact partSub_refl _ | exact partSub_trans (by with_reducible assumption) (by exact rfl)) : State.Fr W s₀ (State.noteRetired s c spare) := by
  unfold State.noteRetired
  lift_lets
  intro x0
  have h1 : State.Fr W s₀ x0 := (fr_ite (State.setFld_fr _ _ _ hs) hs)
  clear_value x0
  intro x2
  have h3 : State.Fr W s₀ x2 := (State.setFld_fr _ _ _ h1)
  clear_value x2
  exact State.setFld_fr _ _ _ h3

theorem State.dropRetire_fr {W : Nat} {s₀ : State} (s : State) (k : Nat) (hs : State.Fr W s₀ s)
    (hw : partSub 0x8008 W = true := by first | exact partSub_refl _ | exact partSub_trans (by with_reducible assumption) (by exact rfl)) : State.Fr W s₀ (State.dropRetire s k) := by
  unfold State.dropRetire
  lift_lets
  intro x0 x1 x2
  have h3 : State.Fr W s₀ x2 := (fr_mk rfl rfl rfl rfl hs)
  clear_value x2
  exact State.setFlag_fr _ _ _ h3

theorem State.tellRetired_fr {W : Nat} {s₀ : State} (s : State) (r : Retire) (hs : State.Fr W s₀ s)
    (hw : partSub 0x88c048 W = true := by first | exact partSub_refl _ | exact partSub_trans (by with_reducible assumption) (by exact rfl)) : State.Fr W s₀ (State.tellRetired s r) := by
  unfold State.tellRetired
  lift_lets
  intro x0 x1
  have h2 : State.Fr W s₀ x1 := (State.raise_fr _ _ _ _ _ _ _ _ (State.setFlag_fr _ _ _ hs))
  clear_value x1
  intro x3
  have h4 : State.Fr W s₀ x3 := (State.budgetCheck_fr _ h2)
  clear_value x3
  split
  · exact State.wakeRetire_fr _ _ (State.endJob_fr _ _ _ _ _ h4)
  · exact h4

theorem State.endRetire_fr {W : Nat} {s₀ : State} (s : State) (r : Retire) (hs : State.Fr W s₀ s)
    (hw : partSub 0x8cc1d8 W = true := by first | exact partSub_refl _ | exact partSub_trans (by with_reducible assumption) (by exact rfl)) : State.Fr W s₀ (State.endRetire s r) := by
  unfold State.endRetire
  lift_lets
  intro x0 x1
  have h2 : State.Fr W s₀ x1 := (State.tellRetired_fr _ _ (State.dropRetire_fr _ _ (State.noteRetired_fr _ _ _ hs)))
  clear_value x1
  exact fr_ite (State.clusterOut_fr _ _ h2) h2

theorem execRetireNodeTimeout_fr {W : Nat} {s₀ : State} (k : Fin 144) (s : State) (hs : State.Fr W s₀ s)
    (hw : partSub 0x80c1d8 W = true := by first | exact partSub_refl _ | exact partSub_trans (by with_reducible assumption) (by exact rfl)) : OutFr W s₀ (execRetireNodeTimeout k s) := by
  unfold execRetireNodeTimeout
  split
  · exact fr_next hs
  · exact fr_next (fr_ite (State.coreReset_fr _ _ hs) hs)

theorem execRetirementSwap_fr {W : Nat} {s₀ : State} (k : Fin 144) (s : State) (hs : State.Fr W s₀ s)
    (hw : partSub 0x8cc1d8 W = true := by first | exact partSub_refl _ | exact partSub_trans (by with_reducible assumption) (by exact rfl)) : OutFr W s₀ (execRetirementSwap k s) := by
  unfold execRetirementSwap
  split
  · exact fr_next hs
  · lift_lets
    intro x0
    clear_value x0
    intro x1
    clear_value x1
    intro x2
    have h3 : State.Fr W s₀ x2 := (State.resetCore_fr _ _ hs)
    clear_value x2
    intro x4
    have h5 : State.Fr W s₀ x4 := (State.setFld_fr _ _ _ (State.setFlag_fr _ _ _ (State.setFld_fr _ _ _ h3)))
    clear_value x4
    intro x6
    clear_value x6
    intro x7
    clear_value x7
    refine outFr_ite (fr_next hs) ?_
    · split
      · lift_lets
        intro x8
        have h9 : State.Fr W s₀ x8 := (State.resetCore_fr _ _ h5)
        clear_value x8
        intro x10
        have h11 : State.Fr W s₀ x10 := (State.setFld_fr _ _ _ (State.setFlag_fr _ _ _ (State.setFld_fr _ _ _ h9)))
        clear_value x10
        intro x12
        clear_value x12
        intro x13
        clear_value x13
        intro x14
        have h15 : State.Fr W s₀ x14 := (fr_mk rfl rfl rfl rfl h11)
        clear_value x14
        intro x16
        clear_value x16
        exact fr_next (fr_mk rfl rfl rfl rfl h15)
      · exact fr_next (State.endRetire_fr _ _ h5)

theorem execSpareReady_fr {W : Nat} {s₀ : State} (k : Fin 144) (s : State) (hs : State.Fr W s₀ s)
    (hw : partSub 0x8cc1d8 W = true := by first | exact partSub_refl _ | exact partSub_trans (by with_reducible assumption) (by exact rfl)) : OutFr W s₀ (execSpareReady k s) := by
  unfold execSpareReady
  split
  · exact fr_next hs
  · split
    · exact fr_next hs
    · exact fr_next (fr_ite (State.endRetire_fr _ _ hs) hs)

theorem execRowRepaired_fr {W : Nat} {s₀ : State} (u : Fin 464) (row : BitVec 18) (s : State) (hs : State.Fr W s₀ s)
    (hw : partSub 0x8078 W = true := by first | exact partSub_refl _ | exact partSub_trans (by with_reducible assumption) (by exact rfl)) : OutFr W s₀ (execRowRepaired u row s) := by
  unfold execRowRepaired
  lift_lets
  intro x0 x1 x2 x3 x4 x5
  have h6 : State.Fr W s₀ x5 := (fr_mk rfl rfl rfl rfl hs)
  clear_value x5
  intro x7
  have h8 : State.Fr W s₀ x7 := by
    dsimp -zeta only [x7]
    split
    · exact State.showRow_fr _ _ _ _ h6
    · exact State.showRow_fr _ _ _ _ h6
  clear_value x7
  intro x9 x10 x11
  have h12 : State.Fr W s₀ x11 := (fr_ite (fr_mk rfl rfl rfl rfl h8) h8)
  clear_value x11
  intro x13 x14 x15 x16 x17
  have h18 : State.Fr W s₀ x17 := (fr_mk rfl rfl rfl rfl h12)
  clear_value x17
  intro x19
  have h20 : State.Fr W s₀ x19 := (fr_ite (State.setFld_fr _ _ _ (State.resetCore_fr _ _ h18)) (fr_ite (State.setFld_fr _ _ _ h18) (State.setFld_fr _ _ _ h18)))
  clear_value x19
  intro x21
  have h22 : State.Fr W s₀ x21 := (State.setFld_fr _ _ _ h20)
  clear_value x21
  intro x23
  have h24 : State.Fr W s₀ x23 := (State.raise_fr _ _ _ _ _ _ _ _ (State.setFlag_fr _ _ _ h12))
  clear_value x23
  exact outFr_ite (outFr_ite (fr_next (State.raise_fr _ _ _ _ _ _ _ _ (State.setFlag_fr _ _ _ h22))) (fr_next (fr_ite (State.reportSuspect_fr _ _ h24) h24))) (fr_next hs)

theorem State.logClr_fr {W : Nat} {s₀ : State} (s : State) (c : Nat) (hs : State.Fr W s₀ s)
    (hw : partSub 0x8 W = true := by first | exact partSub_refl _ | exact partSub_trans (by with_reducible assumption) (by exact rfl)) : State.Fr W s₀ (State.logClr s c) := by
  unfold State.logClr
  lift_lets
  intro x0
  have h1 : State.Fr W s₀ x0 := (State.rstFld_fr _ _ (State.rstFld_fr _ _ (State.rstFld_fr _ _ hs)))
  clear_value x0
  intro x2
  have h3 : State.Fr W s₀ x2 := (State.rstFld_fr _ _ (State.rstFld_fr _ _ (State.rstFld_fr _ _ h1)))
  clear_value x2
  refine fr_foldl ?_ h3
  · intro y4 y5 g6
    exact State.rstFld_fr _ _ (State.rstFld_fr _ _ (State.rstFld_fr _ _ g6))

theorem State.freeSlots_fr {W : Nat} {s₀ : State} (s : State) (c : Nat) (hs : State.Fr W s₀ s)
    (hw : partSub 0x40 W = true := by first | exact partSub_refl _ | exact partSub_trans (by with_reducible assumption) (by exact rfl)) : State.Fr W s₀ (State.freeSlots s c) := by
  unfold State.freeSlots
  lift_lets
  intro x0 x1
  exact fr_mk rfl rfl rfl rfl hs

theorem State.clusterReset_fr {W : Nat} {s₀ : State} (s : State) (c : Nat) (hs : State.Fr W s₀ s)
    (hw : partSub 0x80c1d8 W = true := by first | exact partSub_refl _ | exact partSub_trans (by with_reducible assumption) (by exact rfl)) : State.Fr W s₀ (State.clusterReset s c) := by
  unfold State.clusterReset
  lift_lets
  intro x0 x1
  have h2 : State.Fr W s₀ x1 := by
    dsimp -zeta only [x1]
    refine fr_foldl ?_ hs
    · intro y3 y4 g5
      exact State.resetCore_fr _ _ (State.resetAbort_fr _ _ g5)
  clear_value x1
  intro x6
  have h7 : State.Fr W s₀ x6 := (State.setFld_fr _ _ _ (State.logClr_fr _ _ (State.freeSlots_fr _ _ h2)))
  clear_value x6
  intro x8
  have h9 : State.Fr W s₀ x8 := by
    dsimp -zeta only [x8]
    refine fr_foldl ?_ h7
    · intro y10 y11 g12
      exact State.setFld_fr _ _ _ (State.setFld_fr _ _ _ g12)
  clear_value x8
  intro x13
  have h14 : State.Fr W s₀ x13 := by
    dsimp -zeta only [x13]
    refine fr_foldl ?_ h9
    · intro y15 y16 g17
      exact fr_ite (State.setFld_fr _ _ _ g17) g17
  clear_value x13
  exact fr_ite (State.configRefused_fr _ _ _ hs) (State.incW_fr _ _ _ (State.setFld_fr _ _ _ h14))

theorem execClusterReset_fr {W : Nat} {s₀ : State} (c : Fin 16) (s : State) (hs : State.Fr W s₀ s)
    (hw : partSub 0x80c1d8 W = true := by first | exact partSub_refl _ | exact partSub_trans (by with_reducible assumption) (by exact rfl)) : OutFr W s₀ (execClusterReset c s) := by
  unfold execClusterReset
  exact fr_next (fr_ite (State.clusterReset_fr _ _ hs) hs)

theorem State.setSelftest_fr {W : Nat} {s₀ : State} (s : State) (c : Nat) (cores : Nat) (cps : Bool) (vectors : Bool) (hs : State.Fr W s₀ s)
    (hw : partSub 0x8 W = true := by first | exact partSub_refl _ | exact partSub_trans (by with_reducible assumption) (by exact rfl)) : State.Fr W s₀ (State.setSelftest s c cores cps vectors) := by
  unfold State.setSelftest
  exact State.setFlag_fr _ _ _ (State.setFlag_fr _ _ _ (State.setFld_fr _ _ _ hs))

theorem execClusterResetEnd_fr {W : Nat} {s₀ : State} (c : Fin 16) (cores : BitVec 9) (cps : Bool) (vectors : Bool) (s : State) (hs : State.Fr W s₀ s)
    (hw : partSub 0x8 W = true := by first | exact partSub_refl _ | exact partSub_trans (by with_reducible assumption) (by exact rfl)) : OutFr W s₀ (execClusterResetEnd c cores cps vectors s) := by
  unfold execClusterResetEnd
  exact outFr_ite (fr_next (State.setFld_fr _ _ _ (State.setSelftest_fr _ _ _ _ _ hs))) (fr_next hs)

theorem execLogClr_fr {W : Nat} {s₀ : State} (c : Fin 16) (s : State) (hs : State.Fr W s₀ s)
    (hw : partSub 0x8 W = true := by first | exact partSub_refl _ | exact partSub_trans (by with_reducible assumption) (by exact rfl)) : OutFr W s₀ (execLogClr c s) := by
  unfold execLogClr
  exact fr_next (fr_ite (State.logClr_fr _ _ hs) hs)

theorem execArbRestart_fr {W : Nat} {s₀ : State} (c : Fin 16) (s : State) (hs : State.Fr W s₀ s)
    (hw : partSub 0x8 W = true := by first | exact partSub_refl _ | exact partSub_trans (by with_reducible assumption) (by exact rfl)) : OutFr W s₀ (execArbRestart c s) := by
  unfold execArbRestart
  exact fr_next (fr_ite (State.setFld_fr _ _ _ hs) hs)

theorem execClPatchDataRead_fr {W : Nat} {s₀ : State} (c : Fin 16) (s : State) (hs : State.Fr W s₀ s)
    (hw : partSub 0x400008 W = true := by first | exact partSub_refl _ | exact partSub_trans (by with_reducible assumption) (by exact rfl)) : OutFr W s₀ (execClPatchDataRead c s) := by
  unfold execClPatchDataRead
  lift_lets
  intro x0 x1
  have h2 : State.Fr W s₀ x1 := (State.setFld_fr _ _ _ hs)
  clear_value x1
  exact outFr_ite (fr_next (fr_mk rfl rfl rfl rfl h2)) (fr_next (fr_mk rfl rfl rfl rfl hs))

theorem State.contextPoison_fr {W : Nat} {s₀ : State} (s : State) (e : Entry) (ofs : Nat) (hs : State.Fr W s₀ s)
    (hw : partSub 0x80c1c8 W = true := by first | exact partSub_refl _ | exact partSub_trans (by with_reducible assumption) (by exact rfl)) : State.Fr W s₀ (State.contextPoison s e ofs) := by
  unfold State.contextPoison
  lift_lets
  intro x0
  have h1 : State.Fr W s₀ x0 := (State.dropQueued_fr _ _ (State.poisonSeen_fr _ hs))
  clear_value x0
  exact State.cancelsDone_fr _ _ (State.endFailed_fr _ _ _ _ _ _ (State.raise_fr _ _ _ _ _ _ _ _ h1))

theorem State.restageMismatch_fr {W : Nat} {s₀ : State} (s : State) (e : Entry) (hs : State.Fr W s₀ s)
    (hw : partSub 0x80c1c8 W = true := by first | exact partSub_refl _ | exact partSub_trans (by with_reducible assumption) (by exact rfl)) : State.Fr W s₀ (State.restageMismatch s e) := by
  unfold State.restageMismatch
  lift_lets
  intro x0
  have h1 : State.Fr W s₀ x0 := (State.dropQueued_fr _ _ hs)
  clear_value x0
  exact State.cancelsDone_fr _ _ (State.endFailed_fr _ _ _ _ _ _ (State.raise_fr _ _ _ _ _ _ _ _ h1))

theorem State.stage_fr {W : Nat} {s₀ : State} (s : State) (e : Entry) (slot : Nat) (hs : State.Fr W s₀ s)
    (hw : partSub 0x80c1f8 W = true := by first | exact partSub_refl _ | exact partSub_trans (by with_reducible assumption) (by exact rfl)) : State.Fr W s₀ (State.stage s e slot) := by
  unfold State.stage
  split
  · exact hs
  · lift_lets
    intro x0
    clear_value x0
    intro x1
    clear_value x1
    intro x2
    clear_value x2
    intro x3
    clear_value x3
    intro x4
    clear_value x4
    intro x5
    clear_value x5
    intro x6
    clear_value x6
    intro x7
    clear_value x7
    intro x8
    have h9 : State.Fr W s₀ x8 := (State.jbMark_fr _ _ _ hs)
    clear_value x8
    intro x10
    have h11 : State.Fr W s₀ x10 := by
      dsimp -zeta only [x10]
      refine fr_foldl ?_ h9
      · intro y12 y13 g14
        exact State.putCsm_fr _ _ _ _ g14
    clear_value x10
    intro x15
    have h16 : State.Fr W s₀ x15 := (State.portBytes_fr _ _ _ h11)
    clear_value x15
    intro x17
    clear_value x17
    intro x18
    clear_value x18
    split
    · exact State.contextPoison_fr _ _ _ hs
    · exact fr_ite (State.restageMismatch_fr _ _ h9) (State.preemptScan_fr _ _ (State.updEntry_fr _ _ h16))

theorem execStagingComplete_fr {W : Nat} {s₀ : State} (c : Fin 16) (n : Nat) (errs : List MemErr) (s : State) (hs : State.Fr W s₀ s)
    (hw : partSub 0x80c1f8 W = true := by first | exact partSub_refl _ | exact partSub_trans (by with_reducible assumption) (by exact rfl)) : OutFr W s₀ (execStagingComplete c n errs s) := by
  unfold execStagingComplete
  refine outFr_ite ?_ (fr_next hs)
  · split
    · exact fr_next hs
    · split
      · exact fr_next (State.stage_fr _ _ _ (State.memErrs_fr _ _ hs))
      · lift_lets
        intro x0
        split
        · exact fr_next hs
        · exact fr_next (State.stage_fr _ _ _ (State.memErrs_fr _ _ hs))

theorem execQueueRebuild_fr {W : Nat} {s₀ : State} (c : Fin 16) (both : Bool) (s : State) (hs : State.Fr W s₀ s)
    (hw : partSub 0x8058 W = true := by first | exact partSub_refl _ | exact partSub_trans (by with_reducible assumption) (by exact rfl)) : OutFr W s₀ (execQueueRebuild c both s) := by
  unfold execQueueRebuild
  lift_lets
  intro x0
  have h1 : State.Fr W s₀ x0.1 := (State.dropCluster_fr _ _ hs)
  clear_value x0
  intro x2
  have h3 : State.Fr W s₀ x2 := (State.incS_fr _ _ _ h1)
  clear_value x2
  intro x4 x5
  have h6 : State.Fr W s₀ x5 := (fr_mk rfl rfl rfl rfl h3)
  clear_value x5
  exact outFr_ite (outFr_ite (fr_next (State.raise_fr _ _ _ _ _ _ _ _ hs)) (outFr_ite (fr_next hs) (fr_next (State.setFld_fr _ _ _ (State.setFlag_fr _ _ _ h6))))) (fr_next hs)

theorem execQueueRebuildEnd_fr {W : Nat} {s₀ : State} (s : State) (hs : State.Fr W s₀ s)
    (hw : partSub 0x80c1d8 W = true := by first | exact partSub_refl _ | exact partSub_trans (by with_reducible assumption) (by exact rfl)) : OutFr W s₀ (execQueueRebuildEnd s) := by
  unfold execQueueRebuildEnd
  split
  · exact fr_next hs
  · lift_lets
    intro x0 x1
    have h2 : State.Fr W s₀ x1 := (fr_mk rfl rfl rfl rfl hs)
    clear_value x1
    intro x3
    have h4 : State.Fr W s₀ x3 := (State.setFlag_fr _ _ _ (State.repost_fr _ (State.rebuildEntries_fr _ _ h2)))
    clear_value x3
    exact fr_next (State.preemptScan_fr _ _ (State.event_fr _ _ _ _ _ _ _ h4))

theorem execFlowStall_fr {W : Nat} {s₀ : State} (f : BitVec 14) (s : State) (hs : State.Fr W s₀ s)
    (hw : partSub 0x8048 W = true := by first | exact partSub_refl _ | exact partSub_trans (by with_reducible assumption) (by exact rfl)) : OutFr W s₀ (execFlowStall f s) := by
  unfold execFlowStall
  lift_lets
  intro x0 x1 x2
  exact outFr_ite (fr_next (State.event_fr _ _ _ _ _ _ _ (State.setFlow_fr _ _ _ hs))) (fr_next hs)

theorem execMediaTokenTimeout_fr {W : Nat} {s₀ : State} (n : BitVec 13) (s : State) (hs : State.Fr W s₀ s)
    (hw : partSub 0x81c8 W = true := by first | exact partSub_refl _ | exact partSub_trans (by with_reducible assumption) (by exact rfl)) : OutFr W s₀ (execMediaTokenTimeout n s) := by
  unfold execMediaTokenTimeout
  split
  · exact fr_next hs
  · split
    · exact fr_next hs
    · exact outFr_ite (fr_next (State.sourceTokens_fr _ _ _ _ (State.setChan_fr _ _ _ hs))) (fr_next hs)

theorem State.poolRestart_fr {W : Nat} {s₀ : State} (s : State) (hs : State.Fr W s₀ s)
    (hw : partSub 0x8 W = true := by first | exact partSub_refl _ | exact partSub_trans (by with_reducible assumption) (by exact rfl)) : State.Fr W s₀ (State.poolRestart s) := by
  unfold State.poolRestart
  exact State.setFld_fr _ _ _ (State.setFld_fr _ _ _ hs)

theorem execPoolHwmRestart_fr {W : Nat} {s₀ : State} (s : State) (hs : State.Fr W s₀ s)
    (hw : partSub 0x8 W = true := by first | exact partSub_refl _ | exact partSub_trans (by with_reducible assumption) (by exact rfl)) : OutFr W s₀ (execPoolHwmRestart s) := by
  unfold execPoolHwmRestart
  exact fr_next (State.poolRestart_fr _ hs)

theorem State.clrHist_fr {W : Nat} {s₀ : State} (s : State) (q_ : Nat) (hs : State.Fr W s₀ s)
    (hw : partSub 0x40 W = true := by first | exact partSub_refl _ | exact partSub_trans (by with_reducible assumption) (by exact rfl)) : State.Fr W s₀ (State.clrHist s q_) := by
  unfold State.clrHist
  lift_lets
  intro x0 x1
  exact fr_mk rfl rfl rfl rfl hs

theorem execClrHist_fr {W : Nat} {s₀ : State} (q_ : BitVec 7) (s : State) (hs : State.Fr W s₀ s)
    (hw : partSub 0x40 W = true := by first | exact partSub_refl _ | exact partSub_trans (by with_reducible assumption) (by exact rfl)) : OutFr W s₀ (execClrHist q_ s) := by
  unfold execClrHist
  exact fr_next (fr_ite (State.clrHist_fr _ _ hs) hs)

theorem execPageMoveLineCopy_fr {W : Nat} {s₀ : State} (page : BitVec 13) (errs : List MemErr) (s : State) (hs : State.Fr W s₀ s)
    (hw : partSub 0x8108 W = true := by first | exact partSub_refl _ | exact partSub_trans (by with_reducible assumption) (by exact rfl)) : OutFr W s₀ (execPageMoveLineCopy page errs s) := by
  unfold execPageMoveLineCopy
  split
  · exact fr_next hs
  · lift_lets
    intro x0
    have h1 : State.Fr W s₀ x0 := (State.memErrs_fr _ _ hs)
    clear_value x0
    intro x2
    have h3 : State.Fr W s₀ x2 := (State.copyPhys_fr _ _ _ _ h1)
    clear_value x2
    intro x4 x5
    exact fr_next (fr_mk rfl rfl rfl rfl h3)

theorem State.winWrite_fr {W : Nat} {s₀ : State} (s : State) (v : Nat) (hs : State.Fr W s₀ s)
    (hw : partSub 0x100 W = true := by first | exact partSub_refl _ | exact partSub_trans (by with_reducible assumption) (by exact rfl)) : State.Fr W s₀ (State.winWrite s v) := by
  unfold State.winWrite
  lift_lets
  intro x0
  exact fr_mk rfl rfl rfl rfl hs

theorem execHpWinDataWrite_fr {W : Nat} {s₀ : State} (v : BitVec 32) (s : State) (hs : State.Fr W s₀ s)
    (hw : partSub 0x100 W = true := by first | exact partSub_refl _ | exact partSub_trans (by with_reducible assumption) (by exact rfl)) : OutFr W s₀ (execHpWinDataWrite v s) := by
  unfold execHpWinDataWrite
  exact fr_next (State.winWrite_fr _ _ hs)

theorem State.cacheWays_fr {W : Nat} {s₀ : State} (s : State) (v : Nat) (hs : State.Fr W s₀ s)
    (hw : partSub 0x8008 W = true := by first | exact partSub_refl _ | exact partSub_trans (by with_reducible assumption) (by exact rfl)) : State.Fr W s₀ (State.cacheWays s v) := by
  unfold State.cacheWays
  exact fr_ite (State.setFld_fr _ _ _ hs) (State.reservedEncoding_fr _ _ _ hs)

theorem execCacheWayDisable_fr {W : Nat} {s₀ : State} (v : BitVec 16) (s : State) (hs : State.Fr W s₀ s)
    (hw : partSub 0x8008 W = true := by first | exact partSub_refl _ | exact partSub_trans (by with_reducible assumption) (by exact rfl)) : OutFr W s₀ (execCacheWayDisable v s) := by
  unfold execCacheWayDisable
  exact fr_next (State.cacheWays_fr _ _ hs)

theorem State.compassPeriod_fr {W : Nat} {s₀ : State} (s : State) (hs : State.Fr W s₀ s)
    (hw : partSub 0x400 W = true := by first | exact partSub_refl _ | exact partSub_trans (by with_reducible assumption) (by exact rfl)) : State.Fr W s₀ (State.compassPeriod s) := by
  unfold State.compassPeriod
  lift_lets
  intro x0 x1 x2
  exact fr_mk rfl rfl rfl rfl hs

theorem State.setResidue_fr {W : Nat} {s₀ : State} (s : State) (v : Nat) (hs : State.Fr W s₀ s)
    (hw : partSub 0x400 W = true := by first | exact partSub_refl _ | exact partSub_trans (by with_reducible assumption) (by exact rfl)) : State.Fr W s₀ (State.setResidue s v) := by
  unfold State.setResidue
  lift_lets
  intro x0
  exact fr_mk rfl rfl rfl rfl hs

theorem State.holdover_fr {W : Nat} {s₀ : State} (s : State) (hs : State.Fr W s₀ s)
    (hw : partSub 0x8408 W = true := by first | exact partSub_refl _ | exact partSub_trans (by with_reducible assumption) (by exact rfl)) : State.Fr W s₀ (State.holdover s) := by
  unfold State.holdover
  lift_lets
  intro x0 x1
  have h2 : State.Fr W s₀ x1 := (State.setFld_fr _ _ _ hs)
  clear_value x1
  intro x3 x4
  have h5 : State.Fr W s₀ x4 := (fr_mk rfl rfl rfl rfl h2)
  clear_value x4
  exact fr_ite (State.event_fr _ _ _ _ _ _ _ (State.setFlag_fr _ _ _ (State.setFld_fr _ _ _ h5))) hs

theorem State.acquire_fr {W : Nat} {s₀ : State} (s : State) (hs : State.Fr W s₀ s)
    (hw : partSub 0x408 W = true := by first | exact partSub_refl _ | exact partSub_trans (by with_reducible assumption) (by exact rfl)) : State.Fr W s₀ (State.acquire s) := by
  unfold State.acquire
  lift_lets
  intro x0 x1 x2
  exact fr_ite (State.setFld_fr _ _ _ (fr_mk rfl rfl rfl rfl hs)) hs

theorem State.compare_fr {W : Nat} {s₀ : State} (s : State) (err : Int) (hs : State.Fr W s₀ s)
    (hw : partSub 0x840c W = true := by first | exact partSub_refl _ | exact partSub_trans (by with_reducible assumption) (by exact rfl)) : State.Fr W s₀ (State.compare s err) := by
  unfold State.compare
  have h0 := State.acquire_fr _ (State.setFld_fr s F.CP_PD_ERROR_NS (unsgn 32 err) hs) (partSub_trans hw rfl)
  generalize (s.setFld F.CP_PD_ERROR_NS (unsgn 32 err)).acquire = s1 at h0 ⊢
  have h1 : State.Fr W s₀ s1.fresh.2 := State.fresh_fr _ h0
  have h2 : ∀ c : Compass, State.Fr W s₀ { s1.fresh.2 with cp := c } := fun c => fr_mk rfl rfl rfl rfl h1
  refine fr_ite (fr_ite (fr_ite (State.event_fr _ _ _ _ _ _ _ (State.setFld_fr _ _ _ (h2 _))) (h2 _)) (h2 _))
    (fr_ite (fr_ite (fr_ite (State.event_fr _ _ _ _ _ _ _ (State.incS_fr _ _ _ (State.setFld_fr _ _ _ (h2 _)))) (h2 _)) (h2 _)) (h2 _))

theorem State.timeStep_fr {W : Nat} {s₀ : State} (s : State) (hs : State.Fr W s₀ s)
    (hw : partSub 0x8488 W = true := by first | exact partSub_refl _ | exact partSub_trans (by with_reducible assumption) (by exact rfl)) : State.Fr W s₀ (State.timeStep s) := by
  unfold State.timeStep
  lift_lets
  intro x0 x1 x2
  have h3 : State.Fr W s₀ x2 := (fr_mk rfl rfl rfl rfl hs)
  clear_value x2
  intro x4 x5 x6 x7
  have h8 : State.Fr W s₀ x7 := (fr_mk rfl rfl rfl rfl h3)
  clear_value x7
  exact fr_ite (State.event_fr _ _ _ _ _ _ _ hs) (State.incW_fr _ _ _ (State.setFlag_fr _ _ _ (State.setFlag_fr _ _ _ h8)))

theorem State.recclkCheck_fr {W : Nat} {s₀ : State} (s : State) (hs : State.Fr W s₀ s)
    (hw : partSub 0x8408 W = true := by first | exact partSub_refl _ | exact partSub_trans (by with_reducible assumption) (by exact rfl)) : State.Fr W s₀ (State.recclkCheck s) := by
  unfold State.recclkCheck
  lift_lets
  intro x0 x1
  exact fr_ite hs (State.raise_fr _ _ _ _ _ _ _ _ (fr_mk rfl rfl rfl rfl hs))

theorem execTimeStep_fr {W : Nat} {s₀ : State} (s : State) (hs : State.Fr W s₀ s)
    (hw : partSub 0x8488 W = true := by first | exact partSub_refl _ | exact partSub_trans (by with_reducible assumption) (by exact rfl)) : OutFr W s₀ (execTimeStep s) := by
  unfold execTimeStep
  exact fr_next (State.timeStep_fr _ hs)

theorem execCpAdjWrite_fr {W : Nat} {s₀ : State} (v : BitVec 32) (s : State) (hs : State.Fr W s₀ s)
    (hw : partSub 0x400 W = true := by first | exact partSub_refl _ | exact partSub_trans (by with_reducible assumption) (by exact rfl)) : OutFr W s₀ (execCpAdjWrite v s) := by
  unfold execCpAdjWrite
  exact fr_next (State.setResidue_fr _ _ hs)

theorem execSlewAbsorbed_fr {W : Nat} {s₀ : State} (s : State) (hs : State.Fr W s₀ s)
    (hw : partSub 0x400 W = true := by first | exact partSub_refl _ | exact partSub_trans (by with_reducible assumption) (by exact rfl)) : OutFr W s₀ (execSlewAbsorbed s) := by
  unfold execSlewAbsorbed
  lift_lets
  intro x0
  exact fr_next (fr_ite (fr_mk rfl rfl rfl rfl hs) hs)

theorem execPpsInEdge_fr {W : Nat} {s₀ : State} (s : State) (hs : State.Fr W s₀ s)
    (hw : partSub 0x840c W = true := by first | exact partSub_refl _ | exact partSub_trans (by with_reducible assumption) (by exact rfl)) : OutFr W s₀ (execPpsInEdge s) := by
  unfold execPpsInEdge
  lift_lets
  intro x0 x1
  have h2 : State.Fr W s₀ x1 := (fr_mk rfl rfl rfl rfl hs)
  clear_value x1
  exact fr_next (fr_ite (State.compare_fr _ _ h2) h2)

theorem execSrcLost_fr {W : Nat} {s₀ : State} (s : State) (hs : State.Fr W s₀ s)
    (hw : partSub 0x8408 W = true := by first | exact partSub_refl _ | exact partSub_trans (by with_reducible assumption) (by exact rfl)) : OutFr W s₀ (execSrcLost s) := by
  unfold execSrcLost
  exact fr_next (fr_ite (State.holdover_fr _ hs) hs)

theorem execPpsOutRise_fr {W : Nat} {s₀ : State} (s : State) (hs : State.Fr W s₀ s)
    (hw : partSub 0x800400 W = true := by first | exact partSub_refl _ | exact partSub_trans (by with_reducible assumption) (by exact rfl)) : OutFr W s₀ (execPpsOutRise s) := by
  unfold execPpsOutRise
  lift_lets
  intro x0 x1
  exact fr_next (fr_ite (State.emit_fr _ _ (fr_mk rfl rfl rfl rfl hs)) hs)

theorem execPpsOutFall_fr {W : Nat} {s₀ : State} (s : State) (hs : State.Fr W s₀ s)
    (hw : partSub 0x800400 W = true := by first | exact partSub_refl _ | exact partSub_trans (by with_reducible assumption) (by exact rfl)) : OutFr W s₀ (execPpsOutFall s) := by
  unfold execPpsOutFall
  split
  · exact fr_next hs
  · lift_lets
    intro x0
    exact fr_next (fr_ite (State.emit_fr _ _ (fr_mk rfl rfl rfl rfl hs)) hs)

theorem execCaptureEdge_fr {W : Nat} {s₀ : State} (i : Fin 6) (s : State) (hs : State.Fr W s₀ s)
    (hw : partSub 0x8008 W = true := by first | exact partSub_refl _ | exact partSub_trans (by with_reducible assumption) (by exact rfl)) : OutFr W s₀ (execCaptureEdge i s) := by
  unfold execCaptureEdge
  lift_lets
  intro x0
  have h1 : State.Fr W s₀ x0 := (fr_ite (State.incS_fr _ _ _ (State.setFlag_fr _ _ _ hs)) hs)
  clear_value x0
  exact outFr_ite (fr_next (State.setFlag_fr _ _ _ (State.setFld_fr _ _ _ (State.setFld_fr _ _ _ h1)))) (fr_next hs)

theorem execCapSecRead_fr {W : Nat} {s₀ : State} (i : Fin 6) (s : State) (hs : State.Fr W s₀ s)
    (hw : partSub 0x400008 W = true := by first | exact partSub_refl _ | exact partSub_trans (by with_reducible assumption) (by exact rfl)) : OutFr W s₀ (execCapSecRead i s) := by
  unfold execCapSecRead
  lift_lets
  intro x0
  have h1 : State.Fr W s₀ x0 := (fr_mk rfl rfl rfl rfl hs)
  clear_value x0
  exact fr_next (State.setFlag_fr _ _ _ h1)

theorem execCpNsecRead_fr {W : Nat} {s₀ : State} (s : State) (hs : State.Fr W s₀ s)
    (hw : partSub 0x400008 W = true := by first | exact partSub_refl _ | exact partSub_trans (by with_reducible assumption) (by exact rfl)) : OutFr W s₀ (execCpNsecRead s) := by
  unfold execCpNsecRead
  lift_lets
  intro x0
  have h1 : State.Fr W s₀ x0 := (fr_mk rfl rfl rfl rfl hs)
  clear_value x0
  exact fr_next (State.setFld_fr _ _ _ (State.setFld_fr _ _ _ h1))

theorem State.setTdSlot_fr {W : Nat} {s₀ : State} (s : State) (h_ : Nat) (k : Nat) (v : Nat) (hs : State.Fr W s₀ s)
    (hw : partSub 0x800 W = true := by first | exact partSub_refl _ | exact partSub_trans (by with_reducible assumption) (by exact rfl)) : State.Fr W s₀ (State.setTdSlot s h_ k v) := by
  unfold State.setTdSlot
  lift_lets
  intro x0
  exact fr_mk rfl rfl rfl rfl hs

theorem State.slotWrite301_fr {W : Nat} {s₀ : State} (s : State) (h_ : Nat) (k : Nat) (v : Nat) (hs : State.Fr W s₀ s)
    (hw : partSub 0x8808 W = true := by first | exact partSub_refl _ | exact partSub_trans (by with_reducible assumption) (by exact rfl)) : State.Fr W s₀ (State.slotWrite301 s h_ k v) := by
  unfold State.slotWrite301
  lift_lets
  intro x0 x1
  have h2 : State.Fr W s₀ x1 := (State.setTdSlot_fr _ _ _ _ hs)
  clear_value x1
  exact fr_ite (State.event_fr _ _ _ _ _ _ _ hs) (fr_ite (State.setTdSlot_fr _ _ _ _ h2) (fr_ite (State.setTdSlot_fr _ _ _ _ h2) h2))

theorem State.setHwy_fr {W : Nat} {s₀ : State} (s : State) (h_ : Nat) (x : Hwy) (hs : State.Fr W s₀ s)
    (hw : partSub 0x800 W = true := by first | exact partSub_refl _ | exact partSub_trans (by with_reducible assumption) (by exact rfl)) : State.Fr W s₀ (State.setHwy s h_ x) := by
  unfold State.setHwy
  lift_lets
  intro x0
  exact fr_mk rfl rfl rfl rfl hs

theorem State.slip_fr {W : Nat} {s₀ : State} (s : State) (h_ : Nat) (rx : Bool) (hs : State.Fr W s₀ s)
    (hw : partSub 0x8808 W = true := by first | exact partSub_refl _ | exact partSub_trans (by with_reducible assumption) (by exact rfl)) : State.Fr W s₀ (State.slip s h_ rx) := by
  unfold State.slip
  lift_lets
  intro x0
  have h1 : State.Fr W s₀ x0 := (State.incS_fr _ _ _ hs)
  clear_value x0
  intro x2
  have h3 : State.Fr W s₀ x2 := (State.incWrap_fr _ _ _ _ h1)
  clear_value x2
  intro x4 x5
  exact fr_ite (State.setFlag_fr _ _ _ h3) (State.event_fr _ _ _ _ _ _ _ (State.setHwy_fr _ _ _ h3))

theorem State.tdCollision_fr {W : Nat} {s₀ : State} (s : State) (h_ : Nat) (k : Nat) (hs : State.Fr W s₀ s)
    (hw : partSub 0x8808 W = true := by first | exact partSub_refl _ | exact partSub_trans (by with_reducible assumption) (by exact rfl)) : State.Fr W s₀ (State.tdCollision s h_ k) := by
  unfold State.tdCollision
  lift_lets
  intro x0 x1
  have h2 : State.Fr W s₀ x1 := (State.setFld_fr _ _ _ (State.incS_fr _ _ _ (State.incS_fr _ _ _ hs)))
  clear_value x1
  intro x3
  have h4 : State.Fr W s₀ x3 := (State.setFld_fr _ _ _ h2)
  clear_value x3
  intro x5 x6 x7
  have h8 : State.Fr W s₀ x7 := (fr_ite (State.setFlag_fr _ _ _ h4) (State.event_fr _ _ _ _ _ _ _ (State.setHwy_fr _ _ _ h4)))
  clear_value x7
  exact fr_ite (fr_ite (State.setTdSlot_fr _ _ _ _ h8) h8) hs

theorem State.takeFrame_fr {W : Nat} {s₀ : State} (s : State) (h_ : Nat) (data : List Byte) (hs : State.Fr W s₀ s)
    (hw : partSub 0x800 W = true := by first | exact partSub_refl _ | exact partSub_trans (by with_reducible assumption) (by exact rfl)) : State.Fr W s₀ (State.takeFrame s h_ data) := by
  unfold State.takeFrame
  lift_lets
  intro x0
  refine fr_foldl ?_ hs
  · intro y1 y2 g3
    lift_lets
    intro x4 x5 x6
    exact fr_ite (fr_mk rfl rfl rfl rfl g3) g3

theorem State.playOn_fr {W : Nat} {s₀ : State} (s : State) (hs : State.Fr W s₀ s)
    (hw : partSub 0x800 W = true := by first | exact partSub_refl _ | exact partSub_trans (by with_reducible assumption) (by exact rfl)) : State.Fr W s₀ (State.playOn s) := by
  unfold State.playOn
  lift_lets
  intro x0 x1
  exact fr_mk rfl rfl rfl rfl hs

theorem State.tdmSlotDone_fr {W : Nat} {s₀ : State} (s : State) (n : Nat) (f : Nat) (hs : State.Fr W s₀ s)
    (hw : partSub 0x900 W = true := by first | exact partSub_refl _ | exact partSub_trans (by with_reducible assumption) (by exact rfl)) : State.Fr W s₀ (State.tdmSlotDone s n f) := by
  unfold State.tdmSlotDone
  split
  · exact hs
  · lift_lets
    intro x0 x1 x2 x3
    have h4 : State.Fr W s₀ x3 := (fr_mk rfl rfl rfl rfl hs)
    clear_value x3
    exact fr_ite h4 (State.writeRing_fr _ _ _ _ _ _ h4)

theorem State.tdmPlay_fr {W : Nat} {s₀ : State} (s : State) (n : Nat) (f : Nat) (hs : State.Fr W s₀ s)
    (hw : partSub 0x8908 W = true := by first | exact partSub_refl _ | exact partSub_trans (by with_reducible assumption) (by exact rfl)) : State.Fr W s₀ (State.tdmPlay s n f) := by
  unfold State.tdmPlay
  split
  · exact hs
  · lift_lets
    intro x0 x1
    have h2 : State.Fr W s₀ x1 := (fr_ite (State.ctxIncS_fr _ _ _ _ _ _ hs) hs)
    clear_value x1
    intro x3 x4
    exact fr_mk rfl rfl rfl rfl h2

end Sys2Proof.Machine
end

