-- ==== Sys2Proof/Laws/FrameFabric.lean ====
section
/-! SUPPORT. The frame lemmas of management, the fabric operations and the TDM block (see Laws/Frame.lean). -/
set_option Elab.async false

namespace Sys2Proof.Machine

theorem State.setMg_fr {W : Nat} {s₀ : State} (s : State) (x : Mgmt) (hs : State.Fr W s₀ s)
    (hw : partSub 0x20000 W = true := by first | exact partSub_refl _ | exact partSub_trans (by with_reducible assumption) (by exact rfl)) : State.Fr W s₀ (State.setMg s x) := by
  unfold State.setMg
  exact fr_mk rfl rfl rfl rfl hs

theorem State.mgCount_fr {W : Nat} {s₀ : State} (s : State) (i : Nat) (hs : State.Fr W s₀ s)
    (hw : partSub 0x8008 W = true := by first | exact partSub_refl _ | exact partSub_trans (by with_reducible assumption) (by exact rfl)) : State.Fr W s₀ (State.mgCount s i) := by
  unfold State.mgCount
  exact fr_ite (State.incWrap_fr _ _ _ _ hs) (State.incS_fr _ _ _ hs)

theorem State.startListen_fr {W : Nat} {s₀ : State} (s : State) (hs : State.Fr W s₀ s)
    (hw : partSub 0x20008 W = true := by first | exact partSub_refl _ | exact partSub_trans (by with_reducible assumption) (by exact rfl)) : State.Fr W s₀ (State.startListen s) := by
  unfold State.startListen
  lift_lets
  intro x0
  have h1 : State.Fr W s₀ x0 := (State.setFlag_fr _ _ _ hs)
  clear_value x0
  intro x2
  exact State.setMg_fr _ _ h1

theorem State.endListen_fr {W : Nat} {s₀ : State} (s : State) (hs : State.Fr W s₀ s)
    (hw : partSub 0x8 W = true := by first | exact partSub_refl _ | exact partSub_trans (by with_reducible assumption) (by exact rfl)) : State.Fr W s₀ (State.endListen s) := by
  unfold State.endListen
  exact fr_ite (State.setFlag_fr _ _ _ (State.setFlag_fr _ _ _ hs)) hs

theorem State.mgDepth_fr {W : Nat} {s₀ : State} (s : State) (hs : State.Fr W s₀ s)
    (hw : partSub 0x8 W = true := by first | exact partSub_refl _ | exact partSub_trans (by with_reducible assumption) (by exact rfl)) : State.Fr W s₀ (State.mgDepth s) := by
  unfold State.mgDepth
  exact State.setFld_fr _ _ _ hs

theorem State.mgSend_fr {W : Nat} {s₀ : State} (s : State) (bytes : List Byte) (fence : Bool) (o : Option Origin) (hs : State.Fr W s₀ s)
    (hw : partSub 0x82c008 W = true := by first | exact partSub_refl _ | exact partSub_trans (by with_reducible assumption) (by exact rfl)) : State.Fr W s₀ (State.mgSend s bytes fence o) := by
  unfold State.mgSend
  lift_lets
  intro x0
  exact fr_ite (State.completeOpt_fr _ _ _ _ _ hs) (fr_ite (State.completeOpt_fr _ _ _ _ _ hs) (fr_ite (State.completeOpt_fr _ _ _ _ _ (State.mgCount_fr _ _ hs)) (State.mgDepth_fr _ (State.setMg_fr _ _ hs))))

theorem State.mgMessage_fr {W : Nat} {s₀ : State} (s : State) (type : Nat) (dst : Nat) (all : Bool) (at_ : Nat) (arg : Nat) (o : Option Origin) (hs : State.Fr W s₀ s)
    (hw : partSub 0x82c008 W = true := by first | exact partSub_refl _ | exact partSub_trans (by with_reducible assumption) (by exact rfl)) : State.Fr W s₀ (State.mgMessage s type dst all at_ arg o) := by
  unfold State.mgMessage
  lift_lets
  intro x0 x1 x2
  have h3 : State.Fr W s₀ x2 := (State.setMg_fr _ _ hs)
  clear_value x2
  exact State.mgSend_fr _ _ _ _ h3

theorem State.mgEnd_fr {W : Nat} {s₀ : State} (s : State) (status : Nat) (hs : State.Fr W s₀ s)
    (hw : partSub 0x82c008 W = true := by first | exact partSub_refl _ | exact partSub_trans (by with_reducible assumption) (by exact rfl)) : State.Fr W s₀ (State.mgEnd s status) := by
  unfold State.mgEnd
  split
  · exact hs
  · lift_lets
    intro x0 x1
    have h2 : State.Fr W s₀ x1 := (State.mgDepth_fr _ (State.setMg_fr _ _ hs))
    clear_value x1
    intro x3
    have h4 : State.Fr W s₀ x3 := (fr_ite h2 (State.mgCount_fr _ _ h2))
    clear_value x3
    exact State.completeOpt_fr _ _ _ _ _ h4

theorem State.mgFlush_fr {W : Nat} {s₀ : State} (s : State) (status : Nat) (hs : State.Fr W s₀ s)
    (hw : partSub 0x82c008 W = true := by first | exact partSub_refl _ | exact partSub_trans (by with_reducible assumption) (by exact rfl)) : State.Fr W s₀ (State.mgFlush s status) := by
  unfold State.mgFlush
  lift_lets
  intro x0 x1 x2
  have h3 : State.Fr W s₀ x2 := (State.mgDepth_fr _ (State.setMg_fr _ _ hs))
  clear_value x2
  refine fr_foldl ?_ h3
  · intro y4 y5 g6
    exact State.completeOpt_fr _ _ _ _ _ g6

theorem State.setLink_fr {W : Nat} {s₀ : State} (s : State) (l : Nat) (x : Link) (hs : State.Fr W s₀ s)
    (hw : partSub 0x10000 W = true := by first | exact partSub_refl _ | exact partSub_trans (by with_reducible assumption) (by exact rfl)) : State.Fr W s₀ (State.setLink s l x) := by
  unfold State.setLink
  lift_lets
  intro x0
  exact fr_mk rfl rfl rfl rfl hs

theorem State.twCount_fr {W : Nat} {s₀ : State} (s : State) (i : Nat) (n : Nat) (hs : State.Fr W s₀ s)
    (hw : partSub 0x8008 W = true := by first | exact partSub_refl _ | exact partSub_trans (by with_reducible assumption) (by exact rfl)) : State.Fr W s₀ (State.twCount s i n) := by
  unfold State.twCount
  exact fr_ite (State.incWrap_fr _ _ _ _ hs) (State.incS_fr _ _ _ hs)

theorem State.linkState_fr {W : Nat} {s₀ : State} (s : State) (l : Nat) (st : Nat) (hs : State.Fr W s₀ s)
    (hw : partSub 0x10008 W = true := by first | exact partSub_refl _ | exact partSub_trans (by with_reducible assumption) (by exact rfl)) : State.Fr W s₀ (State.linkState s l st) := by
  unfold State.linkState
  lift_lets
  intro x0 x1
  have h2 : State.Fr W s₀ x1 := (State.setLink_fr _ _ _ hs)
  clear_value x1
  intro x3 x4
  have h5 : State.Fr W s₀ x4 := (State.setFld_fr _ _ _ h2)
  clear_value x4
  exact State.setFld_fr _ _ _ h5

theorem State.fabWire_fr {W : Nat} {s₀ : State} (s : State) (l : Nat) (p : Nat) (seq : Nat) (retx : Bool) (b : FabBody) (note : Nat) (hs : State.Fr W s₀ s)
    (hw : partSub 0x81c388 W = true := by first | exact partSub_refl _ | exact partSub_trans (by with_reducible assumption) (by exact rfl)) : State.Fr W s₀ (State.fabWire s l p seq retx b note) := by
  unfold State.fabWire
  lift_lets
  intro x0 x1 x2
  have h3 : State.Fr W s₀ x2 := (State.twCount_fr _ _ _ (State.setLink_fr _ _ _ hs))
  clear_value x2
  intro x4
  have h5 : State.Fr W s₀ x4 := (fr_ite (State.twCount_fr _ _ _ h3) h3)
  clear_value x4
  intro x6 x7
  exact fr_ite (State.txDrop_fr _ _ h5) (State.txAdmit_fr _ _ _ h5)

theorem State.fabQueue_fr {W : Nat} {s₀ : State} (s : State) (l : Nat) (b : FabBody) (note : Nat) (hs : State.Fr W s₀ s)
    (hw : partSub 0x10000 W = true := by first | exact partSub_refl _ | exact partSub_trans (by with_reducible assumption) (by exact rfl)) : State.Fr W s₀ (State.fabQueue s l b note) := by
  unfold State.fabQueue
  lift_lets
  intro x0 x1 x2
  exact State.setLink_fr _ _ _ hs

theorem State.fabSend_fr {W : Nat} {s₀ : State} (s : State) (l : Nat) (hs : State.Fr W s₀ s)
    (hw : partSub 0x81c388 W = true := by first | exact partSub_refl _ | exact partSub_trans (by with_reducible assumption) (by exact rfl)) : State.Fr W s₀ (State.fabSend s l) := by
  unfold State.fabSend
  dsimp only
  split
  · exact hs
  · refine fr_ite hs (fr_ite hs (fr_ite (State.twCount_fr _ _ _ hs) ?_))
    split
    · exact State.twCount_fr _ _ _ hs
    · exact fr_ite (State.fabWire_fr _ _ _ _ _ _ _ (State.setLink_fr _ _ _ hs)) (State.fabWire_fr _ _ _ _ _ _ _ (State.setLink_fr _ _ _ hs))

theorem State.fabResend_fr {W : Nat} {s₀ : State} (s : State) (l : Nat) (hs : State.Fr W s₀ s)
    (hw : partSub 0x81c388 W = true := by first | exact partSub_refl _ | exact partSub_trans (by with_reducible assumption) (by exact rfl)) : State.Fr W s₀ (State.fabResend s l) := by
  unfold State.fabResend
  lift_lets
  intro x0 x1
  have h2 : State.Fr W s₀ x1 := (State.setLink_fr _ _ _ hs)
  clear_value x1
  refine fr_foldl ?_ h2
  · intro y3 y4 g5
    split
    · exact State.fabWire_fr _ _ _ _ _ _ _ (State.twCount_fr _ _ _ g5)
    · exact g5

theorem State.mirror_fr {W : Nat} {s₀ : State} (s : State) (r : MirrorRec) (hs : State.Fr W s₀ s)
    (hw : partSub 0x10000 W = true := by first | exact partSub_refl _ | exact partSub_trans (by with_reducible assumption) (by exact rfl)) : State.Fr W s₀ (State.mirror s r) := by
  unfold State.mirror
  split
  · exact State.fabQueue_fr _ _ _ _ hs
  · exact hs

theorem State.mirrorTemplate_fr {W : Nat} {s₀ : State} (s : State) (p : Nat) (t : Nat) (hs : State.Fr W s₀ s)
    (hw : partSub 0x10000 W = true := by first | exact partSub_refl _ | exact partSub_trans (by with_reducible assumption) (by exact rfl)) : State.Fr W s₀ (State.mirrorTemplate s p t) := by
  unfold State.mirrorTemplate
  lift_lets
  intro x0
  have h1 : State.Fr W s₀ x0 := (fr_ite (State.mirror_fr _ _ hs) hs)
  clear_value x0
  exact fr_ite (State.mirror_fr _ _ h1) h1

theorem State.syncTwin_fr {W : Nat} {s₀ : State} (s : State) (l : Nat) (hs : State.Fr W s₀ s)
    (hw : partSub 0x10000 W = true := by first | exact partSub_refl _ | exact partSub_trans (by with_reducible assumption) (by exact rfl)) : State.Fr W s₀ (State.syncTwin s l) := by
  unfold State.syncTwin
  lift_lets
  intro x0
  clear_value x0
  intro x1
  have h2 : State.Fr W s₀ x1 := (State.setLink_fr _ _ _ hs)
  clear_value x1
  intro x3
  dsimp only [x3]
  clear x3
  refine fr_foldl ?_ (fr_foldl ?_ (fr_foldl ?_ ?_))
  · intro y4 y5 g6
    exact fr_ite (State.mirror_fr _ _ g6) g6
  · intro y7 y8 g9
    exact State.mirror_fr _ _ g9
  · intro y10 y11 g12
    refine fr_foldl ?_ g12
    · intro y13 y14 g15
      exact fr_ite (fr_ite (State.mirror_fr _ _ (State.mirror_fr _ _ g15)) (State.mirror_fr _ _ g15)) g15
  · split
    · split
      · exact h2
      · refine fr_foldl ?_ h2
        · intro y16 y17 g18
          refine fr_foldl ?_ g18
          · intro y19 y20 g21
            exact fr_ite (State.mirror_fr _ _ (State.mirror_fr _ _ g21)) g21
    · refine fr_foldl ?_ ?_
      · intro y22 y23 g24
        refine fr_foldl ?_ g24
        · intro y25 y26 g27
          exact fr_ite (State.mirror_fr _ _ (State.mirror_fr _ _ g27)) g27
      · split
        · exact h2
        · refine fr_foldl ?_ h2
          · intro y28 y29 g30
            refine fr_foldl ?_ g30
            · intro y31 y32 g33
              exact fr_ite (State.mirror_fr _ _ (State.mirror_fr _ _ g33)) g33

theorem State.flushNotes_fr {W : Nat} {s₀ : State} (s : State) (hs : State.Fr W s₀ s)
    (hw : partSub 0x10000 W = true := by first | exact partSub_refl _ | exact partSub_trans (by with_reducible assumption) (by exact rfl)) : State.Fr W s₀ (State.flushNotes s) := by
  unfold State.flushNotes
  split
  · exact hs
  · lift_lets
    intro x0 x1
    have h2 : State.Fr W s₀ x1 := (fr_mk rfl rfl rfl rfl hs)
    clear_value x1
    intro x3
    split
    · exact State.fabQueue_fr _ _ _ _ h2
    · exact fr_mk rfl rfl rfl rfl h2

theorem State.placeNote_fr {W : Nat} {s₀ : State} (s : State) (n : Nat) (seq : Nat) (hs : State.Fr W s₀ s)
    (hw : partSub 0x10000 W = true := by first | exact partSub_refl _ | exact partSub_trans (by with_reducible assumption) (by exact rfl)) : State.Fr W s₀ (State.placeNote s n seq).1 := by
  unfold State.placeNote
  lift_lets
  intro x0 x1
  exact fr_mk rfl rfl rfl rfl hs

theorem State.answerFence_fr {W : Nat} {s₀ : State} (s : State) (hs : State.Fr W s₀ s)
    (hw : partSub 0x83c008 W = true := by first | exact partSub_refl _ | exact partSub_trans (by with_reducible assumption) (by exact rfl)) : State.Fr W s₀ (State.answerFence s) := by
  unfold State.answerFence
  lift_lets
  intro x0 x1 x2 x3
  have h4 : State.Fr W s₀ x3 := (fr_mk rfl rfl rfl rfl hs)
  clear_value x3
  intro x5
  have h6 : State.Fr W s₀ x5 := by
    dsimp -zeta only [x5]
    refine fr_foldl ?_ h4
    · intro y7 y8 g9
      exact State.mgMessage_fr _ _ _ _ _ _ _ g9
  clear_value x5
  refine fr_ite (fr_foldl ?_ h6) hs
  · intro y10 y11 g12
    exact State.fabQueue_fr _ _ _ _ g12

theorem State.fenced_fr {W : Nat} {s₀ : State} (s : State) (hs : State.Fr W s₀ s)
    (hw : partSub 0x87c008 W = true := by first | exact partSub_refl _ | exact partSub_trans (by with_reducible assumption) (by exact rfl)) : State.Fr W s₀ (State.fenced s) := by
  unfold State.fenced
  exact State.answerFence_fr _ (State.trigger_fr _ _ hs)

theorem State.sendFence_fr {W : Nat} {s₀ : State} (s : State) (i : Nat) (hs : State.Fr W s₀ s)
    (hw : partSub 0x83c008 W = true := by first | exact partSub_refl _ | exact partSub_trans (by with_reducible assumption) (by exact rfl)) : State.Fr W s₀ (State.sendFence s i) := by
  unfold State.sendFence
  lift_lets
  intro x0 x1
  have h2 : State.Fr W s₀ x1 := by
    dsimp -zeta only [x1]
    split
    · exact fr_ite (State.twCount_fr _ _ _ (State.fabQueue_fr _ _ _ _ hs)) hs
    · exact hs
  clear_value x1
  intro x3
  have h4 : State.Fr W s₀ x3 := (State.twCount_fr _ _ _ (State.mgMessage_fr _ _ _ _ _ _ _ h2))
  clear_value x3
  intro x5 x6
  have h7 : State.Fr W s₀ x6 := (State.setTwSlot_fr _ _ _ h4)
  clear_value x6
  exact State.setFlag_fr _ _ _ h7

theorem State.setSlotState_fr {W : Nat} {s₀ : State} (s : State) (i : Nat) (v : Nat) (hs : State.Fr W s₀ s)
    (hw : partSub 0x8 W = true := by first | exact partSub_refl _ | exact partSub_trans (by with_reducible assumption) (by exact rfl)) : State.Fr W s₀ (State.setSlotState s i v) := by
  unfold State.setSlotState
  exact State.setFld_fr _ _ _ hs

theorem State.suspect_fr {W : Nat} {s₀ : State} (s : State) (i : Nat) (hs : State.Fr W s₀ s)
    (hw : partSub 0x83c008 W = true := by first | exact partSub_refl _ | exact partSub_trans (by with_reducible assumption) (by exact rfl)) : State.Fr W s₀ (State.suspect s i) := by
  unfold State.suspect
  lift_lets
  intro x0
  have h1 : State.Fr W s₀ x0 := (State.event_fr _ _ _ _ _ _ _ (State.setSlotState_fr _ _ _ hs))
  clear_value x0
  intro x2 x3
  have h4 : State.Fr W s₀ x3 := (State.setTwSlot_fr _ _ _ h1)
  clear_value x3
  exact fr_ite (State.sendFence_fr _ _ h4) hs

theorem State.confirmFence_fr {W : Nat} {s₀ : State} (s : State) (i : Nat) (path : Nat) (hs : State.Fr W s₀ s)
    (hw : partSub 0x85c008 W = true := by first | exact partSub_refl _ | exact partSub_trans (by with_reducible assumption) (by exact rfl)) : State.Fr W s₀ (State.confirmFence s i path) := by
  unfold State.confirmFence
  lift_lets
  intro x0
  have h1 : State.Fr W s₀ x0 := (State.setFlag_fr _ _ _ (State.setSlotState_fr _ _ _ hs))
  clear_value x0
  intro x2
  have h3 : State.Fr W s₀ x2 := (State.setFld_fr _ _ _ (State.setFld_fr _ _ _ (State.setFld_fr _ _ _ h1)))
  clear_value x2
  intro x4 x5 x6
  have h7 : State.Fr W s₀ x6 := (State.setTwSlot_fr _ _ _ h3)
  clear_value x6
  exact fr_ite (State.trigger_fr _ _ h7) hs

theorem State.clearSlot_fr {W : Nat} {s₀ : State} (s : State) (i : Nat) (hs : State.Fr W s₀ s)
    (hw : partSub 0x10008 W = true := by first | exact partSub_refl _ | exact partSub_trans (by with_reducible assumption) (by exact rfl)) : State.Fr W s₀ (State.clearSlot s i) := by
  unfold State.clearSlot
  exact State.setFld_fr _ _ _ (State.setFld_fr _ _ _ (State.setTwSlot_fr _ _ _ hs))

theorem State.slotLinkLost_fr {W : Nat} {s₀ : State} (s : State) (i : Nat) (hs : State.Fr W s₀ s)
    (hw : partSub 0x83c008 W = true := by first | exact partSub_refl _ | exact partSub_trans (by with_reducible assumption) (by exact rfl)) : State.Fr W s₀ (State.slotLinkLost s i) := by
  unfold State.slotLinkLost
  exact fr_ite (fr_ite (State.suspect_fr _ _ hs) hs) (fr_ite (State.raise_fr _ _ _ _ _ _ _ _ (State.clearSlot_fr _ _ hs)) hs)

theorem State.linkLost_fr {W : Nat} {s₀ : State} (s : State) (l : Nat) (hs : State.Fr W s₀ s)
    (hw : partSub 0x83c008 W = true := by first | exact partSub_refl _ | exact partSub_trans (by with_reducible assumption) (by exact rfl)) : State.Fr W s₀ (State.linkLost s l) := by
  unfold State.linkLost
  lift_lets
  intro x0 x1
  have h2 : State.Fr W s₀ x1 := (State.event_fr _ _ _ _ _ _ _ (State.twCount_fr _ _ _ hs))
  clear_value x1
  intro x3 x4
  have h5 : State.Fr W s₀ x4 := (State.setLink_fr _ _ _ (State.linkState_fr _ _ _ h2))
  clear_value x4
  intro x6 x7
  have h8 : State.Fr W s₀ x7 := (fr_mk rfl rfl rfl rfl h5)
  clear_value x7
  split
  · exact State.slotLinkLost_fr _ _ h8
  · exact h8

theorem State.linkUp_fr {W : Nat} {s₀ : State} (s : State) (l : Nat) (serial : Nat) (hs : State.Fr W s₀ s)
    (hw : partSub 0x18008 W = true := by first | exact partSub_refl _ | exact partSub_trans (by with_reducible assumption) (by exact rfl)) : State.Fr W s₀ (State.linkUp s l serial) := by
  unfold State.linkUp
  lift_lets
  intro x0 x1
  have h2 : State.Fr W s₀ x1 := (State.setLink_fr _ _ _ hs)
  clear_value x1
  intro x3
  have h4 : State.Fr W s₀ x3 := (State.event_fr _ _ _ _ _ _ _ (State.linkState_fr _ _ _ h2))
  clear_value x3
  split
  · exact fr_ite (State.raise_fr _ _ _ _ _ _ _ _ (State.setSlotState_fr _ _ _ h4)) h4
  · exact h4

theorem State.fabAuthFail_fr {W : Nat} {s₀ : State} (s : State) (l : Nat) (hs : State.Fr W s₀ s)
    (hw : partSub 0x18008 W = true := by first | exact partSub_refl _ | exact partSub_trans (by with_reducible assumption) (by exact rfl)) : State.Fr W s₀ (State.fabAuthFail s l) := by
  unfold State.fabAuthFail
  lift_lets
  intro x0
  have h1 : State.Fr W s₀ x0 := (State.setFlag_fr _ _ _ (State.twCount_fr _ _ _ hs))
  clear_value x0
  intro x2 x3
  exact fr_ite h1 (State.raise_fr _ _ _ _ _ _ _ _ (State.setLink_fr _ _ _ h1))

theorem State.ownDup_fr {W : Nat} {s₀ : State} (s : State) (hs : State.Fr W s₀ s)
    (hw : partSub 0x8008 W = true := by first | exact partSub_refl _ | exact partSub_trans (by with_reducible assumption) (by exact rfl)) : State.Fr W s₀ (State.ownDup s) := by
  unfold State.ownDup
  exact fr_ite (State.twCount_fr _ _ _ hs) (State.event_fr _ _ _ _ _ _ _ (State.twCount_fr _ _ _ (State.setFlag_fr _ _ _ hs)))

theorem State.fabCheck_fr {W : Nat} {s₀ : State} (s : State) (f : FabIn) (hs : State.Fr W s₀ s)
    (hw : partSub 0x18008 W = true := by first | exact partSub_refl _ | exact partSub_trans (by with_reducible assumption) (by exact rfl)) : State.Fr W s₀ (State.fabCheck s f).1 := by
  unfold State.fabCheck
  have h1 : ∀ i n, State.Fr W s₀ (s.twCount i n) := fun _ _ => State.twCount_fr _ _ _ hs
  lift_lets
  intro x0 x1
  refine fr_iteP hs (fr_iteP (fr_pair (h1 _ _)) (fr_iteP (fr_pair (h1 _ _)) (fr_iteP ?_ ?_)))
  · split
    · exact fr_pair (h1 _ _)
    · have h2 : State.Fr W s₀ s.ownDup := State.ownDup_fr _ hs
      have h3 : ∀ f b i n, State.Fr W s₀ ((s.twCount i n).setFlag f b) := fun _ _ _ _ => State.setFlag_fr _ _ _ (h1 _ _)
      exact fr_iteP (fr_pair h2) (fr_pair (h3 _ _ _ _))
  · split
    · exact fr_pair (h1 _ _)
    · lift_lets
      intro x2 x3
      split
      · exact fr_pair (h1 _ _)
      · lift_lets
        intro x4 x5 x6
        have h2 : ∀ l, State.Fr W s₀ (s.fabAuthFail l) := fun _ => State.fabAuthFail_fr _ _ hs
        have h3 : ∀ i n l x, State.Fr W s₀ ((s.setLink l x).twCount i n) := fun _ _ _ _ => State.twCount_fr _ _ _ (State.setLink_fr _ _ _ hs)
        exact fr_iteP (fr_pair (h2 _)) (fr_pair (h3 _ _ _ _))

theorem State.fabSeq_fr {W : Nat} {s₀ : State} (s : State) (l : Nat) (h_ : FabHdr) (hs : State.Fr W s₀ s)
    (hw : partSub 0x18008 W = true := by first | exact partSub_refl _ | exact partSub_trans (by with_reducible assumption) (by exact rfl)) : State.Fr W s₀ (State.fabSeq s l h_).1 := by
  unfold State.fabSeq
  have h1 : ∀ l x, State.Fr W s₀ (s.setLink l x) := fun _ _ => State.setLink_fr _ _ _ hs
  have h2 : ∀ i n l b v, State.Fr W s₀ ((s.twCount i n).fabQueue l b v) := fun _ _ _ _ _ => State.fabQueue_fr _ _ _ _ (State.twCount_fr _ _ _ hs)
  lift_lets
  intro x0
  exact fr_iteP (fr_pair (h1 _ _)) (fr_pair (h2 _ _ _ _ _))

theorem State.tickFrame_fr {W : Nat} {s₀ : State} (s : State) (h_ : Nat) (data : List Byte) (hs : State.Fr W s₀ s)
    (hw : partSub 0x8808 W = true := by first | exact partSub_refl _ | exact partSub_trans (by with_reducible assumption) (by exact rfl)) : State.Fr W s₀ (State.tickFrame s h_ data).1 := by
  unfold State.tickFrame
  lift_lets
  intro x0
  refine fr_iteP hs (fr_iteP hs ?_)
  · split
    · exact State.setHwy_fr _ _ _ hs
    · exact State.slip_fr _ _ _ hs

theorem State.hwyTick_fr {W : Nat} {s₀ : State} (s : State) (h_ : Nat) (data : List Byte) (hs : State.Fr W s₀ s)
    (hw : partSub 0x808808 W = true := by first | exact partSub_refl _ | exact partSub_trans (by with_reducible assumption) (by exact rfl)) : State.Fr W s₀ (State.hwyTick s h_ data) := by
  unfold State.hwyTick
  lift_lets
  intro x0
  have h1 : State.Fr W s₀ x0.1 := (State.tickFrame_fr _ _ _ hs)
  clear_value x0
  intro x2
  have h3 : State.Fr W s₀ x2 := (State.takeFrame_fr _ _ _ h1)
  clear_value x2
  intro x4 x5 x6
  have h7 : State.Fr W s₀ x6 := (State.setHwy_fr _ _ _ h3)
  clear_value x6
  exact fr_ite (State.emit_fr _ _ h3) (fr_ite (State.slip_fr _ _ _ h7) h7)

theorem execHighwayTick_fr {W : Nat} {s₀ : State} (data : List (List (BitVec 8))) (col : List (Fin 16 × Fin 512)) (s : State) (hs : State.Fr W s₀ s)
    (hw : partSub 0x808c08 W = true := by first | exact partSub_refl _ | exact partSub_trans (by with_reducible assumption) (by exact rfl)) : OutFr W s₀ (execHighwayTick data col s) := by
  unfold execHighwayTick
  lift_lets
  intro x0 x1
  have h2 : State.Fr W s₀ x1 := (fr_mk rfl rfl rfl rfl hs)
  clear_value x1
  intro x3
  have h4 : State.Fr W s₀ x3 := by
    dsimp -zeta only [x3]
    refine fr_foldl ?_ h2
    · intro y5 y6 g7
      exact State.hwyTick_fr _ _ _ g7
  clear_value x3
  intro x8
  have h9 : State.Fr W s₀ x8 := by
    dsimp -zeta only [x8]
    refine fr_foldl ?_ h4
    · intro y10 y11 g12
      exact State.tdCollision_fr _ _ _ g12
  clear_value x8
  exact outFr_ite (fr_next (State.playOn_fr _ h9)) (fr_next hs)

theorem State.fsCheck_fr {W : Nat} {s₀ : State} (s : State) (h_ : Nat) (fs : Nat) (lost : Bool) (hs : State.Fr W s₀ s)
    (hw : partSub 0x8c08 W = true := by first | exact partSub_refl _ | exact partSub_trans (by with_reducible assumption) (by exact rfl)) : State.Fr W s₀ (State.fsCheck s h_ fs lost) := by
  unfold State.fsCheck
  lift_lets
  intro x0 x1 x2
  have h3 : State.Fr W s₀ x2 := (State.setFlag_fr _ _ _ (State.incS_fr _ _ _ hs))
  clear_value x2
  intro x4
  have h5 : State.Fr W s₀ x4 := (fr_ite (State.holdover_fr _ h3) h3)
  clear_value x4
  intro x6
  have h7 : State.Fr W s₀ x6 := (State.setFld_fr _ _ _ (State.setHwy_fr _ _ _ h5))
  clear_value x6
  exact fr_ite (State.setFld_fr _ _ _ (State.setHwy_fr _ _ _ hs)) (fr_ite (fr_ite (State.slip_fr _ _ _ h7) h7) (State.setFld_fr _ _ _ (State.setHwy_fr _ _ _ h5)))

theorem execHighwayFrameReceived_fr {W : Nat} {s₀ : State} (h_ : Fin 16) (data : List (BitVec 8)) (fs : BitVec 12) (lost : Bool) (col : List (Fin 512)) (s : State) (hs : State.Fr W s₀ s)
    (hw : partSub 0x808c0c W = true := by first | exact partSub_refl _ | exact partSub_trans (by with_reducible assumption) (by exact rfl)) : OutFr W s₀ (execHighwayFrameReceived h_ data fs lost col s) := by
  unfold execHighwayFrameReceived
  lift_lets
  intro x0
  have h1 : State.Fr W s₀ x0 := (State.fsCheck_fr _ _ _ _ hs)
  clear_value x0
  intro x2 x3
  have h4 : State.Fr W s₀ x3 := (State.setHwy_fr _ _ _ h1)
  clear_value x3
  intro x5
  have h6 : State.Fr W s₀ x5 := (fr_ite (State.slip_fr _ _ _ h4) h4)
  clear_value x5
  intro x7 x8
  have h9 : State.Fr W s₀ x8 := by
    dsimp -zeta only [x8]
    split
    · exact State.emit_fr _ _ (State.setHwy_fr _ _ _ h6)
    · exact State.emit_fr _ _ (State.slip_fr _ _ _ h6)
  clear_value x8
  intro x10
  have h11 : State.Fr W s₀ x10 := by
    dsimp -zeta only [x10]
    refine fr_foldl ?_ h9
    · intro y12 y13 g14
      exact State.tdCollision_fr _ _ _ g14
  clear_value x10
  exact outFr_ite (fr_next (fr_ite (State.compare_fr _ _ h11) h11)) (fr_next hs)

theorem execClkLost_fr {W : Nat} {s₀ : State} (h_ : Fin 16) (s : State) (hs : State.Fr W s₀ s)
    (hw : partSub 0x8408 W = true := by first | exact partSub_refl _ | exact partSub_trans (by with_reducible assumption) (by exact rfl)) : OutFr W s₀ (execClkLost h_ s) := by
  unfold execClkLost
  lift_lets
  intro x0
  have h1 : State.Fr W s₀ x0 := (State.setFld_fr _ _ _ hs)
  clear_value x0
  intro x2
  have h3 : State.Fr W s₀ x2 := (State.event_fr _ _ _ _ _ _ _ h1)
  clear_value x2
  exact outFr_ite (fr_next (fr_ite (State.holdover_fr _ h3) h3)) (fr_next hs)

theorem execTdClkReturn_fr {W : Nat} {s₀ : State} (h_ : Fin 16) (s : State) (hs : State.Fr W s₀ s)
    (hw : partSub 0xc08 W = true := by first | exact partSub_refl _ | exact partSub_trans (by with_reducible assumption) (by exact rfl)) : OutFr W s₀ (execTdClkReturn h_ s) := by
  unfold execTdClkReturn
  lift_lets
  intro x0
  have h1 : State.Fr W s₀ x0 := (State.setFld_fr _ _ _ hs)
  clear_value x0
  intro x2 x3
  have h4 : State.Fr W s₀ x3 := (State.setHwy_fr _ _ _ h1)
  clear_value x3
  exact outFr_ite (fr_next (fr_ite (State.acquire_fr _ h4) h4)) (fr_next hs)

theorem State.slotEntryWrite_fr {W : Nat} {s₀ : State} (s : State) (h_ : Nat) (k : Nat) (v : Nat) (hs : State.Fr W s₀ s)
    (hw : partSub 0x18808 W = true := by first | exact partSub_refl _ | exact partSub_trans (by with_reducible assumption) (by exact rfl)) : State.Fr W s₀ (State.slotEntryWrite s h_ k v) := by
  unfold State.slotEntryWrite
  lift_lets
  intro x0
  have h1 : State.Fr W s₀ x0 := (State.slotWrite301_fr _ _ _ _ hs)
  clear_value x0
  refine fr_foldl ?_ h1
  · intro y2 y3 g4
    exact fr_ite g4 (State.mirror_fr _ _ g4)

theorem State.slotDataWrite_fr {W : Nat} {s₀ : State} (s : State) (v : Nat) (hs : State.Fr W s₀ s)
    (hw : partSub 0x18808 W = true := by first | exact partSub_refl _ | exact partSub_trans (by with_reducible assumption) (by exact rfl)) : State.Fr W s₀ (State.slotDataWrite s v) := by
  unfold State.slotDataWrite
  lift_lets
  intro x0 x1
  exact fr_ite (State.reservedEncoding_fr _ _ _ (State.slotEntryWrite_fr _ _ _ _ hs)) (State.slotEntryWrite_fr _ _ _ _ hs)

theorem execTdSlotDataWrite_fr {W : Nat} {s₀ : State} (v : BitVec 32) (s : State) (hs : State.Fr W s₀ s)
    (hw : partSub 0x18808 W = true := by first | exact partSub_refl _ | exact partSub_trans (by with_reducible assumption) (by exact rfl)) : OutFr W s₀ (execTdSlotDataWrite v s) := by
  unfold execTdSlotDataWrite
  exact fr_next (State.slotDataWrite_fr _ _ hs)

end Sys2Proof.Machine
end

