-- ==== Sys2Proof/Laws/FrameBits.lean ====
section
/-! SUPPORT. The frame lemmas of the bitstream block, Lantern's operations and the rings (see Laws/Frame.lean). -/
set_option Elab.async false

namespace Sys2Proof.Machine

theorem State.setBsGroup_fr {W : Nat} {s₀ : State} (s : State) (g : Nat) (x : BsGroup) (hs : State.Fr W s₀ s)
    (hw : partSub 0x1000 W = true := by first | exact partSub_refl _ | exact partSub_trans (by with_reducible assumption) (by exact rfl)) : State.Fr W s₀ (State.setBsGroup s g x) := by
  unfold State.setBsGroup
  lift_lets
  intro x0
  exact fr_mk rfl rfl rfl rfl hs

theorem State.setCoef_fr {W : Nat} {s₀ : State} (s : State) (g : Nat) (b : Bool) (i : Nat) (v : Nat) (hs : State.Fr W s₀ s)
    (hw : partSub 0x1000 W = true := by first | exact partSub_refl _ | exact partSub_trans (by with_reducible assumption) (by exact rfl)) : State.Fr W s₀ (State.setCoef s g b i v) := by
  unfold State.setCoef
  lift_lets
  intro x0
  exact fr_mk rfl rfl rfl rfl hs

theorem State.startFade_fr {W : Nat} {s₀ : State} (s : State) (g : Nat) (t : Bool) (o : Option Origin) (hs : State.Fr W s₀ s)
    (hw : partSub 0x1000 W = true := by first | exact partSub_refl _ | exact partSub_trans (by with_reducible assumption) (by exact rfl)) : State.Fr W s₀ (State.startFade s g t o) := by
  unfold State.startFade
  lift_lets
  intro x0
  exact State.setBsGroup_fr _ _ _ hs

theorem State.swapRequest_fr {W : Nat} {s₀ : State} (s : State) (g : Nat) (t : Bool) (o : Option Origin) (hs : State.Fr W s₀ s)
    (hw : partSub 0x80d008 W = true := by first | exact partSub_refl _ | exact partSub_trans (by with_reducible assumption) (by exact rfl)) : State.Fr W s₀ (State.swapRequest s g t o) := by
  unfold State.swapRequest
  lift_lets
  intro x0
  split
  · exact fr_ite (State.completeOpt_fr _ _ _ _ _ hs) (State.startFade_fr _ _ _ _ hs)
  · exact State.setBsGroup_fr _ _ _ hs
  · exact State.completeOpt_fr _ _ _ _ _ (State.setBsGroup_fr _ _ _ hs)

theorem State.endFade_fr {W : Nat} {s₀ : State} (s : State) (g : Nat) (hs : State.Fr W s₀ s)
    (hw : partSub 0x80d008 W = true := by first | exact partSub_refl _ | exact partSub_trans (by with_reducible assumption) (by exact rfl)) : State.Fr W s₀ (State.endFade s g) := by
  unfold State.endFade
  lift_lets
  intro x0
  split
  · exact hs
  · lift_lets
    intro x1
    have h2 : State.Fr W s₀ x1 := (State.setBsGroup_fr _ _ _ hs)
    clear_value x1
    intro x3
    have h4 : State.Fr W s₀ x3 := (State.completeOpt_fr _ _ _ _ _ (State.event_fr _ _ _ _ _ _ _ h2))
    clear_value x3
    split
    · exact h4
    · exact fr_ite (State.completeOpt_fr _ _ _ _ _ h4) (State.startFade_fr _ _ _ _ h4)

theorem State.groupReset_fr {W : Nat} {s₀ : State} (s : State) (g : Nat) (hs : State.Fr W s₀ s)
    (hw : partSub 0x80d008 W = true := by first | exact partSub_refl _ | exact partSub_trans (by with_reducible assumption) (by exact rfl)) : State.Fr W s₀ (State.groupReset s g) := by
  unfold State.groupReset
  lift_lets
  intro x0 x1 x2 x3
  have h4 : State.Fr W s₀ x3 := (fr_mk rfl rfl rfl rfl hs)
  clear_value x3
  intro x5
  have h6 : State.Fr W s₀ x5 := (State.endFade_fr _ _ h4)
  clear_value x5
  intro x7 x8
  have h9 : State.Fr W s₀ x8 := (State.setBsGroup_fr _ _ _ h6)
  clear_value x8
  intro x10
  have h11 : State.Fr W s₀ x10 := (State.setFld_fr _ _ _ h9)
  clear_value x10
  exact State.setFlag_fr _ _ _ h11

theorem State.localReset_fr {W : Nat} {s₀ : State} (s : State) (g : Nat) (hs : State.Fr W s₀ s)
    (hw : partSub 0x1000 W = true := by first | exact partSub_refl _ | exact partSub_trans (by with_reducible assumption) (by exact rfl)) : State.Fr W s₀ (State.localReset s g) := by
  unfold State.localReset
  lift_lets
  intro x0
  exact State.setBsGroup_fr _ _ _ hs

theorem State.syncRequest_fr {W : Nat} {s₀ : State} (s : State) (instant : Nat) (src : Nat) (hs : State.Fr W s₀ s)
    (hw : partSub 0x1000 W = true := by first | exact partSub_refl _ | exact partSub_trans (by with_reducible assumption) (by exact rfl)) : State.Fr W s₀ (State.syncRequest s instant src) := by
  unfold State.syncRequest
  lift_lets
  intro x0
  exact fr_mk rfl rfl rfl rfl hs

theorem State.applyPreset_fr {W : Nat} {s₀ : State} (s : State) (g : Nat) (p : Nat) (hs : State.Fr W s₀ s)
    (hw : partSub 0x1008 W = true := by first | exact partSub_refl _ | exact partSub_trans (by with_reducible assumption) (by exact rfl)) : State.Fr W s₀ (State.applyPreset s g p) := by
  unfold State.applyPreset
  lift_lets
  intro x0 x1 x2
  have h3 : State.Fr W s₀ x2 := (State.setFld_fr _ _ _ (State.setFld_fr _ _ _ (State.setFld_fr _ _ _ (State.setFld_fr _ _ _ hs))))
  clear_value x2
  intro x4
  have h5 : State.Fr W s₀ x4 := (State.setFld_fr _ _ _ h3)
  clear_value x4
  intro x6
  have h7 : State.Fr W s₀ x6 := by
    dsimp -zeta only [x6]
    refine fr_foldl ?_ h5
    · intro y8 y9 g10
      exact State.setFld_fr _ _ _ g10
  clear_value x6
  intro x11
  have h12 : State.Fr W s₀ x11 := (State.setFld_fr _ _ _ h7)
  clear_value x11
  intro x13
  have h14 : State.Fr W s₀ x13 := by
    dsimp -zeta only [x13]
    refine fr_foldl ?_ h12
    · intro y15 y16 g17
      exact State.setCoef_fr _ _ _ _ _ g17
  clear_value x13
  intro x18 x19
  have h20 : State.Fr W s₀ x19 := (State.setBsGroup_fr _ _ _ h14)
  clear_value x19
  exact State.setFld_fr _ _ _ h20

theorem State.bsChWrite_fr {W : Nat} {s₀ : State} (s : State) (b : Nat) (v : Nat) (hs : State.Fr W s₀ s)
    (hw : partSub 0x8008 W = true := by first | exact partSub_refl _ | exact partSub_trans (by with_reducible assumption) (by exact rfl)) : State.Fr W s₀ (State.bsChWrite s b v) := by
  unfold State.bsChWrite
  lift_lets
  intro x0
  have h1 : State.Fr W s₀ x0 := (State.setFlag_fr _ _ _ (State.setFlag_fr _ _ _ (State.setFld_fr _ _ _ hs)))
  clear_value x0
  intro x2
  have h3 : State.Fr W s₀ x2 := (State.setFld_fr _ _ _ (State.setFlag_fr _ _ _ h1))
  clear_value x2
  intro x4
  have h5 : State.Fr W s₀ x4 := (fr_ite (State.setFlag_fr _ _ _ h3) h3)
  clear_value x4
  intro x6
  have h7 : State.Fr W s₀ x6 := (fr_ite (State.setFlag_fr _ _ _ h5) h5)
  clear_value x6
  exact fr_ite (State.event_fr _ _ _ _ _ _ _ hs) (State.setFlag_fr _ _ _ (State.setFlag_fr _ _ _ h7))

theorem State.bsPlay_fr {W : Nat} {s₀ : State} (s : State) (n : Nat) (b : Nat) (f : Nat) (hs : State.Fr W s₀ s)
    (hw : partSub 0x809108 W = true := by first | exact partSub_refl _ | exact partSub_trans (by with_reducible assumption) (by exact rfl)) : State.Fr W s₀ (State.bsPlay s n b f) := by
  unfold State.bsPlay
  lift_lets
  intro x0 x1
  split
  · exact hs
  · lift_lets
    intro x2 x3
    have h4 : State.Fr W s₀ x3 := (fr_ite (State.ctxIncS_fr _ _ _ _ _ _ hs) hs)
    clear_value x3
    intro x5 x6 x7 x8
    have h9 : State.Fr W s₀ x8 := (fr_mk rfl rfl rfl rfl h4)
    clear_value x8
    intro x10
    exact fr_ite (fr_ite (State.setFlag_fr _ _ _ hs) (State.emit_fr _ _ h9)) hs

theorem execBsClockLost_fr {W : Nat} {s₀ : State} (k : Fin 8) (s : State) (hs : State.Fr W s₀ s)
    (hw : partSub 0x8008 W = true := by first | exact partSub_refl _ | exact partSub_trans (by with_reducible assumption) (by exact rfl)) : OutFr W s₀ (execBsClockLost k s) := by
  unfold execBsClockLost
  lift_lets
  intro x0
  have h1 : State.Fr W s₀ x0 := (State.setFld_fr _ _ _ hs)
  clear_value x0
  intro x2
  have h3 : State.Fr W s₀ x2 := (State.setFlag_fr _ _ _ (State.setFlag_fr _ _ _ h1))
  clear_value x2
  exact outFr_ite (fr_next (State.event_fr _ _ _ _ _ _ _ (State.incS_fr _ _ _ h3))) (fr_next hs)

theorem execClkBack_fr {W : Nat} {s₀ : State} (k : Fin 8) (s : State) (hs : State.Fr W s₀ s)
    (hw : partSub 0x9008 W = true := by first | exact partSub_refl _ | exact partSub_trans (by with_reducible assumption) (by exact rfl)) : OutFr W s₀ (execClkBack k s) := by
  unfold execClkBack
  lift_lets
  intro x0
  have h1 : State.Fr W s₀ x0 := (State.setFld_fr _ _ _ hs)
  clear_value x0
  intro x2
  have h3 : State.Fr W s₀ x2 := by
    dsimp -zeta only [x2]
    refine fr_foldl ?_ h1
    · intro y4 y5 g6
      exact State.localReset_fr _ _ (State.setFlag_fr _ _ _ g6)
  clear_value x2
  exact outFr_ite (fr_next (State.event_fr _ _ _ _ _ _ _ h3)) (fr_next hs)

theorem State.slotEvent_fr {W : Nat} {s₀ : State} (s : State) (g : Nat) (b : Nat) (ovl : Bool) (hs : State.Fr W s₀ s)
    (hw : partSub 0x9008 W = true := by first | exact partSub_refl _ | exact partSub_trans (by with_reducible assumption) (by exact rfl)) : State.Fr W s₀ (State.slotEvent s g b ovl) := by
  unfold State.slotEvent
  lift_lets
  intro x0 x1 x2
  have h3 : State.Fr W s₀ x2 := (State.setFlag_fr _ _ _ (State.setFlag_fr _ _ _ (State.incS_fr _ _ _ hs)))
  clear_value x2
  intro x4
  have h5 : State.Fr W s₀ x4 := (State.setFlag_fr _ _ _ (State.incWrap_fr _ _ _ _ hs))
  clear_value x4
  exact fr_ite (fr_ite (State.setFlag_fr _ _ _ h3) (State.event_fr _ _ _ _ _ _ _ (State.setBsGroup_fr _ _ _ h3))) (fr_ite (State.setFlag_fr _ _ _ h5) (State.event_fr _ _ _ _ _ _ _ (State.setBsGroup_fr _ _ _ h5)))

theorem State.timedEntry_fr {W : Nat} {s₀ : State} (s : State) (b : Nat) (c : Chan) (cfg : ChainCfg) (f : Nat) (flags : Nat) (start : Nat) (hs : State.Fr W s₀ s)
    (hw : partSub 0x108 W = true := by first | exact partSub_refl _ | exact partSub_trans (by with_reducible assumption) (by exact rfl)) : State.Fr W s₀ (State.timedEntry s b c cfg f flags start) := by
  unfold State.timedEntry
  lift_lets
  intro x0 x1 x2
  exact fr_ite (fr_ite (State.setBytes_fr _ _ _ hs) (State.setFlag_fr _ _ _ hs)) hs

theorem execBsSlotComplete_fr {W : Nat} {s₀ : State} (b : BitVec 8) (bits : List Bool) (s : State) (hs : State.Fr W s₀ s)
    (hw : partSub 0x91c8 W = true := by first | exact partSub_refl _ | exact partSub_trans (by with_reducible assumption) (by exact rfl)) : OutFr W s₀ (execBsSlotComplete b bits s) := by
  unfold execBsSlotComplete
  lift_lets
  intro x0 x1 x2 x3 x4
  split
  · exact fr_next hs
  · lift_lets
    intro x5 x6 x7 x8
    have h9 : State.Fr W s₀ x8 := (fr_mk rfl rfl rfl rfl hs)
    clear_value x8
    intro x10
    split
    · exact fr_next hs
    · lift_lets
      intro x11
      have h12 : State.Fr W s₀ x11 := (State.timedEntry_fr _ _ _ _ _ _ _ h9)
      clear_value x11
      intro x13 x14
      have h15 : State.Fr W s₀ x14 := (State.writeRing_fr _ _ _ _ _ _ h12)
      clear_value x14
      intro x16
      have h17 : State.Fr W s₀ x16 := (State.setWord_fr _ _ _ h15)
      clear_value x16
      intro x18
      have h19 : State.Fr W s₀ x18 := (fr_ite (State.slotEvent_fr _ _ _ _ h17) h17)
      clear_value x18
      intro x20
      have h21 : State.Fr W s₀ x20 := (fr_ite (State.slotEvent_fr _ _ _ _ h19) h19)
      clear_value x20
      intro x22
      have h23 : State.Fr W s₀ x22 := by
        dsimp -zeta only [x22]
        split
        · exact State.setChan_fr _ _ _ h21
        · exact h21
      clear_value x22
      exact outFr_ite (fr_next hs) (outFr_ite (fr_next (State.setFlag_fr _ _ _ hs)) (fr_next (State.sourceTokens_fr _ _ _ _ h23)))

theorem execSyncInEdge_fr {W : Nat} {s₀ : State} (s : State) (hs : State.Fr W s₀ s)
    (hw : partSub 0x1000 W = true := by first | exact partSub_refl _ | exact partSub_trans (by with_reducible assumption) (by exact rfl)) : OutFr W s₀ (execSyncInEdge s) := by
  unfold execSyncInEdge
  exact fr_next (fr_ite (State.syncRequest_fr _ _ _ hs) hs)

theorem execSyncCmd_fr {W : Nat} {s₀ : State} (s : State) (hs : State.Fr W s₀ s)
    (hw : partSub 0x1000 W = true := by first | exact partSub_refl _ | exact partSub_trans (by with_reducible assumption) (by exact rfl)) : OutFr W s₀ (execSyncCmd s) := by
  unfold execSyncCmd
  exact fr_next (State.syncRequest_fr _ _ _ hs)

theorem execSyncReset_fr {W : Nat} {s₀ : State} (s : State) (hs : State.Fr W s₀ s)
    (hw : partSub 0x80d008 W = true := by first | exact partSub_refl _ | exact partSub_trans (by with_reducible assumption) (by exact rfl)) : OutFr W s₀ (execSyncReset s) := by
  unfold execSyncReset
  lift_lets
  intro x0 x1 x2 x3
  have h4 : State.Fr W s₀ x3 := (fr_mk rfl rfl rfl rfl hs)
  clear_value x3
  intro x5 x6 x7
  have h8 : State.Fr W s₀ x7 := by
    dsimp -zeta only [x7]
    refine fr_foldl ?_ h4
    · intro y9 y10 g11
      exact fr_ite (State.localReset_fr _ _ g11) (State.groupReset_fr _ _ g11)
  clear_value x7
  intro x12
  have h13 : State.Fr W s₀ x12 := (State.setFld_fr _ _ _ (State.setFld_fr _ _ _ (State.setFld_fr _ _ _ h8)))
  clear_value x12
  exact outFr_ite (fr_next hs) (fr_next (State.event_fr _ _ _ _ _ _ _ (State.incW_fr _ _ _ h13)))

theorem execGroupLocalReset_fr {W : Nat} {s₀ : State} (g : Fin 16) (s : State) (hs : State.Fr W s₀ s)
    (hw : partSub 0x80d008 W = true := by first | exact partSub_refl _ | exact partSub_trans (by with_reducible assumption) (by exact rfl)) : OutFr W s₀ (execGroupLocalReset g s) := by
  unfold execGroupLocalReset
  exact fr_next (fr_ite (State.groupReset_fr _ _ hs) hs)

theorem execBsSettleEnd_fr {W : Nat} {s₀ : State} (g : Fin 16) (s : State) (hs : State.Fr W s₀ s)
    (hw : partSub 0x8 W = true := by first | exact partSub_refl _ | exact partSub_trans (by with_reducible assumption) (by exact rfl)) : OutFr W s₀ (execBsSettleEnd g s) := by
  unfold execBsSettleEnd
  lift_lets
  intro x0
  exact outFr_ite (fr_next (State.setFlag_fr _ _ _ (State.setFld_fr _ _ _ hs))) (fr_next hs)

theorem execBsChWrite_fr {W : Nat} {s₀ : State} (b : BitVec 8) (v : BitVec 32) (s : State) (hs : State.Fr W s₀ s)
    (hw : partSub 0x8008 W = true := by first | exact partSub_refl _ | exact partSub_trans (by with_reducible assumption) (by exact rfl)) : OutFr W s₀ (execBsChWrite b v s) := by
  unfold execBsChWrite
  exact fr_next (State.bsChWrite_fr _ _ _ hs)

theorem State.coefAccess_fr {W : Nat} {s₀ : State} (s : State) (w : Option Nat) (hs : State.Fr W s₀ s)
    (hw : partSub 0x409008 W = true := by first | exact partSub_refl _ | exact partSub_trans (by with_reducible assumption) (by exact rfl)) : State.Fr W s₀ (State.coefAccess s w) := by
  unfold State.coefAccess
  lift_lets
  intro x0 x1 x2 x3
  have h4 : State.Fr W s₀ x3 := by
    dsimp -zeta only [x3]
    split
    · exact fr_mk rfl rfl rfl rfl hs
    · exact fr_ite (State.event_fr _ _ _ _ _ _ _ hs) (State.setCoef_fr _ _ _ _ _ hs)
  clear_value x3
  exact State.setFld_fr _ _ _ h4

theorem execBsCoefDataAccess_fr {W : Nat} {s₀ : State} (write : Bool) (v : BitVec 32) (s : State) (hs : State.Fr W s₀ s)
    (hw : partSub 0x409008 W = true := by first | exact partSub_refl _ | exact partSub_trans (by with_reducible assumption) (by exact rfl)) : OutFr W s₀ (execBsCoefDataAccess write v s) := by
  unfold execBsCoefDataAccess
  exact fr_next (State.coefAccess_fr _ _ hs)

theorem execSwap_fr {W : Nat} {s₀ : State} (g : Fin 16) (target : Bool) (s : State) (hs : State.Fr W s₀ s)
    (hw : partSub 0x80d008 W = true := by first | exact partSub_refl _ | exact partSub_trans (by with_reducible assumption) (by exact rfl)) : OutFr W s₀ (execSwap g target s) := by
  unfold execSwap
  exact fr_next (State.swapRequest_fr _ _ _ _ hs)

theorem execSwapDone_fr {W : Nat} {s₀ : State} (g : Fin 16) (s : State) (hs : State.Fr W s₀ s)
    (hw : partSub 0x80d008 W = true := by first | exact partSub_refl _ | exact partSub_trans (by with_reducible assumption) (by exact rfl)) : OutFr W s₀ (execSwapDone g s) := by
  unfold execSwapDone
  split
  · exact fr_next hs
  · exact fr_next (fr_ite (State.endFade_fr _ _ hs) hs)

theorem State.trackGroup_fr {W : Nat} {s₀ : State} (s : State) (g : Nat) (ratio : Nat) (offset : Nat) (hs : State.Fr W s₀ s)
    (hw : partSub 0x9008 W = true := by first | exact partSub_refl _ | exact partSub_trans (by with_reducible assumption) (by exact rfl)) : State.Fr W s₀ (State.trackGroup s g ratio offset) := by
  unfold State.trackGroup
  lift_lets
  intro x0 x1 x2
  have h3 : State.Fr W s₀ x2 := (State.setBsGroup_fr _ _ _ hs)
  clear_value x2
  intro x4
  have h5 : State.Fr W s₀ x4 := (State.setFlag_fr _ _ _ (State.setFlag_fr _ _ _ h3))
  clear_value x4
  intro x6 x7 x8
  have h9 : State.Fr W s₀ x8 := (fr_ite (State.setFld_fr _ _ _ hs) hs)
  clear_value x8
  intro x10 x11 x12
  have h13 : State.Fr W s₀ x12 := (State.setBsGroup_fr _ _ _ h9)
  clear_value x12
  exact fr_ite hs (fr_ite (fr_ite h3 (State.event_fr _ _ _ _ _ _ _ (State.incS_fr _ _ _ h5))) (fr_ite (fr_ite (State.localReset_fr _ _ (State.setFlag_fr _ _ _ (State.setFlag_fr _ _ _ (State.setBsGroup_fr _ _ _ hs)))) (State.setBsGroup_fr _ _ _ hs)) (fr_ite (State.setFlag_fr _ _ _ h13) (fr_ite (State.setFlag_fr _ _ _ h13) h13))))

theorem State.ratioWord_fr {W : Nat} {s₀ : State} (s : State) (g : Nat) (hs : State.Fr W s₀ s)
    (hw : partSub 0x9008 W = true := by first | exact partSub_refl _ | exact partSub_trans (by with_reducible assumption) (by exact rfl)) : State.Fr W s₀ (State.ratioWord s g) := by
  unfold State.ratioWord
  lift_lets
  intro x0 x1 x2
  have h3 : State.Fr W s₀ x2 := (State.setBsGroup_fr _ _ _ hs)
  clear_value x2
  intro x4
  exact fr_ite (fr_ite hs (fr_ite (State.raise_fr _ _ _ _ _ _ _ _ h3) (State.setFld_fr _ _ _ h3))) hs

theorem State.mailboxFinish_fr {W : Nat} {s₀ : State} (s : State) (hs : State.Fr W s₀ s)
    (hw : partSub 0x200008 W = true := by first | exact partSub_refl _ | exact partSub_trans (by with_reducible assumption) (by exact rfl)) : State.Fr W s₀ (State.mailboxFinish s) := by
  unfold State.mailboxFinish
  split
  · exact hs
  · lift_lets
    intro x0 x1
    have h2 : State.Fr W s₀ x1 := (fr_mk rfl rfl rfl rfl hs)
    clear_value x1
    intro x3
    have h4 : State.Fr W s₀ x3 := by
      dsimp -zeta only [x3]
      refine fr_foldl ?_ h2
      · intro y5 y6 g7
        exact State.setFld_fr _ _ _ g7
    clear_value x3
    intro x8
    have h9 : State.Fr W s₀ x8 := (State.setFld_fr _ _ _ (State.setFld_fr _ _ _ h4))
    clear_value x8
    exact State.setFlag_fr _ _ _ (State.setFlag_fr _ _ _ (State.setFlag_fr _ _ _ h9))

theorem State.mailboxHostReset_fr {W : Nat} {s₀ : State} (s : State) (hs : State.Fr W s₀ s)
    (hw : partSub 0x200008 W = true := by first | exact partSub_refl _ | exact partSub_trans (by with_reducible assumption) (by exact rfl)) : State.Fr W s₀ (State.mailboxHostReset s) := by
  unfold State.mailboxHostReset
  lift_lets
  intro x0
  have h1 : State.Fr W s₀ x0 := (fr_ite (State.mailboxFinish_fr _ hs) hs)
  clear_value x0
  exact State.setFlag_fr _ _ _ (State.setFlag_fr _ _ _ (State.setFlag_fr _ _ _ h1))

theorem State.mailboxClear_fr {W : Nat} {s₀ : State} (s : State) (hs : State.Fr W s₀ s)
    (hw : partSub 0x200008 W = true := by first | exact partSub_refl _ | exact partSub_trans (by with_reducible assumption) (by exact rfl)) : State.Fr W s₀ (State.mailboxClear s) := by
  unfold State.mailboxClear
  exact State.rstRegion_fr _ _ _ _ (fr_mk rfl rfl rfl rfl hs)

theorem State.ringStart_fr {W : Nat} {s₀ : State} (s : State) (r : Nat) (hs : State.Fr W s₀ s)
    (hw : partSub 0x804008 W = true := by first | exact partSub_refl _ | exact partSub_trans (by with_reducible assumption) (by exact rfl)) : State.Fr W s₀ (State.ringStart s r) := by
  unfold State.ringStart
  lift_lets
  intro x0 x1
  have h2 : State.Fr W s₀ x1 := (State.setRing_fr _ _ _ hs)
  clear_value x1
  intro x3 x4
  have h5 : State.Fr W s₀ x4 := (fr_ite (fr_mk rfl rfl rfl rfl h2) h2)
  clear_value x4
  intro x6
  have h7 : State.Fr W s₀ x6 := (State.emit_fr _ _ h5)
  clear_value x6
  exact State.setFld_fr _ _ _ (State.setFld_fr _ _ _ h7)

theorem State.ringStop_fr {W : Nat} {s₀ : State} (s : State) (r : Nat) (hs : State.Fr W s₀ s)
    (hw : partSub 0x4008 W = true := by first | exact partSub_refl _ | exact partSub_trans (by with_reducible assumption) (by exact rfl)) : State.Fr W s₀ (State.ringStop s r) := by
  unfold State.ringStop
  lift_lets
  intro x0 x1
  have h2 : State.Fr W s₀ x1 := (fr_ite (fr_mk rfl rfl rfl rfl hs) hs)
  clear_value x1
  exact fr_ite (State.setFld_fr _ _ _ hs) (State.setFld_fr _ _ _ h2)

theorem State.ringHalt_fr {W : Nat} {s₀ : State} (s : State) (r : Nat) (err : Nat) (hs : State.Fr W s₀ s)
    (hw : partSub 0x8008 W = true := by first | exact partSub_refl _ | exact partSub_trans (by with_reducible assumption) (by exact rfl)) : State.Fr W s₀ (State.ringHalt s r err) := by
  unfold State.ringHalt
  lift_lets
  intro x0
  have h1 : State.Fr W s₀ x0 := (State.setFld_fr _ _ _ (State.setFld_fr _ _ _ hs))
  clear_value x0
  exact State.raise_fr _ _ _ _ _ _ _ _ (State.setFlag_fr _ _ _ (State.incS_fr _ _ _ h1))

theorem State.rcfgWrite_fr {W : Nat} {s₀ : State} (s : State) (r : Nat) (v : Nat) (hs : State.Fr W s₀ s)
    (hw : partSub 0x80c008 W = true := by first | exact partSub_refl _ | exact partSub_trans (by with_reducible assumption) (by exact rfl)) : State.Fr W s₀ (State.rcfgWrite s r v) := by
  unfold State.rcfgWrite
  lift_lets
  intro x0 x1 x2 x3 x4
  have h5 : State.Fr W s₀ x4 := (fr_ite hs (State.reservedEncoding_fr _ _ _ hs))
  clear_value x4
  intro x6 x7 x8 x9 x10 x11
  have h12 : State.Fr W s₀ x11 := (State.setFld_fr _ _ _ (State.setFld_fr _ _ _ (State.setFlag_fr _ _ _ h5)))
  clear_value x11
  intro x13
  have h14 : State.Fr W s₀ x13 := (State.setFld_fr _ _ _ (State.setFld_fr _ _ _ h12))
  clear_value x13
  intro x15
  have h16 : State.Fr W s₀ x15 := (State.setFlag_fr _ _ _ h14)
  clear_value x15
  exact fr_ite (State.configRefused_fr _ _ _ h5) (fr_ite (State.ringStart_fr _ _ h16) (fr_ite (State.ringStop_fr _ _ h16) h16))

theorem State.pcieErr_fr {W : Nat} {s₀ : State} (s : State) (kind : Nat) (source : Nat) (ring : Nat) (addr : Nat) (hs : State.Fr W s₀ s)
    (hw : partSub 0xc008 W = true := by first | exact partSub_refl _ | exact partSub_trans (by with_reducible assumption) (by exact rfl)) : State.Fr W s₀ (State.pcieErr s kind source ring addr) := by
  unfold State.pcieErr
  lift_lets
  intro x0
  have h1 : State.Fr W s₀ x0 := (State.setFld_fr _ _ _ (State.setFld_fr _ _ _ (State.incS_fr _ _ _ hs)))
  clear_value x0
  intro x2
  have h3 : State.Fr W s₀ x2 := (State.setFlag_fr _ _ _ (State.setFld_fr _ _ _ h1))
  clear_value x2
  intro x4 x5
  exact fr_ite h3 (State.raise_fr _ _ _ _ _ _ _ _ (fr_mk rfl rfl rfl rfl h3))

theorem State.nextPoll_fr {W : Nat} {s₀ : State} (s : State) (hs : State.Fr W s₀ s)
    (hw : partSub 0x4008 W = true := by first | exact partSub_refl _ | exact partSub_trans (by with_reducible assumption) (by exact rfl)) : State.Fr W s₀ (State.nextPoll s) := by
  unfold State.nextPoll
  lift_lets
  intro x0 x1 x2
  have h3 : State.Fr W s₀ x2 := (State.setFlag_fr _ _ _ hs)
  clear_value x2
  intro x4
  exact fr_mk rfl rfl rfl rfl h3

theorem State.postBuf_fr {W : Nat} {s₀ : State} (s : State) (d : List (BitVec 32)) (hs : State.Fr W s₀ s)
    (hw : partSub 0x4000 W = true := by first | exact partSub_refl _ | exact partSub_trans (by with_reducible assumption) (by exact rfl)) : State.Fr W s₀ (State.postBuf s d) := by
  unfold State.postBuf
  lift_lets
  intro x0
  exact fr_mk rfl rfl rfl rfl hs

theorem State.pollRing_fr {W : Nat} {s₀ : State} (s : State) (rx : List (List (BitVec 32))) (r : Nat) (t : Nat) (hs : State.Fr W s₀ s)
    (hw : partSub 0xc008 W = true := by first | exact partSub_refl _ | exact partSub_trans (by with_reducible assumption) (by exact rfl)) : State.Fr W s₀ (State.pollRing s rx r t) := by
  unfold State.pollRing
  lift_lets
  intro x0 x1 x2 x3
  have h4 : State.Fr W s₀ x3 := (fr_mk rfl rfl rfl rfl hs)
  clear_value x3
  intro x5
  refine fr_ite hs (fr_ite (fr_ite (State.ringHalt_fr _ _ _ hs) (fr_ite hs (fr_ite (State.setRing_fr _ _ _ h4) (fr_foldl ?_ (State.setRing_fr _ _ _ h4))))) (fr_ite (State.ringHalt_fr _ _ _ hs) (fr_ite hs (State.setRing_fr _ _ _ h4))))
  · intro y6 y7 g8
    exact State.postBuf_fr _ _ g8

theorem State.lossSummaries_fr {W : Nat} {s₀ : State} (s : State) (hs : State.Fr W s₀ s)
    (hw : partSub 0x8008 W = true := by first | exact partSub_refl _ | exact partSub_trans (by with_reducible assumption) (by exact rfl)) : State.Fr W s₀ (State.lossSummaries s) := by
  unfold State.lossSummaries
  lift_lets
  intro x0
  have h1 : State.Fr W s₀ x0 := by
    dsimp -zeta only [x0]
    refine fr_foldl ?_ hs
    · intro y2 y3 g4
      lift_lets
      intro x5 x6
      exact fr_ite g4 (fr_mk rfl rfl rfl rfl g4)
  clear_value x0
  exact fr_ite (State.setFlag_fr _ _ _ h1) h1

theorem State.writeReport_fr {W : Nat} {s₀ : State} (s : State) (err : Bool) (hs : State.Fr W s₀ s)
    (hw : partSub 0x80c008 W = true := by first | exact partSub_refl _ | exact partSub_trans (by with_reducible assumption) (by exact rfl)) : State.Fr W s₀ (State.writeReport s err) := by
  unfold State.writeReport
  split
  · lift_lets
    intro x0 x1
    have h2 : State.Fr W s₀ x1 := (fr_mk rfl rfl rfl rfl hs)
    clear_value x1
    exact fr_ite (State.lossSummaries_fr _ (State.ringEntry_fr _ _ _ h2)) hs
  · exact hs

theorem State.hiFields_fr {W : Nat} {s₀ : State} (s : State) (hs : State.Fr W s₀ s)
    (hw : partSub 0x8 W = true := by first | exact partSub_refl _ | exact partSub_trans (by with_reducible assumption) (by exact rfl)) : State.Fr W s₀ (State.hiFields s) := by
  unfold State.hiFields
  lift_lets
  intro x0
  exact State.setFld_fr _ _ _ (State.rstRegion_fr _ _ _ _ hs)

theorem State.hiClear_fr {W : Nat} {s₀ : State} (s : State) (msix : Bool) (hs : State.Fr W s₀ s)
    (hw : partSub 0x4008 W = true := by first | exact partSub_refl _ | exact partSub_trans (by with_reducible assumption) (by exact rfl)) : State.Fr W s₀ (State.hiClear s msix) := by
  unfold State.hiClear
  lift_lets
  intro x0
  have h1 : State.Fr W s₀ x0 := (State.hiFields_fr _ hs)
  clear_value x0
  intro x2 x3
  exact fr_mk rfl rfl rfl rfl h1

theorem State.hostReset_fr {W : Nat} {s₀ : State} (s : State) (cause : Nat) (hs : State.Fr W s₀ s)
    (hw : partSub 0x20c008 W = true := by first | exact partSub_refl _ | exact partSub_trans (by with_reducible assumption) (by exact rfl)) : State.Fr W s₀ (State.hostReset s cause) := by
  unfold State.hostReset
  lift_lets
  intro x0
  have h1 : State.Fr W s₀ x0 := (State.incW_fr _ _ _ (State.mailboxHostReset_fr _ (State.hiClear_fr _ _ hs)))
  clear_value x0
  intro x2
  have h3 : State.Fr W s₀ x2 := (fr_ite (State.setFld_fr _ _ _ (State.setFld_fr _ _ _ (State.setFlag_fr _ _ _ h1))) h1)
  clear_value x2
  intro x4
  have h5 : State.Fr W s₀ x4 := (fr_ite (State.setFlag_fr _ _ _ h3) h3)
  clear_value x4
  intro x6
  have h7 : State.Fr W s₀ x6 := (fr_ite (State.setFlag_fr _ _ _ h5) (fr_ite (State.setFlag_fr _ _ _ h5) h5))
  clear_value x6
  exact State.raise_fr _ _ _ _ _ _ _ _ (State.setFlag_fr _ _ _ h7)

theorem State.start_fr {W : Nat} {s₀ : State} (s : State) (c : HCmd) (hs : State.Fr W s₀ s)
    (hw : partSub 0x4000 W = true := by first | exact partSub_refl _ | exact partSub_trans (by with_reducible assumption) (by exact rfl)) : State.Fr W s₀ (State.start s c) := by
  unfold State.start
  lift_lets
  intro x0
  exact State.setRing_fr _ _ _ hs

theorem State.checked_fr {W : Nat} {s₀ : State} (s : State) (c : HCmd) (o : Origin) (ok : Bool) (mode : Bool) (chan : Option Nat) (buf : Bool) (f : State → State) (hs : State.Fr W s₀ s) (hf : ∀ (x0 : State), State.Fr W s₀ x0 → State.Fr W s₀ (f x0))
    (hw : partSub 0x80c008 W = true := by first | exact partSub_refl _ | exact partSub_trans (by with_reducible assumption) (by exact rfl)) : State.Fr W s₀ (State.checked s c o ok mode chan buf f) := by
  unfold State.checked
  lift_lets
  intro x0
  exact fr_ite (State.complete_fr _ _ _ _ _ hs) (fr_ite (State.complete_fr _ _ _ _ _ hs) (fr_ite (State.complete_fr _ _ _ _ _ hs) (fr_ite (State.complete_fr _ _ _ _ _ (State.pcieErr_fr _ _ _ _ _ hs)) (hf _ hs))))

theorem State.command_fr {W : Nat} {s₀ : State} (s : State) (c : HCmd) (op : Nat) (ok : Bool) (mode : Bool) (chan : Option Nat) (buf : Bool) (f : State → Origin → State) (hs : State.Fr W s₀ s) (hf : ∀ (x0 : State) (x1 : Origin), State.Fr W s₀ x0 → State.Fr W s₀ (f x0 x1))
    (hw : partSub 0x80c008 W = true := by first | exact partSub_refl _ | exact partSub_trans (by with_reducible assumption) (by exact rfl)) : State.Fr W s₀ (State.command s c op ok mode chan buf f) := by
  unfold State.command
  lift_lets
  intro x0
  refine fr_ite (State.checked_fr _ _ _ _ _ _ _ _ (State.start_fr _ _ hs) ?_) hs
  · intro y1 g2
    exact hf _ _ g2

theorem State.withChan_fr {W : Nat} {s₀ : State} (s : State) (o : Origin) (n : Nat) (change : Bool) (f : State → Chan → State) (hs : State.Fr W s₀ s) (hf : ∀ (x0 : State) (x1 : Chan), State.Fr W s₀ x0 → State.Fr W s₀ (f x0 x1))
    (hw : partSub 0x80c008 W = true := by first | exact partSub_refl _ | exact partSub_trans (by with_reducible assumption) (by exact rfl)) : State.Fr W s₀ (State.withChan s o n change f) := by
  unfold State.withChan
  split
  · exact State.complete_fr _ _ _ _ _ hs
  · exact fr_ite (State.complete_fr _ _ _ _ _ hs) (hf _ _ hs)

theorem State.jobCommand_fr {W : Nat} {s₀ : State} (s : State) (c : HCmd) (op : Nat) (ok : Bool) (mode : Bool) (chan : Option Nat) (buf : Bool) (same : Job → Bool) (limit : Nat) (f : State → Origin → State) (hs : State.Fr W s₀ s) (hf : ∀ (x0 : State) (x1 : Origin), State.Fr W s₀ x0 → State.Fr W s₀ (f x0 x1))
    (hw : partSub 0x80c008 W = true := by first | exact partSub_refl _ | exact partSub_trans (by with_reducible assumption) (by exact rfl)) : State.Fr W s₀ (State.jobCommand s c op ok mode chan buf same limit f) := by
  unfold State.jobCommand
  lift_lets
  intro x0
  refine fr_ite (State.checked_fr _ _ _ _ _ _ _ _ (State.start_fr _ _ hs) ?_) hs
  · intro y1 g2
    exact fr_ite (State.complete_fr _ _ _ _ _ g2) (fr_ite (State.complete_fr _ _ _ _ _ g2) (fr_ite (State.complete_fr _ _ _ _ _ g2) (fr_ite (State.complete_fr _ _ _ _ _ g2) (hf _ _ g2))))

theorem State.suspended_fr {W : Nat} {s₀ : State} (s : State) (h_ : Nat) (hs : State.Fr W s₀ s)
    (hw : partSub 0x80c008 W = true := by first | exact partSub_refl _ | exact partSub_trans (by with_reducible assumption) (by exact rfl)) : State.Fr W s₀ (State.suspended s h_) := by
  unfold State.suspended
  split
  · exact hs
  · lift_lets
    intro x0
    have h1 : State.Fr W s₀ x0 := (State.setJob_fr _ _ hs)
    clear_value x0
    intro x2
    have h3 : State.Fr W s₀ x2 := (State.jobProgress_fr _ _ _ h1)
    clear_value x2
    refine fr_foldl ?_ h3
    · intro y4 y5 g6
      exact State.complete_fr _ _ _ _ _ g6

theorem State.remoteAccess_fr {W : Nat} {s₀ : State} (s : State) (a : Nat) (n : Nat) (data : Option (List Byte)) (host : Nat) (o : Option Origin) (hs : State.Fr W s₀ s)
    (hw : partSub 0x18108 W = true := by first | exact partSub_refl _ | exact partSub_trans (by with_reducible assumption) (by exact rfl)) : State.Fr W s₀ (State.remoteAccess s a n data host o) := by
  unfold State.remoteAccess
  lift_lets
  intro x0 x1 x2 x3 x4 x5
  refine fr_foldl ?_ hs
  · intro y6 y7 g8
    lift_lets
    intro x9 x10
    have h11 : State.Fr W s₀ x10 := (fr_mk rfl rfl rfl rfl g8)
    clear_value x10
    intro x12
    split
    · exact State.twCount_fr _ _ _ (State.fabQueue_fr _ _ _ _ h11)
    · exact State.twCount_fr _ _ _ (State.fabQueue_fr _ _ _ _ h11)

theorem State.remoteFail_fr {W : Nat} {s₀ : State} (s : State) (r : Remote) (status : Nat) (hs : State.Fr W s₀ s)
    (hw : partSub 0x80c108 W = true := by first | exact partSub_refl _ | exact partSub_trans (by with_reducible assumption) (by exact rfl)) : State.Fr W s₀ (State.remoteFail s r status) := by
  unfold State.remoteFail
  lift_lets
  intro x0 x1
  have h2 : State.Fr W s₀ x1 := (fr_mk rfl rfl rfl rfl hs)
  clear_value x1
  exact State.completeOpt_fr _ _ _ _ _ (State.remoteErr_fr _ h2)

theorem State.remoteAnswer_fr {W : Nat} {s₀ : State} (s : State) (l : Nat) (tag : Nat) (status : Nat) (write : Bool) (data : List Byte) (hs : State.Fr W s₀ s)
    (hw : partSub 0x80c108 W = true := by first | exact partSub_refl _ | exact partSub_trans (by with_reducible assumption) (by exact rfl)) : State.Fr W s₀ (State.remoteAnswer s l tag status write data) := by
  unfold State.remoteAnswer
  split
  · exact hs
  · lift_lets
    intro x0 x1
    have h2 : State.Fr W s₀ x1 := (fr_mk rfl rfl rfl rfl hs)
    clear_value x1
    intro x3
    have h4 : State.Fr W s₀ x3 := (fr_ite h2 (State.emit_fr _ _ h2))
    clear_value x3
    exact fr_ite (State.remoteFail_fr _ _ _ hs) (fr_ite h4 (State.completeOpt_fr _ _ _ _ _ h4))

theorem State.hostCopy_fr {W : Nat} {s₀ : State} (s : State) (a : Nat) (n : Nat) (host : Nat) (data : Option (List Byte)) (errs : List MemErr) (o : Origin) (hs : State.Fr W s₀ s)
    (hw : partSub 0x81c108 W = true := by first | exact partSub_refl _ | exact partSub_trans (by with_reducible assumption) (by exact rfl)) : State.Fr W s₀ (State.hostCopy s a n host data errs o) := by
  unfold State.hostCopy
  refine fr_ite (fr_ite (State.remoteAccess_fr _ _ _ _ _ _ hs) (State.complete_fr _ _ _ _ _ (State.remoteErr_fr _ hs))) ?_
  · split
    · refine fr_ite (State.complete_fr _ _ _ _ _ hs) ?_
      · split
        · exact State.complete_fr _ _ _ _ _ (State.unmappedEvent_fr _ _ hs)
        · exact State.complete_fr _ _ _ _ _ (State.setBytes_fr _ _ _ hs)
    · split
      · exact State.complete_fr _ _ _ _ _ (State.unmappedEvent_fr _ _ hs)
      · lift_lets
        intro x0
        have h1 : State.Fr W s₀ x0 := (State.memErrs_fr _ _ hs)
        clear_value x0
        exact fr_ite (State.complete_fr _ _ _ _ _ (State.poisonSeen_fr _ h1)) (State.complete_fr _ _ _ _ _ (State.emit_fr _ _ h1))

end Sys2Proof.Machine
end

