-- ==== Sys2Proof/Laws/FramePorts.lean ====
section
/-! SUPPORT. The frame lemmas of packet reception and transmission, migration and frame events (see Laws/Frame.lean). -/
set_option Elab.async false

namespace Sys2Proof.Machine

theorem State.endHold_fr {W : Nat} {s₀ : State} (s : State) (p : Nat) (i : Nat) (hs : State.Fr W s₀ s)
    (hw : partSub 0x208 W = true := by first | exact partSub_refl _ | exact partSub_trans (by with_reducible assumption) (by exact rfl)) : State.Fr W s₀ (State.endHold s p i) := by
  unfold State.endHold
  lift_lets
  intro x0 x1
  have h2 : State.Fr W s₀ x1 := by
    dsimp -zeta only [x1]
    split
    · exact State.setFld_fr _ _ _ hs
    · exact hs
  clear_value x1
  exact State.setPort_fr _ _ _ h2

theorem State.pausePri_fr {W : Nat} {s₀ : State} (s : State) (p : Nat) (i : Nat) (q_ : Nat) (hs : State.Fr W s₀ s)
    (hw : partSub 0x8208 W = true := by first | exact partSub_refl _ | exact partSub_trans (by with_reducible assumption) (by exact rfl)) : State.Fr W s₀ (State.pausePri s p i q_) := by
  unfold State.pausePri
  lift_lets
  intro x0 x1
  have h2 : State.Fr W s₀ x1 := (State.setPort_fr _ _ _ hs)
  clear_value x1
  exact fr_ite (State.endHold_fr _ _ _ hs) (State.incS_fr _ _ _ h2)

theorem State.showPaused_fr {W : Nat} {s₀ : State} (s : State) (p : Nat) (hs : State.Fr W s₀ s)
    (hw : partSub 0x8 W = true := by first | exact partSub_refl _ | exact partSub_trans (by with_reducible assumption) (by exact rfl)) : State.Fr W s₀ (State.showPaused s p) := by
  unfold State.showPaused
  exact State.setFld_fr _ _ _ hs

theorem State.macControl_fr {W : Nat} {s₀ : State} (s : State) (p : Nat) (l : List Byte) (hs : State.Fr W s₀ s)
    (hw : partSub 0x8208 W = true := by first | exact partSub_refl _ | exact partSub_trans (by with_reducible assumption) (by exact rfl)) : State.Fr W s₀ (State.macControl s p l).1 := by
  unfold State.macControl
  lift_lets
  intro x0
  refine fr_iteP hs (fr_iteP (State.showPaused_fr _ _ (fr_foldl ?_ hs)) (fr_iteP (State.showPaused_fr _ _ (fr_foldl ?_ hs)) hs))
  · intro y1 y2 g3
    exact State.pausePri_fr _ _ _ _ g3
  · intro y4 y5 g6
    exact fr_ite (State.pausePri_fr _ _ _ _ g6) g6

theorem State.rxCount_fr {W : Nat} {s₀ : State} (s : State) (p : Nat) (r : RxRec) (hs : State.Fr W s₀ s)
    (hw : partSub 0x8008 W = true := by first | exact partSub_refl _ | exact partSub_trans (by with_reducible assumption) (by exact rfl)) : State.Fr W s₀ (State.rxCount s p r) := by
  unfold State.rxCount
  lift_lets
  intro x0
  clear_value x0
  intro x1
  clear_value x1
  split
  · exact State.incS_fr _ _ _ hs
  · exact hs

theorem State.rxEnd_fr {W : Nat} {s₀ : State} (s : State) (p : Nat) (r : RxRec) (t : Nat) (hs : State.Fr W s₀ s)
    (hw : partSub 0x8108 W = true := by first | exact partSub_refl _ | exact partSub_trans (by with_reducible assumption) (by exact rfl)) : State.Fr W s₀ (State.rxEnd s p r t) := by
  unfold State.rxEnd
  lift_lets
  intro x0
  have h1 : State.Fr W s₀ x0 := (State.rxCount_fr _ _ _ hs)
  clear_value x0
  exact fr_ite (State.statRing_fr _ _ _ _ h1) h1

theorem State.toHost_fr {W : Nat} {s₀ : State} (s : State) (p : Nat) (r : RxRec) (t : Nat) (l : List Byte) (hs : State.Fr W s₀ s)
    (hw : partSub 0x80c108 W = true := by first | exact partSub_refl _ | exact partSub_trans (by with_reducible assumption) (by exact rfl)) : State.Fr W s₀ (State.toHost s p r t l) := by
  unfold State.toHost
  lift_lets
  intro x0
  have h1 : State.Fr W s₀ x0.1 := (State.hostDeliver_fr _ _ _ _ hs)
  clear_value x0
  exact fr_ite (State.rxEnd_fr _ _ _ _ h1) (State.rxEnd_fr _ _ _ _ hs)

theorem State.rtpInsert_fr {W : Nat} {s₀ : State} (s : State) (n : Nat) (c : Chan) (rtp : List Byte) (tag : Nat) (dec : Bool) (hs : State.Fr W s₀ s)
    (hw : partSub 0x8188 W = true := by first | exact partSub_refl _ | exact partSub_trans (by with_reducible assumption) (by exact rfl)) : State.Fr W s₀ (State.rtpInsert s n c rtp tag dec).1 := by
  unfold State.rtpInsert
  lift_lets
  intro x0 x1 x2 x3 x4
  have h5 : State.Fr W s₀ x4.1 := (State.jbInsert_fr _ _ _ _ _ _ _ _ hs)
  clear_value x4
  exact fr_iteP hs h5

theorem State.rtpIn_fr {W : Nat} {s₀ : State} (s : State) (n : Nat) (ctx : Nat) (rtp : List Byte) (tagOk : Bool) (r : RxRec) (hs : State.Fr W s₀ s)
    (hw : partSub 0x8388 W = true := by first | exact partSub_refl _ | exact partSub_trans (by with_reducible assumption) (by exact rfl)) : State.Fr W s₀ (State.rtpIn s n ctx rtp tagOk r).1 := by
  unfold State.rtpIn
  split
  · exact hs
  · lift_lets
    intro x0 x1 x2
    have h3 : State.Fr W s₀ x2.1 := (State.rtpInsert_fr _ _ _ _ _ _ hs)
    clear_value x2
    intro x4 x5 x6
    have h7 : State.Fr W s₀ x6.1 := (State.rtpInsert_fr _ _ _ _ _ _ (State.setSrtp_fr _ _ _ hs))
    clear_value x6
    refine fr_iteP hs ?_
    · split
      · exact hs
      · lift_lets
        intro x8
        exact fr_iteP hs (fr_iteP hs (fr_iteP h3 (fr_iteP hs h7)))

theorem State.missPath_fr {W : Nat} {s₀ : State} (s : State) (p : Nat) (r : RxRec) (t : Nat) (l : List Byte) (q_ : Parsed) (hs : State.Fr W s₀ s)
    (hw : partSub 0x80c108 W = true := by first | exact partSub_refl _ | exact partSub_trans (by with_reducible assumption) (by exact rfl)) : State.Fr W s₀ (State.missPath s p r t l q_) := by
  unfold State.missPath
  lift_lets
  intro x0
  split
  · lift_lets
    intro x1
    exact fr_ite (State.rxEnd_fr _ _ _ _ hs) (State.toHost_fr _ _ _ _ _ hs)
  · exact fr_ite (State.toHost_fr _ _ _ _ _ hs) (State.rxEnd_fr _ _ _ _ hs)

theorem State.logIngress_fr {W : Nat} {s₀ : State} (s : State) (i : Nat) (t : Nat) (port : Nat) (l : List Byte) (hs : State.Fr W s₀ s)
    (hw : partSub 0x18008 W = true := by first | exact partSub_refl _ | exact partSub_trans (by with_reducible assumption) (by exact rfl)) : State.Fr W s₀ (State.logIngress s i t port l) := by
  unfold State.logIngress
  lift_lets
  intro x0 x1 x2
  have h3 : State.Fr W s₀ x2 := (State.twCount_fr _ _ _ (State.setTwSlot_fr _ _ _ hs))
  clear_value x2
  intro x4
  have h5 : State.Fr W s₀ x4 := (fr_ite h3 (State.setFlag_fr _ _ _ (State.twCount_fr _ _ _ h3)))
  clear_value x4
  intro x6
  exact State.setFld_fr _ _ _ h5

theorem State.rxRoute_fr {W : Nat} {s₀ : State} (s : State) (p : Nat) (r : RxRec) (t : Nat) (l : List Byte) (q_ : Parsed) (tagOk : Bool) (hs : State.Fr W s₀ s)
    (hw : partSub 0x81c388 W = true := by first | exact partSub_refl _ | exact partSub_trans (by with_reducible assumption) (by exact rfl)) : State.Fr W s₀ (State.rxRoute s p r t l q_ tagOk) := by
  unfold State.rxRoute
  lift_lets
  intro x0
  have h1 : State.Fr W s₀ x0.1 := (State.ftLookup_fr _ _ _ _ _ _ _ _ hs)
  clear_value x0
  intro x2
  have h3 : State.Fr W s₀ x2 := h1
  clear_value x2
  refine fr_ite (State.missPath_fr _ _ _ _ _ _ hs) ?_
  · split
    · exact State.missPath_fr _ _ _ _ _ _ h3
    · lift_lets
      intro x4 x5 x6 x7 x8
      have h9 : State.Fr W s₀ x8 := (State.setWord_fr _ _ _ h3)
      clear_value x8
      intro x10
      have h11 : State.Fr W s₀ x10.1 := (State.rtpIn_fr _ _ _ _ _ _ h9)
      clear_value x10
      intro x12 x13
      have h14 : State.Fr W s₀ x13 := (fr_ite (State.mirror_fr _ _ h11) h11)
      clear_value x13
      split
      · split
        · exact State.rxEnd_fr _ _ _ _ (State.twCount_fr _ _ _ (State.fabQueue_fr _ _ _ _ h9))
        · exact State.rxEnd_fr _ _ _ _ h14
      · exact State.rxEnd_fr _ _ _ _ h9
      · exact State.toHost_fr _ _ _ _ _ h9

theorem State.receive_fr {W : Nat} {s₀ : State} (s : State) (p : Nat) (l : List Byte) (pcs : Bool) (overflow : Bool) (tagOk : Bool) (hs : State.Fr W s₀ s)
    (hw : partSub 0x81c388 W = true := by first | exact partSub_refl _ | exact partSub_trans (by with_reducible assumption) (by exact rfl)) : State.Fr W s₀ (State.receive s p l pcs overflow tagOk) := by
  unfold State.receive
  lift_lets
  intro x0 x1 x2 x3 x4 x5 x6 x7 x8
  have h9 : State.Fr W s₀ x8.1 := (State.macControl_fr _ _ _ hs)
  clear_value x8
  intro x10 x11 x12 x13 x14
  refine fr_ite (State.rxEnd_fr _ _ _ _ hs) (fr_ite (fr_ite (State.toHost_fr _ _ _ _ _ hs) (State.rxEnd_fr _ _ _ _ hs)) (fr_ite (State.rxEnd_fr _ _ _ _ h9) ?_))
  · split
    · exact State.rxEnd_fr _ _ _ _ (State.logIngress_fr _ _ _ _ _ hs)
    · exact fr_ite (State.rxEnd_fr _ _ _ _ hs) (fr_ite (fr_ite (State.toHost_fr _ _ _ _ _ hs) (State.rxEnd_fr _ _ _ _ hs)) (State.rxRoute_fr _ _ _ _ _ _ _ hs))

theorem State.feedFrame_fr {W : Nat} {s₀ : State} (s : State) (p : Nat) (l : List Byte) (tagOk : Bool) (ok : Nat → Bool) (hs : State.Fr W s₀ s)
    (hw : partSub 0x8388 W = true := by first | exact partSub_refl _ | exact partSub_trans (by with_reducible assumption) (by exact rfl)) : State.Fr W s₀ (State.feedFrame s p l tagOk ok) := by
  unfold State.feedFrame
  lift_lets
  intro x0 x1
  have h2 : State.Fr W s₀ x1.1 := (State.ftLookup_fr _ _ _ _ _ _ _ _ hs)
  clear_value x1
  refine fr_ite hs ?_
  · split
    · exact h2
    · lift_lets
      intro x3 x4
      exact fr_ite (State.rtpIn_fr _ _ _ _ _ _ h2) h2

theorem State.startAnnounce_fr {W : Nat} {s₀ : State} (s : State) (i : Nat) (planeB : Bool) (hs : State.Fr W s₀ s)
    (hw : partSub 0x18008 W = true := by first | exact partSub_refl _ | exact partSub_trans (by with_reducible assumption) (by exact rfl)) : State.Fr W s₀ (State.startAnnounce s i planeB) := by
  unfold State.startAnnounce
  lift_lets
  intro x0 x1 x2 x3 x4
  have h5 : State.Fr W s₀ x4 := (State.setTwSlot_fr _ _ _ hs)
  clear_value x4
  intro x6
  have h7 : State.Fr W s₀ x6 := (State.setFld_fr _ _ _ h5)
  clear_value x6
  exact fr_ite (State.raise_fr _ _ _ _ _ _ _ _ h7) h7

theorem State.takeoverPacket_fr {W : Nat} {s₀ : State} (s : State) (n : Nat) (plane : Nat) (hs : State.Fr W s₀ s)
    (hw : partSub 0x18008 W = true := by first | exact partSub_refl _ | exact partSub_trans (by with_reducible assumption) (by exact rfl)) : State.Fr W s₀ (State.takeoverPacket s n plane) := by
  unfold State.takeoverPacket
  split
  · exact hs
  · lift_lets
    intro x0 x1
    have h2 : State.Fr W s₀ x1 := (State.twCount_fr _ _ _ (State.setFlag_fr _ _ _ (State.setSlotState_fr _ _ _ hs)))
    clear_value x1
    intro x3
    have h4 : State.Fr W s₀ x3 := (fr_ite (State.setFld_fr _ _ _ h2) hs)
    clear_value x3
    exact fr_ite hs (fr_ite h4 (State.startAnnounce_fr _ _ _ h4))

theorem State.ageHead_fr {W : Nat} {s₀ : State} (s : State) (p : Nat) (i : Nat) (hs : State.Fr W s₀ s)
    (hw : partSub 0x80c388 W = true := by first | exact partSub_refl _ | exact partSub_trans (by with_reducible assumption) (by exact rfl)) : State.Fr W s₀ (State.ageHead s p i) := by
  unfold State.ageHead
  split
  · exact fr_ite (State.txDone_fr _ _ _ _ _ _ _ (State.setTxQueue_fr _ _ _ _ hs)) hs
  · exact hs

theorem State.startFrame_fr {W : Nat} {s₀ : State} (s : State) (p : Nat) (f : TxFrame) (hs : State.Fr W s₀ s)
    (hw : partSub 0x81c388 W = true := by first | exact partSub_refl _ | exact partSub_trans (by with_reducible assumption) (by exact rfl)) : State.Fr W s₀ (State.startFrame s p f) := by
  unfold State.startFrame
  lift_lets
  intro x0 x1 x2 x3 x4 x5
  have h6 : State.Fr W s₀ x5 := (fr_ite (State.setSrtp_fr _ _ _ hs) hs)
  clear_value x5
  intro x7 x8 x9
  have h10 : State.Fr W s₀ x9 := (State.setPort_fr _ _ _ h6)
  clear_value x9
  intro x11
  have h12 : State.Fr W s₀ x11 := by
    dsimp -zeta only [x11]
    split
    · exact fr_ite (State.setChan_fr _ _ _ h10) h10
    · exact h10
  clear_value x11
  intro x13 x14
  have h15 : State.Fr W s₀ x14 := (State.setPort_fr _ _ _ hs)
  clear_value x14
  intro x16
  split
  · exact fr_ite (State.txDone_fr _ _ _ _ _ _ _ hs) (State.takeoverPacket_fr _ _ _ h12)
  · exact State.setPort_fr _ _ _ hs
  · exact fr_mk rfl rfl rfl rfl h15

theorem State.transmit_fr {W : Nat} {s₀ : State} (s : State) (p : Nat) (hs : State.Fr W s₀ s)
    (hw : partSub 0x81c388 W = true := by first | exact partSub_refl _ | exact partSub_trans (by with_reducible assumption) (by exact rfl)) : State.Fr W s₀ (State.transmit s p) := by
  unfold State.transmit
  refine fr_ite hs ?_
  · split
    · exact hs
    · split
      · exact hs
      · lift_lets
        intro x0
        have h1 : State.Fr W s₀ x0.1 := (State.placeNote_fr _ _ _ hs)
        clear_value x0
        exact fr_ite (State.ageHead_fr _ _ _ hs) (fr_ite hs (fr_ite (State.setTxQueue_fr _ _ _ _ h1) (fr_ite hs (State.startFrame_fr _ _ _ (State.setTxQueue_fr _ _ _ _ hs)))))

theorem State.transmitEnd_fr {W : Nat} {s₀ : State} (s : State) (p : Nat) (aborted : Bool) (hs : State.Fr W s₀ s)
    (hw : partSub 0x80c388 W = true := by first | exact partSub_refl _ | exact partSub_trans (by with_reducible assumption) (by exact rfl)) : State.Fr W s₀ (State.transmitEnd s p aborted) := by
  unfold State.transmitEnd
  split
  · exact hs
  · lift_lets
    intro x0 x1
    have h2 : State.Fr W s₀ x1 := (State.setPort_fr _ _ _ hs)
    clear_value x1
    intro x3 x4 x5
    have h6 : State.Fr W s₀ x5 := by
      dsimp -zeta only [x5]
      split
      · exact State.emit_fr _ _ h2
      · exact State.emit_fr _ _ h2
    clear_value x5
    intro x7
    exact State.txDone_fr _ _ _ _ _ _ _ h6

theorem State.flushPort_fr {W : Nat} {s₀ : State} (s : State) (p : Nat) (pick : TxFrame → Bool) (hs : State.Fr W s₀ s)
    (hw : partSub 0x80c388 W = true := by first | exact partSub_refl _ | exact partSub_trans (by with_reducible assumption) (by exact rfl)) : State.Fr W s₀ (State.flushPort s p pick) := by
  unfold State.flushPort
  refine fr_foldl ?_ hs
  · intro y0 y1 g2
    lift_lets
    intro x3 x4
    have h5 : State.Fr W s₀ x4 := (State.setTxQueue_fr _ _ _ _ g2)
    clear_value x4
    refine fr_foldl ?_ h5
    · intro y6 y7 g8
      exact State.txDone_fr _ _ _ _ _ _ _ g8

theorem State.restartAn_fr {W : Nat} {s₀ : State} (s : State) (p : Nat) (hs : State.Fr W s₀ s)
    (hw : partSub 0x208 W = true := by first | exact partSub_refl _ | exact partSub_trans (by with_reducible assumption) (by exact rfl)) : State.Fr W s₀ (State.restartAn s p) := by
  unfold State.restartAn
  lift_lets
  intro x0 x1
  have h2 : State.Fr W s₀ x1 := (State.setPort_fr _ _ _ hs)
  clear_value x1
  exact State.setFld_fr _ _ _ (State.setFlag_fr _ _ _ h2)

theorem State.directLost_fr {W : Nat} {s₀ : State} (s : State) (p : Nat) (hs : State.Fr W s₀ s)
    (hw : partSub 0x87c008 W = true := by first | exact partSub_refl _ | exact partSub_trans (by with_reducible assumption) (by exact rfl)) : State.Fr W s₀ (State.directLost s p) := by
  unfold State.directLost
  lift_lets
  intro x0
  have h1 : State.Fr W s₀ x0 := (fr_ite (State.trigger_fr _ _ hs) hs)
  clear_value x0
  refine fr_foldl ?_ h1
  · intro y2 y3 g4
    exact fr_ite (State.suspect_fr _ _ g4) g4

theorem State.dropLink_fr {W : Nat} {s₀ : State} (s : State) (p : Nat) (hs : State.Fr W s₀ s)
    (hw : partSub 0x87c788 W = true := by first | exact partSub_refl _ | exact partSub_trans (by with_reducible assumption) (by exact rfl)) : State.Fr W s₀ (State.dropLink s p) := by
  unfold State.dropLink
  lift_lets
  intro x0 x1
  have h2 : State.Fr W s₀ x1 := (State.restartAn_fr _ _ (State.setFlag_fr _ _ _ hs))
  clear_value x1
  intro x3
  have h4 : State.Fr W s₀ x3 := (State.setFlag_fr _ _ _ (State.setFlag_fr _ _ _ h2))
  clear_value x3
  intro x5 x6
  have h7 : State.Fr W s₀ x6 := by
    dsimp -zeta only [x6]
    split
    · exact State.txDone_fr _ _ _ _ _ _ _ (State.setPort_fr _ _ _ h4)
    · exact h4
  clear_value x6
  intro x8
  have h9 : State.Fr W s₀ x8 := (State.flushPort_fr _ _ _ h7)
  clear_value x8
  intro x10 x11
  have h12 : State.Fr W s₀ x11 := (State.setPort_fr _ _ _ h9)
  clear_value x11
  exact State.recclkCheck_fr _ (fr_ite (State.directLost_fr _ _ h12) h12)

theorem State.linkDown_fr {W : Nat} {s₀ : State} (s : State) (p : Nat) (hs : State.Fr W s₀ s)
    (hw : partSub 0x87c788 W = true := by first | exact partSub_refl _ | exact partSub_trans (by with_reducible assumption) (by exact rfl)) : State.Fr W s₀ (State.linkDown s p) := by
  unfold State.linkDown
  exact fr_ite (State.event_fr _ _ _ _ _ _ _ (State.incS_fr _ _ _ (State.dropLink_fr _ _ hs))) hs

theorem State.portReset_fr {W : Nat} {s₀ : State} (s : State) (p : Nat) (o : Option Origin) (hs : State.Fr W s₀ s)
    (hw : partSub 0x87c788 W = true := by first | exact partSub_refl _ | exact partSub_trans (by with_reducible assumption) (by exact rfl)) : State.Fr W s₀ (State.portReset s p o) := by
  unfold State.portReset
  lift_lets
  intro x0
  have h1 : State.Fr W s₀ x0 := (State.dropLink_fr _ _ hs)
  clear_value x0
  intro x2 x3 x4
  have h5 : State.Fr W s₀ x4 := (State.setPort_fr _ _ _ h1)
  clear_value x4
  intro x6 x7
  exact State.rstRegion_fr _ _ _ _ (State.rstRegion_fr _ _ _ _ (State.rstRegion_fr _ _ _ _ (State.rstRegion_fr _ _ _ _ h5)))

theorem State.adopt_fr {W : Nat} {s₀ : State} (s : State) (a : Adopt) (hs : State.Fr W s₀ s)
    (hw : partSub 0x1c0 W = true := by first | exact partSub_refl _ | exact partSub_trans (by with_reducible assumption) (by exact rfl)) : State.Fr W s₀ (State.adopt s a) := by
  unfold State.adopt
  lift_lets
  intro x0 x1 x2
  have h3 : State.Fr W s₀ x2 := (State.putChan_fr _ _ _ hs)
  clear_value x2
  intro x4
  exact State.setFlow_fr _ _ _ (State.setFlow_fr _ _ _ h3)

theorem State.checkpointed_fr {W : Nat} {s₀ : State} (s : State) (h_ : Nat) (n : Nat) (hs : State.Fr W s₀ s)
    (hw : partSub 0xc008 W = true := by first | exact partSub_refl _ | exact partSub_trans (by with_reducible assumption) (by exact rfl)) : State.Fr W s₀ (State.checkpointed s h_ n) := by
  unfold State.checkpointed
  split
  · exact hs
  · lift_lets
    intro x0
    exact fr_ite (State.jobProgress_fr _ _ _ (State.setJob_fr _ _ hs)) hs

theorem State.fullSent_fr {W : Nat} {s₀ : State} (s : State) (n : Nat) (hs : State.Fr W s₀ s)
    (hw : partSub 0xc008 W = true := by first | exact partSub_refl _ | exact partSub_trans (by with_reducible assumption) (by exact rfl)) : State.Fr W s₀ (State.fullSent s n) := by
  unfold State.fullSent
  refine fr_foldl ?_ hs
  · intro y0 y1 g2
    exact State.checkpointed_fr _ _ _ g2

theorem State.checkpointSend_fr {W : Nat} {s₀ : State} (s : State) (n : Nat) (written : Nat) (hs : State.Fr W s₀ s)
    (hw : partSub 0x1c008 W = true := by first | exact partSub_refl _ | exact partSub_trans (by with_reducible assumption) (by exact rfl)) : State.Fr W s₀ (State.checkpointSend s n written) := by
  unfold State.checkpointSend
  split
  · lift_lets
    intro x0 x1 x2 x3
    have h4 : State.Fr W s₀ x3 := (State.fabQueue_fr _ _ _ _ hs)
    clear_value x3
    exact fr_ite (State.fullSent_fr _ _ h4) h4
  · exact hs

theorem State.checkpointAllDone_fr {W : Nat} {s₀ : State} (s : State) (l : Nat) (hs : State.Fr W s₀ s)
    (hw : partSub 0x80c008 W = true := by first | exact partSub_refl _ | exact partSub_trans (by with_reducible assumption) (by exact rfl)) : State.Fr W s₀ (State.checkpointAllDone s l) := by
  unfold State.checkpointAllDone
  refine fr_ite hs (fr_foldl ?_ hs)
  · intro y0 y1 g2
    exact State.endJob_fr _ _ _ _ _ g2

theorem State.migSend_fr {W : Nat} {s₀ : State} (s : State) (l : Nat) (r : MigrateRec) (hs : State.Fr W s₀ s)
    (hw : partSub 0x10000 W = true := by first | exact partSub_refl _ | exact partSub_trans (by with_reducible assumption) (by exact rfl)) : State.Fr W s₀ (State.migSend s l r) := by
  unfold State.migSend
  exact State.fabQueue_fr _ _ _ _ hs

theorem State.migCheckpoint_fr {W : Nat} {s₀ : State} (s : State) (n : Nat) (c : Chan) (j : Job) (frame : Nat) (stage : Nat) (final : Bool) (hs : State.Fr W s₀ s)
    (hw : partSub 0x10000 W = true := by first | exact partSub_refl _ | exact partSub_trans (by with_reducible assumption) (by exact rfl)) : State.Fr W s₀ (State.migCheckpoint s n c j frame stage final) := by
  unfold State.migCheckpoint
  exact State.migSend_fr _ _ _ hs

theorem State.migBoundary_fr {W : Nat} {s₀ : State} (s : State) (n : Nat) (c : Chan) (hs : State.Fr W s₀ s)
    (hw : partSub 0x10000 W = true := by first | exact partSub_refl _ | exact partSub_trans (by with_reducible assumption) (by exact rfl)) : State.Fr W s₀ (State.migBoundary s n c) := by
  unfold State.migBoundary
  refine fr_ite ?_ hs
  · split
    · exact fr_ite (State.migCheckpoint_fr _ _ _ _ _ _ _ hs) hs
    · exact hs

theorem State.migWithdraw_fr {W : Nat} {s₀ : State} (s : State) (n : Nat) (j : Job) (hs : State.Fr W s₀ s)
    (hw : partSub 0x10180 W = true := by first | exact partSub_refl _ | exact partSub_trans (by with_reducible assumption) (by exact rfl)) : State.Fr W s₀ (State.migWithdraw s n j) := by
  unfold State.migWithdraw
  lift_lets
  intro x0
  have h1 : State.Fr W s₀ x0 := by
    dsimp -zeta only [x0]
    split
    · exact fr_ite (State.putChan_fr _ _ _ hs) hs
    · exact hs
  clear_value x0
  exact State.migSend_fr _ _ _ h1

theorem State.migrationClosed_fr {W : Nat} {s₀ : State} (s : State) (n : Nat) (hs : State.Fr W s₀ s)
    (hw : partSub 0x81c188 W = true := by first | exact partSub_refl _ | exact partSub_trans (by with_reducible assumption) (by exact rfl)) : State.Fr W s₀ (State.migrationClosed s n) := by
  unfold State.migrationClosed
  lift_lets
  intro x0 x1
  have h2 : State.Fr W s₀ x1 := (fr_mk rfl rfl rfl rfl hs)
  clear_value x1
  split
  · exact fr_ite (State.endJob_fr _ _ _ _ _ (State.migWithdraw_fr _ _ _ h2)) h2
  · exact h2

theorem State.migAdmit_fr {W : Nat} {s₀ : State} (s : State) (l : Nat) (src : Nat) (dst : Nat) (frame : Nat) (mirror : Nat) (stagger : Nat) (units : Nat) (granules : Nat) (hs : State.Fr W s₀ s)
    (hw : partSub 0x981c8 W = true := by first | exact partSub_refl _ | exact partSub_trans (by with_reducible assumption) (by exact rfl)) : State.Fr W s₀ (State.migAdmit s l src dst frame mirror stagger units granules).1 := by
  unfold State.migAdmit
  refine fr_iteP hs (fr_iteP hs (fr_iteP hs ?_))
  · split
    · exact hs
    · lift_lets
      intro x0
      have h1 : State.Fr W s₀ x0 := (State.zeroRange_fr _ _ _ hs)
      clear_value x0
      intro x2 x3
      have h4 : State.Fr W s₀ x3 := (State.setBytes_fr _ _ _ h1)
      clear_value x3
      intro x5
      have h6 : State.Fr W s₀ x5 := (State.adopt_fr _ _ h4)
      clear_value x5
      intro x7
      exact State.budgetCheck_fr _ (fr_mk rfl rfl rfl rfl h6)

theorem State.migApply_fr {W : Nat} {s₀ : State} (s : State) (m : MigIn) (dst : Nat) (frame : Nat) (stage : Nat) (final : Bool) (bytes : List Byte) (notes : List Nat) (hs : State.Fr W s₀ s)
    (hw : partSub 0x181c8 W = true := by first | exact partSub_refl _ | exact partSub_trans (by with_reducible assumption) (by exact rfl)) : State.Fr W s₀ (State.migApply s m dst frame stage final bytes notes) := by
  unfold State.migApply
  split
  · exact hs
  · lift_lets
    intro x0
    have h1 : State.Fr W s₀ x0 := (State.setBytes_fr _ _ _ hs)
    clear_value x0
    intro x2 x3 x4 x5
    have h6 : State.Fr W s₀ x5 := (State.adopt_fr _ _ h1)
    clear_value x5
    intro x7 x8 x9
    have h10 : State.Fr W s₀ x9 := (fr_mk rfl rfl rfl rfl h6)
    clear_value x9
    intro x11
    have h12 : State.Fr W s₀ x11 := (State.migSend_fr _ _ _ h10)
    clear_value x11
    exact fr_ite (State.twCount_fr _ _ _ h12) h12

theorem State.migResumed_fr {W : Nat} {s₀ : State} (s : State) (n : Nat) (hs : State.Fr W s₀ s)
    (hw : partSub 0x10000 W = true := by first | exact partSub_refl _ | exact partSub_trans (by with_reducible assumption) (by exact rfl)) : State.Fr W s₀ (State.migResumed s n) := by
  unfold State.migResumed
  split
  · lift_lets
    intro x0
    exact fr_ite (fr_mk rfl rfl rfl rfl hs) (fr_mk rfl rfl rfl rfl hs)
  · exact hs

theorem State.migApplied_fr {W : Nat} {s₀ : State} (s : State) (n : Nat) (j : Job) (frame : Nat) (hs : State.Fr W s₀ s)
    (hw : partSub 0xc008 W = true := by first | exact partSub_refl _ | exact partSub_trans (by with_reducible assumption) (by exact rfl)) : State.Fr W s₀ (State.migApplied s n j frame) := by
  unfold State.migApplied
  split
  · exact hs
  · lift_lets
    intro x0 x1
    exact fr_ite (State.jobProgress_fr _ _ _ (State.setJob_fr _ _ hs)) (State.setJob_fr _ _ hs)

theorem State.migRecv_fr {W : Nat} {s₀ : State} (s : State) (l : Nat) (r : MigrateRec) (tagOk : Bool) (hs : State.Fr W s₀ s)
    (hw : partSub 0x89c3c8 W = true := by first | exact partSub_refl _ | exact partSub_trans (by with_reducible assumption) (by exact rfl)) : State.Fr W s₀ (State.migRecv s l r tagOk) := by
  unfold State.migRecv
  lift_lets
  intro x0 x1
  split
  · lift_lets
    intro x2
    have h3 : State.Fr W s₀ x2.1 := (State.migAdmit_fr _ _ _ _ _ _ _ _ _ hs)
    clear_value x2
    exact State.migSend_fr _ _ _ h3
  · split
    · refine fr_ite ?_ (fr_ite (State.jobProgress_fr _ _ _ (State.setJob_fr _ _ hs)) hs)
      · split
        · exact State.endJob_fr _ _ _ _ _ (fr_ite (State.putChan_fr _ _ _ hs) hs)
        · exact State.endJob_fr _ _ _ _ _ hs
    · exact hs
  · split
    · exact fr_ite (State.migApply_fr _ _ _ _ _ _ _ _ hs) hs
    · exact State.migSend_fr _ _ _ hs
  · split
    · exact fr_ite (State.migApplied_fr _ _ _ _ hs) hs
    · exact hs
  · exact State.feedFrame_fr _ _ _ _ _ hs
  · split
    · exact fr_ite (State.removeChan_fr _ _ (fr_mk rfl rfl rfl rfl hs)) hs
    · exact hs

theorem State.actingEnd_fr {W : Nat} {s₀ : State} (s : State) (hs : State.Fr W s₀ s)
    (hw : partSub 0x10008 W = true := by first | exact partSub_refl _ | exact partSub_trans (by with_reducible assumption) (by exact rfl)) : State.Fr W s₀ (State.actingEnd s) := by
  unfold State.actingEnd
  split
  · exact hs
  · lift_lets
    intro x0
    have h1 : State.Fr W s₀ x0 := (State.clearSlot_fr _ _ (State.setSlotState_fr _ _ _ hs))
    clear_value x0
    intro x2
    exact fr_ite (fr_mk rfl rfl rfl rfl h1) hs

theorem State.evacEpoch_fr {W : Nat} {s₀ : State} (s : State) (hs : State.Fr W s₀ s)
    (hw : partSub 0x14000 W = true := by first | exact partSub_refl _ | exact partSub_trans (by with_reducible assumption) (by exact rfl)) : State.Fr W s₀ (State.evacEpoch s) := by
  unfold State.evacEpoch
  split
  · exact fr_ite (State.flushNotes_fr _ (State.setJob_fr _ _ hs)) hs
  · exact hs

theorem State.evacHeard_fr {W : Nat} {s₀ : State} (s : State) (l : Nat) (slots : List Nat) (hs : State.Fr W s₀ s)
    (hw : partSub 0x81c008 W = true := by first | exact partSub_refl _ | exact partSub_trans (by with_reducible assumption) (by exact rfl)) : State.Fr W s₀ (State.evacHeard s l slots) := by
  unfold State.evacHeard
  lift_lets
  intro x0 x1
  have h2 : State.Fr W s₀ x1 := (fr_mk rfl rfl rfl rfl hs)
  clear_value x1
  refine fr_ite ?_ hs
  · split
    · exact State.endJob_fr _ _ _ _ _ h2
    · exact h2

theorem State.mediaAt_fr {W : Nat} {s₀ : State} (s : State) (n : Nat) (f : Nat) (hs : State.Fr W s₀ s)
    (hw : partSub 0x89c8 W = true := by first | exact partSub_refl _ | exact partSub_trans (by with_reducible assumption) (by exact rfl)) : State.Fr W s₀ (State.mediaAt s n f) := by
  unfold State.mediaAt
  split
  · exact hs
  · exact fr_ite (State.setChan_fr _ _ _ hs) (fr_ite (State.sourceTokens_fr _ _ _ _ (State.tdmSlotDone_fr _ _ _ hs)) (State.setChan_fr _ _ _ hs))

theorem State.boundary_fr {W : Nat} {s₀ : State} (s : State) (n : Nat) (c : Chan) (hs : State.Fr W s₀ s)
    (hw : partSub 0x8099c8 W = true := by first | exact partSub_refl _ | exact partSub_trans (by with_reducible assumption) (by exact rfl)) : State.Fr W s₀ (State.boundary s n c) := by
  unfold State.boundary
  lift_lets
  intro x0 x1 x2 x3
  have h4 : State.Fr W s₀ x3 := (State.putChan_fr _ _ _ hs)
  clear_value x3
  intro x5
  have h6 : State.Fr W s₀ x5 := (State.sourceTokens_fr _ _ _ _ h4)
  clear_value x5
  intro x7
  have h8 : State.Fr W s₀ x7 := by
    dsimp -zeta only [x7]
    refine fr_ite h6 ?_
    · split
      · exact State.bsPlay_fr _ _ _ _ h6
      · exact fr_ite (State.tdmPlay_fr _ _ _ h6) h6
  clear_value x7
  exact fr_ite (State.mediaAt_fr _ _ _ h8) h4

theorem execFrameTick_fr {W : Nat} {s₀ : State} (s : State) (hs : State.Fr W s₀ s)
    (hw : partSub 0x8199c8 W = true := by first | exact partSub_refl _ | exact partSub_trans (by with_reducible assumption) (by exact rfl)) : OutFr W s₀ (execFrameTick s) := by
  unfold execFrameTick
  refine outFr_ite (fr_next hs) (fr_next (fr_foldl ?_ hs))
  · intro y0 y1 g2
    split
    · exact fr_ite (State.boundary_fr _ _ _ (State.migBoundary_fr _ _ _ (State.migResumed_fr _ _ g2))) g2
    · exact g2

theorem State.latchCore_fr {W : Nat} {s₀ : State} (s : State) (k : Nat) (hs : State.Fr W s₀ s)
    (hw : partSub 0x50 W = true := by first | exact partSub_refl _ | exact partSub_trans (by with_reducible assumption) (by exact rfl)) : State.Fr W s₀ (State.latchCore s k) := by
  unfold State.latchCore
  lift_lets
  intro x0 x1 x2
  have h3 : State.Fr W s₀ x2 := (State.setCore_fr _ _ _ hs)
  clear_value x2
  intro x4 x5 x6 x7
  exact fr_ite (fr_mk rfl rfl rfl rfl h3) h3

theorem State.servoState_fr {W : Nat} {s₀ : State} (s : State) (v : Nat) (hs : State.Fr W s₀ s)
    (hw : partSub 0x8 W = true := by first | exact partSub_refl _ | exact partSub_trans (by with_reducible assumption) (by exact rfl)) : State.Fr W s₀ (State.servoState s v) := by
  unfold State.servoState
  lift_lets
  intro x0
  have h1 : State.Fr W s₀ x0 := (State.setFld_fr _ _ _ hs)
  clear_value x0
  exact fr_ite (State.setFld_fr _ _ _ h1) h1

theorem State.writeFreq_fr {W : Nat} {s₀ : State} (s : State) (v : Nat) (hs : State.Fr W s₀ s)
    (hw : partSub 0x8008 W = true := by first | exact partSub_refl _ | exact partSub_trans (by with_reducible assumption) (by exact rfl)) : State.Fr W s₀ (State.writeFreq s v) := by
  unfold State.writeFreq
  exact fr_ite (State.setFld_fr _ _ _ hs) (State.reservedEncoding_fr _ _ _ hs)

theorem State.servoBlock_fr {W : Nat} {s₀ : State} (s : State) (hs : State.Fr W s₀ s)
    (hw : partSub 0x8408 W = true := by first | exact partSub_refl _ | exact partSub_trans (by with_reducible assumption) (by exact rfl)) : State.Fr W s₀ (State.servoBlock s) := by
  unfold State.servoBlock
  lift_lets
  intro x0 x1 x2
  have h3 : State.Fr W s₀ x2 := (fr_mk rfl rfl rfl rfl hs)
  clear_value x2
  exact fr_ite (fr_ite (State.unmappedEvent_fr _ _ hs) (fr_ite hs (State.servoState_fr _ _ (State.setResidue_fr _ _ (State.writeFreq_fr _ _ h3))))) hs

theorem State.latchLag_fr {W : Nat} {s₀ : State} (s : State) (hs : State.Fr W s₀ s)
    (hw : partSub 0x10008 W = true := by first | exact partSub_refl _ | exact partSub_trans (by with_reducible assumption) (by exact rfl)) : State.Fr W s₀ (State.latchLag s) := by
  unfold State.latchLag
  refine fr_foldl ?_ hs
  · intro y0 y1 g2
    lift_lets
    intro x3
    exact State.setFld_fr _ _ _ (State.setTwSlot_fr _ _ _ g2)

theorem execCompassEpoch_fr {W : Nat} {s₀ : State} (meas : List (Nat × Nat)) (s : State) (hs : State.Fr W s₀ s)
    (hw : partSub 0x1d458 W = true := by first | exact partSub_refl _ | exact partSub_trans (by with_reducible assumption) (by exact rfl)) : OutFr W s₀ (execCompassEpoch meas s) := by
  unfold execCompassEpoch
  lift_lets
  intro x0 x1
  have h2 : State.Fr W s₀ x1 := (fr_mk rfl rfl rfl rfl hs)
  clear_value x1
  intro x3
  have h4 : State.Fr W s₀ x3 := by
    dsimp -zeta only [x3]
    refine fr_foldl ?_ h2
    · intro y5 y6 g7
      exact State.latchCore_fr _ _ g7
  clear_value x3
  intro x8
  have h9 : State.Fr W s₀ x8 := (State.latchLag_fr _ (State.evacEpoch_fr _ (State.servoBlock_fr _ h4)))
  clear_value x8
  intro x10
  have h11 : State.Fr W s₀ x10 := by
    dsimp -zeta only [x10]
    refine fr_foldl ?_ h9
    · intro y12 y13 g14
      split
      · exact State.trackGroup_fr _ _ _ _ g14
      · exact g14
  clear_value x10
  refine outFr_ite (fr_next (fr_foldl ?_ h11)) (fr_next hs)
  · intro y15 y16 g17
    exact State.ratioWord_fr _ _ g17

end Sys2Proof.Machine
end

