-- ==== Sys2Proof/Laws/FrameLmu.lean ====
section
/-! SUPPORT. The frame lemmas of the LMU, the packet ports and management (see Laws/Frame.lean). -/
set_option Elab.async false

namespace Sys2Proof.Machine

theorem State.blankFollow_fr {W : Nat} {s₀ : State} (s : State) (on : Bool) (hs : State.Fr W s₀ s)
    (hw : partSub 0x2008 W = true := by first | exact partSub_refl _ | exact partSub_trans (by with_reducible assumption) (by exact rfl)) : State.Fr W s₀ (State.blankFollow s on) := by
  unfold State.blankFollow
  lift_lets
  intro x0 x1 x2
  have h3 : State.Fr W s₀ x2 := (fr_mk rfl rfl rfl rfl hs)
  clear_value x2
  exact fr_ite hs (State.setFlag_fr _ _ _ h3)

theorem State.setRelays_fr {W : Nat} {s₀ : State} (s : State) (v : Nat) (hs : State.Fr W s₀ s)
    (hw : partSub 0x800008 W = true := by first | exact partSub_refl _ | exact partSub_trans (by with_reducible assumption) (by exact rfl)) : State.Fr W s₀ (State.setRelays s v) := by
  unfold State.setRelays
  refine fr_foldl ?_ hs
  · intro y0 y1 g2
    exact fr_ite g2 (State.emit_fr _ _ (State.setFlag_fr _ _ _ g2))

theorem State.applyExc_fr {W : Nat} {s₀ : State} (s : State) (e : List Nat) (hs : State.Fr W s₀ s)
    (hw : partSub 0x2000 W = true := by first | exact partSub_refl _ | exact partSub_trans (by with_reducible assumption) (by exact rfl)) : State.Fr W s₀ (State.applyExc s e) := by
  unfold State.applyExc
  lift_lets
  intro x0
  exact fr_ite hs (fr_mk rfl rfl rfl rfl hs)

theorem State.lmRun_fr {W : Nat} {s₀ : State} (s : State) (r : LmRun) (hs : State.Fr W s₀ s)
    (hw : partSub 0x2000 W = true := by first | exact partSub_refl _ | exact partSub_trans (by with_reducible assumption) (by exact rfl)) : State.Fr W s₀ (State.lmRun s r) := by
  unfold State.lmRun
  lift_lets
  intro x0
  exact fr_mk rfl rfl rfl rfl hs

theorem State.lmStep_fr {W : Nat} {s₀ : State} (s : State) (n : Nat) (hs : State.Fr W s₀ s)
    (hw : partSub 0x8 W = true := by first | exact partSub_refl _ | exact partSub_trans (by with_reducible assumption) (by exact rfl)) : State.Fr W s₀ (State.lmStep s n) := by
  unfold State.lmStep
  exact State.setFld_fr _ _ _ hs

theorem State.lmBegin_fr {W : Nat} {s₀ : State} (s : State) (e : List Nat) (telem : Bool) (index : Nat) (hs : State.Fr W s₀ s)
    (hw : partSub 0x2008 W = true := by first | exact partSub_refl _ | exact partSub_trans (by with_reducible assumption) (by exact rfl)) : State.Fr W s₀ (State.lmBegin s e telem index) := by
  unfold State.lmBegin
  lift_lets
  intro x0
  exact State.setFld_fr _ _ _ (State.lmStep_fr _ _ (State.lmRun_fr _ _ hs))

theorem State.lmGapStart_fr {W : Nat} {s₀ : State} (s : State) (r : LmRun) (hs : State.Fr W s₀ s)
    (hw : partSub 0x802008 W = true := by first | exact partSub_refl _ | exact partSub_trans (by with_reducible assumption) (by exact rfl)) : State.Fr W s₀ (State.lmGapStart s r) := by
  unfold State.lmGapStart
  lift_lets
  intro x0 x1 x2 x3 x4
  have h5 : State.Fr W s₀ x4 := (State.setRelays_fr _ _ hs)
  clear_value x4
  intro x6
  have h7 : State.Fr W s₀ x6 := (fr_ite (State.applyExc_fr _ _ h5) h5)
  clear_value x6
  intro x8
  exact State.setFld_fr _ _ _ (State.lmStep_fr _ _ (State.lmRun_fr _ _ h7))

theorem State.lmClose_fr {W : Nat} {s₀ : State} (s : State) (r : LmRun) (hs : State.Fr W s₀ s)
    (hw : partSub 0x2008 W = true := by first | exact partSub_refl _ | exact partSub_trans (by with_reducible assumption) (by exact rfl)) : State.Fr W s₀ (State.lmClose s r) := by
  unfold State.lmClose
  lift_lets
  intro x0 x1
  have h2 : State.Fr W s₀ x1 := (fr_mk rfl rfl rfl rfl hs)
  clear_value x1
  exact State.lmStep_fr _ _ (State.lmRun_fr _ _ h2)

theorem State.lmAfterGap_fr {W : Nat} {s₀ : State} (s : State) (r : LmRun) (hs : State.Fr W s₀ s)
    (hw : partSub 0x2008 W = true := by first | exact partSub_refl _ | exact partSub_trans (by with_reducible assumption) (by exact rfl)) : State.Fr W s₀ (State.lmAfterGap s r) := by
  unfold State.lmAfterGap
  lift_lets
  intro x0 x1
  have h2 : State.Fr W s₀ x1 := (fr_mk rfl rfl rfl rfl hs)
  clear_value x1
  exact fr_ite (State.lmStep_fr _ _ (State.lmRun_fr _ _ h2)) (State.lmClose_fr _ _ hs)

theorem State.lmConnect_fr {W : Nat} {s₀ : State} (s : State) (r : LmRun) (hs : State.Fr W s₀ s)
    (hw : partSub 0x2008 W = true := by first | exact partSub_refl _ | exact partSub_trans (by with_reducible assumption) (by exact rfl)) : State.Fr W s₀ (State.lmConnect s r) := by
  unfold State.lmConnect
  lift_lets
  intro x0 x1 x2
  have h3 : State.Fr W s₀ x2 := (fr_mk rfl rfl rfl rfl hs)
  clear_value x2
  intro x4
  have h5 : State.Fr W s₀ x4 := (State.lmStep_fr _ _ (State.lmRun_fr _ _ h3))
  clear_value x4
  exact State.setFld_fr _ _ _ (State.setFld_fr _ _ _ h5)

theorem State.lmIdle_fr {W : Nat} {s₀ : State} (s : State) (hs : State.Fr W s₀ s)
    (hw : partSub 0x2008 W = true := by first | exact partSub_refl _ | exact partSub_trans (by with_reducible assumption) (by exact rfl)) : State.Fr W s₀ (State.lmIdle s) := by
  unfold State.lmIdle
  lift_lets
  intro x0 x1 x2
  have h3 : State.Fr W s₀ x2 := (fr_mk rfl rfl rfl rfl hs)
  clear_value x2
  exact fr_ite (State.lmStep_fr _ _ h3) (State.lmStep_fr _ _ (State.setFld_fr _ _ _ h3))

theorem State.lmRelease_fr {W : Nat} {s₀ : State} (s : State) (hs : State.Fr W s₀ s)
    (hw : partSub 0x802008 W = true := by first | exact partSub_refl _ | exact partSub_trans (by with_reducible assumption) (by exact rfl)) : State.Fr W s₀ (State.lmRelease s) := by
  unfold State.lmRelease
  lift_lets
  intro x0 x1
  have h2 : State.Fr W s₀ x1 := (fr_mk rfl rfl rfl rfl hs)
  clear_value x1
  exact State.setFld_fr _ _ _ (State.lmStep_fr _ _ (State.setRelays_fr _ _ h2))

theorem State.endSweep_fr {W : Nat} {s₀ : State} (s : State) (status : Nat) (hs : State.Fr W s₀ s)
    (hw : partSub 0x80e008 W = true := by first | exact partSub_refl _ | exact partSub_trans (by with_reducible assumption) (by exact rfl)) : State.Fr W s₀ (State.endSweep s status) := by
  unfold State.endSweep
  split
  · exact hs
  · lift_lets
    intro x0 x1
    have h2 : State.Fr W s₀ x1 := (fr_mk rfl rfl rfl rfl hs)
    clear_value x1
    intro x3
    have h4 : State.Fr W s₀ x3 := (fr_ite h2 (State.lmIdle_fr _ (State.lmRelease_fr _ h2)))
    clear_value x3
    exact State.endJob_fr _ _ _ _ _ h4

theorem State.suspendSweep_fr {W : Nat} {s₀ : State} (s : State) (w : LmSweep) (hs : State.Fr W s₀ s)
    (hw : partSub 0x80e008 W = true := by first | exact partSub_refl _ | exact partSub_trans (by with_reducible assumption) (by exact rfl)) : State.Fr W s₀ (State.suspendSweep s w) := by
  unfold State.suspendSweep
  lift_lets
  intro x0 x1
  have h2 : State.Fr W s₀ x1 := (fr_mk rfl rfl rfl rfl hs)
  clear_value x1
  intro x3
  have h4 : State.Fr W s₀ x3 := (State.lmIdle_fr _ (State.lmRelease_fr _ h2))
  clear_value x3
  split
  · exact h4
  · lift_lets
    intro x5
    have h6 : State.Fr W s₀ x5 := (State.setJob_fr _ _ h4)
    clear_value x5
    refine State.jobProgress_fr _ _ _ (fr_foldl ?_ h6)
    · intro y7 y8 g9
      exact State.complete_fr _ _ _ _ _ g9

theorem State.sweepEntry_fr {W : Nat} {s₀ : State} (s : State) (w : LmSweep) (hs : State.Fr W s₀ s)
    (hw : partSub 0x2008 W = true := by first | exact partSub_refl _ | exact partSub_trans (by with_reducible assumption) (by exact rfl)) : State.Fr W s₀ (State.sweepEntry s w) := by
  unfold State.sweepEntry
  lift_lets
  intro x0 x1
  have h2 : State.Fr W s₀ x1 := (fr_mk rfl rfl rfl rfl hs)
  clear_value x1
  exact State.setFld_fr _ _ _ (State.lmBegin_fr _ _ _ _ h2)

theorem State.nextSweep_fr {W : Nat} {s₀ : State} (s : State) (w : LmSweep) (hs : State.Fr W s₀ s)
    (hw : partSub 0x80e008 W = true := by first | exact partSub_refl _ | exact partSub_trans (by with_reducible assumption) (by exact rfl)) : State.Fr W s₀ (State.nextSweep s w) := by
  unfold State.nextSweep
  lift_lets
  intro x0 x1 x2 x3 x4
  have h5 : State.Fr W s₀ x4 := (fr_mk rfl rfl rfl rfl hs)
  clear_value x4
  intro x6
  have h7 : State.Fr W s₀ x6 := (State.setFlag_fr _ _ _ h5)
  clear_value x6
  intro x8
  have h9 : State.Fr W s₀ x8 := by
    dsimp -zeta only [x8]
    refine fr_ite ?_ h5
    · split
      · exact State.jobProgress_fr _ _ _ (State.setJob_fr _ _ h7)
      · exact h7
  clear_value x8
  intro x10 x11
  have h12 : State.Fr W s₀ x11 := (fr_mk rfl rfl rfl rfl h9)
  clear_value x11
  exact fr_ite (State.endSweep_fr _ _ h9) (fr_ite (State.suspendSweep_fr _ _ h9) (fr_ite (State.lmIdle_fr _ h12) (State.sweepEntry_fr _ _ h9)))

theorem State.nextTelem_fr {W : Nat} {s₀ : State} (s : State) (hs : State.Fr W s₀ s)
    (hw : partSub 0x2008 W = true := by first | exact partSub_refl _ | exact partSub_trans (by with_reducible assumption) (by exact rfl)) : State.Fr W s₀ (State.nextTelem s) := by
  unfold State.nextTelem
  split
  · lift_lets
    intro x0 x1
    have h2 : State.Fr W s₀ x1 := (fr_mk rfl rfl rfl rfl hs)
    clear_value x1
    refine fr_ite (State.sweepEntry_fr _ _ h2) ?_
    · split
      · exact State.lmBegin_fr _ _ _ _ (fr_mk rfl rfl rfl rfl hs)
      · exact State.lmIdle_fr _ (fr_mk rfl rfl rfl rfl hs)
  · lift_lets
    intro x3
    exact State.lmBegin_fr _ _ _ _ (fr_mk rfl rfl rfl rfl hs)
  · lift_lets
    intro x4
    exact State.lmIdle_fr _ (fr_mk rfl rfl rfl rfl hs)

theorem State.lmNext_fr {W : Nat} {s₀ : State} (s : State) (r : LmRun) (hs : State.Fr W s₀ s)
    (hw : partSub 0x80e008 W = true := by first | exact partSub_refl _ | exact partSub_trans (by with_reducible assumption) (by exact rfl)) : State.Fr W s₀ (State.lmNext s r) := by
  unfold State.lmNext
  refine fr_ite hs (fr_ite (State.nextTelem_fr _ hs) ?_)
  · split
    · exact State.nextSweep_fr _ _ hs
    · exact State.lmIdle_fr _ hs

theorem State.lmToken_fr {W : Nat} {s₀ : State} (s : State) (cfg : Nat) (hs : State.Fr W s₀ s)
    (hw : partSub 0x81c8 W = true := by first | exact partSub_refl _ | exact partSub_trans (by with_reducible assumption) (by exact rfl)) : State.Fr W s₀ (State.lmToken s cfg) := by
  unfold State.lmToken
  lift_lets
  intro x0 x1
  split
  · exact fr_ite (State.sourceToken_fr _ _ _ _ hs) (State.hwDrop_fr _ _ _ hs)
  · exact State.hwDrop_fr _ _ _ hs

theorem State.lmFinish_fr {W : Nat} {s₀ : State} (s : State) (r : LmRun) (flags : Nat) (hs : State.Fr W s₀ s)
    (hw : partSub 0x80e1c8 W = true := by first | exact partSub_refl _ | exact partSub_trans (by with_reducible assumption) (by exact rfl)) : State.Fr W s₀ (State.lmFinish s r flags) := by
  unfold State.lmFinish
  lift_lets
  intro x0 x1 x2 x3 x4 x5
  have h6 : State.Fr W s₀ x5 := (fr_ite (fr_ite (fr_ite hs (State.setFld_fr _ _ _ hs)) (State.setFlag_fr _ _ _ (State.setFld_fr _ _ _ hs))) hs)
  clear_value x5
  intro x7 x8
  have h9 : State.Fr W s₀ x8 := by
    dsimp -zeta only [x8]
    refine fr_ite h6 ?_
    · split
      · exact h6
      · lift_lets
        intro x10
        have h11 : State.Fr W s₀ x10 := (State.setBytes_fr _ _ _ h6)
        clear_value x10
        intro x12
        have h13 : State.Fr W s₀ x12 := (State.setFlag_fr _ _ _ (State.incW_fr _ _ _ h11))
        clear_value x12
        exact fr_ite (State.lmToken_fr _ _ h13) h13
  clear_value x8
  exact State.lmNext_fr _ _ h9

theorem State.lmChange_fr {W : Nat} {s₀ : State} (s : State) (r : LmRun) (rg : Nat) (next : Nat) (hs : State.Fr W s₀ s)
    (hw : partSub 0x8 W = true := by first | exact partSub_refl _ | exact partSub_trans (by with_reducible assumption) (by exact rfl)) : State.Fr W s₀ (State.lmChange s r rg next).1 := by
  unfold State.lmChange
  lift_lets
  intro x0
  have h1 : State.Fr W s₀ x0 := (State.setFlag_fr _ _ _ (State.incW_fr _ _ _ hs))
  clear_value x0
  intro x2 x3
  exact State.setFld_fr _ _ _ h1

theorem State.lmCount_fr {W : Nat} {s₀ : State} (s : State) (r : LmRun) (cfg : ChainCfg) (cw : Nat) (k : Nat) (t : Nat) (y : Int) (hs : State.Fr W s₀ s)
    (hw : partSub 0x2000 W = true := by first | exact partSub_refl _ | exact partSub_trans (by with_reducible assumption) (by exact rfl)) : State.Fr W s₀ (State.lmCount s r cfg cw k t y).1 := by
  unfold State.lmCount
  lift_lets
  intro x0 x1 x2 x3 x4 x5 x6 x7 x8 x9 x10 x11 x12
  have h13 : State.Fr W s₀ x12 := (fr_ite (fr_mk rfl rfl rfl rfl hs) hs)
  clear_value x12
  intro x14 x15 x16 x17 x18
  exact fr_iteP hs (fr_iteP (fr_iteP h13 h13) h13)

theorem State.lmOutput_fr {W : Nat} {s₀ : State} (s : State) (r : LmRun) (bits : List Bool) (hs : State.Fr W s₀ s)
    (hw : partSub 0x80e1c8 W = true := by first | exact partSub_refl _ | exact partSub_trans (by with_reducible assumption) (by exact rfl)) : State.Fr W s₀ (State.lmOutput s r bits) := by
  unfold State.lmOutput
  lift_lets
  intro x0
  clear_value x0
  intro x1
  clear_value x1
  intro x2
  clear_value x2
  intro x3
  clear_value x3
  intro x4
  clear_value x4
  intro x5
  clear_value x5
  intro x6
  have h7 : State.Fr W s₀ x6 := (fr_mk rfl rfl rfl rfl hs)
  clear_value x6
  intro x8
  clear_value x8
  intro x9
  clear_value x9
  intro x10
  clear_value x10
  intro x11
  clear_value x11
  intro x12
  clear_value x12
  intro x13
  clear_value x13
  intro x14
  have h15 : State.Fr W s₀ x14 := (fr_ite (State.applyExc_fr _ _ h7) h7)
  clear_value x14
  intro x16
  clear_value x16
  split
  · exact hs
  · lift_lets
    intro x17
    clear_value x17
    intro x18
    clear_value x18
    intro x19
    have h20 : State.Fr W s₀ x19.1 := (State.lmCount_fr _ _ _ _ _ _ _ h15)
    clear_value x19
    intro x21
    have h22 : State.Fr W s₀ x21 := h20
    clear_value x21
    intro x23
    clear_value x23
    split
    · lift_lets
      intro x24
      have h25 : State.Fr W s₀ x24.1 := (State.lmChange_fr _ _ _ _ h22)
      clear_value x24
      exact State.lmRun_fr _ _ h25
    · exact fr_ite (State.lmFinish_fr _ _ _ h22) (State.lmStep_fr _ _ (State.lmRun_fr _ _ h22))

theorem execStileReadback_fr {W : Nat} {s₀ : State} (s : State) (hs : State.Fr W s₀ s)
    (hw : partSub 0x802008 W = true := by first | exact partSub_refl _ | exact partSub_trans (by with_reducible assumption) (by exact rfl)) : OutFr W s₀ (execStileReadback s) := by
  unfold execStileReadback
  refine fr_next ?_
  · split
    · exact hs
    · split
      · lift_lets
        intro x0
        exact State.lmGapStart_fr _ _ (fr_mk rfl rfl rfl rfl hs)
      · lift_lets
        intro x1
        exact State.lmClose_fr _ _ (fr_mk rfl rfl rfl rfl hs)
      · exact State.lmConnect_fr _ _ hs
      · exact hs

theorem State.lmOut_fr {W : Nat} {s₀ : State} (s : State) (sw : Nat) (hs : State.Fr W s₀ s)
    (hw : partSub 0x80e008 W = true := by first | exact partSub_refl _ | exact partSub_trans (by with_reducible assumption) (by exact rfl)) : State.Fr W s₀ (State.lmOut s sw) := by
  unfold State.lmOut
  lift_lets
  intro x0
  have h1 : State.Fr W s₀ x0 := (State.incS_fr _ _ _ (State.setFlag_fr _ _ _ (State.setFld_fr _ _ _ hs)))
  clear_value x0
  intro x2
  have h3 : State.Fr W s₀ x2 := (State.event_fr _ _ _ _ _ _ _ h1)
  clear_value x2
  intro x4 x5
  have h6 : State.Fr W s₀ x5 := (fr_mk rfl rfl rfl rfl h3)
  clear_value x5
  intro x7
  have h8 : State.Fr W s₀ x7 := (State.lmStep_fr _ _ (State.setFld_fr _ _ _ h6))
  clear_value x7
  intro x9
  have h10 : State.Fr W s₀ x9 := (State.endSweep_fr _ _ h8)
  clear_value x9
  intro x11
  exact fr_mk rfl rfl rfl rfl h10

theorem execStileStuckClosed_fr {W : Nat} {s₀ : State} (sw : Fin 41) (s : State) (hs : State.Fr W s₀ s)
    (hw : partSub 0x80e008 W = true := by first | exact partSub_refl _ | exact partSub_trans (by with_reducible assumption) (by exact rfl)) : OutFr W s₀ (execStileStuckClosed sw s) := by
  unfold execStileStuckClosed
  lift_lets
  intro x0
  exact fr_next (fr_ite (State.lmOut_fr _ _ hs) hs)

theorem execStileStuckOpen_fr {W : Nat} {s₀ : State} (s : State) (hs : State.Fr W s₀ s)
    (hw : partSub 0x80e1c8 W = true := by first | exact partSub_refl _ | exact partSub_trans (by with_reducible assumption) (by exact rfl)) : OutFr W s₀ (execStileStuckOpen s) := by
  unfold execStileStuckOpen
  refine fr_next ?_
  · split
    · exact hs
    · lift_lets
      intro x0
      have h1 : State.Fr W s₀ x0 := (State.event_fr _ _ _ _ _ _ _ (State.incS_fr _ _ _ hs))
      clear_value x0
      intro x2 x3
      have h4 : State.Fr W s₀ x3 := (fr_mk rfl rfl rfl rfl h1)
      clear_value x3
      exact fr_ite (State.lmFinish_fr _ _ _ h4) hs

theorem execOpenGapEnd_fr {W : Nat} {s₀ : State} (s : State) (hs : State.Fr W s₀ s)
    (hw : partSub 0x2008 W = true := by first | exact partSub_refl _ | exact partSub_trans (by with_reducible assumption) (by exact rfl)) : OutFr W s₀ (execOpenGapEnd s) := by
  unfold execOpenGapEnd
  refine fr_next ?_
  · split
    · exact hs
    · exact fr_ite (fr_ite (State.lmStep_fr _ _ hs) (State.lmAfterGap_fr _ _ hs)) hs

theorem execRelaySettleEnd_fr {W : Nat} {s₀ : State} (s : State) (hs : State.Fr W s₀ s)
    (hw : partSub 0x2008 W = true := by first | exact partSub_refl _ | exact partSub_trans (by with_reducible assumption) (by exact rfl)) : OutFr W s₀ (execRelaySettleEnd s) := by
  unfold execRelaySettleEnd
  refine fr_next ?_
  · split
    · exact hs
    · split
      · exact hs
      · lift_lets
        intro x0
        exact fr_ite hs (fr_ite (State.lmAfterGap_fr _ _ hs) (fr_ite (State.lmRun_fr _ _ hs) hs))

theorem execDischargeEnd_fr {W : Nat} {s₀ : State} (s : State) (hs : State.Fr W s₀ s)
    (hw : partSub 0x8 W = true := by first | exact partSub_refl _ | exact partSub_trans (by with_reducible assumption) (by exact rfl)) : OutFr W s₀ (execDischargeEnd s) := by
  unfold execDischargeEnd
  refine fr_next ?_
  · split
    · exact hs
    · exact fr_ite (State.lmStep_fr _ _ hs) hs

theorem execLmuOutput_fr {W : Nat} {s₀ : State} (bits : List Bool) (s : State) (hs : State.Fr W s₀ s)
    (hw : partSub 0x80e1c8 W = true := by first | exact partSub_refl _ | exact partSub_trans (by with_reducible assumption) (by exact rfl)) : OutFr W s₀ (execLmuOutput bits s) := by
  unfold execLmuOutput
  refine fr_next ?_
  · split
    · exact hs
    · exact fr_ite (State.lmOutput_fr _ _ _ hs) hs

theorem State.blankUpdate_fr {W : Nat} {s₀ : State} (s : State) (hs : State.Fr W s₀ s)
    (hw : partSub 0x2008 W = true := by first | exact partSub_refl _ | exact partSub_trans (by with_reducible assumption) (by exact rfl)) : State.Fr W s₀ (State.blankUpdate s) := by
  unfold State.blankUpdate
  exact State.blankFollow_fr _ _ hs

theorem execBlankPinEdge_fr {W : Nat} {s₀ : State} (level : Bool) (s : State) (hs : State.Fr W s₀ s)
    (hw : partSub 0x2008 W = true := by first | exact partSub_refl _ | exact partSub_trans (by with_reducible assumption) (by exact rfl)) : OutFr W s₀ (execBlankPinEdge level s) := by
  unfold execBlankPinEdge
  lift_lets
  intro x0
  exact fr_next (State.blankUpdate_fr _ (fr_mk rfl rfl rfl rfl hs))

theorem execBlankTimeout_fr {W : Nat} {s₀ : State} (s : State) (hs : State.Fr W s₀ s)
    (hw : partSub 0x80e1c8 W = true := by first | exact partSub_refl _ | exact partSub_trans (by with_reducible assumption) (by exact rfl)) : OutFr W s₀ (execBlankTimeout s) := by
  unfold execBlankTimeout
  refine fr_next ?_
  · split
    · exact hs
    · lift_lets
      intro x0
      exact fr_ite (State.lmFinish_fr _ _ _ (State.setFlag_fr _ _ _ (State.incS_fr _ _ _ hs))) hs

theorem execPassGapEnd_fr {W : Nat} {s₀ : State} (s : State) (hs : State.Fr W s₀ s)
    (hw : partSub 0x2008 W = true := by first | exact partSub_refl _ | exact partSub_trans (by with_reducible assumption) (by exact rfl)) : OutFr W s₀ (execPassGapEnd s) := by
  unfold execPassGapEnd
  refine fr_next ?_
  · split
    · exact hs
    · split
      · exact hs
      · lift_lets
        intro x0
        exact fr_ite (fr_ite (fr_mk rfl rfl rfl rfl hs) (State.sweepEntry_fr _ _ hs)) hs

theorem execTelemetryStart_fr {W : Nat} {s₀ : State} (s : State) (hs : State.Fr W s₀ s)
    (hw : partSub 0x2008 W = true := by first | exact partSub_refl _ | exact partSub_trans (by with_reducible assumption) (by exact rfl)) : OutFr W s₀ (execTelemetryStart s) := by
  unfold execTelemetryStart
  lift_lets
  intro x0 x1
  have h2 : State.Fr W s₀ x1 := (fr_mk rfl rfl rfl rfl hs)
  clear_value x1
  exact fr_next (fr_ite (State.setFld_fr _ _ _ (State.lmBegin_fr _ _ _ _ h2)) hs)

theorem State.lmResetFault_fr {W : Nat} {s₀ : State} (s : State) (open_ : Bool) (hs : State.Fr W s₀ s)
    (hw : partSub 0x2008 W = true := by first | exact partSub_refl _ | exact partSub_trans (by with_reducible assumption) (by exact rfl)) : State.Fr W s₀ (State.lmResetFault s open_) := by
  unfold State.lmResetFault
  lift_lets
  intro x0
  exact fr_ite (State.setFld_fr _ _ _ (fr_mk rfl rfl rfl rfl hs)) hs

theorem execResetFault_fr {W : Nat} {s₀ : State} (open_ : Bool) (s : State) (hs : State.Fr W s₀ s)
    (hw : partSub 0x2008 W = true := by first | exact partSub_refl _ | exact partSub_trans (by with_reducible assumption) (by exact rfl)) : OutFr W s₀ (execResetFault open_ s) := by
  unfold execResetFault
  exact fr_next (State.lmResetFault_fr _ _ hs)

theorem execRefLost_fr {W : Nat} {s₀ : State} (s : State) (hs : State.Fr W s₀ s)
    (hw : partSub 0x88e5c8 W = true := by first | exact partSub_refl _ | exact partSub_trans (by with_reducible assumption) (by exact rfl)) : OutFr W s₀ (execRefLost s) := by
  unfold execRefLost
  lift_lets
  intro x0
  have h1 : State.Fr W s₀ x0 := (State.event_fr _ _ _ _ _ _ _ (State.setFlag_fr _ _ _ hs))
  clear_value x0
  intro x2 x3
  have h4 : State.Fr W s₀ x3 := (fr_mk rfl rfl rfl rfl h1)
  clear_value x3
  intro x5
  have h6 : State.Fr W s₀ x5 := (fr_ite (State.commandV_fr _ _ h4) h4)
  clear_value x5
  intro x7
  have h8 : State.Fr W s₀ x7 := (State.setFlag_fr _ _ _ (State.setFlag_fr _ _ _ h6))
  clear_value x7
  intro x9
  have h10 : State.Fr W s₀ x9 := (State.holdover_fr _ h8)
  clear_value x9
  intro x11 x12
  have h13 : State.Fr W s₀ x12 := (fr_ite (State.emit_fr _ _ (fr_mk rfl rfl rfl rfl h10)) h10)
  clear_value x12
  intro x14 x15
  have h16 : State.Fr W s₀ x15 := (fr_mk rfl rfl rfl rfl h13)
  clear_value x15
  intro x17
  have h18 : State.Fr W s₀ x17 := by
    dsimp -zeta only [x17]
    split
    · exact h16
    · exact State.setFlag_fr _ _ _ (State.lmFinish_fr _ _ _ h16)
  clear_value x17
  intro x19
  exact outFr_ite (fr_next hs) (fr_next (State.lmStep_fr _ _ (State.setFld_fr _ _ _ (fr_mk rfl rfl rfl rfl h18))))

theorem execRefReturn_fr {W : Nat} {s₀ : State} (s : State) (hs : State.Fr W s₀ s)
    (hw : partSub 0x88e008 W = true := by first | exact partSub_refl _ | exact partSub_trans (by with_reducible assumption) (by exact rfl)) : OutFr W s₀ (execRefReturn s) := by
  unfold execRefReturn
  lift_lets
  intro x0 x1
  have h2 : State.Fr W s₀ x1 := (State.setFlag_fr _ _ _ (fr_mk rfl rfl rfl rfl hs))
  clear_value x1
  intro x3 x4
  have h5 : State.Fr W s₀ x4 := (fr_mk rfl rfl rfl rfl h2)
  clear_value x4
  refine outFr_ite (fr_next ?_) (fr_next hs)
  · split
    · exact State.lmNext_fr _ _ h5
    · exact fr_ite (State.sweepEntry_fr _ _ h5) h5
    · exact h5

theorem execFrameReceived_fr {W : Nat} {s₀ : State} (p : Fin 4) (frame : List Byte) (pcs : Bool) (overflow : Bool) (tagOk : Bool) (s : State) (hs : State.Fr W s₀ s)
    (hw : partSub 0x81c388 W = true := by first | exact partSub_refl _ | exact partSub_trans (by with_reducible assumption) (by exact rfl)) : OutFr W s₀ (execFrameReceived p frame pcs overflow tagOk s) := by
  unfold execFrameReceived
  exact fr_next (fr_ite (State.receive_fr _ _ _ _ _ _ hs) hs)

theorem execFrameTransmitStart_fr {W : Nat} {s₀ : State} (p : Fin 4) (s : State) (hs : State.Fr W s₀ s)
    (hw : partSub 0x81c388 W = true := by first | exact partSub_refl _ | exact partSub_trans (by with_reducible assumption) (by exact rfl)) : OutFr W s₀ (execFrameTransmitStart p s) := by
  unfold execFrameTransmitStart
  exact fr_next (State.transmit_fr _ _ hs)

theorem execTxAgeDiscard_fr {W : Nat} {s₀ : State} (p : Fin 4) (pri : Fin 8) (s : State) (hs : State.Fr W s₀ s)
    (hw : partSub 0x80c388 W = true := by first | exact partSub_refl _ | exact partSub_trans (by with_reducible assumption) (by exact rfl)) : OutFr W s₀ (execTxAgeDiscard p pri s) := by
  unfold execTxAgeDiscard
  exact fr_next (State.ageHead_fr _ _ _ hs)

theorem execFrameTransmitEnd_fr {W : Nat} {s₀ : State} (p : Fin 4) (aborted : Bool) (s : State) (hs : State.Fr W s₀ s)
    (hw : partSub 0x80c388 W = true := by first | exact partSub_refl _ | exact partSub_trans (by with_reducible assumption) (by exact rfl)) : OutFr W s₀ (execFrameTransmitEnd p aborted s) := by
  unfold execFrameTransmitEnd
  exact fr_next (State.transmitEnd_fr _ _ _ hs)

theorem execLinkUp_fr {W : Nat} {s₀ : State} (p : Fin 4) (s : State) (hs : State.Fr W s₀ s)
    (hw : partSub 0x8608 W = true := by first | exact partSub_refl _ | exact partSub_trans (by with_reducible assumption) (by exact rfl)) : OutFr W s₀ (execLinkUp p s) := by
  unfold execLinkUp
  lift_lets
  intro x0 x1 x2 x3 x4
  have h5 : State.Fr W s₀ x4 := (State.setFld_fr _ _ _ (State.setFld_fr _ _ _ (State.setFlag_fr _ _ _ hs)))
  clear_value x4
  intro x6
  have h7 : State.Fr W s₀ x6 := (State.setFlag_fr _ _ _ (State.setFlag_fr _ _ _ h5))
  clear_value x6
  intro x8 x9
  have h10 : State.Fr W s₀ x9 := (State.setPort_fr _ _ _ h7)
  clear_value x9
  exact outFr_ite (fr_next hs) (fr_next (State.recclkCheck_fr _ (State.event_fr _ _ _ _ _ _ _ h10)))

theorem execLinkDown_fr {W : Nat} {s₀ : State} (p : Fin 4) (s : State) (hs : State.Fr W s₀ s)
    (hw : partSub 0x87c788 W = true := by first | exact partSub_refl _ | exact partSub_trans (by with_reducible assumption) (by exact rfl)) : OutFr W s₀ (execLinkDown p s) := by
  unfold execLinkDown
  exact fr_next (State.linkDown_fr _ _ hs)

theorem execAnComplete_fr {W : Nat} {s₀ : State} (p : Fin 4) (abil : BitVec 5) (fec : BitVec 4) (s : State) (hs : State.Fr W s₀ s)
    (hw : partSub 0x8208 W = true := by first | exact partSub_refl _ | exact partSub_trans (by with_reducible assumption) (by exact rfl)) : OutFr W s₀ (execAnComplete p abil fec s) := by
  unfold execAnComplete
  lift_lets
  intro x0 x1 x2
  have h3 : State.Fr W s₀ x2 := (State.setFld_fr _ _ _ (State.setFld_fr _ _ _ (State.setFld_fr _ _ _ hs)))
  clear_value x2
  intro x4 x5
  have h6 : State.Fr W s₀ x5 := (State.setFlag_fr _ _ _ (State.incS_fr _ _ _ h3))
  clear_value x5
  intro x7
  have h8 : State.Fr W s₀ x7 := (fr_ite h6 (State.raise_fr _ _ _ _ _ _ _ _ h6))
  clear_value x7
  exact outFr_ite (fr_next hs) (outFr_ite (fr_next (State.setPort_fr _ _ _ h8)) (fr_next (State.setFlag_fr _ _ _ (State.setPort_fr _ _ _ h3))))

theorem execAnRetry_fr {W : Nat} {s₀ : State} (p : Fin 4) (s : State) (hs : State.Fr W s₀ s)
    (hw : partSub 0x208 W = true := by first | exact partSub_refl _ | exact partSub_trans (by with_reducible assumption) (by exact rfl)) : OutFr W s₀ (execAnRetry p s) := by
  unfold execAnRetry
  refine fr_next ?_
  · split
    · exact fr_ite (State.restartAn_fr _ _ hs) hs
    · exact hs

theorem execPauseTimeExpiry_fr {W : Nat} {s₀ : State} (p : Fin 4) (pri : Fin 8) (s : State) (hs : State.Fr W s₀ s)
    (hw : partSub 0x208 W = true := by first | exact partSub_refl _ | exact partSub_trans (by with_reducible assumption) (by exact rfl)) : OutFr W s₀ (execPauseTimeExpiry p pri s) := by
  unfold execPauseTimeExpiry
  refine fr_next ?_
  · split
    · exact fr_ite (State.showPaused_fr _ _ (State.endHold_fr _ _ _ hs)) hs
    · exact hs

theorem execPauseBreak_fr {W : Nat} {s₀ : State} (p : Fin 4) (pri : Fin 8) (s : State) (hs : State.Fr W s₀ s)
    (hw : partSub 0x8208 W = true := by first | exact partSub_refl _ | exact partSub_trans (by with_reducible assumption) (by exact rfl)) : OutFr W s₀ (execPauseBreak p pri s) := by
  unfold execPauseBreak
  refine fr_next ?_
  · split
    · exact hs
    · lift_lets
      intro x0
      have h1 : State.Fr W s₀ x0 := by
        dsimp -zeta only [x0]
        refine State.showPaused_fr _ _ (fr_foldl ?_ hs)
        · intro y2 y3 g4
          exact State.endHold_fr _ _ _ g4
      clear_value x0
      intro x5 x6
      have h7 : State.Fr W s₀ x6 := (State.setPort_fr _ _ _ h1)
      clear_value x6
      intro x8
      have h9 : State.Fr W s₀ x8 := (State.incS_fr _ _ _ (State.setFlag_fr _ _ _ h7))
      clear_value x8
      exact fr_ite (State.event_fr _ _ _ _ _ _ _ h9) hs

theorem execHoldoffEnd_fr {W : Nat} {s₀ : State} (p : Fin 4) (s : State) (hs : State.Fr W s₀ s)
    (hw : partSub 0x208 W = true := by first | exact partSub_refl _ | exact partSub_trans (by with_reducible assumption) (by exact rfl)) : OutFr W s₀ (execHoldoffEnd p s) := by
  unfold execHoldoffEnd
  refine fr_next ?_
  · split
    · lift_lets
      intro x0
      exact fr_ite (State.setFlag_fr _ _ _ (State.setPort_fr _ _ _ hs)) hs
    · exact hs

theorem execPortResetEnd_fr {W : Nat} {s₀ : State} (p : Fin 4) (s : State) (hs : State.Fr W s₀ s)
    (hw : partSub 0x80c208 W = true := by first | exact partSub_refl _ | exact partSub_trans (by with_reducible assumption) (by exact rfl)) : OutFr W s₀ (execPortResetEnd p s) := by
  unfold execPortResetEnd
  lift_lets
  intro x0
  exact fr_next (fr_ite (State.completeOpt_fr _ _ _ _ _ (State.setPort_fr _ _ _ hs)) hs)

theorem execEpPortResetWrite_fr {W : Nat} {s₀ : State} (p : Fin 4) (s : State) (hs : State.Fr W s₀ s)
    (hw : partSub 0x87c788 W = true := by first | exact partSub_refl _ | exact partSub_trans (by with_reducible assumption) (by exact rfl)) : OutFr W s₀ (execEpPortResetWrite p s) := by
  unfold execEpPortResetWrite
  exact fr_next (State.portReset_fr _ _ _ hs)

theorem State.phyChanged_fr {W : Nat} {s₀ : State} (s : State) (p : Nat) (mode : Nat) (fec : Nat) (hs : State.Fr W s₀ s)
    (hw : partSub 0x87c788 W = true := by first | exact partSub_refl _ | exact partSub_trans (by with_reducible assumption) (by exact rfl)) : State.Fr W s₀ (State.phyChanged s p mode fec) := by
  unfold State.phyChanged
  lift_lets
  intro x0 x1
  have h2 : State.Fr W s₀ x1 := (State.setFld_fr _ _ _ (State.setFld_fr _ _ _ hs))
  clear_value x1
  exact fr_ite h2 (State.restartAn_fr _ _ (State.linkDown_fr _ _ h2))

theorem State.anRestart_fr {W : Nat} {s₀ : State} (s : State) (p : Nat) (hs : State.Fr W s₀ s)
    (hw : partSub 0x87c788 W = true := by first | exact partSub_refl _ | exact partSub_trans (by with_reducible assumption) (by exact rfl)) : State.Fr W s₀ (State.anRestart s p) := by
  unfold State.anRestart
  exact fr_ite (State.restartAn_fr _ _ (State.linkDown_fr _ _ hs)) hs

theorem execAnRestart_fr {W : Nat} {s₀ : State} (p : Fin 4) (s : State) (hs : State.Fr W s₀ s)
    (hw : partSub 0x87c788 W = true := by first | exact partSub_refl _ | exact partSub_trans (by with_reducible assumption) (by exact rfl)) : OutFr W s₀ (execAnRestart p s) := by
  unfold execAnRestart
  exact fr_next (State.anRestart_fr _ _ hs)

theorem State.tsRestart_fr {W : Nat} {s₀ : State} (s : State) (p : Nat) (hs : State.Fr W s₀ s)
    (hw : partSub 0x8 W = true := by first | exact partSub_refl _ | exact partSub_trans (by with_reducible assumption) (by exact rfl)) : State.Fr W s₀ (State.tsRestart s p) := by
  unfold State.tsRestart
  exact State.setFld_fr _ _ _ hs

theorem execTsHwmRestart_fr {W : Nat} {s₀ : State} (p : Fin 4) (s : State) (hs : State.Fr W s₀ s)
    (hw : partSub 0x8 W = true := by first | exact partSub_refl _ | exact partSub_trans (by with_reducible assumption) (by exact rfl)) : OutFr W s₀ (execTsHwmRestart p s) := by
  unfold execTsHwmRestart
  exact fr_next (State.tsRestart_fr _ _ hs)

theorem State.mgReject_fr {W : Nat} {s₀ : State} (s : State) (src : Nat) (hs : State.Fr W s₀ s)
    (hw : partSub 0x28008 W = true := by first | exact partSub_refl _ | exact partSub_trans (by with_reducible assumption) (by exact rfl)) : State.Fr W s₀ (State.mgReject s src) := by
  unfold State.mgReject
  lift_lets
  intro x0
  have h1 : State.Fr W s₀ x0 := (State.setFlag_fr _ _ _ (State.mgCount_fr _ _ hs))
  clear_value x0
  intro x2 x3
  exact fr_ite h1 (State.raise_fr _ _ _ _ _ _ _ _ (State.setMg_fr _ _ h1))

theorem State.mgBlank_fr {W : Nat} {s₀ : State} (s : State) (on : Bool) (hs : State.Fr W s₀ s)
    (hw : partSub 0x2008 W = true := by first | exact partSub_refl _ | exact partSub_trans (by with_reducible assumption) (by exact rfl)) : State.Fr W s₀ (State.mgBlank s on) := by
  unfold State.mgBlank
  lift_lets
  intro x0
  have h1 : State.Fr W s₀ x0 := (State.setFlag_fr _ _ _ hs)
  clear_value x0
  exact State.blankFollow_fr _ _ h1

theorem State.blankAct_fr {W : Nat} {s₀ : State} (s : State) (hs : State.Fr W s₀ s)
    (hw : partSub 0x22008 W = true := by first | exact partSub_refl _ | exact partSub_trans (by with_reducible assumption) (by exact rfl)) : State.Fr W s₀ (State.blankAct s) := by
  unfold State.blankAct
  split
  · exact hs
  · lift_lets
    intro x0
    exact fr_ite (State.mgBlank_fr _ _ (State.setMg_fr _ _ hs)) (fr_ite (State.mgBlank_fr _ _ hs) hs)

theorem State.syncAct_fr {W : Nat} {s₀ : State} (s : State) (hs : State.Fr W s₀ s)
    (hw : partSub 0x21000 W = true := by first | exact partSub_refl _ | exact partSub_trans (by with_reducible assumption) (by exact rfl)) : State.Fr W s₀ (State.syncAct s) := by
  unfold State.syncAct
  lift_lets
  intro x0
  exact fr_ite (State.syncRequest_fr _ _ _ (State.setMg_fr _ _ hs)) hs

theorem State.mgAct_fr {W : Nat} {s₀ : State} (s : State) (type : Nat) (src : Nat) (dst : Nat) (at_ : Nat) (arg : Nat) (all : Bool) (hs : State.Fr W s₀ s)
    (hw : partSub 0x87f008 W = true := by first | exact partSub_refl _ | exact partSub_trans (by with_reducible assumption) (by exact rfl)) : State.Fr W s₀ (State.mgAct s type src dst at_ arg all) := by
  unfold State.mgAct
  split
  · lift_lets
    intro x0
    exact fr_ite (State.syncAct_fr _ (State.setFlag_fr _ _ _ (State.setMg_fr _ _ hs))) hs
  · lift_lets
    intro x1 x2
    exact fr_ite (State.blankAct_fr _ (State.setFlag_fr _ _ _ (State.setMg_fr _ _ hs))) hs
  · lift_lets
    intro x3 x4
    have h5 : State.Fr W s₀ x4 := (fr_mk rfl rfl rfl rfl hs)
    clear_value x4
    intro x6
    have h7 : State.Fr W s₀ x6 := (State.event_fr _ _ _ _ _ _ _ (State.twCount_fr _ _ _ h5))
    clear_value x6
    exact fr_ite (State.fenced_fr _ h7) hs
  · refine fr_ite ?_ hs
    · split
      · exact State.confirmFence_fr _ _ _ hs
      · exact hs

theorem State.mgMessageIn_fr {W : Nat} {s₀ : State} (s : State) (m : List Byte) (tagOk : Bool) (hs : State.Fr W s₀ s)
    (hw : partSub 0x87f008 W = true := by first | exact partSub_refl _ | exact partSub_trans (by with_reducible assumption) (by exact rfl)) : State.Fr W s₀ (State.mgMessageIn s m tagOk) := by
  unfold State.mgMessageIn
  lift_lets
  intro x0 x1 x2 x3 x4 x5 x6 x7 x8 x9 x10 x11 x12 x13 x14
  have h15 : State.Fr W s₀ x14 := (State.setFlag_fr _ _ _ (State.setFld_fr _ _ _ (State.setFld_fr _ _ _ hs)))
  clear_value x14
  exact fr_ite (State.mgAct_fr _ _ _ _ _ _ _ h15) (State.mgReject_fr _ _ hs)

theorem State.wake_fr {W : Nat} {s₀ : State} (s : State) (hs : State.Fr W s₀ s)
    (hw : partSub 0x84c008 W = true := by first | exact partSub_refl _ | exact partSub_trans (by with_reducible assumption) (by exact rfl)) : State.Fr W s₀ (State.wake s) := by
  unfold State.wake
  lift_lets
  intro x0
  have h1 : State.Fr W s₀ x0 := (State.setFlag_fr _ _ _ hs)
  clear_value x0
  intro x2 x3 x4
  have h5 : State.Fr W s₀ x4 := (fr_mk rfl rfl rfl rfl h1)
  clear_value x4
  exact fr_ite h1 (State.trigger_fr _ _ h5)

theorem State.wakeFrame_fr {W : Nat} {s₀ : State} (s : State) (l : List Byte) (hs : State.Fr W s₀ s)
    (hw : partSub 0x84c008 W = true := by first | exact partSub_refl _ | exact partSub_trans (by with_reducible assumption) (by exact rfl)) : State.Fr W s₀ (State.wakeFrame s l) := by
  unfold State.wakeFrame
  lift_lets
  intro x0 x1 x2 x3 x4 x5
  have h6 : State.Fr W s₀ x5 := (State.setFld_fr _ _ _ hs)
  clear_value x5
  intro x7
  have h8 : State.Fr W s₀ x7 := (fr_ite (State.setFld_fr _ _ _ (State.setFlag_fr _ _ _ h6)) h6)
  clear_value x7
  exact fr_ite (State.wake_fr _ h8) h8

theorem State.mgToHost_fr {W : Nat} {s₀ : State} (s : State) (l : List Byte) (hs : State.Fr W s₀ s)
    (hw : partSub 0x82c008 W = true := by first | exact partSub_refl _ | exact partSub_trans (by with_reducible assumption) (by exact rfl)) : State.Fr W s₀ (State.mgToHost s l) := by
  unfold State.mgToHost
  lift_lets
  intro x0 x1 x2 x3
  have h4 : State.Fr W s₀ x3 := (fr_ite (State.setMg_fr _ _ hs) hs)
  clear_value x3
  intro x5
  have h6 : State.Fr W s₀ x5.1 := (State.hostDeliver_fr _ _ _ _ h4)
  clear_value x5
  exact fr_ite (State.setFlag_fr _ _ _ (State.mgCount_fr _ _ (State.setMg_fr _ _ hs))) (fr_ite h6 (State.mgCount_fr _ _ h4))

theorem State.mgReceive_fr {W : Nat} {s₀ : State} (s : State) (l : List Byte) (rxErr : Bool) (tagOk : Bool) (hs : State.Fr W s₀ s)
    (hw : partSub 0x87f008 W = true := by first | exact partSub_refl _ | exact partSub_trans (by with_reducible assumption) (by exact rfl)) : State.Fr W s₀ (State.mgReceive s l rxErr tagOk) := by
  unfold State.mgReceive
  lift_lets
  intro x0 x1 x2 x3 x4 x5
  exact fr_ite (State.mgCount_fr _ _ hs) (fr_ite hs (fr_ite (State.mgCount_fr _ _ hs) (fr_ite (State.mgMessageIn_fr _ _ _ hs) (State.mgToHost_fr _ _ hs))))

theorem execMgFrameReceived_fr {W : Nat} {s₀ : State} (frame : List Byte) (rxErr : Bool) (own : Bool) (tagOk : Bool) (s : State) (hs : State.Fr W s₀ s)
    (hw : partSub 0x87f008 W = true := by first | exact partSub_refl _ | exact partSub_trans (by with_reducible assumption) (by exact rfl)) : OutFr W s₀ (execMgFrameReceived frame rxErr own tagOk s) := by
  unfold execMgFrameReceived
  lift_lets
  intro x0
  exact outFr_ite (fr_next (fr_ite (State.wakeFrame_fr _ _ hs) hs)) (fr_next (fr_ite (State.mgReceive_fr _ _ _ _ hs) hs))

theorem execSyncMessageAct_fr {W : Nat} {s₀ : State} (s : State) (hs : State.Fr W s₀ s)
    (hw : partSub 0x21000 W = true := by first | exact partSub_refl _ | exact partSub_trans (by with_reducible assumption) (by exact rfl)) : OutFr W s₀ (execSyncMessageAct s) := by
  unfold execSyncMessageAct
  exact fr_next (State.syncAct_fr _ hs)

theorem execBlankIntervalStart_fr {W : Nat} {s₀ : State} (s : State) (hs : State.Fr W s₀ s)
    (hw : partSub 0x2008 W = true := by first | exact partSub_refl _ | exact partSub_trans (by with_reducible assumption) (by exact rfl)) : OutFr W s₀ (execBlankIntervalStart s) := by
  unfold execBlankIntervalStart
  refine fr_next ?_
  · split
    · exact fr_ite (State.mgBlank_fr _ _ hs) hs
    · exact hs

theorem execBlankIntervalEnd_fr {W : Nat} {s₀ : State} (s : State) (hs : State.Fr W s₀ s)
    (hw : partSub 0x22008 W = true := by first | exact partSub_refl _ | exact partSub_trans (by with_reducible assumption) (by exact rfl)) : OutFr W s₀ (execBlankIntervalEnd s) := by
  unfold execBlankIntervalEnd
  refine fr_next ?_
  · split
    · lift_lets
      intro x0
      exact fr_ite (State.mgBlank_fr _ _ (State.setMg_fr _ _ hs)) hs
    · exact hs

theorem execMgTransmitAttempt_fr {W : Nat} {s₀ : State} (s : State) (hs : State.Fr W s₀ s)
    (hw : partSub 0x82c008 W = true := by first | exact partSub_refl _ | exact partSub_trans (by with_reducible assumption) (by exact rfl)) : OutFr W s₀ (execMgTransmitAttempt s) := by
  unfold execMgTransmitAttempt
  refine fr_next ?_
  · split
    · exact hs
    · lift_lets
      intro x0
      exact fr_ite hs (fr_ite (State.mgEnd_fr _ _ hs) (State.setMg_fr _ _ hs))

theorem execMgCollision_fr {W : Nat} {s₀ : State} (sent : Nat) (s : State) (hs : State.Fr W s₀ s)
    (hw : partSub 0x82c00c W = true := by first | exact partSub_refl _ | exact partSub_trans (by with_reducible assumption) (by exact rfl)) : OutFr W s₀ (execMgCollision sent s) := by
  unfold execMgCollision
  lift_lets
  intro x0
  have h1 : State.Fr W s₀ x0 := (State.mgCount_fr _ _ hs)
  clear_value x0
  intro x2 x3 x4 x5
  have h6 : State.Fr W s₀ x5 := (fr_mk rfl rfl rfl rfl h1)
  clear_value x5
  intro x7
  exact outFr_ite (fr_next hs) (outFr_ite (fr_next (State.mgEnd_fr _ _ (State.event_fr _ _ _ _ _ _ _ (State.mgCount_fr _ _ h1)))) (outFr_ite (fr_next (State.mgEnd_fr _ _ (State.event_fr _ _ _ _ _ _ _ (State.mgCount_fr _ _ h1)))) (fr_next (State.setMg_fr _ _ h6))))

theorem execBackoffEnd_fr {W : Nat} {s₀ : State} (s : State) (hs : State.Fr W s₀ s)
    (hw : partSub 0x20000 W = true := by first | exact partSub_refl _ | exact partSub_trans (by with_reducible assumption) (by exact rfl)) : OutFr W s₀ (execBackoffEnd s) := by
  unfold execBackoffEnd
  refine fr_next ?_
  · split
    · lift_lets
      intro x0
      exact fr_ite (State.setMg_fr _ _ hs) hs
    · exact hs

theorem execMgTransmitEnd_fr {W : Nat} {s₀ : State} (s : State) (hs : State.Fr W s₀ s)
    (hw : partSub 0x82c008 W = true := by first | exact partSub_refl _ | exact partSub_trans (by with_reducible assumption) (by exact rfl)) : OutFr W s₀ (execMgTransmitEnd s) := by
  unfold execMgTransmitEnd
  refine fr_next ?_
  · split
    · exact State.mgEnd_fr _ _ (State.emit_fr _ _ hs)
    · exact hs

theorem execMgTxTimeout_fr {W : Nat} {s₀ : State} (n : Fin 16) (s : State) (hs : State.Fr W s₀ s)
    (hw : partSub 0x82c008 W = true := by first | exact partSub_refl _ | exact partSub_trans (by with_reducible assumption) (by exact rfl)) : OutFr W s₀ (execMgTxTimeout n s) := by
  unfold execMgTxTimeout
  refine fr_next ?_
  · split
    · exact hs
    · lift_lets
      intro x0
      exact fr_ite hs (fr_ite (State.mgEnd_fr _ _ hs) (State.completeOpt_fr _ _ _ _ _ (State.mgCount_fr _ _ (State.mgDepth_fr _ (State.setMg_fr _ _ hs)))))

theorem execJabber_fr {W : Nat} {s₀ : State} (s : State) (hs : State.Fr W s₀ s)
    (hw : partSub 0x8008 W = true := by first | exact partSub_refl _ | exact partSub_trans (by with_reducible assumption) (by exact rfl)) : OutFr W s₀ (execJabber s) := by
  unfold execJabber
  exact fr_next (fr_ite hs (State.event_fr _ _ _ _ _ _ _ (State.mgCount_fr _ _ (State.setFlag_fr _ _ _ hs))))

theorem execJabberClear_fr {W : Nat} {s₀ : State} (s : State) (hs : State.Fr W s₀ s)
    (hw : partSub 0x8 W = true := by first | exact partSub_refl _ | exact partSub_trans (by with_reducible assumption) (by exact rfl)) : OutFr W s₀ (execJabberClear s) := by
  unfold execJabberClear
  exact fr_next (State.setFlag_fr _ _ _ hs)

theorem execOwnJabber_fr {W : Nat} {s₀ : State} (s : State) (hs : State.Fr W s₀ s)
    (hw : partSub 0x82c008 W = true := by first | exact partSub_refl _ | exact partSub_trans (by with_reducible assumption) (by exact rfl)) : OutFr W s₀ (execOwnJabber s) := by
  unfold execOwnJabber
  exact fr_next (fr_ite (State.raise_fr _ _ _ _ _ _ _ _ (State.mgEnd_fr _ _ hs)) hs)

theorem State.plcaApply_fr {W : Nat} {s₀ : State} (s : State) (hs : State.Fr W s₀ s)
    (hw : partSub 0x20000 W = true := by first | exact partSub_refl _ | exact partSub_trans (by with_reducible assumption) (by exact rfl)) : State.Fr W s₀ (State.plcaApply s) := by
  unfold State.plcaApply
  lift_lets
  intro x0 x1
  exact State.setMg_fr _ _ hs

theorem execPlcaBeaconLoss_fr {W : Nat} {s₀ : State} (s : State) (hs : State.Fr W s₀ s)
    (hw : partSub 0x20008 W = true := by first | exact partSub_refl _ | exact partSub_trans (by with_reducible assumption) (by exact rfl)) : OutFr W s₀ (execPlcaBeaconLoss s) := by
  unfold execPlcaBeaconLoss
  exact fr_next (fr_ite (State.plcaApply_fr _ (State.setFlag_fr _ _ _ hs)) hs)

theorem execBeacon_fr {W : Nat} {s₀ : State} (s : State) (hs : State.Fr W s₀ s)
    (hw : partSub 0x20008 W = true := by first | exact partSub_refl _ | exact partSub_trans (by with_reducible assumption) (by exact rfl)) : OutFr W s₀ (execBeacon s) := by
  unfold execBeacon
  lift_lets
  intro x0
  have h1 : State.Fr W s₀ x0 := (State.plcaApply_fr _ hs)
  clear_value x0
  exact fr_next (fr_ite (State.setFlag_fr _ _ _ h1) h1)

theorem execListenEnd_fr {W : Nat} {s₀ : State} (s : State) (hs : State.Fr W s₀ s)
    (hw : partSub 0x8 W = true := by first | exact partSub_refl _ | exact partSub_trans (by with_reducible assumption) (by exact rfl)) : OutFr W s₀ (execListenEnd s) := by
  unfold execListenEnd
  exact fr_next (fr_ite (State.endListen_fr _ hs) hs)

theorem execMgListenEndWrite_fr {W : Nat} {s₀ : State} (s : State) (hs : State.Fr W s₀ s)
    (hw : partSub 0x8 W = true := by first | exact partSub_refl _ | exact partSub_trans (by with_reducible assumption) (by exact rfl)) : OutFr W s₀ (execMgListenEndWrite s) := by
  unfold execMgListenEndWrite
  exact fr_next (State.endListen_fr _ hs)

theorem execWakePin_fr {W : Nat} {s₀ : State} (s : State) (hs : State.Fr W s₀ s)
    (hw : partSub 0x84c008 W = true := by first | exact partSub_refl _ | exact partSub_trans (by with_reducible assumption) (by exact rfl)) : OutFr W s₀ (execWakePin s) := by
  unfold execWakePin
  exact fr_next (fr_ite (State.wake_fr _ (State.setFlag_fr _ _ _ hs)) hs)

end Sys2Proof.Machine
end

