-- ==== Sys2Proof/Laws/FrameHost.lean ====
section
/-! SUPPORT. The frame lemmas of the host rings, the host commands and the channel commands (see Laws/Frame.lean). -/
set_option Elab.async false

namespace Sys2Proof.Machine

theorem execDoorbellPoll_fr {W : Nat} {s₀ : State} (tails : List (BitVec 32)) (rx : List (List (BitVec 32))) (kind : Fin 5) (fetch : Bool) (s : State) (hs : State.Fr W s₀ s)
    (hw : partSub 0xc008 W = true := by first | exact partSub_refl _ | exact partSub_trans (by with_reducible assumption) (by exact rfl)) : OutFr W s₀ (execDoorbellPoll tails rx kind fetch s) := by
  unfold execDoorbellPoll
  lift_lets
  intro x0
  have h1 : State.Fr W s₀ x0 := (State.pcieErr_fr _ _ _ _ _ hs)
  clear_value x0
  intro x2 x3 x4
  have h5 : State.Fr W s₀ x4 := (fr_mk rfl rfl rfl rfl hs)
  clear_value x4
  refine fr_next (fr_ite hs (fr_ite (State.nextPoll_fr _ (fr_mk rfl rfl rfl rfl h1)) (State.nextPoll_fr _ (fr_foldl ?_ h5))))
  · intro y6 y7 g8
    exact State.pollRing_fr _ _ _ _ g8

theorem execHiNudge_fr {W : Nat} {s₀ : State} (s : State) (hs : State.Fr W s₀ s)
    (hw : partSub 0x4008 W = true := by first | exact partSub_refl _ | exact partSub_trans (by with_reducible assumption) (by exact rfl)) : OutFr W s₀ (execHiNudge s) := by
  unfold execHiNudge
  lift_lets
  intro x0
  exact fr_next (State.setFlag_fr _ _ _ (fr_mk rfl rfl rfl rfl hs))

theorem execInterfaceIdle_fr {W : Nat} {s₀ : State} (s : State) (hs : State.Fr W s₀ s)
    (hw : partSub 0x4008 W = true := by first | exact partSub_refl _ | exact partSub_trans (by with_reducible assumption) (by exact rfl)) : OutFr W s₀ (execInterfaceIdle s) := by
  unfold execInterfaceIdle
  exact fr_next (fr_ite (State.nextPoll_fr _ hs) hs)

theorem execHiRcfgWrite_fr {W : Nat} {s₀ : State} (r : Fin 64) (v : BitVec 32) (s : State) (hs : State.Fr W s₀ s)
    (hw : partSub 0x80c008 W = true := by first | exact partSub_refl _ | exact partSub_trans (by with_reducible assumption) (by exact rfl)) : OutFr W s₀ (execHiRcfgWrite r v s) := by
  unfold execHiRcfgWrite
  exact fr_next (State.rcfgWrite_fr _ _ _ hs)

theorem execRingDrained_fr {W : Nat} {s₀ : State} (r : Fin 64) (s : State) (hs : State.Fr W s₀ s)
    (hw : partSub 0x8 W = true := by first | exact partSub_refl _ | exact partSub_trans (by with_reducible assumption) (by exact rfl)) : OutFr W s₀ (execRingDrained r s) := by
  unfold execRingDrained
  exact fr_next (fr_ite (State.setFld_fr _ _ _ hs) hs)

theorem execInterruptModerationTimer_fr {W : Nat} {s₀ : State} (r : Fin 64) (s : State) (hs : State.Fr W s₀ s)
    (hw : partSub 0x804000 W = true := by first | exact partSub_refl _ | exact partSub_trans (by with_reducible assumption) (by exact rfl)) : OutFr W s₀ (execInterruptModerationTimer r s) := by
  unfold execInterruptModerationTimer
  lift_lets
  intro x0
  exact fr_next (fr_ite (State.sendMsix_fr _ _ (State.setRing_fr _ _ _ hs)) hs)

theorem execMsixUnmask_fr {W : Nat} {s₀ : State} (v : Fin 64) (s : State) (hs : State.Fr W s₀ s)
    (hw : partSub 0x804000 W = true := by first | exact partSub_refl _ | exact partSub_trans (by with_reducible assumption) (by exact rfl)) : OutFr W s₀ (execMsixUnmask v s) := by
  unfold execMsixUnmask
  lift_lets
  intro x0 x1 x2 x3
  have h4 : State.Fr W s₀ x3 := (fr_mk rfl rfl rfl rfl hs)
  clear_value x3
  exact fr_next (fr_ite (State.emit_fr _ _ h4) h4)

theorem execReportRecordWrite_fr {W : Nat} {s₀ : State} (err : Bool) (s : State) (hs : State.Fr W s₀ s)
    (hw : partSub 0x80c008 W = true := by first | exact partSub_refl _ | exact partSub_trans (by with_reducible assumption) (by exact rfl)) : OutFr W s₀ (execReportRecordWrite err s) := by
  unfold execReportRecordWrite
  exact fr_next (State.writeReport_fr _ _ hs)

theorem execHostReset_fr {W : Nat} {s₀ : State} (cause : Fin 7) (s : State) (hs : State.Fr W s₀ s)
    (hw : partSub 0x20c008 W = true := by first | exact partSub_refl _ | exact partSub_trans (by with_reducible assumption) (by exact rfl)) : OutFr W s₀ (execHostReset cause s) := by
  unfold execHostReset
  exact fr_next (State.hostReset_fr _ _ hs)

theorem execRingsReset_fr {W : Nat} {s₀ : State} (s : State) (hs : State.Fr W s₀ s)
    (hw : partSub 0x20c008 W = true := by first | exact partSub_refl _ | exact partSub_trans (by with_reducible assumption) (by exact rfl)) : OutFr W s₀ (execRingsReset s) := by
  unfold execRingsReset
  exact fr_next (State.hostReset_fr _ _ hs)

theorem execBadAccess_fr {W : Nat} {s₀ : State} (bar : Fin 3) (ofs : BitVec 24) (en : BitVec 8) (write : Bool) (s : State) (hs : State.Fr W s₀ s)
    (hw : partSub 0x408008 W = true := by first | exact partSub_refl _ | exact partSub_trans (by with_reducible assumption) (by exact rfl)) : OutFr W s₀ (execBadAccess bar ofs en write s) := by
  unfold execBadAccess
  lift_lets
  intro x0
  have h1 : State.Fr W s₀ x0 := (fr_ite hs (fr_mk rfl rfl rfl rfl hs))
  clear_value x0
  exact fr_next (State.raise_fr _ _ _ _ _ _ _ _ h1)

theorem execPcieLinkUp_fr {W : Nat} {s₀ : State} (speed : Fin 4) (width : Fin 3) (s : State) (hs : State.Fr W s₀ s)
    (hw : partSub 0x8 W = true := by first | exact partSub_refl _ | exact partSub_trans (by with_reducible assumption) (by exact rfl)) : OutFr W s₀ (execPcieLinkUp speed width s) := by
  unfold execPcieLinkUp
  exact fr_next (State.setFld_fr _ _ _ (State.setFld_fr _ _ _ (State.setFlag_fr _ _ _ hs)))

theorem execJobsHwmRestart_fr {W : Nat} {s₀ : State} (s : State) (hs : State.Fr W s₀ s)
    (hw : partSub 0x8 W = true := by first | exact partSub_refl _ | exact partSub_trans (by with_reducible assumption) (by exact rfl)) : OutFr W s₀ (execJobsHwmRestart s) := by
  unfold execJobsHwmRestart
  exact fr_next (State.setFld_fr _ _ _ hs)

theorem execNopCommand_fr {W : Nat} {s₀ : State} (c : HCmd) (op : BitVec 8) (s : State) (hs : State.Fr W s₀ s)
    (hw : partSub 0x80c008 W = true := by first | exact partSub_refl _ | exact partSub_trans (by with_reducible assumption) (by exact rfl)) : OutFr W s₀ (execNopCommand c op s) := by
  unfold execNopCommand
  refine fr_next (fr_ite (State.command_fr _ _ _ _ _ _ _ _ hs ?_) hs)
  · intro y0 y1 g2
    exact State.complete_fr _ _ _ _ _ g2

theorem execDeviceInfo_fr {W : Nat} {s₀ : State} (c : HCmd) (s : State) (hs : State.Fr W s₀ s)
    (hw : partSub 0x80c008 W = true := by first | exact partSub_refl _ | exact partSub_trans (by with_reducible assumption) (by exact rfl)) : OutFr W s₀ (execDeviceInfo c s) := by
  unfold execDeviceInfo
  refine fr_next (State.command_fr _ _ _ _ _ _ _ _ hs ?_)
  · intro y0 y1 g2
    exact State.complete_fr _ _ _ _ _ g2

theorem execAdmission_fr {W : Nat} {s₀ : State} (c : HCmd) (s : State) (hs : State.Fr W s₀ s)
    (hw : partSub 0x88c008 W = true := by first | exact partSub_refl _ | exact partSub_trans (by with_reducible assumption) (by exact rfl)) : OutFr W s₀ (execAdmission c s) := by
  unfold execAdmission
  refine fr_next (State.command_fr _ _ _ _ _ _ _ _ hs ?_)
  · intro y0 y1 g2
    lift_lets
    intro x3 x4 x5
    have h6 : State.Fr W s₀ x5 := (fr_mk rfl rfl rfl rfl g2)
    clear_value x5
    intro x7
    have h8 : State.Fr W s₀ x7 := (State.budgetCheck_fr _ h6)
    clear_value x7
    exact State.complete_fr _ _ _ _ _ h8

theorem State.loadCps_fr {W : Nat} {s₀ : State} (s : State) (c : Nat) (ofs : Nat) (l : List Nat) (hs : State.Fr W s₀ s)
    (hw : partSub 0x20 W = true := by first | exact partSub_refl _ | exact partSub_trans (by with_reducible assumption) (by exact rfl)) : State.Fr W s₀ (State.loadCps s c ofs l) := by
  unfold State.loadCps
  refine fr_mem hs (fun h => (memWf_iff.1 h).1) (fun h => (memWf_iff.1 h).2.1) (fun h => (memWf_iff.1 h).2.2.1) fun h => ?_
  exact mwf_foldl (fun _ _ _ h => mwf_mset _ _ h) (memWf_iff.1 h).2.2.2

theorem execCsmLoad_fr {W : Nat} {s₀ : State} (c : HCmd) (s : State) (hs : State.Fr W s₀ s)
    (hw : partSub 0x84c028 W = true := by first | exact partSub_refl _ | exact partSub_trans (by with_reducible assumption) (by exact rfl)) : OutFr W s₀ (execCsmLoad c s) := by
  unfold execCsmLoad
  lift_lets
  intro x0 x1 x2 x3 x4 x5 x6 x7
  refine fr_next (State.command_fr _ _ _ _ _ _ _ _ hs ?_)
  · intro y8 y9 g10
    refine fr_ite (State.complete_fr _ _ _ _ _ (fr_foldl ?_ g10)) (fr_ite (State.complete_fr _ _ _ _ _ g10) (State.complete_fr _ _ _ _ _ (fr_ite (fr_mk rfl rfl rfl rfl (fr_foldl ?_ g10)) (fr_foldl ?_ g10))))
    · intro y11 y12 g13
      exact State.putCsm_fr _ _ _ _ g13
    · intro y14 y15 g16
      exact State.loadCps_fr _ _ _ _ g16
    · intro y17 y18 g19
      exact State.loadCps_fr _ _ _ _ g19

theorem execDecSync_fr {W : Nat} {s₀ : State} (c : HCmd) (s : State) (hs : State.Fr W s₀ s)
    (hw : partSub 0x80d008 W = true := by first | exact partSub_refl _ | exact partSub_trans (by with_reducible assumption) (by exact rfl)) : OutFr W s₀ (execDecSync c s) := by
  unfold execDecSync
  refine fr_next (State.command_fr _ _ _ _ _ _ _ _ hs ?_)
  · intro y0 y1 g2
    exact State.complete_fr _ _ _ _ _ (State.syncRequest_fr _ _ _ g2)

theorem execMsgSend_fr {W : Nat} {s₀ : State} (c : HCmd) (s : State) (hs : State.Fr W s₀ s)
    (hw : partSub 0x82c008 W = true := by first | exact partSub_refl _ | exact partSub_trans (by with_reducible assumption) (by exact rfl)) : OutFr W s₀ (execMsgSend c s) := by
  unfold execMsgSend
  lift_lets
  intro x0
  refine fr_next (State.command_fr _ _ _ _ _ _ _ _ hs ?_)
  · intro y1 y2 g3
    exact State.mgMessage_fr _ _ _ _ _ _ _ g3

theorem execCoefWrite_fr {W : Nat} {s₀ : State} (c : HCmd) (s : State) (hs : State.Fr W s₀ s)
    (hw : partSub 0x80d008 W = true := by first | exact partSub_refl _ | exact partSub_trans (by with_reducible assumption) (by exact rfl)) : OutFr W s₀ (execCoefWrite c s) := by
  unfold execCoefWrite
  lift_lets
  intro x0 x1
  refine fr_next (State.command_fr _ _ _ _ _ _ _ _ hs ?_)
  · intro y2 y3 g4
    refine fr_ite (State.complete_fr _ _ _ _ _ g4) (State.complete_fr _ _ _ _ _ (fr_foldl ?_ g4))
    · intro y5 y6 g7
      exact State.setCoef_fr _ _ _ _ _ g7

theorem execBankSwap_fr {W : Nat} {s₀ : State} (c : HCmd) (s : State) (hs : State.Fr W s₀ s)
    (hw : partSub 0x80d008 W = true := by first | exact partSub_refl _ | exact partSub_trans (by with_reducible assumption) (by exact rfl)) : OutFr W s₀ (execBankSwap c s) := by
  unfold execBankSwap
  refine fr_next (State.command_fr _ _ _ _ _ _ _ _ hs ?_)
  · intro y0 y1 g2
    exact State.swapRequest_fr _ _ _ _ g2

theorem State.sendHostFrame_fr {W : Nat} {s₀ : State} (s : State) (p : Nat) (pri : Nat) (ts : Bool) (bytes : List Byte) (o : Origin) (hs : State.Fr W s₀ s)
    (hw : partSub 0x80c388 W = true := by first | exact partSub_refl _ | exact partSub_trans (by with_reducible assumption) (by exact rfl)) : State.Fr W s₀ (State.sendHostFrame s p pri ts bytes o) := by
  unfold State.sendHostFrame
  lift_lets
  intro x0
  exact fr_ite (State.txDone_fr _ _ _ _ _ _ _ hs) (fr_ite (State.txDone_fr _ _ _ _ _ _ _ hs) (State.txAdmit_fr _ _ _ hs))

theorem execPktSend_fr {W : Nat} {s₀ : State} (c : HCmd) (s : State) (hs : State.Fr W s₀ s)
    (hw : partSub 0x82c388 W = true := by first | exact partSub_refl _ | exact partSub_trans (by with_reducible assumption) (by exact rfl)) : OutFr W s₀ (execPktSend c s) := by
  unfold execPktSend
  lift_lets
  intro x0
  refine fr_next (State.command_fr _ _ _ _ _ _ _ _ hs ?_)
  · intro y1 y2 g3
    exact fr_ite (State.mgSend_fr _ _ _ _ g3) (State.sendHostFrame_fr _ _ _ _ _ _ g3)

theorem State.withFtPage_fr {W : Nat} {s₀ : State} (s : State) (o : Origin) (f : State → State) (hs : State.Fr W s₀ s) (hf : ∀ (x0 : State), State.Fr W s₀ x0 → State.Fr W s₀ (f x0))
    (hw : partSub 0x80c008 W = true := by first | exact partSub_refl _ | exact partSub_trans (by with_reducible assumption) (by exact rfl)) : State.Fr W s₀ (State.withFtPage s o f) := by
  unfold State.withFtPage
  split
  · exact hf _ hs
  · exact State.complete_fr _ _ _ _ _ (State.unmappedEvent_fr _ _ hs)

theorem State.mirrorFlow_fr {W : Nat} {s₀ : State} (s : State) (add : Bool) (w : List Nat) (hs : State.Fr W s₀ s)
    (hw : partSub 0x10000 W = true := by first | exact partSub_refl _ | exact partSub_trans (by with_reducible assumption) (by exact rfl)) : State.Fr W s₀ (State.mirrorFlow s add w) := by
  unfold State.mirrorFlow
  exact fr_ite (State.mirror_fr _ _ hs) hs

theorem execFtInsert_fr {W : Nat} {s₀ : State} (c : HCmd) (s : State) (hs : State.Fr W s₀ s)
    (hw : partSub 0x81c108 W = true := by first | exact partSub_refl _ | exact partSub_trans (by with_reducible assumption) (by exact rfl)) : OutFr W s₀ (execFtInsert c s) := by
  unfold execFtInsert
  lift_lets
  intro x0
  refine fr_next (State.command_fr _ _ _ _ _ _ _ _ hs ?_)
  · intro y1 y2 g3
    refine State.withFtPage_fr _ _ _ g3 ?_
    · intro y4 g5
      lift_lets
      intro x6
      have h7 : State.Fr W s₀ x6.1 := (State.ftInsert_fr _ _ g5)
      clear_value x6
      exact fr_ite (State.complete_fr _ _ _ _ _ (State.mirrorFlow_fr _ _ _ h7)) (State.complete_fr _ _ _ _ _ h7)

theorem execFtDelete_fr {W : Nat} {s₀ : State} (c : HCmd) (s : State) (hs : State.Fr W s₀ s)
    (hw : partSub 0x81c108 W = true := by first | exact partSub_refl _ | exact partSub_trans (by with_reducible assumption) (by exact rfl)) : OutFr W s₀ (execFtDelete c s) := by
  unfold execFtDelete
  lift_lets
  intro x0
  refine fr_next (State.command_fr _ _ _ _ _ _ _ _ hs ?_)
  · intro y1 y2 g3
    refine State.withFtPage_fr _ _ _ g3 ?_
    · intro y4 g5
      lift_lets
      intro x6 x7
      have h8 : State.Fr W s₀ x7.1 := (State.ftDelete_fr _ _ g5)
      clear_value x7
      exact State.complete_fr _ _ _ _ _ (fr_ite (State.mirrorFlow_fr _ _ _ h8) h8)

theorem State.writeTemplate_fr {W : Nat} {s₀ : State} (s : State) (p : Nat) (t : Nat) (w : List Nat) (hs : State.Fr W s₀ s)
    (hw : partSub 0x10100 W = true := by first | exact partSub_refl _ | exact partSub_trans (by with_reducible assumption) (by exact rfl)) : State.Fr W s₀ (State.writeTemplate s p t w) := by
  unfold State.writeTemplate
  lift_lets
  intro x0
  have h1 : State.Fr W s₀ x0 := by
    dsimp -zeta only [x0]
    refine fr_foldl ?_ hs
    · intro y2 y3 g4
      exact State.setBytes_fr _ _ _ g4
  clear_value x0
  exact State.mirrorTemplate_fr _ _ _ h1

theorem execTplWrite_fr {W : Nat} {s₀ : State} (c : HCmd) (s : State) (hs : State.Fr W s₀ s)
    (hw : partSub 0x81c108 W = true := by first | exact partSub_refl _ | exact partSub_trans (by with_reducible assumption) (by exact rfl)) : OutFr W s₀ (execTplWrite c s) := by
  unfold execTplWrite
  lift_lets
  intro x0 x1 x2
  refine fr_next (State.command_fr _ _ _ _ _ _ _ _ hs ?_)
  · intro y3 y4 g5
    refine fr_ite ?_ (State.complete_fr _ _ _ _ _ g5)
    · split
      · exact State.complete_fr _ _ _ _ _ (State.unmappedEvent_fr _ _ g5)
      · refine State.complete_fr _ _ _ _ _ (fr_foldl ?_ g5)
        · intro y6 y7 g8
          exact State.writeTemplate_fr _ _ _ _ g8

theorem execSrtpWrite_fr {W : Nat} {s₀ : State} (c : HCmd) (s : State) (hs : State.Fr W s₀ s)
    (hw : partSub 0x81c208 W = true := by first | exact partSub_refl _ | exact partSub_trans (by with_reducible assumption) (by exact rfl)) : OutFr W s₀ (execSrtpWrite c s) := by
  unfold execSrtpWrite
  lift_lets
  intro x0 x1
  refine fr_next (State.command_fr _ _ _ _ _ _ _ _ hs ?_)
  · intro y2 y3 g4
    exact fr_ite (State.complete_fr _ _ _ _ _ (State.mirror_fr _ _ (State.setSrtp_fr _ _ _ g4))) (State.complete_fr _ _ _ _ _ g4)

theorem execSrtpRead_fr {W : Nat} {s₀ : State} (c : HCmd) (s : State) (hs : State.Fr W s₀ s)
    (hw : partSub 0x80c008 W = true := by first | exact partSub_refl _ | exact partSub_trans (by with_reducible assumption) (by exact rfl)) : OutFr W s₀ (execSrtpRead c s) := by
  unfold execSrtpRead
  refine fr_next (State.command_fr _ _ _ _ _ _ _ _ hs ?_)
  · intro y0 y1 g2
    lift_lets
    intro x3
    exact State.complete_fr _ _ _ _ _ (State.emit_fr _ _ g2)

theorem execPortReset_fr {W : Nat} {s₀ : State} (c : HCmd) (s : State) (hs : State.Fr W s₀ s)
    (hw : partSub 0x87c788 W = true := by first | exact partSub_refl _ | exact partSub_trans (by with_reducible assumption) (by exact rfl)) : OutFr W s₀ (execPortReset c s) := by
  unfold execPortReset
  refine fr_next (State.command_fr _ _ _ _ _ _ _ _ hs ?_)
  · intro y0 y1 g2
    exact State.portReset_fr _ _ _ g2

theorem execHostCopy_fr {W : Nat} {s₀ : State} (c : HCmd) (errs : List MemErr) (s : State) (hs : State.Fr W s₀ s)
    (hw : partSub 0x81c108 W = true := by first | exact partSub_refl _ | exact partSub_trans (by with_reducible assumption) (by exact rfl)) : OutFr W s₀ (execHostCopy c errs s) := by
  unfold execHostCopy
  lift_lets
  intro x0 x1 x2
  refine fr_next (State.command_fr _ _ _ _ _ _ _ _ hs ?_)
  · intro y3 y4 g5
    exact State.hostCopy_fr _ _ _ _ _ _ _ g5

theorem execPageMove_fr {W : Nat} {s₀ : State} (c : HCmd) (s : State) (hs : State.Fr W s₀ s)
    (hw : partSub 0x80c108 W = true := by first | exact partSub_refl _ | exact partSub_trans (by with_reducible assumption) (by exact rfl)) : OutFr W s₀ (execPageMove c s) := by
  unfold execPageMove
  refine fr_next (State.command_fr _ _ _ _ _ _ _ _ hs ?_)
  · intro y0 y1 g2
    lift_lets
    intro x3
    have h4 : State.Fr W s₀ x3.1 := (State.startMove_fr _ _ _ _ g2)
    clear_value x3
    split
    · exact State.complete_fr _ _ _ _ _ h4
    · exact h4

theorem State.openFor_fr {W : Nat} {s₀ : State} (s : State) (o : Origin) (r : OpenReq) (hs : State.Fr W s₀ s)
    (hw : partSub 0x89c1c8 W = true := by first | exact partSub_refl _ | exact partSub_trans (by with_reducible assumption) (by exact rfl)) : State.Fr W s₀ (State.openFor s o r) := by
  unfold State.openFor
  split
  · exact State.complete_fr _ _ _ _ _ hs
  · lift_lets
    intro x0
    have h1 : State.Fr W s₀ x0 := (State.openChannel_fr _ _ _ _ hs)
    clear_value x0
    intro x2
    have h3 : State.Fr W s₀ x2 := by
      dsimp -zeta only [x2]
      split
      · exact fr_ite (State.mirror_fr _ _ h1) h1
      · exact h1
    clear_value x2
    exact State.complete_fr _ _ _ _ _ h3

theorem execChOpen_fr {W : Nat} {s₀ : State} (c : HCmd) (s : State) (hs : State.Fr W s₀ s)
    (hw : partSub 0x89c1c8 W = true := by first | exact partSub_refl _ | exact partSub_trans (by with_reducible assumption) (by exact rfl)) : OutFr W s₀ (execChOpen c s) := by
  unfold execChOpen
  lift_lets
  intro x0 x1
  refine fr_next (State.command_fr _ _ _ _ _ _ _ _ hs ?_)
  · intro y2 y3 g4
    exact fr_ite (State.openFor_fr _ _ _ g4) (State.complete_fr _ _ _ _ _ g4)

theorem execChOpenGraph_fr {W : Nat} {s₀ : State} (c : HCmd) (s : State) (hs : State.Fr W s₀ s)
    (hw : partSub 0x89c1c8 W = true := by first | exact partSub_refl _ | exact partSub_trans (by with_reducible assumption) (by exact rfl)) : OutFr W s₀ (execChOpenGraph c s) := by
  unfold execChOpenGraph
  lift_lets
  intro x0 x1 x2
  refine fr_next (State.command_fr _ _ _ _ _ _ _ _ hs ?_)
  · intro y3 y4 g5
    exact fr_ite (State.openFor_fr _ _ _ g5) (State.complete_fr _ _ _ _ _ g5)

theorem execChClose_fr {W : Nat} {s₀ : State} (c : HCmd) (s : State) (hs : State.Fr W s₀ s)
    (hw : partSub 0x91c1d8 W = true := by first | exact partSub_refl _ | exact partSub_trans (by with_reducible assumption) (by exact rfl)) : OutFr W s₀ (execChClose c s) := by
  unfold execChClose
  lift_lets
  intro x0
  refine fr_next (State.command_fr _ _ _ _ _ _ _ _ hs ?_)
  · intro y1 y2 g3
    refine State.withChan_fr _ _ _ _ _ g3 ?_
    · intro y4 y5 g6
      exact State.beginClose_fr _ _ _ (State.migrationClosed_fr _ _ g6)

theorem execCloseComplete_fr {W : Nat} {s₀ : State} (n : BitVec 13) (s : State) (hs : State.Fr W s₀ s)
    (hw : partSub 0x89c0c8 W = true := by first | exact partSub_refl _ | exact partSub_trans (by with_reducible assumption) (by exact rfl)) : OutFr W s₀ (execCloseComplete n s) := by
  unfold execCloseComplete
  refine fr_next ?_
  · split
    · exact hs
    · lift_lets
      intro x0
      have h1 : State.Fr W s₀ x0 := (State.removeChan_fr _ _ hs)
      clear_value x0
      intro x2
      have h3 : State.Fr W s₀ x2 := (fr_ite (State.mirror_fr _ _ h1) h1)
      clear_value x2
      exact fr_ite (State.completeOpt_fr _ _ _ _ _ (State.actingEnd_fr _ h3)) hs

theorem execChParam_fr {W : Nat} {s₀ : State} (c : HCmd) (s : State) (hs : State.Fr W s₀ s)
    (hw : partSub 0x80c108 W = true := by first | exact partSub_refl _ | exact partSub_trans (by with_reducible assumption) (by exact rfl)) : OutFr W s₀ (execChParam c s) := by
  unfold execChParam
  lift_lets
  intro x0 x1 x2
  refine fr_next (State.command_fr _ _ _ _ _ _ _ _ hs ?_)
  · intro y3 y4 g5
    refine State.withChan_fr _ _ _ _ _ g5 ?_
    · intro y6 y7 g8
      lift_lets
      intro x9 x10
      exact fr_ite (State.complete_fr _ _ _ _ _ (State.setBytes_fr _ _ _ g8)) (State.complete_fr _ _ _ _ _ g8)

theorem execChStatus_fr {W : Nat} {s₀ : State} (c : HCmd) (s : State) (hs : State.Fr W s₀ s)
    (hw : partSub 0x80c008 W = true := by first | exact partSub_refl _ | exact partSub_trans (by with_reducible assumption) (by exact rfl)) : OutFr W s₀ (execChStatus c s) := by
  unfold execChStatus
  lift_lets
  intro x0
  refine fr_next (State.command_fr _ _ _ _ _ _ _ _ hs ?_)
  · intro y1 y2 g3
    refine State.withChan_fr _ _ _ _ _ g3 ?_
    · intro y4 y5 g6
      lift_lets
      intro x7
      exact State.complete_fr _ _ _ _ _ g6

theorem execCtxRead_fr {W : Nat} {s₀ : State} (c : HCmd) (errs : List MemErr) (s : State) (hs : State.Fr W s₀ s)
    (hw : partSub 0x80c108 W = true := by first | exact partSub_refl _ | exact partSub_trans (by with_reducible assumption) (by exact rfl)) : OutFr W s₀ (execCtxRead c errs s) := by
  unfold execCtxRead
  lift_lets
  intro x0 x1
  refine fr_next (State.command_fr _ _ _ _ _ _ _ _ hs ?_)
  · intro y2 y3 g4
    refine State.withChan_fr _ _ _ _ _ g4 ?_
    · intro y5 y6 g7
      exact fr_ite (State.complete_fr _ _ _ _ _ g7) (fr_ite (State.complete_fr _ _ _ _ _ (State.poisonSeen_fr _ (State.memErrs_fr _ _ g7))) (State.complete_fr _ _ _ _ _ (State.emit_fr _ _ (State.memErrs_fr _ _ g7))))

theorem execCtxWrite_fr {W : Nat} {s₀ : State} (c : HCmd) (s : State) (hs : State.Fr W s₀ s)
    (hw : partSub 0x80c108 W = true := by first | exact partSub_refl _ | exact partSub_trans (by with_reducible assumption) (by exact rfl)) : OutFr W s₀ (execCtxWrite c s) := by
  unfold execCtxWrite
  lift_lets
  intro x0 x1
  refine fr_next (State.command_fr _ _ _ _ _ _ _ _ hs ?_)
  · intro y2 y3 g4
    refine State.withChan_fr _ _ _ _ _ g4 ?_
    · intro y5 y6 g7
      exact fr_ite (State.complete_fr _ _ _ _ _ g7) (State.complete_fr _ _ _ _ _ (State.setBytes_fr _ _ _ g7))

theorem State.nodeCancel_fr {W : Nat} {s₀ : State} (s : State) (o : Origin) (n : Nat) (ch : Chan) (nd : Nat) (f : Nat) (hs : State.Fr W s₀ s)
    (hw : partSub 0x80c1d8 W = true := by first | exact partSub_refl _ | exact partSub_trans (by with_reducible assumption) (by exact rfl)) : State.Fr W s₀ (State.nodeCancel s o n ch nd f) := by
  unfold State.nodeCancel
  dsimp only
  split
  · exact State.complete_fr _ _ _ _ _ (State.incS_fr _ _ _ (State.endCancelled_fr _ _ _ (State.dropQueued_fr _ _ hs)))
  · split
    · exact fr_mk rfl rfl rfl rfl (State.setCore_fr _ _ _ hs)
    · exact fr_ite (State.complete_fr _ _ _ _ _ hs) (fr_ite (State.complete_fr _ _ _ _ _ hs) (fr_ite
        (State.complete_fr _ _ _ _ _ (State.setFlag_fr _ _ _ hs))
        (State.complete_fr _ _ _ _ _ (State.incS_fr _ _ _ (State.setChan_fr _ _ _ hs)))))

theorem execNodeCancel_fr {W : Nat} {s₀ : State} (c : HCmd) (s : State) (hs : State.Fr W s₀ s)
    (hw : partSub 0x80c1d8 W = true := by first | exact partSub_refl _ | exact partSub_trans (by with_reducible assumption) (by exact rfl)) : OutFr W s₀ (execNodeCancel c s) := by
  unfold execNodeCancel
  lift_lets
  intro x0
  refine fr_next (State.command_fr _ _ _ _ _ _ _ _ hs ?_)
  · intro y1 y2 g3
    refine State.withChan_fr _ _ _ _ _ g3 ?_
    · intro y4 y5 g6
      exact State.nodeCancel_fr _ _ _ _ _ _ g6

theorem execFlowResync_fr {W : Nat} {s₀ : State} (c : HCmd) (s : State) (hs : State.Fr W s₀ s)
    (hw : partSub 0x80c148 W = true := by first | exact partSub_refl _ | exact partSub_trans (by with_reducible assumption) (by exact rfl)) : OutFr W s₀ (execFlowResync c s) := by
  unfold execFlowResync
  lift_lets
  intro x0
  refine fr_next (State.command_fr _ _ _ _ _ _ _ _ hs ?_)
  · intro y1 y2 g3
    refine State.withChan_fr _ _ _ _ _ g3 ?_
    · intro y4 y5 g6
      exact State.complete_fr _ _ _ _ _ (State.writeNext_fr _ _ (State.setFlow_fr _ _ _ g6))

end Sys2Proof.Machine
end

