-- ==== Sys2Proof/Laws/FrameRk.lean ====
section
/-! SUPPORT. The frame lemmas of the Rucksack and the fabric links (see Laws/Frame.lean). -/
set_option Elab.async false

namespace Sys2Proof.Machine

theorem State.rkAccess_fr {W : Nat} {s₀ : State} (s : State) (a : Nat) (n : Nat) (write : Bool) (fail : Nat) (hs : State.Fr W s₀ s)
    (hw : partSub 0x8008 W = true := by first | exact partSub_refl _ | exact partSub_trans (by with_reducible assumption) (by exact rfl)) : State.Fr W s₀ (State.rkAccess s a n write fail).1 := by
  unfold State.rkAccess
  refine fr_iteP (fr_iteP (State.remoteErr_fr _ hs) (fr_iteP (State.remoteErr_fr _ hs) hs)) (fr_iteP ?_ (fr_iteP (State.poisonSeen_fr _ hs) hs))
  · split
    · exact State.unmappedEvent_fr _ _ hs
    · exact hs

theorem State.rkWrite_fr {W : Nat} {s₀ : State} (s : State) (a : Nat) (l : List Byte) (hs : State.Fr W s₀ s)
    (hw : partSub 0x18108 W = true := by first | exact partSub_refl _ | exact partSub_trans (by with_reducible assumption) (by exact rfl)) : State.Fr W s₀ (State.rkWrite s a l) := by
  unfold State.rkWrite
  exact fr_ite (fr_ite hs (State.remoteAccess_fr _ _ _ _ _ _ hs)) (State.setBytes_fr _ _ _ hs)

theorem State.engFree_fr {W : Nat} {s₀ : State} (s : State) (e : Nat) (hs : State.Fr W s₀ s)
    (hw : partSub 0x100008 W = true := by first | exact partSub_refl _ | exact partSub_trans (by with_reducible assumption) (by exact rfl)) : State.Fr W s₀ (State.engFree s e) := by
  unfold State.engFree
  lift_lets
  intro x0 x1
  have h2 : State.Fr W s₀ x1 := (fr_mk rfl rfl rfl rfl hs)
  clear_value x1
  exact State.setFlag_fr _ _ _ (State.setFld_fr _ _ _ (State.setFld_fr _ _ _ h2))

theorem State.rkBytes_fr {W : Nat} {s₀ : State} (s : State) (e : Nat) (out : Bool) (n : Nat) (hs : State.Fr W s₀ s)
    (hw : partSub 0x108008 W = true := by first | exact partSub_refl _ | exact partSub_trans (by with_reducible assumption) (by exact rfl)) : State.Fr W s₀ (State.rkBytes s e out n) := by
  unfold State.rkBytes
  lift_lets
  intro x0 x1 x2 x3 x4 x5
  have h6 : State.Fr W s₀ x5 := (fr_mk rfl rfl rfl rfl hs)
  clear_value x5
  intro x7
  have h8 : State.Fr W s₀ x7 := (State.incWrap_fr _ _ _ _ h6)
  clear_value x7
  exact fr_ite (State.setFld_fr _ _ _ (State.setFld_fr _ _ _ h8)) (State.setFld_fr _ _ _ (State.setFld_fr _ _ _ h8))

theorem State.rkCount_fr {W : Nat} {s₀ : State} (s : State) (e : Nat) (detail : Nat) (hs : State.Fr W s₀ s)
    (hw : partSub 0x8008 W = true := by first | exact partSub_refl _ | exact partSub_trans (by with_reducible assumption) (by exact rfl)) : State.Fr W s₀ (State.rkCount s e detail) := by
  unfold State.rkCount
  lift_lets
  intro x0 x1
  have h2 : State.Fr W s₀ x1 := (State.setFld_fr _ _ _ (State.setFld_fr _ _ _ hs))
  clear_value x1
  intro x3
  have h4 : State.Fr W s₀ x3 := (State.incW_fr _ _ _ h2)
  clear_value x3
  exact fr_ite (State.incS_fr _ _ _ h4) h4

theorem State.rkEnd_fr {W : Nat} {s₀ : State} (s : State) (e : Nat) (j : RkJob) (status : Nat) (detail : Nat) (consumed : Nat) (written : Nat) (check : Nat) (verified : Bool) (saved : Bool) (hs : State.Fr W s₀ s)
    (hw : partSub 0x91c1c8 W = true := by first | exact partSub_refl _ | exact partSub_trans (by with_reducible assumption) (by exact rfl)) : State.Fr W s₀ (State.rkEnd s e j status detail consumed written check verified saved) := by
  unfold State.rkEnd
  extract_lets x0 x1 x2 x3
  have h0 : State.Fr W s₀ x0 := State.rkCount_fr _ _ _ (State.engFree_fr _ _ hs)
  clear_value x0
  have h1 : State.Fr W s₀ x1 := fr_ite (State.setFlag_fr _ _ _ h0) h0
  clear_value x1 x2 x3
  split
  · exact State.endJob_fr _ _ _ _ _ h1
  · split
    · exact h1
    · extract_lets x4 x5
      have h2 : State.Fr W s₀ x4 := by
        unfold x4
        split
        · exact State.cellDone_fr _ _ _ _ _ _ h1
        · exact h1
      have h3 : State.Fr W s₀ x5 := fr_ite (State.checkpointSend_fr _ _ _ h2) h2
      exact fr_ite (State.sourceToken_fr _ _ _ _ h3) h3

theorem State.quarantine_fr {W : Nat} {s₀ : State} (s : State) (e : Nat) (inj : Bool) (hs : State.Fr W s₀ s)
    (hw : partSub 0x108008 W = true := by first | exact partSub_refl _ | exact partSub_trans (by with_reducible assumption) (by exact rfl)) : State.Fr W s₀ (State.quarantine s e inj) := by
  unfold State.quarantine
  lift_lets
  intro x0
  have h1 : State.Fr W s₀ x0 := (State.engFree_fr _ _ hs)
  clear_value x0
  intro x2 x3
  have h4 : State.Fr W s₀ x3 := (State.setFlag_fr _ _ _ (State.setFld_fr _ _ _ h1))
  clear_value x3
  intro x5 x6
  have h7 : State.Fr W s₀ x6 := (fr_ite (State.raiseInj_fr _ _ _ _ _ _ _ _ h4) (State.raise_fr _ _ _ _ _ _ _ _ h4))
  clear_value x6
  intro x8
  have h9 : State.Fr W s₀ x8 := (fr_ite (State.event_fr _ _ _ _ _ _ _ (State.setFld_fr _ _ _ h7)) (State.setFld_fr _ _ _ h7))
  clear_value x8
  exact fr_ite (State.raise_fr _ _ _ _ _ _ _ _ h9) h9

theorem State.rkFail_fr {W : Nat} {s₀ : State} (s : State) (e : Nat) (mismatch : Bool) (inj : Bool) (hs : State.Fr W s₀ s)
    (hw : partSub 0x91c1c8 W = true := by first | exact partSub_refl _ | exact partSub_trans (by with_reducible assumption) (by exact rfl)) : State.Fr W s₀ (State.rkFail s e mismatch inj) := by
  unfold State.rkFail
  split
  · exact hs
  · lift_lets
    intro x0
    have h1 : State.Fr W s₀ x0 := (State.quarantine_fr _ _ _ hs)
    clear_value x0
    intro x2 x3 x4 x5
    have h6 : State.Fr W s₀ x5 := (fr_mk rfl rfl rfl rfl h1)
    clear_value x5
    intro x7
    have h8 : State.Fr W s₀ x7 := (fr_mk rfl rfl rfl rfl h1)
    clear_value x7
    intro x9 x10
    have h11 : State.Fr W s₀ x10 := (State.rkEnd_fr _ _ _ _ _ _ _ _ _ _ (State.incS_fr _ _ _ h1))
    clear_value x10
    refine fr_ite ?_ (State.setFld_fr _ _ _ h11)
    · split
      · refine State.rkMark_fr _ ?_
        · split
          · exact State.setJob_fr _ _ h6
          · exact h6
      · refine State.rkMark_fr _ ?_
        · split
          · split
            · exact State.cellDone_fr _ _ _ _ _ _ h8
            · exact h8
          · exact h8

theorem State.rkWait_fr {W : Nat} {s₀ : State} (s : State) (f : Fld) (since : Nat) (hs : State.Fr W s₀ s)
    (hw : partSub 0x8 W = true := by first | exact partSub_refl _ | exact partSub_trans (by with_reducible assumption) (by exact rfl)) : State.Fr W s₀ (State.rkWait s f since) := by
  unfold State.rkWait
  exact State.setFld_fr _ _ _ hs

theorem execEngineTakeJob_fr {W : Nat} {s₀ : State} (e : Fin 4) (s : State) (hs : State.Fr W s₀ s)
    (hw : partSub 0x91c1c8 W = true := by first | exact partSub_refl _ | exact partSub_trans (by with_reducible assumption) (by exact rfl)) : OutFr W s₀ (execEngineTakeJob e s) := by
  unfold execEngineTakeJob
  refine fr_next (fr_ite hs ?_)
  · split
    · exact hs
    · lift_lets
      intro x0 x1 x2 x3
      have h4 : State.Fr W s₀ x3 := (fr_mk rfl rfl rfl rfl hs)
      clear_value x3
      intro x5
      have h6 : State.Fr W s₀ x5 := (State.setFlag_fr _ _ _ (State.setFld_fr _ _ _ (State.setFld_fr _ _ _ h4)))
      clear_value x5
      intro x7
      have h8 : State.Fr W s₀ x7 := (State.rkWait_fr _ _ _ h6)
      clear_value x7
      intro x9
      have h10 : State.Fr W s₀ x9 := by
        dsimp -zeta only [x9]
        split
        · split
          · exact State.setJob_fr _ _ h8
          · exact h8
        · split
          · exact State.cellDone_fr _ _ _ _ _ _ h8
          · exact h8
        · exact h8
      clear_value x9
      intro x11
      exact fr_ite (fr_ite (State.rkEnd_fr _ _ _ _ _ _ _ _ _ _ h10) (fr_ite (State.setWord_fr _ _ _ h10) h10)) (fr_ite (State.setWord_fr _ _ _ h10) h10)

theorem State.rkSuspend_fr {W : Nat} {s₀ : State} (s : State) (a : Nat) (c : RkCont) (hs : State.Fr W s₀ s)
    (hw : partSub 0x100100 W = true := by first | exact partSub_refl _ | exact partSub_trans (by with_reducible assumption) (by exact rfl)) : State.Fr W s₀ (State.rkSuspend s a c) := by
  unfold State.rkSuspend
  lift_lets
  intro x0 x1
  have h2 : State.Fr W s₀ x1 := (fr_mk rfl rfl rfl rfl hs)
  clear_value x1
  exact fr_ite (State.setWord_fr _ _ _ h2) h2

theorem State.rkReach_fr {W : Nat} {s₀ : State} (s : State) (j : RkJob) (far : RkFar) (hs : State.Fr W s₀ s)
    (hw : partSub 0x8008 W = true := by first | exact partSub_refl _ | exact partSub_trans (by with_reducible assumption) (by exact rfl)) : State.Fr W s₀ (State.rkReach s j far).1 := by
  unfold State.rkReach
  exact fr_foldlP (fun _ _ h => fr_iteP h (State.rkAccess_fr _ _ _ _ _ h)) hs

theorem State.rkJobEnd_fr {W : Nat} {s₀ : State} (s : State) (e : Nat) (far : RkFar) (errs : List MemErr) (hs : State.Fr W s₀ s)
    (hw : partSub 0x91c1c8 W = true := by first | exact partSub_refl _ | exact partSub_trans (by with_reducible assumption) (by exact rfl)) : State.Fr W s₀ (State.rkJobEnd s e far errs) := by
  unfold State.rkJobEnd
  split
  · exact hs
  · lift_lets
    intro x0
    have h1 : State.Fr W s₀ x0 := (State.memErrs_fr _ _ hs)
    clear_value x0
    intro x2
    have h3 : State.Fr W s₀ x2.1 := (State.rkReach_fr _ _ _ h1)
    clear_value x2
    intro x4
    have h5 : State.Fr W s₀ x4 := h3
    clear_value x4
    intro x6 x7 x8 x9 x10 x11 x12 x13
    have h14 : State.Fr W s₀ x13 := (State.rkWrite_fr _ _ _ h5)
    clear_value x13
    intro x15
    have h16 : State.Fr W s₀ x15 := (State.rkBytes_fr _ _ _ _ (State.rkBytes_fr _ _ _ _ h14))
    clear_value x15
    intro x17 x18
    have h19 : State.Fr W s₀ x18 := (fr_ite (State.incS_fr _ _ _ h16) h16)
    clear_value x18
    intro x20 x21 x22 x23
    have h24 : State.Fr W s₀ x23 := by
      dsimp -zeta only [x23]
      split
      · exact fr_ite (State.rkWrite_fr _ _ _ h19) h19
      · exact h19
    clear_value x23
    exact fr_ite (State.rkEnd_fr _ _ _ _ _ _ _ _ _ _ h5) (fr_ite (State.rkFail_fr _ _ _ _ (fr_mk rfl rfl rfl rfl h5)) (fr_ite (fr_ite (State.rkEnd_fr _ _ _ _ _ _ _ _ _ _ h19) (State.rkEnd_fr _ _ _ _ _ _ _ _ _ _ (State.rkSuspend_fr _ _ _ h19))) (State.rkEnd_fr _ _ _ _ _ _ _ _ _ _ h24)))

theorem execRkJobEnd_fr {W : Nat} {s₀ : State} (e : Fin 4) (input : List (BitVec 8)) (dict : List (BitVec 8)) (fail : BitVec 4) (errs : List MemErr) (s : State) (hs : State.Fr W s₀ s)
    (hw : partSub 0x91c1c8 W = true := by first | exact partSub_refl _ | exact partSub_trans (by with_reducible assumption) (by exact rfl)) : OutFr W s₀ (execRkJobEnd e input dict fail errs s) := by
  unfold execRkJobEnd
  exact fr_next (State.rkJobEnd_fr _ _ _ _ hs)

theorem execQuarantine_fr {W : Nat} {s₀ : State} (e : Fin 4) (mismatch : Bool) (s : State) (hs : State.Fr W s₀ s)
    (hw : partSub 0x91c1c8 W = true := by first | exact partSub_refl _ | exact partSub_trans (by with_reducible assumption) (by exact rfl)) : OutFr W s₀ (execQuarantine e mismatch s) := by
  unfold execQuarantine
  refine fr_next ?_
  · split
    · exact fr_ite hs (State.rkFail_fr _ _ _ _ hs)
    · exact hs

theorem State.rkRelease_fr {W : Nat} {s₀ : State} (s : State) (e : Nat) (hs : State.Fr W s₀ s)
    (hw : partSub 0x100000 W = true := by first | exact partSub_refl _ | exact partSub_trans (by with_reducible assumption) (by exact rfl)) : State.Fr W s₀ (State.rkRelease s e) := by
  unfold State.rkRelease
  lift_lets
  intro x0
  exact fr_ite (fr_mk rfl rfl rfl rfl hs) hs

theorem execRelease_fr {W : Nat} {s₀ : State} (e : Fin 4) (s : State) (hs : State.Fr W s₀ s)
    (hw : partSub 0x100000 W = true := by first | exact partSub_refl _ | exact partSub_trans (by with_reducible assumption) (by exact rfl)) : OutFr W s₀ (execRelease e s) := by
  unfold execRelease
  exact fr_next (State.rkRelease_fr _ _ hs)

theorem execEngineSelftestEnd_fr {W : Nat} {s₀ : State} (e : Fin 4) (pass : Bool) (s : State) (hs : State.Fr W s₀ s)
    (hw : partSub 0x108008 W = true := by first | exact partSub_refl _ | exact partSub_trans (by with_reducible assumption) (by exact rfl)) : OutFr W s₀ (execEngineSelftestEnd e pass s) := by
  unfold execEngineSelftestEnd
  lift_lets
  intro x0 x1
  have h2 : State.Fr W s₀ x1 := (fr_mk rfl rfl rfl rfl hs)
  clear_value x1
  exact fr_next (fr_ite (fr_ite (State.event_fr _ _ _ _ _ _ _ (State.setFld_fr _ _ _ h2)) (State.raise_fr _ _ _ _ _ _ _ _ h2)) hs)

theorem State.rkTest_fr {W : Nat} {s₀ : State} (s : State) (v : Nat) (hs : State.Fr W s₀ s)
    (hw : partSub 0x108008 W = true := by first | exact partSub_refl _ | exact partSub_trans (by with_reducible assumption) (by exact rfl)) : State.Fr W s₀ (State.rkTest s v) := by
  unfold State.rkTest
  lift_lets
  intro x0 x1 x2
  have h3 : State.Fr W s₀ x2 := (State.setFld_fr _ _ _ hs)
  clear_value x2
  intro x4
  exact fr_ite (State.reservedEncoding_fr _ _ _ h3) (fr_ite h3 (fr_mk rfl rfl rfl rfl h3))

theorem execRkTestInject_fr {W : Nat} {s₀ : State} (v : BitVec 32) (s : State) (hs : State.Fr W s₀ s)
    (hw : partSub 0x108008 W = true := by first | exact partSub_refl _ | exact partSub_trans (by with_reducible assumption) (by exact rfl)) : OutFr W s₀ (execRkTestInject v s) := by
  unfold execRkTestInject
  exact fr_next (State.rkTest_fr _ _ hs)

theorem State.rkHwmRestart_fr {W : Nat} {s₀ : State} (s : State) (hs : State.Fr W s₀ s)
    (hw : partSub 0x8 W = true := by first | exact partSub_refl _ | exact partSub_trans (by with_reducible assumption) (by exact rfl)) : State.Fr W s₀ (State.rkHwmRestart s) := by
  unfold State.rkHwmRestart
  exact State.setFld_fr _ _ _ (State.setFld_fr _ _ _ hs)

theorem execRkHwmRestart_fr {W : Nat} {s₀ : State} (s : State) (hs : State.Fr W s₀ s)
    (hw : partSub 0x8 W = true := by first | exact partSub_refl _ | exact partSub_trans (by with_reducible assumption) (by exact rfl)) : OutFr W s₀ (execRkHwmRestart s) := by
  unfold execRkHwmRestart
  exact fr_next (State.rkHwmRestart_fr _ hs)

theorem execRkJob_fr {W : Nat} {s₀ : State} (c : HCmd) (s : State) (hs : State.Fr W s₀ s)
    (hw : partSub 0x90c008 W = true := by first | exact partSub_refl _ | exact partSub_trans (by with_reducible assumption) (by exact rfl)) : OutFr W s₀ (execRkJob c s) := by
  unfold execRkJob
  refine fr_next (State.jobCommand_fr _ _ _ _ _ _ _ _ _ _ hs ?_)
  · intro y0 y1 g2
    lift_lets
    intro x3 x4
    have h5 : State.Fr W s₀ x4 := (State.addJob_fr _ _ g2)
    clear_value x4
    intro x6
    exact fr_ite (State.complete_fr _ _ _ _ _ g2) (State.rkMark_fr _ (fr_mk rfl rfl rfl rfl h5))

theorem State.rkSuspendJob_fr {W : Nat} {s₀ : State} (s : State) (o : Origin) (j : Job) (hs : State.Fr W s₀ s)
    (hw : partSub 0x90c008 W = true := by first | exact partSub_refl _ | exact partSub_trans (by with_reducible assumption) (by exact rfl)) : State.Fr W s₀ (State.rkSuspendJob s o j) := by
  unfold State.rkSuspendJob
  lift_lets
  intro x0 x1
  refine fr_ite (State.suspended_fr _ _ (State.setJob_fr _ _ (fr_mk rfl rfl rfl rfl hs))) ?_
  · split
    · exact fr_ite (State.complete_fr _ _ _ _ _ hs) (State.setJob_fr _ _ hs)
    · exact State.complete_fr _ _ _ _ _ hs

theorem execHostSuspend_fr {W : Nat} {s₀ : State} (e : Fin 4) (n : BitVec 24) (input : List (BitVec 8)) (dict : List (BitVec 8)) (s : State) (hs : State.Fr W s₀ s)
    (hw : partSub 0x91c108 W = true := by first | exact partSub_refl _ | exact partSub_trans (by with_reducible assumption) (by exact rfl)) : OutFr W s₀ (execHostSuspend e n input dict s) := by
  unfold execHostSuspend
  refine fr_next ?_
  · split
    · exact hs
    · split
      · exact hs
      · lift_lets
        intro x0 x1 x2 x3 x4 x5
        have h6 : State.Fr W s₀ x5 := (State.rkWrite_fr _ _ _ hs)
        clear_value x5
        intro x7
        have h8 : State.Fr W s₀ x7 := (State.rkBytes_fr _ _ _ _ h6)
        clear_value x7
        intro x9
        have h10 : State.Fr W s₀ x9 := (State.rkSuspend_fr _ _ _ h8)
        clear_value x9
        intro x11
        have h12 : State.Fr W s₀ x11 := (State.incS_fr _ _ _ (State.engFree_fr _ _ h10))
        clear_value x11
        intro x13
        have h14 : State.Fr W s₀ x13 := by
          dsimp -zeta only [x13]
          split
          · exact State.setJob_fr _ _ h12
          · exact h12
        clear_value x13
        exact fr_ite hs (State.suspended_fr _ _ h14)

theorem State.rkResumeJob_fr {W : Nat} {s₀ : State} (s : State) (j : Job) (hs : State.Fr W s₀ s)
    (hw : partSub 0x104108 W = true := by first | exact partSub_refl _ | exact partSub_trans (by with_reducible assumption) (by exact rfl)) : State.Fr W s₀ (State.rkResumeJob s j) := by
  unfold State.rkResumeJob
  lift_lets
  intro x0 x1 x2 x3
  have h4 : State.Fr W s₀ x3 := (fr_ite (State.setWord_fr _ _ _ hs) hs)
  clear_value x3
  intro x5 x6 x7
  have h8 : State.Fr W s₀ x7 := (fr_ite (fr_mk rfl rfl rfl rfl hs) (State.rkMark_fr _ (fr_mk rfl rfl rfl rfl h4)))
  clear_value x7
  exact State.setJob_fr _ _ h8

theorem State.rkCancelJob_fr {W : Nat} {s₀ : State} (s : State) (j : Job) (hs : State.Fr W s₀ s)
    (hw : partSub 0x90c008 W = true := by first | exact partSub_refl _ | exact partSub_trans (by with_reducible assumption) (by exact rfl)) : State.Fr W s₀ (State.rkCancelJob s j) := by
  unfold State.rkCancelJob
  lift_lets
  intro x0 x1 x2
  have h3 : State.Fr W s₀ x2 := by
    dsimp -zeta only [x2]
    split
    · exact State.engFree_fr _ _ hs
    · exact hs
  clear_value x2
  intro x4 x5
  have h6 : State.Fr W s₀ x5 := (fr_mk rfl rfl rfl rfl h3)
  clear_value x5
  exact State.endJob_fr _ _ _ _ _ h6

theorem State.withShadow_fr {W : Nat} {s₀ : State} (s : State) (i : Nat) (f : State → State × Nat × Nat) (hs : State.Fr W s₀ s) (hf : ∀ (x0 : State), State.Fr W s₀ x0 → State.Fr W s₀ ((f x0).1))
    (hw : partSub 0x10008 W = true := by first | exact partSub_refl _ | exact partSub_trans (by with_reducible assumption) (by exact rfl)) : State.Fr W s₀ (State.withShadow s i f).1 := by
  unfold State.withShadow
  lift_lets
  intro x0 x1 x2 x3 x4
  have h5 : State.Fr W s₀ x4.1 := (hf _ (fr_mk rfl rfl rfl rfl hs))
  clear_value x4
  intro x6
  have h7 : State.Fr W s₀ x6 := h5
  clear_value x6
  intro x8 x9
  have h10 : State.Fr W s₀ x9 := (fr_mk rfl rfl rfl rfl h7)
  clear_value x9
  exact State.setFld_fr _ _ _ (State.setFld_fr _ _ _ h10)

theorem State.slotCounts_fr {W : Nat} {s₀ : State} (s : State) (i : Nat) (hs : State.Fr W s₀ s)
    (hw : partSub 0x8 W = true := by first | exact partSub_refl _ | exact partSub_trans (by with_reducible assumption) (by exact rfl)) : State.Fr W s₀ (State.slotCounts s i) := by
  unfold State.slotCounts
  lift_lets
  intro x0
  exact State.setFld_fr _ _ _ (State.setFld_fr _ _ _ hs)

theorem State.setSh_fr {W : Nat} {s₀ : State} (s : State) (i : Nat) (n : Nat) (c : ShChan) (hs : State.Fr W s₀ s)
    (hw : partSub 0x10000 W = true := by first | exact partSub_refl _ | exact partSub_trans (by with_reducible assumption) (by exact rfl)) : State.Fr W s₀ (State.setSh s i n c) := by
  unfold State.setSh
  lift_lets
  intro x0
  exact State.setTwSlot_fr _ _ _ hs

theorem State.applyCheckpoint_fr {W : Nat} {s₀ : State} (s : State) (i : Nat) (n : Nat) (frame : Nat) (full : Bool) (stage : Nat) (hdr : List Nat) (data : List Byte) (hs : State.Fr W s₀ s)
    (hw : partSub 0x18108 W = true := by first | exact partSub_refl _ | exact partSub_trans (by with_reducible assumption) (by exact rfl)) : State.Fr W s₀ (State.applyCheckpoint s i n frame full stage hdr data) := by
  unfold State.applyCheckpoint
  split
  · exact hs
  · lift_lets
    intro x0 x1 x2
    have h3 : State.Fr W s₀ x2 := (fr_ite (State.twCount_fr _ _ _ (State.setFlag_fr _ _ _ hs)) hs)
    clear_value x2
    intro x4 x5 x6
    have h7 : State.Fr W s₀ x6 := (State.setBytes_fr _ _ _ h3)
    clear_value x6
    intro x8
    have h9 : State.Fr W s₀ x8 := by
      dsimp -zeta only [x8]
      refine fr_foldl ?_ h7
      · intro y10 y11 g12
        exact fr_ite (State.setBytes_fr _ _ _ g12) g12
    clear_value x8
    intro x13 x14
    have h15 : State.Fr W s₀ x14 := (State.setSh_fr _ _ _ _ h9)
    clear_value x14
    intro x16 x17
    have h18 : State.Fr W s₀ x17 := (State.setTwSlot_fr _ _ _ h15)
    clear_value x17
    exact fr_ite (State.slotCounts_fr _ _ (State.twCount_fr _ _ _ h18)) (State.slotCounts_fr _ _ (State.setSh_fr _ _ _ _ h3))

theorem State.applyRecord_fr {W : Nat} {s₀ : State} (s : State) (i : Nat) (r : MirrorRec) (hs : State.Fr W s₀ s)
    (hw : partSub 0x18108 W = true := by first | exact partSub_refl _ | exact partSub_trans (by with_reducible assumption) (by exact rfl)) : State.Fr W s₀ (State.applyRecord s i r) := by
  unfold State.applyRecord
  split
  · exact State.applyCheckpoint_fr _ _ _ _ _ _ _ _ hs
  · exact State.twCount_fr _ _ _ (State.setBytes_fr _ _ _ hs)
  · lift_lets
    intro x0
    exact State.twCount_fr _ _ _ (State.setTwSlot_fr _ _ _ hs)
  · lift_lets
    intro x1
    exact State.twCount_fr _ _ _ (State.setTwSlot_fr _ _ _ hs)
  · lift_lets
    intro x2
    have h3 : State.Fr W s₀ x2 := (State.twCount_fr _ _ _ hs)
    clear_value x2
    intro x4 x5
    have h6 : State.Fr W s₀ x5.1 := by
      dsimp -zeta only [x5]
      refine State.withShadow_fr _ _ _ h3 ?_
      · intro y7 g8
        exact State.ftInsert_fr _ _ g8
    clear_value x5
    intro x9 x10 x11
    have h12 : State.Fr W s₀ x11 := (State.event_fr _ _ _ _ _ _ _ (State.twCount_fr _ _ _ h6))
    clear_value x11
    refine fr_ite (fr_ite (fr_ite (State.setSh_fr _ _ _ _ h6) h6) (fr_ite (State.setSh_fr _ _ _ _ h12) h12)) (State.withShadow_fr _ _ _ h3 ?_)
    · intro y13 g14
      lift_lets
      intro x15
      have h16 : State.Fr W s₀ x15.1 := (State.ftDelete_fr _ _ g14)
      clear_value x15
      exact h16
  · exact State.logIngress_fr _ _ _ _ _ hs
  · refine fr_foldl ?_ hs
    · intro y17 y18 g19
      split
      · lift_lets
        intro x20
        exact fr_ite (State.setSh_fr _ _ _ _ g19) g19
      · exact g19
  · split
    · lift_lets
      intro x21
      exact State.setSh_fr _ _ _ _ (State.zeroRange_fr _ _ _ hs)
    · exact hs
  · lift_lets
    intro x22
    exact State.slotCounts_fr _ _ (State.setTwSlot_fr _ _ _ hs)
  · exact State.raise_fr _ _ _ _ _ _ _ _ hs

theorem State.synced_fr {W : Nat} {s₀ : State} (s : State) (i : Nat) (hs : State.Fr W s₀ s)
    (hw : partSub 0x8008 W = true := by first | exact partSub_refl _ | exact partSub_trans (by with_reducible assumption) (by exact rfl)) : State.Fr W s₀ (State.synced s i) := by
  unfold State.synced
  exact fr_ite (State.event_fr _ _ _ _ _ _ _ (State.setSlotState_fr _ _ _ hs)) hs

theorem State.fabIn_fr {W : Nat} {s₀ : State} (s : State) (f : FabIn) (g : State → Nat → State) (hs : State.Fr W s₀ s) (hg : ∀ (x0 : State) (x1 : Nat), State.Fr W s₀ x0 → State.Fr W s₀ (g x0 x1))
    (hw : partSub 0x81c008 W = true := by first | exact partSub_refl _ | exact partSub_trans (by with_reducible assumption) (by exact rfl)) : State.Fr W s₀ (State.fabIn s f g) := by
  unfold State.fabIn
  lift_lets
  intro x0
  have h1 : State.Fr W s₀ x0.1 := (State.fabCheck_fr _ _ hs)
  clear_value x0
  split
  · exact h1
  · exact State.checkpointAllDone_fr _ _ (hg _ _ h1)

theorem State.fabOrdered_fr {W : Nat} {s₀ : State} (s : State) (f : FabIn) (l : Nat) (g : State → State) (hs : State.Fr W s₀ s) (hg : ∀ (x0 : State), State.Fr W s₀ x0 → State.Fr W s₀ (g x0))
    (hw : partSub 0x18008 W = true := by first | exact partSub_refl _ | exact partSub_trans (by with_reducible assumption) (by exact rfl)) : State.Fr W s₀ (State.fabOrdered s f l g) := by
  unfold State.fabOrdered
  lift_lets
  intro x0
  have h1 : State.Fr W s₀ x0.1 := (State.fabSeq_fr _ _ _ hs)
  clear_value x0
  exact fr_ite (hg _ h1) h1

theorem State.heartbeat_fr {W : Nat} {s₀ : State} (s : State) (l : Nat) (serial : Nat) (mode : Nat) (role : Nat) (slots : List Nat) (hs : State.Fr W s₀ s)
    (hw : partSub 0x83c008 W = true := by first | exact partSub_refl _ | exact partSub_trans (by with_reducible assumption) (by exact rfl)) : State.Fr W s₀ (State.heartbeat s l serial mode role slots) := by
  unfold State.heartbeat
  lift_lets
  intro x0 x1
  have h2 : State.Fr W s₀ x1 := (State.setFlag_fr _ _ _ (State.twCount_fr _ _ _ hs))
  clear_value x1
  intro x3
  have h4 : State.Fr W s₀ x3 := (fr_ite (State.linkUp_fr _ _ _ hs) hs)
  clear_value x3
  intro x5 x6
  have h7 : State.Fr W s₀ x6 := (State.setLink_fr _ _ _ h4)
  clear_value x6
  intro x8 x9
  have h10 : State.Fr W s₀ x9 := (fr_ite (State.syncTwin_fr _ _ h7) h7)
  clear_value x9
  exact fr_ite (State.linkLost_fr _ _ (State.raise_fr _ _ _ _ _ _ _ _ h2)) (State.evacHeard_fr _ _ _ h10)

theorem execHeartbeat_fr {W : Nat} {s₀ : State} (f : FabIn) (s : State) (hs : State.Fr W s₀ s)
    (hw : partSub 0x83c008 W = true := by first | exact partSub_refl _ | exact partSub_trans (by with_reducible assumption) (by exact rfl)) : OutFr W s₀ (execHeartbeat f s) := by
  unfold execHeartbeat
  refine fr_next ?_
  · split
    · refine State.fabIn_fr _ _ _ hs ?_
      · intro y0 y1 g2
        exact State.heartbeat_fr _ _ _ _ _ _ g2
    · exact hs

theorem execMirrorFrame_fr {W : Nat} {s₀ : State} (f : FabIn) (last : Bool) (s : State) (hs : State.Fr W s₀ s)
    (hw : partSub 0x81c108 W = true := by first | exact partSub_refl _ | exact partSub_trans (by with_reducible assumption) (by exact rfl)) : OutFr W s₀ (execMirrorFrame f last s) := by
  unfold execMirrorFrame
  refine fr_next ?_
  · split
    · refine State.fabIn_fr _ _ _ hs ?_
      · intro y0 y1 g2
        refine State.fabOrdered_fr _ _ _ _ g2 ?_
        · intro y3 g4
          lift_lets
          intro x5
          have h6 : State.Fr W s₀ x5 := (State.twCount_fr _ _ _ g4)
          clear_value x5
          split
          · lift_lets
            intro x7
            have h8 : State.Fr W s₀ x7 := by
              dsimp -zeta only [x7]
              refine fr_foldl ?_ h6
              · intro y9 y10 g11
                exact State.applyRecord_fr _ _ _ g11
            clear_value x7
            exact fr_ite (fr_ite (State.synced_fr _ _ h8) h8) h6
          · exact h6
    · exact hs

theorem execReadRequest_fr {W : Nat} {s₀ : State} (f : FabIn) (errs : List MemErr) (s : State) (hs : State.Fr W s₀ s)
    (hw : partSub 0x81c108 W = true := by first | exact partSub_refl _ | exact partSub_trans (by with_reducible assumption) (by exact rfl)) : OutFr W s₀ (execReadRequest f errs s) := by
  unfold execReadRequest
  refine fr_next ?_
  · split
    · refine State.fabIn_fr _ _ _ hs ?_
      · intro y0 y1 g2
        refine State.fabOrdered_fr _ _ _ _ g2 ?_
        · intro y3 g4
          lift_lets
          intro x5
          have h6 : State.Fr W s₀ x5 := (State.twCount_fr _ _ _ g4)
          clear_value x5
          intro x7 x8
          have h9 : State.Fr W s₀ x8 := (State.memErrs_fr _ _ h6)
          clear_value x8
          exact fr_ite (State.twCount_fr _ _ _ (State.twCount_fr _ _ _ (State.fabQueue_fr _ _ _ _ h6))) (fr_ite (State.twCount_fr _ _ _ (State.twCount_fr _ _ _ (State.fabQueue_fr _ _ _ _ (State.unmappedEvent_fr _ _ h6)))) (fr_ite (State.twCount_fr _ _ _ (State.twCount_fr _ _ _ (State.fabQueue_fr _ _ _ _ (State.poisonSeen_fr _ h9)))) (State.twCount_fr _ _ _ (State.twCount_fr _ _ _ (State.fabQueue_fr _ _ _ _ h9)))))
    · refine State.fabIn_fr _ _ _ hs ?_
      · intro y10 y11 g12
        refine State.fabOrdered_fr _ _ _ _ g12 ?_
        · intro y13 g14
          exact State.remoteAnswer_fr _ _ _ _ _ _ (State.twCount_fr _ _ _ g14)
    · exact hs

theorem execWriteRequest_fr {W : Nat} {s₀ : State} (f : FabIn) (s : State) (hs : State.Fr W s₀ s)
    (hw : partSub 0x81c108 W = true := by first | exact partSub_refl _ | exact partSub_trans (by with_reducible assumption) (by exact rfl)) : OutFr W s₀ (execWriteRequest f s) := by
  unfold execWriteRequest
  refine fr_next ?_
  · split
    · refine State.fabIn_fr _ _ _ hs ?_
      · intro y0 y1 g2
        refine State.fabOrdered_fr _ _ _ _ g2 ?_
        · intro y3 g4
          lift_lets
          intro x5
          have h6 : State.Fr W s₀ x5 := (State.twCount_fr _ _ _ g4)
          clear_value x5
          intro x7
          exact fr_ite (State.twCount_fr _ _ _ (State.twCount_fr _ _ _ (State.fabQueue_fr _ _ _ _ h6))) (fr_ite (State.twCount_fr _ _ _ (State.twCount_fr _ _ _ (State.fabQueue_fr _ _ _ _ (State.unmappedEvent_fr _ _ h6)))) (State.twCount_fr _ _ _ (State.twCount_fr _ _ _ (State.fabQueue_fr _ _ _ _ (State.setBytes_fr _ _ _ h6)))))
    · refine State.fabIn_fr _ _ _ hs ?_
      · intro y8 y9 g10
        refine State.fabOrdered_fr _ _ _ _ g10 ?_
        · intro y11 g12
          exact State.remoteAnswer_fr _ _ _ _ _ _ (State.twCount_fr _ _ _ g12)
    · exact hs

theorem execMigrateFrame_fr {W : Nat} {s₀ : State} (f : FabIn) (tagOk : Bool) (s : State) (hs : State.Fr W s₀ s)
    (hw : partSub 0x89c3c8 W = true := by first | exact partSub_refl _ | exact partSub_trans (by with_reducible assumption) (by exact rfl)) : OutFr W s₀ (execMigrateFrame f tagOk s) := by
  unfold execMigrateFrame
  refine fr_next ?_
  · split
    · refine State.fabIn_fr _ _ _ hs ?_
      · intro y0 y1 g2
        refine State.fabOrdered_fr _ _ _ _ g2 ?_
        · intro y3 g4
          exact State.migRecv_fr _ _ _ _ g4
    · exact hs

theorem execCredit_fr {W : Nat} {s₀ : State} (f : FabIn) (s : State) (hs : State.Fr W s₀ s)
    (hw : partSub 0x81c008 W = true := by first | exact partSub_refl _ | exact partSub_trans (by with_reducible assumption) (by exact rfl)) : OutFr W s₀ (execCredit f s) := by
  unfold execCredit
  refine fr_next ?_
  · split
    · refine State.fabIn_fr _ _ _ hs ?_
      · intro y0 y1 g2
        exact g2
    · exact hs

theorem execFenceFrame_fr {W : Nat} {s₀ : State} (f : FabIn) (s : State) (hs : State.Fr W s₀ s)
    (hw : partSub 0x87c008 W = true := by first | exact partSub_refl _ | exact partSub_trans (by with_reducible assumption) (by exact rfl)) : OutFr W s₀ (execFenceFrame f s) := by
  unfold execFenceFrame
  refine fr_next ?_
  · split
    · refine State.fabIn_fr _ _ _ hs ?_
      · intro y0 y1 g2
        lift_lets
        intro x3
        have h4 : State.Fr W s₀ x3 := (State.twCount_fr _ _ _ g2)
        clear_value x3
        intro x5
        exact fr_ite (State.fenced_fr _ (fr_mk rfl rfl rfl rfl h4)) g2
    · refine State.fabIn_fr _ _ _ hs ?_
      · intro y6 y7 g8
        split
        · lift_lets
          intro x9
          have h10 : State.Fr W s₀ x9 := (State.event_fr _ _ _ _ _ _ _ (State.setSlotState_fr _ _ _ g8))
          clear_value x9
          intro x11 x12
          have h13 : State.Fr W s₀ x12 := (fr_ite (State.setTwSlot_fr _ _ _ h10) g8)
          clear_value x12
          exact State.confirmFence_fr _ _ _ h13
        · exact g8
    · exact hs

theorem execFabricFrameSend_fr {W : Nat} {s₀ : State} (l : Fin 64) (s : State) (hs : State.Fr W s₀ s)
    (hw : partSub 0x81c388 W = true := by first | exact partSub_refl _ | exact partSub_trans (by with_reducible assumption) (by exact rfl)) : OutFr W s₀ (execFabricFrameSend l s) := by
  unfold execFabricFrameSend
  exact fr_next (State.fabSend_fr _ _ hs)

theorem execHeartbeatSend_fr {W : Nat} {s₀ : State} (l : Fin 64) (s : State) (hs : State.Fr W s₀ s)
    (hw : partSub 0x81c388 W = true := by first | exact partSub_refl _ | exact partSub_trans (by with_reducible assumption) (by exact rfl)) : OutFr W s₀ (execHeartbeatSend l s) := by
  unfold execHeartbeatSend
  lift_lets
  intro x0 x1 x2
  have h3 : State.Fr W s₀ x2 := (State.setLink_fr _ _ _ hs)
  clear_value x2
  intro x4
  refine fr_next (fr_ite (fr_foldl ?_ h3) hs)
  · intro y5 y6 g7
    exact fr_ite (State.fabWire_fr _ _ _ _ _ _ _ g7) g7

theorem execLinkLost_fr {W : Nat} {s₀ : State} (l : Fin 64) (s : State) (hs : State.Fr W s₀ s)
    (hw : partSub 0x83c008 W = true := by first | exact partSub_refl _ | exact partSub_trans (by with_reducible assumption) (by exact rfl)) : OutFr W s₀ (execLinkLost l s) := by
  unfold execLinkLost
  lift_lets
  intro x0
  exact fr_next (fr_ite (State.linkLost_fr _ _ (State.twCount_fr _ _ _ hs)) hs)

theorem execRetransmitTimeout_fr {W : Nat} {s₀ : State} (l : Fin 64) (s : State) (hs : State.Fr W s₀ s)
    (hw : partSub 0x81c388 W = true := by first | exact partSub_refl _ | exact partSub_trans (by with_reducible assumption) (by exact rfl)) : OutFr W s₀ (execRetransmitTimeout l s) := by
  unfold execRetransmitTimeout
  lift_lets
  intro x0
  exact fr_next (fr_ite (State.fabResend_fr _ _ hs) hs)

theorem execCreditFrameSend_fr {W : Nat} {s₀ : State} (l : Fin 64) (s : State) (hs : State.Fr W s₀ s)
    (hw : partSub 0x10000 W = true := by first | exact partSub_refl _ | exact partSub_trans (by with_reducible assumption) (by exact rfl)) : OutFr W s₀ (execCreditFrameSend l s) := by
  unfold execCreditFrameSend
  lift_lets
  intro x0
  exact fr_next (fr_ite (State.fabQueue_fr _ _ _ _ hs) hs)

theorem execSentNoteFlush_fr {W : Nat} {s₀ : State} (s : State) (hs : State.Fr W s₀ s)
    (hw : partSub 0x10000 W = true := by first | exact partSub_refl _ | exact partSub_trans (by with_reducible assumption) (by exact rfl)) : OutFr W s₀ (execSentNoteFlush s) := by
  unfold execSentNoteFlush
  exact fr_next (fr_ite (State.flushNotes_fr _ hs) hs)

theorem execRemoteResponse_fr {W : Nat} {s₀ : State} (l : Fin 64) (tag : BitVec 32) (status : Fin 16) (write : Bool) (data : List (BitVec 8)) (s : State) (hs : State.Fr W s₀ s)
    (hw : partSub 0x80c108 W = true := by first | exact partSub_refl _ | exact partSub_trans (by with_reducible assumption) (by exact rfl)) : OutFr W s₀ (execRemoteResponse l tag status write data s) := by
  unfold execRemoteResponse
  exact fr_next (State.remoteAnswer_fr _ _ _ _ _ _ hs)

theorem execRemoteTimeout_fr {W : Nat} {s₀ : State} (s : State) (hs : State.Fr W s₀ s)
    (hw : partSub 0x80c108 W = true := by first | exact partSub_refl _ | exact partSub_trans (by with_reducible assumption) (by exact rfl)) : OutFr W s₀ (execRemoteTimeout s) := by
  unfold execRemoteTimeout
  refine fr_next ?_
  · split
    · exact State.remoteFail_fr _ _ _ hs
    · exact hs

end Sys2Proof.Machine
end

