-- ==== Sys2Proof/Laws/FrameModes.lean ====
section
/-! SUPPORT. The frame lemmas of resets and modes (see Laws/Frame.lean). -/
set_option Elab.async false

namespace Sys2Proof.Machine

theorem State.rstButRws_fr {W : Nat} {s₀ : State} (s : State) (lo : Nat) (hi : Nat) (hs : State.Fr W s₀ s)
    (hw : partSub 0x8 W = true := by first | exact partSub_refl _ | exact partSub_trans (by with_reducible assumption) (by exact rfl)) : State.Fr W s₀ (State.rstButRws s lo hi) := by
  unfold State.rstButRws
  exact State.rstRegion_fr _ _ _ _ hs

theorem State.discard_fr {W : Nat} {s₀ : State} (s : State) (l : List (Option Origin)) (hs : State.Fr W s₀ s)
    (hw : partSub 0x80c008 W = true := by first | exact partSub_refl _ | exact partSub_trans (by with_reducible assumption) (by exact rfl)) : State.Fr W s₀ (State.discard s l) := by
  unfold State.discard
  refine fr_foldl ?_ hs
  · intro y0 y1 g2
    exact State.completeOpt_fr _ _ _ _ _ g2

theorem State.abandon_fr {W : Nat} {s₀ : State} (s : State) (p : Job → Bool) (hs : State.Fr W s₀ s)
    (hw : partSub 0x80c008 W = true := by first | exact partSub_refl _ | exact partSub_trans (by with_reducible assumption) (by exact rfl)) : State.Fr W s₀ (State.abandon s p) := by
  unfold State.abandon
  lift_lets
  intro x0 x1 x2
  have h3 : State.Fr W s₀ x2 := (fr_mk rfl rfl rfl rfl hs)
  clear_value x2
  refine fr_foldl ?_ h3
  · intro y4 y5 g6
    exact State.discard_fr _ _ g6

theorem State.warmTrail_fr {W : Nat} {s₀ : State} (s : State) (hs : State.Fr W s₀ s)
    (hw : partSub 0x80c0d8 W = true := by first | exact partSub_refl _ | exact partSub_trans (by with_reducible assumption) (by exact rfl)) : State.Fr W s₀ (State.warmTrail s) := by
  unfold State.warmTrail
  lift_lets
  intro x0 x1
  have h2 : State.Fr W s₀ x1 := by
    dsimp -zeta only [x1]
    refine fr_foldl ?_ hs
    · intro y3 y4 g5
      exact State.abortRun_fr _ _ g5
  clear_value x1
  intro x6 x7 x8 x9
  have h10 : State.Fr W s₀ x9 := (fr_mk rfl rfl rfl rfl h2)
  clear_value x9
  intro x11
  have h12 : State.Fr W s₀ x11 := by
    dsimp -zeta only [x11]
    refine fr_foldl ?_ h10
    · intro y13 y14 g15
      split
      · exact State.setChan_fr _ _ _ g15
      · exact g15
  clear_value x11
  exact State.discard_fr _ _ (State.rstRegion_fr _ _ _ _ h12)

theorem State.warmCores_fr {W : Nat} {s₀ : State} (s : State) (hs : State.Fr W s₀ s)
    (hw : partSub 0x8 W = true := by first | exact partSub_refl _ | exact partSub_trans (by with_reducible assumption) (by exact rfl)) : State.Fr W s₀ (State.warmCores s) := by
  unfold State.warmCores
  lift_lets
  intro x0
  have h1 : State.Fr W s₀ x0 := (State.rstRegion_fr _ _ _ _ hs)
  clear_value x0
  refine fr_foldl ?_ h1
  · intro y2 y3 g4
    exact fr_ite (State.setFld_fr _ _ _ g4) g4

theorem State.warmClusters_fr {W : Nat} {s₀ : State} (s : State) (hs : State.Fr W s₀ s)
    (hw : partSub 0x28 W = true := by first | exact partSub_refl _ | exact partSub_trans (by with_reducible assumption) (by exact rfl)) : State.Fr W s₀ (State.warmClusters s) := by
  unfold State.warmClusters
  lift_lets
  intro x0 x1
  have h2 : State.Fr W s₀ x1 := (fr_mk rfl rfl rfl rfl hs)
  clear_value x1
  intro x3
  have h4 : State.Fr W s₀ x3 := (State.rstRegion_fr _ _ _ _ h2)
  clear_value x3
  refine fr_foldl ?_ h4
  · intro y5 y6 g7
    lift_lets
    intro x8
    exact State.setFld_fr _ _ _ (State.setFld_fr _ _ _ g7)

theorem State.warmHamper_fr {W : Nat} {s₀ : State} (s : State) (hs : State.Fr W s₀ s)
    (hw : partSub 0x80c108 W = true := by first | exact partSub_refl _ | exact partSub_trans (by with_reducible assumption) (by exact rfl)) : State.Fr W s₀ (State.warmHamper s) := by
  unfold State.warmHamper
  lift_lets
  intro x0 x1 x2
  have h3 : State.Fr W s₀ x2 := (fr_mk rfl rfl rfl rfl hs)
  clear_value x2
  intro x4
  exact State.discard_fr _ _ (State.rstRegion_fr _ _ _ _ h3)

theorem State.dropFrames_fr {W : Nat} {s₀ : State} (s : State) (p : Nat) (hs : State.Fr W s₀ s)
    (hw : partSub 0x80c388 W = true := by first | exact partSub_refl _ | exact partSub_trans (by with_reducible assumption) (by exact rfl)) : State.Fr W s₀ (State.dropFrames s p) := by
  unfold State.dropFrames
  lift_lets
  intro x0 x1
  have h2 : State.Fr W s₀ x1 := by
    dsimp -zeta only [x1]
    split
    · exact State.txDone_fr _ _ _ _ _ _ _ (State.setPort_fr _ _ _ hs)
    · exact hs
  clear_value x1
  exact State.flushPort_fr _ _ _ h2

theorem State.warmPorts_fr {W : Nat} {s₀ : State} (s : State) (hs : State.Fr W s₀ s)
    (hw : partSub 0x80c388 W = true := by first | exact partSub_refl _ | exact partSub_trans (by with_reducible assumption) (by exact rfl)) : State.Fr W s₀ (State.warmPorts s) := by
  unfold State.warmPorts
  lift_lets
  intro x0
  have h1 : State.Fr W s₀ x0 := by
    dsimp -zeta only [x0]
    refine fr_foldl ?_ hs
    · intro y2 y3 g4
      exact State.dropFrames_fr _ _ g4
  clear_value x0
  intro x5 x6 x7
  have h8 : State.Fr W s₀ x7 := (fr_mk rfl rfl rfl rfl h1)
  clear_value x7
  exact State.discard_fr _ _ (State.rstButRws_fr _ _ _ h8)

theorem State.warmMgmt_fr {W : Nat} {s₀ : State} (s : State) (hs : State.Fr W s₀ s)
    (hw : partSub 0x82c008 W = true := by first | exact partSub_refl _ | exact partSub_trans (by with_reducible assumption) (by exact rfl)) : State.Fr W s₀ (State.warmMgmt s) := by
  unfold State.warmMgmt
  lift_lets
  intro x0
  have h1 : State.Fr W s₀ x0 := (State.mgFlush_fr _ _ hs)
  clear_value x0
  intro x2
  have h3 : State.Fr W s₀ x2 := (State.rstRegion_fr _ _ _ _ h1)
  clear_value x2
  intro x4
  exact State.setFlag_fr _ _ _ (State.setMg_fr _ _ h3)

theorem State.warmMedia_fr {W : Nat} {s₀ : State} (s : State) (hs : State.Fr W s₀ s)
    (hw : partSub 0x80d808 W = true := by first | exact partSub_refl _ | exact partSub_trans (by with_reducible assumption) (by exact rfl)) : State.Fr W s₀ (State.warmMedia s) := by
  unfold State.warmMedia
  lift_lets
  intro x0 x1 x2 x3
  have h4 : State.Fr W s₀ x3 := (fr_mk rfl rfl rfl rfl hs)
  clear_value x3
  exact State.discard_fr _ _ (State.rstButRws_fr _ _ _ (State.rstButRws_fr _ _ _ h4))

theorem State.warmLmu_fr {W : Nat} {s₀ : State} (s : State) (hs : State.Fr W s₀ s)
    (hw : partSub 0x80e008 W = true := by first | exact partSub_refl _ | exact partSub_trans (by with_reducible assumption) (by exact rfl)) : State.Fr W s₀ (State.warmLmu s) := by
  unfold State.warmLmu
  lift_lets
  intro x0 x1
  have h2 : State.Fr W s₀ x1 := (State.setRelays_fr _ _ hs)
  clear_value x1
  intro x3 x4
  have h5 : State.Fr W s₀ x4 := (fr_mk rfl rfl rfl rfl h2)
  clear_value x4
  exact State.abandon_fr _ _ (State.rstRegion_fr _ _ _ _ h5)

theorem State.warmRucksack_fr {W : Nat} {s₀ : State} (s : State) (hs : State.Fr W s₀ s)
    (hw : partSub 0x90c008 W = true := by first | exact partSub_refl _ | exact partSub_trans (by with_reducible assumption) (by exact rfl)) : State.Fr W s₀ (State.warmRucksack s) := by
  unfold State.warmRucksack
  lift_lets
  intro x0 x1 x2
  have h3 : State.Fr W s₀ x2 := (fr_mk rfl rfl rfl rfl hs)
  clear_value x2
  intro x4
  have h5 : State.Fr W s₀ x4 := (State.rstRegion_fr _ _ _ _ h3)
  clear_value x4
  intro x6
  have h7 : State.Fr W s₀ x6 := by
    dsimp -zeta only [x6]
    refine fr_foldl ?_ h5
    · intro y8 y9 g10
      exact fr_ite (State.setFld_fr _ _ _ g10) g10
  clear_value x6
  exact State.abandon_fr _ _ h7

theorem State.warmFabric_fr {W : Nat} {s₀ : State} (s : State) (hs : State.Fr W s₀ s)
    (hw : partSub 0x10008 W = true := by first | exact partSub_refl _ | exact partSub_trans (by with_reducible assumption) (by exact rfl)) : State.Fr W s₀ (State.warmFabric s) := by
  unfold State.warmFabric
  lift_lets
  intro x0
  clear_value x0
  intro x1
  clear_value x1
  intro x2
  clear_value x2
  intro x3
  clear_value x3
  intro x4
  clear_value x4
  intro x5
  clear_value x5
  intro x6
  have h7 : State.Fr W s₀ x6 := (fr_mk rfl rfl rfl rfl hs)
  clear_value x6
  intro x8
  have h9 : State.Fr W s₀ x8 := (State.rstRegion_fr _ _ _ _ h7)
  clear_value x8
  intro x10
  have h11 : State.Fr W s₀ x10 := by
    dsimp -zeta only [x10]
    refine fr_foldl ?_ h9
    · intro y12 y13 g14
      exact fr_ite g14 (State.setSlotState_fr _ _ _ g14)
  clear_value x10
  split
  · exact State.setFld_fr _ _ _ h11
  · exact h11

theorem State.warmSupervisor_fr {W : Nat} {s₀ : State} (s : State) (hs : State.Fr W s₀ s)
    (hw : partSub 0x80008 W = true := by first | exact partSub_refl _ | exact partSub_trans (by with_reducible assumption) (by exact rfl)) : State.Fr W s₀ (State.warmSupervisor s) := by
  unfold State.warmSupervisor
  lift_lets
  intro x0 x1
  have h2 : State.Fr W s₀ x1 := (fr_mk rfl rfl rfl rfl hs)
  clear_value x1
  exact State.rstRegion_fr _ _ _ _ h2

theorem State.warmRel_fr {W : Nat} {s₀ : State} (s : State) (hs : State.Fr W s₀ s)
    (hw : partSub 0x80c008 W = true := by first | exact partSub_refl _ | exact partSub_trans (by with_reducible assumption) (by exact rfl)) : State.Fr W s₀ (State.warmRel s) := by
  unfold State.warmRel
  lift_lets
  intro x0
  have h1 : State.Fr W s₀ x0 := by
    dsimp -zeta only [x0]
    refine fr_foldl ?_ hs
    · intro y2 y3 g4
      exact State.noteRetired_fr _ _ _ g4
  clear_value x0
  intro x5 x6 x7 x8
  have h9 : State.Fr W s₀ x8 := (fr_mk rfl rfl rfl rfl h1)
  clear_value x8
  intro x10
  have h11 : State.Fr W s₀ x10 := (State.rstRegion_fr _ _ _ _ h9)
  clear_value x10
  intro x12
  have h13 : State.Fr W s₀ x12 := by
    dsimp -zeta only [x12]
    refine fr_foldl ?_ h11
    · intro y14 y15 g16
      exact State.countLost_fr _ _ _ g16
  clear_value x12
  exact State.abandon_fr _ _ h13

theorem State.warmLantern_fr {W : Nat} {s₀ : State} (s : State) (hs : State.Fr W s₀ s)
    (hw : partSub 0x200008 W = true := by first | exact partSub_refl _ | exact partSub_trans (by with_reducible assumption) (by exact rfl)) : State.Fr W s₀ (State.warmLantern s) := by
  unfold State.warmLantern
  exact State.mailboxClear_fr _ hs

theorem State.warmCloses_fr {W : Nat} {s₀ : State} (s : State) (hs : State.Fr W s₀ s)
    (hw : partSub 0x88c0c8 W = true := by first | exact partSub_refl _ | exact partSub_trans (by with_reducible assumption) (by exact rfl)) : State.Fr W s₀ (State.warmCloses s) := by
  unfold State.warmCloses
  lift_lets
  intro x0
  refine fr_foldl ?_ hs
  · intro y1 y2 g3
    exact State.completeOpt_fr _ _ _ _ _ (State.removeChan_fr _ _ g3)

theorem State.fwxKept_fr {W : Nat} {s₀ : State} (s : State) (hs : State.Fr W s₀ s)
    (hw : partSub 0x84c008 W = true := by first | exact partSub_refl _ | exact partSub_trans (by with_reducible assumption) (by exact rfl)) : State.Fr W s₀ (State.fwxKept s) := by
  unfold State.fwxKept
  split
  · exact hs
  · lift_lets
    intro x0 x1
    have h2 : State.Fr W s₀ x1 := (fr_mk rfl rfl rfl rfl hs)
    clear_value x1
    intro x3
    have h4 : State.Fr W s₀ x3 := (State.setFlag_fr _ _ _ (State.setFlag_fr _ _ _ h2))
    clear_value x3
    split
    · exact State.discard_fr _ _ (State.setJob_fr _ _ h4)
    · exact h4

theorem State.warmBlocks_fr {W : Nat} {s₀ : State} (s : State) (hs : State.Fr W s₀ s)
    (hw : partSub 0xbbfbf8 W = true := by first | exact partSub_refl _ | exact partSub_trans (by with_reducible assumption) (by exact rfl)) : State.Fr W s₀ (State.warmBlocks s) := by
  unfold State.warmBlocks
  lift_lets
  intro x0
  have h1 : State.Fr W s₀ x0 := (State.warmCloses_fr _ (State.warmClusters_fr _ (State.warmCores_fr _ (State.warmTrail_fr _ hs))))
  clear_value x0
  intro x2
  have h3 : State.Fr W s₀ x2 := (State.warmLmu_fr _ (State.warmMedia_fr _ (State.warmMgmt_fr _ (State.warmPorts_fr _ h1))))
  clear_value x2
  exact State.warmLantern_fr _ (State.warmHamper_fr _ (State.warmSupervisor_fr _ (State.warmFabric_fr _ (State.warmRucksack_fr _ h3))))

theorem State.warmReset_fr {W : Nat} {s₀ : State} (s : State) (key : Nat) (hs : State.Fr W s₀ s)
    (hw : partSub 0xbffbf8 W = true := by first | exact partSub_refl _ | exact partSub_trans (by with_reducible assumption) (by exact rfl)) : State.Fr W s₀ (State.warmReset s key) := by
  unfold State.warmReset
  lift_lets
  intro x0 x1
  have h2 : State.Fr W s₀ x1 := by
    dsimp -zeta only [x1]
    refine fr_foldl ?_ hs
    · intro y3 y4 g5
      exact State.flushPort_fr _ _ _ g5
  clear_value x1
  intro x6
  have h7 : State.Fr W s₀ x6 := (State.hiClear_fr _ _ h2)
  clear_value x6
  intro x8
  have h9 : State.Fr W s₀ x8 := (State.setFlag_fr _ _ _ (State.incW_fr _ _ _ h7))
  clear_value x8
  intro x10 x11
  have h12 : State.Fr W s₀ x11 := (fr_mk rfl rfl rfl rfl h9)
  clear_value x11
  intro x13 x14
  have h15 : State.Fr W s₀ x14 := (fr_mk rfl rfl rfl rfl h12)
  clear_value x14
  intro x16
  have h17 : State.Fr W s₀ x16 := (State.warmRel_fr _ (State.warmBlocks_fr _ (State.fwxKept_fr _ (State.completeOpt_fr _ _ _ _ _ h15))))
  clear_value x16
  exact fr_ite (State.configRefused_fr _ _ _ hs) (State.setFlag_fr _ _ _ (State.setFld_fr _ _ _ h17))

theorem State.liveFollow_fr {W : Nat} {s₀ : State} (s : State) (hs : State.Fr W s₀ s)
    (hw : partSub 0x8 W = true := by first | exact partSub_refl _ | exact partSub_trans (by with_reducible assumption) (by exact rfl)) : State.Fr W s₀ (State.liveFollow s) := by
  unfold State.liveFollow
  exact State.setFlag_fr _ _ _ hs

theorem State.cold_fr {W : Nat} {s₀ : State} (s : State) (cause : Nat) (straps : Nat) (power : Bool) (hs : State.Fr W s₀ s)
    (hw : partSub 0xffffff W = true := by first | exact partSub_refl _ | exact partSub_trans (by with_reducible assumption) (by exact rfl)) : State.Fr W s₀ (State.cold s cause straps power) := by
  unfold State.cold
  have h0 : ∀ (f : Fuses) (e c : Nat) (o : List Out) (hp : Hamper) (lm : Lmu) (mg : Mgmt), hp.hbm = [] → hp.poison = [] →
      State.Fr W s₀ { State.reset with fuse := f, elapsed := e, freeCtr := c, out := o, pending := s.pending, hp := hp, lm := lm, mg := mg } := by
    intro f e c o hp lm mg h1 h2
    have h := State.Fr.pending hs
    have hb : ∀ i, (0xffffff : Nat).testBit i = true → ∀ {p : Prop}, W.testBit i = false → p := fun i hi _ hf => by
      rw [partSub_bit hw hi] at hf; cases hf
    constructor <;> first | exact h | exact hb _ rfl | skip
    intro _
    simp only [State.memWf]
    rw [h1, h2]
    rfl
  refine fr_ite (State.setFld_fr _ _ _ (State.setFld_fr _ _ _ (State.setFld_fr _ _ _ ?_))) ?_ <;>
    exact State.setFlag_fr _ _ _ (State.setFld_fr _ _ _ (State.setFlag_fr _ _ _ (State.setFlag_fr _ _ _ (State.setFld_fr _ _ _
      (State.setFlag_fr _ _ _ (State.liveFollow_fr _ (State.setFlag_fr _ _ _ (State.setFlag_fr _ _ _ (State.setFlag_fr _ _ _
        (State.setFld_fr _ _ _ (h0 _ _ _ _ _ _ _ rfl rfl)))))))))))

theorem State.noteTests_fr {W : Nat} {s₀ : State} (s : State) (tests : List (BitVec 11)) (hs : State.Fr W s₀ s)
    (hw : partSub 0x8 W = true := by first | exact partSub_refl _ | exact partSub_trans (by with_reducible assumption) (by exact rfl)) : State.Fr W s₀ (State.noteTests s tests) := by
  unfold State.noteTests
  refine fr_foldl ?_ hs
  · intro y0 y1 g2
    lift_lets
    intro x3
    exact State.setSelftest_fr _ _ _ _ _ g2

theorem State.placeCores_fr {W : Nat} {s₀ : State} (s : State) (c : Nat) (pass : Nat) (hs : State.Fr W s₀ s)
    (hw : partSub 0x8 W = true := by first | exact partSub_refl _ | exact partSub_trans (by with_reducible assumption) (by exact rfl)) : State.Fr W s₀ (State.placeCores s c pass) := by
  unfold State.placeCores
  lift_lets
  intro x0 x1
  have h2 : State.Fr W s₀ x1 := by
    dsimp -zeta only [x1]
    refine fr_foldl ?_ hs
    · intro y3 y4 g5
      lift_lets
      intro x6
      split
      · exact fr_ite (State.setFld_fr _ _ _ (State.setFlag_fr _ _ _ (State.setFld_fr _ _ _ g5))) (State.setFld_fr _ _ _ (State.setFlag_fr _ _ _ (State.setFld_fr _ _ _ g5)))
      · exact State.setFld_fr _ _ _ (State.setFlag_fr _ _ _ (State.setFld_fr _ _ _ g5))
  clear_value x1
  intro x7
  have h8 : State.Fr W s₀ x7 := (fr_ite (State.setFld_fr _ _ _ h2) h2)
  clear_value x7
  intro x9
  have h10 : State.Fr W s₀ x9 := (State.setFld_fr _ _ _ h8)
  clear_value x9
  exact fr_ite (State.setFld_fr _ _ _ (State.setFld_fr _ _ _ h10)) h10

theorem State.coldCores_fr {W : Nat} {s₀ : State} (s : State) (tests : List (BitVec 11)) (hs : State.Fr W s₀ s)
    (hw : partSub 0x8 W = true := by first | exact partSub_refl _ | exact partSub_trans (by with_reducible assumption) (by exact rfl)) : State.Fr W s₀ (State.coldCores s tests) := by
  unfold State.coldCores
  refine fr_foldl ?_ hs
  · intro y0 y1 g2
    exact State.placeCores_fr _ _ _ g2

theorem State.trained_fr {W : Nat} {s₀ : State} (s : State) (lanes : List Nat) (hs : State.Fr W s₀ s)
    (hw : partSub 0x8 W = true := by first | exact partSub_refl _ | exact partSub_trans (by with_reducible assumption) (by exact rfl)) : State.Fr W s₀ (State.trained s lanes) := by
  unfold State.trained
  refine fr_foldl ?_ hs
  · intro y0 y1 g2
    lift_lets
    intro x3
    exact State.setFlag_fr _ _ _ (State.setFld_fr _ _ _ (State.setFld_fr _ _ _ g2))

theorem State.enterBoot_fr {W : Nat} {s₀ : State} (s : State) (hs : State.Fr W s₀ s)
    (hw : partSub 0x48008 W = true := by first | exact partSub_refl _ | exact partSub_trans (by with_reducible assumption) (by exact rfl)) : State.Fr W s₀ (State.enterBoot s) := by
  unfold State.enterBoot
  lift_lets
  intro x0 x1
  have h2 : State.Fr W s₀ x1 := (fr_mk rfl rfl rfl rfl hs)
  clear_value x1
  intro x3
  have h4 : State.Fr W s₀ x3 := (State.setFlag_fr _ _ _ (State.setFld_fr _ _ _ (State.setFld_fr _ _ _ h2)))
  clear_value x3
  exact State.event_fr _ _ _ _ _ _ _ h4

theorem State.modeSet_fr {W : Nat} {s₀ : State} (s : State) (t : Nat) (o : Origin) (hs : State.Fr W s₀ s)
    (hw : partSub 0x84c008 W = true := by first | exact partSub_refl _ | exact partSub_trans (by with_reducible assumption) (by exact rfl)) : State.Fr W s₀ (State.modeSet s t o) := by
  unfold State.modeSet
  lift_lets
  intro x0
  exact fr_ite (State.complete_fr _ _ _ _ _ hs) (fr_ite (State.complete_fr _ _ _ _ _ hs) (fr_ite (State.complete_fr _ _ _ _ _ (State.setFlag_fr _ _ _ hs)) (fr_ite (State.startTrans_fr _ _ _ _ hs) (State.complete_fr _ _ _ _ _ hs))))

theorem execModeSet_fr {W : Nat} {s₀ : State} (c : HCmd) (s : State) (hs : State.Fr W s₀ s)
    (hw : partSub 0x84c008 W = true := by first | exact partSub_refl _ | exact partSub_trans (by with_reducible assumption) (by exact rfl)) : OutFr W s₀ (execModeSet c s) := by
  unfold execModeSet
  refine fr_next (State.command_fr _ _ _ _ _ _ _ _ hs ?_)
  · intro y0 y1 g2
    exact State.modeSet_fr _ _ _ g2

theorem State.stopEgress_fr {W : Nat} {s₀ : State} (s : State) (hs : State.Fr W s₀ s)
    (hw : partSub 0x87c388 W = true := by first | exact partSub_refl _ | exact partSub_trans (by with_reducible assumption) (by exact rfl)) : State.Fr W s₀ (State.stopEgress s) := by
  unfold State.stopEgress
  lift_lets
  intro x0 x1
  have h2 : State.Fr W s₀ x1 := (fr_mk rfl rfl rfl rfl hs)
  clear_value x1
  intro x3
  have h4 : State.Fr W s₀ x3 := by
    dsimp -zeta only [x3]
    refine fr_foldl ?_ h2
    · intro y5 y6 g7
      exact State.flushPort_fr _ _ _ g7
  clear_value x3
  exact fr_ite hs (State.answerFence_fr _ (State.setFlag_fr _ _ _ h4))

theorem execEgressStopped_fr {W : Nat} {s₀ : State} (s : State) (hs : State.Fr W s₀ s)
    (hw : partSub 0x87c388 W = true := by first | exact partSub_refl _ | exact partSub_trans (by with_reducible assumption) (by exact rfl)) : OutFr W s₀ (execEgressStopped s) := by
  unfold execEgressStopped
  refine fr_next ?_
  · split
    · exact fr_ite (State.stopEgress_fr _ hs) hs
    · exact hs

theorem State.releaseClusters_fr {W : Nat} {s₀ : State} (s : State) (hs : State.Fr W s₀ s)
    (hw : partSub 0x40050 W = true := by first | exact partSub_refl _ | exact partSub_trans (by with_reducible assumption) (by exact rfl)) : State.Fr W s₀ (State.releaseClusters s) := by
  unfold State.releaseClusters
  lift_lets
  intro x0 x1
  have h2 : State.Fr W s₀ x1 := (fr_mk rfl rfl rfl rfl hs)
  clear_value x1
  refine fr_ite hs (fr_foldl ?_ h2)
  · intro y3 y4 g5
    exact State.resetCore_fr _ _ g5

theorem State.resumeChannels_fr {W : Nat} {s₀ : State} (s : State) (hs : State.Fr W s₀ s)
    (hw : partSub 0x80c1c8 W = true := by first | exact partSub_refl _ | exact partSub_trans (by with_reducible assumption) (by exact rfl)) : State.Fr W s₀ (State.resumeChannels s) := by
  unfold State.resumeChannels
  refine State.repost_fr _ (fr_foldl ?_ hs)
  · intro y0 y1 g2
    exact fr_ite (State.rebuildEntries_fr _ _ g2) g2

theorem State.closeAll_fr {W : Nat} {s₀ : State} (s : State) (hs : State.Fr W s₀ s)
    (hw : partSub 0x9cc1d8 W = true := by first | exact partSub_refl _ | exact partSub_trans (by with_reducible assumption) (by exact rfl)) : State.Fr W s₀ (State.closeAll s) := by
  unfold State.closeAll
  lift_lets
  intro x0 x1
  have h2 : State.Fr W s₀ x1 := by
    dsimp -zeta only [x1]
    refine fr_foldl ?_ hs
    · intro y3 y4 g5
      lift_lets
      intro x6
      have h7 : State.Fr W s₀ x6 := (State.beginClose_fr _ _ _ g5)
      clear_value x6
      split
      · exact fr_ite (State.removeChan_fr _ _ h7) h7
      · exact h7
  clear_value x1
  intro x8
  exact fr_mk rfl rfl rfl rfl h2

theorem State.leaveIsolate_fr {W : Nat} {s₀ : State} (s : State) (t : Nat) (hs : State.Fr W s₀ s)
    (hw : partSub 0x9dc3d8 W = true := by first | exact partSub_refl _ | exact partSub_trans (by with_reducible assumption) (by exact rfl)) : State.Fr W s₀ (State.leaveIsolate s t) := by
  unfold State.leaveIsolate
  lift_lets
  intro x0
  have h1 : State.Fr W s₀ x0 := by
    dsimp -zeta only [x0]
    refine fr_foldl ?_ hs
    · intro y2 y3 g4
      exact State.flushPort_fr _ _ _ g4
  clear_value x0
  intro x5 x6 x7
  have h8 : State.Fr W s₀ x7 := (fr_mk rfl rfl rfl rfl h1)
  clear_value x7
  intro x9
  have h10 : State.Fr W s₀ x9 := (State.closeAll_fr _ h8)
  clear_value x9
  intro x11 x12
  have h13 : State.Fr W s₀ x12 := (fr_mk rfl rfl rfl rfl h10)
  clear_value x12
  exact fr_ite (State.setFlag_fr _ _ _ h13) h13

theorem State.dozeIn_fr {W : Nat} {s₀ : State} (s : State) (hs : State.Fr W s₀ s)
    (hw : partSub 0x80c1d8 W = true := by first | exact partSub_refl _ | exact partSub_trans (by with_reducible assumption) (by exact rfl)) : State.Fr W s₀ (State.dozeIn s) := by
  unfold State.dozeIn
  lift_lets
  intro x0
  have h1 : State.Fr W s₀ x0 := by
    dsimp -zeta only [x0]
    refine fr_foldl ?_ hs
    · intro y2 y3 g4
      lift_lets
      intro x5 x6
      have h7 : State.Fr W s₀ x6 := by
        dsimp -zeta only [x6]
        refine fr_foldl ?_ g4
        · intro y8 y9 g10
          exact State.resetCore_fr _ _ (State.resetAbort_fr _ _ g10)
      clear_value x6
      exact fr_ite (State.setFld_fr _ _ _ (State.setFld_fr _ _ _ h7)) g4
  clear_value x0
  exact State.setFlag_fr _ _ _ h1

theorem State.dozeOut_fr {W : Nat} {s₀ : State} (s : State) (since : Nat) (hs : State.Fr W s₀ s)
    (hw : partSub 0x58 W = true := by first | exact partSub_refl _ | exact partSub_trans (by with_reducible assumption) (by exact rfl)) : State.Fr W s₀ (State.dozeOut s since) := by
  unfold State.dozeOut
  lift_lets
  intro x0
  have h1 : State.Fr W s₀ x0 := by
    dsimp -zeta only [x0]
    refine fr_foldl ?_ hs
    · intro y2 y3 g4
      lift_lets
      intro x5 x6
      have h7 : State.Fr W s₀ x6 := by
        dsimp -zeta only [x6]
        refine fr_foldl ?_ g4
        · intro y8 y9 g10
          exact State.resetCore_fr _ _ g10
      clear_value x6
      exact fr_ite (State.setFld_fr _ _ _ (State.setFld_fr _ _ _ h7)) g4
  clear_value x0
  exact State.setFld_fr _ _ _ (State.setFlag_fr _ _ _ h1)

theorem State.thermosIn_fr {W : Nat} {s₀ : State} (s : State) (t : Trans) (hs : State.Fr W s₀ s)
    (hw : partSub 0xbffff8 W = true := by first | exact partSub_refl _ | exact partSub_trans (by with_reducible assumption) (by exact rfl)) : State.Fr W s₀ (State.thermosIn s t) := by
  unfold State.thermosIn
  lift_lets
  intro x0
  have h1 : State.Fr W s₀ x0 := (State.completeOpt_fr _ _ _ _ _ hs)
  clear_value x0
  intro x2
  have h3 : State.Fr W s₀ x2 := by
    dsimp -zeta only [x2]
    refine fr_foldl ?_ h1
    · intro y4 y5 g6
      exact State.writeReport_fr _ _ (State.writeReport_fr _ _ g6)
  clear_value x2
  intro x7 x8 x9
  have h10 : State.Fr W s₀ x9 := (fr_ite h3 (State.commandV_fr _ _ h3))
  clear_value x9
  intro x11
  have h12 : State.Fr W s₀ x11 := (State.hiClear_fr _ _ h10)
  clear_value x11
  intro x13
  have h14 : State.Fr W s₀ x13 := (State.setFld_fr _ _ _ (State.setFld_fr _ _ _ (State.setFlag_fr _ _ _ h12)))
  clear_value x13
  intro x15
  have h16 : State.Fr W s₀ x15 := (State.warmRel_fr _ (State.warmBlocks_fr _ h14))
  clear_value x15
  intro x17 x18 x19
  have h20 : State.Fr W s₀ x19 := (fr_mk rfl rfl rfl rfl h16)
  clear_value x19
  intro x21
  have h22 : State.Fr W s₀ x21 := (State.rstRegion_fr _ _ _ _ (State.rstRegion_fr _ _ _ _ h20))
  clear_value x21
  intro x23
  have h24 : State.Fr W s₀ x23 := (State.setFlag_fr _ _ _ (State.setFlag_fr _ _ _ h22))
  clear_value x23
  exact State.setFld_fr _ _ _ h24

theorem State.thermosOut_fr {W : Nat} {s₀ : State} (s : State) (tests : List (BitVec 11)) (hs : State.Fr W s₀ s)
    (hw : partSub 0x24c008 W = true := by first | exact partSub_refl _ | exact partSub_trans (by with_reducible assumption) (by exact rfl)) : State.Fr W s₀ (State.thermosOut s tests) := by
  unfold State.thermosOut
  lift_lets
  intro x0
  have h1 : State.Fr W s₀ x0 := by
    dsimp -zeta only [x0]
    refine fr_foldl ?_ hs
    · intro y2 y3 g4
      exact fr_mk rfl rfl rfl rfl g4
  clear_value x0
  intro x5 x6 x7
  have h8 : State.Fr W s₀ x7 := (fr_mk rfl rfl rfl rfl h1)
  clear_value x7
  intro x9
  have h10 : State.Fr W s₀ x9 := (State.noteTests_fr _ _ (State.setFlag_fr _ _ _ (State.setFlag_fr _ _ _ h8)))
  clear_value x9
  intro x11
  have h12 : State.Fr W s₀ x11 := (State.setFlag_fr _ _ _ (State.hostReset_fr _ _ h10))
  clear_value x11
  exact State.setFld_fr _ _ _ h12

theorem State.showMode_fr {W : Nat} {s₀ : State} (s : State) (old : Nat) (new : Nat) (auto : Bool) (hs : State.Fr W s₀ s)
    (hw : partSub 0x48008 W = true := by first | exact partSub_refl _ | exact partSub_trans (by with_reducible assumption) (by exact rfl)) : State.Fr W s₀ (State.showMode s old new auto) := by
  unfold State.showMode
  lift_lets
  intro x0
  have h1 : State.Fr W s₀ x0 := (State.setFld_fr _ _ _ (State.setFld_fr _ _ _ hs))
  clear_value x0
  intro x2
  have h3 : State.Fr W s₀ x2 := (fr_ite (State.setFld_fr _ _ _ h1) h1)
  clear_value x2
  intro x4 x5 x6
  have h7 : State.Fr W s₀ x6 := (fr_mk rfl rfl rfl rfl h3)
  clear_value x6
  intro x8
  have h9 : State.Fr W s₀ x8 := (State.event_fr _ _ _ _ _ _ _ h7)
  clear_value x8
  exact fr_ite (State.setFlag_fr _ _ _ h9) h9

theorem State.applyWaiting_fr {W : Nat} {s₀ : State} (s : State) (hs : State.Fr W s₀ s)
    (hw : partSub 0x84c008 W = true := by first | exact partSub_refl _ | exact partSub_trans (by with_reducible assumption) (by exact rfl)) : State.Fr W s₀ (State.applyWaiting s) := by
  unfold State.applyWaiting
  lift_lets
  intro x0 x1 x2
  have h3 : State.Fr W s₀ x2 := (fr_mk rfl rfl rfl rfl hs)
  clear_value x2
  refine fr_foldl ?_ h3
  · intro y4 y5 g6
    exact fr_ite (State.raise_fr _ _ _ _ _ _ _ _ g6) (State.trigger_fr _ _ g6)

theorem State.endsIn_fr {W : Nat} {s₀ : State} (s : State) (t : Trans) (hs : State.Fr W s₀ s)
    (hw : partSub 0x8 W = true := by first | exact partSub_refl _ | exact partSub_trans (by with_reducible assumption) (by exact rfl)) : State.Fr W s₀ (State.endsIn s t).1 := by
  unfold State.endsIn
  exact fr_iteP (State.setFlag_fr _ _ _ hs) hs

theorem State.crossMode_fr {W : Nat} {s₀ : State} (s : State) (t : Trans) (old : Nat) (new : Nat) (hs : State.Fr W s₀ s)
    (hw : partSub 0xbfe3d8 W = true := by first | exact partSub_refl _ | exact partSub_trans (by with_reducible assumption) (by exact rfl)) : State.Fr W s₀ (State.crossMode s t old new) := by
  unfold State.crossMode
  lift_lets
  intro x0
  have h1 : State.Fr W s₀ x0 := (fr_ite (State.dozeOut_fr _ _ hs) hs)
  clear_value x0
  intro x2
  have h3 : State.Fr W s₀ x2 := (fr_ite (State.leaveIsolate_fr _ _ h1) h1)
  clear_value x2
  intro x4
  have h5 : State.Fr W s₀ x4 := (fr_ite (State.stopEgress_fr _ h3) (fr_ite (State.dozeIn_fr _ h3) h3))
  clear_value x4
  intro x6
  have h7 : State.Fr W s₀ x6 := (fr_ite (State.mailboxClear_fr _ h5) h5)
  clear_value x6
  intro x8
  have h9 : State.Fr W s₀ x8 := (fr_ite (State.endSweep_fr _ _ h7) h7)
  clear_value x8
  exact fr_ite (State.releaseClusters_fr _ h9) h9

theorem State.endTrans_fr {W : Nat} {s₀ : State} (s : State) (tests : List (BitVec 11)) (hs : State.Fr W s₀ s)
    (hw : partSub 0xbffff8 W = true := by first | exact partSub_refl _ | exact partSub_trans (by with_reducible assumption) (by exact rfl)) : State.Fr W s₀ (State.endTrans s tests) := by
  unfold State.endTrans
  split
  · exact hs
  · lift_lets
    intro x0 x1
    have h2 : State.Fr W s₀ x1 := (fr_mk rfl rfl rfl rfl hs)
    clear_value x1
    intro x3 x4 x5
    have h6 : State.Fr W s₀ x5 := (fr_ite (State.thermosOut_fr _ _ h2) h2)
    clear_value x5
    intro x7
    have h8 : State.Fr W s₀ x7.1 := (State.endsIn_fr _ _ h6)
    clear_value x7
    intro x9
    have h10 : State.Fr W s₀ x9 := h8
    clear_value x9
    intro x11 x12
    have h13 : State.Fr W s₀ x12 := (State.showMode_fr _ _ _ _ (State.crossMode_fr _ _ _ _ h10))
    clear_value x12
    intro x14
    have h15 : State.Fr W s₀ x14 := by
      dsimp -zeta only [x14]
      refine fr_foldl ?_ h13
      · intro y16 y17 g18
        exact State.localReset_fr _ _ g18
    clear_value x14
    intro x19
    have h20 : State.Fr W s₀ x19 := (fr_ite (State.resumeChannels_fr _ h15) h15)
    clear_value x19
    exact fr_ite (State.applyWaiting_fr _ (State.showMode_fr _ _ _ _ (State.thermosIn_fr _ _ (fr_ite (State.setFlag_fr _ _ _ h10) h10)))) (State.applyWaiting_fr _ (State.completeOpt_fr _ _ _ _ _ h20))

theorem execModeChange_fr {W : Nat} {s₀ : State} (tests : List (BitVec 11)) (s : State) (hs : State.Fr W s₀ s)
    (hw : partSub 0xbffff8 W = true := by first | exact partSub_refl _ | exact partSub_trans (by with_reducible assumption) (by exact rfl)) : OutFr W s₀ (execModeChange tests s) := by
  unfold execModeChange
  exact fr_next (State.endTrans_fr _ _ hs)

theorem execWarmReset_fr {W : Nat} {s₀ : State} (key : BitVec 8) (s : State) (hs : State.Fr W s₀ s)
    (hw : partSub 0xbffbf8 W = true := by first | exact partSub_refl _ | exact partSub_trans (by with_reducible assumption) (by exact rfl)) : OutFr W s₀ (execWarmReset key s) := by
  unfold execWarmReset
  exact fr_next (fr_ite hs (State.warmReset_fr _ _ hs))

theorem execWarmDone_fr {W : Nat} {s₀ : State} (tests : List (BitVec 11)) (s : State) (hs : State.Fr W s₀ s)
    (hw : partSub 0x48008 W = true := by first | exact partSub_refl _ | exact partSub_trans (by with_reducible assumption) (by exact rfl)) : OutFr W s₀ (execWarmDone tests s) := by
  unfold execWarmDone
  lift_lets
  intro x0
  have h1 : State.Fr W s₀ x0 := (State.noteTests_fr _ _ hs)
  clear_value x0
  intro x2
  have h3 : State.Fr W s₀ x2 := (State.incW_fr _ _ _ (State.setFld_fr _ _ _ h1))
  clear_value x2
  exact fr_next (fr_ite (State.setFlag_fr _ _ _ (State.enterBoot_fr _ h3)) hs)

theorem execPowerOnReset_fr {W : Nat} {s₀ : State} (straps : BitVec 4) (s : State) (hs : State.Fr W s₀ s)
    (hw : partSub 0xffffff W = true := by first | exact partSub_refl _ | exact partSub_trans (by with_reducible assumption) (by exact rfl)) : OutFr W s₀ (execPowerOnReset straps s) := by
  unfold execPowerOnReset
  exact fr_next (fr_ite hs (State.setFlag_fr _ _ _ (State.cold_fr _ _ _ _ hs)))

theorem execSysReset_fr {W : Nat} {s₀ : State} (straps : BitVec 4) (s : State) (hs : State.Fr W s₀ s)
    (hw : partSub 0xffffff W = true := by first | exact partSub_refl _ | exact partSub_trans (by with_reducible assumption) (by exact rfl)) : OutFr W s₀ (execSysReset straps s) := by
  unfold execSysReset
  exact fr_next (fr_ite (State.setFlag_fr _ _ _ (State.cold_fr _ _ _ _ hs)) hs)

theorem execPerst_fr {W : Nat} {s₀ : State} (straps : BitVec 4) (s : State) (hs : State.Fr W s₀ s)
    (hw : partSub 0xffffff W = true := by first | exact partSub_refl _ | exact partSub_trans (by with_reducible assumption) (by exact rfl)) : OutFr W s₀ (execPerst straps s) := by
  unfold execPerst
  exact fr_next (fr_ite hs (fr_ite (State.setFlag_fr _ _ _ (State.cold_fr _ _ _ _ hs)) (fr_ite hs (State.hostReset_fr _ _ hs))))

theorem execBootReady_fr {W : Nat} {s₀ : State} (tests : List (BitVec 11)) (lanes : List Nat) (s : State) (hs : State.Fr W s₀ s)
    (hw : partSub 0x48008 W = true := by first | exact partSub_refl _ | exact partSub_trans (by with_reducible assumption) (by exact rfl)) : OutFr W s₀ (execBootReady tests lanes s) := by
  unfold execBootReady
  exact fr_next (fr_ite (State.setFlag_fr _ _ _ (State.enterBoot_fr _ (State.trained_fr _ _ (State.coldCores_fr _ _ (State.noteTests_fr _ _ hs))))) hs)

theorem execUndervolt_fr {W : Nat} {s₀ : State} (i : Fin 8) (s : State) (hs : State.Fr W s₀ s)
    (hw : partSub 0x84c008 W = true := by first | exact partSub_refl _ | exact partSub_trans (by with_reducible assumption) (by exact rfl)) : OutFr W s₀ (execUndervolt i s) := by
  unfold execUndervolt
  lift_lets
  intro x0
  have h1 : State.Fr W s₀ x0 := (State.setFlag_fr _ _ _ (State.setFlag_fr _ _ _ hs))
  clear_value x0
  intro x2
  have h3 : State.Fr W s₀ x2 := (State.incS_fr _ _ _ (State.incS_fr _ _ _ h1))
  clear_value x2
  exact fr_next (fr_ite hs (State.fatalDevice_fr _ _ _ _ _ (State.setFlag_fr _ _ _ h3)))

theorem execUndervoltEnd_fr {W : Nat} {s₀ : State} (i : Fin 8) (s : State) (hs : State.Fr W s₀ s)
    (hw : partSub 0x8 W = true := by first | exact partSub_refl _ | exact partSub_trans (by with_reducible assumption) (by exact rfl)) : OutFr W s₀ (execUndervoltEnd i s) := by
  unfold execUndervoltEnd
  exact fr_next (State.setFlag_fr _ _ _ hs)

theorem execPwrOkFall_fr {W : Nat} {s₀ : State} (s : State) (hs : State.Fr W s₀ s)
    (hw : partSub 0xffffff W = true := by first | exact partSub_refl _ | exact partSub_trans (by with_reducible assumption) (by exact rfl)) : OutFr W s₀ (execPwrOkFall s) := by
  unfold execPwrOkFall
  exact fr_next (fr_ite (State.cold_fr _ _ _ _ hs) hs)

theorem execLiveLost_fr {W : Nat} {s₀ : State} (s : State) (hs : State.Fr W s₀ s)
    (hw : partSub 0x86c008 W = true := by first | exact partSub_refl _ | exact partSub_trans (by with_reducible assumption) (by exact rfl)) : OutFr W s₀ (execLiveLost s) := by
  unfold execLiveLost
  lift_lets
  intro x0
  have h1 : State.Fr W s₀ x0 := (State.liveFollow_fr _ (State.setFlag_fr _ _ _ hs))
  clear_value x0
  intro x2 x3
  have h4 : State.Fr W s₀ x3 := by
    dsimp -zeta only [x3]
    split
    · exact State.setMg_fr _ _ (State.emit_fr _ _ h1)
    · exact h1
  clear_value x3
  intro x5
  have h6 : State.Fr W s₀ x5 := (State.setFlag_fr _ _ _ h4)
  clear_value x5
  exact fr_next (fr_ite hs (fr_ite (fr_ite (State.trigger_fr _ _ h6) h6) h1))

theorem execLiveBack_fr {W : Nat} {s₀ : State} (s : State) (hs : State.Fr W s₀ s)
    (hw : partSub 0x20008 W = true := by first | exact partSub_refl _ | exact partSub_trans (by with_reducible assumption) (by exact rfl)) : OutFr W s₀ (execLiveBack s) := by
  unfold execLiveBack
  lift_lets
  intro x0
  have h1 : State.Fr W s₀ x0 := (State.liveFollow_fr _ (State.setFlag_fr _ _ _ hs))
  clear_value x0
  exact fr_next (fr_ite hs (fr_ite (State.setFlag_fr _ _ _ (State.startListen_fr _ h1)) h1))

end Sys2Proof.Machine
end

