-- ==== Sys2Proof/Laws/FrameJobs.lean ====
section
/-! SUPPORT. The frame lemmas of images and jobs (see Laws/Frame.lean). -/
set_option Elab.async false

namespace Sys2Proof.Machine

theorem State.imgLoad_fr {W : Nat} {s₀ : State} (s : State) (c : Nat) (b : List Byte) (id : Nat) (hs : State.Fr W s₀ s)
    (hw : partSub 0x8028 W = true := by first | exact partSub_refl _ | exact partSub_trans (by with_reducible assumption) (by exact rfl)) : State.Fr W s₀ (State.imgLoad s c b id) := by
  unfold State.imgLoad
  refine State.event_fr _ _ _ _ _ _ _ (State.setFld_fr _ _ _ ?_)
  refine fr_mem hs (fun h => (memWf_iff.1 h).1) (fun h => (memWf_iff.1 h).2.1) (fun h => (memWf_iff.1 h).2.2.1) fun h => ?_
  have h0 := (memWf_iff.1 h).2.2.2
  generalize hp : ((s.mem.cps, imgData b) : SMap W32 × Nat) = p
  have hp0 : mwf 0 p.1 = true := by rw [← hp]; exact h0
  clear hp
  generalize imgSegs b = l
  induction l generalizing p with
  | nil => exact hp0
  | cons x l ih => exact ih _ (mwf_foldl (fun _ _ _ h => mwf_mset _ _ h) hp0)

theorem State.storeImage_fr {W : Nat} {s₀ : State} (s : State) (p : Nat) (b : List Byte) (hs : State.Fr W s₀ s)
    (hw : partSub 0x100 W = true := by first | exact partSub_refl _ | exact partSub_trans (by with_reducible assumption) (by exact rfl)) : State.Fr W s₀ (State.storeImage s p b) := by
  unfold State.storeImage
  refine fr_mem hs (fun h => ?_) (fun h => (memWf_iff.1 h).2.1) (fun h => (memWf_iff.1 h).2.2.1) fun h => (memWf_iff.1 h).2.2.2
  exact mwf_foldl (fun _ _ _ h => mwf_mset _ _ h) (memWf_iff.1 h).1

theorem State.takeStore_fr {W : Nat} {s₀ : State} (s : State) (hs : State.Fr W s₀ s)
    (hw : partSub 0x40100 W = true := by first | exact partSub_refl _ | exact partSub_trans (by with_reducible assumption) (by exact rfl)) : State.Fr W s₀ (State.takeStore s) := by
  unfold State.takeStore
  split
  · lift_lets
    intro x0 x1
    exact fr_mk rfl rfl rfl rfl hs
  · exact hs

theorem State.imgChecked_fr {W : Nat} {s₀ : State} (s : State) (b : List Byte) (ok : Bool) (src : Nat) (hs : State.Fr W s₀ s)
    (hw : partSub 0x40008 W = true := by first | exact partSub_refl _ | exact partSub_trans (by with_reducible assumption) (by exact rfl)) : State.Fr W s₀ (State.imgChecked s b ok src) := by
  unfold State.imgChecked
  lift_lets
  intro x0
  have h1 : State.Fr W s₀ x0 := (State.setFld_fr _ _ _ hs)
  clear_value x0
  intro x2 x3
  have h4 : State.Fr W s₀ x3 := (fr_mk rfl rfl rfl rfl h1)
  clear_value x3
  exact fr_ite (State.setFld_fr _ _ _ (State.setFld_fr _ _ _ (State.setFlag_fr _ _ _ h4))) h1

theorem State.loadAll_fr {W : Nat} {s₀ : State} (s : State) (b : List Byte) (src : Nat) (hs : State.Fr W s₀ s)
    (hw : partSub 0x48128 W = true := by first | exact partSub_refl _ | exact partSub_trans (by with_reducible assumption) (by exact rfl)) : State.Fr W s₀ (State.loadAll s b src) := by
  unfold State.loadAll
  lift_lets
  intro x0
  have h1 : State.Fr W s₀ x0 := (State.takeStore_fr _ (State.imgChecked_fr _ _ _ _ hs))
  clear_value x0
  intro x2 x3
  have h4 : State.Fr W s₀ x3 := by
    dsimp -zeta only [x3]
    split
    · exact State.storeImage_fr _ _ _ h1
    · exact h1
  clear_value x3
  intro x5
  have h6 : State.Fr W s₀ x5 := by
    dsimp -zeta only [x5]
    refine fr_foldl ?_ h4
    · intro y7 y8 g9
      exact State.setFld_fr _ _ _ (State.imgLoad_fr _ _ _ _ g9)
  clear_value x5
  intro x10 x11
  have h12 : State.Fr W s₀ x11 := (fr_mk rfl rfl rfl rfl h6)
  clear_value x11
  exact State.setFld_fr _ _ _ h12

theorem execPatchLoad_fr {W : Nat} {s₀ : State} (c : HCmd) (sig : Bool) (s : State) (hs : State.Fr W s₀ s)
    (hw : partSub 0x84c128 W = true := by first | exact partSub_refl _ | exact partSub_trans (by with_reducible assumption) (by exact rfl)) : OutFr W s₀ (execPatchLoad c sig s) := by
  unfold execPatchLoad
  refine fr_next (State.command_fr _ _ _ _ _ _ _ _ hs ?_)
  · intro y0 y1 g2
    lift_lets
    intro x3
    exact fr_ite (State.complete_fr _ _ _ _ _ (State.loadAll_fr _ _ _ g2)) (State.complete_fr _ _ _ _ _ (State.imgChecked_fr _ _ _ _ g2))

theorem execQspiBootLoad_fr {W : Nat} {s₀ : State} (image : List (BitVec 8)) (sig : Bool) (s : State) (hs : State.Fr W s₀ s)
    (hw : partSub 0x48128 W = true := by first | exact partSub_refl _ | exact partSub_trans (by with_reducible assumption) (by exact rfl)) : OutFr W s₀ (execQspiBootLoad image sig s) := by
  unfold execQspiBootLoad
  exact fr_next (fr_ite (fr_ite (State.loadAll_fr _ _ _ hs) (State.setFlag_fr _ _ _ (State.imgChecked_fr _ _ _ _ hs))) hs)

theorem State.fwxShow_fr {W : Nat} {s₀ : State} (s : State) (hs : State.Fr W s₀ s)
    (hw : partSub 0x8 W = true := by first | exact partSub_refl _ | exact partSub_trans (by with_reducible assumption) (by exact rfl)) : State.Fr W s₀ (State.fwxShow s) := by
  unfold State.fwxShow
  split
  · exact State.setFld_fr _ _ _ (State.setFlag_fr _ _ _ (State.setFld_fr _ _ _ (State.setFld_fr _ _ _ hs)))
  · exact State.setFld_fr _ _ _ (State.setFlag_fr _ _ _ (State.setFld_fr _ _ _ (State.setFld_fr _ _ _ hs)))

theorem State.setFwx_fr {W : Nat} {s₀ : State} (s : State) (x : Option Fwx) (hs : State.Fr W s₀ s)
    (hw : partSub 0x40008 W = true := by first | exact partSub_refl _ | exact partSub_trans (by with_reducible assumption) (by exact rfl)) : State.Fr W s₀ (State.setFwx s x) := by
  unfold State.setFwx
  lift_lets
  intro x0
  exact State.fwxShow_fr _ (fr_mk rfl rfl rfl rfl hs)

theorem State.fwxDrain_fr {W : Nat} {s₀ : State} (s : State) (x : Fwx) (c : Nat) (hs : State.Fr W s₀ s)
    (hw : partSub 0xc81c8 W = true := by first | exact partSub_refl _ | exact partSub_trans (by with_reducible assumption) (by exact rfl)) : State.Fr W s₀ (State.fwxDrain s x c) := by
  unfold State.fwxDrain
  lift_lets
  intro x0
  have h1 : State.Fr W s₀ x0 := (State.setFwx_fr _ _ hs)
  clear_value x0
  intro x2
  have h3 : State.Fr W s₀ x2 := (fr_ite (State.setFld_fr _ _ _ h1) h1)
  clear_value x2
  intro x4 x5
  have h6 : State.Fr W s₀ x5 := (State.dropQueued_fr _ _ h3)
  clear_value x5
  refine State.budgetCheck_fr _ (fr_foldl ?_ h6)
  · intro y7 y8 g9
    exact State.rehome_fr _ _ g9

theorem State.fwxLoad_fr {W : Nat} {s₀ : State} (s : State) (x : Fwx) (hs : State.Fr W s₀ s)
    (hw : partSub 0x48028 W = true := by first | exact partSub_refl _ | exact partSub_trans (by with_reducible assumption) (by exact rfl)) : State.Fr W s₀ (State.fwxLoad s x) := by
  unfold State.fwxLoad
  lift_lets
  intro x0 x1
  have h2 : State.Fr W s₀ x1 := (State.setFld_fr _ _ _ (State.setFld_fr _ _ _ hs))
  clear_value x1
  intro x3
  have h4 : State.Fr W s₀ x3 := (State.setFwx_fr _ _ h2)
  clear_value x3
  split
  · exact fr_ite (State.imgLoad_fr _ _ _ _ h4) h4
  · exact h4

theorem State.fwxEnd_fr {W : Nat} {s₀ : State} (s : State) (x : Fwx) (status : Nat) (hs : State.Fr W s₀ s)
    (hw : partSub 0x84c008 W = true := by first | exact partSub_refl _ | exact partSub_trans (by with_reducible assumption) (by exact rfl)) : State.Fr W s₀ (State.fwxEnd s x status) := by
  unfold State.fwxEnd
  exact State.endJob_fr _ _ _ _ _ (State.setFlag_fr _ _ _ (State.setFwx_fr _ _ hs))

theorem State.fwxNext_fr {W : Nat} {s₀ : State} (s : State) (x : Fwx) (hs : State.Fr W s₀ s)
    (hw : partSub 0x8cc1c8 W = true := by first | exact partSub_refl _ | exact partSub_trans (by with_reducible assumption) (by exact rfl)) : State.Fr W s₀ (State.fwxNext s x) := by
  unfold State.fwxNext
  lift_lets
  intro x0
  have h1 : State.Fr W s₀ x0 := by
    dsimp -zeta only [x0]
    split
    · exact State.jobProgress_fr _ _ _ (State.setJob_fr _ _ hs)
    · exact hs
  clear_value x0
  intro x2 x3 x4
  have h5 : State.Fr W s₀ x4 := (fr_mk rfl rfl rfl rfl h1)
  clear_value x4
  intro x6
  have h7 : State.Fr W s₀ x6 := by
    dsimp -zeta only [x6]
    refine fr_foldl ?_ h5
    · intro y8 y9 g10
      exact State.setFld_fr _ _ _ g10
  clear_value x6
  refine fr_ite ?_ (fr_ite ?_ (State.fwxEnd_fr _ _ _ (State.setFld_fr _ _ _ h7)))
  · split
    · exact State.fwxDrain_fr _ _ _ h1
    · exact State.fwxEnd_fr _ _ _ h1
  · split
    · exact fr_ite (State.suspended_fr _ _ (State.setFwx_fr _ _ h1)) (State.fwxDrain_fr _ _ _ h1)
    · exact h1

theorem State.fwxPhase_fr {W : Nat} {s₀ : State} (s : State) (x : Fwx) (test : Nat) (ok : Bool) (hs : State.Fr W s₀ s)
    (hw : partSub 0x8cc1f8 W = true := by first | exact partSub_refl _ | exact partSub_trans (by with_reducible assumption) (by exact rfl)) : State.Fr W s₀ (State.fwxPhase s x test ok) := by
  unfold State.fwxPhase
  lift_lets
  intro x0 x1
  have h2 : State.Fr W s₀ x1 := (State.setSelftest_fr _ _ _ _ _ hs)
  clear_value x1
  intro x3
  have h4 : State.Fr W s₀ x3 := (State.setFwx_fr _ _ (State.setFld_fr _ _ _ h2))
  clear_value x3
  intro x5
  have h6 : State.Fr W s₀ x5 := (State.raise_fr _ _ _ _ _ _ _ _ h4)
  clear_value x5
  intro x7
  have h8 : State.Fr W s₀ x7 := (State.setFld_fr _ _ _ (State.setFld_fr _ _ _ hs))
  clear_value x7
  split
  · exact fr_ite hs (State.fwxLoad_fr _ _ hs)
  · exact State.setFwx_fr _ _ (State.setFld_fr _ _ _ hs)
  · refine fr_ite (fr_foldl ?_ (State.setFwx_fr _ _ h2)) ?_
    · intro y9 y10 g11
      exact State.resetCore_fr _ _ g11
    · split
      · lift_lets
        intro x12
        have h13 : State.Fr W s₀ x12 := (State.setJob_fr _ _ h6)
        clear_value x12
        refine fr_foldl ?_ (State.jobProgress_fr _ _ _ h13)
        · intro y14 y15 g16
          exact State.complete_fr _ _ _ _ _ g16
      · exact h6
  · exact State.fwxNext_fr _ _ (State.budgetCheck_fr _ h8)

theorem execFwxStepEnd_fr {W : Nat} {s₀ : State} (test : BitVec 11) (ok : Bool) (s : State) (hs : State.Fr W s₀ s)
    (hw : partSub 0x8cc1f8 W = true := by first | exact partSub_refl _ | exact partSub_trans (by with_reducible assumption) (by exact rfl)) : OutFr W s₀ (execFwxStepEnd test ok s) := by
  unfold execFwxStepEnd
  refine fr_next ?_
  · split
    · exact fr_ite hs (State.fwxPhase_fr _ _ _ _ hs)
    · exact hs

theorem State.fwxStart_fr {W : Nat} {s₀ : State} (s : State) (c : HCmd) (o : Origin) (b : List Byte) (hs : State.Fr W s₀ s)
    (hw : partSub 0x8cc1c8 W = true := by first | exact partSub_refl _ | exact partSub_trans (by with_reducible assumption) (by exact rfl)) : State.Fr W s₀ (State.fwxStart s c o b) := by
  unfold State.fwxStart
  lift_lets
  intro x0
  have h1 : State.Fr W s₀ x0 := (State.takeStore_fr _ (State.imgChecked_fr _ _ _ _ hs))
  clear_value x0
  split
  · exact State.complete_fr _ _ _ _ _ h1
  · lift_lets
    intro x2
    have h3 : State.Fr W s₀ x2 := (State.addJob_fr _ _ (State.storeImage_fr _ _ _ h1))
    clear_value x2
    exact State.fwxDrain_fr _ _ _ h3

theorem execFwExchange_fr {W : Nat} {s₀ : State} (c : HCmd) (sig : Bool) (s : State) (hs : State.Fr W s₀ s)
    (hw : partSub 0x8cc1c8 W = true := by first | exact partSub_refl _ | exact partSub_trans (by with_reducible assumption) (by exact rfl)) : OutFr W s₀ (execFwExchange c sig s) := by
  unfold execFwExchange
  refine fr_next (State.jobCommand_fr _ _ _ _ _ _ _ _ _ _ hs ?_)
  · intro y0 y1 g2
    lift_lets
    intro x3
    exact fr_ite (State.complete_fr _ _ _ _ _ (State.imgChecked_fr _ _ _ _ g2)) (fr_ite (State.complete_fr _ _ _ _ _ (State.imgChecked_fr _ _ _ _ g2)) (State.fwxStart_fr _ _ _ _ g2))

theorem State.fwxResume_fr {W : Nat} {s₀ : State} (s : State) (hs : State.Fr W s₀ s)
    (hw : partSub 0xc81e8 W = true := by first | exact partSub_refl _ | exact partSub_trans (by with_reducible assumption) (by exact rfl)) : State.Fr W s₀ (State.fwxResume s) := by
  unfold State.fwxResume
  split
  · exact hs
  · exact fr_ite (State.fwxDrain_fr _ _ _ hs) (State.fwxLoad_fr _ _ hs)

theorem State.fwxCancel_fr {W : Nat} {s₀ : State} (s : State) (hs : State.Fr W s₀ s)
    (hw : partSub 0x8cc1e8 W = true := by first | exact partSub_refl _ | exact partSub_trans (by with_reducible assumption) (by exact rfl)) : State.Fr W s₀ (State.fwxCancel s) := by
  unfold State.fwxCancel
  split
  · exact hs
  · lift_lets
    intro x0
    have h1 : State.Fr W s₀ x0 := (fr_ite (State.budgetCheck_fr _ (State.setFld_fr _ _ _ hs)) hs)
    clear_value x0
    intro x2
    split
    · exact fr_ite (State.fwxLoad_fr _ _ h1) (State.fwxDrain_fr _ _ _ h1)
    · exact State.fwxEnd_fr _ _ _ h1

theorem State.fwPost_fr {W : Nat} {s₀ : State} (s : State) (c : HCmd) (o : Origin) (cl : Nat) (hs : State.Fr W s₀ s)
    (hw : partSub 0x80c048 W = true := by first | exact partSub_refl _ | exact partSub_trans (by with_reducible assumption) (by exact rfl)) : State.Fr W s₀ (State.fwPost s c o cl) := by
  unfold State.fwPost
  lift_lets
  intro x0 x1 x2 x3
  have h4 : State.Fr W s₀ x3 := (fr_ite (State.setFlag_fr _ _ _ hs) (State.setFlag_fr _ _ _ hs))
  clear_value x3
  exact fr_ite (State.pushEntry_fr _ _ (State.addJob_fr _ _ hs)) (State.complete_fr _ _ _ _ _ (State.incS_fr _ _ _ h4))

theorem execFwJob_fr {W : Nat} {s₀ : State} (c : HCmd) (s : State) (hs : State.Fr W s₀ s)
    (hw : partSub 0x80c048 W = true := by first | exact partSub_refl _ | exact partSub_trans (by with_reducible assumption) (by exact rfl)) : OutFr W s₀ (execFwJob c s) := by
  unfold execFwJob
  lift_lets
  intro x0
  refine fr_next (State.jobCommand_fr _ _ _ _ _ _ _ _ _ _ hs ?_)
  · intro y1 y2 g3
    split
    · exact State.fwPost_fr _ _ _ _ g3
    · exact State.complete_fr _ _ _ _ _ (State.incS_fr _ _ _ g3)

theorem execCoreRetire_fr {W : Nat} {s₀ : State} (c : HCmd) (s : State) (hs : State.Fr W s₀ s)
    (hw : partSub 0x80c048 W = true := by first | exact partSub_refl _ | exact partSub_trans (by with_reducible assumption) (by exact rfl)) : OutFr W s₀ (execCoreRetire c s) := by
  unfold execCoreRetire
  lift_lets
  intro x0
  refine fr_next (State.jobCommand_fr _ _ _ _ _ _ _ _ _ _ hs ?_)
  · intro y1 y2 g3
    exact fr_ite (State.complete_fr _ _ _ _ _ g3) (fr_ite (State.complete_fr _ _ _ _ _ (State.setFld_fr _ _ _ (State.setFld_fr _ _ _ (State.setFld_fr _ _ _ g3)))) (State.startRetire_fr _ _ _ (State.addJob_fr _ _ g3)))

theorem State.retireCancel_fr {W : Nat} {s₀ : State} (s : State) (h_ : Nat) (hs : State.Fr W s₀ s)
    (hw : partSub 0x80c048 W = true := by first | exact partSub_refl _ | exact partSub_trans (by with_reducible assumption) (by exact rfl)) : State.Fr W s₀ (State.retireCancel s h_) := by
  unfold State.retireCancel
  split
  · exact State.endJob_fr _ _ _ _ _ hs
  · lift_lets
    intro x0 x1 x2 x3
    have h4 : State.Fr W s₀ x3 := (fr_mk rfl rfl rfl rfl hs)
    clear_value x3
    exact State.wakeRetire_fr _ _ (State.endJob_fr _ _ _ _ _ (State.dropRetire_fr _ _ h4))

theorem State.holdPage_fr {W : Nat} {s₀ : State} (s : State) (q_ : Nat) (hs : State.Fr W s₀ s)
    (hw : partSub 0x100 W = true := by first | exact partSub_refl _ | exact partSub_trans (by with_reducible assumption) (by exact rfl)) : State.Fr W s₀ (State.holdPage s q_) := by
  unfold State.holdPage
  lift_lets
  intro x0
  exact fr_mk rfl rfl rfl rfl hs

theorem execHbmRepair_fr {W : Nat} {s₀ : State} (c : HCmd) (s : State) (hs : State.Fr W s₀ s)
    (hw : partSub 0x80c108 W = true := by first | exact partSub_refl _ | exact partSub_trans (by with_reducible assumption) (by exact rfl)) : OutFr W s₀ (execHbmRepair c s) := by
  unfold execHbmRepair
  lift_lets
  intro x0 x1 x2
  refine fr_next (State.jobCommand_fr _ _ _ _ _ _ _ _ _ _ hs ?_)
  · intro y3 y4 g5
    lift_lets
    intro x6 x7
    refine fr_ite (fr_ite (State.complete_fr _ _ _ _ _ g5) (State.addJob_fr _ _ g5)) (fr_ite (State.complete_fr _ _ _ _ _ g5) ?_)
    · split
      · exact State.addJob_fr _ _ (State.holdPage_fr _ _ g5)
      · lift_lets
        intro x8
        have h9 : State.Fr W s₀ x8.1 := (State.startMove_fr _ _ _ _ g5)
        clear_value x8
        intro x10
        split
        · exact State.complete_fr _ _ _ _ _ h9
        · exact State.addJob_fr _ _ h9

theorem State.repairMoved_fr {W : Nat} {s₀ : State} (s : State) (m : Move) (hs : State.Fr W s₀ s)
    (hw : partSub 0x80c108 W = true := by first | exact partSub_refl _ | exact partSub_trans (by with_reducible assumption) (by exact rfl)) : State.Fr W s₀ (State.repairMoved s m) := by
  unfold State.repairMoved
  lift_lets
  intro x0 x1
  have h2 : State.Fr W s₀ x1 := (fr_mk rfl rfl rfl rfl hs)
  clear_value x1
  split
  · exact h2
  · lift_lets
    intro x3
    have h4 : State.Fr W s₀ x3 := (State.jobProgress_fr _ _ _ (State.setJob_fr _ _ h2))
    clear_value x3
    intro x5
    exact fr_ite (State.endJob_fr _ _ _ _ _ (fr_mk rfl rfl rfl rfl h4)) h4

theorem execMigDone_fr {W : Nat} {s₀ : State} (page : BitVec 13) (s : State) (hs : State.Fr W s₀ s)
    (hw : partSub 0x80c108 W = true := by first | exact partSub_refl _ | exact partSub_trans (by with_reducible assumption) (by exact rfl)) : OutFr W s₀ (execMigDone page s) := by
  unfold execMigDone
  refine fr_next ?_
  · split
    · exact hs
    · lift_lets
      intro x0
      have h1 : State.Fr W s₀ x0 := (State.setPage_fr _ _ _ hs)
      clear_value x0
      intro x2 x3
      have h4 : State.Fr W s₀ x3 := (fr_mk rfl rfl rfl rfl h1)
      clear_value x3
      intro x5 x6
      have h7 : State.Fr W s₀ x6 := (fr_ite (State.repairMoved_fr _ _ h4) (fr_mk rfl rfl rfl rfl h4))
      clear_value x6
      exact State.completeOpt_fr _ _ _ _ _ (State.event_fr _ _ _ _ _ _ _ h7)

theorem execHbmRepairPauseEnd_fr {W : Nat} {s₀ : State} (pc : Fin 16) (ok : Bool) (s : State) (hs : State.Fr W s₀ s)
    (hw : partSub 0x80c108 W = true := by first | exact partSub_refl _ | exact partSub_trans (by with_reducible assumption) (by exact rfl)) : OutFr W s₀ (execHbmRepairPauseEnd pc ok s) := by
  unfold execHbmRepairPauseEnd
  refine fr_next ?_
  · split
    · exact hs
    · lift_lets
      intro x0 x1
      have h2 : State.Fr W s₀ x1 := (State.setJob_fr _ _ hs)
      clear_value x1
      intro x3
      have h4 : State.Fr W s₀ x3 := (State.setFld_fr _ _ _ h2)
      clear_value x3
      intro x5
      have h6 : State.Fr W s₀ x5 := (State.setFld_fr _ _ _ h4)
      clear_value x5
      intro x7 x8 x9 x10
      have h11 : State.Fr W s₀ x10 := (fr_mk rfl rfl rfl rfl h2)
      clear_value x10
      intro x12
      have h13 : State.Fr W s₀ x12 := (fr_ite h11 (State.raise_fr _ _ _ _ _ _ _ _ h11))
      clear_value x12
      exact fr_ite (State.endJob_fr _ _ _ _ _ h6) (fr_ite (State.endJob_fr _ _ _ _ _ h13) (State.endJob_fr _ _ _ _ _ h13))

theorem State.scrubCsm_fr {W : Nat} {s₀ : State} (s : State) (c : Nat) (word : Nat) (row : Nat) (hs : State.Fr W s₀ s)
    (hw : partSub 0x8068 W = true := by first | exact partSub_refl _ | exact partSub_trans (by with_reducible assumption) (by exact rfl)) : State.Fr W s₀ (State.scrubCsm s c word row) := by
  unfold State.scrubCsm
  lift_lets
  intro x0
  have h1 : State.Fr W s₀ x0 := (State.logRow_fr _ _ _ (State.raise_fr _ _ _ _ _ _ _ _ hs))
  clear_value x0
  intro x2 x3 x4 x5
  exact fr_mk rfl rfl rfl rfl h1

theorem State.scrubErr_fr {W : Nat} {s₀ : State} (s : State) (a1 : ScrubErr) (hs : State.Fr W s₀ s)
    (hw : partSub 0x8cc1f8 W = true := by first | exact partSub_refl _ | exact partSub_trans (by with_reducible assumption) (by exact rfl)) : State.Fr W s₀ (State.scrubErr s a1) := by
  unfold State.scrubErr
  split
  · exact State.memErr_fr _ _ hs
  · lift_lets
    intro x0
    have h1 : State.Fr W s₀ x0 := (fr_ite hs (State.logRow_fr _ _ _ hs))
    clear_value x0
    exact State.cpsRestore_fr _ _ _ h1
  · exact State.scrubCsm_fr _ _ _ _ hs
  · exact State.raise_fr _ _ _ _ _ _ _ _ hs

theorem execScrub_fr {W : Nat} {s₀ : State} (c : HCmd) (s : State) (hs : State.Fr W s₀ s)
    (hw : partSub 0x80c008 W = true := by first | exact partSub_refl _ | exact partSub_trans (by with_reducible assumption) (by exact rfl)) : OutFr W s₀ (execScrub c s) := by
  unfold execScrub
  refine fr_next (State.jobCommand_fr _ _ _ _ _ _ _ _ _ _ hs ?_)
  · intro y0 y1 g2
    lift_lets
    intro x3
    exact State.setFlag_fr _ _ _ (State.addJob_fr _ _ g2)

theorem State.scrubJobRead_fr {W : Nat} {s₀ : State} (s : State) (j : Job) (target : Nat) (errs : List ScrubErr) (hs : State.Fr W s₀ s)
    (hw : partSub 0x8cc1f8 W = true := by first | exact partSub_refl _ | exact partSub_trans (by with_reducible assumption) (by exact rfl)) : State.Fr W s₀ (State.scrubJobRead s j target errs) := by
  unfold State.scrubJobRead
  lift_lets
  intro x0 x1 x2
  have h3 : State.Fr W s₀ x2 := by
    dsimp -zeta only [x2]
    refine fr_foldl ?_ hs
    · intro y4 y5 g6
      exact State.scrubErr_fr _ _ g6
  clear_value x2
  exact fr_ite (State.jobProgress_fr _ _ _ (State.setFld_fr _ _ _ (State.setJob_fr _ _ h3))) (State.setJob_fr _ _ h3)

theorem execPatrolScrubRead_fr {W : Nat} {s₀ : State} (target : Fin 3) (errs : List ScrubErr) (s : State) (hs : State.Fr W s₀ s)
    (hw : partSub 0x8cc1f8 W = true := by first | exact partSub_refl _ | exact partSub_trans (by with_reducible assumption) (by exact rfl)) : OutFr W s₀ (execPatrolScrubRead target errs s) := by
  unfold execPatrolScrubRead
  refine fr_next (fr_ite hs ?_)
  · split
    · exact fr_ite (State.scrubJobRead_fr _ _ _ _ hs) hs
    · lift_lets
      intro x0 x1
      have h2 : State.Fr W s₀ x1 := by
        dsimp -zeta only [x1]
        refine fr_foldl ?_ hs
        · intro y3 y4 g5
          exact State.scrubErr_fr _ _ g5
      clear_value x1
      exact fr_ite (fr_ite (State.setFld_fr _ _ _ h2) h2) hs

theorem execScrubDone_fr {W : Nat} {s₀ : State} (hbm : Bool) (s : State) (hs : State.Fr W s₀ s)
    (hw : partSub 0x80c008 W = true := by first | exact partSub_refl _ | exact partSub_trans (by with_reducible assumption) (by exact rfl)) : OutFr W s₀ (execScrubDone hbm s) := by
  unfold execScrubDone
  lift_lets
  intro x0
  refine fr_next ?_
  · split
    · exact State.endJob_fr _ _ _ _ _ (State.setFlag_fr _ _ _ (State.setFlag_fr _ _ _ (fr_ite (State.incW_fr _ _ _ hs) hs)))
    · exact State.setFlag_fr _ _ _ (fr_ite (State.incW_fr _ _ _ hs) hs)

theorem execLifeHour_fr {W : Nat} {s₀ : State} (temp : Option (BitVec 16)) (s : State) (hs : State.Fr W s₀ s)
    (hw : partSub 0x8008 W = true := by first | exact partSub_refl _ | exact partSub_trans (by with_reducible assumption) (by exact rfl)) : OutFr W s₀ (execLifeHour temp s) := by
  unfold execLifeHour
  lift_lets
  intro x0 x1 x2
  have h3 : State.Fr W s₀ x2 := (State.incS_fr _ _ _ (State.incS_fr _ _ _ hs))
  clear_value x2
  intro x4 x5
  have h6 : State.Fr W s₀ x5 := (fr_ite (State.event_fr _ _ _ _ _ _ _ h3) h3)
  clear_value x5
  exact fr_next (fr_ite (State.event_fr _ _ _ _ _ _ _ h6) h6)

theorem State.sweepStart_fr {W : Nat} {s₀ : State} (s : State) (c : HCmd) (o : Origin) (hs : State.Fr W s₀ s)
    (hw : partSub 0x80e008 W = true := by first | exact partSub_refl _ | exact partSub_trans (by with_reducible assumption) (by exact rfl)) : State.Fr W s₀ (State.sweepStart s c o) := by
  unfold State.sweepStart
  lift_lets
  intro x0 x1 x2 x3 x4 x5 x6
  have h7 : State.Fr W s₀ x6 := (State.addJob_fr _ _ hs)
  clear_value x6
  intro x8
  exact fr_ite (State.complete_fr _ _ _ _ _ (State.unmappedEvent_fr _ _ hs)) (fr_ite (State.complete_fr _ _ _ _ _ (State.poisonSeen_fr _ hs)) (fr_ite (State.complete_fr _ _ _ _ _ hs) (fr_ite (State.complete_fr _ _ _ _ _ hs) (fr_ite (State.complete_fr _ _ _ _ _ hs) (fr_ite (fr_mk rfl rfl rfl rfl h7) (State.sweepEntry_fr _ _ h7))))))

theorem execLineTestSweep_fr {W : Nat} {s₀ : State} (c : HCmd) (s : State) (hs : State.Fr W s₀ s)
    (hw : partSub 0x80e008 W = true := by first | exact partSub_refl _ | exact partSub_trans (by with_reducible assumption) (by exact rfl)) : OutFr W s₀ (execLineTestSweep c s) := by
  unfold execLineTestSweep
  refine fr_next (State.jobCommand_fr _ _ _ _ _ _ _ _ _ _ hs ?_)
  · intro y0 y1 g2
    exact State.sweepStart_fr _ _ _ g2

theorem State.sweepSuspend_fr {W : Nat} {s₀ : State} (s : State) (hs : State.Fr W s₀ s)
    (hw : partSub 0x80e008 W = true := by first | exact partSub_refl _ | exact partSub_trans (by with_reducible assumption) (by exact rfl)) : State.Fr W s₀ (State.sweepSuspend s) := by
  unfold State.sweepSuspend
  split
  · exact hs
  · exact fr_ite (State.suspendSweep_fr _ _ hs) hs

theorem State.sweepResume_fr {W : Nat} {s₀ : State} (s : State) (hs : State.Fr W s₀ s)
    (hw : partSub 0x2008 W = true := by first | exact partSub_refl _ | exact partSub_trans (by with_reducible assumption) (by exact rfl)) : State.Fr W s₀ (State.sweepResume s) := by
  unfold State.sweepResume
  split
  · exact hs
  · lift_lets
    intro x0 x1
    exact fr_ite (fr_mk rfl rfl rfl rfl hs) (State.sweepEntry_fr _ _ hs)

theorem State.jobControl_fr {W : Nat} {s₀ : State} (s : State) (c : HCmd) (op : Nat) (f : State → Origin → Job → State) (hs : State.Fr W s₀ s) (hf : ∀ (x0 : State) (x1 : Origin) (x2 : Job), State.Fr W s₀ x0 → State.Fr W s₀ (f x0 x1 x2))
    (hw : partSub 0x80c008 W = true := by first | exact partSub_refl _ | exact partSub_trans (by with_reducible assumption) (by exact rfl)) : State.Fr W s₀ (State.jobControl s c op f) := by
  unfold State.jobControl
  lift_lets
  intro x0
  refine fr_ite (State.checked_fr _ _ _ _ _ _ _ _ (State.start_fr _ _ hs) ?_) hs
  · intro y1 g2
    split
    · exact hf _ _ _ g2
    · exact State.complete_fr _ _ _ _ _ g2

theorem State.suspendNow_fr {W : Nat} {s₀ : State} (s : State) (j : Job) (hs : State.Fr W s₀ s)
    (hw : partSub 0x80c008 W = true := by first | exact partSub_refl _ | exact partSub_trans (by with_reducible assumption) (by exact rfl)) : State.Fr W s₀ (State.suspendNow s j) := by
  unfold State.suspendNow
  exact State.suspended_fr _ _ (State.setJob_fr _ _ hs)

theorem State.suspendKind_fr {W : Nat} {s₀ : State} (s : State) (o : Origin) (j : Job) (hs : State.Fr W s₀ s)
    (hw : partSub 0x90e008 W = true := by first | exact partSub_refl _ | exact partSub_trans (by with_reducible assumption) (by exact rfl)) : State.Fr W s₀ (State.suspendKind s o j) := by
  unfold State.suspendKind
  lift_lets
  intro x0
  split
  · exact State.setJob_fr _ _ hs
  · exact State.setJob_fr _ _ hs
  · exact State.setFlag_fr _ _ _ (State.suspendNow_fr _ _ hs)
  · exact State.sweepSuspend_fr _ (State.setJob_fr _ _ hs)
  · exact fr_ite (State.suspendNow_fr _ _ hs) (State.setJob_fr _ _ hs)
  · exact State.rkSuspendJob_fr _ _ _ hs
  · exact State.suspendNow_fr _ _ hs
  · exact State.complete_fr _ _ _ _ _ hs

theorem execJobSuspend_fr {W : Nat} {s₀ : State} (c : HCmd) (s : State) (hs : State.Fr W s₀ s)
    (hw : partSub 0x90e008 W = true := by first | exact partSub_refl _ | exact partSub_trans (by with_reducible assumption) (by exact rfl)) : OutFr W s₀ (execJobSuspend c s) := by
  unfold execJobSuspend
  refine fr_next (State.jobControl_fr _ _ _ _ hs ?_)
  · intro y0 y1 y2 g3
    split
    · exact State.complete_fr _ _ _ _ _ g3
    · exact State.complete_fr _ _ _ _ _ g3
    · exact State.complete_fr _ _ _ _ _ g3
    · exact State.setJob_fr _ _ g3
    · exact State.suspendKind_fr _ _ _ g3

theorem State.resumeKind_fr {W : Nat} {s₀ : State} (s : State) (j : Job) (hs : State.Fr W s₀ s)
    (hw : partSub 0x1ce1e8 W = true := by first | exact partSub_refl _ | exact partSub_trans (by with_reducible assumption) (by exact rfl)) : State.Fr W s₀ (State.resumeKind s j) := by
  unfold State.resumeKind
  split
  · exact State.fwxResume_fr _ hs
  · exact State.setFlag_fr _ _ _ hs
  · exact State.sweepResume_fr _ hs
  · exact State.rkResumeJob_fr _ _ hs
  · exact hs

theorem execJobResume_fr {W : Nat} {s₀ : State} (c : HCmd) (s : State) (hs : State.Fr W s₀ s)
    (hw : partSub 0x9ce1e8 W = true := by first | exact partSub_refl _ | exact partSub_trans (by with_reducible assumption) (by exact rfl)) : OutFr W s₀ (execJobResume c s) := by
  unfold execJobResume
  refine fr_next (State.jobControl_fr _ _ _ _ hs ?_)
  · intro y0 y1 y2 g3
    lift_lets
    intro x4
    exact fr_ite (State.complete_fr _ _ _ _ _ (State.resumeKind_fr _ _ (State.jobProgress_fr _ _ _ (State.setJob_fr _ _ g3)))) (State.complete_fr _ _ _ _ _ g3)

theorem State.fwCancelJob_fr {W : Nat} {s₀ : State} (s : State) (j : Job) (hs : State.Fr W s₀ s)
    (hw : partSub 0x80c1d8 W = true := by first | exact partSub_refl _ | exact partSub_trans (by with_reducible assumption) (by exact rfl)) : State.Fr W s₀ (State.fwCancelJob s j) := by
  unfold State.fwCancelJob
  lift_lets
  intro x0 x1
  have h2 : State.Fr W s₀ x1 := (State.setJob_fr _ _ hs)
  clear_value x1
  refine fr_ite (fr_foldl ?_ h2) ?_
  · intro y3 y4 g5
    lift_lets
    intro x6 x7 x8
    exact fr_ite (State.setCore_fr _ _ _ g5) g5
  · split
    · exact State.endCancelled_fr _ _ _ (State.dropQueued_fr _ _ hs)
    · exact State.endJob_fr _ _ _ _ _ hs

theorem State.cancelKind_fr {W : Nat} {s₀ : State} (s : State) (j : Job) (hs : State.Fr W s₀ s)
    (hw : partSub 0x9de1f8 W = true := by first | exact partSub_refl _ | exact partSub_trans (by with_reducible assumption) (by exact rfl)) : State.Fr W s₀ (State.cancelKind s j) := by
  unfold State.cancelKind
  split
  · exact State.fwxCancel_fr _ (State.setJob_fr _ _ hs)
  · exact State.retireCancel_fr _ _ hs
  · exact State.setJob_fr _ _ hs
  · exact State.endJob_fr _ _ _ _ _ (State.setFlag_fr _ _ _ hs)
  · exact State.endSweep_fr _ _ hs
  · exact State.endJob_fr _ _ _ _ _ (State.migWithdraw_fr _ _ _ hs)
  · lift_lets
    intro x0
    exact State.endJob_fr _ _ _ _ _ (fr_mk rfl rfl rfl rfl hs)
  · exact State.rkCancelJob_fr _ _ hs
  · exact State.fwCancelJob_fr _ _ hs
  · exact State.endJob_fr _ _ _ _ _ hs

theorem execJobCancel_fr {W : Nat} {s₀ : State} (c : HCmd) (s : State) (hs : State.Fr W s₀ s)
    (hw : partSub 0x9de1f8 W = true := by first | exact partSub_refl _ | exact partSub_trans (by with_reducible assumption) (by exact rfl)) : OutFr W s₀ (execJobCancel c s) := by
  unfold execJobCancel
  refine fr_next (State.jobControl_fr _ _ _ _ hs ?_)
  · intro y0 y1 y2 g3
    lift_lets
    intro x4
    split
    · exact State.complete_fr _ _ _ _ _ g3
    · exact State.setJob_fr _ _ g3
    · exact fr_ite (State.complete_fr _ _ _ _ _ g3) (State.cancelKind_fr _ _ (State.setJob_fr _ _ g3))

theorem execJobStatus_fr {W : Nat} {s₀ : State} (c : HCmd) (s : State) (hs : State.Fr W s₀ s)
    (hw : partSub 0x80c008 W = true := by first | exact partSub_refl _ | exact partSub_trans (by with_reducible assumption) (by exact rfl)) : OutFr W s₀ (execJobStatus c s) := by
  unfold execJobStatus
  refine fr_next (State.jobControl_fr _ _ _ _ hs ?_)
  · intro y0 y1 y2 g3
    exact fr_ite (State.complete_fr _ _ _ _ _ (State.dropJob_fr _ _ g3)) (State.complete_fr _ _ _ _ _ g3)

theorem execJobList_fr {W : Nat} {s₀ : State} (c : HCmd) (s : State) (hs : State.Fr W s₀ s)
    (hw : partSub 0x80c008 W = true := by first | exact partSub_refl _ | exact partSub_trans (by with_reducible assumption) (by exact rfl)) : OutFr W s₀ (execJobList c s) := by
  unfold execJobList
  refine fr_next (State.command_fr _ _ _ _ _ _ _ _ hs ?_)
  · intro y0 y1 g2
    lift_lets
    intro x3
    exact State.complete_fr _ _ _ _ _ (State.emit_fr _ _ g2)

end Sys2Proof.Machine
end

