-- ==== Sys2Proof/Laws/State.lean ====
section
/-! SUPPORT. What each shared operation leaves of the state, field by field: one lemma per operation, which the simplifier uses. -/
set_option Elab.async false

namespace Sys2Proof.Machine

@[simp] theorem State.setFld_keeps (s : State) (f : Fld) (v : Nat) :
    (s.setFld f v).fuse = s.fuse ∧ (s.setFld f v).elapsed = s.elapsed ∧ (s.setFld f v).freeCtr = s.freeCtr ∧ (s.setFld f v).cores = s.cores
      ∧ (s.setFld f v).mem = s.mem ∧ (s.setFld f v).th = s.th ∧ (s.setFld f v).chans = s.chans ∧ (s.setFld f v).hp = s.hp
      ∧ (s.setFld f v).ep = s.ep ∧ (s.setFld f v).cp = s.cp ∧ (s.setFld f v).td = s.td ∧ (s.setFld f v).bs = s.bs ∧ (s.setFld f v).lm = s.lm
      ∧ (s.setFld f v).hi = s.hi ∧ (s.setFld f v).rl = s.rl ∧ (s.setFld f v).tw = s.tw ∧ (s.setFld f v).mg = s.mg ∧ (s.setFld f v).gl = s.gl
      ∧ (s.setFld f v).st = s.st ∧ (s.setFld f v).rk = s.rk ∧ (s.setFld f v).ln = s.ln ∧ (s.setFld f v).lastRead = s.lastRead
      ∧ (s.setFld f v).out = s.out ∧ (s.setFld f v).pending = s.pending :=
  have h := State.setFld_fr s f v (.refl s)
  ⟨h.fuse rfl, h.elapsed rfl, h.freeCtr rfl, h.cores rfl, h.mem rfl, h.th rfl, h.chans rfl, h.hp rfl, h.ep rfl, h.cp rfl, h.td rfl, h.bs rfl, h.lm rfl, h.hi rfl, h.rl rfl, h.tw rfl, h.mg rfl, h.gl rfl, h.st rfl, h.rk rfl, h.ln rfl, h.lastRead rfl, h.out rfl, h.pending rfl⟩

@[simp] theorem State.setFlag_keeps (s : State) (f : Fld) (b : Bool) :
    (s.setFlag f b).fuse = s.fuse ∧ (s.setFlag f b).elapsed = s.elapsed ∧ (s.setFlag f b).freeCtr = s.freeCtr ∧ (s.setFlag f b).cores = s.cores
      ∧ (s.setFlag f b).mem = s.mem ∧ (s.setFlag f b).th = s.th ∧ (s.setFlag f b).chans = s.chans ∧ (s.setFlag f b).hp = s.hp
      ∧ (s.setFlag f b).ep = s.ep ∧ (s.setFlag f b).cp = s.cp ∧ (s.setFlag f b).td = s.td ∧ (s.setFlag f b).bs = s.bs
      ∧ (s.setFlag f b).lm = s.lm ∧ (s.setFlag f b).hi = s.hi ∧ (s.setFlag f b).rl = s.rl ∧ (s.setFlag f b).tw = s.tw
      ∧ (s.setFlag f b).mg = s.mg ∧ (s.setFlag f b).gl = s.gl ∧ (s.setFlag f b).st = s.st ∧ (s.setFlag f b).rk = s.rk
      ∧ (s.setFlag f b).ln = s.ln ∧ (s.setFlag f b).lastRead = s.lastRead ∧ (s.setFlag f b).out = s.out ∧ (s.setFlag f b).pending = s.pending :=
  have h := State.setFlag_fr s f b (.refl s)
  ⟨h.fuse rfl, h.elapsed rfl, h.freeCtr rfl, h.cores rfl, h.mem rfl, h.th rfl, h.chans rfl, h.hp rfl, h.ep rfl, h.cp rfl, h.td rfl, h.bs rfl, h.lm rfl, h.hi rfl, h.rl rfl, h.tw rfl, h.mg rfl, h.gl rfl, h.st rfl, h.rk rfl, h.ln rfl, h.lastRead rfl, h.out rfl, h.pending rfl⟩

@[simp] theorem State.rstFld_keeps (s : State) (f : Fld) :
    (s.rstFld f).fuse = s.fuse ∧ (s.rstFld f).elapsed = s.elapsed ∧ (s.rstFld f).freeCtr = s.freeCtr ∧ (s.rstFld f).cores = s.cores
      ∧ (s.rstFld f).mem = s.mem ∧ (s.rstFld f).th = s.th ∧ (s.rstFld f).chans = s.chans ∧ (s.rstFld f).hp = s.hp ∧ (s.rstFld f).ep = s.ep
      ∧ (s.rstFld f).cp = s.cp ∧ (s.rstFld f).td = s.td ∧ (s.rstFld f).bs = s.bs ∧ (s.rstFld f).lm = s.lm ∧ (s.rstFld f).hi = s.hi
      ∧ (s.rstFld f).rl = s.rl ∧ (s.rstFld f).tw = s.tw ∧ (s.rstFld f).mg = s.mg ∧ (s.rstFld f).gl = s.gl ∧ (s.rstFld f).st = s.st
      ∧ (s.rstFld f).rk = s.rk ∧ (s.rstFld f).ln = s.ln ∧ (s.rstFld f).lastRead = s.lastRead ∧ (s.rstFld f).out = s.out
      ∧ (s.rstFld f).pending = s.pending :=
  have h := State.rstFld_fr s f (.refl s)
  ⟨h.fuse rfl, h.elapsed rfl, h.freeCtr rfl, h.cores rfl, h.mem rfl, h.th rfl, h.chans rfl, h.hp rfl, h.ep rfl, h.cp rfl, h.td rfl, h.bs rfl, h.lm rfl, h.hi rfl, h.rl rfl, h.tw rfl, h.mg rfl, h.gl rfl, h.st rfl, h.rk rfl, h.ln rfl, h.lastRead rfl, h.out rfl, h.pending rfl⟩

@[simp] theorem State.rstRegion_keeps (s : State) (lo : Nat) (hi : Nat) (keep : Nat → Bool) :
    (s.rstRegion lo hi keep).fuse = s.fuse ∧ (s.rstRegion lo hi keep).elapsed = s.elapsed ∧ (s.rstRegion lo hi keep).freeCtr = s.freeCtr
      ∧ (s.rstRegion lo hi keep).cores = s.cores ∧ (s.rstRegion lo hi keep).mem = s.mem ∧ (s.rstRegion lo hi keep).th = s.th
      ∧ (s.rstRegion lo hi keep).chans = s.chans ∧ (s.rstRegion lo hi keep).hp = s.hp ∧ (s.rstRegion lo hi keep).ep = s.ep
      ∧ (s.rstRegion lo hi keep).cp = s.cp ∧ (s.rstRegion lo hi keep).td = s.td ∧ (s.rstRegion lo hi keep).bs = s.bs
      ∧ (s.rstRegion lo hi keep).lm = s.lm ∧ (s.rstRegion lo hi keep).hi = s.hi ∧ (s.rstRegion lo hi keep).rl = s.rl
      ∧ (s.rstRegion lo hi keep).tw = s.tw ∧ (s.rstRegion lo hi keep).mg = s.mg ∧ (s.rstRegion lo hi keep).gl = s.gl
      ∧ (s.rstRegion lo hi keep).st = s.st ∧ (s.rstRegion lo hi keep).rk = s.rk ∧ (s.rstRegion lo hi keep).ln = s.ln
      ∧ (s.rstRegion lo hi keep).lastRead = s.lastRead ∧ (s.rstRegion lo hi keep).out = s.out ∧ (s.rstRegion lo hi keep).pending = s.pending :=
  have h := State.rstRegion_fr s lo hi keep (.refl s)
  ⟨h.fuse rfl, h.elapsed rfl, h.freeCtr rfl, h.cores rfl, h.mem rfl, h.th rfl, h.chans rfl, h.hp rfl, h.ep rfl, h.cp rfl, h.td rfl, h.bs rfl, h.lm rfl, h.hi rfl, h.rl rfl, h.tw rfl, h.mg rfl, h.gl rfl, h.st rfl, h.rk rfl, h.ln rfl, h.lastRead rfl, h.out rfl, h.pending rfl⟩

@[simp] theorem State.incW_keeps (s : State) (f : Fld) (n : Nat) :
    (s.incW f n).fuse = s.fuse ∧ (s.incW f n).elapsed = s.elapsed ∧ (s.incW f n).freeCtr = s.freeCtr ∧ (s.incW f n).cores = s.cores
      ∧ (s.incW f n).mem = s.mem ∧ (s.incW f n).th = s.th ∧ (s.incW f n).chans = s.chans ∧ (s.incW f n).hp = s.hp ∧ (s.incW f n).ep = s.ep
      ∧ (s.incW f n).cp = s.cp ∧ (s.incW f n).td = s.td ∧ (s.incW f n).bs = s.bs ∧ (s.incW f n).lm = s.lm ∧ (s.incW f n).hi = s.hi
      ∧ (s.incW f n).rl = s.rl ∧ (s.incW f n).tw = s.tw ∧ (s.incW f n).mg = s.mg ∧ (s.incW f n).gl = s.gl ∧ (s.incW f n).st = s.st
      ∧ (s.incW f n).rk = s.rk ∧ (s.incW f n).ln = s.ln ∧ (s.incW f n).lastRead = s.lastRead ∧ (s.incW f n).out = s.out
      ∧ (s.incW f n).pending = s.pending :=
  have h := State.incW_fr s f n (.refl s)
  ⟨h.fuse rfl, h.elapsed rfl, h.freeCtr rfl, h.cores rfl, h.mem rfl, h.th rfl, h.chans rfl, h.hp rfl, h.ep rfl, h.cp rfl, h.td rfl, h.bs rfl, h.lm rfl, h.hi rfl, h.rl rfl, h.tw rfl, h.mg rfl, h.gl rfl, h.st rfl, h.rk rfl, h.ln rfl, h.lastRead rfl, h.out rfl, h.pending rfl⟩

@[simp] theorem State.countLost_keeps (s : State) (c : Cls) (t : Nat) :
    (s.countLost c t).fuse = s.fuse ∧ (s.countLost c t).elapsed = s.elapsed ∧ (s.countLost c t).freeCtr = s.freeCtr
      ∧ (s.countLost c t).cores = s.cores ∧ (s.countLost c t).mem = s.mem ∧ (s.countLost c t).th = s.th ∧ (s.countLost c t).chans = s.chans
      ∧ (s.countLost c t).hp = s.hp ∧ (s.countLost c t).ep = s.ep ∧ (s.countLost c t).cp = s.cp ∧ (s.countLost c t).td = s.td
      ∧ (s.countLost c t).bs = s.bs ∧ (s.countLost c t).lm = s.lm ∧ (s.countLost c t).hi = s.hi ∧ (s.countLost c t).tw = s.tw
      ∧ (s.countLost c t).mg = s.mg ∧ (s.countLost c t).gl = s.gl ∧ (s.countLost c t).st = s.st ∧ (s.countLost c t).rk = s.rk
      ∧ (s.countLost c t).ln = s.ln ∧ (s.countLost c t).lastRead = s.lastRead ∧ (s.countLost c t).out = s.out
      ∧ (s.countLost c t).pending = s.pending :=
  have h := State.countLost_fr s c t (.refl s)
  ⟨h.fuse rfl, h.elapsed rfl, h.freeCtr rfl, h.cores rfl, h.mem rfl, h.th rfl, h.chans rfl, h.hp rfl, h.ep rfl, h.cp rfl, h.td rfl, h.bs rfl, h.lm rfl, h.hi rfl, h.tw rfl, h.mg rfl, h.gl rfl, h.st rfl, h.rk rfl, h.ln rfl, h.lastRead rfl, h.out rfl, h.pending rfl⟩

@[simp] theorem State.enq_keeps (s : State) (r : Report) :
    (s.enq r).fuse = s.fuse ∧ (s.enq r).elapsed = s.elapsed ∧ (s.enq r).freeCtr = s.freeCtr ∧ (s.enq r).cores = s.cores ∧ (s.enq r).mem = s.mem
      ∧ (s.enq r).th = s.th ∧ (s.enq r).chans = s.chans ∧ (s.enq r).hp = s.hp ∧ (s.enq r).ep = s.ep ∧ (s.enq r).cp = s.cp
      ∧ (s.enq r).td = s.td ∧ (s.enq r).bs = s.bs ∧ (s.enq r).lm = s.lm ∧ (s.enq r).hi = s.hi ∧ (s.enq r).tw = s.tw ∧ (s.enq r).mg = s.mg
      ∧ (s.enq r).gl = s.gl ∧ (s.enq r).st = s.st ∧ (s.enq r).rk = s.rk ∧ (s.enq r).ln = s.ln ∧ (s.enq r).lastRead = s.lastRead
      ∧ (s.enq r).out = s.out ∧ (s.enq r).pending = s.pending :=
  have h := State.enq_fr s r (.refl s)
  ⟨h.fuse rfl, h.elapsed rfl, h.freeCtr rfl, h.cores rfl, h.mem rfl, h.th rfl, h.chans rfl, h.hp rfl, h.ep rfl, h.cp rfl, h.td rfl, h.bs rfl, h.lm rfl, h.hi rfl, h.tw rfl, h.mg rfl, h.gl rfl, h.st rfl, h.rk rfl, h.ln rfl, h.lastRead rfl, h.out rfl, h.pending rfl⟩

@[simp] theorem State.incS_keeps (s : State) (f : Fld) (n : Nat) :
    (s.incS f n).fuse = s.fuse ∧ (s.incS f n).elapsed = s.elapsed ∧ (s.incS f n).freeCtr = s.freeCtr ∧ (s.incS f n).cores = s.cores
      ∧ (s.incS f n).mem = s.mem ∧ (s.incS f n).th = s.th ∧ (s.incS f n).chans = s.chans ∧ (s.incS f n).hp = s.hp ∧ (s.incS f n).ep = s.ep
      ∧ (s.incS f n).cp = s.cp ∧ (s.incS f n).td = s.td ∧ (s.incS f n).bs = s.bs ∧ (s.incS f n).lm = s.lm ∧ (s.incS f n).hi = s.hi
      ∧ (s.incS f n).tw = s.tw ∧ (s.incS f n).mg = s.mg ∧ (s.incS f n).gl = s.gl ∧ (s.incS f n).st = s.st ∧ (s.incS f n).rk = s.rk
      ∧ (s.incS f n).ln = s.ln ∧ (s.incS f n).lastRead = s.lastRead ∧ (s.incS f n).out = s.out ∧ (s.incS f n).pending = s.pending :=
  have h := State.incS_fr s f n (.refl s)
  ⟨h.fuse rfl, h.elapsed rfl, h.freeCtr rfl, h.cores rfl, h.mem rfl, h.th rfl, h.chans rfl, h.hp rfl, h.ep rfl, h.cp rfl, h.td rfl, h.bs rfl, h.lm rfl, h.hi rfl, h.tw rfl, h.mg rfl, h.gl rfl, h.st rfl, h.rk rfl, h.ln rfl, h.lastRead rfl, h.out rfl, h.pending rfl⟩

@[simp] theorem State.incWrap_keeps (s : State) (f : Fld) (n : Nat) (evt : Bool) :
    (s.incWrap f n evt).fuse = s.fuse ∧ (s.incWrap f n evt).elapsed = s.elapsed ∧ (s.incWrap f n evt).freeCtr = s.freeCtr
      ∧ (s.incWrap f n evt).cores = s.cores ∧ (s.incWrap f n evt).mem = s.mem ∧ (s.incWrap f n evt).th = s.th
      ∧ (s.incWrap f n evt).chans = s.chans ∧ (s.incWrap f n evt).hp = s.hp ∧ (s.incWrap f n evt).ep = s.ep ∧ (s.incWrap f n evt).cp = s.cp
      ∧ (s.incWrap f n evt).td = s.td ∧ (s.incWrap f n evt).bs = s.bs ∧ (s.incWrap f n evt).lm = s.lm ∧ (s.incWrap f n evt).hi = s.hi
      ∧ (s.incWrap f n evt).tw = s.tw ∧ (s.incWrap f n evt).mg = s.mg ∧ (s.incWrap f n evt).gl = s.gl ∧ (s.incWrap f n evt).st = s.st
      ∧ (s.incWrap f n evt).rk = s.rk ∧ (s.incWrap f n evt).ln = s.ln ∧ (s.incWrap f n evt).lastRead = s.lastRead
      ∧ (s.incWrap f n evt).out = s.out ∧ (s.incWrap f n evt).pending = s.pending :=
  have h := State.incWrap_fr s f n evt (.refl s)
  ⟨h.fuse rfl, h.elapsed rfl, h.freeCtr rfl, h.cores rfl, h.mem rfl, h.th rfl, h.chans rfl, h.hp rfl, h.ep rfl, h.cp rfl, h.td rfl, h.bs rfl, h.lm rfl, h.hi rfl, h.tw rfl, h.mg rfl, h.gl rfl, h.st rfl, h.rk rfl, h.ln rfl, h.lastRead rfl, h.out rfl, h.pending rfl⟩

@[simp] theorem State.captureFirst_keeps (s : State) (r : Report) :
    (s.captureFirst r).fuse = s.fuse ∧ (s.captureFirst r).elapsed = s.elapsed ∧ (s.captureFirst r).freeCtr = s.freeCtr
      ∧ (s.captureFirst r).cores = s.cores ∧ (s.captureFirst r).mem = s.mem ∧ (s.captureFirst r).th = s.th
      ∧ (s.captureFirst r).chans = s.chans ∧ (s.captureFirst r).hp = s.hp ∧ (s.captureFirst r).ep = s.ep ∧ (s.captureFirst r).cp = s.cp
      ∧ (s.captureFirst r).td = s.td ∧ (s.captureFirst r).bs = s.bs ∧ (s.captureFirst r).lm = s.lm ∧ (s.captureFirst r).hi = s.hi
      ∧ (s.captureFirst r).tw = s.tw ∧ (s.captureFirst r).mg = s.mg ∧ (s.captureFirst r).gl = s.gl ∧ (s.captureFirst r).st = s.st
      ∧ (s.captureFirst r).rk = s.rk ∧ (s.captureFirst r).ln = s.ln ∧ (s.captureFirst r).lastRead = s.lastRead
      ∧ (s.captureFirst r).out = s.out ∧ (s.captureFirst r).pending = s.pending :=
  have h := State.captureFirst_fr s r (.refl s)
  ⟨h.fuse rfl, h.elapsed rfl, h.freeCtr rfl, h.cores rfl, h.mem rfl, h.th rfl, h.chans rfl, h.hp rfl, h.ep rfl, h.cp rfl, h.td rfl, h.bs rfl, h.lm rfl, h.hi rfl, h.tw rfl, h.mg rfl, h.gl rfl, h.st rfl, h.rk rfl, h.ln rfl, h.lastRead rfl, h.out rfl, h.pending rfl⟩

@[simp] theorem State.raiseR_keeps (s : State) (r : Report) :
    (s.raiseR r).fuse = s.fuse ∧ (s.raiseR r).elapsed = s.elapsed ∧ (s.raiseR r).freeCtr = s.freeCtr ∧ (s.raiseR r).cores = s.cores
      ∧ (s.raiseR r).mem = s.mem ∧ (s.raiseR r).th = s.th ∧ (s.raiseR r).chans = s.chans ∧ (s.raiseR r).hp = s.hp ∧ (s.raiseR r).ep = s.ep
      ∧ (s.raiseR r).cp = s.cp ∧ (s.raiseR r).td = s.td ∧ (s.raiseR r).bs = s.bs ∧ (s.raiseR r).lm = s.lm ∧ (s.raiseR r).hi = s.hi
      ∧ (s.raiseR r).tw = s.tw ∧ (s.raiseR r).mg = s.mg ∧ (s.raiseR r).gl = s.gl ∧ (s.raiseR r).st = s.st ∧ (s.raiseR r).rk = s.rk
      ∧ (s.raiseR r).ln = s.ln ∧ (s.raiseR r).lastRead = s.lastRead ∧ (s.raiseR r).out = s.out ∧ (s.raiseR r).pending = s.pending :=
  have h := State.raiseR_fr s r (.refl s)
  ⟨h.fuse rfl, h.elapsed rfl, h.freeCtr rfl, h.cores rfl, h.mem rfl, h.th rfl, h.chans rfl, h.hp rfl, h.ep rfl, h.cp rfl, h.td rfl, h.bs rfl, h.lm rfl, h.hi rfl, h.tw rfl, h.mg rfl, h.gl rfl, h.st rfl, h.rk rfl, h.ln rfl, h.lastRead rfl, h.out rfl, h.pending rfl⟩

@[simp] theorem State.raise_keeps (s : State) (cls : Cls) (src : Nat) (inst : Nat) (code : Nat) (a0 : Nat) (a1 : Nat) (a2 : Nat) :
    (s.raise cls src inst code a0 a1 a2).fuse = s.fuse ∧ (s.raise cls src inst code a0 a1 a2).elapsed = s.elapsed
      ∧ (s.raise cls src inst code a0 a1 a2).freeCtr = s.freeCtr ∧ (s.raise cls src inst code a0 a1 a2).cores = s.cores
      ∧ (s.raise cls src inst code a0 a1 a2).mem = s.mem ∧ (s.raise cls src inst code a0 a1 a2).th = s.th
      ∧ (s.raise cls src inst code a0 a1 a2).chans = s.chans ∧ (s.raise cls src inst code a0 a1 a2).hp = s.hp
      ∧ (s.raise cls src inst code a0 a1 a2).ep = s.ep ∧ (s.raise cls src inst code a0 a1 a2).cp = s.cp
      ∧ (s.raise cls src inst code a0 a1 a2).td = s.td ∧ (s.raise cls src inst code a0 a1 a2).bs = s.bs
      ∧ (s.raise cls src inst code a0 a1 a2).lm = s.lm ∧ (s.raise cls src inst code a0 a1 a2).hi = s.hi
      ∧ (s.raise cls src inst code a0 a1 a2).tw = s.tw ∧ (s.raise cls src inst code a0 a1 a2).mg = s.mg
      ∧ (s.raise cls src inst code a0 a1 a2).gl = s.gl ∧ (s.raise cls src inst code a0 a1 a2).st = s.st
      ∧ (s.raise cls src inst code a0 a1 a2).rk = s.rk ∧ (s.raise cls src inst code a0 a1 a2).ln = s.ln
      ∧ (s.raise cls src inst code a0 a1 a2).lastRead = s.lastRead ∧ (s.raise cls src inst code a0 a1 a2).out = s.out
      ∧ (s.raise cls src inst code a0 a1 a2).pending = s.pending :=
  have h := State.raise_fr s cls src inst code a0 a1 a2 (.refl s)
  ⟨h.fuse rfl, h.elapsed rfl, h.freeCtr rfl, h.cores rfl, h.mem rfl, h.th rfl, h.chans rfl, h.hp rfl, h.ep rfl, h.cp rfl, h.td rfl, h.bs rfl, h.lm rfl, h.hi rfl, h.tw rfl, h.mg rfl, h.gl rfl, h.st rfl, h.rk rfl, h.ln rfl, h.lastRead rfl, h.out rfl, h.pending rfl⟩

@[simp] theorem State.raiseInj_keeps (s : State) (cls : Cls) (src : Nat) (inst : Nat) (code : Nat) (a0 : Nat) (a1 : Nat) (a2 : Nat) :
    (s.raiseInj cls src inst code a0 a1 a2).fuse = s.fuse ∧ (s.raiseInj cls src inst code a0 a1 a2).elapsed = s.elapsed
      ∧ (s.raiseInj cls src inst code a0 a1 a2).freeCtr = s.freeCtr ∧ (s.raiseInj cls src inst code a0 a1 a2).cores = s.cores
      ∧ (s.raiseInj cls src inst code a0 a1 a2).mem = s.mem ∧ (s.raiseInj cls src inst code a0 a1 a2).th = s.th
      ∧ (s.raiseInj cls src inst code a0 a1 a2).chans = s.chans ∧ (s.raiseInj cls src inst code a0 a1 a2).hp = s.hp
      ∧ (s.raiseInj cls src inst code a0 a1 a2).ep = s.ep ∧ (s.raiseInj cls src inst code a0 a1 a2).cp = s.cp
      ∧ (s.raiseInj cls src inst code a0 a1 a2).td = s.td ∧ (s.raiseInj cls src inst code a0 a1 a2).bs = s.bs
      ∧ (s.raiseInj cls src inst code a0 a1 a2).lm = s.lm ∧ (s.raiseInj cls src inst code a0 a1 a2).hi = s.hi
      ∧ (s.raiseInj cls src inst code a0 a1 a2).tw = s.tw ∧ (s.raiseInj cls src inst code a0 a1 a2).mg = s.mg
      ∧ (s.raiseInj cls src inst code a0 a1 a2).gl = s.gl ∧ (s.raiseInj cls src inst code a0 a1 a2).st = s.st
      ∧ (s.raiseInj cls src inst code a0 a1 a2).rk = s.rk ∧ (s.raiseInj cls src inst code a0 a1 a2).ln = s.ln
      ∧ (s.raiseInj cls src inst code a0 a1 a2).lastRead = s.lastRead ∧ (s.raiseInj cls src inst code a0 a1 a2).out = s.out
      ∧ (s.raiseInj cls src inst code a0 a1 a2).pending = s.pending :=
  have h := State.raiseInj_fr s cls src inst code a0 a1 a2 (.refl s)
  ⟨h.fuse rfl, h.elapsed rfl, h.freeCtr rfl, h.cores rfl, h.mem rfl, h.th rfl, h.chans rfl, h.hp rfl, h.ep rfl, h.cp rfl, h.td rfl, h.bs rfl, h.lm rfl, h.hi rfl, h.tw rfl, h.mg rfl, h.gl rfl, h.st rfl, h.rk rfl, h.ln rfl, h.lastRead rfl, h.out rfl, h.pending rfl⟩

@[simp] theorem State.event_keeps (s : State) (f : Fld) (cls : Cls) (inst : Nat) (a0 : Nat) (a1 : Nat) (a2 : Nat) :
    (s.event f cls inst a0 a1 a2).fuse = s.fuse ∧ (s.event f cls inst a0 a1 a2).elapsed = s.elapsed
      ∧ (s.event f cls inst a0 a1 a2).freeCtr = s.freeCtr ∧ (s.event f cls inst a0 a1 a2).cores = s.cores
      ∧ (s.event f cls inst a0 a1 a2).mem = s.mem ∧ (s.event f cls inst a0 a1 a2).th = s.th ∧ (s.event f cls inst a0 a1 a2).chans = s.chans
      ∧ (s.event f cls inst a0 a1 a2).hp = s.hp ∧ (s.event f cls inst a0 a1 a2).ep = s.ep ∧ (s.event f cls inst a0 a1 a2).cp = s.cp
      ∧ (s.event f cls inst a0 a1 a2).td = s.td ∧ (s.event f cls inst a0 a1 a2).bs = s.bs ∧ (s.event f cls inst a0 a1 a2).lm = s.lm
      ∧ (s.event f cls inst a0 a1 a2).hi = s.hi ∧ (s.event f cls inst a0 a1 a2).tw = s.tw ∧ (s.event f cls inst a0 a1 a2).mg = s.mg
      ∧ (s.event f cls inst a0 a1 a2).gl = s.gl ∧ (s.event f cls inst a0 a1 a2).st = s.st ∧ (s.event f cls inst a0 a1 a2).rk = s.rk
      ∧ (s.event f cls inst a0 a1 a2).ln = s.ln ∧ (s.event f cls inst a0 a1 a2).lastRead = s.lastRead
      ∧ (s.event f cls inst a0 a1 a2).out = s.out ∧ (s.event f cls inst a0 a1 a2).pending = s.pending :=
  have h := State.event_fr s f cls inst a0 a1 a2 (.refl s)
  ⟨h.fuse rfl, h.elapsed rfl, h.freeCtr rfl, h.cores rfl, h.mem rfl, h.th rfl, h.chans rfl, h.hp rfl, h.ep rfl, h.cp rfl, h.td rfl, h.bs rfl, h.lm rfl, h.hi rfl, h.tw rfl, h.mg rfl, h.gl rfl, h.st rfl, h.rk rfl, h.ln rfl, h.lastRead rfl, h.out rfl, h.pending rfl⟩

@[simp] theorem State.configRefused_keeps (s : State) (a : Nat) (lo : Nat) :
    (s.configRefused a lo).fuse = s.fuse ∧ (s.configRefused a lo).elapsed = s.elapsed ∧ (s.configRefused a lo).freeCtr = s.freeCtr
      ∧ (s.configRefused a lo).cores = s.cores ∧ (s.configRefused a lo).mem = s.mem ∧ (s.configRefused a lo).th = s.th
      ∧ (s.configRefused a lo).chans = s.chans ∧ (s.configRefused a lo).hp = s.hp ∧ (s.configRefused a lo).ep = s.ep
      ∧ (s.configRefused a lo).cp = s.cp ∧ (s.configRefused a lo).td = s.td ∧ (s.configRefused a lo).bs = s.bs
      ∧ (s.configRefused a lo).lm = s.lm ∧ (s.configRefused a lo).hi = s.hi ∧ (s.configRefused a lo).tw = s.tw
      ∧ (s.configRefused a lo).mg = s.mg ∧ (s.configRefused a lo).gl = s.gl ∧ (s.configRefused a lo).st = s.st
      ∧ (s.configRefused a lo).rk = s.rk ∧ (s.configRefused a lo).ln = s.ln ∧ (s.configRefused a lo).lastRead = s.lastRead
      ∧ (s.configRefused a lo).out = s.out ∧ (s.configRefused a lo).pending = s.pending :=
  have h := State.configRefused_fr s a lo (.refl s)
  ⟨h.fuse rfl, h.elapsed rfl, h.freeCtr rfl, h.cores rfl, h.mem rfl, h.th rfl, h.chans rfl, h.hp rfl, h.ep rfl, h.cp rfl, h.td rfl, h.bs rfl, h.lm rfl, h.hi rfl, h.tw rfl, h.mg rfl, h.gl rfl, h.st rfl, h.rk rfl, h.ln rfl, h.lastRead rfl, h.out rfl, h.pending rfl⟩

@[simp] theorem State.reservedEncoding_keeps (s : State) (a : Nat) (lo : Nat) :
    (s.reservedEncoding a lo).fuse = s.fuse ∧ (s.reservedEncoding a lo).elapsed = s.elapsed ∧ (s.reservedEncoding a lo).freeCtr = s.freeCtr
      ∧ (s.reservedEncoding a lo).cores = s.cores ∧ (s.reservedEncoding a lo).mem = s.mem ∧ (s.reservedEncoding a lo).th = s.th
      ∧ (s.reservedEncoding a lo).chans = s.chans ∧ (s.reservedEncoding a lo).hp = s.hp ∧ (s.reservedEncoding a lo).ep = s.ep
      ∧ (s.reservedEncoding a lo).cp = s.cp ∧ (s.reservedEncoding a lo).td = s.td ∧ (s.reservedEncoding a lo).bs = s.bs
      ∧ (s.reservedEncoding a lo).lm = s.lm ∧ (s.reservedEncoding a lo).hi = s.hi ∧ (s.reservedEncoding a lo).tw = s.tw
      ∧ (s.reservedEncoding a lo).mg = s.mg ∧ (s.reservedEncoding a lo).gl = s.gl ∧ (s.reservedEncoding a lo).st = s.st
      ∧ (s.reservedEncoding a lo).rk = s.rk ∧ (s.reservedEncoding a lo).ln = s.ln ∧ (s.reservedEncoding a lo).lastRead = s.lastRead
      ∧ (s.reservedEncoding a lo).out = s.out ∧ (s.reservedEncoding a lo).pending = s.pending :=
  have h := State.reservedEncoding_fr s a lo (.refl s)
  ⟨h.fuse rfl, h.elapsed rfl, h.freeCtr rfl, h.cores rfl, h.mem rfl, h.th rfl, h.chans rfl, h.hp rfl, h.ep rfl, h.cp rfl, h.td rfl, h.bs rfl, h.lm rfl, h.hi rfl, h.tw rfl, h.mg rfl, h.gl rfl, h.st rfl, h.rk rfl, h.ln rfl, h.lastRead rfl, h.out rfl, h.pending rfl⟩

@[simp] theorem State.setCore_keeps (s : State) (k : Nat) (c : Core) :
    (s.setCore k c).fuse = s.fuse ∧ (s.setCore k c).elapsed = s.elapsed ∧ (s.setCore k c).freeCtr = s.freeCtr ∧ (s.setCore k c).regs = s.regs
      ∧ (s.setCore k c).mem = s.mem ∧ (s.setCore k c).th = s.th ∧ (s.setCore k c).chans = s.chans ∧ (s.setCore k c).hp = s.hp
      ∧ (s.setCore k c).ep = s.ep ∧ (s.setCore k c).cp = s.cp ∧ (s.setCore k c).td = s.td ∧ (s.setCore k c).bs = s.bs
      ∧ (s.setCore k c).lm = s.lm ∧ (s.setCore k c).hi = s.hi ∧ (s.setCore k c).rl = s.rl ∧ (s.setCore k c).tw = s.tw
      ∧ (s.setCore k c).mg = s.mg ∧ (s.setCore k c).gl = s.gl ∧ (s.setCore k c).st = s.st ∧ (s.setCore k c).rk = s.rk
      ∧ (s.setCore k c).ln = s.ln ∧ (s.setCore k c).lastRead = s.lastRead ∧ (s.setCore k c).out = s.out ∧ (s.setCore k c).pending = s.pending :=
  have h := State.setCore_fr s k c (.refl s)
  ⟨h.fuse rfl, h.elapsed rfl, h.freeCtr rfl, h.regs rfl, h.mem rfl, h.th rfl, h.chans rfl, h.hp rfl, h.ep rfl, h.cp rfl, h.td rfl, h.bs rfl, h.lm rfl, h.hi rfl, h.rl rfl, h.tw rfl, h.mg rfl, h.gl rfl, h.st rfl, h.rk rfl, h.ln rfl, h.lastRead rfl, h.out rfl, h.pending rfl⟩

@[simp] theorem State.emit_keeps (s : State) (o : Out) :
    (s.emit o).fuse = s.fuse ∧ (s.emit o).elapsed = s.elapsed ∧ (s.emit o).freeCtr = s.freeCtr ∧ (s.emit o).regs = s.regs
      ∧ (s.emit o).cores = s.cores ∧ (s.emit o).mem = s.mem ∧ (s.emit o).th = s.th ∧ (s.emit o).chans = s.chans ∧ (s.emit o).hp = s.hp
      ∧ (s.emit o).ep = s.ep ∧ (s.emit o).cp = s.cp ∧ (s.emit o).td = s.td ∧ (s.emit o).bs = s.bs ∧ (s.emit o).lm = s.lm
      ∧ (s.emit o).hi = s.hi ∧ (s.emit o).rl = s.rl ∧ (s.emit o).tw = s.tw ∧ (s.emit o).mg = s.mg ∧ (s.emit o).gl = s.gl
      ∧ (s.emit o).st = s.st ∧ (s.emit o).rk = s.rk ∧ (s.emit o).ln = s.ln ∧ (s.emit o).lastRead = s.lastRead ∧ (s.emit o).pending = s.pending :=
  have h := State.emit_fr s o (.refl s)
  ⟨h.fuse rfl, h.elapsed rfl, h.freeCtr rfl, h.regs rfl, h.cores rfl, h.mem rfl, h.th rfl, h.chans rfl, h.hp rfl, h.ep rfl, h.cp rfl, h.td rfl, h.bs rfl, h.lm rfl, h.hi rfl, h.rl rfl, h.tw rfl, h.mg rfl, h.gl rfl, h.st rfl, h.rk rfl, h.ln rfl, h.lastRead rfl, h.pending rfl⟩

@[simp] theorem State.complete_keeps (s : State) (o : Origin) (status : Nat) (detail : Nat) (vals : List Nat) :
    (s.complete o status detail vals).fuse = s.fuse ∧ (s.complete o status detail vals).elapsed = s.elapsed
      ∧ (s.complete o status detail vals).freeCtr = s.freeCtr ∧ (s.complete o status detail vals).cores = s.cores
      ∧ (s.complete o status detail vals).mem = s.mem ∧ (s.complete o status detail vals).th = s.th
      ∧ (s.complete o status detail vals).chans = s.chans ∧ (s.complete o status detail vals).hp = s.hp
      ∧ (s.complete o status detail vals).ep = s.ep ∧ (s.complete o status detail vals).cp = s.cp
      ∧ (s.complete o status detail vals).td = s.td ∧ (s.complete o status detail vals).bs = s.bs
      ∧ (s.complete o status detail vals).lm = s.lm ∧ (s.complete o status detail vals).tw = s.tw
      ∧ (s.complete o status detail vals).mg = s.mg ∧ (s.complete o status detail vals).gl = s.gl
      ∧ (s.complete o status detail vals).st = s.st ∧ (s.complete o status detail vals).rk = s.rk
      ∧ (s.complete o status detail vals).ln = s.ln ∧ (s.complete o status detail vals).lastRead = s.lastRead
      ∧ (s.complete o status detail vals).pending = s.pending :=
  have h := State.complete_fr s o status detail vals (.refl s)
  ⟨h.fuse rfl, h.elapsed rfl, h.freeCtr rfl, h.cores rfl, h.mem rfl, h.th rfl, h.chans rfl, h.hp rfl, h.ep rfl, h.cp rfl, h.td rfl, h.bs rfl, h.lm rfl, h.tw rfl, h.mg rfl, h.gl rfl, h.st rfl, h.rk rfl, h.ln rfl, h.lastRead rfl, h.pending rfl⟩

@[simp] theorem State.completeOpt_keeps (s : State) (o : Option Origin) (status : Nat) (detail : Nat) (vals : List Nat) :
    (s.completeOpt o status detail vals).fuse = s.fuse ∧ (s.completeOpt o status detail vals).elapsed = s.elapsed
      ∧ (s.completeOpt o status detail vals).freeCtr = s.freeCtr ∧ (s.completeOpt o status detail vals).cores = s.cores
      ∧ (s.completeOpt o status detail vals).mem = s.mem ∧ (s.completeOpt o status detail vals).th = s.th
      ∧ (s.completeOpt o status detail vals).chans = s.chans ∧ (s.completeOpt o status detail vals).hp = s.hp
      ∧ (s.completeOpt o status detail vals).ep = s.ep ∧ (s.completeOpt o status detail vals).cp = s.cp
      ∧ (s.completeOpt o status detail vals).td = s.td ∧ (s.completeOpt o status detail vals).bs = s.bs
      ∧ (s.completeOpt o status detail vals).lm = s.lm ∧ (s.completeOpt o status detail vals).tw = s.tw
      ∧ (s.completeOpt o status detail vals).mg = s.mg ∧ (s.completeOpt o status detail vals).gl = s.gl
      ∧ (s.completeOpt o status detail vals).st = s.st ∧ (s.completeOpt o status detail vals).rk = s.rk
      ∧ (s.completeOpt o status detail vals).ln = s.ln ∧ (s.completeOpt o status detail vals).lastRead = s.lastRead
      ∧ (s.completeOpt o status detail vals).pending = s.pending :=
  have h := State.completeOpt_fr s o status detail vals (.refl s)
  ⟨h.fuse rfl, h.elapsed rfl, h.freeCtr rfl, h.cores rfl, h.mem rfl, h.th rfl, h.chans rfl, h.hp rfl, h.ep rfl, h.cp rfl, h.td rfl, h.bs rfl, h.lm rfl, h.tw rfl, h.mg rfl, h.gl rfl, h.st rfl, h.rk rfl, h.ln rfl, h.lastRead rfl, h.pending rfl⟩

@[simp] theorem State.endJob_keeps (s : State) (h_ : Nat) (status : Nat) (detail : Nat) (vals : List Nat) :
    (s.endJob h_ status detail vals).fuse = s.fuse ∧ (s.endJob h_ status detail vals).elapsed = s.elapsed
      ∧ (s.endJob h_ status detail vals).freeCtr = s.freeCtr ∧ (s.endJob h_ status detail vals).cores = s.cores
      ∧ (s.endJob h_ status detail vals).mem = s.mem ∧ (s.endJob h_ status detail vals).th = s.th
      ∧ (s.endJob h_ status detail vals).chans = s.chans ∧ (s.endJob h_ status detail vals).hp = s.hp
      ∧ (s.endJob h_ status detail vals).ep = s.ep ∧ (s.endJob h_ status detail vals).cp = s.cp ∧ (s.endJob h_ status detail vals).td = s.td
      ∧ (s.endJob h_ status detail vals).bs = s.bs ∧ (s.endJob h_ status detail vals).lm = s.lm ∧ (s.endJob h_ status detail vals).tw = s.tw
      ∧ (s.endJob h_ status detail vals).mg = s.mg ∧ (s.endJob h_ status detail vals).gl = s.gl ∧ (s.endJob h_ status detail vals).st = s.st
      ∧ (s.endJob h_ status detail vals).rk = s.rk ∧ (s.endJob h_ status detail vals).ln = s.ln
      ∧ (s.endJob h_ status detail vals).lastRead = s.lastRead ∧ (s.endJob h_ status detail vals).pending = s.pending :=
  have h := State.endJob_fr s h_ status detail vals (.refl s)
  ⟨h.fuse rfl, h.elapsed rfl, h.freeCtr rfl, h.cores rfl, h.mem rfl, h.th rfl, h.chans rfl, h.hp rfl, h.ep rfl, h.cp rfl, h.td rfl, h.bs rfl, h.lm rfl, h.tw rfl, h.mg rfl, h.gl rfl, h.st rfl, h.rk rfl, h.ln rfl, h.lastRead rfl, h.pending rfl⟩

@[simp] theorem State.setChan_keeps (s : State) (n : Nat) (c : Chan) :
    (s.setChan n c).fuse = s.fuse ∧ (s.setChan n c).elapsed = s.elapsed ∧ (s.setChan n c).freeCtr = s.freeCtr ∧ (s.setChan n c).regs = s.regs
      ∧ (s.setChan n c).cores = s.cores ∧ (s.setChan n c).mem = s.mem ∧ (s.setChan n c).th = s.th ∧ (s.setChan n c).hp = s.hp
      ∧ (s.setChan n c).ep = s.ep ∧ (s.setChan n c).cp = s.cp ∧ (s.setChan n c).td = s.td ∧ (s.setChan n c).bs = s.bs
      ∧ (s.setChan n c).lm = s.lm ∧ (s.setChan n c).hi = s.hi ∧ (s.setChan n c).rl = s.rl ∧ (s.setChan n c).tw = s.tw
      ∧ (s.setChan n c).mg = s.mg ∧ (s.setChan n c).gl = s.gl ∧ (s.setChan n c).st = s.st ∧ (s.setChan n c).rk = s.rk
      ∧ (s.setChan n c).ln = s.ln ∧ (s.setChan n c).lastRead = s.lastRead ∧ (s.setChan n c).out = s.out ∧ (s.setChan n c).pending = s.pending :=
  have h := State.setChan_fr s n c (.refl s)
  ⟨h.fuse rfl, h.elapsed rfl, h.freeCtr rfl, h.regs rfl, h.cores rfl, h.mem rfl, h.th rfl, h.hp rfl, h.ep rfl, h.cp rfl, h.td rfl, h.bs rfl, h.lm rfl, h.hi rfl, h.rl rfl, h.tw rfl, h.mg rfl, h.gl rfl, h.st rfl, h.rk rfl, h.ln rfl, h.lastRead rfl, h.out rfl, h.pending rfl⟩

@[simp] theorem State.putChan_keeps (s : State) (n : Nat) (c : Chan) :
    (s.putChan n c).fuse = s.fuse ∧ (s.putChan n c).elapsed = s.elapsed ∧ (s.putChan n c).freeCtr = s.freeCtr ∧ (s.putChan n c).regs = s.regs
      ∧ (s.putChan n c).cores = s.cores ∧ (s.putChan n c).mem = s.mem ∧ (s.putChan n c).th = s.th ∧ (s.putChan n c).ep = s.ep
      ∧ (s.putChan n c).cp = s.cp ∧ (s.putChan n c).td = s.td ∧ (s.putChan n c).bs = s.bs ∧ (s.putChan n c).lm = s.lm
      ∧ (s.putChan n c).hi = s.hi ∧ (s.putChan n c).rl = s.rl ∧ (s.putChan n c).tw = s.tw ∧ (s.putChan n c).mg = s.mg
      ∧ (s.putChan n c).gl = s.gl ∧ (s.putChan n c).st = s.st ∧ (s.putChan n c).rk = s.rk ∧ (s.putChan n c).ln = s.ln
      ∧ (s.putChan n c).lastRead = s.lastRead ∧ (s.putChan n c).out = s.out ∧ (s.putChan n c).pending = s.pending :=
  have h := State.putChan_fr s n c (.refl s)
  ⟨h.fuse rfl, h.elapsed rfl, h.freeCtr rfl, h.regs rfl, h.cores rfl, h.mem rfl, h.th rfl, h.ep rfl, h.cp rfl, h.td rfl, h.bs rfl, h.lm rfl, h.hi rfl, h.rl rfl, h.tw rfl, h.mg rfl, h.gl rfl, h.st rfl, h.rk rfl, h.ln rfl, h.lastRead rfl, h.out rfl, h.pending rfl⟩

@[simp] theorem State.setJob_keeps (s : State) (j : Job) :
    (s.setJob j).fuse = s.fuse ∧ (s.setJob j).elapsed = s.elapsed ∧ (s.setJob j).freeCtr = s.freeCtr ∧ (s.setJob j).regs = s.regs
      ∧ (s.setJob j).cores = s.cores ∧ (s.setJob j).mem = s.mem ∧ (s.setJob j).th = s.th ∧ (s.setJob j).chans = s.chans
      ∧ (s.setJob j).hp = s.hp ∧ (s.setJob j).ep = s.ep ∧ (s.setJob j).cp = s.cp ∧ (s.setJob j).td = s.td ∧ (s.setJob j).bs = s.bs
      ∧ (s.setJob j).lm = s.lm ∧ (s.setJob j).rl = s.rl ∧ (s.setJob j).tw = s.tw ∧ (s.setJob j).mg = s.mg ∧ (s.setJob j).gl = s.gl
      ∧ (s.setJob j).st = s.st ∧ (s.setJob j).rk = s.rk ∧ (s.setJob j).ln = s.ln ∧ (s.setJob j).lastRead = s.lastRead
      ∧ (s.setJob j).out = s.out ∧ (s.setJob j).pending = s.pending :=
  have h := State.setJob_fr s j (.refl s)
  ⟨h.fuse rfl, h.elapsed rfl, h.freeCtr rfl, h.regs rfl, h.cores rfl, h.mem rfl, h.th rfl, h.chans rfl, h.hp rfl, h.ep rfl, h.cp rfl, h.td rfl, h.bs rfl, h.lm rfl, h.rl rfl, h.tw rfl, h.mg rfl, h.gl rfl, h.st rfl, h.rk rfl, h.ln rfl, h.lastRead rfl, h.out rfl, h.pending rfl⟩

@[simp] theorem State.addJob_keeps (s : State) (j : Job) :
    (s.addJob j).fuse = s.fuse ∧ (s.addJob j).elapsed = s.elapsed ∧ (s.addJob j).freeCtr = s.freeCtr ∧ (s.addJob j).cores = s.cores
      ∧ (s.addJob j).mem = s.mem ∧ (s.addJob j).th = s.th ∧ (s.addJob j).chans = s.chans ∧ (s.addJob j).hp = s.hp ∧ (s.addJob j).ep = s.ep
      ∧ (s.addJob j).cp = s.cp ∧ (s.addJob j).td = s.td ∧ (s.addJob j).bs = s.bs ∧ (s.addJob j).lm = s.lm ∧ (s.addJob j).rl = s.rl
      ∧ (s.addJob j).tw = s.tw ∧ (s.addJob j).mg = s.mg ∧ (s.addJob j).gl = s.gl ∧ (s.addJob j).st = s.st ∧ (s.addJob j).rk = s.rk
      ∧ (s.addJob j).ln = s.ln ∧ (s.addJob j).lastRead = s.lastRead ∧ (s.addJob j).out = s.out ∧ (s.addJob j).pending = s.pending :=
  have h := State.addJob_fr s j (.refl s)
  ⟨h.fuse rfl, h.elapsed rfl, h.freeCtr rfl, h.cores rfl, h.mem rfl, h.th rfl, h.chans rfl, h.hp rfl, h.ep rfl, h.cp rfl, h.td rfl, h.bs rfl, h.lm rfl, h.rl rfl, h.tw rfl, h.mg rfl, h.gl rfl, h.st rfl, h.rk rfl, h.ln rfl, h.lastRead rfl, h.out rfl, h.pending rfl⟩

@[simp] theorem State.jobProgress_keeps (s : State) (h_ : Nat) (always : Bool) :
    (s.jobProgress h_ always).fuse = s.fuse ∧ (s.jobProgress h_ always).elapsed = s.elapsed ∧ (s.jobProgress h_ always).freeCtr = s.freeCtr
      ∧ (s.jobProgress h_ always).cores = s.cores ∧ (s.jobProgress h_ always).mem = s.mem ∧ (s.jobProgress h_ always).th = s.th
      ∧ (s.jobProgress h_ always).chans = s.chans ∧ (s.jobProgress h_ always).hp = s.hp ∧ (s.jobProgress h_ always).ep = s.ep
      ∧ (s.jobProgress h_ always).cp = s.cp ∧ (s.jobProgress h_ always).td = s.td ∧ (s.jobProgress h_ always).bs = s.bs
      ∧ (s.jobProgress h_ always).lm = s.lm ∧ (s.jobProgress h_ always).tw = s.tw ∧ (s.jobProgress h_ always).mg = s.mg
      ∧ (s.jobProgress h_ always).gl = s.gl ∧ (s.jobProgress h_ always).st = s.st ∧ (s.jobProgress h_ always).rk = s.rk
      ∧ (s.jobProgress h_ always).ln = s.ln ∧ (s.jobProgress h_ always).lastRead = s.lastRead ∧ (s.jobProgress h_ always).out = s.out
      ∧ (s.jobProgress h_ always).pending = s.pending :=
  have h := State.jobProgress_fr s h_ always (.refl s)
  ⟨h.fuse rfl, h.elapsed rfl, h.freeCtr rfl, h.cores rfl, h.mem rfl, h.th rfl, h.chans rfl, h.hp rfl, h.ep rfl, h.cp rfl, h.td rfl, h.bs rfl, h.lm rfl, h.tw rfl, h.mg rfl, h.gl rfl, h.st rfl, h.rk rfl, h.ln rfl, h.lastRead rfl, h.out rfl, h.pending rfl⟩

@[simp] theorem State.suspended_keeps (s : State) (h_ : Nat) :
    (s.suspended h_).fuse = s.fuse ∧ (s.suspended h_).elapsed = s.elapsed ∧ (s.suspended h_).freeCtr = s.freeCtr
      ∧ (s.suspended h_).cores = s.cores ∧ (s.suspended h_).mem = s.mem ∧ (s.suspended h_).th = s.th ∧ (s.suspended h_).chans = s.chans
      ∧ (s.suspended h_).hp = s.hp ∧ (s.suspended h_).ep = s.ep ∧ (s.suspended h_).cp = s.cp ∧ (s.suspended h_).td = s.td
      ∧ (s.suspended h_).bs = s.bs ∧ (s.suspended h_).lm = s.lm ∧ (s.suspended h_).tw = s.tw ∧ (s.suspended h_).mg = s.mg
      ∧ (s.suspended h_).gl = s.gl ∧ (s.suspended h_).st = s.st ∧ (s.suspended h_).rk = s.rk ∧ (s.suspended h_).ln = s.ln
      ∧ (s.suspended h_).lastRead = s.lastRead ∧ (s.suspended h_).pending = s.pending :=
  have h := State.suspended_fr s h_ (.refl s)
  ⟨h.fuse rfl, h.elapsed rfl, h.freeCtr rfl, h.cores rfl, h.mem rfl, h.th rfl, h.chans rfl, h.hp rfl, h.ep rfl, h.cp rfl, h.td rfl, h.bs rfl, h.lm rfl, h.tw rfl, h.mg rfl, h.gl rfl, h.st rfl, h.rk rfl, h.ln rfl, h.lastRead rfl, h.pending rfl⟩

@[simp] theorem State.ctxIncS_keeps (s : State) (n : Nat) (c : Chan) (i : Nat) (lo : Nat) (w : Nat) :
    (s.ctxIncS n c i lo w).fuse = s.fuse ∧ (s.ctxIncS n c i lo w).elapsed = s.elapsed ∧ (s.ctxIncS n c i lo w).freeCtr = s.freeCtr
      ∧ (s.ctxIncS n c i lo w).cores = s.cores ∧ (s.ctxIncS n c i lo w).mem = s.mem ∧ (s.ctxIncS n c i lo w).th = s.th
      ∧ (s.ctxIncS n c i lo w).chans = s.chans ∧ (s.ctxIncS n c i lo w).ep = s.ep ∧ (s.ctxIncS n c i lo w).cp = s.cp
      ∧ (s.ctxIncS n c i lo w).td = s.td ∧ (s.ctxIncS n c i lo w).bs = s.bs ∧ (s.ctxIncS n c i lo w).lm = s.lm
      ∧ (s.ctxIncS n c i lo w).hi = s.hi ∧ (s.ctxIncS n c i lo w).tw = s.tw ∧ (s.ctxIncS n c i lo w).mg = s.mg
      ∧ (s.ctxIncS n c i lo w).gl = s.gl ∧ (s.ctxIncS n c i lo w).st = s.st ∧ (s.ctxIncS n c i lo w).rk = s.rk
      ∧ (s.ctxIncS n c i lo w).ln = s.ln ∧ (s.ctxIncS n c i lo w).lastRead = s.lastRead ∧ (s.ctxIncS n c i lo w).out = s.out
      ∧ (s.ctxIncS n c i lo w).pending = s.pending :=
  have h := State.ctxIncS_fr s n c i lo w (.refl s)
  ⟨h.fuse rfl, h.elapsed rfl, h.freeCtr rfl, h.cores rfl, h.mem rfl, h.th rfl, h.chans rfl, h.ep rfl, h.cp rfl, h.td rfl, h.bs rfl, h.lm rfl, h.hi rfl, h.tw rfl, h.mg rfl, h.gl rfl, h.st rfl, h.rk rfl, h.ln rfl, h.lastRead rfl, h.out rfl, h.pending rfl⟩

@[simp] theorem State.memErrs_keeps (s : State) (l : List MemErr) :
    (s.memErrs l).fuse = s.fuse ∧ (s.memErrs l).elapsed = s.elapsed ∧ (s.memErrs l).freeCtr = s.freeCtr ∧ (s.memErrs l).cores = s.cores
      ∧ (s.memErrs l).mem = s.mem ∧ (s.memErrs l).th = s.th ∧ (s.memErrs l).chans = s.chans ∧ (s.memErrs l).ep = s.ep
      ∧ (s.memErrs l).cp = s.cp ∧ (s.memErrs l).td = s.td ∧ (s.memErrs l).bs = s.bs ∧ (s.memErrs l).lm = s.lm ∧ (s.memErrs l).hi = s.hi
      ∧ (s.memErrs l).tw = s.tw ∧ (s.memErrs l).mg = s.mg ∧ (s.memErrs l).gl = s.gl ∧ (s.memErrs l).st = s.st ∧ (s.memErrs l).rk = s.rk
      ∧ (s.memErrs l).ln = s.ln ∧ (s.memErrs l).lastRead = s.lastRead ∧ (s.memErrs l).out = s.out ∧ (s.memErrs l).pending = s.pending :=
  have h := State.memErrs_fr s l (.refl s)
  ⟨h.fuse rfl, h.elapsed rfl, h.freeCtr rfl, h.cores rfl, h.mem rfl, h.th rfl, h.chans rfl, h.ep rfl, h.cp rfl, h.td rfl, h.bs rfl, h.lm rfl, h.hi rfl, h.tw rfl, h.mg rfl, h.gl rfl, h.st rfl, h.rk rfl, h.ln rfl, h.lastRead rfl, h.out rfl, h.pending rfl⟩

@[simp] theorem State.poisonSeen_keeps (s : State) :
    (s.poisonSeen).fuse = s.fuse ∧ (s.poisonSeen).elapsed = s.elapsed ∧ (s.poisonSeen).freeCtr = s.freeCtr ∧ (s.poisonSeen).cores = s.cores
      ∧ (s.poisonSeen).mem = s.mem ∧ (s.poisonSeen).th = s.th ∧ (s.poisonSeen).chans = s.chans ∧ (s.poisonSeen).hp = s.hp
      ∧ (s.poisonSeen).ep = s.ep ∧ (s.poisonSeen).cp = s.cp ∧ (s.poisonSeen).td = s.td ∧ (s.poisonSeen).bs = s.bs ∧ (s.poisonSeen).lm = s.lm
      ∧ (s.poisonSeen).hi = s.hi ∧ (s.poisonSeen).rl = s.rl ∧ (s.poisonSeen).tw = s.tw ∧ (s.poisonSeen).mg = s.mg ∧ (s.poisonSeen).gl = s.gl
      ∧ (s.poisonSeen).st = s.st ∧ (s.poisonSeen).rk = s.rk ∧ (s.poisonSeen).ln = s.ln ∧ (s.poisonSeen).lastRead = s.lastRead
      ∧ (s.poisonSeen).out = s.out ∧ (s.poisonSeen).pending = s.pending :=
  have h := State.poisonSeen_fr s (.refl s)
  ⟨h.fuse rfl, h.elapsed rfl, h.freeCtr rfl, h.cores rfl, h.mem rfl, h.th rfl, h.chans rfl, h.hp rfl, h.ep rfl, h.cp rfl, h.td rfl, h.bs rfl, h.lm rfl, h.hi rfl, h.rl rfl, h.tw rfl, h.mg rfl, h.gl rfl, h.st rfl, h.rk rfl, h.ln rfl, h.lastRead rfl, h.out rfl, h.pending rfl⟩

@[simp] theorem State.setBytes_keeps (s : State) (a : Nat) (l : List Byte) :
    (s.setBytes a l).fuse = s.fuse ∧ (s.setBytes a l).elapsed = s.elapsed ∧ (s.setBytes a l).freeCtr = s.freeCtr
      ∧ (s.setBytes a l).regs = s.regs ∧ (s.setBytes a l).cores = s.cores ∧ (s.setBytes a l).mem = s.mem ∧ (s.setBytes a l).th = s.th
      ∧ (s.setBytes a l).chans = s.chans ∧ (s.setBytes a l).ep = s.ep ∧ (s.setBytes a l).cp = s.cp ∧ (s.setBytes a l).td = s.td
      ∧ (s.setBytes a l).bs = s.bs ∧ (s.setBytes a l).lm = s.lm ∧ (s.setBytes a l).hi = s.hi ∧ (s.setBytes a l).rl = s.rl
      ∧ (s.setBytes a l).tw = s.tw ∧ (s.setBytes a l).mg = s.mg ∧ (s.setBytes a l).gl = s.gl ∧ (s.setBytes a l).st = s.st
      ∧ (s.setBytes a l).rk = s.rk ∧ (s.setBytes a l).ln = s.ln ∧ (s.setBytes a l).lastRead = s.lastRead ∧ (s.setBytes a l).out = s.out
      ∧ (s.setBytes a l).pending = s.pending :=
  have h := State.setBytes_fr s a l (.refl s)
  ⟨h.fuse rfl, h.elapsed rfl, h.freeCtr rfl, h.regs rfl, h.cores rfl, h.mem rfl, h.th rfl, h.chans rfl, h.ep rfl, h.cp rfl, h.td rfl, h.bs rfl, h.lm rfl, h.hi rfl, h.rl rfl, h.tw rfl, h.mg rfl, h.gl rfl, h.st rfl, h.rk rfl, h.ln rfl, h.lastRead rfl, h.out rfl, h.pending rfl⟩

@[simp] theorem State.copyPhys_keeps (s : State) (src : Nat) (dst : Nat) (n : Nat) :
    (s.copyPhys src dst n).fuse = s.fuse ∧ (s.copyPhys src dst n).elapsed = s.elapsed ∧ (s.copyPhys src dst n).freeCtr = s.freeCtr
      ∧ (s.copyPhys src dst n).regs = s.regs ∧ (s.copyPhys src dst n).cores = s.cores ∧ (s.copyPhys src dst n).mem = s.mem
      ∧ (s.copyPhys src dst n).th = s.th ∧ (s.copyPhys src dst n).chans = s.chans ∧ (s.copyPhys src dst n).ep = s.ep
      ∧ (s.copyPhys src dst n).cp = s.cp ∧ (s.copyPhys src dst n).td = s.td ∧ (s.copyPhys src dst n).bs = s.bs
      ∧ (s.copyPhys src dst n).lm = s.lm ∧ (s.copyPhys src dst n).hi = s.hi ∧ (s.copyPhys src dst n).rl = s.rl
      ∧ (s.copyPhys src dst n).tw = s.tw ∧ (s.copyPhys src dst n).mg = s.mg ∧ (s.copyPhys src dst n).gl = s.gl
      ∧ (s.copyPhys src dst n).st = s.st ∧ (s.copyPhys src dst n).rk = s.rk ∧ (s.copyPhys src dst n).ln = s.ln
      ∧ (s.copyPhys src dst n).lastRead = s.lastRead ∧ (s.copyPhys src dst n).out = s.out ∧ (s.copyPhys src dst n).pending = s.pending :=
  have h := State.copyPhys_fr s src dst n (.refl s)
  ⟨h.fuse rfl, h.elapsed rfl, h.freeCtr rfl, h.regs rfl, h.cores rfl, h.mem rfl, h.th rfl, h.chans rfl, h.ep rfl, h.cp rfl, h.td rfl, h.bs rfl, h.lm rfl, h.hi rfl, h.rl rfl, h.tw rfl, h.mg rfl, h.gl rfl, h.st rfl, h.rk rfl, h.ln rfl, h.lastRead rfl, h.out rfl, h.pending rfl⟩

@[simp] theorem State.sourceTokens_keeps (s : State) (n : Nat) (src : Nat) (frame : Nat) :
    (s.sourceTokens n src frame).fuse = s.fuse ∧ (s.sourceTokens n src frame).elapsed = s.elapsed
      ∧ (s.sourceTokens n src frame).freeCtr = s.freeCtr ∧ (s.sourceTokens n src frame).cores = s.cores
      ∧ (s.sourceTokens n src frame).mem = s.mem ∧ (s.sourceTokens n src frame).ep = s.ep ∧ (s.sourceTokens n src frame).cp = s.cp
      ∧ (s.sourceTokens n src frame).td = s.td ∧ (s.sourceTokens n src frame).bs = s.bs ∧ (s.sourceTokens n src frame).lm = s.lm
      ∧ (s.sourceTokens n src frame).hi = s.hi ∧ (s.sourceTokens n src frame).tw = s.tw ∧ (s.sourceTokens n src frame).mg = s.mg
      ∧ (s.sourceTokens n src frame).gl = s.gl ∧ (s.sourceTokens n src frame).st = s.st ∧ (s.sourceTokens n src frame).rk = s.rk
      ∧ (s.sourceTokens n src frame).ln = s.ln ∧ (s.sourceTokens n src frame).lastRead = s.lastRead ∧ (s.sourceTokens n src frame).out = s.out
      ∧ (s.sourceTokens n src frame).pending = s.pending :=
  have h := State.sourceTokens_fr s n src frame (.refl s)
  ⟨h.fuse rfl, h.elapsed rfl, h.freeCtr rfl, h.cores rfl, h.mem rfl, h.ep rfl, h.cp rfl, h.td rfl, h.bs rfl, h.lm rfl, h.hi rfl, h.tw rfl, h.mg rfl, h.gl rfl, h.st rfl, h.rk rfl, h.ln rfl, h.lastRead rfl, h.out rfl, h.pending rfl⟩

@[simp] theorem State.sourceToken_keeps (s : State) (n : Nat) (e : Nat) (frame : Nat) :
    (s.sourceToken n e frame).fuse = s.fuse ∧ (s.sourceToken n e frame).elapsed = s.elapsed ∧ (s.sourceToken n e frame).freeCtr = s.freeCtr
      ∧ (s.sourceToken n e frame).cores = s.cores ∧ (s.sourceToken n e frame).mem = s.mem ∧ (s.sourceToken n e frame).ep = s.ep
      ∧ (s.sourceToken n e frame).cp = s.cp ∧ (s.sourceToken n e frame).td = s.td ∧ (s.sourceToken n e frame).bs = s.bs
      ∧ (s.sourceToken n e frame).lm = s.lm ∧ (s.sourceToken n e frame).hi = s.hi ∧ (s.sourceToken n e frame).tw = s.tw
      ∧ (s.sourceToken n e frame).mg = s.mg ∧ (s.sourceToken n e frame).gl = s.gl ∧ (s.sourceToken n e frame).st = s.st
      ∧ (s.sourceToken n e frame).rk = s.rk ∧ (s.sourceToken n e frame).ln = s.ln ∧ (s.sourceToken n e frame).lastRead = s.lastRead
      ∧ (s.sourceToken n e frame).out = s.out ∧ (s.sourceToken n e frame).pending = s.pending :=
  have h := State.sourceToken_fr s n e frame (.refl s)
  ⟨h.fuse rfl, h.elapsed rfl, h.freeCtr rfl, h.cores rfl, h.mem rfl, h.ep rfl, h.cp rfl, h.td rfl, h.bs rfl, h.lm rfl, h.hi rfl, h.tw rfl, h.mg rfl, h.gl rfl, h.st rfl, h.rk rfl, h.ln rfl, h.lastRead rfl, h.out rfl, h.pending rfl⟩

@[simp] theorem State.mirror_keeps (s : State) (r : MirrorRec) :
    (s.mirror r).fuse = s.fuse ∧ (s.mirror r).elapsed = s.elapsed ∧ (s.mirror r).freeCtr = s.freeCtr ∧ (s.mirror r).regs = s.regs
      ∧ (s.mirror r).cores = s.cores ∧ (s.mirror r).mem = s.mem ∧ (s.mirror r).th = s.th ∧ (s.mirror r).chans = s.chans
      ∧ (s.mirror r).hp = s.hp ∧ (s.mirror r).ep = s.ep ∧ (s.mirror r).cp = s.cp ∧ (s.mirror r).td = s.td ∧ (s.mirror r).bs = s.bs
      ∧ (s.mirror r).lm = s.lm ∧ (s.mirror r).hi = s.hi ∧ (s.mirror r).rl = s.rl ∧ (s.mirror r).mg = s.mg ∧ (s.mirror r).gl = s.gl
      ∧ (s.mirror r).st = s.st ∧ (s.mirror r).rk = s.rk ∧ (s.mirror r).ln = s.ln ∧ (s.mirror r).lastRead = s.lastRead
      ∧ (s.mirror r).out = s.out ∧ (s.mirror r).pending = s.pending :=
  have h := State.mirror_fr s r (.refl s)
  ⟨h.fuse rfl, h.elapsed rfl, h.freeCtr rfl, h.regs rfl, h.cores rfl, h.mem rfl, h.th rfl, h.chans rfl, h.hp rfl, h.ep rfl, h.cp rfl, h.td rfl, h.bs rfl, h.lm rfl, h.hi rfl, h.rl rfl, h.mg rfl, h.gl rfl, h.st rfl, h.rk rfl, h.ln rfl, h.lastRead rfl, h.out rfl, h.pending rfl⟩

@[simp] theorem State.setFlow_keeps (s : State) (f : Nat) (x : Flow) :
    (s.setFlow f x).fuse = s.fuse ∧ (s.setFlow f x).elapsed = s.elapsed ∧ (s.setFlow f x).freeCtr = s.freeCtr ∧ (s.setFlow f x).regs = s.regs
      ∧ (s.setFlow f x).cores = s.cores ∧ (s.setFlow f x).mem = s.mem ∧ (s.setFlow f x).chans = s.chans ∧ (s.setFlow f x).hp = s.hp
      ∧ (s.setFlow f x).ep = s.ep ∧ (s.setFlow f x).cp = s.cp ∧ (s.setFlow f x).td = s.td ∧ (s.setFlow f x).bs = s.bs
      ∧ (s.setFlow f x).lm = s.lm ∧ (s.setFlow f x).hi = s.hi ∧ (s.setFlow f x).rl = s.rl ∧ (s.setFlow f x).tw = s.tw
      ∧ (s.setFlow f x).mg = s.mg ∧ (s.setFlow f x).gl = s.gl ∧ (s.setFlow f x).st = s.st ∧ (s.setFlow f x).rk = s.rk
      ∧ (s.setFlow f x).ln = s.ln ∧ (s.setFlow f x).lastRead = s.lastRead ∧ (s.setFlow f x).out = s.out ∧ (s.setFlow f x).pending = s.pending :=
  have h := State.setFlow_fr s f x (.refl s)
  ⟨h.fuse rfl, h.elapsed rfl, h.freeCtr rfl, h.regs rfl, h.cores rfl, h.mem rfl, h.chans rfl, h.hp rfl, h.ep rfl, h.cp rfl, h.td rfl, h.bs rfl, h.lm rfl, h.hi rfl, h.rl rfl, h.tw rfl, h.mg rfl, h.gl rfl, h.st rfl, h.rk rfl, h.ln rfl, h.lastRead rfl, h.out rfl, h.pending rfl⟩

@[simp] theorem State.setHwy_keeps (s : State) (h_ : Nat) (x : Hwy) :
    (s.setHwy h_ x).fuse = s.fuse ∧ (s.setHwy h_ x).elapsed = s.elapsed ∧ (s.setHwy h_ x).freeCtr = s.freeCtr ∧ (s.setHwy h_ x).regs = s.regs
      ∧ (s.setHwy h_ x).cores = s.cores ∧ (s.setHwy h_ x).mem = s.mem ∧ (s.setHwy h_ x).th = s.th ∧ (s.setHwy h_ x).chans = s.chans
      ∧ (s.setHwy h_ x).hp = s.hp ∧ (s.setHwy h_ x).ep = s.ep ∧ (s.setHwy h_ x).cp = s.cp ∧ (s.setHwy h_ x).bs = s.bs
      ∧ (s.setHwy h_ x).lm = s.lm ∧ (s.setHwy h_ x).hi = s.hi ∧ (s.setHwy h_ x).rl = s.rl ∧ (s.setHwy h_ x).tw = s.tw
      ∧ (s.setHwy h_ x).mg = s.mg ∧ (s.setHwy h_ x).gl = s.gl ∧ (s.setHwy h_ x).st = s.st ∧ (s.setHwy h_ x).rk = s.rk
      ∧ (s.setHwy h_ x).ln = s.ln ∧ (s.setHwy h_ x).lastRead = s.lastRead ∧ (s.setHwy h_ x).out = s.out ∧ (s.setHwy h_ x).pending = s.pending :=
  have h := State.setHwy_fr s h_ x (.refl s)
  ⟨h.fuse rfl, h.elapsed rfl, h.freeCtr rfl, h.regs rfl, h.cores rfl, h.mem rfl, h.th rfl, h.chans rfl, h.hp rfl, h.ep rfl, h.cp rfl, h.bs rfl, h.lm rfl, h.hi rfl, h.rl rfl, h.tw rfl, h.mg rfl, h.gl rfl, h.st rfl, h.rk rfl, h.ln rfl, h.lastRead rfl, h.out rfl, h.pending rfl⟩

@[simp] theorem State.setTdSlot_keeps (s : State) (h_ : Nat) (k : Nat) (v : Nat) :
    (s.setTdSlot h_ k v).fuse = s.fuse ∧ (s.setTdSlot h_ k v).elapsed = s.elapsed ∧ (s.setTdSlot h_ k v).freeCtr = s.freeCtr
      ∧ (s.setTdSlot h_ k v).regs = s.regs ∧ (s.setTdSlot h_ k v).cores = s.cores ∧ (s.setTdSlot h_ k v).mem = s.mem
      ∧ (s.setTdSlot h_ k v).th = s.th ∧ (s.setTdSlot h_ k v).chans = s.chans ∧ (s.setTdSlot h_ k v).hp = s.hp
      ∧ (s.setTdSlot h_ k v).ep = s.ep ∧ (s.setTdSlot h_ k v).cp = s.cp ∧ (s.setTdSlot h_ k v).bs = s.bs ∧ (s.setTdSlot h_ k v).lm = s.lm
      ∧ (s.setTdSlot h_ k v).hi = s.hi ∧ (s.setTdSlot h_ k v).rl = s.rl ∧ (s.setTdSlot h_ k v).tw = s.tw ∧ (s.setTdSlot h_ k v).mg = s.mg
      ∧ (s.setTdSlot h_ k v).gl = s.gl ∧ (s.setTdSlot h_ k v).st = s.st ∧ (s.setTdSlot h_ k v).rk = s.rk ∧ (s.setTdSlot h_ k v).ln = s.ln
      ∧ (s.setTdSlot h_ k v).lastRead = s.lastRead ∧ (s.setTdSlot h_ k v).out = s.out ∧ (s.setTdSlot h_ k v).pending = s.pending :=
  have h := State.setTdSlot_fr s h_ k v (.refl s)
  ⟨h.fuse rfl, h.elapsed rfl, h.freeCtr rfl, h.regs rfl, h.cores rfl, h.mem rfl, h.th rfl, h.chans rfl, h.hp rfl, h.ep rfl, h.cp rfl, h.bs rfl, h.lm rfl, h.hi rfl, h.rl rfl, h.tw rfl, h.mg rfl, h.gl rfl, h.st rfl, h.rk rfl, h.ln rfl, h.lastRead rfl, h.out rfl, h.pending rfl⟩

@[simp] theorem State.slip_keeps (s : State) (h_ : Nat) (rx : Bool) :
    (s.slip h_ rx).fuse = s.fuse ∧ (s.slip h_ rx).elapsed = s.elapsed ∧ (s.slip h_ rx).freeCtr = s.freeCtr ∧ (s.slip h_ rx).cores = s.cores
      ∧ (s.slip h_ rx).mem = s.mem ∧ (s.slip h_ rx).th = s.th ∧ (s.slip h_ rx).chans = s.chans ∧ (s.slip h_ rx).hp = s.hp
      ∧ (s.slip h_ rx).ep = s.ep ∧ (s.slip h_ rx).cp = s.cp ∧ (s.slip h_ rx).bs = s.bs ∧ (s.slip h_ rx).lm = s.lm ∧ (s.slip h_ rx).hi = s.hi
      ∧ (s.slip h_ rx).tw = s.tw ∧ (s.slip h_ rx).mg = s.mg ∧ (s.slip h_ rx).gl = s.gl ∧ (s.slip h_ rx).st = s.st ∧ (s.slip h_ rx).rk = s.rk
      ∧ (s.slip h_ rx).ln = s.ln ∧ (s.slip h_ rx).lastRead = s.lastRead ∧ (s.slip h_ rx).out = s.out ∧ (s.slip h_ rx).pending = s.pending :=
  have h := State.slip_fr s h_ rx (.refl s)
  ⟨h.fuse rfl, h.elapsed rfl, h.freeCtr rfl, h.cores rfl, h.mem rfl, h.th rfl, h.chans rfl, h.hp rfl, h.ep rfl, h.cp rfl, h.bs rfl, h.lm rfl, h.hi rfl, h.tw rfl, h.mg rfl, h.gl rfl, h.st rfl, h.rk rfl, h.ln rfl, h.lastRead rfl, h.out rfl, h.pending rfl⟩

@[simp] theorem State.holdover_keeps (s : State) :
    (s.holdover).fuse = s.fuse ∧ (s.holdover).elapsed = s.elapsed ∧ (s.holdover).freeCtr = s.freeCtr ∧ (s.holdover).cores = s.cores
      ∧ (s.holdover).mem = s.mem ∧ (s.holdover).th = s.th ∧ (s.holdover).chans = s.chans ∧ (s.holdover).hp = s.hp ∧ (s.holdover).ep = s.ep
      ∧ (s.holdover).td = s.td ∧ (s.holdover).bs = s.bs ∧ (s.holdover).lm = s.lm ∧ (s.holdover).hi = s.hi ∧ (s.holdover).tw = s.tw
      ∧ (s.holdover).mg = s.mg ∧ (s.holdover).gl = s.gl ∧ (s.holdover).st = s.st ∧ (s.holdover).rk = s.rk ∧ (s.holdover).ln = s.ln
      ∧ (s.holdover).lastRead = s.lastRead ∧ (s.holdover).out = s.out ∧ (s.holdover).pending = s.pending :=
  have h := State.holdover_fr s (.refl s)
  ⟨h.fuse rfl, h.elapsed rfl, h.freeCtr rfl, h.cores rfl, h.mem rfl, h.th rfl, h.chans rfl, h.hp rfl, h.ep rfl, h.td rfl, h.bs rfl, h.lm rfl, h.hi rfl, h.tw rfl, h.mg rfl, h.gl rfl, h.st rfl, h.rk rfl, h.ln rfl, h.lastRead rfl, h.out rfl, h.pending rfl⟩

@[simp] theorem State.acquire_keeps (s : State) :
    (s.acquire).fuse = s.fuse ∧ (s.acquire).elapsed = s.elapsed ∧ (s.acquire).freeCtr = s.freeCtr ∧ (s.acquire).cores = s.cores
      ∧ (s.acquire).mem = s.mem ∧ (s.acquire).th = s.th ∧ (s.acquire).chans = s.chans ∧ (s.acquire).hp = s.hp ∧ (s.acquire).ep = s.ep
      ∧ (s.acquire).td = s.td ∧ (s.acquire).bs = s.bs ∧ (s.acquire).lm = s.lm ∧ (s.acquire).hi = s.hi ∧ (s.acquire).rl = s.rl
      ∧ (s.acquire).tw = s.tw ∧ (s.acquire).mg = s.mg ∧ (s.acquire).gl = s.gl ∧ (s.acquire).st = s.st ∧ (s.acquire).rk = s.rk
      ∧ (s.acquire).ln = s.ln ∧ (s.acquire).lastRead = s.lastRead ∧ (s.acquire).out = s.out ∧ (s.acquire).pending = s.pending :=
  have h := State.acquire_fr s (.refl s)
  ⟨h.fuse rfl, h.elapsed rfl, h.freeCtr rfl, h.cores rfl, h.mem rfl, h.th rfl, h.chans rfl, h.hp rfl, h.ep rfl, h.td rfl, h.bs rfl, h.lm rfl, h.hi rfl, h.rl rfl, h.tw rfl, h.mg rfl, h.gl rfl, h.st rfl, h.rk rfl, h.ln rfl, h.lastRead rfl, h.out rfl, h.pending rfl⟩

@[simp] theorem State.compare_keeps (s : State) (err : Int) :
    (s.compare err).fuse = s.fuse ∧ (s.compare err).elapsed = s.elapsed ∧ (s.compare err).cores = s.cores ∧ (s.compare err).mem = s.mem
      ∧ (s.compare err).th = s.th ∧ (s.compare err).chans = s.chans ∧ (s.compare err).hp = s.hp ∧ (s.compare err).ep = s.ep
      ∧ (s.compare err).td = s.td ∧ (s.compare err).bs = s.bs ∧ (s.compare err).lm = s.lm ∧ (s.compare err).hi = s.hi
      ∧ (s.compare err).tw = s.tw ∧ (s.compare err).mg = s.mg ∧ (s.compare err).gl = s.gl ∧ (s.compare err).st = s.st
      ∧ (s.compare err).rk = s.rk ∧ (s.compare err).ln = s.ln ∧ (s.compare err).lastRead = s.lastRead ∧ (s.compare err).out = s.out
      ∧ (s.compare err).pending = s.pending :=
  have h := State.compare_fr s err (.refl s)
  ⟨h.fuse rfl, h.elapsed rfl, h.cores rfl, h.mem rfl, h.th rfl, h.chans rfl, h.hp rfl, h.ep rfl, h.td rfl, h.bs rfl, h.lm rfl, h.hi rfl, h.tw rfl, h.mg rfl, h.gl rfl, h.st rfl, h.rk rfl, h.ln rfl, h.lastRead rfl, h.out rfl, h.pending rfl⟩

@[simp] theorem State.setPort_keeps (s : State) (p : Nat) (x : Port) :
    (s.setPort p x).fuse = s.fuse ∧ (s.setPort p x).elapsed = s.elapsed ∧ (s.setPort p x).freeCtr = s.freeCtr ∧ (s.setPort p x).regs = s.regs
      ∧ (s.setPort p x).cores = s.cores ∧ (s.setPort p x).mem = s.mem ∧ (s.setPort p x).th = s.th ∧ (s.setPort p x).chans = s.chans
      ∧ (s.setPort p x).hp = s.hp ∧ (s.setPort p x).cp = s.cp ∧ (s.setPort p x).td = s.td ∧ (s.setPort p x).bs = s.bs
      ∧ (s.setPort p x).lm = s.lm ∧ (s.setPort p x).hi = s.hi ∧ (s.setPort p x).rl = s.rl ∧ (s.setPort p x).tw = s.tw
      ∧ (s.setPort p x).mg = s.mg ∧ (s.setPort p x).gl = s.gl ∧ (s.setPort p x).st = s.st ∧ (s.setPort p x).rk = s.rk
      ∧ (s.setPort p x).ln = s.ln ∧ (s.setPort p x).lastRead = s.lastRead ∧ (s.setPort p x).out = s.out ∧ (s.setPort p x).pending = s.pending :=
  have h := State.setPort_fr s p x (.refl s)
  ⟨h.fuse rfl, h.elapsed rfl, h.freeCtr rfl, h.regs rfl, h.cores rfl, h.mem rfl, h.th rfl, h.chans rfl, h.hp rfl, h.cp rfl, h.td rfl, h.bs rfl, h.lm rfl, h.hi rfl, h.rl rfl, h.tw rfl, h.mg rfl, h.gl rfl, h.st rfl, h.rk rfl, h.ln rfl, h.lastRead rfl, h.out rfl, h.pending rfl⟩

@[simp] theorem State.setTwSlot_keeps (s : State) (i : Nat) (x : TwSlot) :
    (s.setTwSlot i x).fuse = s.fuse ∧ (s.setTwSlot i x).elapsed = s.elapsed ∧ (s.setTwSlot i x).freeCtr = s.freeCtr
      ∧ (s.setTwSlot i x).regs = s.regs ∧ (s.setTwSlot i x).cores = s.cores ∧ (s.setTwSlot i x).mem = s.mem ∧ (s.setTwSlot i x).th = s.th
      ∧ (s.setTwSlot i x).chans = s.chans ∧ (s.setTwSlot i x).hp = s.hp ∧ (s.setTwSlot i x).ep = s.ep ∧ (s.setTwSlot i x).cp = s.cp
      ∧ (s.setTwSlot i x).td = s.td ∧ (s.setTwSlot i x).bs = s.bs ∧ (s.setTwSlot i x).lm = s.lm ∧ (s.setTwSlot i x).hi = s.hi
      ∧ (s.setTwSlot i x).rl = s.rl ∧ (s.setTwSlot i x).mg = s.mg ∧ (s.setTwSlot i x).gl = s.gl ∧ (s.setTwSlot i x).st = s.st
      ∧ (s.setTwSlot i x).rk = s.rk ∧ (s.setTwSlot i x).ln = s.ln ∧ (s.setTwSlot i x).lastRead = s.lastRead ∧ (s.setTwSlot i x).out = s.out
      ∧ (s.setTwSlot i x).pending = s.pending :=
  have h := State.setTwSlot_fr s i x (.refl s)
  ⟨h.fuse rfl, h.elapsed rfl, h.freeCtr rfl, h.regs rfl, h.cores rfl, h.mem rfl, h.th rfl, h.chans rfl, h.hp rfl, h.ep rfl, h.cp rfl, h.td rfl, h.bs rfl, h.lm rfl, h.hi rfl, h.rl rfl, h.mg rfl, h.gl rfl, h.st rfl, h.rk rfl, h.ln rfl, h.lastRead rfl, h.out rfl, h.pending rfl⟩

@[simp] theorem State.setLink_keeps (s : State) (l : Nat) (x : Link) :
    (s.setLink l x).fuse = s.fuse ∧ (s.setLink l x).elapsed = s.elapsed ∧ (s.setLink l x).freeCtr = s.freeCtr ∧ (s.setLink l x).regs = s.regs
      ∧ (s.setLink l x).cores = s.cores ∧ (s.setLink l x).mem = s.mem ∧ (s.setLink l x).th = s.th ∧ (s.setLink l x).chans = s.chans
      ∧ (s.setLink l x).hp = s.hp ∧ (s.setLink l x).ep = s.ep ∧ (s.setLink l x).cp = s.cp ∧ (s.setLink l x).td = s.td
      ∧ (s.setLink l x).bs = s.bs ∧ (s.setLink l x).lm = s.lm ∧ (s.setLink l x).hi = s.hi ∧ (s.setLink l x).rl = s.rl
      ∧ (s.setLink l x).mg = s.mg ∧ (s.setLink l x).gl = s.gl ∧ (s.setLink l x).st = s.st ∧ (s.setLink l x).rk = s.rk
      ∧ (s.setLink l x).ln = s.ln ∧ (s.setLink l x).lastRead = s.lastRead ∧ (s.setLink l x).out = s.out ∧ (s.setLink l x).pending = s.pending :=
  have h := State.setLink_fr s l x (.refl s)
  ⟨h.fuse rfl, h.elapsed rfl, h.freeCtr rfl, h.regs rfl, h.cores rfl, h.mem rfl, h.th rfl, h.chans rfl, h.hp rfl, h.ep rfl, h.cp rfl, h.td rfl, h.bs rfl, h.lm rfl, h.hi rfl, h.rl rfl, h.mg rfl, h.gl rfl, h.st rfl, h.rk rfl, h.ln rfl, h.lastRead rfl, h.out rfl, h.pending rfl⟩

@[simp] theorem State.preemptScan_keeps (s : State) (c : Nat) :
    (s.preemptScan c).fuse = s.fuse ∧ (s.preemptScan c).elapsed = s.elapsed ∧ (s.preemptScan c).freeCtr = s.freeCtr
      ∧ (s.preemptScan c).mem = s.mem ∧ (s.preemptScan c).chans = s.chans ∧ (s.preemptScan c).hp = s.hp ∧ (s.preemptScan c).ep = s.ep
      ∧ (s.preemptScan c).cp = s.cp ∧ (s.preemptScan c).td = s.td ∧ (s.preemptScan c).bs = s.bs ∧ (s.preemptScan c).lm = s.lm
      ∧ (s.preemptScan c).hi = s.hi ∧ (s.preemptScan c).tw = s.tw ∧ (s.preemptScan c).mg = s.mg ∧ (s.preemptScan c).gl = s.gl
      ∧ (s.preemptScan c).st = s.st ∧ (s.preemptScan c).rk = s.rk ∧ (s.preemptScan c).ln = s.ln ∧ (s.preemptScan c).lastRead = s.lastRead
      ∧ (s.preemptScan c).out = s.out ∧ (s.preemptScan c).pending = s.pending :=
  have h := State.preemptScan_fr s c (.refl s)
  ⟨h.fuse rfl, h.elapsed rfl, h.freeCtr rfl, h.mem rfl, h.chans rfl, h.hp rfl, h.ep rfl, h.cp rfl, h.td rfl, h.bs rfl, h.lm rfl, h.hi rfl, h.tw rfl, h.mg rfl, h.gl rfl, h.st rfl, h.rk rfl, h.ln rfl, h.lastRead rfl, h.out rfl, h.pending rfl⟩

@[simp] theorem State.repost_keeps (s : State) :
    (s.repost).fuse = s.fuse ∧ (s.repost).elapsed = s.elapsed ∧ (s.repost).freeCtr = s.freeCtr ∧ (s.repost).cores = s.cores
      ∧ (s.repost).mem = s.mem ∧ (s.repost).chans = s.chans ∧ (s.repost).hp = s.hp ∧ (s.repost).ep = s.ep ∧ (s.repost).cp = s.cp
      ∧ (s.repost).td = s.td ∧ (s.repost).bs = s.bs ∧ (s.repost).lm = s.lm ∧ (s.repost).tw = s.tw ∧ (s.repost).mg = s.mg
      ∧ (s.repost).gl = s.gl ∧ (s.repost).st = s.st ∧ (s.repost).rk = s.rk ∧ (s.repost).ln = s.ln ∧ (s.repost).lastRead = s.lastRead
      ∧ (s.repost).pending = s.pending :=
  have h := State.repost_fr s (.refl s)
  ⟨h.fuse rfl, h.elapsed rfl, h.freeCtr rfl, h.cores rfl, h.mem rfl, h.chans rfl, h.hp rfl, h.ep rfl, h.cp rfl, h.td rfl, h.bs rfl, h.lm rfl, h.tw rfl, h.mg rfl, h.gl rfl, h.st rfl, h.rk rfl, h.ln rfl, h.lastRead rfl, h.pending rfl⟩

@[simp] theorem State.dropQueued_keeps (s : State) (p : Entry → Bool) :
    (s.dropQueued p).fuse = s.fuse ∧ (s.dropQueued p).elapsed = s.elapsed ∧ (s.dropQueued p).freeCtr = s.freeCtr
      ∧ (s.dropQueued p).regs = s.regs ∧ (s.dropQueued p).cores = s.cores ∧ (s.dropQueued p).mem = s.mem ∧ (s.dropQueued p).chans = s.chans
      ∧ (s.dropQueued p).hp = s.hp ∧ (s.dropQueued p).ep = s.ep ∧ (s.dropQueued p).cp = s.cp ∧ (s.dropQueued p).td = s.td
      ∧ (s.dropQueued p).bs = s.bs ∧ (s.dropQueued p).lm = s.lm ∧ (s.dropQueued p).hi = s.hi ∧ (s.dropQueued p).rl = s.rl
      ∧ (s.dropQueued p).tw = s.tw ∧ (s.dropQueued p).mg = s.mg ∧ (s.dropQueued p).gl = s.gl ∧ (s.dropQueued p).st = s.st
      ∧ (s.dropQueued p).rk = s.rk ∧ (s.dropQueued p).ln = s.ln ∧ (s.dropQueued p).lastRead = s.lastRead ∧ (s.dropQueued p).out = s.out
      ∧ (s.dropQueued p).pending = s.pending :=
  have h := State.dropQueued_fr s p (.refl s)
  ⟨h.fuse rfl, h.elapsed rfl, h.freeCtr rfl, h.regs rfl, h.cores rfl, h.mem rfl, h.chans rfl, h.hp rfl, h.ep rfl, h.cp rfl, h.td rfl, h.bs rfl, h.lm rfl, h.hi rfl, h.rl rfl, h.tw rfl, h.mg rfl, h.gl rfl, h.st rfl, h.rk rfl, h.ln rfl, h.lastRead rfl, h.out rfl, h.pending rfl⟩

@[simp] theorem State.updEntry_keeps (s : State) (e : Entry) :
    (s.updEntry e).fuse = s.fuse ∧ (s.updEntry e).elapsed = s.elapsed ∧ (s.updEntry e).freeCtr = s.freeCtr ∧ (s.updEntry e).regs = s.regs
      ∧ (s.updEntry e).cores = s.cores ∧ (s.updEntry e).mem = s.mem ∧ (s.updEntry e).chans = s.chans ∧ (s.updEntry e).hp = s.hp
      ∧ (s.updEntry e).ep = s.ep ∧ (s.updEntry e).cp = s.cp ∧ (s.updEntry e).td = s.td ∧ (s.updEntry e).bs = s.bs ∧ (s.updEntry e).lm = s.lm
      ∧ (s.updEntry e).hi = s.hi ∧ (s.updEntry e).rl = s.rl ∧ (s.updEntry e).tw = s.tw ∧ (s.updEntry e).mg = s.mg ∧ (s.updEntry e).gl = s.gl
      ∧ (s.updEntry e).st = s.st ∧ (s.updEntry e).rk = s.rk ∧ (s.updEntry e).ln = s.ln ∧ (s.updEntry e).lastRead = s.lastRead
      ∧ (s.updEntry e).out = s.out ∧ (s.updEntry e).pending = s.pending :=
  have h := State.updEntry_fr s e (.refl s)
  ⟨h.fuse rfl, h.elapsed rfl, h.freeCtr rfl, h.regs rfl, h.cores rfl, h.mem rfl, h.chans rfl, h.hp rfl, h.ep rfl, h.cp rfl, h.td rfl, h.bs rfl, h.lm rfl, h.hi rfl, h.rl rfl, h.tw rfl, h.mg rfl, h.gl rfl, h.st rfl, h.rk rfl, h.ln rfl, h.lastRead rfl, h.out rfl, h.pending rfl⟩

@[simp] theorem State.setQueue_keeps (s : State) (q_ : Nat) (l : List Entry) :
    (s.setQueue q_ l).fuse = s.fuse ∧ (s.setQueue q_ l).elapsed = s.elapsed ∧ (s.setQueue q_ l).freeCtr = s.freeCtr
      ∧ (s.setQueue q_ l).regs = s.regs ∧ (s.setQueue q_ l).cores = s.cores ∧ (s.setQueue q_ l).mem = s.mem
      ∧ (s.setQueue q_ l).chans = s.chans ∧ (s.setQueue q_ l).hp = s.hp ∧ (s.setQueue q_ l).ep = s.ep ∧ (s.setQueue q_ l).cp = s.cp
      ∧ (s.setQueue q_ l).td = s.td ∧ (s.setQueue q_ l).bs = s.bs ∧ (s.setQueue q_ l).lm = s.lm ∧ (s.setQueue q_ l).hi = s.hi
      ∧ (s.setQueue q_ l).rl = s.rl ∧ (s.setQueue q_ l).tw = s.tw ∧ (s.setQueue q_ l).mg = s.mg ∧ (s.setQueue q_ l).gl = s.gl
      ∧ (s.setQueue q_ l).st = s.st ∧ (s.setQueue q_ l).rk = s.rk ∧ (s.setQueue q_ l).ln = s.ln ∧ (s.setQueue q_ l).lastRead = s.lastRead
      ∧ (s.setQueue q_ l).out = s.out ∧ (s.setQueue q_ l).pending = s.pending :=
  have h := State.setQueue_fr s q_ l (.refl s)
  ⟨h.fuse rfl, h.elapsed rfl, h.freeCtr rfl, h.regs rfl, h.cores rfl, h.mem rfl, h.chans rfl, h.hp rfl, h.ep rfl, h.cp rfl, h.td rfl, h.bs rfl, h.lm rfl, h.hi rfl, h.rl rfl, h.tw rfl, h.mg rfl, h.gl rfl, h.st rfl, h.rk rfl, h.ln rfl, h.lastRead rfl, h.out rfl, h.pending rfl⟩

@[simp] theorem State.budgetCheck_keeps (s : State) :
    (s.budgetCheck).fuse = s.fuse ∧ (s.budgetCheck).elapsed = s.elapsed ∧ (s.budgetCheck).freeCtr = s.freeCtr ∧ (s.budgetCheck).cores = s.cores
      ∧ (s.budgetCheck).mem = s.mem ∧ (s.budgetCheck).th = s.th ∧ (s.budgetCheck).chans = s.chans ∧ (s.budgetCheck).hp = s.hp
      ∧ (s.budgetCheck).ep = s.ep ∧ (s.budgetCheck).cp = s.cp ∧ (s.budgetCheck).td = s.td ∧ (s.budgetCheck).bs = s.bs
      ∧ (s.budgetCheck).lm = s.lm ∧ (s.budgetCheck).hi = s.hi ∧ (s.budgetCheck).tw = s.tw ∧ (s.budgetCheck).mg = s.mg
      ∧ (s.budgetCheck).gl = s.gl ∧ (s.budgetCheck).rk = s.rk ∧ (s.budgetCheck).ln = s.ln ∧ (s.budgetCheck).lastRead = s.lastRead
      ∧ (s.budgetCheck).out = s.out ∧ (s.budgetCheck).pending = s.pending :=
  have h := State.budgetCheck_fr s (.refl s)
  ⟨h.fuse rfl, h.elapsed rfl, h.freeCtr rfl, h.cores rfl, h.mem rfl, h.th rfl, h.chans rfl, h.hp rfl, h.ep rfl, h.cp rfl, h.td rfl, h.bs rfl, h.lm rfl, h.hi rfl, h.tw rfl, h.mg rfl, h.gl rfl, h.rk rfl, h.ln rfl, h.lastRead rfl, h.out rfl, h.pending rfl⟩

@[simp] theorem State.rehome_keeps (s : State) (n : Nat) :
    (s.rehome n).fuse = s.fuse ∧ (s.rehome n).elapsed = s.elapsed ∧ (s.rehome n).freeCtr = s.freeCtr ∧ (s.rehome n).cores = s.cores
      ∧ (s.rehome n).mem = s.mem ∧ (s.rehome n).ep = s.ep ∧ (s.rehome n).cp = s.cp ∧ (s.rehome n).td = s.td ∧ (s.rehome n).bs = s.bs
      ∧ (s.rehome n).lm = s.lm ∧ (s.rehome n).hi = s.hi ∧ (s.rehome n).tw = s.tw ∧ (s.rehome n).mg = s.mg ∧ (s.rehome n).gl = s.gl
      ∧ (s.rehome n).st = s.st ∧ (s.rehome n).rk = s.rk ∧ (s.rehome n).ln = s.ln ∧ (s.rehome n).lastRead = s.lastRead
      ∧ (s.rehome n).out = s.out ∧ (s.rehome n).pending = s.pending :=
  have h := State.rehome_fr s n (.refl s)
  ⟨h.fuse rfl, h.elapsed rfl, h.freeCtr rfl, h.cores rfl, h.mem rfl, h.ep rfl, h.cp rfl, h.td rfl, h.bs rfl, h.lm rfl, h.hi rfl, h.tw rfl, h.mg rfl, h.gl rfl, h.st rfl, h.rk rfl, h.ln rfl, h.lastRead rfl, h.out rfl, h.pending rfl⟩

@[simp] theorem State.unmappedEvent_keeps (s : State) (page : Nat) :
    (s.unmappedEvent page).fuse = s.fuse ∧ (s.unmappedEvent page).elapsed = s.elapsed ∧ (s.unmappedEvent page).freeCtr = s.freeCtr
      ∧ (s.unmappedEvent page).cores = s.cores ∧ (s.unmappedEvent page).mem = s.mem ∧ (s.unmappedEvent page).th = s.th
      ∧ (s.unmappedEvent page).chans = s.chans ∧ (s.unmappedEvent page).hp = s.hp ∧ (s.unmappedEvent page).ep = s.ep
      ∧ (s.unmappedEvent page).cp = s.cp ∧ (s.unmappedEvent page).td = s.td ∧ (s.unmappedEvent page).bs = s.bs
      ∧ (s.unmappedEvent page).lm = s.lm ∧ (s.unmappedEvent page).hi = s.hi ∧ (s.unmappedEvent page).tw = s.tw
      ∧ (s.unmappedEvent page).mg = s.mg ∧ (s.unmappedEvent page).gl = s.gl ∧ (s.unmappedEvent page).st = s.st
      ∧ (s.unmappedEvent page).rk = s.rk ∧ (s.unmappedEvent page).ln = s.ln ∧ (s.unmappedEvent page).lastRead = s.lastRead
      ∧ (s.unmappedEvent page).out = s.out ∧ (s.unmappedEvent page).pending = s.pending :=
  have h := State.unmappedEvent_fr s page (.refl s)
  ⟨h.fuse rfl, h.elapsed rfl, h.freeCtr rfl, h.cores rfl, h.mem rfl, h.th rfl, h.chans rfl, h.hp rfl, h.ep rfl, h.cp rfl, h.td rfl, h.bs rfl, h.lm rfl, h.hi rfl, h.tw rfl, h.mg rfl, h.gl rfl, h.st rfl, h.rk rfl, h.ln rfl, h.lastRead rfl, h.out rfl, h.pending rfl⟩

@[simp] theorem State.setSelftest_keeps (s : State) (c : Nat) (cores : Nat) (cps : Bool) (vectors : Bool) :
    (s.setSelftest c cores cps vectors).fuse = s.fuse ∧ (s.setSelftest c cores cps vectors).elapsed = s.elapsed
      ∧ (s.setSelftest c cores cps vectors).freeCtr = s.freeCtr ∧ (s.setSelftest c cores cps vectors).cores = s.cores
      ∧ (s.setSelftest c cores cps vectors).mem = s.mem ∧ (s.setSelftest c cores cps vectors).th = s.th
      ∧ (s.setSelftest c cores cps vectors).chans = s.chans ∧ (s.setSelftest c cores cps vectors).hp = s.hp
      ∧ (s.setSelftest c cores cps vectors).ep = s.ep ∧ (s.setSelftest c cores cps vectors).cp = s.cp
      ∧ (s.setSelftest c cores cps vectors).td = s.td ∧ (s.setSelftest c cores cps vectors).bs = s.bs
      ∧ (s.setSelftest c cores cps vectors).lm = s.lm ∧ (s.setSelftest c cores cps vectors).hi = s.hi
      ∧ (s.setSelftest c cores cps vectors).rl = s.rl ∧ (s.setSelftest c cores cps vectors).tw = s.tw
      ∧ (s.setSelftest c cores cps vectors).mg = s.mg ∧ (s.setSelftest c cores cps vectors).gl = s.gl
      ∧ (s.setSelftest c cores cps vectors).st = s.st ∧ (s.setSelftest c cores cps vectors).rk = s.rk
      ∧ (s.setSelftest c cores cps vectors).ln = s.ln ∧ (s.setSelftest c cores cps vectors).lastRead = s.lastRead
      ∧ (s.setSelftest c cores cps vectors).out = s.out ∧ (s.setSelftest c cores cps vectors).pending = s.pending :=
  have h := State.setSelftest_fr s c cores cps vectors (.refl s)
  ⟨h.fuse rfl, h.elapsed rfl, h.freeCtr rfl, h.cores rfl, h.mem rfl, h.th rfl, h.chans rfl, h.hp rfl, h.ep rfl, h.cp rfl, h.td rfl, h.bs rfl, h.lm rfl, h.hi rfl, h.rl rfl, h.tw rfl, h.mg rfl, h.gl rfl, h.st rfl, h.rk rfl, h.ln rfl, h.lastRead rfl, h.out rfl, h.pending rfl⟩

@[simp] theorem State.resetCore_keeps (s : State) (k : Nat) :
    (s.resetCore k).fuse = s.fuse ∧ (s.resetCore k).elapsed = s.elapsed ∧ (s.resetCore k).freeCtr = s.freeCtr ∧ (s.resetCore k).regs = s.regs
      ∧ (s.resetCore k).mem = s.mem ∧ (s.resetCore k).chans = s.chans ∧ (s.resetCore k).hp = s.hp ∧ (s.resetCore k).ep = s.ep
      ∧ (s.resetCore k).cp = s.cp ∧ (s.resetCore k).td = s.td ∧ (s.resetCore k).bs = s.bs ∧ (s.resetCore k).lm = s.lm
      ∧ (s.resetCore k).hi = s.hi ∧ (s.resetCore k).rl = s.rl ∧ (s.resetCore k).tw = s.tw ∧ (s.resetCore k).mg = s.mg
      ∧ (s.resetCore k).gl = s.gl ∧ (s.resetCore k).st = s.st ∧ (s.resetCore k).rk = s.rk ∧ (s.resetCore k).ln = s.ln
      ∧ (s.resetCore k).lastRead = s.lastRead ∧ (s.resetCore k).out = s.out ∧ (s.resetCore k).pending = s.pending :=
  have h := State.resetCore_fr s k (.refl s)
  ⟨h.fuse rfl, h.elapsed rfl, h.freeCtr rfl, h.regs rfl, h.mem rfl, h.chans rfl, h.hp rfl, h.ep rfl, h.cp rfl, h.td rfl, h.bs rfl, h.lm rfl, h.hi rfl, h.rl rfl, h.tw rfl, h.mg rfl, h.gl rfl, h.st rfl, h.rk rfl, h.ln rfl, h.lastRead rfl, h.out rfl, h.pending rfl⟩

@[simp] theorem State.fwxShow_keeps (s : State) :
    (s.fwxShow).fuse = s.fuse ∧ (s.fwxShow).elapsed = s.elapsed ∧ (s.fwxShow).freeCtr = s.freeCtr ∧ (s.fwxShow).cores = s.cores
      ∧ (s.fwxShow).mem = s.mem ∧ (s.fwxShow).th = s.th ∧ (s.fwxShow).chans = s.chans ∧ (s.fwxShow).hp = s.hp ∧ (s.fwxShow).ep = s.ep
      ∧ (s.fwxShow).cp = s.cp ∧ (s.fwxShow).td = s.td ∧ (s.fwxShow).bs = s.bs ∧ (s.fwxShow).lm = s.lm ∧ (s.fwxShow).hi = s.hi
      ∧ (s.fwxShow).rl = s.rl ∧ (s.fwxShow).tw = s.tw ∧ (s.fwxShow).mg = s.mg ∧ (s.fwxShow).gl = s.gl ∧ (s.fwxShow).st = s.st
      ∧ (s.fwxShow).rk = s.rk ∧ (s.fwxShow).ln = s.ln ∧ (s.fwxShow).lastRead = s.lastRead ∧ (s.fwxShow).out = s.out
      ∧ (s.fwxShow).pending = s.pending :=
  have h := State.fwxShow_fr s (.refl s)
  ⟨h.fuse rfl, h.elapsed rfl, h.freeCtr rfl, h.cores rfl, h.mem rfl, h.th rfl, h.chans rfl, h.hp rfl, h.ep rfl, h.cp rfl, h.td rfl, h.bs rfl, h.lm rfl, h.hi rfl, h.rl rfl, h.tw rfl, h.mg rfl, h.gl rfl, h.st rfl, h.rk rfl, h.ln rfl, h.lastRead rfl, h.out rfl, h.pending rfl⟩

@[simp] theorem State.setFwx_keeps (s : State) (x : Option Fwx) :
    (s.setFwx x).fuse = s.fuse ∧ (s.setFwx x).elapsed = s.elapsed ∧ (s.setFwx x).freeCtr = s.freeCtr ∧ (s.setFwx x).cores = s.cores
      ∧ (s.setFwx x).mem = s.mem ∧ (s.setFwx x).th = s.th ∧ (s.setFwx x).chans = s.chans ∧ (s.setFwx x).hp = s.hp ∧ (s.setFwx x).ep = s.ep
      ∧ (s.setFwx x).cp = s.cp ∧ (s.setFwx x).td = s.td ∧ (s.setFwx x).bs = s.bs ∧ (s.setFwx x).lm = s.lm ∧ (s.setFwx x).hi = s.hi
      ∧ (s.setFwx x).rl = s.rl ∧ (s.setFwx x).tw = s.tw ∧ (s.setFwx x).mg = s.mg ∧ (s.setFwx x).st = s.st ∧ (s.setFwx x).rk = s.rk
      ∧ (s.setFwx x).ln = s.ln ∧ (s.setFwx x).lastRead = s.lastRead ∧ (s.setFwx x).out = s.out ∧ (s.setFwx x).pending = s.pending :=
  have h := State.setFwx_fr s x (.refl s)
  ⟨h.fuse rfl, h.elapsed rfl, h.freeCtr rfl, h.cores rfl, h.mem rfl, h.th rfl, h.chans rfl, h.hp rfl, h.ep rfl, h.cp rfl, h.td rfl, h.bs rfl, h.lm rfl, h.hi rfl, h.rl rfl, h.tw rfl, h.mg rfl, h.st rfl, h.rk rfl, h.ln rfl, h.lastRead rfl, h.out rfl, h.pending rfl⟩

@[simp] theorem State.beginClose_keeps (s : State) (n : Nat) (o : Option Origin) :
    (s.beginClose n o).fuse = s.fuse ∧ (s.beginClose n o).elapsed = s.elapsed ∧ (s.beginClose n o).freeCtr = s.freeCtr
      ∧ (s.beginClose n o).mem = s.mem ∧ (s.beginClose n o).ep = s.ep ∧ (s.beginClose n o).cp = s.cp ∧ (s.beginClose n o).td = s.td
      ∧ (s.beginClose n o).bs = s.bs ∧ (s.beginClose n o).lm = s.lm ∧ (s.beginClose n o).tw = s.tw ∧ (s.beginClose n o).mg = s.mg
      ∧ (s.beginClose n o).gl = s.gl ∧ (s.beginClose n o).st = s.st ∧ (s.beginClose n o).ln = s.ln ∧ (s.beginClose n o).lastRead = s.lastRead
      ∧ (s.beginClose n o).pending = s.pending :=
  have h := State.beginClose_fr s n o (.refl s)
  ⟨h.fuse rfl, h.elapsed rfl, h.freeCtr rfl, h.mem rfl, h.ep rfl, h.cp rfl, h.td rfl, h.bs rfl, h.lm rfl, h.tw rfl, h.mg rfl, h.gl rfl, h.st rfl, h.ln rfl, h.lastRead rfl, h.pending rfl⟩

@[simp] theorem State.removeChan_keeps (s : State) (n : Nat) :
    (s.removeChan n).fuse = s.fuse ∧ (s.removeChan n).elapsed = s.elapsed ∧ (s.removeChan n).freeCtr = s.freeCtr
      ∧ (s.removeChan n).cores = s.cores ∧ (s.removeChan n).mem = s.mem ∧ (s.removeChan n).hp = s.hp ∧ (s.removeChan n).ep = s.ep
      ∧ (s.removeChan n).cp = s.cp ∧ (s.removeChan n).td = s.td ∧ (s.removeChan n).bs = s.bs ∧ (s.removeChan n).lm = s.lm
      ∧ (s.removeChan n).hi = s.hi ∧ (s.removeChan n).tw = s.tw ∧ (s.removeChan n).mg = s.mg ∧ (s.removeChan n).gl = s.gl
      ∧ (s.removeChan n).rk = s.rk ∧ (s.removeChan n).ln = s.ln ∧ (s.removeChan n).lastRead = s.lastRead ∧ (s.removeChan n).out = s.out
      ∧ (s.removeChan n).pending = s.pending :=
  have h := State.removeChan_fr s n (.refl s)
  ⟨h.fuse rfl, h.elapsed rfl, h.freeCtr rfl, h.cores rfl, h.mem rfl, h.hp rfl, h.ep rfl, h.cp rfl, h.td rfl, h.bs rfl, h.lm rfl, h.hi rfl, h.tw rfl, h.mg rfl, h.gl rfl, h.rk rfl, h.ln rfl, h.lastRead rfl, h.out rfl, h.pending rfl⟩

@[simp] theorem State.mgSend_keeps (s : State) (bytes : List Byte) (fence : Bool) (o : Option Origin) :
    (s.mgSend bytes fence o).fuse = s.fuse ∧ (s.mgSend bytes fence o).elapsed = s.elapsed ∧ (s.mgSend bytes fence o).freeCtr = s.freeCtr
      ∧ (s.mgSend bytes fence o).cores = s.cores ∧ (s.mgSend bytes fence o).mem = s.mem ∧ (s.mgSend bytes fence o).th = s.th
      ∧ (s.mgSend bytes fence o).chans = s.chans ∧ (s.mgSend bytes fence o).hp = s.hp ∧ (s.mgSend bytes fence o).ep = s.ep
      ∧ (s.mgSend bytes fence o).cp = s.cp ∧ (s.mgSend bytes fence o).td = s.td ∧ (s.mgSend bytes fence o).bs = s.bs
      ∧ (s.mgSend bytes fence o).lm = s.lm ∧ (s.mgSend bytes fence o).tw = s.tw ∧ (s.mgSend bytes fence o).gl = s.gl
      ∧ (s.mgSend bytes fence o).st = s.st ∧ (s.mgSend bytes fence o).rk = s.rk ∧ (s.mgSend bytes fence o).ln = s.ln
      ∧ (s.mgSend bytes fence o).lastRead = s.lastRead ∧ (s.mgSend bytes fence o).pending = s.pending :=
  have h := State.mgSend_fr s bytes fence o (.refl s)
  ⟨h.fuse rfl, h.elapsed rfl, h.freeCtr rfl, h.cores rfl, h.mem rfl, h.th rfl, h.chans rfl, h.hp rfl, h.ep rfl, h.cp rfl, h.td rfl, h.bs rfl, h.lm rfl, h.tw rfl, h.gl rfl, h.st rfl, h.rk rfl, h.ln rfl, h.lastRead rfl, h.pending rfl⟩

@[simp] theorem State.trackGroup_keeps (s : State) (g : Nat) (ratio : Nat) (offset : Nat) :
    (s.trackGroup g ratio offset).fuse = s.fuse ∧ (s.trackGroup g ratio offset).elapsed = s.elapsed
      ∧ (s.trackGroup g ratio offset).freeCtr = s.freeCtr ∧ (s.trackGroup g ratio offset).cores = s.cores
      ∧ (s.trackGroup g ratio offset).mem = s.mem ∧ (s.trackGroup g ratio offset).th = s.th ∧ (s.trackGroup g ratio offset).chans = s.chans
      ∧ (s.trackGroup g ratio offset).hp = s.hp ∧ (s.trackGroup g ratio offset).ep = s.ep ∧ (s.trackGroup g ratio offset).cp = s.cp
      ∧ (s.trackGroup g ratio offset).td = s.td ∧ (s.trackGroup g ratio offset).lm = s.lm ∧ (s.trackGroup g ratio offset).hi = s.hi
      ∧ (s.trackGroup g ratio offset).tw = s.tw ∧ (s.trackGroup g ratio offset).mg = s.mg ∧ (s.trackGroup g ratio offset).gl = s.gl
      ∧ (s.trackGroup g ratio offset).st = s.st ∧ (s.trackGroup g ratio offset).rk = s.rk ∧ (s.trackGroup g ratio offset).ln = s.ln
      ∧ (s.trackGroup g ratio offset).lastRead = s.lastRead ∧ (s.trackGroup g ratio offset).out = s.out
      ∧ (s.trackGroup g ratio offset).pending = s.pending :=
  have h := State.trackGroup_fr s g ratio offset (.refl s)
  ⟨h.fuse rfl, h.elapsed rfl, h.freeCtr rfl, h.cores rfl, h.mem rfl, h.th rfl, h.chans rfl, h.hp rfl, h.ep rfl, h.cp rfl, h.td rfl, h.lm rfl, h.hi rfl, h.tw rfl, h.mg rfl, h.gl rfl, h.st rfl, h.rk rfl, h.ln rfl, h.lastRead rfl, h.out rfl, h.pending rfl⟩

@[simp] theorem State.evacEpoch_keeps (s : State) :
    (s.evacEpoch).fuse = s.fuse ∧ (s.evacEpoch).elapsed = s.elapsed ∧ (s.evacEpoch).freeCtr = s.freeCtr ∧ (s.evacEpoch).regs = s.regs
      ∧ (s.evacEpoch).cores = s.cores ∧ (s.evacEpoch).mem = s.mem ∧ (s.evacEpoch).th = s.th ∧ (s.evacEpoch).chans = s.chans
      ∧ (s.evacEpoch).hp = s.hp ∧ (s.evacEpoch).ep = s.ep ∧ (s.evacEpoch).cp = s.cp ∧ (s.evacEpoch).td = s.td ∧ (s.evacEpoch).bs = s.bs
      ∧ (s.evacEpoch).lm = s.lm ∧ (s.evacEpoch).rl = s.rl ∧ (s.evacEpoch).mg = s.mg ∧ (s.evacEpoch).gl = s.gl ∧ (s.evacEpoch).st = s.st
      ∧ (s.evacEpoch).rk = s.rk ∧ (s.evacEpoch).ln = s.ln ∧ (s.evacEpoch).lastRead = s.lastRead ∧ (s.evacEpoch).out = s.out
      ∧ (s.evacEpoch).pending = s.pending :=
  have h := State.evacEpoch_fr s (.refl s)
  ⟨h.fuse rfl, h.elapsed rfl, h.freeCtr rfl, h.regs rfl, h.cores rfl, h.mem rfl, h.th rfl, h.chans rfl, h.hp rfl, h.ep rfl, h.cp rfl, h.td rfl, h.bs rfl, h.lm rfl, h.rl rfl, h.mg rfl, h.gl rfl, h.st rfl, h.rk rfl, h.ln rfl, h.lastRead rfl, h.out rfl, h.pending rfl⟩

end Sys2Proof.Machine
end

