-- ==== Sys2Proof/Laws/Cores.lean ====
section
/-! SUPPORT. What the operations that act on a whole core leave of the cores: reports and fields leave them alone, a core reset, a kernel error,
an interrupt entry and the scan for a preemption change one core in a known way. Then register fields read back after them. -/
set_option Elab.async false

namespace Sys2Proof.Machine

@[simp] theorem State.core_setFld (s : State) (f : Fld) (v j : Nat) : (s.setFld f v).core j = s.core j := rfl
@[simp] theorem State.core_setFlag (s : State) (f : Fld) (b : Bool) (j : Nat) : (s.setFlag f b).core j = s.core j := rfl

@[simp] theorem State.core_raise (s : State) (cls : Cls) (src inst code a0 a1 a2 j : Nat) : (s.raise cls src inst code a0 a1 a2).core j = s.core j := by
  have h := (State.raise_fr s cls src inst code a0 a1 a2 (.refl s)).cores rfl
  simp only [State.core, h]

/-- What a core reset leaves. -/
theorem resetCore_core (s : State) (k : Nat) : ((s.resetCore k).core k).pc = 0 ∧ ((s.resetCore k).core k).stack = [] ∧ ((s.resetCore k).core k).xm = []
    ∧ ((s.resetCore k).core k).ym = [] ∧ ((s.resetCore k).core k).run = none ∧ ∀ j, j ≠ k → (s.resetCore k).core j = s.core j := by
  unfold State.resetCore
  dsimp only
  refine ⟨?_, ?_, ?_, ?_, ?_, fun j hj => ?_⟩
  · rw [State.core_setCore]; rfl
  · rw [State.core_setCore]; rfl
  · rw [State.core_setCore]; rfl
  · rw [State.core_setCore]; rfl
  · rw [State.core_setCore]; rfl
  · rw [State.core_setCore_ne _ _ hj, (State.withdraw_core _ _).2.1 j hj]

/-- A kernel error takes the entry from its core and touches no other core. -/
theorem kernelError_core (s : State) (k err pc : Nat) : ((s.core k).run ≠ none → ((s.kernelError k err pc).core k).run = none)
    ∧ ((s.kernelError k err pc).core k).waitPc = (s.core k).waitPc ∧ ∀ j, j ≠ k → (s.kernelError k err pc).core j = s.core j := by
  unfold State.kernelError
  cases hr : (s.core k).run with
  | none => exact ⟨fun h => absurd rfl h, rfl, fun _ _ => rfl⟩
  | some r =>
    dsimp only
    let s1 := s.abortRun k
    let s2 := s1.raise .warn 0x30 r.e.chan 0x0301 r.e.chan r.e.node pc
    have h1 : (s1.core k).run = none ∧ (s1.core k).waitPc = (s.core k).waitPc ∧ ∀ j, j ≠ k → s1.core j = s.core j := by
      simp only [s1]
      unfold State.abortRun State.clearRun
      refine ⟨?_, ?_, fun j hj => ?_⟩
      · simp only [State.core_setCore]
      · simp only [State.core_setCore]
      · rw [State.core_setCore_ne _ _ hj, State.core_setCore_ne _ _ hj]
    have h2 : s2.cores = s1.cores := (State.raise_fr s1 .warn 0x30 r.e.chan 0x0301 r.e.chan r.e.node pc (.refl _)).cores rfl
    have h3 : (if r.e.cancel then s2.endCancelled r.e (some k) else s2.endFailed r.e (some k) 10 err pc).cores = s2.cores := by
      split
      · exact (State.endCancelled_fr s2 r.e (some k) (.refl _)).cores rfl
      · exact (State.endFailed_fr s2 r.e (some k) 10 err pc (.refl _)).cores rfl
    have h4 : ∀ j, (if r.e.cancel then s2.endCancelled r.e (some k) else s2.endFailed r.e (some k) 10 err pc).core j = s1.core j := fun j => by
      simp only [State.core, h3, h2]
    exact ⟨fun _ => (congrArg Core.run (h4 k)).trans h1.1, (congrArg Core.waitPc (h4 k)).trans h1.2.1, fun j hj => (h4 j).trans (h1.2.2 j hj)⟩

/-- The scan for a preemption leaves a core as it was but for its request. -/
theorem State.preemptScan_core (s : State) (c k : Nat) :
    (s.preemptScan c).core k = s.core k ∨ (s.preemptScan c).core k = { s.core k with preReq := true } := by
  have hu : ∀ j, (s.unbar c).core j = s.core j := fun j => by
    have h := (State.unbar_fr s c (.refl s)).cores rfl
    simp only [State.core, h]
  unfold State.preemptScan
  dsimp only
  split
  · exact .inl (hu k)
  · split
    · split
      · rename_i p _
        by_cases h : k = p
        · subst h
          right
          show ((s.unbar c).setCore k _).core k = _
          rw [State.core_setCore, hu]
        · left
          show ((s.unbar c).setCore p _).core k = _
          rw [State.core_setCore_ne _ _ h, hu]
      · exact .inl (hu k)
    · exact .inl (hu k)

/-- What taking an interrupt does to a core. -/
theorem enter_ok (c : Core) (p : Nat) : (c.enter p).pc = 8 * p ∧ (c.enter p).stack = BitVec.ofNat 15 c.pc :: c.stack ∧ (c.enter p).inShadow = true
    ∧ (c.enter p).waiting = false ∧ (c.enter p).handlers = p :: c.handlers ∧ (c.enter p).nest = (if c.inShadow then c.nest + 1 else c.nest) ∧ KeepsMem c (c.enter p)
    ∧ (c.inShadow = false → (c.enter p).main = c.main)
    ∧ SrBits [(srIE, false), (srGVT, false), (srLA, false), (srRCA, false), (srSB, true)] c.sr (c.enter p).sr := by
  have hb : ∀ (old : W24), SrBits [(srIE, false), (srGVT, false), (srLA, false), (srRCA, false), (srSB, true)] old
      (srSet (srSet (srSet (srSet (srSet old srIE false) srGVT false) srLA false) srRCA false) srSB true) := by
    intro old i hi
    simp only [srBit_srSet _ _ _ _ hi]
    by_cases h1 : i = 13
    · subst h1; simp [srIE, srGVT, srLA, srRCA, srSB]
    by_cases h2 : i = 15
    · subst h2; simp [srIE, srGVT, srLA, srRCA, srSB]
    by_cases h3 : i = 14
    · subst h3; simp [srIE, srGVT, srLA, srRCA, srSB]
    by_cases h4 : i = 11
    · subst h4; simp [srIE, srGVT, srLA, srRCA, srSB]
    by_cases h5 : i = 12
    · subst h5; simp [srIE, srGVT, srLA, srRCA, srSB]
    · simp [srIE, srGVT, srLA, srRCA, srSB, h1, h2, h3, h4, h5, Ne.symm h1, Ne.symm h2, Ne.symm h3, Ne.symm h4, Ne.symm h5]
  by_cases h : c.inShadow = true
  · have e : ∃ c1 : Core, c.enter p = { c1.setSr (srSet (srSet (srSet (srSet (srSet c1.sr srIE false) srGVT false) srLA false) srRCA false) srSB true) with pc := 8 * p }
        ∧ c1 = { c with stack := BitVec.ofNat 15 c.pc :: c.stack, win := [], cacheOk := false, filling := false, waiting := false, handlers := p :: c.handlers, slots := 0, branch := none, nest := c.nest + 1 } := by
      refine ⟨_, ?_, rfl⟩
      unfold Core.enter
      simp only [h, if_true]
    obtain ⟨c1, e, e1⟩ := e
    have hs : c1.sr = c.sr := by rw [e1]; rfl
    have hin : c1.inShadow = true := by rw [e1]; exact h
    rw [e]
    refine ⟨rfl, ?_, ?_, ?_, ?_, ?_, ?_, (fun h' => absurd (h.symm.trans h') (by decide)), ?_⟩
    · simp only [Core.setSr, Core.setBank_stack]; rw [e1]
    · simp only [Core.setSr, Core.setBank, hin, if_true]
    · simp only [Core.setSr, Core.setBank, hin, if_true]; rw [e1]
    · simp only [Core.setSr, Core.setBank, hin, if_true]; rw [e1]
    · simp only [Core.setSr, Core.setBank, hin, if_true, h]; rw [e1]
    · have := setSr_keepsMem c1 (srSet (srSet (srSet (srSet (srSet c1.sr srIE false) srGVT false) srLA false) srRCA false) srSB true)
      have h2 : KeepsMem c c1 := by rw [e1]; exact ⟨rfl, rfl, rfl⟩
      exact h2.trans this
    · have : (c1.setSr (srSet (srSet (srSet (srSet (srSet c1.sr srIE false) srGVT false) srLA false) srRCA false) srSB true)).sr = _ := Core.setSr_sr _ _
      rw [show (({ c1.setSr (srSet (srSet (srSet (srSet (srSet c1.sr srIE false) srGVT false) srLA false) srRCA false) srSB true) with pc := 8 * p } : Core)).sr
        = (c1.setSr (srSet (srSet (srSet (srSet (srSet c1.sr srIE false) srGVT false) srLA false) srRCA false) srSB true)).sr from rfl, this, hs]
      exact hb _
  · have h' : c.inShadow = false := by simpa using h
    have e : ∃ c1 : Core, c.enter p = { c1.setSr (srSet (srSet (srSet (srSet (srSet c1.sr srIE false) srGVT false) srLA false) srRCA false) srSB true) with pc := 8 * p }
        ∧ c1 = { c with stack := BitVec.ofNat 15 c.pc :: c.stack, win := [], cacheOk := false, filling := false, waiting := false, handlers := p :: c.handlers, slots := 0, branch := none,
                        shadow := { c.shadow with sr := c.main.sr }, inShadow := true } := by
      refine ⟨_, ?_, rfl⟩
      unfold Core.enter
      simp only [h', Bool.false_eq_true, if_false]
    obtain ⟨c1, e, e1⟩ := e
    have hs : c1.sr = c.sr := by rw [e1]; simp [Core.sr, Core.bank, h']
    have hin : c1.inShadow = true := by rw [e1]
    rw [e]
    refine ⟨rfl, ?_, ?_, ?_, ?_, ?_, ?_, fun _ => ?_, ?_⟩
    · simp only [Core.setSr, Core.setBank_stack]; rw [e1]
    · simp only [Core.setSr, Core.setBank, hin, if_true]
    · simp only [Core.setSr, Core.setBank, hin, if_true]; rw [e1]
    · simp only [Core.setSr, Core.setBank, hin, if_true]; rw [e1]
    · simp only [Core.setSr, Core.setBank, hin, if_true, h', Bool.false_eq_true, if_false]; rw [e1]
    · have := setSr_keepsMem c1 (srSet (srSet (srSet (srSet (srSet c1.sr srIE false) srGVT false) srLA false) srRCA false) srSB true)
      have h2 : KeepsMem c c1 := by rw [e1]; exact ⟨rfl, rfl, rfl⟩
      exact h2.trans this
    · simp only [Core.setSr, Core.setBank, hin, if_true]; rw [e1]
    · have : (c1.setSr (srSet (srSet (srSet (srSet (srSet c1.sr srIE false) srGVT false) srLA false) srRCA false) srSB true)).sr = _ := Core.setSr_sr _ _
      rw [show (({ c1.setSr (srSet (srSet (srSet (srSet (srSet c1.sr srIE false) srGVT false) srLA false) srRCA false) srSB true) with pc := 8 * p } : Core)).sr
        = (c1.setSr (srSet (srSet (srSet (srSet (srSet c1.sr srIE false) srGVT false) srLA false) srRCA false) srSB true)).sr from rfl, this, hs]
      exact hb _

theorem State.fld_unbar (s : State) (c : Nat) (g : Fld) (hg : outRl g = true) : (s.unbar c).fld g = s.fld g := by
  unfold State.unbar
  split
  · rfl
  · split
    · rw [State.fld_raise _ _ _ _ _ _ _ _ _ hg (.inr (.inr (.inl rfl)))]; rfl
    · rfl

/-- The scan for a preemption writes no register field outside RL_. -/
theorem State.fld_preemptScan (s : State) (c : Nat) (g : Fld) (hg : outRl g = true) : (s.preemptScan c).fld g = s.fld g := by
  unfold State.preemptScan
  dsimp only
  split
  · exact State.fld_unbar _ _ _ hg
  · split
    · split
      · exact State.fld_unbar _ _ _ hg
      · exact State.fld_unbar _ _ _ hg
    · exact State.fld_unbar _ _ _ hg

/-- A fold whose every step keeps a part of the state keeps it. -/
theorem foldl_keeps {α β : Type} (π : State → β) (f : State → α → State) (h : ∀ s x, π (f s x) = π s) (l : List α) (s : State) :
    π (l.foldl f s) = π s := by
  induction l generalizing s with
  | nil => rfl
  | cons a l ih => rw [List.foldl_cons, ih, h]

theorem State.fld_budgetCheck (s : State) (g : Fld) (hg : outRl g = true) : s.budgetCheck.fld g = s.fld g := by
  unfold State.budgetCheck
  dsimp only
  split
  · rfl
  · split
    · rw [State.fld_raise _ _ _ _ _ _ _ _ _ hg (.inl rfl)]; rfl
    · rfl

theorem State.fld_holdover (s : State) (g : Fld) (hg : outRl g = true)
    (h : ∀ f ∈ [F.CP_HOLD_FREQ, F.CP_STATUS_STATE, F.CP_EVENT_SRC_LOST, F.CP_EVENT_HOLDOVER], f.key ≠ g.key) : (s.holdover).fld g = s.fld g := by
  unfold State.holdover
  dsimp only
  split
  · rw [State.fld_event_ne _ _ _ _ _ _ _ _ hg (by decide) (h _ (by simp)), State.fld_setFlag_ne _ _ _ _ (h _ (by simp)), State.fld_setFld_ne _ _ _ _ (h _ (by simp))]
    show (State.setFld _ _ _).fld g = _
    rw [State.fld_setFld_ne _ _ _ _ (h _ (by simp))]
  · rfl

theorem State.fld_acquire (s : State) (g : Fld) (h : F.CP_STATUS_STATE.key ≠ g.key) : (s.acquire).fld g = s.fld g := by
  unfold State.acquire
  dsimp only
  split
  · rw [State.fld_setFld_ne _ _ _ _ h]; rfl
  · rfl

end Sys2Proof.Machine
end

