-- ==== Sys2Proof/Laws/FrameTakeover.lean ====
section
/-! SUPPORT. The frame lemmas of the takeover and Lantern (see Laws/Frame.lean). -/
set_option Elab.async false

namespace Sys2Proof.Machine

theorem execAttachCheck_fr {W : Nat} {s₀ : State} (i : Fin 4) (ctxs : List Nat) (exact : Nat) (major : Bool) (minor : Bool) (s : State) (hs : State.Fr W s₀ s)
    (hw : partSub 0x18008 W = true := by first | exact partSub_refl _ | exact partSub_trans (by with_reducible assumption) (by exact rfl)) : OutFr W s₀ (execAttachCheck i ctxs exact major minor s) := by
  unfold execAttachCheck
  lift_lets
  intro x0 x1 x2 x3 x4
  have h5 : State.Fr W s₀ x4 := (State.setFld_fr _ _ _ hs)
  clear_value x4
  intro x6
  have h7 : State.Fr W s₀ x6 := (State.setSlotState_fr _ _ _ (State.clearSlot_fr _ _ h5))
  clear_value x6
  exact fr_next (fr_ite (fr_ite (fr_ite (State.twCount_fr _ _ _ h7) h7) (State.event_fr _ _ _ _ _ _ _ (State.twCount_fr _ _ _ h5))) hs)

theorem execFenceRepeat_fr {W : Nat} {s₀ : State} (i : Fin 4) (s : State) (hs : State.Fr W s₀ s)
    (hw : partSub 0x83c008 W = true := by first | exact partSub_refl _ | exact partSub_trans (by with_reducible assumption) (by exact rfl)) : OutFr W s₀ (execFenceRepeat i s) := by
  unfold execFenceRepeat
  exact fr_next (fr_ite (State.sendFence_fr _ _ hs) hs)

theorem execFenceSlow_fr {W : Nat} {s₀ : State} (i : Fin 4) (s : State) (hs : State.Fr W s₀ s)
    (hw : partSub 0x18008 W = true := by first | exact partSub_refl _ | exact partSub_trans (by with_reducible assumption) (by exact rfl)) : OutFr W s₀ (execFenceSlow i s) := by
  unfold execFenceSlow
  lift_lets
  intro x0
  exact fr_next (fr_ite (State.raise_fr _ _ _ _ _ _ _ _ (State.setTwSlot_fr _ _ _ hs)) hs)

theorem execDirectLinkEvidence_fr {W : Nat} {s₀ : State} (i : Fin 4) (s : State) (hs : State.Fr W s₀ s)
    (hw : partSub 0x85c008 W = true := by first | exact partSub_refl _ | exact partSub_trans (by with_reducible assumption) (by exact rfl)) : OutFr W s₀ (execDirectLinkEvidence i s) := by
  unfold execDirectLinkEvidence
  lift_lets
  intro x0 x1
  exact fr_next (fr_ite (State.confirmFence_fr _ _ _ hs) hs)

theorem State.takeover_fr {W : Nat} {s₀ : State} (s : State) (i : Nat) (force : Bool) (hs : State.Fr W s₀ s)
    (hw : partSub 0x87c008 W = true := by first | exact partSub_refl _ | exact partSub_trans (by with_reducible assumption) (by exact rfl)) : State.Fr W s₀ (State.takeover s i force) := by
  unfold State.takeover
  lift_lets
  intro x0
  have h1 : State.Fr W s₀ x0 := (State.suspect_fr _ _ hs)
  clear_value x0
  exact fr_ite (State.configRefused_fr _ _ _ hs) (fr_ite (State.confirmFence_fr _ _ _ h1) h1)

theorem execTakeover_fr {W : Nat} {s₀ : State} (i : Fin 4) (s : State) (hs : State.Fr W s₀ s)
    (hw : partSub 0x87c008 W = true := by first | exact partSub_refl _ | exact partSub_trans (by with_reducible assumption) (by exact rfl)) : OutFr W s₀ (execTakeover i s) := by
  unfold execTakeover
  exact fr_next (State.takeover_fr _ _ _ hs)

theorem execForce_fr {W : Nat} {s₀ : State} (i : Fin 4) (s : State) (hs : State.Fr W s₀ s)
    (hw : partSub 0x87c008 W = true := by first | exact partSub_refl _ | exact partSub_trans (by with_reducible assumption) (by exact rfl)) : OutFr W s₀ (execForce i s) := by
  unfold execForce
  exact fr_next (State.takeover_fr _ _ _ hs)

theorem State.installAddrs_fr {W : Nat} {s₀ : State} (s : State) (i : Nat) (hs : State.Fr W s₀ s)
    (hw : partSub 0x8 W = true := by first | exact partSub_refl _ | exact partSub_trans (by with_reducible assumption) (by exact rfl)) : State.Fr W s₀ (State.installAddrs s i) := by
  unfold State.installAddrs
  refine fr_foldl ?_ hs
  · intro y0 y1 g2
    lift_lets
    intro x3
    have h4 : State.Fr W s₀ x3 := (fr_ite (State.setFlag_fr _ _ _ g2) g2)
    clear_value x3
    exact fr_ite g2 (fr_ite (State.setFlag_fr _ _ _ h4) h4)

theorem State.installTables_fr {W : Nat} {s₀ : State} (s : State) (i : Nat) (hs : State.Fr W s₀ s)
    (hw : partSub 0x10a00 W = true := by first | exact partSub_refl _ | exact partSub_trans (by with_reducible assumption) (by exact rfl)) : State.Fr W s₀ (State.installTables s i) := by
  unfold State.installTables
  lift_lets
  intro x0 x1 x2 x3 x4
  exact fr_mk rfl rfl rfl rfl hs

theorem State.installChan_fr {W : Nat} {s₀ : State} (s : State) (i : Nat) (n : Nat) (c : ShChan) (hs : State.Fr W s₀ s)
    (hw : partSub 0x81c8 W = true := by first | exact partSub_refl _ | exact partSub_trans (by with_reducible assumption) (by exact rfl)) : State.Fr W s₀ (State.installChan s i n c) := by
  unfold State.installChan
  lift_lets
  intro x0 x1 x2
  exact fr_ite (State.adopt_fr _ _ hs) (State.raise_fr _ _ _ _ _ _ _ _ (State.incS_fr _ _ _ hs))

theorem State.feedLog_fr {W : Nat} {s₀ : State} (s : State) (i : Nat) (tagOks : List Bool) (hs : State.Fr W s₀ s)
    (hw : partSub 0x8388 W = true := by first | exact partSub_refl _ | exact partSub_trans (by with_reducible assumption) (by exact rfl)) : State.Fr W s₀ (State.feedLog s i tagOks) := by
  unfold State.feedLog
  lift_lets
  intro x0
  refine fr_foldl ?_ hs
  · intro y1 y2 g3
    exact State.feedFrame_fr _ _ _ _ _ g3

theorem State.install_fr {W : Nat} {s₀ : State} (s : State) (i : Nat) (tagOks : List Bool) (hs : State.Fr W s₀ s)
    (hw : partSub 0xbffff8 W = true := by first | exact partSub_refl _ | exact partSub_trans (by with_reducible assumption) (by exact rfl)) : State.Fr W s₀ (State.install s i tagOks) := by
  unfold State.install
  lift_lets
  intro x0
  have h1 : State.Fr W s₀ x0 := (State.endTrans_fr _ _ (State.setFld_fr _ _ _ hs))
  clear_value x0
  intro x2
  have h3 : State.Fr W s₀ x2 := (State.installAddrs_fr _ _ (State.installTables_fr _ _ h1))
  clear_value x2
  intro x4
  have h5 : State.Fr W s₀ x4 := by
    dsimp -zeta only [x4]
    refine fr_foldl ?_ h3
    · intro y6 y7 g8
      exact State.installChan_fr _ _ _ _ g8
  clear_value x4
  exact State.feedLog_fr _ _ _ (State.budgetCheck_fr _ h5)

theorem execSlotInstalled_fr {W : Nat} {s₀ : State} (i : Fin 4) (tagOks : List Bool) (s : State) (hs : State.Fr W s₀ s)
    (hw : partSub 0xbffff8 W = true := by first | exact partSub_refl _ | exact partSub_trans (by with_reducible assumption) (by exact rfl)) : OutFr W s₀ (execSlotInstalled i tagOks s) := by
  unfold execSlotInstalled
  exact fr_next (fr_ite (State.install_fr _ _ _ hs) hs)

theorem execIngressLogExpiry_fr {W : Nat} {s₀ : State} (i : Fin 4) (s : State) (hs : State.Fr W s₀ s)
    (hw : partSub 0x10008 W = true := by first | exact partSub_refl _ | exact partSub_trans (by with_reducible assumption) (by exact rfl)) : OutFr W s₀ (execIngressLogExpiry i s) := by
  unfold execIngressLogExpiry
  lift_lets
  intro x0 x1 x2 x3
  exact fr_next (State.setFld_fr _ _ _ (State.setTwSlot_fr _ _ _ hs))

theorem execGratuitousAnnounce_fr {W : Nat} {s₀ : State} (i : Fin 4) (n : BitVec 8) (s : State) (hs : State.Fr W s₀ s)
    (hw : partSub 0x818008 W = true := by first | exact partSub_refl _ | exact partSub_trans (by with_reducible assumption) (by exact rfl)) : OutFr W s₀ (execGratuitousAnnounce i n s) := by
  unfold execGratuitousAnnounce
  lift_lets
  intro x0
  refine fr_next ?_
  · split
    · exact hs
    · lift_lets
      intro x1
      have h2 : State.Fr W s₀ x1 := (State.setTwSlot_fr _ _ _ hs)
      clear_value x1
      refine fr_ite (fr_foldl ?_ h2) hs
      · intro y3 y4 g5
        exact State.twCount_fr _ _ _ (State.emit_fr _ _ g5)

theorem State.linkWord0_fr {W : Nat} {s₀ : State} (s : State) (l : Nat) (v : Nat) (hs : State.Fr W s₀ s)
    (hw : partSub 0x18008 W = true := by first | exact partSub_refl _ | exact partSub_trans (by with_reducible assumption) (by exact rfl)) : State.Fr W s₀ (State.linkWord0 s l v) := by
  unfold State.linkWord0
  lift_lets
  intro x0 x1 x2 x3
  have h4 : State.Fr W s₀ x3 := (State.setLink_fr _ _ _ hs)
  clear_value x3
  exact fr_ite (State.configRefused_fr _ _ _ hs) (fr_ite (State.linkState_fr _ _ _ (State.setLink_fr _ _ _ h4)) (fr_ite (State.linkState_fr _ _ _ h4) h4))

theorem State.linkWrite_fr {W : Nat} {s₀ : State} (s : State) (l : Nat) (i : Nat) (v : Nat) (hs : State.Fr W s₀ s)
    (hw : partSub 0x18008 W = true := by first | exact partSub_refl _ | exact partSub_trans (by with_reducible assumption) (by exact rfl)) : State.Fr W s₀ (State.linkWrite s l i v) := by
  unfold State.linkWrite
  lift_lets
  intro x0
  clear_value x0
  intro x1
  clear_value x1
  intro x2
  clear_value x2
  intro x3
  clear_value x3
  intro x4
  have h5 : State.Fr W s₀ x4 := (State.setLink_fr _ _ _ hs)
  clear_value x4
  refine fr_ite (State.linkWord0_fr _ _ _ hs) (fr_ite hs (fr_ite (State.configRefused_fr _ _ _ hs) ?_))
  · split
    · exact h5
    · exact State.reservedEncoding_fr _ _ _ h5

theorem execTwLinkDataAccess_fr {W : Nat} {s₀ : State} (write : Bool) (v : BitVec 32) (s : State) (hs : State.Fr W s₀ s)
    (hw : partSub 0x418008 W = true := by first | exact partSub_refl _ | exact partSub_trans (by with_reducible assumption) (by exact rfl)) : OutFr W s₀ (execTwLinkDataAccess write v s) := by
  unfold execTwLinkDataAccess
  lift_lets
  intro x0 x1 x2
  have h3 : State.Fr W s₀ x2 := (fr_ite (State.linkWrite_fr _ _ _ _ hs) (fr_mk rfl rfl rfl rfl hs))
  clear_value x2
  exact fr_next (State.setFld_fr _ _ _ h3)

theorem execTwKeyDataWrite_fr {W : Nat} {s₀ : State} (v : BitVec 32) (s : State) (hs : State.Fr W s₀ s)
    (hw : partSub 0x10008 W = true := by first | exact partSub_refl _ | exact partSub_trans (by with_reducible assumption) (by exact rfl)) : OutFr W s₀ (execTwKeyDataWrite v s) := by
  unfold execTwKeyDataWrite
  lift_lets
  intro x0 x1 x2 x3
  have h4 : State.Fr W s₀ x3 := (fr_mk rfl rfl rfl rfl hs)
  clear_value x3
  intro x5
  have h6 : State.Fr W s₀ x5 := (fr_ite (State.setFlag_fr _ _ _ h4) h4)
  clear_value x5
  exact fr_next (State.setFld_fr _ _ _ h6)

theorem State.epochSwitch_fr {W : Nat} {s₀ : State} (s : State) (hs : State.Fr W s₀ s)
    (hw : partSub 0x18008 W = true := by first | exact partSub_refl _ | exact partSub_trans (by with_reducible assumption) (by exact rfl)) : State.Fr W s₀ (State.epochSwitch s) := by
  unfold State.epochSwitch
  lift_lets
  intro x0 x1 x2
  have h3 : State.Fr W s₀ x2 := (fr_mk rfl rfl rfl rfl hs)
  clear_value x2
  intro x4
  have h5 : State.Fr W s₀ x4 := (State.setFld_fr _ _ _ h3)
  clear_value x4
  exact fr_ite (State.setFlag_fr _ _ _ (State.setFlag_fr _ _ _ h5)) (State.configRefused_fr _ _ _ hs)

theorem execEpochSwitch_fr {W : Nat} {s₀ : State} (s : State) (hs : State.Fr W s₀ s)
    (hw : partSub 0x18008 W = true := by first | exact partSub_refl _ | exact partSub_trans (by with_reducible assumption) (by exact rfl)) : OutFr W s₀ (execEpochSwitch s) := by
  unfold execEpochSwitch
  exact fr_next (State.epochSwitch_fr _ hs)

theorem execMigrate_fr {W : Nat} {s₀ : State} (c : HCmd) (s : State) (hs : State.Fr W s₀ s)
    (hw : partSub 0x81c188 W = true := by first | exact partSub_refl _ | exact partSub_trans (by with_reducible assumption) (by exact rfl)) : OutFr W s₀ (execMigrate c s) := by
  unfold execMigrate
  lift_lets
  intro x0
  refine fr_next (State.jobCommand_fr _ _ _ _ _ _ _ _ _ _ hs ?_)
  · intro y1 y2 g3
    split
    · exact State.complete_fr _ _ _ _ _ g3
    · refine fr_ite (State.complete_fr _ _ _ _ _ g3) ?_
      · split
        · exact State.complete_fr _ _ _ _ _ g3
        · lift_lets
          intro x4
          have h5 : State.Fr W s₀ x4 := (State.addJob_fr _ _ (State.putChan_fr _ _ _ g3))
          clear_value x4
          exact fr_ite (State.complete_fr _ _ _ _ _ g3) (State.migSend_fr _ _ _ h5)

theorem execMigrateSwitch_fr {W : Nat} {s₀ : State} (n : BitVec 13) (s : State) (hs : State.Fr W s₀ s)
    (hw : partSub 0x91c1d8 W = true := by first | exact partSub_refl _ | exact partSub_trans (by with_reducible assumption) (by exact rfl)) : OutFr W s₀ (execMigrateSwitch n s) := by
  unfold execMigrateSwitch
  refine fr_next ?_
  generalize s.migJob n.toNat = a
  generalize s.chan n.toNat = b
  match a, b with
  | none, _ => exact hs
  | some _, none => exact hs
  | some j, some ch =>
    exact fr_ite (State.twCount_fr _ _ _ (State.jobProgress_fr _ _ _ (State.setJob_fr _ _ (State.migCheckpoint_fr _ _ _ _ _ _ _
      (State.orphanCells_fr _ _ (State.cancelEntries_fr _ _ (State.putChan_fr _ _ _ hs))))))) hs

theorem execMigrateForwardEnd_fr {W : Nat} {s₀ : State} (n : BitVec 13) (s : State) (hs : State.Fr W s₀ s)
    (hw : partSub 0x90c1d8 W = true := by first | exact partSub_refl _ | exact partSub_trans (by with_reducible assumption) (by exact rfl)) : OutFr W s₀ (execMigrateForwardEnd n s) := by
  unfold execMigrateForwardEnd
  lift_lets
  intro x0 x1
  have h2 : State.Fr W s₀ x1 := by
    dsimp -zeta only [x1]
    split
    · exact fr_ite hs (State.beginClose_fr _ _ _ hs)
    · exact hs
  clear_value x1
  refine fr_next ?_
  · split
    · lift_lets
      intro x3
      have h4 : State.Fr W s₀ x3 := (State.setJob_fr _ _ h2)
      clear_value x3
      exact fr_ite (State.endJob_fr _ _ _ _ _ h4) hs
    · exact hs

theorem execEvacuate_fr {W : Nat} {s₀ : State} (c : HCmd) (s : State) (hs : State.Fr W s₀ s)
    (hw : partSub 0x80c008 W = true := by first | exact partSub_refl _ | exact partSub_trans (by with_reducible assumption) (by exact rfl)) : OutFr W s₀ (execEvacuate c s) := by
  unfold execEvacuate
  refine fr_next (State.jobCommand_fr _ _ _ _ _ _ _ _ _ _ hs ?_)
  · intro y0 y1 g2
    refine fr_ite (State.complete_fr _ _ _ _ _ g2) ?_
    · split
      · exact State.complete_fr _ _ _ _ _ g2
      · lift_lets
        intro x3 x4
        exact fr_ite (State.complete_fr _ _ _ _ _ g2) (State.addJob_fr _ _ g2)

theorem execEvacuateFence_fr {W : Nat} {s₀ : State} (s : State) (hs : State.Fr W s₀ s)
    (hw : partSub 0x85c008 W = true := by first | exact partSub_refl _ | exact partSub_trans (by with_reducible assumption) (by exact rfl)) : OutFr W s₀ (execEvacuateFence s) := by
  unfold execEvacuateFence
  refine fr_next ?_
  · split
    · lift_lets
      intro x0
      have h1 : State.Fr W s₀ x0 := (State.trigger_fr _ _ (State.setJob_fr _ _ (State.fabQueue_fr _ _ _ _ hs)))
      clear_value x0
      intro x2
      exact fr_ite (fr_mk rfl rfl rfl rfl h1) hs
    · exact hs

theorem execEvacuateFenceRepeat_fr {W : Nat} {s₀ : State} (s : State) (hs : State.Fr W s₀ s)
    (hw : partSub 0x10000 W = true := by first | exact partSub_refl _ | exact partSub_trans (by with_reducible assumption) (by exact rfl)) : OutFr W s₀ (execEvacuateFenceRepeat s) := by
  unfold execEvacuateFenceRepeat
  refine fr_next ?_
  · split
    · lift_lets
      intro x0
      have h1 : State.Fr W s₀ x0 := (State.fabQueue_fr _ _ _ _ hs)
      clear_value x0
      intro x2
      exact fr_ite (fr_mk rfl rfl rfl rfl h1) hs
    · exact hs

theorem execCheckpointAll_fr {W : Nat} {s₀ : State} (c : HCmd) (s : State) (hs : State.Fr W s₀ s)
    (hw : partSub 0x80c008 W = true := by first | exact partSub_refl _ | exact partSub_trans (by with_reducible assumption) (by exact rfl)) : OutFr W s₀ (execCheckpointAll c s) := by
  unfold execCheckpointAll
  refine fr_next (State.jobCommand_fr _ _ _ _ _ _ _ _ _ _ hs ?_)
  · intro y0 y1 g2
    lift_lets
    intro x3 x4 x5
    have h6 : State.Fr W s₀ x5 := (State.addJob_fr _ _ g2)
    clear_value x5
    split
    · exact fr_ite (State.complete_fr _ _ _ _ _ g2) (State.endJob_fr _ _ _ _ _ (State.addJob_fr _ _ g2))
    · exact fr_ite (State.checkpointAllDone_fr _ _ h6) h6

theorem State.mailboxIgnored_fr {W : Nat} {s₀ : State} (s : State) (op : Nat) (hs : State.Fr W s₀ s)
    (hw : partSub 0x208008 W = true := by first | exact partSub_refl _ | exact partSub_trans (by with_reducible assumption) (by exact rfl)) : State.Fr W s₀ (State.mailboxIgnored s op) := by
  unfold State.mailboxIgnored
  lift_lets
  intro x0
  have h1 : State.Fr W s₀ x0 := (State.setFlag_fr _ _ _ (State.incWrap_fr _ _ _ _ hs))
  clear_value x0
  intro x2 x3
  exact fr_ite h1 (State.event_fr _ _ _ _ _ _ _ (fr_mk rfl rfl rfl rfl h1))

theorem State.mailbox_fr {W : Nat} {s₀ : State} (s : State) (op : Nat) (f : State → State × Nat × List Nat) (hs : State.Fr W s₀ s) (hf : ∀ (x0 : State), State.Fr W s₀ x0 → State.Fr W s₀ ((f x0).1))
    (hw : partSub 0x208008 W = true := by first | exact partSub_refl _ | exact partSub_trans (by with_reducible assumption) (by exact rfl)) : State.Fr W s₀ (State.mailbox s op f) := by
  unfold State.mailbox
  lift_lets
  intro x0 x1
  have h2 : State.Fr W s₀ x1.1 := (hf _ (State.setFlag_fr _ _ _ (State.setFld_fr _ _ _ hs)))
  clear_value x1
  intro x3 x4
  have h5 : State.Fr W s₀ x4 := h2
  clear_value x4
  intro x6
  exact fr_ite hs (fr_ite (State.mailboxIgnored_fr _ _ hs) (fr_mk rfl rfl rfl rfl h5))

theorem State.lanternChan_fr {W : Nat} {s₀ : State} (s : State) (ok : Bool) (f : State → Nat → Chan → State × Nat × List Nat) (hs : State.Fr W s₀ s) (hf : ∀ (x0 : State) (x1 : Nat) (x2 : Chan), State.Fr W s₀ x0 → State.Fr W s₀ ((f x0 x1 x2).1))
    (hw : partSub 0x0 W = true := by first | exact partSub_refl _ | exact partSub_trans (by with_reducible assumption) (by exact rfl)) : State.Fr W s₀ (State.lanternChan s ok f).1 := by
  unfold State.lanternChan
  lift_lets
  intro x0
  refine fr_iteP hs (fr_iteP hs ?_)
  · split
    · exact hs
    · exact fr_iteP hs (fr_iteP hs (hf _ _ _ hs))

theorem State.lanternOpen_fr {W : Nat} {s₀ : State} (s : State) (hs : State.Fr W s₀ s)
    (hw : partSub 0x989c8 W = true := by first | exact partSub_refl _ | exact partSub_trans (by with_reducible assumption) (by exact rfl)) : State.Fr W s₀ (State.lanternOpen s).1 := by
  unfold State.lanternOpen
  extract_lets n law r v pt
  clear_value n law r
  split
  · exact hs
  split
  · exact hs
  split
  · exact hs
  · extract_lets s1
    have h1 : State.Fr W s₀ s1 := State.openChannel_fr _ _ _ _ hs
    clear_value s1
    split
    · exact State.slotEntryWrite_fr _ _ _ _ hs
    · split
      · exact h1
      · exact State.slotEntryWrite_fr _ _ _ _ (State.setCtxWord_fr _ _ _ _ (State.setCtxWord_fr _ _ _ _ h1))

theorem State.dropFlows_fr {W : Nat} {s₀ : State} (s : State) (n : Nat) (hs : State.Fr W s₀ s)
    (hw : partSub 0x10108 W = true := by first | exact partSub_refl _ | exact partSub_trans (by with_reducible assumption) (by exact rfl)) : State.Fr W s₀ (State.dropFlows s n) := by
  unfold State.dropFlows
  refine fr_foldl ?_ hs
  · intro y0 y1 g2
    refine fr_foldl ?_ g2
    · intro y3 y4 g5
      lift_lets
      intro x6
      exact fr_ite (State.mirrorFlow_fr _ _ _ (State.setFld_fr _ _ _ (State.ftDel_fr _ _ _ g5))) g5

theorem State.lanternSetIp_fr {W : Nat} {s₀ : State} (s : State) (n : Nat) (hs : State.Fr W s₀ s)
    (hw : partSub 0x18108 W = true := by first | exact partSub_refl _ | exact partSub_trans (by with_reducible assumption) (by exact rfl)) : State.Fr W s₀ (State.lanternSetIp s n).1 := by
  unfold State.lanternSetIp
  extract_lets remote plane ports
  clear_value remote plane ports
  split
  · exact hs
  · split
    · exact State.unmappedEvent_fr _ _ hs
    · extract_lets src w r
      rename_i s1 _ _
      have h1 : State.Fr W s₀ s1 := fr_foldl (fun x y h => State.writeTemplate_fr _ _ _ _ h) hs
      clear_value s1 w
      have h2 : State.Fr W s₀ r.1 := State.ftInsert_fr _ _ (State.dropFlows_fr _ _ h1)
      clear_value r
      exact fr_ite (State.mirrorFlow_fr _ _ _ h2) h2

theorem State.lanternStats_fr {W : Nat} {s₀ : State} (s : State) (n : Nat) (c : Chan) (hs : State.Fr W s₀ s)
    (hw : partSub 0x80 W = true := by first | exact partSub_refl _ | exact partSub_trans (by with_reducible assumption) (by exact rfl)) : State.Fr W s₀ (State.lanternStats s n c).1 := by
  unfold State.lanternStats
  lift_lets
  intro x0
  exact fr_ite (State.setChan_fr _ _ _ hs) hs

theorem State.lanternEvent_fr {W : Nat} {s₀ : State} (s : State) (hs : State.Fr W s₀ s)
    (hw : partSub 0x200000 W = true := by first | exact partSub_refl _ | exact partSub_trans (by with_reducible assumption) (by exact rfl)) : State.Fr W s₀ (State.lanternEvent s).1 := by
  unfold State.lanternEvent
  split
  · exact hs
  · lift_lets
    intro x0
    exact fr_mk rfl rfl rfl rfl hs

theorem execMailboxNop_fr {W : Nat} {s₀ : State} (s : State) (hs : State.Fr W s₀ s)
    (hw : partSub 0x208008 W = true := by first | exact partSub_refl _ | exact partSub_trans (by with_reducible assumption) (by exact rfl)) : OutFr W s₀ (execMailboxNop s) := by
  unfold execMailboxNop
  refine fr_next (State.mailbox_fr _ _ _ hs ?_)
  · intro y0 g1
    exact g1

theorem execGetVersion_fr {W : Nat} {s₀ : State} (s : State) (hs : State.Fr W s₀ s)
    (hw : partSub 0x208008 W = true := by first | exact partSub_refl _ | exact partSub_trans (by with_reducible assumption) (by exact rfl)) : OutFr W s₀ (execGetVersion s) := by
  unfold execGetVersion
  refine fr_next (State.mailbox_fr _ _ _ hs ?_)
  · intro y0 g1
    exact g1

theorem execLanternChOpen_fr {W : Nat} {s₀ : State} (s : State) (hs : State.Fr W s₀ s)
    (hw : partSub 0x2989c8 W = true := by first | exact partSub_refl _ | exact partSub_trans (by with_reducible assumption) (by exact rfl)) : OutFr W s₀ (execLanternChOpen s) := by
  unfold execLanternChOpen
  refine fr_next (State.mailbox_fr _ _ _ hs ?_)
  · intro y0 g1
    exact State.lanternOpen_fr _ g1

theorem execLanternChClose_fr {W : Nat} {s₀ : State} (s : State) (hs : State.Fr W s₀ s)
    (hw : partSub 0xb0c1d8 W = true := by first | exact partSub_refl _ | exact partSub_trans (by with_reducible assumption) (by exact rfl)) : OutFr W s₀ (execLanternChClose s) := by
  unfold execLanternChClose
  refine fr_next (State.mailbox_fr _ _ _ hs ?_)
  · intro y0 g1
    refine State.lanternChan_fr _ _ _ g1 ?_
    · intro y2 y3 y4 g5
      exact State.beginClose_fr _ _ _ g5

theorem execChSetIp_fr {W : Nat} {s₀ : State} (s : State) (hs : State.Fr W s₀ s)
    (hw : partSub 0x218108 W = true := by first | exact partSub_refl _ | exact partSub_trans (by with_reducible assumption) (by exact rfl)) : OutFr W s₀ (execChSetIp s) := by
  unfold execChSetIp
  refine fr_next (State.mailbox_fr _ _ _ hs ?_)
  · intro y0 g1
    refine State.lanternChan_fr _ _ _ g1 ?_
    · intro y2 y3 y4 g5
      exact State.lanternSetIp_fr _ _ g5

theorem execChGain_fr {W : Nat} {s₀ : State} (s : State) (hs : State.Fr W s₀ s)
    (hw : partSub 0x208108 W = true := by first | exact partSub_refl _ | exact partSub_trans (by with_reducible assumption) (by exact rfl)) : OutFr W s₀ (execChGain s) := by
  unfold execChGain
  refine fr_next (State.mailbox_fr _ _ _ hs ?_)
  · intro y0 g1
    refine State.lanternChan_fr _ _ _ g1 ?_
    · intro y2 y3 y4 g5
      exact State.setCtxWord_fr _ _ _ _ g5

theorem execChEc_fr {W : Nat} {s₀ : State} (s : State) (hs : State.Fr W s₀ s)
    (hw : partSub 0x208108 W = true := by first | exact partSub_refl _ | exact partSub_trans (by with_reducible assumption) (by exact rfl)) : OutFr W s₀ (execChEc s) := by
  unfold execChEc
  refine fr_next (State.mailbox_fr _ _ _ hs ?_)
  · intro y0 g1
    refine State.lanternChan_fr _ _ _ g1 ?_
    · intro y2 y3 y4 g5
      exact State.setCtxWord_fr _ _ _ _ g5

theorem execChStats_fr {W : Nat} {s₀ : State} (s : State) (hs : State.Fr W s₀ s)
    (hw : partSub 0x208088 W = true := by first | exact partSub_refl _ | exact partSub_trans (by with_reducible assumption) (by exact rfl)) : OutFr W s₀ (execChStats s) := by
  unfold execChStats
  refine fr_next (State.mailbox_fr _ _ _ hs ?_)
  · intro y0 g1
    refine State.lanternChan_fr _ _ _ g1 ?_
    · intro y2 y3 y4 g5
      exact State.lanternStats_fr _ _ _ g5

theorem execEvtRead_fr {W : Nat} {s₀ : State} (s : State) (hs : State.Fr W s₀ s)
    (hw : partSub 0x208008 W = true := by first | exact partSub_refl _ | exact partSub_trans (by with_reducible assumption) (by exact rfl)) : OutFr W s₀ (execEvtRead s) := by
  unfold execEvtRead
  refine fr_next (State.mailbox_fr _ _ _ hs ?_)
  · intro y0 g1
    exact State.lanternEvent_fr _ g1

theorem execMailboxCompletion_fr {W : Nat} {s₀ : State} (s : State) (hs : State.Fr W s₀ s)
    (hw : partSub 0xa04008 W = true := by first | exact partSub_refl _ | exact partSub_trans (by with_reducible assumption) (by exact rfl)) : OutFr W s₀ (execMailboxCompletion s) := by
  unfold execMailboxCompletion
  lift_lets
  intro x0
  have h1 : State.Fr W s₀ x0 := (State.mailboxFinish_fr _ hs)
  clear_value x0
  exact fr_next (fr_ite (fr_ite (State.sendMsix_fr _ _ h1) h1) hs)

theorem State.mailboxStatRead_fr {W : Nat} {s₀ : State} (s : State) (hs : State.Fr W s₀ s)
    (hw : partSub 0x400008 W = true := by first | exact partSub_refl _ | exact partSub_trans (by with_reducible assumption) (by exact rfl)) : State.Fr W s₀ (State.mailboxStatRead s) := by
  unfold State.mailboxStatRead
  lift_lets
  intro x0 x1
  have h2 : State.Fr W s₀ x1 := (fr_mk rfl rfl rfl rfl hs)
  clear_value x1
  exact fr_ite (State.setFlag_fr _ _ _ h2) h2

theorem execLnMbxStatRead_fr {W : Nat} {s₀ : State} (s : State) (hs : State.Fr W s₀ s)
    (hw : partSub 0x400008 W = true := by first | exact partSub_refl _ | exact partSub_trans (by with_reducible assumption) (by exact rfl)) : OutFr W s₀ (execLnMbxStatRead s) := by
  unfold execLnMbxStatRead
  exact fr_next (State.mailboxStatRead_fr _ hs)

theorem State.mailboxWrite_fr {W : Nat} {s₀ : State} (s : State) (op : Nat) (hs : State.Fr W s₀ s)
    (hw : partSub 0xb9c9d8 W = true := by first | exact partSub_refl _ | exact partSub_trans (by with_reducible assumption) (by exact rfl)) : State.Fr W s₀ (State.mailboxWrite s op) := by
  have go : ∀ o : Host.Outcome State Fault Refusal, OutFr W s₀ o →
      State.Fr W s₀ (match o with
        | .next t => t
        | _ => s) := by
    intro o ho
    split
    · exact ho _ rfl
    · exact hs
  unfold State.mailboxWrite
  split
  · exact go _ (execMailboxNop_fr _ hs)
  · exact go _ (execGetVersion_fr _ hs)
  · exact go _ (execLanternChOpen_fr _ hs)
  · exact go _ (execLanternChClose_fr _ hs)
  · exact go _ (execChSetIp_fr _ hs)
  · exact go _ (execChGain_fr _ hs)
  · exact go _ (execChEc_fr _ hs)
  · exact go _ (execChStats_fr _ hs)
  · exact go _ (execEvtRead_fr _ hs)
  · exact State.mailbox_fr _ _ _ hs fun _ h => h

end Sys2Proof.Machine
end

