-- ==== Sys2Proof/Laws/FrameRegs.lean ====
section
/-! SUPPORT. The frame lemmas of the idle tick, the views and the registers (see Laws/Frame.lean). -/
set_option Elab.async false

namespace Sys2Proof.Machine

theorem State.powerPeak_fr {W : Nat} {s₀ : State} (s : State) (hs : State.Fr W s₀ s)
    (hw : partSub 0x8 W = true := by first | exact partSub_refl _ | exact partSub_trans (by with_reducible assumption) (by exact rfl)) : State.Fr W s₀ (State.powerPeak s) := by
  unfold State.powerPeak
  exact State.setFld_fr _ _ _ hs

theorem State.idle_fr {W : Nat} {s₀ : State} (s : State) (hs : State.Fr W s₀ s)
    (hw : partSub 0x41a W = true := by first | exact partSub_refl _ | exact partSub_trans (by with_reducible assumption) (by exact rfl)) : State.Fr W s₀ (State.idle s) := by
  unfold State.idle
  lift_lets
  intro x0
  have h1 : State.Fr W s₀ x0 := (State.powerPeak_fr _ (fr_mk rfl rfl rfl rfl hs))
  clear_value x0
  intro x2
  have h3 : State.Fr W s₀ x2 := (State.compassPeriod_fr _ h1)
  clear_value x2
  exact fr_ite h1 (fr_mk rfl rfl rfl rfl h3)

theorem State.readEffects_fr {W : Nat} {s₀ : State} (s : State) (a : Nat) (l : List FSpec) (hs : State.Fr W s₀ s)
    (hw : partSub 0x4008 W = true := by first | exact partSub_refl _ | exact partSub_trans (by with_reducible assumption) (by exact rfl)) : State.Fr W s₀ (State.readEffects s a l) := by
  unfold State.readEffects
  lift_lets
  intro x0
  have h1 : State.Fr W s₀ x0 := by
    dsimp -zeta only [x0]
    refine fr_foldl ?_ hs
    · intro y2 y3 g4
      exact State.setFld_fr _ _ _ g4
  clear_value x0
  intro x5
  split
  · lift_lets
    intro x6
    exact fr_mk rfl rfl rfl rfl h1
  · refine fr_ite (State.setFld_fr _ _ _ (State.setFld_fr _ _ _ h1)) (fr_ite (State.setFld_fr _ _ _ h1) (fr_ite (State.setFld_fr _ _ _ h1) ?_))
    · split
      · exact State.setFlag_fr _ _ _ h1
      · exact State.setFld_fr _ _ _ h1
      · exact h1

theorem State.readReg_fr {W : Nat} {s₀ : State} (s : State) (a : Nat) (hs : State.Fr W s₀ s)
    (hw : partSub 0x404008 W = true := by first | exact partSub_refl _ | exact partSub_trans (by with_reducible assumption) (by exact rfl)) : State.Fr W s₀ (State.readReg s a) := by
  unfold State.readReg
  lift_lets
  intro x0
  have h1 : State.Fr W s₀ x0 := (fr_mk rfl rfl rfl rfl hs)
  clear_value x0
  refine fr_ite ?_ h1
  · split
    · exact State.readEffects_fr _ _ _ h1
    · exact h1

theorem State.afterPower_fr {W : Nat} {s₀ : State} (s : State) (a : Nat) (v : Nat) (hs : State.Fr W s₀ s)
    (hw : partSub 0xbffbf8 W = true := by first | exact partSub_refl _ | exact partSub_trans (by with_reducible assumption) (by exact rfl)) : State.Fr W s₀ (State.afterPower s a v) := by
  unfold State.afterPower
  refine fr_ite (fr_ite hs (State.warmReset_fr _ _ hs)) (fr_ite (State.setFld_fr _ _ _ hs) ?_)
  · split
    · exact fr_ite (State.clusterReset_fr _ _ hs) hs
    · exact hs

theorem State.afterSupervisor_fr {W : Nat} {s₀ : State} (s : State) (a : Nat) (v : Nat) (hs : State.Fr W s₀ s)
    (hw : partSub 0x880008 W = true := by first | exact partSub_refl _ | exact partSub_trans (by with_reducible assumption) (by exact rfl)) : State.Fr W s₀ (State.afterSupervisor s a v) := by
  unfold State.afterSupervisor
  lift_lets
  intro x0 x1 x2
  exact fr_ite (State.setFld_fr _ _ _ hs) (fr_ite (State.limitsMoved_fr _ hs) (fr_ite (fr_mk rfl rfl rfl rfl hs) hs))

theorem State.afterHost_fr {W : Nat} {s₀ : State} (s : State) (a : Nat) (v : Nat) (hs : State.Fr W s₀ s)
    (hw : partSub 0x20c008 W = true := by first | exact partSub_refl _ | exact partSub_trans (by with_reducible assumption) (by exact rfl)) : State.Fr W s₀ (State.afterHost s a v) := by
  unfold State.afterHost
  exact fr_ite (State.hostReset_fr _ _ hs) (fr_ite (State.setFld_fr _ _ _ hs) hs)

theorem State.afterTrail_fr {W : Nat} {s₀ : State} (s : State) (a : Nat) (v : Nat) (hs : State.Fr W s₀ s)
    (hw : partSub 0x48 W = true := by first | exact partSub_refl _ | exact partSub_trans (by with_reducible assumption) (by exact rfl)) : State.Fr W s₀ (State.afterTrail s a v) := by
  unfold State.afterTrail
  refine fr_ite (State.poolRestart_fr _ hs) ?_
  · split
    · exact fr_ite (State.clrHist_fr _ _ hs) hs
    · exact hs

theorem State.afterCompass_fr {W : Nat} {s₀ : State} (o : State) (s : State) (a : Nat) (v : Nat) (ho : State.Fr W s₀ o) (hs : State.Fr W s₀ s)
    (hw : partSub 0x8488 W = true := by first | exact partSub_refl _ | exact partSub_trans (by with_reducible assumption) (by exact rfl)) : State.Fr W s₀ (State.afterCompass o s a v) := by
  unfold State.afterCompass
  lift_lets
  intro x0
  have h1 : State.Fr W s₀ x0 := (State.servoState_fr _ _ hs)
  clear_value x0
  intro x2
  exact fr_ite (fr_ite (State.timeStep_fr _ h1) h1) (fr_ite (fr_ite (State.setFld_fr _ _ _ hs) (fr_ite (State.acquire_fr _ hs) hs)) (fr_ite (State.recclkCheck_fr _ hs) hs))

theorem State.firstClear_fr {W : Nat} {s₀ : State} (s : State) (hs : State.Fr W s₀ s)
    (hw : partSub 0x8 W = true := by first | exact partSub_refl _ | exact partSub_trans (by with_reducible assumption) (by exact rfl)) : State.Fr W s₀ (State.firstClear s) := by
  unfold State.firstClear
  exact State.setFld_fr _ _ _ (State.setFlag_fr _ _ _ hs)

theorem State.fifoRestart_fr {W : Nat} {s₀ : State} (s : State) (hs : State.Fr W s₀ s)
    (hw : partSub 0x8 W = true := by first | exact partSub_refl _ | exact partSub_trans (by with_reducible assumption) (by exact rfl)) : State.Fr W s₀ (State.fifoRestart s) := by
  unfold State.fifoRestart
  exact State.setFld_fr _ _ _ hs

theorem State.afterReports_fr {W : Nat} {s₀ : State} (s : State) (a : Nat) (v : Nat) (ok : Bool) (hs : State.Fr W s₀ s)
    (hw : partSub 0x80c1d8 W = true := by first | exact partSub_refl _ | exact partSub_trans (by with_reducible assumption) (by exact rfl)) : State.Fr W s₀ (State.afterReports s a v ok) := by
  unfold State.afterReports
  exact fr_ite (State.fifoRestart_fr _ hs) (fr_ite (State.firstClear_fr _ hs) (fr_ite (fr_ite (State.coreResetCmd_fr _ _ hs) (fr_ite (State.clearHistory_fr _ _ hs) hs)) hs))

theorem State.afterRucksack_fr {W : Nat} {s₀ : State} (s : State) (a : Nat) (v : Nat) (ok : Bool) (hs : State.Fr W s₀ s)
    (hw : partSub 0x108008 W = true := by first | exact partSub_refl _ | exact partSub_trans (by with_reducible assumption) (by exact rfl)) : State.Fr W s₀ (State.afterRucksack s a v ok) := by
  unfold State.afterRucksack
  refine fr_ite (State.rkHwmRestart_fr _ hs) (fr_ite (State.rkTest_fr _ _ hs) ?_)
  · split
    · exact fr_ite (State.rkRelease_fr _ _ hs) hs
    · exact hs

theorem State.afterFabric_fr {W : Nat} {s₀ : State} (s : State) (a : Nat) (v : Nat) (hs : State.Fr W s₀ s)
    (hw : partSub 0x87c008 W = true := by first | exact partSub_refl _ | exact partSub_trans (by with_reducible assumption) (by exact rfl)) : State.Fr W s₀ (State.afterFabric s a v) := by
  unfold State.afterFabric
  refine fr_ite (State.epochSwitch_fr _ hs) ?_
  · split
    · exact fr_ite (State.takeover_fr _ _ _ hs) (fr_ite (State.takeover_fr _ _ _ hs) hs)
    · exact hs

theorem State.afterMgmt_fr {W : Nat} {s₀ : State} (s : State) (a : Nat) (v : Nat) (hs : State.Fr W s₀ s)
    (hw : partSub 0x20008 W = true := by first | exact partSub_refl _ | exact partSub_trans (by with_reducible assumption) (by exact rfl)) : State.Fr W s₀ (State.afterMgmt s a v) := by
  unfold State.afterMgmt
  lift_lets
  intro x0
  have h1 : State.Fr W s₀ x0 := (fr_ite hs (State.setFlag_fr _ _ _ hs))
  clear_value x0
  exact fr_ite (State.endListen_fr _ hs) (fr_ite (fr_ite h1 (State.plcaApply_fr _ h1)) hs)

theorem State.afterTdm_fr {W : Nat} {s₀ : State} (o : State) (s : State) (a : Nat) (ho : State.Fr W s₀ o) (hs : State.Fr W s₀ s)
    (hw : partSub 0x808 W = true := by first | exact partSub_refl _ | exact partSub_trans (by with_reducible assumption) (by exact rfl)) : State.Fr W s₀ (State.afterTdm o s a) := by
  unfold State.afterTdm
  split
  · lift_lets
    intro x0
    exact fr_ite (State.setFld_fr _ _ _ (State.setHwy_fr _ _ _ hs)) hs
  · exact hs

theorem State.afterGroup_fr {W : Nat} {s₀ : State} (o : State) (s : State) (g : Nat) (gcfg : Bool) (ho : State.Fr W s₀ o) (hs : State.Fr W s₀ s)
    (hw : partSub 0x1008 W = true := by first | exact partSub_refl _ | exact partSub_trans (by with_reducible assumption) (by exact rfl)) : State.Fr W s₀ (State.afterGroup o s g gcfg) := by
  unfold State.afterGroup
  lift_lets
  intro x0
  have h1 : State.Fr W s₀ x0 := (fr_ite (State.applyPreset_fr _ _ _ hs) hs)
  clear_value x0
  intro x2 x3 x4 x5 x6
  have h7 : State.Fr W s₀ x6 := (fr_ite (State.setFld_fr _ _ _ h1) h1)
  clear_value x6
  intro x8
  exact fr_ite (State.localReset_fr _ _ h7) h7

theorem State.afterBits_fr {W : Nat} {s₀ : State} (o : State) (s : State) (a : Nat) (v : Nat) (ho : State.Fr W s₀ o) (hs : State.Fr W s₀ s)
    (hw : partSub 0x80d008 W = true := by first | exact partSub_refl _ | exact partSub_trans (by with_reducible assumption) (by exact rfl)) : State.Fr W s₀ (State.afterBits o s a v) := by
  unfold State.afterBits
  lift_lets
  intro x0
  have h1 : State.Fr W s₀ x0 := by
    dsimp -zeta only [x0]
    refine fr_ite (fr_foldl ?_ hs) hs
    · intro y2 y3 g4
      exact State.localReset_fr _ _ g4
  clear_value x0
  refine fr_ite (fr_ite (State.syncRequest_fr _ _ _ h1) h1) ?_
  · split
    · lift_lets
      intro x5
      exact fr_ite (State.afterGroup_fr _ _ _ _ ho hs) (fr_ite (State.swapRequest_fr _ _ _ _ hs) hs)
    · exact hs

theorem State.afterLmu_fr {W : Nat} {s₀ : State} (s : State) (a : Nat) (v : Nat) (hs : State.Fr W s₀ s)
    (hw : partSub 0x80200c W = true := by first | exact partSub_refl _ | exact partSub_trans (by with_reducible assumption) (by exact rfl)) : State.Fr W s₀ (State.afterLmu s a v) := by
  unfold State.afterLmu
  have h1 := fr_ite (c := s.lm.run.isNone ∧ s.lm.sweep.isNone ∧ s.fld F.LM_STATUS_STATE < 2) (State.setFld_fr s F.LM_STATUS_STATE (s.fld F.LM_CTRL_EN) hs) hs
  refine fr_ite (fr_ite (State.lmResetFault_fr _ _ (State.fresh_fr _ h1)) h1) (fr_ite (State.blankUpdate_fr _ hs) ?_)
  split
  · exact fr_ite (State.setRelays_fr _ _ hs) hs
  · exact hs

theorem State.afterPort_fr {W : Nat} {s₀ : State} (o : State) (s : State) (a : Nat) (v : Nat) (ho : State.Fr W s₀ o) (hs : State.Fr W s₀ s)
    (hw : partSub 0x87c788 W = true := by first | exact partSub_refl _ | exact partSub_trans (by with_reducible assumption) (by exact rfl)) : State.Fr W s₀ (State.afterPort o s a v) := by
  unfold State.afterPort
  lift_lets
  intro x0 x1 x2
  have h3 : State.Fr W s₀ x2 := (fr_ite (State.restartAn_fr _ _ (State.linkDown_fr _ _ hs)) hs)
  clear_value x2
  exact fr_ite (State.portReset_fr _ _ _ hs) (fr_ite (fr_ite (State.anRestart_fr _ _ h3) h3) (fr_ite (State.tsRestart_fr _ _ hs) hs))

theorem State.afterCluster_fr {W : Nat} {s₀ : State} (s : State) (a : Nat) (v : Nat) (ok : Bool) (hs : State.Fr W s₀ s)
    (hw : partSub 0x8018 W = true := by first | exact partSub_refl _ | exact partSub_trans (by with_reducible assumption) (by exact rfl)) : State.Fr W s₀ (State.afterCluster s a v ok) := by
  unfold State.afterCluster
  split
  · lift_lets
    intro x0
    have h1 : State.Fr W s₀ x0 := (fr_ite (State.logClr_fr _ _ hs) hs)
    clear_value x0
    exact fr_ite (State.setFld_fr _ _ _ h1) h1
  · lift_lets
    intro x2
    have h3 : State.Fr W s₀ x2 := (fr_ite (State.faultInject_fr _ _ _ hs) hs)
    clear_value x2
    exact fr_ite (State.setFld_fr _ _ _ h3) h3
  · exact hs

theorem State.afterWrite_fr {W : Nat} {s₀ : State} (o : State) (s : State) (a : Nat) (v : Nat) (ok : Bool) (ho : State.Fr W s₀ o) (hs : State.Fr W s₀ s)
    (hw : partSub 0xbffffc W = true := by first | exact partSub_refl _ | exact partSub_trans (by with_reducible assumption) (by exact rfl)) : State.Fr W s₀ (State.afterWrite o s a v ok) := by
  unfold State.afterWrite
  exact fr_ite (State.afterPower_fr _ _ _ hs) (fr_ite (State.afterSupervisor_fr _ _ _ hs) (fr_ite (State.afterHost_fr _ _ _ hs) (fr_ite (State.afterTrail_fr _ _ _ hs) (fr_ite hs (fr_ite (State.afterCompass_fr _ _ _ _ ho hs) (fr_ite (State.afterReports_fr _ _ _ _ hs) (fr_ite (State.afterPower_fr _ _ _ hs) (fr_ite (State.afterRucksack_fr _ _ _ _ hs) (fr_ite (State.afterFabric_fr _ _ _ hs) (fr_ite (State.afterMgmt_fr _ _ _ hs) (fr_ite (State.afterTdm_fr _ _ _ ho hs) (fr_ite (State.afterBits_fr _ _ _ _ ho hs) (fr_ite (State.afterLmu_fr _ _ _ hs) (fr_ite (State.afterPort_fr _ _ _ _ ho hs) (fr_ite (State.afterCluster_fr _ _ _ _ hs) hs)))))))))))))))

theorem State.rwsWrite_fr {W : Nat} {s₀ : State} (s : State) (a : Nat) (lo : Nat) (hs : State.Fr W s₀ s)
    (hw : partSub 0x8008 W = true := by first | exact partSub_refl _ | exact partSub_trans (by with_reducible assumption) (by exact rfl)) : State.Fr W s₀ (State.rwsWrite s a lo) := by
  unfold State.rwsWrite
  exact State.raise_fr _ _ _ _ _ _ _ _ hs

theorem State.writeFields_fr {W : Nat} {s₀ : State} (s : State) (a : Nat) (v : Nat) (l : List FSpec) (hs : State.Fr W s₀ s)
    (hw : partSub 0xbffffc W = true := by first | exact partSub_refl _ | exact partSub_trans (by with_reducible assumption) (by exact rfl)) : State.Fr W s₀ (State.writeFields s a v l) := by
  unfold State.writeFields
  lift_lets
  intro x0
  clear_value x0
  intro x1
  have h2 : State.Fr W s₀ x1 := by
    dsimp -zeta only [x1]
    split
    · exact hs
    · exact State.rwsWrite_fr _ _ _ hs
  clear_value x1
  intro x3
  clear_value x3
  intro x4
  have h5 : State.Fr W s₀ x4 := by
    dsimp -zeta only [x4]
    split
    · exact h2
    · exact State.reservedEncoding_fr _ _ _ h2
  clear_value x4
  intro x6
  have h7 : State.Fr W s₀ x6 := by
    dsimp -zeta only [x6]
    refine fr_foldl ?_ h5
    · intro y8 y9 g10
      exact State.setFld_fr _ _ _ g10
  clear_value x6
  intro x11
  have h12 : State.Fr W s₀ x11 := by
    dsimp -zeta only [x11]
    refine fr_foldl ?_ h7
    · intro y13 y14 g15
      exact State.setFlag_fr _ _ _ g15
  clear_value x11
  intro x16
  clear_value x16
  exact fr_ite (State.configRefused_fr _ _ _ h5) (State.afterWrite_fr _ _ _ _ _ h5 h12)

theorem State.msixWrite_fr {W : Nat} {s₀ : State} (s : State) (a : Nat) (v : Nat) (hs : State.Fr W s₀ s)
    (hw : partSub 0x804000 W = true := by first | exact partSub_refl _ | exact partSub_trans (by with_reducible assumption) (by exact rfl)) : State.Fr W s₀ (State.msixWrite s a v) := by
  unfold State.msixWrite
  lift_lets
  intro x0 x1 x2
  have h3 : State.Fr W s₀ x2 := (fr_mk rfl rfl rfl rfl hs)
  clear_value x2
  intro x4 x5
  exact fr_ite (State.emit_fr _ _ (fr_mk rfl rfl rfl rfl h3)) h3

theorem State.taken_fr {W : Nat} {s₀ : State} (s : State) (o : Host.Outcome State Fault Refusal) (hs : State.Fr W s₀ s) (ho : OutFr W s₀ o)
    (hw : partSub 0x0 W = true := by first | exact partSub_refl _ | exact partSub_trans (by with_reducible assumption) (by exact rfl)) : State.Fr W s₀ (State.taken s o) := by
  unfold State.taken
  split
  · exact ho _ rfl
  · exact hs

theorem State.writeData_fr {W : Nat} {s₀ : State} (s : State) (a : Nat) (v : Nat) (hs : State.Fr W s₀ s)
    (hw : partSub 0xfbddd8 W = true := by first | exact partSub_refl _ | exact partSub_trans (by with_reducible assumption) (by exact rfl)) : ∀ t, State.writeData s a v = some t → State.Fr W s₀ t := by
  have ok : ∀ {u : State}, State.Fr W s₀ u → ∀ t, some u = some t → State.Fr W s₀ t := fun h _ e => Option.some.inj e ▸ h
  have ite : ∀ {c : Prop} [Decidable c] {x y : Option State}, (∀ t, x = some t → State.Fr W s₀ t) → (∀ t, y = some t → State.Fr W s₀ t) →
      ∀ t, (if c then x else y) = some t → State.Fr W s₀ t := by
    intro c _ x y hx hy; split <;> assumption
  unfold State.writeData
  refine ite (ok (State.taken_fr _ _ hs (execHiNudge_fr _ hs))) ?_
  refine ite (ok (State.winWrite_fr _ _ hs)) ?_
  refine ite (ok (State.cacheWays_fr _ _ hs)) ?_
  refine ite (ok (State.setResidue_fr _ _ hs)) ?_
  refine ite (ok (State.slotDataWrite_fr _ _ hs)) ?_
  refine ite (ok (State.coefAccess_fr _ _ hs)) ?_
  refine ite (ok (State.taken_fr _ _ hs (execTwLinkDataAccess_fr _ _ _ hs))) ?_
  refine ite (ok (State.taken_fr _ _ hs (execTwKeyDataWrite_fr _ _ hs))) ?_
  refine ite (ok (u := { s with mg := { s.mg with wake := mset 0 s.mg.wake (32 * s.fld F.MG_WAKE_SEL_PATTERN + s.fld F.MG_WAKE_SEL_WORD) v } })
    (fr_mk rfl rfl rfl rfl hs)) ?_
  refine ite (ok (State.mailboxWrite_fr _ _ hs)) ?_
  split
  · exact ok (State.rcfgWrite_fr _ _ _ hs)
  · exact ok (State.bsChWrite_fr _ _ _ hs)
  · intro t h; cases h

theorem State.writeReg_fr {W : Nat} {s₀ : State} (s : State) (a : Nat) (v : Nat) (hs : State.Fr W s₀ s)
    (hw : partSub 0xfffffc W = true := by first | exact partSub_refl _ | exact partSub_trans (by with_reducible assumption) (by exact rfl)) : State.Fr W s₀ (State.writeReg s a v) := by
  unfold State.writeReg
  refine fr_ite hs (fr_ite (State.msixWrite_fr _ _ _ hs) (fr_ite hs ?_))
  split
  · exact (State.writeData_fr s a v hs) _ ‹_›
  · split
    · exact State.writeFields_fr _ _ _ _ hs
    · exact hs

theorem execRegisterWrite_fr {W : Nat} {s₀ : State} (a : BitVec 32) (v : BitVec 32) (s : State) (hs : State.Fr W s₀ s)
    (hw : partSub 0xfffffc W = true := by first | exact partSub_refl _ | exact partSub_trans (by with_reducible assumption) (by exact rfl)) : OutFr W s₀ (execRegisterWrite a v s) := by
  unfold execRegisterWrite
  exact fr_next (State.writeReg_fr _ _ _ hs)

theorem execEpPhyCfgWrite_fr {W : Nat} {s₀ : State} (p : Fin 4) (v : BitVec 32) (s : State) (hs : State.Fr W s₀ s)
    (hw : partSub 0xfffffc W = true := by first | exact partSub_refl _ | exact partSub_trans (by with_reducible assumption) (by exact rfl)) : OutFr W s₀ (execEpPhyCfgWrite p v s) := by
  unfold execEpPhyCfgWrite
  exact fr_next (State.writeReg_fr _ _ _ hs)

theorem execRcRead_fr {W : Nat} {s₀ : State} (a : BitVec 32) (s : State) (hs : State.Fr W s₀ s)
    (hw : partSub 0x404008 W = true := by first | exact partSub_refl _ | exact partSub_trans (by with_reducible assumption) (by exact rfl)) : OutFr W s₀ (execRcRead a s) := by
  unfold execRcRead
  exact fr_next (State.readReg_fr _ _ hs)

theorem execCounterLowWordRead_fr {W : Nat} {s₀ : State} (a : BitVec 32) (s : State) (hs : State.Fr W s₀ s)
    (hw : partSub 0x404008 W = true := by first | exact partSub_refl _ | exact partSub_trans (by with_reducible assumption) (by exact rfl)) : OutFr W s₀ (execCounterLowWordRead a s) := by
  unfold execCounterLowWordRead
  exact outFr_ite (fr_next (State.readReg_fr _ _ hs)) (fr_next hs)

theorem execFifoHwmRestart_fr {W : Nat} {s₀ : State} (s : State) (hs : State.Fr W s₀ s)
    (hw : partSub 0x8 W = true := by first | exact partSub_refl _ | exact partSub_trans (by with_reducible assumption) (by exact rfl)) : OutFr W s₀ (execFifoHwmRestart s) := by
  unfold execFifoHwmRestart
  exact fr_next (State.fifoRestart_fr _ hs)

theorem execPowerPeakRestart_fr {W : Nat} {s₀ : State} (s : State) (hs : State.Fr W s₀ s)
    (hw : partSub 0x8 W = true := by first | exact partSub_refl _ | exact partSub_trans (by with_reducible assumption) (by exact rfl)) : OutFr W s₀ (execPowerPeakRestart s) := by
  unfold execPowerPeakRestart
  exact fr_next (State.setFld_fr _ _ _ hs)

theorem execFirstClear_fr {W : Nat} {s₀ : State} (s : State) (hs : State.Fr W s₀ s)
    (hw : partSub 0x8 W = true := by first | exact partSub_refl _ | exact partSub_trans (by with_reducible assumption) (by exact rfl)) : OutFr W s₀ (execFirstClear s) := by
  unfold execFirstClear
  exact fr_next (State.firstClear_fr _ hs)

end Sys2Proof.Machine
end

