-- ==== Sys2Proof/Laws/Host.lean ====
section
/-! SUPPORT. Commands of a ring past their checks: what is left of a command is its own effect on the state after its start. -/
set_option Elab.async false

namespace Sys2Proof.Machine

/-- A command that passes its checks is its own effect after its start. -/
theorem State.command_eq {s : State} {c : HCmd} {op : Nat} {ok mode : Bool} {chan : Option Nat} {buf : Bool} {f : State → Origin → State}
    (h : Plain s c) (hok : ok = true) (hm : mode = true) (hl : ∀ n, chan = some n → s.mode = 7 → 240 ≤ n) :
    s.command c op ok mode chan buf f = f (s.start c) (s.originOf c op) := by
  obtain ⟨⟨h1, h2, h3⟩, h4⟩ := h
  have hmode : (s.start c).mode = s.mode := rfl
  unfold State.command State.checked
  simp only [h1, h2, h4, hok, hm, if_true, decide_true, Bool.and_self, Bool.true_eq_false, ne_eq, not_true_eq_false, or_self, if_false, h3, and_false]
  cases chan with
  | none => rfl
  | some n =>
    have : (decide (s.mode = 7) && decide (n < 240)) = false := by
      by_cases e : s.mode = 7
      · have := hl n rfl e
        simp; omega
      · simp [e]
    simp only [hmode, this, Bool.false_eq_true, if_false]

/-- The checks of a job command past those of every command. -/
theorem State.jobCommand_eq {s : State} {c : HCmd} {op : Nat} {ok mode : Bool} {chan : Option Nat} {buf : Bool} {same : Job → Bool} {limit : Nat}
    {f : State → Origin → State} (h : StartsJob s c op limit same) (hok : ok = true) (hm : mode = true) (hl : ∀ n, chan = some n → s.mode = 7 → 240 ≤ n) :
    s.jobCommand c op ok mode chan buf same limit f = f (s.start c) (s.originOf c op) := by
  obtain ⟨⟨h1, h2, h3⟩, h4, h5, h6, h7⟩ := h
  have hmode : (s.start c).mode = s.mode := rfl
  have hj : (s.start c).hi.jobs = s.hi.jobs := rfl
  have hlive : (s.start c).liveJobs op = s.liveJobs op := rfl
  have hjob : (s.start c).job (s.originOf c op).handle = none := h5
  have hh : (s.originOf c op).handle ≠ 0 := h4
  unfold State.jobCommand State.checked
  simp only [h1, h2, hok, hm, if_true, Bool.true_eq_false, ne_eq, not_true_eq_false, or_self, if_false, h3, and_false, hh, hjob, hj, Option.isSome_none,
    Bool.false_eq_true, hlive, Nat.not_le.2 h6, Nat.not_le.2 h7, ge_iff_le]
  cases chan with
  | none => rfl
  | some n =>
    have : (decide (s.mode = 7) && decide (n < 240)) = false := by
      by_cases e : s.mode = 7
      · have := hl n rfl e
        simp; omega
      · simp [e]
    simp only [hmode, this, Bool.false_eq_true, if_false]

end Sys2Proof.Machine
end

