-- ==== Sys2Proof/WellFormed.lean ====
section
/-! DEFINITION. Which operands a command may carry: the ranges that the constructors' types do not already hold. The step gives every
command its meaning without asking; the ranges say which commands an interface of the block can deliver. -/
namespace Sys2Proof

/-- A Hamper byte address of the stack (R41, R185): below the 16 GB of the ZG8192. -/
def MemErr.wf : MemErr → Bool
  | .corrected a => decide (a < 2 ^ 34)
  | .uncorrectable a => decide (a < 2 ^ 34)
  | .cacheParity _ => true

def ScrubErr.wf : ScrubErr → Bool
  | .hbm e => e.wf
  | .cps _ _ _ => true
  | .csm _ _ _ => true
  | .thermos => true

/-- A command of a ring has at most the argument words A0-A13 (R385). -/
def HCmd.wf (c : HCmd) : Bool := decide (c.args.length ≤ 14)

/-- Words of 32 bits. -/
def words32 (l : List Nat) : Bool := l.all fun w => decide (w < 2 ^ 32)

/-- The field widths of the header of a fabric frame (R408). -/
def FabHdr.wf (h : FabHdr) : Bool :=
  decide (h.src < 2 ^ 14 ∧ h.dst < 2 ^ 14 ∧ h.seq < 2 ^ 32 ∧ h.ack < 2 ^ 32 ∧ h.epoch < 2 ^ 8 ∧ h.credit < 2 ^ 32 ∧ h.txc < 2 ^ 64)

/-- The fields of a MIRROR record (R423): a channel is [12:0]. -/
def MirrorRec.wf : MirrorRec → Bool
  | .checkpoint n f _ stage hdr _ => decide (n < 2 ^ 13 ∧ f < 2 ^ 32 ∧ stage < 2 ^ 32) && words32 hdr
  | .template _ t ws => decide (t < 2 ^ 14) && words32 ws
  | .srtp i ws => decide (i < 2 ^ 14) && words32 ws
  | .flow _ ws => words32 ws
  | .slot i w => decide (i < 2 ^ 13 ∧ w < 2 ^ 32)
  | .ingress t p _ => decide (t < 2 ^ 64 ∧ p < 4)
  | .sent ps => ps.all fun x => decide (x.1 < 2 ^ 13 ∧ x.2 < 2 ^ 16)
  | .opened n _ cls => decide (n < 2 ^ 13 ∧ cls < 3)
  | .closed n => decide (n < 2 ^ 13)
  | .reserved sub => decide (6 ≤ sub ∧ sub < 256)

/-- The fields of what a MIGRATE frame carries (R434). -/
def MigrateRec.wf : MigrateRec → Bool
  | .request src dst f mirror _ _ _ => decide (src < 2 ^ 13 ∧ dst < 2 ^ 13 ∧ f < 2 ^ 32 ∧ mirror < 3)
  | .answer dst status => decide (dst < 2 ^ 13 ∧ status < 13)
  | .checkpoint dst f stage _ _ notes => decide (dst < 2 ^ 13 ∧ f < 2 ^ 32 ∧ stage < 2 ^ 32) && notes.all fun x => decide (x < 2 ^ 16)
  | .applied dst f => decide (dst < 2 ^ 13 ∧ f < 2 ^ 32)
  | .ingress dst t p _ => decide (dst < 2 ^ 13 ∧ t < 2 ^ 64 ∧ p < 4)
  | .cancel dst => decide (dst < 2 ^ 13)

/-- The payload of a fabric frame (R408, R414, R417): a peer's byte address is [41:0], and an access is a multiple of 4 bytes that fits
the largest PAYLOAD_MAX after its 16 bytes. -/
def FabBody.wf : FabBody → Bool
  | .heartbeat serial time mode role slots =>
    decide (serial < 2 ^ 64 ∧ time < 2 ^ 64 ∧ mode < 2 ^ 8 ∧ role < 2 ^ 8 ∧ slots.length = 4) && slots.all fun x => decide (x < 2 ^ 8)
  | .mirror recs => recs.all MirrorRec.wf
  | .readReq a n tag => decide (a < 2 ^ 42 ∧ n % 4 = 0 ∧ n ≤ 8176 ∧ tag < 2 ^ 32)
  | .readResp tag status data => decide (tag < 2 ^ 32 ∧ status < 2 ^ 8 ∧ data.length ≤ 8176)
  | .writeReq a tag data => decide (a < 2 ^ 42 ∧ tag < 2 ^ 32 ∧ data.length % 4 = 0 ∧ data.length ≤ 8176)
  | .writeResp tag status => decide (tag < 2 ^ 32 ∧ status < 2 ^ 8)
  | .migrate r => r.wf
  | .credit => true
  | .fence _ => true

def FabIn.wf (f : FabIn) : Bool := f.hdr.wf && f.body.wf

/-- A register's byte offset is a multiple of 4 (R5). -/
def regWf (a : BitVec 32) : Bool := decide (a.toNat % 4 = 0)

/-- The ranges of a command's operands, one arm per row of the table. -/
def Instr.wf (i : Instr) : Bool :=
  match i with
  | .nop _ _ => true
  | .b _ _ => true
  | .call _ _ => true
  | .brp _ _ => true
  | .rts _ _ => true
  | .rti _ _ => true
  | .doImm _ _ => true
  | .dor _ _ => true
  | .waitWork _ _ => true
  | .dispatch _ => true
  | .commit _ _ => true
  | .yield _ _ => true
  | .enqToken _ _ => true
  | .enqItem _ _ => true
  | .enqWork _ _ => true
  | .ovl _ _ => true
  | .ovlCopyEnd _ => true
  | .sett _ _ => true
  | .gett _ _ => true
  | .bkpt _ _ => true
  | .mpyq _ _ => true
  | .macq _ _ => true
  | .msuq _ _ => true
  | .ftap _ _ => true
  | .ftapx _ _ => true
  | .mpy _ _ => true
  | .mac _ _ => true
  | .msu _ _ => true
  | .adda _ _ => true
  | .suba _ _ => true
  | .nega _ _ => true
  | .absa _ _ => true
  | .clra _ _ => true
  | .clrq _ _ => true
  | .asha _ _ => true
  | .cmpa _ _ => true
  | .expOp _ _ => true
  | .norm _ _ => true
  | .add _ _ => true
  | .sub _ _ => true
  | .andOp _ _ => true
  | .orOp _ _ => true
  | .xorOp _ _ => true
  | .lsl _ _ => true
  | .lsr _ _ => true
  | .asr _ _ => true
  | .cmp _ _ => true
  | .addi _ _ => true
  | .movi _ _ => true
  | .mov _ _ => true
  | .ld _ _ => true
  | .st _ _ => true
  | .lda _ _ => true
  | .sta _ _ => true
  | .interruptEntry _ => true
  | .debugHaltRequest _ => true
  | .localTimerExpiry _ => true
  | .coreFault _ _ _ _ _ => true
  | .idleFault _ _ _ _ _ => true
  | .coreHang _ => true
  | .stagingComplete _ _ errs => errs.all MemErr.wf
  | .queueRebuild _ _ => true
  | .queueRebuildEnd => true
  | .flowStall _ => true
  | .frameTick => true
  | .mediaTokenTimeout _ => true
  | .compassEpoch meas => decide (meas.length ≤ 16)
  | .sensorWindow counts => decide (counts.length ≤ 16) && counts.all fun x => decide (x.length ≤ 10)
  | .floorRestored => true
  | .settleExpiry => true
  | .avsTransactionEnd _ _ _ => true
  | .avsResponseTimeout => true
  | .avsFaultPoll => true
  | .refLost => true
  | .refReturn => true
  | .refLostClear => true
  | .ageMeasurement idx => decide (idx.length ≤ 16)
  | .xing _ => true
  | .pageMoveLineCopy _ errs => errs.all MemErr.wf
  | .migDone _ => true
  | .remoteResponse _ _ _ _ _ => true
  | .remoteTimeout => true
  | .frameReceived _ _ _ _ _ => true
  | .frameTransmitStart _ => true
  | .txAgeDiscard _ _ => true
  | .frameTransmitEnd _ _ => true
  | .linkUp _ => true
  | .linkDown _ => true
  | .anComplete _ _ _ => true
  | .anRetry _ => true
  | .pauseTimeExpiry _ _ => true
  | .pauseBreak _ _ => true
  | .holdoffEnd _ => true
  | .portResetEnd _ => true
  | .mgFrameReceived _ _ _ _ => true
  | .syncMessageAct => true
  | .blankIntervalStart => true
  | .blankIntervalEnd => true
  | .mgTransmitAttempt => true
  | .mgCollision _ => true
  | .backoffEnd => true
  | .mgTransmitEnd => true
  | .mgTxTimeout _ => true
  | .jabber => true
  | .jabberClear => true
  | .ownJabber => true
  | .plcaBeaconLoss => true
  | .listenEnd => true
  | .wakePin => true
  | .timeStep => true
  | .cpAdjWrite _ => true
  | .slewAbsorbed => true
  | .ppsInEdge => true
  | .srcLost => true
  | .ppsOutRise => true
  | .ppsOutFall => true
  | .captureEdge _ => true
  | .capSecRead _ => true
  | .cpNsecRead => true
  | .highwayTick data _ => decide (data.length ≤ 16) && data.all fun x => decide (x.length ≤ 512)
  | .highwayFrameReceived _ data _ _ _ => decide (data.length ≤ 512)
  | .clkLost _ => true
  | .tdSlotDataWrite _ => true
  | .bsClockLost _ => true
  | .clkBack _ => true
  | .bsSlotComplete _ _ => true
  | .syncInEdge => true
  | .syncReset => true
  | .groupLocalReset _ => true
  | .bsSettleEnd _ => true
  | .bsChWrite _ _ => true
  | .bsCoefDataAccess _ _ => true
  | .swap _ _ => true
  | .swapDone _ => true
  | .stileReadback => true
  | .stileStuckClosed _ => true
  | .stileStuckOpen => true
  | .openGapEnd => true
  | .relaySettleEnd => true
  | .dischargeEnd => true
  | .lmuOutput _ => true
  | .blankPinEdge _ => true
  | .blankTimeout => true
  | .passGapEnd => true
  | .telemetryStart => true
  | .resetFault _ => true
  | .engineTakeJob _ => true
  | .rkJobEnd _ _ dict _ errs => decide (dict.length ≤ 32768) && errs.all MemErr.wf
  | .quarantine _ _ => true
  | .release _ => true
  | .engineSelftestEnd _ _ => true
  | .rkTestInject _ => true
  | .doorbellPoll tails rx _ _ => decide (tails.length ≤ 64) && rx.all fun x => decide (x.length ≤ 4)
  | .hiNudge => true
  | .hiRcfgWrite _ _ => true
  | .ringDrained _ => true
  | .interruptModerationTimer _ => true
  | .reportRecordWrite _ => true
  | .hostReset _ => true
  | .ringsReset => true
  | .badAccess _ _ _ _ => true
  | .nopCommand c _ => c.wf
  | .modeSet c => c.wf
  | .modeChange tests => decide (tests.length ≤ 16)
  | .deviceInfo c => c.wf
  | .admission c => c.wf
  | .csmLoad c => c.wf
  | .patchLoad c _ => c.wf
  | .chOpen c => c.wf
  | .chOpenGraph c => c.wf
  | .chClose c => c.wf
  | .closeComplete _ => true
  | .chParam c => c.wf
  | .chStatus c => c.wf
  | .ctxRead c errs => c.wf && errs.all MemErr.wf
  | .ctxWrite c => c.wf
  | .nodeCancel c => c.wf
  | .flowResync c => c.wf
  | .decSync c => c.wf
  | .msgSend c => c.wf
  | .coefWrite c => c.wf
  | .bankSwap c => c.wf
  | .pktSend c => c.wf
  | .ftInsert c => c.wf
  | .ftDelete c => c.wf
  | .tplWrite c => c.wf
  | .srtpWrite c => c.wf
  | .srtpRead c => c.wf
  | .portReset c => c.wf
  | .hostCopy c errs => c.wf && errs.all MemErr.wf
  | .pageMove c => c.wf
  | .jobSuspend c => c.wf
  | .jobResume c => c.wf
  | .jobCancel c => c.wf
  | .jobStatus c => c.wf
  | .jobList c => c.wf
  | .fwExchange c _ => c.wf
  | .fwxStepEnd _ _ => true
  | .coreRetire c => c.wf
  | .retireNodeTimeout _ => true
  | .retirementSwap _ => true
  | .spareReady _ => true
  | .hbmRepair c => c.wf
  | .hbmRepairPauseEnd _ _ => true
  | .scrub c => c.wf
  | .patrolScrubRead _ errs => errs.all ScrubErr.wf
  | .scrubDone _ => true
  | .rowRepaired _ _ => true
  | .lifeHour _ => true
  | .lineTestSweep c => c.wf
  | .migrate c => c.wf
  | .migrateSwitch _ => true
  | .migrateForwardEnd _ => true
  | .evacuate c => c.wf
  | .evacuateFence => true
  | .rkJob c => c.wf
  | .checkpointAll c => c.wf
  | .fwJob c => c.wf
  | .heartbeat f => f.wf
  | .mirrorFrame f _ => f.wf
  | .readRequest f errs => f.wf && errs.all MemErr.wf
  | .writeRequest f => f.wf
  | .migrateFrame f _ => f.wf
  | .credit f => f.wf
  | .fenceFrame f => f.wf
  | .fabricFrameSend _ => true
  | .heartbeatSend _ => true
  | .linkLost _ => true
  | .retransmitTimeout _ => true
  | .creditFrameSend _ => true
  | .sentNoteFlush => true
  | .attachCheck _ ctxs exact _ _ => decide (ctxs.length ≤ 8192 ∧ exact ≤ 8192)
  | .fenceRepeat _ => true
  | .fenceSlow _ => true
  | .directLinkEvidence _ => true
  | .slotInstalled _ _ => true
  | .ingressLogExpiry _ => true
  | .gratuitousAnnounce _ _ => true
  | .takeover _ => true
  | .force _ => true
  | .twLinkDataAccess _ _ => true
  | .twKeyDataWrite _ => true
  | .epochSwitch => true
  | .hpWinDataWrite _ => true
  | .cacheWayDisable _ => true
  | .epPortResetWrite _ => true
  | .epPhyCfgWrite _ _ => true
  | .anRestart _ => true
  | .tsHwmRestart _ => true
  | .mgListenEndWrite => true
  | .syncCmd => true
  | .speedMinRestart => true
  | .faultInject _ _ => true
  | .clrCnt _ => true
  | .poolHwmRestart => true
  | .clrHist _ => true
  | .rkHwmRestart => true
  | .jobsHwmRestart => true
  | .fifoHwmRestart => true
  | .powerPeakRestart => true
  | .coreReset _ => true
  | .clearFaultHistory _ => true
  | .firstClear => true
  | .logClr _ => true
  | .arbRestart _ => true
  | .clPatchDataRead _ => true
  | .clusterReset _ => true
  | .clusterResetEnd _ _ _ _ => true
  | .warmReset _ => true
  | .warmDone tests => decide (tests.length ≤ 16)
  | .powerOnReset _ => true
  | .sysReset _ => true
  | .perst _ => true
  | .bootReady tests lanes => decide (tests.length ≤ 16 ∧ lanes.length ≤ 16)
  | .qspiBootLoad _ _ => true
  | .undervolt _ => true
  | .pwrOkFall => true
  | .liveLost => true
  | .liveBack => true
  | .egressStopped => true
  | .mailboxNop => true
  | .getVersion => true
  | .lanternChOpen => true
  | .lanternChClose => true
  | .chSetIp => true
  | .chGain => true
  | .chEc => true
  | .chStats => true
  | .evtRead => true
  | .mailboxCompletion => true
  | .lnMbxStatRead => true
  | .rcRead a => regWf a
  | .counterLowWordRead a => regWf a
  | .registerWrite a _ => regWf a
  | .tdClkReturn _ => true
  | .beacon => true
  | .msixUnmask _ => true
  | .interfaceIdle => true
  | .hostSuspend _ _ _ dict => decide (dict.length ≤ 32768)
  | .evacuateFenceRepeat => true
  | .undervoltEnd _ => true
  | .pcieLinkUp _ _ => true

end Sys2Proof
end

