-- ==== Sys2Proof/Tests/Slice0.lean ====
section
/-! SUPPORT. The architect's own tests: ill-formed operands that the check refuses, and for the statements a concrete state and operands
that meet the hypotheses of each clause together. Expected values come from the rules. -/
set_option Elab.async false
namespace Sys2Proof.Tests
open Sys2Proof Sys2Proof.Machine

/-! ## Ill-formed operands are refused, one for each check -/

/-- A command of ring 0 with the argument words given. -/
def cmd (args : List (BitVec 32)) : HCmd := ⟨0, 0, 7, args, [], 0⟩

/-- The same with the bytes of its host buffer. -/
def cmdBuf (args : List (BitVec 32)) (buf : List (BitVec 8)) : HCmd := ⟨0, 0, 7, args, buf, 0⟩

/-- A fabric header of device 1 to device 2. -/
def hdr : FabHdr := ⟨1, 2, 1, 0, 0, 0, 1, false⟩

/-- A fabric frame that passes step 1 of R410 and whose tag verifies. -/
def fab (b : FabBody) : FabIn := ⟨true, hdr, true, b⟩

theorem test_wf_memory_address : (Instr.stagingComplete 0 0 [.corrected (2 ^ 34)]).wf = false := by decide +kernel
theorem test_wf_uncorrectable_address : (Instr.pageMoveLineCopy 0 [.uncorrectable (2 ^ 34)]).wf = false := by decide +kernel
theorem test_wf_scrub_address : (Instr.patrolScrubRead 0 [.hbm (.corrected (2 ^ 34))]).wf = false := by decide +kernel
theorem test_wf_argument_words : (Instr.chOpen (cmd (List.replicate 15 0))).wf = false := by decide +kernel
theorem test_wf_fabric_header : (Instr.credit ⟨true, ⟨2 ^ 14, 0, 0, 0, 0, 0, 0, false⟩, true, .credit⟩).wf = false := by decide +kernel
theorem test_wf_heartbeat_slots : (Instr.heartbeat (fab (.heartbeat 0 0 2 1 [0, 0, 0]))).wf = false := by decide +kernel
theorem test_wf_mirror_channel : (Instr.mirrorFrame (fab (.mirror [.closed 8192])) true).wf = false := by decide +kernel
theorem test_wf_mirror_word : (Instr.mirrorFrame (fab (.mirror [.srtp 0 [2 ^ 32]])) true).wf = false := by decide +kernel
theorem test_wf_read_length : (Instr.readRequest (fab (.readReq 0 6 0)) []).wf = false := by decide +kernel
theorem test_wf_write_address : (Instr.writeRequest (fab (.writeReq (2 ^ 42) 0 [0, 0, 0, 0]))).wf = false := by decide +kernel
theorem test_wf_migrate_channel : (Instr.migrateFrame (fab (.migrate (.cancel 8192))) true).wf = false := by decide +kernel
theorem test_wf_register_offset : (Instr.rcRead 2).wf = false := by decide +kernel
theorem test_wf_epoch_measures : (Instr.compassEpoch (List.replicate 17 (0, 0))).wf = false := by decide +kernel
theorem test_wf_window_sensors : (Instr.sensorWindow [List.replicate 11 0]).wf = false := by decide +kernel
theorem test_wf_ages : (Instr.ageMeasurement (List.replicate 17 0)).wf = false := by decide +kernel
theorem test_wf_highway_slots : (Instr.highwayTick [List.replicate 513 0] []).wf = false := by decide +kernel
theorem test_wf_ring_tails : (Instr.doorbellPoll (List.replicate 65 0) [] 0 false).wf = false := by decide +kernel
theorem test_wf_test_results : (Instr.warmDone (List.replicate 17 0)).wf = false := by decide +kernel
theorem test_wf_dictionary : (Instr.hostSuspend 0 0 [] (List.replicate 32769 0)).wf = false := by decide +kernel
theorem test_wf_attach_contexts : (Instr.attachCheck 0 [] 8193 true true).wf = false := by decide +kernel
theorem test_wf_good : (Instr.readRequest (fab (.readReq 0 4 0)) [.corrected 128]).wf = true ∧ (Instr.registerWrite 4 0).wf = true := by decide +kernel

/-! ## Cores -/

/-- The state after a command. -/
def after (i : Instr) (s : State) : State :=
  match exec i s with
  | .next t => t
  | _ => s

/-- A device in TRUNK whose cores run. -/
def running : State :=
  (({ State.reset with gl := { State.reset.gl with released := true } } : State).setFld F.GL_MODE_MODE 2).setFld (F.PW_CL_STATE 0) 1

/-- Core 0 of it issues the word of an opcode and of bits [39:0], with what `g` makes of the core. -/
def issuing (op : Nat) (f : BitVec 40) (g : Core → Core) : State :=
  running.setCore 0 (g { Core.init with cm := [(0, BitVec.ofNat 24 (op * 2 ^ 16 + f.toNat / 2 ^ 24)), (1, BitVec.ofNat 24 f.toNat)] })

/-- A register takes a value that every instruction sees. -/
def reg (r v : Nat) (c : Core) : Core := c.wr r v .free

/-- Format S, I, M and Q (R110). -/
def ofS (d s t sh : Nat) : BitVec 40 := BitVec.ofNat 40 (d * 2 ^ 33 + s * 2 ^ 26 + t * 2 ^ 19 + sh % 128 * 2 ^ 12)
def ofI (d imm : Nat) : BitVec 40 := BitVec.ofNat 40 (d * 2 ^ 33 + imm)
def ofM (r sp w ea : Nat) : BitVec 40 := BitVec.ofNat 40 (r * 2 ^ 33 + sp * 2 ^ 31 + w * 2 ^ 29 + ea * 2 ^ 23)
def ofMA (r sp w a : Nat) : BitVec 40 := BitVec.ofNat 40 (r * 2 ^ 33 + sp * 2 ^ 31 + w * 2 ^ 29 + a)
def ofQ (aq s1 s2 yb pm pq eax eay eac : Nat) : BitVec 40 :=
  BitVec.ofNat 40 (aq * 2 ^ 39 + s1 * 2 ^ 37 + s2 * 2 ^ 35 + yb * 2 ^ 32 + pm * 2 ^ 29 + pq * 2 ^ 28 + eax * 2 ^ 22 + eay * 2 ^ 16 + eac * 2 ^ 10)

/-- Core 0 issues an instruction of two sources: X0 holds `a`, X1 holds `b`, and the result goes to X2. -/
def two (op a b : Nat) : State := issuing op (ofS 2 0 1 0) (reg 0 a ∘ reg 1 b)

theorem wit_add : (Straight (two 0x38 0xFFFFFF 2) 0 0x38 (ofS 2 0 1 0) ∧ sUnused (ofS 2 0 1 0) true true true false = true ∧ rc24 2 = true)
    ∧ ((after (.add 0 (ofS 2 0 1 0)) (two 0x38 0xFFFFFF 2)).core 0).reg 2 = 1 := by unfold Straight; decide +kernel
theorem wit_sub : Straight (two 0x39 1 2) 0 0x39 (ofS 2 0 1 0) ∧ ((after (.sub 0 (ofS 2 0 1 0)) (two 0x39 1 2)).core 0).reg 2 = 0xFFFFFF
    ∧ srBit ((after (.sub 0 (ofS 2 0 1 0)) (two 0x39 1 2)).core 0).sr srN = true := by unfold Straight; decide +kernel
theorem wit_and : Straight (two 0x3A 0xF0 0x3C) 0 0x3A (ofS 2 0 1 0) ∧ ((after (.andOp 0 (ofS 2 0 1 0)) (two 0x3A 0xF0 0x3C)).core 0).reg 2 = 0x30 := by
  unfold Straight; decide +kernel
theorem wit_or : Straight (two 0x3B 0xF0 0x3C) 0 0x3B (ofS 2 0 1 0) ∧ ((after (.orOp 0 (ofS 2 0 1 0)) (two 0x3B 0xF0 0x3C)).core 0).reg 2 = 0xFC := by
  unfold Straight; decide +kernel
theorem wit_xor : Straight (two 0x3C 0xF0 0xF0) 0 0x3C (ofS 2 0 1 0) ∧ srBit ((after (.xorOp 0 (ofS 2 0 1 0)) (two 0x3C 0xF0 0xF0)).core 0).sr srZ = true := by
  unfold Straight; decide +kernel

/-- Core 0 issues a shift of X0 by n places into X2. -/
def shifts (op a n : Nat) : State := issuing op (ofS 2 0 0 n) (reg 0 a)

theorem wit_lsl : (Straight (shifts 0x3D 3 23) 0 0x3D (ofS 2 0 0 23) ∧ sUnused (ofS 2 0 0 23) true true false true = true ∧ sSH (ofS 2 0 0 23) ≤ 23)
    ∧ ((after (.lsl 0 (ofS 2 0 0 23)) (shifts 0x3D 3 23)).core 0).reg 2 = 0x800000 := by unfold Straight; decide +kernel
theorem wit_lsr : Straight (shifts 0x3E 0x800000 23) 0 0x3E (ofS 2 0 0 23) ∧ ((after (.lsr 0 (ofS 2 0 0 23)) (shifts 0x3E 0x800000 23)).core 0).reg 2 = 1 := by
  unfold Straight; decide +kernel
theorem wit_asr : Straight (shifts 0x3F 0x800000 23) 0 0x3F (ofS 2 0 0 23)
    ∧ ((after (.asr 0 (ofS 2 0 0 23)) (shifts 0x3F 0x800000 23)).core 0).reg 2 = 0xFFFFFF := by unfold Straight; decide +kernel
theorem wit_addi : (Straight (issuing 0x41 (ofI 2 0xFFFFFF) (reg 2 1)) 0 0x41 (ofI 2 0xFFFFFF) ∧ iLegal (ofI 2 0xFFFFFF) = true)
    ∧ ((after (.addi 0 (ofI 2 0xFFFFFF)) (issuing 0x41 (ofI 2 0xFFFFFF) (reg 2 1))).core 0).reg 2 = 0 := by unfold Straight; decide +kernel
theorem wit_cmp : (Straight (issuing 0x40 (ofS 0 0 1 0) (reg 0 1 ∘ reg 1 2)) 0 0x40 (ofS 0 0 1 0) ∧ sUnused (ofS 0 0 1 0) false true true false = true)
    ∧ srBit ((after (.cmp 0 (ofS 0 0 1 0)) (issuing 0x40 (ofS 0 0 1 0) (reg 0 1 ∘ reg 1 2))).core 0).sr srN = true := by unfold Straight; decide +kernel

/-- Core 0 issues a scalar product of X0 and Y0 in accumulator 1, integer mode. -/
def mul (op a x y : Nat) : State := issuing op (ofS 0x11 0 8 0) fun c => reg 0x11 a (reg 0 x (reg 8 y (c.setSr (srSet c.sr srIM true))))

theorem wit_mpy : (Straight (mul 0x20 5 3 0xFFFFFF) 0 0x20 (ofS 0x11 0 8 0) ∧ sUnused (ofS 0x11 0 8 0) true true true false = true ∧ rcIsA 0x11 = true)
    ∧ ((after (.mpy 0 (ofS 0x11 0 8 0)) (mul 0x20 5 3 0xFFFFFF)).core 0).reg 0x11 = 2 ^ 56 - 3 := by unfold Straight; decide +kernel
theorem wit_mac : Straight (mul 0x21 (2 ^ 55 - 1) 1 1) 0 0x21 (ofS 0x11 0 8 0)
    ∧ ((after (.mac 0 (ofS 0x11 0 8 0)) (mul 0x21 (2 ^ 55 - 1) 1 1)).core 0).reg 0x11 = 2 ^ 55 - 1
    ∧ srBit ((after (.mac 0 (ofS 0x11 0 8 0)) (mul 0x21 (2 ^ 55 - 1) 1 1)).core 0).sr srV = true := by unfold Straight; decide +kernel
theorem wit_msu : Straight (mul 0x22 5 2 3) 0 0x22 (ofS 0x11 0 8 0) ∧ ((after (.msu 0 (ofS 0x11 0 8 0)) (mul 0x22 5 2 3)).core 0).reg 0x11 = 2 ^ 56 - 1 := by
  unfold Straight; decide +kernel

/-- Core 0 issues an instruction on accumulators 1 and 2. -/
def acc (op : Nat) (f : BitVec 40) (a b : Nat) : State := issuing op f (reg 0x11 a ∘ reg 0x12 b)

theorem wit_adda : Straight (acc 0x28 (ofS 0x11 0x12 0 0) 7 9) 0 0x28 (ofS 0x11 0x12 0 0)
    ∧ ((after (.adda 0 (ofS 0x11 0x12 0 0)) (acc 0x28 (ofS 0x11 0x12 0 0) 7 9)).core 0).reg 0x11 = 16 := by unfold Straight; decide +kernel
theorem wit_suba : Straight (acc 0x29 (ofS 0x11 0x12 0 0) 7 7) 0 0x29 (ofS 0x11 0x12 0 0)
    ∧ srBit ((after (.suba 0 (ofS 0x11 0x12 0 0)) (acc 0x29 (ofS 0x11 0x12 0 0) 7 7)).core 0).sr srZ = true := by unfold Straight; decide +kernel
theorem wit_nega : (Straight (acc 0x2A (ofS 0x11 0 0 0) (2 ^ 55) 0) 0 0x2A (ofS 0x11 0 0 0) ∧ sUnused (ofS 0x11 0 0 0) true false false false = true)
    ∧ ((after (.nega 0 (ofS 0x11 0 0 0)) (acc 0x2A (ofS 0x11 0 0 0) (2 ^ 55) 0)).core 0).reg 0x11 = 2 ^ 55 - 1 := by unfold Straight; decide +kernel
theorem wit_absa : Straight (acc 0x2B (ofS 0x11 0 0 0) (2 ^ 56 - 3) 0) 0 0x2B (ofS 0x11 0 0 0)
    ∧ ((after (.absa 0 (ofS 0x11 0 0 0)) (acc 0x2B (ofS 0x11 0 0 0) (2 ^ 56 - 3) 0)).core 0).reg 0x11 = 3 := by unfold Straight; decide +kernel
theorem wit_clra : Straight (acc 0x2C (ofS 0x11 0 0 0) 5 5) 0 0x2C (ofS 0x11 0 0 0)
    ∧ ((after (.clra 0 (ofS 0x11 0 0 0)) (acc 0x2C (ofS 0x11 0 0 0) 5 5)).core 0).reg 0x11 = 0
    ∧ ((after (.clra 0 (ofS 0x11 0 0 0)) (acc 0x2C (ofS 0x11 0 0 0) 5 5)).core 0).reg 0x12 = 5 := by unfold Straight; decide +kernel
theorem wit_clrq : (Straight (acc 0x2D (ofS 0x10 0 0 0) 5 5) 0 0x2D (ofS 0x10 0 0 0) ∧ sD (ofS 0x10 0 0 0) % 4 = 0)
    ∧ ((after (.clrq 0 (ofS 0x10 0 0 0)) (acc 0x2D (ofS 0x10 0 0 0) 5 5)).core 0).reg 0x12 = 0 := by unfold Straight; decide +kernel
theorem wit_asha_left : (Straight (acc 0x2E (ofS 0x11 0 0 56) 1 0) 0 0x2E (ofS 0x11 0 0 56) ∧ sgn 7 (sSH (ofS 0x11 0 0 56)) = 56)
    ∧ ((after (.asha 0 (ofS 0x11 0 0 56)) (acc 0x2E (ofS 0x11 0 0 56) 1 0)).core 0).reg 0x11 = 2 ^ 55 - 1 := by unfold Straight; decide +kernel
theorem wit_asha_right : (Straight (acc 0x2E (ofS 0x11 0 0 127) (2 ^ 56 - 3) 0) 0 0x2E (ofS 0x11 0 0 127) ∧ sgn 7 (sSH (ofS 0x11 0 0 127)) = -1)
    ∧ ((after (.asha 0 (ofS 0x11 0 0 127)) (acc 0x2E (ofS 0x11 0 0 127) (2 ^ 56 - 3) 0)).core 0).reg 0x11 = 2 ^ 56 - 2 := by unfold Straight; decide +kernel
theorem wit_cmpa : Straight (acc 0x2F (ofS 0x11 0x12 0 0) 1 2) 0 0x2F (ofS 0x11 0x12 0 0)
    ∧ srBit ((after (.cmpa 0 (ofS 0x11 0x12 0 0)) (acc 0x2F (ofS 0x11 0x12 0 0) 1 2)).core 0).sr srN = true := by unfold Straight; decide +kernel
theorem wit_exp_acc : Straight (acc 0x30 (ofS 0 0x11 0 0) 0 0) 0 0x30 (ofS 0 0x11 0 0)
    ∧ ((after (.expOp 0 (ofS 0 0x11 0 0)) (acc 0x30 (ofS 0 0x11 0 0) 0 0)).core 0).reg 0 = 47 := by unfold Straight; decide +kernel
theorem wit_exp_word : Straight (shifts 0x30 0 0) 0 0x30 (ofS 2 0 0 0) ∧ ((after (.expOp 0 (ofS 2 0 0 0)) (shifts 0x30 0 0)).core 0).reg 2 = 23 := by
  unfold Straight; decide +kernel
theorem wit_norm : (Straight (acc 0x31 (ofS 0x11 0 0 0) 0 0) 0 0x31 (ofS 0x11 0 0 0) ∧ rcHome 0 ≠ 0x11)
    ∧ ((after (.norm 0 (ofS 0x11 0 0 0)) (acc 0x31 (ofS 0x11 0 0 0) 0 0)).core 0).reg 0 = 47 := by unfold Straight; decide +kernel

/-! The moves (MoveResults) -/

theorem wit_movi : (Straight (issuing 0x42 (ofI 0x11 0x800000) id) 0 0x42 (ofI 0x11 0x800000) ∧ rcValid 0x11 = true)
    ∧ ((after (.movi 0 (ofI 0x11 0x800000)) (issuing 0x42 (ofI 0x11 0x800000) id)).core 0).reg 0x11 = 0xFF800000000000 := by
  unfold Straight; decide +kernel
theorem wit_mov_word : Straight (issuing 0x43 (ofS 0x50 0 0 0) (reg 0 0x400)) 0 0x43 (ofS 0x50 0 0 0)
    ∧ srBit ((after (.mov 0 (ofS 0x50 0 0 0)) (issuing 0x43 (ofS 0x50 0 0 0) (reg 0 0x400))).core 0).sr srIM = true := by unfold Straight; decide +kernel
theorem wit_mov_acc : Straight (acc 0x43 (ofS 0x11 0x12 0 0) 0 9) 0 0x43 (ofS 0x11 0x12 0 0)
    ∧ ((after (.mov 0 (ofS 0x11 0x12 0 0)) (acc 0x43 (ofS 0x11 0x12 0 0) 0 9)).core 0).reg 0x11 = 9 := by unfold Straight; decide +kernel
theorem wit_mov_guard : Straight (acc 0x43 (ofS 0x28 0x12 0 0) 0 0x1FF) 0 0x43 (ofS 0x28 0x12 0 0)
    ∧ ((after (.mov 0 (ofS 0x28 0x12 0 0)) (acc 0x43 (ofS 0x28 0x12 0 0) 0 0x1FF)).core 0).reg 0x28 = 0xFFFFFF := by unfold Straight; decide +kernel
theorem wit_mov_loop : (Straight (acc 0x43 (ofS 0x52 0x12 0 0) 0 0x101) 0 0x43 (ofS 0x52 0x12 0 0)
      ∧ srBit ((acc 0x43 (ofS 0x52 0x12 0 0) 0 0x101).core 0).sr srLA = false)
    ∧ ((after (.mov 0 (ofS 0x52 0x12 0 0)) (acc 0x43 (ofS 0x52 0x12 0 0) 0 0x101)).core 0).reg 0x52 = 0x100 := by unfold Straight; decide +kernel
theorem wit_mov_ovt : Straight (acc 0x43 (ofS 0x54 0x12 0 0) 0 0x101) 0 0x43 (ofS 0x54 0x12 0 0)
    ∧ ((after (.mov 0 (ofS 0x54 0x12 0 0)) (acc 0x43 (ofS 0x54 0x12 0 0) 0 0x101)).core 0).reg 0x54 = 0x101 := by unfold Straight; decide +kernel
theorem wit_mov_store : Straight (acc 0x43 (ofS 0 0x12 0 0) 0 (2 ^ 54)) 0 0x43 (ofS 0 0x12 0 0)
    ∧ ((after (.mov 0 (ofS 0 0x12 0 0)) (acc 0x43 (ofS 0 0x12 0 0) 0 (2 ^ 54))).core 0).reg 0 = 0x7FFFFF
    ∧ srBit ((after (.mov 0 (ofS 0 0x12 0 0)) (acc 0x43 (ofS 0 0x12 0 0) 0 (2 ^ 54))).core 0).sr srLV = true := by unfold Straight; decide +kernel
theorem wit_sett : (Straight (issuing 0x0D (ofS 0 1 0 0) (reg 1 99)) 0 0x0D (ofS 0 1 0 0) ∧ sUnused (ofS 0 1 0 0) false true false false = true)
    ∧ ((after (.sett 0 (ofS 0 1 0 0)) (issuing 0x0D (ofS 0 1 0 0) (reg 1 99))).core 0).timer = 99 := by unfold Straight; decide +kernel
theorem wit_gett : (Straight (issuing 0x0E (ofS 1 0 0 0) fun c => { c with timer := 7 }) 0 0x0E (ofS 1 0 0 0) ∧ sUnused (ofS 1 0 0 0) true false false false = true)
    ∧ ((after (.gett 0 (ofS 1 0 0 0)) (issuing 0x0E (ofS 1 0 0 0) fun c => { c with timer := 7 })).core 0).reg 1 = 7 := by unfold Straight; decide +kernel
theorem wit_bkpt : Straight (issuing 0x0F 0 id) 0 0x0F 0 ∧ ((after (.bkpt 0 0) (issuing 0x0F 0 id)).core 0).dbgReq = true := by unfold Straight; decide +kernel
theorem wit_nop : Straight (issuing 0 0 id) 0 0 0 ∧ ((after (.nop 0 0) (issuing 0 0 id)).core 0).pc = 2 := by unfold Straight; decide +kernel

/-! Loads and stores (LoadResults, StoreResults) -/

/-- P1 holds `a`; word `a` of X holds 0x800001, and the next one 5. -/
def ptrTo (a : Nat) (c : Core) : Core := reg 0x31 a { c with xm := [(a, 0x800001), (a + 1, 5)] }

theorem wit_ld : (Straight (issuing 0x50 (ofM 2 0 1 1) (ptrTo 0x3FFE)) 0 0x50 (ofM 2 0 1 1) ∧ groupOk 2 1 = true
      ∧ (∀ a ∈ (((issuing 0x50 (ofM 2 0 1 1) (ptrTo 0x3FFE)).core 0).ea 1 2).words, reaches 0 a = true))
    ∧ ((after (.ld 0 (ofM 2 0 1 1)) (issuing 0x50 (ofM 2 0 1 1) (ptrTo 0x3FFE))).core 0).reg 3 = 5 := by unfold Straight; decide +kernel
theorem wit_lda : (Straight (issuing 0x52 (ofMA 0x11 0 0 8) (ptrTo 8)) 0 0x52 (ofMA 0x11 0 0 8) ∧ fbits (ofMA 0x11 0 0 8) 28 24 = 0)
    ∧ ((after (.lda 0 (ofMA 0x11 0 0 8)) (issuing 0x52 (ofMA 0x11 0 0 8) (ptrTo 8))).core 0).reg 0x11 = 2 ^ 56 - 2 ^ 48 + 0x800001 * 2 ^ 24 := by
  unfold Straight; decide +kernel
theorem wit_st : (Straight (issuing 0x51 (ofM 2 1 0 1) (reg 2 77 ∘ ptrTo 8)) 0 0x51 (ofM 2 1 0 1)
      ∧ (∀ a ∈ (((issuing 0x51 (ofM 2 1 0 1) (reg 2 77 ∘ ptrTo 8)).core 0).ea 1 1).words,
          ((issuing 0x51 (ofM 2 1 0 1) (reg 2 77 ∘ ptrTo 8)).ctx 0).storable 1 a = true))
    ∧ (after (.st 0 (ofM 2 1 0 1)) (issuing 0x51 (ofM 2 1 0 1) (reg 2 77 ∘ ptrTo 8))).spaceWord 0 1 8 = 77 := by unfold Straight; decide +kernel
theorem wit_sta : (Straight (issuing 0x53 (ofMA 2 0 0 0x3FFF) (reg 2 77)) 0 0x53 (ofMA 2 0 0 0x3FFF)
      ∧ ((issuing 0x53 (ofMA 2 0 0 0x3FFF) (reg 2 77)).ctx 0).storable 0 0x3FFF = true)
    ∧ (after (.sta 0 (ofMA 2 0 0 0x3FFF)) (issuing 0x53 (ofMA 2 0 0 0x3FFF) (reg 2 77))).spaceWord 0 0 0x3FFF = 77 := by unfold Straight; decide +kernel

/-! Quads (QuadResults, TapResults) -/

/-- Accumulators 0 to 3 take the products of X0-X3 and Y0, and Y4-Y7 are loaded from words 0-3 of Y. -/
def fq : BitVec 40 := ofQ 0 0 3 0 1 1 0 0 0
def quad (op : Nat) : State := issuing op fq fun c => reg 0 2 (reg 8 3 { c with ym := [(1, 9)] })

theorem wit_mpyq : (Straight (quad 0x10) 0 0x10 fq ∧ qLegal fq false false = true
      ∧ ∀ w ∈ (((quad 0x10).core 0).ea (qFields fq).eay 4).words, reaches 1 w = true)
    ∧ ((after (.mpyq 0 fq) (quad 0x10)).core 0).reg 0x10 = 12 ∧ ((after (.mpyq 0 fq) (quad 0x10)).core 0).reg 13 = 9 := by unfold Straight; decide +kernel
theorem wit_macq : Straight (quad 0x11) 0 0x11 fq ∧ ((after (.macq 0 fq) (quad 0x11)).core 0).reg 0x10 = 12 := by unfold Straight; decide +kernel
theorem wit_msuq : Straight (quad 0x12) 0 0x12 fq ∧ ((after (.msuq 0 fq) (quad 0x12)).core 0).reg 0x10 = 2 ^ 56 - 12 := by unfold Straight; decide +kernel

/-- A tap: words 0-3 of X times words 0-3 of C through P1, and the X words stored to Y through P2 at 8. -/
def ft : BitVec 40 := ofQ 0 2 2 0 1 0 0 2 1
def tap (op : Nat) (f : BitVec 40) : State := issuing op f fun c => reg 0x31 4 (reg 0x32 8 { c with xm := [(0, 3)], cm := c.cm ++ [(4, 5)] })

theorem wit_ftap : (Straight (tap 0x13 ft) 0 0x13 ft ∧ qLegal ft true false = true
      ∧ (∀ w ∈ (((tap 0x13 ft).core 0).ea (qFields ft).eax 4).words, reaches 0 w = true)
      ∧ (∀ w ∈ (((tap 0x13 ft).core 0).ea (qFields ft).eac 4).words, reaches 2 w = true)
      ∧ (∀ w ∈ (((tap 0x13 ft).core 0).ea (qFields ft).eay 4).words, ((tap 0x13 ft).ctx 0).storable 1 w = true))
    ∧ ((after (.ftap 0 ft) (tap 0x13 ft)).core 0).reg 0x10 = 30 ∧ (after (.ftap 0 ft) (tap 0x13 ft)).spaceWord 0 1 8 = 3 := by unfold Straight; decide +kernel
theorem wit_ftapx : (Straight (tap 0x14 (ft ||| 0x200000000)) 0 0x14 (ft ||| 0x200000000) ∧ qLegal (ft ||| 0x200000000) true true = true)
    ∧ ((after (.ftapx 0 (ft ||| 0x200000000)) (tap 0x14 (ft ||| 0x200000000))).core 0).reg 10 = 0 := by unfold Straight; decide +kernel

/-! Branches and loops (BranchResults, LoopResults, EndOfInstruction, IllegalWords) -/

/-- Format B with a condition, a pointer and a target; condition 0 always holds, and condition 1 does not. -/
def ofB (cc pn target : Nat) : BitVec 40 := BitVec.ofNat 40 (cc * 2 ^ 36 + pn * 2 ^ 33 + target)
def ofL (n e : Nat) : BitVec 40 := BitVec.ofNat 40 (n * 2 ^ 24 + e)

theorem wit_b_taken : (Flows (issuing 1 (ofB 0 0 0x7FFE) id) 0 1 (ofB 0 0 0x7FFE) ∧ condHolds ((issuing 1 (ofB 0 0 0x7FFE) id).core 0).sr 0 = true)
    ∧ ((after (.b 0 (ofB 0 0 0x7FFE)) (issuing 1 (ofB 0 0 0x7FFE) id)).core 0).branch = some (.jump 0x7FFE false) := by unfold Flows; decide +kernel
theorem wit_b_not_taken : (Flows (issuing 1 (ofB 1 0 8) id) 0 1 (ofB 1 0 8) ∧ condHolds ((issuing 1 (ofB 1 0 8) id).core 0).sr 1 = false)
    ∧ ((after (.b 0 (ofB 1 0 8)) (issuing 1 (ofB 1 0 8) id)).core 0).slots = 2 := by unfold Flows; decide +kernel

/-- A core with n addresses on its return stack. -/
def nested (n : Nat) (c : Core) : Core := { c with stack := List.replicate n 0x100 }

theorem wit_call : (Flows (issuing 2 (ofB 0 0 8) (nested 7)) 0 2 (ofB 0 0 8) ∧ ((issuing 2 (ofB 0 0 8) (nested 7)).core 0).stack.length < 8)
    ∧ ((after (.call 0 (ofB 0 0 8)) (issuing 2 (ofB 0 0 8) (nested 7))).core 0).stack = 6 :: List.replicate 7 0x100 := by unfold Flows; decide +kernel
theorem wit_call_ninth : (Flows (issuing 2 (ofB 0 0 8) (nested 8)) 0 2 (ofB 0 0 8) ∧ 8 ≤ ((issuing 2 (ofB 0 0 8) (nested 8)).core 0).stack.length)
    ∧ (after (.call 0 (ofB 0 0 8)) (issuing 2 (ofB 0 0 8) (nested 8))).fld (F.CO_STATUS_LAST_FAULT 0) = 9 := by unfold Flows; decide +kernel
theorem wit_call_not_taken : Flows (issuing 2 (ofB 1 0 8) (nested 8)) 0 2 (ofB 1 0 8)
    ∧ ((after (.call 0 (ofB 1 0 8)) (issuing 2 (ofB 1 0 8) (nested 8))).core 0).stack.length = 8 := by unfold Flows; decide +kernel
theorem wit_brp : (Flows (issuing 3 (ofB 0 1 0) (reg 0x31 0x7FFE)) 0 3 (ofB 0 1 0) ∧ ((issuing 3 (ofB 0 1 0) (reg 0x31 0x7FFE)).core 0).seen hideAddr 0x31 < 2 ^ 15)
    ∧ ((after (.brp 0 (ofB 0 1 0)) (issuing 3 (ofB 0 1 0) (reg 0x31 0x7FFE))).core 0).branch = some (.jump 0x7FFE false) := by unfold Flows; decide +kernel
theorem wit_brp_error : (Flows (issuing 3 (ofB 0 1 0) (reg 0x31 0x8000)) 0 3 (ofB 0 1 0)
      ∧ 2 ^ 15 ≤ ((issuing 3 (ofB 0 1 0) (reg 0x31 0x8000)).core 0).seen hideAddr 0x31)
    ∧ (after (.brp 0 (ofB 0 1 0)) (issuing 3 (ofB 0 1 0) (reg 0x31 0x8000))).fld (F.CO_STATUS_STATE 0) = 3 := by unfold Flows; decide +kernel
theorem wit_brp_not_taken : Flows (issuing 3 (ofB 1 1 0) (reg 0x31 0x8000)) 0 3 (ofB 1 1 0)
    ∧ ((after (.brp 0 (ofB 1 1 0)) (issuing 3 (ofB 1 1 0) (reg 0x31 0x8000))).core 0).pc = 2 := by unfold Flows; decide +kernel
theorem wit_rts : Flows (issuing 4 0 (nested 1)) 0 4 0 ∧ ((after (.rts 0 0) (issuing 4 0 (nested 1))).core 0).branch = some (.jump 0x100 false)
    ∧ ((after (.rts 0 0) (issuing 4 0 (nested 1))).core 0).stack = [] := by unfold Flows; decide +kernel
theorem wit_rts_empty : Flows (issuing 4 0 id) 0 4 0 ∧ (after (.rts 0 0) (issuing 4 0 id)).fld (F.CO_STATUS_LAST_FAULT 0) = 9 := by unfold Flows; decide +kernel
theorem wit_rts_not_taken : Flows (issuing 4 (ofB 1 0 0) id) 0 4 (ofB 1 0 0) ∧ ((after (.rts 0 (ofB 1 0 0)) (issuing 4 (ofB 1 0 0) id)).core 0).slots = 2 := by
  unfold Flows; decide +kernel
theorem wit_rti : Flows (issuing 5 0 (nested 1)) 0 5 0 ∧ ((after (.rti 0 0) (issuing 5 0 (nested 1))).core 0).branch = some (.rti 0x100) := by
  unfold Flows; decide +kernel
theorem wit_rti_empty : Flows (issuing 5 0 id) 0 5 0 ∧ (after (.rti 0 0) (issuing 5 0 id)).fld (F.CO_STATUS_LAST_FAULT 0) = 9 := by unfold Flows; decide +kernel
theorem wit_rti_not_taken : Flows (issuing 5 (ofB 1 0 0) id) 0 5 (ofB 1 0 0) ∧ ((after (.rti 0 (ofB 1 0 0)) (issuing 5 (ofB 1 0 0) id)).core 0).stack = [] := by
  unfold Flows; decide +kernel

theorem wit_do : Straight (issuing 6 (ofL 65535 2) id) 0 6 (ofL 65535 2) ∧ ((after (.doImm 0 (ofL 65535 2)) (issuing 6 (ofL 65535 2) id)).core 0).reg 0x51 = 65535
    ∧ ((after (.doImm 0 (ofL 65535 2)) (issuing 6 (ofL 65535 2) id)).core 0).looping = true := by unfold Straight; decide +kernel
theorem wit_do_skip : (Straight (issuing 6 (ofL 0 0x7FFC) id) 0 6 (ofL 0 0x7FFC) ∧ 0x7FFC + 2 ≤ 0x7FFE)
    ∧ ((after (.doImm 0 (ofL 0 0x7FFC)) (issuing 6 (ofL 0 0x7FFC) id)).core 0).pc = 0x7FFE := by unfold Straight; decide +kernel
theorem wit_dor : (Straight (issuing 7 (ofS 1 0 0 0 ||| 8) (reg 1 2)) 0 7 (ofS 1 0 0 0 ||| 8) ∧ rc24 (sD (ofS 1 0 0 0 ||| 8)) = true)
    ∧ ((after (.dor 0 (ofS 1 0 0 0 ||| 8)) (issuing 7 (ofS 1 0 0 0 ||| 8) (reg 1 2))).core 0).reg 0x51 = 2 := by unfold Straight; decide +kernel
theorem wit_dor_skip : Straight (issuing 7 (ofS 1 0 0 0 ||| 8) id) 0 7 (ofS 1 0 0 0 ||| 8)
    ∧ ((after (.dor 0 (ofS 1 0 0 0 ||| 8)) (issuing 7 (ofS 1 0 0 0 ||| 8) id)).core 0).pc = 10 := by unfold Straight; decide +kernel

/-- Core 0 issues NOP, with what `g` makes of it. -/
def nops (g : Core → Core) : State := issuing 0 0 g
/-- The core runs a loop from LS to LE with a count. -/
def loop (ls le lc : Nat) (c : Core) : Core := reg 0x51 lc (reg 0x52 ls (reg 0x53 le (c.setSr (srSet c.sr srLA true))))

theorem wit_first_slot : (nops fun c => { c with slots := 2, branch := some (.jump 8 false) }).canIssue 0 0 = true
    ∧ ((after (.nop 0 0) (nops fun c => { c with slots := 2, branch := some (.jump 8 false) })).core 0).slots = 1 := by decide +kernel
theorem wit_second_slot : (nops fun c => { c with slots := 1, branch := some (.jump 0x7FFE false) }).canIssue 0 0 = true
    ∧ ((after (.nop 0 0) (nops fun c => { c with slots := 1, branch := some (.jump 0x7FFE false) })).core 0).pc = 0x7FFE := by decide +kernel
theorem wit_rti_outermost : (nops fun c => { c with slots := 1, branch := some (.rti 8), inShadow := true, handlers := [2] }).canIssue 0 0 = true
    ∧ ((after (.nop 0 0) (nops fun c => { c with slots := 1, branch := some (.rti 8), inShadow := true, handlers := [2] })).core 0).inShadow = false := by decide +kernel
theorem wit_rti_nested : (nops fun c => { c with slots := 1, branch := some (.rti 8), inShadow := true, handlers := [2, 3], nest := 1 }).canIssue 0 0 = true
    ∧ ((after (.nop 0 0) (nops fun c => { c with slots := 1, branch := some (.rti 8), inShadow := true, handlers := [2, 3], nest := 1 })).core 0).nest = 0 := by decide +kernel
theorem wit_loop_again : ((nops (loop 0 0 2)).canIssue 0 0 = true ∧ ((nops (loop 0 0 2)).core 0).looping = true ∧ ((nops (loop 0 0 2)).core 0).pc = ((nops (loop 0 0 2)).core 0).leN
      ∧ 1 < ((nops (loop 0 0 2)).core 0).seen hideLoop 0x51)
    ∧ ((after (.nop 0 0) (nops (loop 0 0 2))).core 0).reg 0x51 = 1 ∧ ((after (.nop 0 0) (nops (loop 0 0 2))).core 0).pc = 0 := by decide +kernel
theorem wit_loop_ends : ((nops (loop 0 0 1)).canIssue 0 0 = true ∧ ((nops (loop 0 0 1)).core 0).seen hideLoop 0x51 ≤ 1)
    ∧ ((after (.nop 0 0) (nops (loop 0 0 1))).core 0).looping = false ∧ ((after (.nop 0 0) (nops (loop 0 0 1))).core 0).pc = 2 := by decide +kernel

/-- Core 0 runs a work entry. -/
def inNode (c : Core) : Core := { c with run := some ⟨workEntry 1 0 1 2 3, 0, 0, []⟩ }

theorem wit_reserved_opcode : ((issuing 0xFF 0 id).canIssue 0 (word48 0xFF 0) = true ∧ opAssigned 0xFF = false)
    ∧ (after (.nop 0 (word48 0xFF 0)) (issuing 0xFF 0 id)).fld (F.CO_STATUS_LAST_FAULT 0) = 8 := by decide +kernel
theorem wit_reserved_bit : ((issuing 0x38 1 inNode).canIssue 0 (word48 0x38 1) = true ∧ fbits 1 18 0 ≠ 0)
    ∧ ((after (.add 0 1) (issuing 0x38 1 inNode)).core 0).run = none := by decide +kernel
theorem wit_no_register : ((issuing 0x43 (ofS 0x55 0 0 0) id).canIssue 0 (word48 0x43 (ofS 0x55 0 0 0)) = true ∧ 0x55 ≤ fbits (ofS 0x55 0 0 0) 39 33)
    ∧ (after (.mov 0 (ofS 0x55 0 0 0)) (issuing 0x43 (ofS 0x55 0 0 0) id)).fld (F.CO_STATUS_STATE 0) = 3 := by decide +kernel

/-! Nodes (NodeEnd, DispatchResults, RequestResults, OverlayInterrupt) -/

theorem wit_wait_work : ((issuing 8 0 id).canIssue 0 (word48 8 0) = true ∧ controlOk ((issuing 8 0 id).core 0) = true)
    ∧ ((after (.waitWork 0 0) (issuing 8 0 id)).core 0).waiting = true := by decide +kernel
theorem wit_commit : (Straight (issuing 9 0xFFFF inNode) 0 9 0xFFFF ∧ fbits 0xFFFF 39 16 = 0) ∧ ((after (.commit 0 0xFFFF) (issuing 9 0xFFFF inNode)).core 0).run = none := by
  unfold Straight; decide +kernel
theorem wit_yield : ((issuing 0x0A 0 inNode).canIssue 0 (word48 0x0A 0) = true ∧ controlOk ((issuing 0x0A 0 inNode).core 0) = true)
    ∧ ((after (.yield 0 0) (issuing 0x0A 0 inNode)).queueAt (workEntry 1 0 1 2 3).queue).length = 1 := by decide +kernel

/-- Core 0 waits at 4, and a work entry of level 1 stands in the queue of cluster 0. -/
def ready : State := (running.setCore 0 { Core.init with waiting := true, waitPc := 4 }).pushEntry (workEntry 1 0 0x11 0x22 0x33)

theorem wit_dispatch : (ready.dispatchOpen 0 = true ∧ ((ready.unbar 0).nextDispatch 0).map (·.2) = some 0 ∧ (ready.unbar 0).coreLive 0 = true)
    ∧ ((after (.dispatch 0) ready).core 0).pc = 6 ∧ ((after (.dispatch 0) ready).core 0).reg 5 = 0x11 := by decide +kernel

/-- Core 0 offers the words X0 to X3. -/
def offers (w0 w1 : Nat) (g : Core → Core) : State := issuing 0x0B (ofI 4 0) (g ∘ reg 0 w0 ∘ reg 1 w1)

theorem wit_enq_work : (Straight (offers 18 0 inNode) 0 0x0B (ofI 4 0) ∧ ((offers 18 0 inNode).enqDecide 0 [18, 0, 0, 0]).map (·.1) = some (.ok true))
    ∧ ((after (.enqWork 0 (ofI 4 0)) (offers 18 0 inNode)).core 0).reg 4 = 0 := by unfold Straight; decide +kernel
theorem wit_enq_malformed : (Straight (offers 3 0 inNode) 0 0x0B (ofI 4 0) ∧ ((offers 3 0 inNode).enqDecide 0 [3, 0, 0, 0]).map (·.1) = some .malformed)
    ∧ ((after (.enqToken 0 (ofI 4 0)) (offers 3 0 inNode)).core 0).reg 4 = 1 := by unfold Straight; decide +kernel

/-- An open channel of 5 ms frames without nodes; its context stands at page 16. -/
def plain : Chan :=
  let g : Graph := ⟨[], [], false, 0, ⟨0, 0⟩, ⟨0, 0⟩, 0, 0, 0⟩
  { st := .opened, profile := 1, ipForm := false, expert := false, frame := 0, mirror := 0, home := 0, stagger := 0, units := 4, ctx := 16 * pageBytes,
    granules := 4, graph := g, areas := areasOf g, edges := [], nextB := 0, frames := 0, ticked := 0, mediaDue := none, tomb := false, tombs := [], ran := [],
    closer := none, inFlight := 0, lantern := false, stats := [], rtpSent := none }

/-- Channel n is open. -/
def withCh (n : Nat) (s : State) : State := s.setChan n plain

theorem wit_enq_item : (Straight (withCh 0 (offers 49 0 inNode)) 0 0x0B (ofI 4 0) ∧ ((withCh 0 (offers 49 0 inNode)).enqDecide 0 [49, 0, 0, 0]).map (·.1) = some (.ok false))
    ∧ ((after (.enqItem 0 (ofI 4 0)) (withCh 0 (offers 49 0 inNode))).core 0).reg 4 = 0 := by unfold Straight; decide +kernel
theorem wit_enq_window : (Straight (withCh 0 (offers 49 64 inNode)) 0 0x0B (ofI 4 0) ∧ ((withCh 0 (offers 49 64 inNode)).enqDecide 0 [49, 64, 0, 0]).map (·.1) = some .window)
    ∧ (after (.enqItem 0 (ofI 4 0)) (withCh 0 (offers 49 64 inNode))).fld F.TH_REFUSE_CNT_CORE = 1 := by unfold Straight; decide +kernel

/-- Core 0 issues OVL from P0 to P1 of one word. -/
def ovls : State := issuing 0x0C (BitVec.ofNat 40 (2 ^ 34)) (reg 0x31 0x7FFF)
theorem wit_ovl : (Straight ovls 0 0x0C (BitVec.ofNat 40 (2 ^ 34)) ∧ (ovls.core 0).seen hideAddr 0x31 < 2 ^ 15 ∧ (ovls.overlay 0 0 0x7FFF 1).isSome = true)
    ∧ (((after (.ovl 0 (BitVec.ofNat 40 (2 ^ 34))) ovls).core 0).ovl.map (·.dst)) = some 0x7FFF := by unfold Straight; decide +kernel
theorem wit_ovl_end : (((nops fun c => { c with ovl := some ⟨8, [5, 6]⟩ }).core 0).ovl.isSome = true)
    ∧ mget 0 ((after (.ovlCopyEnd 0) (nops fun c => { c with ovl := some ⟨8, [5, 6]⟩ })).core 0).cm 9 = 6 := by decide +kernel
theorem wit_interrupt : ((nops fun c => { (c.setSr (srSet c.sr srIE true)) with dbgReq := true }).coreLive 0 = true
      ∧ ((nops fun c => { (c.setSr (srSet c.sr srIE true)) with dbgReq := true }).core 0).acceptable = some 3)
    ∧ ((after (.interruptEntry 0) (nops fun c => { (c.setSr (srSet c.sr srIE true)) with dbgReq := true })).core 0).pc = 24 := by decide +kernel
theorem wit_fault_interrupt : ((nops fun c => { c with faultReq := some 1 }).core 0).faultPending = true
    ∧ ((after (.interruptEntry 0) (nops fun c => { c with faultReq := some 1 })).core 0).pc = 8 := by decide +kernel
theorem wit_debug_halt : running.coreLive 0 = true ∧ ((after (.debugHaltRequest 0) running).core 0).dbgReq = true := by decide +kernel
theorem wit_timer : ((nops fun c => { c with timer := 1, timerFrac := 1000 }).core 0).timer = 1
    ∧ ((after (.localTimerExpiry 0) (nops fun c => { c with timer := 1, timerFrac := 1000 })).core 0).timReq = true := by decide +kernel

/-! Trailhead and Hamper (TrailheadEvents, HamperResults, BoundaryResults) -/

/-- Cluster 0 is in service, and an entry of node 0 of channel 0 waits with slot 0. -/
def waits : State :=
  (withCh 0 running).setQueue 1 [{ workEntry 1 0 0 0 0 with kind := .node, slot := some 0, ready := false }]
theorem wit_staging : (waits.clusterIn 0 = true ∧ waits.fld (F.PW_CL_STATE 0) ≠ 2 ∧ ((waits.unstaged 0).map (·.slot)) = [some 0])
    ∧ ((after (.stagingComplete 0 0 []) waits).queued.map (·.ready)) = [true] := by decide +kernel
theorem wit_pointer_copy : (15 : Nat) < running.clusters ∧ (after (.queueRebuild 15 false) running).th = running.th := by decide +kernel
theorem wit_rebuild : (ready.th.rebuild = none ∧ ready.clusterIn 0 = true) ∧ (after (.queueRebuild 0 true) ready).queueAt 1 = [] := by decide +kernel
theorem wit_rebuild_end : ((after (.queueRebuild 0 true) ready).th.rebuild).isSome = true
    ∧ (after .queueRebuildEnd (after (.queueRebuild 0 true) ready)).fld F.TH_STATUS_REBUILDING = 0 := by decide +kernel
/-- Flow 0 has held an item since time 0, and it is 1 s later. -/
def stands : State := { (running.setFlow 0 ⟨5, [⟨6, true, 0, 0, []⟩], false, 0⟩) with elapsed := 1000000000 }
theorem wit_stall : ((stands.flow 0).held ≠ [] ∧ stands.fld F.TH_CTRL_STALL_MS ≠ 0 ∧ (stands.flow 0).moved + stands.fld F.TH_CTRL_STALL_MS * 1000000 ≤ stands.elapsed
      ∧ ∃ h ∈ (stands.flow 0).held, h.time + stands.fld F.TH_CTRL_STALL_MS * 1000000 ≤ stands.elapsed)
    ∧ ((after (.flowStall 0) stands).flow 0).stalled = true := by decide +kernel
theorem wit_media_token : ((running.setChan 0 { plain with mediaDue := some 3 }).chan 0).isSome = true ∧ running.mode ≠ 10
    ∧ plain.nextB + 20000 ≤ running.nowNs + frameNs plain.frame
    ∧ (((after (.mediaTokenTimeout 0) (running.setChan 0 { plain with mediaDue := some 3 })).chan 0).map (·.mediaDue)) = some none := by decide +kernel
theorem wit_pool_restart : (after .poolHwmRestart ready).fld F.TH_POOL_HWM_HWM = 1 := by decide +kernel
theorem wit_clear_histogram : (127 : Nat) / 8 < running.clusters ∧ mget 0 (after (.clrHist 127) { running with th := { running.th with hist := [(16 * 127, 5)] } }).th.hist (16 * 127) = 0 := by
  decide +kernel
/-- Page 3 moves from itself to page 8,191; 100 lines are copied. -/
def moving : State := { running with hp := { running.hp with moves := [⟨3, 3, 8191, linesPerPage - 1, false, none⟩], hbm := [(3 * pageBytes + pageBytes - 1, 9)] } }
theorem wit_line_copy : (moving.memWf = true ∧ ((moving.hp.moves.find? fun m => m.page = 3 && m.line < linesPerPage).map (·.dst)) = some 8191)
    ∧ mget 0 (after (.pageMoveLineCopy 3 []) moving).hp.hbm (8191 * pageBytes + pageBytes - 1) = 9 := by decide +kernel
theorem wit_window : mget 0 (after (.hpWinDataWrite 0xFFFFFFFF) (running.setFld F.HP_WIN_SEL_SLOT 255)).hp.wins 255 = 0x3F7FFF := by decide +kernel
theorem wit_ways : (∃ w, w < 16 ∧ bit 1 w = true ∧ bit (running.fld F.HP_CACHE_WAYS_FAILED) w = false)
    ∧ (after (.cacheWayDisable 1) running).fld F.HP_CACHE_WAYS_ENABLE = 1 := by decide +kernel
theorem wit_no_way : (∀ w, w < 16 → bit 1 w = true → bit ((running.setFld F.HP_CACHE_WAYS_FAILED 1).fld F.HP_CACHE_WAYS_FAILED) w = true)
    ∧ (after (.cacheWayDisable 1) (running.setFld F.HP_CACHE_WAYS_FAILED 1)).fld F.HP_CACHE_WAYS_ENABLE = 0xFFFF := by decide +kernel
theorem wit_boundary : (((withCh 5 running).chans.map (·.1)).Nodup ∧ plain.nextB ≤ running.nowNs ∧ (withCh 5 running).migHeld 5 plain = false ∧ (withCh 5 running).switchDue 5 plain = false)
    ∧ ((after .frameTick (withCh 5 running)).chan 5).map (fun c => (c.frames, c.nextB)) = some (1, 5000000) := by decide +kernel
theorem wit_no_boundary : (∀ e ∈ running.chans, running.nowNs < e.2.nextB) ∧ after .frameTick running = running := by decide +kernel
theorem wit_epoch : ({ ready with cp := { ready.cp with lastEpoch := 7 } } : State).nowNs / 5000000 ≠ 7
    ∧ (after (.compassEpoch []) { ready with cp := { ready.cp with lastEpoch := 7 } }).cp.lastEpoch = 0 := by decide +kernel

/-! Faults and repair (CoreFaults, RetireAndRepair) -/

/-- Core 0 runs a work entry; with `int` a fault asks for the interrupt. -/
def faulty (int : Bool) : State := (running.setCore 0 (inNode Core.init)).setFlag (F.CO_CTRL_FAULT_INT 0) int

theorem wit_fault_taken : ((faulty true).coreLive 0 = true ∧ faultCode 7 = true ∧ (faulty true).flag (F.CO_CTRL_FAULT_INT 0) = true
      ∧ ((faulty true).core 0).faultReq = none ∧ ((faulty true).core 0).ovl = none)
    ∧ ((after (.coreFault 0 7 3 0 0) (faulty true)).core 0).faultReq = some 7 ∧ (after (.coreFault 0 7 3 0 0) (faulty true)).fld (F.CO_STATUS_LAST_LANE 0) = 3 := by decide +kernel
theorem wit_fault_replay : ((faulty false).coreLive 0 = true ∧ faultCode 1 = true ∧ (faulty false).flag (F.CO_CTRL_FAULT_INT 0) = false)
    ∧ ((after (.coreFault 0 1 0 0 0) (faulty false)).core 0).run = none ∧ (after (.coreFault 0 1 0 0 0) (faulty false)).fld F.TH_REPLAY_CNT_REPLAYS = 1 := by decide +kernel
/-- The core copies an overlay when a CPS word is in error, and clusters 0 and 1 hold the same image. -/
def copying : State := { ((faulty true).setCore 0 { (inNode Core.init) with ovl := some ⟨0, []⟩ }) with mem := { running.mem with cps := [(cpsKey 1 5, 9)] } }
theorem wit_cps_restored : (copying.coreLive 0 = true ∧ faultCode 12 = true ∧ (copying.core 0).ovl.isSome = true ∧ copying.sameImage 0 ≠ [])
    ∧ (copying.sameImage 0).head? = some 1 ∧ (after (.coreFault 0 12 0 5 0) copying).cps 0 5 = 9 := by decide +kernel
theorem wit_idle_fault_waits : ((running.setCore 0 { Core.init with waiting := true, pc := 4 }).coreLive 0 = true ∧ faultCode 1 = true)
    ∧ ((after (.idleFault 0 1 0 0 0) (running.setCore 0 { Core.init with waiting := true, pc := 4 })).core 0).pc = 4 := by decide +kernel
theorem wit_idle_fault_resets : ((running.setCore 0 { Core.init with pc := 4 }).coreLive 0 = true ∧ faultCode 2 = true)
    ∧ ((after (.idleFault 0 2 0 0 0) (running.setCore 0 { Core.init with pc := 4 })).core 0).pc = 0 := by decide +kernel
/-- Core 0 runs a node since time 0. -/
def hung : State := { (running.setCore 0 { Core.init with run := some ⟨{ workEntry 1 0 0 0 0 with kind := .node }, 0, 0, []⟩, pc := 8 }) with
  cp := { running.cp with sec := 3600 } }
theorem wit_hang : (0 + hung.fld F.RL_THRESH_HANG_MS * 1000000 ≤ hung.nowNs) ∧ ((after (.coreHang 0) hung).core 0).pc = 0 := by decide +kernel
theorem wit_core_commands : running.coreEnabled 143 = true ∧ running.fld (F.CO_STATUS_STATE 0) ≠ 0 ∧ running.fld (F.CO_STATUS_STATE 0) ≠ 2
    ∧ running.fld (F.CO_STATUS_STATE 143) = 0 ∧ after (.coreReset 143) running = running ∧ ((after (.faultInject 0 2) running).core 0).inject = 2
    ∧ ((after (.coreReset 0) (running.setCore 0 { Core.init with pc := 8 })).core 0).pc = 0 ∧ (after (.clrCnt 0) running).fld (F.CO_STATUS_FAULT_CNT 0) = 0
    ∧ ((after (.clearFaultHistory 0) (running.setCore 0 { Core.init with hist := [5] })).core 0).hist = [] := by decide +kernel

/-- Core 0 is being retired at a step since time 0. -/
def retiring (step : Nat) (spare : Option Nat) (g : Core → Core) : State :=
  { (running.setCore 0 (g Core.init)) with rl := { running.rl with retire := [⟨0, step, none, 0, spare⟩] }, elapsed := 2000000 }
theorem wit_retire_timeout : ((retiring 1 none inNode).rl.retire.any fun r => r.core = 0 && r.step = 1) = true
    ∧ ((retiring 1 none inNode).core 0).run.isSome = true ∧ 0 + 2000000 ≤ (retiring 1 none inNode).elapsed
    ∧ ((after (.retireNodeTimeout 0) (retiring 1 none inNode)).core 0).run = none ∧ after (.retirementSwap 0) (retiring 1 none inNode) = retiring 1 none inNode := by decide +kernel
theorem wit_swap : (((retiring 1 none id).core 0).run = none ∧ bit ((retiring 1 none id).fld F.RL_SPARES_SPARE_FREE) 0 = true
      ∧ ((coresOf 0).find? fun p => p ≠ 0 && (retiring 1 none id).fld (F.CO_STATUS_STATE p) = 0) = some 8)
    ∧ (after (.retirementSwap 0) (retiring 1 none id)).fld (F.CO_STATUS_STATE 0) = 2 ∧ (after (.retirementSwap 0) (retiring 1 none id)).fld (F.CO_STATUS_STATE 8) = 1 := by decide +kernel
theorem wit_spare_ready : (((retiring 2 (some 8) id).setCore 8 { Core.init with waiting := true }).core 8).waiting = true ∧ 0 < (retiring 2 (some 8) id).active 0
    ∧ (after (.spareReady 0) ((retiring 2 (some 8) id).setCore 8 { Core.init with waiting := true })).fld F.RL_EVENT_CORE_RETIRED = 1 := by decide +kernel
/-- Row 7 of unit 0 is logged, and `n` of its spare rows are used. -/
def logged (n : Nat) : State := { running with mem := { running.mem with logged := [(0, 7)], sparesUsed := [(0, n)] } }
theorem wit_row_repaired : ((logged 7).flag F.RL_CTRL_ROW_REPAIR_EN = true ∧ (0, 7) ∈ (logged 7).mem.logged ∧ 7 < unitSpares 0)
    ∧ (after (.rowRepaired 0 7) (logged 7)).fld F.RL_EVENT_ROW_REPAIRED = 1 ∧ (after (.rowRepaired 0 7) (logged 7)).mem.logged = [] := by decide +kernel
theorem wit_no_spare_row : ((logged 8).flag F.RL_CTRL_ROW_REPAIR_EN = true ∧ unitSpares 0 ≤ 8) ∧ (after (.rowRepaired 0 7) (logged 8)).fld F.RL_EVENT_NO_SPARE_ROW = 1 := by decide +kernel
theorem wit_cluster_reset : (running.clusterIn 0 = true ∧ running.fld (F.PW_CL_STATE 0) ∉ [0, 4, 5, 6]) ∧ (after (.clusterReset 0) running).fld (F.PW_CL_STATE 0) = 2
    ∧ (after (.clusterResetEnd 0 0x1FF true true) (after (.clusterReset 0) running)).fld (F.PW_CL_STATE 0) = 1 := by decide +kernel
theorem wit_cluster_reset_refused : (running.setFld (F.PW_CL_STATE 15) 4).fld (F.PW_CL_STATE 15) ∈ [0, 4, 5, 6]
    ∧ (after (.clusterReset 15) (running.setFld (F.PW_CL_STATE 15) 4)).fld (F.PW_CL_RESETS 15) = 0 := by decide +kernel
theorem wit_cluster_registers : (15 : Nat) < running.clusters ∧ (after (.logClr 15) running).fld (F.CL_CSM_ROWLOG_VALID 15) = 0
    ∧ (after (.arbRestart 15) (running.setFld (F.CL_CSM_STAT_MAX_NS 15) 5)).fld (F.CL_CSM_STAT_MAX_NS 15) = 0
    ∧ (after (.clPatchDataRead 15) (running.setFld (F.CL_PATCH_SEL_BLOCK 15) 511)).fld (F.CL_PATCH_SEL_BLOCK 15) = 0 := by decide +kernel

/-! The supervisor (SupervisorResults) -/

def flag (f : Fld) (s : State) : State := s.setFlag f true
def fld (f : Fld) (v : Nat) (s : State) : State := s.setFld f v

theorem wit_window_measures : (running.mode ≠ 0 ∧ running.mode ≠ 9 ∧ running.flag F.ST_STATUS_REF_LOST = false)
    ∧ exec (.sensorWindow []) running ≠ .refused (.notModelled "SENSOR_WINDOW") := ⟨by decide +kernel, by intro h; cases h⟩
theorem wit_window_without_reference : (flag F.ST_STATUS_REF_LOST { running with st := { running.st with refBack := true } }).flag F.ST_STATUS_REF_LOST = true
    ∧ (after (.sensorWindow []) (flag F.ST_STATUS_REF_LOST { running with st := { running.st with refBack := true } })).st.refWindows = 1 := by decide +kernel
theorem wit_floor_restored : (flag F.ST_STATUS_BELOW_FLOOR { running with st := { running.st with okWindows := 200 } }).flag F.ST_STATUS_BELOW_FLOOR = true
    ∧ (after .floorRestored (flag F.ST_STATUS_BELOW_FLOOR { running with st := { running.st with okWindows := 200 } })).fld F.ST_STATUS_BELOW_FLOOR = 0 := by decide +kernel
/-- The settle time runs. -/
def settling : State := { running with st := { running.st with settle := 1 } }
theorem wit_settle : (settling.st.settle = 1 ∧ settling.fld F.ST_VLIMIT_VMIN_MV ≤ settling.fld F.ST_VSET_CMD_MV ∧ settling.fld F.ST_VSET_CMD_MV ≤ settling.fld F.ST_VLIMIT_VMAX_MV)
    ∧ after .settleExpiry settling = { settling with st := { settling.st with settle := 2 } } := by decide +kernel
theorem wit_limit_step : ((fld F.ST_VLIMIT_VMAX_MV 700 settling).fld F.ST_VLIMIT_VMAX_MV < (fld F.ST_VLIMIT_VMAX_MV 700 settling).fld F.ST_VSET_CMD_MV
      ∧ (fld F.ST_VLIMIT_VMAX_MV 700 settling).flag F.ST_CTRL_EN = true ∧ (fld F.ST_VLIMIT_VMAX_MV 700 settling).flag F.ST_STATUS_AVS_FAULT = false)
    ∧ (after .settleExpiry (fld F.ST_VLIMIT_VMAX_MV 700 settling)).fld F.ST_VSET_CMD_MV = 795 := by decide +kernel
/-- An AVSBus transaction waits for its end. -/
def avs (write : Option Nat) (fails : Nat) : State := { running with st := { running.st with avs := some ⟨write, fails⟩ } }
theorem wit_avs_write_ends : (avs (some 800) 0).st.avs.isSome = true ∧ (after (.avsTransactionEnd true 800 5) (avs (some 800) 0)).st.avs = some ⟨none, 0⟩ := by decide +kernel
theorem wit_avs_read_ends : (after (.avsTransactionEnd true 801 5) (avs none 0)).fld F.ST_VREAD_V_MV = 801
    ∧ (after (.avsTransactionEnd true 801 5) (avs none 0)).st.avs = none := by decide +kernel
theorem wit_avs_retry : 0 < (avs none 0).fld F.ST_AVS_CFG_RETRIES ∧ (after .avsResponseTimeout (avs none 0)).st.avs = some ⟨none, 1⟩ := by decide +kernel
theorem wit_avs_fault : (avs none 7).fld F.ST_AVS_CFG_RETRIES ≤ 7 ∧ (after (.avsTransactionEnd false 0 0) (avs none 7)).fld F.ST_STATUS_AVS_FAULT = 1
    ∧ (after (.avsTransactionEnd false 0 0) (avs none 7)).fld F.ST_EVENT_AVS_FAULT = 1 := by decide +kernel
theorem wit_avs_poll : ((flag F.ST_STATUS_AVS_FAULT running).flag F.ST_STATUS_AVS_FAULT = true ∧ (flag F.ST_STATUS_AVS_FAULT running).st.avs = none)
    ∧ (after .avsFaultPoll (flag F.ST_STATUS_AVS_FAULT running)).st.avs = some ⟨none, 0⟩ := by decide +kernel
theorem wit_ref_clear : (flag F.ST_STATUS_REF_LOST { running with st := { running.st with refBack := true, refWindows := 2 } }).flag F.ST_STATUS_REF_LOST = true
    ∧ (after .refLostClear (flag F.ST_STATUS_REF_LOST { running with st := { running.st with refBack := true, refWindows := 2 } })).fld F.ST_STATUS_REF_LOST = 0 := by decide +kernel
theorem wit_ages : running.st.measuredAge = false ∧ (after (.ageMeasurement (List.replicate 15 900 ++ [899])) running).fld F.ST_AGE_MIN_CLUSTER = 15
    ∧ (after (.ageMeasurement (List.replicate 15 900 ++ [899])) running).fld F.ST_AGE_MIN_INDEX = 899 := by decide +kernel
theorem wit_crossing : (after (.xing 255) (fld F.ST_XING_CNT_COUNT 65535 running)).fld F.ST_XING_CNT_COUNT = 65535 ∧ (after (.xing 255) running).fld F.ST_XING_CNT_COUNT = 1 := by decide +kernel
theorem wit_speed_min : (after .speedMinRestart (fld F.ST_SPEED_MIN_MIN 5 running)).fld F.ST_SPEED_MIN_MIN = 0xFFFF := by decide +kernel

/-! Compass (CompassResults) -/

theorem wit_time_step : running.flag F.CP_STATUS_TIME_VALID = false ∧ (after .timeStep (fld F.CP_SET_SEC_HI_SEC_HI 1 running)).cp.sec = 2 ^ 32 := by decide +kernel
theorem wit_step_refused : ((flag F.CP_STATUS_TIME_VALID (withCh 0 running)).flag F.CP_STATUS_TIME_VALID = true ∧ (withCh 0 running).chans ≠ [])
    ∧ (after .timeStep (flag F.CP_STATUS_TIME_VALID (withCh 0 running))).fld F.CP_EVENT_STEP_REFUSED = 1 := by decide +kernel
theorem wit_adjust : (after (.cpAdjWrite 0xFFFFFFFF) running).cp.residue = -4294967296 := by decide +kernel
theorem wit_slew_ends : ({ running with cp := { running.cp with residue := -1, ns := 5 } } : State).cp.residue.natAbs ≤ 17179869
    ∧ (after .slewAbsorbed { running with cp := { running.cp with residue := -1, ns := 5 } }).cp.ns = 4
    ∧ (after .slewAbsorbed { running with cp := { running.cp with residue := -1, ns := 5 } }).cp.frac = 4294967295 := by decide +kernel
theorem wit_pps_edge : (fld F.CP_SRC_CFG_SRC 2 running).fld F.CP_SRC_CFG_SRC = 2 ∧ (after .ppsInEdge { running with elapsed := 77 }).cp.lastPps = 77 := by decide +kernel
theorem wit_pps_error : (after .ppsInEdge (fld F.CP_SRC_CFG_SRC 2 { running with cp := { running.cp with ns := 999999999 } })).fld F.CP_PD_ERROR_NS = 0xFFFFFFFF := by decide +kernel
theorem wit_source_lost : (let s := fld F.CP_STATUS_STATE 2 (fld F.CP_SRC_CFG_SRC 2 { running with elapsed := 1100000000 })
    (s.fld F.CP_SRC_CFG_SRC = 2 ∧ s.cp.lastPps + 1100000000 ≤ s.elapsed ∧ s.fld F.CP_STATUS_STATE = 2) ∧ (after .srcLost s).fld F.CP_STATUS_STATE = 3) := by decide +kernel
theorem wit_pps_out : (let s := flag F.CP_PPS_OUT_EN (flag F.CP_STATUS_TIME_VALID running)
    (s.flag F.CP_PPS_OUT_EN = true ∧ s.flag F.CP_STATUS_TIME_VALID = true ∧ s.flag F.CP_STATUS_REF_LOST = false ∧ s.cp.ppsHigh = none ∧ s.cp.stepped = false
      ∧ s.cp.ns = s.fld F.CP_PPS_OUT_OFS_NS * 1024) ∧ (after .ppsOutRise s).cp.ppsHigh = some 0) := by decide +kernel
theorem wit_pps_falls : (let s : State := { running with cp := { running.cp with ppsHigh := some 0 }, elapsed := 1000000000 }
    0 + s.fld F.CP_PPS_OUT_WIDTH_MS * 1000000 ≤ s.elapsed ∧ (after .ppsOutFall s).cp.ppsHigh = none) := by decide +kernel
theorem wit_capture : (let s := flag (F.CP_CAP_CFG_EN 5) { running with cp := { running.cp with ns := 123 } }
    s.flag (F.CP_CAP_CFG_EN 5) = true ∧ (after (.captureEdge 5) s).fld (F.CP_CAP_NS_VALUE 5) = 123
      ∧ (after (.captureEdge 5) (after (.captureEdge 5) s)).fld (F.CP_CAP_CFG_OVR 5) = 1 ∧ (after (.capSecRead 5) (after (.captureEdge 5) s)).fld (F.CP_CAP_CFG_VALID 5) = 0) := by decide +kernel
theorem wit_nsec_read : (after .cpNsecRead { running with cp := { running.cp with sec := 2 ^ 32 + 9, ns := 4 } }).lastRead = 4
    ∧ (after .cpNsecRead { running with cp := { running.cp with sec := 2 ^ 32 + 9, ns := 4 } }).fld F.CP_SEC_LO_SEC_LO = 9 := by decide +kernel

/-! Highways (TdmCommands) -/

/-- Highway 15 is a slave that runs. -/
def slave : State := flag F.TD_CTRL_EN (flag (F.TD_HCFG_EN 15) ((running.setFlag (F.TD_HCFG_MASTER 15) false)))
theorem wit_tick : (let s : State := { slave with cp := { slave.cp with lastTick := 9 } }
    (s.nowNs / 125000 ≠ s.cp.lastTick ∧ s.flag F.CP_STATUS_REF_LOST = false ∧ s.hwyActive 15 = true) ∧ (after (.highwayTick [] []) s).cp.lastTick = 0) := by decide +kernel
theorem wit_frame_sync_error : (slave.hwyActive 15 = true ∧ slave.flag (F.TD_HCFG_MASTER 15) = false ∧ bit (slave.fld F.TD_STATUS_CLK_LOST) 15 = false)
    ∧ (after (.highwayFrameReceived 15 [] 1 false []) slave).fld (F.TD_HCNT_FS_ERR 15) = 1 := by decide +kernel
theorem wit_highway_frame : (let s := slave.setHwy 15 { slave.hwy 15 with rx := [[]], tx := [[7]] }
    ((s.hwy 15).rx.length < 2 ∧ (s.hwy 15).tx = [[7]]) ∧ ((after (.highwayFrameReceived 15 [1, 2] 0 false []) s).hwy 15).rx = [[], [1, 2]]
      ∧ ((after (.highwayFrameReceived 15 [1, 2] 0 false []) s).hwy 15).txLast = [7]) := by decide +kernel
theorem wit_clock_lost : (after (.clkLost 15) slave).fld F.TD_STATUS_CLK_LOST = 2 ^ 15 ∧ bit ((after (.clkLost 15) slave).fld F.TD_STATUS_CLK_LOST) 15 = true
    ∧ (after (.tdClkReturn 15) (after (.clkLost 15) slave)).fld F.TD_STATUS_CLK_LOST = 0 := by decide +kernel
theorem wit_slot_linear : (let s := fld F.TD_SLOT_SEL_SLOT 510 running
    s.slotRejects 0 510 (bits (5 + 2 * 2 ^ 13) 0 17) = false ∧ (after (.tdSlotDataWrite (5 + 2 * 2 ^ 13)) s).tdSlot 0 511 = 2 ^ 17) := by decide +kernel
theorem wit_slot_rejected : (let s := fld F.TD_SLOT_SEL_SLOT 511 running
    s.slotRejects 0 511 (bits (5 + 2 * 2 ^ 13) 0 17) = true ∧ (after (.tdSlotDataWrite (5 + 2 * 2 ^ 13)) s).fld F.TD_EVENT_SLOT_REJECT = 1) := by decide +kernel

/-! The bitstream block (BitstreamResults) -/

/-- Group 15 runs in ACCESS. -/
def access : State := flag F.BS_CTRL_EN (flag (F.BS_GCFG_EN 15) (fld F.GL_MODE_MODE 3 running))
theorem wit_pair_lost : (access.pairLost 7 = false ∧ access.groupActive 15 = true) ∧ (after (.bsClockLost 7) access).pairLost 7 = true
    ∧ (after (.bsClockLost 7) access).fld F.BS_LOSS_CNT_LOSSES = 1 := by decide +kernel
theorem wit_pair_back : (after (.bsClockLost 7) access).pairLost 7 = true ∧ (after (.clkBack 7) (after (.bsClockLost 7) access)).pairLost 7 = false
    ∧ ((after (.clkBack 7) (after (.bsClockLost 7) access)).bsGroup 15).localDue = true := by decide +kernel
/-- Channel 0 waits for the completion of block channel 240 on a ring of its rate. -/
def framed : Chan := { plain with mediaDue := some 3, nextB := 20000000, graph := { plain.graph with rx := ⟨4, frameSamples 0 (access.groupCfg 15).fs⟩ } }
theorem wit_slot_fits : (let s := flag (F.BS_CH_RX_EN 240) (access.setChan 0 framed)
    (s.chan (s.fld (F.BS_CH_CHANNEL 240)) = some framed ∧ s.flag (F.BS_CH_RX_EN 240) = true ∧ s.mode ≠ 10 ∧ s.groupActive 15 = true
      ∧ ringFits framed framed.graph.rx (s.groupCfg 15).fs = true)) := by decide +kernel
theorem wit_sync_in : (flag F.BS_CTRL_SYNC_IN_EN access).flag F.BS_CTRL_SYNC_IN_EN = true ∧ (after .syncInEdge (flag F.BS_CTRL_SYNC_IN_EN access)).bs.sync = [(0, 1)]
    ∧ (after .syncCmd access).bs.sync = [(0, 3)] := by decide +kernel
theorem wit_sync_reset : (let s := flag (F.BS_GCFG_SYNC_EN 15) (after .syncCmd access)
    ((0, 3) ∈ s.bs.sync ∧ 0 ≤ s.nowNs ∧ s.groupActive 15 = true ∧ s.flag (F.BS_GCFG_SYNC_EN 15) = true)
      ∧ (after .syncReset s).fld (F.BS_GRSMP_SETTLING 15) = 1 ∧ (after .syncReset s).bs.sync = []) := by decide +kernel
theorem wit_sync_owed : (let s := after (.bsClockLost 7) (flag (F.BS_GCFG_SYNC_EN 15) (after .syncCmd access))
    s.pairLost 7 = true ∧ ((after .syncReset s).bsGroup 15).localDue = true) := by decide +kernel
theorem wit_local_reset : (let s := access.setBsGroup 15 { BsGroup.init with localDue := true }
    (s.bsGroup 15).localDue = true ∧ s.groupActive 15 = true ∧ ((after (.groupLocalReset 15) s).bsGroup 15).localDue = false) := by decide +kernel
theorem wit_settled : (let s := flag (F.BS_GRSMP_SETTLING 15) { access with cp := { access.cp with sec := 10 } }
    (s.bsGroup 15).resetAt + (s.groupCfg 15).settle * 1000000 / (s.groupCfg 15).fs ≤ s.nowNs ∧ (after (.bsSettleEnd 15) s).fld (F.BS_GRSMP_SETTLING 15) = 0) := by decide +kernel
theorem wit_mapping : access.mapRejects 255 0 = false ∧ (after (.bsChWrite 255 0xC00000) (flag (F.BS_CH_SLIP 255) access)).fld (F.BS_CH_SLIP 255) = 0 := by decide +kernel
theorem wit_mapping_rejected : (flag (F.BS_CH_RX_EN 0) access).mapRejects 255 0x2000 = true ∧ (after (.bsChWrite 255 0x2000) (flag (F.BS_CH_RX_EN 0) access)).fld F.BS_EVENT_MAP_REJECT = 1 := by decide +kernel
theorem wit_coefficient : (let s := fld F.BS_COEF_SEL_TAP 63 running
    s.bankBusy 0 false = false ∧ mget 0 (after (.bsCoefDataAccess true 5) s).bs.coef 63 = 5 ∧ (after (.bsCoefDataAccess false 0) s).fld F.BS_COEF_SEL_TAP = 0) := by decide +kernel
theorem wit_coefficient_refused : (let s := fld F.BS_COEF_SEL_GROUP 15 access
    s.bankBusy 15 false = true ∧ (after (.bsCoefDataAccess true 5) s).fld F.BS_EVENT_COEF_REFUSED = 1) := by decide +kernel
theorem wit_swaps : (access.bsGroup 15).fade = none ∧ (after (.swap 15 false) access).bs = access.bs ∧ (((after (.swap 15 true) access).bsGroup 15).fade.map (·.target)) = some true
    ∧ (((after (.swap 15 false) (after (.swap 15 true) access)).bsGroup 15).queued.map (·.target)) = some false := by decide +kernel
theorem wit_swap_done : (let s := access.setBsGroup 15 { BsGroup.init with fade := some ⟨true, 0, none⟩ }
    let s : State := { s with cp := { s.cp with sec := 10 } }
    0 + s.fld (F.BS_GFIR_FADE_LEN 15) + 1 ≤ s.nextFir 15 ∧ ((after (.swapDone 15) s).bsGroup 15).active = true) := by decide +kernel
theorem wit_swap_queued : (let s := access.setBsGroup 15 { BsGroup.init with fade := some ⟨true, 0, none⟩, queued := some ⟨false, 0, none⟩ }
    let s : State := { s with cp := { s.cp with sec := 10 } }
    (((after (.swapDone 15) s).bsGroup 15).fade.map (·.target)) = some false) := by decide +kernel

/-! The line measurement unit (StileSequence, LmuEvents) -/

/-- An entry of input 5 with relay 1 and its discharge. -/
def entry : LmRun := ⟨[5 + 2 ^ 17, 0, 0, 0], false, 0, 0, none, 0, 0, 0, 0, 0, 0, none, 0, true, 0, 0, 0, none, 0⟩
/-- The LMU stands at a step of that entry. -/
def lm (step : Nat) (g : LmRun → LmRun) : State := fld F.LM_STATUS_STEP step { running with lm := { running.lm with run := some (g entry) } }

theorem wit_readback_one : (lm 1 id).fld F.LM_STATUS_STEP = 1 ∧ (after .stileReadback (lm 1 id)).fld F.LM_STATUS_STEP = 2
    ∧ ((after .stileReadback (lm 1 id)).lm.run.map (·.gapEnd)) = some 1000 ∧ (after .stileReadback (lm 1 id)).flag (F.LM_RLY_STATE 1) = true := by decide +kernel
theorem wit_readback_five : (after .stileReadback (lm 5 id)).fld F.LM_STATUS_STEP = 6 ∧ (after .stileReadback (lm 5 id)).lm.closed = some 5 := by decide +kernel
theorem wit_readback_six : (after .stileReadback (lm 6 id)).fld F.LM_STATUS_STEP = 8 ∧ (after .stileReadback (lm 6 id)).fld F.LM_STATUS_INPUT = 5 := by decide +kernel
theorem wit_gap_waits : (after .openGapEnd (lm 2 fun r => { r with relayEnd := some 5 })).fld F.LM_STATUS_STEP = 3 := by decide +kernel
theorem wit_gap_ends : (after .openGapEnd (lm 2 id)).fld F.LM_STATUS_STEP = 4 ∧ (after .openGapEnd (lm 2 id)).lm.dsch = true := by decide +kernel
theorem wit_relays_settle : (after .relaySettleEnd (lm 3 fun r => { r with relayEnd := some 0, e := [5 + 2 ^ 9, 0, 0, 0] })).lm.closed = some 5 := by decide +kernel
theorem wit_relays_in_gap : ((after .relaySettleEnd (lm 2 fun r => { r with relayEnd := some 0 })).lm.run.map (·.relayEnd)) = some none := by decide +kernel
theorem wit_discharged : (after .dischargeEnd (lm 4 id)).fld F.LM_STATUS_STEP = 5 := by decide +kernel
theorem wit_stuck_closed : (after (.stileStuckClosed 39) (lm 1 id)).fld F.LM_STATUS_STATE = 5 ∧ (after (.stileStuckClosed 39) (lm 1 id)).lm.closed = some 39
    ∧ (after (.stileStuckClosed 40) (lm 5 id)).lm.dsch = true := by decide +kernel
theorem wit_stuck_open : (after .stileStuckOpen (lm 6 id)).fld F.LM_CNT_STILE_FAULTS = 1 := by decide +kernel
theorem wit_no_entry : running.lm.run = none ∧ after .stileReadback running = running ∧ after .blankTimeout running = running := by decide +kernel
theorem wit_reset_fault : (after (.resetFault true) (fld F.LM_STATUS_STATE 5 running)).fld F.LM_STATUS_STATE = 1 ∧ after (.resetFault true) running = running := by decide +kernel
theorem wit_output_ignored : (lm 4 id).lm.run.isSome = true ∧ after (.lmuOutput []) (lm 4 id) = lm 4 id ∧ (lm 9 id).fld F.LM_STATUS_STEP = 9 := by decide +kernel
theorem wit_blank_pin : (after (.blankPinEdge true) (flag F.LM_CFG_BLANK_PIN_EN (running.setFlag F.LM_CFG_BLANK_POL false))).flag F.LM_STATUS_BLANKING = true := by decide +kernel
theorem wit_blank_timeout : (let s := flag F.LM_CFG_WMODE (lm 9 fun r => { r with discarded := 100000000 })
    lmWmode (s.lmCfg { entry with discarded := 100000000 }) = true
      ∧ lmExtMs entry.e * 32000000 < 100000000 * lmStep32 (lmChain (bits (s.lmCfg { entry with discarded := 100000000 }) 0 2))
      ∧ (after .blankTimeout s).fld F.LM_CNT_BLANK_TIMEOUTS = 1) := by decide +kernel
/-- A sweep of one entry whose next pass is due. -/
def gap (r : Option LmRun) : State := { running with lm := { running.lm with sweep := some ⟨3, [[5, 0, 0, 0]], 2, 1, 1, 0, 0, 0, false, some 0, false⟩, run := r } }
theorem wit_pass_begins : ((gap none).lm.sweep.bind (·.gapUntil)) = some 0 ∧ (gap none).lm.refWait = false ∧ (after .passGapEnd (gap none)).fld F.LM_STATUS_STEP = 1
    ∧ ((after .passGapEnd (gap none)).lm.run.map (·.e)) = some [5, 0, 0, 0] := by decide +kernel
theorem wit_pass_waits : ((after .passGapEnd (gap (some entry))).lm.sweep.map (·.waiting)) = some true := by decide +kernel
theorem wit_telemetry : (let s := flag F.LM_CTRL_EN (flag F.LM_CTRL_TELEM_EN running)
    (s.sweepIdle = true ∧ s.lm.run = none ∧ s.fld F.LM_STATUS_STATE ≠ 5 ∧ s.lm.refWait = false) ∧ (after .telemetryStart s).lm.telemLeft = [33, 34, 35, 36, 37, 38, 39]) := by decide +kernel
theorem wit_reference_lost : (let s := fld F.ST_VSET_CMD_MV 700 running
    (s.flag F.ST_CTRL_EN = true ∧ s.flag F.ST_STATUS_AVS_FAULT = false ∧ s.fld F.ST_VSET_CMD_MV < 800 ∧ 800 ≤ s.fld F.ST_VLIMIT_VMAX_MV ∧ s.fld F.ST_VLIMIT_VMIN_MV ≤ 800)
      ∧ (after .refLost s).fld F.ST_VSET_CMD_MV = 800 ∧ (after .refLost s).fld F.CP_STATUS_REF_LOST = 1 ∧ (after .refReturn (after .refLost s)).fld F.CP_STATUS_REF_LOST = 0) := by decide +kernel

/-! Packet ports (PortFrames, PortLinks) -/

/-- Port 3 is enabled and its link is up. -/
def up : State := (flag (F.EP_CTRL_EN 3) (flag (F.EP_STATUS_LINK 3) running)).setFlag F.GL_STATUS_LIVE true
def atPort (p : Port) : State := up.setPort 3 p
/-- A host frame of 14 bytes. -/
def hostFrame : TxFrame := ⟨1, 0, 0, 0, 0, false, false, 0, 0, false, [], List.replicate 14 7, false, false, 64, none, 0, none, 0⟩
/-- An item that has waited for 50 ms. -/
def oldItem : TxFrame := { hostFrame with kind := 0, len := 64 }
/-- A PAUSE frame with its FCS. -/
def pauseFrame : List (BitVec 8) :=
  let l := padFrame ([1, 0x80, 0xC2, 0, 0, 1, 0, 0, 0, 0, 0, 0, 0x88, 0x08, 0, 1, 0, 5] : List (BitVec 8))
  l ++ leBytes 4 (crc32 0xEDB88320 l).toNat

theorem wit_receives : up.flag (F.EP_CTRL_EN (3 : Fin 4)) = true ∧ (up.port (3 : Fin 4)).resetting = false ∧ up.mode ≠ 0 ∧ up.mode ≠ 9 := by decide +kernel
theorem wit_bad_frame : (([] : List (BitVec 8)).length < 64 ∧ up.flag (F.EP_RX_CFG_DELIVER_BAD 3) = false)
    ∧ (after (.frameReceived 3 [] false false false) up).ep = up.ep ∧ (after (.frameReceived 3 [] false false false) running) = running := by decide +kernel
theorem wit_pause : (let s := flag (F.EP_PAUSE_CFG_PAUSE_EN 3) up
    (64 ≤ pauseFrame.length ∧ pauseFrame.length ≤ s.fld (F.EP_RX_CFG_MAX_FRAME 3) ∧ get16 pauseFrame 12 = 0x8808 ∧ get16 pauseFrame 14 = 1 ∧ get16 pauseFrame 16 ≠ 0
        ∧ leNat (pauseFrame.drop (pauseFrame.length - 4)) = (crc32 0xEDB88320 (pauseFrame.take (pauseFrame.length - 4))).toNat
        ∧ s.flag (F.EP_PAUSE_CFG_PAUSE_EN 3) = true ∧ s.flag (F.EP_STATUS_PAUSE_IGNORED 3) = false)
      ∧ (mfind ((after (.frameReceived 3 pauseFrame false false false) s).port 3).pauseEnd 7).isSome = true) := by decide +kernel
theorem wit_transmit_start : (let s := atPort { Port.init with queues := [(7, [hostFrame])] }
    (s.mayTransmit 3 = true ∧ (s.port 3).cur = none ∧ s.nextPri 3 = some 7 ∧ s.txQueue 3 7 = [hostFrame] ∧ s.aged 3 hostFrame = false ∧ s.gl.egressOff = false
        ∧ s.evacStopped = false ∧ s.needsNote hostFrame = false)
      ∧ ((after (.frameTransmitStart 3) s).port 3).cur.map (·.bytes.length) = some 60 ∧ (after (.frameTransmitStart 3) up) = up) := by decide +kernel
/-- Link 63 to device 2, the twin, is up and attached. -/
def twinned (g : Link → Link) (s : State) : State :=
  (flag F.TW_ID_VALID (flag F.TW_CTRL_EN (flag F.TW_TWIN_EN (fld F.TW_TWIN_TWIN 2 s)))).setLink 63
    (g { Link.init with words := [(0, 2 + 2 ^ 14 + 15 * 2 ^ 16)], state := 2, attached := true, serial := 9 })
/-- An RTP item of channel 0, which is mirrored. -/
def mirroredItem (n : Nat) : TxFrame := { oldItem with rtp := true, note := n, payload := [0, 0, 1, 2] }
def noted (n : Nat) : State := twinned id ((atPort { Port.init with queues := [(0, [mirroredItem n])] }).setChan 0 { plain with mirror := 2 })
theorem wit_note_first : ((noted 0).needsNote (mirroredItem 0) = true ∧ (noted 0).mayTransmit 3 = true ∧ (noted 0).nextPri 3 = some 0 ∧ (noted 0).aged 3 (mirroredItem 0) = false)
    ∧ (after (.frameTransmitStart 3) (noted 0)).tw.notes = [(0, 258)] ∧ ((after (.frameTransmitStart 3) (noted 0)).port 3).cur = none
    ∧ after (.frameTransmitStart 3) (noted 1) = noted 1 := by decide +kernel
theorem wit_aged : (let s : State := { atPort { Port.init with queues := [(7, [oldItem])] } with elapsed := 10 ^ 9 }
    (s.txQueue 3 7 = [oldItem] ∧ s.aged 3 oldItem = true) ∧ (after (.txAgeDiscard 3 7) s).txQueue 3 7 = []) := by decide +kernel
theorem wit_not_aged : (let s := atPort { Port.init with queues := [(7, [oldItem])] }
    (s.txQueue 3 7 = [oldItem] ∧ s.aged 3 oldItem = false) ∧ after (.txAgeDiscard 3 7) s = s) := by decide +kernel
theorem wit_transmit_end : (let s := atPort { Port.init with cur := some ⟨hostFrame, [], 0, false, 0, (0, 0)⟩ }
    ((after (.frameTransmitEnd 3 true) s).port 3).cur = none ∧ (after (.frameTransmitEnd 3 false) s).out.contains (.frame 3 [0, 0, 0, 0] true)) := by decide +kernel
theorem wit_link_up : (let s := fld (F.EP_PHY_CFG_MODE 3) 3 running
    (s.flag (F.EP_STATUS_LINK 3) = false ∧ s.fld (F.EP_PHY_CFG_MODE 3) ≠ 0 ∧ (s.port 3).resetting = false ∧ usesAn 3 = false)
      ∧ (after (.linkUp 3) s).fld (F.EP_STATUS_SPEED 3) = 1 ∧ (after (.linkUp 3) s).fld (F.EP_STATUS_FEC_ACT 3) = 2) := by decide +kernel
theorem wit_link_down : (let s := atPort { Port.init with queues := [(7, [hostFrame])] }
    s.flag (F.EP_STATUS_LINK 3) = true ∧ (after (.linkDown 3) s).txQueue 3 7 = [] ∧ (after (.linkDown 3) s).fld (F.EP_EVENT_LINK_DOWN 3) = 1
      ∧ after (.linkDown 3) running = running) := by decide +kernel
theorem wit_negotiation : (let s := fld (F.EP_PHY_CFG_MODE 3) 1 running
    (usesAn (s.fld (F.EP_PHY_CFG_MODE 3)) = true ∧ s.flag (F.EP_STATUS_AN_DONE 3) = false ∧ (s.port 3).resetting = false)
      ∧ (after (.anComplete 3 0x1F 0xF) s).fld (F.EP_STATUS_AN_DONE 3) = 1 ∧ (after (.anComplete 3 0 0) s).fld (F.EP_EVENT_AN_FAIL 3) = 1
      ∧ (after (.anRestart 3) (after (.anComplete 3 0x1F 0xF) s)).fld (F.EP_STATUS_AN_DONE 3) = 0) := by decide +kernel
theorem wit_no_negotiation : usesAn ((fld (F.EP_PHY_CFG_MODE 3) 3 up).fld (F.EP_PHY_CFG_MODE 3)) = false ∧ after (.anRestart 3) (fld (F.EP_PHY_CFG_MODE 3) 3 up) = fld (F.EP_PHY_CFG_MODE 3) 3 up := by decide +kernel
theorem wit_port_times : (let s : State := { atPort { Port.init with pauseEnd := [(7, 10 ^ 10)], heldFrom := [(7, 0)], ignoreUntil := some 5, anRetry := some 5 } with elapsed := 10 ^ 10 }
    (mfind (s.port 3).pauseEnd 7 = some (10 ^ 10) ∧ 0 + s.fld (F.EP_PAUSE_CFG_WD_MS 3) * 1000000 < s.elapsed)
      ∧ ((after (.pauseTimeExpiry 3 7) s).port 3).pauseEnd = [] ∧ (after (.pauseBreak 3 7) s).fld (F.EP_STATUS_PAUSE_IGNORED 3) = 1
      ∧ ((after (.holdoffEnd 3) s).port 3).ignoreUntil = none ∧ ((after (.anRetry 3) s).port 3).anRetry = none) := by decide +kernel
theorem wit_port_reset : ((after (.epPortResetWrite 3) up).port 3).resetting = true ∧ ((after (.portResetEnd 3) (after (.epPortResetWrite 3) up)).port 3).resetting = false
    ∧ (after (.epPortResetWrite 3) up).fld (F.EP_STATUS_LINK 3) = 0 := by decide +kernel
theorem wit_stamp_mark : (after (.tsHwmRestart 3) (fld (F.EP_TS_STAT_HWM 3) 9 up)).fld (F.EP_TS_STAT_HWM 3) = 0 := by decide +kernel

/-! The host interface (HostRingResults, CommandChecks, HostCommandResults) -/

/-- Ring r is enabled as a ring of a kind. -/
def ringOn (r kind : Nat) (x : RingSt) (s : State) : State :=
  ((fld (F.HI_RSTAT_STATE r) 1 (fld (F.HI_RCFG_KIND r) kind (fld (F.HI_RCFG_SIZE_LOG2 r) 8 (flag (F.HI_RCFG_EN r) s))))).setRing r x

theorem wit_poll : (let s := ringOn 63 0 RingSt.init running
    (s.hi.nextPoll ≤ s.elapsed ∧ s.mode ≠ 0 ∧ s.mode ≠ 9 ∧ s.ringState 63 = 1 ∧ s.ringKind 63 = 0)
      ∧ ((after (.doorbellPoll (List.replicate 64 256) [] 0 false) s).ring 63).tail = 256 ∧ (after (.doorbellPoll (List.replicate 64 257) [] 0 false) s).ringState 63 = 3) := by decide +kernel
theorem wit_poll_fails : (4 : Fin 5) ≠ 0 ∧ (after (.doorbellPoll [] [] 4 false) running).fld F.HI_PCIE_ERR_KIND = 4 ∧ (after (.doorbellPoll [] [] 4 false) running).hi.slowUntilRead = true := by decide +kernel
theorem wit_nudge : (after .hiNudge running).fld F.HI_STATUS_FAST = 1 ∧ (after .hiNudge { running with hi := { running.hi with slowUntilRead := true } }).fld F.HI_STATUS_FAST = 0 := by decide +kernel
theorem wit_interface_idle : ((flag F.HI_STATUS_FAST running).flag F.HI_STATUS_FAST = true ∧ (flag F.HI_STATUS_FAST running).hiActive = false)
    ∧ (after .interfaceIdle (flag F.HI_STATUS_FAST running)).fld F.HI_STATUS_FAST = 0 := by decide +kernel
theorem wit_ring_enabled : (ringSizeOk (bits 33 1 2) (bits 33 3 5) = true ∧ running.ringState 63 = 0 ∧ bits 33 1 2 = 0)
    ∧ (after (.hiRcfgWrite 63 33) running).ringState 63 = 1 ∧ (after (.hiRcfgWrite 63 33) running).out = [.head 63 0] := by decide +kernel
theorem wit_ring_enabled_kind : (ringSizeOk (bits 71 1 2) (bits 71 3 5) = true ∧ bits 71 1 2 = 3 ∧ ∀ q, q < 64 → running.ringState q = 0)
    ∧ (after (.hiRcfgWrite 0 71) running).ringState 0 = 1 := by decide +kernel
theorem wit_ring_stopped : (let s := ringOn 63 0 { RingSt.init with tail := 1 } running
    (s.ringState 63 = 1 ∧ bits 64 1 2 = s.ringKind 63 ∧ bits 64 3 5 = s.fld (F.HI_RCFG_SIZE_LOG2 63)) ∧ (after (.hiRcfgWrite 63 64) s).ringState 63 = 2
      ∧ (after (.hiRcfgWrite 63 64) (ringOn 63 0 RingSt.init running)).ringState 63 = 0) := by decide +kernel
theorem wit_ring_drained : (let s := fld (F.HI_RSTAT_STATE 63) 2 running
    (s.ringState 63 = 2 ∧ s.ringBusy 63 = false) ∧ (after (.ringDrained 63) s).ringState 63 = 0) := by decide +kernel
theorem wit_moderation : (let s := flag (F.HI_RCFG_IRQ_EN 5) (ringOn 5 0 { RingSt.init with since := 2 } { running with elapsed := 10 ^ 9 })
    (s.flag (F.HI_RCFG_IRQ_EN 5) = true ∧ 0 + s.fld (F.HI_MOD_US (s.fld (F.HI_RCFG_MOD 5))) * 1000 ≤ s.elapsed ∧ s.vecMasked 0 = true)
      ∧ (after (.interruptModerationTimer 5) s).hi.msixPend = [0] ∧ (after (.msixUnmask 0) (after (.interruptModerationTimer 5) s)).out = [.msix 0]) := by decide +kernel
/-- A WARN report waits in the FIFO. -/
def report : Report := ⟨.warn, 2, 0, 3, 1, 0, 4, 5, 6, false, false⟩
theorem wit_report : (let s : State := ringOn 9 2 RingSt.init { running with rl := { running.rl with fifo := [report] } }
    (s.runningRing 2 = some 9 ∧ s.rl.fifo.find? (fun e => e.cls.toErrorLog = false) = some report ∧ s.ringRoom 9 = true)
      ∧ ((after (.reportRecordWrite false) s).ring 9).head = 1 ∧ (after (.reportRecordWrite false) s).rl.fifo = []) := by decide +kernel
theorem wit_host_reset : (after (.hostReset 3) (ringOn 63 0 RingSt.init (flag F.HI_PCIE_STAT_LINK_UP running))).ringState 63 = 0
    ∧ (after (.hostReset 3) (flag F.HI_PCIE_STAT_LINK_UP running)).fld F.HI_PCIE_STAT_LINK_UP = 0
    ∧ (after .ringsReset (flag F.HI_PCIE_STAT_LINK_UP running)).fld F.HI_PCIE_STAT_LINK_UP = 1 := by decide +kernel
theorem wit_bad_access : (after (.badAccess 0 5 1 false) { running with lastRead := 9 }).lastRead = 0 ∧ (after (.badAccess 0 5 1 true) { running with lastRead := 9 }).lastRead = 9 := by decide +kernel
theorem wit_trained : (after (.pcieLinkUp 3 2) running).fld F.HI_PCIE_STAT_SPEED = 4 ∧ (after (.pcieLinkUp 3 2) running).fld F.HI_PCIE_STAT_WIDTH = 4 := by decide +kernel

/-- Ring 0 runs with one command fetched. -/
def hosted (s : State) : State := ringOn 0 0 { RingSt.init with tail := 1 } s
def host : State := hosted running
/-- The status of the completion of that command, in a ring entry of the output. -/
def comp (s : State) : Option Nat := s.out.findSome? fun
  | .entry 0 0 w => some (nth w 1)
  | _ => none

theorem wit_not_fetched : running.mayStart (cmd []) = false ∧ after (.nopCommand (cmd []) 1) running = running := by decide +kernel
theorem wit_nop_command : (Plain host (cmd []) ∧ argMask (cmd []) [] = true) ∧ ((after (.nopCommand (cmd []) 1) host).ring 0).head = 1 := by unfold Plain Starts; decide +kernel
theorem wit_bad_descriptor : (host.mayStart (cmd [1]) = true ∧ argMask (cmd [1]) [] = false ∧ reservedOp 0 = true) ∧ (after (.nopCommand (cmd [1]) 1) host).fld F.HI_ERR_CNT_BAD_DESC = 1
    ∧ (after (.nopCommand (cmd []) 0) host).fld F.HI_ERR_CNT_BAD_DESC = 1 := by decide +kernel
theorem wit_device_info : (after (.deviceInfo (cmd [])) host).fld F.HI_CMD_LO_COUNT = 1 := by decide +kernel
theorem wit_admission : (Plain host (cmd [0x501, 125]) ∧ argMask (cmd [0x501, 125]) [0xFF01, 0xFFFF] = true) ∧ (after (.admission (cmd [0x501, 125])) host).st.margin = 5
    ∧ (after (.admission (cmd [0x501, 125])) host).st.hold = 125 := by unfold Plain Starts; decide +kernel
/-- A command of four bytes. -/
def load (a0 a1 n : BitVec 32) : HCmd := cmdBuf [a0, a1, 0, 0, 0, 0, 0, 0, 0, 0, 0, 0, 0, n] [1, 2, 3, 4]
theorem wit_csm_load : (let c := load 0x18000 1048575 4
    (Plain host c ∧ bufMask c [0x1FFFF, 0xFFFFFFFF] = true ∧ bufLen c = 4 ∧ arg c 0 % 65536 < 2 ^ host.clusters ∧ bit (arg c 0) 16 = true ∧ (∀ k, k < host.clusters → host.sharedFrom k ≤ arg c 1)
      ∧ arg c 1 + bufLen c / 4 ≤ 1048576) ∧ csmGet (after (.csmLoad c) host).mem.csm 15 1048575 = 0x04030201) := by unfold Plain Starts; decide +kernel
theorem wit_cps_load : (let c := load 0 262143 4
    let s := hosted (fld F.GL_MODE_MODE 1 running)
    (bit (arg c 0) 16 = false ∧ s.mode = 1 ∧ s.fuse.secure = false ∧ arg c 1 + bufLen c / 4 ≤ 262144) ∧ (after (.csmLoad c) s).cps 15 262143 = 0x04030201) := by decide +kernel
theorem wit_dec_sync : (after (.decSync (cmd [])) host).bs.sync = [(0, 3)] := by decide +kernel
theorem wit_message : (let c := cmd [0x105, 0x3FFF, 1]
    (Plain host c ∧ argMask c [0x1FF, 0x3FFF, 0xFFFFFFFF, 0xFFFFFFFF, 0xFFFFFFFF] = true ∧ arg c 0 % 256 ∈ [1, 2, 3, 5])
      ∧ exec (.msgSend c) host ≠ .refused (.notModelled "MSG_SEND")) := ⟨by unfold Plain Starts; decide +kernel, by intro h; cases h⟩
/-- A command whose buffer of n bytes holds the byte v, repeated. -/
def bytes (a0 a1 : BitVec 32) (n : Nat) (v : BitVec 8) : HCmd := cmdBuf [a0, a1, 0, 0, 0, 0, 0, 0, 0, 0, 0, 0, 0, BitVec.ofNat 32 n] (List.replicate n v)
theorem wit_coefficients : (let c := bytes 0x1F 0 256 1
    (Plain host c ∧ bufMask c [0x1F] = true ∧ bufLen c = 256 ∧ host.bankBusy (arg c 0 % 16) (bit (arg c 0) 4) = false)
      ∧ mget 0 (after (.coefWrite c) host).bs.coef 2047 = 0x010101 ∧ mget 0 (after (.coefWrite c) host).bs.coef 1983 = 0) := by unfold Plain Starts; decide +kernel
theorem wit_bank_swap : (let c := cmd [0x1F]
    (Plain host c ∧ argMask c [0x1F] = true) ∧ ((after (.bankSwap c) (hosted access)).bsGroup 15).fade.isSome = true) := by unfold Plain Starts; decide +kernel
theorem wit_send : (let c := bytes 3 0 14 7
    (Plain host c ∧ bufMask c [0xF7] = true ∧ 14 ≤ bufLen c ∧ arg c 0 % 8 < 4 ∧ host.mode ≠ 10 ∧ host.gl.egressOff = false)
      ∧ ((after (.pktSend c) (hosted up)).txQueue 3 0).length = 1) := by unfold Plain Starts; decide +kernel
theorem wit_send_management : (let c := bytes 4 0 14 7
    (bufMask c [0xF7] = true ∧ arg c 0 % 8 = 4) ∧ exec (.pktSend c) host ≠ .refused (.notModelled "PKT_SEND")) := ⟨by decide +kernel, by intro h; cases h⟩
theorem wit_srtp : (let c := bytes 0x3FFF 0 128 0
    (Plain host c ∧ bufMask c [0x3FFF] = true ∧ bufLen c = 128) ∧ srtpOk (leWords (bufBytes c)) = true ∧ (after (.srtpRead c) host).fld F.HI_CMD_LO_COUNT = 1
      ∧ (after (.srtpWrite c) host).fld F.HI_ERR_CNT_BAD_DESC = 0) := by unfold Plain Starts; decide +kernel
theorem wit_template : (let c := cmdBuf [8, 0x3FFF, 0, 0, 0, 0, 0, 0, 0, 0, 0, 0, 0, 128] [0, 42]
    (Plain host c ∧ bufMask c [0xF, 0x3FFF] = true ∧ bufLen c = 128 ∧ templateOk (leWords (bufBytes c)) = true
        ∧ ∀ p, p < 4 → bit (arg c 0) p = true → ∀ g ∈ host.tablePages p, (host.physPage g).isSome = true)
      ∧ (after (.tplWrite c) host).word (519 * pageBytes + 0x3FFF * 128) = 42 * 256) := by unfold Plain Starts; decide +kernel
/-- The words of an entry with a key of zeros. -/
def flowWords : HCmd := cmd [1, 0, 0, 0, 0, 0, 0, 0, 0, 0, 0, 0]
theorem wit_flow : (Plain host flowWords ∧ argMask flowWords (List.replicate 12 0xFFFFFFFF) = true ∧ ((host.start flowWords).physPage ((host.start flowWords).ftBase / pageBytes)).isSome = true)
    ∧ flowOk ((List.range 12).map (arg flowWords)) true = true := by unfold Plain Starts; decide +kernel
theorem wit_reset_command : (let c := cmd [3]
    argMask c [3] = true ∧ ((after (.portReset c) host).port 3).resetting = true) := by decide +kernel
theorem wit_copy : (let c := load 1 0x7D000000 4
    (Plain host c ∧ bufMask c [1, 0xFFFFFFFF, 0x3FF] = true ∧ arg c 1 % 4 = 0 ∧ bufLen c = 4)
      ∧ (after (.hostCopy c []) host).bytesAt 0x7D000000 4 = [1, 2, 3, 4]) := by unfold Plain Starts; decide +kernel
theorem wit_page_move : (let c := cmd [0x1000]
    argMask c [0x1FFF] = true ∧ ((host.start c).startMove 0x1000 false (some (host.originOf c 0x41))).2 = none ∧ ((after (.pageMove c) host).hp.moves.map (·.page)) = [0x1000]) := by decide +kernel

/-! The flow table of R209, whose buckets are free values (HostCommandResults) -/

theorem byte_empty (s : State) (a : Nat) (h : s.hp.hbm = []) : s.byte a = 0 := by
  unfold State.byte; rw [h]; split <;> rfl
theorem word_empty (s : State) (a : Nat) (h : s.hp.hbm = []) : s.word a = 0 := by
  simp [State.word, State.bytesAt, byte_empty s _ h, List.range_succ, leNat]
/-- A table without entries takes one. -/
theorem wit_insert : ((host.start flowWords).ftInsert ((List.range 12).map (arg flowWords))).2.1 = 0 := by
  have v (b i : Nat) : (host.start flowWords).ftValid b i = false := by
    unfold State.ftValid; rw [word_empty _ _ (by rfl)]; rfl
  have e (b : Nat) : (host.start flowWords).ftEntries b = [] := by simp [State.ftEntries, v]
  simp [State.ftInsert, State.ftFind, State.ftFree, firstBelow, e, v, List.range_succ]

/-- The first bucket of the key of zeros holds an entry whose words are those of `flowWords`. -/
def bucket : Nat := ftB0 (List.replicate 40 0)
def flowAt : Nat := 512 * pageBytes + bucket * 512
def flowed : State := { host with hp := { host.hp with hbm := [(flowAt, 1)] } }
theorem flowed_byte (x : Nat) (h : x / pageBytes = 512) : flowed.byte x = if x = flowAt then 1 else 0 := by
  have p : flowed.physPage 512 = some 512 := by rfl
  have e : flowed.phys x = some x := by
    simp only [State.phys, h, p, Option.map_some, Option.some.injEq]; rw [← h, Nat.mul_comm]; exact Nat.div_add_mod ..
  have m : mget (0 : BitVec 8) flowed.hp.hbm x = if x = flowAt then 1 else 0 := by
    show mget 0 [(flowAt, 1)] x = _
    by_cases q : x = flowAt
    · simp [mget, mfind, q]
    · simp [mget, mfind, q, Ne.symm q]
  unfold State.byte; rw [e]; exact m
theorem flowed_word (j : Nat) (h : j < 128) : flowed.word (flowAt + 4 * j) = if j = 0 then 1 else 0 := by
  have b : bucket < 4096 := (Config.ftBucket false (List.replicate 40 0)).isLt
  have f (i : Nat) (hi : i < 4) : flowed.byte (flowAt + 4 * j + i) = if 4 * j + i = 0 then 1 else 0 := by
    rw [flowed_byte _ (by unfold flowAt pageBytes; omega)]
    have q : (flowAt + 4 * j + i = flowAt) = (4 * j + i = 0) := by apply propext; omega
    simp only [q]
  by_cases z : j = 0
  · subst z
    have g (i : Nat) (hi : i < 4) : flowed.byte (flowAt + i) = if i = 0 then 1 else 0 := by simpa using f i hi
    have g0 : flowed.byte flowAt = 1 := by simpa using g 0 (by omega)
    simp [State.word, State.bytesAt, List.range_succ, leNat, g0, g 1 (by omega), g 2 (by omega), g 3 (by omega)]
  · have g (i : Nat) (hi : i < 4) : flowed.byte (flowAt + 4 * j + i) = 0 := by rw [f i hi, if_neg (by omega)]
    have g0 : flowed.byte (flowAt + 4 * j) = 0 := by simpa using g 0 (by omega)
    simp [State.word, State.bytesAt, List.range_succ, leNat, z, g0, g 1 (by omega), g 2 (by omega), g 3 (by omega)]
theorem entry_addr (a b i : Nat) : a + b * 512 + i * 64 = a + b * 512 + 4 * (16 * i) := by omega
theorem wit_delete : flowed.ftFind (ftKey ((List.range 10).map (arg flowWords))) (ftVlan ((List.range 10).map (arg flowWords))) = some (bucket, 0) := by
  have a (i : Nat) : flowed.ftAddr bucket i = flowAt + 4 * (16 * i) := by
    have q : flowed.ftBase = 512 * pageBytes := by decide +kernel
    rw [State.ftAddr, q, show flowAt = 512 * pageBytes + bucket * 512 from rfl]
    exact entry_addr _ _ _
  have w : flowed.ftWords bucket 0 = [1, 0, 0, 0, 0, 0, 0, 0, 0, 0, 0, 0, 0, 0, 0, 0] := by
    have g (j : Nat) (hj : j < 16) : flowed.word (flowed.ftAddr bucket 0 + 4 * j) = if j = 0 then 1 else 0 := by
      rw [a, Nat.mul_zero, Nat.add_zero]; exact flowed_word j (by omega)
    simp only [State.ftWords, List.range_succ, List.range_zero, List.nil_append, List.map_cons, List.map_nil, List.cons_append, g 0 (by omega), g 1 (by omega),
      g 2 (by omega), g 3 (by omega), g 4 (by omega), g 5 (by omega), g 6 (by omega), g 7 (by omega), g 8 (by omega), g 9 (by omega), g 10 (by omega),
      g 11 (by omega), g 12 (by omega), g 13 (by omega), g 14 (by omega), g 15 (by omega)]
    rfl
  have v (i : Nat) (h : i < 8) : flowed.ftValid bucket i = decide (i = 0) := by
    unfold State.ftValid; rw [a, flowed_word _ (by omega)]; by_cases z : i = 0
    · simp [z, bit]
    · rw [if_neg (by omega)]; simp [z, bit]
  have e : flowed.ftEntries bucket = [0] := by
    have p : flowed.poisoned (flowed.ftBase + bucket * 512) 512 = false := by
      have : flowed.hp.poison = [] := rfl
      simp [State.poisoned, this]
    simp [State.ftEntries, p, List.range_succ, v]
  have k : ftKey ((List.range 10).map (arg flowWords)) = List.replicate 40 0 := by decide +kernel
  have k' : ftKey [1, 0, 0, 0, 0, 0, 0, 0, 0, 0, 0, 0, 0, 0, 0, 0] = List.replicate 40 0 := by decide +kernel
  have l : ftVlan ((List.range 10).map (arg flowWords)) = ftVlan [1, 0, 0, 0, 0, 0, 0, 0, 0, 0, 0, 0, 0, 0, 0, 0] := by decide +kernel
  have q : ftB0 (List.replicate 40 0) = bucket := rfl
  simp only [State.ftFind, k, l, q, List.findSome?_cons, e, List.find?_cons, w, k', decide_true, Bool.and_self, Option.map_some]

/-! Channels (ChannelResults) -/

/-- Channel 8191 is open, or in another state, on a host with a command. -/
def chans (c : Chan) : State := hosted (running.setChan 8191 c)
theorem wit_close_done : ((chans { plain with st := .closing }).chan 8191 = some { plain with st := .closing } ∧ (chans { plain with st := .closing }).closeDone 8191 { plain with st := .closing } = true)
    ∧ (after (.closeComplete 8191) (chans { plain with st := .closing })).chan 8191 = none ∧ after (.closeComplete 8191) (chans plain) = chans plain := by decide +kernel
theorem wit_close_waits : (chans { plain with st := .closing, inFlight := 1 }).closeDone 8191 { plain with st := .closing, inFlight := 1 } = false := by decide +kernel
theorem wit_open : (let c := cmd [8191 + 2 ^ 16, 39]
    let r := basicReq (arg c 0 % 8192) 1 false 0 0 39 false
    Plain host c ∧ argMask c [0x1FF1FFF, 0x3F] = true ∧ bits (arg c 0) 16 4 = 1 ∧ bit (arg c 0) 24 = false ∧ bits (arg c 0) 20 2 = 0 ∧ bits (arg c 0) 22 2 = 0 ∧ arg c 1 % 64 = 39
      ∧ r.chan < host.chanLimit ∧ basicFieldsOk r = true ∧ admitsChannels host.mode = true ∧ ((host.start c).openChecks r).toOption.isSome = true) := by unfold Plain Starts; decide +kernel
/-- A graph of one library node that the frame tick starts. -/
def graphCmd : HCmd := cmdBuf [0x20001FFF, 39, 64, 255, 0, 0, 0, 0, 0, 0, 0, 0, 0, 2240] (wordsLe ([1] ++ List.replicate 47 0 ++ [0x101] ++ List.replicate 511 0))
theorem wit_open_graph : Plain host graphCmd ∧ bufMask graphCmd [0x3FF01FFF, 0x3F, 0x7F, 0xFFFFFFFF] = true ∧ bufLen graphCmd = 2240 ∧ (graphReq graphCmd).chan < host.chanLimit
    ∧ (graphReq graphCmd).frame ≤ 2 ∧ (graphReq graphCmd).mirror ≤ 2 ∧ (graphReq graphCmd).stagger < 40 ∧ 4 ≤ (graphReq graphCmd).granules ∧ (graphReq graphCmd).granules ≤ 64
    ∧ bit (arg graphCmd 0) 29 = true ∧ bits (arg graphCmd 0) 25 4 = 0 := by unfold Plain Starts; decide +kernel
theorem wit_graph_content : (host.start graphCmd).graphContentOk (graphReq graphCmd) = true ∧ ((host.start graphCmd).openChecks (graphReq graphCmd)).toOption.isSome = true := by decide +kernel
theorem wit_close : (let c := cmd [8191]
    (argMask c [0x1FFF] = true ∧ (chans plain).chan (arg c 0) = some plain) ∧ ((after (.chClose c) (chans plain)).chan 8191).map (·.st) = some .closing) := by decide +kernel
theorem wit_param : (let c := cmd [8191, 63 + 2 ^ 8, 9]
    let s := chans { plain with profile := 0 }
    Plain s ⟨0, 2, 7, c.args, [], 0⟩ ∧ argMask c ([0x1FFF, 0x3F3F] ++ List.replicate 1 0xFFFFFFFF) = true ∧ cmdExpert ⟨0, 2, 7, c.args, [], 0⟩ = true
      ∧ (after (.chParam ⟨0, 2, 7, c.args, [], 0⟩) s).ctxWord plain 63 = 9) := by unfold Plain Starts; decide +kernel
theorem wit_status : (let c := cmd [8191, 15]
    (argMask c [0x1FFF, 0xF] = true ∧ arg c 0 < (chans plain).chanLimit) ∧ (after (.chStatus c) (chans plain)).fld F.HI_CMD_LO_COUNT = 1) := by decide +kernel
theorem wit_context_read : (let c := load 8191 160 4
    (bufMask c [0x1FFF, 0xFFFFFFFF] = true ∧ arg c 1 % 4 = 0 ∧ bufLen c = 4 ∧ arg c 1 + bufLen c ≤ plain.granules * granuleBytes ∧ (chans plain).poisoned (plain.ctx + arg c 1) (bufLen c) = false)
      ∧ (after (.ctxRead c []) (chans plain)).out.contains (.host 0 [0, 0, 0, 0])) := by decide +kernel
theorem wit_context_write : (let c := load 8191 160 4
    (chans plain).hp.moves = [] ∧ (∀ i, i < 4 → ((chans plain).phys (plain.ctx + arg c 1 + i)).isSome = true) ∧ (after (.ctxWrite c) (chans plain)).bytesAt (plain.ctx + 160) 4 = [1, 2, 3, 4]) := by decide +kernel
theorem wit_node_cancel : (let c := cmd [8191, 15 + 0x3FFF * 2 ^ 16]
    argMask c [0x1FFF, 0x3FFF000F] = true ∧ (chans plain).chan (arg c 0) = some plain) := by decide +kernel
theorem wit_resync : (let c := cmd [16383, 0xFFFF]
    (argMask c [0x3FFF, 0xFFFF] = true ∧ (chans plain).chan (arg c 0 / 2) = some plain) ∧ ((after (.flowResync c) (chans plain)).flow 16383).next = 65535) := by decide +kernel

/-! Jobs (JobStarts, JobProgress, JobControl, RucksackResults) -/

/-- A job command with handle 5, and a control command for that handle. -/
def job5 (args : List (BitVec 32)) : HCmd := ⟨0, 5 * 2 ^ 8, 7, args, [], 0⟩
/-- A job with handle 5. -/
def job (op : Nat) (st : JobState) (step : Nat) (work args : List Nat) : Job :=
  { handle := 5, op := op, st := st, left := .running, origin := ⟨0, 0, 7, 5, op⟩, args := args, step := step, work := work, done := 0, total := 9, lastReport := none,
    held := [], suspenders := [], cancellers := [] }
def withJob (j : Job) (s : State) : State := { s with hi := { s.hi with jobs := [j] } }
/-- The state of the job with handle 5. -/
def jobSt (s : State) : Option JobState := (s.job 5).map (·.st)

theorem wit_fw_job : (let c := job5 [15]
    (StartsJob host c 0x69 256 (fun _ => true) ∧ host.clusterIn (arg c 0) = true ∧ host.queueRoom 125 = true ∧ host.poolRoom = true)
      ∧ ((after (.fwJob c) host).queueAt 125).length = 1) := by unfold StartsJob Starts; decide +kernel
theorem wit_fw_job_chosen : (let c := job5 [16]
    StartsJob host c 0x69 256 (fun _ => true) ∧ arg c 0 = 16 ∧ host.fwChoice = some 0) := by unfold StartsJob Starts; decide +kernel
theorem wit_queue_full : (fld (F.TH_QCFG_LIMIT 5) 0 host).queueRoom 5 = false ∧ (fld (F.TH_QCFG_LIMIT 5) 0 host).poolRoom = true ∧ (fld (F.TH_QCFG_LIMIT 5) 65535 host).queueRoom 5 = true := by decide +kernel
theorem wit_retire : (let c := job5 [143]
    let s := hosted (running.setFld (F.CO_STATUS_STATE 143) 1)
    (StartsJob s c 0x61 1 (fun j => nth j.args 0 / 9 = arg c 0 / 9) ∧ argMask c [0xFF] = true ∧ arg c 0 / 9 < s.clusters ∧ s.fld (F.CO_STATUS_STATE 143) = 1
        ∧ s.rl.retire.any (·.core = 143) = false) ∧ (after (.coreRetire c) s).th.stopped = [143]) := by unfold StartsJob Starts; decide +kernel
theorem wit_retire_spare : (let c := job5 [143]
    let s := hosted (running.setFld (F.CO_STATUS_STATE 143) 0)
    (s.fld (F.CO_STATUS_STATE 143) = 0 ∧ s.rl.retire.any (·.core = 143) = false) ∧ (after (.coreRetire c) s).fld (F.CO_STATUS_STATE 143) = 2
      ∧ (after (.coreRetire c) (hosted (running.setFld (F.CO_STATUS_STATE 143) 2))).th = host.th) := by decide +kernel
theorem wit_lane : (let c := job5 [15, 71]
    let s := fld (F.HP_PC_STAT_LANES_LEFT 15) 1 host
    (StartsJob s c 0x62 1 (fun j => nth j.args 0 % 16 = arg c 0 % 16) ∧ bits (arg c 0) 4 2 = 0 ∧ argMask c [0x3F, 0x7F] = true ∧ s.fld (F.HP_PC_STAT_LANES_LEFT 15) ≠ 0)
      ∧ ((after (.hbmRepair c) s).job 5).map (·.step) = some 2) := by unfold StartsJob Starts; decide +kernel
/-- A stack with one repair row in pseudo-channel 15, of which n pages are not mapped. -/
def rows (n : Nat) : State := { host with fuse := { host.fuse with ppr := List.replicate 16 1 }, hp := { host.hp with spares := n, pool := [8191] } }
theorem wit_row : (let c := job5 [31, 0xF3FFF]
    StartsJob (rows 0) c 0x62 1 (fun j => nth j.args 0 % 16 = arg c 0 % 16) ∧ bits (arg c 0) 4 2 = 1 ∧ argMask c [0x3F, 0xF3FFF] = true
      ∧ (rows 0).pprLeft (Fin.ofNat 16 (arg c 0)) ≠ 0 ∧ (rows 0).hp.pool = [8191] ∧ (rows 0).hp.moves.length < 4) := by unfold StartsJob Starts; decide +kernel
theorem wit_row_unmapped (q : Nat) : (rows 8192).logicalOf q = none := by
  have h (p : Nat) : (rows 8192).physPage p = none := by
    show (none : Option (Option Nat)).getD (if p + 8192 < 8192 then some p else none) = none
    rw [if_neg (by omega)]; rfl
  simp [State.logicalOf, firstBelow, h]
theorem wit_row_mapped (q : Nat) (hq : q < 8192) : (rows 0).logicalOf q = some q := by
  have h (p : Nat) (hp : p < 8192) : (rows 0).physPage p = some p := by
    show (none : Option (Option Nat)).getD (if p + 0 < 8192 then some p else none) = some p
    rw [if_pos (by omega)]; rfl
  rw [State.logicalOf, firstBelow, List.find?_range_eq_some]
  refine ⟨by simp [h q hq], List.mem_range.2 hq, fun j hj => ?_⟩
  simp only [h j (by omega), Option.some.injEq]
  simp; omega
theorem wit_scrub : (let c := job5 [7, 0xFF]
    (StartsJob host c 0x63 1 (fun _ => true) ∧ argMask c [7, 0xFF] = true ∧ arg c 0 ≠ 0) ∧ (after (.scrub c) host).fld F.RL_STATUS_SCRUBBING = 1) := by
  unfold StartsJob Starts; decide +kernel
theorem wit_moved : (let s : State := { running with hp := { running.hp with moves := [⟨3, 3, 8191, linesPerPage, false, none⟩] } }
    (s.hp.moves.find? fun m => m.page = (3 : BitVec 13).toNat && m.line = linesPerPage) = some ⟨3, 3, 8191, linesPerPage, false, none⟩
      ∧ (after (.migDone 3) s).physPage 3 = some 8191) := by decide +kernel
theorem wit_lane_remapped : (let j := job 0x62 .running 2 [0] [15]
    (withJob j host).hi.jobs.find? (fun j => j.op = 0x62 && j.st ≠ .held && j.step = 2 && nth j.args 0 % 16 = (15 : Fin 16).val) = some j
      ∧ (after (.hbmRepairPauseEnd 15 true) (withJob j host)).fld (F.HP_PC_STAT_LANES_REMAPPED 15) = 1) := by decide +kernel
theorem wit_row_replaced : (let s := withJob (job 0x62 .running 2 [1, 77, 0xFFFFFFFF, 0xFFFFFFFF] [31]) host
    (after (.hbmRepairPauseEnd 15 true) s).hp.pprUsed = [(15, 1)] ∧ (after (.hbmRepairPauseEnd 15 true) s).hp.pool.contains 77) := by decide +kernel
theorem wit_scrub_read : (let j := job 0x63 .running 0 [0, 0] [1]
    ((withJob j host).hi.jobs.find? (fun j => j.op = 0x63 && j.st = .running) = some j ∧ bit (nth j.args 0) (0 : Fin 3).val = true)
      ∧ (after (.patrolScrubRead 0 []) (withJob j host)).fld F.RL_SCRUB_STAT_PAGE = 1) := by decide +kernel
theorem wit_patrol : (host.hi.jobs.find? (fun j => j.op = 0x63 && j.st = .running) = none ∧ host.flag F.RL_SCRUB_CFG_PAUSE = false
      ∧ host.fld F.RL_SCRUB_CFG_HBM_HOURS ≠ 0 ∧ host.fld F.RL_SCRUB_CFG_SRAM_MIN ≠ 0) ∧ (after (.scrubDone true) host).fld F.RL_SCRUB_STAT_PASSES = 1 := by decide +kernel
theorem wit_life : (let s := fld F.RL_EQUIV_COUNT 5606399 running
    (s.fld F.RL_EQUIV_COUNT < 5606400 ∧ equivHour 1520 = 16) ∧ (after (.lifeHour (some 1520)) s).fld F.RL_EVENT_LIFE_END = 1
      ∧ (after (.lifeHour (some 1520)) (fld F.RL_EQUIV_COUNT 5045759 running)).fld F.RL_EVENT_LIFE_90 = 1) := by decide +kernel
/-- The scan table at its address holds one entry, of input 32 without excitation. -/
def sweeps : State := (flag F.LM_CTRL_EN (fld F.LM_SCAN_ADDR_ADDR 0x7D00000 host)).setWord 0x7D000000 32
theorem wit_sweep : (let c := job5 [1, 1, 0]
    (StartsJob sweeps c 0x64 1 (fun _ => true) ∧ argMask c [0x7F, 0xFFFF, 0xFFFF] = true ∧ sweeps.mappedRange 0x7D000000 16 = true ∧ sweeps.poisoned 0x7D000000 16 = false
        ∧ (sweeps.scanList 1).all (fun e => lmEntryOk (lmWmode sweeps.lmCfgWord) e) = true ∧ sweeps.lm.sweep = none ∧ sweeps.lm.run = none ∧ sweeps.lm.refWait = false
        ∧ sweeps.flag F.LM_CTRL_EN = true ∧ sweeps.fld F.LM_STATUS_STATE ≠ 5 ∧ (sweeps.scanList 1).all (fun e => 32 ≤ lmInput e) = true)
      ∧ (after (.lineTestSweep c) sweeps).fld F.LM_STATUS_STATE = 3) := by unfold StartsJob Starts; decide +kernel

theorem wit_suspend : Starts host (job5 []) ∧ argMask (job5 []) [] = true ∧ jobSt (after (.jobSuspend (job5 [])) (withJob (job 0x63 .running 0 [0, 0] [1]) host)) = some .suspended
    ∧ jobSt (after (.jobSuspend (job5 [])) (withJob (job 0x62 .queued 0 [] []) host)) = some .suspending
    ∧ jobSt (after (.jobSuspend (job5 [])) (withJob (job 0x66 .running 1 [] []) host)) = some .suspended
    ∧ jobSt (after (.jobSuspend (job5 [])) (withJob (job 0x66 .running 2 [] []) host)) = some .suspending
    ∧ jobSt (after (.jobSuspend (job5 [])) (withJob (job 0x61 .running 2 [] []) host)) = some .running
    ∧ jobSt (after (.jobSuspend (job5 [])) (withJob (job 0x63 .held 2 [] []) host)) = some .held := by unfold Starts; decide +kernel
theorem wit_resume : jobSt (after (.jobResume (job5 [])) (withJob (job 0x62 .suspended 2 [0] [0]) host)) = some .running
    ∧ jobSt (after (.jobResume (job5 [])) (withJob (job 0x62 .queued 2 [0] [0]) host)) = some .queued := by decide +kernel
theorem wit_cancel : jobSt (after (.jobCancel (job5 [])) (withJob (job 0x62 .running 1 [0] [0]) host)) = some .cancelling
    ∧ jobSt (after (.jobCancel (job5 [])) (withJob (job 0x61 .cancelling 1 [0] [0]) host)) = some .cancelling
    ∧ jobSt (after (.jobCancel (job5 [])) (withJob (job 0x65 .running 3 [0] [0]) host)) = some .running
    ∧ (host.fwRuns 5 = false ∧ (host.queued.find? fun e => e.kind = .hostJob && e.handle = 5) = none) := by decide +kernel
theorem wit_held : (let s := withJob { job 0x61 .held 1 [] [] with held := [3, 0, 1, 2, 3, 4] } host
    jobSt (after (.jobStatus (job5 [])) s) = none ∧ jobSt (after (.jobStatus (job5 [])) (withJob (job 0x61 .running 1 [] []) host)) = some .running) := by decide +kernel
theorem wit_job_list : (let c := bytes 0 0 2048 0
    Plain host c ∧ bufMask c [] = true ∧ 2048 ≤ bufLen c ∧ host.job 0 = none) := by unfold Plain Starts; decide +kernel

/-- Words of a host job that compresses 4 bytes of page 1000 to a page behind it. -/
def copyWords : List Nat := [0, 0x7D000000, 0, 4, 0x7D200000, 0, 4, 0, 0, 0, 0, 0]
theorem wit_rk_job : (let c : HCmd := job5 (copyWords.map (BitVec.ofNat 32))
    (StartsJob host c 0x67 256 (fun _ => true) ∧ argMask c (List.replicate 12 0xFFFFFFFF) = true ∧ rkBad false ((List.range 12).map (arg c)) = false)
      ∧ (after (.rkJob c) host).rk.hostQ.length = 1 ∧ (rkBad false [1] = true)) := by unfold StartsJob Starts; decide +kernel
/-- A host job waits, or runs on engine 3. -/
def rkWaits (w : List Nat) : RkJob := ⟨some 5, 0, w, 0, false, false, 0⟩
def rkReady (j : RkJob) : State := flag F.RK_CTRL_EN (withJob (job 0x67 .queued 0 [] j.words) { host with rk := { host.rk with hostQ := [j] } })
def rkRuns (w : List Nat) (st : JobState) : State :=
  flag F.RK_CTRL_EN (withJob (job 0x67 st 0 [] w) (fld (F.RK_ENG_STATE 3) 1 { host with rk := { host.rk with eng := [(3, rkWaits w)] } }))
theorem wit_engine_takes : (let s := rkReady (rkWaits copyWords)
    (s.flag F.RK_CTRL_EN = true ∧ s.fld (F.RK_ENG_STATE 3) = 0 ∧ 3 ∉ s.rk.testing ∧ s.rkNext = some (true, rkWaits copyWords) ∧ rkOp copyWords ≠ 2)
      ∧ (after (.engineTakeJob 3) s).engJob 3 = some (rkWaits copyWords) ∧ after (.engineTakeJob 3) host = host) := by decide +kernel
theorem wit_no_state : (let j := rkWaits [4, 0, 0, 0, 0x7D200000, 0, 4, 0x7D400000]
    let s := rkReady j
    (s.rkNext = some (true, j) ∧ rkOp j.words = 2 ∧ mfind s.rk.conts (rkAddr j.words 7) = none) ∧ (after (.engineTakeJob 3) s).engJob 3 = none) := by decide +kernel
theorem wit_job_end : (let s := rkRuns copyWords .running
    let k := s.rkWork (rkWaits copyWords) ⟨[], [], 0⟩
    (s.engJob (3 : Fin 4) = some (rkWaits copyWords) ∧ mget 0 s.rk.inject (3 : Fin 4) = 0 ∧ (s.rkReach (rkWaits copyWords) ⟨[], [], 0⟩).2 = 0
        ∧ Sys2Proof.Machine.slotOf (rkAddr copyWords 4) = 0 ∧ k.1.length ≤ nth copyWords 6 ∧ k.2.1.dictAddr = none)
      ∧ (after (.rkJobEnd 3 [] [] 0 []) s).fld (F.RK_EJOBS_COUNT 3) = 1) := by decide +kernel
theorem wit_quarantine : (let s := rkRuns copyWords .running
    (after (.quarantine 3 false) s).fld (F.RK_ENG_STATE 3) = 2 ∧ (after (.quarantine 3 false) (fld (F.RK_ENG_QUARANTINES 3) 3 s)).fld (F.RK_ENG_STATE 3) = 3) := by decide +kernel
theorem wit_release : (let s := fld (F.RK_ENG_STATE 3) 2 host
    (s.fld (F.RK_ENG_STATE 3) = 2 ∧ 3 ∉ s.rk.testing) ∧ (after (.release 3) s).rk.testing = [3] ∧ (after (.engineSelftestEnd 3 true) (after (.release 3) s)).fld (F.RK_ENG_STATE 3) = 0
      ∧ (after (.engineSelftestEnd 3 false) (after (.release 3) s)).fld (F.RK_ENG_STATE 3) = 2) := by decide +kernel
theorem wit_host_suspend : (let s := rkRuns (setAt copyWords 7 0x7D400000) .suspending
    let j := rkWaits (setAt copyWords 7 0x7D400000)
    (s.engJob 3 = some j ∧ jobSt s = some .suspending ∧ 0 < (s.rkWork j ⟨[], [], 0⟩).1.length ∧ (s.rkReach j ⟨[], [], 0⟩).2 = 0)
      ∧ jobSt (after (.hostSuspend 3 0 [] []) s) = some .suspended) := by decide +kernel
theorem wit_inject : (bits 7 2 2 = 1 ∧ host.fld (F.RK_ENG_STATE 3) < 2) ∧ mget 0 (after (.rkTestInject 7) host).rk.inject 3 = 1
    ∧ (bits 15 2 2 = 3 ∧ (after (.rkTestInject 15) host).rk = host.rk) := by decide +kernel
theorem wit_rk_mark : (after .rkHwmRestart (rkReady (rkWaits copyWords))).fld F.RK_QHWM_HOST_HWM = 1 := by decide +kernel

/-! The fabric and the twin (FabricFrames, FabricSending, TwinSlots, LinkRecords, MigrationResults) -/

/-- Link 63 to the twin of a running host, with what `g` makes of the link. -/
def linked (g : Link → Link) : State := twinned g (hosted up)
/-- A frame of the twin. -/
def frame (b : FabBody) : FabIn := ⟨true, ⟨2, 0, 0, 0, 0, 9, 1, false⟩, true, b⟩
theorem wit_fabric_passes (b : FabBody) : FabPasses (linked id) (frame b) 63 :=
  ⟨by decide +kernel, rfl, show 0 = (linked id).fld F.TW_ID_DEV_ID by decide +kernel, show (2 : Nat) ≠ (linked id).fld F.TW_ID_DEV_ID by decide +kernel,
    show (linked id).linkOf 2 = some 63 by decide +kernel, rfl, false, show (linked id).fabEpoch 0 = some false by decide +kernel, by
      intro t h
      have e : ((linked id).link 63).rxCur = none := by decide +kernel
      simp [e] at h⟩
theorem wit_credit : ((after (.credit (frame .credit)) (linked id)).link 63).credit = 9 := by decide +kernel
theorem wit_heartbeat : (((linked id).link 63).state = 2 ∧ ((linked id).link 63).serial = 9) ∧ ((after (.heartbeat (frame (.heartbeat 9 0 5 1 [0, 1, 2, 3]))) (linked id)).link 63).peerSlots = [0, 1, 2, 3]
    ∧ (after (.heartbeat (frame (.heartbeat 8 0 5 1 [0, 1, 2, 3]))) (linked id)).fld F.TW_EVENT_DUP_ID = 1
    ∧ ((after (.heartbeat (frame (.heartbeat 8 0 5 1 [0, 1, 2, 3]))) (linked fun x => { x with state := 1 })).link 63).state = 2 := by decide +kernel
/-- The same frame with another SEQ, and a link whose slot is READY. -/
def late (b : FabBody) : FabIn := { frame b with hdr := { (frame b).hdr with seq := 5 } }
def slotted (st : Nat) : State := fld (F.TW_PRI_STAT_STATE 3) st (flag (F.TW_PRI_CFG_EN 3) (fld (F.TW_PRI_CFG_PEER 3) 2 (fld F.GL_MODE_MODE 5 (linked id))))
theorem wit_mirror : ((slotted 2).slotOf 2 = some 3 ∧ (slotted 2).slotState 3 = 2) ∧ ((after (.mirrorFrame (frame (.mirror [])) false) (slotted 2)).link 63).ack = 1
    ∧ ((after (.mirrorFrame (late (.mirror [])) false) (slotted 2)).link 63).ack = 0 := by decide +kernel
/-- Page 1000 is exported. -/
def exports : State := flag F.HP_CTRL_EXPORT_EN (fld F.HP_EXPORT_FIRST_PAGE 1000 (fld F.HP_EXPORT_PAGES 1 (linked id)))
theorem wit_read : (exports.exported 0x7D000000 4 = true ∧ exports.mappedRange 0x7D000000 4 = true ∧ exports.poisoned 0x7D000000 4 = false ∧ exports.exported 0x7D200000 4 = false)
    ∧ ((after (.readRequest (frame (.readReq 0x7D000000 4 6)) []) exports).link 63).queue = [⟨none, .readResp 6 0 [0, 0, 0, 0], 0⟩]
    ∧ ((after (.readRequest (frame (.readReq 0x7D200000 4 6)) []) exports).link 63).queue = [⟨none, .readResp 6 12 [], 0⟩] := by decide +kernel
theorem wit_read_fails : (let s := exports.setPage 1000 none
    let t : State := { exports with hp := { exports.hp with poison := [(0x7D000000 / 8, true)] } }
    s.mappedRange 0x7D000000 4 = false ∧ t.poisoned 0x7D000000 4 = true ∧ ((after (.readRequest (frame (.readReq 0x7D000000 4 6)) []) s).link 63).queue = [⟨none, .readResp 6 8 [], 0⟩]) := by decide +kernel
theorem wit_write : ((after (.writeRequest (frame (.writeReq 0x7D000000 6 [1, 2]))) exports).bytesAt 0x7D000000 2) = [1, 2]
    ∧ ((after (.writeRequest (frame (.writeReq 0x7D200000 6 [1, 2]))) exports).link 63).queue = [⟨none, .writeResp 6 12, 0⟩] := by decide +kernel
theorem wit_fenced : ((linked id).flag F.TW_TWIN_EN = true ∧ ((linked id).link 63).peer = (linked id).fld F.TW_TWIN_TWIN) ∧ (after (.fenceFrame (frame (.fence false))) (linked id)).gl.trans.isSome = true := by decide +kernel
theorem wit_confirmed : ((slotted 3).slotState 3 = 3 ∧ (slotted 3).actSlot = none ∧ (slotted 3).mode = 5) ∧ (after (.fenceFrame (frame (.fence true))) (slotted 3)).fld F.TW_TKO_SLOT = 3 := by decide +kernel

/-- A sequenced frame heads the queue. -/
def migration : FabFrame := ⟨none, .migrate (.cancel 5), 0⟩
theorem wit_frame_sent : (let s := flag (F.EP_CTRL_EN 3) (linked fun x => { x with queue := [migration], credit := 1 })
    let x := s.link 63
    (x.queue = [migration] ∧ x.en = true ∧ s.fabOn = true ∧ s.flag F.TW_STATUS_DUP_ID = false ∧ s.fabMute = false ∧ x.unacked.length < x.window ∧ x.unacked.length < x.credit)
      ∧ s.fabPort x 5 = none ∧ (fld (F.EP_CTRL_ROLES 3) 4 s).fabPort x 5 = some 3
      ∧ ((after (.fabricFrameSend 63) (fld (F.EP_CTRL_ROLES 3) 4 s)).link 63).unacked = [{ migration with seq := some 0 }]) := by decide +kernel
theorem wit_window_full : (let s := linked fun x => { x with queue := [migration], unacked := List.replicate 32 migration, credit := 99 }
    ((s.link 63).window ≤ (s.link 63).unacked.length ∧ fabSequenced migration.body = true) ∧ after (.fabricFrameSend 63) s = s) := by decide +kernel
theorem wit_no_credit : (let s := linked fun x => { x with queue := [migration] }
    (0 < (s.link 63).window ∧ (s.link 63).credit ≤ (s.link 63).unacked.length) ∧ after (.fabricFrameSend 63) s = s.twCount 6 1) := by decide +kernel
theorem wit_heartbeat_due : (let s := flag F.TW_CTRL_HB_EN (linked id)
    ((s.link 63).en = true ∧ (s.link 63).state ≠ 0 ∧ s.fabMute = false ∧ (s.link 63).hbAt = none) ∧ ((after (.heartbeatSend 63) s).link 63).hbAt = some 0) := by decide +kernel
theorem wit_link_lost : (let s : State := { linked id with elapsed := 10 ^ 10 }
    ((s.link 63).state = 2 ∧ (s.link 63).heard + s.fld F.TW_HB_MISS * s.fld F.TW_HB_HB_US * 1000 ≤ s.elapsed) ∧ ((after (.linkLost 63) s).link 63).state = 1) := by decide +kernel
theorem wit_resent : (let s : State := { linked (fun x => { x with unacked := [{ migration with seq := some 0 }] }) with elapsed := 10 ^ 10 }
    ((s.link 63).ackAt + (s.link 63).rtoUs * 1000 ≤ s.elapsed) ∧ ((after (.retransmitTimeout 63) s).link 63).ackAt = 10 ^ 10) := by decide +kernel
theorem wit_credit_sent : (let s := linked fun x => { x with words := x.words ++ [(11, 1500 * 2 ^ 16)], ack := 200 }
    ((s.link 63).en = true ∧ (s.link 63).grant ≠ 0 ∧ (s.link 63).queue = [] ∧ ((s.link 63).grant + 3) / 4 ≤ ((s.link 63).ack + 2 ^ 32 - (s.link 63).ackSent) % 2 ^ 32)
      ∧ ((after (.creditFrameSend 63) s).link 63).queue = [⟨none, .credit, 0⟩]) := by decide +kernel
theorem wit_notes : (let s : State := { linked id with tw := { (linked id).tw with notes := [(5, 6)], noteNext := 1 }, elapsed := 10 ^ 10 }
    (s.tw.notes ≠ [] ∧ s.tw.notesSince + s.fld F.TW_TWIN_NOTE_US * 1000 ≤ s.elapsed ∧ s.twinLink = some 63) ∧ ((after .sentNoteFlush s).link 63).queue = [⟨none, .mirror [.sent [(5, 6)]], 1⟩]) := by decide +kernel
/-- A read of 4 bytes through a pooled window is under way. -/
def remote : Remote := ⟨1, 1, 2, 63, false, 0, 4, 10, none, 0x1000⟩
theorem wit_remote : (let s : State := { linked id with hp := { (linked id).hp with remote := [remote] }, elapsed := 10 }
    (s.hp.remote.find? fun r => r.tag % 2 ^ 32 = (1 : BitVec 32).toNat && r.link = (63 : Fin 64).val && r.write = false) = some remote
      ∧ (after (.remoteResponse 63 1 0 false [1, 2, 3, 4]) s).out.contains (.host 0x1000 [1, 2, 3, 4]) ∧ (after (.remoteResponse 63 1 12 false []) s).fld F.HP_EVENT_REMOTE_ERR = 1
      ∧ (after .remoteTimeout s).hp.remote = []) := by decide +kernel

theorem wit_attach : (let s := (slotted 0)
    (s.flag (F.TW_PRI_CFG_EN 3) = true ∧ s.slotState 3 = 0 ∧ s.linkOf (s.fld (F.TW_PRI_CFG_PEER 3)) = some 63 ∧ s.fabOn = true ∧ (s.link 63).state = 2 ∧ s.attachRefuse 3 [] 1025 true = 2)
      ∧ (after (.attachCheck 3 [] 1025 true false) s).fld (F.TW_PRI_STAT_REFUSE 3) = 2) := by decide +kernel
theorem wit_attached : (let s := fld (F.TW_PRI_SHADOW_PAGES 3) 4095 (fld (F.TW_PRI_SHADOW_FIRST_PAGE 3) 1000 (slotted 0))
    s.attachRefuse 3 [] 0 false = 0 ∧ (after (.attachCheck 3 [] 0 false false) s).slotState 3 = 1) := by decide +kernel
theorem wit_suspected : (let s : State := { slotted 3 with elapsed := 10 ^ 9 }
    ((s.twSlot 3).fencedAt + 5000000 ≤ s.elapsed ∧ (s.twSlot 3).slow = false) ∧ ((after (.fenceRepeat 3) s).twSlot 3).fencedAt = 10 ^ 9 ∧ ((after (.fenceSlow 3) s).twSlot 3).slow = true
      ∧ after (.fenceRepeat 3) (slotted 3) = slotted 3) := by decide +kernel
theorem wit_port_evidence : (let s : State := { (fld (F.TW_PRI_CFG_DIRECT_PORT 3) 2 (slotted 3)).setPort 2 { Port.init with downAt := some 0 } with elapsed := 500000 }
    (s.fld (F.TW_PRI_CFG_DIRECT_PORT 3) = 2 ∧ s.flag (F.EP_STATUS_LINK 2) = false) ∧ (after (.directLinkEvidence 3) s).fld F.TW_TKO_PATH = 3) := by decide +kernel
theorem wit_takeover : ((slotted 1).takeoverRefused 3 = true ∧ (slotted 2).takeoverRefused 3 = false) ∧ (after (.takeover 3) (slotted 2)).slotState 3 = 3
    ∧ after (.takeover 3) (slotted 3) = slotted 3 ∧ (after (.force 3) (slotted 2)).slotState 3 = 4 := by decide +kernel
theorem wit_installed : (let s := fld F.GL_MODE_MODE 2 (slotted 4)
    s.installReady 3 = true ∧ (slotted 2).installReady 3 = false ∧ (after (.slotInstalled 3 []) s).tw.installed = some 3) := by decide +kernel
theorem wit_log_kept : (let s := (slotted 2).setTwSlot 3 { (slotted 2).twSlot 3 with log := [⟨0, 0, []⟩], announce := [⟨false, [], 2, 0⟩] }
    let s : State := { s with cp := { s.cp with sec := 5 }, elapsed := 5 * 10 ^ 9 }
    ((after (.ingressLogExpiry 3) s).twSlot 3).log = [] ∧ (((after (.gratuitousAnnounce 3 0) s).twSlot 3).announce.map (·.sent)) = [3]
      ∧ after (.gratuitousAnnounce 3 0) (after (.gratuitousAnnounce 3 0) s) = after (.gratuitousAnnounce 3 0) s) := by decide +kernel

/-- Word w of link 63 is selected. -/
def selected (w : Nat) (g : Link → Link) : State := fld F.TW_LINK_SEL_LINK 63 (fld F.TW_LINK_SEL_WORD w (linked g))
theorem wit_link_word : ((selected 15 id).fld F.TW_LINK_SEL_LINK = 63 ∧ (selected 15 id).fld F.TW_LINK_SEL_WORD = 15) ∧ (after (.twLinkDataAccess false 0) (selected 15 id)).fld F.TW_LINK_SEL_WORD = 0 := by decide +kernel
theorem wit_link_off : (let s := selected 0 fun x => { x with words := [] }
    ((s.link 63).en = false ∧ bit 0x4005 14 = true) ∧ ((after (.twLinkDataAccess true 0x4005) s).link 63).peer = 5 ∧ ((after (.twLinkDataAccess true 0x4005) s).link 63).state = 1
      ∧ ((after (.twLinkDataAccess true 5) (selected 0 id)).link 63).en = false) := by decide +kernel
theorem wit_link_set : (let s := selected 13 fun x => { x with words := [] }
    linkReserved 13 (5 &&& linkMask 13) = [] ∧ ((after (.twLinkDataAccess true 5) s).link 63).word 13 = 5 &&& linkMask 13) := by decide +kernel
theorem wit_key : (let s := fld F.TW_KEY_SEL_WORD 7 running
    s.fld F.TW_KEY_SEL_WORD = 7 ∧ (after (.twKeyDataWrite 9) s).tw.keyNext = [0, 0, 0, 0, 0, 0, 0, 9] ∧ (after .epochSwitch (after (.twKeyDataWrite 9) s)).tw.keyCur = [0, 0, 0, 0, 0, 0, 0, 9]
      ∧ (after .epochSwitch s).tw = s.tw) := by decide +kernel

/-- Channel 8191 is open on a linked host, and migrates by a job at a step. -/
def moved (step : Nat) : State := withJob (job 0x65 .running step [63, 0, 0, 0, 0, 0] [8191, 2 + 7 * 2 ^ 16, 20]) ((linked id).setChan 8191 { plain with st := .migOut })
theorem wit_migrate : (let c := job5 [8191, 2 + 7 * 2 ^ 16, 20]
    let s := (linked id).setChan 8191 plain
    (StartsJob s c 0x65 1 (fun j => nth j.args 0 = arg c 0) ∧ argMask c [0x1FFF, 0x1FFF3FFF, 0xFFFF] = true ∧ s.mode ≠ 7 ∧ s.chan 8191 = some plain ∧ s.linkOf (bits (arg c 1) 0 14) = some 63
        ∧ s.fabOn = true ∧ (s.link 63).state = 2) ∧ ((after (.migrate c) s).link 63).queue.length = 1) := by unfold StartsJob Starts; decide +kernel
theorem wit_switch : ((moved 2).migJob 8191 = some (job 0x65 .running 2 [63, 0, 0, 0, 0, 0] [8191, 2 + 7 * 2 ^ 16, 20]) ∧ ((moved 2).chan 8191).isSome = true)
    ∧ ((after (.migrateSwitch 8191) (moved 2)).job 5).map (·.step) = some 3 ∧ ((after (.migrateForwardEnd 8191) (moved 3)).chan 8191).map (·.st) = some .closing
    ∧ after (.migrateSwitch 8191) (moved 3) = moved 3 ∧ after (.migrateForwardEnd 8191) (moved 2) = moved 2 := by decide +kernel
theorem wit_evacuate : (let c := job5 [2]
    let s := linked fun x => { x with peerSlots := [0, 2, 0, 0] }
    (StartsJob s c 0x66 1 (fun _ => true) ∧ argMask c [0x3FFF] = true ∧ arg c 0 = s.fld F.TW_TWIN_TWIN ∧ s.twinLink = some 63) ∧ ((after (.evacuate c) s).job 5).map (·.step) = some 1) := by
  unfold StartsJob Starts; decide +kernel
theorem wit_evacuate_fence : (let s := withJob (job 0x66 .running 2 [] [2]) (linked id)
    (s.evacJob = some (job 0x66 .running 2 [] [2]) ∧ s.twinLink = some 63 ∧ s.tw.notes = [] ∧ s.mirrorOut 63 = false) ∧ (after .evacuateFence s).tw.evacLink = some 63
      ∧ (after .evacuateFenceRepeat { (after .evacuateFence s) with elapsed := 5000000 }).tw.evacAt = 5000000) := by decide +kernel
theorem wit_checkpoint_all : (let s := (linked id).setChan 5 { plain with mirror := 1 }
    (StartsJob s (job5 []) 0x68 1 (fun _ => true) ∧ s.twinLink = some 63 ∧ s.mirrored = [5]) ∧ ((after (.checkpointAll (job5 [])) s).job 5).map (·.work) = some [5]
      ∧ ((linked fun x => { x with state := 1 }).twinLink = none) ∧ host.flag F.TW_TWIN_EN = false) := by unfold StartsJob Starts; decide +kernel

/-! The management port (ManagementTransmit, ManagementReceive) -/

def message : MgFrame := ⟨[1, 2], false, 0, none⟩
/-- A management port that may send, with a frame at its head. -/
def mgmt (g : Mgmt → Mgmt) : State :=
  let s := flag F.MG_CTRL_EN ((running.setFlag F.MG_STATUS_LISTEN_ONLY false).setFlag F.GL_STATUS_LIVE true)
  { s with mg := g { s.mg with queue := [message], bucket := 10 ^ 10 } }
theorem wit_sends : ((mgmt id).mg.queue = [message] ∧ (mgmt id).mgMaySend = true ∧ (mgmt id).mgLate message = false) ∧ (after .mgTransmitAttempt (mgmt id)).mg.started = some 0
    ∧ (let s := mgmt fun m => { m with started := some 0 }
       s.mgMaySend = false ∧ after .mgTransmitAttempt s = s) := by decide +kernel
theorem wit_too_late : (let s : State := { mgmt id with elapsed := 10 ^ 12 }
    (s.mgMaySend = true ∧ s.mgLate message = true ∧ s.mg.started = none) ∧ (after .mgTransmitAttempt s).mg.queue = [] ∧ (after (.mgTxTimeout 0) s).mg.queue = []
      ∧ (after (.mgTxTimeout 15) { s with mg := { s.mg with queue := List.replicate 16 message } }).mg.queue.length = 15) := by decide +kernel
/-- A frame is being sent, after n collisions. -/
def sending (n : Nat) : State := mgmt fun m => { m with started := some 0, collisions := n }
theorem wit_sent : (sending 0).mg.started.isSome = true ∧ (after .mgTransmitEnd (sending 0)).mg.queue = [] ∧ (after .ownJabber (sending 0)).mg.queue = [] := by decide +kernel
theorem wit_collides : (after (.mgCollision 513) (sending 0)).fld F.MG_EVENT_LATE_COL = 1 ∧ (after (.mgCollision 512) (sending 15)).fld F.MG_EVENT_EXCESS_COL = 1
    ∧ (after (.mgCollision 512) (sending 14)).mg.collisions = 15 := by decide +kernel
theorem wit_backs_off : (let s : State := mgmt fun m => { m with backoff := some 0 }
    (after .backoffEnd s).mg.backoff = none) ∧ (after .jabber (mgmt id)).fld F.MG_STATUS_JABBER = 1 ∧ (after .jabberClear (after .jabber (mgmt id))).fld F.MG_STATUS_JABBER = 0 := by decide +kernel

/-- A frame of 64 bytes to every station, with its FCS. -/
def received (ty : Nat) : List (BitVec 8) :=
  let l := List.replicate 6 255 ++ [0, 1, 2, 3, 4, 5] ++ beBytes 2 ty ++ List.replicate 46 0
  l ++ leBytes 4 (crc32 0xEDB88320 l).toNat
theorem wit_frame_good : (received 0x800).length = 64 ∧ leNat ((received 0x800).drop 60) = (crc32 0xEDB88320 ((received 0x800).take 60)).toNat ∧ beNat ((received 0x800).take 6) = 2 ^ 48 - 1
    ∧ ((List.range 16).any fun i => (mgmt id).flag (F.MG_SRCF_HI_VALID i)) = false ∧ (mgmt id).flag F.MG_CTRL_EN = true := by decide +kernel
theorem wit_frame_results : (mgmt id).flag F.MG_CTRL_SRCF_MODE = false ∧ after (.mgFrameReceived [] false false false) (mgmt id) = (mgmt id).mgCount 0
    ∧ after (.mgFrameReceived (received 0x800) false false false) (mgmt id) = (mgmt id).mgToHost (received 0x800) := by decide +kernel
theorem wit_frame_filtered : (let s := (mgmt id).setFlag F.MG_CTRL_SRCF_MODE true
    after (.mgFrameReceived (received 0x800) false false false) s = s.mgCount 1) := by decide +kernel
theorem wit_message_bad : (let s := flag F.MG_CTRL_MSG_EN (mgmt id)
    (get16 (received 0x88B5) 12 = 0x88B5 ∧ s.flag F.MG_CTRL_MSG_EN = true) ∧ (after (.mgFrameReceived (received 0x88B5) false false false) s).fld F.MG_EVENT_MSG_REJECT = 1) := by decide +kernel
theorem wit_wake_frame : (let s := fld F.GL_MODE_MODE 9 (mgmt id)
    s.mode = 9 ∧ after (.mgFrameReceived (received 0x800) false false false) s = s.wakeFrame (received 0x800)) := by decide +kernel
theorem wit_sync_message : (let s := mgmt fun m => { m with syncAt := [0, 5] }
    s.mg.syncAt.any (· ≤ s.nowNs) = true ∧ (after .syncMessageAct s).mg.syncAt = [5] ∧ (after .syncMessageAct s).bs.sync = [(0, 2)]) := by decide +kernel
theorem wit_blanking : (let s := mgmt fun m => { m with blank := some (0, 5) }
    let t : State := { s with cp := { s.cp with ns := 5 } }
    (0 ≤ s.nowNs ∧ s.nowNs < 5 ∧ s.flag F.MG_STATUS_BLANKING = false ∧ 5 ≤ t.nowNs) ∧ (after .blankIntervalStart s).fld F.MG_STATUS_BLANKING = 1 ∧ (after .blankIntervalEnd t).mg.blank = none) := by decide +kernel
theorem wit_beacon : (let s := flag F.MG_CTRL_PLCA_EN (fld F.MG_PLCA_NODE_ID 3 (mgmt id))
    (s.flag F.MG_CTRL_PLCA_EN = true ∧ s.fld F.MG_PLCA_NODE_ID ≠ 255) ∧ (after .beacon s).fld F.MG_STATUS_PLCA_ACTIVE = 1 ∧ (after .plcaBeaconLoss (after .beacon s)).fld F.MG_STATUS_PLCA_ACTIVE = 0) := by decide +kernel
theorem wit_listens : (running.listenOnly = true ∧ running.mg.listenUntil ≤ 10 ^ 12) ∧ (after .mgListenEndWrite running).fld F.MG_STATUS_LISTEN_ONLY = 0
    ∧ (after .listenEnd { running with elapsed := 10 ^ 12 }).fld F.MG_EVENT_LISTEN_END = 1 := by decide +kernel
theorem wit_wake_pin : (let s := flag F.MG_WAKE_CFG_PIN_EN (fld F.PW_CTRL_WAKE_MODE 2 (fld F.GL_MODE_MODE 9 running))
    (s.mode = 9 ∧ s.flag F.MG_WAKE_CFG_PIN_EN = true ∧ s.gl.exitAt = none ∧ s.gl.trans = none ∧ s.fld F.PW_CTRL_WAKE_MODE = 2) ∧ (after .wakePin s).gl.trans = some ⟨2, true, none, 0⟩) := by decide +kernel

/-! Modes and resets (ModeResults, ResetResults, PerstChoice) -/

theorem wit_mode_set : (Plain host (cmd [8]) ∧ argMask (cmd [8]) [0xF] = true ∧ host.gl.trans = none ∧ (host.start (cmd [8])).modeDetail 8 = 0)
    ∧ (after (.modeSet (cmd [8])) host).gl.trans = some ⟨8, false, some (host.originOf (cmd [8]) 2), 0⟩ ∧ (after (.modeSet (cmd [2])) host).gl.trans = none := by unfold Plain Starts; decide +kernel
theorem wit_mode_refused : (host.start (cmd [11])).modeDetail 11 ≠ 0 ∧ (let s := hosted (fld F.GL_MODE_MODE 1 running)
    (s.mode = 1 ∧ s.fuse.strapTest = false) ∧ (after (.modeSet (cmd [11])) s).fld F.GL_EVENT_FACTORY_DENIED = 1) := by decide +kernel
/-- A transition to a mode runs. -/
def changing (m : Nat) (s : State) : State := { s with gl := { s.gl with trans := some ⟨m, false, none, 0⟩ } }
theorem wit_mode_busy : (changing 8 host).gl.trans.isSome = true ∧ (after (.modeSet (cmd [3])) (changing 8 host)).gl.trans = some ⟨8, false, none, 0⟩ := by decide +kernel
theorem wit_egress_stops : (changing 10 running).gl.egressOff = false ∧ (after .egressStopped (changing 10 running)).gl.egressOff = true ∧ (after .egressStopped (changing 10 running)).fld F.TW_STATUS_FENCED = 1 := by decide +kernel
theorem wit_mode_changes : ((changing 10 running).gl.waiting = [] ∧ (changing 10 running).mode ≠ 9) ∧ (after (.modeChange []) (changing 10 running)).mode = 10
    ∧ (after (.modeChange []) (changing 8 running)).fld F.GL_MODE_RETURN = 2 ∧ after (.modeChange []) running = running
    ∧ (after (.modeChange []) (changing 2 (fld F.GL_MODE_MODE 9 running))).mode = 1 := by decide +kernel
theorem wit_warm : (running.mode ≠ 0 ∧ running.mode ≠ 9) ∧ (after (.warmReset 0xA5) running).gl.warm = true ∧ (after (.warmReset 0xA4) running).mode = 2
    ∧ (after (.warmDone []) (after (.warmReset 0xA5) running)).mode = 1 := by decide +kernel
/-- Its power is good. -/
def powered : State := flag F.PW_STATUS_PWR_OK running
theorem wit_cold : (running.flag F.PW_STATUS_PWR_OK = false ∧ powered.flag F.PW_STATUS_PWR_OK = true ∧ (flag F.GL_CTRL_PERST_COLD powered).perstCold = true ∧ powered.perstCold = false)
    ∧ (after (.powerOnReset 5) running).fld F.GL_STRAP_BOOT = 1 ∧ (after (.sysReset 0) powered).fld F.GL_RESET_CAUSE_LAST = 1
    ∧ (after (.perst 0) (flag F.GL_CTRL_PERST_COLD powered)).fld F.GL_RESET_CAUSE_LAST = 2 ∧ (after (.perst 0) powered).mode = 2 := by decide +kernel
theorem wit_power_fails : (after .pwrOkFall powered).fld F.GL_RESET_CAUSE_LAST = 4 ∧ after (.perst 0) running = running
    ∧ after (.perst 0) (fld F.GL_MODE_MODE 9 powered) = fld F.GL_MODE_MODE 9 powered := by decide +kernel
theorem wit_boots : (let s := fld F.GL_MODE_MODE 0 powered
    (s.mode = 0 ∧ s.gl.warm = false ∧ s.clusters = 16 ∧ bits (([] : List (BitVec 11)).getD 15 0x3FF).toNat 0 9 = 0x1FF) ∧ (after (.bootReady [] [3]) s).mode = 1
      ∧ (after (.bootReady [] [3]) s).fld (F.HP_PC_STAT_LANES_REMAPPED 0) = 2 ∧ (after (.bootReady [] [3]) s).fld (F.CO_STATUS_LOGICAL 142) = 127) := by decide +kernel
theorem wit_undervolt : (powered.flag F.PW_STATUS_PWR_OK = true) ∧ (after (.undervolt 7) powered).fld (F.PW_RAIL_UV_CNT 7) = 1 ∧ (after (.undervoltEnd 7) (after (.undervolt 7) powered)).fld (F.PW_RAIL_UV 7) = 0
    ∧ (after (.undervolt 2) (flag F.PW_STATUS_VCORE_EN powered)).fld (F.PW_RAIL_UV 2) = 1 := by decide +kernel
theorem wit_live : (let s := flag F.PW_STATUS_LIVE_EN powered
    s.flag F.PW_STATUS_LIVE_EN = true ∧ (after .liveLost s).fld F.GL_EVENT_LIVE_LOST = 1 ∧ (after .liveBack (after .liveLost s)).fld F.GL_EVENT_LIVE_BACK = 1) := by decide +kernel

/-! Containers and the mailbox (ImageResults, LanternResults) -/

/-- A container of one segment of 0x1000 words of zeros for CPS word 0. -/
def image : List (BitVec 8) :=
  leBytes 4 0x474D495A ++ leBytes 2 1 ++ List.replicate 6 0 ++ leBytes 4 17640 ++ leBytes 2 1 ++ List.replicate 1230 0 ++ leBytes 4 0 ++ leBytes 4 0x1000 ++ List.replicate 16384 0
theorem wit_image : imgOk image = true := by decide +kernel

theorem wit_boot_load : (let s := fld F.GL_MODE_MODE 1 { running with fuse := { running.fuse with strapBoot := 1 } }
    (s.fuse.strapBoot = 1 ∧ s.mode = 1) ∧ (after (.qspiBootLoad [] true) s).fld F.GL_BOOT_STAT_STATUS = 12) := by decide +kernel
/-- The same container as the buffer of a command. -/
def imageCmd : HCmd := ⟨0, 5 * 2 ^ 8, 7, [0, 0, 0, 0, 0, 0, 0, 0, 0, 0, 0, 0, 0, 17640], image, 0⟩
theorem wit_image_buffer : bufBytes imageCmd = image := by
  have l : image.length = 17640 := by decide +kernel
  have n : bufLen imageCmd = 17640 := by decide +kernel
  have b : imageCmd.buf = image := by rw [imageCmd]
  rw [bufBytes, n, b, l, List.take_of_length_le (Nat.le_of_eq l), Nat.sub_self]
  exact List.append_nil _
/-- The ROM word of the version is patched, and the image store has its two pages. -/
def stored : State := { host with mem := { host.mem with patch := [(0, 16)] }, gl := { host.gl with curPage := some 8190, newPage := some 8191 } }
theorem wit_exchange : StartsJob stored imageCmd 0x60 1 (fun _ => true) ∧ bufMask imageCmd [] = true ∧ stored.fuse.svnMin = 0 ∧ bits (imgVersion image) 16 8 = 0
    ∧ bits ((stored.start imageCmd).romRead 0 0).toNat 16 8 = 0 ∧ stored.gl.curPage.isSome = true ∧ stored.gl.newPage.isSome = true := by unfold StartsJob Starts; decide +kernel
theorem wit_patch_load : (let c : HCmd := ⟨0, 0, 7, [], [], 0⟩
    let s := hosted (fld F.GL_MODE_MODE 1 running)
    (Plain s c ∧ bufMask c [] = true ∧ s.mode = 1) ∧ (after (.patchLoad c true) s).fld F.GL_BOOT_STAT_STATUS = 12) := by unfold Plain Starts; decide +kernel
/-- A firmware exchange stands at a phase of cluster c. -/
def fwx (c phase : Nat) : State := withJob (job 0x60 .running 0 [] []) { host with gl := { host.gl with fwx := some ⟨5, ⟨0, 0, 7, 5, 0x60⟩, false, c + 1, c, phase, false⟩ } }
theorem wit_exchange_steps : ((fwx 15 0).runs.any (fun r => r.1 / 9 = 15) = false ∧ (15 : Nat) < host.clusters) ∧ (after (.fwxStepEnd 0 true) (fwx 15 0)).fld (F.PW_CL_STATE 15) = 5
    ∧ (after (.fwxStepEnd 0 true) (fwx 15 1)).fld (F.PW_CL_STATE 15) = 6 ∧ ((after (.fwxStepEnd 0 true) (fwx 15 2)).gl.fwx.map (·.phase)) = some 3
    ∧ ((after (.fwxStepEnd 0 false) (fwx 15 2)).gl.fwx.map (·.suspended)) = some true ∧ ((after (.fwxStepEnd 0 true) (fwx 14 3)).gl.fwx.map (·.cluster)) = some 15 := by decide +kernel

/-- Mode LANTERN, with argument words 0 and 1 of the mailbox. -/
def lantern (n a : Nat) : State := fld (F.LN_MBX_ARG_ARG 0) n (fld (F.LN_MBX_ARG_ARG 1) a (fld F.GL_MODE_MODE 7 running))
theorem wit_mailbox : ((lantern 239 15).mode = 7 ∧ (lantern 239 15).flag F.LN_MBX_STAT_BUSY = false ∧ (lantern 239 15).flag F.LN_MBX_STAT_DONE = false ∧ (lantern 239 15).lnArg 0 = 239)
    ∧ (after .mailboxNop (lantern 239 15)).ln.cmd = some (0, [0, 0, 0, 0, 0, 239]) ∧ (after .chStats (lantern 240 0)).ln.cmd = some (0x15, [2, 0, 0, 0, 0, 240])
    ∧ after .evtRead running = running ∧ (after .evtRead (after .mailboxNop (lantern 0 0))).ln.cmd = some (0, [0, 0, 0, 0, 0, 0]) := by decide +kernel
theorem wit_version : ((after .getVersion (lantern 0 0)).ln.cmd.map (fun e => (e.2.take 2))) = some [0, 0x0240] := by decide +kernel
theorem wit_lantern_open : (let s := fld (F.LN_MBX_ARG_ARG 2) 511 (fld (F.LN_MBX_ARG_ARG 3) 1 (fld (F.LN_MBX_ARG_ARG 4) 64 (lantern 239 15)))
    let u := (s.setFld F.LN_MBX_CMD_OPCODE 0x10).setFlag F.LN_MBX_STAT_BUSY true
    s.lnArg 1 = 15 ∧ s.lnArg 2 = 511 ∧ s.lnArg 3 = 1 ∧ lanternTail (s.lnArg 4) = true ∧ (u.openChecks (basicReq 239 1 false 2 0 (239 % 40) true)).toOption.isSome = true
      ∧ s.slotRejects 15 511 (239 + 1 * 2 ^ 13 + 2 ^ 15 + 2 ^ 16) = false) := by decide +kernel
/-- Channel 239 was opened through the mailbox. -/
def lanternChan (a : Nat) : State := (lantern 239 a).setChan 239 { plain with lantern := true, stats := [1, 2, 3, 4] }
theorem wit_lantern_channel : (lanternChan 1).chan 239 = some { plain with lantern := true, stats := [1, 2, 3, 4] } ∧ ((after .lanternChClose (lanternChan 0)).chan 239).map (·.st) = some .closing
    ∧ ((after .chStats (lanternChan 1)).chan 239).map (·.stats) = some [] ∧ (after .chStats (lanternChan 0)).ln.cmd = some (0x15, [0, 1, 2, 3, 4, 239]) := by decide +kernel
theorem wit_lantern_values : (after .chGain (lanternChan 48)).ctxWord plain 42 = 120 + 3976 * 2 ^ 16 ∧ lanternTail 64 = true ∧ ((after .chEc (lanternChan 64)).ctxWord plain 40) = 64
    ∧ (lanternChan 0).lnArg 5 < 4 := by decide +kernel
theorem wit_lantern_event : (let s : State := { lantern 0 0 with ln := { (lantern 0 0).ln with fifo := [(5, 6, 7)] } }
    (after .evtRead s).ln.cmd = some (0x20, [0, 5, 6, 7, 0, 0]) ∧ (after .evtRead (lantern 0 0)).ln.cmd = some (0x20, [8, 0, 0, 0, 0, 0])) := by decide +kernel
theorem wit_mailbox_done : (let s := after .mailboxNop (lantern 9 0)
    s.mailboxDue = true ∧ (after .mailboxCompletion s).fld F.LN_MBX_STAT_DONE = 1 ∧ (after .lnMbxStatRead (after .mailboxCompletion s)).fld F.LN_MBX_STAT_DONE = 0) := by decide +kernel

/-! Registers and the queue (RegisterWriteRules, RegisterReadsAndRestarts, UnassignedOffsets, ResetState, StepRunsTheFrontCommand and its like) -/

theorem wit_write_register : (let s := running
    let a : Nat := R.HI_POLL
    (s.mode ≠ 9 ∧ s.regAnswers a = true ∧ s.writeData a 5 = none ∧ (fieldsAt a).isSome = true ∧ (((fieldsAt a).getD []).map fun x => x.f.key).Nodup
        ∧ a ≠ R.CP_SRC_CFG ∧ instOf (R.EP_PHY_CFG 0) 0x10000 4 a = none)) := by decide +kernel
theorem wit_phy_write : (let s := fld F.GL_MODE_MODE 0 running
    (bits 3 0 3 ≤ 5 ∧ bits 3 0 3 ≠ s.fld (F.EP_PHY_CFG_MODE 3) ∧ bits 3 3 2 ≤ 2 ∧ bit 3 5 = false ∧ s.flag (F.EP_STATUS_LINK 3) = false)
      ∧ (after (.epPhyCfgWrite 3 3) s).fld (F.EP_PHY_CFG_MODE 3) = 3) := by decide +kernel
theorem wit_restarts : (after .fifoHwmRestart { running with rl := { running.rl with fifo := [report] } }).fld F.RL_FIFO_STAT_HWM = 1
    ∧ (after .firstClear (flag F.RL_FIRST_CTRL_VALID running)).fld F.RL_FIRST_CTRL_VALID = 0 := by decide +kernel
theorem wit_read_register : running.regAnswers (0x200004 : BitVec 32).toNat = true ∧ (lowWord.map (·.2)).length ≠ 0
    ∧ (after (.rcRead (BitVec.ofNat 32 R.BS_COEF_DATA)) (fld F.BS_COEF_SEL_TAP 63 running)).fld F.BS_COEF_SEL_TAP = 0 := by decide +kernel
theorem wit_no_register_at : fieldsAt 0x0E0000 = none ∧ fieldsAt 0xFFFFFC = none ∧ (after (.rcRead 0xFFFFFC) { running with lastRead := 9 }).lastRead = 0 := by decide +kernel
theorem wit_queue : (let s : State := { running with pending := [.hiNudge, .syncCmd] }
    s.pending = .hiNudge :: [.syncCmd] ∧ 2 ≤ s.pending.length ∧ ((run 2 s).map (·.pending)) = some []) := by decide +kernel
theorem wit_idle : running.pending = [] ∧ (flag F.CP_STATUS_REF_LOST running).flag F.CP_STATUS_REF_LOST = true := by decide +kernel
theorem wit_memory : MemInv { running with hp := { running.hp with hbm := [(5, 1), (7, 2)] } } := by unfold MemInv; decide +kernel
/-- Queue 7 holds n entries. -/
def pool (n : Nat) : State := { running with th := { running.th with queues := [(7, List.replicate n (workEntry 1 0 0 0 0))] } }
theorem pool_general (n : Nat) : (pool n).poolGeneral = n := by
  have q : (pool n).queued = List.replicate n (workEntry 1 0 0 0 0) := by
    show ([(7, List.replicate n (workEntry 1 0 0 0 0))] : SMap (List Entry)).flatMap (·.2) = _
    simp
  have r : (pool n).runs = [] := rfl
  have v : (pool n).resvs = [] := rfl
  rw [State.poolGeneral, q, r, v, List.filter_eq_self.2 (fun x h => by rw [List.eq_of_mem_replicate h]; rfl), List.length_replicate]
  rfl
theorem wit_pool_full : (pool 65280).poolRoom = false ∧ (pool 65280).queueRoom 5 = true := by
  constructor
  · rw [State.poolRoom, pool_general]; rfl
  · rfl

end Sys2Proof.Tests
end

section
/-! ## The parts of the state that an operation may change, read off its frame lemma (Laws/Frame.lean) -/
namespace Sys2Proof.Machine

/-- The parts of the state in the order of its fields: the i-th one stands at bit i of a frame lemma's set. -/
def Part.all : List Part :=
  [.fuse, .elapsed, .freeCtr, .regs, .cores, .mem, .th, .chans, .hp, .ep, .cp, .td, .bs, .lm, .hi, .rl, .tw, .mg, .gl, .st, .rk, .ln,
    .lastRead, .out]

/-- The bit of a part in a frame lemma's set. -/
def Part.bit (p : Part) : Nat := Part.all.idxOf p

theorem Part.all_bit (p : Part) : Part.all[p.bit]? = some p := by cases p <;> rfl

theorem Part.bit_injective : Function.Injective Part.bit := fun p q h =>
  Option.some.inj ((Part.all_bit p).symm.trans (h ▸ Part.all_bit q))

theorem Part.bit_lt (p : Part) : p.bit < 24 := (List.getElem?_eq_some_iff.1 (Part.all_bit p)).1

theorem State.Fr.same {W : Nat} {s t : State} (h : State.Fr W s t) (p : Part) (hb : W.testBit p.bit = false) : p.Same s t :=
  match p with
  | .fuse => h.fuse hb
  | .elapsed => h.elapsed hb
  | .freeCtr => h.freeCtr hb
  | .regs => h.regs hb
  | .cores => h.cores hb
  | .mem => h.mem hb
  | .th => h.th hb
  | .chans => h.chans hb
  | .hp => h.hp hb
  | .ep => h.ep hb
  | .cp => h.cp hb
  | .td => h.td hb
  | .bs => h.bs hb
  | .lm => h.lm hb
  | .hi => h.hi hb
  | .rl => h.rl hb
  | .tw => h.tw hb
  | .mg => h.mg hb
  | .gl => h.gl hb
  | .st => h.st hb
  | .rk => h.rk hb
  | .ln => h.ln hb
  | .lastRead => h.lastRead hb
  | .out => h.out hb

/-- A frame lemma whose set names listed parts alone says that nothing else differs. -/
theorem State.Fr.only {W : Nat} {s t : State} {ps : List Part} (h : State.Fr W s t)
    (hW : ∀ i < 25, W.testBit i = true → i ∈ ps.map Part.bit) : Only ps s t := by
  have clear : ∀ i < 25, i ∉ ps.map Part.bit → W.testBit i = false := fun i hi hn =>
    Bool.eq_false_iff.2 fun hb => hn (hW i hi hb)
  refine ⟨h.pending (clear 24 (by decide) ?_), fun p hp => h.same p (clear _ (by have := p.bit_lt; omega) ?_)⟩
  · intro hm
    obtain ⟨p, -, hp⟩ := List.mem_map.1 hm
    exact absurd p.bit_lt (by omega)
  · intro hm
    obtain ⟨q, hq, hb⟩ := List.mem_map.1 hm
    exact hp (Part.bit_injective hb ▸ hq)

theorem Part.Same.symm {p : Part} {s t : State} (h : p.Same s t) : p.Same t s := by cases p <;> exact Eq.symm h

theorem Part.Same.trans {p : Part} {s t u : State} (h : p.Same s t) (h' : p.Same t u) : p.Same s u := by
  cases p <;> exact Eq.trans h' h

theorem Only.symm {ps : List Part} {s t : State} (h : Only ps s t) : Only ps t s := ⟨h.1.symm, fun p hp => (h.2 p hp).symm⟩

theorem Only.trans {ps : List Part} {s t u : State} (h : Only ps s t) (h' : Only ps t u) : Only ps s u :=
  ⟨h'.1.trans h.1, fun p hp => (h.2 p hp).trans (h'.2 p hp)⟩

theorem Only.refl (ps : List Part) (s : State) : Only ps s s := (State.Fr.refl (W := 0) s).only (by simp)

end Sys2Proof.Machine
end

section
/-! ## Register fields: a list of writes, and states that differ by reports alone -/
namespace Sys2Proof.Machine

/-- A field written under a key that another field shares: the stored value, or that field's own reset value. -/
theorem State.fld_setFld_of_key_eq (s : State) {f g : Fld} (v : Nat) (h : f.key = g.key) :
    (s.setFld f v).fld g = if v % 2 ^ f.w = f.rst then g.rst else v % 2 ^ f.w := by
  simp only [State.fld, State.setFld, ← h, mget, mset]
  split <;> simp

/-- The writes of R540: each field of a list takes its value. -/
def State.setAll (s : State) (es : List (Fld × Nat)) : State := es.foldl (fun t e => t.setFld e.1 e.2) s

theorem State.setAll_fr {W : Nat} {s₀ : State} (s : State) (es : List (Fld × Nat)) (hs : State.Fr W s₀ s)
    (hw : partSub 0x8 W = true := by first | exact partSub_refl _ | exact partSub_trans (by with_reducible assumption) (by exact rfl)) :
    State.Fr W s₀ (s.setAll es) :=
  fr_foldl (fun _ _ h => State.setFld_fr _ _ _ h) hs

/-- A field that the list does not name keeps its value. -/
theorem State.fld_setAll_of_forall_ne (es : List (Fld × Nat)) (s : State) (g : Fld) (h : ∀ e ∈ es, e.1.key ≠ g.key) :
    (s.setAll es).fld g = s.fld g := by
  induction es generalizing s with
  | nil => rfl
  | cons e es ih =>
    rw [List.forall_mem_cons] at h
    exact (ih _ h.2).trans (State.fld_setFld_ne _ _ _ _ h.1)

/-- A field that the list names with one value only takes it, cut to its width. -/
theorem State.fld_setAll_of_mem (es : List (Fld × Nat)) (s : State) (f : Fld) (v : Nat) (hf : (f, v) ∈ es)
    (h : ∀ e ∈ es, e.1.key = f.key → e = (f, v)) : (s.setAll es).fld f = v % 2 ^ f.w := by
  induction es generalizing s with
  | nil => cases hf
  | cons e es ih =>
    rw [List.forall_mem_cons] at h
    by_cases hm : (f, v) ∈ es
    · exact ih _ hm h.2
    · have he : e = (f, v) := ((List.mem_cons.1 hf).resolve_right hm).symm
      have hne : ∀ e ∈ es, e.1.key ≠ f.key := fun e' he' hk => hm (h.2 e' he' hk ▸ he')
      exact (State.fld_setAll_of_forall_ne es _ f hne).trans (he ▸ State.fld_setFld_same s f v)

/-- Clearing a list of fields: the form in which R18's bits of code W1C and RC are cleared. -/
theorem State.setAll_zero (s : State) (l : List FSpec) :
    l.foldl (fun (t : State) x => t.setFld x.f 0) s = s.setAll (l.map fun x => (x.f, 0)) := by
  rw [State.setAll, List.foldl_map]

/-- A field whose key the list names reads 0 after the clearing, when the fields under that key have one reset value. -/
theorem State.fld_setAll_zero (l : List FSpec) (s : State) (f : Fld) (hr : ∀ y ∈ l, y.f.key = f.key → y.f.rst = f.rst)
    (h : s.fld f = 0 ∨ ∃ y ∈ l, y.f.key = f.key) : (s.setAll (l.map fun x => (x.f, 0))).fld f = 0 := by
  induction l generalizing s with
  | nil => exact (by simpa using h : s.fld f = 0)
  | cons y l ih =>
    rw [List.forall_mem_cons] at hr
    refine ih (s.setFld y.f 0) hr.2 ?_
    by_cases hk : y.f.key = f.key
    · rw [State.fld_setFld_of_key_eq _ _ hk, hr.1 hk]
      split
      · next he => exact .inl (he.symm.trans (Nat.zero_mod _))
      · exact .inl (Nat.zero_mod _)
    · rw [State.fld_setFld_ne _ _ _ _ hk]
      simpa [hk] using h

/-- The two states differ by reports alone: in RL_ fields and in the reporting logic. -/
def ReportsOnly (s t : State) : Prop := Only [.regs, .rl] s t ∧ FldsButRl [] s t

theorem ReportsOnly.refl (s : State) : ReportsOnly s s := ⟨.refl _ s, fun _ _ _ => rfl⟩

theorem ReportsOnly.trans {s t u : State} (h : ReportsOnly s t) (h' : ReportsOnly t u) : ReportsOnly s u :=
  ⟨h.1.trans h'.1, fun f hf hn => (h'.2 f hf hn).trans (h.2 f hf hn)⟩

theorem ReportsOnly.fld {s t : State} (h : ReportsOnly s t) {g : Fld} (hg : outRl g = true) : t.fld g = s.fld g :=
  h.2 g (by simpa [outRl] using hg) (by simp)

theorem ReportsOnly.flag {s t : State} (h : ReportsOnly s t) {g : Fld} (hg : outRl g = true) : t.flag g = s.flag g := by
  rw [State.flag, State.flag, h.fld hg]

theorem ReportsOnly.fuse {s t : State} (h : ReportsOnly s t) : t.fuse = s.fuse := h.1.2 .fuse (by decide)
theorem ReportsOnly.lm {s t : State} (h : ReportsOnly s t) : t.lm = s.lm := h.1.2 .lm (by decide)

theorem State.raise_warn_reportsOnly (s : State) (src inst code a0 a1 a2 : Nat) : ReportsOnly s (s.raise .warn src inst code a0 a1 a2) :=
  ⟨(State.raise_fr s .warn src inst code a0 a1 a2 (.refl s)).only (by decide),
    fun g hg _ => State.fld_raise _ _ _ _ _ _ _ _ g (by simpa [outRl] using hg) (.inr (.inr (.inl rfl)))⟩

theorem State.rwsWrite_reportsOnly (s : State) (a lo : Nat) : ReportsOnly s (s.rwsWrite a lo) := State.raise_warn_reportsOnly ..
theorem State.reservedEncoding_reportsOnly (s : State) (a lo : Nat) : ReportsOnly s (s.reservedEncoding a lo) :=
  State.raise_warn_reportsOnly ..
theorem State.configRefused_reportsOnly (s : State) (a lo : Nat) : ReportsOnly s (s.configRefused a lo) :=
  State.raise_warn_reportsOnly ..

theorem ReportsOnly.setFld {s t : State} (h : ReportsOnly s t) (f : Fld) (v : Nat) : ReportsOnly (s.setFld f v) (t.setFld f v) := by
  have keep : ∀ u : State, Only [.regs, .rl] u (u.setFld f v) := fun u => (State.setFld_fr u f v (.refl u)).only (by decide)
  refine ⟨(keep s).symm.trans (h.1.trans (keep t)), fun g hg hn => ?_⟩
  by_cases hk : f.key = g.key
  · rw [State.fld_setFld_of_key_eq _ _ hk, State.fld_setFld_of_key_eq _ _ hk]
  · rw [State.fld_setFld_ne _ _ _ _ hk, State.fld_setFld_ne _ _ _ _ hk, h.2 g hg hn]

/-- The same writes leave states that differ by reports alone. -/
theorem ReportsOnly.setAll {s t : State} (h : ReportsOnly s t) (es : List (Fld × Nat)) : ReportsOnly (s.setAll es) (t.setAll es) := by
  induction es generalizing s t with
  | nil => exact h
  | cons e es ih => exact ih (h.setFld e.1 e.2)

end Sys2Proof.Machine
end

section
/-! ## A write is judged, and refused, by what stands outside RL_ -/
namespace Sys2Proof.Machine

theorem instOf_lt {base stride n a i : Nat} (h : instOf base stride n a = some i) : i < n := by
  unfold instOf at h
  split at h
  · next hc => cases h; exact hc.2.2
  · cases h

section
variable {s t : State}

theorem ReportsOnly.maySet (h : ReportsOnly s t) (a : Nat) (x : FSpec) : t.maySet a x = s.maySet a x := by
  have auto (p : Nat) : t.flag (F.EP_TS_CORR_AUTO p) = s.flag (F.EP_TS_CORR_AUTO p) :=
    h.flag (outRl_of_ge (Nat.le_add_right_of_le (by decide)))
  have group (f : Nat → Fld) (hf : ∀ g, 0x70000 ≤ (f g).addr) (g : Nat) : t.flag (f g) = s.flag (f g) := h.flag (outRl_of_ge (hf g))
  have mode : t.mode = s.mode := h.fld rfl
  simp only [State.maySet, State.rwsOpen, State.ignoresWrite, auto, mode,
    group F.BS_GCFG_EXPERT fun g => Nat.le_add_right_of_le (by decide), group F.BS_GCFG_TRACK fun g => Nat.le_add_right_of_le (by decide),
    group F.BS_GCFG_INC_SRC fun g => Nat.le_add_right_of_le (by decide)]

theorem ReportsOnly.reservedIn (h : ReportsOnly s t) (x : FSpec) (v : Nat) : t.reservedIn x v = s.reservedIn x v := by
  simp only [State.reservedIn, h.fuse]

theorem ReportsOnly.after (h : ReportsOnly s t) (j : Judged) {f : Fld} (hf : outRl f = true) : j.after t f = j.after s f := by
  simp only [Judged.after, h.fld hf]

theorem ReportsOnly.judge (h : ReportsOnly s t) (a v : Nat) (l : List FSpec) : t.judge a v l = s.judge a v l := by
  have phy (j : Judged) (p : Nat) : j.after t (F.EP_PHY_CFG_MODE p) = j.after s (F.EP_PHY_CFG_MODE p)
      ∧ j.after t (F.EP_PHY_CFG_FEC p) = j.after s (F.EP_PHY_CFG_FEC p) :=
    ⟨h.after j (outRl_of_ge (Nat.le_add_right_of_le (by decide))), h.after j (outRl_of_ge (Nat.le_add_right_of_le (by decide)))⟩
  have src (j : Judged) : j.after t F.CP_SRC_CFG_SRC = j.after s F.CP_SRC_CFG_SRC := h.after j rfl
  have bw (j : Judged) : j.after t F.CP_SRC_CFG_BW = j.after s F.CP_SRC_CFG_BW := h.after j rfl
  simp only [State.judge, h.maySet, h.reservedIn, src, bw, phy]

theorem ReportsOnly.ringState (h : ReportsOnly s t) {r : Nat} (hr : r < 64) : t.ringState r = s.ringState r :=
  h.fld (outRl_of_lt (by show 0x2010c + r * 16 + 4 ≤ 0x60000; omega) (by simp [F.HI_RSTAT_STATE]))

theorem ReportsOnly.anyRing (h : ReportsOnly s t) :
    ((List.range 64).any fun r => t.ringState r ≠ 0) = (List.range 64).any fun r => s.ringState r ≠ 0 := by
  rw [Bool.eq_iff_iff]
  simp only [List.any_eq_true, List.mem_range]
  exact exists_congr fun r => and_congr_right fun hr => by rw [h.ringState hr]

theorem ReportsOnly.pageRanges (h : ReportsOnly s t) : t.pageRanges = s.pageRanges := by
  have far (f : Nat → Fld) (hf : ∀ g, 0x70000 ≤ (f g).addr) (g : Nat) : t.fld (f g) = s.fld (f g) := h.fld (outRl_of_ge (hf g))
  simp only [State.pageRanges, h.fld (g := F.HP_CTX_REGION_FIRST_PAGE) rfl, h.fld (g := F.HP_CTX_REGION_PAGES) rfl,
    h.fld (g := F.HP_FT_CFG_PAGE) rfl, h.fld (g := F.HP_EXPORT_FIRST_PAGE) rfl, h.fld (g := F.HP_EXPORT_PAGES) rfl,
    far F.EP_RING_CFG_TPL_PAGE fun g => Nat.le_add_right_of_le (by decide),
    far F.EP_RING_CFG_STAT_PAGE fun g => Nat.le_add_right_of_le (by decide),
    far F.TW_PRI_SHADOW_FIRST_PAGE fun g => Nat.le_add_right_of_le (by decide),
    far F.TW_PRI_SHADOW_PAGES fun g => Nat.le_add_right_of_le (by decide)]

theorem ReportsOnly.csmFits (h : ReportsOnly s t) {c : Nat} (hc : c < 16) : t.csmFits c = s.csmFits c := by
  have near (f : Fld) (hf : f.addr ≤ 0x40104 + c * 16) (hl : f.lo < 32) : t.fld f = s.fld f := h.fld (outRl_of_lt (by omega) hl)
  have stg : R.HP_STG_CFG c ≤ 0x40104 + c * 16 := by unfold R.HP_STG_CFG; omega
  rw [State.csmFits, near (F.HP_STG_CFG_SLOTS c) stg (by simp [F.HP_STG_CFG_SLOTS]),
    near (F.HP_STG_CFG_READ_KW c) stg (by simp [F.HP_STG_CFG_READ_KW]), near (F.HP_STG_CFG_WRITE_KW c) stg (by simp [F.HP_STG_CFG_WRITE_KW]),
    near (F.HP_JOBWIN_KW_PER_CORE c) (Nat.le_refl _) (by simp [F.HP_JOBWIN_KW_PER_CORE]), State.csmFits]

theorem ReportsOnly.bsGroup (h : ReportsOnly s t) {f : Fld} (hf : 0xc0000 ≤ f.addr) : t.fld f = s.fld f :=
  h.fld (outRl_of_ge (Nat.le_trans (by decide) hf))

theorem ReportsOnly.presetApplies {s' t' : State} (h : ReportsOnly s t) (h' : ReportsOnly s' t') (g : Nat) :
    t.presetApplies t' g = s.presetApplies s' g := by
  have preset {u u' : State} (hu : ReportsOnly u u') : u'.fld (F.BS_GCFG_PRESET g) = u.fld (F.BS_GCFG_PRESET g) :=
    hu.fld (outRl_of_ge (Nat.le_add_right_of_le (by decide)))
  have expert {u u' : State} (hu : ReportsOnly u u') : u'.flag (F.BS_GCFG_EXPERT g) = u.flag (F.BS_GCFG_EXPERT g) :=
    hu.flag (outRl_of_ge (Nat.le_add_right_of_le (by decide)))
  have en {u u' : State} (hu : ReportsOnly u u') : u'.flag (F.BS_GCFG_EN g) = u.flag (F.BS_GCFG_EN g) :=
    hu.flag (outRl_of_ge (Nat.le_add_right_of_le (by decide)))
  simp only [State.presetApplies, preset h, preset h', expert h, expert h', en h, en h']

theorem ReportsOnly.groupBreaks {s' t' : State} (h : ReportsOnly s t) (h' : ReportsOnly s' t') (g : Nat) (gcfg : Bool) :
    t.groupBreaks t' g gcfg = s.groupBreaks s' g gcfg := by
  have new (f : Nat → Fld) (hf : ∀ g, 0xc0000 ≤ (f g).addr) : t'.fld (f g) = s'.fld (f g) := h'.bsGroup (hf g)
  have pair (k : Nat) : t'.pairFreq k = s'.pairFreq k := h'.bsGroup (by show 0xc0000 ≤ R.BS_CLK_CFG; decide)
  simp only [State.groupBreaks, State.flag, h.presetApplies h', pair, new F.BS_GCFG_PRESET fun g => Nat.le_add_right_of_le (by decide),
    new F.BS_GCHAIN_OUT_RATE fun g => Nat.le_add_right_of_le (by decide), new F.BS_GCHAIN_D fun g => Nat.le_add_right_of_le (by decide),
    new F.BS_GCHAIN_D_FIR fun g => Nat.le_add_right_of_le (by decide), new F.BS_GCFG_TX_EN fun g => Nat.le_add_right_of_le (by decide)]

theorem ReportsOnly.ringBase (h : ReportsOnly s t) {r : Nat} (hr : r < 64) :
    t.fld (F.HI_RBASE_LO_ADDR r) = s.fld (F.HI_RBASE_LO_ADDR r) ∧ t.fld (F.HI_RBASE_HI_ADDR r) = s.fld (F.HI_RBASE_HI_ADDR r) :=
  ⟨h.fld (outRl_of_lt (by show 0x20100 + r * 16 + 4 ≤ 0x60000; omega) (by simp [F.HI_RBASE_LO_ADDR])),
    h.fld (outRl_of_lt (by show 0x20104 + r * 16 + 4 ≤ 0x60000; omega) (by simp [F.HI_RBASE_HI_ADDR]))⟩

/-- Reports raised on the way change no verdict of R540 step 3. -/
theorem ReportsOnly.refusesWrite {s' t' : State} (h : ReportsOnly s t) (h' : ReportsOnly s' t') (a : Nat) :
    t.refusesWrite t' a = s.refusesWrite s' a := by
  simp only [State.refusesWrite, h'.fld (g := F.ST_VLIMIT_VMAX_MV) rfl, h'.fld (g := F.ST_VLIMIT_VMIN_MV) rfl,
    h'.fld (g := F.HI_POLL_SLOW_US) rfl, h'.fld (g := F.HI_POLL_FAST_US) rfl, h.anyRing, h.lm, h'.pageRanges]
  iterate 5 refine ite_congr rfl (fun _ => rfl) fun _ => ?_
  split
  · next r hr => rw [h.ringState (instOf_lt hr), (h.ringBase (instOf_lt hr)).1, (h'.ringBase (instOf_lt hr)).1]
  · next r hr _ => rw [h.ringState (instOf_lt hr), (h.ringBase (instOf_lt hr)).2, (h'.ringBase (instOf_lt hr)).2]
  · next c hc _ _ => rw [h'.csmFits (instOf_lt hc)]
  · next c hc _ _ _ => rw [h'.csmFits (instOf_lt hc)]
  · exact h.groupBreaks h' _ _
  · exact h.groupBreaks h' _ _
  · rfl

end

end Sys2Proof.Machine
end

section
/-! ## What a write of a register sets and leaves (R8, R18, R20, R540) -/
namespace Sys2Proof.Machine

/-- The fields that a write may set and whose values are no reserved encodings, with their values (R540 steps 1 and 2), before the
pairs whose ranges depend on each other are judged. -/
def State.goodSets (s : State) (a v : Nat) (l : List FSpec) : List (Fld × Nat) :=
  (l.filter fun x => s.maySet a x && !s.reservedIn x (bits v x.f.lo x.f.w)).map fun x => (x.f, bits v x.f.lo x.f.w)

theorem State.mem_goodSets {s : State} {a v : Nat} {l : List FSpec} {e : Fld × Nat} :
    e ∈ s.goodSets a v l
      ↔ ∃ x ∈ l, s.maySet a x = true ∧ s.reservedIn x (bits v x.f.lo x.f.w) = false ∧ e = (x.f, bits v x.f.lo x.f.w) := by
  simp only [State.goodSets, List.mem_map, List.mem_filter, Bool.and_eq_true, Bool.not_eq_true', and_assoc, eq_comm (a := e)]

theorem Judged.pair_false (j : Judged) (f g : Fld) : j.pair f g false = j := rfl

theorem Judged.pair_sets_subset (j : Judged) (f g : Fld) (broken : Bool) : (j.pair f g broken).sets ⊆ j.sets := by
  cases broken
  · exact List.Subset.refl _
  · exact fun _ h => (List.mem_filter.1 h).1

/-- The pairs only take fields out of a write. -/
theorem State.judge_sets_subset (s : State) (a v : Nat) (l : List FSpec) : (s.judge a v l).sets ⊆ s.goodSets a v l := by
  unfold State.judge
  dsimp only
  split
  · exact List.Subset.trans (Judged.pair_sets_subset ..) (Judged.pair_sets_subset ..)
  · exact Judged.pair_sets_subset ..

/-- Outside the two registers with such a pair (R290, R235) every good field is set. -/
theorem State.judge_sets_of_unpaired (s : State) {a : Nat} (v : Nat) (l : List FSpec) (ha : a ≠ R.CP_SRC_CFG)
    (hp : instOf (R.EP_PHY_CFG 0) 0x10000 4 a = none) : (s.judge a v l).sets = s.goodSets a v l := by
  simp [State.judge, hp, ha, Judged.pair_false, State.goodSets]

/-- A good field reads after the judgement as the write has it. -/
theorem State.after_of_mem_goodSets (s : State) {a v : Nat} {l : List FSpec} {f : Fld} {w : Nat} (bad : List Nat)
    (h : (f, w) ∈ s.goodSets a v l) : (⟨s.goodSets a v l, bad⟩ : Judged).after s f = bits v f.lo f.w := by
  unfold Judged.after
  dsimp only
  split
  · next e he =>
    obtain ⟨x, -, -, -, rfl⟩ := State.mem_goodSets.1 (List.mem_of_find?_eq_some he)
    have hf : x.f = f := of_decide_eq_true (List.find?_some (p := fun e : Fld × Nat => decide (e.1 = f)) he)
    rw [← hf]
  · next hn => exact absurd (decide_eq_true rfl) (List.find?_eq_none.1 hn _ h)

/-- EP_PHY_CFG with a MODE other than 6 sets every good field too. -/
theorem State.judge_sets_of_phy (s : State) {a p : Nat} (v : Nat) (l : List FSpec) (ha : a ≠ R.CP_SRC_CFG)
    (hp : instOf (R.EP_PHY_CFG 0) 0x10000 4 a = some p) {w : Nat} (hm : (F.EP_PHY_CFG_MODE p, w) ∈ s.goodSets a v l)
    (h6 : bits v 0 3 ≠ 6) : (s.judge a v l).sets = s.goodSets a v l := by
  have after (bad : List Nat) : (⟨s.goodSets a v l, bad⟩ : Judged).after s (F.EP_PHY_CFG_MODE p) ≠ 6 := by
    rw [State.after_of_mem_goodSets s bad hm]; exact h6
  unfold State.goodSets at after
  simp [State.judge, hp, ha, Judged.pair_false, after, State.goodSets]

/-- The W1C bits of a write that carry a one. -/
def clearsOf (v : Nat) (l : List FSpec) : List FSpec := l.filter fun x => x.acc = .w1c && bit v x.f.lo

/-- The fields as a write that was made leaves them, before its consequences. -/
def State.written (old s : State) (a v : Nat) (l : List FSpec) : State :=
  (old.setAll (s.judge a v l).sets).setAll ((clearsOf v l).map fun x => (x.f, 0))

/-- A write of a register's fields raises at most reports; then a rule ignores it, or its fields are set and its consequences follow. -/
theorem State.writeFields_cases (s : State) (a v : Nat) (l : List FSpec) :
    ∃ (old : State) (ok : Bool), ReportsOnly s old
      ∧ s.writeFields a v l = if s.refusesWrite (s.setAll (s.judge a v l).sets) a then old.configRefused a 0
          else old.afterWrite (old.written s a v l) a v ok := by
  unfold State.writeFields
  extract_lets locked s₁ j old new new' wo
  have h₁ : ReportsOnly s s₁ := by
    dsimp only [s₁]
    clear_value locked
    split
    · exact .refl _
    · exact State.rwsWrite_reportsOnly ..
  have hj : j = s.judge a v l := h₁.judge a v l
  have h : ReportsOnly s old := h₁.trans <| by
    dsimp only [old]
    split
    · exact .refl _
    · exact State.reservedEncoding_reportsOnly ..
  have hr : old.refusesWrite new a = s.refusesWrite (s.setAll (s.judge a v l).sets) a := hj ▸ h.refusesWrite (h.setAll j.sets) a
  have hw : new' = old.written s a v l := by
    rw [State.written, ← hj]
    exact State.setAll_zero new _
  exact ⟨old, _, h, by rw [hr, hw]⟩

section
variable {s old : State} {a v : Nat} {l : List FSpec}

theorem FSpec.eq_of_key {x y : FSpec} (hl : (l.map fun x => x.f.key).Nodup) (hx : x ∈ l) (hy : y ∈ l) (h : x.f.key = y.f.key) : x = y := by
  induction l with
  | nil => cases hx
  | cons z l ih =>
    obtain ⟨hz, hl⟩ := List.nodup_cons.1 hl
    have head {u : FSpec} (hu : u ∈ l) : z.f.key ≠ u.f.key := fun e => hz (List.mem_map.2 ⟨u, hu, e.symm⟩)
    rcases List.mem_cons.1 hx with rfl | hxl <;> rcases List.mem_cons.1 hy with rfl | hyl
    · rfl
    · exact absurd h (head hyl)
    · exact absurd h.symm (head hxl)
    · exact ih hl hxl hyl

/-- Every field that a write sets is one of the register's, writable and not reserved. -/
theorem State.exists_of_mem_judge {e : Fld × Nat} (he : e ∈ (s.judge a v l).sets) :
    ∃ x ∈ l, s.maySet a x = true ∧ s.reservedIn x (bits v x.f.lo x.f.w) = false ∧ e = (x.f, bits v x.f.lo x.f.w) :=
  State.mem_goodSets.1 (State.judge_sets_subset s a v l he)

theorem State.mem_goodSets_iff (hl : (l.map fun x => x.f.key).Nodup) {x : FSpec} (hx : x ∈ l) :
    (x.f, bits v x.f.lo x.f.w) ∈ s.goodSets a v l ↔ s.maySet a x = true ∧ s.reservedIn x (bits v x.f.lo x.f.w) = false := by
  rw [State.mem_goodSets]
  constructor
  · rintro ⟨y, hy, hm, hr, he⟩
    have hxy : x = y := FSpec.eq_of_key hl hx hy (congrArg Fld.key (Prod.ext_iff.1 he).1)
    exact hxy ▸ ⟨hm, hr⟩
  · exact fun ⟨hm, hr⟩ => ⟨x, hx, hm, hr, rfl⟩

theorem mem_clearsOf {x : FSpec} : x ∈ clearsOf v l ↔ x ∈ l ∧ x.acc = .w1c ∧ bit v x.f.lo = true := by
  simp [clearsOf]

theorem State.not_maySet_w1c {x : FSpec} (h : x.acc = .w1c) : s.maySet a x = false := by simp [State.maySet, h]

/-- A field that a write sets holds its bits of the value. -/
theorem State.written_set (hl : (l.map fun x => x.f.key).Nodup) {x : FSpec} (hx : x ∈ l)
    (hs : (x.f, bits v x.f.lo x.f.w) ∈ (s.judge a v l).sets) : (old.written s a v l).fld x.f = bits v x.f.lo x.f.w := by
  obtain ⟨y, hy, hm, -, he⟩ := State.exists_of_mem_judge hs
  obtain rfl : x = y := FSpec.eq_of_key hl hx hy (congrArg Fld.key (Prod.ext_iff.1 he).1)
  rw [State.written, State.fld_setAll_of_forall_ne, State.fld_setAll_of_mem _ _ _ _ hs]
  · exact Nat.mod_mod _ _
  · intro e he' hk
    obtain ⟨z, hz, -, -, rfl⟩ := State.exists_of_mem_judge he'
    rw [FSpec.eq_of_key hl hz hx hk]
  · rintro e he' hk
    obtain ⟨z, hz, rfl⟩ := List.mem_map.1 he'
    obtain ⟨hzl, hacc, -⟩ := mem_clearsOf.1 hz
    rw [FSpec.eq_of_key hl hzl hx hk] at hacc
    rw [State.not_maySet_w1c hacc] at hm
    cases hm

/-- A W1C bit that carries a one is cleared. -/
theorem State.written_clear (hl : (l.map fun x => x.f.key).Nodup) {x : FSpec} (hx : x ∈ l) (hacc : x.acc = .w1c)
    (hb : bit v x.f.lo = true) : (old.written s a v l).fld x.f = 0 :=
  State.fld_setAll_zero _ _ _ (fun _ hy hk => congrArg (·.f.rst) (FSpec.eq_of_key hl (mem_clearsOf.1 hy).1 hx hk))
    (.inr ⟨x, mem_clearsOf.2 ⟨hx, hacc, hb⟩, rfl⟩)

/-- A field that a write neither sets nor clears keeps its value. -/
theorem State.written_keep {g : Fld} (hs : ∀ e ∈ (s.judge a v l).sets, e.1.key ≠ g.key) (hc : ∀ x ∈ clearsOf v l, x.f.key ≠ g.key) :
    (old.written s a v l).fld g = old.fld g := by
  rw [State.written, State.fld_setAll_of_forall_ne, State.fld_setAll_of_forall_ne _ _ _ hs]
  rintro e he
  obtain ⟨x, hx, rfl⟩ := List.mem_map.1 he
  exact hc x hx

/-- A field of the register that a write neither sets nor clears keeps its value. -/
theorem State.written_keep_of_mem (hl : (l.map fun x => x.f.key).Nodup) {x : FSpec} (hx : x ∈ l)
    (hs : ∀ e ∈ (s.judge a v l).sets, e.1 ≠ x.f) (hc : x.acc ≠ .w1c ∨ bit v x.f.lo = false) :
    (old.written s a v l).fld x.f = old.fld x.f := by
  refine State.written_keep (fun e he hk => ?_) fun y hy hk => ?_
  · obtain ⟨y, hy, -, -, rfl⟩ := State.exists_of_mem_judge he
    exact hs _ he (congrArg FSpec.f (FSpec.eq_of_key hl hy hx hk))
  · obtain ⟨hyl, hacc, hb⟩ := mem_clearsOf.1 hy
    rw [FSpec.eq_of_key hl hyl hx hk] at hacc hb
    simp [hacc, hb] at hc

/-- A field of another register keeps its value. -/
theorem State.written_keep_of_forall_ne {g : Fld} (h : ∀ x ∈ l, x.f.key ≠ g.key) : (old.written s a v l).fld g = old.fld g := by
  refine State.written_keep (fun e he => ?_) fun x hx => h x (mem_clearsOf.1 hx).1
  obtain ⟨x, hx, -, -, rfl⟩ := State.exists_of_mem_judge he
  exact h x hx

theorem State.written_only : Only [.regs, .rl] old (old.written s a v l) :=
  (State.setAll_fr _ _ (State.setAll_fr old _ (.refl old))).only (by decide)

/-- A register that is judged field by field. -/
theorem State.writeReg_eq_writeFields (hm : s.mode ≠ 9) (ha : a < 0x4001000) (hr : s.regAnswers a = true)
    (hd : s.writeData a v = none) (hl : fieldsAt a = some l) : s.writeReg a v = s.writeFields a v l := by
  have hx : ¬(0x4001000 ≤ a ∧ a < 0x4001400 ∧ a % 4 = 0) := by omega
  simp [State.writeReg, hm, hx, hr, hd, hl]

end

/-- Settles O11: a write raises reports alone before it is judged, so its verdict is that of the state it found; what it sets and
clears are fields of the register, which no other field's key shares. -/
theorem registerWriteRules : Obligations.RegisterWriteRules := by
  unfold Obligations.RegisterWriteRules
  intro s a v l j val hm ha hr hd hl hn
  have hexec : exec (.registerWrite a v) s = .next (s.writeFields a.toNat v.toNat l) :=
    congrArg Host.Outcome.next (State.writeReg_eq_writeFields hm ha hr hd hl)
  obtain ⟨old, ok, ⟨honly, hfld⟩, hw⟩ := State.writeFields_cases s a.toNat v.toNat l
  refine ⟨fun hcp hphy x hx => ?_, fun href => ?_, fun href => ?_⟩
  · show _ ∈ (s.judge a.toNat v.toNat l).sets ↔ _
    rw [State.judge_sets_of_unpaired s _ l hcp hphy]
    exact State.mem_goodSets_iff hn hx
  · have h := (show ReportsOnly s old from ⟨honly, hfld⟩).trans (State.configRefused_reportsOnly old a.toNat 0)
    exact ⟨_, hexec.trans (congrArg Host.Outcome.next (hw.trans (if_pos href))), h⟩
  · refine ⟨old, old.written s a.toNat v.toNat l, ok, ?_, honly, hfld, honly.trans State.written_only,
      fun x hx hs => State.written_set hn hx hs, fun x hx hacc _ hb => State.written_clear hn hx hacc hb,
      fun x hx ho hs hc => ?_, fun g ho hg => ?_⟩
    · exact hexec.trans (congrArg Host.Outcome.next (hw.trans (if_neg (Bool.eq_false_iff.1 href))))
    · exact (State.written_keep_of_mem hn hx hs hc).trans (hfld x.f ho (by simp))
    · exact (State.written_keep_of_forall_ne hg).trans (hfld g ho (by simp))

end Sys2Proof.Machine
end

section
/-! ## The cores at reset (R15, R105) -/
namespace Sys2Proof.Machine

theorem State.reset_coreState (k : Nat) : State.reset.fld (F.CO_STATUS_STATE k) = if k % 9 = 8 then 0 else 1 := rfl
theorem State.reset_coreMapped (k : Nat) : State.reset.fld (F.CO_STATUS_MAPPED k) = if k % 9 = 8 then 0 else 1 := rfl
theorem State.reset_coreLogical (k : Nat) :
    State.reset.fld (F.CO_STATUS_LOGICAL k) = if k % 9 = 8 then 0 else 8 * (k / 9) + k % 9 := rfl

/-- Of a cluster's nine cores the last is the spare. -/
theorem State.reset_spare (c : Nat) :
    State.reset.fld (F.CO_STATUS_STATE (9 * c + 8)) = 0 ∧ State.reset.fld (F.CO_STATUS_MAPPED (9 * c + 8)) = 0 := by
  have hi : (9 * c + 8) % 9 = 8 := by omega
  rw [State.reset_coreState, State.reset_coreMapped, if_pos hi]
  exact ⟨rfl, rfl⟩

/-- The other eight are in service under the logical numbers of the cluster. -/
theorem State.reset_active (c : Nat) {j : Nat} (hj : j < 8) :
    State.reset.fld (F.CO_STATUS_STATE (9 * c + j)) = 1 ∧ State.reset.fld (F.CO_STATUS_MAPPED (9 * c + j)) = 1
      ∧ State.reset.fld (F.CO_STATUS_LOGICAL (9 * c + j)) = 8 * c + j := by
  have hi : (9 * c + j) % 9 = j := by omega
  have hc : (9 * c + j) / 9 = c := by omega
  have hn : j ≠ 8 := by omega
  rw [State.reset_coreState, State.reset_coreMapped, State.reset_coreLogical, hi, hc, if_neg hn, if_neg hn]
  exact ⟨rfl, rfl, rfl⟩

/-- A mapped core is found from its logical number. -/
theorem State.reset_core_of_logical {k n : Nat} (hm : State.reset.fld (F.CO_STATUS_MAPPED k) = 1)
    (hl : State.reset.fld (F.CO_STATUS_LOGICAL k) = n) : k = 9 * (n / 8) + n % 8 := by
  rw [State.reset_coreMapped] at hm
  rw [State.reset_coreLogical] at hl
  have hk : k % 9 ≠ 8 := fun h => by simp [h] at hm
  rw [if_neg hk] at hl
  omega

/-- Settles O8: the reset values of CO_STATUS, read off the core's place in its cluster. -/
theorem resetCoreMap : Obligations.ResetCoreMap := by
  unfold Obligations.ResetCoreMap
  refine ⟨fun k => ⟨⟨k.val / 9, by omega⟩, ⟨k.val % 9, by omega⟩, (Nat.div_add_mod k.val 9).symm⟩, fun c => State.reset_spare c.val,
    fun c j => State.reset_active c.val j.isLt, fun n => ⟨⟨9 * (n.val / 8) + n.val % 8, by omega⟩, ?_, fun k' hm hl => ?_⟩⟩
  · obtain ⟨-, hm, hl⟩ := State.reset_active (n.val / 8) (Nat.mod_lt n.val (by decide : 0 < 8))
    exact ⟨hm, hl.trans (Nat.div_add_mod n.val 8)⟩
  · exact Fin.ext (State.reset_core_of_logical hm hl)

end Sys2Proof.Machine
end

section
/-! ## Reads of registers, what they clear, latch and advance (R2, R18, R23, R511) -/
namespace Sys2Proof.Machine

/-- The fields of code RC of the listed registers have the reset value 0, whichever the register's numbers are. -/
def rcResetsToZero (rs : List RSpec) : Prop :=
  ∀ i j, (rs.all fun r => (r.fields i j).all fun x => !decide (x.acc = .rc) || decide (x.f.rst = 0)) = true

theorem rcResetsToZero_ite {c : Prop} [Decidable c] {rs rs' : List RSpec} (h : rcResetsToZero rs) (h' : rcResetsToZero rs') :
    rcResetsToZero (if c then rs else rs') := by
  split <;> assumption

theorem rcResetsToZero_specsAt (a : Nat) : rcResetsToZero (specsAt a) := by
  unfold specsAt
  iterate 19 refine rcResetsToZero_ite (fun _ _ => rfl) ?_
  exact fun _ _ => rfl

theorem exists_of_fieldsIn {a : Nat} {rs : List RSpec} {l : List FSpec} (h : fieldsIn a rs = some l) : ∃ r ∈ rs, ∃ i j, l = r.fields i j := by
  induction rs with
  | nil => cases h
  | cons r rs ih =>
    rw [fieldsIn] at h
    split at h
    · next i j _ => exact ⟨r, List.mem_cons_self .., i, j, (Option.some.inj h).symm⟩
    · obtain ⟨r', hr', hl⟩ := ih h
      exact ⟨r', List.mem_cons_of_mem _ hr', hl⟩

theorem rst_of_rc {a : Nat} {l : List FSpec} (hl : fieldsAt a = some l) {x : FSpec} (hx : x ∈ l) (hrc : x.acc = .rc) : x.f.rst = 0 := by
  obtain ⟨r, hr, i, j, rfl⟩ := exists_of_fieldsIn hl
  simpa [hrc] using List.all_eq_true.1 (List.all_eq_true.1 (rcResetsToZero_specsAt a i j) r hr) x hx

/-- The fields of code RC of a register. -/
def rcOf (l : List FSpec) : List FSpec := l.filter fun x => x.acc = .rc

theorem mem_rcOf {l : List FSpec} {x : FSpec} : x ∈ rcOf l ↔ x ∈ l ∧ x.acc = .rc := by simp [rcOf]

/-- A state as a read finds it: the value is returned, nothing else has happened yet. -/
def State.answered (s : State) (a : Nat) : State := { s with lastRead := s.regValue a }

theorem State.readReg_eq_readEffects {s : State} {a : Nat} {l : List FSpec} (hr : s.regAnswers a = true) (hl : fieldsAt a = some l) :
    s.readReg a = (s.answered a).readEffects a l := by
  simp [State.readReg, State.answered, hr, hl]

theorem State.readReg_only (s : State) (a : Nat) : Only [.regs, .hi, .lastRead] s (s.readReg a) :=
  (State.readReg_fr s a (.refl s)).only (by decide)

/-- A read returns the value that the register shows (R2, R18, R23). -/
theorem State.readReg_lastRead (s : State) (a : Nat) : (s.readReg a).lastRead = s.regValue a := by
  unfold State.readReg
  dsimp only
  split
  · split
    · exact (State.readEffects_fr _ _ _ (.refl _)).lastRead rfl
    · rfl
  · rfl

theorem State.regAnswers_of_far {a : Nat} (s : State) (hs : smallOff a = false) (hn : a < 0x2000000) : s.regAnswers a = true := by
  simp [State.regAnswers, hs, Nat.not_le.2 hn]

theorem State.regValue_eq_showWord {s : State} {a : Nat} {l : List FSpec} (hm : a < 0x4001000) (hr : s.regAnswers a = true)
    (hl : fieldsAt a = some l) (hh : lowWord.find? (·.1 = a) = none) : s.regValue a = s.showWord l := by
  simp [State.regValue, Nat.not_le.2 hm, hr, hl, hh]

/-- The high word of a counter reads what its low word latched (R23). -/
theorem State.regValue_eq_latch {s : State} {p : Nat × Nat} {l : List FSpec} (hm : p.1 < 0x4001000) (hr : s.regAnswers p.1 = true)
    (hl : fieldsAt p.1 = some l) (hp : lowWord.find? (·.1 = p.1) = some p) : s.regValue p.1 = mget 0 s.hi.latch p.2 := by
  simp [State.regValue, Nat.not_le.2 hm, hr, hl, hp]

/-- A read of a register without an effect of its own clears the fields of code RC alone. -/
theorem State.readEffects_plain (s : State) {a : Nat} (l : List FSpec) (hlow : lowWord.find? (·.2 = a) = none)
    (ha : a ∉ [R.CP_NSEC, R.BS_COEF_DATA, R.TW_LINK_DATA]) (hcap : instOf (R.CP_CAP_SEC 0) 16 6 a = none)
    (hpatch : instOf (R.CL_PATCH_DATA 0) 0x10000 16 a = none) : s.readEffects a l = s.setAll ((rcOf l).map fun x => (x.f, 0)) := by
  simp only [List.mem_cons, List.not_mem_nil, or_false, not_or] at ha
  simp only [State.readEffects, State.setAll_zero, hlow, ha, hcap, hpatch, if_false, rcOf]

/-- A field shows the same whatever the read before returned. -/
def readStable (f : Fld) : Prop := ∀ (s : State) (v : Nat), ({ s with lastRead := v } : State).view f = s.view f

theorem readStable_of_stored {f : Fld} (h : ∀ s : State, s.view f = s.fld f) : readStable f := fun s v =>
  (h { s with lastRead := v }).trans (h s).symm

theorem State.view_compassHigh (s : State) : s.view F.CP_NS_HI_NS = s.nowNs / 2 ^ 32 := by
  simp [State.view, State.viewCompass, F.CP_NS_HI_NS, R.CP_NS_HI, F.CP_STATUS_SLEWING, R.CP_STATUS, F.CP_FREQ_ACT_FREQ, R.CP_FREQ_ACT,
    F.CP_ADJ_ADJ_NS, R.CP_ADJ, F.CP_NS_LO_NS, R.CP_NS_LO]

theorem readStable_compassHigh : readStable F.CP_NS_HI_NS := fun s v =>
  (State.view_compassHigh { s with lastRead := v }).trans (State.view_compassHigh s).symm

/-- The halves of each 64-bit counter: the low word has no field that a read clears, the high word is one field. -/
theorem lowWord_fields : ∀ p ∈ lowWord, ∃ l f, fieldsAt p.2 = some l ∧ fieldsAt p.1 = some [⟨f, .ro, []⟩] ∧ rcOf l = [] ∧ readStable f := by
  unfold lowWord
  simp only [List.forall_mem_cons]
  exact ⟨⟨_, _, rfl, rfl, rfl, readStable_of_stored fun _ => rfl⟩, ⟨_, _, rfl, rfl, rfl, readStable_of_stored fun _ => rfl⟩,
    ⟨_, _, rfl, rfl, rfl, readStable_of_stored fun _ => rfl⟩, ⟨_, _, rfl, rfl, rfl, readStable_of_stored fun _ => rfl⟩,
    ⟨_, _, rfl, rfl, rfl, readStable_compassHigh⟩, ⟨_, _, rfl, rfl, rfl, readStable_of_stored fun _ => rfl⟩, by simp⟩

theorem lowWord_addresses : ∀ p ∈ lowWord, p.1 < 0x2000000 ∧ p.2 < 0x2000000 ∧ smallOff p.1 = false ∧ smallOff p.2 = false
    ∧ lowWord.find? (·.1 = p.1) = some p ∧ lowWord.find? (·.2 = p.2) = some p ∧ lowWord.find? (·.1 = p.2) = none := by decide

/-- A read of a low word clears nothing and latches what the high word shows (R23). -/
theorem State.readEffects_low (s : State) {p : Nat × Nat} {l h : List FSpec} (hlow : lowWord.find? (·.2 = p.2) = some p)
    (hl : rcOf l = []) (hh : fieldsAt p.1 = some h) :
    s.readEffects p.2 l = { s with hi := { s.hi with latch := mset 0 s.hi.latch p.2 (s.showWord h) } } := by
  unfold rcOf at hl
  simp only [State.readEffects, hl, List.foldl_nil, hlow, hh]

/-- A counter's low word read, and its high word after it (R23). -/
theorem State.readReg_low (s : State) {p : Nat × Nat} (hp : p ∈ lowWord) : ∃ l h, fieldsAt p.2 = some l ∧ fieldsAt p.1 = some h
    ∧ (s.readReg p.2).lastRead = s.showWord l ∧ (s.readReg p.2).regValue p.1 = s.showWord h ∧ (s.readReg p.2).regs = s.regs := by
  obtain ⟨l, f, hl, hh, hrc, hf⟩ := lowWord_fields p hp
  obtain ⟨h1, h2, hs1, hs2, hhigh, hlow, hnot⟩ := lowWord_addresses p hp
  have hread : s.readReg p.2 = _ :=
    (State.readReg_eq_readEffects (s.regAnswers_of_far hs2 h2) hl).trans (State.readEffects_low _ hlow hrc hh)
  have hshow : (s.answered p.2).showWord [⟨f, .ro, []⟩] = s.showWord [⟨f, .ro, []⟩] :=
    congrArg (setBits 0 f.lo f.w) (hf s (s.regValue p.2))
  refine ⟨l, _, hl, hh, ?_, ?_, ?_⟩
  · rw [State.readReg_lastRead, State.regValue_eq_showWord (by omega) (s.regAnswers_of_far hs2 h2) hl hnot]
  · rw [State.regValue_eq_latch (by omega) (State.regAnswers_of_far _ hs1 h1) hh hhigh, hread, ← hshow]
    exact mget_mset_same ..
  · rw [hread]; rfl

/-- A read without an effect of its own clears the fields of code RC and changes nothing else (R18). -/
theorem State.readReg_plain (s : State) {a : Nat} {l : List FSpec} (hr : s.regAnswers a = true) (hl : fieldsAt a = some l)
    (hlow : lowWord.find? (·.2 = a) = none) (ha : a ∉ [R.CP_NSEC, R.BS_COEF_DATA, R.TW_LINK_DATA])
    (hcap : instOf (R.CP_CAP_SEC 0) 16 6 a = none) (hpatch : instOf (R.CL_PATCH_DATA 0) 0x10000 16 a = none) :
    (s.readReg a).hi = s.hi ∧ (∀ x ∈ l, x.acc = .rc → (s.readReg a).fld x.f = 0) ∧ FldsBut ((rcOf l).map (·.f)) s (s.readReg a) := by
  rw [State.readReg_eq_readEffects hr hl, State.readEffects_plain _ l hlow ha hcap hpatch]
  refine ⟨(State.setAll_fr (s.answered a) _ (.refl _)).hi rfl, fun x hx hrc => ?_, fun g hg => ?_⟩
  · have hx' : x ∈ rcOf l := mem_rcOf.2 ⟨hx, hrc⟩
    refine State.fld_setAll_zero _ _ _ (fun y hy _ => ?_) (.inr ⟨x, hx', rfl⟩)
    obtain ⟨hyl, hyrc⟩ := mem_rcOf.1 hy
    rw [rst_of_rc hl hyl hyrc, rst_of_rc hl hx hrc]
  · refine State.fld_setAll_of_forall_ne _ (s.answered a) g fun e he => ?_
    obtain ⟨x, hx, rfl⟩ := List.mem_map.1 he
    exact hg x.f (List.mem_map_of_mem hx)

theorem State.view_coefData (s : State) : s.view F.BS_COEF_DATA_COEF
    = mget 0 s.bs.coef (128 * s.fld F.BS_COEF_SEL_GROUP + 64 * s.fld F.BS_COEF_SEL_BANK + s.fld F.BS_COEF_SEL_TAP) := rfl

theorem setBits_zero (w x : Nat) : setBits 0 0 w x = x % 2 ^ w := by simp [setBits, bits]

/-- A read of BS_COEF_DATA returns the selected coefficient and advances the selector (R511). -/
theorem State.readReg_coefData (s : State) :
    (s.readReg R.BS_COEF_DATA).lastRead = s.view F.BS_COEF_DATA_COEF % 2 ^ 24
      ∧ (s.readReg R.BS_COEF_DATA).fld F.BS_COEF_SEL_TAP = (s.fld F.BS_COEF_SEL_TAP + 1) % 64
      ∧ FldsBut [F.BS_COEF_SEL_TAP] s (s.readReg R.BS_COEF_DATA) := by
  have hl : fieldsAt R.BS_COEF_DATA = some [⟨F.BS_COEF_DATA_COEF, .rw, []⟩] := rfl
  have hr : s.regAnswers R.BS_COEF_DATA = true := s.regAnswers_of_far (by decide) (by decide)
  have hread : s.readReg R.BS_COEF_DATA = (s.answered R.BS_COEF_DATA).setFld F.BS_COEF_SEL_TAP (s.fld F.BS_COEF_SEL_TAP + 1) :=
    (State.readReg_eq_readEffects hr hl).trans rfl
  refine ⟨?_, ?_, fun g hg => ?_⟩
  · rw [State.readReg_lastRead, State.regValue_eq_showWord (by decide) hr hl (by decide)]
    exact setBits_zero 24 _
  · rw [hread, State.fld_setFld_same]; rfl
  · rw [hread, State.fld_setFld_ne _ _ _ _ (hg _ (List.mem_singleton_self _))]; rfl

end Sys2Proof.Machine
end

section
/-! ## A write of EP_PHY_CFG (R235, R268) -/
namespace Sys2Proof.Machine

/-- The fields of EP_PHY_CFG of port p. -/
def phyFields (p : Nat) : List FSpec :=
  [⟨F.EP_PHY_CFG_MODE p, .rw, [(0, 6)]⟩, ⟨F.EP_PHY_CFG_FEC p, .rw, [(0, 2)]⟩, ⟨F.EP_PHY_CFG_AN_RESTART p, .wo, []⟩,
    ⟨F.EP_PHY_CFG_TX_SQUELCH p, .rw, []⟩, ⟨F.EP_PHY_CFG_RX_POL p, .rws, []⟩, ⟨F.EP_PHY_CFG_TX_POL p, .rws, []⟩]

theorem fieldsAt_phy : ∀ p : Fin 4, fieldsAt (R.EP_PHY_CFG p) = some (phyFields p) := by decide +kernel

theorem instOf_phy : ∀ p : Fin 4, instOf (R.EP_PHY_CFG 0) 0x10000 4 (R.EP_PHY_CFG p) = some p.val := by decide

theorem State.writeData_eq_none (s : State) {a : Nat} (v : Nat)
    (ha : a ∉ [R.HI_NUDGE, R.HP_WIN_DATA, R.HP_CACHE_WAYS, R.CP_ADJ, R.TD_SLOT_DATA, R.BS_COEF_DATA, R.TW_LINK_DATA, R.TW_KEY_DATA,
      R.MG_WAKE_DATA, R.LN_MBX_CMD]) (hr : instOf (R.HI_RCFG 0) 16 64 a = none) (hb : instOf (R.BS_CH 0) 4 256 a = none) :
    s.writeData a v = none := by
  simp only [List.mem_cons, List.not_mem_nil, or_false, not_or] at ha
  simp only [State.writeData, ha, hr, hb, if_false]

theorem State.ignoresWrite_eq_false (s : State) {a : Nat} (lo : Nat) (hq : instOf (R.TH_QCFG 0) 8 128 a = none)
    (hp : instOf (R.EP_TS_CORR 0) 0x10000 4 a = none) (hg : instOf (R.BS_GCHAIN 0) 4 0x80 a = none) : s.ignoresWrite a lo = false := by
  simp only [State.ignoresWrite, hq, hp, hg]

theorem State.refusesWrite_eq_false (s t : State) {a : Nat}
    (ha : a ∉ [R.ST_VLIMIT, R.HI_POLL, R.HI_DB_LO, R.HI_DB_HI, R.HI_HEAD_LO, R.HI_HEAD_HI, R.LM_CFG, R.LM_SCAN_ADDR, R.LM_REC_ADDR])
    (hp : pageRegister a = false) (hl : instOf (R.HI_RBASE_LO 0) 16 64 a = none) (hh : instOf (R.HI_RBASE_HI 0) 16 64 a = none)
    (hs : instOf (R.HP_STG_CFG 0) 16 16 a = none) (hj : instOf (R.HP_JOBWIN 0) 16 16 a = none)
    (hg : instOf (R.BS_GCFG 0) 0x20 16 a = none) (hc : instOf (R.BS_GCHAIN 0) 0x20 16 a = none) : s.refusesWrite t a = false := by
  simp only [List.mem_cons, List.not_mem_nil, or_false, not_or] at ha
  simp [State.refusesWrite, ha, hp, hl, hh, hs, hj, hg, hc]

/-- EP_PHY_CFG of a port is judged field by field, and no rule ignores a whole write of it. -/
theorem State.phy_plain (s : State) (p : Fin 4) (v : Nat) : s.writeData (R.EP_PHY_CFG p) v = none
    ∧ (∀ lo, s.ignoresWrite (R.EP_PHY_CFG p) lo = false) ∧ ∀ t, s.refusesWrite t (R.EP_PHY_CFG p) = false := by
  refine ⟨s.writeData_eq_none v ?_ ?_ ?_, fun lo => s.ignoresWrite_eq_false lo ?_ ?_ ?_,
    fun t => s.refusesWrite_eq_false t ?_ ?_ ?_ ?_ ?_ ?_ ?_ ?_⟩ <;> revert p <;> decide

theorem phy_address (p : Fin 4) : 0x100000 ≤ R.EP_PHY_CFG p ∧ R.EP_PHY_CFG p < 0x140000 ∧ smallOff (R.EP_PHY_CFG p) = false
    ∧ R.EP_PHY_CFG p ≠ R.CP_SRC_CFG := by
  revert p; decide

theorem phyFields_nodup : ∀ p : Fin 4, ((phyFields p).map fun x => x.f.key).Nodup := by decide

theorem State.linkDown_of_down {s : State} {p : Nat} (h : s.flag (F.EP_STATUS_LINK p) = false) : s.linkDown p = s := by
  simp [State.linkDown, h]

theorem State.afterWrite_port (o s : State) {a : Nat} (v : Nat) (ok : Bool) (h : 0x100000 ≤ a) (h' : a < 0x200000) :
    o.afterWrite s a v ok = o.afterPort s a v := by
  have far (n : Nat) (hn : n ≤ 0x100000) : ¬a < n := by omega
  simp [State.afterWrite, far, h']

/-- A write of EP_PHY_CFG that changed MODE while the link is down starts negotiation anew (R235). -/
theorem State.afterPort_phy {o s : State} {p v : Nat} (hm : s.fld (F.EP_PHY_CFG_MODE p) ≠ o.fld (F.EP_PHY_CFG_MODE p))
    (hlink : s.flag (F.EP_STATUS_LINK p) = false) (h5 : bit v 5 = false) : o.afterPort s (R.EP_PHY_CFG p) v = s.restartAn p := by
  have hp : (R.EP_PHY_CFG p - 0x100000) / 0x10000 = p := by unfold R.EP_PHY_CFG; omega
  have hc : R.EP_PHY_CFG p ≠ R.EP_CTRL p := by unfold R.EP_PHY_CFG R.EP_CTRL; omega
  simp [State.afterPort, hp, hc, hm, h5, State.linkDown_of_down hlink]

/-- A new start of negotiation clears what the last one found. -/
theorem State.restartAn_cleared (s : State) (p : Nat) :
    (s.restartAn p).fld (F.EP_STATUS_AN_DONE p) = 0 ∧ (s.restartAn p).fld (F.EP_AN_STAT_RESOLVED p) = 0 := by
  have hk : (F.EP_AN_STAT_RESOLVED p).key ≠ (F.EP_STATUS_AN_DONE p).key := by
    show (0x100014 + p * 0x10000) * 8 + 12 ≠ (0x100004 + p * 0x10000) * 8 + 4
    omega
  refine ⟨?_, State.fld_setFld_same ..⟩
  exact (State.fld_setFld_ne _ _ _ _ hk).trans (State.fld_setFlag_same _ _ _ (by decide : 0 < 1))

theorem State.restartAn_keep (s : State) (p : Nat) (g : Fld) (hd : (F.EP_STATUS_AN_DONE p).key ≠ g.key)
    (hr : (F.EP_AN_STAT_RESOLVED p).key ≠ g.key) : (s.restartAn p).fld g = s.fld g :=
  (State.fld_setFld_ne _ _ _ _ hr).trans (State.fld_setFld_ne _ _ _ _ hd)

/-- No field of EP_PHY_CFG shares its key with the status that a link keeps. -/
theorem phy_keys_apart (p : Fin 4) : ∀ x ∈ phyFields p, x.f.key ≠ (F.EP_STATUS_LINK p).key ∧ (F.EP_STATUS_AN_DONE p).key ≠ x.f.key
    ∧ (F.EP_AN_STAT_RESOLVED p).key ≠ x.f.key := by
  revert p; decide

theorem phyFields_not_ofs64 : ∀ p : Fin 4, ∀ x ∈ phyFields p, ofs64 x.f = false := by decide

/-- A value in an allowed range is no reserved encoding of a field that is no offset, when it is too small to be a page number out of
range. -/
theorem State.not_reservedIn (s : State) (x : FSpec) {v : Nat} {r : Nat × Nat} (hr : r ∈ x.allowed) (hlo : r.1 ≤ v) (hhi : v ≤ r.2) (hv : v < 4096)
    (ho : ofs64 x.f = false) : s.reservedIn x v = false := by
  have ha : (x.allowed.any fun r => r.1 ≤ v && v ≤ r.2) = true := List.any_eq_true.2 ⟨r, hr, by simp [hlo, hhi]⟩
  simp [State.reservedIn, ha, ho, Nat.not_le.2 hv]

/-- MODE and FEC with values that are not reserved are set. -/
theorem State.phy_judged (s : State) (p : Fin 4) (v : Nat) (hmode : bits v 0 3 ≤ 5) (hfec : bits v 3 2 ≤ 2) :
    let sets := (s.judge (R.EP_PHY_CFG p) v (phyFields p)).sets
    (F.EP_PHY_CFG_MODE p, bits v 0 3) ∈ sets ∧ (F.EP_PHY_CFG_FEC p, bits v 3 2) ∈ sets := by
  obtain ⟨-, hign, -⟩ := s.phy_plain p v
  have hofs := phyFields_not_ofs64 p
  have hset (x : FSpec) (hx : x.acc = .rw) : s.maySet (R.EP_PHY_CFG p) x = true := by simp [State.maySet, hx, hign]
  have hmr : s.reservedIn ⟨F.EP_PHY_CFG_MODE p, .rw, [(0, 6)]⟩ (bits v 0 3) = false :=
    s.not_reservedIn _ (.head _) (Nat.zero_le _) (Nat.le_succ_of_le hmode) (by omega) (hofs _ (.head _))
  have hfr : s.reservedIn ⟨F.EP_PHY_CFG_FEC p, .rw, [(0, 2)]⟩ (bits v 3 2) = false :=
    s.not_reservedIn _ (.head _) (Nat.zero_le _) hfec (by omega) (hofs _ (.tail _ (.head _)))
  have hm : (F.EP_PHY_CFG_MODE p, bits v 0 3) ∈ s.goodSets (R.EP_PHY_CFG p) v (phyFields p) :=
    State.mem_goodSets.2 ⟨_, .head _, hset _ rfl, hmr, rfl⟩
  have hf : (F.EP_PHY_CFG_FEC p, bits v 3 2) ∈ s.goodSets (R.EP_PHY_CFG p) v (phyFields p) :=
    State.mem_goodSets.2 ⟨_, .tail _ (.head _), hset _ rfl, hfr, rfl⟩
  dsimp only
  rw [State.judge_sets_of_phy s v _ (phy_address p).2.2.2 (instOf_phy p) hm (by omega)]
  exact ⟨hm, hf⟩

/-- A change of MODE while the link is down: the fields are set and negotiation starts anew. -/
theorem State.writeReg_phy (s : State) (p : Fin 4) (v : Nat) (h0 : s.mode = 0) (hmode : bits v 0 3 ≤ 5)
    (hnew : bits v 0 3 ≠ s.fld (F.EP_PHY_CFG_MODE p)) (hfec : bits v 3 2 ≤ 2) (h5 : bit v 5 = false)
    (hlink : s.flag (F.EP_STATUS_LINK p) = false) :
    ∃ w, s.writeReg (R.EP_PHY_CFG p) v = State.restartAn w p ∧ w.fld (F.EP_PHY_CFG_MODE p) = bits v 0 3
      ∧ w.fld (F.EP_PHY_CFG_FEC p) = bits v 3 2 := by
  obtain ⟨hd, -, href⟩ := s.phy_plain p v
  obtain ⟨hlo, hhi, hsmall, -⟩ := phy_address p
  obtain ⟨hm, hf⟩ := s.phy_judged p v hmode hfec
  obtain ⟨old, ok, hrep, hw⟩ := s.writeFields_cases (R.EP_PHY_CFG p) v (phyFields p)
  have hwm : (old.written s (R.EP_PHY_CFG p) v (phyFields p)).fld (F.EP_PHY_CFG_MODE p) = bits v 0 3 :=
    State.written_set (x := ⟨F.EP_PHY_CFG_MODE p, .rw, [(0, 6)]⟩) (phyFields_nodup p) (.head _) hm
  have hwf : (old.written s (R.EP_PHY_CFG p) v (phyFields p)).fld (F.EP_PHY_CFG_FEC p) = bits v 3 2 :=
    State.written_set (x := ⟨F.EP_PHY_CFG_FEC p, .rw, [(0, 2)]⟩) (phyFields_nodup p) (.tail _ (.head _)) hf
  have hold : old.fld (F.EP_PHY_CFG_MODE p) = s.fld (F.EP_PHY_CFG_MODE p) :=
    hrep.fld (outRl_of_ge (Nat.le_add_right_of_le (by decide)))
  have hdown : (old.written s (R.EP_PHY_CFG p) v (phyFields p)).flag (F.EP_STATUS_LINK p) = false := by
    rw [State.flag, State.written_keep_of_forall_ne fun x hx => (phy_keys_apart p x hx).1, ← State.flag,
      hrep.flag (outRl_of_ge (Nat.le_add_right_of_le (by decide))), hlink]
  refine ⟨old.written s (R.EP_PHY_CFG p) v (phyFields p), ?_, hwm, hwf⟩
  rw [State.writeReg_eq_writeFields (by omega) (by omega) (s.regAnswers_of_far hsmall (by omega)) hd (fieldsAt_phy p), hw, href,
    if_neg (by decide), State.afterWrite_port _ _ _ _ hlo (by omega)]
  exact State.afterPort_phy (by rw [hwm, hold]; exact hnew) hdown h5

end Sys2Proof.Machine
end

section
/-! ## The restarts and the clear (R465, R468, R495) -/
namespace Sys2Proof.Machine

/-- Clearing RL_FIRST touches VALID and LATER alone (R465). -/
theorem State.firstClear_fields (s : State) : s.firstClear.fld F.RL_FIRST_CTRL_VALID = 0 ∧ s.firstClear.fld F.RL_FIRST_CTRL_LATER = 0
    ∧ FldsBut [F.RL_FIRST_CTRL_VALID, F.RL_FIRST_CTRL_LATER] s s.firstClear := by
  refine ⟨?_, State.fld_setFld_same .., fun g hg => ?_⟩
  · exact (State.fld_setFld_ne _ _ _ _ (by decide)).trans (State.fld_setFlag_same _ _ _ (by decide))
  · rw [List.forall_mem_cons, List.forall_mem_singleton] at hg
    exact (State.fld_setFld_ne _ _ _ _ hg.2).trans (State.fld_setFlag_ne _ _ _ _ hg.1)

/-- Settles O12: each read is its register's own effect on the state as it answers, and EP_PHY_CFG is written as any register is. -/
theorem registerReadsAndRestarts : Obligations.RegisterReadsAndRestarts := by
  unfold Obligations.RegisterReadsAndRestarts
  refine ⟨fun s => ⟨fun p v => ?_, fun p v h0 hmode hnew hfec h5 hlink => ?_, rfl, rfl, ?_⟩, fun s a => ⟨?_, ?_, ?_, ?_⟩⟩
  · have ha : (BitVec.ofNat 32 (R.EP_PHY_CFG p)).toNat = R.EP_PHY_CFG p :=
      Nat.mod_eq_of_lt (Nat.lt_trans (phy_address p).2.1 (by decide))
    show Host.Outcome.next (s.writeReg (R.EP_PHY_CFG p) v.toNat) = .next (s.writeReg (BitVec.ofNat 32 (R.EP_PHY_CFG p)).toNat v.toNat)
    rw [ha]
  · obtain ⟨w, hw, hwm, hwf⟩ := s.writeReg_phy p v.toNat h0 hmode hnew hfec h5 hlink
    have apart {x : FSpec} (hx : x ∈ phyFields p) := State.restartAn_keep w p x.f (phy_keys_apart p x hx).2.1 (phy_keys_apart p x hx).2.2
    exact ⟨_, congrArg Host.Outcome.next hw, (apart (.head _)).trans hwm, (apart (.tail _ (.head _))).trans hwf, w.restartAn_cleared p⟩
  · obtain ⟨hvalid, hlater, hrest⟩ := s.firstClear_fields
    exact ⟨_, rfl, hvalid, hlater, hrest, (State.firstClear_fr s (.refl s)).rl rfl⟩
  · exact ⟨_, rfl, s.readReg_lastRead _, s.readReg_only _⟩
  · exact fun l hr hl hlow ha hcap hpatch => ⟨_, rfl, s.readReg_plain hr hl hlow ha hcap hpatch⟩
  · intro ha
    exact ⟨s.readReg R.BS_COEF_DATA, congrArg (fun n => Host.Outcome.next (s.readReg n)) ha, s.readReg_coefData⟩
  · intro p hp ha
    obtain ⟨l, h, hl, hh, hread, hhigh, hregs⟩ := s.readReg_low hp
    have hany : lowWord.any (·.2 = a.toNat) = true := List.any_eq_true.2 ⟨p, hp, by simp [ha]⟩
    have hexec : exec (.counterLowWordRead a) s = .next (s.readReg p.2) :=
      (if_pos hany).trans (congrArg (fun n => Host.Outcome.next (s.readReg n)) ha)
    exact ⟨_, l, h, hexec, hl, hh, hread, hhigh, hregs⟩

end Sys2Proof.Machine
end

section
/-! ## Bytes of the stack: what a write leaves to read (R185-R187) -/
namespace Sys2Proof.Machine

/-- The byte read at an address follows from the fuses, which set the stack's size, and Hamper's own part. -/
theorem State.byte_congr {s t : State} (hf : t.fuse = s.fuse) (hh : t.hp = s.hp) : t.byte = s.byte := by
  funext x
  unfold State.byte State.phys State.physPage State.pageDefault State.pages
  rw [hf, hh]

/-- A one-to-one page table gives distinct addresses distinct physical places. -/
theorem State.phys_injective {s : State} (hinj : ∀ p q x, s.physPage p = some x → s.physPage q = some x → p = q) {a b q : Nat}
    (ha : s.phys a = some q) (hb : s.phys b = some q) : a = b := by
  obtain ⟨x, hx, rfl⟩ := Option.map_eq_some_iff.1 ha
  obtain ⟨y, hy, hq⟩ := Option.map_eq_some_iff.1 hb
  have hxy : y = x ∧ b % pageBytes = a % pageBytes := by unfold pageBytes at *; omega
  have hpage : a / pageBytes = b / pageBytes := hinj _ _ x hx (hxy.1 ▸ hy)
  rw [← Nat.div_add_mod a pageBytes, ← Nat.div_add_mod b pageBytes, hpage, hxy.2]

theorem State.phys_setByte (s : State) (a : Nat) (b : Byte) : (s.setByte a b).phys = s.phys := by
  unfold State.setByte
  split <;> rfl

theorem State.moves_setByte (s : State) (a : Nat) (b : Byte) : (s.setByte a b).hp.moves = s.hp.moves := by
  unfold State.setByte
  split <;> rfl

/-- While no page is on the move, a byte written is read at the addresses of its physical place and nowhere else. -/
theorem State.byte_setByte {s : State} {a q : Nat} (hmoves : s.hp.moves = []) (ha : s.phys a = some q) (b : Byte) (x : Nat) :
    (s.setByte a b).byte x = if s.phys x = some q then b else s.byte x := by
  have hwrite : (s.setByte a b).hp.hbm = mset 0 s.hp.hbm q b := by
    simp only [State.setByte, ha, hmoves, moveCopy]
  unfold State.byte
  rw [State.phys_setByte, hwrite]
  cases hx : s.phys x with
  | none => exact (if_neg nofun).symm
  | some y =>
    by_cases hy : y = q
    · subst hy
      exact (mget_mset_same ..).trans (if_pos rfl).symm
    · exact (mget_mset_ne _ _ _ _ hy).trans (if_neg fun h => hy (Option.some.inj h)).symm

/-- Each byte of a range stands at its own place: the writes after it go to later addresses. -/
theorem State.byte_foldl_setByte (l : List Byte) {s : State} {a : Nat} (hmoves : s.hp.moves = [])
    (hinj : ∀ y z q, s.phys y = some q → s.phys z = some q → y = z) (hmap : ∀ i < l.length, (s.phys (a + i)).isSome = true) (x : Nat) :
    (l.foldl (fun (e : State × Nat) b => (e.1.setByte e.2 b, e.2 + 1)) (s, a)).1.byte x
      = if a ≤ x ∧ x < a + l.length then l.getD (x - a) 0 else s.byte x := by
  induction l generalizing s a with
  | nil => exact (if_neg fun ⟨hlo, hhi⟩ => Nat.not_lt.2 hlo hhi).symm
  | cons b l ih =>
    obtain ⟨q, hq⟩ := Option.isSome_iff_exists.1 (hmap 0 (Nat.succ_pos _))
    have hrest := ih (s := s.setByte a b) (a := a + 1) ((s.moves_setByte a b).trans hmoves) (by rwa [State.phys_setByte])
      (fun i hi => by
        rw [State.phys_setByte, Nat.add_assoc, Nat.add_comm 1]
        exact hmap (i + 1) (Nat.succ_lt_succ hi))
    have hhere : s.phys x = some q ↔ x = a := ⟨fun h => hinj _ _ q h hq, fun h => h ▸ hq⟩
    rw [List.foldl_cons, hrest, State.byte_setByte hmoves (a := a) hq]
    simp only [hhere, List.length_cons]
    rcases Nat.lt_trichotomy x a with h | h | h
    · rw [if_neg (by omega), if_neg (by omega), if_neg (by omega)]
    · subst h
      rw [if_neg (by omega), if_pos (by omega), if_pos (by omega), Nat.sub_self, List.getD_cons_zero]
    · obtain ⟨i, rfl⟩ := Nat.exists_eq_add_of_lt h
      have hi : a + i + 1 - (a + 1) = i := by omega
      have hi' : a + i + 1 - a = i + 1 := by omega
      by_cases hlen : i < l.length
      · rw [if_pos (by omega), if_pos (by omega), hi, hi', List.getD_cons_succ]
      · rw [if_neg (by omega), if_neg (by omega), if_neg (by omega)]

theorem State.byte_unpoison (s : State) (w : Nat) : (s.unpoison w).byte = s.byte := rfl

theorem State.byte_unpoisonRange (s : State) (a n : Nat) : (s.unpoisonRange a n).byte = s.byte := by
  unfold State.unpoisonRange
  split
  · rfl
  · refine List.foldlRecOn _ _ (motive := fun t : State => t.byte = s.byte) rfl fun t ht i _ => ?_
    dsimp only
    split
    · split
      · exact (t.byte_unpoison _).trans ht
      · exact ht
    · exact ht

/-- While no page is on the move, bytes written to mapped addresses are what their range then holds, and no other byte changes. -/
theorem State.byte_setBytes {s : State} {a : Nat} (l : List Byte) (hmoves : s.hp.moves = [])
    (hinj : ∀ p q x, s.physPage p = some x → s.physPage q = some x → p = q)
    (hmap : ∀ i < l.length, (s.phys (a + i)).isSome = true) (x : Nat) :
    (s.setBytes a l).byte x = if a ≤ x ∧ x < a + l.length then l.getD (x - a) 0 else s.byte x := by
  unfold State.setBytes
  rw [State.byte_unpoisonRange]
  exact State.byte_foldl_setByte l hmoves (fun _ _ _ => State.phys_injective hinj) hmap x

/-- A host buffer has the length that its descriptor gives. -/
theorem bufBytes_length (c : HCmd) : (bufBytes c).length = bufLen c := by
  rw [bufBytes, List.length_append, List.length_take, List.length_replicate]
  omega

end Sys2Proof.Machine
end

section
/-! ## Channels and flows as the commands change them (R31, R34, R40, R163, R392, R542) -/
namespace Sys2Proof.Machine

theorem State.chan_congr {s t : State} (h : t.chans = s.chans) : t.chan = s.chan := by
  funext n
  exact congrArg (mfind · n) h

theorem State.flow_congr {s t : State} (h : t.th = s.th) : t.flow = s.flow := by
  funext f
  exact congrArg (fun th : Trail => mget Flow.init th.flows f) h

theorem State.flow_setFlow_same (s : State) (f : Nat) (x : Flow) : (s.setFlow f x).flow f = x := mget_mset_same ..

theorem State.flow_setFlow_ne (s : State) {f g : Nat} (x : Flow) (h : g ≠ f) : (s.setFlow f x).flow g = s.flow g := mget_mset_ne _ _ _ _ h

/-! ### A channel that is removed -/

theorem State.chan_removeChan_same (s : State) (n : Nat) : (s.removeChan n).chan n = none := by
  unfold State.removeChan
  rw [State.chan_congr (State.budgetCheck_fr _ (.refl _) |>.chans rfl)]
  exact mfind_mdel_same ..

theorem State.chan_removeChan_ne (s : State) {n m : Nat} (h : m ≠ n) : (s.removeChan n).chan m = s.chan m := by
  unfold State.removeChan
  rw [State.chan_congr (State.budgetCheck_fr _ (.refl _) |>.chans rfl)]
  exact mfind_mdel_ne _ h

/-- Both flows of a removed channel stand at their initial value. -/
theorem State.flow_removeChan (s : State) {n f : Nat} (h : f = 2 * n ∨ f = 2 * n + 1) : (s.removeChan n).flow f = Flow.init := by
  unfold State.removeChan
  rw [State.flow_congr (State.budgetCheck_fr _ (.refl _) |>.th rfl)]
  show mget Flow.init (mdel (mdel s.th.flows (2 * n)) (2 * n + 1)) f = Flow.init
  rcases h with rfl | rfl
  · rw [mget_mdel_ne _ _ (by omega), mget_mdel_same]
  · exact mget_mdel_same ..

/-- What CLOSE_COMPLETE reports once the channel is removed: to the twin, to the acting slot and to the command that closed it. -/
def State.closeReported (s : State) (n : Nat) (c : Chan) : State :=
  (if c.mirror ≠ 0 then s.mirror (.closed n) else s).actingEnd.completeOpt c.closer 0 0 []

theorem State.closeReported_fr (s : State) (n : Nat) (c : Chan) : State.Fr 0x81c008 s (s.closeReported n c) :=
  State.completeOpt_fr _ _ _ _ _ (State.actingEnd_fr _ (fr_ite (State.mirror_fr _ _ (.refl s) rfl) (.refl s)) rfl) rfl

theorem exec_closeComplete_done {s : State} {n : BitVec 13} {c : Chan} (hc : s.chan n.toNat = some c) (hst : c.st = .closing)
    (hdone : s.closeDone n.toNat c = true) :
    exec (.closeComplete n) s = .next ((s.removeChan n.toNat).closeReported n.toNat c) := by
  show execCloseComplete n s = _
  unfold execCloseComplete
  rw [hc]
  exact congrArg Host.Outcome.next (if_pos ⟨hst, hdone⟩)

theorem exec_closeComplete_waits {s : State} {n : BitVec 13} {c : Chan} (hc : s.chan n.toNat = some c)
    (h : c.st ≠ .closing ∨ s.closeDone n.toNat c = false) : exec (.closeComplete n) s = .next s := by
  have hnot : ¬(c.st = .closing ∧ s.closeDone n.toNat c = true) := fun ⟨hst, hdone⟩ =>
    h.elim (· hst) fun hf => Bool.noConfusion (hdone.symm.trans hf)
  show execCloseComplete n s = _
  unfold execCloseComplete
  rw [hc]
  exact congrArg Host.Outcome.next (if_neg hnot)

/-! ### A channel that is opened -/

/-- An open that its checks let through makes the channel as asked, at the home and the place that the checks found, and leaves
the others. -/
theorem State.openFor_opens {s : State} {r : OpenReq} {home ctx : Nat} (o : Origin) (h : s.openChecks r = .ok (home, ctx)) :
    ∃ ch, (s.openFor o r).chan r.chan = some ch ∧ ch.st = .opened ∧ ch.home = home ∧ ch.ctx = ctx ∧ ch.profile = r.profile
      ∧ ch.units = r.units ∧ ch.granules = r.granules ∧ ch.frames = 0 ∧ ch.nextB = firstBoundary s.nowNs r.frame r.stagger
      ∧ ∀ m, m ≠ r.chan → (s.openFor o r).chan m = s.chan m := by
  obtain ⟨ch, hput, hch⟩ : ∃ ch, (s.openChannel r home ctx).chans = mput s.chans r.chan ch ∧ ch.st = .opened ∧ ch.home = home
      ∧ ch.ctx = ctx ∧ ch.profile = r.profile ∧ ch.units = r.units ∧ ch.granules = r.granules ∧ ch.frames = 0
      ∧ ch.nextB = firstBoundary s.nowNs r.frame r.stagger :=
    ⟨_, (State.budgetCheck_fr _ (W := 0x88108) (State.writeContext_fr _ _ _ _ _ (.refl _) rfl) rfl).chans rfl, rfl, rfl, rfl, rfl, rfl, rfl, rfl, rfl⟩
  have hchans : (s.openFor o r).chans = mput s.chans r.chan ch := by
    unfold State.openFor
    rw [h, ← hput]
    refine (State.complete_fr _ _ _ _ _ (W := 0x81c008) ?_ rfl).chans rfl
    split
    · exact fr_ite (State.mirror_fr _ _ (.refl _) rfl) (.refl _)
    · exact .refl _
  obtain ⟨hst, hhome, hctx, hprofile, hunits, hgranules, hframes, hnext⟩ := hch
  refine ⟨ch, ?_, hst, hhome, hctx, hprofile, hunits, hgranules, hframes, hnext, fun m hm => ?_⟩
  · exact (congrArg (mfind · r.chan) hchans).trans (mfind_mput_same ..)
  · exact (congrArg (mfind · m) hchans).trans (mfind_mput_ne _ _ hm)

/-! ### Commands for an open channel -/

theorem State.withChan_eq {s : State} {n : Nat} {ch : Chan} {change : Bool} (o : Origin) (f : State → Chan → State) (hch : s.chan n = some ch)
    (hst : change = true → ch.st ≠ .closing) : s.withChan o n change f = f s ch := by
  unfold State.withChan
  rw [hch]
  exact if_neg fun ⟨hchange, hclosing⟩ => hst hchange hclosing

/-- A command for an open channel that passes its checks is its own effect on that channel after its start. -/
theorem State.command_withChan_eq {s : State} {c : HCmd} {op n : Nat} {ok change buf : Bool} {ch : Chan} {f : Origin → State → Chan → State}
    (h : Plain s c) (hok : ok = true) (hl : s.mode = 7 → 240 ≤ n) (hch : s.chan n = some ch) (hst : change = true → ch.st ≠ .closing) :
    s.command c op ok true (some n) buf (fun s o => s.withChan o n change (f o)) = f (s.originOf c op) (s.start c) ch :=
  (State.command_eq h hok rfl fun _ hn => Option.some.inj hn ▸ hl).trans (State.withChan_eq _ _ hch hst)

theorem exec_chOpen_eq {s : State} {c : HCmd} (h : Plain s c) :
    let n := arg c 0
    let r := basicReq (n % 8192) (bits n 16 4) (bit n 24) (bits n 20 2) (bits n 22 2) (arg c 1 % 64) false
    argMask c [0x1FF1FFF, 0x3F] = true → r.chan < s.chanLimit → basicFieldsOk r = true → admitsChannels s.mode = true →
      (s.mode = 7 → 240 ≤ r.chan) → exec (.chOpen c) s = .next ((s.start c).openFor (s.originOf c 0x10) r) := by
  intro n r hmask hchan hfields hmode hl
  have hok : (argMask c [0x1FF1FFF, 0x3F] && decide (r.chan < s.chanLimit) && basicFieldsOk r) = true := by
    simp only [hmask, hchan, hfields, r, n, decide_true, Bool.and_self]
  refine congrArg Host.Outcome.next ((State.command_eq h hok hmode fun _ hn => Option.some.inj hn ▸ hl).trans ?_)
  exact if_pos (basicOk_basicReq ..)

theorem exec_chOpenGraph_eq {s : State} {c : HCmd} (h : Plain s c) :
    let n := arg c 0
    let r := graphReq c
    bufMask c [0x3FF01FFF, 0x3F, 0x7F, 0xFFFFFFFF] = true → bufLen c = 2240 → r.chan < s.chanLimit → r.frame ≤ 2 → r.mirror ≤ 2 →
      r.stagger < 40 → 4 ≤ r.granules → r.granules ≤ 64 → (if bit n 29 then bits n 25 4 = 0 else bits n 25 4 < s.clusters) →
      admitsChannels s.mode = true → (s.mode = 7 → 240 ≤ r.chan) → (s.start c).graphContentOk r = true →
      exec (.chOpenGraph c) s = .next ((s.start c).openFor (s.originOf c 0x11) r) := by
  intro n r hmask hlen hchan hframe hmirror hstagger hlow hhigh hhome hmode hl hcontent
  have hnamed : (if bit n 29 then decide (bits n 25 4 = 0) else decide (bits n 25 4 < s.clusters)) = true := by
    split at hhome
    · next hb => rw [if_pos hb, decide_eq_true hhome]
    · next hb => rw [if_neg hb, decide_eq_true hhome]
  refine congrArg Host.Outcome.next ((State.command_eq h ?_ hmode fun _ hn => Option.some.inj hn ▸ hl).trans (if_pos hcontent))
  show (bufMask c _ && decide (bufLen c = 2240) && decide (r.chan < s.chanLimit) && decide (r.frame ≤ 2) && decide (r.mirror ≤ 2)
    && decide (r.stagger < 40) && decide (4 ≤ r.granules) && decide (r.granules ≤ 64)
    && if bit n 29 then decide (bits n 25 4 = 0) else decide (bits n 25 4 < s.clusters)) = true
  simp only [hmask, hlen, hchan, hframe, hmirror, hstagger, hlow, hhigh, hnamed, decide_true, Bool.and_self]

theorem exec_ctxWrite_eq {s : State} {c : HCmd} {ch : Chan} (h : Plain s c) (hmask : bufMask c [0x1FFF, 0xFFFFFFFF] = true)
    (hn : arg c 0 < s.chanLimit) (hofs : arg c 1 % 4 = 0) (hlow : 160 ≤ arg c 1) (hlen : bufLen c % 4 = 0) (hpos : 4 ≤ bufLen c)
    (hl : s.mode = 7 → 240 ≤ arg c 0) (hch : s.chan (arg c 0) = some ch) (hst : ch.st ≠ .closing)
    (hroom : arg c 1 + bufLen c ≤ ch.granules * granuleBytes) :
    exec (.ctxWrite c) s = .next (((s.start c).setBytes (ch.ctx + arg c 1) (bufBytes c)).complete (s.originOf c 0x16) 0 0 []) := by
  refine congrArg Host.Outcome.next ((State.command_withChan_eq h ?_ hl hch fun _ => hst).trans (if_neg (Nat.not_lt.2 hroom)))
  simp only [hmask, hn, hofs, hlow, hlen, hpos, decide_true, Bool.and_self]

theorem exec_flowResync_eq {s : State} {c : HCmd} {ch : Chan} (h : Plain s c) (hmask : argMask c [0x3FFF, 0xFFFF] = true)
    (hn : arg c 0 / 2 < s.chanLimit) (hl : s.mode = 7 → 240 ≤ arg c 0 / 2) (hch : s.chan (arg c 0 / 2) = some ch) (hst : ch.st ≠ .closing) :
    exec (.flowResync c) s = .next ((((s.start c).setFlow (arg c 0) ⟨arg c 1, [], false, s.elapsed⟩).writeNext (arg c 0 / 2)).complete
      (s.originOf c 0x18) 0 0 []) :=
  congrArg Host.Outcome.next (State.command_withChan_eq h (by simp only [hmask, hn, decide_true, Bool.and_self]) hl hch fun _ => hst)

/-- Settles O45: a command past its checks is its own effect on the channel after its start; what each leaves of the channels, the flows
and the stack is read off the operations it is made of. -/
theorem channelResults : Obligations.ChannelResults := by
  unfold Obligations.ChannelResults
  refine ⟨fun s n c hc => ⟨fun hst hdone => ?closed, exec_closeComplete_waits hc⟩, fun s c h =>
    ⟨?opens, ?opensGraph, ?closes, ?param, ?status, ?read, ?write, ?cancel, ?resync⟩⟩
  case closed =>
    have hfr := (s.removeChan n.toNat).closeReported_fr n.toNat c
    have hchan := State.chan_congr (hfr.chans rfl)
    have hflow := State.flow_congr (hfr.th rfl)
    refine ⟨_, exec_closeComplete_done hc hst hdone, ?_, fun m hm => ?_, ?_, ?_, ?_⟩
    · rw [hchan, State.chan_removeChan_same]
    · rw [hchan, State.chan_removeChan_ne _ hm]
    · rw [hflow, State.flow_removeChan _ (.inl rfl)]
    · rw [hflow, State.flow_removeChan _ (.inr rfl)]
    · exact (hfr.mem rfl).trans ((State.removeChan_fr s _ (.refl s)).mem rfl)
  case opens =>
    intro r hmask hchan hfields hmode hl home ctx hchecks
    obtain ⟨ch, hch⟩ := State.openFor_opens (s.originOf c 0x10) hchecks
    exact ⟨_, ch, exec_chOpen_eq h hmask hchan hfields hmode hl, hch⟩
  case opensGraph =>
    intro r hmask hlen hchan hframe hmirror hstagger hlow hhigh hhome hmode hl hcontent home ctx hchecks
    obtain ⟨ch, hch, hst, hh, hctx, -, hunits, hgranules, hframes, -, hothers⟩ := State.openFor_opens (s.originOf c 0x11) hchecks
    exact ⟨_, ch, exec_chOpenGraph_eq h hmask hlen hchan hframe hmirror hstagger hlow hhigh hhome hmode hl hcontent,
      hch, hst, hh, hctx, hunits, hgranules, hframes, hothers⟩
  case closes =>
    intro ch hmask hn hl hch hst
    exact congrArg Host.Outcome.next (State.command_withChan_eq h (by simp only [hmask, hn, decide_true, Bool.and_self]) hl hch fun _ => hst)
  case param =>
    intro ch first count old new hmask hn hfirst hcount hmax hend hl hch hst hparam
    refine congrArg Host.Outcome.next ((State.command_withChan_eq h ?_ hl hch fun _ => hst).trans (if_pos hparam))
    simp only [hmask, hn, hfirst, hcount, hmax, hend, decide_true, Bool.and_self, first, count]
  case status =>
    intro ch hmask hn hl hch
    exact congrArg Host.Outcome.next (State.command_withChan_eq h (by simp only [hmask, hn, decide_true, Bool.and_self]) (change := false) hl hch nofun)
  case read =>
    intro ch hmask hn hofs hlen hpos hl hch hroom hpoison
    refine congrArg Host.Outcome.next ((State.command_withChan_eq h ?_ (change := false) hl hch nofun).trans
      ((if_neg (Nat.not_lt.2 hroom)).trans (if_neg (Bool.eq_false_iff.1 hpoison))))
    simp only [hmask, hn, hofs, hlen, hpos, decide_true, Bool.and_self]
  case write =>
    intro ch hmask hn hofs hlow hlen hpos hl hch hst hroom
    refine ⟨_, exec_ctxWrite_eq h hmask hn hofs hlow hlen hpos hl hch hst hroom, ?_, fun hmoves hinj hmap x => ?_⟩
    · exact (State.complete_fr _ _ _ _ _ (W := 0x80c108) (State.setBytes_fr _ _ _ (State.start_fr s c (.refl s) rfl) rfl) rfl).mem rfl
    · have hfr := State.complete_fr ((s.start c).setBytes (ch.ctx + arg c 1) (bufBytes c)) (s.originOf c 0x16) 0 0 [] (.refl _)
      rw [State.byte_congr (hfr.fuse rfl) (hfr.hp rfl),
        State.byte_setBytes (s := s.start c) (bufBytes c) hmoves hinj fun i hi => hmap i (bufBytes_length c ▸ hi), bufBytes_length]
      rfl
  case cancel =>
    intro ch hmask hn hl hch hst
    exact congrArg Host.Outcome.next (State.command_withChan_eq h (by simp only [hmask, hn, decide_true, Bool.and_self]) hl hch fun _ => hst)
  case resync =>
    intro ch hmask hn hl hch hst
    have hflow := State.flow_congr ((State.complete_fr _ (s.originOf c 0x18) 0 0 []
      (State.writeNext_fr ((s.start c).setFlow (arg c 0) ⟨arg c 1, [], false, s.elapsed⟩) (arg c 0 / 2) (.refl _) rfl) rfl (W := 0x80c108)).th rfl)
    refine ⟨_, exec_flowResync_eq h hmask hn hl hch hst, ?_, fun f hf => ?_⟩
    · rw [hflow, State.flow_setFlow_same]
    · rw [hflow, State.flow_setFlow_ne _ _ hf]
      rfl

end Sys2Proof.Machine
end

section
/-! ## The 24-bit arithmetic: bodies past their checks (R108, R109, R112) -/
namespace Sys2Proof.Machine

/-- What stands behind a check that holds is what the body answers. -/
theorem legal_bind {α : Type} {b : Bool} (h : b = true) (m : Except DErr α) : (legal b >>= fun _ => m) = m := by
  rw [h]; rfl

theorem Straight.issues {s : State} {k : Fin 144} {op : Nat} {f : BitVec 40} (h : Straight s k op f) :
    s.canIssue k.val (word48 op f) = true := by
  obtain ⟨hissue, -⟩ := h
  exact hissue

section
variable {f : BitVec 40} {x : Ctx}

theorem aluBody_eq (op : AluOp) (hu : sUnused f true true true false = true) (hd : rc24 (sD f) = true) (hs : rc24 (sS f) = true)
    (ht : rc24 (sT f) = true) : aluBody op f x
      = .ok (aluWrite x (sD f) (aluVal op (x.c0.rd false (sS f)) (x.c0.rd false (sT f))) (rcIsPart (sS f) || rcIsPart (sT f))) :=
  legal_bind (by simp only [hu, hd, hs, ht, Bool.and_self]) _

theorem shiftBody_eq (op : ShiftOp) (hu : sUnused f true true false true = true) (hd : rc24 (sD f) = true) (hs : rc24 (sS f) = true)
    (hn : sSH f ≤ 23) : shiftBody op f x = .ok (aluWrite x (sD f) (shiftVal op (x.c0.rd false (sS f)) (sSH f)) (rcIsPart (sS f))) :=
  legal_bind (by simp only [hu, hd, hs, hn, decide_true, Bool.and_self]) _

theorem addiBody_eq (hi : iLegal f = true) (hd : rc24 (sD f) = true) :
    addiBody f x = .ok (aluWrite x (sD f) (aluVal .add (x.c0.rd false (sD f)) (fbits f 23 0)) (rcIsPart (sD f))) :=
  legal_bind (by simp only [hi, hd, Bool.and_self]) _

theorem cmpBody_eq (hu : sUnused f false true true false = true) (hs : rc24 (sS f) = true) (ht : rc24 (sT f) = true) :
    cmpBody f x = .ok { x with c := x.c.setSr (srZN x.c.sr (aluVal .sub (x.c0.rd false (sS f)) (x.c0.rd false (sT f)))) } :=
  legal_bind (by simp only [hu, hs, ht, Bool.and_self]) _

end

/-- An instruction that sets SR and no other register. -/
theorem srStep {s : State} {k : Fin 144} {op : Nat} {f : BitVec 40} {body : BitVec 40 → Ctx → Except DErr Ctx} {i : Instr} {sr : W24}
    {P : W24 → W24 → Prop} (hx : exec i s = .next (s.dziul k.val op f body)) (hS : Straight s k op f)
    (hb : body f (s.ctx k) = .ok { s.ctx k with c := (s.ctx k).c.setSr sr }) (hP : P (s.core k).sr sr) :
    CoreStep i k s fun c c' => KeepsRegs [] c c' ∧ P c.sr c'.sr :=
  writesStep [] sr hx hS (by simp) hb rfl rfl (.inl rfl) fun c' _ hkeep hsr => ⟨fun r hr h50 _ => hkeep r hr h50 (by simp), hsr ▸ hP⟩

theorem CoreStep.imp {i : Instr} {k : Fin 144} {s : State} {P Q : Core → Core → Prop} (h : CoreStep i k s P)
    (hPQ : ∀ c', P (s.core k) c' → Q (s.core k) c') : CoreStep i k s Q := by
  obtain ⟨c', hexec, hpc, hstack, hmem, hP⟩ := h
  exact ⟨c', hexec, hpc, hstack, hmem, hPQ c' hP⟩

/-- Settles O13: each body past its checks is one write of d with its flags; CMP's is one of SR alone. -/
theorem aluResults : Obligations.AluResults := by
  unfold Obligations.AluResults
  intro s k f d a b n
  refine ⟨fun hu hd hs ht => ?_, fun hu hd hs hn => ?_, fun hi hd hS => ?_, fun hu hs ht hS => ?_⟩
  · exact ⟨fun hS => aluStep rfl hS hd (aluBody_eq .add hu hd hs ht), fun hS => aluStep rfl hS hd (aluBody_eq .sub hu hd hs ht),
      fun hS => aluStep rfl hS hd (aluBody_eq .and hu hd hs ht), fun hS => aluStep rfl hS hd (aluBody_eq .or hu hd hs ht),
      fun hS => aluStep rfl hS hd (aluBody_eq .xor hu hd hs ht)⟩
  · exact ⟨fun hS => aluStep rfl hS hd (shiftBody_eq .lsl hu hd hs hn), fun hS => aluStep rfl hS hd (shiftBody_eq .lsr hu hd hs hn),
      fun hS => aluStep rfl hS hd (shiftBody_eq .asr hu hd hs hn)⟩
  · exact aluStep rfl hS hd (addiBody_eq hi hd)
  · have hz := srZN_bits (s.core k).sr (aluVal .sub a b)
    rw [show aluVal .sub a b % 2 ^ 24 = aluVal .sub a b from Nat.mod_mod _ _] at hz
    exact srStep rfl hS (cmpBody_eq hu hs ht) hz

end Sys2Proof.Machine
end

section
/-! ## Shifts, comparison and exponents of accumulators: bodies past their checks (R118) -/
namespace Sys2Proof.Machine

section
variable {f : BitVec 40} {x : Ctx}

theorem ashaBody_left (hu : sUnused f true false false true = true) (hd : rcIsA (sD f) = true) (hpos : 0 < sgn 7 (sSH f))
    (hle : sgn 7 (sSH f) ≤ 56) :
    let a := x.c0.rd false (sD f)
    let r := clamp56 (accInt a * (2 ^ (sgn 7 (sSH f)).toNat : Nat))
    ashaBody f x = .ok (accWrite x (sD f) ⟨r.1, r.2, bit a (56 - (sgn 7 (sSH f)).toNat)⟩ false) := by
  intro a r
  have hge : sgn 7 (sSH f) ≥ -56 := by omega
  exact (legal_bind (by simp only [hu, hd, hge, hle, decide_true, Bool.and_self]) _).trans
    (congrArg (fun o => Except.ok (accWrite x (sD f) o false)) (if_pos hpos))

theorem ashaBody_right (hu : sUnused f true false false true = true) (hd : rcIsA (sD f) = true) (hge : -56 ≤ sgn 7 (sSH f))
    (hle : sgn 7 (sSH f) ≤ 0) : ashaBody f x
      = .ok (accWrite x (sD f) ⟨unsgn 56 (accInt (x.c0.rd false (sD f)) / (2 ^ (-sgn 7 (sSH f)).toNat : Nat)), false, false⟩ false) := by
  have h56 : sgn 7 (sSH f) ≤ 56 := by omega
  exact (legal_bind (by simp only [hu, hd, hge, h56, decide_true, Bool.and_self]) _).trans
    (congrArg (fun o => Except.ok (accWrite x (sD f) o false)) (if_neg (Int.not_lt.2 hle)))

theorem cmpaBody_eq (hu : sUnused f true true false false = true) (hd : rcIsA (sD f) = true) (hs : rcIsA (sS f) = true) :
    let a := x.c0.rd false (sD f)
    let b := accInt (x.c0.rd false (sS f))
    cmpaBody f x = .ok { x with c := x.c.setSr (srAcc x.c.sr (accCarry a (-b)) (clamp56 (accInt a - b)).2 (accInt a - b)) } :=
  legal_bind (by simp only [hu, hd, hs, Bool.and_self]) _

theorem expBody_eq (hu : sUnused f true true false false = true) (hd : rc24 (sD f) = true) (hs : (rcIsA (sS f) || rc24 (sS f)) = true) :
    expBody f x = .ok { x with c := x.c.wr (sD f) (unsgn 24 (if rcIsA (sS f) then (rsb 56 (x.c0.rd false (sS f)) : Int) - 8
      else rsb 24 (x.c0.rd false (sS f)))) .arith } :=
  legal_bind (by rw [hs]; simp only [hu, hd, Bool.and_self]) _

theorem expBody_acc (hu : sUnused f true true false false = true) (hd : rc24 (sD f) = true) (hs : rcIsA (sS f) = true) :
    expBody f x = .ok { x with c := x.c.wr (sD f) (unsgn 24 ((rsb 56 (x.c0.rd false (sS f)) : Int) - 8)) .arith } := by
  rw [expBody_eq hu hd (by rw [hs, Bool.true_or]), if_pos hs]

theorem expBody_word (hu : sUnused f true true false false = true) (hd : rc24 (sD f) = true) (hs : rc24 (sS f) = true) :
    expBody f x = .ok { x with c := x.c.wr (sD f) (rsb 24 (x.c0.rd false (sS f))) .arith } := by
  obtain ⟨-, -, hA⟩ := rc24_valid hs
  rw [expBody_eq hu hd (by rw [hs, Bool.or_true]), if_neg (Bool.eq_false_iff.1 hA), unsgn24_small _ (rsb_lt 24 _ (by decide))]

/-- NORM's value: an accumulator shifted by its redundant sign bits less 8. -/
def normVal (a : Nat) : Int :=
  let e : Int := (rsb 56 a : Int) - 8
  if e ≥ 0 then accInt a * (2 ^ e.toNat : Nat) else accInt a / (2 ^ (-e).toNat : Nat)

/-- V clear, and Z, N and E of an accumulator value: NORM's flags. -/
def srNorm (sr : W24) (v : Int) : W24 :=
  srSet (srSet (srSet (srSet sr srV false) srZ (decide (v = 0))) srN (decide (v < 0))) srE (outOfFrac v)

theorem normBody_eq (hu : sUnused f true true false false = true) (hd : rcIsA (sD f) = true) (hs : rc24 (sS f) = true)
    (hne : rcHome (sS f) ≠ sD f) :
    let a := x.c0.rd false (sD f)
    let c := (x.c.wr (sD f) (unsgn 56 (normVal a)) .arith).wr (sS f) (unsgn 24 ((rsb 56 a : Int) - 8)) .arith
    normBody f x = .ok { x with c := c.setSr (srNorm c.sr (normVal a)) } :=
  legal_bind (by simp only [hu, hd, hs, ne_eq, hne, not_false_eq_true, decide_true, Bool.and_self]) _

end

theorem unsgn_lt (w : Nat) (i : Int) : unsgn w i < 2 ^ w := by
  have hpos : (0 : Int) < (2 ^ w : Nat) := Int.natCast_pos.2 (Nat.two_pow_pos w)
  exact (Int.toNat_lt (Int.emod_nonneg i (Int.ne_of_gt hpos))).2 (Int.emod_lt_of_pos i hpos)

/-- An accumulator shares bits with a register of the 24-bit class only when that is a part of it. -/
theorem overlaps_acc_word {d r : Nat} (hd : rcIsA d = true) (hr : rc24 r = true) (hne : rcHome r ≠ d) : overlaps d r = false := by
  obtain ⟨-, -, hrA⟩ := rc24_valid hr
  have hdr : d ≠ r := fun h => by rw [h, hrA] at hd; cases hd
  simp [overlaps, hrA, hne, hdr]

/-- An instruction that writes one register of the 24-bit class. -/
theorem writeStep {s : State} {k : Fin 144} {op : Nat} {f : BitVec 40} {body : BitVec 40 → Ctx → Except DErr Ctx} {i : Instr} {d v : Nat}
    {cls : HzClass} (hx : exec i s = .next (s.dziul k.val op f body)) (hS : Straight s k op f) (hd : rc24 d = true)
    (hb : body f (s.ctx k) = .ok { s.ctx k with c := (s.ctx k).c.wr d v cls }) :
    CoreStep i k s fun c c' => c'.reg d = regStored d v ∧ KeepsRegs [d] c c' ∧ c'.sr = c.sr := by
  obtain ⟨hv, h50, -⟩ := rc24_valid hd
  refine writesStep [(d, v, cls)] _ hx hS (by simp [hv, h50]) hb rfl rfl (.inr ⟨rfl, rfl⟩) fun c' hreg hkeep hsr => ⟨?_, ?_, hsr⟩
  · exact (hreg d h50).trans (reg_wr_same _ _ _ _ hv h50)
  · exact fun r hr hr50 ho => hkeep r hr hr50 (by simpa using ho)

/-- NORM's shape: an accumulator, a register of the 24-bit class that is no part of it, then the flags. -/
theorem normStep {s : State} {k : Fin 144} {op : Nat} {f : BitVec 40} {body : BitVec 40 → Ctx → Except DErr Ctx} {i : Instr} {d r v e : Nat}
    {flags : W24 → W24} (hx : exec i s = .next (s.dziul k.val op f body)) (hS : Straight s k op f) (hd : rcIsA d = true) (hr : rc24 r = true)
    (hne : rcHome r ≠ d) (hb : let c := ((s.ctx k).c.wr d v .arith).wr r e .arith
      body f (s.ctx k) = .ok { s.ctx k with c := c.setSr (flags c.sr) }) :
    CoreStep i k s fun c c' => c'.reg d = v % 2 ^ 56 ∧ c'.reg r = regStored r e ∧ KeepsRegs [d, r] c c' ∧ c'.sr = flags c.sr := by
  obtain ⟨hdv, hd50⟩ := rcIsA_valid hd
  obtain ⟨hrv, hr50, -⟩ := rc24_valid hr
  have hval := writes_value (s.core k) [(d, v, .arith), (r, e, .arith)] (by simp [hdv, hd50, hrv, hr50]) (by simp [overlaps_acc_word hd hr hne])
  have hflags : (((s.core k).wr d v .arith).wr r e .arith).sr = (s.core k).sr := by
    rw [Core.wr, Core.put_sr _ _ _ hr50, Core.note_sr, Core.wr, Core.put_sr _ _ _ hd50, Core.note_sr]
  refine writesStep [(d, v, .arith), (r, e, .arith)] _ hx hS (by simp [hdv, hd50, hrv, hr50]) hb rfl rfl (.inl rfl)
    fun c' hreg hkeep hsr => ⟨?_, ?_, ?_, hsr.trans (congrArg flags hflags)⟩
  · exact (hreg d hd50).trans ((hval (d, v, .arith) (by simp)).trans (regStored_acc hd))
  · exact (hreg r hr50).trans (hval (r, e, .arith) (by simp))
  · exact fun q hq hq50 ho => hkeep q hq hq50 (by simpa using ho)

/-- Settles O15: each body past its checks is one of the shapes of a write; CMPA's is one of SR alone. -/
theorem accShifts : Obligations.AccShifts := by
  unfold Obligations.AccShifts
  intro s k f c d a b sh e
  refine ⟨fun hu hd hS => ⟨fun hpos hle => ?_, fun hge hle => ?_⟩, fun hu hd hs hS => ?_, fun hu hd hS => ⟨fun hs => ?_, fun hs => ?_⟩,
    fun hu hd hs hne hS => ?_⟩
  · exact accStep rfl hS hd (ashaBody_left hu hd hpos hle)
  · exact accStep rfl hS hd (ashaBody_right hu hd hge hle)
  · have hz := srAcc_bits c.sr (accCarry a (-b)) (clamp56 (accInt a - b)).2 (accInt a - b)
    have hlt : accInt a - b < 0 ↔ accInt a < b := ⟨Int.lt_of_sub_neg, Int.sub_neg_of_lt⟩
    simp only [Int.sub_eq_zero, hlt] at hz
    exact srStep rfl hS (cmpaBody_eq hu hd hs) hz
  · exact (writeStep rfl hS hd (expBody_acc hu hd hs)).imp fun _ h => h
  · exact (writeStep rfl hS hd (expBody_word hu hd hs)).imp fun _ h => h
  · refine (normStep (v := unsgn 56 (normVal a)) (flags := (srNorm · (normVal a))) rfl hS hd hs hne
      (normBody_eq (x := s.ctx k) hu hd hs hne)).imp fun c' ⟨hacc, hword, hkeep, hsr⟩ => ⟨?_, hword, hkeep, ?_⟩
    · exact hacc.trans (Nat.mod_eq_of_lt (unsgn_lt 56 _))
    · exact hsr ▸ norm_bits _ _

end Sys2Proof.Machine
end

section
/-! ## The start of a hardware loop (R127, R129) -/
namespace Sys2Proof.Machine

theorem controlOk_straight {s : State} {k : Fin 144} {op : Nat} {f : BitVec 40} (h : Straight s k op f) : controlOk (s.core k) = true := by
  obtain ⟨-, -, hslots, -, hloop, -⟩ := h
  simp [controlOk, hslots, hloop]

/-- LS, LE and LC share no bits. -/
theorem overlaps_loopRegs : overlaps 0x52 0x53 = false ∧ overlaps 0x52 0x51 = false ∧ overlaps 0x53 0x51 = false := by decide

/-- A core with LS and LE loaded. -/
def Core.loopAt (c : Core) (ls le : Nat) : Core := (c.put 0x52 ls).put 0x53 le

theorem Core.loopAt_view (c : Core) (ls le : Nat) : Core.View c (c.loopAt ls le) [(0x52, ls), (0x53, le)] c.sr :=
  ((Core.View.refl c).put 0x52 ls rfl (by decide) (by simp)).put 0x53 le rfl (by decide) (by simp [overlaps_loopRegs])

theorem Core.loopAt_mem (c : Core) (ls le : Nat) : KeepsMem c (c.loopAt ls le) := (put_memories c _ _).trans (put_memories _ _ _)

/-- A core in a loop of `n` passes. -/
def Core.loopOf (c : Core) (ls le n : Nat) : Core :=
  let c' := (c.loopAt ls le).put 0x51 n
  c'.setSr (srSet c'.sr srLA true)

theorem Core.loopOf_view (c : Core) (ls le n : Nat) :
    Core.View c (c.loopOf ls le n) [(0x52, ls), (0x53, le), (0x51, n)] (srSet c.sr srLA true) := by
  have h := (c.loopAt_view ls le).put 0x51 n rfl (by decide) (by simp [overlaps_loopRegs])
  exact h.sr ▸ h.setSr (srSet ((c.loopAt ls le).put 0x51 n).sr srLA true) (by simp)

theorem Core.loopOf_mem (c : Core) (ls le n : Nat) : KeepsMem c (c.loopOf ls le n) :=
  ((c.loopAt_mem ls le).trans (put_memories _ _ _)).trans (setSr_keepsMem _ _)

section
variable {s : State} {k : Fin 144} {op : Nat} {f : BitVec 40} {body : BitVec 40 → Ctx → Except DErr Ctx} {i : Instr} {n e : Nat}

theorem loopStart_legal (hS : Straight s k op f) (he : (s.core k).pc + 2 ≤ e) :
    (controlOk (s.ctx k).c0 && !(s.ctx k).c0.looping && decide ((s.ctx k).c0.pc + 2 ≤ e)) = true := by
  obtain ⟨-, -, -, -, hloop, -⟩ := id hS
  have hc : (s.ctx k).c0 = s.core k := rfl
  simp only [hc, controlOk_straight hS, hloop, he, decide_true, Bool.not_false, Bool.and_self]

theorem loopStart_skip (hS : Straight s k op f) (he : (s.core k).pc + 2 ≤ e) :
    loopStart 0 e (s.ctx k) = .ok { s.ctx k with c := { (s.core k).loopAt ((s.core k).pc + 2) e with pc := e } } :=
  legal_bind (loopStart_legal hS he) _

theorem loopStart_run (hS : Straight s k op f) (he : (s.core k).pc + 2 ≤ e) (hn : n ≠ 0) :
    loopStart n e (s.ctx k) = .ok { s.ctx k with c := { (s.core k).loopOf ((s.core k).pc + 2) e n with
      cache := [], cacheOk := false, filling := decide ((e - ((s.core k).pc + 2)) / 2 + 1 ≤ 64) } } :=
  (legal_bind (loopStart_legal hS he) _).trans (if_neg hn)

theorem regStored_loop {d v : Nat} (hd : d = 0x52 ∨ d = 0x53) (hv : v < 2 ^ 15) : regStored d v = v / 2 * 2 := by
  have hA : ¬rcIsA d = true := by rcases hd with rfl | rfl <;> decide
  rw [regStored, if_neg hA, if_neg (by omega), if_pos hd]
  omega

/-- A count of 0: LS and LE are loaded and the core goes on behind the body. -/
theorem loop_skips (hx : exec i s = .next (s.dziul k.val op f body)) (hS : Straight s k op f)
    (hb : body f (s.ctx k) = loopStart 0 e (s.ctx k)) (he : (s.core k).pc + 2 ≤ e) (he2 : e / 2 * 2 = e) (hend : e + 2 ≤ 0x7FFE) :
    FlowStep i k s fun c c' => c'.pc = e + 2 ∧ c'.stack = c.stack ∧ KeepsMem c c' ∧ c'.sr = c.sr
      ∧ c'.reg 0x52 = (c.pc + 2) / 2 * 2 ∧ c'.reg 0x53 = e ∧ KeepsRegs [0x52, 0x53] c c' := by
  obtain ⟨hissue, hinj, hslots, hbr, hloop, hpc⟩ := id hS
  obtain ⟨hkeep, hval, hsr, hsl, hb', -, hst⟩ := (s.core k).loopAt_view ((s.core k).pc + 2) e
  have hend' := State.endInstr_straight (w := word48 op f) (c := { (s.core k).loopAt ((s.core k).pc + 2) e with pc := e }) hloop
    (hsl.trans hslots) (hb'.trans hbr) (show e < 0x7FFD by omega)
  refine ⟨_, hx.trans (congrArg Host.Outcome.next ((State.dziul_ok hissue hinj (hb.trans (loopStart_skip hS he)) rfl).trans hend')),
    rfl, hst, (s.core k).loopAt_mem _ _, hsr, ?_, ?_, fun r hr h50 ho => ?_⟩
  · exact (hval (0x52, (s.core k).pc + 2) (by simp)).trans (regStored_loop (.inl rfl) (by omega))
  · exact (hval (0x53, e) (by simp)).trans ((regStored_loop (.inr rfl) (by omega)).trans he2)
  · exact hkeep r hr h50 (by simpa using ho)

/-- Another count: LC is loaded too and LA set, and the core goes on into the body. -/
theorem loop_starts (hx : exec i s = .next (s.dziul k.val op f body)) (hS : Straight s k op f)
    (hb : body f (s.ctx k) = loopStart n e (s.ctx k)) (he : (s.core k).pc + 2 ≤ e) (he2 : e / 2 * 2 = e) (hlt : e < 2 ^ 15) (hn : n ≠ 0) :
    CoreStep i k s fun c c' => c'.reg 0x52 = (c.pc + 2) / 2 * 2 ∧ c'.reg 0x53 = e ∧ c'.reg 0x51 = n % 2 ^ 24
      ∧ KeepsRegs [0x51, 0x52, 0x53] c c' ∧ SrBits [(srLA, true)] c.sr c'.sr := by
  obtain ⟨hkeep, hval, hsr, hsl, hb', hpc, hst⟩ := (s.core k).loopOf_view ((s.core k).pc + 2) e n
  refine coreStep_of_dziul hx hS (hb.trans (loopStart_run hS he hn)) rfl rfl hsl hb' hpc hst ((s.core k).loopOf_mem _ _ _)
    ⟨?_, ?_, hval (0x51, n) (by simp), fun r hr h50 ho => ?_, ?_⟩
  · exact (hval (0x52, (s.core k).pc + 2) (by simp)).trans (regStored_loop (.inl rfl) (by omega))
  · exact (hval (0x53, e) (by simp)).trans ((regStored_loop (.inr rfl) hlt).trans he2)
  · exact hkeep r hr h50 (by simpa [and_assoc, and_comm, and_left_comm] using ho)
  · exact hsr ▸ srLA_bits _

end

theorem doBody_eq {f : BitVec 40} {x : Ctx} (h : fbits f 23 15 = 0) : doBody f x = loopStart (fbits f 39 24) (bTarget f) x :=
  legal_bind (by rw [h]; rfl) _

theorem dorBody_eq {f : BitVec 40} {x : Ctx} (h : fbits f 23 15 = 0) (h' : fbits f 32 24 = 0) (hd : rc24 (sD f) = true) :
    dorBody f x = loopStart (x.c0.rd false (sD f)) (bTarget f) x :=
  legal_bind (by simp only [h, h', hd, decide_true, Bool.and_self]) _

theorem bTarget_lt (f : BitVec 40) : bTarget f < 2 ^ 15 := by
  have h : fbits f 14 0 < 2 ^ 15 := Nat.mod_lt _ (by decide)
  unfold bTarget
  omega

/-- Settles O22: DO and DOR are one start of a loop, whose count 0 skips the body. -/
theorem loopResults : Obligations.LoopResults := by
  unfold Obligations.LoopResults
  intro s k f c e loops he hf
  have he2 : e / 2 * 2 = e := by omega
  have starts : ∀ {op n : Nat} {i : Instr} {body : BitVec 40 → Ctx → Except DErr Ctx}, exec i s = .next (s.dziul k.val op f body) →
      Straight s k op f → body f (s.ctx k) = loopStart n e (s.ctx k) → loops n i := fun hx hS hb =>
    ⟨fun hn hend => loop_skips hx hS (hn ▸ hb) he he2 hend, fun hn => loop_starts hx hS hb he he2 (bTarget_lt f) hn⟩
  exact ⟨fun hS => starts rfl hS (doBody_eq hf), fun hz hd hS => starts rfl hS (dorBody_eq hf hz hd)⟩

end Sys2Proof.Machine
end

section
/-! ## The end of an instruction: slots, taken branches, RTI and the loop-end test (R125-R128, R142) -/
namespace Sys2Proof.Machine

theorem srSet_bits (old : W24) (i : Nat) (b : Bool) : SrBits [(i, b)] old (srSet old i b) := by
  intro j hj
  rw [srBit_srSet _ _ _ _ hj]
  by_cases h : j = i
  · simp [h]
  · simp [h, Ne.symm h]

theorem SrBits.same {sr : W24} {i : Nat} {b : Bool} (h : srBit sr i = b) : SrBits [(i, b)] sr sr := by
  intro j _
  by_cases hj : i = j
  · simp [← hj, h]
  · simp [hj]

theorem srSet_srSet_bits (old : W24) {i j : Nat} (b b' : Bool) (hij : i ≠ j) : SrBits [(i, b), (j, b')] old (srSet (srSet old i b) j b') := by
  intro n hn
  rw [srBit_srSet _ _ _ _ hn, srSet_bits old i b n hn]
  by_cases hj : n = j
  · simp [hj, hij]
  · simp [List.find?, hj, Ne.symm hj]

theorem Core.fill_idle {c0 : Core} (h : c0.looping = false) (c : Core) (w : W48) : c0.fill c w = c := by simp [Core.fill, h]

section
variable {c0 c : Core} {w : W48}

/-- The second slot of a taken branch: the core is at its target. -/
theorem Core.finish_jump {t : Nat} {b : Bool} (hs : c.slots = 1) (hb : c.branch = some (.jump t b)) (hl : c0.looping = false) :
    let c' := c0.finish c w
    c'.pc = t ∧ c'.slots = 0 ∧ c'.branch = none ∧ c'.stack = c.stack ∧ KeepsMem c c' ∧ KeepsRegs [] c c'
      ∧ c'.sr = if b then srSet c.sr srLA false else c.sr := by
  unfold Core.finish
  rw [Core.fill_idle hl, Core.advance_jump _ _ _ _ hs hb hl]
  cases b
  · exact ⟨rfl, rfl, rfl, rfl, ⟨rfl, rfl, rfl⟩, fun _ _ _ _ => rfl, rfl⟩
  · refine ⟨?_, ?_, ?_, ?_, setSr_keepsMem _ _, fun r _ h50 _ => Core.reg_setSr _ _ r h50, Core.setSr_sr _ _⟩
    all_goals simp [Core.ageWin, Core.setSr]

/-- The second slot of an RTI: the pc waits for the handler's end. -/
theorem Core.finish_rti {t : Nat} (hs : c.slots = 1) (hb : c.branch = some (.rti t)) (hl : c0.looping = false) :
    ∃ wi, c0.finish c w = { c with slots := 0, win := wi } := by
  unfold Core.finish
  rw [Core.fill_idle hl, Core.advance_rti _ _ _ hs hb]
  exact ⟨_, rfl⟩

/-- The end of a handler. -/
theorem Core.leaveHandler_view (c : Core) (t : Nat) : let c' := c.leaveHandler t
    c'.pc = t ∧ c'.slots = 0 ∧ c'.branch = none ∧ c'.handlers = c.handlers.drop 1 ∧ KeepsMem c c'
      ∧ (c.nest = 0 → c'.inShadow = false ∧ c'.main = c.main ∧ c'.shadow = c.shadow)
      ∧ (0 < c.nest → c'.nest = c.nest - 1 ∧ c'.inShadow = c.inShadow ∧ SrBits [(srIE, true)] c.sr c'.sr) := by
  unfold Core.leaveHandler
  dsimp only
  by_cases hn : c.nest > 0
  · rw [if_pos hn]
    refine ⟨rfl, ?_, ?_, ?_, setSr_keepsMem _ _, fun h => absurd h (Nat.ne_of_gt hn), fun _ => ⟨rfl, ?_, ?_⟩⟩
    · simp [Core.setSr]
    · simp [Core.setSr]
    · simp only [Core.setSr, Core.setBank]; split <;> rfl
    · simp [Core.setSr]
    · have h := srSet_bits c.sr srIE true
      rwa [← Core.setSr_sr _ (srSet c.sr srIE true)] at h
  · rw [if_neg hn]
    exact ⟨rfl, rfl, rfl, rfl, ⟨rfl, rfl, rfl⟩, fun _ => ⟨rfl, rfl, rfl⟩, fun h => absurd h hn⟩

/-- Another pass begins: nothing changes but the repeat cache and SR.RCA. -/
theorem Core.nextPass_view (c : Core) : let c' := c.nextPass
    c'.pc = c.pc ∧ c'.slots = c.slots ∧ c'.branch = c.branch ∧ KeepsMem c c' ∧ KeepsRegs [] c c'
      ∧ ∀ j, j < 24 → j ≠ srRCA → srBit c'.sr j = srBit c.sr j := by
  unfold Core.nextPass
  split
  · refine ⟨?_, ?_, ?_, setSr_keepsMem _ _, fun r _ h50 _ => Core.reg_setSr _ _ r h50, fun j hj hne => ?_⟩
    · exact Core.setBank_pc _ _
    · exact Core.setBank_slots _ _
    · exact Core.setBank_branch _ _
    · rw [Core.setSr_sr, srBit_srSet _ _ _ _ hj, if_neg hne]
  · exact ⟨rfl, rfl, rfl, ⟨rfl, rfl, rfl⟩, fun _ _ _ _ => rfl, fun _ _ _ => rfl⟩

/-- At the end address with passes left, the body starts again. -/
theorem Core.finish_again (hs : c.slots = 0) (hl : c0.looping = true) (hp : c0.pc = c0.leN) (hn : 1 < c0.seen hideLoop 0x51) :
    let c' := c0.finish c w
    c'.pc = c0.lsN ∧ c'.branch = c.branch ∧ c'.reg 0x51 = (c0.seen hideLoop 0x51 - 1) % 2 ^ 24 ∧ KeepsRegs [0x51] c c' ∧ KeepsMem c c'
      ∧ ∀ j, j < 24 → j ≠ srRCA → srBit c'.sr j = srBit c.sr j := by
  obtain ⟨ca, ok, fi, hfill⟩ := c0.fill_view c w
  unfold Core.finish
  rw [hfill, Core.advance_loop c0 { c with cache := ca, cacheOk := ok, filling := fi } hs hl hp, if_pos hn]
  let c1 : Core := { c with cache := ca, cacheOk := ok, filling := fi, slots := 0 }
  let c2 : Core := { c1.put 0x51 (c0.seen hideLoop 0x51 - 1) with pc := c0.lsN }
  obtain ⟨hkeep, hval, hsr, -, hbr, -⟩ := (Core.View.refl c1).put 0x51 (c0.seen hideLoop 0x51 - 1) rfl (by decide) (by simp)
  obtain ⟨npc, -, nbr, nmem, nregs, nsr⟩ := c2.nextPass_view
  refine ⟨npc, nbr.trans hbr, ?_, fun r hr h50 ho => ?_, (put_memories c1 _ _).trans nmem, fun j hj hne => (nsr j hj hne).trans ?_⟩
  · exact (nregs 0x51 rfl (by decide) (by simp)).trans (hval _ (List.mem_append_right _ (List.mem_singleton.2 rfl)))
  · exact (nregs r hr h50 (by simp)).trans (hkeep r hr h50 (by simpa using ho))
  · exact congrArg (srBit · j) hsr

/-- At the end address of the last pass, the loop ends. -/
theorem Core.finish_ends (hs : c.slots = 0) (hl : c0.looping = true) (hp : c0.pc = c0.leN) (hn : c0.seen hideLoop 0x51 ≤ 1) :
    let c' := c0.finish c w
    c'.pc = c0.leN + 2 ∧ c'.branch = c.branch ∧ c'.reg 0x51 = 0 ∧ KeepsRegs [0x51] c c' ∧ KeepsMem c c'
      ∧ SrBits [(srLA, false), (srRCA, false)] c.sr c'.sr := by
  obtain ⟨ca, ok, fi, hfill⟩ := c0.fill_view c w
  unfold Core.finish
  rw [hfill, Core.advance_loop c0 { c with cache := ca, cacheOk := ok, filling := fi } hs hl hp, if_neg (Nat.not_lt.2 hn)]
  let c1 : Core := { c with cache := ca, cacheOk := ok, filling := fi, slots := 0 }
  have hv := (Core.View.refl c1).put 0x51 0 rfl (by decide) (by simp)
  obtain ⟨hkeep, hval, hsr, -, hbr, -⟩ := hv.setSr (srSet (srSet (c1.put 0x51 0).sr srLA false) srRCA false) (by simp)
  refine ⟨rfl, hbr, hval (0x51, 0) (by simp), fun r hr h50 ho => hkeep r hr h50 (by simpa using ho),
    (put_memories c1 _ _).trans (setSr_keepsMem _ _), ?_⟩
  exact (hsr.trans (congrArg (fun sr => srSet (srSet sr srLA false) srRCA false) hv.sr)) ▸ srSet_srSet_bits c.sr false false (by decide)

end

section
variable {s : State} {k : Nat} {c : Core} {w : W48}

/-- An RTI outside the handlers of a fault and of a preemption. -/
theorem State.doRti_leaves {t : Nat} (hh : ∀ r, (s.core k).handlers ≠ 1 :: r ∧ (s.core k).handlers ≠ 4 :: r) :
    s.doRti k t = s.setCore k ((s.core k).leaveHandler t) := by
  unfold State.doRti
  dsimp only
  split
  · exact absurd ‹_› (hh _).1
  · exact absurd ‹_› (hh _).2
  · rfl

theorem State.setCore_setCore {c : Core} (c' : Core) (h : c ≠ Core.init) : (s.setCore k c).setCore k c' = s.setCore k c' :=
  congrArg (fun m => { s with cores := m }) (mset_mset Core.init s.cores k c' h)

theorem State.endInstr_of_rti {c' : Core} {t : Nat} (hf : (s.core k).finish c w = c') (hs : c'.slots = 0) (hb : c'.branch = some (.rti t)) :
    s.endInstr k w c = (s.setCore k c').doRti k t := by
  unfold State.endInstr
  simp only [hf, hs, hb]

/-- The end of an instruction in the second slot of such an RTI. -/
theorem State.endInstr_leaves {t : Nat} (hs : c.slots = 1) (hb : c.branch = some (.rti t)) (hl : (s.core k).looping = false)
    (hh : ∀ r, c.handlers ≠ 1 :: r ∧ c.handlers ≠ 4 :: r) :
    ∃ wi, s.endInstr k w c = s.setCore k (({ c with slots := 0, win := wi } : Core).leaveHandler t) := by
  obtain ⟨wi, hf⟩ := Core.finish_rti (w := w) hs hb hl
  have hne : ({ c with slots := 0, win := wi } : Core) ≠ Core.init := fun h =>
    Option.some_ne_none _ (hb.symm.trans (congrArg Core.branch h))
  refine ⟨wi, (State.endInstr_of_rti hf rfl hb).trans ((State.doRti_leaves ?_).trans ?_)⟩
  · rw [State.core_setCore]
    exact hh
  · rw [State.core_setCore, State.setCore_setCore _ hne]

end

/-- Settles O23: NOP leaves its core to the end of the instruction, which has one lemma for each of its cases. -/
theorem endOfInstruction : Obligations.EndOfInstruction := by
  unfold Obligations.EndOfInstruction
  intro s k c i hissue hinj hpc
  have hexec : exec i s = .next (s.endInstr k.val 0 c) := nop_endInstr hissue hinj
  refine ⟨fun hs hl => ?slot, fun t b hs hb ht hl => ?taken, fun t hs hb hl hh => ?rti, fun hs hb hl hp => ⟨fun hn hls => ?again, fun hn hle => ?ends⟩⟩
  case slot =>
    obtain ⟨ca, ok, fi, wi, hf⟩ := Core.finish_flow c c 0 (by omega) (fun h => absurd (hl.symm.trans h) (by decide))
    refine ⟨_, hexec.trans (congrArg Host.Outcome.next (State.endInstr_next hf ?_ (.inl ?_))),
      ⟨rfl, rfl, fun _ _ _ _ => rfl, rfl, rfl, rfl⟩, rfl, rfl, rfl⟩
    · show c.pc + 2 ≤ _
      omega
    · show c.slots - 1 ≠ 0
      omega
  case taken =>
    obtain ⟨hpc', hsl, hbr, hst, hmem, hregs, hsr⟩ := Core.finish_jump (w := 0) hs hb hl
    refine ⟨_, hexec.trans (congrArg Host.Outcome.next (State.endInstr_next rfl (Nat.le_trans (Nat.le_of_eq hpc') ht) (.inr fun t' h => ?_))),
      hpc', hsl, hbr, hst, hmem, hregs, ?_⟩
    · rw [hbr] at h
      cases h
    · have hla : srBit c.sr srLA = false := hl
      rw [hsr, hla, Bool.and_false]
      cases b
      · exact SrBits.same hla
      · exact srSet_bits c.sr srLA false
  case rti =>
    obtain ⟨wi, he⟩ := State.endInstr_leaves (w := 0) hs hb hl hh
    obtain ⟨h1, h2, h3, h4, h5, h6, h7⟩ := Core.leaveHandler_view { c with slots := 0, win := wi } t
    exact ⟨_, hexec.trans (congrArg Host.Outcome.next he), h1, h2, h3, h4, h5, h6, h7⟩
  case again =>
    obtain ⟨hpc', hbr, hlc, hregs, hmem, hsr⟩ := Core.finish_again (w := 0) hs hl hp hn
    exact ⟨_, hexec.trans (congrArg Host.Outcome.next (State.endInstr_next rfl (Nat.le_trans (Nat.le_of_eq hpc') hls) (.inr fun t h => by rw [hbr, hb] at h; cases h))),
      hpc', hlc, hregs, hmem, hsr⟩
  case ends =>
    obtain ⟨hpc', hbr, hlc, hregs, hmem, hsr⟩ := Core.finish_ends (w := 0) hs hl hp hn
    exact ⟨_, hexec.trans (congrArg Host.Outcome.next (State.endInstr_next rfl (Nat.le_trans (Nat.le_of_eq hpc') hle) (.inr fun t h => by rw [hbr, hb] at h; cases h))),
      hpc', hlc, hregs, hmem, hsr⟩

end Sys2Proof.Machine
end

section
/-! ## The end of an entry as its core sees it (R131, R132, R135) -/
namespace Sys2Proof.Machine

/-- Core `k` of `t` is `c`; the other cores and device time are those of `s`. -/
structure State.OneCore (k : Nat) (s t : State) (c : Core) : Prop where
  core : t.core k = c
  others : ∀ j, j ≠ k → t.core j = s.core j
  elapsed : t.elapsed = s.elapsed

namespace State.OneCore
variable {k : Nat} {s t u : State} {c : Core}

theorem refl (k : Nat) (s : State) : OneCore k s s (s.core k) := ⟨rfl, fun _ _ => rfl, rfl⟩

/-- What leaves the cores and device time alone. -/
theorem frame (h : OneCore k s t c) {W : Nat} (hf : State.Fr W t u) (hcores : W.testBit 4 = false) (htime : W.testBit 1 = false) :
    OneCore k s u c := by
  have hc : ∀ j, u.core j = t.core j := fun j => by rw [State.core, hf.cores hcores, State.core]
  exact ⟨(hc k).trans h.core, fun j hj => (hc j).trans (h.others j hj), (hf.elapsed htime).trans h.elapsed⟩

theorem setCore (h : OneCore k s t c) (c' : Core) : OneCore k s (t.setCore k c') c' :=
  ⟨State.core_setCore t k c', fun j hj => (State.core_setCore_ne t c' hj).trans (h.others j hj), h.elapsed⟩

theorem withdraw (h : OneCore k s t c) : OneCore k s (t.withdraw k) { c with preReq := false } := by
  obtain ⟨hcore, hothers, helapsed⟩ := State.withdraw_core t k
  exact ⟨h.core ▸ hcore, fun j hj => (hothers j hj).trans (h.others j hj), helapsed.trans h.elapsed⟩

theorem clearRun (h : OneCore k s t c) :
    OneCore k s (t.clearRun k) { c with run := none, busyNs := c.busyNs + (s.elapsed - c.busyFrom) } := by
  unfold State.clearRun
  dsimp only
  rw [h.core, h.elapsed]
  exact h.setCore _

theorem abortRun (h : OneCore k s t c) :
    OneCore k s (t.abortRun k) { c with ovt := 0, run := none, busyNs := c.busyNs + (s.elapsed - c.busyFrom) } := by
  unfold State.abortRun
  rw [h.core]
  exact (h.setCore _).clearRun

theorem block (h : OneCore k s t c) : OneCore k s (t.blockCore k) (c.block s.elapsed) := by
  unfold State.blockCore
  rw [h.core, h.elapsed]
  exact h.setCore _

/-- A commit takes the entry from its core. -/
theorem commitRun (h : OneCore k s t c) {r : Running} (hr : c.run = some r) (imm : Nat) :
    OneCore k s (t.commitRun k imm) { c with preReq := false, run := none, busyNs := c.busyNs + (s.elapsed - c.busyFrom) } := by
  unfold State.commitRun
  rw [h.core, hr]
  dsimp only
  split
  · exact h.withdraw.clearRun.frame (State.endCancelled_fr _ _ _ (.refl _)) rfl rfl
  · exact (h.withdraw.frame (State.writeMap_fr _ _ _ (.refl _)) rfl rfl).clearRun.frame (State.commitEffects_fr _ _ _ _ _ (.refl _)) rfl rfl

end State.OneCore

theorem execWaitWork_blocks {s : State} {k : Fin 144} (hissue : s.canIssue k.val (word48 0x08 0) = true) (hok : controlOk (s.core k.val) = true)
    (hbank : (s.core k.val).inShadow = false) (hrun : (s.core k.val).run = none) : exec (.waitWork k 0) s
      = .next (s.setCore k.val { s.core k.val with waiting := true, waitSince := s.elapsed, waitPc := (s.core k.val).pc, win := [] }) :=
  (if_pos hissue).trans (if_pos ⟨rfl, hok, hbank, hrun⟩)

/-- A control instruction past its checks: its effect, then the step to the next word. -/
theorem State.control_straight {s : State} {k : Fin 144} {op : Nat} {f : BitVec 40} {act : State → State} {c : Core} (hS : Straight s k op f)
    (h : OneCore k s (act (s.setCore k { s.core k with win := [] })) c) (hl : c.looping = false) (hs : c.slots = 0) (hb : c.branch = none)
    (hp : c.pc < 0x7FFD) :
    s.control k op f true act = (act (s.setCore k { s.core k with win := [] })).setCore k c.next := by
  unfold State.control
  rw [if_pos hS.issues, if_pos rfl]
  dsimp only
  rw [h.core]
  exact State.endInstr_straight (by rw [h.core]; exact hl) hs hb hp

/-- COMMIT's core: the entry is gone, its time is counted as busy, and the core goes on. -/
theorem execCommit_core {s : State} {k : Fin 144} {f : BitVec 40} {r : Running} (hf : fbits f 39 16 = 0) (hr : (s.core k).run = some r)
    (hbank : (s.core k).inShadow = false) (hS : Straight s k 0x09 f) :
    ∃ t, exec (.commit k f) s = .next t ∧ State.OneCore k s t ({ s.core k with
      win := [], preReq := false, run := none, busyNs := (s.core k).busyNs + (s.elapsed - (s.core k).busyFrom) } : Core).next := by
  obtain ⟨-, -, hslots, hbr, hloop, hpc⟩ := id hS
  have hz : fbits f 39 24 = 0 ∧ fbits f 23 16 = 0 := by
    simp only [fbits, bits] at hf ⊢
    omega
  have hok : (fbits f 39 24 = 0 && fbits f 23 16 = 0 && controlOk (s.core k) && !(s.core k).inShadow && (s.core k).run.isSome) = true := by
    simp [hz.1, hz.2, controlOk_straight hS, hbank, hr]
  have h := ((State.OneCore.refl k s).setCore { s.core k with win := [] }).commitRun hr (fbits f 15 0)
  refine ⟨_, congrArg Host.Outcome.next ((congrArg (fun ok => s.control k 0x09 f ok fun s => s.commitRun k (fbits f 15 0)) hok).trans
    (State.control_straight hS h hloop hslots hbr hpc)), h.setCore _⟩

/-- A YIELD counts the end of a PREEMPT handler and withdraws a PREEMPT. -/
def State.yieldStart (s : State) (k : Nat) : State :=
  (if (s.core k).handlers.contains 4 then s.incS F.TH_REPLAY_CNT_PREEMPTS 1 else s).withdraw k

/-- What YIELD leaves of the device before the core blocks: the entry is aborted and returned, or its cancel completed. -/
def State.yieldEnd (s : State) (k : Nat) : State :=
  match (s.core k).run with
  | none => s.yieldStart k
  | some r =>
    if r.e.cancel then ((s.yieldStart k).abortRun k).endCancelled r.e (some k) else ((s.yieldStart k).abortRun k).returnEntry r.e

theorem execYield_eq {s : State} {k : Fin 144} (hissue : s.canIssue k.val (word48 0x0A 0) = true) (hok : controlOk (s.core k.val) = true) :
    exec (.yield k 0) s
      = .next (((s.yieldEnd k).setCore k { (s.yieldEnd k).core k with waitPc := (s.core k).pc }).blockCore k) :=
  (if_pos hissue).trans (if_pos ⟨rfl, hok⟩)

theorem State.yieldStart_core (s : State) (k : Nat) : State.OneCore k s (s.yieldStart k) { s.core k with preReq := false } := by
  unfold State.yieldStart
  split
  · exact ((State.OneCore.refl k s).frame (State.incS_fr _ _ _ (.refl _)) rfl rfl).withdraw
  · exact (State.OneCore.refl k s).withdraw

/-- A YIELD takes the entry from its core and leaves the memories. -/
theorem State.yieldEnd_core (s : State) (k : Nat) : ∃ c, State.OneCore k s (s.yieldEnd k) c ∧ c.run = none ∧ KeepsMem (s.core k) c := by
  have h := s.yieldStart_core k
  unfold State.yieldEnd
  split
  · next hr => exact ⟨_, h, hr, rfl, rfl, rfl⟩
  · split
    · exact ⟨_, h.abortRun.frame (State.endCancelled_fr _ _ _ (.refl _)) rfl rfl, rfl, rfl, rfl, rfl⟩
    · exact ⟨_, h.abortRun.frame (State.returnEntry_fr _ _ (.refl _)) rfl rfl, rfl, rfl, rfl, rfl⟩

theorem State.queueAt_setQueue_same (s : State) (q : Nat) (l : List Entry) : (s.setQueue q l).queueAt q = l := mget_mset_same ..

/-- A running entry that is not to be cancelled is at the head of its queue again. -/
theorem State.queueAt_yieldEnd {s : State} {k : Nat} {r : Running} (hr : (s.core k).run = some r) (hc : r.e.cancel = false) :
    ∃ l, (s.yieldEnd k).queueAt r.e.queue = { r.e with since := s.elapsed } :: l := by
  have he : s.yieldEnd k = ((s.yieldStart k).abortRun k).returnEntry r.e := by
    unfold State.yieldEnd
    rw [hr]
    exact if_neg (Bool.eq_false_iff.1 hc)
  rw [he, ← (s.yieldStart_core k).abortRun.elapsed]
  exact ⟨_, State.queueAt_setQueue_same _ _ _⟩

/-- Settles O24: what COMMIT and YIELD do around their core reaches no core (frame lemmas), so their core is followed step by step. -/
theorem nodeEnd : Obligations.NodeEnd := by
  unfold Obligations.NodeEnd
  intro s k f c
  refine ⟨fun hissue hok hbank hrun => ?_, fun r hf hr hbank hS => ?_, fun hissue hok => ?_⟩
  · exact ⟨_, execWaitWork_blocks hissue hok hbank hrun, rfl, rfl, rfl, rfl, rfl, fun _ _ _ _ => rfl, rfl, rfl, rfl⟩
  · obtain ⟨t, hexec, hcore, hothers, -⟩ := execCommit_core hf hr hbank hS
    refine ⟨t, hexec, ?_⟩
    rw [hcore]
    exact ⟨rfl, ⟨rfl, rfl, fun _ _ _ _ => rfl, rfl, rfl, rfl⟩, rfl, rfl, hothers⟩
  · obtain ⟨c1, h, hrun, hmem⟩ := s.yieldEnd_core k
    have hexec := execYield_eq hissue hok
    rw [h.core] at hexec
    obtain ⟨hcore, hothers, -⟩ := (h.setCore { c1 with waitPc := c.pc }).block
    refine ⟨_, hexec, ?_⟩
    rw [hcore]
    exact ⟨hrun, rfl, rfl, rfl, rfl, rfl, hmem, hothers, fun r hr hc => State.queueAt_yieldEnd hr hc⟩

end Sys2Proof.Machine
end

section
/-! ## The answer of a request (R133, R153-R156, R170) -/
namespace Sys2Proof.Machine

/-- A core with an ENQ's answer in register `d` and in Z and N. -/
def Core.answer (c : Core) (d v : Nat) : Core := (c.wr d v .load).setSr (srZN (c.wr d v .load).sr v)

theorem Core.answer_done {c : Core} {d v : Nat} (hd : rc24 d = true) : AluDone d v c (c.answer d v).next := by
  obtain ⟨hv, h50, -⟩ := rc24_valid hd
  obtain ⟨hkeep, hval, hsr, -⟩ := ((Core.View.refl c).wr d v .load hv h50 (by simp)).setSr (srZN (c.wr d v .load).sr v) (by simpa using h50)
  refine ⟨hval (d, v) (by simp), fun r hr hr50 ho => hkeep r hr hr50 (by simpa using ho), ?_⟩
  have hbits := srZN_bits c.sr v
  rw [show c.sr = (c.wr d v .load).sr from ((Core.put_sr _ d v h50).trans (Core.note_sr c d .load)).symm] at hbits ⊢
  exact hsr ▸ hbits

theorem Core.answer_rest (c : Core) (d v : Nat) : (c.answer d v).pc = c.pc ∧ (c.answer d v).slots = c.slots
    ∧ (c.answer d v).branch = c.branch ∧ (c.answer d v).run = c.run := by
  obtain ⟨hpc, hslots, hbr, -, -, -, -, hrun⟩ := Core.put_rest (c.note d .load) d v
  simp only [Core.answer, Core.wr, Core.setSr, Core.setBank_pc, Core.setBank_slots, Core.setBank_branch, Core.setBank_run]
  exact ⟨hpc, hslots, hbr, hrun⟩

/-- What an accepted request reserves for a node, or makes visible at once outside one. -/
def State.enqTake (s : State) (k : Nat) (x : Resv) : State :=
  match (s.core k).run with
  | some r => s.enqReserve k r x
  | none => s.enqNow k x

/-- A core whose entry, if it runs one, holds one more reservation. -/
def Core.reserve (c : Core) (x : Resv) : Core := { c with run := c.run.map fun r => { r with res := r.res ++ [x] } }

theorem State.enqTake_core (s : State) (k : Nat) (x : Resv) : State.OneCore k s (s.enqTake k x) ((s.core k).reserve x) := by
  unfold State.enqTake
  split
  · next r hr =>
    have hc : (s.core k).reserve x = { s.core k with run := some { r with res := r.res ++ [x] } } := by rw [Core.reserve, hr, Option.map_some]
    rw [hc]
    exact ((State.OneCore.refl k s).setCore _).frame (State.setFld_fr _ _ _ (State.setFld_fr _ _ _ (.refl _))) rfl rfl
  · next hr =>
    have hc : (s.core k).reserve x = s.core k := by rw [Core.reserve, hr, Option.map_none, ← hr]
    rw [hc]
    exact (State.OneCore.refl k s).frame (State.enqNow_fr _ _ _ (.refl _)) rfl rfl

section
variable {s : State} {k : Fin 144} {f : BitVec 40} {mine : Nat → Bool} {x : Resv}

/-- The checks that an ENQ has passed. -/
structure EnqChecked (s : State) (k : Fin 144) (f : BitVec 40) (mine : Nat → Bool) : Prop where
  straight : Straight s k 0x0B f
  legal : iLegal f = true
  dest : rc24 (sD f) = true
  quad : fbits f 23 0 ≤ 1
  mine : mine (nth ((s.core k).enqWords (fbits f 23 0)) 0 % 16) = true

theorem EnqChecked.accepted (h : EnqChecked s k f mine) {p : Bool} (hd : s.enqDecide k ((s.core k).enqWords (fbits f 23 0)) = some (.ok p, some x)) :
    s.enqInstr k f mine = (s.enqTake k x).enqResult k (word48 0x0B f) f 0 := by
  unfold State.enqInstr State.enqTake
  cases hr : (s.core k).run <;>
    simp only [h.straight.issues, h.legal, h.dest, h.quad, h.mine, hd, hr, decide_true, Bool.and_self, if_true]

theorem EnqChecked.malformed (h : EnqChecked s k f mine) {o : Option Resv}
    (hd : s.enqDecide k ((s.core k).enqWords (fbits f 23 0)) = some (.malformed, o)) :
    s.enqInstr k f mine = s.countMalformed.enqResult k (word48 0x0B f) f 1 := by
  unfold State.enqInstr
  simp only [h.straight.issues, h.legal, h.dest, h.quad, h.mine, hd, decide_true, Bool.and_self, if_true]

theorem EnqChecked.refused (h : EnqChecked s k f mine) {v : Decide} {o : Option Resv}
    (hd : s.enqDecide k ((s.core k).enqWords (fbits f 23 0)) = some (v, o)) (hv : v ∈ [Decide.edgeFull, .poolFull, .queueFull, .window]) :
    s.enqInstr k f mine = ((s.incS F.TH_REFUSE_CNT_CORE 1).noteRefusal v).enqResult k (word48 0x0B f) f 1 := by
  unfold State.enqInstr
  simp only [h.straight.issues, h.legal, h.dest, h.quad, h.mine, hd, decide_true, Bool.and_self, if_true]
  cases v with
  | ok => simp at hv
  | malformed => simp at hv
  | edgeFull | poolFull | queueFull | window => rfl

/-- The answer of a checked ENQ, from the state `u` that its request left. -/
theorem EnqChecked.answered (h : EnqChecked s k f mine) {u : State} {c : Core} (hu : State.OneCore k s u c) (v : Nat)
    (hc : c.looping = (s.core k).looping ∧ c.slots = (s.core k).slots ∧ c.branch = (s.core k).branch ∧ c.pc = (s.core k).pc) :
    u.enqResult k (word48 0x0B f) f v = u.setCore k (c.answer (sD f) v).next := by
  obtain ⟨-, -, hslots, hbr, hloop, hpc⟩ := h.straight
  obtain ⟨hl, hs, hb, hp⟩ := hc
  obtain ⟨apc, aslots, abr, -⟩ := c.answer_rest (sD f) v
  unfold State.enqResult
  rw [hu.core]
  exact State.endInstr_straight (by rw [hu.core]; exact hl.trans hloop) (aslots.trans (hs.trans hslots)) (abr.trans (hb.trans hbr))
    (apc.trans hp ▸ hpc)

end

theorem State.fld_noteRefusal_ne (s : State) (v : Decide) (g : Fld)
    (h : ∀ f ∈ [F.TH_EVENT_POOL_FULL, F.TH_EVENT_QUEUE_FULL, F.TH_EVENT_WINDOW_FULL], f.key ≠ g.key) : (s.noteRefusal v).fld g = s.fld g := by
  cases v with
  | poolFull => exact State.fld_setFlag_ne _ _ _ _ (h _ (by simp))
  | queueFull => exact State.fld_setFlag_ne _ _ _ _ (h _ (by simp))
  | window => exact State.fld_setFlag_ne _ _ _ _ (h _ (by simp))
  | ok | edgeFull | malformed => rfl

/-- Each of the three rows takes the requests of its own OPs. -/
theorem exec_enq {s : State} {k : Fin 144} {f : BitVec 40} {i : Instr} {op : Nat}
    (h : i = .enqToken k f ∧ op ≠ 1 ∧ op ≠ 2 ∨ i = .enqItem k f ∧ op = 1 ∨ i = .enqWork k f ∧ op = 2) :
    ∃ mine : Nat → Bool, mine op = true ∧ exec i s = .next (s.enqInstr k f mine) := by
  rcases h with ⟨rfl, h1, h2⟩ | ⟨rfl, h⟩ | ⟨rfl, h⟩
  · exact ⟨fun op => op ≠ 1 && op ≠ 2, by simp [h1, h2], rfl⟩
  · exact ⟨fun op => op = 1, by simp [h], rfl⟩
  · exact ⟨fun op => op = 2, by simp [h], rfl⟩

/-- Settles O26: an ENQ past its checks is what its request leaves of the device, followed by the answer in its core. -/
theorem requestResults : Obligations.RequestResults := by
  unfold Obligations.RequestResults
  intro s k f i c d ws op hi hlegal hd hq hS
  obtain ⟨mine, hmine, hexec⟩ := exec_enq (s := s) hi
  have h : EnqChecked s k f mine := ⟨hS, hlegal, hd, hq, hmine⟩
  refine ⟨fun p x hdec => ?accepted, fun x hdec => ?malformed, fun v x hdec hv => ?refused⟩
  case accepted =>
    have hu := s.enqTake_core k x
    obtain ⟨hpc, -, -, hrun⟩ := (c.reserve x).answer_rest d 0
    refine ⟨_, hexec.trans (congrArg Host.Outcome.next ((h.accepted hdec).trans (h.answered hu 0 ⟨rfl, rfl, rfl, rfl⟩))), ?_⟩
    rw [State.core_setCore]
    exact ⟨Core.answer_done (c := c.reserve x) hd, congrArg (· + 2) hpc, hrun⟩
  case malformed =>
    have hu := (State.OneCore.refl k s).frame (State.countMalformed_fr _ (.refl _)) rfl rfl
    obtain ⟨hpc, -, -, hrun⟩ := c.answer_rest d 1
    refine ⟨_, hexec.trans (congrArg Host.Outcome.next ((h.malformed hdec).trans (h.answered hu 1 ⟨rfl, rfl, rfl, rfl⟩))), ?_⟩
    rw [State.core_setCore]
    exact ⟨Core.answer_done hd, congrArg (· + 2) hpc, hrun⟩
  case refused =>
    have hu := ((State.OneCore.refl k s).frame (State.incS_fr s F.TH_REFUSE_CNT_CORE 1 (.refl _)) rfl rfl).frame
      (State.noteRefusal_fr _ v (.refl _)) rfl rfl
    obtain ⟨hpc, -, -, hrun⟩ := c.answer_rest d 1
    refine ⟨_, hexec.trans (congrArg Host.Outcome.next ((h.refused hdec hv).trans (h.answered hu 1 ⟨rfl, rfl, rfl, rfl⟩))), ?_⟩
    rw [State.core_setCore]
    exact ⟨Core.answer_done hd, congrArg (· + 2) hpc, hrun,
      (State.fld_noteRefusal_ne _ v _ (by decide)).trans (State.fld_incS_same _ _ _ rfl)⟩

end Sys2Proof.Machine
end

section
/-! ## Staging, rebuilds and counters of Trailhead (R149, R172, R175, R177, R179, R197) -/
namespace Sys2Proof.Machine

/-! ### Sparse maps and lists -/

theorem exists_mem_of_mem_mget {α : Type} {m : SMap (List α)} {q : Nat} {x : α} (h : x ∈ mget [] m q) : ∃ p ∈ m, x ∈ p.2 := by
  induction m with
  | nil => cases h
  | cons e r ih =>
    by_cases he : e.1 = q
    · exact ⟨e, List.mem_cons_self, by simpa [mget, mfind, he] using h⟩
    · obtain ⟨p, hp, hx⟩ := ih (by simpa [mget, mfind, he] using h)
      exact ⟨p, List.mem_cons_of_mem _ hp, hx⟩

/-- A map cut down to some of its keys reads the default at the others. -/
theorem mget_mkeep {α : Type} (d : α) (p : Nat → Bool) (m : SMap α) (a : Nat) : mget d (mkeep p m) a = if p a then mget d m a else d := by
  induction m with
  | nil => exact (ite_self d).symm
  | cons e r ih =>
    obtain ⟨k, v⟩ := e
    by_cases hk : k = a
    · subst hk
      by_cases hp : p k = true
      · simp [mget, mkeep, mfind, hp]
      · simpa [mget, mkeep, mfind, hp] using ih
    · by_cases hp : p k = true <;> simpa [mget, mkeep, mfind, hp, hk] using ih

/-- The least time of held items is at most every bound that the start or one of the times keeps. -/
theorem foldl_minTime_le {l : List Held} {a n : Nat} (h : a ≤ n ∨ ∃ x ∈ l, x.time ≤ n) : l.foldl (fun acc x => min acc x.time) a ≤ n := by
  induction l generalizing a with
  | nil => simpa using h
  | cons y l ih =>
    refine ih ?_
    rcases h with ha | ⟨x, hx, hn⟩
    · exact .inl (Nat.le_trans (Nat.min_le_left ..) ha)
    · rcases List.mem_cons.1 hx with rfl | hx
      · exact .inl (Nat.le_trans (Nat.min_le_right ..) hn)
      · exact .inr ⟨x, hx, hn⟩

/-! ### Staging (R197, R198) -/

/-- What the read map of an entry's node stages: the place of each extent in the read area, its words, and the context ranges it reads. -/
def State.stageParts (s : State) (e : Entry) (ch : Chan) : List (Nat × List Nat × List (Nat × Nat)) :=
  (layExtents 0 ((ch.node e.node).rd.map fun x => (x, if x.kind = 0 then 0 else extWords x x.len))).map fun p =>
    (p.2.1, s.stageExtent ch e.frame p.1)

/-- Puts staged extents into the read area of a cluster's slot. -/
def State.putParts (s : State) (c k : Nat) (parts : List (Nat × List Nat × List (Nat × Nat))) : State :=
  parts.foldl (fun t p => t.putCsm c (t.slotRead c k + p.1) p.2.1) s

/-- The first staging of an entry that meets no poison: slots of the jitter buffer are marked, the extents are put into the read area,
their bytes are counted, and the entry becomes ready. -/
theorem State.stage_clean {s : State} {e : Entry} {k : Nat} {ch : Chan} (hch : s.chan e.chan = some ch) (hfirst : e.restage = false)
    (hclean : ∀ p ∈ s.stageParts e ch, ∀ r ∈ p.2.2, s.poisoned r.1 r.2 = false) :
    ∃ marks n e', e'.ready = true ∧ e'.slot = some k ∧ s.stage e k
      = ((((s.jbMark ch marks).putParts e.cluster k (s.stageParts e ch)).portBytes e.cluster n).updEntry e').preemptScan e.cluster := by
  have hbad : ((s.stageParts e ch).flatMap fun p => p.2.2).find? (fun r => s.poisoned r.1 r.2) = none := by
    rw [List.find?_eq_none]
    intro r hr
    obtain ⟨p, hp, hr⟩ := List.mem_flatMap.1 hr
    exact Bool.eq_false_iff.1 (hclean p hp r hr)
  unfold State.stageParts at hbad
  unfold State.stage
  simp only [hch, hbad, hfirst, Bool.false_and, Bool.false_eq_true, false_and, if_false]
  exact ⟨_, _, _, rfl, rfl, rfl⟩

/-- The extents go to the places that the slot's read area had before, whatever else differs between the two states. -/
theorem State.mem_putParts {c k a : Nat} (parts : List (Nat × List Nat × List (Nat × Nat))) {s t : State} (hmem : s.mem = t.mem)
    (ha : s.slotRead c k = a) : (s.putParts c k parts).mem = (parts.foldl (fun x p => x.putCsm c (a + p.1) p.2.1) t).mem := by
  induction parts generalizing s t with
  | nil => exact hmem
  | cons p parts ih =>
    refine ih (s := s.putCsm c (s.slotRead c k + p.1) p.2.1) ?_ ha
    simp only [ha, State.putCsm, hmem]

theorem State.putParts_fr {W : Nat} {s₀ : State} (s : State) (c k : Nat) (parts : List (Nat × List Nat × List (Nat × Nat)))
    (hs : State.Fr W s₀ s) (hw : partSub 0x20 W = true) : State.Fr W s₀ (s.putParts c k parts) :=
  fr_foldl (fun _ _ h => State.putCsm_fr _ _ _ _ h hw) hs

theorem State.slotRead_congr {s t : State} (h : t.regs = s.regs) (c k : Nat) : t.slotRead c k = s.slotRead c k := by
  unfold State.slotRead State.readWords State.writeWords State.fld
  rw [h]

theorem exec_stagingComplete_eq {s : State} {c : Fin 16} {n k : Nat} {e : Entry} (hin : s.clusterIn c = true)
    (hst : s.fld (F.PW_CL_STATE c) ≠ 2) (he : (s.unstaged c)[n]? = some e) (hk : e.slot = some k) :
    exec (.stagingComplete c n []) s = .next (s.stage e k) := by
  show execStagingComplete c n [] s = _
  unfold execStagingComplete
  rw [if_pos ⟨hin, hst⟩]
  simp only [he, hk]
  rfl

/-! ### Rebuilds of queues (R177) -/

theorem exec_queueRebuild_one {s : State} {c : Fin 16} (h : c.val < s.clusters) :
    exec (.queueRebuild c false) s = .next (s.raise .corrected 0x03 c Config.codePointerCopy.toNat c 0 0) :=
  if_pos h

/-- A rebuild as it starts: the cluster's entries are gone and the work lost is counted. -/
def State.rebuildStart (s : State) (c : Nat) : State :=
  let d := s.dropCluster c
  let t := d.1.incS F.TH_REFUSE_CNT_HW d.2
  { t with th := { t.th with rebuild := some (c, t.elapsed, d.2) } }

theorem exec_queueRebuild_both {s : State} {c : Fin 16} (hr : s.th.rebuild = none) (hin : s.clusterIn c = true) :
    exec (.queueRebuild c true) s = .next (((s.rebuildStart c).setFlag F.TH_STATUS_REBUILDING true).setFld F.TH_STATUS_REBUILD_CL c) := by
  have hc : c.val < s.clusters := of_decide_eq_true (Bool.and_eq_true_iff.1 hin).1
  have hgo : ¬(s.th.rebuild.isSome = true ∨ s.clusterIn c = false) := by simp [hr, hin]
  show execQueueRebuild c true s = _
  unfold execQueueRebuild
  rw [if_pos hc, if_neg (by decide), if_neg hgo]
  rfl

/-- Entries that stand in a queue after some were dropped stood in one before, and are none of the dropped ones. -/
theorem State.mem_queueAt_dropQueued {s : State} {p : Entry → Bool} {q : Nat} {e : Entry} (h : e ∈ (s.dropQueued p).queueAt q) :
    p e = false ∧ e ∈ s.queued := by
  obtain ⟨x, hx, he⟩ := exists_mem_of_mem_mget h
  obtain ⟨y, hy, hyx⟩ := List.mem_filterMap.1 hx
  dsimp only at hyx
  split at hyx
  · cases hyx
  · cases hyx
    obtain ⟨hey, hp⟩ := List.mem_filter.1 he
    exact ⟨by simpa using hp, List.mem_flatMap.2 ⟨y, hy, hey⟩⟩

/-- Freeing the reservations for a cluster's queues moves no entry. -/
theorem State.th_dropCluster (s : State) (c : Nat) : (s.dropCluster c).1.th = (s.dropQueued fun e => e.cluster = c).th := by
  unfold State.dropCluster
  refine foldl_keeps State.th _ ?_ _ _
  exact fun _ _ => rfl

theorem State.rebuildStart_queues (s : State) (c : Nat) :
    (s.rebuildStart c).th.queues = (s.dropQueued fun e => e.cluster = c).th.queues := by
  have hcount := (State.incS_fr (s.dropCluster c).1 F.TH_REFUSE_CNT_HW (s.dropCluster c).2 (.refl _)).th rfl
  exact (congrArg Trail.queues (hcount.trans (s.th_dropCluster c)) :)

theorem State.rebuildStart_fr (s : State) (c : Nat) : State.Fr 0x8058 s (s.rebuildStart c) :=
  fr_mk rfl rfl rfl rfl (State.incS_fr _ F.TH_REFUSE_CNT_HW (s.dropCluster c).2 (State.dropCluster_fr s c (.refl s) rfl) rfl) (h6 := .inl rfl)

theorem State.rebuildStart_rebuild (s : State) (c : Nat) : ∃ n, (s.rebuildStart c).th.rebuild = some (c, s.elapsed, n) :=
  ⟨_, congrArg (fun t => some (c, t, _)) ((s.rebuildStart_fr c).elapsed rfl)⟩

/-- The end of a rebuild: behind the making of entries and the reposting of jobs, the status clears and the event is reported. -/
theorem exec_queueRebuildEnd_eq {s : State} {c t lost : Nat} (h : s.th.rebuild = some (c, t, lost)) :
    ∃ d, exec .queueRebuildEnd s
      = .next (((((({ s with th := { s.th with rebuild := none } } : State).rebuildEntries c).repost).setFlag F.TH_STATUS_REBUILDING false).event
          F.TH_EVENT_REBUILD .contained c c d lost).preemptScan c) := by
  show ∃ d, execQueueRebuildEnd s = _
  unfold execQueueRebuildEnd
  rw [h]
  exact ⟨_, rfl⟩

/-! ### Stalled flows, late media tokens and counters (R149, R172, R175, R179) -/

theorem exec_flowStall_eq {s : State} {f : BitVec 14} (hheld : (s.flow f.toNat).held ≠ []) (hst : (s.flow f.toNat).stalled = false)
    (hms : s.fld F.TH_CTRL_STALL_MS ≠ 0) (hmoved : (s.flow f.toNat).moved + s.fld F.TH_CTRL_STALL_MS * 1000000 ≤ s.elapsed)
    (hold : ∃ h ∈ (s.flow f.toNat).held, h.time + s.fld F.TH_CTRL_STALL_MS * 1000000 ≤ s.elapsed) :
    exec (.flowStall f) s = .next ((s.setFlow f.toNat { s.flow f.toNat with stalled := true }).event F.TH_EVENT_STALL .warn 0 f.toNat 0 0) := by
  obtain ⟨h, hh, ht⟩ := hold
  have hle := foldl_minTime_le (a := s.elapsed) (.inr ⟨h, hh, Nat.le_sub_of_add_le ht⟩)
  exact if_pos ⟨hheld, hst, hms, by omega⟩

theorem exec_mediaTokenTimeout_eq {s : State} {n : BitVec 13} {ch : Chan} {f : Nat} (hch : s.chan n.toNat = some ch)
    (hdue : ch.mediaDue = some f) (htime : ch.nextB + 20000 ≤ s.nowNs + frameNs ch.frame) (hmode : s.mode ≠ 10) :
    exec (.mediaTokenTimeout n) s = .next ((s.setChan n.toNat { ch with mediaDue := none }).sourceTokens n.toNat 17 f) := by
  show execMediaTokenTimeout n s = _
  unfold execMediaTokenTimeout
  simp only [hch, hdue]
  exact if_pos ⟨htime, hmode⟩

theorem State.mget_clrHist (s : State) (q b : Nat) : mget 0 (s.clrHist q).th.hist b = if b / 16 = q then 0 else mget 0 s.th.hist b := by
  refine (mget_mkeep 0 (fun a => decide (a / 16 ≠ q)) s.th.hist b).trans ?_
  by_cases h : b / 16 = q <;> simp [h]

/-- Settles O29: each event is one operation or a short chain of them, whose effect is read off their lemmas. -/
theorem trailheadEvents : Obligations.TrailheadEvents := by
  unfold Obligations.TrailheadEvents
  intro s c
  refine ⟨?staging, fun hc => ?pointerCopy, fun hr hin => ?rebuild,
    fun r hr => ?rebuildEnd, fun f hheld hst hms hmoved hold => ?stall, fun n ch f hch hdue htime hmode => ?mediaToken, ?restart,
    fun q hq => ?histogram⟩
  case staging =>
    intro n e k ch plan parts hin hst he hk hch hfirst hclean
    obtain ⟨marks, n', e', -, -, hstage⟩ := State.stage_clean (k := k) hch hfirst hclean
    have hmark := State.jbMark_fr s ch marks (.refl s)
    have hput := State.putParts_fr (s.jbMark ch marks) e.cluster k (s.stageParts e ch) (W := 0x20) (.refl _) rfl
    have hend : State.Fr 0x8158 _ _ := State.preemptScan_fr _ e.cluster (State.updEntry_fr _ e' (State.portBytes_fr
      ((s.jbMark ch marks).putParts e.cluster k (s.stageParts e ch)) e.cluster n' (.refl _) rfl) rfl) rfl
    refine ⟨_, (exec_stagingComplete_eq hin hst he hk).trans (congrArg Host.Outcome.next hstage), ?_, ?_, ?_⟩
    · exact (hend.mem rfl).trans (State.mem_putParts _ (hmark.mem rfl) (State.slotRead_congr (hmark.regs rfl) _ _))
    · exact (hend.cp rfl).trans ((hput.cp rfl).trans (hmark.cp rfl))
    · exact (hend.ep rfl).trans ((hput.ep rfl).trans (hmark.ep rfl))
  case pointerCopy =>
    obtain ⟨-, -, -, hcores, -, hth, -⟩ := s.raise_keeps .corrected 0x03 c Config.codePointerCopy.toNat c 0 0
    exact ⟨_, exec_queueRebuild_one hc, hth, hcores, fun g hg _ => State.fld_raise _ _ _ _ _ _ _ _ g (by simpa [outRl] using hg) (.inl rfl)⟩
  case rebuild =>
    have hfr := State.setFld_fr _ F.TH_STATUS_REBUILD_CL c (State.setFlag_fr _ F.TH_STATUS_REBUILDING true (s.rebuildStart_fr c) rfl) rfl
    refine ⟨_, exec_queueRebuild_both hr hin, ?_, ?_, s.rebuildStart_rebuild c, fun q e he => ?_, hfr.chans rfl, hfr.mem rfl⟩
    · rw [State.fld_setFld_ne _ _ _ _ (by decide), State.fld_setFlag_same _ _ _ (by decide)]
      rfl
    · rw [State.fld_setFld_same]
      exact Nat.mod_eq_of_lt c.isLt
    · have he : e ∈ mget [] (s.rebuildStart c).th.queues q := he
      rw [s.rebuildStart_queues c] at he
      obtain ⟨hne, hmem⟩ := State.mem_queueAt_dropQueued he
      exact ⟨of_decide_eq_false hne, hmem⟩
  case rebuildEnd =>
    obtain ⟨d, hexec⟩ := exec_queueRebuildEnd_eq hr
    refine ⟨_, hexec, ?_, ?_⟩
    · rw [State.fld_preemptScan _ _ _ rfl, State.fld_event_same _ _ _ _ _ _ _ rfl (by decide) (by decide)]
    · rw [State.fld_preemptScan _ _ _ rfl, State.fld_event_ne _ _ _ _ _ _ _ _ rfl (by decide) (by decide),
        State.fld_setFlag_same _ _ _ (by decide)]
      rfl
  case stall =>
    have hfr := State.event_fr (s.setFlow f.toNat { s.flow f.toNat with stalled := true }) F.TH_EVENT_STALL .warn 0 f.toNat 0 0 (.refl _)
    have hflow := State.flow_congr (hfr.th rfl)
    refine ⟨_, exec_flowStall_eq hheld hst hms hmoved hold, ?_, ?_, fun g hg hne => ?_, fun g hg => ?_, hfr.chans rfl⟩
    · rw [hflow, State.flow_setFlow_same]
    · exact State.fld_event_same _ _ _ _ _ _ _ rfl (by decide) (by decide)
    · rw [State.fld_event_ne _ _ _ _ _ _ _ _ (by simpa [outRl] using hg) (by decide) (hne _ (by simp))]
      rfl
    · rw [hflow, State.flow_setFlow_ne _ _ hg]
  case mediaToken => exact exec_mediaTokenTimeout_eq hch hdue htime hmode
  case restart =>
    refine ⟨s.poolRestart, rfl, ?_, State.fld_setFld_same _ _ _, fun g hg => ?_, rfl⟩
    · exact (State.fld_setFld_ne _ _ _ _ (by decide)).trans (State.fld_setFld_same _ _ _)
    · exact (State.fld_setFld_ne _ _ _ _ (hg _ (by simp))).trans (State.fld_setFld_ne _ _ _ _ (hg _ (by simp)))
  case histogram =>
    exact ⟨s.clrHist q.toNat, congrArg Host.Outcome.next (if_pos hq), s.mget_clrHist q.toNat, rfl, rfl⟩

end Sys2Proof.Machine
end

section
/-! ## Page moves, the pooled window and the cache ways (R182, R183, R187, R212) -/
namespace Sys2Proof.Machine

/-! ### Entries of a sparse map copied to other keys -/

theorem mfind_filter_key {α : Type} (p : Nat → Bool) (m : SMap α) (a : Nat) :
    mfind (m.filter fun e => p e.1) a = if p a then mfind m a else none := by
  induction m with
  | nil => exact (ite_self none).symm
  | cons e r ih =>
    obtain ⟨k, v⟩ := e
    by_cases hk : k = a
    · subst hk
      by_cases hp : p k = true <;> simp [mfind, hp, ih]
    · by_cases hp : p k = true <;> simp [mfind, hp, hk, ih]

theorem mfind_eq_none_of_forall_ne {α : Type} {m : SMap α} {a : Nat} (h : ∀ e ∈ m, e.1 ≠ a) : mfind m a = none := by
  induction m with
  | nil => rfl
  | cons e r ih =>
    rw [List.forall_mem_cons] at h
    exact (if_neg h.1).trans (ih h.2)

/-- A key that no entry is copied to keeps its value. -/
theorem mfind_foldl_mput_of_forall_ne {α : Type} (g : Nat → Nat) (l : SMap α) (m : SMap α) {b : Nat} (h : ∀ e ∈ l, g e.1 ≠ b) :
    mfind (l.foldl (fun m e => mput m (g e.1) e.2) m) b = mfind m b := by
  induction l generalizing m with
  | nil => rfl
  | cons e l ih =>
    rw [List.forall_mem_cons] at h
    exact (ih _ h.2).trans (mfind_mput_ne _ _ h.1.symm)

/-- A key that one entry is copied to holds that entry's value. -/
theorem mfind_foldl_mput {α : Type} (g : Nat → Nat) (l : SMap α) (m : SMap α) {a : Nat} (hrise : l.Pairwise fun x y => x.1 < y.1)
    (hinj : ∀ e ∈ l, g e.1 = g a → e.1 = a) :
    mfind (l.foldl (fun m e => mput m (g e.1) e.2) m) (g a) = (mfind l a).or (mfind m (g a)) := by
  induction l generalizing m with
  | nil => rfl
  | cons e l ih =>
    rw [List.pairwise_cons] at hrise
    rw [List.forall_mem_cons] at hinj
    rw [List.foldl_cons, ih _ hrise.2 hinj.2]
    by_cases ha : e.1 = a
    · subst ha
      have hlater : mfind l e.1 = none := mfind_eq_none_of_forall_ne fun x hx => Nat.ne_of_gt (hrise.1 x hx)
      have hhere : mfind (e :: l) e.1 = some e.2 := if_pos rfl
      rw [hlater, hhere, mfind_mput_same]
      rfl
    · have hrest : mfind (e :: l) a = mfind l a := if_neg ha
      rw [hrest, mfind_mput_ne _ _ fun h => ha (hinj.1 h.symm)]

/-! ### A copied line -/

/-- The entries of a map from `src` on, `n` keys, take the place of those from `dst` on. -/
def moveKeys {α : Type} (src dst n : Nat) (m : SMap α) : SMap α :=
  (m.filter fun e => src ≤ e.1 && e.1 < src + n).foldl (fun m e => mput m (e.1 - src + dst) e.2)
    (m.filter fun e => !(dst ≤ e.1 && e.1 < dst + n))

theorem mfind_moveKeys_inside {α : Type} {m : SMap α} (hrise : m.Pairwise fun x y => x.1 < y.1) (src dst : Nat) {n i : Nat} (hi : i < n) :
    mfind (moveKeys src dst n m) (dst + i) = mfind m (src + i) := by
  have hplace : dst + i = (src + i) - src + dst := by omega
  have hinj : ∀ e ∈ m.filter (fun e => decide (src ≤ e.1) && decide (e.1 < src + n)),
      e.1 - src + dst = (src + i) - src + dst → e.1 = src + i := by
    intro e he h
    have hlow : src ≤ e.1 := by simpa using (Bool.and_eq_true_iff.1 (List.mem_filter.1 he).2).1
    omega
  have hsource : mfind (m.filter fun e => decide (src ≤ e.1) && decide (e.1 < src + n)) (src + i) = mfind m (src + i) :=
    (mfind_filter_key (fun a => decide (src ≤ a) && decide (a < src + n)) m _).trans (if_pos (by simp [hi]))
  have hcleared : mfind (m.filter fun e => !(decide (dst ≤ e.1) && decide (e.1 < dst + n))) (dst + i) = none :=
    (mfind_filter_key (fun a => !(decide (dst ≤ a) && decide (a < dst + n))) m _).trans (if_neg (by simp [hi]))
  unfold moveKeys
  rw [hplace, mfind_foldl_mput (fun a => a - src + dst) _ _ (hrise.filter _) hinj, ← hplace, hsource, hcleared, Option.or_none]

theorem mfind_moveKeys_outside {α : Type} (m : SMap α) (src : Nat) {dst n q : Nat} (hq : q < dst ∨ dst + n ≤ q) :
    mfind (moveKeys src dst n m) q = mfind m q := by
  have hne : ∀ e ∈ m.filter (fun e => decide (src ≤ e.1) && decide (e.1 < src + n)), e.1 - src + dst ≠ q := by
    intro e he
    have h : src ≤ e.1 ∧ e.1 < src + n := by simpa using (List.mem_filter.1 he).2
    omega
  have hkept : (!(decide (dst ≤ q) && decide (q < dst + n))) = true := by
    rw [Bool.not_eq_true', Bool.and_eq_false_iff, decide_eq_false_iff_not, decide_eq_false_iff_not]
    omega
  exact (mfind_foldl_mput_of_forall_ne (fun a => a - src + dst) _ _ hne).trans
    ((mfind_filter_key (fun a => !(decide (dst ≤ a) && decide (a < dst + n))) m q).trans (if_pos hkept))

theorem State.hbm_copyPhys (s : State) (src dst n : Nat) : (s.copyPhys src dst n).hp.hbm = moveKeys src dst n s.hp.hbm := by
  unfold State.copyPhys moveKeys
  simp only [Nat.div_one]

/-- A state with canonical memories holds the keys of its HBM in rising order. -/
theorem State.memWf_rises {s : State} (h : s.memWf = true) : s.hp.hbm.Pairwise fun x y => x.1 < y.1 := by
  simp only [State.memWf, Bool.and_eq_true] at h
  exact ((mwf_iff 0 s.hp.hbm).1 h.1.1.1).1

theorem exec_pageMoveLineCopy_eq {s : State} {page : BitVec 13} {m : Move}
    (hm : (s.hp.moves.find? fun m => m.page = page.toNat && m.line < linesPerPage) = some m) :
    ∃ t, exec (.pageMoveLineCopy page []) s = .next t
      ∧ t.hp.moves = (s.hp.moves.map fun x => if x.page = m.page then { x with line := m.line + 1 } else x)
      ∧ t.hp.hbm = moveKeys (m.src * pageBytes + m.line * 128) (m.dst * pageBytes + m.line * 128) 128 s.hp.hbm ∧ t.regs = s.regs := by
  show ∃ t, execPageMoveLineCopy page [] s = _ ∧ _
  unfold execPageMoveLineCopy
  rw [hm]
  exact ⟨_, rfl, rfl, s.hbm_copyPhys _ _ _, rfl⟩

/-! ### Window slots and cache ways -/

theorem State.cacheWays_sets {s : State} {v w : Nat} (hw : w < 16) (hon : bit v w = true) (hok : bit (s.fld F.HP_CACHE_WAYS_FAILED) w = false) :
    s.cacheWays v = s.setFld F.HP_CACHE_WAYS_ENABLE v :=
  if_pos (List.any_eq_true.2 ⟨w, List.mem_range.2 hw, by simp [hon, hok]⟩)

theorem State.cacheWays_refuses {s : State} {v : Nat} (h : ∀ w < 16, bit v w = true → bit (s.fld F.HP_CACHE_WAYS_FAILED) w = true) :
    s.cacheWays v = s.reservedEncoding R.HP_CACHE_WAYS 0 := by
  refine if_neg fun hany => ?_
  obtain ⟨w, hw, hwork⟩ := List.any_eq_true.1 hany
  obtain ⟨hon, hok⟩ := Bool.and_eq_true_iff.1 hwork
  rw [h w (List.mem_range.1 hw) hon] at hok
  cases hok

/-- Settles O30: a line's copy moves the keys of its bytes; the window slot and the ways are one write each. -/
theorem hamperResults : Obligations.HamperResults := by
  unfold Obligations.HamperResults
  refine fun s => ⟨fun page m hwf hm _ => ?line, fun v => ?window, fun v => ⟨s.cacheWays v.toNat, rfl, ?ways, fun h => ?noWay⟩⟩
  case line =>
    obtain ⟨t, hexec, hmoves, hhbm, hregs⟩ := exec_pageMoveLineCopy_eq hm
    refine ⟨t, hexec, hmoves, fun i hi => ?_, fun q hq => ?_, hregs⟩
    · rw [mget, mget, hhbm, mfind_moveKeys_inside (State.memWf_rises hwf) _ _ hi]
    · rw [mget, mget, hhbm, mfind_moveKeys_outside _ _ hq]
  case window =>
    refine ⟨s.winWrite v.toNat, rfl, fun k => ?_, rfl, rfl, rfl⟩
    split
    · next hk =>
      rw [hk]
      exact mget_mset_same ..
    · next hk => exact mget_mset_ne _ _ _ _ hk
  case ways =>
    rintro ⟨w, hw, hon, hok⟩
    rw [State.cacheWays_sets hw hon hok]
    refine ⟨?_, fun g hg => State.fld_setFld_ne _ _ _ _ (hg _ (by simp))⟩
    rw [State.fld_setFld_same]
    exact Nat.mod_eq_of_lt v.isLt
  case noWay =>
    rw [State.cacheWays_refuses h]
    have hreport := s.reservedEncoding_reportsOnly R.HP_CACHE_WAYS 0
    exact ⟨hreport.2, hreport.1.2 .hp (by decide)⟩

end Sys2Proof.Machine
end

section
/-! ## Fields that reports and completions leave alone (R404, R464, R466) -/
namespace Sys2Proof.Machine

/-- The fields that a report may write as it enters the report queue. -/
def enqFlds : List Fld :=
  [F.RL_FIFO_STAT_HWM, F.RL_LOST_A_LOW, F.RL_LOST_A_HIGH, F.RL_LOST_B_LOW, F.RL_LOST_B_HIGH, F.RL_LOST_C_LOW, F.RL_EVENT_REPORTS_LOST,
    F.RL_STATUS_LOSING]

/-- No report writes the field as it enters the report queue. -/
def enqFree (g : Fld) : Bool := enqFlds.all fun f => f.key ≠ g.key

theorem enqFree_ne {g f : Fld} (hg : enqFree g = true) (hf : f ∈ enqFlds) : f.key ≠ g.key :=
  of_decide_eq_true (List.all_eq_true.1 hg f hf)

theorem enqFree_of_outRl {g : Fld} (hg : outRl g = true) : enqFree g = true := by
  have hrl : ∀ f ∈ enqFlds, outRl f = false := by decide
  exact List.all_eq_true.2 fun f hf => decide_eq_true (outRl_ne (hrl f hf) hg)

theorem Cls.lostFld_mem (c : Cls) : c.lostFld ∈ enqFlds := by cases c <;> decide

theorem State.countLost_keeps_fld (s : State) (c : Cls) (t : Nat) {g : Fld} (hg : enqFree g = true) : (s.countLost c t).fld g = s.fld g := by
  unfold State.countLost
  dsimp only
  rw [State.fld_setFlag_ne _ _ _ _ (enqFree_ne hg (by decide)), State.fld_setFlag_ne _ _ _ _ (enqFree_ne hg (by decide)),
    State.fld_setFld_ne _ _ _ _ (enqFree_ne hg c.lostFld_mem)]
  rfl

theorem State.enq_keeps_fld (s : State) (r : Report) {g : Fld} (hg : enqFree g = true) : (s.enq r).fld g = s.fld g := by
  unfold State.enq
  split
  · exact State.fld_setFld_ne _ _ _ _ (enqFree_ne hg (by decide))
  · dsimp only
    split
    · split
      · exact State.countLost_keeps_fld _ _ _ hg
      · exact (State.countLost_keeps_fld _ _ _ hg).trans (State.countLost_keeps_fld _ _ _ hg)
    · exact State.countLost_keeps_fld _ _ _ hg

theorem State.incS_fld (s : State) (f : Fld) (n : Nat) {g : Fld} (hg : enqFree g = true) :
    (s.incS f n).fld g = (s.setFld f (satAdd f.w (s.fld f) n)).fld g := by
  unfold State.incS
  dsimp only
  split
  · exact State.enq_keeps_fld _ _ hg
  · rfl

/-- A count that saturates stays below its field's range. -/
theorem State.incS_fld_same (s : State) (f : Fld) (n : Nat) (hf : enqFree f = true) : (s.incS f n).fld f = satAdd f.w (s.fld f) n := by
  rw [State.incS_fld _ _ _ hf, State.fld_setFld_same]
  exact Nat.mod_eq_of_lt (Nat.lt_of_le_pred (Nat.two_pow_pos _) (Nat.min_le_right ..))

theorem State.incS_fld_ne (s : State) (f : Fld) (n : Nat) {g : Fld} (hg : enqFree g = true) (h : f.key ≠ g.key) :
    (s.incS f n).fld g = s.fld g :=
  (State.incS_fld _ _ _ hg).trans (State.fld_setFld_ne _ _ _ _ h)

/-- A report of INFO or WARN only enters the queue. -/
theorem State.raise_keeps_fld (s : State) {cls : Cls} (hc : cls = .info ∨ cls = .warn) (src inst code a0 a1 a2 : Nat) {g : Fld}
    (hg : enqFree g = true) : (s.raise cls src inst code a0 a1 a2).fld g = s.fld g := by
  rcases hc with rfl | rfl
  all_goals
    unfold State.raise State.raiseR
    simp only [reduceCtorEq, or_self, if_false]
    exact State.enq_keeps_fld _ _ hg

theorem State.event_warn_fld_same (s : State) (f : Fld) (inst a0 a1 a2 : Nat) (hf : enqFree f = true) (hw : 0 < f.w) :
    (s.event f .warn inst a0 a1 a2).fld f = 1 :=
  (State.raise_keeps_fld _ (.inr rfl) _ _ _ _ _ _ hf).trans (State.fld_setFlag_same _ _ _ hw)

theorem State.event_warn_fld_ne (s : State) (f : Fld) (inst a0 a1 a2 : Nat) {g : Fld} (hg : enqFree g = true) (h : f.key ≠ g.key) :
    (s.event f .warn inst a0 a1 a2).fld g = s.fld g :=
  (State.raise_keeps_fld _ (.inr rfl) _ _ _ _ _ _ hg).trans (State.fld_setFlag_ne _ _ _ _ h)

/-! ### Completions and the ends of jobs -/

theorem State.fld_ite {p : Prop} [Decidable p] {u v : State} {g : Fld} {n : Nat} (hu : u.fld g = n) (hv : v.fld g = n) :
    (if p then u else v).fld g = n := by
  split <;> assumption

/-- A field lies outside HI_. -/
def outHi (f : Fld) : Bool := f.key < 0x20000 * 8 || 0x30000 * 8 ≤ f.key

theorem outHi_ne {f g : Fld} (hf : outHi f = false) (hg : outHi g = true) : f.key ≠ g.key := by
  rintro h
  rw [outHi, h] at hf
  exact Bool.noConfusion (hf.symm.trans hg)

theorem State.fld_congr {s t : State} (h : t.regs = s.regs) : t.fld = s.fld := by
  funext f
  exact congrArg (mget f.rst · f.key) h

theorem State.complete_keeps_fld (s : State) (o : Origin) (status detail : Nat) (vals : List Nat) {g : Fld} (hg : enqFree g = true)
    (hh : outHi g = true) : (s.complete o status detail vals).fld g = s.fld g := by
  have hcount : s.countCmd.fld g = s.fld g :=
    (State.fld_setFld_ne _ _ _ _ (outHi_ne rfl hh)).trans (State.fld_setFld_ne _ _ _ _ (outHi_ne rfl hh))
  have hbad := State.fld_ite (p := status = 5)
    ((State.incS_fld_ne s.countCmd F.HI_ERR_CNT_BAD_DESC 1 hg (outHi_ne rfl hh)).trans hcount) hcount
  refine State.fld_ite ((congrFun (State.fld_congr ((State.ringEntry_fr _ _ _ (.refl _)).regs rfl)) g).trans hbad) ?_
  exact (State.incS_fld_ne _ F.HI_DROP_CNT_COMPLETIONS _ hg (outHi_ne rfl hh)).trans hbad

theorem State.completeOpt_keeps_fld (s : State) (o : Option Origin) (status detail : Nat) (vals : List Nat) {g : Fld} (hg : enqFree g = true)
    (hh : outHi g = true) : (s.completeOpt o status detail vals).fld g = s.fld g := by
  cases o with
  | none => rfl
  | some o => exact State.complete_keeps_fld _ _ _ _ _ hg hh

theorem State.jobProgress_keeps_fld (s : State) (h : Nat) (always : Bool) {g : Fld} (hg : enqFree g = true) :
    (s.jobProgress h always).fld g = s.fld g := by
  unfold State.jobProgress
  split
  · rfl
  · exact State.fld_ite (State.raise_keeps_fld _ (.inl rfl) _ _ _ _ _ _ hg) rfl

theorem State.endJob_keeps_fld (s : State) (h status detail : Nat) (vals : List Nat) {g : Fld} (hg : enqFree g = true) (hh : outHi g = true) :
    (s.endJob h status detail vals).fld g = s.fld g := by
  unfold State.endJob
  split
  · rfl
  · dsimp only
    rw [foldl_keeps (State.fld · g) _ (fun _ _ => State.complete_keeps_fld _ _ _ _ _ hg hh),
      foldl_keeps (State.fld · g) _ (fun _ _ => State.complete_keeps_fld _ _ _ _ _ hg hh)]
    split
    · exact (State.complete_keeps_fld _ _ _ _ _ hg hh).trans (State.jobProgress_keeps_fld s h true hg)
    · rw [State.raise_keeps_fld _ (.inl rfl) _ _ _ _ _ _ hg, State.fld_setFlag_ne _ _ _ _ (outHi_ne rfl hh)]
      exact State.jobProgress_keeps_fld s h true hg

end Sys2Proof.Machine
end

section
/-! ## Moves, repairs, scrubs, hours and sweeps as they go on (R187, R188, R351, R454, R455, R457-R459) -/
namespace Sys2Proof.Machine

/-! ### The end of a move -/

/-- The physical page follows from the fuses, which set the stack's size, and Hamper's own part. -/
theorem State.physPage_congr {s t : State} (hf : t.fuse = s.fuse) (hh : t.hp = s.hp) : t.physPage = s.physPage := by
  funext p
  unfold State.physPage State.pageDefault State.pages
  rw [hf, hh]

theorem State.physPage_setPage (s : State) (q : Nat) (v : Option Nat) (p : Nat) :
    (s.setPage q v).physPage p = if p = q then v else s.physPage p := by
  show (mfind (if v = s.pageDefault q then mdel s.hp.page q else mput s.hp.page q v) p).getD (s.pageDefault p) = _
  by_cases hp : p = q
  · subst hp
    rw [if_pos rfl]
    split
    · next hv => rw [mfind_mdel_same, hv, Option.getD_none]
    · rw [mfind_mput_same, Option.getD_some]
  · rw [if_neg hp]
    split
    · rw [mfind_mdel_ne _ hp]
      rfl
    · rw [mfind_mput_ne _ _ hp]
      rfl

/-- A page switched to the destination of its move, whose source joins the pool (R187). -/
def State.switchPage (s : State) (m : Move) : State :=
  let s := s.setPage m.page (some m.dst)
  { s with hp := { s.hp with moves := s.hp.moves.filter fun x => x.page ≠ m.page, pool := s.hp.pool ++ [m.src] } }

theorem exec_migDone_eq {s : State} {page : BitVec 13} {m : Move}
    (hm : (s.hp.moves.find? fun m => m.page = page.toNat && m.line = linesPerPage) = some m) (hrepair : m.repair = false) :
    exec (.migDone page) s = .next (((s.switchPage m).event F.HP_EVENT_MIG_DONE .info 0 m.page m.dst 0).completeOpt m.origin 0 0 []) := by
  show execMigDone page s = _
  unfold execMigDone
  simp only [hm, hrepair, Bool.false_eq_true, if_false]
  rfl

/-! ### The end of a repair's pause -/

/-- A lane of a pseudo-channel remapped to a spare one (R455). -/
def State.remapLane (s : State) (pc : Nat) : State :=
  let s := s.setFld (F.HP_PC_STAT_LANES_REMAPPED pc) (s.fld (F.HP_PC_STAT_LANES_REMAPPED pc) + 1)
  s.setFld (F.HP_PC_STAT_LANES_LEFT pc) (s.fld (F.HP_PC_STAT_LANES_LEFT pc) - 1)

/-- A repair row of a pseudo-channel used up; its page leaves the held ones, for the pool when the repair is good (R455). -/
def State.replaceRow (s : State) (pc q : Nat) (good : Bool) : State :=
  { s with hp := { s.hp with
    pprUsed := mset 0 s.hp.pprUsed pc (mget 0 s.hp.pprUsed pc + 1)
    heldPages := s.hp.heldPages.filter (· ≠ q)
    pool := if good then s.hp.pool ++ [q] else s.hp.pool } }

section
variable {s : State} {pc : Fin 16} {ok : Bool} {j : Job}
  (hj : (s.hi.jobs.find? fun j => j.op = 0x62 && j.st ≠ .held && j.step = 2 && nth j.args 0 % 16 = pc.val) = some j)
include hj

theorem exec_hbmRepairPauseEnd_lane (hw : nth j.work 0 = 0) :
    ∃ status, exec (.hbmRepairPauseEnd pc ok) s = .next (((s.setJob { j with done := j.total }).remapLane pc).endJob j.handle status 0 []) := by
  show ∃ status, execHbmRepairPauseEnd pc ok s = _
  unfold execHbmRepairPauseEnd
  simp only [hj, hw, if_true]
  exact ⟨_, rfl⟩

theorem exec_hbmRepairPauseEnd_row (hw : nth j.work 0 ≠ 0) :
    ∃ status detail vals, exec (.hbmRepairPauseEnd pc ok) s = .next
      ((let u := (s.setJob { j with done := j.total }).replaceRow pc (nth j.work 1) (ok && !decide (j.st = .cancelling))
        if ok then u else u.raise .warn 0x04 pc 0x0181 (nth j.work 1) pc 0).endJob j.handle status detail vals) := by
  show ∃ status detail vals, execHbmRepairPauseEnd pc ok s = _
  unfold execHbmRepairPauseEnd
  simp only [hj, hw, if_false]
  by_cases hc : j.st = .cancelling
  · simp only [hc, decide_true, if_true]
    exact ⟨_, _, _, rfl⟩
  · simp only [hc, decide_false, Bool.false_eq_true, if_false]
    exact ⟨_, _, _, rfl⟩

end

/-- The lanes of a pseudo-channel after one is remapped. -/
theorem State.remapLane_fields (s : State) (pc : Nat) :
    (s.remapLane pc).fld (F.HP_PC_STAT_LANES_REMAPPED pc)
        = (s.fld (F.HP_PC_STAT_LANES_REMAPPED pc) + 1) % 2 ^ (F.HP_PC_STAT_LANES_REMAPPED pc).w
      ∧ (s.remapLane pc).fld (F.HP_PC_STAT_LANES_LEFT pc)
        = (s.fld (F.HP_PC_STAT_LANES_LEFT pc) - 1) % 2 ^ (F.HP_PC_STAT_LANES_LEFT pc).w := by
  have hne : (F.HP_PC_STAT_LANES_REMAPPED pc).key ≠ (F.HP_PC_STAT_LANES_LEFT pc).key := by
    simp [Fld.key, F.HP_PC_STAT_LANES_REMAPPED, F.HP_PC_STAT_LANES_LEFT]
  unfold State.remapLane
  constructor
  · rw [State.fld_setFld_ne _ _ _ _ hne.symm, State.fld_setFld_same]
  · rw [State.fld_setFld_same, State.fld_setFld_ne _ _ _ _ hne]

/-- The fields of HP_PC_STAT lie outside RL_ and HI_. -/
theorem pcStat_apart {f : Fld} {pc : Nat} (ha : f.addr = R.HP_PC_STAT pc) (hpc : pc < 16) (hl : f.lo < 32) :
    enqFree f = true ∧ outHi f = true := by
  have haddr : f.addr = 0x40200 + pc * 8 := ha
  refine ⟨enqFree_of_outRl (outRl_of_lt (by omega) hl), ?_⟩
  rw [outHi, Bool.or_eq_true, decide_eq_true_eq, decide_eq_true_eq]
  unfold Fld.key
  omega

/-! ### Scrubbing -/

/-- A read of the running SCRUB job that finds no word in error goes on to the next mapped page. -/
theorem State.scrubJobRead_clean (s : State) (j : Job) :
    (s.scrubJobRead j 0 []).fld F.RL_SCRUB_STAT_PAGE = s.nextScrub % 2 ^ F.RL_SCRUB_STAT_PAGE.w
      ∧ (s.scrubJobRead j 0 []).hp = s.hp ∧ (s.scrubJobRead j 0 []).mem = s.mem := by
  have hfr : State.Fr 0xc008 s (s.scrubJobRead j 0 []) :=
    State.jobProgress_fr _ _ _ (State.setFld_fr _ _ _ (State.setJob_fr _ _ (.refl s) rfl) rfl)
  refine ⟨?_, hfr.hp rfl, hfr.mem rfl⟩
  exact (State.jobProgress_keeps_fld _ _ _ (by decide)).trans (State.fld_setFld_same ..)

theorem exec_patrolScrubRead_job {s : State} {target : Fin 3} {errs : List ScrubErr} {j : Job} (h0 : s.mode ≠ 0) (h9 : s.mode ≠ 9)
    (hj : (s.hi.jobs.find? fun j => j.op = 0x63 && j.st = .running) = some j) (ht : bit (nth j.args 0) target.val = true) :
    exec (.patrolScrubRead target errs) s = .next (s.scrubJobRead j target.val errs) := by
  show execPatrolScrubRead target errs s = _
  unfold execPatrolScrubRead
  rw [if_neg (not_or.2 ⟨h0, h9⟩), hj]
  exact congrArg Host.Outcome.next (if_pos ht)

theorem exec_patrolScrubRead_patrol {s : State} {target : Fin 3} {errs : List ScrubErr} (h0 : s.mode ≠ 0) (h9 : s.mode ≠ 9)
    (hj : (s.hi.jobs.find? fun j => j.op = 0x63 && j.st = .running) = none) (hpause : s.flag F.RL_SCRUB_CFG_PAUSE = false)
    (hon : if target.val = 0 then s.fld F.RL_SCRUB_CFG_HBM_HOURS ≠ 0 else s.fld F.RL_SCRUB_CFG_SRAM_MIN ≠ 0) :
    exec (.patrolScrubRead target errs) s
      = .next (let t := errs.foldl State.scrubErr s; if target.val = 0 then t.setFld F.RL_SCRUB_STAT_PAGE t.nextScrub else t) := by
  show execPatrolScrubRead target errs s = _
  unfold execPatrolScrubRead
  rw [if_neg (not_or.2 ⟨h0, h9⟩), hj]
  exact congrArg Host.Outcome.next (if_pos ⟨hon, hpause⟩)

/-- A complete pass as it is shown: counted for the stack, and the event (R458). -/
def State.scrubPassed (s : State) (hbm : Bool) : State :=
  (if hbm then s.incW F.RL_SCRUB_STAT_PASSES 1 else s).setFlag F.RL_EVENT_SCRUB_DONE true

theorem exec_scrubDone_patrol {s : State} (hbm : Bool) (hj : (s.hi.jobs.find? fun j => j.op = 0x63 && j.st = .running) = none) :
    exec (.scrubDone hbm) s = .next (s.scrubPassed hbm) := by
  show execScrubDone hbm s = _
  unfold execScrubDone
  rw [hj]
  rfl

theorem State.scrubPassed_fields (s : State) (hbm : Bool) :
    (s.scrubPassed hbm).fld F.RL_EVENT_SCRUB_DONE = 1
      ∧ (s.scrubPassed hbm).fld F.RL_SCRUB_STAT_PASSES
        = (if hbm then (s.fld F.RL_SCRUB_STAT_PASSES + 1) % 2 ^ F.RL_SCRUB_STAT_PASSES.w else s.fld F.RL_SCRUB_STAT_PASSES)
      ∧ FldsBut [F.RL_EVENT_SCRUB_DONE, F.RL_SCRUB_STAT_PASSES] s (s.scrubPassed hbm) := by
  refine ⟨State.fld_setFlag_same _ _ _ (by decide), (State.fld_setFlag_ne _ _ _ _ (by decide)).trans ?_, fun g hg => ?_⟩
  · cases hbm with
    | true => exact State.fld_setFld_same ..
    | false => rfl
  · rw [List.forall_mem_cons, List.forall_mem_singleton] at hg
    refine (State.fld_setFlag_ne _ _ _ _ hg.1).trans ?_
    cases hbm with
    | true => exact State.fld_setFld_ne _ _ _ _ hg.2
    | false => rfl

/-! ### Powered hours -/

/-- The equivalent hours have come from below a limit to it or past it, which is reported (R459). -/
def State.lifeLimit (s : State) (f : Fld) (limit old new : Nat) : State :=
  if old < limit ∧ limit ≤ new then s.event f .warn 0 new 0 0 else s

theorem State.lifeLimit_fld_same {s : State} {f : Fld} {limit old new : Nat} (hf : enqFree f = true) (hw : 0 < f.w) (hold : old < limit)
    (hnew : limit ≤ new) : (s.lifeLimit f limit old new).fld f = 1 := by
  rw [State.lifeLimit, if_pos ⟨hold, hnew⟩]
  exact State.event_warn_fld_same _ _ _ _ _ _ hf hw

theorem State.lifeLimit_fld_ne (s : State) {f g : Fld} (limit old new : Nat) (hg : enqFree g = true) (h : f.key ≠ g.key) :
    (s.lifeLimit f limit old new).fld g = s.fld g := by
  unfold State.lifeLimit
  split
  · exact State.event_warn_fld_ne _ _ _ _ _ _ hg h
  · rfl

/-- An hour at a mean temperature, counted in both counters. -/
def State.hourCounted (s : State) (n : Nat) : State := (s.incS F.RL_LIFE_COUNT 1).incS F.RL_EQUIV_COUNT n

theorem State.hourCounted_life (s : State) (n : Nat) :
    (s.hourCounted n).fld F.RL_LIFE_COUNT = satAdd F.RL_LIFE_COUNT.w (s.fld F.RL_LIFE_COUNT) 1 :=
  (State.incS_fld_ne _ _ _ (by decide) (by decide)).trans (State.incS_fld_same _ _ _ (by decide))

theorem State.hourCounted_equiv (s : State) (n : Nat) :
    (s.hourCounted n).fld F.RL_EQUIV_COUNT = satAdd F.RL_EQUIV_COUNT.w (s.fld F.RL_EQUIV_COUNT) n := by
  rw [State.hourCounted, State.incS_fld_same _ _ _ (by decide), State.incS_fld_ne _ _ _ (by decide) (by decide)]

theorem exec_lifeHour_eq (s : State) (temp : Option (BitVec 16)) :
    let old := s.fld F.RL_EQUIV_COUNT
    let u := s.hourCounted (equivHour (temp.getD 1680))
    let new := u.fld F.RL_EQUIV_COUNT
    exec (.lifeHour temp) s = .next ((u.lifeLimit F.RL_EVENT_LIFE_90 5045760 old new).lifeLimit F.RL_EVENT_LIFE_END 5606400 old new) := rfl

/-! ### The start of a sweep -/

/-- The sweep that a LINE_TEST_SWEEP asks for, before its first entry. -/
def State.newSweep (s : State) (c : HCmd) (o : Origin) : LmSweep :=
  { job := o.handle, list := s.scanList (arg c 0), passes := arg c 1, gapMs := arg c 2, pass := 0, entry := 0,
    recAddr := s.fld F.LM_REC_ADDR_ADDR * 16, cfg := s.lmCfgWord, waiting := false, gapUntil := none, suspended := false }

theorem State.sweepStart_eq {s : State} {c : HCmd} (o : Origin)
    (hmap : s.mappedRange (s.fld F.LM_SCAN_ADDR_ADDR * 16) (16 * arg c 0) = true)
    (hpoison : s.poisoned (s.fld F.LM_SCAN_ADDR_ADDR * 16) (16 * arg c 0) = false)
    (hok : (s.scanList (arg c 0)).all (fun e => lmEntryOk (lmWmode s.lmCfgWord) e) = true) (hfew : lmWmode s.lmCfgWord = false → arg c 0 ≤ 16)
    (hsweep : s.lm.sweep = none) (hrun : s.lm.run = none) (hwait : s.lm.refWait = false) (hen : s.flag F.LM_CTRL_EN = true)
    (hst : s.fld F.LM_STATUS_STATE ≠ 5)
    (hin : (s.scanList (arg c 0)).all (fun e => 32 ≤ lmInput e) = true ∨ s.mode = 3 ∨ s.mode = 4) :
    s.sweepStart c o = (s.addJob (newJob c o .running [] (arg c 1))).sweepEntry (s.newSweep c o) := by
  have hlist : ¬((s.scanList (arg c 0)).any (fun e => !lmEntryOk (lmWmode s.lmCfgWord) e) = true
      ∨ (lmWmode s.lmCfgWord = false ∧ arg c 0 > 16)) := by
    rintro (hbad | ⟨hwide, hmany⟩)
    · rw [← List.not_all_eq_any_not, hok] at hbad
      cases hbad
    · exact Nat.not_lt.2 (hfew hwide) hmany
  have hidle : ¬(s.lm.sweep.isSome = true ∨ s.flag F.LM_CTRL_EN = false ∨ s.fld F.LM_STATUS_STATE = 5) := by
    simp [hsweep, hen, hst]
  have hline : ¬((s.scanList (arg c 0)).any (fun e => lmInput e < 32) = true ∧ s.mode ≠ 3 ∧ s.mode ≠ 4) := by
    rintro ⟨hlow, h3, h4⟩
    rcases hin with hall | hm | hm
    · obtain ⟨e, he, hlt⟩ := List.any_eq_true.1 hlow
      exact Nat.not_lt.2 (of_decide_eq_true (List.all_eq_true.1 hall e he)) (of_decide_eq_true hlt)
    · exact h3 hm
    · exact h4 hm
  unfold State.sweepStart
  simp only [hmap, hpoison, Bool.true_eq_false, Bool.false_eq_true, if_false, if_neg hlist, if_neg hidle, if_neg hline]
  simp only [hrun, hwait, Option.isSome_none, Bool.or_self, Bool.false_eq_true, if_false]
  rfl

theorem State.job_addJob_isSome (s : State) (j : Job) : ((s.addJob j).job j.handle).isSome = true := by
  show ((s.hi.jobs ++ [j]).find? (·.handle = j.handle)).isSome = true
  rw [List.find?_isSome]
  exact ⟨j, List.mem_append_right _ (List.mem_singleton_self j), decide_eq_true rfl⟩

/-- The first entry of a sweep leaves the jobs alone and shows the sweep as it stands. -/
theorem State.sweepEntry_shows (s : State) (w : LmSweep) :
    (s.sweepEntry w).fld F.LM_STATUS_STATE = 3 ∧ (s.sweepEntry w).hi = s.hi
      ∧ (s.sweepEntry w).lm.sweep = some { w with waiting := false, gapUntil := none } :=
  ⟨State.fld_setFld_same .., rfl, rfl⟩

/-- Settles O47: each event past its checks is its own operation; behind it stand only reports and completions, which leave the fields
in question alone. -/
theorem jobProgress : Obligations.JobProgress := by
  unfold Obligations.JobProgress
  intro s
  refine ⟨fun page m hm hrepair => ?move, fun pc ok j hj => ⟨fun hw => ?lane, fun hw => ?row⟩, fun target j h0 h9 hj ht hhbm => ?job,
    fun target errs h0 h9 hj hpause hon => exec_patrolScrubRead_patrol h0 h9 hj hpause hon,
    fun hbm hj => ⟨_, exec_scrubDone_patrol hbm hj, s.scrubPassed_fields hbm⟩, fun temp => ?hour, fun c hc => ?sweep⟩
  case move =>
    obtain ⟨hpage, -⟩ : m.page = page.toNat ∧ m.line = linesPerPage := by simpa using List.find?_some hm
    have hfr := State.completeOpt_fr _ m.origin 0 0 [] (State.event_fr (s.switchPage m) F.HP_EVENT_MIG_DONE .info 0 m.page m.dst 0
      (W := 0x80c008) (.refl _) rfl) rfl
    have hhp := hfr.hp rfl
    have hphys := fun p => (congrFun (State.physPage_congr (hfr.fuse rfl) hhp) p).trans (s.physPage_setPage m.page (some m.dst) p)
    rw [← hpage]
    refine ⟨_, exec_migDone_eq hm hrepair, (hphys _).trans (if_pos rfl), congrArg (·.pool) hhp, congrArg (·.moves) hhp, ?_,
      congrArg (·.hbm) hhp, fun p hp => (hphys p).trans (if_neg hp)⟩
    rw [State.completeOpt_keeps_fld _ _ _ _ _ (by decide) (by decide)]
    exact State.fld_event_same _ _ _ _ _ _ _ rfl (by decide) (by decide)
  case lane =>
    obtain ⟨status, hexec⟩ := exec_hbmRepairPauseEnd_lane (ok := ok) hj hw
    obtain ⟨hremapped, hleft⟩ := (s.setJob { j with done := j.total }).remapLane_fields pc
    have hfr := State.endJob_fr ((s.setJob { j with done := j.total }).remapLane pc) j.handle status 0 [] (.refl _)
    have keep {f : Fld} (ha : f.addr = R.HP_PC_STAT pc) (hl : f.lo < 32) :=
      State.endJob_keeps_fld ((s.setJob { j with done := j.total }).remapLane pc) j.handle status 0 [] (pcStat_apart ha pc.isLt hl).1
        (pcStat_apart ha pc.isLt hl).2
    exact ⟨_, hexec, hfr.hp rfl, (keep rfl (show 0 < 32 by decide)).trans hremapped,
      (keep rfl (show 4 < 32 by decide)).trans hleft⟩
  case row =>
    obtain ⟨status, detail, vals, hexec⟩ := exec_hbmRepairPauseEnd_row (ok := ok) hj hw
    have hhp := (State.endJob_fr _ j.handle status detail vals (fr_ite (c := ok = true) (W := 0x80c008)
      (.refl ((s.setJob { j with done := j.total }).replaceRow pc (nth j.work 1) (ok && !decide (j.st = .cancelling))))
      (State.raise_fr _ .warn 0x04 pc 0x0181 (nth j.work 1) pc 0 (.refl _) rfl)) rfl).hp rfl
    refine ⟨_, hexec, congrArg (·.pprUsed) hhp, congrArg (·.heldPages) hhp, (congrArg (·.pool) hhp).trans ?_⟩
    simp [State.replaceRow, State.setJob]
  case job =>
    refine ⟨_, exec_patrolScrubRead_job h0 h9 hj ht, ?_⟩
    rw [hhbm]
    exact s.scrubJobRead_clean j
  case hour =>
    have keep {g : Fld} (hg : enqFree g = true) (h90 : F.RL_EVENT_LIFE_90.key ≠ g.key) (hend : F.RL_EVENT_LIFE_END.key ≠ g.key) (u : State)
        (old new : Nat) : ((u.lifeLimit F.RL_EVENT_LIFE_90 5045760 old new).lifeLimit F.RL_EVENT_LIFE_END 5606400 old new).fld g = u.fld g :=
      (State.lifeLimit_fld_ne _ _ _ _ hg hend).trans (State.lifeLimit_fld_ne _ _ _ _ hg h90)
    refine ⟨_, exec_lifeHour_eq s temp, (keep rfl (by decide) (by decide) _ _ _).trans (s.hourCounted_life _),
      (keep rfl (by decide) (by decide) _ _ _).trans (s.hourCounted_equiv _), fun hold hnew => ?_, fun hold hnew => ?_⟩
    · rw [keep rfl (by decide) (by decide)] at hnew
      exact State.lifeLimit_fld_same rfl (by decide) hold hnew
    · rw [keep rfl (by decide) (by decide)] at hnew
      exact (State.lifeLimit_fld_ne _ _ _ _ rfl (by decide)).trans (State.lifeLimit_fld_same rfl (by decide) hold hnew)
  case sweep =>
    intro hmask hlow hhigh a hmap hpoison hok hfew hsweep hrun hwait hen hst hin
    have hexec : exec (.lineTestSweep c) s = .next ((s.start c).sweepStart c (s.originOf c 0x64)) :=
      congrArg Host.Outcome.next (State.jobCommand_eq hc (by simp only [hmask, hlow, hhigh, decide_true, Bool.and_self]) rfl nofun)
    rw [State.sweepStart_eq (s := s.start c) _ hmap hpoison hok hfew hsweep hrun hwait hen hst hin] at hexec
    obtain ⟨hstate, hhi, hw⟩ := State.sweepEntry_shows ((s.start c).addJob (newJob c (s.originOf c 0x64) .running [] (arg c 1)))
      ((s.start c).newSweep c (s.originOf c 0x64))
    refine ⟨_, hexec, hstate, ?_, _, hw, rfl, rfl, rfl, rfl, rfl, rfl, rfl, rfl⟩
    have hjob := (s.start c).job_addJob_isSome (newJob c (s.originOf c 0x64) .running [] (arg c 1))
    unfold State.job at hjob ⊢
    rw [hhi]
    exact hjob

end Sys2Proof.Machine
end

section
/-! ## Lists of values written under keys in a row -/
namespace Sys2Proof.Machine

/-- A list of values written from a key on: a key of the range holds its value, another key what it held. -/
theorem mget_foldl_zipIdx_from {α : Type} [DecidableEq α] (d : α) (val : Nat → α) (base a : Nat) (l : List Nat) (m : SMap α) (n : Nat) :
    mget d ((l.zipIdx n).foldl (fun m e => mset d m (base + e.2) (val e.1)) m) a
      = if base + n ≤ a ∧ a < base + n + l.length then val (nth l (a - (base + n))) else mget d m a := by
  induction l generalizing m n with
  | nil => exact (if_neg fun ⟨hlo, hhi⟩ => Nat.not_lt.2 hlo hhi).symm
  | cons x l ih =>
    rw [List.zipIdx_cons, List.foldl_cons, ih, List.length_cons]
    rcases Nat.lt_trichotomy a (base + n) with h | h | h
    · rw [if_neg (by omega), if_neg (by omega), mget_mset_ne _ _ _ _ (Nat.ne_of_lt h)]
    · rw [if_neg (by omega), if_pos (by omega), h, mget_mset_same, Nat.sub_self, nth, List.getD_cons_zero]
    · obtain ⟨i, rfl⟩ := Nat.exists_eq_add_of_lt h
      have hi : base + n + i + 1 - (base + (n + 1)) = i := by omega
      have hi' : base + n + i + 1 - (base + n) = i + 1 := by omega
      rw [hi, hi', nth, nth, List.getD_cons_succ, mget_mset_ne _ _ _ _ (Nat.ne_of_gt h)]
      exact ite_congr (propext (by omega)) (fun _ => rfl) fun _ => rfl

theorem mget_foldl_zipIdx {α : Type} [DecidableEq α] (d : α) (val : Nat → α) (l : List Nat) (m : SMap α) (base a : Nat) :
    mget d (l.zipIdx.foldl (fun m e => mset d m (base + e.2) (val e.1)) m) a
      = if base ≤ a ∧ a < base + l.length then val (nth l (a - base)) else mget d m a :=
  mget_foldl_zipIdx_from d val base a l m 0

/-- A memory of `n` words in each of its units, the word `w` of unit `k` under the key `k * n + w`: a list of words that ends within
the unit `j` changes its range there and nothing else. -/
theorem mget_foldl_unit (m : SMap W32) {n ofs w : Nat} {l : List Nat} (hw : w < n) (hfit : ofs + l.length ≤ n) (j k : Nat) :
    mget 0 (l.zipIdx.foldl (fun m e => mset 0 m (j * n + (ofs + e.2)) (BitVec.ofNat 32 e.1)) m) (k * n + w)
      = if k = j ∧ ofs ≤ w ∧ w < ofs + l.length then BitVec.ofNat 32 (nth l (w - ofs)) else mget 0 m (k * n + w) := by
  simp only [← Nat.add_assoc]
  rw [mget_foldl_zipIdx]
  refine ite_congr (propext ⟨fun ⟨hlo, hhi⟩ => ?_, ?_⟩) ?_ fun _ => rfl
  · have hk : k = j := by
      rcases Nat.lt_trichotomy k j with h | h | h
      · have hunits : (k + 1) * n ≤ j * n := Nat.mul_le_mul_right n h
        rw [Nat.succ_mul] at hunits
        omega
      · exact h
      · have hunits : (j + 1) * n ≤ k * n := Nat.mul_le_mul_right n h
        rw [Nat.succ_mul] at hunits
        omega
    subst hk
    exact ⟨rfl, by omega, by omega⟩
  · rintro ⟨rfl, hlo, hhi⟩
    omega
  · rintro ⟨rfl, -, -⟩
    rw [Nat.add_sub_add_left]

/-- Steps that each set what stands under their own index set it under every index of a list, and nothing else. -/
theorem get_foldl_of_step {σ β : Type} {get : σ → Nat → β} {f : σ → Nat → σ} {p : Prop} [Decidable p] {v : β} {k : Nat}
    (h : ∀ s j, get (f s j) k = if k = j ∧ p then v else get s k) (l : List Nat) (s : σ) :
    get (l.foldl f s) k = if k ∈ l ∧ p then v else get s k := by
  induction l generalizing s with
  | nil => exact (if_neg fun ⟨hk, _⟩ => List.not_mem_nil hk).symm
  | cons j l ih =>
    rw [List.foldl_cons, ih, h]
    by_cases hp : p <;> by_cases hj : k = j <;> simp [hp, hj]

theorem leWords_length (l : List Byte) : (leWords l).length = (l.length + 3) / 4 := by
  induction l using leWords.induct with
  | case1 | case2 | case3 | case4 => simp [leWords]
  | case5 a b c d r ih =>
    rw [leWords, List.length_cons, ih, List.length_cons, List.length_cons, List.length_cons, List.length_cons]
    omega

/-- A host buffer of whole words has a quarter as many words as bytes. -/
theorem leWords_bufBytes_length {c : HCmd} (h : bufLen c % 4 = 0) : (leWords (bufBytes c)).length = bufLen c / 4 := by
  rw [leWords_length, bufBytes_length]
  omega

/-! ### The words of a cluster's CSM and CPS, and the coefficients of a bank -/

/-- A load of the CSM of several clusters that ends within it changes its range in each of them. -/
theorem csmGet_foldl_putCsm (s : State) {ofs w : Nat} {l : List Nat} (hw : w < csmWords) (hfit : ofs + l.length ≤ csmWords)
    (cl : List Nat) (k : Nat) :
    csmGet (cl.foldl (fun t j => t.putCsm j (csmBase + ofs) l) s).mem.csm k w
      = if k ∈ cl ∧ ofs ≤ w ∧ w < ofs + l.length then BitVec.ofNat 32 (nth l (w - ofs)) else csmGet s.mem.csm k w := by
  refine get_foldl_of_step (get := fun t : State => (csmGet t.mem.csm · w)) (fun t j => ?_) cl s
  simp only [State.putCsm, csmSet, csmGet, csmKey, Nat.add_sub_cancel_left]
  exact mget_foldl_unit t.mem.csm hw hfit j k

theorem cps_foldl_loadCps (s : State) {ofs w : Nat} {l : List Nat} (hw : w < 262144) (hfit : ofs + l.length ≤ 262144)
    (cl : List Nat) (k : Nat) :
    (cl.foldl (fun t j => t.loadCps j ofs l) s).cps k w
      = if k ∈ cl ∧ ofs ≤ w ∧ w < ofs + l.length then BitVec.ofNat 32 (nth l (w - ofs)) else s.cps k w := by
  refine get_foldl_of_step (get := fun t : State => (t.cps · w)) (fun t j => ?_) cl s
  exact mget_foldl_unit t.mem.cps hw hfit j k

/-- The coefficients of a bank as a list of words (R323). -/
def State.setCoefs (s : State) (g : Nat) (b : Bool) (l : List Nat) : State := l.zipIdx.foldl (fun s e => s.setCoef g b e.2 e.1) s

theorem State.coef_setCoefs (s : State) (g : Nat) (b : Bool) (l : List Nat) (a : Nat) :
    mget 0 (s.setCoefs g b l).bs.coef a
      = if 128 * g + 64 * b2n b ≤ a ∧ a < 128 * g + 64 * b2n b + l.length then nth l (a - (128 * g + 64 * b2n b)) % 2 ^ 24
        else mget 0 s.bs.coef a := by
  have hcoef : (s.setCoefs g b l).bs.coef
      = l.zipIdx.foldl (fun m e => mset 0 m (128 * g + 64 * b2n b + e.2) (e.1 % 2 ^ 24)) s.bs.coef :=
    (List.foldl_hom (fun t : State => t.bs.coef) fun _ _ => rfl).symm
  rw [hcoef, mget_foldl_zipIdx 0 (· % 2 ^ 24)]

end Sys2Proof.Machine
end

section
/-! ## What the commands of a ring do past their checks (R232, R325, R389-R396) -/
namespace Sys2Proof.Machine

/-- A command that names no channel and passes its checks is its own effect after its start. -/
theorem State.command_none_eq {s : State} {c : HCmd} {op : Nat} {ok mode buf : Bool} {f : State → Origin → State} (h : Plain s c)
    (hok : ok = true) (hm : mode = true) : s.command c op ok mode none buf f = f (s.start c) (s.originOf c op) :=
  State.command_eq h hok hm nofun

/-! ### Admission and loads of cluster memories (R232, R389) -/

/-- The check of the budget notes on which side of it the committed units stand, and changes no other part of the supervisor. -/
theorem State.budgetCheck_st (s : State) : s.budgetCheck.st = { s.st with excess := decide (s.committed > s.budget) } := by
  unfold State.budgetCheck
  dsimp only
  split
  · next h => rw [h]
  · split
    · exact (State.raise_fr _ .warn 0x00 0 0x0180 s.committed s.budget 0 (.refl _)).st rfl
    · rfl

theorem State.mem_maskClusters {s : State} {m k : Nat} : k ∈ s.maskClusters m ↔ k < s.clusters ∧ (m = 0 ∨ bit m k = true) := by
  simp [State.maskClusters]

/-- CSM_LOAD with bit 16 writes the CSM of every cluster that it names. -/
theorem exec_csmLoad_csm {s : State} {c : HCmd} (h : Plain s c) (hmask : bufMask c [0x1FFFF, 0xFFFFFFFF] = true)
    (hlen : bufLen c % 4 = 0) (hpos : 0 < bufLen c) (hnamed : arg c 0 % 65536 < 2 ^ s.clusters) (hcsm : bit (arg c 0) 16 = true)
    (hshared : ∀ k, k < s.clusters → s.sharedFrom k ≤ arg c 1) (hfit : arg c 1 + bufLen c / 4 ≤ csmWords) :
    ∃ t, exec (.csmLoad c) s = .next t ∧ t.mem = ((s.maskClusters (arg c 0 % 65536)).foldl
      (fun t k => t.putCsm k (csmBase + arg c 1) (leWords (bufBytes c))) (s.start c)).mem := by
  have hall : (s.maskClusters (arg c 0 % 65536)).all (fun k => decide (s.sharedFrom k ≤ arg c 1)) = true :=
    List.all_eq_true.2 fun k hk => decide_eq_true (hshared k (State.mem_maskClusters.1 hk).1)
  have hwords : 0 < bufLen c / 4 := by omega
  refine ⟨_, congrArg Host.Outcome.next ((State.command_none_eq h ?_ ?_).trans (if_pos hcsm)),
    (State.complete_fr _ _ _ _ _ (.refl _)).mem rfl⟩
  · simp only [hmask, hlen, hwords, hcsm, hall, hfit, hnamed, if_true, decide_true, Bool.and_self]
  · rw [hcsm]; rfl

/-- CSM_LOAD without bit 16 writes the CPS of every cluster that it names, in mode BOOT on a device that is not secure. -/
theorem exec_csmLoad_cps {s : State} {c : HCmd} (h : Plain s c) (hmask : bufMask c [0x1FFFF, 0xFFFFFFFF] = true)
    (hlen : bufLen c % 4 = 0) (hpos : 0 < bufLen c) (hnamed : arg c 0 % 65536 < 2 ^ s.clusters) (hcps : bit (arg c 0) 16 = false)
    (hfit : arg c 1 + bufLen c / 4 ≤ 262144) (hboot : s.mode = 1) (hopen : s.fuse.secure = false) :
    ∃ t, exec (.csmLoad c) s = .next t ∧ t.mem = ((s.maskClusters (arg c 0 % 65536)).foldl
      (fun t k => t.loadCps k (arg c 1) (leWords (bufBytes c))) (s.start c)).mem := by
  have hwords : 0 < bufLen c / 4 := by omega
  refine ⟨_, congrArg Host.Outcome.next ((State.command_none_eq h ?_ ?_).trans
    ((if_neg (Bool.eq_false_iff.1 hcps)).trans (if_neg (Bool.eq_false_iff.1 hopen)))), ?_⟩
  · simp only [hmask, hlen, hwords, hcps, hfit, hnamed, Bool.false_eq_true, if_false, decide_true, Bool.and_self]
  · simp only [hboot, decide_true, Bool.or_true, Bool.true_or]
  · refine ((State.complete_fr _ _ _ _ _ (.refl _)).mem rfl).trans ?_
    split <;> rfl

/-! ### Coefficients and frames (R323, R395) -/

theorem exec_coefWrite_eq {s : State} {c : HCmd} (h : Plain s c) (hmask : bufMask c [0x1F] = true) (hlen : bufLen c = 256)
    (hidle : s.bankBusy (arg c 0 % 16) (bit (arg c 0) 4) = false) :
    exec (.coefWrite c) s = .next (((s.start c).setCoefs (arg c 0 % 16) (bit (arg c 0) 4) (leWords (bufBytes c))).complete
      (s.originOf c 0x22) 0 0 []) :=
  congrArg Host.Outcome.next ((State.command_none_eq h (by simp only [hmask, hlen, decide_true, Bool.and_self]) rfl).trans
    (if_neg (Bool.eq_false_iff.1 hidle)))

theorem exec_pktSend_mg {s : State} {c : HCmd} (h : Plain s c) (hmask : bufMask c [0xF7] = true) (hlen : 14 ≤ bufLen c)
    (hport : arg c 0 % 8 = 4) : exec (.pktSend c) s = .next ((s.start c).mgSend (bufBytes c) false (some (s.originOf c 0x30))) := by
  refine congrArg Host.Outcome.next ((State.command_none_eq h ?_ ?_).trans (if_pos hport))
  · simp only [hmask, hlen, hport, Nat.le_refl, decide_true, Bool.and_self]
  · rw [hport]; rfl

theorem exec_pktSend_ep {s : State} {c : HCmd} (h : Plain s c) (hmask : bufMask c [0xF7] = true) (hlen : 14 ≤ bufLen c)
    (hport : arg c 0 % 8 < 4) (hmode : s.mode ≠ 10) (hon : s.gl.egressOff = false) :
    exec (.pktSend c) s
      = .next ((s.start c).sendHostFrame (arg c 0 % 8) (bits (arg c 0) 4 3) (bit (arg c 0) 7) (bufBytes c) (s.originOf c 0x30)) := by
  refine congrArg Host.Outcome.next ((State.command_none_eq h ?_ ?_).trans (if_neg (Nat.ne_of_lt hport)))
  · simp only [hmask, hlen, Nat.le_of_lt hport, decide_true, Bool.and_self]
  · simp [hmode, hon]

/-! ### The flow table and templates (R210, R251) -/

theorem State.withFtPage_eq {s : State} (o : Origin) (f : State → State) (h : (s.physPage (s.ftBase / pageBytes)).isSome = true) :
    s.withFtPage o f = f s := by
  obtain ⟨q, hq⟩ := Option.isSome_iff_exists.1 h
  rw [State.withFtPage, hq]

theorem exec_ftInsert_eq {s : State} {c : HCmd} (h : Plain s c) :
    let u := s.start c
    let w := (List.range 12).map (arg c)
    argMask c (List.replicate 12 0xFFFFFFFF) = true → flowOk w true = true → (u.physPage (u.ftBase / pageBytes)).isSome = true →
      (s.mode = 7 → 2 ≤ bits (nth w 10) 13 3 ∨ 240 ≤ nth w 10 % 8192) → (u.ftInsert w).2.1 = 0 →
        exec (.ftInsert c) s = .next (((u.ftInsert w).1.mirrorFlow true w).complete (s.originOf c 0x31) 0 0 [(u.ftInsert w).2.2]) := by
  intro u w hmask hflow hpage hlantern hplaced
  have hchan : ∀ n, (if bits (nth w 10) 13 3 ≤ 1 then some (nth w 10 % 8192) else none) = some n → s.mode = 7 → 240 ≤ n := by
    intro n hn hm
    split at hn
    · next hkind =>
      cases hn
      exact (hlantern hm).resolve_left (by omega)
    · cases hn
  exact congrArg Host.Outcome.next ((State.command_eq h (by simp only [hmask, hflow, w, Bool.and_self]) rfl hchan).trans
    ((State.withFtPage_eq _ _ hpage).trans (if_pos hplaced)))

theorem exec_ftDelete_eq {s : State} {c : HCmd} (h : Plain s c) :
    let u := s.start c
    let w := (List.range 10).map (arg c)
    argMask c (List.replicate 10 0xFFFFFFFF) = true → flowOk w false = true → (u.physPage (u.ftBase / pageBytes)).isSome = true →
      ∀ p, u.ftFind (ftKey w) (ftVlan w) = some p →
        exec (.ftDelete c) s = .next (((u.ftDelete w).1.mirrorFlow false (u.ftWords p.1 p.2)).complete (s.originOf c 0x32) 0 0 []) := by
  intro u w hmask hflow hpage p hp
  have hdone : (u.ftDelete w).2 = 0 := by rw [State.ftDelete, hp]
  refine congrArg Host.Outcome.next ((State.command_none_eq h (by simp only [hmask, hflow, w, Bool.and_self]) rfl).trans
    ((State.withFtPage_eq _ _ hpage).trans ?_))
  show (if (u.ftDelete w).2 = 0 then _ else _ : State).complete _ (u.ftDelete w).2 0 [] = _
  rw [hdone, if_pos rfl, hp]

theorem exec_tplWrite_eq {s : State} {c : HCmd} (h : Plain s c) (hmask : bufMask c [0xF, 0x3FFF] = true) (hlen : bufLen c = 128)
    (hlantern : s.mode = 7 → 240 ≤ arg c 1 / 2) (hwords : templateOk (leWords (bufBytes c)) = true)
    (hmapped : ∀ p, p < 4 → bit (arg c 0) p = true → ∀ g ∈ s.tablePages p, (s.physPage g).isSome = true) :
    exec (.tplWrite c) s = .next ((((List.range 4).filter fun p => bit (arg c 0) p).foldl
      (fun s p => s.writeTemplate p (arg c 1) (leWords (bufBytes c))) (s.start c)).complete (s.originOf c 0x33) 0 0 []) := by
  have hfind : (((List.range 4).filter fun p => bit (arg c 0) p).flatMap (s.start c).tablePages).find?
      (fun g => ((s.start c).physPage g).isNone) = none := by
    rw [List.find?_eq_none]
    intro g hg
    obtain ⟨p, hp, hg⟩ := List.mem_flatMap.1 hg
    obtain ⟨hp4, hbit⟩ := List.mem_filter.1 hp
    have hsome : ((s.start c).physPage g).isSome = true := hmapped p (List.mem_range.1 hp4) hbit g hg
    simpa using Option.isSome_iff_ne_none.1 hsome
  refine congrArg Host.Outcome.next ((State.command_eq h (by simp only [hmask, hlen, decide_true, Bool.and_self]) rfl
    fun _ hn => Option.some.inj hn ▸ hlantern).trans ((if_pos hwords).trans ?_))
  rw [hfind]

/-- Settles O44: a command past its checks is its own effect on the state after its start; the loads of cluster memories and of
coefficients are lists of words written from a key on. -/
theorem hostCommandResults : Obligations.HostCommandResults := by
  unfold Obligations.HostCommandResults
  intro s c h u b
  refine ⟨fun hmask => ?info, fun hmask hhold => ?admission, fun hmask hlen hpos hnamed hcsm hshared hfit => ?csm,
    fun hmask hlen hpos hnamed hcps hfit hboot hopen => ?cps, fun hmask => ?sync, fun hmask hty => ?message,
    fun hmask hlen hidle => ?coef, fun hmask => ?swap, exec_pktSend_mg h, exec_pktSend_ep h, exec_ftInsert_eq h, exec_ftDelete_eq h,
    exec_tplWrite_eq h, fun hmask hlen hwords => ?srtpWrite, fun hmask hlen => ?srtpRead, fun hmask => ?portReset,
    fun hmask hofs hlen hpos hmax errs => ?copy, fun hmask hmove => ?move⟩
  case info => exact congrArg Host.Outcome.next (State.command_none_eq h hmask rfl)
  case admission =>
    have hst := fun t : State => ((State.complete_fr t.budgetCheck (s.originOf c 0x04) 0 0 [t.budgetCheck.budget] (.refl _)).st rfl).trans
      t.budgetCheck_st
    refine ⟨_, congrArg Host.Outcome.next (State.command_none_eq h (by simp only [hmask, hhold, decide_true, Bool.and_self]) rfl),
      congrArg (·.measured) (hst _), congrArg (·.margin) (hst _), congrArg (·.hold) (hst _), ?_⟩
    exact (State.complete_fr _ _ _ _ _ (W := 0x88c008) (State.budgetCheck_fr _ (.refl _) rfl) rfl).chans rfl
  case csm =>
    have hwords := leWords_bufBytes_length hlen
    obtain ⟨t, hexec, hmem⟩ := exec_csmLoad_csm h hmask hlen hpos hnamed hcsm hshared hfit
    refine ⟨t, hexec, fun k hk hin i hi => ?_, fun k w hw hout => ?_, ?_⟩ <;> rw [hmem]
    · rw [csmGet_foldl_putCsm u (by unfold csmWords; omega) (hwords.symm ▸ hfit),
        if_pos ⟨State.mem_maskClusters.2 ⟨hk, hin⟩, by omega, by omega⟩, Nat.add_sub_cancel_left]
    · refine (csmGet_foldl_putCsm u hw (hwords.symm ▸ hfit) _ k).trans (if_neg ?_)
      rintro ⟨hk, hlo, hhi⟩
      rw [hwords] at hhi
      rcases hout with hout | hout | hout
      · omega
      · omega
      · exact hout (State.mem_maskClusters.1 hk).2
    · exact foldl_keeps (·.mem.cps) (fun t k => t.putCsm k _ _) (fun _ _ => rfl) _ _
  case cps =>
    have hwords := leWords_bufBytes_length hlen
    obtain ⟨t, hexec, hmem⟩ := exec_csmLoad_cps h hmask hlen hpos hnamed hcps hfit hboot hopen
    refine ⟨t, hexec, ?_, fun k hk hin i hi => ?_⟩
    · rw [hmem]
      exact foldl_keeps (·.mem.csm) (fun t k => t.loadCps k _ _) (fun _ _ => rfl) _ _
    · rw [State.cps, hmem, ← State.cps, cps_foldl_loadCps u (by omega) (hwords.symm ▸ hfit),
        if_pos ⟨State.mem_maskClusters.2 ⟨hk, hin⟩, by omega, by omega⟩, Nat.add_sub_cancel_left]
  case sync =>
    exact ⟨_, congrArg Host.Outcome.next (State.command_none_eq h hmask rfl),
      congrArg (·.sync) ((State.complete_fr (u.syncRequest s.nowNs 3) (s.originOf c 0x20) 0 0 [] (.refl _)).bs rfl)⟩
  case message =>
    have htype : (decide (arg c 0 % 256 = 1) || decide (arg c 0 % 256 = 2) || decide (arg c 0 % 256 = 3)
        || decide (arg c 0 % 256 = 5)) = true := by
      simpa [or_assoc] using hty
    exact congrArg Host.Outcome.next (State.command_none_eq h (by simp only [hmask, htype, Bool.and_self]) rfl)
  case coef =>
    have hbs := (State.complete_fr (u.setCoefs (arg c 0 % 16) (bit (arg c 0) 4) (leWords b)) (s.originOf c 0x22) 0 0 [] (.refl _)).bs rfl
    have hwords : (leWords b).length = 64 := (leWords_bufBytes_length (by rw [hlen])).trans (by rw [hlen])
    refine ⟨_, exec_coefWrite_eq h hmask hlen hidle, fun i hi => ?_, fun k hk => ?_⟩
    · rw [hbs, State.coef_setCoefs, if_pos (by omega), Nat.add_sub_cancel_left]
    · rw [hbs, State.coef_setCoefs, if_neg]
      · rfl
      · rintro ⟨hlo, hhi⟩
        obtain ⟨i, rfl⟩ := Nat.exists_eq_add_of_le hlo
        exact hk i (by omega) rfl
  case swap => exact congrArg Host.Outcome.next (State.command_none_eq h hmask rfl)
  case srtpWrite =>
    exact ⟨_, congrArg Host.Outcome.next ((State.command_none_eq h (by simp only [hmask, hlen, decide_true, Bool.and_self]) rfl).trans
      (if_pos hwords)), rfl⟩
  case srtpRead =>
    exact congrArg Host.Outcome.next (State.command_none_eq h (by simp only [hmask, hlen, decide_true, Bool.and_self]) rfl)
  case portReset => exact congrArg Host.Outcome.next (State.command_none_eq h hmask rfl)
  case copy =>
    have haddr : (arg c 1 + 2 ^ 32 * arg c 2) % 4 = 0 := by omega
    exact congrArg Host.Outcome.next (State.command_none_eq h (by simp only [hmask, haddr, hlen, hpos, hmax, decide_true, Bool.and_self]) rfl)
  case move =>
    refine congrArg Host.Outcome.next ((State.command_none_eq h hmask rfl).trans ?_)
    dsimp only
    rw [hmove]

end Sys2Proof.Machine
end

section
/-! ## Frames received and sent on a packet port (R242-R244, R252-R254, R261) -/
set_option Elab.async false
namespace Sys2Proof.Machine

/-! ### Ports and their queues -/

theorem State.port_congr {s t : State} (h : t.ep = s.ep) : t.port = s.port := by
  funext p
  exact congrArg (fun e : Ports => mget Port.init e.port p) h

theorem State.txQueue_congr {s t : State} (h : t.ep = s.ep) : t.txQueue = s.txQueue := by
  funext p i
  exact congrArg (fun x : Port => mget [] x.queues i) (congrFun (State.port_congr h) p)

@[simp] theorem State.port_setPort_same (s : State) (p : Nat) (x : Port) : (s.setPort p x).port p = x := mget_mset_same ..

@[simp] theorem State.port_setTxQueue_same (s : State) (p i : Nat) (l : List TxFrame) :
    (s.setTxQueue p i l).port p = { s.port p with queues := mset [] (s.port p).queues i l } := State.port_setPort_same ..

theorem State.txQueue_eq (s : State) (p i : Nat) : s.txQueue p i = mget [] (s.port p).queues i := rfl

@[simp] theorem State.txQueue_setTxQueue_same (s : State) (p i : Nat) (l : List TxFrame) : (s.setTxQueue p i l).txQueue p i = l := by
  rw [State.txQueue_eq, State.port_setTxQueue_same]
  exact mget_mset_same ..

theorem State.txQueue_setTxQueue_ne (s : State) (p : Nat) {i k : Nat} (l : List TxFrame) (h : k ≠ i) :
    (s.setTxQueue p i l).txQueue p k = s.txQueue p k := by
  rw [State.txQueue_eq, State.port_setTxQueue_same]
  exact mget_mset_ne _ _ _ _ h

theorem State.ep_txDone (s : State) (p : Nat) (f : TxFrame) (status : Nat) (aborted : Bool) (roc : Nat) (ts : Option (Nat × Nat)) :
    (s.txDone p f status aborted roc ts).ep = s.ep :=
  (State.txDone_fr s p f status aborted roc ts (.refl s)).ep rfl

/-! ### Reception (R244, R261) -/

/-- A frame that fails a check of R240 and R244 and is not delivered only ends its reception. -/
theorem State.receive_refused {s : State} {p : Nat} {l : List Byte} {pcs overflow : Bool} (tagOk : Bool)
    (h : overflow = true ∨ (l.length < 64 ∨ s.fld (F.EP_RX_CFG_MAX_FRAME p) < l.length ∨ pcs = true
      ∨ leNat (l.drop (l.length - 4)) ≠ (crc32 0xEDB88320 (l.take (l.length - 4))).toNat) ∧ s.flag (F.EP_RX_CFG_DELIVER_BAD p) = false) :
    ∃ r t, s.receive p l pcs overflow tagOk = s.rxEnd p r t := by
  unfold State.receive
  dsimp only
  by_cases hov : overflow = true
  · rw [if_pos hov]
    exact ⟨_, _, rfl⟩
  · obtain ⟨hbad, hdeliver⟩ := h.resolve_left hov
    rw [if_neg hov, if_pos (by simpa [or_comm, or_left_comm, or_assoc] using hbad), if_neg (by simp [hdeliver])]
    exact ⟨_, _, rfl⟩

/-- A good MAC control frame is taken or left by `macControl`, and its reception ends. -/
theorem State.receive_control {s : State} {p : Nat} {l : List Byte} (tagOk : Bool) (hmin : 64 ≤ l.length)
    (hmax : l.length ≤ s.fld (F.EP_RX_CFG_MAX_FRAME p))
    (hfcs : leNat (l.drop (l.length - 4)) = (crc32 0xEDB88320 (l.take (l.length - 4))).toNat) (htype : get16 l 12 = 0x8808) :
    ∃ r t, s.receive p l false false tagOk = (s.macControl p l).1.rxEnd p r t := by
  unfold State.receive
  dsimp only
  rw [if_neg Bool.false_ne_true, if_neg (by simp [hfcs]; omega), if_pos htype]
  exact ⟨_, _, rfl⟩

theorem State.port_pausePri (s : State) (p i : Nat) {q : Nat} (hq : q ≠ 0) :
    ((s.pausePri p i q).port p).pauseEnd
      = mput (s.port p).pauseEnd i (s.elapsed + q * quantum (s.fld (F.EP_STATUS_SPEED p)) / 100) := by
  unfold State.pausePri
  dsimp only
  rw [if_neg hq, State.port_congr ((State.incS_fr _ _ _ (.refl _)).ep rfl), State.port_setPort_same]

/-- A pause of one priority after another holds each of them, and none that was held before is released. -/
theorem State.isSome_pauseEnd_foldl_pausePri {p q : Nat} (hq : q ≠ 0) {i : Nat} (l : List Nat) (s : State)
    (h : i ∈ l ∨ (mfind (s.port p).pauseEnd i).isSome = true) :
    (mfind ((l.foldl (fun s k => s.pausePri p k q) s).port p).pauseEnd i).isSome = true := by
  induction l generalizing s with
  | nil => simpa using h
  | cons k l ih =>
    refine ih _ ?_
    rw [State.port_pausePri s p k hq]
    by_cases hk : i = k
    · subst hk
      exact .inr (by rw [mfind_mput_same]; rfl)
    · rw [mfind_mput_ne _ _ hk]
      exact h.imp_left fun hi => (List.mem_cons.1 hi).resolve_left hk

/-- A PAUSE frame of a non-zero time holds every priority (R261). -/
theorem State.isSome_pauseEnd_macControl {s : State} {p : Nat} {l : List Byte} (hop : get16 l 14 = 0x0001)
    (hen : s.flag (F.EP_PAUSE_CFG_PAUSE_EN p) = true) (hign : s.flag (F.EP_STATUS_PAUSE_IGNORED p) = false) (hq : get16 l 16 ≠ 0)
    {i : Nat} (hi : i < 8) : (mfind (((s.macControl p l).1).port p).pauseEnd i).isSome = true := by
  unfold State.macControl
  dsimp only
  rw [if_neg (by simp [hign]), if_pos ⟨hop, hen⟩]
  exact State.isSome_pauseEnd_foldl_pausePri hq (List.range 8) s (.inl (List.mem_range.2 hi))

/-! ### The start of a frame (R253, R425) -/

/-- A head frame that may leave either waits for its SENT note or starts. -/
theorem State.transmit_head {s : State} {p i : Nat} {f : TxFrame} {r : List TxFrame} (hmay : s.mayTransmit p = true)
    (hcur : (s.port p).cur = none) (hpri : s.nextPri p = some i) (hq : s.txQueue p i = f :: r) (hage : s.aged p f = false)
    (hegress : s.gl.egressOff = false ∨ f.fenceAnswer = true) (hevac : s.evacStopped = false ∨ f.kind = 2) :
    s.transmit p = if s.needsNote f = true ∧ f.note = 0 then
        ((s.placeNote (f.flow / 2) (get16 f.payload 2)).1.setTxQueue p i ({ f with note := s.tw.noteNext + 1 } :: r))
      else if s.needsNote f = true ∧ f.note > s.tw.noteSent then s
      else (s.setTxQueue p i r).startFrame p f := by
  unfold State.transmit
  simp only [hpri, hq]
  have hgo : ¬(s.mayTransmit p = false ∨ (s.port p).cur.isSome = true) := by simp [hmay, hcur]
  have hout : ¬(s.gl.egressOff = true ∧ f.fenceAnswer = false ∨ s.evacStopped = true ∧ f.kind ≠ 2) := by
    rintro (⟨hoff, hno⟩ | ⟨hstop, hkind⟩)
    · rcases hegress with h | h
      · exact Bool.noConfusion (hoff.symm.trans h)
      · exact Bool.noConfusion (hno.symm.trans h)
    · rcases hevac with h | h
      · exact Bool.noConfusion (hstop.symm.trans h)
      · exact hkind h
  rw [if_neg hgo, if_neg (by simp [hage]), if_neg hout]
  rfl

theorem State.transmit_idle {s : State} {p : Nat} (h : s.mayTransmit p = false ∨ (s.port p).cur.isSome = true ∨ s.nextPri p = none) :
    s.transmit p = s := by
  unfold State.transmit
  split
  · rfl
  · rename_i hgo
    rw [(or_assoc.2 h).resolve_left hgo]

/-- A host frame starts as it was given, padded to the least length (R242). -/
theorem State.startFrame_host (s : State) (p : Nat) {f : TxFrame} (hk : f.kind = 1) :
    ∃ ts, s.startFrame p f = s.setPort p { s.port p with cur := some ⟨f, padFrame f.payload, 0, false, 0, ts⟩ } := by
  unfold State.startFrame
  rw [hk]
  exact ⟨_, rfl⟩

theorem State.ageHead_cons {s : State} {p i : Nat} {f : TxFrame} {r : List TxFrame} (hq : s.txQueue p i = f :: r) :
    s.ageHead p i = if s.aged p f = true then (s.setTxQueue p i r).txDone p f 11 false 0 none else s := by
  unfold State.ageHead
  rw [hq]

/-! ### What has been sent stays sent -/

theorem State.out_suffix_sendMsix (s : State) (v : Nat) : s.out <:+ (s.sendMsix v).out := by
  unfold State.sendMsix
  split
  · exact List.suffix_rfl
  · exact List.suffix_cons ..

theorem State.out_suffix_moderate (s : State) (r : Nat) : s.out <:+ (s.moderate r).out := by
  unfold State.moderate
  dsimp only
  split
  · split
    · exact State.out_suffix_sendMsix (s.setRing r _) _
    · exact List.suffix_rfl
  · exact List.suffix_rfl

theorem State.out_suffix_ringEntry (s : State) (r : Nat) (words : List Nat) : s.out <:+ (s.ringEntry r words).out := by
  refine List.IsSuffix.trans ?_ (State.out_suffix_moderate _ r)
  exact (List.suffix_cons ..).trans (List.suffix_cons ..)

theorem State.out_suffix_complete (s : State) (o : Origin) (status detail : Nat) (vals : List Nat) :
    s.out <:+ (s.complete o status detail vals).out := by
  have hcount : (if status = 5 then s.countCmd.incS F.HI_ERR_CNT_BAD_DESC 1 else s.countCmd).out = s.out := by
    split
    · exact (State.incS_fr _ _ _ (.refl _)).out rfl
    · rfl
  unfold State.complete
  extract_lets u v
  change v.out = s.out at hcount
  split
  · exact hcount ▸ v.out_suffix_ringEntry _ _
  · exact (((State.incS_fr v _ _ (.refl _)).out rfl).trans hcount) ▸ List.suffix_rfl

theorem State.out_suffix_completeOpt (s : State) (o : Option Origin) (status detail : Nat) (vals : List Nat) :
    s.out <:+ (s.completeOpt o status detail vals).out := by
  cases o with
  | none => exact List.suffix_rfl
  | some o => exact s.out_suffix_complete o status detail vals

/-! ### Completions of frames (R254, R265, R266) -/

/-- A frame as its end is counted: a drop when it is not sent, a lost timestamp. -/
def State.txCounted (s : State) (p : Nat) (f : TxFrame) (status : Nat) : State :=
  let u := if status = 0 then s else s.txDrop p
  if f.tsReq && !f.tsEntry && decide (status = 0) then (u.incS (F.EP_CNT_COUNT p 6) 1).setFlag (F.EP_EVENT_TS_LOST p) true else u

theorem State.txCounted_fr (s : State) (p : Nat) (f : TxFrame) (status : Nat) : State.Fr 0x8008 s (s.txCounted p f status) := by
  have hdrop : State.Fr 0x8008 s (if status = 0 then s else s.txDrop p) :=
    fr_ite (.refl s) (State.setFlag_fr _ _ _ (State.incS_fr _ _ _ (.refl s)) rfl)
  exact fr_ite (State.setFlag_fr _ _ _ (State.incS_fr _ _ _ hdrop) rfl) hdrop

/-- Behind its counts, the end of an item may write a record and touches channels; that of a host frame completes its command. -/
theorem State.txDone_cases (s : State) (p : Nat) (f : TxFrame) (status : Nat) (aborted : Bool) (roc : Nat) (ts : Option (Nat × Nat)) :
    (∃ words, ((s.txDone p f status aborted roc ts).regs = (s.txCounted p f status).regs
        ∨ (s.txDone p f status aborted roc ts).regs = ((s.txCounted p f status).statRing p true words).regs)
      ∧ (s.txDone p f status aborted roc ts).out = (s.txCounted p f status).out)
    ∨ ∃ o vals, s.txDone p f status aborted roc ts = (s.txCounted p f status).completeOpt o status 0 vals := by
  unfold State.txDone
  extract_lets lost padded w0 t u v seq words x
  split
  · left
    have hx : (x.regs = v.regs ∨ x.regs = (v.statRing p true words).regs) ∧ x.out = v.out := by
      dsimp only [x]
      split
      · exact ⟨.inr rfl, (State.statRing_fr v p true words (.refl v)).out rfl⟩
      · exact ⟨.inl rfl, rfl⟩
    have hend : ∀ y : State, State.Fr 0x80 x y → ∃ words, (y.regs = v.regs ∨ y.regs = (v.statRing p true words).regs) ∧ y.out = v.out :=
      fun y hy => ⟨words, by rw [hy.regs rfl]; exact hx.1, (hy.out rfl).trans hx.2⟩
    refine hend _ ?_
    split
    · exact fr_ite (State.lanternCount_fr _ _ _ _ (State.setChan_fr _ _ _ (.refl x)) rfl) (State.setChan_fr _ _ _ (.refl x))
    · exact .refl x
  · exact .inr ⟨_, _, rfl⟩
  · exact .inr ⟨none, [], rfl⟩

theorem State.out_suffix_txDone (s : State) (p : Nat) (f : TxFrame) (status : Nat) (aborted : Bool) (roc : Nat) (ts : Option (Nat × Nat)) :
    s.out <:+ (s.txDone p f status aborted roc ts).out := by
  have hcount := (s.txCounted_fr p f status).out rfl
  rcases s.txDone_cases p f status aborted roc ts with ⟨_, -, hout⟩ | ⟨o, vals, heq⟩
  · exact (hout.trans hcount) ▸ List.suffix_rfl
  · rw [heq]
    exact hcount ▸ State.out_suffix_completeOpt ..

/-- What leaves the device when a frame on the wire ends: a fabric frame, or bytes with their FCS, which an abort inverts (R50, R254). -/
def OnWire.leaves (o : OnWire) (p : Nat) (aborted : Bool) : Out :=
  o.f.fab.elim
    (.frame p (o.bytes ++ leBytes 4 (if aborted then 2 ^ 32 - 1 - (crc32 0xEDB88320 o.bytes).toNat
      else (crc32 0xEDB88320 o.bytes).toNat)) (!aborted))
    fun x => .fabric p o.f.link x.1 x.2

theorem OnWire.leaves_frame {o : OnWire} (p : Nat) (aborted : Bool) (hf : o.f.fab = none) : o.leaves p aborted
    = .frame p (o.bytes ++ leBytes 4 (if aborted then 2 ^ 32 - 1 - (crc32 0xEDB88320 o.bytes).toNat
      else (crc32 0xEDB88320 o.bytes).toNat)) (!aborted) :=
  congrArg (Option.elim · _ _) hf

theorem OnWire.leaves_fabric {o : OnWire} (p : Nat) (aborted : Bool) {h : FabHdr} {b : FabBody} (hf : o.f.fab = some (h, b)) :
    o.leaves p aborted = .fabric p o.f.link h b :=
  congrArg (Option.elim · _ _) hf

/-- The frame that ends is put out, and then completed. -/
theorem State.transmitEnd_eq {s : State} {p : Nat} {o : OnWire} (aborted : Bool) (ho : (s.port p).cur = some o) :
    ∃ status roc ts, s.transmitEnd p aborted
      = ((s.setPort p { s.port p with cur := none }).emit (o.leaves p aborted)).txDone p o.f status aborted roc ts := by
  unfold State.transmitEnd
  rcases hf : o.f.fab with _ | ⟨h, b⟩
  · rw [OnWire.leaves_frame p aborted hf]
    simp only [ho, hf]
    exact ⟨_, _, _, rfl⟩
  · rw [OnWire.leaves_fabric p aborted hf]
    simp only [ho, hf]
    exact ⟨_, _, _, rfl⟩

/-- Settles O40: reception of a refused frame and of a PAUSE, the choice of the frame that starts, and its end each have a lemma of
their own; completions behind them leave the ports and what was sent. -/
theorem portFrames : Obligations.PortFrames := by
  unfold Obligations.PortFrames
  intro s p
  refine ⟨fun l pcs overflow tagOk => ⟨fun hoff => ?closed, fun hen hreset h0 h9 => ⟨s.receive p l pcs overflow tagOk, ?taken, rfl, fun hbad => ?refused,
      fun hov hmin hmax hpcs hfcs htype hop hpause hign hq i hi => ?pause⟩⟩,
    fun hidle => congrArg Host.Outcome.next (State.transmit_idle hidle),
    fun i f r hmay hcur hpri hq hage hegress hevac => ?start, fun i f r hq hage => ⟨_, congrArg Host.Outcome.next ((State.ageHead_cons hq).trans (if_pos hage)), ?_, rfl⟩,
    fun i f r hq hage => congrArg Host.Outcome.next ((State.ageHead_cons hq).trans (if_neg (by simp [hage]))),
    fun o aborted ho => ⟨_, rfl, ?ended⟩⟩
  case closed => exact congrArg Host.Outcome.next (if_neg (by rintro ⟨hen, hreset, h0, h9⟩; simp [hen, hreset, h0, h9] at hoff))
  case taken => exact congrArg Host.Outcome.next (if_pos ⟨hen, hreset, h0, h9⟩)
  case refused =>
    obtain ⟨r, t, heq⟩ := State.receive_refused tagOk hbad
    have hfr := State.rxEnd_fr s p r t (.refl s)
    rw [heq]
    exact ⟨hfr.chans rfl, hfr.out rfl, hfr.ep rfl⟩
  case pause =>
    subst hov hpcs
    obtain ⟨r, t, heq⟩ := State.receive_control tagOk hmin hmax hfcs htype
    rw [heq, State.port_congr ((State.rxEnd_fr _ p r t (.refl _)).ep rfl)]
    exact State.isSome_pauseEnd_macControl hop hpause hign hq hi
  case start =>
    have hstart := State.transmit_head hmay hcur hpri hq hage hegress hevac
    have hfree : ∀ h : s.needsNote f = false ∨ f.note ≠ 0 ∧ f.note ≤ s.tw.noteSent, s.transmit p = (s.setTxQueue p i r).startFrame p f := by
      rintro h
      rw [hstart, if_neg, if_neg]
      · rintro ⟨hn, hgt⟩
        rcases h with h | ⟨-, hle⟩
        · exact Bool.noConfusion (h.symm.trans hn)
        · omega
      · rintro ⟨hn, hz⟩
        rcases h with h | ⟨hnz, -⟩
        · exact Bool.noConfusion (h.symm.trans hn)
        · exact hnz hz
    refine ⟨fun hn hz => ⟨_, congrArg Host.Outcome.next (hstart.trans (if_pos ⟨hn, hz⟩)), ?_, rfl, State.txQueue_setTxQueue_same ..⟩,
      fun hn hz hlt => congrArg Host.Outcome.next (hstart.trans ((if_neg fun h => hz h.2).trans (if_pos ⟨hn, hlt⟩))),
      fun h => congrArg Host.Outcome.next (hfree h), fun hk hn => ?_⟩
    · rw [State.port_setTxQueue_same]
      exact hcur
    · obtain ⟨ts, heq⟩ := State.startFrame_host (s.setTxQueue p i r) p hk
      refine ⟨_, _, congrArg Host.Outcome.next ((hfree (.inl hn)).trans heq), by rw [State.port_setPort_same], rfl, rfl, ?_⟩
      rw [State.txQueue_eq, State.port_setPort_same, State.port_setTxQueue_same]
      exact mget_mset_same ..
  case ended =>
    obtain ⟨status, roc, ts, heq⟩ := State.transmitEnd_eq aborted ho
    have hout : o.leaves p aborted ∈ (s.transmitEnd p aborted).out := by
      rw [heq]
      exact (State.out_suffix_txDone ..).subset (List.mem_cons_self ..)
    refine ⟨?_, fun hf => ?_, fun h b hf => ?_⟩
    · rw [heq, State.port_congr (State.ep_txDone ..)]
      exact congrArg Port.cur (State.port_setPort_same ..)
    · exact OnWire.leaves_frame p aborted hf ▸ hout
    · exact OnWire.leaves_fabric p aborted hf ▸ hout
  · rw [State.txQueue_congr (State.ep_txDone ..), State.txQueue_setTxQueue_same]

end Sys2Proof.Machine
end

section
/-! ## Fields of the packet ports: what completions, reports and the fencing of a twin leave alone -/
set_option Elab.async false
namespace Sys2Proof.Machine

/-- A field stands in the registers of the packet ports or above them. -/
def atEp (g : Fld) : Prop := 0x100000 * 8 ≤ g.key

theorem atEp_mk {a p lo w rst : Nat} (h : 0x100000 ≤ a) : atEp ⟨a + p * 0x10000, lo, w, rst⟩ := by
  show 0x100000 * 8 ≤ (a + p * 0x10000) * 8 + lo
  omega

theorem atEp_ne {f g : Fld} (hf : f.key < 0x100000 * 8) (hg : atEp g) : f.key ≠ g.key := Nat.ne_of_lt (Nat.lt_of_lt_of_le hf hg)

theorem outRl_of_atEp {g : Fld} (hg : atEp g) : outRl g = true :=
  Bool.or_eq_true_iff.2 (.inr (decide_eq_true (Nat.le_trans (by decide) hg)))

theorem outHi_of_atEp {g : Fld} (hg : atEp g) : outHi g = true :=
  Bool.or_eq_true_iff.2 (.inr (decide_eq_true (Nat.le_trans (by decide) hg)))

theorem enqFree_of_atEp {g : Fld} (hg : atEp g) : enqFree g = true := enqFree_of_outRl (outRl_of_atEp hg)

/-- Two fields of one port differ when their places within it do. -/
theorem epField_ne {p a b la lb wa wb ra rb : Nat} (h : a * 8 + la ≠ b * 8 + lb) :
    Fld.key ⟨a + p * 0x10000, la, wa, ra⟩ ≠ Fld.key ⟨b + p * 0x10000, lb, wb, rb⟩ := by
  show (a + p * 0x10000) * 8 + la ≠ (b + p * 0x10000) * 8 + lb
  omega

section
variable {g : Fld} (hg : atEp g)
include hg

theorem State.incS_below_keeps_fld (s : State) {f : Fld} (n : Nat) (hf : f.key < 0x100000 * 8) : (s.incS f n).fld g = s.fld g :=
  State.incS_fld_ne _ _ _ (enqFree_of_atEp hg) (atEp_ne hf hg)

theorem State.completeOpt_keeps_epFld (s : State) (o : Option Origin) (status detail : Nat) (vals : List Nat) :
    (s.completeOpt o status detail vals).fld g = s.fld g :=
  State.completeOpt_keeps_fld _ _ _ _ _ (enqFree_of_atEp hg) (outHi_of_atEp hg)

theorem State.trigger_keeps_epFld (s : State) (target : Nat) : (s.trigger target).fld g = s.fld g := by
  unfold State.trigger
  split
  · exact State.fld_ite rfl rfl
  · exact State.fld_ite (State.fld_ite rfl rfl) (State.fld_ite (State.completeOpt_keeps_epFld hg _ _ _ _ _) rfl)

theorem State.mgMessage_keeps_epFld (s : State) (type dst : Nat) (all : Bool) (at_ arg : Nat) (o : Option Origin) :
    (s.mgMessage type dst all at_ arg o).fld g = s.fld g := by
  unfold State.mgMessage State.mgSend
  refine State.fld_ite (State.completeOpt_keeps_epFld hg _ _ _ _ _) (State.fld_ite (State.completeOpt_keeps_epFld hg _ _ _ _ _)
    (State.fld_ite ?_ ?_))
  · exact (State.completeOpt_keeps_epFld hg _ _ _ _ _).trans (State.incS_below_keeps_fld hg _ _ (by decide))
  · exact State.fld_setFld_ne _ _ _ _ (atEp_ne (by decide) hg)

theorem State.sendFence_keeps_epFld (s : State) (i : Nat) : (s.sendFence i).fld g = s.fld g := by
  have hcount : ∀ u : State, (u.twCount 22 1).fld g = u.fld g := by
    intro u
    rw [State.twCount, if_neg (by decide)]
    exact State.incS_below_keeps_fld hg u 1 (by decide)
  have hqueue : ∀ (u : State) (l : Nat) (b : FabBody) (note : Nat), (u.fabQueue l b note).fld g = u.fld g := fun _ _ _ _ => rfl
  unfold State.sendFence
  extract_lets peer u v x w
  have hu : u.fld g = s.fld g := by
    dsimp only [u]
    split
    · exact State.fld_ite ((hcount _).trans (hqueue ..)) rfl
    · rfl
  have hv : v.fld g = u.fld g := (hcount _).trans (State.mgMessage_keeps_epFld hg _ _ _ _ _ _ _)
  have hw : w.fld g = v.fld g := congrFun (State.fld_congr ((State.setTwSlot_fr _ i _ (.refl _)).regs rfl)) g
  rw [State.fld_setFlag_ne w F.TW_EVENT_FENCE_SENT g true (atEp_ne (by decide) hg), hw, hv, hu]

theorem State.suspect_keeps_epFld (s : State) {i : Nat} (hi : i < 4) : (s.suspect i).fld g = s.fld g := by
  have hstate : (F.TW_PRI_STAT_STATE i).key < 0x100000 * 8 := by
    show (0x9010c + i * 32) * 8 + 0 < 0x100000 * 8
    omega
  unfold State.suspect
  refine State.fld_ite ((State.sendFence_keeps_epFld hg _ _).trans ?_) rfl
  refine Eq.trans (congrFun (State.fld_congr ((State.setTwSlot_fr _ i _ (.refl _)).regs rfl)) g) ?_
  exact (State.event_warn_fld_ne _ F.TW_EVENT_PEER_LOST _ _ _ _ (enqFree_of_atEp hg) (atEp_ne (by decide) hg)).trans
    (State.fld_setFld_ne _ _ _ _ (atEp_ne hstate hg))

theorem State.foldl_suspect_keeps_epFld (c : State → Nat → Prop) [∀ s i, Decidable (c s i)] (l : List Nat) (hl : ∀ i ∈ l, i < 4) (s : State) :
    (l.foldl (fun s i => if c s i then s.suspect i else s) s).fld g = s.fld g := by
  induction l generalizing s with
  | nil => rfl
  | cons i l ih =>
    obtain ⟨hi, hl⟩ := List.forall_mem_cons.1 hl
    exact (ih hl _).trans (State.fld_ite (State.suspect_keeps_epFld hg _ hi) rfl)

theorem State.directLost_keeps_epFld (s : State) (p : Nat) : (s.directLost p).fld g = s.fld g := by
  unfold State.directLost
  extract_lets u
  have hu : u.fld g = s.fld g := State.fld_ite (State.trigger_keeps_epFld hg _ _) rfl
  exact (State.foldl_suspect_keeps_epFld hg _ _ (fun i => List.mem_range.1) u).trans hu

theorem State.recclkCheck_keeps_epFld (s : State) : s.recclkCheck.fld g = s.fld g :=
  State.fld_ite rfl (State.raise_keeps_fld _ (.inl rfl) _ _ _ _ _ _ (enqFree_of_atEp hg))

end

/-! ### What the completion of frames may write of a port (R254, R265, R266) -/

/-- The fields of a port that the end of a frame may write. -/
def txFlds (p : Nat) : List Fld :=
  [F.EP_CNT_COUNT p 5, F.EP_CNT_COUNT p 6, F.EP_EVENT_TX_DROP p, F.EP_EVENT_TS_LOST p, F.EP_TCR_WIDX_WIDX p]

/-- The end of a frame leaves the field of a port alone. -/
def txFree (p : Nat) (g : Fld) : Prop := atEp g ∧ ∀ f ∈ txFlds p, f.key ≠ g.key

theorem State.txDone_keeps_fld (s : State) (p : Nat) (f : TxFrame) (status : Nat) (aborted : Bool) (roc : Nat) (ts : Option (Nat × Nat))
    {g : Fld} (hg : txFree p g) : (s.txDone p f status aborted roc ts).fld g = s.fld g := by
  obtain ⟨hep, hne⟩ := hg
  obtain ⟨hdrops, hne⟩ := List.forall_mem_cons.1 hne
  obtain ⟨hlosts, hne⟩ := List.forall_mem_cons.1 hne
  obtain ⟨hdrop, hne⟩ := List.forall_mem_cons.1 hne
  obtain ⟨hlost, hne⟩ := List.forall_mem_cons.1 hne
  have hring := List.forall_mem_singleton.1 hne
  have hcount : (s.txCounted p f status).fld g = s.fld g := by
    have hu : (if status = 0 then s else s.txDrop p).fld g = s.fld g :=
      State.fld_ite rfl ((State.fld_setFlag_ne _ _ _ _ hdrop).trans (State.incS_fld_ne _ _ _ (enqFree_of_atEp hep) hdrops))
    exact State.fld_ite ((State.fld_setFlag_ne _ _ _ _ hlost).trans ((State.incS_fld_ne _ _ _ (enqFree_of_atEp hep) hlosts).trans hu)) hu
  rcases s.txDone_cases p f status aborted roc ts with ⟨words, hregs | hregs, -⟩ | ⟨o, vals, heq⟩
  · exact (congrFun (State.fld_congr hregs) g).trans hcount
  · refine (congrFun (State.fld_congr hregs) g).trans (Eq.trans ?_ hcount)
    exact (State.fld_setFld_ne _ _ _ _ hring).trans (congrFun (State.fld_congr ((State.setBytes_fr _ _ _ (.refl _)).regs rfl)) g)
  · rw [heq]
    exact (State.completeOpt_keeps_epFld hep _ _ _ _ _).trans hcount

/-- The registers of a port's status, negotiation and configuration stand apart from those of its frames. -/
theorem txFree_mk {a p lo w rst : Nat} (ha : 0x100000 ≤ a) (hlo : lo < 32)
    (h : a + 4 ≤ 0x100008 ∨ 0x10000c ≤ a ∧ a + 4 ≤ 0x10003c ∨ 0x100040 ≤ a ∧ a + 4 ≤ 0x1000c0) : txFree p ⟨a + p * 0x10000, lo, w, rst⟩ := by
  refine ⟨atEp_mk ha, List.forall_mem_cons.2 ⟨?_, List.forall_mem_cons.2 ⟨?_, List.forall_mem_cons.2 ⟨?_, List.forall_mem_cons.2 ⟨?_,
    List.forall_mem_singleton.2 ?_⟩⟩⟩⟩⟩
  · show (0x1000c0 + p * 0x10000 + 5 * 4) * 8 + 0 ≠ (a + p * 0x10000) * 8 + lo
    omega
  · show (0x1000c0 + p * 0x10000 + 6 * 4) * 8 + 0 ≠ (a + p * 0x10000) * 8 + lo
    omega
  · show (0x100008 + p * 0x10000) * 8 + 5 ≠ (a + p * 0x10000) * 8 + lo
    omega
  · show (0x100008 + p * 0x10000) * 8 + 4 ≠ (a + p * 0x10000) * 8 + lo
    omega
  · show (0x10003c + p * 0x10000) * 8 + 0 ≠ (a + p * 0x10000) * 8 + lo
    omega

end Sys2Proof.Machine
end

section
/-! ## Links, negotiation, pauses and resets of a packet port (R235-R237, R261, R262, R267, R268) -/
set_option Elab.async false
namespace Sys2Proof.Machine

/-! ### The loss of a link (R237) -/

/-- One priority of a port loses the frames that a test picks. -/
def State.flushPri (s : State) (p : Nat) (pick : TxFrame → Bool) (i : Nat) : State :=
  ((s.txQueue p i).filter pick).foldl (fun s f => s.txDone p f 6 false 0 none) (s.setTxQueue p i ((s.txQueue p i).filter fun f => !pick f))

theorem State.flushPort_eq (s : State) (p : Nat) (pick : TxFrame → Bool) :
    s.flushPort p pick = (List.range 8).foldl (fun s i => s.flushPri p pick i) s := rfl

theorem State.ep_flushPri (s : State) (p : Nat) (pick : TxFrame → Bool) (i : Nat) :
    (s.flushPri p pick i).ep = (s.setTxQueue p i ((s.txQueue p i).filter fun f => !pick f)).ep :=
  foldl_keeps State.ep _ (fun _ _ => State.ep_txDone ..) _ _

theorem State.flushPort_keeps_fld (s : State) (p : Nat) (pick : TxFrame → Bool) {g : Fld} (hg : txFree p g) :
    (s.flushPort p pick).fld g = s.fld g :=
  foldl_keeps (State.fld · g) _ (fun u i => (foldl_keeps (State.fld · g) _ (fun _ _ => State.txDone_keeps_fld _ _ _ _ _ _ _ hg) _ _).trans
    (congrFun (State.fld_congr ((State.setTxQueue_fr u p i _ (.refl u)).regs rfl)) g)) _ _

theorem State.cur_flushPort (s : State) (p : Nat) (pick : TxFrame → Bool) : ((s.flushPort p pick).port p).cur = (s.port p).cur :=
  foldl_keeps (fun u => (u.port p).cur) (fun u i => u.flushPri p pick i)
    (fun u i => by rw [State.port_congr (u.ep_flushPri p pick i), State.port_setTxQueue_same]) (List.range 8) s

theorem State.foldl_flushPri_empty (p : Nat) {k : Nat} (l : List Nat) (s : State) (h : k ∈ l ∨ s.txQueue p k = []) :
    (l.foldl (fun s i => s.flushPri p (fun _ => true) i) s).txQueue p k = [] := by
  induction l generalizing s with
  | nil => simpa using h
  | cons i l ih =>
    refine ih _ ?_
    have hstep := congrFun (congrFun (State.txQueue_congr (s.ep_flushPri p (fun _ => true) i)) p) k
    by_cases hk : k = i
    · subst hk
      right
      rw [hstep, State.txQueue_setTxQueue_same]
      simp
    · rw [hstep, State.txQueue_setTxQueue_ne _ _ _ hk]
      exact h.imp_left fun hi => (List.mem_cons.1 hi).resolve_left hk

theorem State.flushPort_empty (s : State) (p : Nat) {k : Nat} (hk : k < 8) : (s.flushPort p fun _ => true).txQueue p k = [] :=
  State.foldl_flushPri_empty p _ s (.inl (List.mem_range.2 hk))

/-- The status fields of a port whose link drops. -/
def State.linkFields (s : State) (p : Nat) : State :=
  (((s.setFlag (F.EP_STATUS_LINK p) false).restartAn p).setFlag (F.EP_PCS_STAT_BLOCK_LOCK p) false).setFlag (F.EP_PCS_STAT_FEC_ALIGN p) false

/-- The frame on the wire is cut. -/
def State.cutFrame (s : State) (p : Nat) : State :=
  match (s.port p).cur with
  | some o => (s.setPort p { s.port p with cur := none }).txDone p o.f 6 false 0 none
  | none => s

theorem State.cutFrame_none {s : State} {p : Nat} (h : (s.port p).cur = none) : s.cutFrame p = s := by
  unfold State.cutFrame
  rw [h]

theorem State.cutFrame_some {s : State} {p : Nat} {o : OnWire} (h : (s.port p).cur = some o) :
    s.cutFrame p = (s.setPort p { s.port p with cur := none }).txDone p o.f 6 false 0 none := by
  unfold State.cutFrame
  rw [h]

/-- A port without link or frames. -/
def State.linkEmptied (s : State) (p : Nat) : State := ((s.linkFields p).cutFrame p).flushPort p fun _ => true

/-- A port whose link has dropped, its frames discarded. -/
def State.linkGone (s : State) (p : Nat) : State :=
  (s.linkEmptied p).setPort p { (s.linkEmptied p).port p with downAt := some (s.linkEmptied p).elapsed }

theorem State.dropLink_eq (s : State) (p : Nat) : s.dropLink p
    = (if s.flag (F.EP_STATUS_LINK p) = true then (s.linkGone p).directLost p else s.linkGone p).recclkCheck := rfl

theorem State.cur_cutFrame (s : State) (p : Nat) : ((s.cutFrame p).port p).cur = none := by
  rcases h : (s.port p).cur with _ | o
  · rw [State.cutFrame_none h, h]
  · rw [State.cutFrame_some h, State.port_congr (State.ep_txDone ..), State.port_setPort_same]

theorem State.cutFrame_keeps_fld (s : State) (p : Nat) {g : Fld} (hg : txFree p g) : (s.cutFrame p).fld g = s.fld g := by
  rcases h : (s.port p).cur with _ | o
  · rw [State.cutFrame_none h]
  · rw [State.cutFrame_some h, State.txDone_keeps_fld _ _ _ _ _ _ _ hg]
    exact congrFun (State.fld_congr ((State.setPort_fr s p _ (.refl s)).regs rfl)) g

theorem State.elapsed_cutFrame (s : State) (p : Nat) : (s.cutFrame p).elapsed = s.elapsed := by
  rcases h : (s.port p).cur with _ | o
  · rw [State.cutFrame_none h]
  · rw [State.cutFrame_some h]
    exact ((State.txDone_fr _ _ _ _ _ _ _ (.refl _)).elapsed rfl).trans ((State.setPort_fr s p _ (.refl s)).elapsed rfl)

theorem State.ep_dropLink (s : State) (p : Nat) : (s.dropLink p).ep = (s.linkGone p).ep := by
  rw [State.dropLink_eq]
  refine ((State.recclkCheck_fr _ (.refl _)).ep rfl).trans ?_
  split
  · exact (State.directLost_fr _ _ (.refl _)).ep rfl
  · rfl

/-- What a dropped link leaves of a field that frames do not write. -/
theorem State.fld_dropLink (s : State) {p : Nat} {g : Fld} (hg : txFree p g) : (s.dropLink p).fld g = (s.linkFields p).fld g := by
  have hgone : (s.linkGone p).fld g = (s.linkFields p).fld g := by
    refine (congrFun (State.fld_congr ((State.setPort_fr _ p _ (.refl (s.linkEmptied p))).regs rfl)) g).trans ?_
    exact (State.flushPort_keeps_fld _ _ _ hg).trans (State.cutFrame_keeps_fld _ _ hg)
  rw [State.dropLink_eq, State.recclkCheck_keeps_epFld hg.1]
  exact State.fld_ite ((State.directLost_keeps_epFld hg.1 _ _).trans hgone) hgone

/-- A port whose link has dropped sends nothing and holds nothing, and the time stands. -/
theorem State.port_dropLink (s : State) (p : Nat) : ((s.dropLink p).port p).cur = none ∧ ((s.dropLink p).port p).downAt = some s.elapsed
    ∧ ∀ k, k < 8 → (s.dropLink p).txQueue p k = [] := by
  have helapsed : (s.linkEmptied p).elapsed = s.elapsed :=
    ((State.flushPort_fr ((s.linkFields p).cutFrame p) p (fun _ => true) (.refl _)).elapsed rfl).trans ((s.linkFields p).elapsed_cutFrame p)
  have hcur : ((s.linkEmptied p).port p).cur = none :=
    (State.cur_flushPort _ p _).trans (State.cur_cutFrame _ p)
  have hempty : ∀ k, k < 8 → (s.linkEmptied p).txQueue p k = [] := fun _ hk => State.flushPort_empty _ p hk
  rw [State.port_congr (s.ep_dropLink p), State.txQueue_congr (s.ep_dropLink p)]
  unfold State.linkGone
  refine ⟨?_, ?_, fun k hk => ?_⟩
  · rw [State.port_setPort_same, hcur]
  · rw [State.port_setPort_same, helapsed]
  · rw [State.txQueue_eq, State.port_setPort_same]
    dsimp only
    rw [← State.txQueue_eq, hempty k hk]

theorem State.restartAn_fields (s : State) (p : Nat) : (s.restartAn p).fld (F.EP_STATUS_AN_DONE p) = 0
    ∧ (s.restartAn p).fld (F.EP_AN_STAT_RESOLVED p) = 0 ∧ FldsBut [F.EP_STATUS_AN_DONE p, F.EP_AN_STAT_RESOLVED p] s (s.restartAn p) := by
  refine ⟨?_, State.fld_setFld_same .., fun g hg => ?_⟩
  · exact (State.fld_setFld_ne _ _ _ _ (epField_ne (by decide))).trans (State.fld_setFlag_same _ _ _ Nat.one_pos)
  · obtain ⟨hdone, hres, -⟩ := List.forall_mem_cons.1 hg |>.imp_right List.forall_mem_cons.1
    exact (State.fld_setFld_ne _ _ _ _ hres).trans (State.fld_setFlag_ne _ _ _ _ hdone)

theorem txFree_link (p : Nat) : txFree p (F.EP_STATUS_LINK p) := txFree_mk (by decide) (by decide) (by decide)
theorem txFree_anDone (p : Nat) : txFree p (F.EP_STATUS_AN_DONE p) := txFree_mk (by decide) (by decide) (by decide)
theorem txFree_linkDowns (p : Nat) : txFree p (F.EP_PCS_STAT_LINK_DOWNS p) := txFree_mk (by decide) (by decide) (by decide)

theorem State.linkFields_status (s : State) (p : Nat) : (s.linkFields p).fld (F.EP_STATUS_LINK p) = 0
    ∧ (s.linkFields p).fld (F.EP_STATUS_AN_DONE p) = 0
    ∧ (s.linkFields p).fld (F.EP_PCS_STAT_LINK_DOWNS p) = s.fld (F.EP_PCS_STAT_LINK_DOWNS p) := by
  have hpcs : ∀ g : Fld, (F.EP_PCS_STAT_BLOCK_LOCK p).key ≠ g.key → (F.EP_PCS_STAT_FEC_ALIGN p).key ≠ g.key →
      (s.linkFields p).fld g = ((s.setFlag (F.EP_STATUS_LINK p) false).restartAn p).fld g := fun g hlock halign =>
    (State.fld_setFlag_ne _ _ _ _ halign).trans (State.fld_setFlag_ne _ _ _ _ hlock)
  obtain ⟨hdone, -, hrest⟩ := (s.setFlag (F.EP_STATUS_LINK p) false).restartAn_fields p
  refine ⟨?_, ?_, ?_⟩
  · rw [hpcs (F.EP_STATUS_LINK p) (epField_ne (by decide)) (epField_ne (by decide)),
      hrest _ (by simpa using ⟨epField_ne (by decide), epField_ne (by decide)⟩)]
    exact State.fld_setFlag_same _ _ _ Nat.one_pos
  · rw [hpcs (F.EP_STATUS_AN_DONE p) (epField_ne (by decide)) (epField_ne (by decide)), hdone]
  · rw [hpcs (F.EP_PCS_STAT_LINK_DOWNS p) (epField_ne (by decide)) (epField_ne (by decide)),
      hrest _ (by simpa using ⟨epField_ne (by decide), epField_ne (by decide)⟩)]
    exact State.fld_setFlag_ne _ _ _ _ (epField_ne (by decide))

theorem State.dropLink_status (s : State) (p : Nat) : (s.dropLink p).fld (F.EP_STATUS_LINK p) = 0
    ∧ (s.dropLink p).fld (F.EP_STATUS_AN_DONE p) = 0 ∧ (s.dropLink p).fld (F.EP_PCS_STAT_LINK_DOWNS p) = s.fld (F.EP_PCS_STAT_LINK_DOWNS p) := by
  rw [s.fld_dropLink (txFree_link p), s.fld_dropLink (txFree_anDone p), s.fld_dropLink (txFree_linkDowns p)]
  exact s.linkFields_status p

/-! ### Links come up and go down (R235-R237) -/

theorem State.linkDown_of_up {s : State} {p : Nat} (h : s.flag (F.EP_STATUS_LINK p) = true) : s.linkDown p
    = ((s.dropLink p).incS (F.EP_PCS_STAT_LINK_DOWNS p) 1).event (F.EP_EVENT_LINK_DOWN p) .warn p p 0 0 := if_pos h

theorem State.linkDown_keeps_dropLink {s : State} {p : Nat} (h : s.flag (F.EP_STATUS_LINK p) = true) :
    (s.linkDown p).ep = (s.dropLink p).ep ∧ ∀ g : Fld, atEp g → (F.EP_PCS_STAT_LINK_DOWNS p).key ≠ g.key →
      (F.EP_EVENT_LINK_DOWN p).key ≠ g.key → (s.linkDown p).fld g = (s.dropLink p).fld g := by
  rw [State.linkDown_of_up h]
  refine ⟨((State.event_fr _ _ _ _ _ _ _ (.refl _)).ep rfl).trans ((State.incS_fr _ _ _ (.refl _)).ep rfl), fun g hg hdowns hevent => ?_⟩
  rw [State.event_warn_fld_ne _ _ _ _ _ _ (enqFree_of_atEp hg) hevent, State.incS_fld_ne _ _ _ (enqFree_of_atEp hg) hdowns]

theorem State.linkDown_events {s : State} {p : Nat} (h : s.flag (F.EP_STATUS_LINK p) = true) :
    (s.linkDown p).fld (F.EP_EVENT_LINK_DOWN p) = 1 ∧ (s.linkDown p).fld (F.EP_PCS_STAT_LINK_DOWNS p)
      = satAdd (F.EP_PCS_STAT_LINK_DOWNS p).w (s.fld (F.EP_PCS_STAT_LINK_DOWNS p)) 1 := by
  have hdowns : enqFree (F.EP_PCS_STAT_LINK_DOWNS p) = true := enqFree_of_atEp (atEp_mk (by decide))
  obtain ⟨-, -, hkept⟩ := s.dropLink_status p
  rw [State.linkDown_of_up h]
  refine ⟨State.event_warn_fld_same _ _ _ _ _ _ (enqFree_of_atEp (atEp_mk (by decide))) Nat.one_pos, ?_⟩
  have hne : (F.EP_EVENT_LINK_DOWN p).key ≠ (F.EP_PCS_STAT_LINK_DOWNS p).key := epField_ne (by decide)
  rw [State.event_warn_fld_ne _ _ _ _ _ _ hdowns hne, State.incS_fld_same _ _ _ hdowns, hkept]

theorem State.linkDown_status {s : State} {p : Nat} (h : s.flag (F.EP_STATUS_LINK p) = true) :
    (s.linkDown p).fld (F.EP_STATUS_LINK p) = 0 ∧ (s.linkDown p).fld (F.EP_STATUS_AN_DONE p) = 0 := by
  obtain ⟨-, hflds⟩ := State.linkDown_keeps_dropLink h
  obtain ⟨hlink, hdone, -⟩ := s.dropLink_status p
  exact ⟨(hflds _ (atEp_mk (by decide)) (epField_ne (by decide)) (epField_ne (by decide))).trans hlink,
    (hflds _ (atEp_mk (by decide)) (epField_ne (by decide)) (epField_ne (by decide))).trans hdone⟩

/-- Whatever the link was, it is down after its loss. -/
theorem State.link_linkDown (s : State) (p : Nat) : (s.linkDown p).flag (F.EP_STATUS_LINK p) = false := by
  by_cases h : s.flag (F.EP_STATUS_LINK p) = true
  · rw [State.flag, (State.linkDown_status h).1]
    rfl
  · rw [Bool.not_eq_true] at h
    rw [State.linkDown_of_down h, h]

/-- SPEED of a link in a mode with its resolved ability: 1 for 25 Gb/s (R235, R236). -/
def linkSpeed (mode r : Nat) : Nat := if mode = 3 ∨ mode = 5 ∨ (usesAn mode = true ∧ r ≠ 5) then 1 else 0

/-- The FEC of a link that comes up (R235, R236). -/
def State.linkFec (s : State) (p : Nat) : Nat :=
  let mode := s.fld (F.EP_PHY_CFG_MODE p)
  if mode = 3 then 2 else if mode = 5 ∨ mode = 6 then s.fld (F.EP_PHY_CFG_FEC p)
    else resolveFec (s.fld (F.EP_AN_STAT_RESOLVED p)) (s.fld (F.EP_AN_ADV_FEC p)) (s.fld (F.EP_AN_STAT_LP_FEC p))

/-- The status fields of a port whose link comes up. -/
def State.linkShown (s : State) (p speed fec : Nat) : State :=
  ((((s.setFlag (F.EP_STATUS_LINK p) true).setFld (F.EP_STATUS_SPEED p) speed).setFld (F.EP_STATUS_FEC_ACT p) fec).setFlag
    (F.EP_PCS_STAT_BLOCK_LOCK p) true).setFlag (F.EP_PCS_STAT_FEC_ALIGN p) (fec = 2)

theorem State.linkShown_fields (s : State) (p : Nat) {speed : Nat} (hspeed : speed < 2) (fec : Nat) :
    (s.linkShown p speed fec).fld (F.EP_STATUS_LINK p) = 1 ∧ (s.linkShown p speed fec).fld (F.EP_PCS_STAT_BLOCK_LOCK p) = 1
      ∧ (s.linkShown p speed fec).fld (F.EP_STATUS_SPEED p) = speed
      ∧ (s.linkShown p speed fec).fld (F.EP_STATUS_FEC_ACT p) = fec % 2 ^ (F.EP_STATUS_FEC_ACT p).w := by
  unfold State.linkShown
  refine ⟨?_, ?_, ?_, ?_⟩
  · rw [State.fld_setFlag_ne, State.fld_setFlag_ne, State.fld_setFld_ne, State.fld_setFld_ne, State.fld_setFlag_same _ _ _ Nat.one_pos]
    · rfl
    all_goals exact epField_ne (by decide)
  · rw [State.fld_setFlag_ne, State.fld_setFlag_same _ _ _ Nat.one_pos]
    · rfl
    · exact epField_ne (by decide)
  · rw [State.fld_setFlag_ne, State.fld_setFlag_ne, State.fld_setFld_ne, State.fld_setFld_same]
    · exact Nat.mod_eq_of_lt hspeed
    all_goals exact epField_ne (by decide)
  · rw [State.fld_setFlag_ne, State.fld_setFlag_ne, State.fld_setFld_same]
    all_goals exact epField_ne (by decide)

theorem exec_linkUp_eq {s : State} {p : Fin 4} (hlink : s.flag (F.EP_STATUS_LINK p) = false) (hmode : s.fld (F.EP_PHY_CFG_MODE p) ≠ 0)
    (hreset : (s.port p).resetting = false)
    (han : usesAn (s.fld (F.EP_PHY_CFG_MODE p)) = true → s.flag (F.EP_STATUS_AN_DONE p) = true) :
    exec (.linkUp p) s = .next ((((s.linkShown p (linkSpeed (s.fld (F.EP_PHY_CFG_MODE p)) (s.fld (F.EP_AN_STAT_RESOLVED p))) (s.linkFec p)).setPort p
      { s.port p with downAt := none }).event (F.EP_EVENT_LINK_UP p) .info p p 0 0).recclkCheck) := by
  refine if_neg ?_
  rintro (h | h | h | ⟨hu, hd⟩)
  · exact Bool.noConfusion (hlink.symm.trans h)
  · exact hmode h
  · exact Bool.noConfusion (hreset.symm.trans h)
  · exact Bool.noConfusion (hd.symm.trans (han hu))

/-- What a link that comes up shows: its event and its reports leave the status as it is. -/
theorem State.linkUp_shows (s : State) (p : Fin 4) (x : Port) {speed : Nat} (hspeed : speed < 2) (fec : Nat) {t : State}
    (ht : t = (((s.linkShown p speed fec).setPort p x).event (F.EP_EVENT_LINK_UP p) .info p p 0 0).recclkCheck) :
    t.fld (F.EP_STATUS_LINK p) = 1 ∧ t.fld (F.EP_PCS_STAT_BLOCK_LOCK p) = 1 ∧ t.fld (F.EP_EVENT_LINK_UP p) = 1 ∧ t.port p = x
      ∧ t.fld (F.EP_STATUS_SPEED p) = speed ∧ t.fld (F.EP_STATUS_FEC_ACT p) = fec % 2 ^ (F.EP_STATUS_FEC_ACT p).w := by
  have haddr : (F.EP_EVENT_LINK_UP p).addr < 0x200000 := by
    show 0x100008 + p.val * 0x10000 < 0x200000
    omega
  have hkeep : ∀ g : Fld, atEp g → (F.EP_EVENT_LINK_UP p).key ≠ g.key → t.fld g = (s.linkShown p speed fec).fld g := fun g hg hne => by
    rw [ht, State.recclkCheck_keeps_epFld hg, State.fld_event_ne _ _ _ _ _ _ _ _ (outRl_of_atEp hg) haddr hne]
    exact congrFun (State.fld_congr ((State.setPort_fr _ p x (.refl (s.linkShown p speed fec))).regs rfl)) g
  have hevent : atEp (F.EP_EVENT_LINK_UP p) := atEp_mk (by decide)
  obtain ⟨hlink, hlock, hspd, hfec⟩ := s.linkShown_fields p hspeed fec
  refine ⟨(hkeep _ (atEp_mk (by decide)) (epField_ne (by decide))).trans hlink, (hkeep _ (atEp_mk (by decide)) (epField_ne (by decide))).trans hlock,
    ?_, ?_, (hkeep _ (atEp_mk (by decide)) (epField_ne (by decide))).trans hspd, (hkeep _ (atEp_mk (by decide)) (epField_ne (by decide))).trans hfec⟩
  · rw [ht, State.recclkCheck_keeps_epFld hevent, State.fld_event_same _ _ _ _ _ _ _ (outRl_of_atEp hevent) Nat.one_pos haddr]
  · rw [ht, State.port_congr ((State.recclkCheck_fr _ (.refl _)).ep rfl), State.port_congr ((State.event_fr _ _ _ _ _ _ _ (.refl _)).ep rfl),
      State.port_setPort_same]

/-! ### Negotiation (R236) -/

theorem resolveAbility_lt (common : Nat) : resolveAbility common < 8 := by
  unfold resolveAbility
  repeat' split
  all_goals decide

/-- The result of a negotiation: the partner's abilities and FEC bits, and what was resolved. -/
def State.anShown (s : State) (p abil fec r : Nat) : State :=
  ((s.setFld (F.EP_AN_STAT_LP_ABIL p) abil).setFld (F.EP_AN_STAT_LP_FEC p) fec).setFld (F.EP_AN_STAT_RESOLVED p) r

theorem State.anShown_fields (s : State) (p : Nat) {abil fec r : Nat} (habil : abil < 32) (hfec : fec < 16) (hr : r < 8) :
    (s.anShown p abil fec r).fld (F.EP_AN_STAT_RESOLVED p) = r ∧ (s.anShown p abil fec r).fld (F.EP_AN_STAT_LP_ABIL p) = abil
      ∧ (s.anShown p abil fec r).fld (F.EP_AN_STAT_LP_FEC p) = fec
      ∧ (s.anShown p abil fec r).fld (F.EP_AN_STAT_AN_FAILS p) = s.fld (F.EP_AN_STAT_AN_FAILS p) := by
  unfold State.anShown
  refine ⟨?_, ?_, ?_, ?_⟩
  · rw [State.fld_setFld_same]
    exact Nat.mod_eq_of_lt hr
  · rw [State.fld_setFld_ne, State.fld_setFld_ne, State.fld_setFld_same]
    · exact Nat.mod_eq_of_lt habil
    all_goals exact epField_ne (by decide)
  · rw [State.fld_setFld_ne, State.fld_setFld_same]
    · exact Nat.mod_eq_of_lt hfec
    · exact epField_ne (by decide)
  · rw [State.fld_setFld_ne, State.fld_setFld_ne, State.fld_setFld_ne]
    all_goals exact epField_ne (by decide)

/-- A failed negotiation is counted and, after a success, reported; it is tried again in 1 s. -/
def State.anFailed (s : State) (p : Nat) : State :=
  let u := (s.incS (F.EP_AN_STAT_AN_FAILS p) 1).setFlag (F.EP_EVENT_AN_FAIL p) true
  let v := if (s.port p).anFailed then u else u.raise .warn 0x10 p (0x0100 + (F.EP_EVENT_AN_FAIL p).lo) p 0 0
  v.setPort p { s.port p with anFailed := true, anRetry := some (v.elapsed + 1000000000) }

theorem State.anFailed_fields (s : State) (p : Nat) : (s.anFailed p).fld (F.EP_EVENT_AN_FAIL p) = 1
    ∧ (s.anFailed p).fld (F.EP_AN_STAT_AN_FAILS p) = satAdd (F.EP_AN_STAT_AN_FAILS p).w (s.fld (F.EP_AN_STAT_AN_FAILS p)) 1
    ∧ ((s.anFailed p).port p).anRetry = some (s.elapsed + 1000000000)
    ∧ ∀ g : Fld, atEp g → (F.EP_AN_STAT_AN_FAILS p).key ≠ g.key → (F.EP_EVENT_AN_FAIL p).key ≠ g.key → (s.anFailed p).fld g = s.fld g := by
  have hcount : State.Fr 0x8008 s ((s.incS (F.EP_AN_STAT_AN_FAILS p) 1).setFlag (F.EP_EVENT_AN_FAIL p) true) :=
    State.setFlag_fr _ _ _ (State.incS_fr _ _ _ (.refl s)) rfl
  have hkeep : ∀ g : Fld, atEp g →
      (s.anFailed p).fld g = ((s.incS (F.EP_AN_STAT_AN_FAILS p) 1).setFlag (F.EP_EVENT_AN_FAIL p) true).fld g := by
    intro g hg
    unfold State.anFailed
    extract_lets u v
    refine (congrFun (State.fld_congr ((State.setPort_fr v p _ (.refl v)).regs rfl)) g).trans ?_
    exact State.fld_ite rfl (State.raise_keeps_fld _ (.inr rfl) _ _ _ _ _ _ (enqFree_of_atEp hg))
  have hfails : atEp (F.EP_AN_STAT_AN_FAILS p) := atEp_mk (by decide)
  refine ⟨?_, ?_, ?_, fun g hg hne hne' => ?_⟩
  · rw [hkeep (F.EP_EVENT_AN_FAIL p) (atEp_mk (by decide)), State.fld_setFlag_same _ _ _ Nat.one_pos]
    rfl
  · have hne : (F.EP_EVENT_AN_FAIL p).key ≠ (F.EP_AN_STAT_AN_FAILS p).key := epField_ne (by decide)
    rw [hkeep _ hfails, State.fld_setFlag_ne _ _ _ _ hne, State.incS_fld_same _ _ _ (enqFree_of_atEp hfails)]
  · unfold State.anFailed
    extract_lets u v
    have hv : State.Fr 0x8008 s v := fr_ite hcount (State.raise_fr _ _ _ _ _ _ _ _ hcount rfl)
    rw [State.port_setPort_same, hv.elapsed rfl]
  · rw [hkeep g hg, State.fld_setFlag_ne _ _ _ _ hne', State.incS_fld_ne _ _ _ (enqFree_of_atEp hg) hne]

theorem exec_anComplete_eq {s : State} {p : Fin 4} (abil : BitVec 5) (fec : BitVec 4) (han : usesAn (s.fld (F.EP_PHY_CFG_MODE p)) = true)
    (hdone : s.flag (F.EP_STATUS_AN_DONE p) = false) (hreset : (s.port p).resetting = false) {r : Nat}
    (hr : r = resolveAbility (advertised (s.fld (F.EP_PHY_CFG_MODE p)) (s.fld (F.EP_AN_ADV_ABIL p)) &&& abil.toNat)) :
    exec (.anComplete p abil fec) s = .next (if r = 0 then (s.anShown p abil.toNat fec.toNat r).anFailed p
      else ((s.anShown p abil.toNat fec.toNat r).setPort p { s.port p with anFailed := false, anRetry := none }).setFlag (F.EP_STATUS_AN_DONE p) true) := by
  subst hr
  show execAnComplete p abil fec s = _
  unfold execAnComplete
  rw [apply_ite Host.Outcome.next, if_neg]
  · rfl
  · rintro (h | h | h)
    · exact Bool.noConfusion (h.symm.trans han)
    · exact Bool.noConfusion (hdone.symm.trans h)
    · exact Bool.noConfusion (hreset.symm.trans h)

/-! ### Pauses (R261, R262, R268) -/

/-- A field of one of a port's rows of registers stands above the fields before the row. -/
theorem epIndexed_ne {a b p j la lb wa wb ra rb : Nat} (h : b * 8 + lb < a * 8 + la) :
    Fld.key ⟨a + p * 0x10000 + j * 4, la, wa, ra⟩ ≠ Fld.key ⟨b + p * 0x10000, lb, wb, rb⟩ := by
  show (a + p * 0x10000 + j * 4) * 8 + la ≠ (b + p * 0x10000) * 8 + lb
  omega

theorem State.port_endHold (s : State) (p i : Nat) : (s.endHold p i).port p
    = { s.port p with pauseEnd := mdel (s.port p).pauseEnd i, heldFrom := mdel (s.port p).heldFrom i } := State.port_setPort_same ..

theorem State.endHold_fldsBut (s : State) (p i : Nat) : FldsBut [F.EP_PFC_STAT_HELD_MS p i] s (s.endHold p i) := by
  intro g hg
  unfold State.endHold
  extract_lets x u
  refine (congrFun (State.fld_congr ((State.setPort_fr u p _ (.refl u)).regs rfl)) g).trans ?_
  dsimp only [u]
  split
  · exact State.fld_setFld_ne _ _ _ _ (hg _ (List.mem_singleton_self _))
  · rfl

theorem State.foldl_endHold_pauseEnd (p : Nat) {k : Nat} (l : List Nat) (s : State) (h : k ∈ l ∨ mfind (s.port p).pauseEnd k = none) :
    mfind ((l.foldl (fun s i => s.endHold p i) s).port p).pauseEnd k = none := by
  induction l generalizing s with
  | nil => simpa using h
  | cons i l ih =>
    refine ih _ ?_
    rw [State.port_endHold]
    by_cases hk : k = i
    · subst hk
      exact .inr (mfind_mdel_same ..)
    · rw [mfind_mdel_ne _ hk]
      exact h.imp_left fun hi => (List.mem_cons.1 hi).resolve_left hk

/-- Every hold of a port ends. -/
def State.releaseAll (s : State) (p : Nat) : State := ((List.range 8).foldl (fun s i => s.endHold p i) s).showPaused p

theorem State.pauseEnd_releaseAll (s : State) (p : Nat) {k : Nat} (hk : k < 8) : mfind ((s.releaseAll p).port p).pauseEnd k = none := by
  unfold State.releaseAll
  rw [State.port_congr ((State.showPaused_fr _ p (.refl _)).ep rfl)]
  exact State.foldl_endHold_pauseEnd p (List.range 8) s (.inl (List.mem_range.2 hk))

theorem State.elapsed_releaseAll (s : State) (p : Nat) : (s.releaseAll p).elapsed = s.elapsed := by
  unfold State.releaseAll
  refine ((State.showPaused_fr _ p (.refl _)).elapsed rfl).trans ?_
  exact foldl_keeps State.elapsed (fun s i => s.endHold p i) (fun u i => (State.endHold_fr u p i (.refl u)).elapsed rfl) (List.range 8) s

theorem State.holdoff_releaseAll (s : State) (p : Nat) :
    (s.releaseAll p).fld (F.EP_PAUSE_CFG_HOLDOFF_MS p) = s.fld (F.EP_PAUSE_CFG_HOLDOFF_MS p) := by
  refine (State.fld_setFld_ne _ _ _ _ (epField_ne (by decide))).trans ?_
  exact foldl_keeps (State.fld · (F.EP_PAUSE_CFG_HOLDOFF_MS p)) (fun s i => s.endHold p i)
    (fun u i => u.endHold_fldsBut p i _ fun f hf => List.mem_singleton.1 hf ▸ epIndexed_ne (by decide)) (List.range 8) s

theorem exec_pauseTimeExpiry_eq {s : State} {p : Fin 4} {i : Fin 8} {a : Nat} (h : mfind (s.port p).pauseEnd i = some a) (ha : a ≤ s.elapsed) :
    exec (.pauseTimeExpiry p i) s = .next ((s.endHold p i).showPaused p) := by
  show execPauseTimeExpiry p i s = _
  unfold execPauseTimeExpiry
  rw [h]
  exact congrArg Host.Outcome.next (if_pos ha)

/-- A port whose watchdog broke a hold: pauses are ignored until the hold-off ends. -/
def State.pauseBroken (s : State) (p : Nat) : State :=
  (((s.releaseAll p).setPort p { (s.releaseAll p).port p with
      ignoreUntil := some ((s.releaseAll p).elapsed + (s.releaseAll p).fld (F.EP_PAUSE_CFG_HOLDOFF_MS p) * 1000000) }).setFlag
    (F.EP_STATUS_PAUSE_IGNORED p) true).incS (F.EP_CNT_COUNT p 7) 1

theorem exec_pauseBreak_eq {s : State} {p : Fin 4} {i : Fin 8} {a : Nat} (h : mfind (s.port p).heldFrom i = some a)
    (ha : a + s.fld (F.EP_PAUSE_CFG_WD_MS p) * 1000000 < s.elapsed) :
    exec (.pauseBreak p i) s = .next ((s.pauseBroken p).event (F.EP_EVENT_PAUSE_BREAK p) .warn p p i 0) := by
  show execPauseBreak p i s = _
  unfold execPauseBreak
  rw [h]
  exact congrArg Host.Outcome.next (if_pos ha)

theorem State.port_pauseBroken (s : State) (p : Nat) : ((s.pauseBroken p).port p).pauseEnd = ((s.releaseAll p).port p).pauseEnd
    ∧ ((s.pauseBroken p).port p).ignoreUntil = some (s.elapsed + s.fld (F.EP_PAUSE_CFG_HOLDOFF_MS p) * 1000000) := by
  unfold State.pauseBroken
  rw [State.port_congr ((State.incS_fr _ _ _ (.refl _)).ep rfl), State.port_congr ((State.setFlag_fr _ _ _ (.refl _)).ep rfl),
    State.port_setPort_same, s.elapsed_releaseAll p, s.holdoff_releaseAll p]
  dsimp only
  exact ⟨rfl, rfl⟩

theorem State.ignored_pauseBroken (s : State) (p : Nat) : (s.pauseBroken p).fld (F.EP_STATUS_PAUSE_IGNORED p) = 1 :=
  (State.incS_fld_ne _ _ _ (enqFree_of_atEp (atEp_mk (by decide))) (epIndexed_ne (by decide))).trans (State.fld_setFlag_same _ _ _ Nat.one_pos)

theorem exec_holdoffEnd_eq {s : State} {p : Fin 4} {a : Nat} (h : (s.port p).ignoreUntil = some a) (ha : a ≤ s.elapsed) :
    exec (.holdoffEnd p) s
      = .next ((s.setPort p { s.port p with ignoreUntil := none }).setFlag (F.EP_STATUS_PAUSE_IGNORED p) false) := by
  show execHoldoffEnd p s = _
  unfold execHoldoffEnd
  rw [h]
  exact congrArg Host.Outcome.next (if_pos ha)

theorem exec_anRetry_eq {s : State} {p : Fin 4} {a : Nat} (h : (s.port p).anRetry = some a) (ha : a ≤ s.elapsed) :
    exec (.anRetry p) s = .next (s.restartAn p) := by
  show execAnRetry p s = _
  unfold execAnRetry
  rw [h]
  exact congrArg Host.Outcome.next (if_pos ha)

/-! ### Port resets (R267) -/

theorem State.fld_rstRegion (s : State) (lo hi : Nat) (g : Fld) : (s.rstRegion lo hi fun _ => false).fld g
    = if g.key < lo * 8 ∨ hi * 8 ≤ g.key then s.fld g else g.rst := by
  refine (mget_mkeep g.rst (fun k => false || k < lo * 8 || hi * 8 ≤ k) s.regs g.key).trans ?_
  simp only [Bool.false_or, Bool.or_eq_true, decide_eq_true_eq]
  rfl

/-- A field that is 0 and resets to 0 stays 0 when a region is reset. -/
theorem State.fld_rstRegion_zero {s : State} {g : Fld} (lo hi : Nat) (hr : g.rst = 0) (h : s.fld g = 0) :
    (s.rstRegion lo hi fun _ => false).fld g = 0 := by
  rw [State.fld_rstRegion, h, hr, ite_self]

/-- A port as its reset begins. -/
def State.portCleared (s : State) (p : Nat) (o : Option Origin) : State :=
  (s.dropLink p).setPort p { Port.init with resetting := true, resetBy := o, downAt := ((s.dropLink p).port p).downAt }

theorem State.portReset_eq (s : State) (p : Nat) (o : Option Origin) : s.portReset p o
    = ((((s.portCleared p o).rstRegion (0x100000 + p * 0x10000 + 0x004) (0x100000 + p * 0x10000 + 0x00C) fun _ => false).rstRegion
        (0x100000 + p * 0x10000 + 0x014) (0x100000 + p * 0x10000 + 0x020) fun _ => false).rstRegion
        (0x100000 + p * 0x10000 + 0x030) (0x100000 + p * 0x10000 + 0x034) fun _ => false).rstRegion
        (0x100000 + p * 0x10000 + 0x0A0) (0x100000 + p * 0x10000 + 0x0E0) fun _ => false := rfl

theorem State.port_portReset (s : State) (p : Nat) (o : Option Origin) : (s.portReset p o).port p
    = { Port.init with resetting := true, resetBy := o, downAt := ((s.dropLink p).port p).downAt } := by
  have hep : (s.portReset p o).ep = (s.portCleared p o).ep := by
    rw [s.portReset_eq p o]
    rfl
  rw [State.port_congr hep]
  exact State.port_setPort_same ..

theorem State.portReset_status (s : State) (p : Nat) (o : Option Origin) : (s.portReset p o).fld (F.EP_STATUS_LINK p) = 0
    ∧ (s.portReset p o).fld (F.EP_STATUS_AN_DONE p) = 0 ∧ ∀ i, i < 8 → (s.portReset p o).fld (F.EP_CNT_COUNT p i) = 0 := by
  have hregs : (s.portCleared p o).fld = (s.dropLink p).fld := State.fld_congr ((State.setPort_fr _ p _ (.refl _)).regs rfl)
  have hkeep : ∀ g : Fld, g.rst = 0 → (s.dropLink p).fld g = 0 → (s.portReset p o).fld g = 0 := fun g hr h => by
    rw [s.portReset_eq p o]
    refine State.fld_rstRegion_zero _ _ hr (State.fld_rstRegion_zero _ _ hr (State.fld_rstRegion_zero _ _ hr (State.fld_rstRegion_zero _ _ hr ?_)))
    rw [hregs, h]
  obtain ⟨hlink, hdone, -⟩ := s.dropLink_status p
  refine ⟨hkeep _ rfl hlink, hkeep _ rfl hdone, fun i hi => ?_⟩
  rw [s.portReset_eq p o, State.fld_rstRegion, if_neg]
  · rfl
  · show ¬((0x1000c0 + p * 0x10000 + i * 4) * 8 + 0 < (0x100000 + p * 0x10000 + 0x0A0) * 8
      ∨ (0x100000 + p * 0x10000 + 0x0E0) * 8 ≤ (0x1000c0 + p * 0x10000 + i * 4) * 8 + 0)
    omega

/-- Settles O41: each event of a port is one operation or a short chain of them; the reports, the completions of discarded frames and
the fencing of a twin behind them leave the port's own fields alone. -/
theorem portLinks : Obligations.PortLinks := by
  unfold Obligations.PortLinks
  intro s p
  refine ⟨fun hlink hmode hreset han => ?linkUp, fun hlink => ?linkDown,
    fun hlink => congrArg Host.Outcome.next (State.linkDown_of_down hlink), fun abil fec han hdone hreset => ?negotiated, fun a h ha => ?retry,
    fun i a h ha => ?expiry, fun i a h ha => ?watchdog, fun a h ha => ?holdoff, fun hreset => ?resetEnd, ?reset, fun han => ?restart,
    fun han => congrArg Host.Outcome.next (if_neg (by simp [han])), ?highWater⟩
  case linkUp =>
    have hspeed : linkSpeed (s.fld (F.EP_PHY_CFG_MODE p)) (s.fld (F.EP_AN_STAT_RESOLVED p)) < 2 := by
      unfold linkSpeed
      split <;> decide
    obtain ⟨h1, h2, h3, hport, h4, h5⟩ := s.linkUp_shows p { s.port p with downAt := none } hspeed (s.linkFec p) rfl
    exact ⟨_, exec_linkUp_eq hlink hmode hreset han, h1, h2, h3, congrArg Port.downAt hport, h4, h5⟩
  case linkDown =>
    obtain ⟨hep, -⟩ := State.linkDown_keeps_dropLink hlink
    obtain ⟨hst, hdone⟩ := State.linkDown_status hlink
    obtain ⟨hevent, hdowns⟩ := State.linkDown_events hlink
    have hport := s.port_dropLink p
    rw [← State.port_congr hep, ← State.txQueue_congr hep] at hport
    obtain ⟨hcur, hat, hempty⟩ := hport
    exact ⟨_, rfl, hst, hdone, hevent, hdowns, hcur, hat, hempty⟩
  case negotiated =>
    intro r
    have hr : r = resolveAbility (advertised (s.fld (F.EP_PHY_CFG_MODE p)) (s.fld (F.EP_AN_ADV_ABIL p)) &&& abil.toNat) := rfl
    clear_value r
    obtain ⟨hres, habil, hfec, hfails⟩ := s.anShown_fields p (r := r) abil.isLt fec.isLt (hr ▸ resolveAbility_lt _)
    refine ⟨_, exec_anComplete_eq abil fec han hdone hreset hr, ?_⟩
    by_cases h0 : r = 0
    · obtain ⟨hevent, hcount, hretry, hkeep⟩ := (s.anShown p abil.toNat fec.toNat r).anFailed_fields p
      rw [if_pos h0]
      refine ⟨?_, ?_, ?_, fun h => absurd h0 h, fun _ => ⟨hevent, hretry, hfails ▸ hcount⟩⟩
      · exact (hkeep _ (atEp_mk (by decide)) (epField_ne (by decide)) (epField_ne (by decide))).trans hres
      · exact (hkeep _ (atEp_mk (by decide)) (epField_ne (by decide)) (epField_ne (by decide))).trans habil
      · exact (hkeep _ (atEp_mk (by decide)) (epField_ne (by decide)) (epField_ne (by decide))).trans hfec
    · rw [if_neg h0]
      refine ⟨?_, ?_, ?_, fun _ => ⟨State.fld_setFlag_same _ _ _ Nat.one_pos, congrArg Port.anRetry (State.port_setPort_same ..)⟩, fun h => absurd h h0⟩
      · exact (State.fld_setFlag_ne _ _ _ _ (epField_ne (by decide))).trans hres
      · exact (State.fld_setFlag_ne _ _ _ _ (epField_ne (by decide))).trans habil
      · exact (State.fld_setFlag_ne _ _ _ _ (epField_ne (by decide))).trans hfec
  case retry =>
    obtain ⟨hdone, hres, hrest⟩ := s.restartAn_fields p
    exact ⟨_, exec_anRetry_eq h ha, congrArg Port.anRetry (State.port_setPort_same ..), hdone, hres, hrest⟩
  case expiry =>
    have hport := (congrFun (State.port_congr ((State.showPaused_fr (s.endHold p i) p (.refl _)).ep rfl)) p).trans (s.port_endHold p i)
    refine ⟨_, exec_pauseTimeExpiry_eq h ha, ?_, ?_, fun g hg => ?_, fun k hk => ?_⟩
    · rw [hport, mfind_mdel_same]
    · rw [hport, mfind_mdel_same]
    · obtain ⟨hheld, hpaused⟩ := List.forall_mem_cons.1 hg
      exact (State.fld_setFld_ne _ _ _ _ (hpaused _ (List.mem_singleton_self _))).trans
        (s.endHold_fldsBut p i g fun f hf => List.mem_singleton.1 hf ▸ hheld)
    · rw [hport, mfind_mdel_ne _ hk]
  case watchdog =>
    have hport := State.port_congr ((State.event_fr (s.pauseBroken p) (F.EP_EVENT_PAUSE_BREAK p) .warn p p i 0 (.refl _)).ep rfl)
    obtain ⟨hends, hignore⟩ := s.port_pauseBroken p
    refine ⟨_, exec_pauseBreak_eq h ha, fun k hk => ?_, ?_, State.event_warn_fld_same _ _ _ _ _ _ (enqFree_of_atEp (atEp_mk (by decide))) Nat.one_pos, ?_⟩
    · rw [hport, hends, s.pauseEnd_releaseAll p hk]
    · exact (State.event_warn_fld_ne _ _ _ _ _ _ (enqFree_of_atEp (atEp_mk (by decide))) (epField_ne (by decide))).trans (s.ignored_pauseBroken p)
    · rw [hport, hignore]
  case holdoff =>
    refine ⟨_, exec_holdoffEnd_eq h ha, congrArg Port.ignoreUntil (State.port_setPort_same ..), State.fld_setFlag_same _ _ _ Nat.one_pos, fun g hg => ?_⟩
    exact State.fld_setFlag_ne _ _ _ _ (hg _ (List.mem_singleton_self _))
  case resetEnd =>
    have hport := State.port_congr ((State.completeOpt_fr (s.setPort p { s.port p with resetting := false, resetBy := none })
      (s.port p).resetBy 0 0 [] (.refl _)).ep rfl)
    refine ⟨_, congrArg Host.Outcome.next (if_pos hreset), ?_, ?_, rfl⟩
    · rw [hport, State.port_setPort_same]
    · rw [hport, State.port_setPort_same]
  case reset =>
    obtain ⟨hlink, hdone, hcnt⟩ := s.portReset_status p none
    have hport := s.port_portReset p none
    refine ⟨s.portReset p none, rfl, ?_, ?_, ?_, hlink, hdone, fun i => ?_, hcnt⟩
    · rw [hport]
    · rw [hport]
    · rw [hport]
      rfl
    · rw [State.txQueue_eq, hport]
      rfl
  case restart =>
    obtain ⟨hdone, hres, hrest⟩ := (s.linkDown p).restartAn_fields p
    refine ⟨_, congrArg Host.Outcome.next (if_pos han), ?_, hdone, hres⟩
    rw [State.flag, hrest _ (by simpa using ⟨epField_ne (by decide), epField_ne (by decide)⟩)]
    exact s.link_linkDown p
  case highWater => exact ⟨s.tsRestart p, rfl, State.fld_setFld_same .., fun g hg => State.fld_setFld_ne _ _ _ _ (hg _ (List.mem_singleton_self _))⟩

end Sys2Proof.Machine
end

section
/-! ## The queue, the counts and the end of a frame of the management port (R271, R272, R275) -/
namespace Sys2Proof.Machine

/-! ### Counts of management frames (R283) -/

theorem State.mgCount_keeps_fld (s : State) (i : Nat) {g : Fld} (hg : outRl g = true) (h : (F.MG_CNT_COUNT i).key ≠ g.key) :
    (s.mgCount i).fld g = s.fld g := by
  unfold State.mgCount
  split
  · subst i
    exact (State.fld_incWrap _ _ _ _ _ hg).trans (State.fld_setFld_ne _ _ _ _ h)
  · exact State.fld_incS_ne _ _ _ _ hg h

theorem State.mg_mgCount (s : State) (i : Nat) : (s.mgCount i).mg = s.mg := (State.mgCount_fr s i (.refl s)).mg rfl

theorem State.mg_event (s : State) (f : Fld) (cls : Cls) (inst a0 a1 a2 : Nat) : (s.event f cls inst a0 a1 a2).mg = s.mg :=
  (State.event_fr s f cls inst a0 a1 a2 (.refl s)).mg rfl

/-! ### The end of the frame at the head (R272) -/

/-- The head has left the queue, of which `r` is the rest, and the next frame starts afresh. -/
def State.mgPopped (s : State) (r : List MgFrame) : State :=
  (s.setMg { s.mg with queue := r, started := none, collisions := 0, backoff := none }).mgDepth

section
variable {s : State} {f : MgFrame} {r : List MgFrame} (hq : s.mg.queue = f :: r)
include hq

theorem State.mgEnd_eq (status : Nat) : s.mgEnd status
    = (if status = 0 then s.mgPopped r else (s.mgPopped r).mgCount 7).completeOpt f.origin status 0 [] := by
  unfold State.mgEnd
  rw [hq]
  rfl

theorem State.mg_mgEnd (status : Nat) :
    (s.mgEnd status).mg = { s.mg with queue := r, started := none, collisions := 0, backoff := none } := by
  rw [State.mgEnd_eq hq, ((State.completeOpt_fr _ f.origin status 0 [] (.refl _)).mg rfl)]
  split
  · rfl
  · exact State.mg_mgCount _ _

theorem State.mgEnd_fld (status : Nat) {g : Fld} (hrl : outRl g = true) (hhi : outHi g = true) (hcnt : (F.MG_CNT_COUNT 7).key ≠ g.key) :
    (s.mgEnd status).fld g = (s.mgPopped r).fld g := by
  rw [State.mgEnd_eq hq, State.completeOpt_keeps_fld _ _ _ _ _ (enqFree_of_outRl hrl) hhi]
  exact State.fld_ite rfl (State.mgCount_keeps_fld _ _ hrl hcnt)

theorem State.mgEnd_depth (status : Nat) :
    (s.mgEnd status).fld F.MG_STATUS_TXQ_DEPTH = r.length % 2 ^ F.MG_STATUS_TXQ_DEPTH.w :=
  (State.mgEnd_fld hq status rfl rfl (by decide)).trans (State.fld_setFld_same ..)

theorem State.out_suffix_mgEnd (status : Nat) : s.out <:+ (s.mgEnd status).out := by
  have hout : (if status = 0 then s.mgPopped r else (s.mgPopped r).mgCount 7).out = s.out := by
    split
    · rfl
    · exact (State.mgCount_fr (s.mgPopped r) 7 (.refl _)).out rfl
  rw [State.mgEnd_eq hq, ← hout]
  exact State.out_suffix_completeOpt ..

end

/-! ### Attempts, timeouts and collisions (R271, R275) -/

theorem exec_mgTransmitAttempt_eq {s : State} {f : MgFrame} {r : List MgFrame} (hq : s.mg.queue = f :: r) : exec .mgTransmitAttempt s
    = .next (if s.mgMaySend = false then s else if s.mgLate f then s.mgEnd 11 else s.setMg { s.mg with started := some s.elapsed }) := by
  show execMgTransmitAttempt s = _
  unfold execMgTransmitAttempt
  rw [hq]

theorem exec_mgTransmitEnd_eq {s : State} {f : MgFrame} {r : List MgFrame} (hq : s.mg.queue = f :: r) (hst : s.mg.started.isSome = true) :
    exec .mgTransmitEnd s = .next ((s.emit (.mgFrame (f.bytes ++ leBytes 4 (crc32 0xEDB88320 f.bytes).toNat) true)).mgEnd 0) := by
  obtain ⟨a, ha⟩ := Option.isSome_iff_exists.1 hst
  show execMgTransmitEnd s = _
  unfold execMgTransmitEnd
  rw [ha, hq]

theorem exec_mgTxTimeout_eq {s : State} {n : Fin 16} {g : MgFrame} (hg : s.mg.queue[n.val]? = some g) (hlate : s.mgLate g = true) :
    exec (.mgTxTimeout n) s = .next (if n.val = 0 ∧ s.mg.started.isSome then s
      else if n.val = 0 then s.mgEnd 11
      else (((s.setMg { s.mg with queue := s.mg.queue.eraseIdx n.val }).mgDepth).mgCount 7).completeOpt g.origin 11 0 []) := by
  show execMgTxTimeout n s = _
  unfold execMgTxTimeout
  rw [hg]
  simp only [hlate, Bool.true_eq_false, false_or]

/-- A frame that collides for good: the collision and its cause are counted, the cause is reported, and the frame ends. -/
def State.mgGiveUp (s : State) (cnt : Nat) (e : Fld) (status : Nat) : State :=
  (((s.mgCount 3).mgCount cnt).event e .warn 0 0 0 0).mgEnd status

theorem State.mgGiveUp_ends {s : State} {f : MgFrame} {r : List MgFrame} (hq : s.mg.queue = f :: r) (cnt status : Nat) {e : Fld}
    (hrl : outRl e = true) (hhi : outHi e = true) (hw : 0 < e.w) (hcnt : (F.MG_CNT_COUNT 7).key ≠ e.key) (hdepth : F.MG_STATUS_TXQ_DEPTH.key ≠ e.key) :
    (s.mgGiveUp cnt e status).mg.queue = r ∧ (s.mgGiveUp cnt e status).mg.started = none ∧ (s.mgGiveUp cnt e status).fld e = 1 := by
  have hmg : (((s.mgCount 3).mgCount cnt).event e .warn 0 0 0 0).mg = s.mg :=
    (State.mg_event ..).trans ((State.mg_mgCount ..).trans (State.mg_mgCount ..))
  have hend := State.mg_mgEnd (hmg ▸ hq) status
  refine ⟨congrArg Mgmt.queue hend, congrArg Mgmt.started hend, ?_⟩
  refine (State.mgEnd_fld (hmg ▸ hq) status hrl hhi hcnt).trans ((State.fld_setFld_ne _ _ _ _ hdepth).trans ?_)
  exact State.event_warn_fld_same _ _ _ _ _ _ (enqFree_of_outRl hrl) hw

/-- The wait after a collision that is retried: a random number of slot times below 2^min(n, 10). -/
def State.mgBackOff (s : State) : State :=
  let n := s.mg.collisions + 1
  State.setMg { s with freeCtr := s.freeCtr + 1 } { s.mg with
    started := none
    collisions := n
    backoff := some (s.elapsed + (Config.mgRandom s.freeCtr).toNat % 2 ^ min n 10 * 51200) }

theorem exec_mgCollision_eq {s : State} (hst : s.mg.started.isSome = true) (sent : Nat) : exec (.mgCollision sent) s
    = .next (if 512 < sent then s.mgGiveUp 5 F.MG_EVENT_LATE_COL 0x40
      else if s.mg.collisions + 1 = 16 then s.mgGiveUp 4 F.MG_EVENT_EXCESS_COL 0x41
      else (s.mgCount 3).mgBackOff) := by
  have hrun : s.mg.started ≠ none := Option.isSome_iff_ne_none.1 hst
  show execMgCollision sent s = _
  unfold execMgCollision
  rw [if_neg hrun]
  dsimp only
  rw [State.mg_mgCount, apply_ite Host.Outcome.next, apply_ite Host.Outcome.next]
  unfold State.mgGiveUp State.mgBackOff
  rw [State.mg_mgCount]

theorem State.mgBackOff_draws (s : State) : ∃ n, n < 2 ^ min (s.mg.collisions + 1) 10 ∧ s.mgBackOff.mg.backoff = some (s.elapsed + n * 51200) :=
  ⟨_, Nat.mod_lt _ (Nat.two_pow_pos _), rfl⟩

/-- Settles O55: a frame that ends does so by `mgEnd`, which takes the head alone; what is counted, reported and completed on the way leaves
the port's part of the state as it is. -/
theorem managementTransmit : Obligations.ManagementTransmit := by
  unfold Obligations.ManagementTransmit
  intro s f r hq ended
  have hended : ∀ code, ended (s.mgEnd code) code := fun code => by
    have hmg := State.mg_mgEnd hq code
    exact ⟨congrArg Mgmt.queue hmg, congrArg Mgmt.started hmg, congrArg Mgmt.collisions hmg, congrArg Mgmt.backoff hmg, State.mgEnd_depth hq code, rfl⟩
  have hhead : s.mg.queue[(0 : Fin 16).val]? = some f := by rw [hq]; rfl
  refine ⟨fun hno => ?held, fun hmay hlate => ?starts, fun hmay hlate => ⟨_, ?late, hended 11⟩, fun hst => ?sent, fun hst sent => ?collides,
    fun a hb ha => ?backoff, fun hlate hst => ⟨_, ?headTimeout, hended 11⟩, fun n g hn hg hlate => ?timeout, fun hst => ?ownJabber,
    fun hj => ?jabber, ?jabberClear⟩
  case held => rw [exec_mgTransmitAttempt_eq hq, if_pos hno]
  case starts => rw [exec_mgTransmitAttempt_eq hq, if_neg (by simp [hmay]), if_neg (by simp [hlate])]
  case late => rw [exec_mgTransmitAttempt_eq hq, if_neg (by simp [hmay]), if_pos hlate]
  case sent =>
    have hmg := State.mg_mgEnd (s := s.emit (.mgFrame (f.bytes ++ leBytes 4 (crc32 0xEDB88320 f.bytes).toNat) true)) hq 0
    refine ⟨_, exec_mgTransmitEnd_eq hq hst, congrArg Mgmt.queue hmg, congrArg Mgmt.started hmg, congrArg Mgmt.collisions hmg, ?_⟩
    refine (State.out_suffix_mgEnd (s := s.emit _) hq 0).subset ?_
    exact List.mem_cons_self
  case collides =>
    refine ⟨_, exec_mgCollision_eq hst sent, fun hlate => ?_, fun hin hmax => ?_, fun hin hagain => ?_⟩
    · rw [if_pos hlate]
      exact State.mgGiveUp_ends hq 5 0x40 rfl rfl Nat.one_pos (by decide) (by decide)
    · rw [if_neg (Nat.not_lt.2 hin), if_pos hmax]
      exact State.mgGiveUp_ends hq 4 0x41 rfl rfl Nat.one_pos (by decide) (by decide)
    · have hmg := s.mg_mgCount 3
      have hat : (s.mgCount 3).elapsed = s.elapsed := (State.mgCount_fr s 3 (.refl s)).elapsed rfl
      rw [if_neg (Nat.not_lt.2 hin), if_neg hagain, ← hat, ← hmg]
      exact ⟨rfl, rfl, rfl, State.mgBackOff_draws _⟩
  case backoff =>
    show execBackoffEnd s = _
    unfold execBackoffEnd
    rw [hb]
    exact congrArg Host.Outcome.next (if_pos ha)
  case headTimeout => rw [exec_mgTxTimeout_eq hhead hlate, if_neg (by simp [hst]), if_pos (show (0 : Fin 16).val = 0 from rfl)]
  case timeout =>
    have hn0 : n.val ≠ 0 := fun h => hn (Fin.ext h)
    have hmg : ∀ t : State, ((t.mgCount 7).completeOpt g.origin 11 0 []).mg = t.mg := fun t =>
      ((State.completeOpt_fr _ _ _ _ _ (.refl _)).mg rfl).trans (t.mg_mgCount 7)
    refine ⟨_, exec_mgTxTimeout_eq hg hlate, ?_⟩
    rw [if_neg (fun h => hn0 h.1), if_neg hn0, hmg]
    exact ⟨rfl, rfl, rfl⟩
  case ownJabber =>
    have hmg := ((State.raise_fr (s.mgEnd 0x40) .warn 0x0A 0 0x0180 0 0 0 (.refl _)).mg rfl).trans (State.mg_mgEnd hq 0x40)
    exact ⟨_, congrArg Host.Outcome.next (if_pos hst), congrArg Mgmt.queue hmg, congrArg Mgmt.started hmg⟩
  case jabber =>
    refine ⟨_, congrArg Host.Outcome.next (if_neg (by simp [hj])), ?_, State.event_warn_fld_same _ _ _ _ _ _ rfl Nat.one_pos,
      (State.mg_event ..).trans (State.mg_mgCount ..)⟩
    rw [State.event_warn_fld_ne _ _ _ _ _ _ rfl (by decide), State.mgCount_keeps_fld _ _ rfl (by decide)]
    exact State.fld_setFlag_same _ _ _ Nat.one_pos
  case jabberClear =>
    exact ⟨_, rfl, State.fld_setFlag_same _ _ _ Nat.one_pos, rfl, fun g hg => State.fld_setFlag_ne _ _ _ _ (hg _ (List.mem_singleton_self _))⟩

end Sys2Proof.Machine
end

section
/-! ## Reception, messages, blanking, PLCA and wake of the management port (R273, R274, R277, R278, R280, R281) -/
namespace Sys2Proof.Machine

/-! ### The steps of reception (R274) -/

/-- Step 1 drops the frame: its length, its FCS, or MG_RX_ER within it. -/
abbrev mgFrameBad (l : List Byte) (rxErr : Bool) : Prop :=
  l.length < 64 ∨ 1522 < l.length ∨ rxErr = true ∨ leNat (l.drop (l.length - 4)) ≠ (crc32 0xEDB88320 (l.take (l.length - 4))).toNat

/-- Step 2 lets the frame pass: its destination is the port's own address, broadcast, or an enabled multicast. -/
abbrev State.mgFrameMine (s : State) (l : List Byte) : Prop :=
  s.flag F.MG_ADDR_HI_VALID = true ∧ beNat (l.take 6) = s.mgAddr ∨ beNat (l.take 6) = 2 ^ 48 - 1
    ∨ bit (l.getD 0 0).toNat 0 = true ∧ s.flag F.MG_MAC_CFG_MCAST_EN = true

/-- Step 3 looks the source address up in MG_SRCF. -/
abbrev State.mgFrameListed (s : State) (l : List Byte) : Bool :=
  (List.range 16).any fun i => s.flag (F.MG_SRCF_HI_VALID i)
    && s.fld (F.MG_SRCF_HI_ADDR_HI i) * 2 ^ 32 + s.fld (F.MG_SRCF_LO_ADDR_LO i) = beNat (slice l 6 6)

theorem State.mgReceive_eq (s : State) (l : List Byte) (rxErr tagOk : Bool) : s.mgReceive l rxErr tagOk
    = if mgFrameBad l rxErr then s.mgCount 0
      else if ¬s.mgFrameMine l then s
      else if s.mgFrameListed l ≠ s.flag F.MG_CTRL_SRCF_MODE then s.mgCount 1
      else if get16 l 12 = 0x88B5 ∧ s.flag F.MG_CTRL_MSG_EN = true then s.mgMessageIn ((l.take (l.length - 4)).drop 14) tagOk
      else s.mgToHost l := by
  unfold State.mgReceive
  refine ite_congr (propext ?_) (fun _ => rfl) fun _ => ite_congr (propext ?_) (fun _ => rfl) fun _ => rfl
  · simp only [mgFrameBad, gt_iff_lt, or_comm (a := rxErr = true)]
  · rw [Bool.not_eq_true', ← Bool.not_eq_true]
    simp only [Bool.or_eq_true, Bool.and_eq_true, decide_eq_true_eq, or_assoc]

theorem exec_mgFrameReceived_eq {s : State} (h : s.mode ≠ 9) (l : List Byte) (rxErr own tagOk : Bool) : exec (.mgFrameReceived l rxErr own tagOk) s
    = .next (if s.flag F.MG_CTRL_EN = true ∧ own = false ∧ s.mode ≠ 0 then s.mgReceive l rxErr tagOk else s) :=
  if_neg h

theorem exec_mgFrameReceived_thermos {s : State} (h : s.mode = 9) {l : List Byte} (tagOk : Bool) (hmin : 64 ≤ l.length) (hmax : l.length ≤ 1522)
    (hfcs : leNat (l.drop (l.length - 4)) = (crc32 0xEDB88320 (l.take (l.length - 4))).toNat) :
    exec (.mgFrameReceived l false false tagOk) s = .next (s.wakeFrame l) := by
  refine (if_pos h).trans (congrArg Host.Outcome.next (if_pos ⟨?_, rfl⟩))
  simp only [hmin, hmax, hfcs, decide_true, Bool.not_false, Bool.and_true]

/-! ### Rejected messages (R277) -/

theorem State.mgMessageIn_of_tagBad (s : State) (m : List Byte) : s.mgMessageIn m false = s.mgReject (beNat (slice m 4 2) % 16384) := by
  unfold State.mgMessageIn
  exact if_neg (by simp)

theorem State.mgReject_fld (s : State) (src : Nat) {g : Fld} (hg : outRl g = true) :
    (s.mgReject src).fld g = ((s.mgCount 2).setFlag F.MG_EVENT_MSG_REJECT true).fld g :=
  State.fld_ite rfl (State.raise_keeps_fld _ (.inr rfl) _ _ _ _ _ _ (enqFree_of_outRl hg))

theorem State.mgReject_queue (s : State) (src : Nat) : (s.mgReject src).mg.queue = s.mg.queue := by
  have hqueue : ((s.mgCount 2).setFlag F.MG_EVENT_MSG_REJECT true).mg.queue = s.mg.queue := congrArg Mgmt.queue (s.mg_mgCount 2)
  unfold State.mgReject
  dsimp only
  split
  · exact hqueue
  · rw [(State.raise_fr _ _ _ _ _ _ _ _ (.refl _)).mg rfl]
    exact hqueue

/-! ### Blanking by message (R278, R346) -/

theorem State.flag_setFlag_same (s : State) (f : Fld) (b : Bool) (h : 0 < f.w) : (s.setFlag f b).flag f = b := by
  rw [State.flag, State.fld_setFlag_same _ _ _ h]
  cases b <;> rfl

theorem State.flag_blankFollow (s : State) (on : Bool) : (s.blankFollow on).flag F.LM_STATUS_BLANKING = on := by
  unfold State.blankFollow
  split
  case isTrue h => exact h.symm
  case isFalse => exact State.flag_setFlag_same _ _ _ Nat.one_pos

theorem State.blankFollow_fldsBut (s : State) (on : Bool) : FldsBut [F.LM_STATUS_BLANKING] s (s.blankFollow on) := fun _ hg =>
  State.fld_ite rfl (State.fld_setFlag_ne _ _ _ _ (hg _ (List.mem_singleton_self _)))

theorem State.blankNow_setFlag (s : State) (b on : Bool) : (s.setFlag F.MG_STATUS_BLANKING b).blankNow on = s.blankNow on := by
  unfold State.blankNow State.flag
  rw [State.fld_setFlag_ne _ _ _ _ (by decide), State.fld_setFlag_ne _ _ _ _ (by decide)]
  rfl

theorem State.mgBlank_shows (s : State) (on : Bool) : (s.mgBlank on).fld F.MG_STATUS_BLANKING = b2n on
    ∧ (s.mgBlank on).flag F.LM_STATUS_BLANKING = s.blankNow on ∧ FldsBut [F.MG_STATUS_BLANKING, F.LM_STATUS_BLANKING] s (s.mgBlank on) := by
  have hfollow := (s.setFlag F.MG_STATUS_BLANKING on).blankFollow_fldsBut ((s.setFlag F.MG_STATUS_BLANKING on).blankNow on)
  refine ⟨?_, (State.flag_blankFollow _ _).trans (s.blankNow_setFlag on on), fun g hg => ?_⟩
  · exact (hfollow _ (by decide)).trans (State.fld_setFlag_same _ _ _ Nat.one_pos)
  · obtain ⟨hmg, hlm⟩ := List.forall_mem_cons.1 hg
    exact (hfollow g hlm).trans (State.fld_setFlag_ne _ _ _ _ hmg)

theorem State.mg_mgBlank (s : State) (on : Bool) : (s.mgBlank on).mg = s.mg := (State.mgBlank_fr s on (.refl s)).mg rfl

theorem exec_blankIntervalStart_eq {s : State} {a b : Nat} (h : s.mg.blank = some (a, b)) (ha : a ≤ s.nowNs) (hb : s.nowNs < b)
    (hoff : s.flag F.MG_STATUS_BLANKING = false) : exec .blankIntervalStart s = .next (s.mgBlank true) := by
  show execBlankIntervalStart s = _
  unfold execBlankIntervalStart
  rw [h]
  exact congrArg Host.Outcome.next (if_pos ⟨ha, hb, hoff⟩)

theorem exec_blankIntervalEnd_eq {s : State} {a b : Nat} (h : s.mg.blank = some (a, b)) (hb : b ≤ s.nowNs) :
    exec .blankIntervalEnd s = .next ((s.setMg { s.mg with blank := none }).mgBlank false) := by
  show execBlankIntervalEnd s = _
  unfold execBlankIntervalEnd
  rw [h]
  exact congrArg Host.Outcome.next (if_pos hb)

/-! ### The PLCA settings (R273) -/

/-- Rewrite with this where the record holds MG_PLCA: deciding the equation by unfolding would compute with 2^24 in unary. -/
theorem State.setMg_keeps_fld (s : State) (x : Mgmt) : (s.setMg x).fld = s.fld := rfl

/-- MG_PLCA as it is written. -/
def State.plcaWritten (s : State) : Nat :=
  s.fld F.MG_PLCA_NODE_ID + s.fld F.MG_PLCA_NODE_CNT * 2 ^ 8 + s.fld F.MG_PLCA_TO_TIMER * 2 ^ 16 + s.fld F.MG_PLCA_BURST_CNT * 2 ^ 24

theorem State.plcaApply_eq (s : State) : s.plcaApply = s.setMg { s.mg with plca := s.plcaWritten } := rfl

theorem State.plcaWritten_setActive (s : State) (b : Bool) : (s.setFlag F.MG_STATUS_PLCA_ACTIVE b).plcaWritten = s.plcaWritten := by
  have hkeep : ∀ g : Fld, F.MG_STATUS_PLCA_ACTIVE.key ≠ g.key → (s.setFlag F.MG_STATUS_PLCA_ACTIVE b).fld g = s.fld g := fun g hg =>
    State.fld_setFlag_ne _ _ _ _ hg
  unfold State.plcaWritten
  rw [hkeep _ (by decide), hkeep _ (by decide), hkeep _ (by decide), hkeep _ (by decide)]

theorem State.plcaApply_setActive (s : State) (b : Bool) : (s.setFlag F.MG_STATUS_PLCA_ACTIVE b).plcaApply
    = (s.setFlag F.MG_STATUS_PLCA_ACTIVE b).setMg { s.mg with plca := s.plcaWritten } := by
  rw [State.plcaApply_eq, s.plcaWritten_setActive]
  rfl

theorem exec_plcaBeaconLoss_eq {s : State} (h : s.flag F.MG_STATUS_PLCA_ACTIVE = true) : exec .plcaBeaconLoss s
    = .next ((s.setFlag F.MG_STATUS_PLCA_ACTIVE false).setMg { s.mg with plca := s.plcaWritten }) :=
  congrArg Host.Outcome.next ((if_pos h).trans (s.plcaApply_setActive false))

theorem State.plcaApply_keeps_fld (s : State) : s.plcaApply.fld = s.fld :=
  s.setMg_keeps_fld _

theorem exec_beacon_eq (s : State) : exec .beacon s
    = .next (if s.plcaApply.flag F.MG_CTRL_PLCA_EN = true ∧ s.plcaApply.fld F.MG_PLCA_NODE_ID ≠ 255
        then s.plcaApply.setFlag F.MG_STATUS_PLCA_ACTIVE true else s.plcaApply) := rfl

/-! ### The end of listen-only (R280) -/

theorem exec_endsListen {s : State} {i : Instr} (h : i = .mgListenEndWrite ∨ i = .listenEnd ∧ s.mg.listenUntil ≤ s.elapsed) :
    exec i s = .next s.endListen := by
  rcases h with rfl | ⟨rfl, hdue⟩
  · rfl
  · exact congrArg Host.Outcome.next (if_pos hdue)

theorem State.endListen_shows {s : State} (h : s.listenOnly = true) : s.endListen.fld F.MG_STATUS_LISTEN_ONLY = 0
    ∧ s.endListen.fld F.MG_EVENT_LISTEN_END = 1 ∧ FldsBut [F.MG_STATUS_LISTEN_ONLY, F.MG_EVENT_LISTEN_END] s s.endListen := by
  rw [State.endListen, if_pos h]
  refine ⟨?_, State.fld_setFlag_same _ _ _ Nat.one_pos, fun g hg => ?_⟩
  · rw [State.fld_setFlag_ne _ _ _ _ (by decide)]
    exact State.fld_setFlag_same _ _ _ Nat.one_pos
  · obtain ⟨hlisten, hevent⟩ := List.forall_mem_cons.1 hg
    exact (State.fld_setFlag_ne _ _ _ _ (hevent _ (List.mem_singleton_self _))).trans (State.fld_setFlag_ne _ _ _ _ hlisten)

/-! ### Wake causes (R281, R472, R478) -/

theorem State.trigger_keeps_fld (s : State) (target : Nat) {g : Fld} (hg : enqFree g = true) (hh : outHi g = true) :
    (s.trigger target).fld g = s.fld g := by
  unfold State.trigger
  split
  · exact State.fld_ite rfl rfl
  · exact State.fld_ite (State.fld_ite rfl rfl) (State.fld_ite (State.completeOpt_keeps_fld _ _ _ _ _ hg hh) rfl)

theorem State.exitAt_trigger (s : State) (target : Nat) : (s.trigger target).gl.exitAt = s.gl.exitAt := by
  unfold State.trigger
  split
  · split <;> rfl
  · split
    · split <;> rfl
    · split
      · rw [(State.completeOpt_fr _ _ _ _ _ (.refl _)).gl rfl]
        rfl
      · rfl

/-- With no transition under way, an automatic trigger that R470 allows starts its own. -/
theorem State.trans_trigger {s : State} {target : Nat} (h : s.gl.trans = none) (hallowed : autoAllowed s.mode target = true) :
    (s.trigger target).gl.trans = some ⟨target, true, none, s.elapsed⟩ := by
  unfold State.trigger
  rw [h]
  dsimp only
  rw [if_pos hallowed]
  rfl

theorem autoAllowed_thermos {target : Nat} (h9 : target ≠ 9) (h10 : target ≠ 10) : autoAllowed 9 target = true := by
  simp [autoAllowed, h9, h10]

/-- The mode that PW_CTRL asks for after THERMOS. -/
def State.wakeTarget (s : State) : Nat := if s.fld F.PW_CTRL_WAKE_MODE = 15 then s.fld F.GL_MODE_RETURN else s.fld F.PW_CTRL_WAKE_MODE

theorem State.wakeTarget_setFlag (s : State) (f : Fld) (b : Bool) (hwake : f.key ≠ F.PW_CTRL_WAKE_MODE.key)
    (hreturn : f.key ≠ F.GL_MODE_RETURN.key) : (s.setFlag f b).wakeTarget = s.wakeTarget := by
  unfold State.wakeTarget
  rw [State.fld_setFlag_ne _ _ _ _ hwake, State.fld_setFlag_ne _ _ _ _ hreturn]

/-- The exit from THERMOS has begun, before its transition is asked for. -/
def State.exitBegun (s : State) : State :=
  { s.setFlag F.MG_EVENT_WAKE true with gl := { s.gl with exitAt := some s.elapsed } }

theorem State.wake_eq (s : State) :
    s.wake = if s.gl.exitAt.isSome = true then s.setFlag F.MG_EVENT_WAKE true else s.exitBegun.trigger s.wakeTarget := by
  rw [← s.wakeTarget_setFlag F.MG_EVENT_WAKE true (by decide) (by decide)]
  rfl

theorem State.wake_fld (s : State) {g : Fld} (hg : enqFree g = true) (hh : outHi g = true) :
    s.wake.fld g = (s.setFlag F.MG_EVENT_WAKE true).fld g := by
  rw [s.wake_eq]
  exact State.fld_ite rfl (State.trigger_keeps_fld _ _ hg hh)

theorem State.exitAt_wake (s : State) : s.wake.gl.exitAt.isSome = true := by
  rw [s.wake_eq]
  split
  case isTrue h => exact h
  case isFalse => rw [State.exitAt_trigger]; rfl

theorem State.trans_wake {s : State} (hmode : s.mode = 9) (hexit : s.gl.exitAt = none) (htrans : s.gl.trans = none)
    (h9 : s.wakeTarget ≠ 9) (h10 : s.wakeTarget ≠ 10) : s.wake.gl.trans = some ⟨s.wakeTarget, true, none, s.elapsed⟩ := by
  have hbegun : s.exitBegun.mode = 9 := (State.fld_setFlag_ne s F.MG_EVENT_WAKE F.GL_MODE_MODE true (by decide)).trans hmode
  rw [s.wake_eq, if_neg (by simp [hexit])]
  exact State.trans_trigger (s := s.exitBegun) htrans (hbegun ▸ autoAllowed_thermos h9 h10)

/-- Settles O56: reception follows the steps of R274 one by one; each of the port's other events is one operation whose fields are said
above. -/
theorem managementReceive : Obligations.ManagementReceive := by
  unfold Obligations.ManagementReceive
  intro s
  refine ⟨fun l rxErr tagOk hmode => ⟨fun hoff => ?off, ?own, fun hen h0 => ?taken⟩,
    fun l tagOk hmode hmin hmax hfcs => exec_mgFrameReceived_thermos hmode tagOk hmin hmax hfcs, fun hdue => ?sync,
    fun a b hx ha hb hoff => ?blankStart, fun a b hx hb => ?blankEnd, ⟨fun hactive => ?beaconLoss, ?beacon⟩, fun hlisten i hi => ?listen,
    fun hmode hpin => ?wakePin⟩
  case off =>
    rw [exec_mgFrameReceived_eq hmode, if_neg]
    rintro ⟨hen, -, h0⟩
    exact hoff.elim (fun h => Bool.noConfusion (h.symm.trans hen)) h0
  case own => rw [exec_mgFrameReceived_eq hmode, if_neg (by simp)]
  case taken =>
    intro bad mine listed isMsg
    have hrun : exec (.mgFrameReceived l rxErr false tagOk) s = .next (s.mgReceive l rxErr tagOk) := by
      rw [exec_mgFrameReceived_eq hmode, if_pos ⟨hen, rfl, h0⟩]
    have hmsg : ¬bad → mine → listed = s.flag F.MG_CTRL_SRCF_MODE → isMsg →
        s.mgReceive l rxErr tagOk = s.mgMessageIn ((l.take (l.length - 4)).drop 14) tagOk := fun hb hm hl hi => by
      rw [s.mgReceive_eq, if_neg hb, if_neg (not_not_intro hm), if_neg (not_not_intro hl), if_pos hi]
    rw [hrun]
    refine ⟨fun hb => ?_, fun hb hm => ?_, fun hb hm hl => ?_, fun hb hm hl hi => ?_, fun hb hm hl hi => ?_, fun hb hm hl hi htag => ?_⟩
    · rw [s.mgReceive_eq, if_pos hb]
    · rw [s.mgReceive_eq, if_neg hb, if_pos hm]
    · rw [s.mgReceive_eq, if_neg hb, if_neg (not_not_intro hm), if_pos hl]
    · rw [s.mgReceive_eq, if_neg hb, if_neg (not_not_intro hm), if_neg (not_not_intro hl), if_neg hi]
    · rw [hmsg hb hm hl hi]
    · subst htag
      rw [hmsg hb hm hl hi, s.mgMessageIn_of_tagBad]
      refine ⟨_, rfl, ?_, ?_, State.mgReject_queue _ _⟩
      · exact (State.mgReject_fld _ _ rfl).trans (State.fld_setFlag_same _ _ _ Nat.one_pos)
      · rw [State.mgReject_fld _ _ rfl, State.fld_setFlag_ne _ _ _ _ (by decide)]
        exact State.mgCount_keeps_fld _ _ rfl (by decide)
  case sync =>
    refine ⟨s.syncAct, rfl, ?_⟩
    rw [State.syncAct, if_pos hdue]
    exact ⟨rfl, rfl⟩
  case blankStart =>
    obtain ⟨hmg, hlm, hrest⟩ := s.mgBlank_shows true
    exact ⟨_, exec_blankIntervalStart_eq hx ha hb hoff, hmg, hlm, hrest⟩
  case blankEnd =>
    obtain ⟨hmg, hlm, hrest⟩ := (s.setMg { s.mg with blank := none }).mgBlank_shows false
    exact ⟨_, exec_blankIntervalEnd_eq hx hb, congrArg Mgmt.blank (State.mg_mgBlank ..), hmg, hlm, hrest⟩
  case beaconLoss =>
    refine ⟨_, exec_plcaBeaconLoss_eq hactive, ?_, rfl, fun g hg => ?_⟩
    · rw [State.setMg_keeps_fld]
      exact State.fld_setFlag_same _ _ _ Nat.one_pos
    · rw [State.setMg_keeps_fld]
      exact State.fld_setFlag_ne _ _ _ _ (hg _ (List.mem_singleton_self _))
  case beacon =>
    refine ⟨_, exec_beacon_eq s, ?_, fun g hg => ?_, fun hen hid => ?_⟩
    · split <;> exact congrArg State.mg s.plcaApply_eq
    · rw [← s.plcaApply_keeps_fld]
      exact State.fld_ite (State.fld_setFlag_ne _ _ _ _ (hg _ (List.mem_singleton_self _))) rfl
    · rw [← s.plcaApply_keeps_fld] at hid
      rw [State.flag, ← s.plcaApply_keeps_fld] at hen
      rw [if_pos ⟨hen, hid⟩]
      exact State.fld_setFlag_same _ _ _ Nat.one_pos
  case listen =>
    obtain ⟨hoff, hevent, hrest⟩ := State.endListen_shows hlisten
    exact ⟨_, exec_endsListen hi, hoff, hevent, (State.endListen_fr s (.refl s)).mg rfl, hrest⟩
  case wakePin =>
    refine ⟨_, congrArg Host.Outcome.next (if_pos ⟨hmode, hpin⟩), ?_, ?_, State.exitAt_wake _, fun hexit htrans => ?_⟩
    · rw [State.wake_fld _ rfl rfl, State.fld_setFlag_ne _ _ _ _ (by decide)]
      exact State.fld_setFlag_same _ _ _ Nat.one_pos
    · exact (State.wake_fld _ rfl rfl).trans (State.fld_setFlag_same _ _ _ Nat.one_pos)
    · show s.wakeTarget ≠ 9 → s.wakeTarget ≠ 10 → (s.setFlag F.MG_WAKE_STAT_PIN true).wake.gl.trans = some ⟨s.wakeTarget, true, none, s.elapsed⟩
      rw [← s.wakeTarget_setFlag F.MG_WAKE_STAT_PIN true (by decide) (by decide)]
      exact State.trans_wake ((State.fld_setFlag_ne _ _ _ _ (by decide)).trans hmode) hexit htrans

end Sys2Proof.Machine
end

section
/-! ## The nanoseconds that a capture unit latches (R297, R307) -/
namespace Sys2Proof.Machine

/-- CP_CAP_NS[i].VALUE has 32 bits (R307): the latch cuts the nanoseconds there and nowhere below. -/
theorem fld_captureNs {s t : State} {i : Fin 6} (hen : s.flag (F.CP_CAP_CFG_EN i) = true) (ht : exec (.captureEdge i) s = .next t) :
    t.fld (F.CP_CAP_NS_VALUE i) = s.cp.ns % 2 ^ 32 := by
  have hcp (u : State) (hu : u.cp = s.cp) :
      (((u.setFld (F.CP_CAP_NS_VALUE i) u.cp.ns).setFld (F.CP_CAP_SEC_VALUE i) u.cp.sec).setFlag (F.CP_CAP_CFG_VALID i) true).fld (F.CP_CAP_NS_VALUE i)
        = s.cp.ns % 2 ^ 32 := by
    rw [State.fld_setFlag_ne, State.fld_setFld_ne, State.fld_setFld_same, hu]
    · rfl
    · show (0x50068 + i.val * 16) * 8 + 0 ≠ (0x50064 + i.val * 16) * 8 + 0
      omega
    · show (0x50060 + i.val * 16) * 8 + 8 ≠ (0x50064 + i.val * 16) * 8 + 0
      omega
  obtain rfl := Host.Outcome.next.inj ((if_pos hen).symm.trans ht)
  refine hcp _ ?_
  split
  · exact (State.incS_fr _ _ _ (.refl _)).cp rfl
  · rfl

/-- A state whose nanoseconds need bit 30, with capture unit 0 enabled. -/
def captureAtBit30 : State := ({ State.reset with cp := { State.reset.cp with ns := 2 ^ 30 } } : State).setFlag (F.CP_CAP_CFG_EN 0) true

/-- Refutes O35: the statement cuts the captured nanoseconds to 30 bits, where CP_CAP_NS[i].VALUE holds 32 (R307). In a state whose
nanoseconds are 2^30 the unit latches 2^30, and the statement demands 0. -/
theorem not_compassResults : ¬ Obligations.CompassResults := by
  unfold Obligations.CompassResults
  intro h
  obtain ⟨-, -, -, -, -, -, -, -, hcapture, -⟩ := h captureAtBit30
  have hen : captureAtBit30.flag (F.CP_CAP_CFG_EN (0 : Fin 6)) = true := by decide
  obtain ⟨t, ht, hns, -⟩ := hcapture 0 hen
  rw [fld_captureNs hen ht] at hns
  exact absurd hns (by decide)

end Sys2Proof.Machine
end

section
/-! ## Highways: slip buffers, slips, collisions and the frames sent (R301-R305) -/
namespace Sys2Proof.Machine

/-! ### Highways and slots read back -/

theorem State.hwy_congr {s t : State} (h : t.td = s.td) : t.hwy = s.hwy := by
  funext j
  exact congrArg (fun td : Tdm => mget Hwy.init td.hw j) h

@[simp] theorem State.hwy_setHwy_same (s : State) (h : Nat) (x : Hwy) : (s.setHwy h x).hwy h = x := mget_mset_same ..

theorem State.hwy_setHwy_ne (s : State) {h j : Nat} (x : Hwy) (hj : j ≠ h) : (s.setHwy h x).hwy j = s.hwy j := mget_mset_ne _ _ _ _ hj

theorem State.hwy_emit (s : State) (o : Out) : (s.emit o).hwy = s.hwy := State.hwy_congr rfl

theorem State.fld_emit (s : State) (o : Out) : (s.emit o).fld = s.fld := State.fld_congr rfl

theorem State.fld_setHwy (s : State) (h : Nat) (x : Hwy) : (s.setHwy h x).fld = s.fld := State.fld_congr rfl

theorem State.tdSlot_congr {s t : State} (h : t.td.slots = s.td.slots) : t.tdSlot = s.tdSlot := by
  funext j k
  exact congrArg (mget 0 · (slotKey j k)) h

theorem State.tdSlot_setTdSlot_same (s : State) (h k v : Nat) : (s.setTdSlot h k v).tdSlot h k = v := mget_mset_same ..

theorem State.tdSlot_setTdSlot_ne (s : State) {h k j i : Nat} (v : Nat) (hne : slotKey j i ≠ slotKey h k) :
    (s.setTdSlot h k v).tdSlot j i = s.tdSlot j i := mget_mset_ne _ _ _ _ hne

theorem State.hwy_setTdSlot (s : State) (h k v : Nat) : (s.setTdSlot h k v).hwy = s.hwy := by
  funext j
  exact congrArg (mget Hwy.init · j) (show (s.setTdSlot h k v).td.hw = s.td.hw from rfl)

theorem State.fld_setTdSlot (s : State) (h k v : Nat) : (s.setTdSlot h k v).fld = s.fld := State.fld_congr rfl

theorem State.td_incS (s : State) (f : Fld) (n : Nat) : (s.incS f n).td = s.td := (State.incS_fr s f n (.refl s)).td rfl

theorem State.td_incWrap (s : State) (f : Fld) (n : Nat) (e : Bool) : (s.incWrap f n e).td = s.td :=
  (State.incWrap_fr s f n e (.refl s)).td rfl

theorem State.td_setFld (s : State) (f : Fld) (v : Nat) : (s.setFld f v).td = s.td := (State.setFld_fr s f v (.refl s)).td rfl

theorem State.td_event (s : State) (f : Fld) (cls : Cls) (inst a0 a1 a2 : Nat) : (s.event f cls inst a0 a1 a2).td = s.td :=
  (State.event_fr s f cls inst a0 a1 a2 (.refl s)).td rfl

theorem outRl_iff {g : Fld} : outRl g = true ↔ g.key < 0x60000 * 8 ∨ 0x70000 * 8 ≤ g.key := by
  simp only [outRl, Bool.or_eq_true, decide_eq_true_eq]

/-! ### What slips and collisions write (R303, R305) -/

/-- The fields that a slip of a highway writes. -/
def slipFlds (h : Nat) (rx : Bool) : List Fld :=
  [if rx then F.TD_HCNT_SLIPS_RX h else F.TD_HCNT_SLIPS_TX h, F.TD_CNT_SLIPS, F.TD_EVENT_SLIP]

theorem State.slip_fldsButRl (s : State) (h : Nat) (rx : Bool) : FldsButRl (slipFlds h rx) s (s.slip h rx) := by
  intro g hg hne
  have hout : outRl g = true := outRl_iff.2 hg
  unfold State.slip
  extract_lets u v sec
  have hu : u.fld g = s.fld g := State.fld_incS_ne _ _ _ _ hout (hne _ (by simp only [slipFlds, List.mem_cons, true_or]))
  have hv : v.fld g = s.fld g :=
    ((State.fld_incWrap _ _ _ _ _ hout).trans
      (State.fld_setFld_ne _ _ _ _ (hne _ (by simp only [slipFlds, List.mem_cons, true_or, or_true])))).trans hu
  have hevent : F.TD_EVENT_SLIP.key ≠ g.key := hne _ (by simp only [slipFlds, List.mem_cons, true_or, or_true])
  clear_value v
  refine State.fld_ite ((State.fld_setFlag_ne _ _ _ _ hevent).trans hv) ?_
  rw [State.fld_event_ne _ _ _ _ _ _ _ _ hout (by decide) hevent, State.fld_setHwy, hv]

/-- A slip leaves the slots, the samples to play, the other highways and the frames that wait to be sent on its own. -/
theorem State.slip_td (s : State) (h : Nat) (rx : Bool) : (s.slip h rx).td.slots = s.td.slots ∧ (s.slip h rx).td.play = s.td.play
    ∧ (∀ j, j ≠ h → (s.slip h rx).hwy j = s.hwy j) ∧ ((s.slip h rx).hwy h).tx = (s.hwy h).tx := by
  unfold State.slip
  extract_lets u v sec x
  have hv : v.td = s.td := (State.td_incWrap ..).trans (State.td_incS ..)
  clear_value v
  rw [← State.hwy_congr hv, ← hv]
  split
  · exact ⟨rfl, rfl, fun _ _ => rfl, rfl⟩
  · rw [State.hwy_congr (State.td_event ..), State.td_event]
    exact ⟨rfl, rfl, fun j hj => State.hwy_setHwy_ne _ _ hj, by rw [State.hwy_setHwy_same]⟩

/-- The fields that a collision on a highway writes. -/
def collisionFlds (h : Nat) : List Fld :=
  [F.TD_HCNT_COLL h, F.TD_CNT_COLLISIONS, F.TD_LAST_COL_HWY, F.TD_LAST_COL_SLOT, F.TD_EVENT_COLLISION]

/-- A collision as it is counted, noted and reported. -/
def State.collisionNoted (s : State) (h k : Nat) : State :=
  let s := ((s.incS (F.TD_HCNT_COLL h) 1).incS F.TD_CNT_COLLISIONS 1).setFld F.TD_LAST_COL_HWY h
  let s := s.setFld F.TD_LAST_COL_SLOT k
  let sec := s.elapsed / 1000000000 + 1
  if (s.hwy h).colSec = sec then s.setFlag F.TD_EVENT_COLLISION true
  else (s.setHwy h { s.hwy h with colSec := sec }).event F.TD_EVENT_COLLISION .warn h h k 0

theorem State.tdCollision_eq (s : State) (h k : Nat) : s.tdCollision h k
    = if s.flag (F.TD_HCFG_SHARED h) ∧ entTx (s.tdSlot h k) then
        (if (s.collisionNoted h k).flag (F.TD_HCFG_COL_ACT h) then
          (s.collisionNoted h k).setTdSlot h k (setBits (setBits (s.tdSlot h k) 16 1 0) 18 1 1) else s.collisionNoted h k)
      else s := rfl

theorem State.tdCollision_fldsButRl (s : State) (h k : Nat) : FldsButRl (collisionFlds h) s (s.tdCollision h k) := by
  intro g hg hne
  have hout : outRl g = true := outRl_iff.2 hg
  have hnoted : (s.collisionNoted h k).fld g = s.fld g := by
    unfold State.collisionNoted
    extract_lets u v sec x
    have hu : u.fld g = s.fld g :=
      (State.fld_setFld_ne _ _ _ _ (hne _ (by simp only [collisionFlds, List.mem_cons, true_or, or_true]))).trans
        ((State.fld_incS_ne _ _ _ _ hout (hne _ (by simp only [collisionFlds, List.mem_cons, true_or, or_true]))).trans
          (State.fld_incS_ne _ _ _ _ hout (hne _ (by simp only [collisionFlds, List.mem_cons, true_or]))))
    have hv : v.fld g = s.fld g := (State.fld_setFld_ne _ _ _ _ (hne _ (by simp only [collisionFlds, List.mem_cons, true_or, or_true]))).trans hu
    have hevent : F.TD_EVENT_COLLISION.key ≠ g.key := hne _ (by simp only [collisionFlds, List.mem_cons, true_or, or_true])
    clear_value v
    refine State.fld_ite ((State.fld_setFlag_ne _ _ _ _ hevent).trans hv) ?_
    rw [State.fld_event_ne _ _ _ _ _ _ _ _ hout (by decide) hevent, State.fld_setHwy, hv]
  rw [State.tdCollision_eq]
  exact State.fld_ite (State.fld_ite (by rw [State.fld_setTdSlot, hnoted]) hnoted) rfl

/-- A collision leaves the frames that a highway holds. -/
theorem State.tdCollision_frames (s : State) (h k j : Nat) : ((s.tdCollision h k).hwy j).rx = (s.hwy j).rx
    ∧ ((s.tdCollision h k).hwy j).tx = (s.hwy j).tx ∧ ((s.tdCollision h k).hwy j).txLast = (s.hwy j).txLast := by
  have hnoted : ((s.collisionNoted h k).hwy j).rx = (s.hwy j).rx ∧ ((s.collisionNoted h k).hwy j).tx = (s.hwy j).tx
      ∧ ((s.collisionNoted h k).hwy j).txLast = (s.hwy j).txLast := by
    unfold State.collisionNoted
    extract_lets u v sec x
    have hv : v.hwy = s.hwy := State.hwy_congr ((State.td_setFld ..).trans ((State.td_setFld ..).trans ((State.td_incS ..).trans (State.td_incS ..))))
    clear_value v
    rw [← hv]
    split
    · exact ⟨rfl, rfl, rfl⟩
    · rw [State.hwy_congr (State.td_event ..)]
      by_cases hj : j = h
      · rw [hj, State.hwy_setHwy_same]
        exact ⟨rfl, rfl, rfl⟩
      · rw [State.hwy_setHwy_ne _ _ hj]
        exact ⟨rfl, rfl, rfl⟩
  rw [State.tdCollision_eq]
  split
  · split
    · rw [State.hwy_setTdSlot]
      exact hnoted
    · exact hnoted
  · exact ⟨rfl, rfl, rfl⟩

/-- What a highway holds of frames stays through the collisions of a frame, and nothing is sent. -/
theorem State.foldl_tdCollision_frames {α : Type} (a b : α → Nat) (l : List α) (s : State) (j : Nat) :
    let t := l.foldl (fun s e => s.tdCollision (a e) (b e)) s
    t.out = s.out ∧ (t.hwy j).rx = (s.hwy j).rx ∧ (t.hwy j).tx = (s.hwy j).tx ∧ (t.hwy j).txLast = (s.hwy j).txLast := by
  have hkeep := foldl_keeps (fun s => (s.out, (s.hwy j).rx, (s.hwy j).tx, (s.hwy j).txLast)) (fun s e => s.tdCollision (a e) (b e))
    (fun u e => by
      obtain ⟨hrx, htx, hlast⟩ := u.tdCollision_frames (a e) (b e) j
      simp only [hrx, htx, hlast, (State.tdCollision_fr u (a e) (b e) (.refl u)).out rfl]) l s
  obtain ⟨hout, hrest⟩ := Prod.mk.inj hkeep
  obtain ⟨hrx, hrest⟩ := Prod.mk.inj hrest
  exact ⟨hout, hrx, Prod.mk.inj hrest⟩

/-! ### The frames that a tick sends (R302, R303) -/

/-- The fields by which the frame that a highway sends is made and sent. -/
def sendFlds (h : Nat) : List Fld := [F.TD_IDLE_A_IDLE, F.TD_IDLE_MU_IDLE, F.TD_HCFG_SHARED h, F.TD_HCFG_MASTER h]

theorem slipFlds_ne_sendFlds {h j : Nat} {rx : Bool} {f g : Fld} (hf : f ∈ slipFlds h rx) (hg : g ∈ sendFlds j) : f.key ≠ g.key := by
  simp only [slipFlds, List.mem_cons, List.not_mem_nil, or_false] at hf
  simp only [sendFlds, List.mem_cons, List.not_mem_nil, or_false] at hg
  have hslip : f.key = (0xb0108 + h * 16) * 8 ∨ f.key = (0xb0108 + h * 16) * 8 + 8 ∨ f.key = 0xb001c * 8 ∨ f.key = 0xb0008 * 8 := by
    rcases hf with rfl | rfl | rfl
    · cases rx
      · exact .inr (.inl rfl)
      · exact .inl rfl
    · exact .inr (.inr (.inl rfl))
    · exact .inr (.inr (.inr rfl))
  have hsend : g.key = 0xb0014 * 8 ∨ g.key = 0xb0014 * 8 + 8 ∨ g.key = (0xb0100 + j * 16) * 8 + 2 ∨ g.key = (0xb0100 + j * 16) * 8 + 1 := by
    rcases hg with rfl | rfl | rfl | rfl
    · exact .inl rfl
    · exact .inr (.inl rfl)
    · exact .inr (.inr (.inl rfl))
    · exact .inr (.inr (.inr rfl))
  omega

theorem outRl_of_mem_sendFlds {h : Nat} {g : Fld} (hg : g ∈ sendFlds h) : outRl g = true := by
  simp only [sendFlds, List.mem_cons, List.not_mem_nil, or_false] at hg
  rcases hg with rfl | rfl | rfl | rfl
  · decide
  · decide
  · exact outRl_of_ge (Nat.le_add_right_of_le (by decide))
  · exact outRl_of_ge (Nat.le_add_right_of_le (by decide))

/-- What the tick of highway `h` may do to a state: the frames of the others stay as they wait, nothing that is sent is taken back,
and nothing changes by which a frame is made. -/
structure State.TickOf (h : Nat) (s t : State) : Prop where
  slots : t.td.slots = s.td.slots
  play : t.td.play = s.td.play
  chans : t.chans = s.chans
  flds : ∀ j, ∀ g ∈ sendFlds j, t.fld g = s.fld g
  others : ∀ j, j ≠ h → (t.hwy j).tx = (s.hwy j).tx
  out : s.out <:+ t.out

namespace State.TickOf
variable {h : Nat} {s t u : State}

theorem refl (h : Nat) (s : State) : State.TickOf h s s := ⟨rfl, rfl, rfl, fun _ _ _ => rfl, fun _ _ => rfl, List.suffix_rfl⟩

theorem trans (a : State.TickOf h s t) (b : State.TickOf h t u) : State.TickOf h s u :=
  ⟨b.slots.trans a.slots, b.play.trans a.play, b.chans.trans a.chans, fun j g hg => (b.flds j g hg).trans (a.flds j g hg),
    fun j hj => (b.others j hj).trans (a.others j hj), a.out.trans b.out⟩

theorem setHwy (s : State) (x : Hwy) : State.TickOf h s (s.setHwy h x) :=
  ⟨rfl, rfl, rfl, fun _ _ _ => rfl, fun _ hj => congrArg Hwy.tx (State.hwy_setHwy_ne _ _ hj), List.suffix_rfl⟩

theorem slip (s : State) (rx : Bool) : State.TickOf h s (s.slip h rx) := by
  obtain ⟨hslots, hplay, hothers, -⟩ := s.slip_td h rx
  have hfr := State.slip_fr s h rx (.refl s)
  refine ⟨hslots, hplay, hfr.chans rfl, fun j g hg => ?_, fun j hj => congrArg Hwy.tx (hothers j hj), hfr.out rfl ▸ List.suffix_rfl⟩
  exact s.slip_fldsButRl h rx g (outRl_iff.1 (outRl_of_mem_sendFlds hg)) fun f hf => slipFlds_ne_sendFlds hf hg

theorem emit (s : State) (o : Out) : State.TickOf h s (s.emit o) :=
  ⟨rfl, rfl, rfl, fun _ _ _ => rfl, fun _ _ => rfl, List.suffix_cons ..⟩

theorem takeFrame (s : State) (data : List Byte) : State.TickOf h s (s.takeFrame h data) := by
  unfold State.takeFrame
  extract_lets b
  generalize s.td.slots.filter _ = l
  induction l generalizing s with
  | nil => exact .refl h s
  | cons e l ih =>
    refine .trans ?_ (ih _)
    dsimp only
    split
    · exact ⟨rfl, rfl, rfl, fun _ _ _ => rfl, fun _ _ => rfl, List.suffix_rfl⟩
    · exact .refl h s

theorem tickFrame (s : State) (data : List Byte) : State.TickOf h s (s.tickFrame h data).1 := by
  unfold State.tickFrame
  split
  · exact .refl h s
  · split
    · exact .refl h s
    · extract_lets x
      split
      · exact .setHwy s _
      · exact .slip s true

theorem flag (a : State.TickOf h s t) {j : Nat} {g : Fld} (hg : g ∈ sendFlds j) : t.flag g = s.flag g := by
  rw [State.flag, State.flag, a.flds j g hg]

theorem idleCodes (a : State.TickOf h s t) : t.idleCodes = s.idleCodes := by
  funext law
  have hidle : ∀ g ∈ sendFlds 0, t.fld g = s.fld g := a.flds 0
  unfold State.idleCodes
  rw [hidle F.TD_IDLE_A_IDLE (by simp only [sendFlds, List.mem_cons, true_or]),
    hidle F.TD_IDLE_MU_IDLE (by simp only [sendFlds, List.mem_cons, true_or, or_true])]

theorem slotCodes (a : State.TickOf h s t) : t.slotCodes = s.slotCodes := by
  funext v
  unfold State.slotCodes
  rw [State.chan_congr a.chans, a.play, a.idleCodes]

theorem txFrame (a : State.TickOf h s t) (j : Nat) : t.txFrame j = s.txFrame j := by
  unfold State.txFrame
  rw [State.tdSlot_congr a.slots, a.slotCodes, a.flag (j := j) (g := F.TD_HCFG_SHARED j) (by simp only [sendFlds, List.mem_cons, true_or, or_true])]

end State.TickOf

/-- Highway `h` has sent, or holds as its newest frame to send, the frame that it makes in `s`. -/
def State.Sends (s : State) (h : Nat) (t : State) : Prop :=
  if s.flag (F.TD_HCFG_MASTER h) then .tdm h (s.txFrame h) ∈ t.out else ∃ l, (t.hwy h).tx = l ++ [s.txFrame h]

theorem State.Sends.mono {s t u : State} {h : Nat} (a : s.Sends h t) (htx : (u.hwy h).tx = (t.hwy h).tx) (hout : t.out <:+ u.out) :
    s.Sends h u := by
  unfold State.Sends at a ⊢
  rw [htx]
  split
  case isTrue hm => exact hout.mem ((if_pos hm).mp a)
  case isFalse hm => exact (if_neg hm).mp a

theorem State.Sends.of_tickOf {s t u : State} {h j : Nat} (a : u.Sends h t) (htick : State.TickOf j s u) : s.Sends h t := by
  unfold State.Sends at a ⊢
  rwa [htick.txFrame, htick.flag (j := h) (by simp only [sendFlds, List.mem_cons, true_or, or_true])] at a

theorem State.hwyTick_tickOf (s : State) (h : Nat) (data : List Byte) : State.TickOf h s (s.hwyTick h data) := by
  unfold State.hwyTick
  extract_lets r u codes x v
  have hu : State.TickOf h s u := (State.TickOf.tickFrame s data).trans (.takeFrame r.1 r.2)
  have hv : State.TickOf h s v := hu.trans (.setHwy u _)
  clear_value u v
  split
  · exact hu.trans (.emit u _)
  · split
    · exact hv.trans (.slip v false)
    · exact hv

theorem State.hwyTick_sends (s : State) (h : Nat) (data : List Byte) : s.Sends h (s.hwyTick h data) := by
  unfold State.hwyTick
  extract_lets r u codes x v
  have hu : State.TickOf h s u := (State.TickOf.tickFrame s data).trans (.takeFrame r.1 r.2)
  have hcodes : codes = s.txFrame h := hu.txFrame h
  have htx : (v.hwy h).tx = x.tx.drop (x.tx.length - 1) ++ [s.txFrame h] := by
    rw [← hcodes, ← List.drop_append_of_le_length (Nat.sub_le ..)]
    exact congrArg Hwy.tx (State.hwy_setHwy_same ..)
  have hmaster : u.flag (F.TD_HCFG_MASTER h) = s.flag (F.TD_HCFG_MASTER h) :=
    hu.flag (j := h) (by simp only [sendFlds, List.mem_cons, true_or, or_true])
  clear_value v codes u
  unfold State.Sends
  rw [hmaster]
  split
  · rw [hcodes]
    exact List.mem_cons_self
  · split
    · obtain ⟨-, -, -, hslip⟩ := v.slip_td h false
      exact ⟨_, hslip.trans htx⟩
    · exact ⟨_, htx⟩

/-- The ticks of other highways leave what a highway has to send, and nothing that is sent is taken back. -/
theorem State.foldl_hwyTick_keeps (data : Nat → List Byte) {h : Nat} (l : List Nat) (hl : h ∉ l) (s : State) :
    let t := l.foldl (fun s h => s.hwyTick h (data h)) s
    (t.hwy h).tx = (s.hwy h).tx ∧ s.out <:+ t.out := by
  induction l generalizing s with
  | nil => exact ⟨rfl, List.suffix_rfl⟩
  | cons j l ih =>
    obtain ⟨hne, hl⟩ := not_or.1 (mt List.mem_cons.2 hl)
    obtain ⟨htx, hout⟩ := ih hl (s.hwyTick j (data j))
    have htick := s.hwyTick_tickOf j (data j)
    exact ⟨htx.trans (htick.others h hne), htick.out.trans hout⟩

/-- Every highway of a list without repeats sends its frame at the tick. -/
theorem State.foldl_hwyTick_sends (data : Nat → List Byte) {h : Nat} (l : List Nat) (hl : l.Nodup) (hmem : h ∈ l) (s : State) :
    s.Sends h (l.foldl (fun s h => s.hwyTick h (data h)) s) := by
  induction l generalizing s with
  | nil => cases hmem
  | cons j l ih =>
    obtain ⟨hj, hl⟩ := List.nodup_cons.1 hl
    rcases List.mem_cons.1 hmem with rfl | hmem
    · obtain ⟨htx, hout⟩ := State.foldl_hwyTick_keeps data l hj (s.hwyTick h (data h))
      exact (s.hwyTick_sends h (data h)).mono htx hout
    · exact (ih hl hmem (s.hwyTick j (data j))).of_tickOf (s.hwyTick_tickOf j (data j))

end Sys2Proof.Machine
end

section
/-! ## Ticks, received frames, clocks and the slot table as commands (R301-R305) -/
namespace Sys2Proof.Machine

/-! ### The tick (R302) -/

theorem State.td_compare (s : State) (err : Int) : (s.compare err).td = s.td := (State.compare_fr s err (.refl s)).td rfl

theorem State.out_compare (s : State) (err : Int) : (s.compare err).out = s.out := (State.compare_fr s err (.refl s)).out rfl

theorem State.hwyActive_congr {s t : State} (h : t.regs = s.regs) : t.hwyActive = s.hwyActive := by
  funext j
  unfold State.hwyActive State.bankMode State.mode State.flag
  rw [State.fld_congr h]

theorem State.cp_playOn (s : State) : s.playOn.cp = s.cp := rfl

/-- The tick that is acted on is noted. -/
def State.setTick (s : State) (n : Nat) : State := { s with cp := { s.cp with lastTick := n } }

theorem State.cp_setTick (s : State) (n : Nat) : (s.setTick n).cp = { s.cp with lastTick := n } := rfl

theorem State.hwyActive_setTick (s : State) (n : Nat) : (s.setTick n).hwyActive = s.hwyActive := State.hwyActive_congr rfl

theorem State.setTick_tickOf (s : State) (n h : Nat) : State.TickOf h s (s.setTick n) :=
  ⟨rfl, rfl, rfl, fun _ _ _ => rfl, fun _ _ => rfl, List.suffix_rfl⟩

/-- A tick that is due is noted; every active highway has its turn, and collisions are found before the playing frames move on. -/
theorem exec_highwayTick_eq {s : State} {data : List (List (BitVec 8))} {col : List (Fin 16 × Fin 512)}
    (hdue : s.nowNs / 125000 ≠ s.cp.lastTick) (href : s.flag F.CP_STATUS_REF_LOST = false) :
    let u := s.setTick (s.nowNs / 125000)
    ∃ l : List (Fin 16 × Fin 512), exec (.highwayTick data col) s = .next (l.foldl (fun s e => s.tdCollision e.1 e.2)
      (((List.range 16).filter u.hwyActive).foldl (fun s h => s.hwyTick h (data.getD h [])) u)).playOn :=
  ⟨_, if_pos ⟨hdue, href⟩⟩

/-- The tick and its collisions change nothing else of Compass. -/
theorem State.cp_ticked (data : Nat → List Byte) (l : List Nat) (col : List (Fin 16 × Fin 512)) (s : State) :
    (col.foldl (fun s e => s.tdCollision e.1 e.2) (l.foldl (fun s h => s.hwyTick h (data h)) s)).playOn.cp = s.cp :=
  (State.cp_playOn _).trans ((foldl_keeps State.cp _ (fun u _ => (State.tdCollision_fr u _ _ (.refl u)).cp rfl) col _).trans
    (foldl_keeps State.cp _ (fun u _ => (State.hwyTick_fr u _ _ (.refl u)).cp rfl) l s))

/-! ### A frame received (R303, R304) -/

/-- A received frame is put into the slip buffer of its highway. -/
def State.rxStore (s : State) (h : Nat) (data : List Byte) : State :=
  let x := s.hwy h
  let s := s.setHwy h { x with rx := (x.rx ++ [data]).drop (x.rx.length - 1) }
  if x.rx.length ≥ 2 then s.slip h true else s

/-- A highway sends the oldest frame that waits, or its last one again. -/
def State.txSend (s : State) (h : Nat) : State :=
  let x := s.hwy h
  match x.tx with
  | f :: r => (s.setHwy h { x with tx := r, txLast := f }).emit (.tdm h f)
  | [] => (s.slip h false).emit (.tdm h x.txLast)

theorem exec_highwayFrameReceived_eq {s : State} {h : Fin 16} (data : List (BitVec 8)) (fs : BitVec 12) (lost : Bool) (col : List (Fin 512))
    (hact : s.hwyActive h = true) (hslave : s.flag (F.TD_HCFG_MASTER h) = false) (hclk : bit (s.fld F.TD_STATUS_CLK_LOST) h = false) :
    let u := col.foldl (fun (s : State) k => s.tdCollision h.val k.val) (((s.fsCheck h fs.toNat lost).rxStore h data).txSend h)
    exec (.highwayFrameReceived h data fs lost col) s
      = .next (if u.fld F.CP_SRC_CFG_SRC = 3 ∧ u.fld F.CP_SRC_CFG_HWY = h.val ∧ u.flag F.CP_STATUS_REF_LOST = false ∧ fs.toNat = 0 then
          u.compare (wrapErr u.cp.ns 125000) else u) :=
  if_pos ⟨hact, hslave, hclk⟩

theorem fsErr_outRl (h : Nat) : outRl (F.TD_HCNT_FS_ERR h) = true := outRl_of_ge (Nat.le_add_right_of_le (by decide))

/-- A field below those of the highways is not their count of misplaced frame syncs. -/
theorem ne_fsErr {f : Fld} {h : Nat} (hf : f.key < 0xb0100 * 8) : f.key ≠ (F.TD_HCNT_FS_ERR h).key := by
  show f.key ≠ (0xb0108 + h * 16) * 8 + 24
  omega

theorem State.slip_fsErr (s : State) (h : Nat) (rx : Bool) : (s.slip h rx).fld (F.TD_HCNT_FS_ERR h) = s.fld (F.TD_HCNT_FS_ERR h) := by
  refine s.slip_fldsButRl h rx _ (outRl_iff.1 (fsErr_outRl h)) fun g hg => ?_
  simp only [slipFlds, List.mem_cons, List.not_mem_nil, or_false] at hg
  rcases hg with rfl | rfl | rfl
  · cases rx
    · show (0xb0108 + h * 16) * 8 + 8 ≠ (0xb0108 + h * 16) * 8 + 24
      omega
    · show (0xb0108 + h * 16) * 8 ≠ (0xb0108 + h * 16) * 8 + 24
      omega
  · exact ne_fsErr (by decide)
  · exact ne_fsErr (by decide)

theorem State.tdCollision_fsErr (s : State) (h k : Nat) : (s.tdCollision h k).fld (F.TD_HCNT_FS_ERR h) = s.fld (F.TD_HCNT_FS_ERR h) := by
  refine s.tdCollision_fldsButRl h k _ (outRl_iff.1 (fsErr_outRl h)) fun g hg => ?_
  simp only [collisionFlds, List.mem_cons, List.not_mem_nil, or_false] at hg
  rcases hg with rfl | rfl | rfl | rfl | rfl
  · show (0xb0108 + h * 16) * 8 + 16 ≠ (0xb0108 + h * 16) * 8 + 24
    omega
  all_goals exact ne_fsErr (by decide)

theorem State.rxStore_fsErr (s : State) (h : Nat) (data : List Byte) :
    (s.rxStore h data).fld (F.TD_HCNT_FS_ERR h) = s.fld (F.TD_HCNT_FS_ERR h) :=
  State.fld_ite ((State.slip_fsErr ..).trans (by rw [State.fld_setHwy])) (by rw [State.fld_setHwy])

theorem State.txSend_fsErr (s : State) (h : Nat) : (s.txSend h).fld (F.TD_HCNT_FS_ERR h) = s.fld (F.TD_HCNT_FS_ERR h) := by
  unfold State.txSend
  dsimp only
  split
  · rw [State.fld_emit, State.fld_setHwy]
  · rw [State.fld_emit, State.slip_fsErr]

/-- A frame sync in its place leaves the frames that wait. -/
theorem State.fsCheck_inPlace (s : State) (h : Nat) (lost : Bool) : (s.fsCheck h 0 lost).out = s.out
    ∧ ((s.fsCheck h 0 lost).hwy h).rx = (s.hwy h).rx ∧ ((s.fsCheck h 0 lost).hwy h).tx = (s.hwy h).tx := by
  unfold State.fsCheck
  extract_lets x lockBit
  have hlock : ∀ (t : State) (b : Bool), (lockBit t b).out = t.out ∧ (lockBit t b).hwy = t.hwy := fun t b =>
    ⟨rfl, State.hwy_congr rfl⟩
  clear_value lockBit
  rw [if_pos rfl, (hlock _ _).1, (hlock _ _).2, State.hwy_setHwy_same]
  exact ⟨rfl, rfl, rfl⟩

/-- A frame sync out of place is counted; what follows from it leaves the count. -/
theorem State.fsCheck_counts (s : State) (h : Nat) {fs : Nat} (lost : Bool) (hfs : fs ≠ 0) :
    (s.fsCheck h fs lost).fld (F.TD_HCNT_FS_ERR h) = satAdd 8 (s.fld (F.TD_HCNT_FS_ERR h)) 1 := by
  unfold State.fsCheck
  extract_lets x lockBit u v w
  have hu : u.fld (F.TD_HCNT_FS_ERR h) = satAdd 8 (s.fld (F.TD_HCNT_FS_ERR h)) 1 :=
    (State.fld_setFlag_ne _ _ _ _ (ne_fsErr (by decide))).trans (State.fld_incS_same _ _ _ (fsErr_outRl h))
  have hholdover : ∀ f ∈ [F.CP_HOLD_FREQ, F.CP_STATUS_STATE, F.CP_EVENT_SRC_LOST, F.CP_EVENT_HOLDOVER], f.key < 0xb0100 * 8 := by decide
  have hv : v.fld (F.TD_HCNT_FS_ERR h) = satAdd 8 (s.fld (F.TD_HCNT_FS_ERR h)) 1 :=
    State.fld_ite ((State.fld_holdover u _ (fsErr_outRl h) fun f hf => ne_fsErr (hholdover f hf)).trans hu) hu
  have hlock : ∀ (t : State) (b : Bool), (lockBit t b).fld (F.TD_HCNT_FS_ERR h) = t.fld (F.TD_HCNT_FS_ERR h) := fun t b =>
    State.fld_setFld_ne _ _ _ _ (ne_fsErr (by decide))
  clear_value v lockBit
  have hw : w.fld (F.TD_HCNT_FS_ERR h) = satAdd 8 (s.fld (F.TD_HCNT_FS_ERR h)) 1 := (hlock _ _).trans hv
  clear_value w
  rw [if_neg hfs]
  exact State.fld_ite (State.fld_ite ((w.slip_fsErr h true).trans hw) hw) ((hlock _ _).trans hv)

/-- Two frames at most wait in a slip buffer: a frame that finds room for itself is put behind the other. -/
theorem State.rxStore_of_room {s : State} {h : Nat} (data : List Byte) (hroom : (s.hwy h).rx.length < 2) :
    s.rxStore h data = s.setHwy h { s.hwy h with rx := (s.hwy h).rx ++ [data] } := by
  have hdrop : (s.hwy h).rx.length - 1 = 0 := by omega
  unfold State.rxStore
  dsimp only
  rw [hdrop, List.drop_zero, if_neg (by omega)]

theorem State.txSend_of_cons {s : State} {h : Nat} {f : List Nat} {r : List (List Nat)} (htx : (s.hwy h).tx = f :: r) :
    s.txSend h = (s.setHwy h { s.hwy h with tx := r, txLast := f }).emit (.tdm h f) := by
  unfold State.txSend
  dsimp only
  rw [htx]

/-- A frame received in its place, with room in its slip buffer, and a frame to send: one goes in, the other out. -/
theorem State.frameReceived_inPlace {s : State} {h : Nat} (data : List Byte) (lost : Bool) {f : List Nat} {r : List (List Nat)}
    (hroom : (s.hwy h).rx.length < 2) (htx : (s.hwy h).tx = f :: r) :
    let t := ((s.fsCheck h 0 lost).rxStore h data).txSend h
    t.out = .tdm h f :: s.out ∧ (t.hwy h).rx = (s.hwy h).rx ++ [data] ∧ (t.hwy h).tx = r ∧ (t.hwy h).txLast = f := by
  obtain ⟨hout, hrx, hsend⟩ := s.fsCheck_inPlace h lost
  generalize s.fsCheck h 0 lost = u at hout hrx hsend ⊢
  rw [← hrx] at hroom ⊢
  rw [← hsend] at htx
  rw [← hout, State.rxStore_of_room data hroom, State.txSend_of_cons (f := f) (r := r) (by rw [State.hwy_setHwy_same, htx])]
  dsimp only
  rw [State.hwy_emit, State.hwy_setHwy_same, State.hwy_setHwy_same]
  exact ⟨rfl, rfl, rfl, rfl⟩

/-! ### The clock of a slave highway (R304) -/

/-- The bit of one highway in a field that has one for each. -/
theorem State.bit_setFld_setBits (s : State) (f : Fld) (i : Nat) (b : Bool) {j : Nat} (hj : j < f.w) :
    bit ((s.setFld f (setBits (s.fld f) i 1 (b2n b))).fld f) j = if j = i then b else bit (s.fld f) j := by
  rw [State.fld_setFld_same, bit_eq_testBit, bit_eq_testBit, Nat.testBit_mod_two_pow, testBit_setBits_one, decide_eq_true hj, Bool.true_and]

theorem ite_true_eq_or (p : Prop) [Decidable p] (b : Bool) : (if p then true else b) = (decide p || b) := by
  by_cases hp : p
  · rw [if_pos hp, decide_eq_true hp, Bool.true_or]
  · rw [if_neg hp, decide_eq_false hp, Bool.false_or]

theorem ite_false_eq_and (p : Prop) [Decidable p] (b : Bool) : (if p then false else b) = (decide (¬p) && b) := by
  by_cases hp : p
  · rw [if_pos hp, decide_eq_false (not_not_intro hp), Bool.false_and]
  · rw [if_neg hp, decide_eq_true hp, Bool.true_and]

/-- A source's loss touches no field of the highways. -/
theorem State.holdover_keeps_tdFld (s : State) {g : Fld} (hg : 0xb0000 * 8 ≤ g.key) : s.holdover.fld g = s.fld g := by
  have hlow : ∀ f ∈ [F.CP_HOLD_FREQ, F.CP_STATUS_STATE, F.CP_EVENT_SRC_LOST, F.CP_EVENT_HOLDOVER], f.key < 0xb0000 * 8 := by decide
  refine State.fld_holdover s g ?_ fun f hf => Nat.ne_of_lt (Nat.lt_of_lt_of_le (hlow f hf) hg)
  exact Bool.or_eq_true_iff.2 (.inr (decide_eq_true (Nat.le_trans (by decide) hg)))

theorem exec_clkLost_eq {s : State} {h : Fin 16} (hact : s.hwyActive h = true) (hslave : s.flag (F.TD_HCFG_MASTER h) = false)
    (hclk : bit (s.fld F.TD_STATUS_CLK_LOST) h = false) :
    let u := (s.setFld F.TD_STATUS_CLK_LOST (setBits (s.fld F.TD_STATUS_CLK_LOST) h 1 (b2n true))).event F.TD_EVENT_CLK_LOST .warn h h 0 0
    exec (.clkLost h) s = .next (if u.fld F.CP_SRC_CFG_SRC = 3 ∧ u.fld F.CP_SRC_CFG_HWY = h.val then u.holdover else u) :=
  if_pos ⟨hact, hslave, hclk⟩

theorem exec_tdClkReturn_eq {s : State} {h : Fin 16} (hclk : bit (s.fld F.TD_STATUS_CLK_LOST) h = true) :
    let u := s.setFld F.TD_STATUS_CLK_LOST (setBits (s.fld F.TD_STATUS_CLK_LOST) h 1 (b2n false))
    let v := u.setHwy h { u.hwy h with run := 0, cand := none }
    exec (.tdClkReturn h) s = .next (if v.fld F.CP_SRC_CFG_SRC = 3 ∧ v.fld F.CP_SRC_CFG_HWY = h.val then v.acquire else v) :=
  if_pos hclk

/-! ### The slot table (R301) -/

theorem slotKey_succ_ne (h k : Nat) : slotKey h (k + 1) ≠ slotKey h k := by
  unfold slotKey
  omega

/-- A rejected write raises its event and touches no slot. -/
theorem State.slotWrite301_rejected {s : State} {h k v : Nat} (hrej : s.slotRejects h k (bits v 0 17) = true) :
    (s.slotWrite301 h k v).td = s.td ∧ (s.slotWrite301 h k v).fld F.TD_EVENT_SLOT_REJECT = 1 := by
  have he : s.slotWrite301 h k v = s.event F.TD_EVENT_SLOT_REJECT .warn h h k 0 := if_pos hrej
  rw [he]
  exact ⟨State.td_event .., State.fld_event_same _ _ _ _ _ _ _ (by decide) (by decide) (by decide)⟩

/-- An accepted write sets its slot, and takes or frees the slot that follows. -/
theorem State.slotWrite301_accepted {s : State} {h k v : Nat} (hrej : s.slotRejects h k (bits v 0 17) = false) :
    s.slotWrite301 h k v = (
      let t := s.setTdSlot h k (bits v 0 17)
      if k % 2 = 0 ∧ entLaw (bits v 0 17) = 2 then t.setTdSlot h (k + 1) (2 ^ 17)
      else if k % 2 = 0 ∧ entCompanion (s.tdSlot h (k + 1)) = true then t.setTdSlot h (k + 1) 0
      else t) := by
  have hnext := s.tdSlot_setTdSlot_ne (bits v 0 17) (slotKey_succ_ne h k)
  unfold State.slotWrite301
  dsimp only
  rw [if_neg (Bool.eq_false_iff.1 hrej), hnext]

/-- What an accepted write leaves of the slot table. -/
theorem State.slotWrite301_slots {s : State} {h k v : Nat} (hrej : s.slotRejects h k (bits v 0 17) = false) :
    let x := bits v 0 17
    let t := s.slotWrite301 h k v
    t.tdSlot h k = x ∧ (k % 2 = 0 → entLaw x = 2 → t.tdSlot h (k + 1) = 2 ^ 17)
      ∧ (k % 2 = 0 → entLaw x ≠ 2 → entCompanion (s.tdSlot h (k + 1)) = true → t.tdSlot h (k + 1) = 0)
      ∧ ∀ h' k', slotKey h' k' ≠ slotKey h k → slotKey h' k' ≠ slotKey h (k + 1) → t.tdSlot h' k' = s.tdSlot h' k' := by
  intro x t
  have ht : t = _ := State.slotWrite301_accepted hrej
  have hone : (s.setTdSlot h k x).tdSlot h k = x := State.tdSlot_setTdSlot_same ..
  have hrest : ∀ h' k', slotKey h' k' ≠ slotKey h k → (s.setTdSlot h k x).tdSlot h' k' = s.tdSlot h' k' := fun _ _ =>
    State.tdSlot_setTdSlot_ne _ _
  have hpair : ∀ y, ((s.setTdSlot h k x).setTdSlot h (k + 1) y).tdSlot h k = x := fun y =>
    (State.tdSlot_setTdSlot_ne _ _ (slotKey_succ_ne h k).symm).trans hone
  have hboth : ∀ y h' k', slotKey h' k' ≠ slotKey h k → slotKey h' k' ≠ slotKey h (k + 1) →
      ((s.setTdSlot h k x).setTdSlot h (k + 1) y).tdSlot h' k' = s.tdSlot h' k' := fun y h' k' hk hk' =>
    (State.tdSlot_setTdSlot_ne _ _ hk').trans (hrest h' k' hk)
  rw [ht]
  dsimp only
  split
  case isTrue hlin =>
    exact ⟨hpair _, fun _ _ => State.tdSlot_setTdSlot_same .., fun _ hlaw => absurd hlin.2 hlaw, hboth _⟩
  case isFalse hlin =>
    split
    case isTrue hcomp =>
      exact ⟨hpair _, fun heven hlaw => absurd ⟨heven, hlaw⟩ hlin, fun _ _ _ => State.tdSlot_setTdSlot_same .., hboth _⟩
    case isFalse hcomp =>
      exact ⟨hone, fun heven hlaw => absurd ⟨heven, hlaw⟩ hlin, fun heven _ hc => absurd ⟨heven, hc⟩ hcomp,
        fun h' k' hk _ => hrest h' k' hk⟩

/-- What is mirrored of a slot's write is sent from the TW_ block; the slots and the registers are those of the write. -/
theorem State.slotEntryWrite_keeps (s : State) (h k v : Nat) :
    (s.slotEntryWrite h k v).td = (s.slotWrite301 h k v).td ∧ (s.slotEntryWrite h k v).fld = (s.slotWrite301 h k v).fld := by
  unfold State.slotEntryWrite
  extract_lets t
  have hkeep := foldl_keeps (fun u => (u.td, u.regs))
    (fun x j => if t.tdSlot h j = s.tdSlot h j then x else x.mirror (.slot (512 * h + j) (t.tdSlot h j))) (fun u j => by
      split
      · rfl
      · exact Prod.ext ((State.mirror_fr _ _ (.refl _)).td rfl) ((State.mirror_fr _ _ (.refl _)).regs rfl)) [k, k + 1] t
  obtain ⟨htd, hregs⟩ := Prod.mk.inj hkeep
  exact ⟨htd, State.fld_congr hregs⟩

/-- TD_SLOT_DATA writes the selected entry; a LAW of 3 keeps the entry's own and is reported besides. -/
theorem State.slotDataWrite_keeps (s : State) (v : Nat) :
    let h := s.fld F.TD_SLOT_SEL_HWY
    let k := s.fld F.TD_SLOT_SEL_SLOT
    let w := if entLaw v = 3 then setBits v 13 2 (entLaw (s.tdSlot h k)) else v
    (s.slotDataWrite v).td = (s.slotWrite301 h k w).td
      ∧ (s.slotDataWrite v).fld F.TD_EVENT_SLOT_REJECT = (s.slotWrite301 h k w).fld F.TD_EVENT_SLOT_REJECT := by
  intro h k w
  obtain ⟨htd, hfld⟩ := s.slotEntryWrite_keeps h k w
  rw [← htd, ← hfld]
  unfold State.slotDataWrite
  by_cases hlaw : entLaw v = 3
  · have hreport := (s.slotEntryWrite h k w).reservedEncoding_reportsOnly R.TD_SLOT_DATA 13
    have hw : w = setBits v 13 2 (entLaw (s.tdSlot h k)) := if_pos hlaw
    rw [hw] at hreport ⊢
    rw [if_pos hlaw]
    exact ⟨hreport.1.2 .td (by decide), hreport.fld (by decide)⟩
  · have hw : w = v := if_neg hlaw
    rw [hw, if_neg hlaw]
    exact ⟨rfl, rfl⟩

/-- Settles O36: each highway has its turn at a tick and its turn leaves the frames of the others; a received frame passes one
operation after the other; a clock's bit is one bit of its field; a slot's write is one of the cases of R301. -/
theorem tdmCommands : Obligations.TdmCommands := by
  unfold Obligations.TdmCommands
  intro s
  refine ⟨fun data col hdue href => ?tick, fun h data fs lost col hact hslave hclk => ?received, fun h hact hslave hclk => ?lost,
    fun h hclk => ?back, fun v => ?slot⟩
  case tick =>
    obtain ⟨l, hexec⟩ := exec_highwayTick_eq (data := data) (col := col) hdue href
    have htick := s.setTick_tickOf (s.nowNs / 125000)
    have hcp := s.cp_setTick (s.nowNs / 125000)
    have hactive := s.hwyActive_setTick (s.nowNs / 125000)
    generalize s.setTick (s.nowNs / 125000) = u at hexec htick hcp hactive
    rw [hactive] at hexec
    refine ⟨_, hexec, (State.cp_ticked (data.getD · []) _ l u).trans hcp, fun h hh hact => ?_⟩
    have hsent := State.foldl_hwyTick_sends (data.getD · []) _ (List.nodup_range.filter s.hwyActive)
      (List.mem_filter.2 ⟨List.mem_range.2 hh, hact⟩) u
    obtain ⟨hout, -, htx, -⟩ := State.foldl_tdCollision_frames (fun e : Fin 16 × Fin 512 => e.1.val) (fun e => e.2.val) l
      (((List.range 16).filter s.hwyActive).foldl (fun s h => s.hwyTick h (data.getD h [])) u) h
    exact (hsent.of_tickOf (htick h)).mono htx (hout ▸ List.suffix_rfl)
  case received =>
    refine ⟨_, exec_highwayFrameReceived_eq data fs lost col hact hslave hclk, fun hfs => ?_, ?_⟩
    · have hne : fs.toNat ≠ 0 := fun h0 => hfs (BitVec.eq_of_toNat_eq h0)
      have hcol := foldl_keeps (State.fld · (F.TD_HCNT_FS_ERR h)) (fun u (k : Fin 512) => u.tdCollision h.val k.val)
        (fun u k => u.tdCollision_fsErr h k) col
      rw [if_neg fun ⟨_, _, _, h0⟩ => hne h0, hcol, State.txSend_fsErr, State.rxStore_fsErr, State.fsCheck_counts _ _ _ hne]
    · rintro f r rfl hroom htx
      obtain ⟨hout, hrx, hsend, hlast⟩ := State.frameReceived_inPlace data lost hroom htx
      obtain ⟨hcout, hcrx, hctx, hclast⟩ := State.foldl_tdCollision_frames (fun _ : Fin 512 => h.val) (fun k => k.val) col
        (((s.fsCheck h 0 lost).rxStore h data).txSend h) h
      rw [hout] at hcout
      rw [hrx] at hcrx
      rw [hsend] at hctx
      rw [hlast] at hclast
      split
      · rw [State.hwy_congr (State.td_compare ..), State.out_compare]
        exact ⟨hcout, hcrx, hctx, hclast⟩
      · exact ⟨hcout, hcrx, hctx, hclast⟩
  case lost =>
    refine ⟨_, exec_clkLost_eq hact hslave hclk, ?_, ?_, fun j hj => ?_⟩
    · have hevent := State.fld_event_same (s.setFld F.TD_STATUS_CLK_LOST (setBits (s.fld F.TD_STATUS_CLK_LOST) h 1 (b2n true)))
        F.TD_EVENT_CLK_LOST .warn h h 0 0 (by decide) (by decide) (by decide)
      exact State.fld_ite ((State.holdover_keeps_tdFld _ (by decide)).trans hevent) hevent
    · split
      · exact ((State.holdover_fr _ (.refl _)).td rfl).trans (State.td_event ..)
      · exact State.td_event ..
    · have hlost := State.fld_event_ne (s.setFld F.TD_STATUS_CLK_LOST (setBits (s.fld F.TD_STATUS_CLK_LOST) h 1 (b2n true)))
        F.TD_EVENT_CLK_LOST F.TD_STATUS_CLK_LOST .warn h h 0 0 (by decide) (by decide) (by decide)
      rw [State.fld_ite ((State.holdover_keeps_tdFld _ (by decide)).trans hlost) hlost, State.bit_setFld_setBits _ _ _ _ hj]
      exact ite_true_eq_or _ _
  case back =>
    refine ⟨_, exec_tdClkReturn_eq hclk, ?_, fun j hj => ?_⟩
    · have hu : ((s.setFld F.TD_STATUS_CLK_LOST (setBits (s.fld F.TD_STATUS_CLK_LOST) h 1 (b2n false))).hwy) = s.hwy := State.hwy_congr rfl
      split
      · rw [State.hwy_congr ((State.acquire_fr _ (.refl _)).td rfl), State.hwy_setHwy_same, hu]
      · rw [State.hwy_setHwy_same, hu]
    · rw [State.fld_ite (State.fld_acquire _ _ (by decide)) rfl, State.fld_setHwy, State.bit_setFld_setBits _ _ _ _ hj]
      exact ite_false_eq_and _ _
  case slot =>
    intro h k w x
    obtain ⟨htd, hfld⟩ := s.slotDataWrite_keeps v.toNat
    refine ⟨_, rfl, fun hrej => ?_, fun hrej => ?_⟩
    · obtain ⟨htd', hevent⟩ := State.slotWrite301_rejected hrej
      exact ⟨htd.trans htd', hfld.trans hevent⟩
    · rw [State.tdSlot_congr (congrArg Tdm.slots htd)]
      exact State.slotWrite301_slots hrej

end Sys2Proof.Machine
end

section
/-! ## Groups, clocks, fades and resets of the bitstream ports (R313, R324-R326) -/
namespace Sys2Proof.Machine

/-! ### Fields of BS_ and what leaves the bitstream ports alone -/

/-- A field lies in BS_ or behind it: no report and no completion writes it. -/
abbrev atBs (f : Fld) : Prop := 0xc0000 * 8 ≤ f.key

/-- A field lies behind the registers that the groups share: it belongs to one group or one channel. -/
abbrev atBsGroup (f : Fld) : Prop := 0xc0100 * 8 ≤ f.key

theorem atBs_of_atBsGroup {g : Fld} (hg : atBsGroup g) : atBs g := Nat.le_trans (by decide) hg

theorem outRl_of_atBs {g : Fld} (hg : atBs g) : outRl g = true := outRl_iff.2 (.inr (Nat.le_trans (by decide) hg))

theorem enqFree_of_atBs {g : Fld} (hg : atBs g) : enqFree g = true := enqFree_of_outRl (outRl_of_atBs hg)

theorem outHi_of_atBs {g : Fld} (hg : atBs g) : outHi g = true :=
  Bool.or_eq_true_iff.2 (.inr (decide_eq_true (Nat.le_trans (by decide) hg)))

theorem ne_of_atBsGroup {f g : Fld} (hg : atBsGroup g) (hf : f.key < 0xc0100 * 8) : f.key ≠ g.key :=
  Nat.ne_of_lt (Nat.lt_of_lt_of_le hf hg)

theorem noClock_atBsGroup (g : Nat) : atBsGroup (F.BS_GRSMP_NO_CLOCK g) := by
  show 0xc0100 * 8 ≤ (0xc0114 + g * 32) * 8 + 26
  omega

theorem noClock_ne {g j : Nat} (h : g ≠ j) : (F.BS_GRSMP_NO_CLOCK g).key ≠ (F.BS_GRSMP_NO_CLOCK j).key := by
  show (0xc0114 + g * 32) * 8 + 26 ≠ (0xc0114 + j * 32) * 8 + 26
  omega

theorem settling_atBsGroup (g : Nat) : atBsGroup (F.BS_GRSMP_SETTLING g) := by
  show 0xc0100 * 8 ≤ (0xc0114 + g * 32) * 8 + 27
  omega

theorem settling_ne {g j : Nat} (h : g ≠ j) : (F.BS_GRSMP_SETTLING g).key ≠ (F.BS_GRSMP_SETTLING j).key := by
  show (0xc0114 + g * 32) * 8 + 27 ≠ (0xc0114 + j * 32) * 8 + 27
  omega

/-- A flag of a group or channel is set beside the registers that the groups share. -/
theorem State.fld_setFlag_of_atBsGroup (s : State) {f g : Fld} (b : Bool) (hf : atBsGroup f) (hg : g.key < 0xc0100 * 8) :
    (s.setFlag f b).fld g = s.fld g := State.fld_setFlag_ne _ _ _ _ (ne_of_atBsGroup hf hg).symm

theorem State.fld_event_atBs (s : State) (f : Fld) (cls : Cls) (inst a0 a1 a2 : Nat) {g : Fld} (hg : atBs g) (ha : f.addr < 0x200000)
    (h : f.key ≠ g.key) : (s.event f cls inst a0 a1 a2).fld g = s.fld g :=
  State.fld_event_ne _ _ _ _ _ _ _ _ (outRl_of_atBs hg) ha h

theorem State.fld_completeOpt_atBs (s : State) (o : Option Origin) (status detail : Nat) (vals : List Nat) {g : Fld} (hg : atBs g) :
    (s.completeOpt o status detail vals).fld g = s.fld g :=
  State.completeOpt_keeps_fld _ _ _ _ _ (enqFree_of_atBs hg) (outHi_of_atBs hg)

theorem State.bs_event (s : State) (f : Fld) (cls : Cls) (inst a0 a1 a2 : Nat) : (s.event f cls inst a0 a1 a2).bs = s.bs :=
  (State.event_fr s f cls inst a0 a1 a2 (.refl s)).bs rfl

theorem State.bs_incS (s : State) (f : Fld) (n : Nat) : (s.incS f n).bs = s.bs := (State.incS_fr s f n (.refl s)).bs rfl

theorem State.bs_incWrap (s : State) (f : Fld) (n : Nat) (e : Bool) : (s.incWrap f n e).bs = s.bs :=
  (State.incWrap_fr s f n e (.refl s)).bs rfl

theorem State.bs_completeOpt (s : State) (o : Option Origin) (status detail : Nat) (vals : List Nat) :
    (s.completeOpt o status detail vals).bs = s.bs := (State.completeOpt_fr s o status detail vals (.refl s)).bs rfl

theorem State.bsGroup_congr {s t : State} (h : t.bs = s.bs) : t.bsGroup = s.bsGroup := by
  funext g
  exact congrArg (fun b : Bits1 => mget BsGroup.init b.group g) h

@[simp] theorem State.bsGroup_setBsGroup_same (s : State) (g : Nat) (x : BsGroup) : (s.setBsGroup g x).bsGroup g = x := mget_mset_same ..

theorem State.bsGroup_setBsGroup_ne (s : State) {g j : Nat} (x : BsGroup) (hj : j ≠ g) : (s.setBsGroup g x).bsGroup j = s.bsGroup j :=
  mget_mset_ne _ _ _ _ hj

theorem State.fld_setBsGroup (s : State) (g : Nat) (x : BsGroup) : (s.setBsGroup g x).fld = s.fld := State.fld_congr rfl

theorem State.nowNs_congr {s t : State} (h : t.cp = s.cp) : t.nowNs = s.nowNs := by
  rw [State.nowNs, State.nowNs, h]

/-! ### Loss and return of a clock (R313) -/

/-- The bit of a clock pair in CLK_LOST is set or cleared. -/
def State.setPairLost (s : State) (k : Nat) (b : Bool) : State :=
  s.setFld F.BS_STATUS_CLK_LOST (setBits (s.fld F.BS_STATUS_CLK_LOST) k 1 (b2n b))

theorem State.pairLost_setPairLost (s : State) (k : Nat) (b : Bool) {j : Nat} (hj : j < 8) :
    (s.setPairLost k b).pairLost j = if j = k then b else s.pairLost j := State.bit_setFld_setBits _ _ _ _ hj

theorem State.pairLost_congr {s t : State} (h : t.fld F.BS_STATUS_CLK_LOST = s.fld F.BS_STATUS_CLK_LOST) : t.pairLost = s.pairLost := by
  funext k
  rw [State.pairLost, State.pairLost, h]

/-- The clock of a pair is noted as lost, and zeros stand for the samples of its groups. -/
def State.pairSilenced (s : State) (k : Nat) : State :=
  ((s.setPairLost k true).setFlag (F.BS_GRSMP_NO_CLOCK (2 * k)) true).setFlag (F.BS_GRSMP_NO_CLOCK (2 * k + 1)) true

theorem exec_bsClockLost_eq {s : State} {k : Fin 8} (hlost : s.pairLost k = false)
    (hact : s.groupActive (2 * k.val) = true ∨ s.groupActive (2 * k.val + 1) = true) :
    exec (.bsClockLost k) s = .next (((s.pairSilenced k).incS F.BS_LOSS_CNT_LOSSES 1).event F.BS_EVENT_CLK_LOST .warn k k 0 0) :=
  if_pos ⟨hlost, hact⟩

theorem State.fld_pairSilenced_low (s : State) (k : Nat) {g : Fld} (hg : g.key < 0xc0100 * 8) :
    (s.pairSilenced k).fld g = (s.setPairLost k true).fld g :=
  (State.fld_setFlag_of_atBsGroup _ _ (noClock_atBsGroup _) hg).trans (State.fld_setFlag_of_atBsGroup _ _ (noClock_atBsGroup _) hg)

theorem State.noClock_pairSilenced (s : State) (k : Nat) :
    (s.pairSilenced k).fld (F.BS_GRSMP_NO_CLOCK (2 * k)) = 1 ∧ (s.pairSilenced k).fld (F.BS_GRSMP_NO_CLOCK (2 * k + 1)) = 1 :=
  ⟨(State.fld_setFlag_ne _ _ _ _ (noClock_ne (Nat.succ_ne_self _))).trans (State.fld_setFlag_same _ _ _ Nat.one_pos),
    State.fld_setFlag_same _ _ _ Nat.one_pos⟩

/-- The clock of a group is back: zeros no longer stand for its samples, unless its ratio is out of range, and it owes a reset. -/
def State.groupClockBack (s : State) (g : Nat) : State :=
  (s.setFlag (F.BS_GRSMP_NO_CLOCK g) (s.flag (F.BS_GRSMP_RATIO_ERR g))).localReset g

theorem exec_clkBack_eq {s : State} {k : Fin 8} (hlost : s.pairLost k = true) :
    exec (.clkBack k) s = .next ((((s.setPairLost k false).groupClockBack (2 * k.val)).groupClockBack (2 * k.val + 1)).event
      F.BS_EVENT_CLK_BACK .info k k 0 0) := if_pos hlost

theorem State.bsGroup_localReset (s : State) (g j : Nat) :
    (s.localReset g).bsGroup j = if j = g then { s.bsGroup j with localDue := true } else s.bsGroup j := by
  unfold State.localReset
  split
  · next h => rw [h, State.bsGroup_setBsGroup_same]
  · next h => exact State.bsGroup_setBsGroup_ne _ _ h

theorem State.bsGroup_groupClockBack (s : State) (g j : Nat) :
    (s.groupClockBack g).bsGroup j = if j = g then { s.bsGroup j with localDue := true } else s.bsGroup j := State.bsGroup_localReset ..

theorem State.pairLost_groupClockBack (s : State) (g : Nat) : (s.groupClockBack g).pairLost = s.pairLost :=
  State.pairLost_congr (State.fld_setFlag_ne _ _ _ _ (ne_of_atBsGroup (noClock_atBsGroup g) (by decide)).symm)

theorem exec_bsClockLost_results (s : State) (k : Fin 8) (hlost : s.pairLost k = false)
    (hact : s.groupActive (2 * k.val) = true ∨ s.groupActive (2 * k.val + 1) = true) :
    ∃ t, exec (.bsClockLost k) s = .next t ∧ t.bs = s.bs ∧ t.fld F.BS_EVENT_CLK_LOST = 1
      ∧ t.fld F.BS_LOSS_CNT_LOSSES = satAdd F.BS_LOSS_CNT_LOSSES.w (s.fld F.BS_LOSS_CNT_LOSSES) 1
      ∧ t.fld (F.BS_GRSMP_NO_CLOCK (2 * k.val)) = 1 ∧ t.fld (F.BS_GRSMP_NO_CLOCK (2 * k.val + 1)) = 1
      ∧ ∀ j, j < 8 → t.pairLost j = (decide (j = k.val) || s.pairLost j) := by
  obtain ⟨hfirst, hsecond⟩ := s.noClock_pairSilenced k
  have hkeep : ∀ {g : Fld}, atBs g → F.BS_EVENT_CLK_LOST.key ≠ g.key → F.BS_LOSS_CNT_LOSSES.key ≠ g.key →
      (((s.pairSilenced k).incS F.BS_LOSS_CNT_LOSSES 1).event F.BS_EVENT_CLK_LOST .warn k k 0 0).fld g = (s.pairSilenced k).fld g :=
    fun hg hevent hcount => (State.fld_event_atBs _ _ _ _ _ _ _ hg (by decide) hevent).trans
      (State.fld_incS_ne _ _ _ _ (outRl_of_atBs hg) hcount)
  have hgroup : ∀ {g : Fld}, atBsGroup g → _ := fun hg =>
    hkeep (atBs_of_atBsGroup hg) (ne_of_atBsGroup hg (by decide)) (ne_of_atBsGroup hg (by decide))
  refine ⟨_, exec_bsClockLost_eq hlost hact, (State.bs_event ..).trans (State.bs_incS ..), State.fld_event_same _ _ _ _ _ _ _ (by decide)
    (by decide) (by decide), ?count, (hgroup (noClock_atBsGroup _)).trans hfirst, (hgroup (noClock_atBsGroup _)).trans hsecond, fun j hj => ?pair⟩
  case count =>
    rw [State.fld_event_atBs _ _ _ _ _ _ _ (by decide) (by decide) (by decide), State.fld_incS_same _ _ _ (by decide),
      State.fld_pairSilenced_low _ _ (by decide), State.setPairLost, State.fld_setFld_ne _ _ _ _ (by decide)]
  case pair =>
    rw [State.pairLost_congr ((hkeep (by decide) (by decide) (by decide)).trans (s.fld_pairSilenced_low k (by decide))),
      State.pairLost_setPairLost _ _ _ hj]
    exact ite_true_eq_or _ _

theorem exec_clkBack_results (s : State) (k : Fin 8) (hlost : s.pairLost k = true) :
    ∃ t, exec (.clkBack k) s = .next t ∧ t.fld F.BS_EVENT_CLK_BACK = 1
      ∧ (∀ j, j < 8 → t.pairLost j = (decide (j ≠ k.val) && s.pairLost j))
      ∧ ∀ g, t.bsGroup g = if g / 2 = k.val then { s.bsGroup g with localDue := true } else s.bsGroup g := by
  refine ⟨_, exec_clkBack_eq hlost, State.fld_event_same _ _ _ _ _ _ _ (by decide) (by decide) (by decide), fun j hj => ?pair, fun g => ?group⟩
  case pair =>
    rw [State.pairLost_congr (State.fld_event_atBs _ _ _ _ _ _ _ (by decide) (by decide) (by decide)), State.pairLost_groupClockBack,
      State.pairLost_groupClockBack, State.pairLost_setPairLost _ _ _ hj]
    exact ite_false_eq_and _ _
  case group =>
    rw [State.bsGroup_congr (State.bs_event ..), State.bsGroup_groupClockBack, State.bsGroup_groupClockBack]
    have hs : (s.setPairLost k false).bsGroup = s.bsGroup := State.bsGroup_congr rfl
    rw [hs]
    rcases (by omega : g / 2 ≠ k.val ∧ g ≠ 2 * k.val ∧ g ≠ 2 * k.val + 1 ∨ g = 2 * k.val ∨ g = 2 * k.val + 1) with ⟨h, h0, h1⟩ | rfl | rfl
    · rw [if_neg h, if_neg h0, if_neg h1]
    · simp [(by omega : 2 * k.val / 2 = k.val)]
    · simp [(by omega : (2 * k.val + 1) / 2 = k.val)]

end Sys2Proof.Machine
end

section
/-! ## Fades and resets of the groups (R324-R326, R328) -/
namespace Sys2Proof.Machine

/-! ### What an operation on groups leaves alone -/

/-- The fields by which the ends of fades and the resets of groups show. -/
def resetFlds (l : List Nat) : List Fld := F.BS_EVENT_SWAP_DONE :: F.BS_STATUS_SETTLING :: l.map F.BS_GRSMP_SETTLING

/-- What fades and resets of the groups of `l` do to a state leaves Compass, the requests of resets, the other groups, and the registers
of BS_ but those that show it. -/
structure State.GroupsOf (l : List Nat) (s t : State) : Prop where
  cp : t.cp = s.cp
  sync : t.bs.sync = s.bs.sync
  others : ∀ j, j ∉ l → t.bsGroup j = s.bsGroup j
  flds : ∀ f, atBs f → (∀ e ∈ resetFlds l, e.key ≠ f.key) → t.fld f = s.fld f

namespace State.GroupsOf
variable {l : List Nat} {s t u : State} {g : Nat}

theorem refl (l : List Nat) (s : State) : State.GroupsOf l s s := ⟨rfl, rfl, fun _ _ => rfl, fun _ _ _ => rfl⟩

theorem trans (a : State.GroupsOf l s t) (b : State.GroupsOf l t u) : State.GroupsOf l s u :=
  ⟨b.cp.trans a.cp, b.sync.trans a.sync, fun j hj => (b.others j hj).trans (a.others j hj),
    fun f hf hne => (b.flds f hf hne).trans (a.flds f hf hne)⟩

theorem setBsGroup (hg : g ∈ l) (s : State) (x : BsGroup) : State.GroupsOf l s (s.setBsGroup g x) :=
  ⟨rfl, rfl, fun _ hj => State.bsGroup_setBsGroup_ne _ _ fun h => hj (h ▸ hg), fun _ _ _ => rfl⟩

theorem setFld {f : Fld} (hf : f ∈ resetFlds l) (s : State) (v : Nat) : State.GroupsOf l s (s.setFld f v) :=
  ⟨rfl, rfl, fun _ _ => rfl, fun _ _ hne => State.fld_setFld_ne _ _ _ _ (hne f hf)⟩

theorem swapDone (s : State) (a0 a1 : Nat) : State.GroupsOf l s (s.event F.BS_EVENT_SWAP_DONE .info g a0 a1 0) :=
  ⟨(State.event_fr _ _ _ _ _ _ _ (.refl s)).cp rfl, congrArg Bits1.sync (State.bs_event ..),
    fun _ _ => congrFun (State.bsGroup_congr (State.bs_event ..)) _,
    fun _ hf hne => State.fld_event_atBs _ _ _ _ _ _ _ hf (by decide) (hne _ List.mem_cons_self)⟩

theorem completeOpt (s : State) (o : Option Origin) (status detail : Nat) (vals : List Nat) :
    State.GroupsOf l s (s.completeOpt o status detail vals) :=
  ⟨(State.completeOpt_fr s o status detail vals (.refl s)).cp rfl, congrArg Bits1.sync (State.bs_completeOpt ..),
    fun _ _ => congrFun (State.bsGroup_congr (State.bs_completeOpt ..)) _, fun _ hf _ => State.fld_completeOpt_atBs _ _ _ _ _ hf⟩

theorem low (a : State.GroupsOf l s t) {f : Fld} (hf : atBs f) (hlow : f.key < 0xc0100 * 8) (hevent : F.BS_EVENT_SWAP_DONE.key ≠ f.key)
    (hstatus : F.BS_STATUS_SETTLING.key ≠ f.key) : t.fld f = s.fld f := by
  refine a.flds f hf (List.forall_mem_cons.2 ⟨hevent, List.forall_mem_cons.2 ⟨hstatus, fun e he => ?_⟩⟩)
  obtain ⟨j, -, rfl⟩ := List.mem_map.1 he
  exact (ne_of_atBsGroup (settling_atBsGroup j) hlow).symm

theorem pairLost (a : State.GroupsOf l s t) : t.pairLost = s.pairLost :=
  State.pairLost_congr (a.low (by decide) (by decide) (by decide) (by decide))

/-- The settling flag of a group that is not named stays. -/
theorem settling (a : State.GroupsOf l s t) (hg : g ∉ l) : t.fld (F.BS_GRSMP_SETTLING g) = s.fld (F.BS_GRSMP_SETTLING g) := by
  have hat := settling_atBsGroup g
  refine a.flds _ (atBs_of_atBsGroup hat) (List.forall_mem_cons.2 ⟨ne_of_atBsGroup hat (by decide),
    List.forall_mem_cons.2 ⟨ne_of_atBsGroup hat (by decide), fun e he => ?_⟩⟩)
  obtain ⟨j, hj, rfl⟩ := List.mem_map.1 he
  exact settling_ne fun h => hg (h ▸ hj)

/-- The settings of a chain stay. -/
theorem gchain (a : State.GroupsOf l s t) {lo w r : Nat} (hlo : lo < 32) :
    t.fld ⟨R.BS_GCHAIN g, lo, w, r⟩ = s.fld ⟨R.BS_GCHAIN g, lo, w, r⟩ := by
  have hat : atBsGroup ⟨R.BS_GCHAIN g, lo, w, r⟩ := by
    show 0xc0100 * 8 ≤ (0xc0104 + g * 32) * 8 + lo
    omega
  refine a.flds _ (atBs_of_atBsGroup hat) (List.forall_mem_cons.2 ⟨ne_of_atBsGroup hat (by decide),
    List.forall_mem_cons.2 ⟨ne_of_atBsGroup hat (by decide), fun e he => ?_⟩⟩)
  obtain ⟨j, -, rfl⟩ := List.mem_map.1 he
  show (0xc0114 + j * 32) * 8 + 27 ≠ (0xc0104 + g * 32) * 8 + lo
  omega

theorem pairFreq (a : State.GroupsOf l s t) {k : Nat} (hk : k < 8) : t.pairFreq k = s.pairFreq k := by
  refine a.low ?_ ?_ ?_ ?_
  · show 0xc0000 * 8 ≤ 0xc000c * 8 + (4 * k + 1)
    omega
  · show 0xc000c * 8 + (4 * k + 1) < 0xc0100 * 8
    omega
  · show 0xc0008 * 8 + 5 ≠ 0xc000c * 8 + (4 * k + 1)
    omega
  · show 0xc0004 * 8 + 8 ≠ 0xc000c * 8 + (4 * k + 1)
    omega

/-- The next FIR output of a group stays while the instant of its last reset does. -/
theorem nextFir (a : State.GroupsOf l s t) (hg : g < 16) (hreset : (t.bsGroup g).resetAt = (s.bsGroup g).resetAt) :
    t.nextFir g = s.nextFir g := by
  unfold State.nextFir State.groupCfg
  dsimp only
  rw [State.nowNs_congr a.cp, hreset, a.pairFreq (by omega)]
  unfold F.BS_GCHAIN_D F.BS_GCHAIN_D_FIR
  rw [a.gchain (by decide), a.gchain (by decide)]

end State.GroupsOf

/-! ### Swap requests and the end of a fade (R324) -/

theorem exec_swap_eq (s : State) (g : Fin 16) (b : Bool) : exec (.swap g b) s = .next (s.swapRequest g b none) := rfl

theorem State.swapRequest_idle {s : State} {g : Nat} (b : Bool) (o : Option Origin) (hfade : (s.bsGroup g).fade = none) :
    s.swapRequest g b o = if (s.bsGroup g).active = b then s.completeOpt o 0 0 [] else s.startFade g b o := by
  unfold State.swapRequest
  dsimp only
  rw [hfade]

/-- A request that meets a running fade waits behind it, in the place of one that waits already. -/
theorem State.bsGroup_swapRequest_busy {s : State} {g : Nat} (b : Bool) (o : Option Origin) (hfade : (s.bsGroup g).fade ≠ none) :
    (s.swapRequest g b o).bsGroup g = { s.bsGroup g with queued := some ⟨b, 0, o⟩ } := by
  unfold State.swapRequest
  dsimp only
  split
  · next h => exact absurd h hfade
  · exact State.bsGroup_setBsGroup_same ..
  · rw [State.bsGroup_congr (State.bs_completeOpt ..), State.bsGroup_setBsGroup_same]

/-- The fade of a group has ended, and its command is done; what waits behind it has yet to be handled. -/
def State.fadeEnded (s : State) (g : Nat) (f : BsFade) : State :=
  ((s.setBsGroup g { s.bsGroup g with active := f.target, fade := none, queued := none, lastFade := some f }).event
    F.BS_EVENT_SWAP_DONE .info g g (b2n f.target) 0).completeOpt f.origin 0 0 []

theorem State.endFade_of_none {s : State} {g : Nat} (hfade : (s.bsGroup g).fade = none) : s.endFade g = s := by
  unfold State.endFade
  dsimp only
  rw [hfade]

/-- All that the end of a fade can come to: nothing waits, or what waits is handled. -/
theorem State.endFade_of_some {s : State} {g : Nat} {f : BsFade} (hfade : (s.bsGroup g).fade = some f) :
    (s.bsGroup g).queued = none ∧ s.endFade g = s.fadeEnded g f
      ∨ ∃ q, (s.bsGroup g).queued = some q ∧ s.endFade g
        = if q.target = f.target then (s.fadeEnded g f).completeOpt q.origin 0 0 [] else (s.fadeEnded g f).startFade g q.target q.origin := by
  unfold State.endFade
  dsimp only
  rw [hfade]
  dsimp only
  cases hq : (s.bsGroup g).queued with
  | none => exact .inl ⟨rfl, rfl⟩
  | some q => exact .inr ⟨q, rfl, rfl⟩

theorem State.bs_fadeEnded (s : State) (g : Nat) (f : BsFade) : (s.fadeEnded g f).bs
    = (s.setBsGroup g { s.bsGroup g with active := f.target, fade := none, queued := none, lastFade := some f }).bs :=
  (State.bs_completeOpt ..).trans (State.bs_event ..)

theorem State.bsGroup_fadeEnded (s : State) (g : Nat) (f : BsFade) : (s.fadeEnded g f).bsGroup g
    = { s.bsGroup g with active := f.target, fade := none, queued := none, lastFade := some f } := by
  rw [State.bsGroup_congr (s.bs_fadeEnded g f), State.bsGroup_setBsGroup_same]

theorem State.swapDone_fadeEnded (s : State) (g : Nat) (f : BsFade) : (s.fadeEnded g f).fld F.BS_EVENT_SWAP_DONE = 1 :=
  (State.fld_completeOpt_atBs _ _ _ _ _ (by decide)).trans (State.fld_event_same _ _ _ _ _ _ _ (by decide) (by decide) (by decide))

theorem State.fadeEnded_groupsOf {l : List Nat} {g : Nat} (hg : g ∈ l) (s : State) (f : BsFade) : State.GroupsOf l s (s.fadeEnded g f) :=
  (State.GroupsOf.setBsGroup hg s _).trans ((State.GroupsOf.swapDone ..).trans (State.GroupsOf.completeOpt ..))

theorem State.endFade_groupsOf {l : List Nat} {g : Nat} (hg : g ∈ l) (s : State) : State.GroupsOf l s (s.endFade g) := by
  cases hfade : (s.bsGroup g).fade with
  | none =>
    rw [State.endFade_of_none hfade]
    exact .refl l s
  | some f =>
    have hended := State.fadeEnded_groupsOf hg s f
    rcases State.endFade_of_some hfade with ⟨-, he⟩ | ⟨q, -, he⟩
    · exact he ▸ hended
    · rw [he]
      split
      · exact hended.trans (.completeOpt ..)
      · exact hended.trans (.setBsGroup hg ..)

/-- The end of a fade leaves what the chains hold. -/
theorem State.chain_endFade (s : State) (g : Nat) : (s.endFade g).bs.chain = s.bs.chain := by
  cases hfade : (s.bsGroup g).fade with
  | none => rw [State.endFade_of_none hfade]
  | some f =>
    have hended : (s.fadeEnded g f).bs.chain = s.bs.chain := by
      rw [s.bs_fadeEnded]
      rfl
    rcases State.endFade_of_some hfade with ⟨-, he⟩ | ⟨q, -, he⟩
    · rw [he, hended]
    · rw [he]
      split
      · rw [State.bs_completeOpt, hended]
      · exact hended

theorem exec_swapDone_eq {s : State} {g : Fin 16} {f : BsFade} (hfade : (s.bsGroup g).fade = some f)
    (hlen : f.first + s.fld (F.BS_GFIR_FADE_LEN g) + 1 ≤ s.nextFir g) : exec (.swapDone g) s = .next (s.endFade g) := by
  show execSwapDone g s = _
  unfold execSwapDone
  rw [hfade]
  exact congrArg Host.Outcome.next (if_pos hlen)

theorem exec_swap_results (s : State) (g : Fin 16) (b : Bool) : ∃ t, exec (.swap g b) s = .next t
    ∧ ((s.bsGroup g).fade = none → (s.bsGroup g).active = b → t.bs = s.bs)
    ∧ ((s.bsGroup g).fade = none → (s.bsGroup g).active ≠ b → t.bsGroup g = { s.bsGroup g with fade := some ⟨b, s.nextFir g, none⟩ })
    ∧ ((s.bsGroup g).fade ≠ none → t.bsGroup g = { s.bsGroup g with queued := some ⟨b, 0, none⟩ }) := by
  refine ⟨_, exec_swap_eq s g b, fun hfade hact => ?done, fun hfade hact => ?starts, State.bsGroup_swapRequest_busy b none⟩
  case done => rw [State.swapRequest_idle b none hfade, if_pos hact, State.bs_completeOpt]
  case starts =>
    rw [State.swapRequest_idle b none hfade, if_neg hact]
    exact State.bsGroup_setBsGroup_same ..

theorem exec_swapDone_results (s : State) (g : Fin 16) (f : BsFade) (hfade : (s.bsGroup g).fade = some f)
    (hlen : f.first + s.fld (F.BS_GFIR_FADE_LEN g) + 1 ≤ s.nextFir g) :
    ∃ t, exec (.swapDone g) s = .next t ∧ t.fld F.BS_EVENT_SWAP_DONE = 1
      ∧ (t.bsGroup g).active = f.target ∧ (t.bsGroup g).queued = none
      ∧ ((s.bsGroup g).queued = none → (t.bsGroup g).fade = none)
      ∧ ∀ q, (s.bsGroup g).queued = some q → q.target ≠ f.target → (t.bsGroup g).fade = some ⟨q.target, s.nextFir g, q.origin⟩ := by
  have hdone := s.swapDone_fadeEnded g f
  have hgroup := s.bsGroup_fadeEnded g f
  refine ⟨_, exec_swapDone_eq hfade hlen, ?_⟩
  rcases State.endFade_of_some hfade with ⟨hq, he⟩ | ⟨q, hq, he⟩
  · rw [he, hgroup, hq]
    exact ⟨hdone, rfl, rfl, fun _ => rfl, fun _ h => absurd h nofun⟩
  · rw [he, hq]
    by_cases htarget : q.target = f.target
    · rw [if_pos htarget, State.bsGroup_congr (State.bs_completeOpt ..), hgroup]
      exact ⟨(State.fld_completeOpt_atBs _ _ _ _ _ (by decide)).trans hdone, rfl, rfl, fun h => absurd h nofun,
        fun p hp hne => absurd (Option.some.inj hp ▸ htarget) hne⟩
    · have hnext : (s.fadeEnded g f).nextFir g = s.nextFir g :=
        (State.fadeEnded_groupsOf (List.mem_singleton_self _) s f).nextFir g.isLt (by rw [hgroup])
      rw [if_neg htarget, State.startFade, State.bsGroup_setBsGroup_same, hgroup, hnext, State.fld_setBsGroup]
      exact ⟨hdone, rfl, rfl, fun h => absurd h nofun, fun p hp _ => Option.some.inj hp ▸ rfl⟩

/-! ### Resets of one group (R326, R328) -/

theorem State.localReset_groupsOf {l : List Nat} {g : Nat} (hg : g ∈ l) (s : State) : State.GroupsOf l s (s.localReset g) :=
  .setBsGroup hg ..

/-- The chains of a group and its words to send are cleared. -/
def State.chainsCleared (s : State) (g : Nat) : State :=
  { s with bs := { s.bs with chain := s.bs.chain.filter fun e => e.1 / 16 ≠ g, tx := s.bs.tx.filter fun e => e.1 / 16 ≠ g } }

theorem State.chainsCleared_groupsOf (l : List Nat) (s : State) (g : Nat) : State.GroupsOf l s (s.chainsCleared g) :=
  ⟨rfl, rfl, fun _ _ => rfl, fun _ _ _ => rfl⟩

/-- The group starts anew at this instant, and its settling outputs begin. -/
def State.groupRestarted (s : State) (g : Nat) : State :=
  let t := s.setBsGroup g { s.bsGroup g with
    resetAt := s.nowNs, localDue := false, lastFade := none, fade := (s.bsGroup g).fade.map fun f => { f with first := 0 } }
  (t.setFld F.BS_STATUS_SETTLING (setBits (t.fld F.BS_STATUS_SETTLING) g 1 1)).setFlag (F.BS_GRSMP_SETTLING g) true

theorem State.groupReset_eq (s : State) (g : Nat) : s.groupReset g = ((s.chainsCleared g).endFade g).groupRestarted g := rfl

theorem State.groupRestarted_groupsOf {l : List Nat} {g : Nat} (hg : g ∈ l) (s : State) : State.GroupsOf l s (s.groupRestarted g) :=
  (State.GroupsOf.setBsGroup hg s _).trans ((State.GroupsOf.setFld (List.mem_cons_of_mem _ List.mem_cons_self) _ _).trans
    (.setFld (List.mem_cons_of_mem _ (List.mem_cons_of_mem _ (List.mem_map_of_mem hg))) _ _))

theorem State.groupReset_groupsOf {l : List Nat} {g : Nat} (hg : g ∈ l) (s : State) : State.GroupsOf l s (s.groupReset g) :=
  (State.chainsCleared_groupsOf l s g).trans ((State.endFade_groupsOf hg _).trans (State.groupRestarted_groupsOf hg _))

/-- A group that has taken a reset now: it owes none, and its outputs settle. -/
def State.JustReset (s : State) (g now : Nat) : Prop :=
  (s.bsGroup g).resetAt = now ∧ (s.bsGroup g).localDue = false ∧ s.fld (F.BS_GRSMP_SETTLING g) = 1

theorem State.groupReset_justReset (s : State) (g : Nat) : (s.groupReset g).JustReset g s.nowNs := by
  have hcp : ((s.chainsCleared g).endFade g).cp = s.cp := (State.endFade_groupsOf (List.mem_singleton_self g) _).cp
  have hgroup : ∀ u : State, (u.groupRestarted g).bsGroup g = { u.bsGroup g with
      resetAt := u.nowNs, localDue := false, lastFade := none, fade := (u.bsGroup g).fade.map fun f => { f with first := 0 } } :=
    fun u => (u.bsGroup_setBsGroup_same g _ :)
  rw [State.groupReset_eq]
  refine ⟨?_, ?_, State.fld_setFlag_same _ _ _ Nat.one_pos⟩
  · rw [hgroup, State.nowNs_congr hcp]
  · rw [hgroup]

theorem State.JustReset.of_groupsOf {l : List Nat} {g now : Nat} {s t : State} (h : s.JustReset g now) (a : State.GroupsOf l s t)
    (hg : g ∉ l) : t.JustReset g now := by
  unfold State.JustReset
  rw [a.others g hg, a.settling hg]
  exact h

theorem State.chain_groupReset (s : State) (g : Nat) {b : Nat} (hb : b / 16 = g) : mfind (s.groupReset g).bs.chain b = none := by
  have hchain : (s.groupReset g).bs.chain = s.bs.chain.filter fun e => e.1 / 16 ≠ g := (s.chainsCleared g).chain_endFade g
  rw [hchain]
  refine mfind_eq_none_of_forall_ne fun e he heq => ?_
  exact of_decide_eq_true (List.mem_filter.1 he).2 (heq ▸ hb)

theorem exec_groupLocalReset_eq {s : State} {g : Fin 16} (hdue : (s.bsGroup g).localDue = true) (hact : s.groupActive g = true)
    (hlost : s.pairLost (g.val / 2) = false) : exec (.groupLocalReset g) s = .next (s.groupReset g) :=
  congrArg Host.Outcome.next (if_pos ⟨hdue, hact, hlost⟩)

theorem exec_groupLocalReset_results (s : State) (g : Fin 16) (hdue : (s.bsGroup g).localDue = true) (hact : s.groupActive g = true)
    (hlost : s.pairLost (g.val / 2) = false) :
    ∃ t, exec (.groupLocalReset g) s = .next t ∧ (t.bsGroup g).resetAt = s.nowNs ∧ (t.bsGroup g).localDue = false
      ∧ t.fld (F.BS_GRSMP_SETTLING g) = 1 ∧ (∀ b, b / 16 = g.val → mfind t.bs.chain b = none) ∧ ∀ j, j ≠ g.val → t.bsGroup j = s.bsGroup j := by
  obtain ⟨hat, hpaid, hsettling⟩ := s.groupReset_justReset g
  exact ⟨_, exec_groupLocalReset_eq hdue hact hlost, hat, hpaid, hsettling, fun _ hb => s.chain_groupReset g hb,
    fun j hj => (State.groupReset_groupsOf (List.mem_singleton_self g.val) s).others j fun h => hj (List.mem_singleton.1 h)⟩

/-! ### Synchronising resets (R325, R326) -/

/-- A group at the edge of a synchronising reset: without a clock it owes the reset. -/
def State.syncGroup (s : State) (g : Nat) : State := if s.pairLost (g / 2) then s.localReset g else s.groupReset g

theorem State.syncGroup_groupsOf {l : List Nat} {g : Nat} (hg : g ∈ l) (s : State) : State.GroupsOf l s (s.syncGroup g) := by
  unfold State.syncGroup
  split
  · exact State.localReset_groupsOf hg s
  · exact State.groupReset_groupsOf hg s

theorem State.foldl_syncGroup_groupsOf (l : List Nat) (s : State) : State.GroupsOf l s (l.foldl State.syncGroup s) :=
  List.foldlRecOn l _ (motive := State.GroupsOf l s) (.refl l s) fun u hu _ hg => hu.trans (State.syncGroup_groupsOf hg u)

/-- Each group has its turn once: what stands before its turn and after it leaves it alone. -/
theorem State.foldl_syncGroup_turn {l : List Nat} (hnodup : l.Nodup) {g : Nat} (hg : g ∈ l) (s : State) :
    ∃ (a b : List Nat) (u : State), g ∉ a ∧ g ∉ b ∧ State.GroupsOf a s u ∧ State.GroupsOf b (u.syncGroup g) (l.foldl State.syncGroup s) := by
  obtain ⟨a, b, rfl⟩ := List.append_of_mem hg
  obtain ⟨-, hb, hdisj⟩ := List.nodup_append.1 hnodup
  refine ⟨a, b, a.foldl State.syncGroup s, fun h => hdisj g h g List.mem_cons_self rfl, (List.nodup_cons.1 hb).1,
    State.foldl_syncGroup_groupsOf a s, ?_⟩
  rw [List.foldl_append, List.foldl_cons]
  exact State.foldl_syncGroup_groupsOf b _

theorem State.foldl_syncGroup_clocked {l : List Nat} (hnodup : l.Nodup) {g : Nat} (hg : g ∈ l) {s : State}
    (hlost : s.pairLost (g / 2) = false) : (l.foldl State.syncGroup s).JustReset g s.nowNs := by
  obtain ⟨a, b, u, -, hb, hbefore, hafter⟩ := State.foldl_syncGroup_turn hnodup hg s
  rw [State.syncGroup, hbefore.pairLost, hlost, if_neg Bool.false_ne_true] at hafter
  exact (State.nowNs_congr hbefore.cp ▸ u.groupReset_justReset g).of_groupsOf hafter hb

theorem State.foldl_syncGroup_unclocked {l : List Nat} (hnodup : l.Nodup) {g : Nat} (hg : g ∈ l) {s : State}
    (hlost : s.pairLost (g / 2) = true) : (l.foldl State.syncGroup s).bsGroup g = { s.bsGroup g with localDue := true } := by
  obtain ⟨a, b, u, ha, hb, hbefore, hafter⟩ := State.foldl_syncGroup_turn hnodup hg s
  rw [State.syncGroup, hbefore.pairLost, hlost, if_pos rfl] at hafter
  rw [hafter.others g hb, State.bsGroup_localReset, if_pos rfl, hbefore.others g ha]

/-- The requests that are due are taken out. -/
def State.syncTaken (s : State) : State := { s with bs := { s.bs with sync := s.bs.sync.filter fun e => s.nowNs < e.1 } }

/-- The groups that take part in a synchronising reset. -/
def State.syncing (s : State) : List Nat := (List.range 16).filter fun g => s.groupActive g && s.flag (F.BS_GCFG_SYNC_EN g)

theorem State.mem_syncing {s : State} {g : Nat} : g ∈ s.syncing ↔ g < 16 ∧ s.groupActive g = true ∧ s.flag (F.BS_GCFG_SYNC_EN g) = true := by
  rw [State.syncing, List.mem_filter, List.mem_range, Bool.and_eq_true]

/-- A synchronising reset is noted with its instant and source, counted and reported. -/
def State.syncNoted (s : State) (src : Nat × Nat) : State :=
  ((((s.setFld F.BS_SYNC_NS_LO_NS src.1).setFld F.BS_SYNC_NS_HI_NS (src.1 / 2 ^ 32)).setFld F.BS_SYNC_STAT_LAST_SRC src.2).incW
    F.BS_SYNC_STAT_COUNT 1).event F.BS_EVENT_SYNC .info 0 src.2 (src.1 % 2 ^ 32) (src.1 / 2 ^ 32)

theorem exec_syncReset_eq {s : State} {d : Nat × Nat} (hd : d ∈ s.bs.sync) (hdue : d.1 ≤ s.nowNs) :
    ∃ src, exec .syncReset s = .next ((s.syncing.foldl State.syncGroup s.syncTaken).syncNoted src) :=
  ⟨_, if_neg (List.ne_nil_of_mem (List.mem_filter.2 ⟨hd, decide_eq_true hdue⟩))⟩

theorem State.bs_syncNoted (s : State) (src : Nat × Nat) : (s.syncNoted src).bs = s.bs := State.bs_event ..

theorem State.count_syncNoted (s : State) (src : Nat × Nat) : (s.syncNoted src).fld F.BS_SYNC_STAT_COUNT
    = (s.fld F.BS_SYNC_STAT_COUNT + 1) % 2 ^ F.BS_SYNC_STAT_COUNT.w := by
  rw [State.syncNoted, State.fld_event_atBs _ _ _ _ _ _ _ (by decide) (by decide) (by decide), State.incW, State.fld_setFld_same,
    State.fld_setFld_ne _ _ _ _ (by decide), State.fld_setFld_ne _ _ _ _ (by decide), State.fld_setFld_ne _ _ _ _ (by decide)]

theorem State.settling_syncNoted (s : State) (src : Nat × Nat) (g : Nat) :
    (s.syncNoted src).fld (F.BS_GRSMP_SETTLING g) = s.fld (F.BS_GRSMP_SETTLING g) := by
  have hat := settling_atBsGroup g
  rw [State.syncNoted, State.fld_event_atBs _ _ _ _ _ _ _ (atBs_of_atBsGroup hat) (by decide) (ne_of_atBsGroup hat (by decide)), State.incW,
    State.fld_setFld_ne _ _ _ _ (ne_of_atBsGroup hat (by decide)), State.fld_setFld_ne _ _ _ _ (ne_of_atBsGroup hat (by decide)),
    State.fld_setFld_ne _ _ _ _ (ne_of_atBsGroup hat (by decide)), State.fld_setFld_ne _ _ _ _ (ne_of_atBsGroup hat (by decide))]

theorem exec_syncReset_results (s : State) (d : Nat × Nat) (hd : d ∈ s.bs.sync) (hdue : d.1 ≤ s.nowNs) :
    ∃ t, exec .syncReset s = .next t ∧ t.fld F.BS_EVENT_SYNC = 1
      ∧ t.bs.sync = s.bs.sync.filter (fun e => s.nowNs < e.1)
      ∧ t.fld F.BS_SYNC_STAT_COUNT = (s.fld F.BS_SYNC_STAT_COUNT + 1) % 2 ^ F.BS_SYNC_STAT_COUNT.w
      ∧ (∀ g, g < 16 → s.groupActive g = true → s.flag (F.BS_GCFG_SYNC_EN g) = true → s.pairLost (g / 2) = false →
          (t.bsGroup g).resetAt = s.nowNs ∧ (t.bsGroup g).localDue = false ∧ t.fld (F.BS_GRSMP_SETTLING g) = 1)
      ∧ (∀ g, g < 16 → s.groupActive g = true → s.flag (F.BS_GCFG_SYNC_EN g) = true → s.pairLost (g / 2) = true →
          t.bsGroup g = { s.bsGroup g with localDue := true })
      ∧ ∀ g, s.groupActive g = false ∨ s.flag (F.BS_GCFG_SYNC_EN g) = false → t.bsGroup g = s.bsGroup g := by
  obtain ⟨src, hexec⟩ := exec_syncReset_eq hd hdue
  have hall := State.foldl_syncGroup_groupsOf s.syncing s.syncTaken
  have hnodup : s.syncing.Nodup := List.nodup_range.filter _
  have hbs := State.bs_syncNoted (s.syncing.foldl State.syncGroup s.syncTaken) src
  have hgroup := State.bsGroup_congr hbs
  refine ⟨_, hexec, State.fld_event_same _ _ _ _ _ _ _ (by decide) (by decide) (by decide), (congrArg Bits1.sync hbs).trans hall.sync, ?count,
    fun g hg hact hen hlost => ?reset, fun g hg hact hen hlost => ?owed, fun g hout => ?out⟩
  case count => rw [State.count_syncNoted, hall.low (by decide) (by decide) (by decide) (by decide)]; rfl
  case reset =>
    rw [hgroup, State.settling_syncNoted]
    exact State.foldl_syncGroup_clocked (s := s.syncTaken) hnodup (State.mem_syncing.2 ⟨hg, hact, hen⟩) hlost
  case owed =>
    rw [hgroup]
    exact State.foldl_syncGroup_unclocked (s := s.syncTaken) hnodup (State.mem_syncing.2 ⟨hg, hact, hen⟩) hlost
  case out =>
    rw [hgroup]
    refine hall.others g fun h => ?_
    obtain ⟨-, hact, hen⟩ := State.mem_syncing.1 h
    rcases hout with h | h
    · exact Bool.false_ne_true (h.symm.trans hact)
    · exact Bool.false_ne_true (h.symm.trans hen)

end Sys2Proof.Machine
end

section
/-! ## Settling, mappings and coefficients (R322, R323, R328, R336) -/
namespace Sys2Proof.Machine

/-! ### The end of settling (R328) -/

theorem exec_bsSettleEnd_eq {s : State} {g : Fin 16} (hsettling : s.flag (F.BS_GRSMP_SETTLING g) = true)
    (hend : (s.bsGroup g).resetAt + (s.groupCfg g).settle * 1000000 / (s.groupCfg g).fs ≤ s.nowNs) :
    exec (.bsSettleEnd g) s = .next ((s.setFld F.BS_STATUS_SETTLING (setBits (s.fld F.BS_STATUS_SETTLING) g 1 (b2n false))).setFlag
      (F.BS_GRSMP_SETTLING g) false) := if_pos ⟨hsettling, hend⟩

theorem exec_bsSettleEnd_results (s : State) (g : Fin 16) (hsettling : s.flag (F.BS_GRSMP_SETTLING g) = true)
    (hend : (s.bsGroup g).resetAt + (s.groupCfg g).settle * 1000000 / (s.groupCfg g).fs ≤ s.nowNs) :
    ∃ t, exec (.bsSettleEnd g) s = .next t ∧ t.fld (F.BS_GRSMP_SETTLING g) = 0
      ∧ (∀ j, j < 16 → bit (t.fld F.BS_STATUS_SETTLING) j = (decide (j ≠ g.val) && bit (s.fld F.BS_STATUS_SETTLING) j))
      ∧ FldsBut [F.BS_GRSMP_SETTLING g, F.BS_STATUS_SETTLING] s t := by
  refine ⟨_, exec_bsSettleEnd_eq hsettling hend, State.fld_setFlag_same _ _ _ Nat.one_pos, fun j hj => ?_, fun f hf => ?_⟩
  · rw [State.fld_setFlag_of_atBsGroup _ _ (settling_atBsGroup g) (by decide), State.bit_setFld_setBits _ _ _ _ hj]
    exact ite_false_eq_and _ _
  · rw [State.fld_setFlag_ne _ _ _ _ (hf _ List.mem_cons_self), State.fld_setFld_ne _ _ _ _ (hf _ (List.mem_cons_of_mem _ List.mem_cons_self))]

/-! ### Mappings (R322) -/

theorem exec_bsChWrite_eq (s : State) (b : BitVec 8) (v : BitVec 32) : exec (.bsChWrite b v) s = .next (s.bsChWrite b.toNat v.toNat) := rfl

/-- What an accepted write of BS_CH writes, in order: the mapping, the W1C bits that it names, and the two conditions that the mapping's
next slot finds anew. -/
def mapWrites (b v : Nat) : List (Fld × Nat) :=
  [(F.BS_CH_CHANNEL b, bits v 0 13), (F.BS_CH_RX_EN b, b2n (bit v 13)), (F.BS_CH_TX_EN b, b2n (bit v 14)), (F.BS_CH_TIMED b, b2n (bit v 15)),
      (F.BS_CH_TSLOT b, bits v 16 4)]
    ++ (if bit v 22 then [(F.BS_CH_OVERLOAD b, 0)] else []) ++ (if bit v 23 then [(F.BS_CH_SLIP b, 0)] else [])
    ++ [(F.BS_CH_MISMATCH b, 0), (F.BS_CH_TS_SHORT b, 0)]

theorem State.bsChWrite_rejected {s : State} {b v : Nat} (hrej : s.mapRejects b v = true) :
    s.bsChWrite b v = s.event F.BS_EVENT_MAP_REJECT .warn b b (bits v 0 13) 0 := if_pos hrej

theorem State.bsChWrite_accepted {s : State} {b v : Nat} (hrej : s.mapRejects b v = false) :
    s.bsChWrite b v = s.setAll (mapWrites b v) := by
  unfold State.bsChWrite mapWrites
  rw [if_neg (Bool.eq_false_iff.1 hrej)]
  cases bit v 22 <;> cases bit v 23 <;> rfl

/-- Each field of the register is written once at most. -/
theorem nodup_mapWrites (b v : Nat) : ((mapWrites b v).map (·.1.key)).Nodup := by
  have hkeys : (mapWrites b v).map (·.1.key) = (([0, 13, 14, 15, 16] ++ (if bit v 22 then [22] else []) ++ (if bit v 23 then [23] else [])
      ++ [20, 21]).map (R.BS_CH b * 8 + ·)) := by
    unfold mapWrites
    cases bit v 22 <;> cases bit v 23 <;> rfl
  rw [hkeys]
  refine List.Nodup.map (fun _ _ h => Nat.add_left_cancel h) ?_
  cases bit v 22 <;> cases bit v 23 <;> decide

theorem State.fld_bsChWrite {s : State} {b v : Nat} (hrej : s.mapRejects b v = false) {f : Fld} {x : Nat} (hf : (f, x) ∈ mapWrites b v) :
    (s.bsChWrite b v).fld f = x % 2 ^ f.w := by
  rw [State.bsChWrite_accepted hrej]
  exact State.fld_setAll_of_mem _ _ _ _ hf fun _ he hk => List.inj_on_of_nodup_map (nodup_mapWrites b v) he hf hk

theorem State.flag_bsChWrite {s : State} {b v : Nat} (hrej : s.mapRejects b v = false) {f : Fld} {x : Bool} (hf : (f, b2n x) ∈ mapWrites b v)
    (hw : f.w = 1) : (s.bsChWrite b v).flag f = x := by
  rw [State.flag, State.fld_bsChWrite hrej hf, hw]
  cases x <;> rfl

theorem exec_bsChWrite_results (s : State) (b : BitVec 8) (v : BitVec 32) : ∃ t, exec (.bsChWrite b v) s = .next t
    ∧ (s.mapRejects b.toNat v.toNat = true → t.fld F.BS_EVENT_MAP_REJECT = 1 ∧ FldsButRl [F.BS_EVENT_MAP_REJECT] s t)
    ∧ (s.mapRejects b.toNat v.toNat = false → t.fld (F.BS_CH_CHANNEL b.toNat) = bits v.toNat 0 13
        ∧ t.flag (F.BS_CH_RX_EN b.toNat) = bit v.toNat 13 ∧ t.flag (F.BS_CH_TX_EN b.toNat) = bit v.toNat 14
        ∧ t.flag (F.BS_CH_TIMED b.toNat) = bit v.toNat 15 ∧ t.fld (F.BS_CH_TSLOT b.toNat) = bits v.toNat 16 4
        ∧ (bit v.toNat 22 = true → t.fld (F.BS_CH_OVERLOAD b.toNat) = 0) ∧ (bit v.toNat 23 = true → t.fld (F.BS_CH_SLIP b.toNat) = 0)) := by
  refine ⟨_, exec_bsChWrite_eq s b v, fun hrej => ?rejected, fun hrej => ⟨?channel, ?rx, ?tx, ?timed, ?tslot, fun h => ?overload, fun h => ?slip⟩⟩
  case rejected =>
    rw [State.bsChWrite_rejected hrej]
    exact ⟨State.fld_event_same _ _ _ _ _ _ _ (by decide) (by decide) (by decide), fun f hf hne =>
      State.fld_event_ne _ _ _ _ _ _ _ _ (outRl_iff.2 hf) (by decide) (hne _ List.mem_cons_self)⟩
  case channel => exact (State.fld_bsChWrite hrej (x := bits v.toNat 0 13) (by simp [mapWrites])).trans (Nat.mod_mod _ _)
  case rx => exact State.flag_bsChWrite hrej (by simp [mapWrites]) rfl
  case tx => exact State.flag_bsChWrite hrej (by simp [mapWrites]) rfl
  case timed => exact State.flag_bsChWrite hrej (by simp [mapWrites]) rfl
  case tslot => exact (State.fld_bsChWrite hrej (x := bits v.toNat 16 4) (by simp [mapWrites])).trans (Nat.mod_mod _ _)
  case overload => exact State.fld_bsChWrite hrej (x := 0) (by simp [mapWrites, h])
  case slip => exact State.fld_bsChWrite hrej (x := 0) (by simp [mapWrites, h])

/-! ### Coefficients through BS_COEF_DATA (R323, R336) -/

theorem exec_bsCoefDataAccess_eq (s : State) (w : Bool) (v : BitVec 32) :
    exec (.bsCoefDataAccess w v) s = .next (s.coefAccess (if w then some v.toNat else none)) := rfl

theorem State.tap_coefAccess (s : State) (w : Option Nat) :
    (s.coefAccess w).fld F.BS_COEF_SEL_TAP = (s.fld F.BS_COEF_SEL_TAP + 1) % 64 := State.fld_setFld_same ..

theorem State.coefAccess_read (s : State) : (s.coefAccess none).lastRead
      = mget 0 s.bs.coef (128 * s.fld F.BS_COEF_SEL_GROUP + 64 * b2n (s.flag F.BS_COEF_SEL_BANK) + s.fld F.BS_COEF_SEL_TAP)
    ∧ (s.coefAccess none).bs = s.bs := ⟨rfl, rfl⟩

/-- TAP advances behind a write, refused or not. -/
theorem State.coefAccess_write (s : State) (v : Nat) :
    let g := s.fld F.BS_COEF_SEL_GROUP
    let b := s.flag F.BS_COEF_SEL_BANK
    let i := s.fld F.BS_COEF_SEL_TAP
    s.coefAccess (some v) = (if s.bankBusy g b then s.event F.BS_EVENT_COEF_REFUSED .warn g g (b2n b) i else s.setCoef g b i v).setFld
      F.BS_COEF_SEL_TAP (i + 1) := rfl

theorem exec_bsCoefDataAccess_results (s : State) (w : Bool) (v : BitVec 32) :
    let g := s.fld F.BS_COEF_SEL_GROUP
    let b := s.flag F.BS_COEF_SEL_BANK
    let i := s.fld F.BS_COEF_SEL_TAP
    ∃ t, exec (.bsCoefDataAccess w v) s = .next t ∧ t.fld F.BS_COEF_SEL_TAP = (i + 1) % 64
      ∧ (w = false → t.lastRead = mget 0 s.bs.coef (128 * g + 64 * b2n b + i) ∧ t.bs = s.bs)
      ∧ (w = true → s.bankBusy g b = true → t.fld F.BS_EVENT_COEF_REFUSED = 1 ∧ t.bs = s.bs)
      ∧ (w = true → s.bankBusy g b = false → t.bs = { s.bs with coef := mset 0 s.bs.coef (128 * g + 64 * b2n b + i) (v.toNat % 2 ^ 24) }) := by
  intro g b i
  refine ⟨_, exec_bsCoefDataAccess_eq s w v, s.tap_coefAccess _, ?read, ?refused, ?written⟩
  case read =>
    rintro rfl
    exact s.coefAccess_read
  case refused =>
    rintro rfl hbusy
    rw [if_pos rfl, State.coefAccess_write, if_pos hbusy]
    exact ⟨(State.fld_setFld_ne _ _ _ _ (by decide)).trans (State.fld_event_same _ _ _ _ _ _ _ (by decide) (by decide) (by decide)),
      State.bs_event ..⟩
  case written =>
    rintro rfl hfree
    rw [if_pos rfl, State.coefAccess_write, if_neg (Bool.eq_false_iff.1 hfree)]
    rfl

end Sys2Proof.Machine
end

section
/-! ## The receive slot of a bitstream channel (R320, R332) -/
namespace Sys2Proof.Machine

/-! ### Writes to Hamper memory do not see the bitstream ports -/

/-- The state with other bitstream ports. -/
def State.withBs (s : State) (x : Bits1) : State := { s with bs := x }

theorem State.setByte_withBs (s : State) (x : Bits1) (a : Nat) (b : Byte) : (s.withBs x).setByte a b = (s.setByte a b).withBs x := by
  have hphys : (s.withBs x).phys a = s.phys a := rfl
  unfold State.setByte
  rw [hphys]
  cases s.phys a <;> rfl

theorem State.unpoisonRange_withBs (s : State) (x : Bits1) (a n : Nat) : (s.withBs x).unpoisonRange a n = (s.unpoisonRange a n).withBs x := by
  unfold State.unpoisonRange
  split
  case isTrue h => rw [if_pos (show s.hp.poison = [] from h)]
  case isFalse h =>
    refine (List.foldl_hom (fun t : State => t.withBs x) fun t i => ?_).trans (congrArg (fun t : State => t.withBs x) (if_neg h).symm)
    have hphys : (t.withBs x).phys = t.phys := rfl
    dsimp only
    rw [hphys]
    split
    · cases t.phys (((a + 7) / 8 + i) * 8) <;> rfl
    · rfl

theorem State.setBytes_withBs (s : State) (x : Bits1) (a : Nat) (l : List Byte) : (s.withBs x).setBytes a l = (s.setBytes a l).withBs x := by
  unfold State.setBytes
  rw [← State.unpoisonRange_withBs]
  have hbytes := List.foldl_hom (init := (s, a)) (l := l) (fun e : State × Nat => (e.1.withBs x, e.2))
    (g₁ := fun e b => (e.1.setByte e.2 b, e.2 + 1)) (g₂ := fun e b => (e.1.setByte e.2 b, e.2 + 1))
    fun e b => Prod.ext (e.1.setByte_withBs x e.2 b) rfl
  exact congrArg (fun e : State × Nat => e.1.unpoisonRange a l.length) hbytes

theorem State.writeRing_withBs (s : State) (x : Bits1) (c : Chan) (base : Nat) (shape : RingShape) (f : Nat) (l : List Nat) :
    (s.withBs x).writeRing c base shape f l = (s.writeRing c base shape f l).withBs x := by
  have hslot : (s.withBs x).ringSlot = s.ringSlot := rfl
  have hctx : ∀ t : State, (t.withBs x).ctxWord = t.ctxWord := fun _ => rfl
  unfold State.writeRing State.setCtxWord State.setWord
  dsimp only
  rw [hslot, State.setBytes_withBs, State.setBytes_withBs, hctx, State.setBytes_withBs]

theorem State.timedEntry_withBs (s : State) (x : Bits1) (b : Nat) (c : Chan) (cfg : ChainCfg) (f flags start : Nat) :
    (s.withBs x).timedEntry b c cfg f flags start = (s.timedEntry b c cfg f flags start).withBs x := by
  have hflag : (s.withBs x).flag = s.flag := rfl
  have hctx : (s.withBs x).ctxWord = s.ctxWord := rfl
  unfold State.timedEntry
  dsimp only
  rw [hflag, hctx, State.setBytes_withBs]
  split
  · split <;> rfl
  · rfl

/-! ### What the slot writes, counts and hands on -/

/-- The samples of a slot in its channel's ring, then its header word with the flags (R321). -/
def State.slotWritten (s : State) (c : Chan) (f flags : Nat) (l : List Nat) : State :=
  (s.writeRing c 20 c.graph.rx f l).setWord (s.ringSlot c 20 c.graph.rx.frames c.graph.rx.samples f) (f % 16384 + flags % 32 * 2 ^ 14 + 2 ^ 31)

theorem State.slotWritten_withBs (s : State) (x : Bits1) (c : Chan) (f flags : Nat) (l : List Nat) :
    (s.withBs x).slotWritten c f flags l = (s.slotWritten c f flags l).withBs x := by
  have hslot : (s.withBs x).ringSlot = s.ringSlot := rfl
  unfold State.slotWritten State.setWord
  rw [State.writeRing_withBs, State.setBytes_withBs, hslot]

/-- The sticky flags and counts of a slot by its flags (R320, R321). -/
def State.slotNoted (s : State) (g b flags : Nat) : State :=
  let s := if flags / 4 % 2 = 1 then s.slotEvent g b true else s
  if flags / 8 % 2 = 1 then s.slotEvent g b false else s

theorem State.slotEvent_chain (s : State) (g b : Nat) (ovl : Bool) : (s.slotEvent g b ovl).bs.chain = s.bs.chain := by
  unfold State.slotEvent
  extract_lets sec x u v
  have hu : u.bs = s.bs := State.bs_incS ..
  have hv : v.bs = s.bs := State.bs_incWrap ..
  clear_value u v
  rw [← hu]
  split
  · split
    · rfl
    · rw [State.bs_event]
      rfl
  · rw [hu, ← hv]
    split
    · rfl
    · rw [State.bs_event]
      rfl

theorem State.slotEvent_keeps (s : State) (g b : Nat) (ovl : Bool) : (s.slotEvent g b ovl).hp = s.hp ∧ (s.slotEvent g b ovl).chans = s.chans
    ∧ (s.slotEvent g b ovl).bs.chain = s.bs.chain :=
  ⟨(State.slotEvent_fr s g b ovl (.refl s)).hp rfl, (State.slotEvent_fr s g b ovl (.refl s)).chans rfl, s.slotEvent_chain g b ovl⟩

theorem State.slotNoted_keeps (s : State) (g b flags : Nat) : (s.slotNoted g b flags).hp = s.hp ∧ (s.slotNoted g b flags).chans = s.chans
    ∧ (s.slotNoted g b flags).bs.chain = s.bs.chain := by
  unfold State.slotNoted
  extract_lets u
  have hu : u.hp = s.hp ∧ u.chans = s.chans ∧ u.bs.chain = s.bs.chain := by
    dsimp only [u]
    split
    · exact s.slotEvent_keeps g b true
    · exact ⟨rfl, rfl, rfl⟩
  obtain ⟨hhp, hchans, hchain⟩ := hu
  clear_value u
  rw [← hhp, ← hchans, ← hchain]
  split
  · exact u.slotEvent_keeps g b false
  · exact ⟨rfl, rfl, rfl⟩

/-- The slot that is due of a channel has been completed. -/
def State.mediaServed (s : State) (n : Nat) : State :=
  match s.chan n with
  | some c => s.setChan n { c with mediaDue := none }
  | none => s

theorem State.mediaServed_of_some {s : State} {n : Nat} {c : Chan} (h : s.chan n = some c) :
    s.mediaServed n = s.setChan n { c with mediaDue := none } := by
  unfold State.mediaServed
  rw [h]

/-- The slot of frame `f` that bitstream channel `b` completes for channel `n` with record `c`, from its chain's outcome `r`: the chain moves
on, the timestamp and the ring are written, the flags noted. -/
def State.slotServed (s : State) (n b : Nat) (c : Chan) (f start : Nat) (r : BsChain × List Int × Nat) : State :=
  ((((s.withBs { s.bs with chain := mput s.bs.chain b r.1 }).timedEntry b c (s.groupCfg (b / 16)) f r.2.2 start).slotWritten c f r.2.2
    (r.2.1.map fun x => unsgn 24 x)).slotNoted (b / 16) b r.2.2).mediaServed n

theorem State.slotServed_results {s : State} {n : Nat} {c : Chan} (hchan : s.chan n = some c) (b f start : Nat)
    (r : BsChain × List Int × Nat) :
    let u := s.slotServed n b c f start r
    u.bs.chain = mput s.bs.chain b r.1 ∧ u.chan n = some { c with mediaDue := none }
      ∧ u.hp = ((s.timedEntry b c (s.groupCfg (b / 16)) f r.2.2 start).slotWritten c f r.2.2 (r.2.1.map fun x => unsgn 24 x)).hp := by
  unfold State.slotServed
  rw [State.timedEntry_withBs, State.slotWritten_withBs]
  have hwritten : ((s.timedEntry b c (s.groupCfg (b / 16)) f r.2.2 start).slotWritten c f r.2.2 (r.2.1.map fun x => unsgn 24 x)).chans
      = s.chans :=
    ((State.setWord_fr _ _ _ (.refl _)).chans rfl).trans (((State.writeRing_fr _ _ _ _ _ _ (.refl _)).chans rfl).trans
      ((State.timedEntry_fr _ _ _ _ _ _ _ (.refl s)).chans rfl))
  generalize (s.timedEntry b c (s.groupCfg (b / 16)) f r.2.2 start).slotWritten c f r.2.2 _ = w at hwritten ⊢
  obtain ⟨hhp, hchans, hchain⟩ := (w.withBs { s.bs with chain := mput s.bs.chain b r.1 }).slotNoted_keeps (b / 16) b r.2.2
  rw [State.mediaServed_of_some (c := c) (by rw [State.chan_congr (hchans.trans hwritten), hchan])]
  exact ⟨hchain, mfind_mput_same .., hhp⟩

theorem exec_bsSlotComplete_eq {s : State} {b : BitVec 8} {c : Chan} {f : Nat} (l : List Bool)
    (hchan : s.chan (s.fld (F.BS_CH_CHANNEL b.toNat)) = some c) (hdue : c.mediaDue = some f)
    (hen : s.flag (F.BS_CH_RX_EN b.toNat) = true) (hact : s.groupActive (b.toNat / 16) = true) (hmode : s.mode ≠ 10)
    (hfits : ringFits c c.graph.rx (s.groupCfg (b.toNat / 16)).fs = true) :
    let cfg := s.groupCfg (b.toNat / 16)
    let start := c.nextB - 2 * frameNs c.frame
    exec (.bsSlotComplete b l) s = .next ((s.slotServed (s.fld (F.BS_CH_CHANNEL b.toNat)) b.toNat c f start
      (s.runSlot b.toNat (b.toNat / 16) cfg l (start * cfg.fs / 1000000) (frameSamples c.frame cfg.fs)
        (frameSamples c.frame cfg.fs * s.incOf (b.toNat / 16) / 2 ^ 22))).sourceTokens (s.fld (F.BS_CH_CHANNEL b.toNat)) 17 f) := by
  have hserved : ¬(s.flag (F.BS_CH_RX_EN b.toNat) = false ∨ s.groupActive (b.toNat / 16) = false ∨ s.mode = 10) := by
    simp [hen, hact, hmode]
  show execBsSlotComplete b l s = _
  unfold execBsSlotComplete
  extract_lets
  rw [show s.chan _ = some c from hchan]
  dsimp -zeta only
  rw [hdue]
  exact (if_neg hserved).trans (if_neg (ne_false_of_eq_true hfits))

/-! ### The statement -/

/-- Settles O37: each command past its checks is one equation, a reset of several groups a fold in which each group has its turn once and
leaves the others alone, the end of a fade one inversion; a slot's writes to Hamper memory do not see the bitstream ports. -/
theorem bitstreamResults : Obligations.BitstreamResults := by
  unfold Obligations.BitstreamResults
  intro s
  refine ⟨exec_bsClockLost_results s, exec_clkBack_results s, ?slot, fun hen => ?edge, rfl, exec_syncReset_results s, exec_groupLocalReset_results s,
    exec_bsSettleEnd_results s, exec_bsChWrite_results s, exec_bsCoefDataAccess_results s, exec_swap_results s, exec_swapDone_results s⟩
  case slot =>
    intro b l c f n g cfg start r v hchan hdue hen hact hmode hfits
    exact ⟨_, exec_bsSlotComplete_eq l hchan hdue hen hact hmode hfits, State.slotServed_results hchan b.toNat f start r⟩
  case edge => exact congrArg Host.Outcome.next (if_pos hen)

end Sys2Proof.Machine
end

section
/-! ## Steps and runs of the queue: what a command may change, and that every command answers a next state -/
namespace Sys2Proof.Machine

-- One declaration is checked at a time, so that the text with all its files is checked in bounded memory.
set_option Elab.async false

/-! ### The commands whose meaning is no plain next state: each branch ends in one -/

theorem execNop_next (k : Fin 144) (w : BitVec 48) (s : State) : ∃ t, execNop k w s = .next t := by
  unfold execNop
  repeat' first | exact ⟨_, rfl⟩ | extract_lets | split

theorem execWaitWork_next (k : Fin 144) (f : BitVec 40) (s : State) : ∃ t, execWaitWork k f s = .next t := by
  unfold execWaitWork
  repeat' first | exact ⟨_, rfl⟩ | extract_lets | split

theorem execDispatch_next (c : Fin 16) (s : State) : ∃ t, execDispatch c s = .next t := by
  unfold execDispatch
  repeat' first | exact ⟨_, rfl⟩ | extract_lets | split

theorem execYield_next (k : Fin 144) (f : BitVec 40) (s : State) : ∃ t, execYield k f s = .next t := by
  unfold execYield
  repeat' first | exact ⟨_, rfl⟩ | extract_lets | split

theorem execOvl_next (k : Fin 144) (f : BitVec 40) (s : State) : ∃ t, execOvl k f s = .next t := by
  unfold execOvl
  repeat' first | exact ⟨_, rfl⟩ | extract_lets | split

theorem execOvlCopyEnd_next (k : Fin 144) (s : State) : ∃ t, execOvlCopyEnd k s = .next t := by
  unfold execOvlCopyEnd
  repeat' first | exact ⟨_, rfl⟩ | extract_lets | split

theorem execInterruptEntry_next (k : Fin 144) (s : State) : ∃ t, execInterruptEntry k s = .next t := by
  unfold execInterruptEntry
  repeat' first | exact ⟨_, rfl⟩ | extract_lets | split

theorem execCoreFault_next (k : Fin 144) (code : Fin 16) (lane : Fin 4) (addr : BitVec 24) (row : BitVec 18) (s : State) : ∃ t, execCoreFault k code lane addr row s = .next t := by
  unfold execCoreFault
  repeat' first | exact ⟨_, rfl⟩ | extract_lets | split

theorem execIdleFault_next (k : Fin 144) (code : Fin 16) (lane : Fin 4) (addr : BitVec 24) (row : BitVec 18) (s : State) : ∃ t, execIdleFault k code lane addr row s = .next t := by
  unfold execIdleFault
  repeat' first | exact ⟨_, rfl⟩ | extract_lets | split

theorem execCoreHang_next (k : Fin 144) (s : State) : ∃ t, execCoreHang k s = .next t := by
  unfold execCoreHang
  repeat' first | exact ⟨_, rfl⟩ | extract_lets | split

theorem execStagingComplete_next (c : Fin 16) (n : Nat) (errs : List MemErr) (s : State) : ∃ t, execStagingComplete c n errs s = .next t := by
  unfold execStagingComplete
  repeat' first | exact ⟨_, rfl⟩ | extract_lets | split

theorem execQueueRebuild_next (c : Fin 16) (both : Bool) (s : State) : ∃ t, execQueueRebuild c both s = .next t := by
  unfold execQueueRebuild
  repeat' first | exact ⟨_, rfl⟩ | extract_lets | split

theorem execQueueRebuildEnd_next (s : State) : ∃ t, execQueueRebuildEnd s = .next t := by
  unfold execQueueRebuildEnd
  repeat' first | exact ⟨_, rfl⟩ | extract_lets | split

theorem execFlowStall_next (f : BitVec 14) (s : State) : ∃ t, execFlowStall f s = .next t := by
  unfold execFlowStall
  repeat' first | exact ⟨_, rfl⟩ | extract_lets | split

theorem execFrameTick_next (s : State) : ∃ t, execFrameTick s = .next t := by
  unfold execFrameTick
  repeat' first | exact ⟨_, rfl⟩ | extract_lets | split

theorem execMediaTokenTimeout_next (n : BitVec 13) (s : State) : ∃ t, execMediaTokenTimeout n s = .next t := by
  unfold execMediaTokenTimeout
  repeat' first | exact ⟨_, rfl⟩ | extract_lets | split

theorem execCompassEpoch_next (meas : List (Nat × Nat)) (s : State) : ∃ t, execCompassEpoch meas s = .next t := by
  unfold execCompassEpoch
  repeat' first | exact ⟨_, rfl⟩ | extract_lets | split

theorem execSensorWindow_next (counts : List (List Nat)) (s : State) : ∃ t, execSensorWindow counts s = .next t := by
  unfold execSensorWindow
  repeat' first | exact ⟨_, rfl⟩ | extract_lets | split

theorem execAvsTransactionEnd_next (ok : Bool) (mv qa : BitVec 10) (s : State) : ∃ t, execAvsTransactionEnd ok mv qa s = .next t := by
  unfold execAvsTransactionEnd
  repeat' first | exact ⟨_, rfl⟩ | extract_lets | split

theorem execRefLost_next (s : State) : ∃ t, execRefLost s = .next t := by
  unfold execRefLost
  repeat' first | exact ⟨_, rfl⟩ | extract_lets | split

theorem execRefReturn_next (s : State) : ∃ t, execRefReturn s = .next t := by
  unfold execRefReturn
  repeat' first | exact ⟨_, rfl⟩ | extract_lets | split

theorem execAgeMeasurement_next (idx : List Nat) (s : State) : ∃ t, execAgeMeasurement idx s = .next t := by
  unfold execAgeMeasurement
  repeat' first | exact ⟨_, rfl⟩ | extract_lets | split

theorem execPageMoveLineCopy_next (page : BitVec 13) (errs : List MemErr) (s : State) : ∃ t, execPageMoveLineCopy page errs s = .next t := by
  unfold execPageMoveLineCopy
  repeat' first | exact ⟨_, rfl⟩ | extract_lets | split

theorem execLinkUp_next (p : Fin 4) (s : State) : ∃ t, execLinkUp p s = .next t := by
  unfold execLinkUp
  repeat' first | exact ⟨_, rfl⟩ | extract_lets | split

theorem execAnComplete_next (p : Fin 4) (abil : BitVec 5) (fec : BitVec 4) (s : State) : ∃ t, execAnComplete p abil fec s = .next t := by
  unfold execAnComplete
  repeat' first | exact ⟨_, rfl⟩ | extract_lets | split

theorem execMgFrameReceived_next (frame : List Byte) (rxErr own tagOk : Bool) (s : State) : ∃ t, execMgFrameReceived frame rxErr own tagOk s = .next t := by
  unfold execMgFrameReceived
  repeat' first | exact ⟨_, rfl⟩ | extract_lets | split

theorem execMgCollision_next (sent : Nat) (s : State) : ∃ t, execMgCollision sent s = .next t := by
  unfold execMgCollision
  repeat' first | exact ⟨_, rfl⟩ | extract_lets | split

theorem execPpsOutFall_next (s : State) : ∃ t, execPpsOutFall s = .next t := by
  unfold execPpsOutFall
  repeat' first | exact ⟨_, rfl⟩ | extract_lets | split

theorem execCaptureEdge_next (i : Fin 6) (s : State) : ∃ t, execCaptureEdge i s = .next t := by
  unfold execCaptureEdge
  repeat' first | exact ⟨_, rfl⟩ | extract_lets | split

theorem execHighwayTick_next (data : List (List (BitVec 8))) (col : List (Fin 16 × Fin 512)) (s : State) : ∃ t, execHighwayTick data col s = .next t := by
  unfold execHighwayTick
  repeat' first | exact ⟨_, rfl⟩ | extract_lets | split

theorem execHighwayFrameReceived_next (h : Fin 16) (data : List (BitVec 8)) (fs : BitVec 12) (lost : Bool) (col : List (Fin 512)) (s : State) : ∃ t, execHighwayFrameReceived h data fs lost col s = .next t := by
  unfold execHighwayFrameReceived
  repeat' first | exact ⟨_, rfl⟩ | extract_lets | split

theorem execClkLost_next (h : Fin 16) (s : State) : ∃ t, execClkLost h s = .next t := by
  unfold execClkLost
  repeat' first | exact ⟨_, rfl⟩ | extract_lets | split

theorem execBsClockLost_next (k : Fin 8) (s : State) : ∃ t, execBsClockLost k s = .next t := by
  unfold execBsClockLost
  repeat' first | exact ⟨_, rfl⟩ | extract_lets | split

theorem execClkBack_next (k : Fin 8) (s : State) : ∃ t, execClkBack k s = .next t := by
  unfold execClkBack
  repeat' first | exact ⟨_, rfl⟩ | extract_lets | split

theorem execBsSlotComplete_next (b : BitVec 8) (bits : List Bool) (s : State) : ∃ t, execBsSlotComplete b bits s = .next t := by
  unfold execBsSlotComplete
  repeat' first | exact ⟨_, rfl⟩ | extract_lets | split

theorem execSyncReset_next (s : State) : ∃ t, execSyncReset s = .next t := by
  unfold execSyncReset
  repeat' first | exact ⟨_, rfl⟩ | extract_lets | split

theorem execBsSettleEnd_next (g : Fin 16) (s : State) : ∃ t, execBsSettleEnd g s = .next t := by
  unfold execBsSettleEnd
  repeat' first | exact ⟨_, rfl⟩ | extract_lets | split

theorem execSwapDone_next (g : Fin 16) (s : State) : ∃ t, execSwapDone g s = .next t := by
  unfold execSwapDone
  repeat' first | exact ⟨_, rfl⟩ | extract_lets | split

theorem execRetireNodeTimeout_next (k : Fin 144) (s : State) : ∃ t, execRetireNodeTimeout k s = .next t := by
  unfold execRetireNodeTimeout
  repeat' first | exact ⟨_, rfl⟩ | extract_lets | split

theorem execRetirementSwap_next (k : Fin 144) (s : State) : ∃ t, execRetirementSwap k s = .next t := by
  unfold execRetirementSwap
  split
  · exact ⟨_, rfl⟩
  · split
    · exact ⟨_, rfl⟩
    · extract_lets _ _ _ _ spare
      clear_value spare
      cases spare <;> exact ⟨_, rfl⟩

theorem execSpareReady_next (k : Fin 144) (s : State) : ∃ t, execSpareReady k s = .next t := by
  unfold execSpareReady
  repeat' first | exact ⟨_, rfl⟩ | extract_lets | split

theorem execRowRepaired_next (u : Fin 464) (row : BitVec 18) (s : State) : ∃ t, execRowRepaired u row s = .next t := by
  unfold execRowRepaired
  repeat' first | exact ⟨_, rfl⟩ | extract_lets | split

theorem execClPatchDataRead_next (c : Fin 16) (s : State) : ∃ t, execClPatchDataRead c s = .next t := by
  unfold execClPatchDataRead
  repeat' first | exact ⟨_, rfl⟩ | extract_lets | split

theorem execClusterResetEnd_next (c : Fin 16) (cores : BitVec 9) (cps vectors : Bool) (s : State) : ∃ t, execClusterResetEnd c cores cps vectors s = .next t := by
  unfold execClusterResetEnd
  repeat' first | exact ⟨_, rfl⟩ | extract_lets | split

theorem execCounterLowWordRead_next (a : BitVec 32) (s : State) : ∃ t, execCounterLowWordRead a s = .next t := by
  unfold execCounterLowWordRead
  repeat' first | exact ⟨_, rfl⟩ | extract_lets | split

theorem execTdClkReturn_next (h : Fin 16) (s : State) : ∃ t, execTdClkReturn h s = .next t := by
  unfold execTdClkReturn
  repeat' first | exact ⟨_, rfl⟩ | extract_lets | split

/-! ### Every command -/

/-- An outcome is a next state that differs from `s` in the listed parts alone. -/
def NextOnly (ps : List Part) (s : State) (o : Host.Outcome State Fault Refusal) : Prop := ∃ t, o = .next t ∧ Only ps s t

/-- Every member of a frame lemma's set stands in a list of parts; the queue of commands, at bit 24, is none. -/
def coveredBy (W : Nat) (ps : List Part) : Bool := (List.range 25).all fun i => !W.testBit i || (ps.map Part.bit).contains i

theorem OutFr.nextOnly {W : Nat} {s : State} {ps : List Part} {o : Host.Outcome State Fault Refusal} (h : OutFr W s o)
    (hn : ∃ t, o = .next t) (hW : coveredBy W ps = true) : NextOnly ps s o := by
  obtain ⟨t, ht⟩ := hn
  refine ⟨t, ht, (h t ht).only fun i hi hb => ?_⟩
  simpa [hb] using List.all_eq_true.1 hW i (List.mem_range.2 hi)

/-- The parts in the set of each command's frame lemma (Laws/Frame*.lean) are among those that `writes` lists for it. -/
theorem exec_nextOnly (i : Instr) (s : State) : NextOnly (writes i) s (exec i s) :=
  match i with
  | .nop k w => (execNop_fr k w s (.refl s)).nextOnly (execNop_next k w s) rfl
  | .b k f => (execB_fr k f s (.refl s)).nextOnly ⟨_, rfl⟩ rfl
  | .call k f => (execCall_fr k f s (.refl s)).nextOnly ⟨_, rfl⟩ rfl
  | .brp k f => (execBrp_fr k f s (.refl s)).nextOnly ⟨_, rfl⟩ rfl
  | .rts k f => (execRts_fr k f s (.refl s)).nextOnly ⟨_, rfl⟩ rfl
  | .rti k f => (execRti_fr k f s (.refl s)).nextOnly ⟨_, rfl⟩ rfl
  | .doImm k f => (execDoImm_fr k f s (.refl s)).nextOnly ⟨_, rfl⟩ rfl
  | .dor k f => (execDor_fr k f s (.refl s)).nextOnly ⟨_, rfl⟩ rfl
  | .waitWork k f => (execWaitWork_fr k f s (.refl s)).nextOnly (execWaitWork_next k f s) rfl
  | .dispatch c => (execDispatch_fr c s (.refl s)).nextOnly (execDispatch_next c s) rfl
  | .commit k f => (execCommit_fr k f s (.refl s)).nextOnly ⟨_, rfl⟩ rfl
  | .yield k f => (execYield_fr k f s (.refl s)).nextOnly (execYield_next k f s) rfl
  | .enqToken k f => (execEnqToken_fr k f s (.refl s)).nextOnly ⟨_, rfl⟩ rfl
  | .enqItem k f => (execEnqItem_fr k f s (.refl s)).nextOnly ⟨_, rfl⟩ rfl
  | .enqWork k f => (execEnqWork_fr k f s (.refl s)).nextOnly ⟨_, rfl⟩ rfl
  | .ovl k f => (execOvl_fr k f s (.refl s)).nextOnly (execOvl_next k f s) rfl
  | .ovlCopyEnd k => (execOvlCopyEnd_fr k s (.refl s)).nextOnly (execOvlCopyEnd_next k s) rfl
  | .sett k f => (execSett_fr k f s (.refl s)).nextOnly ⟨_, rfl⟩ rfl
  | .gett k f => (execGett_fr k f s (.refl s)).nextOnly ⟨_, rfl⟩ rfl
  | .bkpt k f => (execBkpt_fr k f s (.refl s)).nextOnly ⟨_, rfl⟩ rfl
  | .mpyq k f => (execMpyq_fr k f s (.refl s)).nextOnly ⟨_, rfl⟩ rfl
  | .macq k f => (execMacq_fr k f s (.refl s)).nextOnly ⟨_, rfl⟩ rfl
  | .msuq k f => (execMsuq_fr k f s (.refl s)).nextOnly ⟨_, rfl⟩ rfl
  | .ftap k f => (execFtap_fr k f s (.refl s)).nextOnly ⟨_, rfl⟩ rfl
  | .ftapx k f => (execFtapx_fr k f s (.refl s)).nextOnly ⟨_, rfl⟩ rfl
  | .mpy k f => (execMpy_fr k f s (.refl s)).nextOnly ⟨_, rfl⟩ rfl
  | .mac k f => (execMac_fr k f s (.refl s)).nextOnly ⟨_, rfl⟩ rfl
  | .msu k f => (execMsu_fr k f s (.refl s)).nextOnly ⟨_, rfl⟩ rfl
  | .adda k f => (execAdda_fr k f s (.refl s)).nextOnly ⟨_, rfl⟩ rfl
  | .suba k f => (execSuba_fr k f s (.refl s)).nextOnly ⟨_, rfl⟩ rfl
  | .nega k f => (execNega_fr k f s (.refl s)).nextOnly ⟨_, rfl⟩ rfl
  | .absa k f => (execAbsa_fr k f s (.refl s)).nextOnly ⟨_, rfl⟩ rfl
  | .clra k f => (execClra_fr k f s (.refl s)).nextOnly ⟨_, rfl⟩ rfl
  | .clrq k f => (execClrq_fr k f s (.refl s)).nextOnly ⟨_, rfl⟩ rfl
  | .asha k f => (execAsha_fr k f s (.refl s)).nextOnly ⟨_, rfl⟩ rfl
  | .cmpa k f => (execCmpa_fr k f s (.refl s)).nextOnly ⟨_, rfl⟩ rfl
  | .expOp k f => (execExpOp_fr k f s (.refl s)).nextOnly ⟨_, rfl⟩ rfl
  | .norm k f => (execNorm_fr k f s (.refl s)).nextOnly ⟨_, rfl⟩ rfl
  | .add k f => (execAdd_fr k f s (.refl s)).nextOnly ⟨_, rfl⟩ rfl
  | .sub k f => (execSub_fr k f s (.refl s)).nextOnly ⟨_, rfl⟩ rfl
  | .andOp k f => (execAndOp_fr k f s (.refl s)).nextOnly ⟨_, rfl⟩ rfl
  | .orOp k f => (execOrOp_fr k f s (.refl s)).nextOnly ⟨_, rfl⟩ rfl
  | .xorOp k f => (execXorOp_fr k f s (.refl s)).nextOnly ⟨_, rfl⟩ rfl
  | .lsl k f => (execLsl_fr k f s (.refl s)).nextOnly ⟨_, rfl⟩ rfl
  | .lsr k f => (execLsr_fr k f s (.refl s)).nextOnly ⟨_, rfl⟩ rfl
  | .asr k f => (execAsr_fr k f s (.refl s)).nextOnly ⟨_, rfl⟩ rfl
  | .cmp k f => (execCmp_fr k f s (.refl s)).nextOnly ⟨_, rfl⟩ rfl
  | .addi k f => (execAddi_fr k f s (.refl s)).nextOnly ⟨_, rfl⟩ rfl
  | .movi k f => (execMovi_fr k f s (.refl s)).nextOnly ⟨_, rfl⟩ rfl
  | .mov k f => (execMov_fr k f s (.refl s)).nextOnly ⟨_, rfl⟩ rfl
  | .ld k f => (execLd_fr k f s (.refl s)).nextOnly ⟨_, rfl⟩ rfl
  | .st k f => (execSt_fr k f s (.refl s)).nextOnly ⟨_, rfl⟩ rfl
  | .lda k f => (execLda_fr k f s (.refl s)).nextOnly ⟨_, rfl⟩ rfl
  | .sta k f => (execSta_fr k f s (.refl s)).nextOnly ⟨_, rfl⟩ rfl
  | .interruptEntry k => (execInterruptEntry_fr k s (.refl s)).nextOnly (execInterruptEntry_next k s) rfl
  | .debugHaltRequest k => (execDebugHaltRequest_fr k s (.refl s)).nextOnly ⟨_, rfl⟩ rfl
  | .localTimerExpiry k => (execLocalTimerExpiry_fr k s (.refl s)).nextOnly ⟨_, rfl⟩ rfl
  | .coreFault k code lane addr row => (execCoreFault_fr k code lane addr row s (.refl s)).nextOnly (execCoreFault_next k code lane addr row s) rfl
  | .idleFault k code lane addr row => (execIdleFault_fr k code lane addr row s (.refl s)).nextOnly (execIdleFault_next k code lane addr row s) rfl
  | .coreHang k => (execCoreHang_fr k s (.refl s)).nextOnly (execCoreHang_next k s) rfl
  | .stagingComplete c n errs => (execStagingComplete_fr c n errs s (.refl s)).nextOnly (execStagingComplete_next c n errs s) rfl
  | .queueRebuild c both => (execQueueRebuild_fr c both s (.refl s)).nextOnly (execQueueRebuild_next c both s) rfl
  | .queueRebuildEnd => (execQueueRebuildEnd_fr s (.refl s)).nextOnly (execQueueRebuildEnd_next s) rfl
  | .flowStall f => (execFlowStall_fr f s (.refl s)).nextOnly (execFlowStall_next f s) rfl
  | .frameTick => (execFrameTick_fr s (.refl s)).nextOnly (execFrameTick_next s) rfl
  | .mediaTokenTimeout n => (execMediaTokenTimeout_fr n s (.refl s)).nextOnly (execMediaTokenTimeout_next n s) rfl
  | .compassEpoch meas => (execCompassEpoch_fr meas s (.refl s)).nextOnly (execCompassEpoch_next meas s) rfl
  | .sensorWindow counts => (execSensorWindow_fr counts s (.refl s)).nextOnly (execSensorWindow_next counts s) rfl
  | .floorRestored => (execFloorRestored_fr s (.refl s)).nextOnly ⟨_, rfl⟩ rfl
  | .settleExpiry => (execSettleExpiry_fr s (.refl s)).nextOnly ⟨_, rfl⟩ rfl
  | .avsTransactionEnd ok mv qa => (execAvsTransactionEnd_fr ok mv qa s (.refl s)).nextOnly (execAvsTransactionEnd_next ok mv qa s) rfl
  | .avsResponseTimeout => (execAvsResponseTimeout_fr s (.refl s)).nextOnly ⟨_, rfl⟩ rfl
  | .avsFaultPoll => (execAvsFaultPoll_fr s (.refl s)).nextOnly ⟨_, rfl⟩ rfl
  | .refLost => (execRefLost_fr s (.refl s)).nextOnly (execRefLost_next s) rfl
  | .refReturn => (execRefReturn_fr s (.refl s)).nextOnly (execRefReturn_next s) rfl
  | .refLostClear => (execRefLostClear_fr s (.refl s)).nextOnly ⟨_, rfl⟩ rfl
  | .ageMeasurement idx => (execAgeMeasurement_fr idx s (.refl s)).nextOnly (execAgeMeasurement_next idx s) rfl
  | .xing j => (execXing_fr j s (.refl s)).nextOnly ⟨_, rfl⟩ rfl
  | .pageMoveLineCopy page errs => (execPageMoveLineCopy_fr page errs s (.refl s)).nextOnly (execPageMoveLineCopy_next page errs s) rfl
  | .migDone page => (execMigDone_fr page s (.refl s)).nextOnly ⟨_, rfl⟩ rfl
  | .remoteResponse l tag status write data => (execRemoteResponse_fr l tag status write data s (.refl s)).nextOnly ⟨_, rfl⟩ rfl
  | .remoteTimeout => (execRemoteTimeout_fr s (.refl s)).nextOnly ⟨_, rfl⟩ rfl
  | .frameReceived p frame pcs overflow tagOk => (execFrameReceived_fr p frame pcs overflow tagOk s (.refl s)).nextOnly ⟨_, rfl⟩ rfl
  | .frameTransmitStart p => (execFrameTransmitStart_fr p s (.refl s)).nextOnly ⟨_, rfl⟩ rfl
  | .txAgeDiscard p pri => (execTxAgeDiscard_fr p pri s (.refl s)).nextOnly ⟨_, rfl⟩ rfl
  | .frameTransmitEnd p aborted => (execFrameTransmitEnd_fr p aborted s (.refl s)).nextOnly ⟨_, rfl⟩ rfl
  | .linkUp p => (execLinkUp_fr p s (.refl s)).nextOnly (execLinkUp_next p s) rfl
  | .linkDown p => (execLinkDown_fr p s (.refl s)).nextOnly ⟨_, rfl⟩ rfl
  | .anComplete p abil fec => (execAnComplete_fr p abil fec s (.refl s)).nextOnly (execAnComplete_next p abil fec s) rfl
  | .anRetry p => (execAnRetry_fr p s (.refl s)).nextOnly ⟨_, rfl⟩ rfl
  | .pauseTimeExpiry p pri => (execPauseTimeExpiry_fr p pri s (.refl s)).nextOnly ⟨_, rfl⟩ rfl
  | .pauseBreak p pri => (execPauseBreak_fr p pri s (.refl s)).nextOnly ⟨_, rfl⟩ rfl
  | .holdoffEnd p => (execHoldoffEnd_fr p s (.refl s)).nextOnly ⟨_, rfl⟩ rfl
  | .portResetEnd p => (execPortResetEnd_fr p s (.refl s)).nextOnly ⟨_, rfl⟩ rfl
  | .mgFrameReceived frame rxErr own tagOk => (execMgFrameReceived_fr frame rxErr own tagOk s (.refl s)).nextOnly (execMgFrameReceived_next frame rxErr own tagOk s) rfl
  | .syncMessageAct => (execSyncMessageAct_fr s (.refl s)).nextOnly ⟨_, rfl⟩ rfl
  | .blankIntervalStart => (execBlankIntervalStart_fr s (.refl s)).nextOnly ⟨_, rfl⟩ rfl
  | .blankIntervalEnd => (execBlankIntervalEnd_fr s (.refl s)).nextOnly ⟨_, rfl⟩ rfl
  | .mgTransmitAttempt => (execMgTransmitAttempt_fr s (.refl s)).nextOnly ⟨_, rfl⟩ rfl
  | .mgCollision sent => (execMgCollision_fr sent s (.refl s)).nextOnly (execMgCollision_next sent s) rfl
  | .backoffEnd => (execBackoffEnd_fr s (.refl s)).nextOnly ⟨_, rfl⟩ rfl
  | .mgTransmitEnd => (execMgTransmitEnd_fr s (.refl s)).nextOnly ⟨_, rfl⟩ rfl
  | .mgTxTimeout n => (execMgTxTimeout_fr n s (.refl s)).nextOnly ⟨_, rfl⟩ rfl
  | .jabber => (execJabber_fr s (.refl s)).nextOnly ⟨_, rfl⟩ rfl
  | .jabberClear => (execJabberClear_fr s (.refl s)).nextOnly ⟨_, rfl⟩ rfl
  | .ownJabber => (execOwnJabber_fr s (.refl s)).nextOnly ⟨_, rfl⟩ rfl
  | .plcaBeaconLoss => (execPlcaBeaconLoss_fr s (.refl s)).nextOnly ⟨_, rfl⟩ rfl
  | .listenEnd => (execListenEnd_fr s (.refl s)).nextOnly ⟨_, rfl⟩ rfl
  | .wakePin => (execWakePin_fr s (.refl s)).nextOnly ⟨_, rfl⟩ rfl
  | .timeStep => (execTimeStep_fr s (.refl s)).nextOnly ⟨_, rfl⟩ rfl
  | .cpAdjWrite v => (execCpAdjWrite_fr v s (.refl s)).nextOnly ⟨_, rfl⟩ rfl
  | .slewAbsorbed => (execSlewAbsorbed_fr s (.refl s)).nextOnly ⟨_, rfl⟩ rfl
  | .ppsInEdge => (execPpsInEdge_fr s (.refl s)).nextOnly ⟨_, rfl⟩ rfl
  | .srcLost => (execSrcLost_fr s (.refl s)).nextOnly ⟨_, rfl⟩ rfl
  | .ppsOutRise => (execPpsOutRise_fr s (.refl s)).nextOnly ⟨_, rfl⟩ rfl
  | .ppsOutFall => (execPpsOutFall_fr s (.refl s)).nextOnly (execPpsOutFall_next s) rfl
  | .captureEdge j => (execCaptureEdge_fr j s (.refl s)).nextOnly (execCaptureEdge_next j s) rfl
  | .capSecRead j => (execCapSecRead_fr j s (.refl s)).nextOnly ⟨_, rfl⟩ rfl
  | .cpNsecRead => (execCpNsecRead_fr s (.refl s)).nextOnly ⟨_, rfl⟩ rfl
  | .highwayTick data col => (execHighwayTick_fr data col s (.refl s)).nextOnly (execHighwayTick_next data col s) rfl
  | .highwayFrameReceived h data fs lost col => (execHighwayFrameReceived_fr h data fs lost col s (.refl s)).nextOnly (execHighwayFrameReceived_next h data fs lost col s) rfl
  | .clkLost h => (execClkLost_fr h s (.refl s)).nextOnly (execClkLost_next h s) rfl
  | .tdSlotDataWrite v => (execTdSlotDataWrite_fr v s (.refl s)).nextOnly ⟨_, rfl⟩ rfl
  | .bsClockLost k => (execBsClockLost_fr k s (.refl s)).nextOnly (execBsClockLost_next k s) rfl
  | .clkBack k => (execClkBack_fr k s (.refl s)).nextOnly (execClkBack_next k s) rfl
  | .bsSlotComplete b bits => (execBsSlotComplete_fr b bits s (.refl s)).nextOnly (execBsSlotComplete_next b bits s) rfl
  | .syncInEdge => (execSyncInEdge_fr s (.refl s)).nextOnly ⟨_, rfl⟩ rfl
  | .syncReset => (execSyncReset_fr s (.refl s)).nextOnly (execSyncReset_next s) rfl
  | .groupLocalReset g => (execGroupLocalReset_fr g s (.refl s)).nextOnly ⟨_, rfl⟩ rfl
  | .bsSettleEnd g => (execBsSettleEnd_fr g s (.refl s)).nextOnly (execBsSettleEnd_next g s) rfl
  | .bsChWrite b v => (execBsChWrite_fr b v s (.refl s)).nextOnly ⟨_, rfl⟩ rfl
  | .bsCoefDataAccess write v => (execBsCoefDataAccess_fr write v s (.refl s)).nextOnly ⟨_, rfl⟩ rfl
  | .swap g target => (execSwap_fr g target s (.refl s)).nextOnly ⟨_, rfl⟩ rfl
  | .swapDone g => (execSwapDone_fr g s (.refl s)).nextOnly (execSwapDone_next g s) rfl
  | .stileReadback => (execStileReadback_fr s (.refl s)).nextOnly ⟨_, rfl⟩ rfl
  | .stileStuckClosed sw => (execStileStuckClosed_fr sw s (.refl s)).nextOnly ⟨_, rfl⟩ rfl
  | .stileStuckOpen => (execStileStuckOpen_fr s (.refl s)).nextOnly ⟨_, rfl⟩ rfl
  | .openGapEnd => (execOpenGapEnd_fr s (.refl s)).nextOnly ⟨_, rfl⟩ rfl
  | .relaySettleEnd => (execRelaySettleEnd_fr s (.refl s)).nextOnly ⟨_, rfl⟩ rfl
  | .dischargeEnd => (execDischargeEnd_fr s (.refl s)).nextOnly ⟨_, rfl⟩ rfl
  | .lmuOutput bits => (execLmuOutput_fr bits s (.refl s)).nextOnly ⟨_, rfl⟩ rfl
  | .blankPinEdge level => (execBlankPinEdge_fr level s (.refl s)).nextOnly ⟨_, rfl⟩ rfl
  | .blankTimeout => (execBlankTimeout_fr s (.refl s)).nextOnly ⟨_, rfl⟩ rfl
  | .passGapEnd => (execPassGapEnd_fr s (.refl s)).nextOnly ⟨_, rfl⟩ rfl
  | .telemetryStart => (execTelemetryStart_fr s (.refl s)).nextOnly ⟨_, rfl⟩ rfl
  | .resetFault allOpen => (execResetFault_fr allOpen s (.refl s)).nextOnly ⟨_, rfl⟩ rfl
  | .engineTakeJob e => (execEngineTakeJob_fr e s (.refl s)).nextOnly ⟨_, rfl⟩ rfl
  | .rkJobEnd e input dict fail errs => (execRkJobEnd_fr e input dict fail errs s (.refl s)).nextOnly ⟨_, rfl⟩ rfl
  | .quarantine e mismatch => (execQuarantine_fr e mismatch s (.refl s)).nextOnly ⟨_, rfl⟩ rfl
  | .release e => (execRelease_fr e s (.refl s)).nextOnly ⟨_, rfl⟩ rfl
  | .engineSelftestEnd e pass => (execEngineSelftestEnd_fr e pass s (.refl s)).nextOnly ⟨_, rfl⟩ rfl
  | .rkTestInject v => (execRkTestInject_fr v s (.refl s)).nextOnly ⟨_, rfl⟩ rfl
  | .doorbellPoll tails rx kind fetch => (execDoorbellPoll_fr tails rx kind fetch s (.refl s)).nextOnly ⟨_, rfl⟩ rfl
  | .hiNudge => (execHiNudge_fr s (.refl s)).nextOnly ⟨_, rfl⟩ rfl
  | .hiRcfgWrite r v => (execHiRcfgWrite_fr r v s (.refl s)).nextOnly ⟨_, rfl⟩ rfl
  | .ringDrained r => (execRingDrained_fr r s (.refl s)).nextOnly ⟨_, rfl⟩ rfl
  | .interruptModerationTimer r => (execInterruptModerationTimer_fr r s (.refl s)).nextOnly ⟨_, rfl⟩ rfl
  | .reportRecordWrite err => (execReportRecordWrite_fr err s (.refl s)).nextOnly ⟨_, rfl⟩ rfl
  | .hostReset cause => (execHostReset_fr cause s (.refl s)).nextOnly ⟨_, rfl⟩ rfl
  | .ringsReset => (execRingsReset_fr s (.refl s)).nextOnly ⟨_, rfl⟩ rfl
  | .badAccess bar ofs en write => (execBadAccess_fr bar ofs en write s (.refl s)).nextOnly ⟨_, rfl⟩ rfl
  | .nopCommand c op => (execNopCommand_fr c op s (.refl s)).nextOnly ⟨_, rfl⟩ rfl
  | .modeSet c => (execModeSet_fr c s (.refl s)).nextOnly ⟨_, rfl⟩ rfl
  | .modeChange tests => (execModeChange_fr tests s (.refl s)).nextOnly ⟨_, rfl⟩ rfl
  | .deviceInfo c => (execDeviceInfo_fr c s (.refl s)).nextOnly ⟨_, rfl⟩ rfl
  | .admission c => (execAdmission_fr c s (.refl s)).nextOnly ⟨_, rfl⟩ rfl
  | .csmLoad c => (execCsmLoad_fr c s (.refl s)).nextOnly ⟨_, rfl⟩ rfl
  | .patchLoad c sig => (execPatchLoad_fr c sig s (.refl s)).nextOnly ⟨_, rfl⟩ rfl
  | .chOpen c => (execChOpen_fr c s (.refl s)).nextOnly ⟨_, rfl⟩ rfl
  | .chOpenGraph c => (execChOpenGraph_fr c s (.refl s)).nextOnly ⟨_, rfl⟩ rfl
  | .chClose c => (execChClose_fr c s (.refl s)).nextOnly ⟨_, rfl⟩ rfl
  | .closeComplete n => (execCloseComplete_fr n s (.refl s)).nextOnly ⟨_, rfl⟩ rfl
  | .chParam c => (execChParam_fr c s (.refl s)).nextOnly ⟨_, rfl⟩ rfl
  | .chStatus c => (execChStatus_fr c s (.refl s)).nextOnly ⟨_, rfl⟩ rfl
  | .ctxRead c errs => (execCtxRead_fr c errs s (.refl s)).nextOnly ⟨_, rfl⟩ rfl
  | .ctxWrite c => (execCtxWrite_fr c s (.refl s)).nextOnly ⟨_, rfl⟩ rfl
  | .nodeCancel c => (execNodeCancel_fr c s (.refl s)).nextOnly ⟨_, rfl⟩ rfl
  | .flowResync c => (execFlowResync_fr c s (.refl s)).nextOnly ⟨_, rfl⟩ rfl
  | .decSync c => (execDecSync_fr c s (.refl s)).nextOnly ⟨_, rfl⟩ rfl
  | .msgSend c => (execMsgSend_fr c s (.refl s)).nextOnly ⟨_, rfl⟩ rfl
  | .coefWrite c => (execCoefWrite_fr c s (.refl s)).nextOnly ⟨_, rfl⟩ rfl
  | .bankSwap c => (execBankSwap_fr c s (.refl s)).nextOnly ⟨_, rfl⟩ rfl
  | .pktSend c => (execPktSend_fr c s (.refl s)).nextOnly ⟨_, rfl⟩ rfl
  | .ftInsert c => (execFtInsert_fr c s (.refl s)).nextOnly ⟨_, rfl⟩ rfl
  | .ftDelete c => (execFtDelete_fr c s (.refl s)).nextOnly ⟨_, rfl⟩ rfl
  | .tplWrite c => (execTplWrite_fr c s (.refl s)).nextOnly ⟨_, rfl⟩ rfl
  | .srtpWrite c => (execSrtpWrite_fr c s (.refl s)).nextOnly ⟨_, rfl⟩ rfl
  | .srtpRead c => (execSrtpRead_fr c s (.refl s)).nextOnly ⟨_, rfl⟩ rfl
  | .portReset c => (execPortReset_fr c s (.refl s)).nextOnly ⟨_, rfl⟩ rfl
  | .hostCopy c errs => (execHostCopy_fr c errs s (.refl s)).nextOnly ⟨_, rfl⟩ rfl
  | .pageMove c => (execPageMove_fr c s (.refl s)).nextOnly ⟨_, rfl⟩ rfl
  | .jobSuspend c => (execJobSuspend_fr c s (.refl s)).nextOnly ⟨_, rfl⟩ rfl
  | .jobResume c => (execJobResume_fr c s (.refl s)).nextOnly ⟨_, rfl⟩ rfl
  | .jobCancel c => (execJobCancel_fr c s (.refl s)).nextOnly ⟨_, rfl⟩ rfl
  | .jobStatus c => (execJobStatus_fr c s (.refl s)).nextOnly ⟨_, rfl⟩ rfl
  | .jobList c => (execJobList_fr c s (.refl s)).nextOnly ⟨_, rfl⟩ rfl
  | .fwExchange c sig => (execFwExchange_fr c sig s (.refl s)).nextOnly ⟨_, rfl⟩ rfl
  | .fwxStepEnd test ok => (execFwxStepEnd_fr test ok s (.refl s)).nextOnly ⟨_, rfl⟩ rfl
  | .coreRetire c => (execCoreRetire_fr c s (.refl s)).nextOnly ⟨_, rfl⟩ rfl
  | .retireNodeTimeout k => (execRetireNodeTimeout_fr k s (.refl s)).nextOnly (execRetireNodeTimeout_next k s) rfl
  | .retirementSwap k => (execRetirementSwap_fr k s (.refl s)).nextOnly (execRetirementSwap_next k s) rfl
  | .spareReady k => (execSpareReady_fr k s (.refl s)).nextOnly (execSpareReady_next k s) rfl
  | .hbmRepair c => (execHbmRepair_fr c s (.refl s)).nextOnly ⟨_, rfl⟩ rfl
  | .hbmRepairPauseEnd pc ok => (execHbmRepairPauseEnd_fr pc ok s (.refl s)).nextOnly ⟨_, rfl⟩ rfl
  | .scrub c => (execScrub_fr c s (.refl s)).nextOnly ⟨_, rfl⟩ rfl
  | .patrolScrubRead target errs => (execPatrolScrubRead_fr target errs s (.refl s)).nextOnly ⟨_, rfl⟩ rfl
  | .scrubDone hbm => (execScrubDone_fr hbm s (.refl s)).nextOnly ⟨_, rfl⟩ rfl
  | .rowRepaired u row => (execRowRepaired_fr u row s (.refl s)).nextOnly (execRowRepaired_next u row s) rfl
  | .lifeHour temp => (execLifeHour_fr temp s (.refl s)).nextOnly ⟨_, rfl⟩ rfl
  | .lineTestSweep c => (execLineTestSweep_fr c s (.refl s)).nextOnly ⟨_, rfl⟩ rfl
  | .migrate c => (execMigrate_fr c s (.refl s)).nextOnly ⟨_, rfl⟩ rfl
  | .migrateSwitch n => (execMigrateSwitch_fr n s (.refl s)).nextOnly ⟨_, rfl⟩ rfl
  | .migrateForwardEnd n => (execMigrateForwardEnd_fr n s (.refl s)).nextOnly ⟨_, rfl⟩ rfl
  | .evacuate c => (execEvacuate_fr c s (.refl s)).nextOnly ⟨_, rfl⟩ rfl
  | .evacuateFence => (execEvacuateFence_fr s (.refl s)).nextOnly ⟨_, rfl⟩ rfl
  | .rkJob c => (execRkJob_fr c s (.refl s)).nextOnly ⟨_, rfl⟩ rfl
  | .checkpointAll c => (execCheckpointAll_fr c s (.refl s)).nextOnly ⟨_, rfl⟩ rfl
  | .fwJob c => (execFwJob_fr c s (.refl s)).nextOnly ⟨_, rfl⟩ rfl
  | .heartbeat f => (execHeartbeat_fr f s (.refl s)).nextOnly ⟨_, rfl⟩ rfl
  | .mirrorFrame f last => (execMirrorFrame_fr f last s (.refl s)).nextOnly ⟨_, rfl⟩ rfl
  | .readRequest f errs => (execReadRequest_fr f errs s (.refl s)).nextOnly ⟨_, rfl⟩ rfl
  | .writeRequest f => (execWriteRequest_fr f s (.refl s)).nextOnly ⟨_, rfl⟩ rfl
  | .migrateFrame f tagOk => (execMigrateFrame_fr f tagOk s (.refl s)).nextOnly ⟨_, rfl⟩ rfl
  | .credit f => (execCredit_fr f s (.refl s)).nextOnly ⟨_, rfl⟩ rfl
  | .fenceFrame f => (execFenceFrame_fr f s (.refl s)).nextOnly ⟨_, rfl⟩ rfl
  | .fabricFrameSend l => (execFabricFrameSend_fr l s (.refl s)).nextOnly ⟨_, rfl⟩ rfl
  | .heartbeatSend l => (execHeartbeatSend_fr l s (.refl s)).nextOnly ⟨_, rfl⟩ rfl
  | .linkLost l => (execLinkLost_fr l s (.refl s)).nextOnly ⟨_, rfl⟩ rfl
  | .retransmitTimeout l => (execRetransmitTimeout_fr l s (.refl s)).nextOnly ⟨_, rfl⟩ rfl
  | .creditFrameSend l => (execCreditFrameSend_fr l s (.refl s)).nextOnly ⟨_, rfl⟩ rfl
  | .sentNoteFlush => (execSentNoteFlush_fr s (.refl s)).nextOnly ⟨_, rfl⟩ rfl
  | .attachCheck j ctxs exact major minor => (execAttachCheck_fr j ctxs exact major minor s (.refl s)).nextOnly ⟨_, rfl⟩ rfl
  | .fenceRepeat j => (execFenceRepeat_fr j s (.refl s)).nextOnly ⟨_, rfl⟩ rfl
  | .fenceSlow j => (execFenceSlow_fr j s (.refl s)).nextOnly ⟨_, rfl⟩ rfl
  | .directLinkEvidence j => (execDirectLinkEvidence_fr j s (.refl s)).nextOnly ⟨_, rfl⟩ rfl
  | .slotInstalled j tagOks => (execSlotInstalled_fr j tagOks s (.refl s)).nextOnly ⟨_, rfl⟩ rfl
  | .ingressLogExpiry j => (execIngressLogExpiry_fr j s (.refl s)).nextOnly ⟨_, rfl⟩ rfl
  | .gratuitousAnnounce j n => (execGratuitousAnnounce_fr j n s (.refl s)).nextOnly ⟨_, rfl⟩ rfl
  | .takeover j => (execTakeover_fr j s (.refl s)).nextOnly ⟨_, rfl⟩ rfl
  | .force j => (execForce_fr j s (.refl s)).nextOnly ⟨_, rfl⟩ rfl
  | .twLinkDataAccess write v => (execTwLinkDataAccess_fr write v s (.refl s)).nextOnly ⟨_, rfl⟩ rfl
  | .twKeyDataWrite v => (execTwKeyDataWrite_fr v s (.refl s)).nextOnly ⟨_, rfl⟩ rfl
  | .epochSwitch => (execEpochSwitch_fr s (.refl s)).nextOnly ⟨_, rfl⟩ rfl
  | .hpWinDataWrite v => (execHpWinDataWrite_fr v s (.refl s)).nextOnly ⟨_, rfl⟩ rfl
  | .cacheWayDisable v => (execCacheWayDisable_fr v s (.refl s)).nextOnly ⟨_, rfl⟩ rfl
  | .epPortResetWrite p => (execEpPortResetWrite_fr p s (.refl s)).nextOnly ⟨_, rfl⟩ rfl
  | .epPhyCfgWrite p v => (execEpPhyCfgWrite_fr p v s (.refl s)).nextOnly ⟨_, rfl⟩ rfl
  | .anRestart p => (execAnRestart_fr p s (.refl s)).nextOnly ⟨_, rfl⟩ rfl
  | .tsHwmRestart p => (execTsHwmRestart_fr p s (.refl s)).nextOnly ⟨_, rfl⟩ rfl
  | .mgListenEndWrite => (execMgListenEndWrite_fr s (.refl s)).nextOnly ⟨_, rfl⟩ rfl
  | .syncCmd => (execSyncCmd_fr s (.refl s)).nextOnly ⟨_, rfl⟩ rfl
  | .speedMinRestart => (execSpeedMinRestart_fr s (.refl s)).nextOnly ⟨_, rfl⟩ rfl
  | .faultInject k kind => (execFaultInject_fr k kind s (.refl s)).nextOnly ⟨_, rfl⟩ rfl
  | .clrCnt k => (execClrCnt_fr k s (.refl s)).nextOnly ⟨_, rfl⟩ rfl
  | .poolHwmRestart => (execPoolHwmRestart_fr s (.refl s)).nextOnly ⟨_, rfl⟩ rfl
  | .clrHist q => (execClrHist_fr q s (.refl s)).nextOnly ⟨_, rfl⟩ rfl
  | .rkHwmRestart => (execRkHwmRestart_fr s (.refl s)).nextOnly ⟨_, rfl⟩ rfl
  | .jobsHwmRestart => (execJobsHwmRestart_fr s (.refl s)).nextOnly ⟨_, rfl⟩ rfl
  | .fifoHwmRestart => (execFifoHwmRestart_fr s (.refl s)).nextOnly ⟨_, rfl⟩ rfl
  | .powerPeakRestart => (execPowerPeakRestart_fr s (.refl s)).nextOnly ⟨_, rfl⟩ rfl
  | .coreReset k => (execCoreReset_fr k s (.refl s)).nextOnly ⟨_, rfl⟩ rfl
  | .clearFaultHistory k => (execClearFaultHistory_fr k s (.refl s)).nextOnly ⟨_, rfl⟩ rfl
  | .firstClear => (execFirstClear_fr s (.refl s)).nextOnly ⟨_, rfl⟩ rfl
  | .logClr c => (execLogClr_fr c s (.refl s)).nextOnly ⟨_, rfl⟩ rfl
  | .arbRestart c => (execArbRestart_fr c s (.refl s)).nextOnly ⟨_, rfl⟩ rfl
  | .clPatchDataRead c => (execClPatchDataRead_fr c s (.refl s)).nextOnly (execClPatchDataRead_next c s) rfl
  | .clusterReset c => (execClusterReset_fr c s (.refl s)).nextOnly ⟨_, rfl⟩ rfl
  | .clusterResetEnd c cores cps vectors => (execClusterResetEnd_fr c cores cps vectors s (.refl s)).nextOnly (execClusterResetEnd_next c cores cps vectors s) rfl
  | .warmReset key => (execWarmReset_fr key s (.refl s)).nextOnly ⟨_, rfl⟩ rfl
  | .warmDone tests => (execWarmDone_fr tests s (.refl s)).nextOnly ⟨_, rfl⟩ rfl
  | .powerOnReset straps => (execPowerOnReset_fr straps s (.refl s)).nextOnly ⟨_, rfl⟩ rfl
  | .sysReset straps => (execSysReset_fr straps s (.refl s)).nextOnly ⟨_, rfl⟩ rfl
  | .perst straps => (execPerst_fr straps s (.refl s)).nextOnly ⟨_, rfl⟩ rfl
  | .bootReady tests lanes => (execBootReady_fr tests lanes s (.refl s)).nextOnly ⟨_, rfl⟩ rfl
  | .qspiBootLoad image sig => (execQspiBootLoad_fr image sig s (.refl s)).nextOnly ⟨_, rfl⟩ rfl
  | .undervolt j => (execUndervolt_fr j s (.refl s)).nextOnly ⟨_, rfl⟩ rfl
  | .pwrOkFall => (execPwrOkFall_fr s (.refl s)).nextOnly ⟨_, rfl⟩ rfl
  | .liveLost => (execLiveLost_fr s (.refl s)).nextOnly ⟨_, rfl⟩ rfl
  | .liveBack => (execLiveBack_fr s (.refl s)).nextOnly ⟨_, rfl⟩ rfl
  | .egressStopped => (execEgressStopped_fr s (.refl s)).nextOnly ⟨_, rfl⟩ rfl
  | .mailboxNop => (execMailboxNop_fr s (.refl s)).nextOnly ⟨_, rfl⟩ rfl
  | .getVersion => (execGetVersion_fr s (.refl s)).nextOnly ⟨_, rfl⟩ rfl
  | .lanternChOpen => (execLanternChOpen_fr s (.refl s)).nextOnly ⟨_, rfl⟩ rfl
  | .lanternChClose => (execLanternChClose_fr s (.refl s)).nextOnly ⟨_, rfl⟩ rfl
  | .chSetIp => (execChSetIp_fr s (.refl s)).nextOnly ⟨_, rfl⟩ rfl
  | .chGain => (execChGain_fr s (.refl s)).nextOnly ⟨_, rfl⟩ rfl
  | .chEc => (execChEc_fr s (.refl s)).nextOnly ⟨_, rfl⟩ rfl
  | .chStats => (execChStats_fr s (.refl s)).nextOnly ⟨_, rfl⟩ rfl
  | .evtRead => (execEvtRead_fr s (.refl s)).nextOnly ⟨_, rfl⟩ rfl
  | .mailboxCompletion => (execMailboxCompletion_fr s (.refl s)).nextOnly ⟨_, rfl⟩ rfl
  | .lnMbxStatRead => (execLnMbxStatRead_fr s (.refl s)).nextOnly ⟨_, rfl⟩ rfl
  | .rcRead a => (execRcRead_fr a s (.refl s)).nextOnly ⟨_, rfl⟩ rfl
  | .counterLowWordRead a => (execCounterLowWordRead_fr a s (.refl s)).nextOnly (execCounterLowWordRead_next a s) rfl
  | .registerWrite a v => (execRegisterWrite_fr a v s (.refl s)).nextOnly ⟨_, rfl⟩ rfl
  | .tdClkReturn h => (execTdClkReturn_fr h s (.refl s)).nextOnly (execTdClkReturn_next h s) rfl
  | .beacon => (execBeacon_fr s (.refl s)).nextOnly ⟨_, rfl⟩ rfl
  | .msixUnmask v => (execMsixUnmask_fr v s (.refl s)).nextOnly ⟨_, rfl⟩ rfl
  | .interfaceIdle => (execInterfaceIdle_fr s (.refl s)).nextOnly ⟨_, rfl⟩ rfl
  | .hostSuspend e n input dict => (execHostSuspend_fr e n input dict s (.refl s)).nextOnly ⟨_, rfl⟩ rfl
  | .evacuateFenceRepeat => (execEvacuateFenceRepeat_fr s (.refl s)).nextOnly ⟨_, rfl⟩ rfl
  | .undervoltEnd j => (execUndervoltEnd_fr j s (.refl s)).nextOnly ⟨_, rfl⟩ rfl
  | .pcieLinkUp speed width => (execPcieLinkUp_fr speed width s (.refl s)).nextOnly ⟨_, rfl⟩ rfl

/-! ### The queue -/

theorem exec_next_pending (i : Instr) (s : State) : ∃ t, exec i s = .next t ∧ t.pending = s.pending := by
  obtain ⟨t, ht, honly⟩ := exec_nextOnly i s
  exact ⟨t, ht, honly.1⟩

theorem step_of_pending_eq_cons {s : State} {c : Instr} {r : List Instr} (h : s.pending = c :: r) : step s = exec c { s with pending := r } := by
  unfold step
  rw [h]

theorem step_of_pending_eq_nil {s : State} (h : s.pending = []) : step s = .next s.idle := by
  unfold step
  rw [h]

theorem step_next (s : State) : ∃ t, step s = .next t := by
  cases h : s.pending with
  | nil => exact ⟨_, step_of_pending_eq_nil h⟩
  | cons c r =>
    obtain ⟨t, ht, -⟩ := exec_next_pending c { s with pending := r }
    exact ⟨t, (step_of_pending_eq_cons h).trans ht⟩

theorem run_succ_of_step {s t : State} (h : step s = .next t) (n : Nat) : run (n + 1) s = run n t := by
  rw [run, h]

/-- Settles O5: a command's frame lemma names the parts that it may write, and `writes` lists them all. -/
theorem commandsChangeOnlyTheirParts : Obligations.CommandsChangeOnlyTheirParts := by
  unfold Obligations.CommandsChangeOnlyTheirParts
  intro i s t h
  obtain ⟨u, hu, honly⟩ := exec_nextOnly i s
  rwa [Host.Outcome.next.inj (h.symm.trans hu)]

/-- Settles O1: the step is defined by the front of the queue. -/
theorem stepRunsTheFrontCommand : Obligations.StepRunsTheFrontCommand := by
  unfold Obligations.StepRunsTheFrontCommand
  exact fun s c r h => step_of_pending_eq_cons h

/-- Settles O3, by induction on the number of steps: a step takes one command off the queue, and that command puts none there. -/
theorem queueIsFirstInFirstOut : Obligations.QueueIsFirstInFirstOut := by
  unfold Obligations.QueueIsFirstInFirstOut
  intro n
  induction n with
  | zero => exact fun s _ => ⟨s, rfl, rfl⟩
  | succ n ih =>
    intro s hn
    cases h : s.pending with
    | nil => simp [h] at hn
    | cons c r =>
      obtain ⟨u, hu, hp⟩ := exec_next_pending c { s with pending := r }
      obtain ⟨t, ht, hq⟩ := ih u (by rw [hp]; simpa [h] using hn)
      refine ⟨t, (run_succ_of_step ((step_of_pending_eq_cons h).trans hu) n).trans ht, ?_⟩
      rw [hq, hp]
      rfl

/-- Settles O4, by induction on the number of steps: every step of every state answers a next state. -/
theorem everyRunIsSafe : Obligations.EveryRunIsSafe := by
  unfold Obligations.EveryRunIsSafe Safe
  intro s n
  induction n generalizing s with
  | zero => exact ⟨s, rfl⟩
  | succ n ih =>
    obtain ⟨u, hu⟩ := step_next s
    obtain ⟨t, ht⟩ := ih u
    exact ⟨t, (run_succ_of_step hu n).trans ht⟩

end Sys2Proof.Machine
end

section
/-! ## Offsets of BAR0 that hold no register (R2, R375, R509) -/
namespace Sys2Proof.Machine

-- One declaration is checked at a time, so that the text with all its files is checked in bounded memory.
set_option Elab.async false

theorem instOf_eq_some {base stride n a i : Nat} (h : instOf base stride n a = some i) : a = base + i * stride ∧ i < n := by
  unfold instOf at h
  split at h
  case isTrue hc =>
    obtain ⟨hbase, hmod, hlt⟩ := hc
    obtain rfl := Option.some.inj h
    have hdiv := Nat.div_add_mod' (a - base) stride
    exact ⟨by omega, hlt⟩
  case isFalse => cases h

/-- The registers whose write is taken as a whole (R376, R511), but for the rings' and the bitstream channels'. -/
def takenWhole : List Nat :=
  [R.HI_NUDGE, R.HP_WIN_DATA, R.HP_CACHE_WAYS, R.CP_ADJ, R.TD_SLOT_DATA, R.BS_COEF_DATA, R.TW_LINK_DATA, R.TW_KEY_DATA, R.MG_WAKE_DATA, R.LN_MBX_CMD]

theorem fieldsAt_takenWhole : ∀ a ∈ takenWhole, fieldsAt a ≠ none := by decide +kernel

theorem fieldsIn_ne_none {r : RSpec} {a : Nat} {l : List RSpec} (hr : r ∈ l) (hit : r.hit a ≠ none) : fieldsIn a l ≠ none := by
  induction l with
  | nil => cases hr
  | cons x l ih =>
    rw [fieldsIn]
    split
    · exact Option.some_ne_none _
    · next hx =>
      rcases List.mem_cons.1 hr with rfl | hr
      · exact absurd hx hit
      · exact ih hr

/-- A row of the register map that begins at `base` has `n` registers `stride` apart. -/
def RSpec.isRow (base stride n : Nat) (r : RSpec) : Bool :=
  r.base = base && r.stride2 = stride && r.count2 = n && decide (0 < r.count1) && decide (n * stride ≤ r.stride1)

theorem RSpec.hit_of_isRow {r : RSpec} {base stride n i : Nat} (hr : r.isRow base stride n = true) (hs : 0 < stride) (hi : i < n) :
    r.hit (base + i * stride) ≠ none := by
  simp only [RSpec.isRow, Bool.and_eq_true, decide_eq_true_eq] at hr
  obtain ⟨⟨⟨⟨rfl, rfl⟩, rfl⟩, hc⟩, hn⟩ := hr
  have hlt : i * r.stride2 < r.stride1 := Nat.lt_of_lt_of_le (Nat.mul_lt_mul_of_pos_right hi hs) hn
  unfold RSpec.hit
  rw [if_neg (by omega), Nat.add_sub_cancel_left, Nat.div_eq_of_lt hlt, Nat.mod_eq_of_lt hlt]
  dsimp only
  rw [Nat.mul_div_cancel _ hs, Nat.mul_mod_left, if_pos ⟨hc, hi, rfl⟩]
  exact Option.some_ne_none _

theorem fieldsAt_of_isRow {base stride n i : Nat} {l : List RSpec} (hl : specsAt (base + i * stride) = l) (hr : l.any (RSpec.isRow base stride n) = true)
    (hs : 0 < stride) (hi : i < n) : fieldsAt (base + i * stride) ≠ none := by
  obtain ⟨r, hmem, hrow⟩ := List.any_eq_true.1 hr
  rw [fieldsAt, hl]
  exact fieldsIn_ne_none hmem (RSpec.hit_of_isRow hrow hs hi)

theorem fieldsAt_HI_RCFG {r : Nat} (hr : r < 64) : fieldsAt (0x20108 + r * 16) ≠ none := by
  refine fieldsAt_of_isRow (l := specsHI) (n := 64) ?_ (by decide) (by decide) hr
  unfold specsAt
  rw [if_neg (by omega), if_neg (by omega), if_pos (by omega)]

theorem fieldsAt_BS_CH {b : Nat} (hb : b < 256) : fieldsAt (0xc0400 + b * 4) ≠ none := by
  refine fieldsAt_of_isRow (l := specsBS) (n := 256) ?_ (by decide) (by decide) hb
  unfold specsAt
  repeat rw [if_neg (by omega)]
  rw [if_pos (by omega)]

/-- A write is taken as a whole only where a register stands. -/
theorem State.writeData_of_no_register (s : State) {a : Nat} (v : Nat) (h : fieldsAt a = none) : s.writeData a v = none := by
  refine s.writeData_eq_none v (fun ha => fieldsAt_takenWhole a ha h) ?_ ?_ <;> refine Option.eq_none_iff_forall_ne_some.2 fun i hi => ?_
  · obtain ⟨rfl, hlt⟩ := instOf_eq_some hi
    exact fieldsAt_HI_RCFG hlt h
  · obtain ⟨rfl, hlt⟩ := instOf_eq_some hi
    exact fieldsAt_BS_CH hlt h

theorem State.writeReg_of_no_register (s : State) {a : Nat} (v : Nat) (ha : a < 0x1000000) (h : fieldsAt a = none ∨ s.regAnswers a = false) :
    s.writeReg a v = s := by
  unfold State.writeReg
  rw [if_neg (show ¬(0x4001000 ≤ a ∧ a < 0x4001400 ∧ a % 4 = 0) by omega)]
  rcases h with h | h
  · rw [s.writeData_of_no_register v h, h]
    simp only [ite_self]
  · rw [if_pos h, ite_self]

theorem State.readReg_of_no_register (s : State) {a : Nat} (ha : a < 0x1000000) (h : fieldsAt a = none ∨ s.regAnswers a = false) :
    s.readReg a = { s with lastRead := 0 } := by
  have hval : s.regValue a = 0 := by
    unfold State.regValue
    rw [if_neg (show ¬(0x4001000 ≤ a ∧ a < 0x4002000) by omega)]
    rcases h with h | h <;> simp [h]
  unfold State.readReg
  rw [hval]
  rcases h with h | h <;> simp [h]

/-- The cluster and core registers of clusters 8 to 15 do not answer on a ZG4096 (R2). -/
theorem State.regAnswers_eq_false_of_small (s : State) {a : Nat} (hs : s.fuse.small = true)
    (ha : 0x280000 ≤ a ∧ a < 0x300000 ∨ 0x448000 ≤ a ∧ a < 0x490000) : s.regAnswers a = false := by
  have : smallOff a = true := by
    simp only [smallOff, Bool.or_eq_true, Bool.and_eq_true, decide_eq_true_eq]
    omega
  simp [State.regAnswers, hs, this]

/-- The four ranges of R509 lie outside every region of the map. -/
theorem fieldsAt_eq_none_of_range {a : Nat}
    (ha : 0x0E0000 ≤ a ∧ a < 0x100000 ∨ 0x140000 ≤ a ∧ a < 0x200000 ∨ 0x300000 ≤ a ∧ a < 0x400000 ∨ 0x490000 ≤ a ∧ a < 0x1000000) :
    fieldsAt a = none := by
  have hspecs : specsAt a = [] := by
    unfold specsAt
    repeat rw [if_neg (by omega)]
  rw [fieldsAt, hspecs, fieldsIn]

theorem Only.mono {ps qs : List Part} {s t : State} (h : Only ps s t) (hsub : ∀ p ∈ ps, p ∈ qs) : Only qs s t :=
  ⟨h.1, fun p hp => h.2 p fun hm => hp (hsub p hm)⟩

/-- The value of a bad read is 0. -/
def State.badRead (s : State) (w : Bool) : State := if w then s else { s with lastRead := 0 }

theorem State.badRead_only (s : State) (w : Bool) : Only [.lastRead] s (s.badRead w) := by
  cases w
  · refine ⟨rfl, fun p hp => ?_⟩
    cases p
    case lastRead => exact absurd (List.mem_singleton_self _) hp
    all_goals rfl
  · exact .refl _ _

theorem exec_badAccess (s : State) (bar : Fin 3) (ofs : BitVec 24) (en : BitVec 8) (w : Bool) :
    exec (.badAccess bar ofs en w) s = .next ((s.badRead w).raise .warn 0x02 0 0x00F3 ofs.toNat (2 * bar.val) en.toNat) := rfl

/-- A bad access is reported, and leaves the registers outside RL_ alone (R375). -/
theorem State.badRead_raise (s : State) (w : Bool) (a0 a1 a2 : Nat) :
    let t := (s.badRead w).raise .warn 0x02 0 0x00F3 a0 a1 a2
    t.lastRead = (if w then s.lastRead else 0) ∧ Only [.regs, .rl, .lastRead] s t ∧ FldsButRl [] s t := by
  obtain ⟨honly, hflds⟩ := State.raise_warn_reportsOnly (s.badRead w) 0x02 0 0x00F3 a0 a1 a2
  refine ⟨?_, ((s.badRead_only w).mono (by decide)).trans (honly.mono (by decide)), ?_⟩
  · rw [honly.2 .lastRead (by decide)]
    cases w <;> rfl
  · cases w <;> exact hflds

/-- Settles O10: no register stands there, or none that answers, so that no branch of the write and no effect of the read is taken. -/
theorem unassignedOffsets : Obligations.UnassignedOffsets := by
  unfold Obligations.UnassignedOffsets
  refine ⟨fun s a v ha h => ?_, fun a ha => fieldsAt_eq_none_of_range ha, fun s bar ofs en w => ?_⟩
  · have hno : fieldsAt a.toNat = none ∨ s.regAnswers a.toNat = false := h.imp_right fun ⟨hs, hr⟩ => s.regAnswers_eq_false_of_small hs hr
    exact ⟨congrArg Host.Outcome.next (s.readReg_of_no_register ha hno), congrArg Host.Outcome.next (s.writeReg_of_no_register _ ha hno)⟩
  · exact ⟨_, exec_badAccess s bar ofs en w, s.badRead_raise w _ _ _⟩

end Sys2Proof.Machine
end

section
/-! ## Link records, keys and the epoch (R411, R412) -/
namespace Sys2Proof.Machine

-- One declaration is checked at a time, so that the text with all its files is checked in bounded memory.
set_option Elab.async false

/-! ### Links read back -/

@[simp] theorem State.link_setLink_same (s : State) (l : Nat) (x : Link) : (s.setLink l x).link l = x := mget_mset_same ..

@[simp] theorem State.link_setFld (s : State) (f : Fld) (v l : Nat) : (s.setFld f v).link l = s.link l := rfl

theorem State.linkState_link (s : State) (l st : Nat) : (s.linkState l st).link l = { s.link l with state := st } := by
  unfold State.linkState
  simp

theorem Link.word_put_same (x : Link) (i v : Nat) : { x with words := mput x.words i v }.word i = v := by
  simp [Link.word]

/-- Word 0 of a record assigns its low 20 bits: the peer, EN and the ports. -/
theorem bits_linkMask_zero (v : Nat) : bits (v &&& linkMask 0) 0 14 = bits v 0 14 := by
  refine Nat.eq_of_testBit_eq fun j => ?_
  rw [testBit_bits, testBit_bits, Nat.testBit_and, show linkMask 0 = 2 ^ 20 - 1 from rfl, Nat.testBit_two_pow_sub_one]
  by_cases hj : j < 14 <;> simp [hj]
  omega

theorem bit_linkMask_zero (v : Nat) : bit (v &&& linkMask 0) 14 = bit v 14 := by
  rw [bit_eq_testBit, bit_eq_testBit, Nat.testBit_and, show linkMask 0 = 2 ^ 20 - 1 from rfl, Nat.testBit_two_pow_sub_one]
  simp

/-! ### Writes of TW_LINK_DATA (R412) -/

/-- An access ends with the next word selected. -/
def State.nextLinkWord (s : State) (i : Nat) : State := s.setFld F.TW_LINK_SEL_WORD ((i + 1) % 16)

theorem State.nextLinkWord_results (s : State) (i : Nat) : (s.nextLinkWord i).fld F.TW_LINK_SEL_WORD = (i + 1) % 16
    ∧ FldsBut [F.TW_LINK_SEL_WORD] s (s.nextLinkWord i) ∧ (s.nextLinkWord i).tw = s.tw := by
  refine ⟨(State.fld_setFld_same ..).trans (Nat.mod_mod _ _), fun g hg => ?_, rfl⟩
  exact State.fld_setFld_ne _ _ _ _ (hg _ (List.mem_singleton_self _))

theorem exec_twLinkDataAccess_read (s : State) (v : BitVec 32) : exec (.twLinkDataAccess false v) s
    = .next (({ s with lastRead := (s.link (s.fld F.TW_LINK_SEL_LINK)).show (s.fld F.TW_LINK_SEL_WORD) } : State).nextLinkWord
        (s.fld F.TW_LINK_SEL_WORD)) := rfl

theorem exec_twLinkDataAccess_write (s : State) (v : BitVec 32) : exec (.twLinkDataAccess true v) s
    = .next ((s.linkWrite (s.fld F.TW_LINK_SEL_LINK) (s.fld F.TW_LINK_SEL_WORD) v.toNat).nextLinkWord (s.fld F.TW_LINK_SEL_WORD)) := rfl

theorem State.linkWrite_readOnly (s : State) (l v : Nat) {i : Nat} (hi : 14 ≤ i) : s.linkWrite l i v = s := by
  unfold State.linkWrite
  rw [if_neg (show i ≠ 0 by omega), if_pos hi]

theorem State.tw_configRefused (s : State) (a lo : Nat) : (s.configRefused a lo).tw = s.tw :=
  (State.configRefused_reportsOnly s a lo).1.2 .tw (by decide)

/-- The words of an enabled link, word 0 left out, keep their values. -/
theorem State.linkWrite_enabled {s : State} {l i : Nat} (v : Nat) (hi : 1 ≤ i) (hen : (s.link l).en = true) : (s.linkWrite l i v).tw = s.tw := by
  by_cases h14 : 14 ≤ i
  · rw [s.linkWrite_readOnly l v h14]
  · unfold State.linkWrite
    dsimp only
    rw [if_neg (show i ≠ 0 by omega), if_neg h14, if_pos hen, State.tw_configRefused]

/-- A word of a disabled link takes the bits that it assigns. -/
theorem State.linkWrite_word {s : State} {l i v : Nat} (hi : 1 ≤ i) (h14 : i < 14) (hen : (s.link l).en = false)
    (hbad : linkReserved i (v &&& linkMask i) = []) : ((s.linkWrite l i v).link l).word i = v &&& linkMask i := by
  unfold State.linkWrite
  simp only [show i ≠ 0 by omega, Nat.not_le.2 h14, if_false, hen, Bool.false_eq_true, hbad, List.foldl_nil,
    State.link_setLink_same, Link.word_put_same]

/-- Another enabled link has the peer. -/
def State.peerTaken (s : State) (l peer : Nat) : Bool :=
  (List.range 64).any fun k => k ≠ l && (s.link k).en && decide ((s.link k).peer = peer)

theorem State.linkWord0_enable {s : State} {l v : Nat} (hen : (s.link l).en = false) (hv : bit v 14 = true)
    (hdup : s.peerTaken l (bits v 0 14) = false) :
    (s.linkWord0 l v).link l = { ({ s.link l with words := mput (s.link l).words 0 v } : Link).restart s.elapsed with state := 1 } := by
  unfold State.peerTaken at hdup
  unfold State.linkWord0
  simp only [hdup, hv, hen, Bool.false_eq_true, and_false, if_false, and_self, if_true, State.linkState_link, State.link_setLink_same]
  rfl

theorem State.linkWord0_disable {s : State} {l v : Nat} (hen : (s.link l).en = true) (hv : bit v 14 = false) :
    (s.linkWord0 l v).link l = { s.link l with words := mput (s.link l).words 0 v, state := 0 } := by
  unfold State.linkWord0
  simp only [hv, hen, Bool.false_eq_true, Bool.true_eq_false, false_and, if_false, and_self, if_true, State.linkState_link,
    State.link_setLink_same]

/-! ### Keys and the epoch (R411) -/

/-- A link at a switch of the epoch: its nonces start anew, and what it heard belongs to the epoch before. -/
def Link.switched (x : Link) : Link := { x with txc := 0, rxPrev := x.rxCur, rxCur := none }

/-- A function that keeps the default applied to every entry of a map. -/
theorem mget_map {α β : Type} (f : α → β) (d : α) (m : SMap α) (k : Nat) :
    mget (f d) (m.map fun e => (e.1, f e.2)) k = f (mget d m k) := by
  have : mfind (m.map fun e => (e.1, f e.2)) k = (mfind m k).map f := by
    induction m with
    | nil => rfl
    | cons e r ih =>
      simp only [List.map_cons, mfind]
      split
      · rfl
      · exact ih
  rw [mget, mget, this]
  cases mfind m k <;> rfl

/-- The fabric after a switch of the epoch. -/
def State.switchedFabric (s : State) : State :=
  { s with tw := { s.tw with
    link := s.tw.link.map fun e => (e.1, e.2.switched), keyPrev := s.tw.keyCur, keyCur := s.tw.keyNext, keyNext := [], switchAt := some s.elapsed } }

theorem State.link_switchedFabric (s : State) (k : Nat) : s.switchedFabric.link k = (s.link k).switched :=
  mget_map Link.switched Link.init s.tw.link k

theorem exec_epochSwitch_eq {s : State} (h : s.flag F.TW_STATUS_KEY_NEXT = true) : exec .epochSwitch s
    = .next (((s.switchedFabric.setFld F.TW_EPOCH_CUR ((s.fld F.TW_EPOCH_CUR + 1) % 256)).setFlag F.TW_STATUS_KEY_NEXT false).setFlag
        F.TW_EVENT_EPOCH_SWITCH true) := by
  show Host.Outcome.next s.epochSwitch = _
  unfold State.epochSwitch
  rw [if_pos h]
  rfl

/-- A state that differs from `s` in the value of three fields. -/
theorem State.fldsBut_set3 (s : State) (f g h : Fld) (x y z : Nat) : FldsBut [f, g, h] s (((s.setFld f x).setFld g y).setFld h z) := fun k hk => by
  simp only [List.forall_mem_cons] at hk
  obtain ⟨hf, hg, hh, -⟩ := hk
  rw [State.fld_setFld_ne _ _ _ _ hh, State.fld_setFld_ne _ _ _ _ hg, State.fld_setFld_ne _ _ _ _ hf]

theorem exec_epochSwitch_results {s : State} (h : s.flag F.TW_STATUS_KEY_NEXT = true) : ∃ t, exec .epochSwitch s = .next t
    ∧ t.fld F.TW_EPOCH_CUR = (s.fld F.TW_EPOCH_CUR + 1) % 256
    ∧ t.tw.keyCur = s.tw.keyNext ∧ t.tw.keyPrev = s.tw.keyCur ∧ t.tw.keyNext = [] ∧ t.tw.switchAt = some s.elapsed ∧ t.fld F.TW_STATUS_KEY_NEXT = 0
    ∧ t.fld F.TW_EVENT_EPOCH_SWITCH = 1 ∧ (∀ k, (t.link k).txc = 0 ∧ (t.link k).rxPrev = (s.link k).rxCur ∧ (t.link k).rxCur = none)
    ∧ FldsBut [F.TW_EPOCH_CUR, F.TW_STATUS_KEY_NEXT, F.TW_EVENT_EPOCH_SWITCH] s t := by
  refine ⟨_, exec_epochSwitch_eq h, ?_, rfl, rfl, rfl, rfl, ?_, State.fld_setFlag_same _ _ _ (by decide), fun k => ?_,
    State.fldsBut_set3 s.switchedFabric _ _ _ _ _ _⟩
  · rw [State.fld_setFlag_ne _ _ _ _ (by decide), State.fld_setFlag_ne _ _ _ _ (by decide), State.fld_setFld_same]
    exact Nat.mod_mod _ _
  · rw [State.fld_setFlag_ne _ _ _ _ (by decide), State.fld_setFlag_same _ _ _ (by decide)]
    rfl
  · show (s.switchedFabric.link k).txc = 0 ∧ (s.switchedFabric.link k).rxPrev = _ ∧ (s.switchedFabric.link k).rxCur = none
    rw [s.link_switchedFabric k]
    exact ⟨rfl, rfl, rfl⟩

/-- The next key with one word written. -/
def State.keyWordWritten (s : State) (w v : Nat) : State :=
  { s with tw := { s.tw with keyNext := setAt (if s.tw.keyNext = [] then List.replicate 8 0 else s.tw.keyNext) w v } }

theorem exec_twKeyDataWrite_eq (s : State) (v : BitVec 32) : exec (.twKeyDataWrite v) s
    = .next ((if s.fld F.TW_KEY_SEL_WORD = 7 then (s.keyWordWritten (s.fld F.TW_KEY_SEL_WORD) v.toNat).setFlag F.TW_STATUS_KEY_NEXT true
        else s.keyWordWritten (s.fld F.TW_KEY_SEL_WORD) v.toNat).setFld F.TW_KEY_SEL_WORD ((s.fld F.TW_KEY_SEL_WORD + 1) % 8)) := rfl

theorem exec_twKeyDataWrite_results (s : State) (v : BitVec 32) : ∃ t, exec (.twKeyDataWrite v) s = .next t
    ∧ t.fld F.TW_KEY_SEL_WORD = (s.fld F.TW_KEY_SEL_WORD + 1) % 8
    ∧ t.tw = (s.keyWordWritten (s.fld F.TW_KEY_SEL_WORD) v.toNat).tw
    ∧ (s.fld F.TW_KEY_SEL_WORD = 7 → t.fld F.TW_STATUS_KEY_NEXT = 1) := by
  refine ⟨_, exec_twKeyDataWrite_eq s v, (State.fld_setFld_same ..).trans (Nat.mod_mod _ _), ?_, fun h7 => ?_⟩
  · split <;> rfl
  · rw [State.fld_setFld_ne _ _ _ _ (by decide), if_pos h7, State.fld_setFlag_same _ _ _ (by decide)]
    rfl

/-! ### The statement -/

theorem exec_twLinkDataAccess_results (s : State) (v : BitVec 32) {l i : Nat} (hl : s.fld F.TW_LINK_SEL_LINK = l)
    (hi : s.fld F.TW_LINK_SEL_WORD = i) : ∃ t, exec (.twLinkDataAccess true v) s = .next t ∧ t.fld F.TW_LINK_SEL_WORD = (i + 1) % 16
      ∧ (14 ≤ i → t.tw = s.tw) ∧ (1 ≤ i → (s.link l).en = true → t.tw = s.tw)
      ∧ (1 ≤ i → i < 14 → (s.link l).en = false → linkReserved i (v.toNat &&& linkMask i) = [] → (t.link l).word i = v.toNat &&& linkMask i)
      ∧ (i = 0 → (s.link l).en = false → bit v.toNat 14 = true → s.peerTaken l (bits v.toNat 0 14) = false →
          (t.link l).en = true ∧ (t.link l).state = 1 ∧ (t.link l).seq = 0 ∧ (t.link l).ack = 0 ∧ (t.link l).unacked = []
            ∧ (t.link l).peer = bits v.toNat 0 14)
      ∧ (i = 0 → (s.link l).en = true → bit v.toNat 14 = false → (t.link l).en = false ∧ (t.link l).state = 0) := by
  obtain ⟨hword, -, htw⟩ := (s.linkWrite l i v.toNat).nextLinkWord_results i
  have hlink : ((s.linkWrite l i v.toNat).nextLinkWord i).link l = (s.linkWrite l i v.toNat).link l := rfl
  have hw0 (h0 : i = 0) : s.linkWrite l i v.toNat = s.linkWord0 l (v.toNat &&& linkMask 0) := by rw [h0]; rfl
  have word0 (x : Link) (y : Nat) : Link.word { x with words := mput x.words 0 y } 0 = y := x.word_put_same 0 y
  subst hl hi
  refine ⟨_, exec_twLinkDataAccess_write s v, hword, fun h14 => ?_, fun h1 hen => htw.trans (State.linkWrite_enabled _ h1 hen),
    fun h1 h14 hen hbad => State.linkWrite_word h1 h14 hen hbad, fun h0 hen hv hdup => ?_, fun h0 hen hv => ?_⟩
  · rw [htw, State.linkWrite_readOnly _ _ _ h14]
  · rw [hlink, hw0 h0, State.linkWord0_enable hen (by rwa [bit_linkMask_zero]) (by rwa [bits_linkMask_zero])]
    refine ⟨?_, rfl, rfl, rfl, rfl, ?_⟩
    · exact (congrArg (bit · 14) (word0 _ _)).trans ((bit_linkMask_zero _).trans hv)
    · exact (congrArg (bits · 0 14) (word0 _ _)).trans (bits_linkMask_zero _)
  · rw [hlink, hw0 h0, State.linkWord0_disable hen (by rwa [bit_linkMask_zero])]
    exact ⟨(congrArg (bit · 14) (word0 _ _)).trans ((bit_linkMask_zero _).trans hv), rfl⟩

/-- Settles O53: word 0 starts or stops its link, the others store the bits that they assign; a switch of the epoch renews every link's
nonces. -/
theorem linkRecords : Obligations.LinkRecords := by
  unfold Obligations.LinkRecords
  intro s l i x
  refine ⟨fun v => ⟨?_, exec_twLinkDataAccess_results s v rfl rfl⟩, fun v _ => exec_twKeyDataWrite_results s v,
    exec_epochSwitch_results, fun h => ?_⟩
  · obtain ⟨hword, hbut, htw⟩ := State.nextLinkWord_results ({ s with lastRead := x.show i } : State) i
    exact ⟨_, exec_twLinkDataAccess_read s v, rfl, hword, hbut, htw⟩
  · exact congrArg Host.Outcome.next (if_neg (Bool.eq_false_iff.1 h))

end Sys2Proof.Machine
end

section
/-! ## Registers by block (R508): which blocks' fields an operation may write -/
namespace Sys2Proof.Machine

-- One declaration is checked at a time, so that the text with all its files is checked in bounded memory.
set_option Elab.async false

/-- The block of the register map in which a field stands: the number of its 64 KB below the clusters (0 GL_, 1 ST_, 2 HI_, 3 TH_, 4 HP_, 5 CP_,
6 RL_, 7 PW_, 8 RK_, 9 TW_, 10 MG_, 11 TD_, 12 BS_, 13 LM_, from 16 on the ports); 32 the clusters, 33 the cores, 34 what lies above. -/
def Fld.block (f : Fld) : Nat :=
  if f.key < 0x200000 * 8 then f.key / (0x10000 * 8) else if f.key < 0x400000 * 8 then 32 else if f.key < 0x2000000 * 8 then 33 else 34

/-- The states hold the same in every register field outside the blocks of the set `B`, whose bits are the blocks' numbers. -/
def RegFr (B : Nat) (s t : State) : Prop := ∀ g : Fld, B.testBit g.block = false → t.fld g = s.fld g

theorem Fld.key_ne_of_block {f g : Fld} (h : f.block ≠ g.block) : f.key ≠ g.key := fun hk => h (by simp only [Fld.block, hk])

theorem Fld.key_ne_of_testBit {B : Nat} {f g : Fld} (hf : B.testBit f.block = true) (hg : B.testBit g.block = false) : f.key ≠ g.key :=
  Fld.key_ne_of_block fun h => Bool.noConfusion ((hf.symm.trans (h ▸ rfl)).trans hg)

theorem outRl_of_block {g : Fld} (h : g.block ≠ 6) : outRl g = true := by
  rw [outRl_iff]
  unfold Fld.block at h
  split at h <;> omega

theorem outHi_of_block {g : Fld} (h : g.block ≠ 2) : outHi g = true := by
  simp only [outHi, Bool.or_eq_true, decide_eq_true_eq]
  unfold Fld.block at h
  split at h <;> omega

theorem block_ne_of_testBit {B b : Nat} {g : Fld} (hg : B.testBit g.block = false) (hb : B.testBit b = true) : g.block ≠ b := fun h =>
  Bool.noConfusion ((hb.symm.trans (h ▸ rfl)).trans hg)

theorem outRl_of_testBit {B : Nat} {g : Fld} (hg : B.testBit g.block = false) (hb : B.testBit 6 = true) : outRl g = true :=
  outRl_of_block (block_ne_of_testBit hg hb)

/-- A reset of an address range, but for the keys that are kept. -/
theorem State.fld_rstRegion_eq (s : State) (lo hi : Nat) (keep : Nat → Bool) (g : Fld) : (s.rstRegion lo hi keep).fld g
    = if (keep g.key || g.key < lo * 8 || hi * 8 ≤ g.key) = true then s.fld g else g.rst :=
  mget_mkeep g.rst (fun k => keep k || k < lo * 8 || hi * 8 ≤ k) s.regs g.key

namespace RegFr
variable {B : Nat} {s t u : State}

theorem refl (s : State) : RegFr B s s := fun _ _ => rfl

theorem trans (h : RegFr B s t) (h' : RegFr B t u) : RegFr B s u := fun g hg => (h' g hg).trans (h g hg)

theorem mono {A : Nat} (h : RegFr A s t) (hsub : partSub A B = true) : RegFr B s t := fun g hg =>
  h g (Bool.eq_false_iff.2 fun ha => Bool.noConfusion ((partSub_bit hsub ha).symm.trans hg))

/-- An operation that writes no registers. -/
theorem of_regs (h : t.regs = s.regs) : RegFr B s t := fun g _ => congrFun (State.fld_congr h) g

theorem setFld (h : RegFr B s t) {f : Fld} (v : Nat) (hf : B.testBit f.block = true) : RegFr B s (t.setFld f v) := fun g hg =>
  (State.fld_setFld_ne _ _ _ _ (Fld.key_ne_of_testBit hf hg)).trans (h g hg)

theorem setFlag (h : RegFr B s t) {f : Fld} (b : Bool) (hf : B.testBit f.block = true) : RegFr B s (t.setFlag f b) := h.setFld _ hf

theorem incW (h : RegFr B s t) {f : Fld} (n : Nat) (hf : B.testBit f.block = true) : RegFr B s (t.incW f n) := h.setFld _ hf

theorem incS (h : RegFr B s t) {f : Fld} (n : Nat) (hf : B.testBit f.block = true) (hrl : B.testBit 6 = true) : RegFr B s (t.incS f n) :=
  fun g hg => (State.fld_incS_ne _ _ _ _ (outRl_of_testBit hg hrl) (Fld.key_ne_of_testBit hf hg)).trans (h g hg)

theorem incWrap (h : RegFr B s t) {f : Fld} (n : Nat) (e : Bool) (hf : B.testBit f.block = true) (hrl : B.testBit 6 = true) :
    RegFr B s (t.incWrap f n e) := fun g hg =>
  (State.fld_incWrap _ _ _ _ _ (outRl_of_testBit hg hrl)).trans ((h.setFld _ hf) g hg)

/-- A report that is not about a cluster, or of INFO, WARN or FATAL, writes RL_ alone. -/
theorem raise (h : RegFr B s t) {cls : Cls} {src inst : Nat} (code a0 a1 a2 : Nat) (hrl : B.testBit 6 = true)
    (hc : clusterOf src inst = none ∨ cls = .info ∨ cls = .warn ∨ cls = .fatal) : RegFr B s (t.raise cls src inst code a0 a1 a2) := fun g hg =>
  (State.fld_raise _ _ _ _ _ _ _ _ _ (outRl_of_testBit hg hrl) hc).trans (h g hg)

theorem event (h : RegFr B s t) {f : Fld} (cls : Cls) (inst a0 a1 a2 : Nat) (hf : B.testBit f.block = true) (hrl : B.testBit 6 = true)
    (ha : f.addr < 0x200000) : RegFr B s (t.event f cls inst a0 a1 a2) := fun g hg =>
  (State.fld_event_ne _ _ _ _ _ _ _ _ (outRl_of_testBit hg hrl) ha (Fld.key_ne_of_testBit hf hg)).trans (h g hg)

theorem ite {p : Prop} [Decidable p] (h : RegFr B s t) (h' : RegFr B s u) : RegFr B s (if p then t else u) := by
  split <;> assumption

theorem foldl {α : Type} {f : State → α → State} {l : List α} (hf : ∀ (x : State) (a : α), a ∈ l → RegFr B s x → RegFr B s (f x a))
    (h : RegFr B s t) : RegFr B s (l.foldl f t) := by
  induction l generalizing t with
  | nil => exact h
  | cons a l ih => exact ih (fun x b hb => hf x b (List.mem_cons_of_mem _ hb)) (hf t a (List.mem_cons_self ..) h)

/-- Completions, ends of jobs and automatic triggers write HI_ and RL_. -/
theorem completeOpt (h : RegFr B s t) (o : Option Origin) (status detail : Nat) (vals : List Nat) (hB : partSub 0x44 B = true) :
    RegFr B s (t.completeOpt o status detail vals) := fun g hg =>
  (State.completeOpt_keeps_fld _ _ _ _ _ (enqFree_of_outRl (outRl_of_testBit hg (partSub_bit hB rfl)))
    (outHi_of_block (block_ne_of_testBit hg (partSub_bit hB rfl)))).trans (h g hg)

theorem complete (h : RegFr B s t) (o : Origin) (status detail : Nat) (vals : List Nat) (hB : partSub 0x44 B = true) :
    RegFr B s (t.complete o status detail vals) := h.completeOpt (some o) status detail vals hB

theorem endJob (h : RegFr B s t) (hnd status detail : Nat) (vals : List Nat) (hB : partSub 0x44 B = true) :
    RegFr B s (t.endJob hnd status detail vals) := fun g hg =>
  (State.endJob_keeps_fld _ _ _ _ _ (enqFree_of_outRl (outRl_of_testBit hg (partSub_bit hB rfl)))
    (outHi_of_block (block_ne_of_testBit hg (partSub_bit hB rfl)))).trans (h g hg)

theorem trigger (h : RegFr B s t) (target : Nat) (hB : partSub 0x44 B = true) : RegFr B s (t.trigger target) := fun g hg =>
  (State.trigger_keeps_fld _ _ (enqFree_of_outRl (outRl_of_testBit hg (partSub_bit hB rfl)))
    (outHi_of_block (block_ne_of_testBit hg (partSub_bit hB rfl)))).trans (h g hg)

/-- A reset of an address range within one block, but for the keys that are kept. -/
theorem rstRegion (h : RegFr B s t) (lo hi : Nat) (keep : Nat → Bool)
    (hr : ∀ g : Fld, lo * 8 ≤ g.key → g.key < hi * 8 → B.testBit g.block = true) : RegFr B s (t.rstRegion lo hi keep) := fun g hg => by
  refine ((t.fld_rstRegion_eq lo hi keep g).trans (if_pos ?_)).trans (h g hg)
  by_contra hn
  simp only [Bool.or_eq_true, decide_eq_true_eq, not_or, Nat.not_lt, Nat.not_le] at hn
  exact Bool.noConfusion (hg.symm.trans (hr g hn.1.2 hn.2))

end RegFr

/-- A field in a range that is reset holds its reset value, unless it is kept. -/
theorem State.fld_rstRegion_reset (s : State) {lo hi : Nat} {keep : Nat → Bool} {g : Fld} (hk : keep g.key = false) (hlo : lo * 8 ≤ g.key)
    (hhi : g.key < hi * 8) : (s.rstRegion lo hi keep).fld g = g.rst := by
  refine (s.fld_rstRegion_eq lo hi keep g).trans (if_neg ?_)
  simp only [hk, Bool.false_or, Bool.or_eq_true, decide_eq_true_eq]
  omega

/-- A field that is kept holds what it held when a range is reset. -/
theorem State.fld_rstRegion_keep (s : State) {lo hi : Nat} {keep : Nat → Bool} {g : Fld} (hk : keep g.key = true) :
    (s.rstRegion lo hi keep).fld g = s.fld g :=
  (s.fld_rstRegion_eq lo hi keep g).trans (if_pos (by simp only [hk, Bool.true_or]))

theorem Fld.block_of_low {g : Fld} {b : Nat} (hlo : b * 0x80000 ≤ g.key) (hhi : g.key < (b + 1) * 0x80000) (hb : b < 32) : g.block = b := by
  unfold Fld.block
  rw [if_pos (by omega)]
  omega

end Sys2Proof.Machine
end

section
/-! ## Resets of the device and of the host interface (R404, R480-R484, R491-R493) -/
namespace Sys2Proof.Machine

-- One declaration is checked at a time, so that the text with all its files is checked in bounded memory.
set_option Elab.async false

/-! ### The reset of the host interface (R404) -/

/-- The registers of HI_ that a reset of the interface keeps: the count of commands, and those that show the link. -/
def hiKept : List Fld :=
  [F.HI_CMD_LO_COUNT, F.HI_CMD_HI_COUNT, F.HI_PCIE_STAT_HOST_RESETS, F.HI_PCIE_STAT_LINK_UP, F.HI_PCIE_STAT_SPEED, F.HI_PCIE_STAT_WIDTH,
    F.HI_PCIE_STAT_BME, F.HI_PCIE_STAT_D3HOT]

theorem State.hiFields_eq (s : State) : s.hiFields
    = (s.rstRegion 0x20000 0x30000 ((hiKept.map Fld.key).contains ·)).setFld F.HI_JOBS_HWM s.hi.jobs.length := rfl

theorem State.hiClear_regs (s : State) (msix : Bool) : (s.hiClear msix).regs = s.hiFields.regs := rfl

/-- A field of HI_ that no reset of the interface keeps holds its reset value. -/
theorem State.hiClear_reset (s : State) (msix : Bool) {g : Fld} (hk : (hiKept.map Fld.key).contains g.key = false) (hj : F.HI_JOBS_HWM.key ≠ g.key)
    (hlo : 0x20000 * 8 ≤ g.key) (hhi : g.key < 0x30000 * 8) : (s.hiClear msix).fld g = g.rst := by
  rw [State.fld_congr (s.hiClear_regs msix), s.hiFields_eq, State.fld_setFld_ne _ _ _ _ hj]
  exact s.fld_rstRegion_reset hk hlo hhi

theorem State.hiClear_keep (s : State) (msix : Bool) {g : Fld} (hg : g ∈ hiKept) : (s.hiClear msix).fld g = s.fld g := by
  have hne : ∀ f ∈ hiKept, F.HI_JOBS_HWM.key ≠ f.key := by decide
  rw [State.fld_congr (s.hiClear_regs msix), s.hiFields_eq, State.fld_setFld_ne _ _ _ _ (hne g hg)]
  exact s.fld_rstRegion_keep (List.contains_iff_mem.2 (List.mem_map_of_mem hg))

theorem Fld.mbxRes_block {i : Nat} (h : i < 4) : (F.LN_MBX_RES_RES i).block = 34 := by
  interval_cases i <;> rfl

theorem State.mailboxResults_regFr (s : State) (l : List Nat) :
    RegFr 0x400000000 s ((List.range 4).foldl (fun t i => t.setFld (F.LN_MBX_RES_RES i) (nth l (1 + i))) s) :=
  RegFr.foldl (fun _ _ hi h => h.setFld _ (by rw [Fld.mbxRes_block (List.mem_range.1 hi)]; rfl)) (.refl s)

theorem State.mailboxFinish_regFr (s : State) : RegFr 0x400000000 s s.mailboxFinish := by
  unfold State.mailboxFinish
  split
  · exact .refl s
  · rename_i op l _
    have h := (RegFr.of_regs (B := 0x400000000) (s := s) (t := { s with ln := { s.ln with cmd := none } }) rfl).trans (State.mailboxResults_regFr _ l)
    exact ((((h.setFld _ (by rfl)).setFld _ (by rfl)).setFlag _ (by rfl)).setFlag _ (by rfl)).setFlag _ (by rfl)

theorem State.mailboxHostReset_regFr (s : State) : RegFr 0x400000000 s s.mailboxHostReset :=
  RegFr.setFlag (RegFr.setFlag (RegFr.setFlag (RegFr.ite s.mailboxFinish_regFr (.refl s)) _ (by rfl)) _ (by rfl)) _ (by rfl)

/-- A field of either of two states. -/
theorem State.fld_apply_ite {p : Prop} [Decidable p] (u v : State) (g : Fld) : (if p then u else v).fld g = if p then u.fld g else v.fld g :=
  apply_ite (State.fld · g) p u v

/-- The registers of HI_ that a reset of the interface sets by its cause. -/
def hostResetFlds : List Fld :=
  [F.HI_PCIE_STAT_HOST_RESETS, F.HI_PCIE_STAT_LINK_UP, F.HI_PCIE_STAT_SPEED, F.HI_PCIE_STAT_WIDTH, F.HI_PCIE_STAT_BME, F.HI_PCIE_STAT_D3HOT,
    F.HI_EVENT_HOST_RESET]

/-- What a reset of the interface leaves in a field that its cause does not set. -/
theorem State.hostReset_fld (s : State) (cause : Nat) {g : Fld} (hg : g.block = 2) (hn : ∀ f ∈ hostResetFlds, f.key ≠ g.key) :
    (s.hostReset cause).fld g = (s.hiClear (cause < 4)).fld g := by
  obtain ⟨h1, h2, h3, h4, h5, h6, h7⟩ : _ ∧ _ ∧ _ ∧ _ ∧ _ ∧ _ ∧ _ := by simpa [hostResetFlds] using hn
  unfold State.hostReset
  dsimp only
  rw [State.fld_raise _ _ _ _ _ _ _ _ _ (outRl_of_block (by omega)) (.inr (.inl rfl)), State.fld_setFlag_ne _ _ _ _ h7]
  simp only [State.fld_apply_ite, State.fld_setFlag_ne _ _ _ _ h2, State.fld_setFlag_ne _ _ _ _ h5, State.fld_setFlag_ne _ _ _ _ h6,
    State.fld_setFld_ne _ _ _ _ h3, State.fld_setFld_ne _ _ _ _ h4, ite_self, State.incW, State.fld_setFld_ne _ _ _ _ h1]
  exact (State.mailboxHostReset_regFr _) g (by rw [hg]; rfl)

/-- A reset of the interface leaves every ring disabled (R404). -/
theorem State.hostReset_ring (s : State) (cause : Nat) {r : Nat} (hr : r < 64) :
    (s.hostReset cause).ringState r = 0 ∧ (s.hostReset cause).fld (F.HI_RCFG_EN r) = 0 := by
  have state : (F.HI_RSTAT_STATE r).key = 0x20000 * 8 + (0x10c + r * 16) * 8 := by simp only [Fld.key, F.HI_RSTAT_STATE, R.HI_RSTAT]; omega
  have en : (F.HI_RCFG_EN r).key = 0x20000 * 8 + (0x108 + r * 16) * 8 := by simp only [Fld.key, F.HI_RCFG_EN, R.HI_RCFG]; omega
  have rst {g : Fld} (hrst : g.rst = 0) (hlo : 0x20108 * 8 ≤ g.key) (hhi : g.key < 0x20110 * 8 + 64 * 0x80) : (s.hostReset cause).fld g = 0 := by
    have low : ∀ f ∈ hostResetFlds ++ F.HI_JOBS_HWM :: hiKept, f.key < 0x20108 * 8 ∨ 0x20110 * 8 + 64 * 0x80 ≤ f.key := by decide
    have off : ∀ f ∈ hostResetFlds ++ F.HI_JOBS_HWM :: hiKept, f.key ≠ g.key := fun f hf => by have := low f hf; omega
    simp only [List.mem_append, List.mem_cons] at off
    rw [s.hostReset_fld cause (Fld.block_of_low (by omega) (by omega) (by omega)) fun f hf => off f (.inl hf),
      s.hiClear_reset _ ?_ (off _ (.inr (.inl rfl))) (by omega) (by omega), hrst]
    rw [← Bool.not_eq_true, List.contains_iff_mem, List.mem_map]
    exact fun ⟨f, hf, hk⟩ => off f (.inr (.inr hf)) hk
  exact ⟨rst rfl (by omega) (by omega), rst rfl (by omega) (by omega)⟩

theorem State.hostReset_event (s : State) (cause : Nat) : (s.hostReset cause).fld F.HI_EVENT_HOST_RESET = 1 := by
  unfold State.hostReset
  dsimp only
  rw [State.fld_raise _ _ _ _ _ _ _ _ _ rfl (.inr (.inl rfl)), State.fld_setFlag_same _ _ _ (by decide)]
  rfl

theorem State.hostReset_count (s : State) (cause : Nat) :
    (s.hostReset cause).fld F.HI_PCIE_STAT_HOST_RESETS = (s.fld F.HI_PCIE_STAT_HOST_RESETS + 1) % 2 ^ 8 := by
  have keep : ((s.hiClear (cause < 4)).mailboxHostReset).fld F.HI_PCIE_STAT_HOST_RESETS = s.fld F.HI_PCIE_STAT_HOST_RESETS :=
    ((State.mailboxHostReset_regFr _) _ rfl).trans (s.hiClear_keep _ (by simp [hiKept]))
  unfold State.hostReset
  dsimp only
  rw [State.fld_raise _ _ _ _ _ _ _ _ _ rfl (.inr (.inl rfl))]
  simp (disch := decide) only [State.fld_apply_ite, State.fld_setFlag_ne, State.fld_setFld_ne, ite_self, State.incW, State.fld_setFld_same, keep]
  rfl

/-- Only the causes that take the link down clear LINK_UP (R376). -/
theorem State.hostReset_link (s : State) (cause : Nat) :
    (s.hostReset cause).fld F.HI_PCIE_STAT_LINK_UP = if 1 ≤ cause ∧ cause ≤ 3 then 0 else s.fld F.HI_PCIE_STAT_LINK_UP := by
  have keep : ((s.hiClear (cause < 4)).mailboxHostReset).fld F.HI_PCIE_STAT_LINK_UP = s.fld F.HI_PCIE_STAT_LINK_UP :=
    ((State.mailboxHostReset_regFr _) _ rfl).trans (s.hiClear_keep _ (by simp [hiKept]))
  unfold State.hostReset
  dsimp only
  rw [State.fld_raise _ _ _ _ _ _ _ _ _ rfl (.inr (.inl rfl))]
  simp (disch := decide) only [State.fld_apply_ite, State.fld_setFlag_ne, State.fld_setFld_ne, ite_self, State.incW, State.fld_setFlag_same, keep]
  rfl

end Sys2Proof.Machine
end

section
/-! ## Cold resets (R480, R482, R484, R491) -/
namespace Sys2Proof.Machine

-- One declaration is checked at a time, so that the text with all its files is checked in bounded memory.
set_option Elab.async false

/-- A cold reset starts from the device's state at reset but for what stands outside it (R491). -/
theorem State.cold_parts (s : State) (cause straps : Nat) (power : Bool) :
    (s.cold cause straps power).chans = [] ∧ (s.cold cause straps power).cores = [] ∧ (s.cold cause straps power).hp.hbm = []
    ∧ (s.cold cause straps power).mem.csm = [] ∧ (s.cold cause straps power).hi.jobs = []
    ∧ (s.cold cause straps power).fuse = strapped s.fuse straps := by
  unfold State.cold
  dsimp only
  split <;> exact ⟨rfl, rfl, rfl, rfl, rfl, rfl⟩

/-- The fields of GL_ and PW_ that a cold reset leaves at values of its own, by their causes (R480, R490, R491). -/
theorem State.cold_flds (s : State) (cause straps : Nat) (power : Bool) :
    (s.cold cause straps power).mode = 0 ∧ (s.cold cause straps power).fld F.GL_RESET_CAUSE_LAST = cause % 8
    ∧ (s.cold cause straps power).fld F.PW_STATUS_PWR_OK = b2n power
    ∧ (s.cold cause straps power).fld F.GL_STATUS_LIVE = b2n (power && s.flag F.PW_STATUS_LIVE_EN)
    ∧ (s.cold cause straps power).fld F.GL_STRAP_BOOT = bits straps 0 2 := by
  have live (u : State) : (u.liveFollow).fld F.GL_STATUS_LIVE = b2n (u.flag F.PW_STATUS_PWR_OK && u.flag F.PW_STATUS_LIVE_EN) :=
    State.fld_setFlag_same _ _ _ (by decide)
  have other (u : State) {g : Fld} (hg : F.GL_STATUS_LIVE.key ≠ g.key) : u.liveFollow.fld g = u.fld g := State.fld_setFlag_ne _ _ _ _ hg
  have boot : bits straps 0 2 < 2 ^ F.GL_STRAP_BOOT.w := Nat.mod_lt _ (by decide)
  unfold State.cold State.mode
  dsimp only
  split <;> simp (disch := decide) only [State.fld_setFld_ne, State.fld_setFlag_ne, State.fld_setFld_same, State.fld_setFlag_same, live, other,
    State.flag, strapped, Nat.mod_eq_of_lt boot]
  all_goals exact ⟨rfl, rfl, trivial, by cases power <;> simp [b2n], trivial⟩

theorem State.perstCold_iff (s : State) : s.perstCold = true ↔ s.fld F.GL_STRAP_PERST = 1 ∨ s.fld F.GL_CTRL_PERST_COLD = 1 := by
  simp [State.perstCold, State.flag]

/-- GL_STATUS shows in bit 4 which of the two resets PERST_N is. -/
theorem State.regValue_perstCold (s : State) : bit (s.regValue R.GL_STATUS) 4 = s.perstCold := by
  have fields : fieldsAt R.GL_STATUS = some [⟨F.GL_STATUS_BOOT_READY, .ro, []⟩, ⟨F.GL_STATUS_SECURE, .ro, []⟩, ⟨F.GL_STATUS_IMAGE_OK, .ro, []⟩,
      ⟨F.GL_STATUS_LIVE, .ro, []⟩, ⟨F.GL_STATUS_PERST_COLD, .ro, []⟩] := by decide +kernel
  have shown : s.view F.GL_STATUS_PERST_COLD = b2n s.perstCold := rfl
  have answers : s.regAnswers R.GL_STATUS = true := by simp [State.regAnswers, smallOff, R.GL_STATUS]
  rw [State.regValue_eq_showWord (by decide) answers fields (by decide), bit_eq_testBit]
  unfold State.showWord
  rw [show ∀ w x y z p : FSpec, [w, x, y, z, p] = [w, x, y, z] ++ [p] from fun _ _ _ _ _ => rfl, List.foldl_append, List.foldl_cons, List.foldl_nil,
    if_neg (by decide), shown]
  exact (testBit_setBits_one _ _ _ _).trans (if_pos rfl)

/-- Settles O9: both resets begin as R482 says, and GL_STATUS shows the choice. -/
theorem perstChoice : Obligations.PerstChoice := by
  unfold Obligations.PerstChoice
  intro s straps
  have choice := s.perstCold_iff
  have power : s.flag F.PW_STATUS_PWR_OK = true ↔ s.fld F.PW_STATUS_PWR_OK = 1 := by simp [State.flag]
  refine ⟨by rw [s.regValue_perstCold, choice], fun hp hc => ?_, fun hp hc hm => ⟨?_, s.hostReset_event 3, ?_, fun r hr => (s.hostReset_ring 3 hr).1⟩, fun h => ?_⟩
  · obtain ⟨hchans, hcores, hhbm, hcsm, hjobs, -⟩ := s.cold_parts 2 straps.toNat true
    obtain ⟨hmode, hlast, -⟩ := s.cold_flds 2 straps.toNat true
    refine ⟨(s.cold 2 straps.toNat true).setFlag F.PW_STATUS_VCORE_EN true, ?_, ?_, hchans, hcores, hhbm, hcsm, hjobs, ?_⟩
    · show Host.Outcome.next _ = _
      rw [if_neg (by simp [power.2 hp]), if_pos (choice.2 hc)]
    · exact (State.fld_setFlag_ne _ _ _ _ (by decide)).trans hmode
    · exact (State.fld_setFlag_ne _ _ _ _ (by decide)).trans hlast
  · show Host.Outcome.next _ = _
    rw [if_neg (by simp [power.2 hp]), if_neg (mt choice.1 hc), if_neg hm]
  · exact (State.hostReset_fr s 3 (.refl s)).only (by decide)
  · show Host.Outcome.next _ = _
    obtain h | ⟨hc, hm⟩ := h
    · rw [if_pos (by simpa [State.flag] using h)]
    · rw [if_neg (mt choice.1 hc), if_pos hm, ite_self]

end Sys2Proof.Machine
end

section
/-! ## The resets and the power of the device (R480-R484, R490-R493) -/
namespace Sys2Proof.Machine

-- One declaration is checked at a time, so that the text with all its files is checked in bounded memory.
set_option Elab.async false

/-! ### Folds over numbered units -/

/-- A fold in which each step writes what belongs to its own number: what step `i` leaves stands at the end. -/
theorem foldl_units {α : Type} {f : State → Nat → State} (π : State → α) (v : α) {i : Nat} {l : List Nat} (hi : i ∈ l) (hset : ∀ u, π (f u i) = v)
    (hkeep : ∀ u, ∀ j ∈ l, j ≠ i → π (f u j) = π u) (s : State) : π (l.foldl f s) = v := by
  have stays : ∀ (l' : List Nat) (u : State), (∀ j ∈ l', j ∈ l) → π u = v → π (l'.foldl f u) = v := by
    intro l'
    induction l' with
    | nil => exact fun _ _ h => h
    | cons j l' ih =>
      refine fun u hl h => ih _ (fun k hk => hl k (List.mem_cons_of_mem _ hk)) ?_
      by_cases hj : j = i
      · exact hj ▸ hset u
      · exact (hkeep u j (hl j (List.mem_cons_self ..)) hj).trans h
  obtain ⟨a, b, rfl⟩ := List.append_of_mem hi
  rw [List.foldl_append, List.foldl_cons]
  exact stays b _ (fun j hj => List.mem_append_right _ (List.mem_cons_of_mem _ hj)) (hset _)

/-- The first bit of a field, by evaluation. -/
theorem lo_lt {f : Fld} {n : Nat} (h : (f.lo + 1).ble n = true) : f.lo < n := Nat.le_of_ble_eq_true h

/-! ### The warm reset (R480, R481) -/

theorem State.fwxKept_gl (s : State) :
    s.fwxKept.gl.warm = s.gl.warm ∧ s.fwxKept.gl.released = s.gl.released ∧ s.fwxKept.gl.trans = s.gl.trans := by
  unfold State.fwxKept
  split
  · exact ⟨rfl, rfl, rfl⟩
  · dsimp only
    split
    · rw [(State.discard_fr _ _ (.refl _)).gl rfl]
      exact ⟨rfl, rfl, rfl⟩
    · exact ⟨rfl, rfl, rfl⟩

/-- A warm reset with its key stands in HELD, with the memory in self-refresh. -/
theorem State.warmReset_key (s : State) : (s.warmReset 0xA5).mode = 0 ∧ (s.warmReset 0xA5).gl.warm = true ∧ (s.warmReset 0xA5).gl.released = false
    ∧ (s.warmReset 0xA5).gl.trans = none ∧ (s.warmReset 0xA5).fld F.PW_STATUS_HBM_SR = 1 := by
  have keep (u : State) : ((u.warmBlocks.warmRel.setFld F.GL_MODE_MODE 0).setFlag F.PW_STATUS_HBM_SR true).gl = u.gl :=
    State.Fr.gl (W := 0xfbffff) (State.setFlag_fr _ _ _ (State.setFld_fr _ _ _ (State.warmRel_fr _ (State.warmBlocks_fr _ (.refl _) rfl) rfl) rfl) rfl) rfl
  unfold State.warmReset State.mode
  rw [if_neg (by decide)]
  dsimp only
  rw [keep, (State.fwxKept_gl _).1, (State.fwxKept_gl _).2.1, (State.fwxKept_gl _).2.2, (State.completeOpt_fr _ _ _ _ _ (.refl _)).gl rfl]
  refine ⟨?_, rfl, rfl, rfl, State.fld_setFlag_same _ _ _ (by decide)⟩
  rw [State.fld_setFlag_ne _ _ _ _ (by decide), State.fld_setFld_same]
  rfl

theorem State.setSelftest_regFr (s : State) {c : Nat} (hc : c < 16) (cores : Nat) (cps vectors : Bool) :
    RegFr 0x100000000 s (s.setSelftest c cores cps vectors) := by
  have block {f : Fld} (hf : f.addr = R.CL_SELFTEST c) (hlo : f.lo < 32) : (0x100000000 : Nat).testBit f.block = true := by
    have : f.block = 32 := by
      unfold Fld.block Fld.key
      rw [hf, R.CL_SELFTEST, if_neg (by omega), if_pos (by omega)]
    rw [this]
    rfl
  exact RegFr.setFlag (RegFr.setFlag (RegFr.setFld (.refl s) _ (block rfl (lo_lt rfl))) _ (block rfl (lo_lt rfl))) _ (block rfl (lo_lt rfl))

theorem State.clusters_le (s : State) : s.clusters ≤ 16 := by
  unfold State.clusters
  split <;> decide

/-- The results of the self-tests stand in the clusters' registers. -/
theorem State.noteTests_regFr (s : State) (tests : List (BitVec 11)) : RegFr 0x100000000 s (s.noteTests tests) :=
  RegFr.foldl (fun u _ hc h => h.trans (u.setSelftest_regFr (Nat.lt_of_lt_of_le (List.mem_range.1 hc) s.clusters_le) _ _ _)) (.refl s)

/-- BOOT is entered with writes of GL_, PW_ and RL_ alone. -/
theorem State.enterBoot_regFr (s : State) : RegFr 0xC1 s s.enterBoot := by
  have h : RegFr 0xC1 s { s with gl := { s.gl with egressOff := false, warm := false } } := .of_regs rfl
  have h2 := ((h.setFld (f := F.GL_MODE_MODE) 1 (by rfl)).setFld (f := F.GL_MODE_PREV) 0 (by rfl)).setFlag (f := F.PW_STATUS_HBM_SR) false (by rfl)
  exact h2.event .info 0 0 1 0 (by rfl) (by rfl) (by decide)

/-- A field that entering BOOT does not write. -/
theorem State.enterBoot_fld (s : State) {g : Fld} (hg : outRl g = true)
    (hne : ∀ f ∈ [F.GL_MODE_MODE, F.GL_MODE_PREV, F.PW_STATUS_HBM_SR, F.GL_EVENT_MODE_CHANGE], f.key ≠ g.key) : s.enterBoot.fld g = s.fld g := by
  obtain ⟨h1, h2, h3, h4⟩ : _ ∧ _ ∧ _ ∧ _ := by simpa using hne
  unfold State.enterBoot
  dsimp only
  rw [State.fld_event_ne _ _ _ _ _ _ _ _ hg (by decide) h4, State.fld_setFlag_ne _ _ _ _ h3, State.fld_setFld_ne _ _ _ _ h2, State.fld_setFld_ne _ _ _ _ h1]
  rfl

theorem State.enterBoot_shows (s : State) : s.enterBoot.mode = 1 ∧ s.enterBoot.gl.warm = false ∧ s.enterBoot.fld F.PW_STATUS_HBM_SR = 0 := by
  unfold State.enterBoot State.mode
  dsimp only
  rw [State.fld_event_ne _ _ _ _ _ _ _ _ rfl (by decide) (by decide), State.fld_event_ne _ _ _ _ _ _ _ _ rfl (by decide) (by decide),
    (State.event_fr _ _ _ _ _ _ _ (.refl _)).gl rfl, State.fld_setFlag_same _ _ _ (by decide), State.fld_setFlag_ne _ _ _ _ (by decide),
    State.fld_setFld_ne _ _ _ _ (by decide), State.fld_setFld_same]
  exact ⟨rfl, rfl, rfl⟩

theorem execWarmDone_result (s : State) (tests : List (BitVec 11)) (hw : s.gl.warm = true) :
    ∃ t, execWarmDone tests s = .next t ∧ t.mode = 1 ∧ t.gl.warm = false ∧ t.fld F.GL_RESET_CAUSE_LAST = 3
      ∧ t.fld F.GL_RESET_CAUSE_WARM_CNT = (s.fld F.GL_RESET_CAUSE_WARM_CNT + 1) % 256 ∧ t.fld F.GL_EVENT_WARM_DONE = 1 ∧ t.fld F.PW_STATUS_HBM_SR = 0 := by
  unfold execWarmDone
  rw [if_pos hw]
  refine ⟨_, rfl, ?_⟩
  dsimp only
  obtain ⟨hmode, hwarm, hsr⟩ := State.enterBoot_shows (((s.noteTests tests).setFld F.GL_RESET_CAUSE_LAST 3).incW F.GL_RESET_CAUSE_WARM_CNT 1)
  generalize hu : ((s.noteTests tests).setFld F.GL_RESET_CAUSE_LAST 3).incW F.GL_RESET_CAUSE_WARM_CNT 1 = u at hmode hwarm hsr ⊢
  have hgl : (u.enterBoot.setFlag F.GL_EVENT_WARM_DONE true).gl = u.enterBoot.gl := by simp only [State.setFlag_keeps]
  refine ⟨(State.fld_setFlag_ne _ _ _ _ (by decide)).trans hmode, hgl ▸ hwarm, ?_, ?_, State.fld_setFlag_same _ _ _ (by decide),
    (State.fld_setFlag_ne _ _ _ _ (by decide)).trans hsr⟩
  · rw [State.fld_setFlag_ne _ _ _ _ (by decide), State.enterBoot_fld _ rfl (by decide), ← hu, State.incW, State.fld_setFld_ne _ _ _ _ (by decide),
      State.fld_setFld_same]
    rfl
  · rw [State.fld_setFlag_ne _ _ _ _ (by decide), State.enterBoot_fld _ rfl (by decide), ← hu, State.incW, State.fld_setFld_same,
      State.fld_setFld_ne _ _ _ _ (by decide), s.noteTests_regFr tests _ rfl]
    rfl

/-! ### The cores and the memory's lanes after a cold start (R105, R455, R491) -/

theorem coreStatus_key_ne {k k' : Nat} {f g : Fld} (hf : f.addr = R.CO_STATUS k) (hg : g.addr = R.CO_STATUS k') (hfl : f.lo < 32) (hgl : g.lo < 32)
    (h : k ≠ k') : f.key ≠ g.key := by
  simp only [Fld.key, hf, hg, R.CO_STATUS]
  omega

/-- A write below the registers of the cores leaves their status alone. -/
theorem coreStatus_key_ne_low {k : Nat} {f g : Fld} (hf : f.key < 0x400000 * 8) (hg : g.addr = R.CO_STATUS k) : f.key ≠ g.key := by
  simp only [Fld.key, hg, R.CO_STATUS] at hf ⊢
  omega

/-- What placing a cluster's cores does to one core. -/
def State.placeCore (s : State) (c : Nat) (good : List Nat) (i : Nat) : State :=
  let k := 9 * c + i
  match good.findIdx? (· = i) with
  | some j =>
    if j < 8 then ((s.setFld (F.CO_STATUS_STATE k) 1).setFlag (F.CO_STATUS_MAPPED k) true).setFld (F.CO_STATUS_LOGICAL k) (8 * c + j)
    else ((s.setFld (F.CO_STATUS_STATE k) 0).setFlag (F.CO_STATUS_MAPPED k) false).setFld (F.CO_STATUS_LOGICAL k) 0
  | none => ((s.setFld (F.CO_STATUS_STATE k) 2).setFlag (F.CO_STATUS_MAPPED k) false).setFld (F.CO_STATUS_LOGICAL k) 0

theorem State.placeCore_fld_ne (s : State) (c : Nat) (good : List Nat) (i : Nat) {g : Fld} {k : Nat} (hg : g.addr = R.CO_STATUS k) (hlo : g.lo < 32)
    (hk : k ≠ 9 * c + i) : (s.placeCore c good i).fld g = s.fld g := by
  have ne {f : Fld} (hf : f.addr = R.CO_STATUS (9 * c + i)) (hfl : f.lo < 32) : f.key ≠ g.key := coreStatus_key_ne hf hg hfl hlo hk.symm
  have three (a b d : Nat) : (((s.setFld (F.CO_STATUS_STATE (9 * c + i)) a).setFld (F.CO_STATUS_MAPPED (9 * c + i)) b).setFld
      (F.CO_STATUS_LOGICAL (9 * c + i)) d).fld g = s.fld g := by
    rw [State.fld_setFld_ne _ _ _ _ (ne rfl (lo_lt rfl)), State.fld_setFld_ne _ _ _ _ (ne rfl (lo_lt rfl)), State.fld_setFld_ne _ _ _ _ (ne rfl (lo_lt rfl))]
  unfold State.placeCore
  dsimp only
  split
  · exact State.fld_ite (three _ _ _) (three _ _ _)
  · exact three _ _ _

/-- Placing the cores writes their status as `placeCore` says; the rest of it stands below the registers of the cores. -/
theorem State.placeCores_fld (s : State) {c : Nat} (hc : c < 16) (pass : Nat) {g : Fld} {k : Nat} (hg : g.addr = R.CO_STATUS k) :
    (s.placeCores c pass).fld g = ((List.range 9).foldl (fun u i => u.placeCore c ((List.range 9).filter fun i => bit pass i) i) s).fld g := by
  have low (u : State) {f : Fld} (v : Nat) (hf : f.key < 0x400000 * 8) : (u.setFld f v).fld g = u.fld g :=
    State.fld_setFld_ne _ _ _ _ (coreStatus_key_ne_low hf hg)
  have repair : (F.RL_CL_REPAIR_RETIRED c).key < 0x400000 * 8 := by simp only [Fld.key, F.RL_CL_REPAIR_RETIRED, R.RL_CL_REPAIR]; omega
  have state : (F.PW_CL_STATE c).key < 0x400000 * 8 := by simp only [Fld.key, F.PW_CL_STATE, R.PW_CL]; omega
  unfold State.placeCores
  dsimp only
  simp only [State.fld_apply_ite, low _ _ repair, low _ _ state, low _ (f := F.RL_SPARES_SPARE_FREE) _ (by decide),
    low _ (f := F.RL_SPARES_CL_IN_SERVICE) _ (by decide), ite_self]
  rfl

/-- The status of a core of another cluster is left alone. -/
theorem State.placeCores_fld_ne (s : State) {c : Nat} (hc : c < 16) (pass : Nat) {g : Fld} {k : Nat} (hg : g.addr = R.CO_STATUS k) (hlo : g.lo < 32)
    (hk : k / 9 ≠ c) : (s.placeCores c pass).fld g = s.fld g := by
  rw [s.placeCores_fld hc pass hg]
  have keep : ∀ (l : List Nat) (u : State), (∀ i ∈ l, i < 9) →
      (l.foldl (fun u i => u.placeCore c ((List.range 9).filter fun i => bit pass i) i) u).fld g = u.fld g := by
    intro l
    induction l with
    | nil => exact fun _ _ => rfl
    | cons i l ih =>
      intro u hl
      have := hl i (List.mem_cons_self ..)
      exact (ih _ fun j hj => hl j (List.mem_cons_of_mem _ hj)).trans (u.placeCore_fld_ne c _ i hg hlo (by omega))
  exact keep _ s fun i hi => List.mem_range.1 hi

/-- The core of a cluster of which all cores passed: the first eight are in service, the ninth is the spare. -/
def allGood : List Nat := List.range 9

theorem State.placeCore_allGood (s : State) (c : Nat) {i : Nat} (hi : i < 9) : s.placeCore c allGood i
    = if i < 8 then ((s.setFld (F.CO_STATUS_STATE (9 * c + i)) 1).setFlag (F.CO_STATUS_MAPPED (9 * c + i)) true).setFld (F.CO_STATUS_LOGICAL (9 * c + i)) (8 * c + i)
      else ((s.setFld (F.CO_STATUS_STATE (9 * c + i)) 0).setFlag (F.CO_STATUS_MAPPED (9 * c + i)) false).setFld (F.CO_STATUS_LOGICAL (9 * c + i)) 0 := by
  have at' : allGood.findIdx? (· = i) = some i := by revert i; decide
  unfold State.placeCore
  simp only [at']

/-- What a core's status shows after its cluster was placed whole. -/
theorem State.placeCores_all (s : State) {c i : Nat} (hc : c < 16) (hi : i < 9) :
    (s.placeCores c 0x1FF).fld (F.CO_STATUS_STATE (9 * c + i)) = (if i < 8 then 1 else 0)
    ∧ (s.placeCores c 0x1FF).fld (F.CO_STATUS_MAPPED (9 * c + i)) = (if i < 8 then 1 else 0)
    ∧ (s.placeCores c 0x1FF).fld (F.CO_STATUS_LOGICAL (9 * c + i)) = (if i < 8 then 8 * c + i else 0) := by
  have good : ((List.range 9).filter fun i => bit 0x1FF i) = allGood := by decide
  have ne (f g : Fld) (hf : f.addr = R.CO_STATUS (9 * c + i)) (hg : g.addr = R.CO_STATUS (9 * c + i)) (h : f.lo ≠ g.lo) : f.key ≠ g.key := by
    simp only [Fld.key, hf, hg]
    omega
  have others (g : Fld) (hg : g.addr = R.CO_STATUS (9 * c + i)) (hlo : g.lo < 32) (v : Nat) (hset : ∀ u : State, (u.placeCore c allGood i).fld g = v) :
      (s.placeCores c 0x1FF).fld g = v := by
    rw [s.placeCores_fld hc _ hg, good]
    exact foldl_units (State.fld · g) v (List.mem_range.2 hi) hset (fun u j _ hj => u.placeCore_fld_ne c _ j hg hlo (by omega)) s
  refine ⟨others _ rfl (lo_lt rfl) _ fun u => ?_, others _ rfl (lo_lt rfl) _ fun u => ?_, others _ rfl (lo_lt rfl) _ fun u => ?_⟩ <;>
    rw [u.placeCore_allGood c hi, State.fld_apply_ite]
  · simp only [State.fld_setFld_ne _ _ _ _ (ne (F.CO_STATUS_LOGICAL _) (F.CO_STATUS_STATE _) rfl rfl (by simp [F.CO_STATUS_LOGICAL, F.CO_STATUS_STATE])),
      State.fld_setFlag_ne _ _ _ _ (ne (F.CO_STATUS_MAPPED _) (F.CO_STATUS_STATE _) rfl rfl (by simp [F.CO_STATUS_MAPPED, F.CO_STATUS_STATE])),
      State.fld_setFld_same]
    rfl
  · simp only [State.fld_setFld_ne _ _ _ _ (ne (F.CO_STATUS_LOGICAL _) (F.CO_STATUS_MAPPED _) rfl rfl (by simp [F.CO_STATUS_LOGICAL, F.CO_STATUS_MAPPED])),
      State.fld_setFlag_same _ _ _ (show 0 < (F.CO_STATUS_MAPPED _).w from Nat.one_pos)]
    rfl
  · have w : (F.CO_STATUS_LOGICAL (9 * c + i)).w = 7 := rfl
    simp only [State.fld_setFld_same, w]
    split <;> omega

/-- The cores of a cluster that passed its self-test whole (R105). -/
theorem State.coldCores_all (s : State) (tests : List (BitVec 11)) {c i : Nat} (hc : c < s.clusters) (hi : i < 9)
    (ht : bits (tests.getD c 0x3FF).toNat 0 9 = 0x1FF) :
    (s.coldCores tests).fld (F.CO_STATUS_STATE (9 * c + i)) = (if i < 8 then 1 else 0)
    ∧ (s.coldCores tests).fld (F.CO_STATUS_MAPPED (9 * c + i)) = (if i < 8 then 1 else 0)
    ∧ (s.coldCores tests).fld (F.CO_STATUS_LOGICAL (9 * c + i)) = (if i < 8 then 8 * c + i else 0) := by
  have h16 := s.clusters_le
  have shown (g : Fld) (hg : g.addr = R.CO_STATUS (9 * c + i)) (hlo : g.lo < 32) (v : Nat) (hset : ∀ u : State, (u.placeCores c 0x1FF).fld g = v) :
      (s.coldCores tests).fld g = v :=
    foldl_units (State.fld · g) v (List.mem_range.2 hc) (fun u => by rw [ht]; exact hset u)
      (fun u j hj hne => u.placeCores_fld_ne (by have := List.mem_range.1 hj; omega) _ hg hlo (by omega)) s
  exact ⟨shown _ rfl (lo_lt rfl) _ fun u => (u.placeCores_all (by omega) hi).1, shown _ rfl (lo_lt rfl) _ fun u => (u.placeCores_all (by omega) hi).2.1,
    shown _ rfl (lo_lt rfl) _ fun u => (u.placeCores_all (by omega) hi).2.2⟩

/-- What HBM training writes stands in the registers of HP_. -/
theorem Fld.pcStat_block {f : Fld} {i : Nat} (hf : f.addr = R.HP_PC_STAT i) (hlo : f.lo < 32) (hi : i < 16) : f.block = 4 :=
  Fld.block_of_low (by simp only [Fld.key, hf, R.HP_PC_STAT]; omega) (by simp only [Fld.key, hf, R.HP_PC_STAT]; omega) (by decide)

theorem State.trained_regFr (s : State) (lanes : List Nat) : RegFr 0x10 s (s.trained lanes) := by
  refine RegFr.foldl (fun u i hi h => ?_) (.refl s)
  have block {f : Fld} (hf : f.addr = R.HP_PC_STAT i) (hlo : f.lo < 32) : (0x10 : Nat).testBit f.block = true := by
    rw [Fld.pcStat_block hf hlo (List.mem_range.1 hi)]
    rfl
  exact ((h.setFld _ (block rfl (lo_lt rfl))).setFld _ (block rfl (lo_lt rfl))).setFlag _ (block rfl (lo_lt rfl))

/-- At most two lanes of a pseudo-channel move to spares. -/
theorem State.trained_lanes (s : State) (lanes : List Nat) {i : Nat} (hi : i < 16) :
    (s.trained lanes).fld (F.HP_PC_STAT_LANES_REMAPPED i) = min 2 (nth lanes i) := by
  refine foldl_units (State.fld · (F.HP_PC_STAT_LANES_REMAPPED i)) _ (List.mem_range.2 hi) (fun u => ?_) (fun u j _ hj => ?_) s
  · dsimp only
    rw [State.fld_setFlag_ne _ _ _ _ (by simp [Fld.key, F.HP_PC_STAT_LANES_REMAPPED, F.HP_PC_STAT_TRAINED]),
      State.fld_setFld_ne _ _ _ _ (by simp [Fld.key, F.HP_PC_STAT_LANES_REMAPPED, F.HP_PC_STAT_LANES_LEFT]), State.fld_setFld_same]
    exact Nat.mod_eq_of_lt (Nat.lt_of_le_of_lt (Nat.min_le_left ..) (by simp [F.HP_PC_STAT_LANES_REMAPPED]))
  · have ne {f : Fld} (hf : f.addr = R.HP_PC_STAT j) (hlo : f.lo < 32) : f.key ≠ (F.HP_PC_STAT_LANES_REMAPPED i).key := by
      simp only [Fld.key, hf, F.HP_PC_STAT_LANES_REMAPPED, R.HP_PC_STAT]
      omega
    dsimp only
    rw [State.fld_setFlag_ne _ _ _ _ (ne rfl (lo_lt rfl)), State.fld_setFld_ne _ _ _ _ (ne rfl (lo_lt rfl)), State.fld_setFld_ne _ _ _ _ (ne rfl (lo_lt rfl))]

theorem Fld.coStatus_block {f : Fld} {k : Nat} (hf : f.addr = R.CO_STATUS k) (hk : k < 144) (hlo : f.lo < 32) : f.block = 33 := by
  unfold Fld.block Fld.key
  rw [hf, R.CO_STATUS, if_neg (by omega), if_neg (by omega), if_pos (by omega)]

theorem execBootReady_result (s : State) (tests : List (BitVec 11)) (lanes : List Nat) (hm : s.mode = 0) (hw : s.gl.warm = false)
    (hp : s.flag F.PW_STATUS_PWR_OK = true) : ∃ t, execBootReady tests lanes s = .next t ∧ t.mode = 1 ∧ t.fld F.GL_STATUS_BOOT_READY = 1
      ∧ (∀ i, i < 16 → t.fld (F.HP_PC_STAT_LANES_REMAPPED i) = min 2 (nth lanes i))
      ∧ ∀ c, c < s.clusters → bits (tests.getD c 0x3FF).toNat 0 9 = 0x1FF →
          (∀ j, j < 8 → t.fld (F.CO_STATUS_STATE (9 * c + j)) = 1 ∧ t.fld (F.CO_STATUS_MAPPED (9 * c + j)) = 1
            ∧ t.fld (F.CO_STATUS_LOGICAL (9 * c + j)) = 8 * c + j)
          ∧ t.fld (F.CO_STATUS_STATE (9 * c + 8)) = 0 := by
  have boot (u : State) : RegFr 0xC1 u (u.enterBoot.setFlag F.GL_STATUS_BOOT_READY true) := u.enterBoot_regFr.setFlag _ (by rfl)
  unfold execBootReady
  rw [if_pos ⟨hm, hw, hp⟩]
  refine ⟨_, rfl, (State.fld_setFlag_ne _ _ _ _ (by decide)).trans (State.enterBoot_shows _).1, State.fld_setFlag_same _ _ _ (by decide),
    fun i hi => ?_, fun c hc ht => ?_⟩
  · rw [boot _ _ (by rw [Fld.pcStat_block rfl (lo_lt rfl) hi]; rfl)]
    exact State.trained_lanes _ lanes hi
  · have hn : c < (s.noteTests tests).clusters := by
      rw [State.clusters, (State.noteTests_fr s tests (.refl _)).fuse rfl]
      exact hc
    have h16 := s.clusters_le
    have core {i : Nat} (hi : i < 9) (g : Fld) (hg : g.addr = R.CO_STATUS (9 * c + i)) (hlo : g.lo < 32) :
        (((((s.noteTests tests).coldCores tests).trained lanes).enterBoot).setFlag F.GL_STATUS_BOOT_READY true).fld g
          = ((s.noteTests tests).coldCores tests).fld g := by
      have hb := Fld.coStatus_block hg (by omega) hlo
      rw [boot _ _ (by rw [hb]; rfl), State.trained_regFr _ lanes _ (by rw [hb]; rfl)]
    have all {i : Nat} (hi : i < 9) := (s.noteTests tests).coldCores_all tests hn hi ht
    refine ⟨fun j hj => ?_, ?_⟩
    · obtain ⟨h1, h2, h3⟩ := all (i := j) (by omega)
      rw [if_pos hj] at h1 h2 h3
      exact ⟨(core (by omega) _ rfl (lo_lt rfl)).trans h1, (core (by omega) _ rfl (lo_lt rfl)).trans h2, (core (by omega) _ rfl (lo_lt rfl)).trans h3⟩
    · exact (core (by omega) _ rfl (lo_lt rfl)).trans (all (i := 8) (by omega)).1

/-! ### The begin of a cold reset -/

/-- What stands after a cold reset with the power on (R491). -/
theorem State.cold_shows (s : State) (cause : Nat) (straps : BitVec 4) (hc : cause < 8) :
    let t := (s.cold cause straps.toNat true).setFlag F.PW_STATUS_VCORE_EN true
    t.mode = 0 ∧ t.chans = [] ∧ t.cores = [] ∧ t.hp.hbm = [] ∧ t.hi.jobs = [] ∧ t.fld F.GL_RESET_CAUSE_LAST = cause ∧ t.fld F.PW_STATUS_PWR_OK = 1
      ∧ t.fld F.PW_STATUS_VCORE_EN = 1 ∧ t.fuse = strapped s.fuse straps.toNat ∧ t.fld F.GL_STRAP_BOOT = bits straps.toNat 0 2 := by
  obtain ⟨hchans, hcores, hhbm, -, hjobs, hfuse⟩ := s.cold_parts cause straps.toNat true
  obtain ⟨hmode, hlast, hpwr, -, hboot⟩ := s.cold_flds cause straps.toNat true
  have keep {g : Fld} {n : Nat} (hg : F.PW_STATUS_VCORE_EN.key ≠ g.key) (h : (s.cold cause straps.toNat true).fld g = n) :
      ((s.cold cause straps.toNat true).setFlag F.PW_STATUS_VCORE_EN true).fld g = n := (State.fld_setFlag_ne _ _ _ _ hg).trans h
  exact ⟨keep (by decide) hmode, hchans, hcores, hhbm, hjobs, keep (by decide) (hlast.trans (Nat.mod_eq_of_lt hc)), keep (by decide) hpwr,
    State.fld_setFlag_same _ _ _ (by decide), hfuse, keep (by decide) hboot⟩

/-- The cold reset that each of three pins begins, by its cause (R480, R484). -/
theorem exec_eq_cold (s : State) (straps : BitVec 4) (cause : Nat) (i : Instr)
    (h : i = .powerOnReset straps ∧ s.flag F.PW_STATUS_PWR_OK = false ∧ cause = (if s.fld F.GL_RESET_CAUSE_LAST = 4 then 4 else 0)
      ∨ i = .sysReset straps ∧ s.flag F.PW_STATUS_PWR_OK = true ∧ cause = 1
      ∨ i = .perst straps ∧ s.flag F.PW_STATUS_PWR_OK = true ∧ s.perstCold = true ∧ cause = 2) :
    Sys2Proof.Machine.exec i s = .next ((s.cold cause straps.toNat true).setFlag F.PW_STATUS_VCORE_EN true) ∧ cause < 8 := by
  obtain ⟨rfl, hp, rfl⟩ | ⟨rfl, hp, rfl⟩ | ⟨rfl, hp, hc, rfl⟩ := h
  · refine ⟨?_, by split <;> decide⟩
    show Host.Outcome.next _ = _
    rw [if_neg (by simp [hp])]
  · refine ⟨?_, by decide⟩
    show Host.Outcome.next _ = _
    rw [if_pos hp]
  · refine ⟨?_, by decide⟩
    show Host.Outcome.next _ = _
    rw [if_neg (by simp [hp]), if_pos hc]

/-! ### The rails and LIVE_EN (R484, R492, R493) -/

/-- A FATAL report of the device writes HI_ and RL_ alone, the reset of its mode's transition with it. -/
theorem RegFr.fatalDevice {B : Nat} {s t : State} (h : RegFr B s t) (src code a0 a1 : Nat) (hB : partSub 0x44 B = true) :
    RegFr B s (t.fatalDevice src code a0 a1) := by
  have hrl : B.testBit 6 = true := partSub_bit hB rfl
  have h2 := h.raise (cls := .fatal) (src := src) (inst := 0) code a0 a1 0 hrl (.inr (.inr (.inr rfl)))
  exact RegFr.ite ((h2.setFlag (f := F.RL_STATUS_ISOLATED) true hrl).trigger 10 hB) h2

theorem rail_addr (i : Fin 8) : ∀ f ∈ [F.PW_RAIL_UV i, F.PW_RAIL_UV_STICKY i, F.PW_RAIL_UV_CNT i], f.block = 7 ∧ outRl f = true ∧ 0 < f.w := by
  revert i
  decide

theorem rail_keys (i : Fin 8) : [F.PW_RAIL_UV i, F.PW_RAIL_UV_STICKY i, F.PW_RAIL_UV_CNT i, F.PW_UV_CNT_COUNT, F.PW_EVENT_UNDERVOLT].Pairwise
    fun f g => f.key ≠ g.key ∧ g.key ≠ f.key := by
  revert i
  decide

theorem execUndervolt_result (s : State) (i : Fin 8) (hp : s.flag F.PW_STATUS_PWR_OK = true) (hv : i = 2 → s.flag F.PW_STATUS_VCORE_EN = true) :
    ∃ t, execUndervolt i s = .next t ∧ t.fld (F.PW_RAIL_UV i) = 1 ∧ t.fld (F.PW_RAIL_UV_STICKY i) = 1 ∧ t.fld F.PW_EVENT_UNDERVOLT = 1
      ∧ t.fld (F.PW_RAIL_UV_CNT i) = satAdd (F.PW_RAIL_UV_CNT i).w (s.fld (F.PW_RAIL_UV_CNT i)) 1 := by
  obtain ⟨⟨b1, o1, w1⟩, ⟨b2, o2, w2⟩, ⟨b3, o3, w3⟩⟩ : _ ∧ _ ∧ _ := by simpa only [List.forall_mem_cons, List.not_mem_nil, false_implies, implies_true, and_true] using rail_addr i
  have hk := rail_keys i
  simp only [List.pairwise_cons, List.mem_cons, List.not_mem_nil, or_false, forall_eq_or_imp, forall_eq] at hk
  obtain ⟨⟨uv_st, uv_cnt, uv_all, uv_ev⟩, ⟨st_cnt, st_all, st_ev⟩, ⟨cnt_all, cnt_ev⟩, all_ev, -⟩ := hk
  have report (u : State) {g : Fld} (hb : g.block = 7) : (u.fatalDevice 0x00 (0x0100 + F.PW_EVENT_UNDERVOLT.lo) i 0).fld g = u.fld g :=
    (RegFr.refl u).fatalDevice (B := 0x44) _ _ _ _ rfl g (by rw [hb]; rfl)
  unfold execUndervolt
  rw [if_neg (by simpa [hp, Fin.ext_iff] using hv)]
  refine ⟨_, rfl, ?_, ?_, ?_, ?_⟩ <;> dsimp only
  · rw [report _ b1, State.fld_setFlag_ne _ _ _ _ uv_ev.2, State.fld_incS_ne _ _ _ _ o1 uv_all.2, State.fld_incS_ne _ _ _ _ o1 uv_cnt.2,
      State.fld_setFlag_ne _ _ _ _ uv_st.2, State.fld_setFlag_same _ _ _ w1]
    rfl
  · rw [report _ b2, State.fld_setFlag_ne _ _ _ _ st_ev.2, State.fld_incS_ne _ _ _ _ o2 st_all.2, State.fld_incS_ne _ _ _ _ o2 st_cnt.2,
      State.fld_setFlag_same _ _ _ w2]
    rfl
  · rw [report _ rfl, State.fld_setFlag_same _ _ _ (by decide)]
    rfl
  · rw [report _ b3, State.fld_setFlag_ne _ _ _ _ cnt_ev.2, State.fld_incS_ne _ _ _ _ o3 cnt_all.2, State.fld_incS_same _ _ _ o3,
      State.fld_setFlag_ne _ _ _ _ st_cnt.1, State.fld_setFlag_ne _ _ _ _ uv_cnt.1]

theorem State.liveFollow_live (s : State) : s.liveFollow.fld F.GL_STATUS_LIVE = b2n (s.flag F.PW_STATUS_PWR_OK && s.flag F.PW_STATUS_LIVE_EN) :=
  State.fld_setFlag_same _ _ _ (by decide)

theorem State.liveFollow_fld_ne (s : State) {g : Fld} (h : F.GL_STATUS_LIVE.key ≠ g.key) : s.liveFollow.fld g = s.fld g :=
  State.fld_setFlag_ne _ _ _ _ h

/-- LIVE_EN as it goes on or off, with what GL_STATUS shows of it. -/
theorem State.setLive_shows (s : State) (on : Bool) : ((s.setFlag F.PW_STATUS_LIVE_EN on).liveFollow).fld F.PW_STATUS_LIVE_EN = b2n on
    ∧ ((s.setFlag F.PW_STATUS_LIVE_EN on).liveFollow).fld F.GL_STATUS_LIVE = b2n (s.flag F.PW_STATUS_PWR_OK && on)
    ∧ ((s.setFlag F.PW_STATUS_LIVE_EN on).liveFollow).flag F.PW_STATUS_PWR_OK = s.flag F.PW_STATUS_PWR_OK := by
  refine ⟨?_, ?_, ?_⟩
  · rw [State.liveFollow_fld_ne _ (by decide), State.fld_setFlag_same _ _ _ (by decide)]
  · rw [State.liveFollow_live, State.flag_setFlag_same _ _ _ (by decide), State.flag, State.fld_setFlag_ne _ _ _ _ (by decide), State.flag]
  · rw [State.flag, State.liveFollow_fld_ne _ (by decide), State.fld_setFlag_ne _ _ _ _ (by decide), State.flag]

/-- The management frame in progress is cut short and stays first in its queue. -/
def State.mgCut (s : State) : State :=
  match s.mg.started, s.mg.queue with
  | some _, f :: _ => (s.emit (.mgFrame f.bytes false)).setMg { s.mg with started := none }
  | _, _ => s

theorem State.mgCut_shows (s : State) : s.mgCut.regs = s.regs ∧ s.mgCut.mg.queue = s.mg.queue ∧ (s.mg.queue ≠ [] → s.mgCut.mg.started = none) := by
  unfold State.mgCut
  cases hs : s.mg.started with
  | none => exact ⟨rfl, rfl, fun _ => hs⟩
  | some x =>
    cases hq : s.mg.queue with
    | nil => exact ⟨rfl, hq, fun h => absurd rfl h⟩
    | cons f r => exact ⟨rfl, hq, fun _ => rfl⟩

/-- The loss of LIVE_EN, once the registers show it. -/
def State.liveLostShown (u : State) : State :=
  if u.flag F.PW_STATUS_PWR_OK then
    if (u.mgCut.setFlag F.GL_EVENT_LIVE_LOST true).flag F.PW_CTRL_LIVE_ISOLATE then (u.mgCut.setFlag F.GL_EVENT_LIVE_LOST true).trigger 10
    else u.mgCut.setFlag F.GL_EVENT_LIVE_LOST true
  else u

theorem execLiveLost_eq (s : State) (hl : s.flag F.PW_STATUS_LIVE_EN = true) :
    execLiveLost s = .next (((s.setFlag F.PW_STATUS_LIVE_EN false).liveFollow).liveLostShown) := by
  unfold execLiveLost
  rw [if_neg (by simp [hl])]
  rfl

theorem execLiveLost_result (s : State) (hl : s.flag F.PW_STATUS_LIVE_EN = true) :
    ∃ t, execLiveLost s = .next t ∧ t.fld F.PW_STATUS_LIVE_EN = 0 ∧ t.fld F.GL_STATUS_LIVE = 0 ∧ t.mg.queue = s.mg.queue
      ∧ (s.flag F.PW_STATUS_PWR_OK = true → s.mg.queue ≠ [] → t.mg.started = none)
      ∧ (s.flag F.PW_STATUS_PWR_OK = true → t.fld F.GL_EVENT_LIVE_LOST = 1) := by
  obtain ⟨hen, hlive, hpwr⟩ := s.setLive_shows false
  rw [Bool.and_false] at hlive
  refine ⟨_, execLiveLost_eq s hl, ?_⟩
  generalize hu : (s.setFlag F.PW_STATUS_LIVE_EN false).liveFollow = u at hen hlive hpwr ⊢
  have hmg : u.mg = s.mg := hu ▸ rfl
  unfold State.liveLostShown
  rw [hpwr]
  by_cases hp : s.flag F.PW_STATUS_PWR_OK = true
  · rw [if_pos hp]
    obtain ⟨hregs, hqueue, hstart⟩ := u.mgCut_shows
    have ends (w : State) (hf : RegFr 0x44 (u.mgCut.setFlag F.GL_EVENT_LIVE_LOST true) w) (hm : w.mg = u.mgCut.mg) :
        w.fld F.PW_STATUS_LIVE_EN = 0 ∧ w.fld F.GL_STATUS_LIVE = 0 ∧ w.mg.queue = s.mg.queue
          ∧ (s.flag F.PW_STATUS_PWR_OK = true → s.mg.queue ≠ [] → w.mg.started = none)
          ∧ (s.flag F.PW_STATUS_PWR_OK = true → w.fld F.GL_EVENT_LIVE_LOST = 1) := by
      refine ⟨?_, ?_, by rw [hm, hqueue, hmg], fun _ hq => by rw [hm]; exact hstart (hmg ▸ hq), fun _ => ?_⟩
      · rw [hf _ rfl, State.fld_setFlag_ne _ _ _ _ (by decide), State.fld_congr hregs, hen]
        rfl
      · rw [hf _ rfl, State.fld_setFlag_ne _ _ _ _ (by decide), State.fld_congr hregs, hlive]
        rfl
      · rw [hf _ rfl, State.fld_setFlag_same _ _ _ (by decide)]
        rfl
    split
    · exact ends _ ((RegFr.refl _).trigger 10 rfl) ((State.trigger_fr _ 10 (.refl _)).mg rfl)
    · exact ends _ (.refl _) rfl
  · rw [if_neg hp]
    exact ⟨hen, hlive, by rw [hmg], fun h => absurd h hp, fun h => absurd h hp⟩

theorem State.startListen_regs (s : State) : s.startListen.regs = (s.setFlag F.MG_STATUS_LISTEN_ONLY true).regs := rfl

theorem State.startListen_until (s : State) : s.startListen.mg.listenUntil = s.elapsed + s.fld F.MG_LISTEN_LISTEN_MS * 1000000 := by
  unfold State.startListen State.setMg
  dsimp only
  rw [State.fld_setFlag_ne _ _ _ _ (by decide), (State.setFlag_keeps ..).2.1]

theorem State.startListen_only (s : State) : s.startListen.fld F.MG_STATUS_LISTEN_ONLY = 1 := by
  rw [State.fld_congr s.startListen_regs, State.fld_setFlag_same _ _ _ (by decide)]
  rfl

theorem State.startListen_fld_ne (s : State) {g : Fld} (hg : F.MG_STATUS_LISTEN_ONLY.key ≠ g.key) : s.startListen.fld g = s.fld g := by
  rw [State.fld_congr s.startListen_regs, State.fld_setFlag_ne _ _ _ _ hg]

theorem execLiveBack_result (s : State) (hl : s.flag F.PW_STATUS_LIVE_EN = false) :
    ∃ t, execLiveBack s = .next t ∧ t.fld F.PW_STATUS_LIVE_EN = 1 ∧ t.fld F.GL_STATUS_LIVE = b2n (s.flag F.PW_STATUS_PWR_OK)
      ∧ (s.flag F.PW_STATUS_PWR_OK = true → t.fld F.MG_STATUS_LISTEN_ONLY = 1 ∧ t.fld F.GL_EVENT_LIVE_BACK = 1
        ∧ t.mg.listenUntil = s.elapsed + s.fld F.MG_LISTEN_LISTEN_MS * 1000000) := by
  obtain ⟨hen, hlive, hpwr⟩ := s.setLive_shows true
  rw [Bool.and_true] at hlive
  have hms : ((s.setFlag F.PW_STATUS_LIVE_EN true).liveFollow).fld F.MG_LISTEN_LISTEN_MS = s.fld F.MG_LISTEN_LISTEN_MS := by
    rw [State.liveFollow_fld_ne _ (by decide), State.fld_setFlag_ne _ _ _ _ (by decide)]
  unfold execLiveBack
  rw [if_neg (by simp [hl])]
  refine ⟨_, rfl, ?_⟩
  generalize hu : (s.setFlag F.PW_STATUS_LIVE_EN true).liveFollow = u at hen hlive hpwr hms ⊢
  have helapsed : u.elapsed = s.elapsed := hu ▸ rfl
  dsimp only
  rw [hpwr]
  by_cases hp : s.flag F.PW_STATUS_PWR_OK = true
  · rw [if_pos hp]
    refine ⟨?_, ?_, fun _ => ⟨?_, State.fld_setFlag_same _ _ _ (by decide), ?_⟩⟩
    · rw [State.fld_setFlag_ne _ _ _ _ (by decide), State.startListen_fld_ne _ (by decide), hen]
      rfl
    · rw [State.fld_setFlag_ne _ _ _ _ (by decide), State.startListen_fld_ne _ (by decide), hlive]
    · rw [State.fld_setFlag_ne _ _ _ _ (by decide), u.startListen_only]
    · exact u.startListen_until.trans (by rw [helapsed, hms])
  · rw [if_neg hp]
    exact ⟨hen, hlive, fun h => absurd h hp⟩

/-- Settles O58: each reset and each event of the power by the lemma about it. -/
theorem resetResults : Obligations.ResetResults := by
  unfold Obligations.ResetResults
  intro s
  refine ⟨fun key h0 h9 => ⟨fun hk => ?_, fun hk => ?_⟩, execWarmDone_result s, fun straps cause i h => ?_, fun straps hp hc hm => ?_, fun hp => ?_,
    fun tests lanes => execBootReady_result s tests lanes, execUndervolt_result s, fun i => ?_, execLiveLost_result s, execLiveBack_result s⟩
  · show Host.Outcome.next _ = _
    have hn : key.toNat ≠ 0xA5 := fun h => hk (BitVec.eq_of_toNat_eq h)
    rw [if_neg (by simp [h0, h9]), State.warmReset, if_pos hn]
  · refine ⟨s.warmReset 0xA5, ?_, s.warmReset_key⟩
    show Host.Outcome.next _ = _
    rw [if_neg (by simp [h0, h9]), hk]
    rfl
  · obtain ⟨hexec, hcause⟩ := exec_eq_cold s straps cause i h
    exact ⟨_, hexec, s.cold_shows cause straps hcause⟩
  · show Host.Outcome.next _ = _
    rw [if_neg (by simp [hp]), if_neg (by simp [hc]), if_neg hm]
  · obtain ⟨hchans, hcores, -⟩ := s.cold_parts 4 (s.fuse.strapBoot + 4 * b2n s.fuse.strapPerst + 8 * b2n s.fuse.strapTest) false
    obtain ⟨hmode, hlast, hpwr, hlive, -⟩ := s.cold_flds 4 (s.fuse.strapBoot + 4 * b2n s.fuse.strapPerst + 8 * b2n s.fuse.strapTest) false
    refine ⟨_, ?_, hmode, hchans, hcores, hlast, hpwr, hlive⟩
    show Host.Outcome.next _ = _
    rw [if_pos hp]
  · exact ⟨_, rfl, State.fld_setFlag_same _ _ _ Nat.one_pos, fun f hf => State.fld_setFlag_ne _ _ _ _ (hf _ (List.mem_singleton.2 rfl))⟩

end Sys2Proof.Machine
end

section
/-! ## The Lantern mailbox (R496-R504) -/
namespace Sys2Proof.Machine

-- One declaration is checked at a time, so that the text with all its files is checked in bounded memory.
set_option Elab.async false

/-! ### A command that the mailbox takes -/

/-- The mailbox with an opcode accepted: the opcode shows and BUSY is set. -/
def State.mailboxTaken (s : State) (op : Nat) : State := (s.setFld F.LN_MBX_CMD_OPCODE op).setFlag F.LN_MBX_STAT_BUSY true

/-- A command whose result waits for its completion. -/
def State.mailboxAnswer (s : State) (op : Nat) (l : List Nat) : State := { s with ln := { s.ln with cmd := some (op, l) } }

/-- The mailbox accepts an opcode. -/
def State.mailboxFree (s : State) : Prop := s.mode = 7 ∧ s.flag F.LN_MBX_STAT_BUSY = false ∧ s.flag F.LN_MBX_STAT_DONE = false

/-- The words that wait: the result code, four results and the channel of the command. -/
def mailboxWords (status : Nat) (vals : List Nat) (n : Nat) : List Nat := status :: (vals ++ List.replicate (4 - vals.length) 0) ++ [n]

theorem State.mailbox_free {s : State} (h : s.mailboxFree) (op : Nat) (f : State → State × Nat × List Nat) :
    s.mailbox op f = (f (s.mailboxTaken op)).1.mailboxAnswer op
      (mailboxWords (f (s.mailboxTaken op)).2.1 (f (s.mailboxTaken op)).2.2 (s.lnArg 0)) := by
  obtain ⟨hm, hb, hd⟩ := h
  unfold State.mailbox
  rw [if_neg (not_not.2 hm), if_neg (by simp [hb, hd])]
  rfl

/-- A command whose effect and results are known. -/
theorem State.mailbox_eq {s : State} (h : s.mailboxFree) {op : Nat} {f : State → State × Nat × List Nat} {t : State} {status : Nat} {vals : List Nat}
    (hf : f (s.mailboxTaken op) = (t, status, vals)) : s.mailbox op f = t.mailboxAnswer op (mailboxWords status vals (s.lnArg 0)) := by
  rw [State.mailbox_free h, hf]

theorem State.mailbox_outside {s : State} (h : s.mode ≠ 7) (op : Nat) (f : State → State × Nat × List Nat) : s.mailbox op f = s := if_pos h

theorem State.mailbox_occupied {s : State} (h : s.mode = 7) (hb : s.flag F.LN_MBX_STAT_BUSY = true ∨ s.flag F.LN_MBX_STAT_DONE = true) (op : Nat)
    (f : State → State × Nat × List Nat) : s.mailbox op f = s.mailboxIgnored op := by
  unfold State.mailbox
  rw [if_neg (not_not.2 h), if_pos hb]

/-- The arguments stand while a command is accepted. -/
theorem State.lnArg_taken (s : State) (op i : Nat) : (s.mailboxTaken op).lnArg i = s.lnArg i := by
  have ne {f : Fld} (hf : f.addr < 0x2000008) (hlo : f.lo < 32) (h4 : f.addr % 4 = 0) : f.key ≠ (F.LN_MBX_ARG_ARG i).key := by
    simp only [Fld.key, F.LN_MBX_ARG_ARG, R.LN_MBX_ARG]
    omega
  unfold State.lnArg State.mailboxTaken
  rw [State.fld_setFlag_ne _ _ _ _ (ne (by decide) (by decide) (by decide)), State.fld_setFld_ne _ _ _ _ (ne (by decide) (by decide) (by decide))]

theorem State.mailboxTaken_busy (s : State) (op : Nat) : (s.mailboxTaken op).flag F.LN_MBX_STAT_BUSY = true :=
  State.flag_setFlag_same _ _ _ (by decide)

/-- The commands of the mailbox, with the channel's range: past 239 a command on a channel answers BAD_CHANNEL and does nothing else. -/
theorem exec_mailbox (x : Nat × Instr) (hx : x ∈ [(0x00, Instr.mailboxNop), (0x01, .getVersion), (0x10, .lanternChOpen), (0x11, .lanternChClose),
      (0x12, .chSetIp), (0x13, .chGain), (0x14, .chEc), (0x15, .chStats), (0x20, .evtRead)]) :
    ∃ f, (∀ s, Sys2Proof.Machine.exec x.2 s = .next (s.mailbox x.1 f)) ∧ (0x10 ≤ x.1 → x.1 ≤ 0x15 → ∀ u : State, 239 < u.lnArg 0 → f u = (u, 2, [])) := by
  have chan (ok : State → Bool) (g : State → State → Nat → Chan → State × Nat × List Nat) :
      ∀ u : State, 239 < u.lnArg 0 → u.lanternChan (ok u) (g u) = (u, 2, []) := fun u hn => by
    unfold State.lanternChan
    exact if_pos hn
  simp only [List.mem_cons, List.not_mem_nil, or_false] at hx
  rcases hx with rfl | rfl | rfl | rfl | rfl | rfl | rfl | rfl | rfl
  · exact ⟨_, fun _ => rfl, fun h => absurd h (by decide)⟩
  · exact ⟨_, fun _ => rfl, fun h => absurd h (by decide)⟩
  · exact ⟨State.lanternOpen, fun _ => rfl, fun _ _ u hn => if_pos hn⟩
  · exact ⟨_, fun _ => rfl, fun _ _ => chan (fun _ => true) fun _ s n _ => (s.beginClose n none, 0, [])⟩
  · exact ⟨_, fun _ => rfl, fun _ _ => chan (fun u => u.lnArg 5 < 4) fun _ s n _ => s.lanternSetIp n⟩
  · exact ⟨_, fun _ => rfl, fun _ _ => chan (fun u => decide (u.lnArg 1 ≤ 48) && decide (u.lnArg 2 ≤ 48)) fun _ s _ c =>
      (s.setCtxWord c 42 (gainOf (s.lnArg 1) + gainOf (s.lnArg 2) * 2 ^ 16), 0, [])⟩
  · exact ⟨_, fun _ => rfl, fun _ _ => chan (fun u => lanternTail (u.lnArg 1) && decide (u.lnArg 2 < 2)) fun _ s _ c =>
      (s.setCtxWord c 40 (setBits (setBits (s.ctxWord c 40) 0 8 (s.lnArg 1)) 8 2 (2 * s.lnArg 2)), 0, [])⟩
  · exact ⟨_, fun _ => rfl, fun _ _ => chan (fun u => u.lnArg 1 < 2) fun _ => State.lanternStats⟩
  · exact ⟨_, fun _ => rfl, fun _ h => absurd h (by decide)⟩

/-- A command on an open Lantern channel that passes its checks is its effect. -/
theorem State.lanternChan_eq {u : State} {c : Chan} {ok : Bool} (f : State → Nat → Chan → State × Nat × List Nat) (hn : u.lnArg 0 ≤ 239)
    (hc : u.chan (u.lnArg 0) = some c) (hl : c.lantern = true) (hst : c.st ≠ .closing) (hok : ok = true) :
    u.lanternChan ok f = f u (u.lnArg 0) c := by
  unfold State.lanternChan
  dsimp only
  rw [if_neg (Nat.not_lt.2 hn), if_neg (by simp [hok]), hc]
  dsimp only
  rw [if_neg (by simp [hl]), if_neg hst]

/-! ### The open of a channel (R500) -/

theorem State.slotWrite301_regFr (s : State) (h k v : Nat) : RegFr 0x840 s (s.slotWrite301 h k v) := by
  unfold State.slotWrite301
  refine RegFr.ite (RegFr.event (.refl s) _ _ _ _ _ (by rfl) (by rfl) (by decide)) ?_
  exact RegFr.ite (.of_regs rfl) (RegFr.ite (.of_regs rfl) (.of_regs rfl))

theorem State.openChannel_chan (s : State) (r : OpenReq) (home ctx : Nat) :
    ∃ c, (s.openChannel r home ctx).chan r.chan = some c ∧ c.st = .opened ∧ c.lantern = r.lantern ∧ c.profile = r.profile ∧ c.home = home
      ∧ c.ctx = ctx ∧ c.stagger = r.stagger := by
  refine ⟨_, (congrFun (State.chan_congr ((State.budgetCheck_fr _ (W := 0x88108) (State.writeContext_fr _ _ _ _ _ (.refl _) rfl) rfl).chans rfl)) _).trans
    (mfind_mput_same ..), rfl, rfl, rfl, rfl, rfl, rfl⟩

theorem State.openChannel_regFr (s : State) (r : OpenReq) (home ctx : Nat) : RegFr 0x40 s (s.openChannel r home ctx) := fun g hg => by
  unfold State.openChannel
  rw [State.fld_budgetCheck _ _ (outRl_of_testBit hg rfl), State.fld_congr ((State.writeContext_fr _ _ _ _ _ (.refl _)).regs rfl)]
  rfl

/-- An open whose checks pass makes the channel in its slot and answers with its home. -/
theorem State.lanternOpen_opens {u : State} {home ctx : Nat} (hn : u.lnArg 0 ≤ 239) (h1 : u.lnArg 1 ≤ 15) (h2 : u.lnArg 2 ≤ 511) (h3 : u.lnArg 3 ≤ 1)
    (h4 : lanternTail (u.lnArg 4) = true) (hopen : u.openChecks (basicReq (u.lnArg 0) 1 false 2 0 (u.lnArg 0 % 40) true) = .ok (home, ctx))
    (hslot : u.slotRejects (u.lnArg 1) (u.lnArg 2) (u.lnArg 0 + u.lnArg 3 * 2 ^ 13 + 2 ^ 15 + 2 ^ 16) = false) :
    ∃ t, u.lanternOpen = (t, 0, [home]) ∧ RegFr 0x840 u t
      ∧ ∃ c, t.chan (u.lnArg 0) = some c ∧ c.st = .opened ∧ c.lantern = true ∧ c.profile = 1 ∧ c.home = home ∧ c.ctx = ctx ∧ c.stagger = u.lnArg 0 % 40 := by
  obtain ⟨c, hc, hst, hlan, hprof, hhome, hctx, hstag⟩ :=
    u.openChannel_chan (basicReq (u.lnArg 0) 1 false 2 0 (u.lnArg 0 % 40) true) home ctx
  have ok : ¬(u.lnArg 1 > 15 ∨ u.lnArg 2 > 511 ∨ u.lnArg 3 > 1 ∨ lanternTail (u.lnArg 4) = false
      ∨ basicOk (basicReq (u.lnArg 0) 1 false 2 0 (u.lnArg 0 % 40) true) = false) := by
    rw [basicOk_basicReq, h4]
    simp only [Bool.true_eq_false, or_false]
    omega
  unfold State.lanternOpen
  dsimp only
  rw [if_neg (Nat.not_lt.2 hn), if_neg ok, hopen]
  dsimp only
  rw [if_neg (by rw [hslot]; decide)]
  generalize hw : u.openChannel (basicReq (u.lnArg 0) 1 false 2 0 (u.lnArg 0 % 40) true) home ctx = w at hc ⊢
  have hframe : RegFr 0x840 u w := hw ▸ (u.openChannel_regFr _ home ctx).mono rfl
  rw [show w.chan (u.lnArg 0) = some c from hc]
  refine ⟨_, rfl, ?_, c, ?_, hst, hlan, hprof, hhome, hctx, hstag⟩
  · refine hframe.trans fun g hg => ?_
    rw [(State.slotEntryWrite_keeps _ _ _ _).2, State.slotWrite301_regFr _ _ _ _ g hg, State.fld_congr ((State.setCtxWord_fr _ _ _ _ (.refl _)).regs rfl),
      State.fld_congr ((State.setCtxWord_fr _ _ _ _ (.refl _)).regs rfl)]
  · rw [State.chan_congr ((State.slotEntryWrite_fr _ _ _ _ (.refl _)).chans rfl), State.chan_congr ((State.setCtxWord_fr _ _ _ _ (.refl _)).chans rfl),
      State.chan_congr ((State.setCtxWord_fr _ _ _ _ (.refl _)).chans rfl)]
    exact hc

/-! ### The completion and the read of the status (R497, R498) -/

theorem State.sendMsix_regs_ln (s : State) (v : Nat) : (s.sendMsix v).regs = s.regs ∧ (s.sendMsix v).ln = s.ln :=
  ⟨(State.sendMsix_fr s v (.refl _)).regs rfl, (State.sendMsix_fr s v (.refl _)).ln rfl⟩

theorem Fld.mbxRes_key (i : Nat) : (F.LN_MBX_RES_RES i).key = (0x2000028 + i * 4) * 8 := rfl

/-- What a command leaves when it completes: its results, its status and DONE. -/
theorem State.mailboxFinish_shows {s : State} {op : Nat} {l : List Nat} (h : s.ln.cmd = some (op, l)) :
    s.mailboxFinish.ln.cmd = none ∧ s.mailboxFinish.fld F.LN_MBX_STAT_BUSY = 0 ∧ s.mailboxFinish.fld F.LN_MBX_STAT_DONE = 1
      ∧ s.mailboxFinish.fld F.LN_EVENT_DONE = 1 ∧ s.mailboxFinish.fld F.LN_MBX_STAT_RESULT = nth l 0 % 2 ^ F.LN_MBX_STAT_RESULT.w
      ∧ s.mailboxFinish.fld F.LN_MBX_STAT_OPCODE = op % 64
      ∧ ∀ i, i < 4 → s.mailboxFinish.fld (F.LN_MBX_RES_RES i) = nth l (1 + i) % 2 ^ (F.LN_MBX_RES_RES i).w := by
  have hln : ∀ u : State, ((List.range 4).foldl (fun t i => t.setFld (F.LN_MBX_RES_RES i) (nth l (1 + i))) u).ln = u.ln := fun u =>
    foldl_keeps State.ln (fun t i => t.setFld (F.LN_MBX_RES_RES i) (nth l (1 + i))) (fun _ _ => rfl) _ u
  unfold State.mailboxFinish
  rw [h]
  dsimp only
  refine ⟨?_, ?_, ?_, ?_, ?_, ?_, fun i hi => ?_⟩
  · exact congrArg Lantern.cmd (hln _)
  · rw [State.fld_setFlag_ne _ _ _ _ (by decide), State.fld_setFlag_ne _ _ _ _ (by decide), State.fld_setFlag_same _ _ _ (by decide)]
    rfl
  · rw [State.fld_setFlag_ne _ _ _ _ (by decide), State.fld_setFlag_same _ _ _ (by decide)]
    rfl
  · exact State.fld_setFlag_same _ _ _ (by decide)
  · simp (disch := decide) only [State.fld_setFlag_ne, State.fld_setFld_ne, State.fld_setFld_same]
  · simp (disch := decide) only [State.fld_setFlag_ne, State.fld_setFld_same]
    exact Nat.mod_eq_of_lt (Nat.mod_lt _ (by decide))
  · have ne : ∀ f ∈ [F.LN_EVENT_DONE, F.LN_MBX_STAT_DONE, F.LN_MBX_STAT_BUSY, F.LN_MBX_STAT_OPCODE, F.LN_MBX_STAT_RESULT],
        f.key ≠ (F.LN_MBX_RES_RES i).key := by
      interval_cases i <;> decide
    simp only [List.forall_mem_cons, List.not_mem_nil, false_implies, implies_true, and_true] at ne
    obtain ⟨n1, n2, n3, n4, n5⟩ := ne
    rw [State.fld_setFlag_ne _ _ _ _ n1, State.fld_setFlag_ne _ _ _ _ n2, State.fld_setFlag_ne _ _ _ _ n3, State.fld_setFld_ne _ _ _ _ n4,
      State.fld_setFld_ne _ _ _ _ n5]
    have other (j : Nat) (hj : j ≠ i) : (F.LN_MBX_RES_RES j).key ≠ (F.LN_MBX_RES_RES i).key := by
      rw [Fld.mbxRes_key, Fld.mbxRes_key]
      omega
    exact foldl_units (f := fun t i => t.setFld (F.LN_MBX_RES_RES i) (nth l (1 + i))) (State.fld · (F.LN_MBX_RES_RES i)) _ (List.mem_range.2 hi)
      (fun u => State.fld_setFld_same ..)
      (fun u j _ hj => State.fld_setFld_ne _ _ _ _ (other j hj)) _

/-- The completion sends its interrupt where it is enabled. -/
theorem exec_mailboxCompletion {s : State} (hd : s.mailboxDue = true) : ∃ t, Sys2Proof.Machine.exec .mailboxCompletion s = .next t
    ∧ t.regs = s.mailboxFinish.regs ∧ t.ln = s.mailboxFinish.ln := by
  refine ⟨if s.mailboxFinish.flag F.LN_EVENT_IRQ_DONE_EN then s.mailboxFinish.sendMsix 0 else s.mailboxFinish, congrArg Host.Outcome.next (if_pos hd), ?_⟩
  split
  · exact State.sendMsix_regs_ln _ _
  · exact ⟨rfl, rfl⟩

theorem State.mailboxStatRead_shows (s : State) : s.mailboxStatRead.lastRead = s.mailboxStat
    ∧ (bit s.mailboxStat 14 = true → s.mailboxStatRead.fld F.LN_MBX_STAT_DONE = 0) ∧ FldsBut [F.LN_MBX_STAT_DONE] s s.mailboxStatRead := by
  unfold State.mailboxStatRead
  dsimp only
  split
  · exact ⟨rfl, fun _ => State.fld_setFlag_same _ _ _ (by decide), fun g hg => State.fld_setFlag_ne _ _ _ _ (hg _ (List.mem_singleton.2 rfl))⟩
  · exact ⟨rfl, fun h => absurd h ‹_›, fun _ _ => rfl⟩

/-- A command on an open Lantern channel, by its effect: what the mailbox leaves. -/
theorem State.mailbox_lanternChan {s : State} (h : s.mailboxFree) {op : Nat} {c : Chan} {ok : State → Bool}
    {f : State → State → Nat → Chan → State × Nat × List Nat} (hn : s.lnArg 0 ≤ 239) (hc : s.chan (s.lnArg 0) = some c) (hl : c.lantern = true)
    (hst : c.st ≠ .closing) (hok : ok (s.mailboxTaken op) = true) {t : State} {status : Nat} {vals : List Nat}
    (hf : f (s.mailboxTaken op) (s.mailboxTaken op) (s.lnArg 0) c = (t, status, vals)) :
    s.mailbox op (fun u => u.lanternChan (ok u) (f u)) = t.mailboxAnswer op (mailboxWords status vals (s.lnArg 0)) := by
  have ha := s.lnArg_taken op 0
  exact State.mailbox_eq h ((State.lanternChan_eq (f (s.mailboxTaken op)) (ha ▸ hn) (ha.symm ▸ hc) hl hst hok).trans (ha.symm ▸ hf))

/-- Settles O60: each command by its effect on the mailbox that has taken it, then the completion and the read of the status. -/
theorem lanternResults : Obligations.LanternResults := by
  unfold Obligations.LanternResults
  intro s rows go u put n
  have arg (op i : Nat) : (s.mailboxTaken op).lnArg i = s.lnArg i := s.lnArg_taken op i
  have free (h : go) : s.mailboxFree := h
  refine ⟨fun x hx => ?_, fun h => ?_, fun h => ?_, ?_, fun c h hn hc hl hst =>
    ⟨?_, fun h5 r st hr => ?_, fun h1 h2 => ?_, fun h1 h2 => ?_, fun h1 => ?_, fun h1 => ?_⟩,
    fun h hf => ?_, fun e r h hf => ?_, fun op l hcmd hd => ?_, ?_⟩
  · obtain ⟨f, hexec, hbad⟩ := exec_mailbox x hx
    refine ⟨fun hm => ?_, fun hm hb => ?_, fun h hlo hhi hn => ?_⟩ <;> rw [hexec]
    · rw [State.mailbox_outside hm]
    · rw [State.mailbox_occupied hm hb]
    · rw [State.mailbox_eq (free h) (hbad hlo hhi _ ((arg _ 0).symm ▸ hn))]
      rfl
  · exact congrArg Host.Outcome.next (State.mailbox_eq (free h) (t := u 0) (status := 0) (vals := []) rfl)
  · exact congrArg Host.Outcome.next (State.mailbox_eq (free h) (t := u 1) (status := 0)
      (vals := [0x0240, (s.romRead 0 0).toNat / 65536, (s.romRead 0 0).toNat % 65536]) rfl)
  · intro r h hn h1 h2 h3 h4 home ctx hopen hslot
    obtain ⟨t, heq, hframe, c, hc, hrest⟩ := State.lanternOpen_opens (u := s.mailboxTaken 0x10) ((arg _ 0).symm ▸ hn) ((arg _ 1).symm ▸ h1)
      ((arg _ 2).symm ▸ h2) ((arg _ 3).symm ▸ h3) ((arg _ 4).symm ▸ h4) (by rw [arg]; exact hopen) (by simp only [arg]; exact hslot)
    rw [arg] at hc hrest
    refine ⟨_, congrArg Host.Outcome.next (State.mailbox_eq (free h) heq), rfl, ?_, c, hc, ?_⟩
    · have busy := s.mailboxTaken_busy 0x10
      unfold State.flag at busy ⊢
      exact (congrArg (fun v => decide (v = 1)) (hframe F.LN_MBX_STAT_BUSY rfl)).trans busy
    · obtain ⟨hst, hlan, hprof, hhome, hctx, hstag⟩ := hrest
      exact ⟨hst, hlan, hprof, hhome, hctx, hstag⟩
  · exact congrArg Host.Outcome.next (State.mailbox_lanternChan (ok := fun _ => true) (f := fun _ s n _ => (s.beginClose n none, 0, []))
      (free h) hn hc hl hst rfl rfl)
  · exact congrArg Host.Outcome.next (State.mailbox_lanternChan (ok := fun u => u.lnArg 5 < 4) (f := fun _ s n _ => s.lanternSetIp n)
      (free h) hn hc hl hst (by rw [arg]; exact decide_eq_true h5) hr)
  · refine congrArg Host.Outcome.next (State.mailbox_lanternChan (ok := fun u => decide (u.lnArg 1 ≤ 48) && decide (u.lnArg 2 ≤ 48)) (f := fun _ s _ c =>
      (s.setCtxWord c 42 (gainOf (s.lnArg 1) + gainOf (s.lnArg 2) * 2 ^ 16), 0, []))
      (t := (u 0x13).setCtxWord c 42 (gainOf (s.lnArg 1) + gainOf (s.lnArg 2) * 2 ^ 16)) (status := 0) (vals := []) (free h) hn hc hl hst ?_ ?_)
    · rw [arg, arg, decide_eq_true h1, decide_eq_true h2]
      rfl
    · rw [arg, arg]
      rfl
  · refine congrArg Host.Outcome.next (State.mailbox_lanternChan (ok := fun u => lanternTail (u.lnArg 1) && decide (u.lnArg 2 < 2)) (f := fun _ s _ c =>
      (s.setCtxWord c 40 (setBits (setBits (s.ctxWord c 40) 0 8 (s.lnArg 1)) 8 2 (2 * s.lnArg 2)), 0, []))
      (t := (u 0x14).setCtxWord c 40 (setBits (setBits (s.ctxWord c 40) 0 8 (s.lnArg 1)) 8 2 (2 * s.lnArg 2))) (status := 0) (vals := [])
      (free h) hn hc hl hst ?_ ?_)
    · rw [arg, arg, h1, decide_eq_true h2]
      rfl
    · rw [arg, arg]
      rfl
  · refine congrArg Host.Outcome.next (State.mailbox_lanternChan (ok := fun u => u.lnArg 1 < 2) (f := fun _ => State.lanternStats) (t := s.mailboxTaken 0x15)
      (status := 0) (vals := (List.range 4).map (nth c.stats)) (free h) hn hc hl hst (by rw [arg, h1]; rfl) ?_)
    unfold State.lanternStats
    rw [if_neg (by rw [arg, h1]; decide)]
  · refine congrArg Host.Outcome.next (State.mailbox_lanternChan (ok := fun u => u.lnArg 1 < 2) (f := fun _ => State.lanternStats)
      (t := (s.mailboxTaken 0x15).setChan n { c with stats := [] }) (status := 0) (vals := (List.range 4).map (nth c.stats)) (free h) hn hc hl hst
      (by rw [arg, h1]; rfl) ?_)
    unfold State.lanternStats
    rw [if_pos (by rw [arg, h1])]
  · refine congrArg Host.Outcome.next (State.mailbox_eq (free h) (f := State.lanternEvent) (t := u 0x20) (status := 8) (vals := []) ?_)
    unfold State.lanternEvent
    rw [show (s.mailboxTaken 0x20).ln.fifo = [] from hf]
    rfl
  · refine ⟨_, congrArg Host.Outcome.next (State.mailbox_eq (free h) (f := State.lanternEvent) (t := { u 0x20 with ln := { (u 0x20).ln with fifo := r } })
      (status := 0) (vals := [e.1, e.2.1, e.2.2, r.length]) ?_), rfl, rfl, s.mailboxTaken_busy 0x20⟩
    unfold State.lanternEvent
    rw [show (s.mailboxTaken 0x20).ln.fifo = e :: r from hf]
    rfl
  · obtain ⟨t, hexec, hregs, hln⟩ := exec_mailboxCompletion hd
    obtain ⟨hnone, hbusy, hdone, hevent, hres, hopc, hvals⟩ := State.mailboxFinish_shows hcmd
    have keep := fun g => congrFun (State.fld_congr hregs) g
    refine ⟨t, hexec, (congrArg Lantern.cmd hln).trans hnone, (keep _).trans hbusy, (keep _).trans hdone, (keep _).trans hevent, (keep _).trans hres,
      (keep _).trans hopc, fun i hi => (keep _).trans (hvals i hi)⟩
  · obtain ⟨hlast, hclear, hrest⟩ := s.mailboxStatRead_shows
    exact ⟨_, rfl, hlast, fun _ => hclear, fun hm => hlast.trans (if_pos hm), hrest⟩

end Sys2Proof.Machine
end

section
/-! ## The jobs table (R397-R400): what operations do to its entries -/
namespace Sys2Proof.Machine

-- One declaration is checked at a time, so that the text with all its files is checked in bounded memory.
set_option Elab.async false

/-! ### What leaves the table alone -/

theorem State.sendMsix_jobs (s : State) (v : Nat) : (s.sendMsix v).hi.jobs = s.hi.jobs := by
  unfold State.sendMsix
  split <;> rfl

theorem State.moderate_jobs (s : State) (r : Nat) : (s.moderate r).hi.jobs = s.hi.jobs := by
  unfold State.moderate
  split
  · dsimp only
    split
    · exact State.sendMsix_jobs _ _
    · rfl
  · rfl

theorem State.ringEntry_jobs (s : State) (r : Nat) (words : List Nat) : (s.ringEntry r words).hi.jobs = s.hi.jobs := State.moderate_jobs _ _

theorem State.incS_hi (s : State) (f : Fld) (n : Nat) : (s.incS f n).hi = s.hi := (State.incS_fr s f n (.refl s)).hi rfl

theorem State.raise_hi (s : State) (cls : Cls) (src inst code a0 a1 a2 : Nat) : (s.raise cls src inst code a0 a1 a2).hi = s.hi :=
  (State.raise_fr s cls src inst code a0 a1 a2 (.refl s)).hi rfl

@[simp] theorem State.complete_jobs (s : State) (o : Origin) (status detail : Nat) (vals : List Nat) :
    (s.complete o status detail vals).hi.jobs = s.hi.jobs := by
  have hbad : (if status = 5 then s.countCmd.incS F.HI_ERR_CNT_BAD_DESC 1 else s.countCmd).hi = s.hi := by
    split
    · exact State.incS_hi _ _ _
    · rfl
  unfold State.complete
  dsimp only
  generalize (if status = 5 then s.countCmd.incS F.HI_ERR_CNT_BAD_DESC 1 else s.countCmd) = u at hbad ⊢
  split
  · exact (State.ringEntry_jobs _ _ _).trans (congrArg HostIf.jobs hbad)
  · exact congrArg HostIf.jobs ((State.incS_hi _ _ _).trans hbad)

@[simp] theorem State.completeOpt_jobs (s : State) (o : Option Origin) (status detail : Nat) (vals : List Nat) :
    (s.completeOpt o status detail vals).hi.jobs = s.hi.jobs := by
  cases o with
  | none => rfl
  | some o => exact s.complete_jobs o status detail vals

theorem State.completes_jobs (s : State) (l : List Origin) (status : Origin → Nat) :
    (l.foldl (fun t o => t.complete o (status o) 0 []) s).hi.jobs = s.hi.jobs :=
  foldl_keeps (fun t : State => t.hi.jobs) (fun t o => t.complete o (status o) 0 []) (fun t o => t.complete_jobs o _ _ _) l s

theorem State.job_congr {s t : State} (h : t.hi.jobs = s.hi.jobs) : t.job = s.job := by
  funext n
  exact congrArg (List.find? (·.handle = n)) h

/-! ### Entries -/

theorem State.job_handle {s : State} {h : Nat} {j : Job} (hj : s.job h = some j) : j.handle = h := by
  simpa using List.find?_some hj

/-- A record stored in place of one with its handle. -/
theorem State.job_setJob_same {s : State} {j x : Job} (hx : s.job j.handle = some x) : (s.setJob j).job j.handle = some j := by
  unfold State.job at hx ⊢
  show (s.hi.jobs.map fun x => if x.handle = j.handle then j else x).find? (·.handle = j.handle) = some j
  generalize s.hi.jobs = l at hx
  induction l with
  | nil => cases hx
  | cons y l ih =>
    rw [List.map_cons]
    by_cases hy : y.handle = j.handle
    · rw [if_pos hy]
      exact List.find?_cons_of_pos (by simp)
    · rw [List.find?_cons_of_neg (by simpa using hy)] at hx
      rw [if_neg hy, List.find?_cons_of_neg (by simpa using hy)]
      exact ih hx

theorem State.setJob_setJob (s : State) {j j' : Job} (h : j.handle = j'.handle) : (s.setJob j).setJob j' = s.setJob j' := by
  have hmap : ((s.hi.jobs.map fun x => if x.handle = j.handle then j else x).map fun x => if x.handle = j'.handle then j' else x)
      = s.hi.jobs.map fun x => if x.handle = j'.handle then j' else x := by
    rw [List.map_map]
    refine List.map_congr_left fun x _ => ?_
    show (if (if x.handle = j.handle then j else x).handle = j'.handle then j' else if x.handle = j.handle then j else x) = _
    by_cases hx : x.handle = j.handle
    · rw [if_pos hx, if_pos h, if_pos (hx.trans h)]
    · rw [if_neg hx]
  unfold State.setJob
  dsimp only
  rw [hmap]

theorem State.job_dropJob_same (s : State) (h : Nat) : (s.dropJob h).job h = none := by
  unfold State.job
  rw [List.find?_eq_none]
  intro x hx
  simpa using (List.mem_filter.1 hx).2

theorem State.job_addJob_same {s : State} {j : Job} (h : s.job j.handle = none) : (s.addJob j).job j.handle = some j := by
  unfold State.job at h ⊢
  show (s.hi.jobs ++ [j]).find? (·.handle = j.handle) = some j
  rw [List.find?_append, h]
  simp

/-! ### Progress and suspension -/

/-- A job's progress may be reported again: the last report is 10 ms old (R400). -/
def Job.reportDue (j : Job) (now : Nat) : Bool :=
  match j.lastReport with
  | none => true
  | some t => decide (now ≥ t + 10000000)

theorem State.jobProgress_eq {s : State} {h : Nat} {j : Job} (hj : s.job h = some j) (always : Bool) : s.jobProgress h always
    = if always || j.reportDue s.elapsed then
        (s.setJob { j with lastReport := some s.elapsed }).raise .info 0x02 j.origin.ring 0x0001 (h + j.op * 65536) j.done j.total
      else s := by
  unfold State.jobProgress
  rw [hj]
  rfl

/-- A report of progress sets the time of the job's last report, and no more of the table. -/
theorem State.jobProgress_job {s : State} {h : Nat} {j : Job} (hj : s.job h = some j) (always : Bool) :
    ∃ t, (s.jobProgress h always).job h = some { j with lastReport := t } := by
  have reported : ((s.setJob { j with lastReport := some s.elapsed }).raise .info 0x02 j.origin.ring 0x0001 (h + j.op * 65536) j.done j.total).job h
      = some { j with lastReport := some s.elapsed } := by
    obtain rfl := State.job_handle hj
    rw [State.job_congr (congrArg HostIf.jobs (State.raise_hi _ _ _ _ _ _ _ _))]
    exact State.job_setJob_same (j := { j with lastReport := some s.elapsed }) hj
  rw [State.jobProgress_eq hj]
  split
  · exact ⟨_, reported⟩
  · exact ⟨j.lastReport, hj⟩

/-- A job that becomes SUSPENDED answers the commands that wait for it. -/
theorem State.suspended_job {s : State} {h : Nat} {j : Job} (hj : s.job h = some j) :
    ∃ t, (s.suspended h).job h = some { j with st := .suspended, left := .running, suspenders := [], lastReport := t } := by
  obtain rfl := State.job_handle hj
  have hset := State.job_setJob_same (j := { j with st := .suspended, left := .running, suspenders := [] }) hj
  obtain ⟨t, ht⟩ := State.jobProgress_job hset true
  refine ⟨t, ?_⟩
  unfold State.suspended
  rw [hj]
  dsimp only
  rw [State.job_congr (State.completes_jobs _ _ _)]
  exact ht

end Sys2Proof.Machine
end

section
/-! ## The commands of job control (R398-R400) -/
namespace Sys2Proof.Machine

-- One declaration is checked at a time, so that the text with all its files is checked in bounded memory.
set_option Elab.async false

/-- A job-control command past its checks is its effect on the job of its HANDLE. -/
theorem State.jobControl_eq {s : State} {c : HCmd} {j : Job} (hs : Starts s c) (ha : argMask c [] = true) (hj : s.job (cmdHandle c) = some j)
    (op : Nat) (f : State → Origin → Job → State) : s.jobControl c op f = f (s.start c) (s.originOf c op) j := by
  obtain ⟨hstart, hbits, hfail⟩ := hs
  have hjob : (s.start c).job (s.originOf c op).handle = some j := hj
  unfold State.jobControl State.checked
  simp only [hstart, if_true, ha, hbits, Bool.true_eq_false, ne_eq, not_true_eq_false, or_self, if_false, Bool.false_eq_true, false_and, hjob]

theorem State.jobControl_none {s : State} {c : HCmd} (hs : Starts s c) (ha : argMask c [] = true) (hj : s.job (cmdHandle c) = none)
    (op : Nat) (f : State → Origin → Job → State) : s.jobControl c op f = (s.start c).complete (s.originOf c op) 8 0 [] := by
  obtain ⟨hstart, hbits, hfail⟩ := hs
  have hjob : (s.start c).job (s.originOf c op).handle = none := hj
  unfold State.jobControl State.checked
  simp only [hstart, if_true, ha, hbits, Bool.true_eq_false, ne_eq, not_true_eq_false, or_self, if_false, Bool.false_eq_true, false_and, hjob]

/-! ### JOB_SUSPEND -/

/-- A job that a suspend command waits for. -/
def Job.waitedBy (j : Job) (o : Origin) : Job := { j with st := .suspending, suspenders := j.suspenders ++ [o] }

/-- What JOB_SUSPEND does by the job's state. -/
def State.suspendJob (s : State) (o : Origin) (j : Job) : State :=
  match j.st with
  | .held => s.complete o 6 0 []
  | .cancelling => s.complete o 6 0 []
  | .suspended => s.complete o 0 0 []
  | .suspending => s.setJob { j with suspenders := j.suspenders ++ [o] }
  | _ => s.suspendKind o j

theorem exec_jobSuspend {s : State} {c : HCmd} {j : Job} (hs : Starts s c) (ha : argMask c [] = true) (hj : s.job (cmdHandle c) = some j) :
    Sys2Proof.Machine.exec (.jobSuspend c) s = .next ((s.start c).suspendJob (s.originOf c 0x50) j) :=
  congrArg Host.Outcome.next ((State.jobControl_eq hs ha hj 0x50 _).trans rfl)

theorem State.suspendJob_live {s : State} {j : Job} (o : Origin) (h : j.st = .running ∨ j.st = .queued) : s.suspendJob o j = s.suspendKind o j := by
  unfold State.suspendJob
  rcases h with h | h <;> rw [h]

/-- A kind without suspension turns the command away. -/
theorem State.suspendKind_refused {s : State} {j : Job} (o : Origin) (h : j.op ∉ [0x60, 0x62, 0x63, 0x64, 0x66, 0x67, 0x68]) :
    s.suspendKind o j = s.complete o 6 0 [] := by
  simp only [List.mem_cons, List.not_mem_nil, or_false, not_or] at h
  obtain ⟨h0, h2, h3, h4, h6, h7, h8⟩ := h
  unfold State.suspendKind
  dsimp only
  split
  case h_8 => rfl
  all_goals contradiction

/-- The kinds that carry the command until their step ends. -/
theorem State.suspendKind_waits {s : State} {j : Job} (o : Origin) (h : j.op = 0x60 ∨ j.op = 0x62 ∨ j.op = 0x66 ∧ 2 ≤ j.step) :
    s.suspendKind o j = s.setJob (j.waitedBy o) := by
  obtain ⟨hnd, op, st, left, origin, args, step, work, done, total, last, held, sus, can⟩ := j
  rcases h with h | h | ⟨h, hstep⟩ <;> obtain rfl : op = _ := h
  · rfl
  · rfl
  · exact if_neg (Nat.not_lt.2 hstep)

theorem State.suspendNow_job {s : State} {j x : Job} (hx : s.job j.handle = some x) :
    ∃ t, (s.suspendNow j).job j.handle = some { j with st := .suspended, left := .running, suspenders := [], lastReport := t } := by
  have h := State.suspended_job (State.job_setJob_same (j := { j with st := .suspending }) hx)
  exact h

/-- The kinds that suspend at once. -/
theorem State.suspendKind_now {s : State} {j : Job} (o : Origin) (hj : s.job j.handle = some j) (h : j.op = 0x63 ∨ j.op = 0x68 ∨ j.op = 0x66 ∧ j.step < 2) :
    ∃ j', (s.suspendKind o j).job j.handle = some j' ∧ j'.st = .suspended ∧ j'.suspenders = [] ∧ j'.done = j.done := by
  obtain ⟨t, ht⟩ := State.suspendNow_job (s := s) (j := j.waitedBy o) hj
  refine ⟨{ j.waitedBy o with st := .suspended, left := .running, suspenders := [], lastReport := t }, ?_, rfl, rfl, rfl⟩
  obtain ⟨hnd, op, st, left, origin, args, step, work, done, total, last, held, sus, can⟩ := j
  rcases h with h | h | ⟨h, hstep⟩ <;> obtain rfl : op = _ := h
  · exact ht
  · exact ht
  · exact (congrArg (fun u : State => u.job hnd) (if_pos hstep)).trans ht

/-- What JOB_SUSPEND does with the job of its HANDLE (R398, R399). -/
theorem jobSuspend_results {s : State} {c : HCmd} {j : Job} (hs : Starts s c) (ha : argMask c [] = true) (hj : s.job (cmdHandle c) = some j) :
    let u := s.start c
    let o := s.originOf c 0x50
    (j.st = .suspended → Sys2Proof.Machine.exec (.jobSuspend c) s = .next (u.complete o 0 0 []))
    ∧ ((j.st = .held ∨ j.st = .cancelling ∨ (j.st = .running ∨ j.st = .queued) ∧ j.op ∉ [0x60, 0x62, 0x63, 0x64, 0x66, 0x67, 0x68]) →
        Sys2Proof.Machine.exec (.jobSuspend c) s = .next (u.complete o 6 0 []))
    ∧ (j.st = .suspending ∨ (j.st = .running ∨ j.st = .queued) ∧ (j.op = 0x60 ∨ j.op = 0x62 ∨ j.op = 0x66 ∧ 2 ≤ j.step) →
        Sys2Proof.Machine.exec (.jobSuspend c) s = .next (u.setJob { j with st := .suspending, suspenders := j.suspenders ++ [o] }))
    ∧ ((j.st = .running ∨ j.st = .queued) → (j.op = 0x63 ∨ j.op = 0x68 ∨ j.op = 0x66 ∧ j.step < 2) →
        ∃ t, Sys2Proof.Machine.exec (.jobSuspend c) s = .next t
          ∧ ∃ j', t.job (cmdHandle c) = some j' ∧ j'.st = .suspended ∧ j'.suspenders = [] ∧ j'.done = j.done) := by
  intro u o
  have hexec := exec_jobSuspend hs ha hj
  refine ⟨fun h => ?_, fun h => ?_, fun h => ?_, fun h hop => ?_⟩
  · rw [hexec, State.suspendJob, h]
  · rw [hexec]
    rcases h with h | h | ⟨h, hop⟩
    · rw [State.suspendJob, h]
    · rw [State.suspendJob, h]
    · rw [State.suspendJob_live _ h, State.suspendKind_refused _ hop]
  · rw [hexec]
    rcases h with h | ⟨h, hop⟩
    · rw [State.suspendJob, h]
    · rw [State.suspendJob_live _ h, State.suspendKind_waits _ hop]
      rfl
  · refine ⟨_, hexec, ?_⟩
    obtain hh := State.job_handle hj
    rw [State.suspendJob_live _ h, ← hh]
    exact State.suspendKind_now _ (hh.symm ▸ hj) hop

/-! ### JOB_RESUME and JOB_CANCEL -/

theorem jobResume_results {s : State} {c : HCmd} {j : Job} (hs : Starts s c) (ha : argMask c [] = true) (hj : s.job (cmdHandle c) = some j) :
    let u := s.start c
    let o := s.originOf c 0x51
    (j.st = .suspended → Sys2Proof.Machine.exec (.jobResume c) s
        = .next ((((u.setJob { j with st := j.left, left := .running }).jobProgress (cmdHandle c) true).resumeKind { j with st := j.left, left := .running }).complete o 0 0 []))
    ∧ (j.st ≠ .suspended → Sys2Proof.Machine.exec (.jobResume c) s = .next (u.complete o 6 0 [])) := by
  intro u o
  have hexec := congrArg (Host.Outcome.next (φ := Fault) (ρ := Refusal)) (State.jobControl_eq hs ha hj 0x51 fun s o j =>
    if j.st = .suspended then
      (((s.setJob { j with st := j.left, left := .running }).jobProgress j.handle true).resumeKind { j with st := j.left, left := .running }).complete o 0 0 []
    else s.complete o 6 0 [])
  rw [← State.job_handle hj]
  exact ⟨fun h => hexec.trans (congrArg Host.Outcome.next (if_pos h)), fun h => hexec.trans (congrArg Host.Outcome.next (if_neg h))⟩

/-- What JOB_CANCEL does by the job's state. -/
def State.cancelJob (s : State) (o : Origin) (j : Job) : State :=
  match j.st with
  | .held => s.complete o 6 0 []
  | .cancelling => s.setJob { j with cancellers := j.cancellers ++ [o] }
  | _ => if s.pastCancel j then s.complete o 6 0 []
    else (s.setJob { j with cancellers := j.cancellers ++ [o] }).cancelKind { j with cancellers := j.cancellers ++ [o] }

theorem exec_jobCancel {s : State} {c : HCmd} {j : Job} (hs : Starts s c) (ha : argMask c [] = true) (hj : s.job (cmdHandle c) = some j) :
    Sys2Proof.Machine.exec (.jobCancel c) s = .next ((s.start c).cancelJob (s.originOf c 0x52) j) :=
  congrArg Host.Outcome.next ((State.jobControl_eq hs ha hj 0x52 _).trans rfl)

theorem State.cancelJob_live {s : State} {j : Job} (o : Origin) (hh : j.st ≠ .held) (hc : j.st ≠ .cancelling) : s.cancelJob o j
    = if s.pastCancel j then s.complete o 6 0 []
      else (s.setJob { j with cancellers := j.cancellers ++ [o] }).cancelKind { j with cancellers := j.cancellers ++ [o] } := by
  unfold State.cancelJob
  split
  · exact absurd ‹_› hh
  · exact absurd ‹_› hc
  · rfl

/-- Only a retirement and a migration come to a point past which they are not cancelled. -/
theorem State.pastCancel_other (s : State) {j : Job} (h1 : j.op ≠ 0x61) (h5 : j.op ≠ 0x65) : s.pastCancel j = false := by
  simp [State.pastCancel, h1, h5]

theorem State.cancelKind_repair (s : State) {j : Job} (h : j.op = 0x62) : s.cancelKind j = s.setJob { j with st := .cancelling } := by
  obtain ⟨hnd, op, st, left, origin, args, step, work, done, total, last, held, sus, can⟩ := j
  obtain rfl : op = 0x62 := h
  rfl

theorem State.cancelKind_scrub (s : State) {j : Job} (h : j.op = 0x63) :
    s.cancelKind j = (s.setFlag F.RL_STATUS_SCRUBBING false).endJob j.handle 3 0 j.work := by
  obtain ⟨hnd, op, st, left, origin, args, step, work, done, total, last, held, sus, can⟩ := j
  obtain rfl : op = 0x63 := h
  rfl

theorem State.cancelKind_firmware (s : State) {j : Job} (h : j.op = 0x69) : s.cancelKind j = s.fwCancelJob j := by
  obtain ⟨hnd, op, st, left, origin, args, step, work, done, total, last, held, sus, can⟩ := j
  obtain rfl : op = 0x69 := h
  rfl

/-- A firmware job that no core runs and no queue holds ends at once. -/
theorem State.fwCancelJob_gone {s : State} {j : Job} (hruns : s.fwRuns j.handle = false)
    (hqueued : (s.queued.find? fun e => e.kind = .hostJob && e.handle = j.handle) = none) : s.fwCancelJob j = s.endJob j.handle 3 0 [] := by
  unfold State.fwCancelJob
  dsimp only
  rw [if_neg (by rw [hruns]; decide), hqueued]

/-- What JOB_CANCEL does with the job of its HANDLE (R398). -/
theorem jobCancel_results {s : State} {c : HCmd} {j : Job} (hs : Starts s c) (ha : argMask c [] = true) (hj : s.job (cmdHandle c) = some j) :
    let u := s.start c
    let h := cmdHandle c
    let o := s.originOf c 0x52
    let j' := { j with cancellers := j.cancellers ++ [o] }
    (j.st = .held ∨ j.st ≠ .cancelling ∧ u.pastCancel j = true → Sys2Proof.Machine.exec (.jobCancel c) s = .next (u.complete o 6 0 []))
    ∧ (j.st = .cancelling → Sys2Proof.Machine.exec (.jobCancel c) s = .next (u.setJob j'))
    ∧ (j.st ≠ .held → j.st ≠ .cancelling → j.op = 0x62 → Sys2Proof.Machine.exec (.jobCancel c) s = .next (u.setJob { j' with st := .cancelling }))
    ∧ (j.st ≠ .held → j.st ≠ .cancelling → j.op = 0x63 → Sys2Proof.Machine.exec (.jobCancel c) s
          = .next (((u.setJob j').setFlag F.RL_STATUS_SCRUBBING false).endJob h 3 0 j.work))
    ∧ (j.st ≠ .held → j.st ≠ .cancelling → j.op = 0x69 → s.fwRuns h = false → (s.queued.find? fun e => e.kind = .hostJob && e.handle = h) = none →
          Sys2Proof.Machine.exec (.jobCancel c) s = .next ((u.setJob j').endJob h 3 0 [])) := by
  intro u h o j'
  have hexec := exec_jobCancel hs ha hj
  have hh : h = j.handle := (State.job_handle hj).symm
  clear_value h
  subst hh
  have live (hh : j.st ≠ .held) (hc : j.st ≠ .cancelling) (h1 : j.op ≠ 0x61) (h5 : j.op ≠ 0x65) : u.cancelJob o j = (u.setJob j').cancelKind j' := by
    rw [State.cancelJob_live _ hh hc, if_neg (by rw [u.pastCancel_other h1 h5]; decide)]
  refine ⟨fun hst => ?_, fun hst => ?_, fun hh hc hop => ?_, fun hh hc hop => ?_, fun hh hc hop hruns hqueued => ?_⟩ <;> rw [hexec]
  · rcases hst with hst | ⟨hc, hpast⟩
    · rw [State.cancelJob, hst]
    · by_cases hh : j.st = .held
      · rw [State.cancelJob, hh]
      · rw [State.cancelJob_live _ hh hc, if_pos hpast]
  · rw [State.cancelJob, hst]
    exact congrArg Host.Outcome.next (congrArg u.setJob (by rw [← hst]))
  · rw [live hh hc (by simp [hop]) (by simp [hop]), State.cancelKind_repair (j := j') _ hop]
    exact congrArg Host.Outcome.next (u.setJob_setJob (j := j') rfl)
  · rw [live hh hc (by simp [hop]) (by simp [hop]), State.cancelKind_scrub (j := j') _ hop]
  · rw [live hh hc (by simp [hop]) (by simp [hop]), State.cancelKind_firmware (j := j') _ hop, State.fwCancelJob_gone (s := u.setJob j') (j := j') hruns hqueued]

/-! ### JOB_STATUS and JOB_LIST -/

theorem jobStatus_results {s : State} {c : HCmd} {j : Job} (hs : Starts s c) (ha : argMask c [] = true) (hj : s.job (cmdHandle c) = some j) :
    let u := s.start c
    let h := cmdHandle c
    let o := s.originOf c 0x53
    (j.st = .held → ∃ t, Sys2Proof.Machine.exec (.jobStatus c) s = .next t ∧ t.job h = none
        ∧ t = (u.dropJob h).complete o 0 0 ((nth j.held 0 + nth j.held 1 * 2 ^ 8 + 6 * 2 ^ 16) :: (List.range 4).map fun i => nth j.held (2 + i)))
    ∧ (j.st ≠ .held → Sys2Proof.Machine.exec (.jobStatus c) s = .next (u.complete o 0 0 [(s.shownState j).code + j.op * 2 ^ 8, j.done, j.total])) := by
  intro u h o
  have hexec := congrArg (Host.Outcome.next (φ := Fault) (ρ := Refusal)) (State.jobControl_eq hs ha hj 0x53 fun s o j =>
    if j.st = .held then
      (s.dropJob j.handle).complete o 0 0 ((nth j.held 0 + nth j.held 1 * 2 ^ 8 + 6 * 2 ^ 16) :: (List.range 4).map fun i => nth j.held (2 + i))
    else s.complete o 0 0 [(s.shownState j).code + j.op * 2 ^ 8, j.done, j.total])
  have hh : h = j.handle := (State.job_handle hj).symm
  clear_value h
  subst hh
  refine ⟨fun hst => ⟨_, hexec.trans (congrArg Host.Outcome.next (if_pos hst)), ?_, rfl⟩, fun hst => hexec.trans (congrArg Host.Outcome.next (if_neg hst))⟩
  rw [State.job_congr (State.complete_jobs ..)]
  exact State.job_dropJob_same _ _

/-- Settles O48: each command of job control by the lemma about it. -/
theorem jobControl : Obligations.JobControl := by
  unfold Obligations.JobControl
  intro s c hs u h
  refine ⟨fun ha j hj => ⟨jobSuspend_results hs ha hj, jobResume_results hs ha hj, jobCancel_results hs ha hj, jobStatus_results hs ha hj⟩,
    fun ha hj => ?_, fun hb hlen hh => ?_⟩
  · exact congrArg Host.Outcome.next (State.jobControl_none hs ha hj 0x53 _)
  · have ok : (bufMask c [] && decide (2048 ≤ bufLen c)) = true := by rw [hb, decide_eq_true hlen]; rfl
    refine ⟨_, congrArg Host.Outcome.next (State.command_eq (mode := true) (chan := none) (buf := false) ⟨hs, hh⟩ ok rfl fun _ hn => nomatch hn), ?_, rfl⟩
    exact State.complete_jobs ..

end Sys2Proof.Machine
end

section
/-! ## The jobs that a command starts (R394, R448, R454, R455, R457) -/
namespace Sys2Proof.Machine

-- One declaration is checked at a time, so that the text with all its files is checked in bounded memory.
set_option Elab.async false

/-! ### The retirements under way: what leaves them alone -/

theorem State.enq_retire (s : State) (r : Report) : (s.enq r).rl.retire = s.rl.retire := by
  unfold State.enq
  dsimp only
  split
  · rfl
  · split
    · split <;> rfl
    · rfl

theorem State.incS_retire (s : State) (f : Fld) (n : Nat) : (s.incS f n).rl.retire = s.rl.retire := by
  unfold State.incS
  dsimp only
  split
  · exact State.enq_retire _ _
  · rfl

@[simp] theorem State.complete_retire (s : State) (o : Origin) (status detail : Nat) (vals : List Nat) :
    (s.complete o status detail vals).rl.retire = s.rl.retire := by
  have hbad : (if status = 5 then s.countCmd.incS F.HI_ERR_CNT_BAD_DESC 1 else s.countCmd).rl.retire = s.rl.retire := by
    split
    · exact State.incS_retire _ _ _
    · rfl
  unfold State.complete
  dsimp only
  generalize (if status = 5 then s.countCmd.incS F.HI_ERR_CNT_BAD_DESC 1 else s.countCmd) = u at hbad ⊢
  split
  · exact (congrArg Rel.retire ((State.ringEntry_fr _ _ _ (.refl _)).rl rfl)).trans hbad
  · exact (State.incS_retire _ _ _).trans hbad

/-! ### FW_JOB (R394) -/

theorem fwJob_eq {s : State} {c : HCmd} (cl : Nat) (hs : StartsJob s c 0x69 256 (fun _ => true))
    (hcl : arg c 0 < 16 ∧ s.clusterIn (arg c 0) = true ∧ cl = arg c 0 ∨ arg c 0 = 16 ∧ s.fwChoice = some cl) :
    Sys2Proof.Machine.exec (.fwJob c) s = .next ((s.start c).fwPost c (s.originOf c 0x69) cl) := by
  have ok : (decide (arg c 0 ≤ 16) && (decide (arg c 0 = 16) || s.clusterIn (arg c 0))) = true := by
    obtain ⟨hlt, hin, -⟩ | ⟨h16, -⟩ := hcl
    · rw [decide_eq_true (Nat.le_of_lt hlt), hin, Bool.or_true]
      rfl
    · rw [h16]
      rfl
  refine congrArg Host.Outcome.next ((State.jobCommand_eq (mode := true) (chan := none) (buf := false) hs ok rfl fun _ hn => nomatch hn).trans ?_)
  obtain ⟨hlt, -, rfl⟩ | ⟨h16, hchoice⟩ := hcl
  · rw [if_neg (Nat.ne_of_lt hlt)]
  · rw [if_pos h16, show (s.start c).fwChoice = some cl from hchoice]

/-- What the post of a firmware job does: its entry, or a refusal for the queue or for the pool (R155, R156). -/
theorem State.fwPost_results (u : State) (c : HCmd) (o : Origin) (cl : Nat) :
    let j := newJob c o .queued ([cl, 0x69 + c.hi.toNat * 256, c.tag.toNat] ++ (List.range 14).map (arg c)) 1
    (u.queueRoom (8 * cl + 5) = true → u.poolRoom = true → u.fwPost c o cl = (u.addJob j).pushEntry (fwEntry j cl))
    ∧ (u.queueRoom (8 * cl + 5) = false → u.fwPost c o cl = ((u.setFlag F.TH_EVENT_QUEUE_FULL true).incS F.TH_REFUSE_HOST_HOST 1).complete o 2 0 [])
    ∧ (u.queueRoom (8 * cl + 5) = true → u.poolRoom = false →
        u.fwPost c o cl = ((u.setFlag F.TH_EVENT_POOL_FULL true).incS F.TH_REFUSE_HOST_HOST 1).complete o 2 0 []) := by
  intro j
  refine ⟨fun hq hp => ?_, fun hq => ?_, fun hq hp => ?_⟩ <;> unfold State.fwPost <;> dsimp only
  · rw [hq, hp]
    rfl
  · rw [hq]
    rfl
  · rw [hq, hp]
    rfl

/-! ### CORE_RETIRE (R448) -/

/-- What CORE_RETIRE does past its checks. -/
def State.retireCmd (s : State) (c : HCmd) (o : Origin) (k : Nat) : State :=
  let st := s.fld (F.CO_STATUS_STATE k)
  if st = 2 ∨ s.rl.retire.any (·.core = k) then s.complete o 6 0 []
  else if st = 0 then
    let s := (s.setFld (F.CO_STATUS_STATE k) 2).setFld F.RL_SPARES_SPARE_FREE (setBits (s.fld F.RL_SPARES_SPARE_FREE) (k / 9) 1 0)
    (s.setFld (F.RL_CL_REPAIR_RETIRED (k / 9)) (s.fld (F.RL_CL_REPAIR_RETIRED (k / 9)) + 1)).complete o 0 0 []
  else (s.addJob (newJob c o .running [] 1)).startRetire k (some o.handle)

theorem coreRetire_eq {s : State} {c : HCmd} (hs : StartsJob s c 0x61 1 (fun j => nth j.args 0 / 9 = arg c 0 / 9)) (ha : argMask c [0xFF] = true)
    (hk : arg c 0 < 144) (hc : arg c 0 / 9 < s.clusters) :
    Sys2Proof.Machine.exec (.coreRetire c) s = .next ((s.start c).retireCmd c (s.originOf c 0x61) (arg c 0)) := by
  have ok : (argMask c [0xFF] && decide (arg c 0 < 144) && decide (arg c 0 / 9 < s.clusters)) = true := by
    rw [ha, decide_eq_true hk, decide_eq_true hc]
    rfl
  exact congrArg Host.Outcome.next (State.jobCommand_eq (mode := true) (chan := none) (buf := false) hs ok rfl fun _ hn => nomatch hn)

/-- An active core's retirement begins: dispatch to it stops, and its job runs. -/
theorem State.retireCmd_begins {u : State} (c : HCmd) (o : Origin) {k : Nat} (h0 : u.fld (F.CO_STATUS_STATE k) ≠ 0) (h2 : u.fld (F.CO_STATUS_STATE k) ≠ 2)
    (hr : u.rl.retire.any (·.core = k) = false) (hj : u.job o.handle = none) :
    (u.retireCmd c o k).rl.retire = u.rl.retire ++ [⟨k, 1, some o.handle, u.elapsed, none⟩] ∧ (u.retireCmd c o k).th.stopped = k :: u.th.stopped
      ∧ (u.retireCmd c o k).fld F.RL_STATUS_RETIRING = 1 ∧ (u.retireCmd c o k).job o.handle = some (newJob c o .running [] 1) := by
  have state : ((u.addJob (newJob c o .running [] 1)).fld (F.CO_STATUS_STATE k)) = u.fld (F.CO_STATUS_STATE k) :=
    State.fld_setFld_ne _ _ _ _ (coreStatus_key_ne_low (by decide) rfl)
  have added := State.job_addJob_same (s := u) (j := newJob c o .running [] 1) hj
  have start : (u.addJob (newJob c o .running [] 1)).startRetire k (some o.handle)
      = ({ u.addJob (newJob c o .running [] 1) with
            rl := { u.rl with retire := u.rl.retire ++ [⟨k, 1, some o.handle, u.elapsed, none⟩] }
            th := { u.th with stopped := k :: u.th.stopped } } : State).setFlag F.RL_STATUS_RETIRING true := by
    unfold State.startRetire
    rw [state, show (u.addJob (newJob c o .running [] 1)).rl = u.rl from rfl, hr, if_neg (by simpa using h2)]
    rfl
  unfold State.retireCmd
  dsimp only
  rw [if_neg (by simp only [hr, h2, or_self, Bool.false_eq_true, not_false_eq_true]), if_neg h0, start]
  exact ⟨rfl, rfl, State.fld_setFlag_same _ _ _ (by decide), added⟩

/-- A spare core goes out of use at once. -/
theorem State.retireCmd_spare {u : State} (c : HCmd) (o : Origin) {k : Nat} (h0 : u.fld (F.CO_STATUS_STATE k) = 0)
    (hr : u.rl.retire.any (·.core = k) = false) (hk : k < 144) :
    (u.retireCmd c o k).fld (F.CO_STATUS_STATE k) = 2
      ∧ (u.retireCmd c o k).fld F.RL_SPARES_SPARE_FREE = setBits (u.fld F.RL_SPARES_SPARE_FREE) (k / 9) 1 0 % 2 ^ F.RL_SPARES_SPARE_FREE.w
      ∧ (u.retireCmd c o k).rl.retire = u.rl.retire ∧ (u.retireCmd c o k).th = u.th ∧ (u.retireCmd c o k).hi.jobs = u.hi.jobs := by
  have repair_low : (F.RL_CL_REPAIR_RETIRED (k / 9)).key < 0x400000 * 8 := by simp only [Fld.key, F.RL_CL_REPAIR_RETIRED, R.RL_CL_REPAIR]; omega
  have repair_ne : (F.RL_CL_REPAIR_RETIRED (k / 9)).key ≠ F.RL_SPARES_SPARE_FREE.key := by
    simp only [Fld.key, F.RL_CL_REPAIR_RETIRED, R.RL_CL_REPAIR, F.RL_SPARES_SPARE_FREE, R.RL_SPARES]; omega
  have state_out : outRl (F.CO_STATUS_STATE k) = true ∧ outHi (F.CO_STATUS_STATE k) = true := by
    constructor <;> simp [outRl, outHi, Fld.key, F.CO_STATUS_STATE, R.CO_STATUS] <;> omega
  unfold State.retireCmd
  dsimp only
  rw [if_neg (by simp [h0, hr]), if_pos h0]
  refine ⟨?_, ?_, State.complete_retire .., (State.complete_fr _ _ _ _ _ (.refl _)).th rfl, State.complete_jobs ..⟩
  · rw [State.complete_keeps_fld _ _ _ _ _ (enqFree_of_outRl state_out.1) state_out.2, State.fld_setFld_ne _ _ _ _ (coreStatus_key_ne_low repair_low rfl),
      State.fld_setFld_ne _ _ _ _ (coreStatus_key_ne_low (by decide) rfl), State.fld_setFld_same]
    rfl
  · rw [State.complete_keeps_fld _ _ _ _ _ (by decide) (by decide), State.fld_setFld_ne _ _ _ _ repair_ne, State.fld_setFld_same]

/-! ### HBM_REPAIR (R454, R455) -/

/-- The start of HBM_REPAIR for a lane. -/
theorem hbmRepair_lane {s : State} {c : HCmd} (hs : StartsJob s c 0x62 1 (fun j => nth j.args 0 % 16 = arg c 0 % 16)) (hkind : bits (arg c 0) 4 2 = 0)
    (ha : argMask c [0x3F, 0x7F] = true) (h1 : arg c 1 < 72) (hl : s.fld (F.HP_PC_STAT_LANES_LEFT (arg c 0 % 16)) ≠ 0) :
    Sys2Proof.Machine.exec (.hbmRepair c) s
      = .next ((s.start c).addJob { newJob c (s.originOf c 0x62) .running [0, 0, 0, 0] 1 with step := 2 }) := by
  have ok : (if bits (arg c 0) 4 2 = 0 then argMask c [0x3F, 0x7F] && decide (arg c 1 < 72)
      else decide (bits (arg c 0) 4 2 = 1) && argMask c [0x3F, 0xF3FFF]) = true := by
    rw [if_pos hkind, ha, decide_eq_true h1]
    rfl
  show execHbmRepair c s = _
  unfold execHbmRepair
  refine congrArg Host.Outcome.next ((State.jobCommand_eq (mode := true) (chan := none) (buf := false) hs ok rfl fun _ hn => nomatch hn).trans ?_)
  rw [if_pos hkind]
  exact if_neg hl

/-- A page that maps nowhere else starts its move while moves and spare pages are left (R187). -/
theorem State.startMove_starts {u : State} {p q d : Nat} {r : List Nat} (hp : u.physPage p = some q) (hlen : u.hp.moves.length < 4)
    (hany : u.hp.moves.any (·.page = p) = false) (hpool : u.hp.pool = d :: r) (repair : Bool) (o : Option Origin) : u.startMove p repair o
      = ({ u with hp := { u.hp with pool := r, moves := u.hp.moves ++ [⟨p, q, d, 0, repair, o⟩] } }, none) := by
  unfold State.startMove
  rw [hp]
  dsimp only
  rw [if_neg (Nat.not_le.2 hlen), if_neg (by rw [hany]; decide), hpool]

theorem State.physPage_logicalOf {u : State} {q p : Nat} (h : u.logicalOf q = some p) : u.physPage p = some q := by
  simpa using List.find?_some h

/-- The page in which a row of a pseudo-channel stands, of those that the device has. -/
def State.repairPage (s : State) (pc row : Nat) : Nat := (Config.rowPage pc (bits row 16 4) (bits row 0 14)).toNat % s.pages

theorem repairKind_row {c : HCmd} (hkind : bits (arg c 0) 4 2 = 1) : ¬bits (arg c 0) 4 2 = 0 := by rw [hkind]; decide

/-- The words of a row's repair keep their masks. -/
theorem repairOk_row {c : HCmd} (hkind : bits (arg c 0) 4 2 = 1) (ha : argMask c [0x3F, 0xF3FFF] = true) :
    (if bits (arg c 0) 4 2 = 0 then argMask c [0x3F, 0x7F] && decide (arg c 1 < 72)
      else decide (bits (arg c 0) 4 2 = 1) && argMask c [0x3F, 0xF3FFF]) = true := by
  rw [if_neg (repairKind_row hkind), hkind, ha]
  rfl

section
variable {s : State} {c : HCmd} (hs : StartsJob s c 0x62 1 (fun j => nth j.args 0 % 16 = arg c 0 % 16)) (hkind : bits (arg c 0) 4 2 = 1)
  (ha : argMask c [0x3F, 0xF3FFF] = true) (hl : s.pprLeft (Fin.ofNat 16 (arg c 0)) ≠ 0) (hpool : s.hp.pool ≠ [])
include hs hkind ha hl hpool

/-- The start of HBM_REPAIR for a row whose page maps nowhere: the pause follows at once. -/
theorem hbmRepair_unmapped (hq : s.logicalOf (s.repairPage (arg c 0 % 16) (arg c 1)) = none) :
    Sys2Proof.Machine.exec (.hbmRepair c) s = .next (((s.start c).holdPage (s.repairPage (arg c 0 % 16) (arg c 1))).addJob
      { newJob c (s.originOf c 0x62) .running [1, s.repairPage (arg c 0 % 16) (arg c 1), 0xFFFFFFFF, 0xFFFFFFFF] 2 with step := 2, done := 1 }) := by
  have kind := repairKind_row hkind
  have ok := repairOk_row hkind ha
  have left : ¬((s.start c).pprLeft (Fin.ofNat 16 (arg c 0)) = 0 ∨ (s.start c).hp.pool = []) := not_or.2 ⟨hl, hpool⟩
  have maps : (s.start c).logicalOf (s.repairPage (arg c 0 % 16) (arg c 1)) = none := hq
  unfold State.repairPage at maps ⊢
  show execHbmRepair c s = _
  unfold execHbmRepair
  refine congrArg Host.Outcome.next ((State.jobCommand_eq (mode := true) (chan := none) (buf := false) hs ok rfl fun _ hn => nomatch hn).trans ?_)
  rw [if_neg kind, if_neg left]
  dsimp only [Fin.ofNat]
  rw [show (s.start c).pages = s.pages from rfl, maps]

/-- The start of HBM_REPAIR for a row whose page maps: the move of the page comes first. -/
theorem hbmRepair_mapped {p : Nat} {t : State} (hq : s.logicalOf (s.repairPage (arg c 0 % 16) (arg c 1)) = some p)
    (hm : (s.start c).startMove p true none = (t, none)) :
    Sys2Proof.Machine.exec (.hbmRepair c) s = .next (t.addJob
      { newJob c (s.originOf c 0x62) .running [1, s.repairPage (arg c 0 % 16) (arg c 1), p, 0] 2 with step := 1 }) := by
  have kind := repairKind_row hkind
  have ok := repairOk_row hkind ha
  have left : ¬((s.start c).pprLeft (Fin.ofNat 16 (arg c 0)) = 0 ∨ (s.start c).hp.pool = []) := not_or.2 ⟨hl, hpool⟩
  have maps : (s.start c).logicalOf (s.repairPage (arg c 0 % 16) (arg c 1)) = some p := hq
  unfold State.repairPage at maps ⊢
  show execHbmRepair c s = _
  unfold execHbmRepair
  refine congrArg Host.Outcome.next ((State.jobCommand_eq (mode := true) (chan := none) (buf := false) hs ok rfl fun _ hn => nomatch hn).trans ?_)
  rw [if_neg kind, if_neg left]
  dsimp only [Fin.ofNat]
  rw [show (s.start c).pages = s.pages from rfl, maps]
  dsimp only
  rw [hm]

end

/-! ### SCRUB (R457) -/

/-- What SCRUB does past its checks. -/
theorem scrub_eq {s : State} {c : HCmd} (hs : StartsJob s c 0x63 1 (fun _ => true)) (ha : argMask c [7, 0xFF] = true) (h0 : arg c 0 ≠ 0) :
    Sys2Proof.Machine.exec (.scrub c) s = .next (((s.start c).addJob (newJob c (s.originOf c 0x63) .running [0, 0]
      (if bit (arg c 0) 0 then ((List.range 8192).filter fun p => (s.physPage p).isSome).length else 0))).setFlag F.RL_STATUS_SCRUBBING true) := by
  have ok : (argMask c [7, 0xFF] && decide (arg c 0 ≠ 0)) = true := by
    rw [ha, decide_eq_true h0]
    rfl
  have pages : (s.start c).physPage = s.physPage := State.physPage_congr rfl rfl
  show execScrub c s = _
  unfold execScrub
  refine congrArg Host.Outcome.next ((State.jobCommand_eq (mode := true) (chan := none) (buf := false) hs ok rfl fun _ hn => nomatch hn).trans ?_)
  dsimp only
  rw [pages]

/-- Settles O46: each job command by the lemma about its start. -/
theorem jobStarts : Obligations.JobStarts := by
  unfold Obligations.JobStarts
  intro s c u
  refine ⟨fun cl hs hcl => ?_, fun hs ha hk hc => ?_, fun hs hkind ha h1 hl => ?_, fun hs hkind ha hl d r hpool => ?_, fun hs ha h0 => ?_⟩
  · obtain ⟨hgo, hfull, hpool⟩ := u.fwPost_results c (s.originOf c 0x69) cl
    rw [fwJob_eq cl hs hcl]
    exact ⟨fun hq hp => congrArg _ (hgo hq hp), fun hq => congrArg _ (hfull hq), fun hq hp => congrArg _ (hpool hq hp)⟩
  · rw [coreRetire_eq hs ha hk hc]
    obtain ⟨-, -, hjob, -, -⟩ := hs
    refine ⟨fun h0 h2 hr => ⟨_, rfl, ?_⟩, fun h0 hr => ⟨_, rfl, ?_⟩, fun h => congrArg _ (if_pos h)⟩
    · exact State.retireCmd_begins (u := u) c (s.originOf c 0x61) h0 h2 hr hjob
    · exact State.retireCmd_spare (u := u) c (s.originOf c 0x61) h0 hr hk
  · rw [hbmRepair_lane hs hkind ha h1 hl]
    obtain ⟨-, -, hjob, -, -⟩ := hs
    exact ⟨_, rfl, State.job_addJob_same (s := u) hjob, rfl⟩
  · have hne : s.hp.pool ≠ [] := by rw [hpool]; exact List.cons_ne_nil _ _
    obtain ⟨-, -, hjob, -, -⟩ := id hs
    refine ⟨fun hq => ⟨_, hbmRepair_unmapped hs hkind ha hl hne hq, ?_, List.mem_cons_self .., rfl, State.job_addJob_same hjob⟩, fun p hp hlen hany => ?_⟩
    · exact fun hmem => of_decide_eq_true (List.mem_filter.1 hmem).2 rfl
    · have move := State.startMove_starts (u := u) (p := p) (d := d) (r := r) (State.physPage_logicalOf hp) hlen hany hpool true none
      refine ⟨_, hbmRepair_mapped hs hkind ha hl hne hp move, rfl, rfl, ?_⟩
      refine State.job_addJob_same (j := { newJob c (s.originOf c 0x62) .running [1, s.repairPage (arg c 0 % 16) (arg c 1), p, 0] 2 with step := 1 }) ?_
      exact hjob
  · obtain ⟨-, -, hjob, -, -⟩ := id hs
    exact ⟨_, scrub_eq hs ha h0, State.fld_setFlag_same _ _ _ (by decide),
      State.job_addJob_same (s := u) (j := newJob c (s.originOf c 0x63) .running [0, 0] _) hjob⟩

end Sys2Proof.Machine
end

section
/-! ## Trailhead's entries and tokens: the registers that they write (R147, R164, R173) -/
namespace Sys2Proof.Machine

-- One declaration is checked at a time, so that the text with all its files is checked in bounded memory.
set_option Elab.async false

theorem State.clusterIn_lt {s : State} {c : Nat} (h : s.clusterIn c = true) : c < 16 := by
  have := s.clusters_le
  have := of_decide_eq_true (Bool.and_eq_true_iff.1 h).1
  omega

theorem Fld.waitHwm_block {c : Nat} (hc : c < 16) : (F.HP_CSTAT_WAIT_HWM c).block = 4 :=
  Fld.block_of_low (by simp only [Fld.key, F.HP_CSTAT_WAIT_HWM, R.HP_CSTAT]; omega) (by simp only [Fld.key, F.HP_CSTAT_WAIT_HWM, R.HP_CSTAT]; omega)
    (by decide)

namespace RegFr
variable {B : Nat} {s t : State}

theorem pushEntry (h : RegFr B s t) (e : Entry) (he : e.kind = .node → e.cluster < 16) (hB : partSub 0x18 B = true) : RegFr B s (t.pushEntry e) := by
  have pool (u : State) (hu : RegFr B s u) : RegFr B s u.poolMark := hu.setFld (f := F.TH_POOL_HWM_HWM) _ (partSub_bit hB rfl)
  have queued : RegFr B s (({ t with th := { t.th with nextId := t.th.nextId + 1 } } : State).setQueue e.queue
      (State.queueAt { t with th := { t.th with nextId := t.th.nextId + 1 } } e.queue ++ [{ e with id := t.th.nextId, since := t.elapsed }])) :=
    h.trans (.of_regs ((State.setQueue_fr _ _ _ (.refl _)).regs rfl))
  unfold State.pushEntry
  dsimp only
  split
  case isTrue hk =>
    refine (pool _ queued).setFld _ ?_
    rw [Fld.waitHwm_block (he hk)]
    exact partSub_bit hB rfl
  case isFalse => exact pool _ queued

theorem setChan (h : RegFr B s t) (n : Nat) (c : Chan) : RegFr B s (t.setChan n c) := h.trans (.of_regs rfl)

theorem hwDrop (h : RegFr B s t) (n e : Nat) (hB : partSub 0x48 B = true) : RegFr B s (t.hwDrop n e) := by
  have hth : B.testBit 3 = true := partSub_bit hB rfl
  have hrl : B.testBit 6 = true := partSub_bit hB rfl
  have counted := (h.incS (f := F.TH_REFUSE_CNT_HW) 1 hth hrl).setFlag (f := F.TH_EVENT_HW_DROP) true hth
  exact .ite (counted.event .warn 0 n e 0 hth hrl (by decide)) counted

theorem voidOutputs (h : RegFr B s t) (n nd frame : Nat) (hB : partSub 0x48 B = true) : RegFr B s (t.voidOutputs n nd frame) := by
  unfold State.voidOutputs
  split
  · exact h
  · refine foldl (fun u e _ hu => ?_) h
    split
    · exact hu
    · exact .ite (hu.trans (.of_regs ((State.placeToken_fr _ _ _ _ _ _ (.refl _)).regs rfl))) (hu.hwDrop n e hB)

theorem consumeVoid (h : RegFr B s t) (n nd frame : Nat) (hB : partSub 0x48 B = true) : RegFr B s (t.consumeVoid n nd frame) := by
  unfold State.consumeVoid
  split
  case h_1 => exact h
  case h_2 c _ =>
    exact (h.setChan n (c.consume nd)).voidOutputs n nd frame hB

theorem settle (hB : partSub 0x58 B = true) (fuel n : Nat) (l : List Nat) (t : State) (h : RegFr B s t) : RegFr B s (State.settle fuel n l t) := by
  induction fuel generalizing l t with
  | zero => exact h
  | succ fuel ih =>
    cases l with
    | nil => exact h
    | cons nd rest =>
      have hvoid : partSub 0x48 B = true := partSub_trans hB rfl
      unfold State.settle
      split
      · exact h
      case h_2 c _ =>
        split
        · exact ih rest t h
        case isFalse hgo =>
          dsimp only
          split
          · exact ih _ _ ((h.setChan n _).consumeVoid n nd _ hvoid)
          · refine ih rest _ (h.pushEntry _ (fun _ => ?_) (partSub_trans hB rfl))
            simp only [Bool.or_eq_true, Bool.not_eq_true', not_or] at hgo
            obtain ⟨-, hserves⟩ := hgo
            exact State.clusterIn_lt (Bool.and_eq_true_iff.1 (Bool.eq_true_of_not_eq_false hserves)).1

theorem makeReady (h : RegFr B s t) (n : Nat) (l : List Nat) (hB : partSub 0x58 B = true) : RegFr B s (t.makeReady n l) := settle hB settleFuel n l t h

theorem endCancelled (h : RegFr B s t) (e : Entry) (core : Option Nat) (hB : partSub 0x5C B = true) : RegFr B s (t.endCancelled e core) := by
  have hth : B.testBit 3 = true := partSub_bit hB rfl
  have hrl : B.testBit 6 = true := partSub_bit hB rfl
  have h44 : partSub 0x44 B = true := partSub_trans hB rfl
  unfold State.endCancelled
  split
  · have recorded : RegFr B s (t.nodeRecord e core 3 0 0 false) := h.trans (.of_regs ((State.nodeRecord_fr _ _ _ _ _ _ _ (.refl _)).regs rfl))
    have done : RegFr B s ((t.nodeRecord e core 3 0 0 false).cancelsDone e) := by
      unfold State.cancelsDone
      exact foldl (fun u w _ hu => (hu.incS (f := F.TH_CANCEL_CNT_CANCELS) 1 hth hrl).complete _ _ _ _ h44) (recorded.trans (.of_regs rfl))
    dsimp only
    split
    · exact .ite done ((done.consumeVoid _ _ _ (partSub_trans hB rfl)).makeReady _ _ (partSub_trans hB rfl))
    · exact done
  · exact (h.incS (f := F.TH_CANCEL_CNT_CANCELS) 1 hth hrl).endJob _ _ _ _ h44
  · exact h

theorem resetAbort (h : RegFr B s t) (k : Nat) (hB : partSub 0x5C B = true) : RegFr B s (t.resetAbort k) := by
  have aborted : RegFr B s (t.abortRun k) := h.trans (.of_regs rfl)
  unfold State.resetAbort
  split
  · exact h
  · exact .ite (aborted.endCancelled _ _ hB) (aborted.trans (.of_regs ((State.returnEntry_fr _ _ (.refl _)).regs rfl)))

theorem resetCore (h : RegFr B s t) (k : Nat) : RegFr B s (t.resetCore k) := h.trans (.of_regs ((State.resetCore_fr _ _ (.refl _)).regs rfl))

end RegFr

end Sys2Proof.Machine
end

section
/-! ## Retirements, row repair and cluster resets (R448, R449, R451-R453, R478, R483, R513) -/
namespace Sys2Proof.Machine

-- One declaration is checked at a time, so that the text with all its files is checked in bounded memory.
set_option Elab.async false

/-! ### The swap of a retiring core (R449) -/

theorem retireNodeTimeout_resets {s : State} {k : Fin 144} {r : Retire} (hr : (s.rl.retire.find? fun r => r.core = k.val && r.step = 1) = some r)
    (hrun : (s.core k).run.isSome = true) (hdue : r.since + 2000000 ≤ s.elapsed) :
    ∃ t, Sys2Proof.Machine.exec (.retireNodeTimeout k) s = .next t ∧ (t.core k).run = none ∧ (t.core k).pc = 0 := by
  refine ⟨s.coreReset k, ?_, ?_⟩
  · show execRetireNodeTimeout k s = _
    unfold execRetireNodeTimeout
    rw [hr]
    dsimp only
    rw [if_pos ⟨hrun, hdue⟩]
  · obtain ⟨hpc, -, -, -, hnone, -⟩ := resetCore_core (s.faultAbort k false) k
    unfold State.coreReset
    rcases State.preemptScan_core ((s.faultAbort k false).resetCore k) (k / 9) k with h | h <;> rw [h]
    · exact ⟨hnone, hpc⟩
    · simp only [hnone, hpc, and_self]

/-- The registers of a core that leaves its place, or takes one. -/
def State.showCore (s : State) (k state : Nat) (mapped : Bool) (lg : Nat) : State :=
  ((s.setFld (F.CO_STATUS_STATE k) state).setFlag (F.CO_STATUS_MAPPED k) mapped).setFld (F.CO_STATUS_LOGICAL k) lg

theorem State.showCore_flds (s : State) (k state : Nat) (mapped : Bool) (lg : Nat) :
    (s.showCore k state mapped lg).fld (F.CO_STATUS_STATE k) = state % 4 ∧ (s.showCore k state mapped lg).fld (F.CO_STATUS_MAPPED k) = b2n mapped
      ∧ (s.showCore k state mapped lg).fld (F.CO_STATUS_LOGICAL k) = lg % 2 ^ (F.CO_STATUS_LOGICAL k).w := by
  have ne (f g : Fld) (hf : f.addr = R.CO_STATUS k) (hg : g.addr = R.CO_STATUS k) (h : f.lo ≠ g.lo) : f.key ≠ g.key := by
    simp only [Fld.key, hf, hg]
    omega
  unfold State.showCore
  refine ⟨?_, ?_, State.fld_setFld_same ..⟩
  · rw [State.fld_setFld_ne _ _ _ _ (ne _ _ rfl rfl (by simp [F.CO_STATUS_LOGICAL, F.CO_STATUS_STATE])),
      State.fld_setFlag_ne _ _ _ _ (ne _ _ rfl rfl (by simp [F.CO_STATUS_MAPPED, F.CO_STATUS_STATE])), State.fld_setFld_same]
    rfl
  · rw [State.fld_setFld_ne _ _ _ _ (ne _ _ rfl rfl (by simp [F.CO_STATUS_LOGICAL, F.CO_STATUS_MAPPED])), State.fld_setFlag_same _ _ _ Nat.one_pos]

/-- The registers of other cores, and those below the cores' own, are left alone. -/
theorem State.showCore_fld_ne (s : State) {k k' : Nat} (state : Nat) (mapped : Bool) (lg : Nat) {g : Fld} (hg : g.addr = R.CO_STATUS k') (hlo : g.lo < 32)
    (h : k ≠ k') : (s.showCore k state mapped lg).fld g = s.fld g := by
  unfold State.showCore
  rw [State.fld_setFld_ne _ _ _ _ (coreStatus_key_ne rfl hg (lo_lt rfl) hlo h), State.fld_setFlag_ne _ _ _ _ (coreStatus_key_ne rfl hg (lo_lt rfl) hlo h),
    State.fld_setFld_ne _ _ _ _ (coreStatus_key_ne rfl hg (lo_lt rfl) hlo h)]

theorem State.showCore_fld_low (s : State) (k state : Nat) (mapped : Bool) (lg : Nat) {g : Fld} (hg : g.key < 0x400000 * 8) :
    (s.showCore k state mapped lg).fld g = s.fld g := by
  have ne {f : Fld} (hf : f.addr = R.CO_STATUS k) : f.key ≠ g.key := (coreStatus_key_ne_low hg hf).symm
  unfold State.showCore
  rw [State.fld_setFld_ne _ _ _ _ (ne rfl), State.fld_setFlag_ne _ _ _ _ (ne rfl), State.fld_setFld_ne _ _ _ _ (ne rfl)]

theorem State.showCore_core (s : State) (k state : Nat) (mapped : Bool) (lg j : Nat) : (s.showCore k state mapped lg).core j = s.core j := rfl

/-- The swap: the core out of use, and the spare of its cluster in its place. -/
def State.swapCores (s : State) (k p lg : Nat) : State :=
  (((s.resetCore k).showCore k 2 false 0).resetCore p).showCore p 1 true lg

theorem State.resetCore_fld (s : State) (k : Nat) : (s.resetCore k).fld = s.fld := State.fld_congr ((State.resetCore_fr _ _ (.refl _)).regs rfl)

/-- The spare that the swap takes: the retiring core itself is out of use already. -/
theorem retirementSwap_eq {s : State} {k : Fin 144} {r : Retire} {p : Nat} (hr : (s.rl.retire.find? fun r => r.core = k.val && r.step = 1) = some r)
    (hrun : (s.core k).run = none) (hfree : bit (s.fld F.RL_SPARES_SPARE_FREE) (k / 9) = true)
    (hp : ((coresOf (k / 9)).find? fun p => p ≠ k.val && s.fld (F.CO_STATUS_STATE p) = 0) = some p) :
    ∃ t, Sys2Proof.Machine.exec (.retirementSwap k) s = .next t ∧ t.regs = (s.swapCores k p (s.logical k)).regs ∧ t.cores = (s.swapCores k p (s.logical k)).cores := by
  have free : bit (((s.resetCore k).showCore k 2 false 0).fld F.RL_SPARES_SPARE_FREE) (k.val / 9) = true := by
    rw [State.showCore_fld_low _ _ _ _ _ (by decide), State.resetCore_fld]
    exact hfree
  have spare : (fun p => decide (((s.resetCore k).showCore k 2 false 0).fld (F.CO_STATUS_STATE p) = 0))
      = fun p => decide (p ≠ k.val) && decide (s.fld (F.CO_STATUS_STATE p) = 0) := by
    funext p
    by_cases hpk : p = k.val
    · rw [hpk, (State.showCore_flds _ _ _ _ _).1]
      simp
    · rw [State.showCore_fld_ne _ _ _ _ rfl (lo_lt rfl) (Ne.symm hpk), State.resetCore_fld]
      simp [hpk]
  have found : (coresOf (k.val / 9)).find? (fun p => decide (((s.resetCore k).showCore k 2 false 0).fld (F.CO_STATUS_STATE p) = 0)) = some p := by
    rw [spare]
    exact hp
  show ∃ t, execRetirementSwap k s = .next t ∧ _
  unfold State.showCore at free found
  unfold execRetirementSwap
  rw [hr]
  dsimp only
  rw [if_neg (by rw [hrun]; decide), if_pos free, found]
  refine ⟨_, rfl, ?_, ?_⟩ <;> unfold State.swapCores State.showCore
  · rfl
  · simp only [State.setFld_keeps, State.setFlag_keeps]

/-- What the swap leaves in both cores and in their registers. -/
theorem State.swapCores_shows (s : State) {k p : Nat} (lg : Nat) (hne : k ≠ p) :
    let t := s.swapCores k p lg
    t.fld (F.CO_STATUS_STATE k) = 2 ∧ t.fld (F.CO_STATUS_MAPPED k) = 0 ∧ t.fld (F.CO_STATUS_LOGICAL k) = 0
      ∧ t.fld (F.CO_STATUS_STATE p) = 1 ∧ t.fld (F.CO_STATUS_MAPPED p) = 1 ∧ t.fld (F.CO_STATUS_LOGICAL p) = lg % 2 ^ (F.CO_STATUS_LOGICAL p).w
      ∧ (t.core k).pc = 0 ∧ (t.core p).pc = 0 ∧ (t.core p).run = none := by
  intro t
  obtain ⟨hstate, hmapped, hlogical⟩ := (s.resetCore k).showCore_flds k 2 false 0
  obtain ⟨hstate', hmapped', hlogical'⟩ := (((s.resetCore k).showCore k 2 false 0).resetCore p).showCore_flds p 1 true lg
  obtain ⟨hpc, -⟩ := resetCore_core s k
  obtain ⟨hpc', -, -, -, hrun', hothers⟩ := resetCore_core ((s.resetCore k).showCore k 2 false 0) p
  have keep {g : Fld} (hg : g.addr = R.CO_STATUS k) (hlo : g.lo < 32) : t.fld g = ((s.resetCore k).showCore k 2 false 0).fld g := by
    unfold t State.swapCores
    rw [State.showCore_fld_ne _ _ _ _ hg hlo hne.symm, State.resetCore_fld]
  have core (j : Nat) : t.core j = (((s.resetCore k).showCore k 2 false 0).resetCore p).core j := by
    unfold t State.swapCores
    rw [State.showCore_core]
  rw [keep rfl (lo_lt rfl), keep rfl (lo_lt rfl), keep rfl (lo_lt rfl), core k, core p, hothers k hne, State.showCore_core]
  exact ⟨hstate, hmapped, hlogical.trans (Nat.zero_mod _), hstate', hmapped', hlogical', hpc, hpc', hrun'⟩

/-! ### The end of a retirement (R449, R451) -/

theorem State.raise_retire (s : State) {cls : Cls} (hc : cls = .info ∨ cls = .warn) (src inst code a0 a1 a2 : Nat) :
    (s.raise cls src inst code a0 a1 a2).rl.retire = s.rl.retire := by
  rcases hc with rfl | rfl <;> exact State.enq_retire _ _

theorem State.jobProgress_retire (s : State) (h : Nat) (always : Bool) : (s.jobProgress h always).rl.retire = s.rl.retire := by
  cases hj : s.job h with
  | none =>
    unfold State.jobProgress
    rw [hj]
  | some j =>
    rw [State.jobProgress_eq hj]
    split
    · exact State.raise_retire _ (.inl rfl) _ _ _ _ _ _
    · rfl

theorem State.endJob_retire (s : State) (h status detail : Nat) (vals : List Nat) : (s.endJob h status detail vals).rl.retire = s.rl.retire := by
  have completes (l : List Origin) (f : Origin → Nat) (u : State) : (l.foldl (fun t o => t.complete o (f o) 0 []) u).rl.retire = u.rl.retire :=
    foldl_keeps (fun t : State => t.rl.retire) (fun t o => t.complete o (f o) 0 []) (fun t o => t.complete_retire o _ _ _) l u
  unfold State.endJob
  split
  · rfl
  · dsimp only
    rw [completes, completes]
    split
    · exact (State.complete_retire ..).trans (State.jobProgress_retire ..)
    · exact (State.raise_retire _ (.inl rfl) _ _ _ _ _ _).trans (State.jobProgress_retire ..)

theorem State.budgetCheck_retire (s : State) : s.budgetCheck.rl.retire = s.rl.retire := by
  unfold State.budgetCheck
  dsimp only
  split
  · rfl
  · split
    · exact State.raise_retire _ (.inr rfl) _ _ _ _ _ _
    · rfl

theorem State.budgetCheck_keeps_fld (s : State) {g : Fld} (hg : enqFree g = true) : s.budgetCheck.fld g = s.fld g := by
  unfold State.budgetCheck
  dsimp only
  split
  · rfl
  · exact State.fld_ite (State.raise_keeps_fld _ (.inr rfl) _ _ _ _ _ _ hg) rfl

theorem State.startRetire_keeps_fld (s : State) (k : Nat) (job : Option Nat) {g : Fld} (hg : F.RL_STATUS_RETIRING.key ≠ g.key) :
    (s.startRetire k job).fld g = s.fld g := by
  unfold State.startRetire
  dsimp only
  refine State.fld_ite rfl (State.fld_ite rfl (State.fld_setFlag_ne _ _ _ _ hg))

theorem State.wakeRetire_keeps_fld (s : State) (c : Nat) {g : Fld} (hg : F.RL_STATUS_RETIRING.key ≠ g.key) : (s.wakeRetire c).fld g = s.fld g := by
  unfold State.wakeRetire
  exact foldl_keeps (State.fld · g)
    (fun (s : State) (r : Retire) => ({ s with rl := { s.rl with retire := s.rl.retire.filter fun x => x.core ≠ r.core } } : State).startRetire r.core none)
    (fun u r => State.startRetire_keeps_fld _ _ _ hg) _ s

/-- A core that no retirement names is named by none after one of another core starts. -/
theorem State.startRetire_any (s : State) {k k' : Nat} (job : Option Nat) (hne : k' ≠ k) (h : s.rl.retire.any (·.core = k) = false) :
    (s.startRetire k' job).rl.retire.any (·.core = k) = false := by
  have added (r : Retire) (hr : r.core = k') : (s.rl.retire ++ [r]).any (·.core = k) = false := by
    rw [List.any_append, h]
    simp [hr, hne]
  unfold State.startRetire
  dsimp only
  split
  · exact h
  · split
    · exact added _ rfl
    · exact added _ rfl

theorem State.wakeRetire_any (s : State) (c : Nat) {k : Nat} (h : s.rl.retire.any (·.core = k) = false) :
    (s.wakeRetire c).rl.retire.any (·.core = k) = false := by
  have woken : ∀ (l : List Retire) (u : State), (∀ r ∈ l, r.core ≠ k) → u.rl.retire.any (·.core = k) = false →
      (l.foldl (fun (s : State) r => ({ s with rl := { s.rl with retire := s.rl.retire.filter fun x => x.core ≠ r.core } } : State).startRetire r.core none) u).rl.retire.any
        (·.core = k) = false := by
    intro l
    induction l with
    | nil => exact fun _ _ hu => hu
    | cons r l ih =>
      intro u hl hu
      refine ih _ (fun x hx => hl x (List.mem_cons_of_mem _ hx)) (State.startRetire_any _ none (hl r (List.mem_cons_self ..)) ?_)
      rw [List.any_eq_false] at hu ⊢
      exact fun x hx => hu x (List.mem_filter.1 hx).1
  refine woken _ s (fun r hr hk => ?_) h
  rw [List.any_eq_false] at h
  exact h r (List.mem_filter.1 hr).1 (decide_eq_true hk)

end Sys2Proof.Machine
end

section
/-! ## The end of a retirement, a row's repair, and the resets of a cluster (R449, R451-R453, R483, R513) -/
namespace Sys2Proof.Machine

-- One declaration is checked at a time, so that the text with all its files is checked in bounded memory.
set_option Elab.async false

/-! ### The end of a retirement (R449) -/

/-- The fields that reports write stand below the clusters' repair registers. -/
theorem enqFree_of_ge {g : Fld} (h : 0x60100 * 8 ≤ g.key) : enqFree g = true := by
  have below : ∀ f ∈ enqFlds, f.key < 0x60100 * 8 := by decide
  exact List.all_eq_true.2 fun f hf => decide_eq_true (Nat.ne_of_lt (Nat.lt_of_lt_of_le (below f hf) h))

theorem Fld.repair_ge {f : Fld} {c : Nat} (hf : f.addr = R.RL_CL_REPAIR c) : 0x60100 * 8 ≤ f.key := by
  simp only [Fld.key, hf, R.RL_CL_REPAIR]
  omega

theorem Fld.repair_low {f : Fld} {c : Nat} (hf : f.addr = R.RL_CL_REPAIR c) (hc : c < 16) (hlo : f.lo < 32) : f.key < 0x60200 * 8 := by
  simp only [Fld.key, hf, R.RL_CL_REPAIR]
  omega

theorem Fld.repair_block {f : Fld} {c : Nat} (hf : f.addr = R.RL_CL_REPAIR c) (hc : c < 16) (hlo : f.lo < 32) : f.block = 6 :=
  Fld.block_of_low (Nat.le_trans (by decide) (Fld.repair_ge hf)) (Nat.lt_of_lt_of_le (Fld.repair_low hf hc hlo) (by decide)) (by decide)

/-- The report of a retirement writes two fields beside those of reports and completions. -/
theorem State.tellRetired_fld (s : State) (r : Retire) {g : Fld} (hg : enqFree g = true) (hh : outHi g = true) (hr : F.RL_STATUS_RETIRING.key ≠ g.key) :
    (s.tellRetired r).fld g = (s.setFlag F.RL_EVENT_CORE_RETIRED true).fld g := by
  unfold State.tellRetired
  dsimp only
  split
  · rw [State.wakeRetire_keeps_fld _ _ hr, State.endJob_keeps_fld _ _ _ _ _ hg hh, State.budgetCheck_keeps_fld _ hg, State.raise_keeps_fld _ (.inl rfl) _ _ _ _ _ _ hg]
  · rw [State.budgetCheck_keeps_fld _ hg, State.raise_keeps_fld _ (.inl rfl) _ _ _ _ _ _ hg]

theorem State.tellRetired_any (s : State) (r : Retire) {k : Nat} (h : s.rl.retire.any (·.core = k) = false) :
    (s.tellRetired r).rl.retire.any (·.core = k) = false := by
  have reported : ((s.setFlag F.RL_EVENT_CORE_RETIRED true).raise .info 0x21 r.core (0x0140 + F.RL_EVENT_CORE_RETIRED.lo) r.core (r.spare.getD 0xFF)
      s.budget).budgetCheck.rl.retire = s.rl.retire := by
    rw [State.budgetCheck_retire, State.raise_retire _ (.inl rfl)]
    rfl
  unfold State.tellRetired
  dsimp only
  split
  · exact State.wakeRetire_any _ _ (by rw [State.endJob_retire, State.budgetCheck_retire, State.raise_retire _ (.inl rfl)]; exact h)
  · rw [State.budgetCheck_retire, State.raise_retire _ (.inl rfl)]
    exact h

theorem State.dropRetire_any (s : State) (k : Nat) : (s.dropRetire k).rl.retire.any (·.core = k) = false := by
  rw [List.any_eq_false]
  intro x hx
  simpa using (List.mem_filter.1 hx).2

theorem State.active_congr {s t : State} {c : Nat} (hfuse : t.fuse = s.fuse) (h : ∀ k ∈ coresOf c, t.fld (F.CO_STATUS_MAPPED k) = s.fld (F.CO_STATUS_MAPPED k)) :
    t.active c = s.active c := by
  unfold State.active
  refine congrArg List.length (List.filter_congr fun k hk => ?_)
  unfold State.mapped State.coreEnabled State.coreCount State.clusters State.flag
  rw [hfuse, h k hk]

/-- What a retirement leaves when it ends with its spare in place. -/
def State.retired (s : State) (r : Retire) : State := ((s.noteRetired (r.core / 9) r.spare).dropRetire r.core).tellRetired r

theorem Fld.coStatus_ge {f : Fld} {k : Nat} (hf : f.addr = R.CO_STATUS k) : 0x400000 * 8 ≤ f.key := by
  simp only [Fld.key, hf, R.CO_STATUS]
  omega

theorem State.retired_active (s : State) (r : Retire) (hk : r.core < 144) : (s.retired r).active (r.core / 9) = s.active (r.core / 9) := by
  refine State.active_congr ?_ fun k _ => ?_
  · exact ((State.tellRetired_fr _ r (.refl _)).fuse rfl).trans (((State.dropRetire_fr _ r.core (.refl _)).fuse rfl).trans
      ((State.noteRetired_fr s (r.core / 9) r.spare (.refl s)).fuse rfl))
  · have ge := Fld.coStatus_ge (f := F.CO_STATUS_MAPPED k) rfl
    have ne {f : Fld} (hf : f.key < 0x400000 * 8) : f.key ≠ (F.CO_STATUS_MAPPED k).key := Nat.ne_of_lt (Nat.lt_of_lt_of_le hf ge)
    have repair {f : Fld} (hf : f.addr = R.RL_CL_REPAIR (r.core / 9)) (hlo : f.lo < 32) : f.key ≠ (F.CO_STATUS_MAPPED k).key :=
      ne (Nat.lt_of_lt_of_le (Fld.repair_low hf (by omega) hlo) (by decide))
    unfold State.retired State.dropRetire State.noteRetired
    dsimp only
    rw [State.tellRetired_fld _ _ (enqFree_of_ge (Nat.le_trans (by decide) ge)) (Bool.or_eq_true_iff.2 (.inr (decide_eq_true (Nat.le_trans (by decide) ge))))
      (ne (by decide)), State.fld_setFlag_ne _ _ _ _ (ne (by decide)), State.fld_setFlag_ne _ _ _ _ (ne (by decide))]
    refine (State.fld_setFld_ne _ _ _ _ (repair rfl (lo_lt rfl))).trans ((State.fld_setFld_ne _ _ _ _ (repair rfl (lo_lt rfl))).trans ?_)
    exact State.fld_ite (State.fld_setFld_ne _ _ _ _ (ne (by decide))) rfl

theorem State.retired_shows (s : State) (r : Retire) (hk : r.core < 144) (hsome : r.spare.isSome = true) :
    (s.retired r).fld F.RL_EVENT_CORE_RETIRED = 1 ∧ bit ((s.retired r).fld F.RL_SPARES_SPARE_FREE) (r.core / 9) = false
      ∧ (s.retired r).fld (F.RL_CL_REPAIR_RETIRED (r.core / 9))
        = (s.fld (F.RL_CL_REPAIR_RETIRED (r.core / 9)) + 1) % 2 ^ (F.RL_CL_REPAIR_RETIRED (r.core / 9)).w
      ∧ (s.retired r).rl.retire.any (·.core = r.core) = false := by
  have ge {f : Fld} (hf : f.addr = R.RL_CL_REPAIR (r.core / 9)) : 0x60100 * 8 ≤ f.key := Fld.repair_ge hf
  have ne {f g : Fld} (hf : f.key < 0x60100 * 8) (hg : g.addr = R.RL_CL_REPAIR (r.core / 9)) : f.key ≠ g.key := Nat.ne_of_lt (Nat.lt_of_lt_of_le hf (ge hg))
  have left : (F.RL_CL_REPAIR_CORE_MIN_LEFT (r.core / 9)).key ≠ (F.RL_CL_REPAIR_RETIRED (r.core / 9)).key := by
    simp [Fld.key, F.RL_CL_REPAIR_CORE_MIN_LEFT, F.RL_CL_REPAIR_RETIRED]
  refine ⟨?_, ?_, ?_, State.tellRetired_any _ r (State.dropRetire_any _ _)⟩ <;> unfold State.retired
  · rw [State.tellRetired_fld _ _ (by decide) (by decide) (by decide), State.fld_setFlag_same _ _ _ (by decide)]
    rfl
  · rw [State.tellRetired_fld _ _ (by decide) (by decide) (by decide), State.fld_setFlag_ne _ _ _ _ (by decide)]
    unfold State.dropRetire State.noteRetired
    dsimp only
    rw [State.fld_setFlag_ne _ _ _ _ (by decide), if_pos hsome]
    refine (congrArg (bit · _) ((State.fld_setFld_ne _ _ _ _ (ne (by decide) rfl).symm).trans (State.fld_setFld_ne _ _ _ _ (ne (by decide) rfl).symm))).trans ?_
    exact (State.bit_setFld_setBits s F.RL_SPARES_SPARE_FREE (r.core / 9) false (show r.core / 9 < 16 by omega)).trans (if_pos rfl)
  · rw [State.tellRetired_fld _ _ (enqFree_of_ge (ge rfl)) (Bool.or_eq_true_iff.2 (.inr (decide_eq_true (Nat.le_trans (by decide) (ge rfl))))) (ne (by decide) rfl),
      State.fld_setFlag_ne _ _ _ _ (ne (by decide) rfl)]
    unfold State.dropRetire State.noteRetired
    dsimp only
    rw [State.fld_setFlag_ne _ _ _ _ (ne (by decide) rfl)]
    refine (State.fld_setFld_ne _ _ _ _ left).trans ((State.fld_setFld_same _ _ _).trans ?_)
    exact congrArg (fun v => (v + 1) % 2 ^ (F.RL_CL_REPAIR_RETIRED (r.core / 9)).w) (State.fld_ite (State.fld_setFld_ne _ _ _ _ (ne (by decide) rfl)) rfl)

theorem spareReady_shows {s : State} {k : Fin 144} {r : Retire} {p : Nat} (hr : (s.rl.retire.find? fun r => r.core = k.val && r.step = 2) = some r)
    (hp : r.spare = some p) (hready : (s.core p).waiting = true ∨ s.coresRun (p / 9) = false) (hactive : 0 < s.active (k / 9)) :
    ∃ t, Sys2Proof.Machine.exec (.spareReady k) s = .next t ∧ t.fld F.RL_EVENT_CORE_RETIRED = 1 ∧ bit (t.fld F.RL_SPARES_SPARE_FREE) (k / 9) = false
      ∧ t.fld (F.RL_CL_REPAIR_RETIRED (k / 9)) = (s.fld (F.RL_CL_REPAIR_RETIRED (k / 9)) + 1) % 2 ^ (F.RL_CL_REPAIR_RETIRED (k / 9)).w
      ∧ t.rl.retire.any (·.core = k.val) = false := by
  have hcore : r.core = k.val := by
    have := List.find?_some hr
    simp only [Bool.and_eq_true, decide_eq_true_eq] at this
    exact this.1
  have ready : ((s.core p).waiting || !s.coresRun (p / 9)) = true := by
    rcases hready with h | h <;> rw [h]
    · rfl
    · exact Bool.or_true _
  have stays := s.retired_active r (hcore ▸ k.isLt)
  have shows_ := s.retired_shows r (hcore ▸ k.isLt) (hp ▸ rfl)
  rw [hcore] at stays shows_
  refine ⟨s.retired r, ?_, shows_⟩
  show execSpareReady k s = _
  unfold execSpareReady
  rw [hr]
  dsimp only
  rw [hp]
  dsimp only
  rw [if_pos ready]
  unfold State.endRetire
  refine congrArg Host.Outcome.next (if_neg ?_)
  show ¬ (s.retired r).active (r.core / 9) = 0
  rw [hcore, stays]
  omega

/-! ### A row's repair (R452, R453) -/

theorem unitCluster_lt {u : Nat} (hu : u < 464) : unitCluster u < 16 := by
  unfold unitCluster
  split <;> omega

theorem State.incS_keeps_fld (s : State) {f g : Fld} (n : Nat) (hg : enqFree g = true) (hne : f.key ≠ g.key) : (s.incS f n).fld g = s.fld g := by
  unfold State.incS
  dsimp only
  exact State.fld_ite ((State.enq_keeps_fld _ _ hg).trans (State.fld_setFld_ne _ _ _ _ hne)) (State.fld_setFld_ne _ _ _ _ hne)

/-- A report of a corrected fault counts for the device and for its cluster. -/
theorem State.raise_corrected_fld (s : State) (src inst code a0 a1 a2 : Nat) {g : Fld} (hg : enqFree g = true) (hne : F.RL_FAULT_CNT_CORRECTED.key ≠ g.key)
    (hcl : ∀ c, (F.RL_CL_ERR_CORRECTED c).key ≠ g.key) : (s.raise .corrected src inst code a0 a1 a2).fld g = s.fld g := by
  unfold State.raise State.raiseR
  simp only [reduceCtorEq, or_self, if_false]
  rw [State.enq_keeps_fld _ _ hg]
  split
  · rw [State.incS_keeps_fld _ _ hg (hcl _), State.incS_keeps_fld _ _ hg hne]
  · rw [State.incS_keeps_fld _ _ hg hne]

theorem clErr_key_ne_repair {c c' : Nat} {g : Fld} (hg : g.addr = R.RL_CL_REPAIR c) (hlo : g.lo < 32) : (F.RL_CL_ERR_CORRECTED c').key ≠ g.key := by
  simp only [Fld.key, hg, F.RL_CL_ERR_CORRECTED, R.RL_CL_ERR, R.RL_CL_REPAIR]
  omega

theorem clErr_key_ne_low {c : Nat} {g : Fld} (hg : g.key < 0x60100 * 8) : (F.RL_CL_ERR_CORRECTED c).key ≠ g.key := by
  simp only [Fld.key, F.RL_CL_ERR_CORRECTED, R.RL_CL_ERR] at hg ⊢
  omega

/-- The row logs of the memories stand in the clusters' registers. -/
theorem Fld.cluster_block {f : Fld} (hlo : 0x200000 * 8 ≤ f.key) (hhi : f.key < 0x400000 * 8) : f.block = 32 := by
  unfold Fld.block
  rw [if_neg (by omega), if_pos hhi]

theorem Fld.clRowlog_block {f : Fld} {k : Nat} (hf : f.addr = R.CL_ROWLOG k) (hk : k < 144) (hlo : f.lo < 32) : f.block = 32 :=
  Fld.cluster_block (by simp only [Fld.key, hf, R.CL_ROWLOG]; omega) (by simp only [Fld.key, hf, R.CL_ROWLOG]; omega)

theorem Fld.csmRowlog_block {f : Fld} {c : Nat} (hf : f.addr = R.CL_CSM_ROWLOG c) (hc : c < 16) (hlo : f.lo < 32) : f.block = 32 :=
  Fld.cluster_block (by simp only [Fld.key, hf, R.CL_CSM_ROWLOG]; omega) (by simp only [Fld.key, hf, R.CL_CSM_ROWLOG]; omega)

theorem Fld.cpsRowlog_block {f : Fld} {c : Nat} (hf : f.addr = R.CL_CPS_ROWLOG c) (hc : c < 16) (hlo : f.lo < 32) : f.block = 32 :=
  Fld.cluster_block (by simp only [Fld.key, hf, R.CL_CPS_ROWLOG]; omega) (by simp only [Fld.key, hf, R.CL_CPS_ROWLOG]; omega)

theorem testBit_block {B b : Nat} {f : Fld} (hf : f.block = b) (hb : B.testBit b = true) : B.testBit f.block = true := hf ▸ hb

theorem State.showRow_regFr (s : State) {u : Nat} (hu : u < 464) (row : Nat) (valid : Bool) : RegFr 0x100000000 s (s.showRow u row valid) := by
  unfold State.showRow
  dsimp only
  split
  case isTrue hcore =>
    have block {f : Fld} (hf : f.addr = R.CL_ROWLOG (u / 3)) (hlo : f.lo < 32) := testBit_block (B := 0x100000000) (Fld.clRowlog_block hf (by omega) hlo) rfl
    exact ((RegFr.setFld (.refl s) _ (block rfl (lo_lt rfl))).setFld _ (block rfl (lo_lt rfl))).setFlag _ (block rfl (lo_lt rfl))
  case isFalse hcl =>
    split
    · have block {f : Fld} (hf : f.addr = R.CL_CSM_ROWLOG (u % 16)) (hlo : f.lo < 32) := testBit_block (B := 0x100000000) (Fld.csmRowlog_block hf (by omega) hlo) rfl
      exact ((RegFr.setFld (.refl s) _ (block rfl (lo_lt rfl))).setFld _ (block rfl (lo_lt rfl))).setFlag _ (block rfl (lo_lt rfl))
    · have block {f : Fld} (hf : f.addr = R.CL_CPS_ROWLOG (u % 16)) (hlo : f.lo < 32) := testBit_block (B := 0x100000000) (Fld.cpsRowlog_block hf (by omega) hlo) rfl
      exact ((RegFr.setFld (.refl s) _ (block rfl (lo_lt rfl))).setFld _ (block rfl (lo_lt rfl))).setFlag _ (block rfl (lo_lt rfl))

/-- A row leaves the log: the row log shows the next one of its memory, or none. -/
def State.unlogRow (s : State) (u row : Nat) : State :=
  let core := u < 432
  let k := u / 3
  let l := s.mem.logged.filter (· ≠ (u, row))
  let s : State := { s with mem := { s.mem with logged := l } }
  let s := match l.find? fun e => if core then e.1 / 3 = k ∧ e.1 < 432 else e.1 = u with
    | some e => s.showRow e.1 e.2 true
    | none => s.showRow u row false
  if core ∧ !l.any (fun e => e.1 < 432 && e.1 / 3 = k) ∧ !s.rl.retire.any (fun r => r.core = k && r.step ≠ 0) then
    (let st := s.th.stopped.filter (· ≠ k)
     { s with th := { s.th with stopped := st } })
  else s

theorem State.unlogRow_parts (s : State) {u : Nat} (hu : u < 464) (row : Nat) : (s.unlogRow u row).mem.logged = s.mem.logged.filter (· ≠ (u, row))
    ∧ (s.unlogRow u row).mem.sparesUsed = s.mem.sparesUsed ∧ RegFr 0x100000000 s (s.unlogRow u row) := by
  have shown {t : State} (hm : t.mem = { s.mem with logged := s.mem.logged.filter (· ≠ (u, row)) }) (hr : RegFr 0x100000000 s t) (p : Prop) [Decidable p] (st : List Nat) :
      let x := if p then ({ t with th := { t.th with stopped := st } } : State) else t
      x.mem.logged = s.mem.logged.filter (· ≠ (u, row)) ∧ x.mem.sparesUsed = s.mem.sparesUsed ∧ RegFr 0x100000000 s x := by
    intro x
    unfold x
    split
    · exact ⟨by rw [hm], by rw [hm], hr.trans (.of_regs rfl)⟩
    · exact ⟨by rw [hm], by rw [hm], hr⟩
  unfold State.unlogRow
  dsimp only
  refine shown ?_ ?_ _ _
  · split <;> exact (State.showRow_fr _ _ _ _ (.refl _)).mem rfl
  · have plain : RegFr 0x100000000 s { s with mem := { s.mem with logged := s.mem.logged.filter (· ≠ (u, row)) } } := .of_regs rfl
    split
    case h_1 e he =>
      have found := List.find?_some he
      refine plain.trans (State.showRow_regFr _ ?_ _ _)
      split at found
      · exact Nat.lt_trans (of_decide_eq_true found).2 (by decide)
      · exact (of_decide_eq_true found).symm ▸ hu
    case h_2 => exact plain.trans (State.showRow_regFr _ hu _ _)

theorem State.core_congr {s t : State} (h : t.cores = s.cores) : t.core = s.core := funext fun k => congrArg (mget Core.init · k) h

theorem State.resetCore_mem (s : State) (k : Nat) : (s.resetCore k).mem = s.mem := (State.resetCore_fr _ _ (.refl _)).mem rfl

/-- A spare row takes the place of one of a memory's rows. -/
def State.spareRow (s : State) (u : Nat) : State :=
  let c := unitCluster u
  let used := mget 0 s.mem.sparesUsed u
  let s : State := { s with mem := { s.mem with sparesUsed := mset 0 s.mem.sparesUsed u (used + 1) } }
  let s := if u < 432 then (s.resetCore (u / 3)).setFld (F.RL_CL_REPAIR_CORE_MIN_LEFT c) (s.coreRowsLeft c)
    else if u < 448 then s.setFld (F.RL_CL_REPAIR_CSM_LEFT c) (32 - (used + 1))
    else s.setFld (F.RL_CL_REPAIR_CPS_LEFT c) (16 - (used + 1))
  (s.setFld (F.RL_CL_REPAIR_ROWS c) (satAdd 8 (s.fld (F.RL_CL_REPAIR_ROWS c)) 1)).setFlag F.RL_EVENT_ROW_REPAIRED true


theorem State.spareRow_shows (s : State) (u : Nat) :
    (s.spareRow u).mem = { s.mem with sparesUsed := mset 0 s.mem.sparesUsed u (mget 0 s.mem.sparesUsed u + 1) }
      ∧ (s.spareRow u).fld F.RL_EVENT_ROW_REPAIRED = 1
      ∧ (s.spareRow u).fld (F.RL_CL_REPAIR_ROWS (unitCluster u))
        = satAdd 8 (s.fld (F.RL_CL_REPAIR_ROWS (unitCluster u))) 1 % 2 ^ (F.RL_CL_REPAIR_ROWS (unitCluster u)).w
      ∧ (u < 432 → ((s.spareRow u).core (u / 3)).pc = 0) := by
  have event : F.RL_EVENT_ROW_REPAIRED.key ≠ (F.RL_CL_REPAIR_ROWS (unitCluster u)).key := Nat.ne_of_lt (Nat.lt_of_lt_of_le (by decide) (Fld.repair_ge rfl))
  have other {f : Fld} (hf : f.addr = R.RL_CL_REPAIR (unitCluster u)) (hlo : f.lo ≠ 0) : f.key ≠ (F.RL_CL_REPAIR_ROWS (unitCluster u)).key := by
    simp only [Fld.key, hf, F.RL_CL_REPAIR_ROWS]
    omega
  unfold State.spareRow
  dsimp only
  refine ⟨?_, State.fld_setFlag_same _ _ _ (by decide), ?_, fun hc => ?_⟩
  · split
    · simp only [State.setFld_keeps, State.setFlag_keeps, State.resetCore_mem]
    · split <;> rfl
  · rw [State.fld_setFlag_ne _ _ _ _ event, State.fld_setFld_same]
    refine congrArg (fun v => satAdd 8 v 1 % 2 ^ (F.RL_CL_REPAIR_ROWS (unitCluster u)).w) ?_
    refine State.fld_ite ((State.fld_setFld_ne _ _ _ _ (other rfl ?_)).trans ?_)
      (State.fld_ite (State.fld_setFld_ne _ _ _ _ (other rfl ?_)) (State.fld_setFld_ne _ _ _ _ (other rfl ?_)))
    · exact Nat.noConfusion
    · rw [State.resetCore_fld]
      rfl
    · exact Nat.noConfusion
    · exact Nat.noConfusion
  · rw [if_pos hc]
    simp only [State.core, State.setFld_keeps, State.setFlag_keeps]
    exact (resetCore_core _ _).1

theorem rowRepaired_eq {s : State} {u : Fin 464} {row : BitVec 18} (hen : s.flag F.RL_CTRL_ROW_REPAIR_EN = true) (hlog : (u.val, row.toNat) ∈ s.mem.logged)
    (hidle : u.val < 432 → (s.core (u / 3)).run = none) :
    let t := s.unlogRow u row.toNat
    let core := u.val < 432
    let src := if core then 0x21 else 0x20
    let inst := if core then u.val / 3 else unitCluster u
    let mem := if core then u.val % 3 else if u.val < 448 then 3 else 4
    Sys2Proof.Machine.exec (.rowRepaired u row) s = .next (
      if mget 0 t.mem.sparesUsed u < unitSpares u then
        (t.spareRow u).raise .corrected src inst (0x0140 + F.RL_EVENT_ROW_REPAIRED.lo) inst mem row.toNat
      else
        let w := (t.setFlag F.RL_EVENT_NO_SPARE_ROW true).raise .warn src inst (0x0140 + F.RL_EVENT_NO_SPARE_ROW.lo) inst mem 0
        if core ∧ (w.core (u.val / 3)).suspect = false then w.reportSuspect (u.val / 3) else w) := by
  intro t core src inst mem
  show execRowRepaired u row s = _
  unfold execRowRepaired
  dsimp only
  rw [if_pos ⟨hen, List.contains_iff_mem.2 hlog, hidle⟩]
  exact (apply_ite Host.Outcome.next _ _ _).symm

theorem State.reportSuspect_keeps_fld (s : State) (k : Nat) {g : Fld} (hg : enqFree g = true) (he : F.RL_EVENT_CORE_SUSPECT.key ≠ g.key)
    (hr : F.RL_STATUS_RETIRING.key ≠ g.key) : (s.reportSuspect k).fld g = s.fld g := by
  have reported (u : State) : ((u.setFlag F.RL_EVENT_CORE_SUSPECT true).raise .warn 0x21 k (0x0140 + F.RL_EVENT_CORE_SUSPECT.lo) k 0 0).fld g = u.fld g := by
    rw [State.raise_keeps_fld _ (.inr rfl) _ _ _ _ _ _ hg, State.fld_setFlag_ne _ _ _ _ he]
  unfold State.reportSuspect
  dsimp only
  exact State.fld_ite ((State.startRetire_keeps_fld _ _ _ hr).trans (reported _)) (reported _)

theorem rowRepaired_shows {s : State} {u : Fin 464} {row : BitVec 18} (hen : s.flag F.RL_CTRL_ROW_REPAIR_EN = true) (hlog : (u.val, row.toNat) ∈ s.mem.logged)
    (hidle : u.val < 432 → (s.core (u / 3)).run = none) :
    ∃ t, Sys2Proof.Machine.exec (.rowRepaired u row) s = .next t ∧ t.mem.logged = s.mem.logged.filter (· ≠ (u.val, row.toNat))
      ∧ (mget 0 s.mem.sparesUsed u < unitSpares u → mget 0 t.mem.sparesUsed u = mget 0 s.mem.sparesUsed u + 1 ∧ t.fld F.RL_EVENT_ROW_REPAIRED = 1
          ∧ t.fld (F.RL_CL_REPAIR_ROWS (unitCluster u)) = satAdd 8 (s.fld (F.RL_CL_REPAIR_ROWS (unitCluster u))) 1 % 2 ^ (F.RL_CL_REPAIR_ROWS (unitCluster u)).w
          ∧ (u.val < 432 → (t.core (u / 3)).pc = 0))
      ∧ (unitSpares u ≤ mget 0 s.mem.sparesUsed u → t.mem.sparesUsed = s.mem.sparesUsed ∧ t.fld F.RL_EVENT_NO_SPARE_ROW = 1) := by
  obtain ⟨hlogged, hused, hregs⟩ := s.unlogRow_parts u.isLt row.toNat
  refine ⟨_, rowRepaired_eq hen hlog hidle, ?_⟩
  rw [hused]
  by_cases hspare : mget 0 s.mem.sparesUsed u < unitSpares u
  · rw [if_pos hspare]
    obtain ⟨hm, hevent, hrows, hpc⟩ := (s.unlogRow u row.toNat).spareRow_shows u
    generalize (s.unlogRow u row.toNat).spareRow u = v at hm hevent hrows hpc ⊢
    have mem (src inst code a0 a1 a2 : Nat) : (v.raise .corrected src inst code a0 a1 a2).mem = v.mem := (State.raise_fr _ _ _ _ _ _ _ _ (.refl _)).mem rfl
    rw [mem, hm, State.raise_corrected_fld _ _ _ _ _ _ _ (by decide) (by decide) (fun c => clErr_key_ne_low (by decide)), hevent,
      State.raise_corrected_fld _ _ _ _ _ _ _ (enqFree_of_ge (Fld.repair_ge rfl)) (Nat.ne_of_lt (Nat.lt_of_lt_of_le (by decide) (Fld.repair_ge rfl)))
        (fun c => clErr_key_ne_repair rfl (lo_lt rfl)), hrows, hregs _ (by rw [Fld.repair_block rfl (unitCluster_lt u.isLt) (lo_lt rfl)]; rfl), hused]
    dsimp only
    refine ⟨hlogged, fun _ => ⟨mget_mset_same 0 _ _ _, rfl, rfl, fun hc => ?_⟩, fun h => absurd hspare (Nat.not_lt.2 h)⟩
    rw [State.core_congr ((State.raise_fr v _ _ _ _ _ _ _ (.refl _)).cores rfl)]
    exact hpc hc
  · rw [if_neg hspare]
    dsimp only
    generalize hw : ((s.unlogRow u row.toNat).setFlag F.RL_EVENT_NO_SPARE_ROW true).raise .warn _ _ _ _ _ 0 = w
    have wmem : w.mem = (s.unlogRow u row.toNat).mem := hw ▸ ((State.raise_fr _ _ _ _ _ _ _ _ (.refl _)).mem rfl)
    have wevent : w.fld F.RL_EVENT_NO_SPARE_ROW = 1 := by
      rw [← hw, State.raise_keeps_fld _ (.inr rfl) _ _ _ _ _ _ (by decide), State.fld_setFlag_same _ _ _ (by decide)]
      rfl
    have ends {t : State} (hm : t.mem = w.mem) (he : t.fld F.RL_EVENT_NO_SPARE_ROW = 1) :
        t.mem.logged = s.mem.logged.filter (· ≠ (u.val, row.toNat)) ∧ t.mem.sparesUsed = s.mem.sparesUsed ∧ t.fld F.RL_EVENT_NO_SPARE_ROW = 1 :=
      ⟨(congrArg ClusterMem.logged (hm.trans wmem)).trans hlogged, (congrArg ClusterMem.sparesUsed (hm.trans wmem)).trans hused, he⟩
    split
    · obtain ⟨hlog', hrest⟩ := ends (t := w.reportSuspect (u.val / 3)) ((State.reportSuspect_fr _ _ (.refl _)).mem rfl)
        ((State.reportSuspect_keeps_fld _ _ (by decide) (by decide) (by decide)).trans wevent)
      exact ⟨hlog', fun h => absurd h hspare, fun _ => hrest⟩
    · obtain ⟨hlog', hrest⟩ := ends rfl wevent
      exact ⟨hlog', fun h => absurd h hspare, fun _ => hrest⟩

/-! ### The resets of a cluster (R178, R483, R513) -/

theorem State.resetAbort_core_ne (s : State) {k j : Nat} (h : j ≠ k) : (s.resetAbort k).core j = s.core j := by
  have aborted : (s.abortRun k).core j = s.core j := by
    unfold State.abortRun State.clearRun
    rw [State.core_setCore_ne _ _ h, State.core_setCore_ne _ _ h]
  unfold State.resetAbort
  split
  · rfl
  · dsimp only
    split
    · rw [State.core_congr ((State.endCancelled_fr _ _ _ (.refl _)).cores rfl), aborted]
    · rw [State.core_congr ((State.returnEntry_fr _ _ (.refl _)).cores rfl), aborted]

/-- The cores of a cluster in reset: their entries aborted, and the cores themselves reset. -/
def State.resetCores (s : State) (c : Nat) : State := (coresOf c).foldl (fun s k => (s.resetAbort k).resetCore k) s

theorem State.resetCores_core (s : State) {c k : Nat} (hk : k ∈ coresOf c) : ((s.resetCores c).core k).run = none ∧ ((s.resetCores c).core k).pc = 0 := by
  have keep (u : State) (j : Nat) (hj : j ≠ k) : ((u.resetAbort j).resetCore j).core k = u.core k := by
    obtain ⟨-, -, -, -, -, hothers⟩ := resetCore_core (u.resetAbort j) j
    rw [hothers k hj.symm, u.resetAbort_core_ne hj.symm]
  constructor
  · refine foldl_units (f := fun s k => (s.resetAbort k).resetCore k) (fun t : State => (t.core k).run) none hk (fun u => ?_)
      (fun u j _ hj => congrArg Core.run (keep u j hj)) s
    obtain ⟨-, -, -, -, hrun, -⟩ := resetCore_core (u.resetAbort k) k
    exact hrun
  · refine foldl_units (f := fun s k => (s.resetAbort k).resetCore k) (fun t : State => (t.core k).pc) 0 hk (fun u => ?_)
      (fun u j _ hj => congrArg Core.pc (keep u j hj)) s
    obtain ⟨hpc, -⟩ := resetCore_core (u.resetAbort k) k
    exact hpc

theorem State.resetCores_regFr (s : State) (c : Nat) : RegFr 0x5C s (s.resetCores c) :=
  RegFr.foldl (fun _ _ _ h => (h.resetAbort _ rfl).resetCore _) (.refl s)

/-- Clears a register field after field. -/
theorem State.logClr_regFr (s : State) {c : Nat} (hc : c < 16) : RegFr 0x100000000 s (s.logClr c) := by
  have rst {t : State} {f : Fld} (h : RegFr 0x100000000 s t) (hf : f.block = 32) : RegFr 0x100000000 s (t.rstFld f) := fun g hg =>
    (State.fld_rstFld_ne _ _ _ (Fld.key_ne_of_testBit (testBit_block hf rfl) hg)).trans (h g hg)
  have csm {f : Fld} (hf : f.addr = R.CL_CSM_ROWLOG c) (hlo : f.lo < 32) : f.block = 32 := Fld.csmRowlog_block hf hc hlo
  have cps {f : Fld} (hf : f.addr = R.CL_CPS_ROWLOG c) (hlo : f.lo < 32) : f.block = 32 := Fld.cpsRowlog_block hf hc hlo
  refine RegFr.foldl (fun u k hk h => ?_) ?_
  · have core {f : Fld} (hf : f.addr = R.CL_ROWLOG k) (hlo : f.lo < 32) : f.block = 32 := by
      obtain ⟨i, hi, rfl⟩ := List.mem_map.1 hk
      have := List.mem_range.1 hi
      exact Fld.clRowlog_block hf (by omega) hlo
    exact rst (rst (rst h (core rfl (lo_lt rfl))) (core rfl (lo_lt rfl))) (core rfl (lo_lt rfl))
  · exact rst (rst (rst (rst (rst (rst (.refl s) (csm rfl (lo_lt rfl))) (csm rfl (lo_lt rfl))) (csm rfl (lo_lt rfl))) (cps rfl (lo_lt rfl))) (cps rfl (lo_lt rfl)))
      (cps rfl (lo_lt rfl))

theorem coresOf_eq {c k : Nat} (h : k ∈ coresOf c) : k / 9 = c := by
  obtain ⟨i, hi, rfl⟩ := List.mem_map.1 h
  have := List.mem_range.1 hi
  omega

theorem State.logClr_shows (s : State) (c : Nat) : (s.logClr c).fld (F.CL_CSM_ROWLOG_VALID c) = 0 ∧ (s.logClr c).fld (F.CL_CPS_ROWLOG_VALID c) = 0
    ∧ ∀ k ∈ coresOf c, (s.logClr c).fld (F.CL_ROWLOG_VALID k) = 0 := by
  have rstCore (u : State) (k : Nat) {g : Fld} (h : ∀ f : Fld, f.addr = R.CL_ROWLOG k → f.lo < 32 → f.key ≠ g.key) :
      (((u.rstFld (F.CL_ROWLOG_ROW k)).rstFld (F.CL_ROWLOG_MEM k)).rstFld (F.CL_ROWLOG_VALID k)).fld g = u.fld g := by
    rw [State.fld_rstFld_ne _ _ _ (h _ rfl (lo_lt rfl)), State.fld_rstFld_ne _ _ _ (h _ rfl (lo_lt rfl)), State.fld_rstFld_ne _ _ _ (h _ rfl (lo_lt rfl))]
  have cores (u : State) {g : Fld} (h : ∀ k ∈ coresOf c, ∀ f : Fld, f.addr = R.CL_ROWLOG k → f.lo < 32 → f.key ≠ g.key) :
      ((coresOf c).foldl (fun s k => ((s.rstFld (F.CL_ROWLOG_ROW k)).rstFld (F.CL_ROWLOG_MEM k)).rstFld (F.CL_ROWLOG_VALID k)) u).fld g = u.fld g := by
    refine List.foldlRecOn (motive := fun t : State => t.fld g = u.fld g) (coresOf c) _ rfl fun t ht k hk => ?_
    rw [rstCore t k (h k hk), ht]
  have cps {f : Fld} (hf : f.addr = R.CL_CPS_ROWLOG c) (hlo : f.lo < 32) : f.key ≠ (F.CL_CSM_ROWLOG_VALID c).key := by
    simp only [Fld.key, hf, F.CL_CSM_ROWLOG_VALID, R.CL_CSM_ROWLOG, R.CL_CPS_ROWLOG]
    omega
  have away {k : Nat} {f : Fld} (hk : k ∈ coresOf c) (hf : f.addr = R.CL_ROWLOG k) : f.key ≠ (F.CL_CSM_ROWLOG_VALID c).key ∧ f.key ≠ (F.CL_CPS_ROWLOG_VALID c).key := by
    have := coresOf_eq hk
    simp only [Fld.key, hf, F.CL_CSM_ROWLOG_VALID, F.CL_CPS_ROWLOG_VALID, R.CL_CSM_ROWLOG, R.CL_CPS_ROWLOG, R.CL_ROWLOG]
    omega
  unfold State.logClr
  dsimp only
  refine ⟨?_, ?_, fun k hk => ?_⟩
  · rw [cores _ fun k hk f hf _ => (away hk hf).1, State.fld_rstFld_ne _ _ _ (cps rfl (lo_lt rfl)), State.fld_rstFld_ne _ _ _ (cps rfl (lo_lt rfl)),
      State.fld_rstFld_ne _ _ _ (cps rfl (lo_lt rfl)), State.fld_rstFld_same]
    rfl
  · rw [cores _ fun k hk f hf _ => (away hk hf).2, State.fld_rstFld_same]
    rfl
  · refine foldl_units (f := fun s k => ((s.rstFld (F.CL_ROWLOG_ROW k)).rstFld (F.CL_ROWLOG_MEM k)).rstFld (F.CL_ROWLOG_VALID k))
      (State.fld · (F.CL_ROWLOG_VALID k)) 0 hk (fun u => State.fld_rstFld_same _ _) (fun u j hj hne => rstCore u j fun f hf hlo => ?_) _
    have h1 := coresOf_eq hk
    have h2 := coresOf_eq hj
    simp only [Fld.key, hf, F.CL_ROWLOG_VALID, R.CL_ROWLOG]
    omega

/-- What the reset of a cluster does to its registers once its cores are reset. -/
def State.clearCluster (s : State) (c : Nat) : State :=
  let s := ((s.freeSlots c).logClr c).setFld (F.CL_CSM_STAT_MAX_NS c) 0
  let s := (coresOf c).foldl (fun s k => (s.setFld (F.CL_OVL_CNT_COPIES k) 0).setFld (F.CL_CSM_WAIT_WAITS k) 0) s
  (coresOf c).foldl (fun s k => if s.fld (F.CO_STATUS_STATE k) = 3 then s.setFld (F.CO_STATUS_STATE k) 1 else s) s

theorem coresOf_lt {c k : Nat} (hc : c < 16) (h : k ∈ coresOf c) : k < 144 := by
  have := coresOf_eq h
  omega

theorem State.clearCluster_regFr (s : State) {c : Nat} (hc : c < 16) : RegFr 0x300000000 s (s.clearCluster c) := by
  have logs : RegFr 0x300000000 s ((s.freeSlots c).logClr c) := RegFr.trans (.of_regs rfl) ((State.logClr_regFr _ hc).mono rfl)
  have block {f : Fld} {a : Nat} (hf : f.addr = a) (hlo : f.lo < 32) (ha : 0x200000 ≤ a) (hb : a < 0x300000) : (0x300000000 : Nat).testBit f.block = true :=
    testBit_block (Fld.cluster_block (by simp only [Fld.key, hf]; omega) (by simp only [Fld.key, hf]; omega)) rfl
  refine RegFr.foldl (fun u k hk h => .ite (h.setFld _ (testBit_block (Fld.coStatus_block rfl (coresOf_lt hc hk) (lo_lt rfl)) rfl)) h)
    (RegFr.foldl (fun u k hk h => ?_) (logs.setFld _ (block rfl (lo_lt rfl) ?_ ?_)))
  · have := coresOf_lt hc hk
    exact (h.setFld _ (block rfl (lo_lt rfl) (by simp only [F.CL_OVL_CNT_COPIES, R.CL_OVL_CNT]; omega) (by simp only [F.CL_OVL_CNT_COPIES, R.CL_OVL_CNT]; omega))).setFld _
      (block rfl (lo_lt rfl) (by simp only [F.CL_CSM_WAIT_WAITS, R.CL_CSM_WAIT]; omega) (by simp only [F.CL_CSM_WAIT_WAITS, R.CL_CSM_WAIT]; omega))
  · simp only [F.CL_CSM_STAT_MAX_NS, R.CL_CSM_STAT]
    omega
  · simp only [F.CL_CSM_STAT_MAX_NS, R.CL_CSM_STAT]
    omega

theorem State.clearCluster_cores (s : State) (c : Nat) : (s.clearCluster c).cores = s.cores := by
  unfold State.clearCluster
  rw [foldl_keeps (fun t : State => t.cores) _ fun u k => ?_, foldl_keeps (fun t : State => t.cores) _ fun u k => ?_]
  · exact ((State.setFld_keeps ..).2.2.2.1).trans ((State.logClr_fr _ _ (.refl _)).cores rfl)
  · simp only [State.setFld_keeps]
  · split
    · simp only [State.setFld_keeps]
    · rfl

theorem State.clusterReset_eq {s : State} {c : Nat} (hin : s.clusterIn c = true) (hst : s.fld (F.PW_CL_STATE c) ∉ [0, 4, 5, 6]) :
    s.clusterReset c = (((s.resetCores c).clearCluster c).setFld (F.PW_CL_STATE c) 2).incW (F.PW_CL_RESETS c) 1 := by
  unfold State.clusterReset
  dsimp only
  rw [if_neg]
  · rfl
  · simpa [hin] using hst

theorem State.clusterReset_refused {s : State} {c : Nat} (h : s.clusterIn c = false ∨ s.fld (F.PW_CL_STATE c) ∈ [0, 4, 5, 6]) :
    s.clusterReset c = s.configRefused (R.PW_CL c) 0 := by
  unfold State.clusterReset
  dsimp only
  rw [if_pos]
  simpa using h

theorem Fld.pwCl_block {f : Fld} {c : Nat} (hf : f.addr = R.PW_CL c) (hc : c < 16) (hlo : f.lo < 32) : f.block = 7 :=
  Fld.block_of_low (by simp only [Fld.key, hf, R.PW_CL]; omega) (by simp only [Fld.key, hf, R.PW_CL]; omega) (by decide)

theorem clusterReset_shows {s : State} {c : Fin 16} (hc : c.val < s.clusters) (hin : s.clusterIn c = true) (hst : s.fld (F.PW_CL_STATE c) ∉ [0, 4, 5, 6]) :
    ∃ t, Sys2Proof.Machine.exec (.clusterReset c) s = .next t ∧ t.fld (F.PW_CL_STATE c) = 2
      ∧ t.fld (F.PW_CL_RESETS c) = (s.fld (F.PW_CL_RESETS c) + 1) % 2 ^ (F.PW_CL_RESETS c).w
      ∧ ∀ k ∈ coresOf c, (t.core k).run = none ∧ (t.core k).pc = 0 := by
  have ne : (F.PW_CL_STATE c.val).key ≠ (F.PW_CL_RESETS c.val).key := by simp [Fld.key, F.PW_CL_STATE, F.PW_CL_RESETS]
  refine ⟨_, congrArg Host.Outcome.next ((if_pos hc).trans (State.clusterReset_eq hin hst)), ?_, ?_, fun k hk => ?_⟩ <;> unfold State.incW
  · rw [State.fld_setFld_ne _ _ _ _ ne.symm, State.fld_setFld_same]
    rfl
  · have clear : (0x300000000 : Nat).testBit (F.PW_CL_RESETS c.val).block = false := by
      rw [Fld.pwCl_block rfl c.isLt (lo_lt rfl)]
      rfl
    have reset : (0x5C : Nat).testBit (F.PW_CL_RESETS c.val).block = false := by
      rw [Fld.pwCl_block rfl c.isLt (lo_lt rfl)]
      rfl
    rw [State.fld_setFld_same, State.fld_setFld_ne _ _ _ _ ne, State.clearCluster_regFr _ c.isLt _ clear, s.resetCores_regFr c _ reset]
  · have cores : ((((s.resetCores c).clearCluster c).setFld (F.PW_CL_STATE c) 2).setFld (F.PW_CL_RESETS c)
        (((((s.resetCores c).clearCluster c).setFld (F.PW_CL_STATE c) 2)).fld (F.PW_CL_RESETS c) + 1)).cores = (s.resetCores c).cores := by
      rw [(State.setFld_keeps ..).2.2.2.1, (State.setFld_keeps ..).2.2.2.1, State.clearCluster_cores]
    rw [State.core_congr cores]
    exact s.resetCores_core hk

theorem State.setSelftest_flds (s : State) (c cores : Nat) (cps vectors : Bool) :
    (s.setSelftest c cores cps vectors).fld (F.CL_SELFTEST_CORE_PASS c) = cores % 2 ^ 9
      ∧ (s.setSelftest c cores cps vectors).fld (F.CL_SELFTEST_CPS_PASS c) = b2n cps ∧ (s.setSelftest c cores cps vectors).fld (F.CL_SELFTEST_VECTORS_PASS c) = b2n vectors
      ∧ FldsBut [F.CL_SELFTEST_CORE_PASS c, F.CL_SELFTEST_CPS_PASS c, F.CL_SELFTEST_VECTORS_PASS c] s (s.setSelftest c cores cps vectors) := by
  have ne (f g : Fld) (hf : f.addr = R.CL_SELFTEST c) (hg : g.addr = R.CL_SELFTEST c) (h : f.lo ≠ g.lo) : f.key ≠ g.key := by
    simp only [Fld.key, hf, hg]
    omega
  unfold State.setSelftest
  refine ⟨?_, ?_, State.fld_setFlag_same _ _ _ Nat.one_pos, fun g hg => ?_⟩
  · rw [State.fld_setFlag_ne _ _ _ _ (ne _ _ rfl rfl (by simp [F.CL_SELFTEST_CORE_PASS, F.CL_SELFTEST_VECTORS_PASS])),
      State.fld_setFlag_ne _ _ _ _ (ne _ _ rfl rfl (by simp [F.CL_SELFTEST_CORE_PASS, F.CL_SELFTEST_CPS_PASS])), State.fld_setFld_same]
    rfl
  · rw [State.fld_setFlag_ne _ _ _ _ (ne _ _ rfl rfl (by simp [F.CL_SELFTEST_CPS_PASS, F.CL_SELFTEST_VECTORS_PASS])), State.fld_setFlag_same _ _ _ Nat.one_pos]
  · simp only [List.mem_cons, List.not_mem_nil, or_false, forall_eq_or_imp, forall_eq] at hg
    obtain ⟨hcore, hcps, hvec⟩ := hg
    rw [State.fld_setFlag_ne _ _ _ _ hvec, State.fld_setFlag_ne _ _ _ _ hcps, State.fld_setFld_ne _ _ _ _ hcore]

theorem clusterResetEnd_shows {s : State} {c : Fin 16} (cores : BitVec 9) (cps vectors : Bool) (hst : s.fld (F.PW_CL_STATE c) = 2) :
    ∃ t, Sys2Proof.Machine.exec (.clusterResetEnd c cores cps vectors) s = .next t
      ∧ t.fld (F.PW_CL_STATE c) = 1 ∧ t.fld (F.CL_SELFTEST_CORE_PASS c) = cores.toNat ∧ t.fld (F.CL_SELFTEST_CPS_PASS c) = b2n cps
      ∧ t.fld (F.CL_SELFTEST_VECTORS_PASS c) = b2n vectors
      ∧ FldsBut [F.PW_CL_STATE c, F.CL_SELFTEST_CORE_PASS c, F.CL_SELFTEST_CPS_PASS c, F.CL_SELFTEST_VECTORS_PASS c] s t := by
  obtain ⟨hcores, hcps, hvec, hbut⟩ := s.setSelftest_flds c cores.toNat cps vectors
  have ne {g : Fld} (hg : g.addr = R.CL_SELFTEST c) : (F.PW_CL_STATE c.val).key ≠ g.key := by
    simp only [Fld.key, hg, F.PW_CL_STATE, R.PW_CL, R.CL_SELFTEST]
    omega
  refine ⟨_, if_pos hst, State.fld_setFld_same _ _ _, ?_, ?_, ?_, fun g hg => ?_⟩
  · rw [State.fld_setFld_ne _ _ _ _ (ne rfl), hcores, Nat.mod_eq_of_lt cores.isLt]
  · rw [State.fld_setFld_ne _ _ _ _ (ne rfl), hcps]
  · rw [State.fld_setFld_ne _ _ _ _ (ne rfl), hvec]
  · rw [State.fld_setFld_ne _ _ _ _ (hg _ (List.mem_cons_self ..)), hbut g fun f hf => hg f (List.mem_cons_of_mem _ hf)]

theorem clPatchDataRead_shows {s : State} {c : Fin 16} (hc : c.val < s.clusters) :
    ∃ t, Sys2Proof.Machine.exec (.clPatchDataRead c) s = .next t ∧ t.lastRead = mget 0 s.mem.patch (c.val * 512 + s.fld (F.CL_PATCH_SEL_BLOCK c))
      ∧ t.fld (F.CL_PATCH_SEL_BLOCK c) = (s.fld (F.CL_PATCH_SEL_BLOCK c) + 1) % 512 ∧ FldsBut [F.CL_PATCH_SEL_BLOCK c] s t := by
  refine ⟨_, if_pos hc, rfl, ?_, fun g hg => ?_⟩
  · exact (congrFun (State.fld_congr rfl) _).trans (State.fld_setFld_same s (F.CL_PATCH_SEL_BLOCK c.val) _)
  · exact (congrFun (State.fld_congr rfl) _).trans (State.fld_setFld_ne s _ _ _ (hg _ (List.mem_singleton.2 rfl)))

/-- Settles O33: each step of a retirement, the repair of a row and each operation on a cluster by the lemma about it. -/
theorem retireAndRepair : Obligations.RetireAndRepair := by
  unfold Obligations.RetireAndRepair
  intro s
  refine ⟨fun k r hr => ⟨retireNodeTimeout_resets hr, fun hrun => ?_, fun hrun hfree p hp => ?_⟩, fun k r p hr hp => spareReady_shows hr hp,
    fun u row hen hlog hidle => rowRepaired_shows hen hlog hidle, fun c hc => ⟨clusterReset_shows hc, fun h => ?_,
      fun cores cps vectors => clusterResetEnd_shows cores cps vectors, ?_, ?_, clPatchDataRead_shows hc⟩⟩
  · show execRetirementSwap k s = _
    unfold execRetirementSwap
    rw [hr]
    exact if_pos hrun
  · obtain ⟨t, hexec, hregs, hcores⟩ := retirementSwap_eq hr hrun hfree hp
    have hne : k.val ≠ p := by
      have := List.find?_some hp
      simp only [Bool.and_eq_true, decide_eq_true_eq] at this
      exact fun h => this.1 h.symm
    refine ⟨t, hexec, ?_⟩
    rw [State.fld_congr hregs, State.core_congr hcores]
    exact s.swapCores_shows (s.logical k) hne
  · exact congrArg Host.Outcome.next ((if_pos hc).trans (State.clusterReset_refused h))
  · obtain ⟨hcsm, hcps, hcores⟩ := s.logClr_shows c
    exact ⟨_, congrArg Host.Outcome.next (if_pos hc), hcsm, hcps, hcores, (State.logClr_fr _ _ (.refl _)).mem rfl⟩
  · exact ⟨_, congrArg Host.Outcome.next (if_pos hc), (State.fld_setFld_same _ _ _).trans (Nat.zero_mod _),
      fun g hg => State.fld_setFld_ne _ _ _ _ (hg _ (List.mem_singleton.2 rfl))⟩

end Sys2Proof.Machine
end

section
/-! ## MIGRATE, EVACUATE and CHECKPOINT_ALL (R434-R436) -/
namespace Sys2Proof.Machine

-- One declaration is checked at a time, so that the text with all its files is checked in bounded memory.
set_option Elab.async false

/-! ### The entries of a channel that leaves (R166, R391, R434) -/

theorem State.chan_setChan_same (s : State) (n : Nat) (c : Chan) : (s.setChan n c).chan n = some c := mfind_mput_same ..

theorem State.chan_putChan_same (s : State) (n : Nat) (c : Chan) : (s.putChan n c).chan n = some c := by
  unfold State.putChan
  rw [State.chan_congr ((State.setCtxWord_fr _ _ _ _ (.refl _)).chans rfl), State.chan_congr ((State.setCtxWord_fr _ _ _ _ (.refl _)).chans rfl),
    State.chan_setChan_same]

/-- A channel in state `x` whose tokens no longer count. -/
def Leaving (s : State) (n : Nat) (x : ChanState) : Prop := ∃ c, s.chan n = some c ∧ c.tomb = true ∧ c.st = x

theorem Leaving.of_chans {s t : State} {n : Nat} {x : ChanState} (h : Leaving s n x) (ht : t.chans = s.chans) : Leaving t n x := by
  unfold Leaving
  rw [State.chan_congr ht]
  exact h

theorem Leaving.st {s : State} {n : Nat} {x : ChanState} (h : Leaving s n x) : (s.chan n).map (·.st) = some x := by
  obtain ⟨c, hc, -, rfl⟩ := h
  rw [hc]
  rfl

theorem State.cancelsDone_jobs (s : State) (e : Entry) : (s.cancelsDone e).hi.jobs = s.hi.jobs :=
  foldl_keeps (fun t : State => t.hi.jobs) (fun t (w : CancelWait) => (t.incS F.TH_CANCEL_CNT_CANCELS 1).complete w.origin 3 0 [])
    (fun _ _ => (State.complete_jobs ..).trans (congrArg HostIf.jobs (State.incS_hi ..))) _ _

/-- The record of a cancelled node stands in the channel, which otherwise stays as it is. -/
theorem State.nodeRecord_leaving {s : State} {n : Nat} {x : ChanState} (h : Leaving s n x) {e : Entry} (hk : e.kind = .node) (he : e.chan = n)
    (core : Option Nat) (status err detail : Nat) (late : Bool) : Leaving (s.nodeRecord e core status err detail late) n x := by
  obtain ⟨c, hc, htomb, hst⟩ := h
  subst he
  unfold State.nodeRecord
  rw [hk, hc]
  refine Leaving.of_chans ?_ ((State.setBytes_fr _ _ _ (.refl _)).chans rfl)
  exact ⟨{ c with ran := mput c.ran e.node (e.frame % 16384 + 1) }, State.chan_setChan_same _ _ _, htomb, hst⟩

/-- An entry of a channel that leaves ends with its record; no token follows. -/
theorem State.endCancelled_leaving {s : State} {n : Nat} {x : ChanState} (h : Leaving s n x) {e : Entry} (hk : e.kind = .node) (he : e.chan = n)
    (core : Option Nat) : Leaving (s.endCancelled e core) n x ∧ (s.endCancelled e core).hi.jobs = s.hi.jobs := by
  have done : Leaving ((s.nodeRecord e core 3 0 0 false).cancelsDone e) n x :=
    (State.nodeRecord_leaving h hk he core 3 0 0 false).of_chans ((State.cancelsDone_fr _ _ (.refl _)).chans rfl)
  have jobs : ((s.nodeRecord e core 3 0 0 false).cancelsDone e).hi.jobs = s.hi.jobs := by
    rw [State.cancelsDone_jobs, (State.nodeRecord_fr _ _ _ _ _ _ _ (.refl _)).hi rfl]
  obtain ⟨c, hc, htomb, -⟩ := id done
  subst he
  unfold State.endCancelled
  rw [hk]
  dsimp only
  rw [hc]
  dsimp only
  rw [if_pos htomb]
  exact ⟨done, jobs⟩

/-- Node entries of a channel. -/
def Entry.ofChan (n : Nat) (e : Entry) : Bool := e.kind = .node && e.chan = n

/-- The running entries that a test picks are marked as cancelled. -/
def State.cancelRuns (s : State) (p : Entry → Bool) (l : List (Nat × Running)) : State :=
  l.foldl (fun s r => if p r.2.e then s.setCore r.1 { s.core r.1 with run := some { r.2 with e := { r.2.e with cancel := true } } } else s) s

theorem State.cancelRuns_keeps (s : State) (p : Entry → Bool) (l : List (Nat × Running)) : (s.cancelRuns p l).chans = s.chans ∧ (s.cancelRuns p l).hi = s.hi := by
  induction l generalizing s with
  | nil => exact ⟨rfl, rfl⟩
  | cons r l ih =>
    obtain ⟨hchans, hhi⟩ := ih (if p r.2.e then s.setCore r.1 { s.core r.1 with run := some { r.2 with e := { r.2.e with cancel := true } } } else s)
    refine ⟨hchans.trans ?_, hhi.trans ?_⟩ <;> split <;> rfl

theorem State.cancelEntries_eq (s : State) (n : Nat) : s.cancelEntries n
    = let u := (s.queued.filter (Entry.ofChan n)).foldl (fun s e => s.endCancelled e none) (s.dropQueued (Entry.ofChan n))
      u.cancelRuns (Entry.ofChan n) u.runs := rfl

theorem State.cancelEntries_leaving {s : State} {n : Nat} {x : ChanState} (h : Leaving s n x) :
    Leaving (s.cancelEntries n) n x ∧ (s.cancelEntries n).hi.jobs = s.hi.jobs := by
  have ended : ∀ (l : List Entry) (u : State), (∀ e ∈ l, e.kind = .node ∧ e.chan = n) → Leaving u n x →
      Leaving (l.foldl (fun s e => s.endCancelled e none) u) n x ∧ (l.foldl (fun s e => s.endCancelled e none) u).hi.jobs = u.hi.jobs := by
    intro l
    induction l with
    | nil => exact fun u _ hu => ⟨hu, rfl⟩
    | cons e l ih =>
      intro u hl hu
      obtain ⟨hk, he⟩ := hl e (List.mem_cons_self ..)
      obtain ⟨hleave, hjobs⟩ := State.endCancelled_leaving hu hk he none
      obtain ⟨hleave', hjobs'⟩ := ih _ (fun x hx => hl x (List.mem_cons_of_mem _ hx)) hleave
      exact ⟨hleave', hjobs'.trans hjobs⟩
  obtain ⟨hleave, hjobs⟩ := ended (s.queued.filter (Entry.ofChan n)) (s.dropQueued (Entry.ofChan n))
    (fun e he => by simpa [Entry.ofChan] using (List.mem_filter.1 he).2) h
  rw [State.cancelEntries_eq]
  dsimp only
  generalize (s.queued.filter (Entry.ofChan n)).foldl (fun s e => s.endCancelled e none) (s.dropQueued (Entry.ofChan n)) = u at hleave hjobs ⊢
  obtain ⟨hchans, hhi⟩ := u.cancelRuns_keeps (Entry.ofChan n) u.runs
  exact ⟨hleave.of_chans hchans, (congrArg HostIf.jobs hhi).trans hjobs⟩

theorem State.orphanCells_leaving {s : State} {n : Nat} {x : ChanState} (h : Leaving s n x) :
    Leaving (s.orphanCells n) n x ∧ (s.orphanCells n).hi.jobs = s.hi.jobs :=
  ⟨h.of_chans ((State.orphanCells_fr _ _ (.refl _)).chans rfl), congrArg HostIf.jobs ((State.orphanCells_fr _ _ (.refl _)).hi rfl)⟩

theorem State.beginClose_closing {s : State} {n : Nat} {c : Chan} (hc : s.chan n = some c) (o : Option Origin) : Leaving (s.beginClose n o) n .closing := by
  unfold State.beginClose
  rw [hc]
  exact (State.orphanCells_leaving (State.cancelEntries_leaving ⟨_, State.chan_putChan_same _ _ _, rfl, rfl⟩).1).1

/-! ### Jobs found by what they are for -/

theorem State.job_of_mem {s : State} {j : Job} (h : j ∈ s.hi.jobs) : ∃ x, s.job j.handle = some x :=
  Option.isSome_iff_exists.1 (List.find?_isSome.2 ⟨j, h, decide_eq_true rfl⟩)

/-- A record put in place of a listed job's stands in the table. -/
theorem State.job_setJob_of_mem {s : State} {j j' : Job} (h : j ∈ s.hi.jobs) (hh : j'.handle = j.handle) : (s.setJob j').job j.handle = some j' := by
  obtain ⟨x, hx⟩ := State.job_of_mem h
  rw [← hh] at hx ⊢
  exact State.job_setJob_same hx

/-! ### MIGRATE (R434) -/

/-- The source stops a channel at the boundary of the switch. -/
def State.migStop (s : State) (n : Nat) (ch : Chan) : State := ((s.putChan n { ch with tomb := true, mediaDue := none }).cancelEntries n).orphanCells n

theorem State.migStop_jobs (s : State) (n : Nat) (ch : Chan) : (s.migStop n ch).hi.jobs = s.hi.jobs := by
  have put : Leaving (s.putChan n { ch with tomb := true, mediaDue := none }) n ch.st := ⟨_, State.chan_putChan_same _ _ _, rfl, rfl⟩
  obtain ⟨hleave, hjobs⟩ := State.cancelEntries_leaving put
  obtain ⟨-, hjobs'⟩ := State.orphanCells_leaving hleave
  unfold State.migStop
  rw [hjobs', hjobs, (State.putChan_fr _ _ _ (.refl _)).hi rfl]

theorem State.migStop_elapsed (s : State) (n : Nat) (ch : Chan) : (s.migStop n ch).elapsed = s.elapsed := by
  unfold State.migStop
  rw [(State.orphanCells_fr _ _ (.refl _)).elapsed rfl, (State.cancelEntries_fr _ _ (.refl _)).elapsed rfl, (State.putChan_fr _ _ _ (.refl _)).elapsed rfl]

/-- The job of a source that forwards until a time. -/
def Job.forwards (j : Job) (until_ : Nat) : Job := { j with step := 3, done := 3, work := setAt j.work 5 until_ }

/-- The last checkpoint goes, and the job forwards. -/
def State.migForward (u : State) (n : Nat) (ch : Chan) (j : Job) : State :=
  let u := u.migCheckpoint n ((u.chan n).getD ch) j (nth j.work 4) (nth j.work 3) true
  ((u.setJob (j.forwards (u.elapsed + nth j.args 2 * 1000000))).jobProgress j.handle false).twCount 26 1

theorem migrateSwitch_eq {s : State} {n : BitVec 13} {j : Job} (hj : s.migJob n.toNat = some j) {ch : Chan} (hc : s.chan n.toNat = some ch)
    (h2 : j.step = 2) (hdue : nth j.work 3 ≤ s.nowNs) :
    Sys2Proof.Machine.exec (.migrateSwitch n) s = .next ((s.migStop n.toNat ch).migForward n.toNat ch j) := by
  show execMigrateSwitch n s = _
  unfold execMigrateSwitch
  dsimp only
  rw [hj, hc]
  exact congrArg Host.Outcome.next (if_pos ⟨h2, hdue⟩)

theorem State.migForward_job {u : State} {j : Job} (hj : j ∈ u.hi.jobs) (n : Nat) (ch : Chan) : ∃ j', (u.migForward n ch j).job j.handle = some j'
    ∧ j'.step = 3 ∧ j'.done = 3 ∧ j'.work = setAt j.work 5 (u.elapsed + nth j.args 2 * 1000000) := by
  obtain ⟨l, hl⟩ := State.jobProgress_job (State.job_setJob_of_mem
    (s := u.migCheckpoint n ((u.chan n).getD ch) j (nth j.work 4) (nth j.work 3) true) (j' := j.forwards (u.elapsed + nth j.args 2 * 1000000)) hj rfl) false
  refine ⟨{ j.forwards (u.elapsed + nth j.args 2 * 1000000) with lastReport := l }, ?_, rfl, rfl, rfl⟩
  unfold State.migForward
  dsimp only
  rw [State.job_congr (congrArg HostIf.jobs ((State.twCount_fr _ _ _ (.refl _)).hi rfl))]
  exact hl

theorem migrateSwitch_shows {s : State} {n : BitVec 13} {j : Job} (hj : s.migJob n.toNat = some j) {ch : Chan} (hc : s.chan n.toNat = some ch)
    (h2 : j.step = 2) (hdue : nth j.work 3 ≤ s.nowNs) : ∃ t j', Sys2Proof.Machine.exec (.migrateSwitch n) s = .next t
      ∧ t.job j.handle = some j' ∧ j'.step = 3 ∧ j'.done = 3 ∧ j'.work = setAt j.work 5 (s.elapsed + nth j.args 2 * 1000000) := by
  have listed : j ∈ (s.migStop n.toNat ch).hi.jobs := by
    rw [State.migStop_jobs]
    exact List.mem_of_find?_eq_some hj
  obtain ⟨j', hjob, hstep, hdone, hwork⟩ := State.migForward_job listed n.toNat ch
  rw [State.migStop_elapsed] at hwork
  exact ⟨_, j', migrateSwitch_eq hj hc h2 hdue, hjob, hstep, hdone, hwork⟩

theorem migrateForwardEnd_shows {s : State} {n : BitVec 13} {j : Job} (hj : s.migJob n.toNat = some j) (h3 : j.step = 3) (hdue : nth j.work 5 ≤ s.elapsed) :
    ∃ t, Sys2Proof.Machine.exec (.migrateForwardEnd n) s = .next t ∧ ∀ ch, s.chan n.toNat = some ch → (t.chan n.toNat).map (·.st) = some .closing := by
  have ended (u : State) (vals : List Nat) : ((u.setJob { j with done := 4 }).endJob j.handle 0 0 vals).chan n.toNat = u.chan n.toNat := by
    rw [State.chan_congr ((State.endJob_fr _ _ _ _ _ (.refl _)).chans rfl)]
    rfl
  show ∃ t, execMigrateForwardEnd n s = .next t ∧ _
  unfold execMigrateForwardEnd
  dsimp only
  rw [hj]
  refine ⟨_, congrArg Host.Outcome.next (if_pos ⟨h3, hdue⟩), fun ch hch => ?_⟩
  rw [ended, hch]
  dsimp only
  split
  · next hst =>
    rw [hch, ← hst]
    rfl
  · exact (State.beginClose_closing hch none).st

/-- What MIGRATE does with a channel that is open, on a link that is UP. -/
theorem migrate_asks {s : State} {c : HCmd} (hs : StartsJob s c 0x65 1 (fun j => nth j.args 0 = arg c 0)) (ha : argMask c [0x1FFF, 0x1FFF3FFF, 0xFFFF] = true)
    (hm : s.mode = 7 → 240 ≤ arg c 0) {ch : Chan} {l : Nat} (hch : s.chan (arg c 0) = some ch) (hst : ch.st = .opened)
    (hl : s.linkOf (bits (arg c 1) 0 14) = some l) (hon : s.fabOn = true) (hup : (s.link l).state = 2) :
    Sys2Proof.Machine.exec (.migrate c) s = .next ((((s.start c).putChan (arg c 0) { ch with st := .migOut }).addJob
      (newJob c (s.originOf c 0x65) .running [l, 0, 0, 0, 0, 0] 4)).migSend l (.request (arg c 0) (bits (arg c 1) 16 13) ch.frame ch.mirror ch.stagger ch.units ch.granules)) := by
  show execMigrate c s = _
  unfold execMigrate
  refine congrArg Host.Outcome.next ((State.jobCommand_eq (mode := true) (chan := some (arg c 0)) (buf := false) hs ha rfl fun n hn h7 => ?_).trans ?_)
  · exact Option.some.inj hn ▸ hm h7
  · dsimp only
    rw [show (s.start c).chan (arg c 0) = some ch from hch]
    dsimp only
    rw [if_neg (not_not_intro hst), show (s.start c).linkOf (bits (arg c 1) 0 14) = some l from hl]
    dsimp only
    rw [if_neg]
    rintro (h | h)
    · exact absurd (h.symm.trans hon) (by decide)
    · exact h hup

/-- MIGRATE of an open channel whose target has no link that is UP. -/
theorem migrate_missing {s : State} {c : HCmd} (hs : StartsJob s c 0x65 1 (fun j => nth j.args 0 = arg c 0)) (ha : argMask c [0x1FFF, 0x1FFF3FFF, 0xFFFF] = true)
    (hm : s.mode = 7 → 240 ≤ arg c 0) :
    (s.chan (arg c 0) = none → Sys2Proof.Machine.exec (.migrate c) s = .next ((s.start c).complete (s.originOf c 0x65) 8 0 []))
    ∧ ∀ ch, s.chan (arg c 0) = some ch →
      (ch.st ≠ .opened → Sys2Proof.Machine.exec (.migrate c) s = .next ((s.start c).complete (s.originOf c 0x65) 6 0 []))
      ∧ (ch.st = .opened → s.linkOf (bits (arg c 1) 0 14) = none →
          Sys2Proof.Machine.exec (.migrate c) s = .next ((s.start c).complete (s.originOf c 0x65) 8 0 []))
      ∧ ∀ l, ch.st = .opened → s.linkOf (bits (arg c 1) 0 14) = some l → s.fabOn = false ∨ (s.link l).state ≠ 2 →
          Sys2Proof.Machine.exec (.migrate c) s = .next ((s.start c).complete (s.originOf c 0x65) 8 0 []) := by
  have checked := fun f => State.jobCommand_eq (f := f) (mode := true) (chan := some (arg c 0)) (buf := false) hs ha rfl fun n hn h7 => Option.some.inj hn ▸ hm h7
  have found : (s.start c).chan = s.chan := State.chan_congr rfl
  have linked : (s.start c).linkOf = s.linkOf := rfl
  refine ⟨fun hch => ?_, fun ch hch => ⟨fun hst => ?_, fun hst hl => ?_, fun l hst hl hdown => ?_⟩⟩ <;>
    refine congrArg Host.Outcome.next ((checked _).trans ?_) <;> dsimp only <;> rw [found, hch]
  · exact if_pos hst
  · dsimp only
    rw [if_neg (not_not_intro hst), linked, hl]
  · dsimp only
    rw [if_neg (not_not_intro hst), linked, hl]
    exact if_pos hdown

theorem State.link_fabQueue (s : State) (l : Nat) (b : FabBody) (note : Nat) : (s.fabQueue l b note).link l = { s.link l with queue := match b with
    | .fence _ => ((s.link l).queue.takeWhile fun y => fabType y.body = 7) ++ [⟨none, b, note⟩] ++ (s.link l).queue.dropWhile fun y => fabType y.body = 7
    | _ => (s.link l).queue ++ [⟨none, b, note⟩] } := mget_mset_same ..

theorem State.link_congr {s t : State} (h : t.tw.link = s.tw.link) : t.link = s.link := funext fun l => congrArg (mget Link.init · l) h

/-- What asking leaves: the channel migrates out, the job runs, and the request is the last frame of the link. -/
theorem State.migAsked (u : State) (n l : Nat) (ch : Chan) {j : Job} (r : MigrateRec) (hj : u.job j.handle = none) :
    let t := ((u.putChan n { ch with st := .migOut }).addJob j).migSend l r
    (t.chan n).map (·.st) = some .migOut ∧ t.job j.handle = some j ∧ (t.link l).queue = (u.link l).queue ++ [⟨none, .migrate r, 0⟩] := by
  have hput : (u.putChan n { ch with st := .migOut }).hi = u.hi := (State.putChan_fr _ _ _ (.refl _)).hi rfl
  have htw : (u.putChan n { ch with st := .migOut }).tw = u.tw := (State.putChan_fr _ _ _ (.refl _)).tw rfl
  have hchan := u.chan_putChan_same n { ch with st := .migOut }
  generalize u.putChan n { ch with st := .migOut } = v at hput htw hchan ⊢
  have hfree : v.job j.handle = none := by rw [State.job_congr (congrArg HostIf.jobs hput), hj]
  refine ⟨?_, ?_, ?_⟩
  · rw [State.chan_congr (t := (v.addJob j).migSend l r) (s := v) rfl, hchan]
    rfl
  · exact (congrFun (State.job_congr (s := v.addJob j) rfl) j.handle).trans (State.job_addJob_same (s := v) (j := j) hfree)
  · refine (congrArg Link.queue (State.link_fabQueue (v.addJob j) l (.migrate r) 0)).trans ?_
    rw [State.link_congr (t := v.addJob j) (s := u) (congrArg Fabric.link htw)]

/-! ### EVACUATE (R435) -/

/-- A FENCE goes before every frame of the link but the FENCEs that wait. -/
def FenceFirst (s t : State) (l : Nat) : Prop :=
  ∃ a b, (t.link l).queue = a ++ [⟨none, .fence true, 0⟩] ++ b ∧ a ++ b = (s.link l).queue ∧ ∀ y ∈ a, fabType y.body = 7

theorem State.fabQueue_fence (s : State) (l : Nat) : FenceFirst s (s.fabQueue l (.fence true) 0) l := by
  refine ⟨_, _, congrArg Link.queue (s.link_fabQueue l (.fence true) 0), List.takeWhile_append_dropWhile, fun y hy => ?_⟩
  exact of_decide_eq_true (List.mem_takeWhile_imp (p := fun y : FabFrame => decide (fabType y.body = 7)) hy)

theorem FenceFirst.of_link {s t u : State} {l : Nat} (h : FenceFirst s t l) (hu : u.tw.link = t.tw.link) : FenceFirst s u l := by
  unfold FenceFirst
  rw [State.link_congr hu]
  exact h

theorem State.trigger_jobs (s : State) (target : Nat) : (s.trigger target).hi.jobs = s.hi.jobs := by
  unfold State.trigger
  split
  · split <;> rfl
  · split
    · split <;> rfl
    · split
      · exact State.completeOpt_jobs ..
      · rfl

theorem evacuate_starts {s : State} {c : HCmd} (hs : StartsJob s c 0x66 1 (fun _ => true)) (ha : argMask c [0x3FFF] = true) :
    (arg c 0 ≠ s.fld F.TW_TWIN_TWIN → Sys2Proof.Machine.exec (.evacuate c) s = .next ((s.start c).complete (s.originOf c 0x66) 5 0 []))
    ∧ (arg c 0 = s.fld F.TW_TWIN_TWIN → s.twinLink = none → Sys2Proof.Machine.exec (.evacuate c) s = .next ((s.start c).complete (s.originOf c 0x66) 6 0 []))
    ∧ (∀ l, arg c 0 = s.fld F.TW_TWIN_TWIN → s.twinLink = some l →
        (2 ∉ (s.link l).peerSlots → Sys2Proof.Machine.exec (.evacuate c) s = .next ((s.start c).complete (s.originOf c 0x66) 6 0 []))
        ∧ (2 ∈ (s.link l).peerSlots → ∃ t, Sys2Proof.Machine.exec (.evacuate c) s = .next t ∧ t.job (cmdHandle c)
            = some { newJob c (s.originOf c 0x66) .running s.mirrored s.mirrored.length with step := if s.mirrored = [] then 1 else 0 })) := by
  have checked := fun f => State.jobCommand_eq (f := f) (mode := true) (chan := none) (buf := false) hs ha rfl fun _ hn => nomatch hn
  have fld : (s.start c).fld = s.fld := rfl
  have twin : (s.start c).twinLink = s.twinLink := rfl
  have mirrored : (s.start c).mirrored = s.mirrored := rfl
  obtain ⟨-, -, hjob, -, -⟩ := id hs
  refine ⟨fun hne => ?_, fun heq hl => ?_, fun l heq hl => ⟨fun h2 => ?_, fun h2 => ?_⟩⟩
  · exact congrArg Host.Outcome.next ((checked _).trans (if_pos hne))
  · refine congrArg Host.Outcome.next ((checked _).trans ?_)
    dsimp only
    rw [fld, if_neg (not_not_intro heq), twin, hl]
  · refine congrArg Host.Outcome.next ((checked _).trans ?_)
    dsimp only
    rw [fld, if_neg (not_not_intro heq), twin, hl]
    refine if_pos (List.any_eq_false.2 fun x hx h => h2 ?_)
    exact of_decide_eq_true h ▸ hx
  · refine ⟨_, congrArg Host.Outcome.next (checked _), ?_⟩
    have some_two : ((s.start c).link l).peerSlots.any (· = 2) = true := List.any_eq_true.2 ⟨2, h2, rfl⟩
    dsimp only
    rw [fld, if_neg (not_not_intro heq), twin, hl]
    dsimp only
    rw [if_neg (by rw [some_two]; decide), mirrored]
    exact State.job_addJob_same (s := s.start c)
      (j := { newJob c (s.originOf c 0x66) .running s.mirrored s.mirrored.length with step := if s.mirrored = [] then 1 else 0 }) hjob

theorem evacuateFence_shows {s : State} {j : Job} {l : Nat} (hj : s.evacJob = some j) (hl : s.twinLink = some l) (h2 : j.step = 2) (hrun : j.st = .running)
    (hn : s.tw.notes = []) (hm : s.mirrorOut l = false) :
    ∃ t j', Sys2Proof.Machine.exec .evacuateFence s = .next t ∧ t.tw.evacLink = some l ∧ t.tw.evacAt = s.elapsed ∧ t.job j.handle = some j' ∧ j'.step = 3
      ∧ FenceFirst s t l := by
  have listed : j ∈ (s.fabQueue l (.fence true) 0).hi.jobs := List.mem_of_find?_eq_some (l := s.hi.jobs) hj
  generalize hv : (((s.fabQueue l (.fence true) 0).setJob { j with step := 3 }).trigger 10) = v
  have hjobs : v.hi.jobs = ((s.fabQueue l (.fence true) 0).setJob { j with step := 3 }).hi.jobs := hv ▸ State.trigger_jobs _ _
  have htw : v.tw = ((s.fabQueue l (.fence true) 0).setJob { j with step := 3 }).tw := hv ▸ (State.trigger_fr _ _ (.refl _)).tw rfl
  have helapsed : v.elapsed = s.elapsed := hv ▸ (State.trigger_fr _ _ (.refl _)).elapsed rfl
  refine ⟨{ v with tw := { v.tw with evacLink := some l, evacAt := v.elapsed } }, { j with step := 3 }, ?_, rfl, helapsed, ?_, rfl, ?_⟩
  · show execEvacuateFence s = _
    unfold execEvacuateFence
    rw [hj, hl]
    dsimp only
    rw [if_pos ⟨h2, hrun, hn, hm⟩, hv]
  · exact (congrFun (State.job_congr hjobs) j.handle).trans (State.job_setJob_of_mem (j' := { j with step := 3 }) listed rfl)
  · refine (s.fabQueue_fence l).of_link ?_
    show v.tw.link = _
    rw [htw]
    rfl

theorem evacuateFenceRepeat_shows {s : State} {l : Nat} (hl : s.tw.evacLink = some l) (hdue : s.tw.evacAt + 5000000 ≤ s.elapsed) :
    ∃ t, Sys2Proof.Machine.exec .evacuateFenceRepeat s = .next t ∧ t.tw.evacAt = s.elapsed ∧ t.tw.evacLink = some l ∧ FenceFirst s t l := by
  refine ⟨{ s.fabQueue l (.fence true) 0 with tw := { (s.fabQueue l (.fence true) 0).tw with evacAt := s.elapsed } }, ?_, rfl, hl, (s.fabQueue_fence l).of_link rfl⟩
  show execEvacuateFenceRepeat s = _
  unfold execEvacuateFenceRepeat
  rw [hl]
  exact congrArg Host.Outcome.next (if_pos hdue)

/-! ### CHECKPOINT_ALL (R436) -/

/-- The twin has a link only while mirroring is enabled. -/
theorem State.twinLink_en {s : State} {l : Nat} (h : s.twinLink = some l) : s.flag F.TW_TWIN_EN = true := by
  unfold State.twinLink at h
  split at h
  · next hc => exact hc.1
  · cases h

theorem checkpointAll_starts {s : State} {c : HCmd} (hs : StartsJob s c 0x68 1 (fun _ => true)) (ha : argMask c [] = true) :
    (s.flag F.TW_TWIN_EN = true → s.twinLink = none → Sys2Proof.Machine.exec (.checkpointAll c) s = .next ((s.start c).complete (s.originOf c 0x68) 6 0 []))
    ∧ (s.flag F.TW_TWIN_EN = false → Sys2Proof.Machine.exec (.checkpointAll c) s
        = .next (((s.start c).addJob (newJob c (s.originOf c 0x68) .running [] 0)).endJob (cmdHandle c) 0 0 []))
    ∧ (∀ l, s.twinLink = some l → s.mirrored ≠ [] → ∃ t, Sys2Proof.Machine.exec (.checkpointAll c) s = .next t
        ∧ t.job (cmdHandle c) = some (newJob c (s.originOf c 0x68) .running s.mirrored s.mirrored.length)) := by
  have checked := fun f => State.jobCommand_eq (f := f) (mode := true) (chan := none) (buf := false) hs ha rfl fun _ hn => nomatch hn
  have twin : (s.start c).twinLink = s.twinLink := rfl
  have en : (s.start c).flag F.TW_TWIN_EN = s.flag F.TW_TWIN_EN := rfl
  have mirrored : (s.start c).mirrored = s.mirrored := rfl
  obtain ⟨-, -, hjob, -, -⟩ := id hs
  refine ⟨fun hen hl => ?_, fun hen => ?_, fun l hl hne => ⟨_, congrArg Host.Outcome.next (checked _), ?_⟩⟩
  · refine congrArg Host.Outcome.next ((checked _).trans ?_)
    dsimp only
    rw [twin, hl, en, hen]
    rfl
  · have hl : s.twinLink = none := Option.eq_none_iff_forall_ne_some.2 fun l hl => Bool.noConfusion (hen.symm.trans (State.twinLink_en hl))
    refine congrArg Host.Outcome.next ((checked _).trans ?_)
    dsimp only
    rw [twin, hl, en, hen]
    rfl
  · dsimp only
    rw [twin, hl, en, State.twinLink_en hl, mirrored]
    simp only [if_true, if_neg hne]
    exact State.job_addJob_same (s := s.start c) (j := newJob c (s.originOf c 0x68) .running s.mirrored s.mirrored.length) hjob

/-- Settles O54: each command and each step of a migration or an evacuation by the lemma about it. -/
theorem migrationResults : Obligations.MigrationResults := by
  unfold Obligations.MigrationResults
  intro s
  refine ⟨fun c hs ha hm => ?_, fun n j hj => ⟨fun ch hc h2 hdue => migrateSwitch_shows hj hc h2 hdue, fun h3 hdue => migrateForwardEnd_shows hj h3 hdue,
    fun h2 => ?_, fun h3 => ?_⟩, fun c hs ha => evacuate_starts hs ha, fun j l hj hl h2 hrun hn hm => evacuateFence_shows hj hl h2 hrun hn hm,
    fun l hl hdue => evacuateFenceRepeat_shows hl hdue, fun c hs ha => checkpointAll_starts hs ha⟩
  · obtain ⟨hnone, hsome⟩ := migrate_missing hs ha hm
    refine ⟨hnone, fun ch hch => ⟨(hsome ch hch).1, (hsome ch hch).2.1, fun l hst hl => ⟨(hsome ch hch).2.2 l hst hl, fun hon hup =>
      ⟨_, migrate_asks hs ha hm hch hst hl hon hup, ?_⟩⟩⟩⟩
    obtain ⟨-, -, hjob, -, -⟩ := hs
    exact State.migAsked (s.start c) (arg c 0) l ch (j := newJob c (s.originOf c 0x65) .running [l, 0, 0, 0, 0, 0] 4) _ hjob
  · show execMigrateSwitch n s = _
    unfold execMigrateSwitch
    dsimp only
    rw [hj]
    cases s.chan n.toNat with
    | none => rfl
    | some ch => exact congrArg Host.Outcome.next (if_neg fun h => h2 h.1)
  · show execMigrateForwardEnd n s = _
    unfold execMigrateForwardEnd
    dsimp only
    rw [hj]
    exact congrArg Host.Outcome.next (if_neg fun h => h3 h.1)

end Sys2Proof.Machine
end

section
/-! ## Polls, rings, messages and records of the host interface (R375-R384, R402, R404, R405, R463) -/
namespace Sys2Proof.Machine

-- One declaration is checked at a time, so that the text with all its files is checked in bounded memory.
set_option Elab.async false

/-! ### Folds over numbered units, with what each step depends on -/

/-- A fold in which the steps of other numbers keep what `κ` shows: at the end it shows what step `i` leaves of a state that shows the same as the first. -/
theorem foldl_at {α : Type} {f : State → Nat → State} (κ : State → α) {i : Nat} {l : List Nat} (hl : l.Nodup) (hi : i ∈ l)
    (hkeep : ∀ u j, j ≠ i → κ (f u j) = κ u) (s : State) : ∃ u, κ u = κ s ∧ κ (l.foldl f s) = κ (f u i) := by
  have others : ∀ (l' : List Nat) (u : State), i ∉ l' → κ (l'.foldl f u) = κ u := by
    intro l'
    induction l' with
    | nil => exact fun _ _ => rfl
    | cons j l' ih => exact fun u hj => (ih _ fun h => hj (List.mem_cons_of_mem _ h)).trans (hkeep u j fun h => hj (h ▸ List.mem_cons_self ..))
  obtain ⟨a, b, rfl⟩ := List.append_of_mem hi
  have hnot := (List.nodup_middle.1 hl)
  rw [List.nodup_cons, List.mem_append, not_or] at hnot
  obtain ⟨⟨ha, hb⟩, -⟩ := hnot
  rw [List.foldl_append, List.foldl_cons]
  exact ⟨_, others a s ha, others b _ hb⟩

/-! ### What a poll of one ring shows and keeps (R379, R381) -/

theorem State.ring_setRing_same (s : State) (r : Nat) (x : RingSt) : (s.setRing r x).ring r = x := mget_mset_same ..

theorem State.ring_setRing_ne (s : State) {r q : Nat} (x : RingSt) (h : q ≠ r) : (s.setRing r x).ring q = s.ring q := mget_mset_ne _ _ _ _ h

theorem State.ring_congr {s t : State} (h : t.hi.ring = s.hi.ring) : t.ring = s.ring := funext fun r => congrArg (mget RingSt.init · r) h

/-- The fields of a ring stand above those that all rings share. -/
theorem Fld.ring_ge {f : Fld} {r : Nat} (hf : f.addr = R.HI_RCFG r ∨ f.addr = R.HI_RSTAT r) : 0x20108 * 8 ≤ f.key := by
  rcases hf with hf | hf <;> simp only [Fld.key, hf, R.HI_RCFG, R.HI_RSTAT] <;> omega

theorem Fld.ring_outRl {f : Fld} {r : Nat} (hr : r < 64) (hf : f.addr = R.HI_RCFG r ∨ f.addr = R.HI_RSTAT r) (hlo : f.lo < 32) : outRl f = true := by
  simp only [outRl, Bool.or_eq_true, decide_eq_true_eq]
  left
  rcases hf with hf | hf <;> simp only [Fld.key, hf, R.HI_RCFG, R.HI_RSTAT] <;> omega

theorem rstat_key_ne {f g : Fld} {r q : Nat} (hf : f.addr = R.HI_RSTAT q) (hg : g.addr = R.HI_RCFG r ∨ g.addr = R.HI_RSTAT r) (hfl : f.lo < 32) (hgl : g.lo < 32)
    (h : q ≠ r) : f.key ≠ g.key := by
  rcases hg with hg | hg <;> simp only [Fld.key, hf, hg, R.HI_RCFG, R.HI_RSTAT] <;> omega

/-- A halt writes the ring's state and three fields that all rings share. -/
theorem State.ringHalt_fld (s : State) (r err : Nat) {g : Fld} (hg : outRl g = true) (h : F.HI_ERR_CNT_HALTS.key ≠ g.key) (h' : F.HI_EVENT_RING_HALT.key ≠ g.key) :
    (s.ringHalt r err).fld g = ((s.setFld (F.HI_RSTAT_STATE r) 3).setFld (F.HI_RSTAT_ERR r) err).fld g := by
  unfold State.ringHalt
  dsimp only
  rw [State.fld_raise _ _ _ _ _ _ _ _ _ hg (.inr (.inr (.inl rfl))), State.fld_setFlag_ne _ _ _ _ h', State.fld_incS_ne _ _ _ _ hg h]

theorem State.ringHalt_hi (s : State) (r err : Nat) : (s.ringHalt r err).hi = s.hi := by
  unfold State.ringHalt
  dsimp only
  rw [State.raise_hi]
  simp only [State.setFlag_keeps]
  rw [State.incS_hi]
  simp only [State.setFld_keeps]

/-- The buffers that a poll posts leave registers and rings alone. -/
theorem State.postBufs_keeps (s : State) (rx : List (List (BitVec 32))) (n : Nat) :
    ((List.range n).foldl (fun s i => s.postBuf (rx.getD i [])) s).regs = s.regs
      ∧ ((List.range n).foldl (fun s i => s.postBuf (rx.getD i [])) s).hi.ring = s.hi.ring
      ∧ ((List.range n).foldl (fun s i => s.postBuf (rx.getD i [])) s).hi.slowUntilRead = s.hi.slowUntilRead :=
  ⟨foldl_keeps State.regs (fun s i => s.postBuf (rx.getD i [])) (fun _ _ => rfl) _ _,
    foldl_keeps (fun t : State => t.hi.ring) (fun s i => s.postBuf (rx.getD i [])) (fun _ _ => rfl) _ _,
    foldl_keeps (fun t : State => t.hi.slowUntilRead) (fun s i => s.postBuf (rx.getD i [])) (fun _ _ => rfl) _ _⟩

/-- What a poll of a ring does: nothing, a halt, or the ring's new counts with the time of the last new TAIL. -/
theorem State.pollRing_cases (s : State) (rx : List (List (BitVec 32))) (r t : Nat) :
    (∃ err, s.pollRing rx r t = s.ringHalt r err)
      ∨ (s.pollRing rx r t).regs = s.regs ∧ (s.pollRing rx r t).hi.slowUntilRead = s.hi.slowUntilRead
        ∧ ∀ q, q ≠ r → (s.pollRing rx r t).ring q = s.ring q := by
  have same : s.regs = s.regs ∧ s.hi.slowUntilRead = s.hi.slowUntilRead ∧ ∀ q, q ≠ r → s.ring q = s.ring q := ⟨rfl, rfl, fun _ _ => rfl⟩
  have set (x : RingSt) : let u := ({ s with hi := { s.hi with lastTail := some s.elapsed } } : State).setRing r x
      u.regs = s.regs ∧ u.hi.slowUntilRead = s.hi.slowUntilRead ∧ ∀ q, q ≠ r → u.ring q = s.ring q :=
    ⟨rfl, rfl, fun q hq => State.ring_setRing_ne ({ s with hi := { s.hi with lastTail := some s.elapsed } } : State) x hq⟩
  unfold State.pollRing
  dsimp only
  split
  · exact .inr same
  · split
    · split
      · exact .inl ⟨_, rfl⟩
      · split
        · exact .inr same
        · split
          · exact .inr (set _)
          · obtain ⟨hregs, hring, hslow⟩ := State.postBufs_keeps (({ s with hi := { s.hi with lastTail := some s.elapsed } } : State).setRing r
              { s.ring r with tail := t, started := t }) rx ((t + 2 ^ 32 - (s.ring r).tail) % 2 ^ 32)
            obtain ⟨hregs', hslow', hring'⟩ := set { s.ring r with tail := t, started := t }
            refine .inr ⟨hregs.trans hregs', hslow.trans hslow', fun q hq => ?_⟩
            rw [State.ring_congr hring]
            exact hring' q hq
    · split
      · exact .inl ⟨_, rfl⟩
      · split
        · exact .inr same
        · exact .inr (set _)

/-- What a ring shows: its counts, its state and error, its kind and its size. -/
def State.ringShows (s : State) (r : Nat) : RingSt × Nat × Nat × Nat × Nat :=
  (s.ring r, s.fld (F.HI_RSTAT_STATE r), s.fld (F.HI_RSTAT_ERR r), s.fld (F.HI_RCFG_KIND r), s.fld (F.HI_RCFG_SIZE_LOG2 r))

theorem State.pollRing_ringShows (s : State) (rx : List (List (BitVec 32))) {q r : Nat} (t : Nat) (hr : r < 64) (h : q ≠ r) :
    (s.pollRing rx q t).ringShows r = s.ringShows r := by
  have halted (err : Nat) {g : Fld} (hg : g.addr = R.HI_RCFG r ∨ g.addr = R.HI_RSTAT r) (hlo : g.lo < 32) : (s.ringHalt q err).fld g = s.fld g := by
    have ge := Fld.ring_ge hg
    have low {f : Fld} (hf : f.key < 0x20108 * 8) : f.key ≠ g.key := Nat.ne_of_lt (Nat.lt_of_lt_of_le hf ge)
    rw [State.ringHalt_fld _ _ _ (Fld.ring_outRl hr hg hlo) (low (by decide)) (low (by decide)), State.fld_setFld_ne _ _ _ _ (rstat_key_ne rfl hg (lo_lt rfl) hlo h),
      State.fld_setFld_ne _ _ _ _ (rstat_key_ne rfl hg (lo_lt rfl) hlo h)]
  rcases s.pollRing_cases rx q t with ⟨err, he⟩ | ⟨hregs, -, hring⟩
  · unfold State.ringShows
    rw [he, State.ring_congr (congrArg HostIf.ring (s.ringHalt_hi q err)), halted err (.inr rfl) (lo_lt rfl), halted err (.inr rfl) (lo_lt rfl),
      halted err (.inl rfl) (lo_lt rfl), halted err (.inl rfl) (lo_lt rfl)]
  · unfold State.ringShows
    rw [hring r h.symm, State.fld_congr hregs]

/-- A poll of the rings leaves what polling itself depends on. -/
theorem State.pollRing_polling (s : State) (rx : List (List (BitVec 32))) (r t : Nat) : (s.pollRing rx r t).hi.slowUntilRead = s.hi.slowUntilRead
    ∧ (s.pollRing rx r t).elapsed = s.elapsed ∧ (s.pollRing rx r t).fld F.HI_POLL_FAST_US = s.fld F.HI_POLL_FAST_US
    ∧ (s.pollRing rx r t).fld F.HI_POLL_SLOW_US = s.fld F.HI_POLL_SLOW_US := by
  have ring {f g : Fld} (hf : f.addr = R.HI_RSTAT r) (hg : g.key < 0x20108 * 8) : f.key ≠ g.key := (Nat.ne_of_lt (Nat.lt_of_lt_of_le hg (Fld.ring_ge (.inr hf)))).symm
  refine ⟨?_, (State.pollRing_fr _ _ _ _ (.refl _)).elapsed rfl, ?_, ?_⟩ <;> rcases s.pollRing_cases rx r t with ⟨err, he⟩ | ⟨hregs, hslow, -⟩
  · rw [he, State.ringHalt_hi]
  · exact hslow
  · rw [he, State.ringHalt_fld _ _ _ rfl (by decide) (by decide), State.fld_setFld_ne _ _ _ _ (ring rfl (by decide)), State.fld_setFld_ne _ _ _ _ (ring rfl (by decide))]
  · rw [State.fld_congr hregs]
  · rw [he, State.ringHalt_fld _ _ _ rfl (by decide) (by decide), State.fld_setFld_ne _ _ _ _ (ring rfl (by decide)), State.fld_setFld_ne _ _ _ _ (ring rfl (by decide))]
  · rw [State.fld_congr hregs]

/-- A running command ring takes a possible TAIL. -/
theorem State.pollRing_takes {s : State} {r v : Nat} (rx : List (List (BitVec 32))) (hst : s.ringState r = 1) (hk : s.ringKind r = 0)
    (hhead : (v + 2 ^ 32 - (s.ring r).head) % 2 ^ 32 ≤ s.ringSize r) (htail : (v + 2 ^ 32 - (s.ring r).tail) % 2 ^ 32 ≤ s.ringSize r)
    (hlt : (s.ring r).tail < 2 ^ 32) (hv : v < 2 ^ 32) : (s.pollRing rx r v).ring r = { s.ring r with tail := v } ∧ (s.pollRing rx r v).ringState r = 1 := by
  unfold State.pollRing
  dsimp only
  rw [if_neg (not_not_intro hst), if_pos (by rw [hk]; decide), if_neg (not_or.2 ⟨Nat.not_lt.2 hhead, Nat.not_lt.2 htail⟩)]
  split
  case isTrue h0 =>
    have same : (s.ring r).tail = v := by omega
    refine ⟨?_, hst⟩
    rw [← same]
  case isFalse =>
    rw [if_pos (show ({ s with hi := { s.hi with lastTail := some s.elapsed } } : State).ringKind r = 0 from hk)]
    exact ⟨State.ring_setRing_same _ _ _, hst⟩

/-- A running command ring whose TAIL is impossible halts. -/
theorem State.pollRing_halts {s : State} {r v : Nat} (rx : List (List (BitVec 32))) (hst : s.ringState r = 1) (hk : s.ringKind r = 0)
    (hhead : s.ringSize r < (v + 2 ^ 32 - (s.ring r).head) % 2 ^ 32) : s.pollRing rx r v = s.ringHalt r 1 := by
  unfold State.pollRing
  dsimp only
  rw [if_neg (not_not_intro hst), if_pos (by rw [hk]; decide), if_pos (.inl hhead)]

theorem State.ringHalt_shows (s : State) {r : Nat} (hr : r < 64) (err : Nat) :
    (s.ringHalt r err).ring r = s.ring r ∧ (s.ringHalt r err).ringState r = 3 ∧ (s.ringHalt r err).fld (F.HI_RSTAT_ERR r) = err % 8 := by
  have low {f g : Fld} (hg : g.addr = R.HI_RSTAT r) (hf : f.key < 0x20108 * 8) : f.key ≠ g.key := Nat.ne_of_lt (Nat.lt_of_lt_of_le hf (Fld.ring_ge (.inr hg)))
  have out {g : Fld} (hg : g.addr = R.HI_RSTAT r) (hlo : g.lo < 32) : outRl g = true := Fld.ring_outRl hr (.inr hg) hlo
  refine ⟨congrFun (State.ring_congr (congrArg HostIf.ring (s.ringHalt_hi r err))) r, ?_, ?_⟩
  · unfold State.ringState
    rw [State.ringHalt_fld _ _ _ (out rfl (lo_lt rfl)) (low rfl (by decide)) (low rfl (by decide)),
      State.fld_setFld_ne _ _ _ _ (by simp [Fld.key, F.HI_RSTAT_ERR, F.HI_RSTAT_STATE]), State.fld_setFld_same]
    rfl
  · rw [State.ringHalt_fld _ _ _ (out rfl (lo_lt rfl)) (low rfl (by decide)) (low rfl (by decide)), State.fld_setFld_same]
    rfl

/-! ### A poll (R379, R381, R382) -/

/-- The poll of every ring. -/
def State.pollRings (s : State) (tails : List (BitVec 32)) (rx : List (List (BitVec 32))) : State :=
  (List.range 64).foldl (fun (s : State) r => s.pollRing rx r (tails.getD r 0).toNat) s

theorem State.pollRings_polling (s : State) (tails : List (BitVec 32)) (rx : List (List (BitVec 32))) :
    (s.pollRings tails rx).hi.slowUntilRead = s.hi.slowUntilRead ∧ (s.pollRings tails rx).elapsed = s.elapsed
      ∧ (s.pollRings tails rx).fld F.HI_POLL_FAST_US = s.fld F.HI_POLL_FAST_US ∧ (s.pollRings tails rx).fld F.HI_POLL_SLOW_US = s.fld F.HI_POLL_SLOW_US := by
  unfold State.pollRings
  generalize List.range 64 = l
  induction l generalizing s with
  | nil => exact ⟨rfl, rfl, rfl, rfl⟩
  | cons r l ih =>
    obtain ⟨hslow, helapsed, hfast, hslowUs⟩ := s.pollRing_polling rx r (tails.getD r 0).toNat
    obtain ⟨hslow', helapsed', hfast', hslowUs'⟩ := ih (s.pollRing rx r (tails.getD r 0).toNat)
    exact ⟨hslow'.trans hslow, helapsed'.trans helapsed, hfast'.trans hfast, hslowUs'.trans hslowUs⟩

/-- After the poll of every ring, a ring shows what its own poll left. -/
theorem State.pollRings_at (s : State) (tails : List (BitVec 32)) (rx : List (List (BitVec 32))) {r : Nat} (hr : r < 64) :
    ∃ u : State, u.ringShows r = s.ringShows r ∧ (s.pollRings tails rx).ringShows r = (u.pollRing rx r (tails.getD r 0).toNat).ringShows r :=
  foldl_at (f := fun (s : State) r => s.pollRing rx r (tails.getD r 0).toNat) (fun t => t.ringShows r) List.nodup_range (List.mem_range.2 hr)
    (fun u _ hj => u.pollRing_ringShows rx _ hr hj) s

theorem State.nextPoll_shows (s : State) : s.nextPoll.hi.slowUntilRead = s.hi.slowUntilRead ∧ s.nextPoll.hi.ring = s.hi.ring
    ∧ s.nextPoll.fld F.HI_STATUS_FAST = b2n (s.hiActive && !s.hi.slowUntilRead)
    ∧ s.nextPoll.hi.nextPoll = s.elapsed + (if s.nextPoll.flag F.HI_STATUS_FAST then s.fld F.HI_POLL_FAST_US else s.fld F.HI_POLL_SLOW_US) * 1000
    ∧ FldsBut [F.HI_STATUS_FAST] s s.nextPoll := by
  have fast : s.nextPoll.flag F.HI_STATUS_FAST = (s.hiActive && !s.hi.slowUntilRead) :=
    (congrArg (fun n => decide (n = 1)) (State.fld_setFlag_same _ _ _ (by decide))).trans (by cases (s.hiActive && !s.hi.slowUntilRead) <;> rfl)
  refine ⟨rfl, rfl, State.fld_setFlag_same _ _ _ (by decide), ?_, fun g hg => State.fld_setFlag_ne _ _ _ _ (hg _ (List.mem_singleton.2 rfl))⟩
  rw [fast]
  rfl

theorem doorbellPoll_good {s : State} (tails : List (BitVec 32)) (rx : List (List (BitVec 32))) (fetch : Bool) (r : Fin 64) (hdue : s.hi.nextPoll ≤ s.elapsed)
    (h0 : s.mode ≠ 0) (h9 : s.mode ≠ 9) (hst : s.ringState r = 1) (hk : s.ringKind r = 0) :
    let v := (tails.getD r.val 0).toNat
    ∃ t, Sys2Proof.Machine.exec (.doorbellPoll tails rx 0 fetch) s = .next t ∧ t.hi.slowUntilRead = false
      ∧ t.hi.nextPoll = s.elapsed + (if t.flag F.HI_STATUS_FAST then s.fld F.HI_POLL_FAST_US else s.fld F.HI_POLL_SLOW_US) * 1000
      ∧ ((v + 2 ^ 32 - (s.ring r).head) % 2 ^ 32 ≤ s.ringSize r → (v + 2 ^ 32 - (s.ring r).tail) % 2 ^ 32 ≤ s.ringSize r →
          (s.ring r).tail < 2 ^ 32 → t.ring r = { s.ring r with tail := v } ∧ t.ringState r = 1)
      ∧ (s.ringSize r < (v + 2 ^ 32 - (s.ring r).head) % 2 ^ 32 → t.ring r = s.ring r ∧ t.ringState r = 3 ∧ t.fld (F.HI_RSTAT_ERR r) = 1) := by
  intro v
  obtain ⟨hslow, helapsed, hfast, hslowUs⟩ := State.pollRings_polling { s with hi := { s.hi with slowUntilRead := false } } tails rx
  obtain ⟨u, hu, hpolled⟩ := State.pollRings_at { s with hi := { s.hi with slowUntilRead := false } } tails rx r.isLt
  generalize hw : State.pollRings { s with hi := { s.hi with slowUntilRead := false } } tails rx = w at hslow helapsed hfast hslowUs hpolled
  obtain ⟨hnslow, hnring, -, hnext, hbut⟩ := w.nextPoll_shows
  obtain ⟨huring, hustate, hukind, husize⟩ : u.ring r = s.ring r ∧ u.ringState r = s.ringState r ∧ u.ringKind r = s.ringKind r ∧ u.ringSize r = s.ringSize r := by
    unfold State.ringShows at hu
    simp only [Prod.mk.injEq] at hu
    obtain ⟨h1, h2, -, h4, h5⟩ := hu
    exact ⟨h1, h2, h4, congrArg (2 ^ ·) h5⟩
  have shown : w.nextPoll.ring r = (u.pollRing rx r v).ring r ∧ w.nextPoll.ringState r = (u.pollRing rx r v).ringState r
      ∧ w.nextPoll.fld (F.HI_RSTAT_ERR r) = (u.pollRing rx r v).fld (F.HI_RSTAT_ERR r) := by
    have low {g : Fld} (hg : g.addr = R.HI_RSTAT r) : ∀ f ∈ [F.HI_STATUS_FAST], f.key ≠ g.key := fun f hf =>
      Nat.ne_of_lt (Nat.lt_of_lt_of_le (by rw [List.mem_singleton.1 hf]; decide) (Fld.ring_ge (.inr hg)))
    unfold State.ringShows at hpolled
    simp only [Prod.mk.injEq] at hpolled
    obtain ⟨h1, h2, h3, -, -⟩ := hpolled
    exact ⟨(congrFun (State.ring_congr hnring) _).trans h1, (hbut _ (low rfl)).trans h2, (hbut _ (low rfl)).trans h3⟩
  obtain ⟨hring, hstate, herr⟩ := shown
  refine ⟨w.nextPoll, ?_, hnslow.trans hslow, ?_, fun hhead htail hlt => ?_, fun hhead => ?_⟩
  · show Host.Outcome.next _ = _
    rw [if_neg (by simp [h0, h9, Nat.not_lt.2 hdue]), if_neg (by decide), ← hw]
    rfl
  · rw [hnext, helapsed, hfast, hslowUs]
    rfl
  · rw [← huring, ← husize] at hhead htail
    rw [← huring] at hlt
    obtain ⟨hr', hs'⟩ := State.pollRing_takes rx (hustate.trans hst) (hukind.trans hk) hhead htail hlt (BitVec.isLt _)
    exact ⟨hring.trans (hr'.trans (by rw [huring])), hstate.trans hs'⟩
  · rw [← huring, ← husize] at hhead
    have halts := State.pollRing_halts rx (hustate.trans hst) (hukind.trans hk) hhead
    obtain ⟨hr', hs', he'⟩ := u.ringHalt_shows r.isLt 1
    rw [hring, hstate, herr, halts]
    exact ⟨hr'.trans huring, hs', he'⟩

end Sys2Proof.Machine
end

section
/-! ## The configuration, messages, records and resets of the host interface (R375-R384, R402, R404, R405, R463) -/
namespace Sys2Proof.Machine

-- One declaration is checked at a time, so that the text with all its files is checked in bounded memory.
set_option Elab.async false

/-! ### A failed poll, a nudge and an idle interface (R381, R382) -/

theorem State.pcieErr_shows (s : State) {kind : Nat} (source ring addr : Nat) (hk : kind < 8) : (s.pcieErr kind source ring addr).hi.ring = s.hi.ring
    ∧ (s.pcieErr kind source ring addr).elapsed = s.elapsed ∧ (s.pcieErr kind source ring addr).fld F.HI_PCIE_ERR_KIND = kind
    ∧ (s.pcieErr kind source ring addr).fld F.HI_EVENT_PCIE_ERR = 1 ∧ (s.pcieErr kind source ring addr).fld F.HI_POLL_SLOW_US = s.fld F.HI_POLL_SLOW_US := by
  generalize hu : ((((s.incS F.HI_PCIE_ERR_COUNT 1).setFld F.HI_PCIE_ERR_KIND kind).setFld F.HI_PCIE_ERR_SOURCE source).setFld F.HI_PCIE_ERR_RING ring).setFlag
    F.HI_EVENT_PCIE_ERR true = u
  have hhi : u.hi = s.hi := by
    rw [← hu]
    simp only [State.setFlag_keeps, State.setFld_keeps, State.incS_hi]
  have helapsed : u.elapsed = s.elapsed := by
    rw [← hu]
    simp only [State.setFlag_keeps, State.setFld_keeps, State.incS_keeps]
  have hkind : u.fld F.HI_PCIE_ERR_KIND = kind := by
    rw [← hu, State.fld_setFlag_ne _ _ _ _ (by decide), State.fld_setFld_ne _ _ _ _ (by decide), State.fld_setFld_ne _ _ _ _ (by decide), State.fld_setFld_same]
    exact Nat.mod_eq_of_lt hk
  have hevent : u.fld F.HI_EVENT_PCIE_ERR = 1 := by
    rw [← hu, State.fld_setFlag_same _ _ _ (by decide)]
    rfl
  have hslow : u.fld F.HI_POLL_SLOW_US = s.fld F.HI_POLL_SLOW_US := by
    rw [← hu, State.fld_setFlag_ne _ _ _ _ (by decide), State.fld_setFld_ne _ _ _ _ (by decide), State.fld_setFld_ne _ _ _ _ (by decide),
      State.fld_setFld_ne _ _ _ _ (by decide), State.fld_incS_ne _ _ _ _ rfl (by decide)]
  have warned (again : Bool) : let w := (if again then u else ({ u with hi := { u.hi with lastPcieWarn := some u.elapsed } } : State).raise .warn 0x02 ring 0x0003
          (kind + 8 * source) (addr % 2 ^ 32) (addr / 2 ^ 32))
      w.hi.ring = s.hi.ring ∧ w.elapsed = s.elapsed ∧ w.fld F.HI_PCIE_ERR_KIND = kind ∧ w.fld F.HI_EVENT_PCIE_ERR = 1
        ∧ w.fld F.HI_POLL_SLOW_US = s.fld F.HI_POLL_SLOW_US := by
    cases again with
    | true => exact ⟨congrArg HostIf.ring hhi, helapsed, hkind, hevent, hslow⟩
    | false =>
      have raised {g : Fld} (hg : outRl g = true) :
          (({ u with hi := { u.hi with lastPcieWarn := some u.elapsed } } : State).raise .warn 0x02 ring 0x0003 (kind + 8 * source) (addr % 2 ^ 32) (addr / 2 ^ 32)).fld g
            = u.fld g := State.fld_raise _ _ _ _ _ _ _ _ _ hg (.inr (.inr (.inl rfl)))
      refine ⟨?_, ((State.raise_fr _ _ _ _ _ _ _ _ (.refl _)).elapsed rfl).trans helapsed, (raised rfl).trans hkind, (raised rfl).trans hevent,
        (raised rfl).trans hslow⟩
      rw [if_neg Bool.false_ne_true, State.raise_hi]
      exact (congrArg HostIf.ring hhi : u.hi.ring = s.hi.ring)
  unfold State.pcieErr
  dsimp only
  rw [hu]
  exact warned _

theorem doorbellPoll_failed {s : State} (tails : List (BitVec 32)) (rx : List (List (BitVec 32))) {k : Fin 5} (fetch : Bool) (hdue : s.hi.nextPoll ≤ s.elapsed)
    (h0 : s.mode ≠ 0) (h9 : s.mode ≠ 9) (hk : k ≠ 0) : ∃ t, Sys2Proof.Machine.exec (.doorbellPoll tails rx k fetch) s = .next t ∧ t.hi.slowUntilRead = true
      ∧ t.hi.ring = s.hi.ring ∧ t.fld F.HI_PCIE_ERR_KIND = k.val ∧ t.fld F.HI_EVENT_PCIE_ERR = 1 ∧ t.fld F.HI_STATUS_FAST = 0
      ∧ t.hi.nextPoll = s.elapsed + s.fld F.HI_POLL_SLOW_US * 1000 := by
  obtain ⟨hring, helapsed, hkind, hevent, hslow⟩ := s.pcieErr_shows (b2n fetch) 0 (s.fld F.HI_DB_LO_ADDR * 256 + s.fld F.HI_DB_HI_ADDR * 2 ^ 32) (kind := k.val) (by omega)
  generalize hw : s.pcieErr k.val (b2n fetch) 0 (s.fld F.HI_DB_LO_ADDR * 256 + s.fld F.HI_DB_HI_ADDR * 2 ^ 32) = w at hring helapsed hkind hevent hslow
  generalize hv : ({ w with hi := { w.hi with slowUntilRead := true } } : State) = v
  have vslow : v.hi.slowUntilRead = true := hv ▸ rfl
  obtain ⟨hnslow, hnring, hfast, hnext, hbut⟩ := v.nextPoll_shows
  rw [vslow, Bool.not_true, Bool.and_false] at hfast
  have keep {g : Fld} (hne : F.HI_STATUS_FAST.key ≠ g.key) : v.nextPoll.fld g = w.fld g :=
    (hbut _ fun f hf => List.mem_singleton.1 hf ▸ hne).trans (by rw [← hv]; rfl)
  have nonzero : k.val ≠ 0 := fun h => hk (Fin.ext h)
  refine ⟨v.nextPoll, ?_, hnslow.trans vslow, hnring.trans ?_, (keep (by decide)).trans hkind, (keep (by decide)).trans hevent, hfast, ?_⟩
  · show Host.Outcome.next _ = _
    rw [if_neg (by simp [h0, h9, Nat.not_lt.2 hdue]), if_pos nonzero, ← hv, ← hw]
  · rw [← hv]
    exact hring
  · have notFast : v.nextPoll.flag F.HI_STATUS_FAST = false := by
      unfold State.flag
      rw [hfast]
      rfl
    rw [hnext, notFast, if_neg (by decide), ← hv]
    show w.elapsed + w.fld F.HI_POLL_SLOW_US * 1000 = _
    rw [helapsed, hslow]

/-! ### The configuration of a ring (R377, R378, R384) -/

/-- The fields of a ring's configuration as a write of EN, KIND, SIZE_LOG2 and its message settings leaves them. -/
def State.setRcfg (s : State) (r kind size v : Nat) : State :=
  let s := ((s.setFlag (F.HI_RCFG_EN r) (bit v 0)).setFld (F.HI_RCFG_KIND r) kind).setFld (F.HI_RCFG_SIZE_LOG2 r) size
  let s := (s.setFld (F.HI_RCFG_VEC r) (bits v 8 6)).setFld (F.HI_RCFG_MOD r) (bits v 14 4)
  s.setFlag (F.HI_RCFG_IRQ_EN r) (bit v 18)

theorem State.setRcfg_shows (s : State) (r : Nat) {kind size : Nat} (v : Nat) (hk : kind < 4) (hs : size < 32) :
    (s.setRcfg r kind size v).fld (F.HI_RCFG_EN r) = b2n (bit v 0) ∧ (s.setRcfg r kind size v).ringKind r = kind
      ∧ (s.setRcfg r kind size v).fld (F.HI_RCFG_SIZE_LOG2 r) = size ∧ (s.setRcfg r kind size v).ringState r = s.ringState r
      ∧ (s.setRcfg r kind size v).hi = s.hi ∧ (s.setRcfg r kind size v).out = s.out := by
  have ne (f g : Fld) (hf : f.addr = R.HI_RCFG r) (hg : g.addr = R.HI_RCFG r) (h : f.lo ≠ g.lo) : f.key ≠ g.key := by
    simp only [Fld.key, hf, hg]
    omega
  have state {f : Fld} (hf : f.addr = R.HI_RCFG r) (hlo : f.lo < 32) : f.key ≠ (F.HI_RSTAT_STATE r).key := by
    simp only [Fld.key, hf, F.HI_RSTAT_STATE, R.HI_RCFG, R.HI_RSTAT]
    omega
  unfold State.setRcfg State.ringKind State.ringState
  dsimp only
  refine ⟨?_, ?_, ?_, ?_, rfl, rfl⟩
  · rw [State.fld_setFlag_ne _ _ _ _ (ne _ _ rfl rfl (by simp [F.HI_RCFG_IRQ_EN, F.HI_RCFG_EN])), State.fld_setFld_ne _ _ _ _ (ne _ _ rfl rfl (by simp [F.HI_RCFG_MOD, F.HI_RCFG_EN])),
      State.fld_setFld_ne _ _ _ _ (ne _ _ rfl rfl (by simp [F.HI_RCFG_VEC, F.HI_RCFG_EN])), State.fld_setFld_ne _ _ _ _ (ne _ _ rfl rfl (by simp [F.HI_RCFG_SIZE_LOG2, F.HI_RCFG_EN])),
      State.fld_setFld_ne _ _ _ _ (ne _ _ rfl rfl (by simp [F.HI_RCFG_KIND, F.HI_RCFG_EN])), State.fld_setFlag_same _ _ _ Nat.one_pos]
  · rw [State.fld_setFlag_ne _ _ _ _ (ne _ _ rfl rfl (by simp [F.HI_RCFG_IRQ_EN, F.HI_RCFG_KIND])), State.fld_setFld_ne _ _ _ _ (ne _ _ rfl rfl (by simp [F.HI_RCFG_MOD, F.HI_RCFG_KIND])),
      State.fld_setFld_ne _ _ _ _ (ne _ _ rfl rfl (by simp [F.HI_RCFG_VEC, F.HI_RCFG_KIND])), State.fld_setFld_ne _ _ _ _ (ne _ _ rfl rfl (by simp [F.HI_RCFG_SIZE_LOG2, F.HI_RCFG_KIND])),
      State.fld_setFld_same]
    exact Nat.mod_eq_of_lt hk
  · rw [State.fld_setFlag_ne _ _ _ _ (ne _ _ rfl rfl (by simp [F.HI_RCFG_IRQ_EN, F.HI_RCFG_SIZE_LOG2])), State.fld_setFld_ne _ _ _ _ (ne _ _ rfl rfl (by simp [F.HI_RCFG_MOD, F.HI_RCFG_SIZE_LOG2])),
      State.fld_setFld_ne _ _ _ _ (ne _ _ rfl rfl (by simp [F.HI_RCFG_VEC, F.HI_RCFG_SIZE_LOG2])), State.fld_setFld_same]
    exact Nat.mod_eq_of_lt hs
  · rw [State.fld_setFlag_ne _ _ _ _ (state rfl (lo_lt rfl)), State.fld_setFld_ne _ _ _ _ (state rfl (lo_lt rfl)), State.fld_setFld_ne _ _ _ _ (state rfl (lo_lt rfl)),
      State.fld_setFld_ne _ _ _ _ (state rfl (lo_lt rfl)), State.fld_setFld_ne _ _ _ _ (state rfl (lo_lt rfl)), State.fld_setFlag_ne _ _ _ _ (state rfl (lo_lt rfl))]

/-- A write of a ring's configuration whose SIZE_LOG2 fits its KIND and that no rule refuses. -/
theorem State.rcfgWrite_eq {s : State} {r v : Nat} (hok : ringSizeOk (bits v 1 2) (bits v 3 5) = true)
    (hfree : s.ringState r = 0 → bit v 0 = true → bits v 1 2 = 0 ∨ ∀ q, q < 64 → q ≠ r → s.ringState q ≠ 0 → s.ringKind q ≠ bits v 1 2)
    (hsame : s.ringState r ≠ 0 → bit v 0 = false ∧ bits v 1 2 = s.ringKind r ∧ bits v 3 5 = s.fld (F.HI_RCFG_SIZE_LOG2 r)) :
    s.rcfgWrite r v = (let u := s.setRcfg r (bits v 1 2) (bits v 3 5) v
      if bit v 0 ∧ s.ringState r = 0 then u.ringStart r else if bit v 0 = false ∧ s.ringState r ≠ 0 ∧ s.ringState r ≠ 2 then u.ringStop r else u) := by
  unfold State.rcfgWrite
  dsimp only
  rw [hok]
  simp only [if_true]
  rw [if_neg]
  · rfl
  · rintro (⟨hst, h⟩ | ⟨hst, hen, h⟩)
    · obtain ⟨hen, hkind, hsize⟩ := hsame hst
      rw [hen, hkind, hsize] at h
      simp at h
    · simp only [Bool.and_eq_true, decide_eq_true_eq, List.any_eq_true, List.mem_range] at h
      obtain ⟨hne, q, hq, ⟨hqr, hqs⟩, hqk⟩ := h
      rcases hfree hst hen with h0 | hall
      · exact hne h0
      · exact hall q hq hqr hqs hqk

theorem State.ringStart_shows (s : State) {r : Nat} : (s.ringStart r).ringState r = 1 ∧ (s.ringStart r).fld (F.HI_RSTAT_ERR r) = 0
    ∧ (s.ringStart r).ring r = { RingSt.init with gen := (s.ring r).gen + 1 } ∧ (s.ringStart r).out = .head r 0 :: s.out
    ∧ (∀ q, q ≠ r → (s.ringStart r).ring q = s.ring q) ∧ ∀ g : Fld, g.addr = R.HI_RCFG r → g.lo < 32 → (s.ringStart r).fld g = s.fld g := by
  have clear (u : State) (p : Prop) [Decidable p] : (if p then ({ u with hi := { u.hi with bufs := [] } } : State) else u).hi.ring = u.hi.ring
      ∧ (if p then ({ u with hi := { u.hi with bufs := [] } } : State) else u).out = u.out ∧ (if p then ({ u with hi := { u.hi with bufs := [] } } : State) else u).regs = u.regs := by
    split <;> exact ⟨rfl, rfl, rfl⟩
  have ne : (F.HI_RSTAT_ERR r).key ≠ (F.HI_RSTAT_STATE r).key := by simp [Fld.key, F.HI_RSTAT_ERR, F.HI_RSTAT_STATE]
  unfold State.ringStart State.ringState
  dsimp only
  generalize hv : s.setRing r { RingSt.init with gen := (s.ring r).gen + 1 } = v
  obtain ⟨hring, hout, hregs⟩ := clear v (v.ringKind r = 1)
  have rings : ((((if v.ringKind r = 1 then ({ v with hi := { v.hi with bufs := [] } } : State) else v).emit (.head r 0)).setFld (F.HI_RSTAT_STATE r) 1).setFld
      (F.HI_RSTAT_ERR r) 0).ring = v.ring := State.ring_congr hring
  refine ⟨?_, State.fld_setFld_same _ _ _, ?_, ?_, fun q hq => ?_, fun g hg hlo => ?_⟩
  · rw [State.fld_setFld_ne _ _ _ _ ne, State.fld_setFld_same]
    rfl
  · rw [rings, ← hv, State.ring_setRing_same]
  · show Out.head r 0 :: (if v.ringKind r = 1 then ({ v with hi := { v.hi with bufs := [] } } : State) else v).out = _
    rw [hout, ← hv]
    rfl
  · rw [rings, ← hv, State.ring_setRing_ne _ _ hq]
  · have away {f : Fld} (hf : f.addr = R.HI_RSTAT r) (hfl : f.lo < 32) : f.key ≠ g.key := by
      simp only [Fld.key, hf, hg, R.HI_RCFG, R.HI_RSTAT]
      omega
    rw [State.fld_setFld_ne _ _ _ _ (away rfl (lo_lt rfl)), State.fld_setFld_ne _ _ _ _ (away rfl (lo_lt rfl))]
    refine (congrFun (State.fld_congr (hregs.trans ?_)) g)
    rw [← hv]
    rfl

theorem hiRcfgWrite_starts {s : State} {r : Fin 64} {v : BitVec 32} (hok : ringSizeOk (bits v.toNat 1 2) (bits v.toNat 3 5) = true) (hst : s.ringState r = 0)
    (hen : bit v.toNat 0 = true) (hfree : bits v.toNat 1 2 = 0 ∨ ∀ q, q < 64 → q ≠ r.val → s.ringState q ≠ 0 → s.ringKind q ≠ bits v.toNat 1 2) :
    ∃ t, Sys2Proof.Machine.exec (.hiRcfgWrite r v) s = .next t ∧ t.ringState r = 1 ∧ t.fld (F.HI_RSTAT_ERR r) = 0
      ∧ t.ring r = { RingSt.init with gen := (s.ring r).gen + 1 } ∧ t.out = .head r 0 :: s.out ∧ t.ringKind r = bits v.toNat 1 2
      ∧ t.fld (F.HI_RCFG_SIZE_LOG2 r) = bits v.toNat 3 5 ∧ t.fld (F.HI_RCFG_EN r) = 1 ∧ ∀ q, q ≠ r.val → t.ring q = s.ring q := by
  obtain ⟨hren, hrkind, hrsize, -, hrhi, hrout⟩ := s.setRcfg_shows r.val v.toNat (kind := bits v.toNat 1 2) (size := bits v.toNat 3 5)
    (Nat.mod_lt _ (by decide)) (Nat.mod_lt _ (by decide))
  generalize hu : s.setRcfg r.val (bits v.toNat 1 2) (bits v.toNat 3 5) v.toNat = u at hren hrkind hrsize hrhi hrout
  obtain ⟨hstate, herr, hring, hout, hothers, hflds⟩ := u.ringStart_shows (r := r.val)
  have hu_ring : u.ring = s.ring := State.ring_congr (congrArg HostIf.ring hrhi)
  refine ⟨u.ringStart r, ?_, hstate, herr, ?_, ?_, ?_, ?_, ?_, fun q hq => ?_⟩
  · refine congrArg Host.Outcome.next ((State.rcfgWrite_eq hok (fun _ _ => hfree) fun h => absurd hst h).trans ?_)
    rw [hu]
    exact if_pos ⟨hen, hst⟩
  · rw [hring, hu_ring]
  · rw [hout, hrout]
  · exact (hflds _ rfl (lo_lt rfl)).trans hrkind
  · exact (hflds _ rfl (lo_lt rfl)).trans hrsize
  · rw [hflds _ rfl (lo_lt rfl), hren, hen]
    rfl
  · rw [hothers q hq, hu_ring]

theorem hiRcfgWrite_stops {s : State} {r : Fin 64} {v : BitVec 32} (hst : s.ringState r = 1) (hen : bit v.toNat 0 = false) (hkind : bits v.toNat 1 2 = s.ringKind r)
    (hsize : bits v.toNat 3 5 = s.fld (F.HI_RCFG_SIZE_LOG2 r)) (hok : ringSizeOk (bits v.toNat 1 2) (bits v.toNat 3 5) = true) :
    ∃ t, Sys2Proof.Machine.exec (.hiRcfgWrite r v) s = .next t ∧ t.fld (F.HI_RCFG_EN r) = 0 ∧ t.hi.ring = s.hi.ring
      ∧ t.ringState r = if s.ringKind r = 0 ∧ s.ringBusy r = true then 2 else 0 := by
  obtain ⟨hren, hrkind, -, -, hrhi, -⟩ := s.setRcfg_shows r.val v.toNat (kind := bits v.toNat 1 2) (size := bits v.toNat 3 5)
    (Nat.mod_lt _ (by decide)) (Nat.mod_lt _ (by decide))
  generalize hu : s.setRcfg r.val (bits v.toNat 1 2) (bits v.toNat 3 5) v.toNat = u at hren hrkind hrhi
  have busy : u.ringBusy r = s.ringBusy r := by
    unfold State.ringBusy State.ring
    rw [hrhi]
  have en (w : State) (x : Nat) : (w.setFld (F.HI_RSTAT_STATE r.val) x).fld (F.HI_RCFG_EN r.val) = w.fld (F.HI_RCFG_EN r.val) :=
    State.fld_setFld_ne _ _ _ _ (by simp only [Fld.key, F.HI_RSTAT_STATE, F.HI_RCFG_EN, R.HI_RSTAT, R.HI_RCFG]; omega)
  refine ⟨u.ringStop r, ?_, ?_⟩
  · refine congrArg Host.Outcome.next ((State.rcfgWrite_eq hok (fun h => absurd (hst.symm.trans h) (by decide)) fun _ => ⟨hen, hkind, hsize⟩).trans ?_)
    rw [hu]
    dsimp only
    rw [if_neg (by simp [hen]), if_pos ⟨hen, by rw [hst]; decide, by rw [hst]; decide⟩]
  · unfold State.ringStop State.ringState
    rw [busy, hrkind, hkind]
    dsimp only
    split
    case isTrue hk =>
      refine ⟨(en _ _).trans (hren.trans (by rw [hen]; rfl)), congrArg HostIf.ring hrhi, ?_⟩
      rw [State.fld_setFld_same]
      cases s.ringBusy r <;> simp [hk, F.HI_RSTAT_STATE]
    case isFalse hk =>
      rw [en, State.fld_setFld_same]
      refine ⟨?_, ?_, (if_neg fun h => hk h.1).symm⟩
      · split <;> exact hren.trans (by rw [hen]; rfl)
      · split <;> exact (congrArg HostIf.ring hrhi : u.hi.ring = s.hi.ring)

/-! ### Messages (R383) -/

theorem State.sendMsix_shows (s : State) (v : Nat) : (s.sendMsix v).regs = s.regs ∧ (s.sendMsix v).hi.ring = s.hi.ring
    ∧ (s.vecMasked v = false → (s.sendMsix v).out = .msix v :: s.out) ∧ (s.vecMasked v = true → (s.sendMsix v).out = s.out ∧ v ∈ (s.sendMsix v).hi.msixPend) := by
  unfold State.sendMsix
  split
  case isTrue h =>
    refine ⟨rfl, rfl, fun h' => absurd (h.symm.trans h') (by decide), fun _ => ⟨rfl, ?_⟩⟩
    dsimp only
    split
    · assumption
    · exact List.mem_cons_self ..
  case isFalse h => exact ⟨rfl, rfl, fun _ => rfl, fun h' => absurd h' h⟩

theorem interruptModerationTimer_shows {s : State} {r : Fin 64} (hen : s.flag (F.HI_RCFG_IRQ_EN r) = true) (hsince : 0 < (s.ring r).since)
    (hdue : (s.ring r).firstAt + s.fld (F.HI_MOD_US (s.fld (F.HI_RCFG_MOD r))) * 1000 ≤ s.elapsed) :
    ∃ t, Sys2Proof.Machine.exec (.interruptModerationTimer r) s = .next t ∧ t.ring r = { s.ring r with since := 0 } ∧ t.regs = s.regs
      ∧ (s.vecMasked (s.fld (F.HI_RCFG_VEC r)) = false → t.out = .msix (s.fld (F.HI_RCFG_VEC r)) :: s.out)
      ∧ (s.vecMasked (s.fld (F.HI_RCFG_VEC r)) = true → t.out = s.out ∧ s.fld (F.HI_RCFG_VEC r) ∈ t.hi.msixPend) := by
  obtain ⟨hregs, hring, hsent, hheld⟩ := (s.setRing r.val { s.ring r with since := 0 }).sendMsix_shows (s.fld (F.HI_RCFG_VEC r))
  refine ⟨_, congrArg Host.Outcome.next (if_pos ⟨hen, hsince, hdue⟩), ?_, hregs, hsent, hheld⟩
  rw [State.ring_congr hring, State.ring_setRing_same]

theorem msixUnmask_shows (s : State) (v : Fin 64) : ∃ t, Sys2Proof.Machine.exec (.msixUnmask v) s = .next t ∧ t.vecMasked v = false ∧ v.val ∉ t.hi.msixPend
    ∧ t.out = if v.val ∈ s.hi.msixPend then .msix v :: s.out else s.out := by
  generalize hu : ({ s with hi := { s.hi with
    msix := mput s.hi.msix (4 * v.val + 3) (setBits (mget 1 s.hi.msix (4 * v.val + 3)) 0 1 0)
    msixPend := s.hi.msixPend.filter (· ≠ v.val) } } : State) = u
  have unmasked : u.vecMasked v = false := by
    unfold State.vecMasked
    rw [← hu, mget_mput_same, bit_eq_testBit]
    exact (testBit_setBits_one _ 0 0 false).trans (if_pos rfl)
  have gone : v.val ∉ u.hi.msixPend := by
    rw [← hu]
    exact fun h => of_decide_eq_true (List.mem_filter.1 h).2 rfl
  have hout : u.out = s.out := hu ▸ rfl
  refine ⟨if s.hi.msixPend.contains v.val then u.emit (.msix v.val) else u, ?_, ?_⟩
  · rw [← hu]
    rfl
  · by_cases h : v.val ∈ s.hi.msixPend
    · rw [if_pos (List.contains_iff_mem.2 h), if_pos h, ← hout]
      exact ⟨unmasked, gone, rfl⟩
    · rw [if_neg (fun h' => h (List.contains_iff_mem.1 h')), if_neg h]
      exact ⟨unmasked, gone, hout⟩

/-! ### Records (R402, R463, R464) -/

/-- The summary of the lost records of one class, once the FIFO has room for it. -/
def State.lossSummary (s : State) (i : Nat) : State :=
  let p := mget (0, 0) s.rl.lost i
  if p.1 = 0 ∨ s.rl.fifo.length ≥ 64 then s
  else
    let e : Report := ⟨clsOf i, 0x06, 0, 0x0108, min p.1 65535, p.2, 0, 0, 0, false, true⟩
    { s with rl := { s.rl with fifo := s.rl.fifo ++ [e], lost := mdel s.rl.lost i } }

theorem State.lossSummary_fifo (s : State) (i : Nat) : ∃ l, (s.lossSummary i).rl.fifo = s.rl.fifo ++ l := by
  unfold State.lossSummary
  dsimp only
  split
  · exact ⟨[], (List.append_nil _).symm⟩
  · exact ⟨_, rfl⟩

theorem State.foldl_lossSummary_fifo (is : List Nat) (s : State) : ∃ l, (is.foldl State.lossSummary s).rl.fifo = s.rl.fifo ++ l := by
  induction is generalizing s with
  | nil => exact ⟨[], (List.append_nil _).symm⟩
  | cons i is ih =>
    obtain ⟨a, ha⟩ := s.lossSummary_fifo i
    obtain ⟨b, hb⟩ := ih (s.lossSummary i)
    exact ⟨a ++ b, hb.trans (by rw [ha, List.append_assoc])⟩

/-- The flag LOSING falls when no lost record waits for its summary. -/
def State.lossFlag (s : State) : State := if s.rl.lost = [] then s.setFlag F.RL_STATUS_LOSING false else s

theorem State.lossFlag_fifo (s : State) : s.lossFlag.rl.fifo = s.rl.fifo := by
  unfold State.lossFlag
  split <;> rfl

theorem State.lossSummaries_eq (s : State) : s.lossSummaries = ((List.range 5).foldl State.lossSummary s).lossFlag := by
  unfold State.lossSummaries
  generalize List.range 5 = is
  rfl

/-- The loss summaries are appended to the waiting entries. -/
theorem State.lossSummaries_fifo (s : State) : ∃ l, s.lossSummaries.rl.fifo = s.rl.fifo ++ l := by
  rw [State.lossSummaries_eq, State.lossFlag_fifo]
  exact State.foldl_lossSummary_fifo _ s

theorem State.moderate_shows (s : State) (r : Nat) : ∃ m, (s.moderate r).out = m ++ s.out ∧ ((s.moderate r).ring r).head = (s.ring r).head
    ∧ (s.moderate r).rl = s.rl := by
  have hrl : (s.moderate r).rl = s.rl := (State.moderate_fr _ _ (.refl _)).rl rfl
  have sent (u : State) (v : Nat) : ∃ m, (u.sendMsix v).out = m ++ u.out := by
    obtain ⟨-, -, hsent, hheld⟩ := u.sendMsix_shows v
    cases hm : u.vecMasked v
    · exact ⟨[_], hsent hm⟩
    · exact ⟨[], (hheld hm).1⟩
  unfold State.moderate at hrl ⊢
  split
  case isTrue hirq =>
    dsimp only
    split
    · obtain ⟨m, hm⟩ := sent (s.setRing r { s.ring r with since := 0 }) (s.fld (F.HI_RCFG_VEC r))
      obtain ⟨-, hring, -, -⟩ := (s.setRing r { s.ring r with since := 0 }).sendMsix_shows (s.fld (F.HI_RCFG_VEC r))
      refine ⟨m, hm, ?_, (State.sendMsix_fr _ _ (.refl _)).rl rfl⟩
      rw [State.ring_congr hring, State.ring_setRing_same]
    · refine ⟨[], rfl, ?_, rfl⟩
      rw [State.ring_setRing_same]
  case isFalse => exact ⟨[], rfl, rfl, rfl⟩

theorem State.ringEntry_shows (s : State) (r : Nat) (words : List Nat) : ∃ m, (s.ringEntry r words).out = m ++ .head r (((s.ring r).head + 1) % 2 ^ 32)
      :: .entry r (s.ring r).head (setBits (nth words 0) 31 1 (b2n (decide ((s.ring r).head / s.ringSize r % 2 = 0))) :: words.drop 1) :: s.out
    ∧ ((s.ringEntry r words).ring r).head = ((s.ring r).head + 1) % 2 ^ 32 ∧ (s.ringEntry r words).rl = s.rl := by
  unfold State.ringEntry
  dsimp only
  generalize hu : ((s.emit (.entry r (s.ring r).head (setBits (nth words 0) 31 1 (b2n (decide ((s.ring r).head / s.ringSize r % 2 = 0))) :: words.drop 1))).setRing r
    { s.ring r with head := ((s.ring r).head + 1) % 2 ^ 32 }).emit (.head r (((s.ring r).head + 1) % 2 ^ 32)) = u
  obtain ⟨m, hout, hhead, hrl⟩ := u.moderate_shows r
  refine ⟨m, ?_, ?_, ?_⟩
  · rw [hout, ← hu]
    rfl
  · rw [hhead, ← hu]
    exact congrArg RingSt.head (mget_mset_same ..)
  · rw [hrl, ← hu]
    rfl

theorem reportRecordWrite_shows {s : State} {err : Bool} {r : Nat} {e : Report} (hr : s.runningRing (if err then 3 else 2) = some r)
    (he : s.rl.fifo.find? (fun e => e.cls.toErrorLog = err) = some e) (hroom : s.ringRoom r = true) :
    ∃ t m l, Sys2Proof.Machine.exec (.reportRecordWrite err) s = .next t ∧ t.rl.fifo = s.rl.fifo.erase e ++ l
      ∧ t.out = m ++ .head r (((s.ring r).head + 1) % 2 ^ 32)
          :: .entry r (s.ring r).head (setBits (nth e.words 0) 31 1 (b2n (decide ((s.ring r).head / s.ringSize r % 2 = 0))) :: e.words.drop 1) :: s.out
      ∧ (t.ring r).head = ((s.ring r).head + 1) % 2 ^ 32 := by
  obtain ⟨m, hout, hhead, hrl⟩ := State.ringEntry_shows { s with rl := { s.rl with fifo := s.rl.fifo.erase e } } r e.words
  generalize hw : State.ringEntry { s with rl := { s.rl with fifo := s.rl.fifo.erase e } } r e.words = w at hout hhead hrl
  obtain ⟨l, hl⟩ := w.lossSummaries_fifo
  refine ⟨w.lossSummaries, m, l, ?_, hl.trans (by rw [hrl]), ((State.lossSummaries_fr _ (.refl _)).out rfl).trans hout, ?_⟩
  · show Host.Outcome.next (s.writeReport err) = _
    unfold State.writeReport
    rw [hr, he]
    dsimp only
    rw [if_pos hroom, hw]
  · rw [State.ring_congr (congrArg HostIf.ring ((State.lossSummaries_fr _ (.refl _)).hi rfl))]
    exact hhead

/-! ### The reset of the interface (R376, R404) -/

theorem State.hostReset_hi (s : State) (cause : Nat) : (s.hostReset cause).hi = (s.hiClear (cause < 4)).hi := by
  have ite {p : Prop} [Decidable p] {u v : State} {x : HostIf} (hu : u.hi = x) (hv : v.hi = x) : (if p then u else v).hi = x := by split <;> assumption
  have mail (u : State) : u.mailboxHostReset.hi = u.hi := (State.mailboxHostReset_fr _ (.refl _)).hi rfl
  unfold State.hostReset
  dsimp only
  rw [State.raise_hi]
  have h1 : ((s.hiClear (cause < 4)).mailboxHostReset.incW F.HI_PCIE_STAT_HOST_RESETS 1).hi = (s.hiClear (cause < 4)).hi := mail _
  generalize (s.hiClear (cause < 4)).mailboxHostReset.incW F.HI_PCIE_STAT_HOST_RESETS 1 = v at h1 ⊢
  have h2 : (if 1 ≤ cause ∧ cause ≤ 3 then ((v.setFlag F.HI_PCIE_STAT_LINK_UP false).setFld F.HI_PCIE_STAT_SPEED 0).setFld F.HI_PCIE_STAT_WIDTH 0 else v).hi
      = (s.hiClear (cause < 4)).hi := ite h1 h1
  generalize (if 1 ≤ cause ∧ cause ≤ 3 then ((v.setFlag F.HI_PCIE_STAT_LINK_UP false).setFld F.HI_PCIE_STAT_SPEED 0).setFld F.HI_PCIE_STAT_WIDTH 0 else v) = w at h2 ⊢
  have h3 : (if cause < 4 ∨ cause = 5 then w.setFlag F.HI_PCIE_STAT_BME false else w).hi = (s.hiClear (cause < 4)).hi := ite h2 h2
  generalize (if cause < 4 ∨ cause = 5 then w.setFlag F.HI_PCIE_STAT_BME false else w) = x at h3 ⊢
  exact ite h3 (ite h3 h3)

theorem hostReset_shows (s : State) (k : Nat) : (∀ r, r < 64 → (s.hostReset k).ringState r = 0 ∧ (s.hostReset k).fld (F.HI_RCFG_EN r) = 0)
    ∧ (s.hostReset k).hi.bufs = [] ∧ (s.hostReset k).hi.jobs = s.hi.jobs ∧ (s.hostReset k).fld F.HI_EVENT_HOST_RESET = 1
    ∧ (s.hostReset k).fld F.HI_PCIE_STAT_HOST_RESETS = (s.fld F.HI_PCIE_STAT_HOST_RESETS + 1) % 2 ^ 8
    ∧ (1 ≤ k ∧ k ≤ 3 → (s.hostReset k).fld F.HI_PCIE_STAT_LINK_UP = 0)
    ∧ (k = 0 ∨ 4 ≤ k → (s.hostReset k).fld F.HI_PCIE_STAT_LINK_UP = s.fld F.HI_PCIE_STAT_LINK_UP) := by
  refine ⟨fun r hr => s.hostReset_ring k hr, ?_, ?_, s.hostReset_event k, s.hostReset_count k, fun h => ?_, fun h => ?_⟩
  · rw [s.hostReset_hi k]
    rfl
  · rw [s.hostReset_hi k]
    rfl
  · rw [s.hostReset_link k, if_pos h]
  · rw [s.hostReset_link k, if_neg (by omega)]

theorem pcieLinkUp_shows (s : State) (v : Fin 4) (w : Fin 3) : ∃ t, Sys2Proof.Machine.exec (.pcieLinkUp v w) s = .next t ∧ t.fld F.HI_PCIE_STAT_LINK_UP = 1
    ∧ t.fld F.HI_PCIE_STAT_SPEED = v.val + 1 ∧ t.fld F.HI_PCIE_STAT_WIDTH = 2 ^ w.val
    ∧ FldsBut [F.HI_PCIE_STAT_LINK_UP, F.HI_PCIE_STAT_SPEED, F.HI_PCIE_STAT_WIDTH] s t := by
  refine ⟨_, rfl, ?_, ?_, ?_, fun g hg => ?_⟩
  · rw [State.fld_setFld_ne _ _ _ _ (by decide), State.fld_setFld_ne _ _ _ _ (by decide), State.fld_setFlag_same _ _ _ (by decide)]
    rfl
  · rw [State.fld_setFld_ne _ _ _ _ (by decide), State.fld_setFld_same]
    exact Nat.mod_eq_of_lt (show v.val + 1 < 2 ^ 3 by omega)
  · rw [State.fld_setFld_same]
    revert w
    decide
  · simp only [List.mem_cons, List.not_mem_nil, or_false, forall_eq_or_imp, forall_eq] at hg
    obtain ⟨hup, hspeed, hwidth⟩ := hg
    rw [State.fld_setFld_ne _ _ _ _ hwidth, State.fld_setFld_ne _ _ _ _ hspeed, State.fld_setFlag_ne _ _ _ _ hup]

/-- Settles O42: each operation of the interface by the lemma about it. -/
theorem hostRingResults : Obligations.HostRingResults := by
  unfold Obligations.HostRingResults
  intro s
  refine ⟨fun tails rx fetch r hdue h0 h9 hst hk => doorbellPoll_good tails rx fetch r hdue h0 h9 hst hk,
    fun tails rx k fetch hdue h0 h9 hk => doorbellPoll_failed tails rx fetch hdue h0 h9 hk, ?_, fun hfast hidle => ?_,
    fun r v hok hst hen hfree => hiRcfgWrite_starts hok hst hen hfree, fun r v hst hen hkind hsize hok => hiRcfgWrite_stops hst hen hkind hsize hok,
    fun r hst hbusy => congrArg Host.Outcome.next (if_pos ⟨hst, hbusy⟩), fun r hen hsince hdue => interruptModerationTimer_shows hen hsince hdue,
    fun v => msixUnmask_shows s v, fun err r e hr he hroom => reportRecordWrite_shows hr he hroom, fun i k hi => ⟨s.hostReset k, ?_, hostReset_shows s k⟩,
    fun bar ofs en w => ?_, fun v w => pcieLinkUp_shows s v w, rfl⟩
  · refine ⟨_, rfl, rfl, rfl, ?_, fun g hg => State.fld_setFlag_ne _ _ _ _ (hg _ (List.mem_singleton.2 rfl))⟩
    unfold State.flag
    rw [State.fld_setFlag_same _ _ _ (by decide)]
    cases s.hi.slowUntilRead <;> rfl
  · obtain ⟨-, -, hf, hnext, hbut⟩ := s.nextPoll_shows
    rw [hidle, Bool.false_and] at hf
    refine ⟨s.nextPoll, congrArg Host.Outcome.next (if_pos ⟨hfast, hidle⟩), hf, ?_, hbut⟩
    have notFast : s.nextPoll.flag F.HI_STATUS_FAST = false := by
      unfold State.flag
      rw [hf]
      rfl
    rw [hnext, notFast, if_neg (by decide)]
  · obtain ⟨cause, rfl, rfl⟩ | ⟨rfl, rfl⟩ := hi
    · rfl
    · rfl
  · obtain ⟨hread, -, hflds⟩ := s.badRead_raise w ofs.toNat (2 * bar.val) en.toNat
    exact ⟨_, exec_badAccess s bar ofs en w, hflds, hread, rfl⟩

end Sys2Proof.Machine
end

section
/-! ## Modes and their transitions (R469-R474, R478, R488) -/
namespace Sys2Proof.Machine

-- One declaration is checked at a time, so that the text with all its files is checked in bounded memory.
set_option Elab.async false

/-! ### The blocks that egress writes (R254, R265, R272) -/

theorem Fld.port_block {f : Fld} {a p : Nat} (hf : f.addr = a + p * 0x10000) (hlo : f.lo < 32) (ha : 0x100000 ≤ a) (ha' : a < 0x10FFFC) (hp : p < 4) :
    f.block = 16 + p :=
  Fld.block_of_low (by simp only [Fld.key, hf]; omega) (by simp only [Fld.key, hf]; omega) (by omega)

theorem RegFr.txDone {B : Nat} {s t : State} (h : RegFr B s t) {p : Nat} (hp : p < 4) (f : TxFrame) (status : Nat) (aborted : Bool) (roc : Nat)
    (ts : Option (Nat × Nat)) (hB : partSub 0xF0044 B = true) : RegFr B s (t.txDone p f status aborted roc ts) := by
  have hrl : B.testBit 6 = true := partSub_bit hB rfl
  have port {g : Fld} {a : Nat} (hg : g.addr = a + p * 0x10000) (hlo : g.lo < 32) (ha : 0x100000 ≤ a) (ha' : a < 0x10FFFC) : B.testBit g.block = true := by
    rw [Fld.port_block hg hlo ha ha' hp]
    obtain rfl | rfl | rfl | rfl : p = 0 ∨ p = 1 ∨ p = 2 ∨ p = 3 := by omega
    all_goals exact partSub_bit hB rfl
  have count (i : Nat) (hi : i < 8) : B.testBit (F.EP_CNT_COUNT p i).block = true :=
    port (a := 0x1000c0 + i * 4) (by simp only [F.EP_CNT_COUNT, R.EP_CNT]; omega) (lo_lt rfl) (by omega) (by omega)
  have event {g : Fld} (hg : g.addr = 0x100008 + p * 0x10000) (hlo : g.lo < 32) : B.testBit g.block = true := port hg hlo (by decide) (by decide)
  have counted : RegFr B s (t.txCounted p f status) := by
    have dropped : RegFr B s (if status = 0 then t else t.txDrop p) :=
      .ite h ((h.incS (f := F.EP_CNT_COUNT p 5) 1 (count 5 (by decide)) hrl).setFlag (f := F.EP_EVENT_TX_DROP p) true (event rfl (lo_lt rfl)))
    exact .ite ((dropped.incS (f := F.EP_CNT_COUNT p 6) 1 (count 6 (by decide)) hrl).setFlag (f := F.EP_EVENT_TS_LOST p) true (event rfl (lo_lt rfl))) dropped
  rcases t.txDone_cases p f status aborted roc ts with ⟨words, hregs | hregs, -⟩ | ⟨o, vals, heq⟩
  · exact counted.trans (.of_regs hregs)
  · refine (RegFr.trans ?_ (.of_regs hregs) : RegFr B s _)
    exact (counted.trans (.of_regs (State.setBytes_fr _ _ _ (.refl _) |>.regs rfl))).setFld (f := F.EP_TCR_WIDX_WIDX p) _
      (port (a := 0x10003c) rfl (lo_lt rfl) (by decide) (by decide))
  · rw [heq]
    exact counted.completeOpt _ _ _ _ (partSub_trans hB rfl)

theorem RegFr.flushPort {B : Nat} {s t : State} (h : RegFr B s t) {p : Nat} (hp : p < 4) (pick : TxFrame → Bool) (hB : partSub 0xF0044 B = true) :
    RegFr B s (t.flushPort p pick) := by
  rw [State.flushPort_eq]
  exact .foldl (fun u i _ hu => .foldl (fun v f _ hv => hv.txDone hp f _ _ _ _ hB) (hu.trans (.of_regs ((State.setTxQueue_fr u p i _ (.refl u)).regs rfl)))) h

theorem RegFr.mgMessage {B : Nat} {s t : State} (h : RegFr B s t) (type dst : Nat) (all : Bool) (at_ arg : Nat) (o : Option Origin)
    (hB : partSub 0x444 B = true) : RegFr B s (t.mgMessage type dst all at_ arg o) := by
  have h44 : partSub 0x44 B = true := partSub_trans hB rfl
  have hmg : B.testBit 10 = true := partSub_bit hB rfl
  have sent : RegFr B s (t.setMg { t.mg with sendSeq := (t.mg.sendSeq + 1) % 2 ^ 32 }) := h.trans (.of_regs rfl)
  unfold State.mgMessage State.mgSend
  refine .ite (sent.completeOpt _ _ _ _ h44) (.ite (sent.completeOpt _ _ _ _ h44) (.ite ?_ ?_))
  · exact (sent.incS (f := F.MG_CNT_COUNT 7) 1 hmg (partSub_bit hB rfl)).completeOpt _ _ _ _ h44
  · exact (sent.trans (.of_regs rfl)).setFld (f := F.MG_STATUS_TXQ_DEPTH) _ hmg

theorem RegFr.answerFence {B : Nat} {s t : State} (h : RegFr B s t) (hB : partSub 0x444 B = true) : RegFr B s t.answerFence := by
  refine .ite (.foldl (fun u l _ hu => hu.trans (.of_regs rfl)) (.foldl (fun u d _ hu => hu.mgMessage _ _ _ _ _ _ hB) (h.trans (.of_regs rfl)))) h

/-! ### Egress stops (R474) -/

theorem State.flushPort_gl (s : State) (p : Nat) (pick : TxFrame → Bool) : (s.flushPort p pick).gl = s.gl := (State.flushPort_fr _ _ _ (.refl _)).gl rfl

theorem State.answerFence_gl (s : State) : s.answerFence.gl = s.gl := (State.answerFence_fr _ (.refl _)).gl rfl

/-- The fence answers that wait are sent, and none waits. -/
theorem State.answerFence_sent {s : State} (h : s.gl.egressOff = true) : s.answerFence.tw.mgFence = [] ∧ s.answerFence.tw.fabFence = [] := by
  have message (u : State) (d : Nat) : (u.mgMessage 4 d false u.nowNs 0 none).tw = u.tw := (State.mgMessage_fr _ _ _ _ _ _ _ (.refl _)).tw rfl
  unfold State.answerFence
  rw [if_pos h]
  dsimp only
  have told (l : List Nat) (u : State) : (l.foldl (fun s d => s.mgMessage 4 d false s.nowNs 0 none) u).tw = u.tw :=
    foldl_keeps State.tw (fun s d => s.mgMessage 4 d false s.nowNs 0 none) (fun _ _ => message _ _) l u
  have queued (l : List Nat) (u : State) : (l.foldl (fun s k => s.fabQueue k (.fence true) 0) u).tw.mgFence = u.tw.mgFence
      ∧ (l.foldl (fun s k => s.fabQueue k (.fence true) 0) u).tw.fabFence = u.tw.fabFence :=
    ⟨foldl_keeps (fun u => u.tw.mgFence) (fun s k => s.fabQueue k (.fence true) 0) (fun _ _ => rfl) l u,
      foldl_keeps (fun u => u.tw.fabFence) (fun s k => s.fabQueue k (.fence true) 0) (fun _ _ => rfl) l u⟩
  obtain ⟨hmg, hfab⟩ := queued s.tw.fabFence (s.tw.mgFence.foldl (fun s d => s.mgMessage 4 d false s.nowNs 0 none)
    { s with tw := { s.tw with mgFence := [], fabFence := [] } })
  rw [hmg, hfab, told]
  exact ⟨rfl, rfl⟩

/-- The ports without their queued frames, and the fence set, before the fence answers go out. -/
def State.egressShut (s : State) : State :=
  (List.foldl (fun (s : State) p => s.flushPort p fun f => !f.fenceAnswer) { s with gl := { s.gl with egressOff := true } } (List.range 4)).setFlag
    F.TW_STATUS_FENCED true

theorem State.stopEgress_eq {s : State} (h : s.gl.egressOff = false) : s.stopEgress = s.egressShut.answerFence := by
  unfold State.stopEgress State.egressShut
  rw [if_neg (by rw [h]; decide)]

/-- Frames that are no answers to a FENCE leave the queues of every port. -/
theorem State.foldl_flushPort_gl (pick : TxFrame → Bool) (l : List Nat) (s : State) : (l.foldl (fun s p => s.flushPort p pick) s).gl = s.gl :=
  foldl_keeps State.gl (fun s p => s.flushPort p pick) (fun u p => u.flushPort_gl p pick) l s

theorem State.egressShut_gl (s : State) : s.egressShut.gl = { s.gl with egressOff := true } := by
  unfold State.egressShut
  simp only [State.setFlag_keeps, State.foldl_flushPort_gl]

theorem RegFr.egressShut {B : Nat} {s t : State} (h : RegFr B s t) (hB : partSub 0xF0244 B = true) : RegFr B s t.egressShut := by
  unfold State.egressShut
  refine .setFlag (f := F.TW_STATUS_FENCED) (.foldl (fun u p hp hu => ?_) (h.trans (.of_regs ?_))) true (partSub_bit hB rfl)
  · exact hu.flushPort (List.mem_range.1 hp) _ (partSub_trans hB rfl)
  · rfl

theorem State.stopEgress_gl (s : State) : s.stopEgress.gl = { s.gl with egressOff := true } := by
  cases h : s.gl.egressOff with
  | true =>
    unfold State.stopEgress
    rw [if_pos h, ← h]
  | false => rw [State.stopEgress_eq h, State.answerFence_gl, State.egressShut_gl]

theorem RegFr.stopEgress {B : Nat} {s t : State} (h : RegFr B s t) (hB : partSub 0xF0644 B = true) : RegFr B s t.stopEgress := by
  cases hoff : t.gl.egressOff with
  | true =>
    unfold State.stopEgress
    rw [if_pos hoff]
    exact h
  | false =>
    rw [State.stopEgress_eq hoff]
    exact (h.egressShut (partSub_trans hB rfl)).answerFence (partSub_trans hB rfl)

theorem egressStopped_shows {s : State} {x : Trans} (hx : s.gl.trans = some x) (h10 : x.target = 10) (hoff : s.gl.egressOff = false) :
    ∃ t, Sys2Proof.Machine.exec .egressStopped s = .next t ∧ t.gl.egressOff = true ∧ t.fld F.TW_STATUS_FENCED = 1 ∧ t.tw.mgFence = [] ∧ t.tw.fabFence = [] := by
  have off : s.egressShut.gl.egressOff = true := congrArg Modes.egressOff s.egressShut_gl
  obtain ⟨hmg, hfab⟩ := State.answerFence_sent off
  have fenced : s.egressShut.fld F.TW_STATUS_FENCED = 1 := State.fld_setFlag_same _ _ _ (by decide)
  refine ⟨s.egressShut.answerFence, ?_, (congrArg Modes.egressOff s.egressShut.answerFence_gl).trans off,
    ((RegFr.refl s.egressShut).answerFence (B := 0x444) rfl F.TW_STATUS_FENCED rfl).trans fenced, hmg, hfab⟩
  show Host.Outcome.next _ = _
  rw [hx]
  dsimp only
  rw [if_pos h10, State.stopEgress_eq hoff]

/-! ### MODE_SET (R469-R472) -/

theorem modeSet_eq {s : State} {c : HCmd} (hs : Plain s c) (hmask : argMask c [0xF] = true) (hlt : arg c 0 < 12) :
    Sys2Proof.Machine.exec (.modeSet c) s = .next ((s.start c).modeSet (arg c 0) (s.originOf c 0x02)) := by
  have ok : (argMask c [0xF] && decide (arg c 0 < 12)) = true := by rw [hmask, decide_eq_true hlt]; rfl
  exact congrArg Host.Outcome.next (State.command_eq (mode := true) (chan := none) (buf := false) hs ok rfl fun _ hn => nomatch hn)

/-- MODE_SET on a device with no transition, to another mode that R473 does not deny. -/
theorem State.modeSet_judged {u : State} {t : Nat} (o : Origin) (htrans : u.gl.trans = none) (hne : t ≠ u.mode) (hfac : ¬(u.mode = 1 ∧ t = 11 ∧ u.fuse.strapTest = false)) :
    u.modeSet t o = if u.modeDetail t = 0 then u.startTrans t false (some o) else u.complete o 6 (u.modeDetail t) [] := by
  unfold State.modeSet
  rw [if_neg (by rw [htrans]; decide), if_neg hne, if_neg hfac]

theorem modeSet_results {s : State} {c : HCmd} (hs : Plain s c) (hmask : argMask c [0xF] = true) (hlt : arg c 0 < 12) :
    let u := s.start c
    let o := s.originOf c 0x02
    (s.gl.trans.isSome = true → Sys2Proof.Machine.exec (.modeSet c) s = .next (u.complete o 6 0x49 []))
    ∧ (s.gl.trans = none → arg c 0 = s.mode → Sys2Proof.Machine.exec (.modeSet c) s = .next (u.complete o 0 0 []))
    ∧ (s.gl.trans = none → s.mode = 1 → arg c 0 = 11 → s.fuse.strapTest = false → Sys2Proof.Machine.exec (.modeSet c) s
        = .next ((u.setFlag F.GL_EVENT_FACTORY_DENIED true).complete o 12 0 []))
    ∧ (s.gl.trans = none → arg c 0 ≠ s.mode → ¬(s.mode = 1 ∧ arg c 0 = 11 ∧ s.fuse.strapTest = false) →
        (u.modeDetail (arg c 0) = 0 → ∃ t, Sys2Proof.Machine.exec (.modeSet c) s = .next t ∧ t.gl.trans = some ⟨arg c 0, false, some o, s.elapsed⟩ ∧ t.regs = s.regs)
        ∧ (u.modeDetail (arg c 0) ≠ 0 → Sys2Proof.Machine.exec (.modeSet c) s = .next (u.complete o 6 (u.modeDetail (arg c 0)) []))) := by
  have hgl : (s.start c).gl = s.gl := rfl
  have hmode : (s.start c).mode = s.mode := rfl
  have hfuse : (s.start c).fuse = s.fuse := rfl
  rw [modeSet_eq hs hmask hlt]
  intro u o
  refine ⟨fun h => congrArg Host.Outcome.next (if_pos (hgl ▸ h)), fun h hm => congrArg Host.Outcome.next ?_, fun h hm h11 hst => congrArg Host.Outcome.next ?_,
    fun h hm hfac => ⟨fun hd => ⟨u.startTrans (arg c 0) false (some o), congrArg Host.Outcome.next ?_, rfl, rfl⟩, fun hd => congrArg Host.Outcome.next ?_⟩⟩
  · unfold State.modeSet
    rw [if_neg (by rw [hgl, h]; decide), if_pos (hm.trans hmode.symm)]
  · unfold State.modeSet
    rw [if_neg (by rw [hgl, h]; decide), if_neg (by rw [hmode, hm, h11]; decide), if_pos ⟨hmode.trans hm, h11, hst⟩]
  · rw [State.modeSet_judged o (hgl ▸ h) (hmode ▸ hm) (by rw [hmode, hfuse]; exact hfac)]
    exact if_pos hd
  · rw [State.modeSet_judged o (hgl ▸ h) (hmode ▸ hm) (by rw [hmode, hfuse]; exact hfac)]
    exact if_neg hd

/-! ### What ends and begins with a mode (R470, R473-R477) -/

/-- The transition under way and the triggers that wait are the same in two states. -/
def SameTrans (s t : State) : Prop := t.gl.trans = s.gl.trans ∧ t.gl.waiting = s.gl.waiting

namespace SameTrans
variable {s t u : State}

theorem refl (s : State) : SameTrans s s := ⟨rfl, rfl⟩

theorem of_gl (h : SameTrans s t) (hgl : u.gl = t.gl) : SameTrans s u := ⟨(congrArg Modes.trans hgl).trans h.1, (congrArg Modes.waiting hgl).trans h.2⟩

theorem ite {p : Prop} [Decidable p] (h : SameTrans s t) (h' : SameTrans s u) : SameTrans s (if p then t else u) := by
  split <;> assumption

theorem with_gl {g : Modes} (h : SameTrans s t) (hgl : u.gl = g) (ht : g.trans = t.gl.trans) (hw : g.waiting = t.gl.waiting) : SameTrans s u :=
  ⟨(congrArg Modes.trans hgl).trans (ht.trans h.1), (congrArg Modes.waiting hgl).trans (hw.trans h.2)⟩

end SameTrans

/-- One channel is closed without egress (R470). -/
def State.closeNow (s : State) (n : Nat) : State :=
  match (s.beginClose n none).chan n with
  | some c => if (s.beginClose n none).closeDone n c then (s.beginClose n none).removeChan n else s.beginClose n none
  | none => s.beginClose n none

theorem State.closeNow_gl (s : State) (n : Nat) : (s.closeNow n).gl = s.gl := by
  have begun : (s.beginClose n none).gl = s.gl := (State.beginClose_fr _ _ _ (.refl _)).gl rfl
  unfold State.closeNow
  split
  · split
    · exact ((State.removeChan_fr _ _ (.refl _)).gl rfl).trans begun
    · exact begun
  · exact begun

theorem State.closeAll_eq (s : State) : ∃ (l : List (Nat × Chan)) (n : Nat),
    s.closeAll = { l.foldl (fun s e => s.closeNow e.1) s with gl := { (l.foldl (fun s e => s.closeNow e.1) s).gl with closedNow := n } } :=
  ⟨_, _, rfl⟩

theorem State.closeAll_gl (s : State) : ∃ n, s.closeAll.gl = { s.gl with closedNow := n } := by
  obtain ⟨l, n, heq⟩ := s.closeAll_eq
  have kept : (l.foldl (fun s e => s.closeNow e.1) s).gl = s.gl := foldl_keeps State.gl _ (fun u e => u.closeNow_gl e.1) l s
  refine ⟨n, (congrArg State.gl heq).trans ?_⟩
  show ({ (l.foldl (fun s e => s.closeNow e.1) s).gl with closedNow := n } : Modes) = _
  rw [kept]

theorem SameTrans.leaveIsolate {s t : State} (h : SameTrans s t) (m : Nat) : SameTrans s (t.leaveIsolate m) := by
  have flushed : SameTrans s ((List.range 4).foldl (fun s p => s.flushPort p fun _ => true) t) :=
    h.of_gl (State.foldl_flushPort_gl _ _ _)
  unfold State.leaveIsolate
  generalize (List.range 4).foldl (fun s p => s.flushPort p fun _ => true) t = v at flushed ⊢
  dsimp only
  obtain ⟨n, hn⟩ := State.closeAll_gl { v with tw := { v.tw with link := v.tw.link.map fun e => (e.1, { e.2 with queue := [] }), evacLink := none } }
  generalize State.closeAll { v with tw := { v.tw with link := v.tw.link.map fun e => (e.1, { e.2 with queue := [] }), evacLink := none } } = w at hn ⊢
  have closed : SameTrans s w := flushed.with_gl hn rfl rfl
  exact .ite (closed.with_gl rfl rfl rfl) (closed.with_gl rfl rfl rfl)

theorem State.releaseClusters_gl (s : State) : s.releaseClusters.gl = { s.gl with released := true } := by
  cases h : s.gl.released with
  | true =>
    unfold State.releaseClusters
    rw [if_pos h, ← h]
  | false =>
    unfold State.releaseClusters
    rw [if_neg (by rw [h]; decide)]
    exact foldl_keeps State.gl (fun s k => s.resetCore k) (fun _ _ => (State.resetCore_fr _ _ (.refl _)).gl rfl) (List.range s.coreCount)
      { s with gl := { s.gl with released := true } }

/-- What the end of a transition does beside showing the mode leaves the waiting triggers, stops egress on the way to ISOLATE and releases the
clusters for a mode that runs them. -/
theorem State.crossMode_shows (s : State) (t : Trans) (old new : Nat) : SameTrans s (s.crossMode t old new)
    ∧ (new = 10 → (s.crossMode t old new).gl.egressOff = true) ∧ (serviceMode new = true ∨ new = 5 → (s.crossMode t old new).gl.released = true) := by
  unfold State.crossMode
  extract_lets a b c d e
  have ha : SameTrans s a := .ite ((SameTrans.refl s).of_gl ((State.dozeOut_fr _ _ (.refl _)).gl rfl)) (.refl s)
  clear_value a
  have hb : SameTrans s b := .ite (ha.leaveIsolate new) ha
  clear_value b
  have hc : SameTrans s c := .ite (hb.with_gl b.stopEgress_gl rfl rfl) (.ite (hb.of_gl ((State.dozeIn_fr _ (.refl _)).gl rfl)) hb)
  have hoff : new = 10 → c.gl.egressOff = true := fun h => by
    dsimp only [c]
    rw [if_pos h, State.stopEgress_gl]
  clear_value c
  have hd : d.gl = c.gl := by
    dsimp only [d]
    split
    · exact (State.mailboxClear_fr _ (.refl _)).gl rfl
    · rfl
  clear_value d
  have he : e.gl = c.gl := by
    dsimp only [e]
    split
    · exact ((State.endSweep_fr _ _ (.refl _)).gl rfl).trans hd
    · exact hd
  clear_value e
  have hend : SameTrans s e := hc.of_gl he
  refine ⟨.ite (hend.with_gl e.releaseClusters_gl rfl rfl) hend, fun h => ?_, fun h => ?_⟩
  · have off : e.gl.egressOff = true := (congrArg Modes.egressOff he).trans (hoff h)
    split
    · exact (congrArg Modes.egressOff e.releaseClusters_gl).trans off
    · exact off
  · rw [if_pos (by simpa using h)]
    exact congrArg Modes.released e.releaseClusters_gl

theorem State.mailboxClear_regFr (s : State) : RegFr 0x400000000 s s.mailboxClear := by
  refine RegFr.rstRegion (t := { s with ln := State.reset.ln }) (.of_regs rfl) _ _ _ fun g hlo _ => ?_
  rw [show g.block = 34 by unfold Fld.block; rw [if_neg (by omega), if_neg (by omega), if_neg (by omega)]]
  rfl

/-- The end of a THERMOS exit stays shown while the mode is left. -/
theorem State.crossMode_exit (s : State) (t : Trans) (new : Nat) :
    (s.crossMode t 9 new).fld F.PW_EVENT_THERMOS_EXIT = s.fld F.PW_EVENT_THERMOS_EXIT := by
  have cl {f : Fld} {i : Nat} (hf : f.addr = R.PW_CL i) (hlo : f.lo < 32) : f.key ≠ F.PW_EVENT_THERMOS_EXIT.key := by
    simp only [Fld.key, hf, R.PW_CL, R.PW_EVENT, F.PW_EVENT_THERMOS_EXIT]
    omega
  have doze (u : State) : u.dozeIn.fld F.PW_EVENT_THERMOS_EXIT = u.fld F.PW_EVENT_THERMOS_EXIT := by
    refine (State.fld_setFlag_ne _ _ _ _ (by decide)).trans (foldl_keeps (State.fld · F.PW_EVENT_THERMOS_EXIT) _ (fun v c => ?_) _ u)
    dsimp only
    split
    · rw [State.fld_setFld_ne _ _ _ _ (cl rfl (lo_lt rfl)), State.fld_setFld_ne _ _ _ _ (cl rfl (lo_lt rfl))]
      exact (RegFr.foldl (B := 0x5C) (fun w k _ hw => (hw.resetAbort k rfl).resetCore k) (.refl v)) F.PW_EVENT_THERMOS_EXIT rfl
    · rfl
  have released (u : State) : u.releaseClusters.regs = u.regs := (State.releaseClusters_fr _ (.refl _)).regs rfl
  unfold State.crossMode
  extract_lets a b c d e
  have hb : b = s := rfl
  clear_value b
  subst hb
  have hc : c.fld F.PW_EVENT_THERMOS_EXIT = b.fld F.PW_EVENT_THERMOS_EXIT :=
    State.fld_ite ((RegFr.refl b).stopEgress (B := 0xF0644) rfl F.PW_EVENT_THERMOS_EXIT rfl) (State.fld_ite (doze b) rfl)
  clear_value c
  have hd : d.fld F.PW_EVENT_THERMOS_EXIT = b.fld F.PW_EVENT_THERMOS_EXIT := State.fld_ite ((c.mailboxClear_regFr F.PW_EVENT_THERMOS_EXIT rfl).trans hc) hc
  clear_value d
  have he : e = d := if_neg fun h => absurd h.1 (by decide)
  rw [he]
  exact State.fld_ite ((congrFun (State.fld_congr (released d)) _).trans hd) hd

/-- The entry to THERMOS leaves the waiting triggers (R476). -/
theorem State.thermosIn_trans (s : State) (t : Trans) : SameTrans s (s.thermosIn t) := by
  unfold State.thermosIn
  extract_lets a b shadow off c d e f
  have ha : SameTrans s a := (SameTrans.refl s).of_gl ((State.completeOpt_fr _ _ _ _ _ (.refl _)).gl rfl)
  clear_value a
  have hb : SameTrans s b := ha.of_gl (foldl_keeps State.gl _ (fun u _ => ((State.writeReport_fr _ _ (.refl _)).gl rfl).trans
    ((State.writeReport_fr u true (.refl _)).gl rfl)) _ a)
  clear_value b
  have hc : SameTrans s c := .ite hb (hb.of_gl ((State.commandV_fr _ _ (.refl _)).gl rfl))
  clear_value c
  have hd : SameTrans s d := hc.of_gl rfl
  clear_value d
  have he : SameTrans s e := hd.of_gl rfl
  clear_value e
  have hf : SameTrans s f := he.of_gl (((State.warmRel_fr _ (.refl _)).gl rfl).trans ((State.warmBlocks_fr e (.refl _)).gl rfl))
  clear_value f
  exact hf

/-! ### Showing the mode (R469, R472) -/

/-- The fields of GL_MODE for a new mode. -/
def State.setMode (s : State) (old new : Nat) : State :=
  if new = 8 ∨ new = 9 then ((s.setFld F.GL_MODE_MODE new).setFld F.GL_MODE_PREV old).setFld F.GL_MODE_RETURN old
  else (s.setFld F.GL_MODE_MODE new).setFld F.GL_MODE_PREV old

theorem State.setMode_shows (s : State) (old new : Nat) : (s.setMode old new).mode = new % 16 ∧ (s.setMode old new).fld F.GL_MODE_PREV = old % 16
    ∧ (new = 8 ∨ new = 9 → (s.setMode old new).fld F.GL_MODE_RETURN = old % 16) ∧ RegFr 1 s (s.setMode old new) ∧ (s.setMode old new).gl = s.gl := by
  have frame : RegFr 1 s ((s.setFld F.GL_MODE_MODE new).setFld F.GL_MODE_PREV old) := ((RegFr.refl s).setFld _ rfl).setFld _ rfl
  have mode : ((s.setFld F.GL_MODE_MODE new).setFld F.GL_MODE_PREV old).fld F.GL_MODE_MODE = new % 16 := by
    rw [State.fld_setFld_ne _ _ _ _ (by decide), State.fld_setFld_same]
    rfl
  unfold State.setMode State.mode
  split
  case isTrue h =>
    refine ⟨?_, ?_, fun _ => State.fld_setFld_same _ _ _, frame.setFld _ rfl, rfl⟩
    · rw [State.fld_setFld_ne _ _ _ _ (by decide), mode]
    · rw [State.fld_setFld_ne _ _ _ _ (by decide)]
      exact State.fld_setFld_same _ _ _
  case isFalse h => exact ⟨mode, State.fld_setFld_same _ _ _, fun h' => absurd h' h, frame, rfl⟩

/-- The report of a new mode. -/
def State.reportMode (s : State) (old new : Nat) (auto : Bool) : State :=
  let closed := s.gl.closedNow
  let s : State := { s with gl := { s.gl with closedNow := 0 } }
  let s := s.event F.GL_EVENT_MODE_CHANGE .info 0 old new closed
  if auto ∧ new = 10 then s.setFlag F.GL_EVENT_AUTO_ISOLATE true else s

theorem State.showMode_eq (s : State) (old new : Nat) (auto : Bool) : s.showMode old new auto = (s.setMode old new).reportMode old new auto := rfl

theorem State.reportMode_shows (s : State) (old new : Nat) (auto : Bool) : (s.reportMode old new auto).fld F.GL_EVENT_MODE_CHANGE = 1
    ∧ (∀ g : Fld, outRl g = true → F.GL_EVENT_MODE_CHANGE.key ≠ g.key → F.GL_EVENT_AUTO_ISOLATE.key ≠ g.key → (s.reportMode old new auto).fld g = s.fld g)
    ∧ (s.reportMode old new auto).gl = { s.gl with closedNow := 0 } := by
  unfold State.reportMode
  dsimp only
  generalize hu : State.event { s with gl := { s.gl with closedNow := 0 } } F.GL_EVENT_MODE_CHANGE .info 0 old new s.gl.closedNow = u
  have shown : u.fld F.GL_EVENT_MODE_CHANGE = 1 := hu ▸ State.fld_event_same _ _ _ _ _ _ _ rfl (by decide) (by decide)
  have kept {g : Fld} (hg : outRl g = true) (hne : F.GL_EVENT_MODE_CHANGE.key ≠ g.key) : u.fld g = s.fld g :=
    hu ▸ State.fld_event_ne _ _ _ _ _ _ _ _ hg (by decide) hne
  have hgl : u.gl = { s.gl with closedNow := 0 } := hu ▸ (State.event_fr _ _ _ _ _ _ _ (.refl _)).gl rfl
  split
  · exact ⟨(State.fld_setFlag_ne _ _ _ _ (by decide)).trans shown, fun g hg hne ha => (State.fld_setFlag_ne _ _ _ _ ha).trans (kept hg hne), hgl⟩
  · exact ⟨shown, fun g hg hne _ => kept hg hne, hgl⟩

theorem State.showMode_shows (s : State) (old new : Nat) (auto : Bool) : (s.showMode old new auto).mode = new % 16
    ∧ (s.showMode old new auto).fld F.GL_MODE_PREV = old % 16 ∧ (new = 8 ∨ new = 9 → (s.showMode old new auto).fld F.GL_MODE_RETURN = old % 16)
    ∧ (s.showMode old new auto).fld F.GL_EVENT_MODE_CHANGE = 1
    ∧ (s.showMode old new auto).fld F.PW_EVENT_THERMOS_EXIT = s.fld F.PW_EVENT_THERMOS_EXIT ∧ (s.showMode old new auto).gl = { s.gl with closedNow := 0 } := by
  obtain ⟨hmode, hprev, hreturn, hregs, hgl⟩ := s.setMode_shows old new
  obtain ⟨hevent, hkept, hrep⟩ := (s.setMode old new).reportMode_shows old new auto
  rw [State.showMode_eq]
  refine ⟨(hkept _ rfl (by decide) (by decide)).trans hmode, (hkept _ rfl (by decide) (by decide)).trans hprev,
    fun h => (hkept _ rfl (by decide) (by decide)).trans (hreturn h), hevent, (hkept _ rfl (by decide) (by decide)).trans (hregs _ rfl), ?_⟩
  rw [hrep, hgl]

/-! ### What follows the mode shown (R326, R472) -/

/-- One trigger that waited is applied from the mode reached, or dropped. -/
def State.applyTrigger (s : State) (t : Nat) : State :=
  if s.gl.trans.isNone ∧ autoAllowed s.mode t = false then s.raise .warn 0x00 0 Config.codeTriggerDropped.toNat t s.mode 0 else s.trigger t

theorem State.applyWaiting_eq (s : State) : s.applyWaiting = s.gl.waiting.foldl State.applyTrigger { s with gl := { s.gl with waiting := [] } } := rfl

theorem State.trigger_gl (s : State) (target : Nat) : (s.trigger target).gl.egressOff = s.gl.egressOff ∧ (s.trigger target).gl.released = s.gl.released := by
  unfold State.trigger
  split
  · split <;> exact ⟨rfl, rfl⟩
  · split
    · split <;> exact ⟨rfl, rfl⟩
    · split
      · rw [(State.completeOpt_fr _ _ _ _ _ (.refl _)).gl rfl]
        exact ⟨rfl, rfl⟩
      · exact ⟨rfl, rfl⟩

/-- What follows the mode shown leaves the modes, the power and the state of egress and of the clusters; a transition begins anew only where a
trigger waited. -/
structure Follows (s t : State) : Prop where
  regs : RegFr 0x5C s t
  egress : t.gl.egressOff = s.gl.egressOff
  released : t.gl.released = s.gl.released
  trans : s.gl.waiting = [] → t.gl.trans = s.gl.trans

theorem Follows.of_applyWaiting {s t : State} (hr : RegFr 0x5C s t) (hgl : t.gl = s.gl) : Follows s t.applyWaiting := by
  have one (u : State) (k : Nat) : RegFr 0x5C u (u.applyTrigger k) ∧ (u.applyTrigger k).gl.egressOff = u.gl.egressOff
      ∧ (u.applyTrigger k).gl.released = u.gl.released := by
    unfold State.applyTrigger
    split
    · rw [(State.raise_fr _ _ _ _ _ _ _ _ (.refl _)).gl rfl]
      exact ⟨(RegFr.refl u).raise _ _ _ _ rfl (.inl rfl), rfl, rfl⟩
    · exact ⟨(RegFr.refl u).trigger k rfl, u.trigger_gl k⟩
  rw [State.applyWaiting_eq]
  refine ⟨.foldl (fun u k _ hu => hu.trans (one u k).1) (hr.trans (.of_regs rfl)), ?_, ?_, fun hw => ?_⟩
  · exact (foldl_keeps (fun u => u.gl.egressOff) _ (fun u k => (one u k).2.1) _ _).trans (congrArg Modes.egressOff hgl : t.gl.egressOff = s.gl.egressOff)
  · exact (foldl_keeps (fun u => u.gl.released) _ (fun u k => (one u k).2.2) _ _).trans (congrArg Modes.released hgl : t.gl.released = s.gl.released)
  · rw [congrArg Modes.waiting hgl, hw]
    exact (congrArg Modes.trans hgl : t.gl.trans = s.gl.trans)

/-- The end of a transition behind the mode shown: groups start, channels resume, the command completes and the waiting triggers apply. -/
def State.modeShown (s : State) (before : List Nat) (t : Trans) (old new : Nat) : State :=
  let s := ((List.range 16).filter fun g => s.groupActive g && !before.contains g).foldl (fun (s : State) g => s.localReset g) s
  let s := if old = 1 ∧ serviceMode new then s.resumeChannels else s
  (s.completeOpt t.origin 0 0 []).applyWaiting

theorem RegFr.resumeChannels {B : Nat} {s t : State} (h : RegFr B s t) (hB : partSub 0x5C B = true) : RegFr B s t.resumeChannels := by
  have rebuilt (u : State) (c : Nat) (hu : RegFr B s u) : RegFr B s (u.rebuildEntries c) :=
    .foldl (fun v e _ hv => hv.makeReady _ _ (partSub_trans hB rfl)) hu
  have all : RegFr B s ((List.range t.clusters).foldl (fun s c => if s.clusterIn c then s.rebuildEntries c else s) t) :=
    .foldl (fun u c _ hu => .ite (rebuilt u c hu) hu) h
  unfold State.resumeChannels
  generalize (List.range t.clusters).foldl (fun s c => if s.clusterIn c then s.rebuildEntries c else s) t = v at all ⊢
  unfold State.repost
  refine .foldl (fun u j _ hu => ?_) all
  dsimp only
  split
  · exact hu.pushEntry _ (fun hk => by cases hk) (partSub_trans hB rfl)
  · exact hu.endJob _ _ _ _ (partSub_trans hB rfl)

theorem State.modeShown_follows (s : State) (before : List Nat) (t : Trans) (old new : Nat) : Follows s (s.modeShown before t old new) := by
  unfold State.modeShown
  dsimp only
  generalize (List.range 16).filter (fun g => s.groupActive g && !before.contains g) = gs
  have started : (gs.foldl (fun (s : State) g => s.localReset g) s).gl = s.gl := foldl_keeps State.gl (fun (s : State) g => s.localReset g) (fun _ _ => rfl) gs s
  have startedRegs : RegFr 0x5C s (gs.foldl (fun (s : State) g => s.localReset g) s) := .foldl (fun u g _ hu => hu.trans (.of_regs rfl)) (.refl s)
  generalize gs.foldl (fun (s : State) g => s.localReset g) s = v at started startedRegs ⊢
  have resumed : (if old = 1 ∧ serviceMode new = true then v.resumeChannels else v).gl = s.gl := by
    split
    · exact ((State.resumeChannels_fr _ (.refl _)).gl rfl).trans started
    · exact started
  have resumedRegs : RegFr 0x5C s (if old = 1 ∧ serviceMode new = true then v.resumeChannels else v) := .ite (startedRegs.resumeChannels rfl) startedRegs
  exact .of_applyWaiting (resumedRegs.completeOpt _ _ _ _ rfl) (((State.completeOpt_fr _ _ _ _ _ (.refl _)).gl rfl).trans resumed)

/-! ### The end of a transition (R469-R472, R478) -/

/-- A transition from a mode other than THERMOS, past the mode it leaves. -/
def State.modeLeft (s : State) (t : Trans) (old : Nat) : State :=
  if t.target = 9 then (if old = 8 then s.setFlag F.PW_EVENT_DOZE_EXIT true else s).thermosIn t else s.crossMode t old t.target

theorem State.modeLeft_shows (s : State) (t : Trans) (old : Nat) : SameTrans s (s.modeLeft t old)
    ∧ (t.target = 10 → (s.modeLeft t old).gl.egressOff = true) ∧ (serviceMode t.target = true ∨ t.target = 5 → (s.modeLeft t old).gl.released = true) := by
  unfold State.modeLeft
  split
  case isTrue h =>
    refine ⟨?_, fun h10 => absurd (h.symm.trans h10) (by decide), fun hs => ?_⟩
    · have flagged : SameTrans s (if old = 8 then s.setFlag F.PW_EVENT_DOZE_EXIT true else s) := .ite (.refl s) (.refl s)
      obtain ⟨htrans, hwaiting⟩ := State.thermosIn_trans (if old = 8 then s.setFlag F.PW_EVENT_DOZE_EXIT true else s) t
      exact ⟨htrans.trans flagged.1, hwaiting.trans flagged.2⟩
    · rw [h] at hs
      exact absurd hs (by decide)
  case isFalse => exact s.crossMode_shows t old t.target

/-- The end of a transition to a mode other than THERMOS, once the mode that it leaves is left. -/
theorem State.endTrans_eq {s : State} {x : Trans} (tests : List (BitVec 11)) (hx : s.gl.trans = some x) :
    let u : State := { s with gl := { s.gl with trans := none } }
    let p := (if s.mode = 9 then u.thermosOut tests else u).endsIn x
    s.endTrans tests = if p.2 = 9 then (((if s.mode = 8 then p.1.setFlag F.PW_EVENT_DOZE_EXIT true else p.1).thermosIn x).showMode s.mode p.2 x.auto).applyWaiting
      else ((p.1.crossMode x s.mode p.2).showMode s.mode p.2 x.auto).modeShown ((List.range 16).filter u.groupActive) x s.mode p.2 := by
  unfold State.endTrans
  rw [hx]
  rfl

/-- Away from THERMOS a transition ends in its target. -/
theorem State.endTrans_follows {s : State} {x : Trans} (tests : List (BitVec 11)) (hx : s.gl.trans = some x) (h9 : s.mode ≠ 9) :
    Follows ((State.modeLeft { s with gl := { s.gl with trans := none } } x s.mode).showMode s.mode x.target x.auto) (s.endTrans tests) := by
  have heq := State.endTrans_eq tests hx
  dsimp only at heq
  rw [if_neg h9] at heq
  generalize hu : ({ s with gl := { s.gl with trans := none } } : State) = u at heq ⊢
  have umode : u.mode = s.mode := hu ▸ rfl
  have ends : u.endsIn x = (u, x.target) := if_neg fun h => h9 (umode.symm.trans h.1)
  rw [ends] at heq
  rw [heq]
  unfold State.modeLeft
  dsimp only
  split
  · exact .of_applyWaiting (.refl _) rfl
  · exact State.modeShown_follows _ _ _ _ _

theorem modeChange_shows {s : State} {x : Trans} (tests : List (BitVec 11)) (hx : s.gl.trans = some x) (h9 : s.mode ≠ 9) :
    ∃ t, Sys2Proof.Machine.exec (.modeChange tests) s = .next t ∧ t.mode = x.target % 16 ∧ t.fld F.GL_MODE_PREV = s.mode % 16 ∧ t.fld F.GL_EVENT_MODE_CHANGE = 1
      ∧ (x.target = 8 ∨ x.target = 9 → t.fld F.GL_MODE_RETURN = s.mode % 16) ∧ (s.gl.waiting = [] → t.gl.trans = none)
      ∧ (x.target = 10 → t.gl.egressOff = true) ∧ (serviceMode x.target = true ∨ x.target = 5 → t.gl.released = true) := by
  obtain ⟨⟨htrans, hwaiting⟩, hegress, hreleased⟩ := State.modeLeft_shows { s with gl := { s.gl with trans := none } } x s.mode
  have follows := State.endTrans_follows tests hx h9
  generalize State.modeLeft { s with gl := { s.gl with trans := none } } x s.mode = w at htrans hwaiting hegress hreleased follows
  obtain ⟨hmode, hprev, hreturn, hevent, -, hgl⟩ := w.showMode_shows s.mode x.target x.auto
  generalize w.showMode s.mode x.target x.auto = v at follows hmode hprev hreturn hevent hgl
  obtain ⟨fregs, fegress, freleased, ftrans⟩ := follows
  refine ⟨s.endTrans tests, rfl, (fregs _ rfl).trans hmode, (fregs _ rfl).trans hprev, (fregs _ rfl).trans hevent, fun h => (fregs _ rfl).trans (hreturn h),
    fun h => ?_, fun h => ?_, fun h => ?_⟩
  · rw [ftrans (by rw [hgl]; exact hwaiting.trans h), hgl]
    exact htrans
  · rw [fegress, hgl]
    exact hegress h
  · rw [freleased, hgl]
    exact hreleased h

theorem State.thermosOut_exit (s : State) (tests : List (BitVec 11)) : (s.thermosOut tests).fld F.PW_EVENT_THERMOS_EXIT = 1 := by
  unfold State.thermosOut
  exact (State.fld_setFld_ne _ _ _ _ (by decide)).trans (State.fld_setFlag_same _ _ _ (by decide))

theorem State.endsIn_shows (s : State) (x : Trans) : ((s.endsIn x).2 = x.target ∨ (s.endsIn x).2 = 1)
    ∧ (s.endsIn x).1.fld F.PW_EVENT_THERMOS_EXIT = s.fld F.PW_EVENT_THERMOS_EXIT := by
  unfold State.endsIn
  split
  · exact ⟨.inr rfl, State.fld_setFlag_ne _ _ _ _ (by decide)⟩
  · exact ⟨.inl rfl, rfl⟩

theorem modeChange_wakes {s : State} {x : Trans} (tests : List (BitVec 11)) (hx : s.gl.trans = some x) (h9 : s.mode = 9) (hne : x.target ≠ 9) :
    ∃ t, Sys2Proof.Machine.exec (.modeChange tests) s = .next t ∧ (t.mode = x.target % 16 ∨ t.mode = 1) ∧ t.fld F.GL_MODE_PREV = 9
      ∧ t.fld F.PW_EVENT_THERMOS_EXIT = 1 ∧ t.fld F.GL_EVENT_MODE_CHANGE = 1 := by
  have heq := State.endTrans_eq tests hx
  dsimp only at heq
  rw [if_pos h9, h9] at heq
  have exited := State.thermosOut_exit { s with gl := { s.gl with trans := none } } tests
  generalize State.thermosOut { s with gl := { s.gl with trans := none } } tests = u at heq exited
  obtain ⟨hnew, hends⟩ := u.endsIn_shows x
  generalize u.endsIn x = p at heq hnew hends
  have away : p.2 ≠ 9 := by
    rcases hnew with h | h
    · exact h ▸ hne
    · rw [h]
      decide
  rw [if_neg away] at heq
  obtain ⟨hmode, hprev, -, hevent, hexit, -⟩ := (p.1.crossMode x 9 p.2).showMode_shows 9 p.2 x.auto
  have crossed := p.1.crossMode_exit x p.2
  generalize (p.1.crossMode x 9 p.2).showMode 9 p.2 x.auto = v at heq hmode hprev hevent hexit
  generalize p.1.crossMode x 9 p.2 = w at crossed hexit
  obtain ⟨fregs, -, -, -⟩ := v.modeShown_follows ((List.range 16).filter fun g => State.groupActive { s with gl := { s.gl with trans := none } } g) x 9 p.2
  refine ⟨s.endTrans tests, rfl, ?_⟩
  rw [heq]
  refine ⟨?_, (fregs _ rfl).trans hprev, (fregs _ rfl).trans (hexit.trans (crossed.trans (hends.trans exited))), (fregs _ rfl).trans hevent⟩
  have shown : State.mode _ = p.2 % 16 := (fregs _ rfl).trans hmode
  rcases hnew with h | h
  · exact .inl (h ▸ shown)
  · exact .inr (shown.trans (by rw [h]))

/-- Settles O57: the commands of the mode, the stop of egress and both ends of a transition, each by the lemma about it. -/
theorem modeResults : Obligations.ModeResults := by
  unfold Obligations.ModeResults
  exact fun s => ⟨fun c hs hmask hlt => modeSet_results hs hmask hlt, fun x hx h10 hoff => egressStopped_shows hx h10 hoff,
    fun h tests => congrArg Host.Outcome.next (by unfold State.endTrans; rw [h]), fun x tests hx h9 => modeChange_shows tests hx h9,
    fun x tests hx h9 hne => modeChange_wakes tests hx h9 hne⟩

end Sys2Proof.Machine
end

section
/-! ## Rucksack: the engines' registers, and what a job's end does (R358-R373) -/
namespace Sys2Proof.Machine

-- One declaration is checked at a time, so that the text with all its files is checked in bounded memory.
set_option Elab.async false

/-! ### The engines' status fields -/

/-- A field of an engine's status word RK_ENG, or the event QUARANTINE. -/
def Fld.engStat (g : Fld) : Bool :=
  (decide (0x400800 ≤ g.key) && decide (g.key < 0x400A00) && decide (g.key % 128 < 32)) || decide (g.key = 0x400040)

theorem Fld.engStat_iff {g : Fld} : g.engStat = true ↔ (0x400800 ≤ g.key ∧ g.key < 0x400A00 ∧ g.key % 128 < 32) ∨ g.key = 0x400040 := by
  simp only [Fld.engStat, Bool.or_eq_true, Bool.and_eq_true, decide_eq_true_eq, and_assoc]

theorem Fld.engStat_block {g : Fld} (hg : g.engStat = true) : g.block = 8 := by
  rw [Fld.engStat_iff] at hg
  exact Fld.block_of_low (by omega) (by omega) (by decide)

theorem Fld.ejobs_block (e : Fin 4) : (F.RK_EJOBS_COUNT e).block = 8 := by
  revert e
  decide

/-- An operation that leaves the engines' status words and the event QUARANTINE alone. -/
def EngKept (s t : State) : Prop := ∀ g : Fld, g.engStat = true → t.fld g = s.fld g

namespace EngKept
variable {s t u : State}

theorem refl (s : State) : EngKept s s := fun _ _ => rfl

theorem trans (h : EngKept s t) (h' : EngKept t u) : EngKept s u := fun g hg => (h' g hg).trans (h g hg)

theorem of_regs (h : t.regs = s.regs) : EngKept s t := fun g _ => congrFun (State.fld_congr h) g

theorem of_regFr {B : Nat} (h : RegFr B s t) (hB : B.testBit 8 = false) : EngKept s t := fun g hg => h g (by rw [Fld.engStat_block hg, hB])

theorem setFld (h : EngKept s t) {f : Fld} (v : Nat) (hf : f.engStat = false) : EngKept s (t.setFld f v) := fun g hg =>
  (State.fld_setFld_ne _ _ _ _ fun hk => by
    simp only [Fld.engStat, hk] at hf
    exact Bool.noConfusion (hg.symm.trans hf)).trans (h g hg)

theorem setFlag (h : EngKept s t) {f : Fld} (b : Bool) (hf : f.engStat = false) : EngKept s (t.setFlag f b) := h.setFld _ hf

theorem incW (h : EngKept s t) {f : Fld} (n : Nat) (hf : f.engStat = false) : EngKept s (t.incW f n) := h.setFld _ hf

theorem outRl {g : Fld} (hg : g.engStat = true) : outRl g = true := outRl_of_block (by rw [Fld.engStat_block hg]; decide)

theorem incS (h : EngKept s t) {f : Fld} (n : Nat) (hf : f.engStat = false) : EngKept s (t.incS f n) := fun g hg =>
  (State.fld_incS _ _ _ _ (outRl hg)).trans ((h.setFld _ hf) g hg)

theorem rkMark (h : EngKept s t) : EngKept s t.rkMark := (h.setFld (f := F.RK_QHWM_CELL_HWM) _ rfl).setFld (f := F.RK_QHWM_HOST_HWM) _ rfl

end EngKept

/-! ### What a job leaves in memory and with the peers -/

theorem RegFr.jobProgress {B : Nat} {s t : State} (h : RegFr B s t) (hnd : Nat) (always : Bool) (hB : partSub 0x44 B = true) :
    RegFr B s (t.jobProgress hnd always) := by
  cases hj : t.job hnd with
  | none =>
    unfold State.jobProgress
    rw [hj]
    exact h
  | some j =>
    rw [State.jobProgress_eq hj]
    exact .ite ((h.trans (.of_regs (t := t.setJob { j with lastReport := some t.elapsed }) rfl)).raise _ _ _ _ (partSub_bit hB rfl) (.inr (.inl rfl))) h

theorem RegFr.checkpointed {B : Nat} {s t : State} (h : RegFr B s t) (hnd n : Nat) (hB : partSub 0x44 B = true) : RegFr B s (t.checkpointed hnd n) := by
  unfold State.checkpointed
  split
  · exact h
  · refine .ite (RegFr.jobProgress (h.trans (.of_regs ?_)) _ _ hB) h
    rfl

theorem RegFr.checkpointSend {B : Nat} {s t : State} (h : RegFr B s t) (n written : Nat) (hB : partSub 0x44 B = true) : RegFr B s (t.checkpointSend n written) := by
  unfold State.checkpointSend
  split
  · dsimp only
    have queued (l : Nat) (b : FabBody) : RegFr B s (t.fabQueue l b 0) := h.trans (.of_regs rfl)
    refine .ite ?_ (queued _ _)
    unfold State.fullSent
    exact .foldl (fun u hnd _ hu => hu.checkpointed hnd n hB) (queued _ _)
  · exact h

theorem RegFr.sourceToken {B : Nat} {s t : State} (h : RegFr B s t) (n e frame : Nat) (hB : partSub 0x58 B = true) : RegFr B s (t.sourceToken n e frame) := by
  unfold State.sourceToken
  split
  · exact h
  · split
    · exact (h.trans (.of_regs ((State.placeToken_fr _ _ _ _ _ _ (.refl _)).regs rfl))).makeReady _ _ hB
    · refine .hwDrop ?_ n e (partSub_trans hB rfl)
      unfold State.noteRefusal
      split
      · exact h.setFlag (f := F.TH_EVENT_POOL_FULL) true (partSub_bit hB rfl)
      · exact h.setFlag (f := F.TH_EVENT_QUEUE_FULL) true (partSub_bit hB rfl)
      · exact h.setFlag (f := F.TH_EVENT_WINDOW_FULL) true (partSub_bit hB rfl)
      · exact h

theorem State.setBytes_regs (s : State) (a : Nat) (l : List Byte) : (s.setBytes a l).regs = s.regs := (State.setBytes_fr _ _ _ (.refl _)).regs rfl

theorem RegFr.remoteAccess {B : Nat} {s t : State} (h : RegFr B s t) (a n : Nat) (data : Option (List Byte)) (host : Nat) (o : Option Origin)
    (hB : partSub 0x240 B = true) : RegFr B s (t.remoteAccess a n data host o) := by
  have counted {u : State} (hu : RegFr B s u) (i : Nat) (hi : i < 32) : RegFr B s (u.twCount i 1) := by
    have hf : B.testBit (F.TW_CNT_COUNT i).block = true := by
      rw [show (F.TW_CNT_COUNT i).block = 9 from Fld.block_of_low (by simp only [Fld.key, F.TW_CNT_COUNT, R.TW_CNT]; omega)
        (by simp only [Fld.key, F.TW_CNT_COUNT, R.TW_CNT]; omega) (by decide)]
      exact partSub_bit hB rfl
    exact .ite (hu.incWrap _ _ hf (partSub_bit hB rfl)) (hu.incS _ hf (partSub_bit hB rfl))
  unfold State.remoteAccess
  dsimp only
  refine .foldl (fun u p _ hu => ?_) h
  cases data with
  | none =>
    refine counted (hu.trans (.of_regs ?_)) 11 (by decide)
    rfl
  | some d =>
    refine counted (hu.trans (.of_regs ?_)) 12 (by decide)
    rfl

theorem RegFr.rkWrite {B : Nat} {s t : State} (h : RegFr B s t) (a : Nat) (l : List Byte) (hB : partSub 0x240 B = true) : RegFr B s (t.rkWrite a l) :=
  .ite (.ite h (h.remoteAccess _ _ _ _ _ hB)) (h.trans (.of_regs (State.setBytes_regs _ _ _)))

theorem RegFr.rkAccess {B : Nat} {s t : State} (h : RegFr B s t) (a n : Nat) (write : Bool) (fail : Nat) (hB : partSub 0x50 B = true) :
    RegFr B s (t.rkAccess a n write fail).1 := by
  have hhp : B.testBit 4 = true := partSub_bit hB rfl
  have hrl : B.testBit 6 = true := partSub_bit hB rfl
  have far : RegFr B s t.remoteErr := (h.incS (f := F.HP_CACHE_CNT_REMOTE_ERR) 1 hhp hrl).setFlag (f := F.HP_EVENT_REMOTE_ERR) true hhp
  unfold State.rkAccess
  split
  · split
    · exact far
    · split
      · exact far
      · exact h
  · split
    · split
      · exact h.event (f := F.HP_EVENT_UNMAPPED) _ _ _ _ _ hhp hrl (by decide)
      · exact h
    · split
      · exact h.setFlag (f := F.HP_EVENT_POISON) true hhp
      · exact h

/-! ### A job's accesses (R370) -/

/-- One access of a job: the first that fails decides. -/
def rkReachStep (far : RkFar) (acc : State × Nat) (x : Nat × Nat × Bool) : State × Nat :=
  if acc.2 ≠ 0 ∨ x.2.1 = 0 then acc else acc.1.rkAccess x.1 x.2.1 x.2.2 far.fail

/-- The accesses that a job makes: the address, the length and whether it writes. -/
def rkAccesses (j : RkJob) : List (Nat × Nat × Bool) :=
  let resume := decide (rkOp j.words = 2) || decide (j.skip ≠ 0)
  (if resume then [] else [(rkAddr j.words 1, nth j.words 3, false)])
    ++ (if rkDictIn j.words && !resume then [(rkAddr j.words 9, 32832, false)] else [])
    ++ (if rkDictOut j.words then [(rkAddr j.words 9, 32832, true)] else [])
    ++ (if rkAddr j.words 7 ≠ 0 then [(rkAddr j.words 7, 34816, true)] else [])
    ++ [(rkAddr j.words 4, nth j.words 6, true)]

theorem State.rkReach_eq (s : State) (j : RkJob) (far : RkFar) : s.rkReach j far = (rkAccesses j).foldl (rkReachStep far) (s, 0) := rfl

theorem RegFr.rkReach {B : Nat} {s : State} (j : RkJob) (far : RkFar) (hB : partSub 0x50 B = true) : RegFr B s (s.rkReach j far).1 := by
  have all (l : List (Nat × Nat × Bool)) : ∀ acc : State × Nat, RegFr B s acc.1 → RegFr B s (l.foldl (rkReachStep far) acc).1 := by
    induction l with
    | nil => exact fun _ h => h
    | cons x l ih =>
      intro acc h
      refine ih _ ?_
      unfold rkReachStep
      split
      · exact h
      · exact h.rkAccess _ _ _ _ hB
  rw [State.rkReach_eq]
  exact all _ _ (.refl s)

/-- An access that succeeds changes nothing. -/
theorem State.rkAccess_ok {s : State} {a n fail : Nat} {write : Bool} (h : (s.rkAccess a n write fail).2 = 0) : (s.rkAccess a n write fail).1 = s := by
  unfold State.rkAccess at h ⊢
  split
  case isTrue hslot =>
    rw [if_pos hslot] at h
    split
    case isTrue hw =>
      rw [if_pos hw] at h
      exact absurd h (Nat.succ_ne_zero _)
    case isFalse hw =>
      rw [if_neg hw] at h
      split
      case isTrue hf =>
        rw [if_pos hf] at h
        exact absurd h hf
      case isFalse => rfl
  case isFalse hslot =>
    rw [if_neg hslot] at h
    split
    case isTrue hm =>
      rw [if_pos hm] at h
      split at h <;> exact absurd h (Nat.succ_ne_zero _)
    case isFalse hm =>
      rw [if_neg hm] at h
      split
      case isTrue hp =>
        rw [if_pos hp] at h
        exact absurd h (Nat.succ_ne_zero _)
      case isFalse => rfl

/-- A job whose accesses all succeed finds the state as it was. -/
theorem State.rkReach_ok {s : State} {j : RkJob} {far : RkFar} (h : (s.rkReach j far).2 = 0) : (s.rkReach j far).1 = s := by
  have all (l : List (Nat × Nat × Bool)) : ∀ acc : State × Nat, (l.foldl (rkReachStep far) acc).2 = 0 → acc.2 = 0 ∧ (l.foldl (rkReachStep far) acc).1 = acc.1 := by
    induction l with
    | nil => exact fun _ h => ⟨h, rfl⟩
    | cons x l ih =>
      intro acc h
      obtain ⟨hz, heq⟩ := ih _ h
      rw [List.foldl_cons, heq]
      unfold rkReachStep at hz ⊢
      split
      case isTrue hs =>
        rw [if_pos hs] at hz
        exact ⟨hz, rfl⟩
      case isFalse hs =>
        rw [if_neg hs] at hz
        exact ⟨not_not.1 (not_or.1 hs).1, State.rkAccess_ok hz⟩
  rw [State.rkReach_eq] at h ⊢
  exact (all _ _ h).2

/-! ### The end of a job (R361, R363, R370, R373) -/

/-- Where the answer of an ended job goes: the host completion, or the cell's words, the checkpoint and the token. -/
def State.rkDeliver (s : State) (j : RkJob) (status detail consumed written check w12 : Nat) : State :=
  match j.host with
  | some h => s.endJob h status detail [w12, consumed, written, check]
  | none =>
    match s.chan j.chan with
    | none => s
    | some c =>
      let s := match s.cellAddr c with
        | some a => s.cellDone a (w12 + 3) consumed written check
        | none => s
      let s := if status ≤ 1 ∧ s.inMirror c (rkAddr j.words 4) then s.checkpointSend j.chan written else s
      if rkToken j.words then s.sourceToken j.chan (rkEdge j.words) c.frameNo else s

theorem State.rkDeliver_regFr (s : State) (j : RkJob) (status detail consumed written check w12 : Nat) :
    RegFr 0x5C s (s.rkDeliver j status detail consumed written check w12) := by
  unfold State.rkDeliver
  split
  · exact (RegFr.refl s).endJob _ _ _ _ rfl
  · split
    · exact .refl s
    · dsimp only
      have told (o : Option Nat) : RegFr 0x5C s (match o with
          | some a => s.cellDone a (w12 + 3) consumed written check
          | none => s) := by
        cases o with
        | none => exact .refl s
        | some a => exact .of_regs (State.setBytes_regs _ _ _)
      have sent {u : State} (p : Prop) [Decidable p] (hu : RegFr 0x5C s u) : RegFr 0x5C s (if p then u.checkpointSend j.chan written else u) :=
        .ite (hu.checkpointSend _ _ rfl) hu
      exact .ite ((sent _ (told _)).sourceToken _ _ _ rfl) (sent _ (told _))

theorem State.rkDeliver_rk (s : State) (j : RkJob) (status detail consumed written check w12 : Nat) :
    (s.rkDeliver j status detail consumed written check w12).rk = s.rk := by
  unfold State.rkDeliver
  split
  · exact (State.endJob_fr _ _ _ _ _ (.refl _)).rk rfl
  · split
    · rfl
    · dsimp only
      have told (o : Option Nat) : (match o with
          | some a => s.cellDone a (w12 + 3) consumed written check
          | none => s).rk = s.rk := by
        cases o with
        | none => rfl
        | some a => exact (State.cellDone_fr _ _ _ _ _ _ (.refl _)).rk rfl
      have sent {u : State} (p : Prop) [Decidable p] (hu : u.rk = s.rk) : (if p then u.checkpointSend j.chan written else u).rk = s.rk := by
        split
        · exact ((State.checkpointSend_fr _ _ _ (.refl _)).rk rfl).trans hu
        · exact hu
      split
      · exact ((State.sourceToken_fr _ _ _ _ (.refl _)).rk rfl).trans (sent _ (told _))
      · exact sent _ (told _)

/-- An ended job is counted, and its engine is free. -/
def State.rkEnded (s : State) (e status detail : Nat) : State :=
  if status = 10 then ((s.engFree e).rkCount e detail).setFlag F.RK_EVENT_DATA_ERROR true else (s.engFree e).rkCount e detail

theorem State.rkEnd_eq (s : State) (e : Nat) (j : RkJob) (status detail consumed written check : Nat) (verified saved : Bool) :
    ∃ status' w12, s.rkEnd e j status detail consumed written check verified saved = (s.rkEnded e status detail).rkDeliver j status' detail consumed written check w12 :=
  ⟨_, _, rfl⟩

theorem State.engFree_shows (s : State) (e : Fin 4) : (s.engFree e).fld (F.RK_ENG_STATE e) = 0 ∧ (s.engFree e).engJob e = none
    ∧ (s.engFree e).fld (F.RK_EJOBS_COUNT e) = s.fld (F.RK_EJOBS_COUNT e) ∧ (s.engFree e).fld (F.RK_ENG_QUARANTINES e) = s.fld (F.RK_ENG_QUARANTINES e) := by
  have keys (f : Nat → Fld) (g : Nat → Fld) (h : ∀ k : Fin 4, (f k).key ≠ (g k).key) : (f e).key ≠ (g e).key := h e
  unfold State.engFree
  dsimp only
  refine ⟨?_, ?_, ?_, ?_⟩
  · rw [State.fld_setFlag_ne _ _ _ _ (keys F.RK_ENG_HOST F.RK_ENG_STATE (by decide)), State.fld_setFld_ne _ _ _ _ (keys F.RK_ENG_OP F.RK_ENG_STATE (by decide)),
      State.fld_setFld_same]
    rfl
  · exact mfind_mdel_same _ _
  · rw [State.fld_setFlag_ne _ _ _ _ (keys F.RK_ENG_HOST F.RK_EJOBS_COUNT (by decide)), State.fld_setFld_ne _ _ _ _ (keys F.RK_ENG_OP F.RK_EJOBS_COUNT (by decide)),
      State.fld_setFld_ne _ _ _ _ (keys F.RK_ENG_STATE F.RK_EJOBS_COUNT (by decide))]
    rfl
  · rw [State.fld_setFlag_ne _ _ _ _ (keys F.RK_ENG_HOST F.RK_ENG_QUARANTINES (by decide)),
      State.fld_setFld_ne _ _ _ _ (keys F.RK_ENG_OP F.RK_ENG_QUARANTINES (by decide)), State.fld_setFld_ne _ _ _ _ (keys F.RK_ENG_STATE F.RK_ENG_QUARANTINES (by decide))]
    rfl

/-- The keys of an engine's fields, by evaluation. -/
theorem eng_key_ne (f g : Nat → Fld) (h : ∀ k : Fin 4, (f k).key ≠ (g k).key) (e : Fin 4) : (f e).key ≠ (g e).key := h e

theorem Fld.dcnt_engStat (n : Nat) : (F.RK_DCNT_COUNT n).engStat = false := by
  rw [Bool.eq_false_iff, Ne, Fld.engStat_iff]
  simp only [Fld.key, F.RK_DCNT_COUNT, R.RK_DCNT]
  omega

theorem Fld.dcnt_ne_ejobs (n : Nat) (e : Fin 4) : (F.RK_DCNT_COUNT n).key ≠ (F.RK_EJOBS_COUNT e).key := by
  simp only [Fld.key, F.RK_DCNT_COUNT, R.RK_DCNT, F.RK_EJOBS_COUNT, R.RK_EJOBS]
  omega

theorem Fld.ejobs_engStat (e : Fin 4) : (F.RK_EJOBS_COUNT e).engStat = false := by
  revert e
  decide

theorem Fld.ejobs_outRl (e : Fin 4) : outRl (F.RK_EJOBS_COUNT e) = true := outRl_of_block (by rw [Fld.ejobs_block]; decide)

/-- An ended job is counted on its engine, and the engines' status words stay. -/
theorem State.rkCount_shows (s : State) (e : Fin 4) (detail : Nat) : EngKept s (s.rkCount e detail)
    ∧ (s.rkCount e detail).fld (F.RK_EJOBS_COUNT e) = (s.fld (F.RK_EJOBS_COUNT e) + 1) % 2 ^ (F.RK_EJOBS_COUNT e).w := by
  have low {f : Fld} (h : f.key < 0x400200) : f.key ≠ (F.RK_EJOBS_COUNT e).key := by
    simp only [Fld.key, F.RK_EJOBS_COUNT, R.RK_EJOBS] at h ⊢
    omega
  have jobs : EngKept s (((s.setFld F.RK_JOBS_LO_JOBS (s.fld F.RK_JOBS_LO_JOBS + 2 ^ 32 * s.fld F.RK_JOBS_HI_JOBS + 1)).setFld F.RK_JOBS_HI_JOBS
      ((s.fld F.RK_JOBS_LO_JOBS + 2 ^ 32 * s.fld F.RK_JOBS_HI_JOBS + 1) / 2 ^ 32)).incW (F.RK_EJOBS_COUNT e) 1) :=
    (((EngKept.refl s).setFld _ rfl).setFld _ rfl).incW _ (Fld.ejobs_engStat e)
  have counted : (((s.setFld F.RK_JOBS_LO_JOBS (s.fld F.RK_JOBS_LO_JOBS + 2 ^ 32 * s.fld F.RK_JOBS_HI_JOBS + 1)).setFld F.RK_JOBS_HI_JOBS
      ((s.fld F.RK_JOBS_LO_JOBS + 2 ^ 32 * s.fld F.RK_JOBS_HI_JOBS + 1) / 2 ^ 32)).incW (F.RK_EJOBS_COUNT e) 1).fld (F.RK_EJOBS_COUNT e)
        = (s.fld (F.RK_EJOBS_COUNT e) + 1) % 2 ^ (F.RK_EJOBS_COUNT e).w := by
    unfold State.incW
    rw [State.fld_setFld_same, State.fld_setFld_ne _ _ _ _ (low (by decide)), State.fld_setFld_ne _ _ _ _ (low (by decide))]
  unfold State.rkCount
  dsimp only
  split
  · exact ⟨jobs.incS _ (Fld.dcnt_engStat _), (State.fld_incS_ne _ _ _ _ (Fld.ejobs_outRl e) (Fld.dcnt_ne_ejobs _ e)).trans counted⟩
  · exact ⟨jobs, counted⟩

theorem State.rkCount_rk (s : State) (e detail : Nat) : (s.rkCount e detail).rk = s.rk := (State.rkCount_fr _ _ _ (.refl _)).rk rfl

theorem Fld.engStat_of (f : Nat → Fld) (h : ∀ k : Fin 4, (f k).engStat = true) (e : Fin 4) : (f e).engStat = true := h e

/-- The end of a job frees its engine and counts the job. -/
theorem State.rkEnd_shows (s : State) (e : Fin 4) (j : RkJob) (status detail consumed written check : Nat) (verified saved : Bool) :
    EngKept (s.engFree e) (s.rkEnd e j status detail consumed written check verified saved)
    ∧ (s.rkEnd e j status detail consumed written check verified saved).rk = (s.engFree e).rk
    ∧ (s.rkEnd e j status detail consumed written check verified saved).fld (F.RK_EJOBS_COUNT e) = (s.fld (F.RK_EJOBS_COUNT e) + 1) % 2 ^ (F.RK_EJOBS_COUNT e).w := by
  obtain ⟨status', w12, heq⟩ := s.rkEnd_eq e j status detail consumed written check verified saved
  obtain ⟨hkept, hcount⟩ := (s.engFree e).rkCount_shows e detail
  rw [(s.engFree_shows e).2.2.1] at hcount
  have hrk := (s.engFree e).rkCount_rk e detail
  have ended : EngKept (s.engFree e) (s.rkEnded e status detail) ∧ (s.rkEnded e status detail).rk = (s.engFree e).rk
      ∧ (s.rkEnded e status detail).fld (F.RK_EJOBS_COUNT e) = (s.fld (F.RK_EJOBS_COUNT e) + 1) % 2 ^ (F.RK_EJOBS_COUNT e).w := by
    unfold State.rkEnded
    split
    · exact ⟨hkept.setFlag _ rfl, hrk, (State.fld_setFlag_ne _ _ _ _ (eng_key_ne (fun _ => F.RK_EVENT_DATA_ERROR) F.RK_EJOBS_COUNT (by decide) e)).trans hcount⟩
    · exact ⟨hkept, hrk, hcount⟩
  obtain ⟨ekept, erk, ecount⟩ := ended
  rw [heq]
  have told := (s.rkEnded e status detail).rkDeliver_regFr j status' detail consumed written check w12
  exact ⟨ekept.trans (.of_regFr told rfl), ((s.rkEnded e status detail).rkDeliver_rk j status' detail consumed written check w12).trans erk,
    (told _ (by rw [Fld.ejobs_block]; rfl)).trans ecount⟩

theorem State.rkEnd_free (s : State) (e : Fin 4) (j : RkJob) (status detail consumed written check : Nat) (verified saved : Bool) :
    (s.rkEnd e j status detail consumed written check verified saved).fld (F.RK_ENG_STATE e) = 0
    ∧ (s.rkEnd e j status detail consumed written check verified saved).engJob e = none := by
  obtain ⟨hkept, hrk, -⟩ := s.rkEnd_shows e j status detail consumed written check verified saved
  obtain ⟨hstate, hjob, -, -⟩ := s.engFree_shows e
  refine ⟨(hkept _ (Fld.engStat_of F.RK_ENG_STATE (by decide) e)).trans hstate, ?_⟩
  unfold State.engJob at hjob ⊢
  rw [hrk]
  exact hjob

/-- The end of a host job leaves Hamper. -/
theorem State.rkEnd_hp (s : State) (e : Nat) {j : RkJob} {h : Nat} (hh : j.host = some h) (status detail consumed written check : Nat) (verified saved : Bool) :
    (s.rkEnd e j status detail consumed written check verified saved).hp = s.hp := by
  obtain ⟨status', w12, heq⟩ := s.rkEnd_eq e j status detail consumed written check verified saved
  have ended : (s.rkEnded e status detail).hp = s.hp := by
    unfold State.rkEnded
    have counted : ((s.engFree e).rkCount e detail).hp = s.hp := (State.rkCount_fr (s.engFree e) e detail (.refl _)).hp rfl
    split <;> exact counted
  rw [heq]
  unfold State.rkDeliver
  rw [hh]
  exact ((State.endJob_fr _ _ _ _ _ (.refl _)).hp rfl).trans ended

/-! ### A job that ends (R363, R367-R369, R373) -/

/-- The counts of bytes leave the engine's job count, Hamper, the host interface, the jobs and the state blocks. -/
theorem State.rkBytes_shows (s : State) (e : Fin 4) (out : Bool) (n : Nat) : (s.rkBytes e out n).fld (F.RK_EJOBS_COUNT e) = s.fld (F.RK_EJOBS_COUNT e)
    ∧ (s.rkBytes e out n).hp = s.hp ∧ (s.rkBytes e out n).hi = s.hi ∧ (s.rkBytes e out n).rk.conts = s.rk.conts := by
  have fr := State.rkBytes_fr s e out n (.refl s)
  have low {f : Fld} (h : f.key < 0x400200) : f.key ≠ (F.RK_EJOBS_COUNT e).key := by
    simp only [Fld.key, F.RK_EJOBS_COUNT, R.RK_EJOBS] at h ⊢
    omega
  have two (u : State) {f g : Fld} (v w : Nat) (hf : f.key < 0x400200) (hg : g.key < 0x400200) :
      ((u.setFld f v).setFld g w).fld (F.RK_EJOBS_COUNT e) = u.fld (F.RK_EJOBS_COUNT e) := by
    rw [State.fld_setFld_ne _ _ _ _ (low hg), State.fld_setFld_ne _ _ _ _ (low hf)]
  have counted (u : State) {f : Fld} (hf : f.key ≠ (F.RK_EJOBS_COUNT e).key) (k : Nat) (w : Bool) :
      (u.incWrap f k w).fld (F.RK_EJOBS_COUNT e) = u.fld (F.RK_EJOBS_COUNT e) :=
    (State.fld_incWrap _ _ _ _ _ (Fld.ejobs_outRl e)).trans (State.fld_setFld_ne _ _ _ _ hf)
  have wrap (u : State) {f : Fld} (k : Nat) (w : Bool) : (u.incWrap f k w).rk = u.rk := (State.incWrap_fr _ _ _ _ (.refl _)).rk rfl
  refine ⟨?_, fr.hp rfl, fr.hi rfl, ?_⟩
  · cases out
    · exact (two _ _ _ (by decide) (by decide)).trans (counted _ (eng_key_ne F.RK_EIN_COUNT F.RK_EJOBS_COUNT (by decide) e) _ _)
    · exact (two _ _ _ (by decide) (by decide)).trans (counted _ (eng_key_ne F.RK_EOUT_COUNT F.RK_EJOBS_COUNT (by decide) e) _ _)
  · cases out
    · refine (congrArg Rucksack.conts (wrap _ _ _)).trans ?_
      rfl
    · refine (congrArg Rucksack.conts (wrap _ _ _)).trans ?_
      rfl

/-- Bytes go out and come in, as their engine counts them. -/
def State.rkPut (s : State) (e : Nat) (j : RkJob) (out : List (Byte × Nat)) : State :=
  ((s.rkWrite (rkAddr j.words 4 + j.skip) (out.map (·.1))).rkBytes e true out.length).rkBytes e false (if rkOp j.words = 2 ∨ j.skip ≠ 0 then 0 else nth j.words 3)

/-- A second run is counted, and whether it was good. -/
def State.rkSecond (s : State) (j : RkJob) (good : Prop) [Decidable good] : State :=
  if j.second then s.incS F.RK_REPLAY_CNT_REPLAYS (if good then 1 else 0) else s

/-- What a job without an injected fault does when its accesses succeed: `k` are its bytes and its end. -/
def State.rkFinish (s : State) (e : Nat) (j : RkJob) (k : List (Byte × Nat) × RkFin × Nat) : State :=
  let cap := nth j.words 6 - j.skip
  let out := k.1.take cap
  let n := j.skip + out.length
  let s := s.rkPut e j out
  let used := (out.getLast?.map (·.2)).getD 0
  let s := s.rkSecond j (k.2.1.status = 0 ∧ k.1.length ≤ cap)
  if k.1.length > cap then
    let a := rkAddr j.words 7
    if a = 0 then s.rkEnd e j 7 0x40 used n 0 false false
    else (s.rkSuspend a ⟨k.2.2, k.1.drop cap, k.2.1⟩).rkEnd e j 4 0x40 used n 0 false false
  else
    let f := k.2.1
    let saved := f.dictAddr.isSome && decide (f.status = 0)
    let s := match f.dictAddr with
      | some a => if f.status = 0 then s.rkWrite a (dictBlock f.dict) else s
      | none => s
    s.rkEnd e j f.status f.detail f.consumed n f.check (decide (f.status = 0) && decide (k.2.2 = 0)) saved

theorem State.rkJobEnd_eq {s : State} {e : Nat} {j : RkJob} (far : RkFar) (hj : s.engJob e = some j) (hinj : mget 0 (s.rkReach j far).1.rk.inject e = 0) :
    s.rkJobEnd e far [] = if (s.rkReach j far).2 ≠ 0 then (s.rkReach j far).1.rkEnd e j (s.rkReach j far).2 0x4C 0 0 0 false false
      else (s.rkReach j far).1.rkFinish e j ((s.rkReach j far).1.rkWork j far) := by
  unfold State.rkJobEnd
  rw [hj]
  dsimp only
  have nil : s.memErrs [] = s := rfl
  rw [nil]
  generalize s.rkReach j far = r at hinj ⊢
  rw [hinj]
  rfl

/-- The job of an engine has ended: the engine is free, and the job counted. -/
def JobEnded (s t : State) (e : Fin 4) : Prop :=
  t.fld (F.RK_ENG_STATE e) = 0 ∧ t.engJob e = none ∧ t.fld (F.RK_EJOBS_COUNT e) = (s.fld (F.RK_EJOBS_COUNT e) + 1) % 2 ^ (F.RK_EJOBS_COUNT e).w

theorem JobEnded.of_rkEnd {s v : State} {e : Fin 4} (h : v.fld (F.RK_EJOBS_COUNT e) = s.fld (F.RK_EJOBS_COUNT e)) (j : RkJob)
    (status detail consumed written check : Nat) (verified saved : Bool) : JobEnded s (v.rkEnd e j status detail consumed written check verified saved) e := by
  obtain ⟨hstate, hjob⟩ := v.rkEnd_free e j status detail consumed written check verified saved
  exact ⟨hstate, hjob, h ▸ (v.rkEnd_shows e j status detail consumed written check verified saved).2.2⟩

theorem State.rkPut_shows (s : State) (e : Fin 4) (j : RkJob) (out : List (Byte × Nat)) : (s.rkPut e j out).fld (F.RK_EJOBS_COUNT e) = s.fld (F.RK_EJOBS_COUNT e)
    ∧ (s.rkPut e j out).hp = (s.rkWrite (rkAddr j.words 4 + j.skip) (out.map (·.1))).hp := by
  have written := (RegFr.refl s).rkWrite (B := 0x240) (rkAddr j.words 4 + j.skip) (out.map (·.1)) rfl (F.RK_EJOBS_COUNT e) (by rw [Fld.ejobs_block]; rfl)
  unfold State.rkPut
  generalize s.rkWrite (rkAddr j.words 4 + j.skip) (out.map (·.1)) = u at written ⊢
  obtain ⟨hfld, hhp, -, -⟩ := u.rkBytes_shows e true out.length
  obtain ⟨hfld', hhp', -, -⟩ := (u.rkBytes e true out.length).rkBytes_shows e false (if rkOp j.words = 2 ∨ j.skip ≠ 0 then 0 else nth j.words 3)
  exact ⟨hfld'.trans (hfld.trans written), hhp'.trans hhp⟩

theorem State.rkSecond_shows (s : State) (e : Fin 4) (j : RkJob) (good : Prop) [Decidable good] :
    (s.rkSecond j good).fld (F.RK_EJOBS_COUNT e) = s.fld (F.RK_EJOBS_COUNT e) ∧ (s.rkSecond j good).hp = s.hp := by
  unfold State.rkSecond
  split
  · exact ⟨State.fld_incS_ne _ _ _ _ (Fld.ejobs_outRl e) (eng_key_ne (fun _ => F.RK_REPLAY_CNT_REPLAYS) F.RK_EJOBS_COUNT (by decide) e),
      (State.incS_fr _ _ _ (.refl _)).hp rfl⟩
  · exact ⟨rfl, rfl⟩

theorem State.rkSuspend_regs (s : State) (a : Nat) (c : RkCont) : (s.rkSuspend a c).regs = s.regs := (State.rkSuspend_fr _ _ _ (.refl _)).regs rfl

theorem State.rkWrite_near (s : State) {a : Nat} (l : List Byte) (h : Sys2Proof.Machine.slotOf a = 0) : s.rkWrite a l = s.setBytes a l :=
  if_neg (not_not.2 h)

theorem State.rkFinish_shows (s : State) (e : Fin 4) (j : RkJob) (k : List (Byte × Nat) × RkFin × Nat) : JobEnded s (s.rkFinish e j k) e
    ∧ ∀ h, j.host = some h → Sys2Proof.Machine.slotOf (rkAddr j.words 4 + j.skip) = 0 → k.1.length ≤ nth j.words 6 - j.skip → k.2.1.dictAddr = none →
      (s.rkFinish e j k).hp = (s.setBytes (rkAddr j.words 4 + j.skip) (k.1.map (·.1))).hp := by
  obtain ⟨pfld, php⟩ := s.rkPut_shows e j (k.1.take (nth j.words 6 - j.skip))
  obtain ⟨sfld, shp⟩ := (s.rkPut e j (k.1.take (nth j.words 6 - j.skip))).rkSecond_shows e j (k.2.1.status = 0 ∧ k.1.length ≤ nth j.words 6 - j.skip)
  unfold State.rkFinish
  dsimp only
  generalize (s.rkPut e j (k.1.take (nth j.words 6 - j.skip))).rkSecond j (k.2.1.status = 0 ∧ k.1.length ≤ nth j.words 6 - j.skip) = v at sfld shp ⊢
  have same : v.fld (F.RK_EJOBS_COUNT e) = s.fld (F.RK_EJOBS_COUNT e) := sfld.trans pfld
  split
  case isTrue hlong =>
    refine ⟨?_, fun h hh hslot hle => absurd hle (by omega)⟩
    split
    · exact .of_rkEnd same ..
    · exact .of_rkEnd ((congrFun (State.fld_congr (State.rkSuspend_regs _ _ _)) _).trans same) ..
  case isFalse =>
    refine ⟨.of_rkEnd ?_ .., fun h hh hslot hle hdict => ?_⟩
    · split
      · split
        · exact ((RegFr.refl v).rkWrite (B := 0x240) _ _ rfl (F.RK_EJOBS_COUNT e) (by rw [Fld.ejobs_block]; rfl)).trans same
        · exact same
      · exact same
    · rw [hdict]
      dsimp only
      rw [State.rkEnd_hp _ _ hh, shp, php, State.rkWrite_near _ _ hslot, List.take_of_length_le hle]

theorem rkJobEnd_shows {s : State} {e : Fin 4} {j : RkJob} (input dict : List (BitVec 8)) (fail : BitVec 4) (hj : s.engJob e = some j)
    (hinj : mget 0 s.rk.inject e = 0) : ∃ t, Sys2Proof.Machine.exec (.rkJobEnd e input dict fail []) s = .next t ∧ t.fld (F.RK_ENG_STATE e) = 0 ∧ t.engJob e = none
      ∧ t.fld (F.RK_EJOBS_COUNT e) = (s.fld (F.RK_EJOBS_COUNT e) + 1) % 2 ^ (F.RK_EJOBS_COUNT e).w
      ∧ (let far : RkFar := ⟨input, dict, fail.toNat⟩
         let k := s.rkWork j far
         ∀ h, j.host = some h → (s.rkReach j far).2 = 0 → Sys2Proof.Machine.slotOf (rkAddr j.words 4 + j.skip) = 0 → k.1.length ≤ nth j.words 6 - j.skip →
           k.2.1.dictAddr = none → t.hp = (s.setBytes (rkAddr j.words 4 + j.skip) (k.1.map (·.1))).hp) := by
  have reachRk : (s.rkReach j ⟨input, dict, fail.toNat⟩).1.rk = s.rk := (State.rkReach_fr _ _ _ (.refl _)).rk rfl
  have reachFld := RegFr.rkReach (B := 0x50) (s := s) j ⟨input, dict, fail.toNat⟩ rfl (F.RK_EJOBS_COUNT e) (by rw [Fld.ejobs_block]; rfl)
  have heq := State.rkJobEnd_eq ⟨input, dict, fail.toNat⟩ hj (by rw [reachRk]; exact hinj)
  refine ⟨s.rkJobEnd e ⟨input, dict, fail.toNat⟩ [], rfl, ?_⟩
  rw [heq]
  split
  case isTrue hbad =>
    obtain ⟨hstate, hjob, hcount⟩ := JobEnded.of_rkEnd reachFld j (s.rkReach j ⟨input, dict, fail.toNat⟩).2 0x4C 0 0 0 false false
    exact ⟨hstate, hjob, hcount, fun h _ hok => absurd hok hbad⟩
  case isFalse hok =>
    obtain ⟨⟨hstate, hjob, hcount⟩, hhp⟩ := State.rkFinish_shows (s.rkReach j ⟨input, dict, fail.toNat⟩).1 e j
      ((s.rkReach j ⟨input, dict, fail.toNat⟩).1.rkWork j ⟨input, dict, fail.toNat⟩)
    refine ⟨hstate, hjob, hcount.trans (by rw [reachFld]), ?_⟩
    rw [State.rkReach_ok (not_not.1 hok)] at hhp ⊢
    exact fun h hh _ => hhp h hh

end Sys2Proof.Machine
end

section
/-! ## Rucksack: the engines' commands, quarantine and suspension (R358-R373) -/
namespace Sys2Proof.Machine

-- One declaration is checked at a time, so that the text with all its files is checked in bounded memory.
set_option Elab.async false

/-! ### RK_JOB (R360) -/

theorem rkJob_results {s : State} {c : HCmd} (hs : StartsJob s c 0x67 256 (fun _ => true)) (hmask : argMask c (List.replicate 12 0xFFFFFFFF) = true) :
    let w := (List.range 12).map (arg c)
    (rkBad false w = true → Sys2Proof.Machine.exec (.rkJob c) s = .next ((s.start c).complete (s.originOf c 0x67) 5 0 []))
    ∧ (rkBad false w = false → ∃ t, Sys2Proof.Machine.exec (.rkJob c) s = .next t
        ∧ t.rk.hostQ = s.rk.hostQ ++ [⟨some (cmdHandle c), 0, w, s.elapsed, false, false, 0⟩] ∧ t.rk.cellQ = s.rk.cellQ
        ∧ t.job (cmdHandle c) = some (newJob c (s.originOf c 0x67) .queued [] (nth w 3))) := by
  have checked := fun f => State.jobCommand_eq (f := f) (mode := true) (chan := none) (buf := false) hs hmask rfl fun _ hn => nomatch hn
  obtain ⟨-, -, hnone, -, -⟩ := hs
  intro w
  refine ⟨fun hbad => congrArg Host.Outcome.next ((checked _).trans (if_pos hbad)), fun hgood => ?_⟩
  have added := State.job_addJob_same (s := s.start c) (j := newJob c (s.originOf c 0x67) .queued [] (nth w 3)) hnone
  generalize hu : (s.start c).addJob (newJob c (s.originOf c 0x67) .queued [] (nth w 3)) = u at added
  have hrk : u.rk = s.rk := hu ▸ rfl
  refine ⟨State.rkMark { u with rk := { u.rk with hostQ := u.rk.hostQ ++ [⟨some (cmdHandle c), 0, w, u.elapsed, false, false, 0⟩] } }, ?_, ?_, ?_, ?_⟩
  · refine congrArg Host.Outcome.next ((checked _).trans ?_)
    rw [← hu]
    exact if_neg (by rw [hgood]; decide)
  · show u.rk.hostQ ++ [⟨some (cmdHandle c), 0, w, u.elapsed, false, false, 0⟩] = _
    rw [hrk, ← hu]
    rfl
  · show u.rk.cellQ = _
    rw [hrk]
  · exact added

/-! ### An engine takes a job (R364, R369) -/

/-- An engine has the job that it takes, and shows it. -/
def State.rkTaken (s : State) (e : Nat) (host : Bool) (j : RkJob) : State :=
  let s : State := { s with rk := { s.rk with
    hostQ := if host then s.rk.hostQ.erase j else s.rk.hostQ
    cellQ := if host then s.rk.cellQ else s.rk.cellQ.erase j
    eng := mput s.rk.eng e j
    lastHost := host } }
  let s := ((s.setFld (F.RK_ENG_STATE e) 1).setFld (F.RK_ENG_OP e) (rkOp j.words)).setFlag (F.RK_ENG_HOST e) host
  s.rkWait (if host then F.RK_WAIT_MAX_HOST_US else F.RK_WAIT_MAX_CELL_US) j.since

/-- The host job is running, or the cell shows that its job is taken. -/
def State.rkTold (s : State) (j : RkJob) : State :=
  match j.host, s.chan j.chan with
  | some h, _ => (match s.job h with
    | some x => s.setJob { x with st := if x.st = JobState.queued then .running else x.st }
    | none => s)
  | none, some ch => (match s.cellAddr ch with
    | some a => s.cellDone a 2 0 0 0
    | none => s)
  | none, none => s

theorem State.rkTold_shows (s : State) (j : RkJob) : (s.rkTold j).regs = s.regs ∧ (s.rkTold j).rk = s.rk := by
  unfold State.rkTold
  split
  · split <;> exact ⟨rfl, rfl⟩
  · split
    · exact ⟨State.setBytes_regs _ _ _, (State.cellDone_fr _ _ _ _ _ _ (.refl _)).rk rfl⟩
    · exact ⟨rfl, rfl⟩
  · exact ⟨rfl, rfl⟩

theorem execEngineTakeJob_eq {s : State} {e : Fin 4} {host : Bool} {j : RkJob} (hen : s.flag F.RK_CTRL_EN = true) (hst : s.fld (F.RK_ENG_STATE e) = 0)
    (htest : e.val ∉ s.rk.testing) (hnext : s.rkNext = some (host, j)) :
    let u := (s.rkTaken e host j).rkTold j
    Sys2Proof.Machine.exec (.engineTakeJob e) s = .next (if rkOp j.words = 2 ∧ j.skip = 0 ∧ j.second = false then
        (if (mfind u.rk.conts (rkAddr j.words 7)).isNone ∨ (Sys2Proof.Machine.slotOf (rkAddr j.words 7) = 0 ∧ bit (u.word (rkAddr j.words 7)) 0 = false) then
          u.rkEnd e j 6 0 0 0 0 false false
        else if Sys2Proof.Machine.slotOf (rkAddr j.words 7) = 0 then u.setWord (rkAddr j.words 7) (u.word (rkAddr j.words 7) - 1) else u)
      else if rkOp j.words = 2 ∧ Sys2Proof.Machine.slotOf (rkAddr j.words 7) = 0 ∧ bit (u.word (rkAddr j.words 7)) 0 then
        u.setWord (rkAddr j.words 7) (u.word (rkAddr j.words 7) - 1)
      else u) := by
  show Host.Outcome.next _ = _
  rw [if_neg (by rw [hen, hst]; simp [htest]), hnext]
  rfl

theorem State.rkTaken_shows (s : State) (e : Fin 4) (host : Bool) (j : RkJob) : (s.rkTaken e host j).fld (F.RK_ENG_STATE e) = 1
    ∧ (s.rkTaken e host j).fld (F.RK_ENG_OP e) = rkOp j.words % 2 ^ (F.RK_ENG_OP e).w ∧ (s.rkTaken e host j).fld (F.RK_ENG_HOST e) = b2n host := by
  have waits (u : State) : EngKept u (u.rkWait (if host then F.RK_WAIT_MAX_HOST_US else F.RK_WAIT_MAX_CELL_US) j.since) := by
    cases host <;> exact (EngKept.refl u).setFld _ rfl
  unfold State.rkTaken
  refine ⟨(waits _ _ (Fld.engStat_of F.RK_ENG_STATE (by decide) e)).trans ?_, (waits _ _ (Fld.engStat_of F.RK_ENG_OP (by decide) e)).trans ?_,
    (waits _ _ (Fld.engStat_of F.RK_ENG_HOST (by decide) e)).trans ?_⟩
  · rw [State.fld_setFlag_ne _ _ _ _ (eng_key_ne F.RK_ENG_HOST F.RK_ENG_STATE (by decide) e),
      State.fld_setFld_ne _ _ _ _ (eng_key_ne F.RK_ENG_OP F.RK_ENG_STATE (by decide) e), State.fld_setFld_same]
    rfl
  · rw [State.fld_setFlag_ne _ _ _ _ (eng_key_ne F.RK_ENG_HOST F.RK_ENG_OP (by decide) e), State.fld_setFld_same]
  · exact State.fld_setFlag_same _ _ _ Nat.one_pos

theorem engineTakeJob_results (s : State) (e : Fin 4) :
    (s.flag F.RK_CTRL_EN = false ∨ s.fld (F.RK_ENG_STATE e) ≠ 0 ∨ e.val ∈ s.rk.testing ∨ s.rkNext = none → Sys2Proof.Machine.exec (.engineTakeJob e) s = .next s)
    ∧ (∀ host j, s.flag F.RK_CTRL_EN = true → s.fld (F.RK_ENG_STATE e) = 0 → e.val ∉ s.rk.testing → s.rkNext = some (host, j) →
        (rkOp j.words ≠ 2 → ∃ t, Sys2Proof.Machine.exec (.engineTakeJob e) s = .next t ∧ t.fld (F.RK_ENG_STATE e) = 1
            ∧ t.fld (F.RK_ENG_OP e) = rkOp j.words % 2 ^ (F.RK_ENG_OP e).w ∧ t.fld (F.RK_ENG_HOST e) = b2n host ∧ t.engJob e = some j ∧ t.rk.lastHost = host
            ∧ t.rk.hostQ = (if host then s.rk.hostQ.erase j else s.rk.hostQ) ∧ t.rk.cellQ = (if host then s.rk.cellQ else s.rk.cellQ.erase j))
        ∧ (rkOp j.words = 2 → j.skip = 0 → j.second = false → mfind s.rk.conts (rkAddr j.words 7) = none →
            ∃ t, Sys2Proof.Machine.exec (.engineTakeJob e) s = .next t ∧ t.fld (F.RK_ENG_STATE e) = 0 ∧ t.engJob e = none)) := by
  refine ⟨fun h => ?_, fun host j hen hst htest hnext => ?_⟩
  · show Host.Outcome.next _ = _
    by_cases hstop : s.flag F.RK_CTRL_EN = false ∨ s.fld (F.RK_ENG_STATE e.val) ≠ 0 ∨ e.val ∈ s.rk.testing
    · rw [if_pos hstop]
    · have none : s.rkNext = none := by
        simp only [not_or] at hstop
        obtain ⟨hen, hst, htest⟩ := hstop
        rcases h with h | h | h | h
        · exact absurd h hen
        · exact absurd h hst
        · exact absurd h htest
        · exact h
      rw [if_neg hstop, none]
  · have heq := execEngineTakeJob_eq hen hst htest hnext
    dsimp only at heq
    obtain ⟨tregs, trk⟩ := (s.rkTaken e host j).rkTold_shows j
    obtain ⟨hstate, hop, hhost⟩ := s.rkTaken_shows e host j
    have taken : (s.rkTaken e host j).rk = { s.rk with
        hostQ := if host then s.rk.hostQ.erase j else s.rk.hostQ
        cellQ := if host then s.rk.cellQ else s.rk.cellQ.erase j
        eng := mput s.rk.eng e j
        lastHost := host } := rfl
    generalize s.rkTaken e host j = v at heq tregs trk hstate hop hhost taken
    generalize v.rkTold j = u at heq tregs trk
    have flds (g : Fld) : u.fld g = v.fld g := congrFun (State.fld_congr tregs) g
    rw [taken] at trk
    refine ⟨fun h2 => ⟨u, ?_, (flds _).trans hstate, (flds _).trans hop, (flds _).trans hhost, ?_, ?_, ?_, ?_⟩, fun h2 hskip hsecond hcont =>
      ⟨u.rkEnd e j 6 0 0 0 0 false false, ?_, u.rkEnd_free e j 6 0 0 0 0 false false⟩⟩
    · rw [heq, if_neg fun h => h2 h.1, if_neg fun h => h2 h.1]
    · unfold State.engJob
      rw [trk]
      exact mfind_mput_same _ _ _
    · rw [trk]
    · rw [trk]
    · rw [trk]
    · rw [heq, if_pos ⟨h2, hskip, hsecond⟩, if_pos (.inl (by rw [trk]; exact Option.isNone_iff_eq_none.2 hcont))]

/-! ### Quarantine (R365, R366) -/

/-- An engine's quarantine before its state is shown: the engine is free, and the fault counted and reported. -/
def State.rkFault (s : State) (e : Nat) (inj : Bool) : State :=
  let s := s.engFree e
  let s := (s.setFld (F.RK_ENG_QUARANTINES e) (s.fld (F.RK_ENG_QUARANTINES e) + 1)).setFlag F.RK_EVENT_QUARANTINE true
  let code := 0x0100 + F.RK_EVENT_QUARANTINE.lo
  if inj then s.raiseInj .contained 0x08 e code e 0 0 else s.raise .contained 0x08 e code e 0 0

/-- The state of a quarantined or retired engine, and the warning when none is left. -/
def State.rkOut (s : State) (e q : Nat) : State :=
  let s := if q ≥ 4 then (s.setFld (F.RK_ENG_STATE e) 3).event F.RK_EVENT_RETIRED .warn e e 0 0 else s.setFld (F.RK_ENG_STATE e) 2
  if (List.range 4).all (fun k => decide (2 ≤ s.fld (F.RK_ENG_STATE k))) then s.raise .warn 0x08 0 0x0181 0 0 0 else s

theorem State.quarantine_eq (s : State) (e : Nat) (inj : Bool) :
    s.quarantine e inj = (s.rkFault e inj).rkOut e ((s.engFree e).fld (F.RK_ENG_QUARANTINES e) + 1) := rfl

theorem State.rkFault_shows (s : State) (e : Fin 4) (inj : Bool) : (s.rkFault e inj).fld F.RK_EVENT_QUARANTINE = 1
    ∧ (s.rkFault e inj).fld (F.RK_ENG_QUARANTINES e) = (s.fld (F.RK_ENG_QUARANTINES e) + 1) % 2 ^ (F.RK_ENG_QUARANTINES e).w
    ∧ (s.rkFault e inj).rk = (s.engFree e).rk := by
  have raised (u : State) {g : Fld} (hg : outRl g = true) (code : Nat) :
      (if inj then u.raiseInj .contained 0x08 e code e 0 0 else u.raise .contained 0x08 e code e 0 0).fld g = u.fld g :=
    State.fld_ite (State.fld_raiseR _ _ _ hg (.inl rfl)) (State.fld_raise _ _ _ _ _ _ _ _ _ hg (.inl rfl))
  unfold State.rkFault
  dsimp only
  refine ⟨(raised _ rfl _).trans (State.fld_setFlag_same _ _ _ Nat.one_pos), (raised _ (EngKept.outRl (Fld.engStat_of F.RK_ENG_QUARANTINES (by decide) e)) _).trans ?_, ?_⟩
  · rw [State.fld_setFlag_ne _ _ _ _ (eng_key_ne (fun _ => F.RK_EVENT_QUARANTINE) F.RK_ENG_QUARANTINES (by decide) e), State.fld_setFld_same,
      (s.engFree_shows e).2.2.2]
  · split
    · exact (State.raiseInj_fr _ _ _ _ _ _ _ _ (.refl _)).rk rfl
    · exact (State.raise_fr _ _ _ _ _ _ _ _ (.refl _)).rk rfl

theorem State.rkOut_shows (s : State) (e : Fin 4) (q : Nat) : (s.rkOut e q).fld (F.RK_ENG_STATE e) = (if 4 ≤ q then 3 else 2)
    ∧ (∀ g : Fld, g.engStat = true → (F.RK_ENG_STATE e).key ≠ g.key → (s.rkOut e q).fld g = s.fld g) ∧ (s.rkOut e q).rk = s.rk := by
  have shown : (if q ≥ 4 then (s.setFld (F.RK_ENG_STATE e) 3).event F.RK_EVENT_RETIRED .warn e e 0 0 else s.setFld (F.RK_ENG_STATE e) 2).fld (F.RK_ENG_STATE e)
      = (if 4 ≤ q then 3 else 2) := by
    split
    · rw [State.fld_event_ne _ _ _ _ _ _ _ _ (EngKept.outRl (Fld.engStat_of F.RK_ENG_STATE (by decide) e)) (by decide)
        (eng_key_ne (fun _ => F.RK_EVENT_RETIRED) F.RK_ENG_STATE (by decide) e), State.fld_setFld_same]
      rfl
    · rw [State.fld_setFld_same]
      rfl
  have kept (g : Fld) (hg : g.engStat = true) (hne : (F.RK_ENG_STATE e).key ≠ g.key) :
      (if q ≥ 4 then (s.setFld (F.RK_ENG_STATE e) 3).event F.RK_EVENT_RETIRED .warn e e 0 0 else s.setFld (F.RK_ENG_STATE e) 2).fld g = s.fld g := by
    refine State.fld_ite ((State.fld_event_ne _ _ _ _ _ _ _ _ (EngKept.outRl hg) (by decide) fun hk => ?_).trans (State.fld_setFld_ne _ _ _ _ hne))
      (State.fld_setFld_ne _ _ _ _ hne)
    rw [Fld.engStat_iff, ← hk] at hg
    exact absurd hg (by decide)
  have hrk : (if q ≥ 4 then (s.setFld (F.RK_ENG_STATE e) 3).event F.RK_EVENT_RETIRED .warn e e 0 0 else s.setFld (F.RK_ENG_STATE e) 2).rk = s.rk := by
    split
    · exact (State.event_fr _ _ _ _ _ _ _ (.refl _)).rk rfl
    · rfl
  unfold State.rkOut
  dsimp only
  generalize (if q ≥ 4 then (s.setFld (F.RK_ENG_STATE e) 3).event F.RK_EVENT_RETIRED .warn e e 0 0 else s.setFld (F.RK_ENG_STATE e) 2) = u at shown kept hrk ⊢
  split
  · exact ⟨(State.fld_raise _ _ _ _ _ _ _ _ _ (EngKept.outRl (Fld.engStat_of F.RK_ENG_STATE (by decide) e)) (.inl rfl)).trans shown,
      fun g hg hne => (State.fld_raise _ _ _ _ _ _ _ _ _ (EngKept.outRl hg) (.inl rfl)).trans (kept g hg hne),
      ((State.raise_fr _ _ _ _ _ _ _ _ (.refl _)).rk rfl).trans hrk⟩
  · exact ⟨shown, kept, hrk⟩

/-- An engine is quarantined: its state and its count show it, the event is set, and it has no job. -/
structure Quarantined (s t : State) (e : Fin 4) : Prop where
  state : t.fld (F.RK_ENG_STATE e) = (if 4 ≤ s.fld (F.RK_ENG_QUARANTINES e) + 1 then 3 else 2)
  event : t.fld F.RK_EVENT_QUARANTINE = 1
  count : t.fld (F.RK_ENG_QUARANTINES e) = (s.fld (F.RK_ENG_QUARANTINES e) + 1) % 2 ^ (F.RK_ENG_QUARANTINES e).w
  job : t.engJob e = none

theorem State.quarantine_shows (s : State) (e : Fin 4) (inj : Bool) : Quarantined s (s.quarantine e inj) e := by
  obtain ⟨fevent, fcount, frk⟩ := s.rkFault_shows e inj
  obtain ⟨hstate, hkept, hrk⟩ := (s.rkFault e inj).rkOut_shows e ((s.engFree e).fld (F.RK_ENG_QUARANTINES e) + 1)
  obtain ⟨-, hjob, -, hq⟩ := s.engFree_shows e
  rw [State.quarantine_eq]
  refine ⟨hstate.trans (by rw [hq]), (hkept _ rfl (eng_key_ne F.RK_ENG_STATE (fun _ => F.RK_EVENT_QUARANTINE) (by decide) e)).trans fevent,
    (hkept _ (Fld.engStat_of F.RK_ENG_QUARANTINES (by decide) e) (eng_key_ne F.RK_ENG_STATE F.RK_ENG_QUARANTINES (by decide) e)).trans fcount, ?_⟩
  unfold State.engJob at hjob ⊢
  rw [hrk, frk]
  exact hjob

theorem Quarantined.of_kept {s t u : State} {e : Fin 4} (h : Quarantined s t e) (hk : EngKept t u) (heng : u.rk.eng = t.rk.eng) : Quarantined s u e := by
  obtain ⟨hstate, hevent, hcount, hjob⟩ := h
  refine ⟨(hk _ (Fld.engStat_of F.RK_ENG_STATE (by decide) e)).trans hstate, (hk _ rfl).trans hevent,
    (hk _ (Fld.engStat_of F.RK_ENG_QUARANTINES (by decide) e)).trans hcount, ?_⟩
  unfold State.engJob at hjob ⊢
  rw [heng]
  exact hjob

/-- The job of a failed run waits at the head of its queue for another engine. -/
def State.rkAgain (s : State) (j : RkJob) : State :=
  let j' := { j with second := true, since := s.elapsed }
  match j.host with
  | some h =>
    let s : State := { s with rk := { s.rk with hostQ := j' :: s.rk.hostQ } }
    (match s.job h with
     | some x => s.setJob { x with st := if x.st = JobState.running then .queued else x.st }
     | none => s).rkMark
  | none =>
    let s : State := { s with rk := { s.rk with cellQ := j' :: s.rk.cellQ } }
    (match s.chan j.chan with
     | some c => (match s.cellAddr c with
       | some a => s.cellDone a 1 0 0 0
       | none => s)
     | none => s).rkMark

/-- The job of a failed run ends with FAULT, and its engine stays out of service. -/
def State.rkGivenUp (s : State) (e : Nat) (j : RkJob) (mismatch : Bool) : State :=
  ((s.incS F.RK_REPLAY_CNT_FAILS 1).rkEnd e { j with second := j.second } 9 (if mismatch then 0x41 else 0x42) 0 0 0 false false).setFld (F.RK_ENG_STATE e)
    (s.fld (F.RK_ENG_STATE e))

theorem State.rkFail_eq {s : State} {e : Nat} {j : RkJob} (hj : s.engJob e = some j) (mismatch inj : Bool) : s.rkFail e mismatch inj
    = if rkRetry j.words ∧ j.second = false ∧ ((List.range 4).any fun k => decide ((s.quarantine e inj).fld (F.RK_ENG_STATE k) < 2)) then
        (s.quarantine e inj).rkAgain j
      else (s.quarantine e inj).rkGivenUp e j mismatch := by
  unfold State.rkFail
  rw [hj]
  rfl

theorem State.rkAgain_shows (s : State) (j : RkJob) : EngKept s (s.rkAgain j) ∧ (s.rkAgain j).rk.eng = s.rk.eng := by
  have marked {u : State} (hregs : u.regs = s.regs) (heng : u.rk.eng = s.rk.eng) : EngKept s u.rkMark ∧ u.rkMark.rk.eng = s.rk.eng :=
    ⟨(EngKept.of_regs hregs).rkMark, heng⟩
  unfold State.rkAgain
  dsimp only
  split
  · split <;> exact marked rfl rfl
  · split
    · split
      · refine marked (State.setBytes_regs _ _ _) ((congrArg Rucksack.eng ((State.cellDone_fr _ _ _ _ _ _ (.refl _)).rk rfl)).trans ?_)
        rfl
      · exact marked rfl rfl
    · exact marked rfl rfl

theorem State.rkGivenUp_shows {s t : State} {e : Fin 4} (h : Quarantined s t e) (j : RkJob) (mismatch : Bool) : Quarantined s (t.rkGivenUp e j mismatch) e := by
  obtain ⟨hstate, hevent, hcount, hjob⟩ := h
  unfold State.rkGivenUp
  have counted : EngKept t (t.incS F.RK_REPLAY_CNT_FAILS 1) := (EngKept.refl t).incS 1 rfl
  obtain ⟨hkept, -, -⟩ := (t.incS F.RK_REPLAY_CNT_FAILS 1).rkEnd_shows e { j with second := j.second } 9 (if mismatch then 0x41 else 0x42) 0 0 0 false false
  obtain ⟨-, hfree⟩ := (t.incS F.RK_REPLAY_CNT_FAILS 1).rkEnd_free e { j with second := j.second } 9 (if mismatch then 0x41 else 0x42) 0 0 0 false false
  generalize State.rkEnd (t.incS F.RK_REPLAY_CNT_FAILS 1) e { j with second := j.second } 9 (if mismatch then 0x41 else 0x42) 0 0 0 false false = v at hkept hfree ⊢
  have freed {g : Fld} (hg : g.engStat = true) (hs : (F.RK_ENG_STATE e).key ≠ g.key) (ho : (F.RK_ENG_OP e).key ≠ g.key) (hh : (F.RK_ENG_HOST e).key ≠ g.key) :
      (v.setFld (F.RK_ENG_STATE e) (t.fld (F.RK_ENG_STATE e))).fld g = t.fld g := by
    rw [State.fld_setFld_ne _ _ _ _ hs, hkept g hg]
    unfold State.engFree
    dsimp only
    rw [State.fld_setFlag_ne _ _ _ _ hh, State.fld_setFld_ne _ _ _ _ ho, State.fld_setFld_ne _ _ _ _ hs]
    exact counted g hg
  refine ⟨?_, ?_, ?_, hfree⟩
  · rw [State.fld_setFld_same, hstate]
    split <;> rfl
  · exact (freed rfl (eng_key_ne F.RK_ENG_STATE (fun _ => F.RK_EVENT_QUARANTINE) (by decide) e) (eng_key_ne F.RK_ENG_OP (fun _ => F.RK_EVENT_QUARANTINE) (by decide) e)
      (eng_key_ne F.RK_ENG_HOST (fun _ => F.RK_EVENT_QUARANTINE) (by decide) e)).trans hevent
  · exact (freed (Fld.engStat_of F.RK_ENG_QUARANTINES (by decide) e) (eng_key_ne F.RK_ENG_STATE F.RK_ENG_QUARANTINES (by decide) e)
      (eng_key_ne F.RK_ENG_OP F.RK_ENG_QUARANTINES (by decide) e) (eng_key_ne F.RK_ENG_HOST F.RK_ENG_QUARANTINES (by decide) e)).trans hcount

theorem quarantine_results {s : State} {e : Fin 4} {j : RkJob} (mismatch : Bool) (hj : s.engJob e = some j) (hserves : ¬(mismatch = true ∧ rkOp j.words = 1)) :
    ∃ t, Sys2Proof.Machine.exec (.quarantine e mismatch) s = .next t ∧ Quarantined s t e := by
  have quarantined := s.quarantine_shows e false
  refine ⟨s.rkFail e mismatch false, ?_, ?_⟩
  · show Host.Outcome.next _ = _
    rw [hj]
    exact congrArg Host.Outcome.next (if_neg hserves)
  · rw [State.rkFail_eq hj]
    generalize s.quarantine e false = u at quarantined ⊢
    split
    · obtain ⟨hkept, heng⟩ := u.rkAgain_shows j
      exact quarantined.of_kept hkept heng
    · exact State.rkGivenUp_shows quarantined j mismatch

/-! ### Back to service, and injection (R366, R367) -/

theorem engineSelftestEnd_results {s : State} {e : Fin 4} (h : e.val ∈ s.rk.testing) :
    (∃ t, Sys2Proof.Machine.exec (.engineSelftestEnd e true) s = .next t ∧ t.fld (F.RK_ENG_STATE e) = 0 ∧ t.fld F.RK_EVENT_RELEASED = 1
      ∧ t.rk.testing = s.rk.testing.erase e.val)
    ∧ ∃ t, Sys2Proof.Machine.exec (.engineSelftestEnd e false) s = .next t ∧ t.fld (F.RK_ENG_STATE e) = s.fld (F.RK_ENG_STATE e)
      ∧ t.rk.testing = s.rk.testing.erase e.val := by
  have hrl : outRl (F.RK_ENG_STATE e) = true := EngKept.outRl (Fld.engStat_of F.RK_ENG_STATE (by decide) e)
  refine ⟨⟨_, congrArg Host.Outcome.next (if_pos h), ?_, State.fld_event_same _ _ _ _ _ _ _ rfl (by decide) (by decide), ?_⟩,
    ⟨_, congrArg Host.Outcome.next (if_pos h), State.fld_raise _ _ _ _ _ _ _ _ _ hrl (.inl rfl), ?_⟩⟩
  · exact (State.fld_event_ne _ _ _ _ _ _ _ _ hrl (by decide) (eng_key_ne (fun _ => F.RK_EVENT_RELEASED) F.RK_ENG_STATE (by decide) e)).trans
      (State.fld_setFld_same _ _ _)
  · exact congrArg Rucksack.testing ((State.event_fr _ _ _ _ _ _ _ (.refl _)).rk rfl)
  · exact congrArg Rucksack.testing ((State.raise_fr _ _ _ _ _ _ _ _ (.refl _)).rk rfl)

theorem rkTestInject_results (s : State) (v : BitVec 32) :
    (bits v.toNat 2 2 = 3 → Sys2Proof.Machine.exec (.rkTestInject v) s = .next ((s.setFld F.RK_TEST_ENGINE (v.toNat % 4)).reservedEncoding R.RK_TEST 2))
    ∧ (bits v.toNat 2 2 = 1 ∨ bits v.toNat 2 2 = 2 → s.fld (F.RK_ENG_STATE (v.toNat % 4)) < 2 → ∃ t, Sys2Proof.Machine.exec (.rkTestInject v) s = .next t
        ∧ t.fld F.RK_TEST_ENGINE = v.toNat % 4 ∧ t.rk = { s.rk with inject := mput s.rk.inject (v.toNat % 4) (bits v.toNat 2 2) } ∧ FldsBut [F.RK_TEST_ENGINE] s t) := by
  have state : (s.setFld F.RK_TEST_ENGINE (v.toNat % 4)).fld (F.RK_ENG_STATE (v.toNat % 4)) = s.fld (F.RK_ENG_STATE (v.toNat % 4)) :=
    State.fld_setFld_ne _ _ _ _ (by simp only [Fld.key, F.RK_TEST_ENGINE, F.RK_ENG_STATE, R.RK_TEST, R.RK_ENG]; omega)
  refine ⟨fun h3 => congrArg Host.Outcome.next (if_pos h3), fun hi hst => ⟨_, congrArg Host.Outcome.next ((if_neg ?_).trans (if_neg ?_)), ?_, rfl, fun g hg => ?_⟩⟩
  · omega
  · rw [state]
    omega
  · exact (State.fld_setFld_same _ _ _).trans (Nat.mod_eq_of_lt (Nat.mod_lt _ (by decide)))
  · exact State.fld_setFld_ne _ _ _ _ (hg _ (List.mem_singleton.2 rfl))

theorem rkHwmRestart_shows (s : State) : ∃ t, Sys2Proof.Machine.exec .rkHwmRestart s = .next t ∧ t.fld F.RK_QHWM_CELL_HWM = s.rk.cellQ.length % 2 ^ F.RK_QHWM_CELL_HWM.w
    ∧ t.fld F.RK_QHWM_HOST_HWM = s.rk.hostQ.length % 2 ^ F.RK_QHWM_HOST_HWM.w ∧ FldsBut [F.RK_QHWM_CELL_HWM, F.RK_QHWM_HOST_HWM] s t := by
  refine ⟨_, rfl, (State.fld_setFld_ne _ _ _ _ (by decide)).trans (State.fld_setFld_same _ _ _), State.fld_setFld_same _ _ _, fun g hg => ?_⟩
  obtain ⟨hcell, hhost⟩ := List.forall_mem_cons.1 hg
  exact (State.fld_setFld_ne _ _ _ _ (hhost _ (List.mem_singleton_self _))).trans (State.fld_setFld_ne _ _ _ _ hcell)

/-! ### HOST_SUSPEND (R368, R371) -/

/-- An engine stops after its output so far and leaves its state block. -/
def State.rkStop (s : State) (e : Nat) (j : RkJob) (out : List (Byte × Nat)) (c : RkCont) : State :=
  let s := s.rkWrite (rkAddr j.words 4 + j.skip) (out.map (·.1))
  let s := s.rkBytes e true out.length
  let s := s.rkSuspend (rkAddr j.words 7) c
  (s.engFree e).incS (F.RK_DCNT_COUNT 0xB) 1

theorem State.rkStop_shows (s : State) (e : Fin 4) (j : RkJob) (out : List (Byte × Nat)) (c : RkCont) : (s.rkStop e j out c).fld (F.RK_ENG_STATE e) = 0
    ∧ (s.rkStop e j out c).engJob e = none ∧ (s.rkStop e j out c).hi = s.hi ∧ mfind (s.rkStop e j out c).rk.conts (rkAddr j.words 7) = some c := by
  unfold State.rkStop
  dsimp only
  have whi : (s.rkWrite (rkAddr j.words 4 + j.skip) (out.map (·.1))).hi = s.hi := (State.rkWrite_fr _ _ _ (.refl _)).hi rfl
  generalize s.rkWrite (rkAddr j.words 4 + j.skip) (out.map (·.1)) = u at whi ⊢
  obtain ⟨-, -, bhi, -⟩ := u.rkBytes_shows e true out.length
  generalize u.rkBytes e true out.length = v at bhi ⊢
  have shi : (v.rkSuspend (rkAddr j.words 7) c).hi = v.hi := (State.rkSuspend_fr _ _ _ (.refl _)).hi rfl
  have conts : mfind (v.rkSuspend (rkAddr j.words 7) c).rk.conts (rkAddr j.words 7) = some c := by
    have stored : mfind ({ v with rk := { v.rk with conts := mput v.rk.conts (rkAddr j.words 7) c } } : State).rk.conts (rkAddr j.words 7) = some c :=
      mfind_mput_same _ _ _
    unfold State.rkSuspend
    dsimp only
    split
    · rw [(State.setWord_fr _ _ _ (.refl _)).rk rfl]
      exact stored
    · exact stored
  generalize v.rkSuspend (rkAddr j.words 7) c = w at shi conts ⊢
  obtain ⟨hstate, hjob, -, -⟩ := w.engFree_shows e
  have hrk : ((w.engFree e).incS (F.RK_DCNT_COUNT 0xB) 1).rk = (w.engFree e).rk := (State.incS_fr _ _ _ (.refl _)).rk rfl
  refine ⟨?_, ?_, ?_, ?_⟩
  · exact ((EngKept.refl (w.engFree e)).incS 1 (Fld.dcnt_engStat 0xB) _ (Fld.engStat_of F.RK_ENG_STATE (by decide) e)).trans hstate
  · unfold State.engJob at hjob ⊢
    rw [hrk]
    exact hjob
  · rw [State.incS_hi]
    exact shi.trans (bhi.trans whi)
  · rw [hrk]
    exact conts

theorem RegFr.suspended {B : Nat} {s t : State} (h : RegFr B s t) (hnd : Nat) (hB : partSub 0x44 B = true) : RegFr B s (t.suspended hnd) := by
  unfold State.suspended
  split
  · exact h
  · dsimp only
    refine .foldl (fun w o _ hw => hw.complete _ _ _ _ hB) (RegFr.jobProgress (h.trans (.of_regs ?_)) _ _ hB)
    rfl

theorem hostSuspend_results {s : State} {e : Fin 4} (n : BitVec 24) (input dict : List (BitVec 8)) {j : RkJob} {h : Nat} {x : Job} (hj : s.engJob e = some j)
    (hh : j.host = some h) (hx : s.job h = some x) (hst : x.st = .suspending) :
    let far : RkFar := ⟨input, dict, 0⟩
    let k := s.rkWork j far
    n.toNat < k.1.length → n.toNat < nth j.words 6 - j.skip → (s.rkReach j far).2 = 0 →
    ∃ t x', Sys2Proof.Machine.exec (.hostSuspend e n input dict) s = .next t ∧ t.fld (F.RK_ENG_STATE e) = 0 ∧ t.engJob e = none
      ∧ t.job h = some x' ∧ x'.st = .suspended ∧ mfind t.rk.conts (rkAddr j.words 7) = some ⟨k.2.2, k.1.drop n.toNat, k.2.1⟩ := by
  intro far k hlen hcap hreach
  obtain ⟨hstate, hfree, hhi, hconts⟩ := s.rkStop_shows e j (k.1.take n.toNat) ⟨k.2.2, k.1.drop n.toNat, k.2.1⟩
  have heq : Sys2Proof.Machine.exec (.hostSuspend e n input dict) s = .next ((match (s.rkStop e j (k.1.take n.toNat) ⟨k.2.2, k.1.drop n.toNat, k.2.1⟩).job h with
      | some x => (s.rkStop e j (k.1.take n.toNat) ⟨k.2.2, k.1.drop n.toNat, k.2.1⟩).setJob { x with work := j.words ++ [j.skip + (k.1.take n.toNat).length], left := .queued }
      | none => s.rkStop e j (k.1.take n.toNat) ⟨k.2.2, k.1.drop n.toNat, k.2.1⟩).suspended h) := by
    show Host.Outcome.next _ = _
    rw [hj]
    dsimp only
    rw [hh]
    dsimp only
    rw [hx]
    dsimp only
    rw [if_neg]
    · rfl
    · rw [hst]
      simp only [decide_true, Bool.true_eq_false, false_or, not_or, Nat.not_le, not_not]
      exact ⟨hlen, hcap, hreach⟩
  generalize s.rkStop e j (k.1.take n.toNat) ⟨k.2.2, k.1.drop n.toNat, k.2.1⟩ = u at heq hstate hfree hhi hconts
  have ux : u.job h = some x := (congrFun (State.job_congr (congrArg HostIf.jobs hhi)) h).trans hx
  obtain rfl := State.job_handle ux
  rw [ux] at heq
  dsimp only at heq
  have stored := State.job_setJob_same (j := { x with work := j.words ++ [j.skip + (k.1.take n.toNat).length], left := .queued }) ux
  generalize hv : u.setJob { x with work := j.words ++ [j.skip + (k.1.take n.toNat).length], left := .queued } = v at heq stored
  obtain ⟨t, ht⟩ := State.suspended_job stored
  have vrk : (v.suspended x.handle).rk = u.rk := ((State.suspended_fr _ _ (.refl _)).rk rfl).trans (hv ▸ rfl)
  have set : RegFr 0x44 u v := hv ▸ .of_regs rfl
  have vregs : RegFr 0x44 u (v.suspended x.handle) := set.suspended x.handle rfl
  refine ⟨v.suspended x.handle, _, heq, ?_, ?_, ht, rfl, ?_⟩
  · exact (EngKept.of_regFr vregs rfl _ (Fld.engStat_of F.RK_ENG_STATE (by decide) e)).trans hstate
  · unfold State.engJob at hfree ⊢
    rw [vrk]
    exact hfree
  · rw [vrk]
    exact hconts

/-- Settles O49: each operation of Rucksack by the lemma about it. -/
theorem rucksackResults : Obligations.RucksackResults := by
  unfold Obligations.RucksackResults
  intro s
  refine ⟨fun c hs hmask => rkJob_results hs hmask, fun e => ?_, fun v => rkTestInject_results s v, rkHwmRestart_shows s⟩
  obtain ⟨hstays, htakes⟩ := engineTakeJob_results s e
  refine ⟨hstays, htakes, fun j input dict fail hj hinj => rkJobEnd_shows input dict fail hj hinj, fun j mismatch hj hserves => ?_,
    fun hst htest => congrArg Host.Outcome.next (if_pos ⟨hst, htest⟩), fun h => engineSelftestEnd_results h,
    fun n input dict j h x hj hh hx hst => hostSuspend_results n input dict hj hh hx hst⟩
  obtain ⟨t, hexec, hstate, hevent, hcount, hjob⟩ := quarantine_results mismatch hj hserves
  exact ⟨t, hexec, hstate, hevent, hcount, hjob⟩

end Sys2Proof.Machine
end
